-- ==== Sys2Proof/Word.lean ====
section
/-! DEFINITION. The word types of the model, and the plainest things said of them: bytes, 32-bit register and core
words, and one bit of a natural number. -/

namespace Sys2Proof

/-- A byte of memory. -/
abbrev Byte := BitVec 8

/-- A 32-bit management-register word or core register (R12, R222). -/
abbrev Word := BitVec 32

/-- Bit `n` of `x`, numbered from the least significant (R11). -/
def bit (x n : Nat) : Nat := x / 2 ^ n % 2

/-- The field `[lo + w - 1 : lo]` of `x` (R11). -/
def bits (x lo w : Nat) : Nat := x / 2 ^ lo % 2 ^ w

end Sys2Proof
end

