-- ==== Sys2Proof/Machine/Data.lean ====
section
/-! DEFINITION. The plain data the chapters describe that is not a register: a fabric design, a black-box record, an
event-queue.  Each type names the rules it follows. -/

namespace Sys2Proof.Machine

/-- A table by key, unlisted keys holding a default; the operations of Ops.lean keep the keys rising and the default
unlisted. -/
abbrev Tab (α : Type) := List (Nat × α)

/-- Where a fabric input comes from, as the routing of the image in the plane joins it (R70 to R79). -/
inductive Src where
  | const (b : Bool)
  /-- Flip-flop `ff` (0 = A, 1 = B) of a cell of the region. -/
  | q (cell ff : Nat)
  /-- Combinational output OL (0) or OH (1), or S0 (2) or S1 (3) of a cell of the region (R42, R43). -/
  | o (cell out : Nat)
  /-- Bit `n` of P of a product block of the region, 60 for OVF. -/
  | p (blk n : Nat)
  /-- A signal from outside the cells: a bank output, a landing register, a pad, an endpoint. -/
  | ext (n : Nat)
  deriving DecidableEq, Repr

/-- Configuration of one cell (R42 to R46, R48, R52): LUT mode (0 WHOLE, 1 SPLIT, 2 CARRY), mask, D selects, clock
network, SR polarity, mode and targets, initial values, carry source and the sources of its inputs A1 to A6, X0, X1, CE
and SR.  [DESIGN CHOICE 7: notes/assumptions] -/
structure CellCfg where
  mode : Nat := 0
  init : Nat := 0
  dselA : Nat := 0
  dselB : Nat := 0
  net : Nat := 0
  srHigh : Bool := true
  srAsync : Bool := false
  srvalA : Bool := false
  srvalB : Bool := false
  initA : Bool := false
  initB : Bool := false
  cimode : Nat := 0
  a : List Src := []
  x0 : Src := .const false
  x1 : Src := .const false
  ce : Src := .const true
  sr : Src := .const false
  deriving DecidableEq, Repr

/-- Contents of the pipeline registers of one product block (R58 to R60).  `b2`, `c2` and `c3` are B and C held to meet the
product formed from the same cycle's operands.  [DEDUCED 14: notes/assumptions] -/
structure ProdSt where
  a : Nat := 0
  b : Nat := 0
  c : Nat := 0
  d : Nat := 0
  ad : Nat := 0
  b2 : Nat := 0
  m : Int := 0
  mHi : Int := 0
  c2 : Nat := 0
  c3 : Nat := 0
  op : Nat := 0
  p : Nat := 0
  ovf : Bool := false
  deriving DecidableEq, Repr

/-- Configuration of one product block (R54 to R60): multiplier mode (0 FULL, 1 DOT, 2 PAIR), signedness, pre-adder
(0 off, 1 A+D, 2 A−D, 3 D−A), operation, registers in use, clock network, initial values of the registers and input sources, low bit
first.  [DESIGN CHOICE 7: notes/assumptions] -/
structure ProdCfg where
  mode : Nat := 0
  signA : Bool := false
  signB : Bool := false
  pre : Nat := 0
  dynOp : Bool := false
  op : Nat := 0
  sat : Bool := false
  ireg : Bool := true
  adreg : Bool := true
  mreg : Bool := true
  preg : Bool := true
  net : Nat := 0
  init : ProdSt := {}
  a : List Src := []
  b : List Src := []
  c : List Src := []
  d : List Src := []
  opIn : List Src := []
  /-- Clock enables of IREG, ADREG, MREG and PREG. -/
  ce : List Src := []
  rst : Src := .const false
  deriving DecidableEq, Repr

/-- Configuration of a pin of general I/O (R420): output and output-enable sources, registers in use and their network.  [DESIGN CHOICE 7: notes/assumptions] -/
structure PinCfg where
  out : Src := .const false
  oe : Src := .const false
  oreg : Bool := false
  oereg : Bool := false
  ireg : Bool := false
  net : Nat := 0
  deriving DecidableEq, Repr

/-- The design in one plane of one region, with the pins of its bank whose I/O cells lie in it.  [DESIGN CHOICE 7: notes/assumptions] -/
structure Design where
  cells : Tab CellCfg := []
  pins : Tab PinCfg := []
  /-- Registered drop ports and the die global clock of each (SPREG, SPCLK; R81). -/
  spines : Tab Nat := []
  /-- Express net that a registered drop port lies on, as its channel plus one (R94). -/
  spineNet : Tab Nat := []
  prods : Tab ProdCfg := []
  deriving DecidableEq, Repr

/-- A hardware event queue read through an RP register (R16): entries oldest first, each with the word a pop loads into
the block's second register, and whether an entry has been lost since the newest one. -/
structure EvQueue where
  entries : List (Nat × Nat) := []
  lost : Bool := false
  deriving DecidableEq, Repr

/-- A black-box record (R582); the payload is eight little-endian words, of which those absent are 0. -/
structure Record where
  time : Nat := 0
  seq : Nat := 0
  code : Nat := 0
  source : Nat := 255
  sev : Nat := 0
  mode : Nat := 0
  tb : Bool := false
  late : Bool := false
  temp : Nat := 0
  holdup : Nat := 0
  start : Nat := 0
  payload : List Nat := []
  deriving DecidableEq, Repr

/-- An access that a fabric port presents to a bank at an edge (R99). -/
structure PortIn where
  en : Bool := false
  we : Bool := false
  addr : Nat := 0
  din : Nat := 0
  be : Nat := 0xFF
  deriving DecidableEq, Repr

/-- A master that writes or reads registers (R515, R541): the host, the side-band master, the debug probe, or the Last's
own firmware and fabric through the register mirror (R157). -/
inductive Master where
  | host | sideband | debug | mirror
  deriving DecidableEq, Repr

/-- One entry of the stepping table of Last firmware (R27, R29). -/
structure SupEntry where
  gen : Nat
  stepMin : Nat
  stepMax : Nat
  proto : Nat
  feat : Nat
  deriving DecidableEq, Repr

/-- What the Last holds of a fabric die outside its registers: rails, the answer to the probe (R32), the die's regulator
and its trim data. -/
structure Die where
  rails : Bool := false
  answered : Bool := false
  ident : Nat := 0
  capw : Nat := 0
  /-- The regulator bus link carries telemetry (R501). -/
  link : Bool := true
  /-- The core rail lies within ±30 mV of its setpoint (R447). -/
  railOk : Bool := true
  /-- The die was faulted under R596 and the sensor readings decide its acknowledgment (R469 check 8). -/
  hot : Bool := false
  /-- Always-on elapsed time of a wipe, which the die confirms within 5.00 µs (R118). -/
  wiping : Option Nat := none
  /-- Timing gear of the image (R80). -/
  timingGear : Nat := 4
  /-- The image in the active plane uses the die (R38, R39). -/
  used : Bool := false
  /-- GIO_PCFG words of the plane that is not active (R68, R422), by pin. -/
  pcfgShadow : Tab Nat := []
  deriving DecidableEq, Repr

/-- A region's fabric: the designs of its two planes, which plane is active, and the contents of its flip-flops, product
blocks, spine registers and capture latches (R40 to R63, R81). -/
structure Region where
  plane : Nat := 0
  design0 : Design := {}
  design1 : Design := {}
  /-- Flip-flops of a cell, QA in bit 0 and QB in bit 1. -/
  ff : Tab Nat := []
  /-- Rising edges for which a released asynchronous SR still holds a cell (R45). -/
  rel : Tab Nat := []
  prod : Tab ProdSt := []
  spine : Tab Nat := []
  latchFf : Tab Nat := []
  latchProd : Tab ProdSt := []
  latchValid : Bool := false
  /-- Idle cycles counted by each regional network in DEMAND (R66). -/
  idle : Tab Nat := []
  /-- The wake timer is counting (R67). -/
  wakeTimerOn : Bool := false
  /-- Successive trim windows within ±1.0 % (R91) and at a limit of the code (R93). -/
  trimIn : Nat := 0
  trimLim : Nat := 0
  /-- A detach of the region has begun its QUIESCE step (R197). -/
  quiescing : Bool := false
  /-- Its Welt endpoints are disabled by its frames, or by a detach (R48, R153, R337). -/
  epOff : Bool := false
  /-- RCLK values of the plane that is not active (R68), by network. -/
  rclkShadow : Tab Nat := []
  deriving DecidableEq, Repr

/-- A narrow write between its two edges (R102): physical port, word, byte mask, data, and whether the word was
uncorrectable. -/
structure Rmw where
  port : Nat
  word : Nat
  mask : Nat
  data : Nat
  bad : Bool
  deriving DecidableEq, Repr

/-- A bank outside its registers (R97 to R117). -/
structure Bank where
  /-- Stored-word health by physical word, 1,024 to 1,027 being the spares: 1 single-bit error, 2 uncorrectable. -/
  marks : Tab Nat := []
  psleep : Bool := false
  widthA : Nat := 64
  widthB : Nat := 64
  oregA : Bool := false
  oregB : Bool := false
  net : Nat := 0
  rmw : List Rmw := []
  doutA : Nat := 0
  errA : Nat := 0
  waitA : Bool := false
  doutB : Nat := 0
  errB : Nat := 0
  waitB : Bool := false
  /-- Read data due at the next edge of a port, with its error flags, and behind OREG; without data the port's DOUT stays. -/
  dueA : Option (Option Nat × Nat) := none
  dueB : Option (Option Nat × Nat) := none
  due2A : Option (Option Nat × Nat) := none
  due2B : Option (Option Nat × Nat) := none
  sealed : Bool := false
  /-- A remap requested for a word and not yet made (R110), with the edges it has waited. -/
  remapReq : Option (Nat × Nat) := none
  /-- The Cobbler waits for an edge, and for how many it has waited (R107). -/
  cobWait : Option Nat := none
  /-- The bank Welt port waits for an edge. -/
  weltWait : Option Nat := none
  scrubWake : Bool := false
  deriving DecidableEq, Repr

/-- The mode machine outside GLB_MODE (R455 to R472). -/
structure Modes where
  /-- Request in progress: its REQ value. -/
  req : Option Nat := none
  /-- The request came from an automatic resume (R453). -/
  auto : Bool := false
  /-- A REQ 1 held until the main output is in regulation and NVINH clear (R456). -/
  held : Bool := false
  /-- Waiting for trim lock after the RUN checks (R463 step 2). -/
  lockWait : Bool := false
  th : Option Nat := none
  /-- Statuses recorded since the entry to SAFE (R469 check 2, R453). -/
  causes : List Nat := []
  /-- Mode from which SAFE was entered. -/
  safeFrom : Nat := 0
  /-- SHF_STAT.STATE was IDLE at the entry (R453). -/
  shfIdleAtSafe : Bool := true
  /-- Eyelets that entered SAFE under R142 and are retrained by the acknowledgment (R469 step 1). -/
  safeEyelets : List Nat := []
  /-- The safe net is asserted (R449). -/
  safeNet : Bool := true
  /-- Times of the automatic resumes, in always-on elapsed ns (R453). -/
  resumes : List Nat := []
  /-- Always-on elapsed time at which READY became 1. -/
  readySince : Option Nat := none
  /-- Crossings whose reset-isolation gate is clamped: KIND, die, unit (R478). -/
  clamped : List (Nat × Nat × Nat) := []
  deriving DecidableEq, Repr

/-- Clock start, stability windows and the module timebase (R430 to R437, R451, R452). -/
structure Clocks where
  /-- Source of the clock start in progress and the windows run. -/
  start : Option (Nat × Nat) := none
  /-- A stability window has passed and the Last PLLs are locking. -/
  locking : Bool := false
  /-- The start waits for Last firmware (R460). -/
  xoEn : Bool := false
  passed : Nat := 0
  tb : Nat := 0
  tbRun : Bool := false
  /-- The real-time clock in ns (R436): CLK_RTCSEC, CLK_RTCSECH.SECH and SUB show it. -/
  rtc : Nat := 0
  /-- Elapsed ns of the always-on crystal, which no setting of the RTC moves (R453). -/
  elapsed : Nat := 0
  /-- Last firmware runs (R460), and a stability window is running (R432). -/
  fw : Bool := false
  win : Bool := false
  /-- The source of the reference is present (R448, R451). -/
  refOk : Bool := true
  deriving DecidableEq, Repr

/-- A gear change of one group (R443 to R447). -/
structure GearChg where
  /-- 0 IDLE, 1 waiting for the rail, 2 waiting for trim lock, 3 waiting for the switch count, 4 lowering: waiting for
  the switch count, 5 lowering: waiting for rail and relock. -/
  step : Nat := 0
  from_ : Nat := 0
  to_ : Nat := 0
  /-- Express count of the group. -/
  count : Nat := 0
  /-- Latest target taken while a change runs (R445). -/
  later : Option Nat := none
  deriving DecidableEq, Repr

/-- The supply outside the PWR block (R491 to R503): monitored rails outside their band, as rail × 16 + die (0 Welt, 1 I/O auxiliary, 2 Last
core, 3 DRAM VDD and VDDQ, 4 DRAM VPP), why the power-factor stage stands (1 temperature, 2 overload), and a start in
progress. -/
structure Power where
  bad : List Nat := []
  stopped : Nat := 0
  starting : Bool := false
  /-- The auto-boot decision of this supply start has not been taken (R459). -/
  bootDue : Bool := false
  /-- H of the last test lies below 3.0 ms (R493), and the main output went off at this always-on elapsed time (R498). -/
  under : Bool := false
  /-- Always-on elapsed time of the last coin-cell measurement. -/
  battAt : Nat := 0
  offAt : Option Nat := none
  deriving DecidableEq, Repr

/-- The side band outside the SBP block (R506 to R520): settings by offset that differ from their defaults, the time of a change of rate that no
valid frame has confirmed, the stop of R464 that a lapse asks for and that waits for the changeover, and the times of the last valid heartbeat and
of the last valid frame; times are always-on elapsed. -/
structure Sideband where
  nvs : Tab Nat := []
  proving : Option Nat := none
  stopWait : Bool := false
  hbAt : Option Nat := none
  frameAt : Nat := 0
  deriving DecidableEq, Repr

/-- Secrets and fuses outside the SEC block (R526, R527, R533): stored keys by number, fused tamper enables and actions (EN, ZERO, SAFE), and
an erase of the key store that waits (R532). -/
structure Secur where
  keys : Tab Nat := []
  fuseEn : Nat := 0x1F
  fuseZero : Nat := 0
  fuseSafe : Nat := 0
  eraseWait : Bool := false
  /-- Always-on elapsed time at which the cell service window opened (R534). -/
  winAt : Nat := 0
  deriving DecidableEq, Repr

/-- The debug domain outside the DBG block (R536 to R560): DONE, STATUS and DATA of the latest window operation, DROP, comparator hits by
core × 4 + comparator, the monitor entry that waits by core (cause, comparator × 8, and 32 once a LOCK window has deferred it), cores whose watchdog
a session holds, capture triggers on their way, the end of the TRIGOUT pulse in always-on elapsed time, and the regions of a triggered capture. -/
structure Dbg where
  done : Bool := true
  status : Nat := 0
  data : Nat := 0
  drop : Bool := false
  hits : Tab Nat := []
  pend : Tab Nat := []
  wdHeld : List Nat := []
  trig : Nat := 0
  trigOut : Nat := 0
  capRegs : List (Nat × Nat) := []
  deriving DecidableEq, Repr

/-- One copy of a component (R562, R563): version, compat level, requirements by component, and for Last firmware its stepping table. -/
structure CompCopy where
  version : Nat := 0
  compat : Nat := 0
  req : Tab Nat := []
  valid : Bool := true
  table : List SupEntry := []
  deriving DecidableEq, Repr

/-- A package as the update reads it (R564): what its header, signature and digests come to, and its entries.  [DESIGN CHOICE 8: notes/assumptions] -/
structure Pkg where
  formatOk : Bool := true
  size : Nat := 0
  recovery : Bool := false
  downgrade : Bool := false
  id : Nat := 0
  sigSlot : Nat := 0
  keyHash : Nat := 0
  sigOk : Bool := true
  digestsOk : Bool := true
  comps : Tab CompCopy := []
  deriving DecidableEq, Repr

/-- Field update outside the UPD block (R562 to R578): copies of each component, the package in the staging area and the one in the
package area, the components switched by this update, in order, the activation clock, steps begun in this run, whether the step due has held, the state before ARMED, the bank of Last
firmware that the boot record names, whether it is TRIAL, and whether a revert is automatic. -/
structure Upd where
  active : Tab CompCopy := []
  prev : Tab CompCopy := []
  pkg : Option Pkg := none
  taken : List Nat := []
  clock : Nat := 0
  t : Nat := 0
  run : Nat := 0
  held : Bool := false
  wasSusp : Bool := false
  bank : Nat := 0
  trial : Bool := false
  auto : Bool := false
  /-- Always-on elapsed times since which the step due holds, and since which the trial runs. -/
  heldAt : Nat := 0
  trialAt : Nat := 0
  /-- A start has fallen back from a TRIAL bank (R577). -/
  fell : Bool := false
  deriving DecidableEq, Repr

/-- Rate limit of one CODE and SOURCE in the present second (R585). -/
structure RateCnt where
  code : Nat
  source : Nat
  made : Nat
  held : Nat
  deriving DecidableEq, Repr

/-- The black box: pending area of the always-on SRAM and ring of the embedded flash (R581 to R589). -/
structure BlackBox where
  seq : Nat := 0
  /-- Module starts since the always-on reset (R582, START). -/
  start : Nat := 0
  pend : List Record := []
  rate : List RateCnt := []
  lost : Nat := 0
  /-- Records of the ring by place (sector × 64 + index), each with whether its CRC is right. -/
  ring : Tab (Record × Bool) := []
  place : Nat := 0
  skipped : List Nat := []
  deriving DecidableEq, Repr

/-- One lane group of one direction of an Eyelet (R126 to R147). -/
structure EyeGroup where
  /-- Lanes that are failing and wait for a repair, in order of detection (R144). -/
  failing : List Nat := []
  /-- Lanes marked failed, spares included (R133, R138). -/
  failed : List Nat := []
  /-- Lanes retired (R140). -/
  retired : List Nat := []
  /-- Lane replaced by a spare 84 to 87 or by a reserve. -/
  subst : Tab (Option Nat) := []
  /-- Corrected symbols of a lane in its window (R132). -/
  corr : Tab Nat := []
  /-- Reserve lanes that the image names, in order (R84). -/
  reserves : List Nat := []
  /-- Data lanes whose signals the image marks tolerant, one and all (R137). -/
  tolerant : List Nat := []
  /-- A reserve move (some reserve) or a retirement (none) scheduled for a swap point: lane, target, time T (R139, R140). -/
  swap : Option (Nat × Option Nat × Nat) := none
  half : Bool := false
  /-- Lace frame at whose boundary group 0 drops to half width (R141). -/
  halfAt : Option Nat := none
  deriving DecidableEq, Repr

/-- Express routing of one plane (R86, R87, R129): for a launch register, the landing register that passes through to it, and
for a launch register of the Last, its 17-bit cross-connect code. -/
structure XCfg where
  pass : Tab Nat := []
  xc : Tab Nat := []
  deriving DecidableEq, Repr

/-- Express channels (R81 to R88): registers by channel, (Eyelet × 2 + direction) × 4,800 + signal; a channel not listed
holds 0. -/
structure Express where
  launch : Tab Nat := []
  fly : Tab Nat := []
  land : Tab Nat := []
  cfg0 : XCfg := {}
  cfg1 : XCfg := {}
  plane : Nat := 0
  deriving DecidableEq, Repr

/-- One unit of a Welt packet that carries payload: first and last valid byte, and the 64 payload bytes as a number (R158). -/
structure WUnit where
  first : Nat := 0
  last : Nat := 63
  data : Nat := 0
  deriving DecidableEq, Repr

/-- A Welt request as an endpoint presents it (R158, R159): `uidx`, `bfirst` and `blast` are the header's flags, which an RD
interprets as R161 says; `units` are its units with payload, each with its own flags. -/
structure Req where
  src : Nat := 0
  op : Nat := 0
  dst : Nat := 0
  addr : Nat := 0
  cls : Nat := 1
  tag : Nat := 0
  len : Nat := 0
  flow : Nat := 0
  uidx : Nat := 0
  bfirst : Nat := 0
  blast : Nat := 63
  epoch : Nat := 0
  units : List WUnit := []
  deriving DecidableEq, Repr

/-- A tag in use at the injecting port of `src` (R163). -/
structure Outst where
  src : Nat
  tag : Nat
  op : Nat
  dst : Nat
  addr : Nat
  deriving DecidableEq, Repr

/-- A response on its way to the initiator `to_` (R161): its op, status (of an ERR), data bytes as a number and len. -/
structure Resp where
  to_ : Nat
  src : Nat
  tag : Nat
  op : Nat
  st : Nat := 0
  data : Nat := 0
  len : Nat := 0
  epoch : Nat := 0
  deriving DecidableEq, Repr

/-- A request completed at its initiator: by its response, or locally (R162 to R164, R175). -/
structure Comp where
  tag : Nat := 0
  op : Nat := 0
  st : Nat := 0
  data : Nat := 0
  deriving DecidableEq, Repr

/-- A transfer that the management processor makes for the side-band master (R509): its requests, the data that came by tag, and the
status of its first failure. -/
structure MemOp where
  reqs : List Req := []
  got : List (Nat × Nat) := []
  st : Nat := 0
  deriving DecidableEq, Repr

/-- Why a request waits at its target: a lock (R166), a memory that is not ON (R113, R119, R121), snoop acknowledgments of
the cores in the mask (R176), an earlier write of the line (R176), the design at a user endpoint (R153), another module
(R178), a DRAM channel that is filling or training.  The mask of a snoop has bit 384 i + c for core c and line i of the request; `remote` names the
bundle it was sent on. -/
inductive Why where
  | lock | asleep | snoop (cores : Nat) | behind | design | remote (bundle : Nat) | dram
  deriving DecidableEq, Repr

/-- A request that waits at its target. -/
structure Held where
  req : Req
  why : Why
  deriving DecidableEq, Repr

/-- A locked line of a target (R166). -/
structure Lock where
  tgt : Nat
  line : Nat
  owner : Nat
  deriving DecidableEq, Repr

/-- A snoop-filter entry: mask of the 384 cores, and when it was filled (R176, R177). -/
structure SnpEnt where
  mask : Nat := 0
  order : Nat := 0
  deriving DecidableEq, Repr

/-- A guaranteed flow of a schedule (R183): endpoints, delivery time, injection slots, initial enable, the Eyelets it crosses
as a mask, and its cells as (port, slot). -/
structure Flow where
  src : Nat := 0
  dst : Nat := 0
  dly : Nat := 0
  slots : List Nat := []
  en0 : Bool := false
  eyes : Nat := 0
  cells : List (Nat × Nat) := []
  /-- Context that takes the flow over when a region of its is detached (R198, R297). -/
  hand : Option Nat := none
  deriving DecidableEq, Repr

/-- One bank of tables: base schedule, degraded variants by number with key and changed flows (R190), and best-effort routes
by source element × 128 + target element, an element being die × 8 + router, 96 for the hub (R193). -/
structure Sched where
  flows : Tab Flow := []
  variants : List (Nat × Nat × Tab Flow) := []
  routes : Tab Nat := []
  deriving DecidableEq, Repr

/-- A guaranteed flow at its injecting port (R184): enable, queue, the slot count since which its head waits, and its counters. -/
structure FlowSt where
  en : Bool := false
  queue : List Req := []
  headAt : Nat := 0
  units : Nat := 0
  held : Nat := 0
  ovr : Nat := 0
  ovrSaid : Bool := false
  deriving DecidableEq, Repr

/-- An epoch change (R195): its cause (1 commit, 2 rollback, 3 attach, 4 detach), and the boundary that a changeover names. -/
structure EpochChg where
  cause : Nat := 0
  frame : Option Nat := none
  moved : List Nat := []
  deriving DecidableEq, Repr

/-- The Welt network outside its registers (R149 to R201). -/
structure Welt where
  /-- Tags outstanding. -/
  out : List Outst := []
  /-- Requests waiting at their injecting port, oldest first (R163, R174, R175, R196). -/
  wait : List Req := []
  held : List Held := []
  resps : List Resp := []
  /-- Last completion at each initiator. -/
  comp : Tab Comp := []
  /-- Requests and messages handed to the design of a user endpoint, or to a unit whose inside is outside the spec. -/
  inbox : Tab (List Req) := []
  locks : List Lock := []
  snoop : Tab SnpEnt := []
  fills : Nat := 0
  /-- Snoop invalidations and acknowledgments on their way: line and core (R176). -/
  sinv : List (Nat × Nat) := []
  sack : List (Nat × Nat) := []
  /-- Half slots of 0.2 ns since the lace timebase started (R181). -/
  lace : Nat := 0
  sched0 : Sched := {}
  sched1 : Sched := {}
  bank : Nat := 0
  flows : Tab FlowSt := []
  /-- Class 0 units in the network with the slot count at whose end they arrive, and units in each destination's buffer
  (R186, R187). -/
  gfly : List (Nat × Req) := []
  gbuf : Tab Nat := []
  flowAt : Nat := 0
  /-- Epoch stamped at injection (R195 step 4). -/
  stamp : Nat := 0
  chg : EpochChg := {}
  /-- A change of service mode: the service it leads to, and the module mode to enter after it (R175). -/
  svcTo : Option Nat := none
  after : Option Nat := none
  /-- Live and readable statistics by endpoint × 32 + item: 0 to 3 units, 4 to 7 bytes, 8 to 23 bins, 24 maximum (R199). -/
  live : Tab Nat := []
  shown : Tab Nat := []
  /-- Transfer of the side-band master in progress, and the access of the debug window, as the first byte it reads (R509, R542). -/
  mem : Option MemOp := none
  win : Option Nat := none
  deriving DecidableEq, Repr

/-- Architectural registers of an Awl core: by the register keys of Operands.lean, the write of a system register that takes
effect after the next instruction (R223), and the address of the last instruction executed. -/
structure Arch where
  regs : Tab Nat := []
  pend : Option (Nat × Nat) := none
  last : Nat := 0
  deriving DecidableEq, Repr

/-- An LDW that has not retired (R236, R237): its number, Welt tag, address, size in bytes, destination key (Operands.lean), whether it
is ordered or a LOCK window's LRD, the instructions issued from it on, what its response brought, the registers as they were
before it, and whether a snoop met its fill. -/
structure AwlLoad where
  ser : Nat := 0
  tag : Nat := 0
  addr : Nat := 0
  size : Nat := 4
  dest : Nat := 0
  ordered : Bool := false
  lrd : Bool := false
  young : Nat := 0
  data : Option Nat := none
  err : Option Nat := none
  ckpt : Arch := {}
  snooped : Bool := false
  deriving DecidableEq, Repr

/-- A store held until the loads before it have completed (R237): the number of the youngest of them; to X or Y memory, or to
Welt. -/
structure AwlStore where
  after : Nat := 0
  y : Bool := false
  addr : Nat := 0
  size : Nat := 4
  val : Nat := 0
  deriving DecidableEq, Repr

/-- An open LOCK window (R244 to R247): the registers at its LOCK, instructions left, the locked line, the 64-bit words read by
address, the held store, and registers that hold data loaded in the window. -/
structure LockWin where
  ckpt : Arch := {}
  left : Nat := 0
  line : Option Nat := none
  words : List (Nat × Nat) := []
  store : Option AwlStore := none
  taint : List Nat := []
  deriving DecidableEq, Repr

/-- An Awl core outside its registers of the AWL block (R218 to R249). -/
structure Core where
  arch : Arch := {}
  loads : List AwlLoad := []
  nload : Nat := 0
  /-- X and Y stores held behind loads or in a LOCK window, and Welt stores held behind loads. -/
  sbuf : List AwlStore := []
  stwait : List AwlStore := []
  /-- Tags and addresses of STWs sent and not answered; requests in the Welt request stage. -/
  stq : List (Nat × Nat) := []
  wrq : List Req := []
  lk : Option LockWin := none
  /-- Fabric input word (FIN) as it was last read. -/
  fin : Nat := 0
  edge : Nat := 0
  soft : Nat := 0
  lines : Nat := 0
  msgq : List Nat := []
  /-- The watchdog has expired once since the last kick; WDOG waits for a level below 4. -/
  wdFirst : Bool := false
  wdPend : Bool := false
  /-- Always-on elapsed time at which AWL_WDGCNT held its stored count (R249). -/
  wdAt : Nat := 0
  startFlag : Bool := false
  /-- A stop in progress, and whether the mode asks for it (R221). -/
  stopping : Option Bool := none
  wasWait : Bool := false
  /-- Lines in the data cache (R229). -/
  dlines : List Nat := []
  deriving DecidableEq, Repr

/-- What the fetch of one Awl instruction delivers (R228, R252): the core, its word, the second word of format 110, or the status
of an error response; and the fabric input word, which an instruction that reads FIN finds (R223).  [DESIGN CHOICE 24: notes/assumptions] -/
structure Fetch where
  core : Fin 384
  w : BitVec 32
  w2 : BitVec 32 := 0
  err : Option Nat := none
  fin : BitVec 32 := 0
  deriving DecidableEq, Repr

/-- A correction-history entry (R375): location by class, die and LOC (R378), count, and the always-on elapsed time of the first. -/
structure HistEnt where
  cls : Nat
  die : Nat
  loc : Nat
  count : Nat
  first : Nat
  deriving DecidableEq, Repr

/-- A record of the remap store (R378). -/
structure RsRec where
  kind : Nat
  die : Nat
  serial : Nat
  loc : Nat
  hours : Nat
  deriving DecidableEq, Repr

/-- The Cobbler outside its registers (R368 to R379). -/
structure Cob where
  /-- Correction queues, oldest first: class, die, LOC. -/
  queue : List (Nat × Nat × Nat) := []
  hist : List HistEnt := []
  /-- Locations that have reached REMAPTH and wait for their remap. -/
  due : List (Nat × Nat × Nat) := []
  /-- Corrections of each class in the present second, and halvings of its interval in force. -/
  sec : Tab Nat := []
  halved : Tab Nat := []
  /-- Next location of each class's sweep. -/
  pos : Tab Nat := []
  rsPend : List RsRec := []
  rs : List RsRec := []
  /-- Sequence number of the newer copy of the remap store; copy 0 holds it when it is even. -/
  rsSeq : Nat := 0
  /-- Spares taken in Awl memories, Last store segments and the vault: class, die, LOC, spare number (R368). -/
  spares : List (Nat × Nat × Nat × Nat) := []
  deriving DecidableEq, Repr

/-- An entry of a channel's write queue (R348): line, byte-valid mask, data. -/
structure WqEnt where
  line : Nat
  mask : Nat
  data : Nat
  deriving DecidableEq, Repr

/-- A byte lane's eye of one direction (R358): edges, centre and Vref in force. -/
structure DramEye where
  left : Nat := 0
  right : Nat := 0
  centre : Nat := 0
  vref : Nat := 0
  deriving DecidableEq, Repr

/-- A DRAM channel outside its registers (R343 to R364). -/
structure Chan where
  wq : List WqEnt := []
  /-- Health of a line: 1 + device for an error in one device, 100 uncorrectable, 101 poisoned. -/
  marks : Tab Nat := []
  /-- Open row of a bank, plus one. -/
  rows : Tab Nat := []
  /-- Refreshes of a bank that are postponed. -/
  post : Tab Nat := []
  /-- Eyes by direction × 10 + byte lane. -/
  eyes : Tab DramEye := []
  deriving DecidableEq, Repr

/-- A memory read TLP in the port (R412): BAR, tags of earlier writes that have not received their WRA, its RDs, whether they were sent, the
data that came by tag, and how it completes. -/
structure PRead where
  bar : Nat
  after : List Nat := []
  reqs : List Req := []
  sent : Bool := false
  got : List (Nat × Nat) := []
  st : Nat := 0
  deriving DecidableEq, Repr

/-- The PCIe port outside its registers (R408 to R413): the host's configuration of it, the words of the MSI-X table by index
from BAR0 offset 0x300_0000 (vector control masked by reset), pending bits, messages sent, and the TLPs it serves.  [DESIGN CHOICE 60: notes/assumptions] -/
structure Pcie where
  perst : Bool := false
  /-- Configuration requests are answered normally. -/
  cfgReady : Bool := false
  busMaster : Bool := false
  msixEn : Bool := false
  funcMask : Bool := false
  table : Tab Nat := []
  pend : List Nat := []
  sent : List Nat := []
  /-- Writes that have not received their WRA: BAR (0 BAR0, 1 BAR2, 2 BAR4) and tag. -/
  writes : List (Nat × Nat) := []
  reads : List PRead := []
  /-- How the TLPs completed, newest last: 0 success, 1 Unsupported Request, 2 Completer Abort, and the data. -/
  cpl : List (Nat × Nat) := []
  deriving DecidableEq, Repr

/-- A flit of a bundle: KIND 1 a unit of a request, 2 a unit of a response, with its SEQ (R392). -/
structure Flit where
  kind : Nat := 0
  seq : Nat := 0
  unit : Nat := 0
  req : Req := {}
  resp : Resp := ⟨0, 0, 0, 0, 0, 0, 0, 0⟩
  deriving DecidableEq, Repr

/-- Stream map of a bundle in one plane (R397): enabled entries by section, 16 bits each, and the two tags. -/
structure StreamMap where
  tx : Tab Nat := []
  rx : Tab Nat := []
  txtag : Nat := 0
  rxtag : Nat := 0
  deriving DecidableEq, Repr

/-- A bundle outside its registers (R383 to R406). -/
structure Bundle where
  /-- Next SEQ, flits that wait to be sent, and flits sent and not acknowledged. -/
  seq : Nat := 0
  txq : List Flit := []
  replay : List Flit := []
  /-- SEQ of the last flit received in order, NAK owed, and acknowledgment owed. -/
  got : Nat := 4095
  nak : Bool := false
  owed : Bool := false
  /-- Requests and responses received whose units are not all there; the requests admitted, by the tag they were given, with
  their original src and tag; and admitted requests that find every tag outstanding. -/
  part : List Flit := []
  remote : List (Nat × Nat × Nat × Nat) := []
  waiting : List Req := []
  /-- Requests received whole that are not admitted yet. -/
  arrived : List Req := []
  /-- Credits to send request and response units, credits to return, and ACK, NAK, CRQ and CRS of the last flit sent. -/
  crq : Nat := 64
  crs : Nat := 64
  owedRq : Nat := 0
  owedRs : Nat := 0
  lastAck : Option (Nat × Bool × Nat × Nat) := none
  /-- Replays of one SEQ in succession. -/
  again : Nat × Nat := (0, 0)
  /-- Training has failed since the bundle was last UP, and the record is written. -/
  said : Bool := false
  mism : Bool := false
  /-- Widths in force, transmit and receive, and half rate of each. -/
  wTx : Nat := 8
  wRx : Nat := 8
  halfTx : Bool := false
  halfRx : Bool := false
  /-- Bit errors and symbols to corrupt in what is sent next (R405): KIND, NSYM, LANEMASK. -/
  inject : Option (Nat × Nat × Nat) := none
  map0 : StreamMap := {}
  map1 : StreamMap := {}
  deriving DecidableEq, Repr

/-- What a training of a bundle finds (R388 to R390, R398 to R400): clock and codeword lock, the peer's last capability word, local receive lanes
good at full rate and at half rate, whether the transmit direction went to half rate, the peer's MINWIDTH, REFLOCK, and the transport time in
units of 0.1 ns. -/
structure SzTrain where
  lock : Bool := true
  rcapw : BitVec 32 := 0
  rxOk : BitVec 8 := 0xFF
  rxHalf : BitVec 8 := 0
  txHalf : Bool := false
  peerMin : Nat := 0
  reflock : Bool := false
  transport : Nat := 0
  deriving DecidableEq, Repr

/-- A die entry of a manifest (R291), with the I/O voltage that its bank frames set (R320). -/
structure ImgDie where
  use : Bool := false
  stepMin : Nat := 0
  stepMax : Nat := 0xFF
  feat : Nat := 0
  tgear : Nat := 4
  ggroup : Nat := 0
  seals : List (Nat × Nat) := []
  regions : Nat := 0
  iov : Nat := 0
  /-- GIO_PCFG words of the bank's pins (R422). -/
  pcfg : Tab Nat := []
  deriving DecidableEq, Repr

/-- Configuration of a bank in the frames of its region: widths, OREG, clock network, and whether a fabric port is connected
(R97 to R100, R320). -/
structure BankCfg where
  widthA : Nat := 64
  widthB : Nat := 64
  oregA : Bool := false
  oregB : Bool := false
  net : Nat := 0
  live : Bool := false
  deriving DecidableEq, Repr

/-- What the frames of a region configure (R283).  [DESIGN CHOICE 7: notes/assumptions] -/
structure RegCfg where
  design : Design := {}
  /-- FDC_RCLK words by network (R68). -/
  rclk : Tab Nat := []
  banks : Tab BankCfg := []
  /-- The region's Welt endpoints are disabled by its frames (R48, R153). -/
  weltOff : Bool := false
  deriving DecidableEq, Repr

/-- A core entry (R297, R328). -/
structure CoreEnt where
  id : Nat
  start : Bool := false
  carry : Bool := false
  vbr : Nat := 0
  pseg : Nat := 0
  lines : List Nat := []
  deriving DecidableEq, Repr

/-- A failure that the check of a chunk meets (R300 check 10): chunk, status, DETAIL, and KIND and VALUE of CFG_RESLOC. -/
structure ChunkBad where
  chunk : Nat
  st : Nat
  detail : Nat := 0
  kind : Nat := 0
  loc : Nat := 0
  deriving DecidableEq, Repr

/-- A configuration image as the controller reads it (R288 to R301): the fields of its header and manifest, what its digests, tags and
records come to, and what its records decode to.  [DESIGN CHOICE 8: notes/assumptions] -/
structure Image where
  /-- Its header and its manifest are well formed; a byte offset of the first fault otherwise. -/
  headOk : Option Nat := none
  maniOk : Option Nat := none
  size : Nat := 0
  id : Nat := 0
  base : Nat := 0
  enc : Bool := false
  delta : Bool := false
  norb : Bool := false
  nchunk : Nat := 0
  sigSlot : Nat := 0
  keyHash : Nat := 0
  encKey : Nat := 0
  sigOk : Bool := true
  dies : Tab ImgDie := []
  dramLo : Nat := 0
  dramTop : Nat := 0
  /-- Safe states by pin (R292). -/
  pins : Tab Nat := []
  /-- Reserve lanes by (Eyelet × 2 + direction) × 3 + group − 1 (R290); the express signals that the design carries and those of them on
  tolerant nets: Eyelet, direction, signal. -/
  reserves : Tab (List Nat) := []
  carries : List (Nat × Nat × Nat) := []
  tolerant : List (Nat × Nat × Nat) := []
  /-- Keep-list entries, 64 bits each (R293). -/
  keep : List Nat := []
  /-- First failure of the rules of check 9 that the model does not compute, by DETAIL. -/
  rules : Option Nat := none
  chunkBad : List ChunkBad := []
  /-- Frames that records name, with their contents (R295). -/
  frames : List (Nat × Nat) := []
  /-- What the frames of each named region configure. -/
  regs : Tab RegCfg := []
  spine : XCfg := {}
  streams : Tab StreamMap := []
  /-- Initial contents by bank: words by number (R297). -/
  banks : Tab (Tab Nat) := []
  cores : List CoreEnt := []
  progs : List (Nat × List Nat) := []
  /-- The image holds a lace schedule; a rule of R188 that the model does not compute is broken. -/
  lace : Sched := {}
  laceBad : Bool := false
  deriving DecidableEq, Repr

/-- Frames of a unit in one plane: a region's, a die's die-level set, or the Last's (R284, R285). -/
structure PUnit where
  st : Nat := 0
  norb : Bool := false
  deriving DecidableEq, Repr

/-- A load in progress (R305): its image and source, whether the auto-boot made it, chunks checked, and the next local index of each
die's port. -/
structure Load where
  img : Image := {}
  src : Nat := 0
  auto : Bool := false
  chunks : Nat := 0
  next : Tab Nat := []
  deriving DecidableEq, Repr

/-- The configuration controller outside its registers (R281 to R315). -/
structure Cfg where
  /-- Frames by unit × 2 + plane, a unit being die × 33 + region, 32 for the die-level set; die 12 is the Last. -/
  units : Tab PUnit := []
  /-- Statuses that differ from their unit's, BADSEL marks, contents other than 0, and health (1 to 2 bits in error, 3 uncorrectable), by frame
  ID × 2 + plane. -/
  fst : Tab Nat := []
  badsel : List Nat := []
  data : Tab Nat := []
  marks : Tab Nat := []
  /-- Frame-table copies that are uncorrectable, as a mask, and corrected reads, by frame ID. -/
  ftBad : Tab Nat := []
  ce : Tab Nat := []
  /-- Active plane of each die's die-level set, and of the Last's (12). -/
  sel : Tab Nat := []
  load : Option Load := none
  /-- Images whose designs the active and the shadow plane hold. -/
  aimg : Image := {}
  simg : Image := {}
  /-- The image of a cold load that waits for the probe, and the images in the flash slots. -/
  staged : Image := {}
  flash : Tab (Option Image) := []
  /-- The cold load waits for LOAD, or for the probe: its source. -/
  pendLoad : Option (Nat × Bool) := none
  deriving DecidableEq, Repr

/-- The changeover outside its registers (R317 to R339). -/
structure Shf where
  /-- Requested commit or rollback waiting for the epoch change, and whether a rollback is automatic (R333). -/
  rbWait : Option Bool := none
  rbAuto : Bool := false
  /-- Regions that attach or detach: die, mask, and whether they go off. -/
  regs : List (Nat × Nat) := []
  off : Bool := false
  /-- Timebase of entry to ARMED, and of the commit. -/
  tc : Nat := 0
  tr : Nat := 0
  /-- Dies that were EXCLUDED and were brought up for staging (R321). -/
  raised : List Nat := []
  /-- The rest of a staging: its image, chunks checked and frames written. -/
  img : Image := {}
  src : Nat := 0
  /-- Detach: the step reached (1 quiesce, 2 waiting for the regions' own requests, 3 epoch change). -/
  step : Nat := 0
  deriving DecidableEq, Repr

/-- Successive readings of a die's hottest sensor (R593), counted up to ten: above TLIM, above TWARN, below TWARN − HYST, below TLIM − HYST;
and whether the die is in the warning state. -/
structure Therm where
  up : Nat := 0
  warm : Nat := 0
  cool : Nat := 0
  low : Nat := 0
  warn : Bool := false
  deriving DecidableEq, Repr

/-- Policy of a gear group (R593): always-on elapsed times of its last lowering, and since when it may raise. -/
structure Pol where
  lowAt : Nat := 0
  raiseAt : Option Nat := none
  deriving DecidableEq, Repr

/-- Health outside its registers: readings by die, policy by group, and the availability account (R597): ns toward the next second of
service, and when the counted loss in progress began. -/
structure Hlt where
  dies : Tab Therm := []
  pol : Tab Pol := []
  ns : Nat := 0
  lossAt : Option Nat := none
  deriving DecidableEq, Repr

/-- What the supply controller measures (R491, registers of the PWR block): mains V, Hz and 0.1 W, bulk V, output 0.1 W, supply and coolant
or air temperatures, fans, and die rails as die, 0.1 A, mV. -/
structure Meas where
  vrms : Nat := 0
  freq : Nat := 0
  pin : Nat := 0
  vbulk : Nat := 0
  pout : Nat := 0
  tpsu : BitVec 8 := 0
  tin : BitVec 8 := 0
  tout : BitVec 8 := 0
  rpm : List Nat := []
  rails : List (Nat × Nat × Nat) := []
  deriving DecidableEq, Repr

/-- A gate control list (R419): base time, cycle time, gates and interval of each entry, and the first cycle start at or after the
base time. -/
structure Gcl where
  base : Nat := 0
  cycle : Nat := 0
  entries : List (Nat × Nat) := []
  first : Nat := 0
  deriving DecidableEq, Repr

/-- A frame that left a MAC: port, class, length without FCS, its bytes as a number, and when. -/
structure EthSent where
  port : Nat
  tc : Nat
  len : Nat
  data : Nat
  at_ : Nat
  deriving DecidableEq, Repr

/-- Ethernet outside its registers (R415 to R419): gate control lists by port, ports whose administrative list waits to become
operational, frames counted by a stream rule, stream frames that wait for room in their flow's queue with their rule, successive sync
intervals within ±100 ns, and the frames sent, newest last. -/
structure Eth where
  oper : Tab Gcl := []
  admin : Tab Gcl := []
  gclPend : List Nat := []
  ruleN : Tab Nat := []
  streams : List (Nat × List Req) := []
  syncOk : Nat := 0
  sent : List EthSent := []
  deriving DecidableEq, Repr

/-- A general I/O pin outside its registers (R306, R307, R420 to R426, R449, R450). -/
structure Pin where
  /-- 0 high-impedance with the strap pull, 1 its safe state, 2 driven by the design. -/
  st : Nat := 0
  /-- The level its output driver holds, and the one held at the assertion of the safe net. -/
  out : Option Bool := none
  held : Option Bool := none
  oreg : Bool := false
  oereg : Bool := false
  ireg : Bool := false
  /-- Filtered level, and the earliest time at which it can change (R423, R426). -/
  filt : Bool := false
  okAt : Nat := 0
  /-- Time of the last event delivered, edges merged after it, and the time since which the level has been active, in ns. -/
  evAt : Option Nat := none
  merged : Nat := 0
  since : Option Nat := none
  masked : Bool := false
  /-- GIO_OVR has risen since its last read. -/
  ovrSaid : Bool := false
  deriving DecidableEq, Repr

end Sys2Proof.Machine
end

