-- ==== Sys2Proof/Syntax.lean ====
section
/-! DEFINITION. The commands: one constructor per row of spec/opcode_table.json, with the operands its rule names.
A row that stands for a register write is that write as the register accepts it; a row that stands for an event carries
what the environment decides of it (notes/assumptions/5.md). -/

namespace Sys2Proof

open Sys2Proof.Machine

inductive Instr where
  /-- A write of GLB_MODE.REQ 0 takes the module to DORMANT from any mode (R472). -/
  | modeReqDormant
  /-- A write of GLB_MODE.REQ 1 in DORMANT starts the clocks, the probe and DRAM training, then waits in LOAD (R456). -/
  | modeReqLoad
  /-- A write of GLB_MODE.REQ 2 in RUN names T_h at which the design stops (R464). -/
  | modeReqHold
  /-- A write of GLB_MODE.REQ 2 in SAFE makes the acknowledgment checks and leaves SAFE for HOLD (R469). -/
  | safeAcknowledgment (noclk : List Nat) (runs : List (Nat × Nat × Nat × Nat))
  /-- A write of GLB_MODE.REQ 3 in HOLD makes the RUN checks, clears trim freeze and waits for trim lock (R463). -/
  | modeReqRun
  /-- When every region is locked, the Last names T_s, and at T_s MODE becomes RUN and clocks, pins and cores start (R463). -/
  | runStartAtTs
  /-- At T_h MODE becomes HOLD, the safe net is asserted, gates close and cores stop (R464). -/
  | holdAtTh
  /-- A core reaches its instruction boundary after draining loads, stores and LOCK windows and becomes STOPPED (R221). -/
  | modeReqCompleteCoreStop (d : Fin 12) (r : Fin 32)
  /-- A side of a crossing enters reset, and the gate clamps, discards items and logs GLB_XEVENT (R478). -/
  | resetIsolationClamp (kind : Fin 9) (d : Fin 16) (unit : Nat) (extra : Nat)
  /-- Both sides leave reset, exchange the ready handshake and items flow again (R480). -/
  | resetIsolationRelease (kind : Fin 9) (d : Fin 16) (unit : Nat)
  /-- The oscillator start delay expires and the first stability window begins (R431). -/
  | oscillatorStartDelayEnd
  /-- A 1.007 ms stability window ends and passes or fails against the nominal count (R432). -/
  | stabilityWindowEnd (count : Nat)
  /-- All Last PLLs lock, the timebase starts and the module enters LOAD (R433). -/
  | lastPllsLocked (locked : Bool) (runs : List (Nat × Nat × Nat × Nat))
  /-- The management processor starts Last firmware from the bank named by the boot record, or fails with ST_HW_LAST_BOOT (R460). -/
  | lastFirmwareBoot (okA : Bool) (okB : Bool) (runs : List (Nat × Nat × Nat × Nat))
  /-- A die answers on its spoke and the Last copies its identity and capability word (R32). -/
  | dieProbeAnswer (d : Fin 12) (ident : BitVec 32) (capw : BitVec 32)
  /-- At 2.00 ms the Last judges every die, sets package protocol and features, and switches off unusable dies (R32). -/
  | probeDeadline (bad : List (Nat × Nat)) (noclk : List Nat)
  /-- With the main output in regulation and NVINH clear, NVS_AUTOBOOT = 1 starts the Last and the cold load of the BOOT slot (R459). -/
  | autoBootDecision
  /-- CFG_CMD operation 1 checks an image and starts writing the active plane (R305). -/
  | coldLoad (img : Image)
  /-- A body chunk arrives and its digest, tag and records are checked (R305). -/
  | imageChunkArrival
  /-- A port finishes writing a frame, reads it back, sets status, CRC and BADSEL, or retries (R286). -/
  | frameWriteReadback (d : Fin 13) (n : Nat) (clean : Bool)
  /-- Bank contents, programs and pinned lines are written, service becomes normal and the module enters HOLD (R305). -/
  | loadContentsDone
  /-- CFG_CMD operation 3 reads the named planes and compares each frame with the frame table (R311). -/
  | cfgVerify
  /-- CFG_CMD operation 4 writes frames of a plane with trailers to a Welt address (R312). -/
  | cfgReadback
  /-- CFG_CMD operation 6 writes a region's capture latches as 11 capture frames (R315). -/
  | cfgCaptureReadout
  /-- CFG_CMD operation 7 writes frames from a buffer into the active plane without checks (R310). -/
  | cfgRawWrite (bad : List Nat) (regs : Tab RegCfg)
  /-- CFG_CMD operation 8 checks the staged image and writes it to a flash slot (R303). -/
  | cfgFlashWrite (img : Image)
  /-- CFG_CMD operation 9 aborts a load before frames are written (R308). -/
  | cfgAbort
  /-- CFG_CMD operation 10 sets slot flags or erases a slot in the flash directory (R303). -/
  | cfgFlashDirectory
  /-- A write to CFG_STGBASE or CFG_STGSIZE moves the staging area or is ignored with STGIGN (R302). -/
  | stagingAreaWrite (size : Bool) (value : BitVec 32)
  /-- CFG_CAPCMD GO distributes a capture for time T to the named regions (R314). -/
  | captureCommand
  /-- At time T each region's latches copy their flip-flops at the next edge of their clocks (R61). -/
  | captureAtT (d : Fin 12) (r : Fin 32)
  /-- Every latch of a region is loaded, CAPPEND clears and CAPDONE sets (R63). -/
  | captureComplete (d : Fin 12) (r : Fin 32)
  /-- A write of FDC_RCTL.RESTORE in HOLD returns a region's flip-flops and block registers to their initial values (R48). -/
  | regionRestore (d : Fin 12) (r : Fin 32)
  /-- Asynchronous SR becomes active and the flip-flop takes SRVAL without a clock (R45). -/
  | asyncSrAssert (d : Fin 12) (r : Fin 32) (cell : Nat)
  /-- A Welt arrival, an event input or the wake timer starts a DEMAND network within 12.0 ns (R65). -/
  | networkWake (d : Fin 12) (r : Fin 32) (k : Fin 4) (src : Fin 3)
  /-- A DEMAND network's idle count reaches 16 × IDLE and its gate closes (R66). -/
  | idleLimitReached (d : Fin 12) (r : Fin 32) (k : Fin 4) (wake : Bool)
  /-- A region's wake timer expires, raises TMR and reloads or stops (R67). -/
  | wakeTimerExpiry (d : Fin 12) (r : Fin 32)
  /-- A write to FDC_RWTMR restarts the wake timer from the new RELOAD (R67). -/
  | wakeTimerWrite (d : Fin 12) (r : Fin 32) (value : BitVec 32)
  /-- A host write to FDC_RCLK changes the active plane copy at the next global clock edge (R68). -/
  | rclkWrite (d : Fin 12) (r : Fin 32) (k : Fin 4) (value : BitVec 32)
  /-- A 1.00 µs trim window ends and the trim code moves by the deviation (R90). -/
  | trimWindowEnd (d : Fin 12) (r : Fin 32) (dev : Int)
  /-- A region not locked 200 µs after its rail reaches the gear has a trim fault (R91). -/
  | trimLockTimeout (d : Fin 12) (r : Fin 32)
  /-- A write of FDC_TRIM.FREEZE freezes the code in HOLD or is ignored with FRZIGN (R95). -/
  | trimFreezeWrite (d : Fin 12) (r : Fin 32) (value : BitVec 32)
  /-- A fabric port presents an access to a bank at an edge, served under arbitration and merge rules (R100). -/
  | bankPortAccess (d : Fin 12) (r : Fin 32) (b : Fin 64) (pa : PortIn) (pb : PortIn) (welt : Option Bool) (cob : Option Bool)
  /-- The second cycle of a read-modify-write stores the merged word (R102). -/
  | narrowWriteMerge (d : Fin 12) (r : Fin 32) (b : Fin 64)
  /-- A Cobbler, remap or Welt request that has waited its threshold takes the next edge as a forced cycle (R107). -/
  | forcedCycle (d : Fin 12) (r : Fin 32) (b : Fin 64) (kind : Fin 3) (wr : Bool) (pa : PortIn) (pb : PortIn)
  /-- A write of BNK_REMAPCMD.GO requests a remap of word ADDR (R110). -/
  | bankRemapCmd (d : Fin 12) (r : Fin 32) (b : Fin 64) (addr : Fin 1024)
  /-- At an edge served on both ports, the word is copied to a spare and the entry becomes VALID (R110). -/
  | bankRemapStep (d : Fin 12) (r : Fin 32) (b : Fin 64)
  /-- A change of a bank's requested state starts entry to RETENTION or a wake (R112). -/
  | bankPowerRequest (d : Fin 12) (r : Fin 32) (b : Fin 64) (ctl : BitVec 32) (psleep : Bool)
  /-- A bank completes its entry to RETENTION or its wake to ON (R112). -/
  | bankPowerTransitionDone (d : Fin 12) (r : Fin 32) (b : Fin 64)
  /-- Once per scrub interval the Cobbler wakes a retained bank, scrubs it and returns it (R114). -/
  | bankScrubWake (d : Fin 12) (r : Fin 32) (b : Fin 64) (errs : List (Nat × Nat))
  /-- A die that does not confirm its wipe within 5.00 µs has its core rails switched off (R118). -/
  | wipeConfirmTimeout (d : Fin 12)
  /-- A write to FDC_AWLMEM requests RETENTION or ON for an Awl X or Y memory (R119). -/
  | awlMemoryPowerWrite (d : Fin 12) (r : Fin 32) (value : BitVec 32)
  /-- A write of PWR_LSSEG requests a segment power state, refused while the queue engine uses it (R120). -/
  | lastStoreSegmentPower (seg : Fin 64) (value : BitVec 32)
  /-- A write of PWR_VAULT by a secure master sets the vault power state (R123). -/
  | vaultPowerWrite (secure : Bool) (value : BitVec 32)
  /-- A Last store segment or the vault reaches ON after its wake time and waiting accesses proceed (R120). -/
  | memoryWakeDone (unit : Fin 65)
  /-- Groups not in service 500 µs after training starts make the Eyelet FAILED (R135). -/
  | eyeletTrainingTimeout (e : Fin 24)
  /-- A lane's corrected count reaches BERTH in its window, or 64 code words correct it, and it becomes failing (R132). -/
  | laneFailing (e : Fin 24) (dir : Fin 2) (g : Fin 4) (lane : Fin 88) (n : Nat) (run : Nat)
  /-- A failing lane is replaced hitlessly by the lowest good idle spare (R138). -/
  | laneSpare (e : Fin 24) (dir : Fin 2) (g : Fin 4)
  /-- With no spare free, the Last copies slot maps and schedules a swap to a reserve lane (R139). -/
  | reserveMove (e : Fin 24) (dir : Fin 2) (g : Fin 4)
  /-- At the sender's express edge after T, then two edges later at the receiver, the slot maps swap (R139). -/
  | reserveSwap (e : Fin 24) (dir : Fin 2) (g : Fin 4)
  /-- A lane whose signals are all tolerant is retired at a swap point and sends 0 (R140). -/
  | laneRetire (e : Fin 24) (dir : Fin 2) (g : Fin 4)
  /-- Group 0 drops to half width at a lace frame boundary with the degraded variant in force (R141). -/
  | halfWidthChange (e : Fin 24) (dir : Fin 2)
  /-- An uncorrectable code word on group 0 or on a non-tolerant express signal sends both dies to SAFE (R142). -/
  | eyeletUncorrectable (e : Fin 24) (dir : Fin 2) (g : Fin 4) (word : Fin 2)
  /-- A clock lane loses lock and the dies go to SAFE with ST_HW_EYE_TRAIN (R142). -/
  | eyeletClockLaneLoss (e : Fin 24) (dir : Fin 2) (g : Fin 4)
  /-- EYE_CMD operation 1 spares the target lane (R138). -/
  | eyeCmdSpare
  /-- EYE_CMD operation 2 moves the target lane to a reserve (R139). -/
  | eyeCmdMove
  /-- EYE_CMD operation 3 in HOLD corrupts one symbol on the target lane (R147). -/
  | eyeCmdInject
  /-- A read request is injected, checked and served by its target, answered with RDR or ERR (R161). -/
  | rd (q : Req)
  /-- A write request is injected and performed, answered with WRA or ERR (R161). -/
  | wr (q : Req)
  /-- A posted write is injected and performed without a response (R161). -/
  | wrp (q : Req)
  /-- A 64-bit fetch-and-add is performed indivisibly and answered with ATR (R165). -/
  | aadd (q : Req)
  /-- A 64-bit swap is performed indivisibly and answered with ATR (R165). -/
  | aswp (q : Req)
  /-- A 64-bit compare-and-swap is performed indivisibly and answered with ATR (R165). -/
  | acas (q : Req)
  /-- A locked read locks the line for its requester and returns the word (R166). -/
  | lrd (q : Req)
  /-- A write of one word releases the requester's lock on the line (R166). -/
  | ulwr (q : Req)
  /-- The requester's lock on the line is released without a write (R166). -/
  | unl (q : Req)
  /-- A message with 48 bits of user data is delivered to a user endpoint or an Awl core (R161). -/
  | msg (q : Req)
  /-- A guaranteed posted write is checked against its flow and queued for its injection slot (R184). -/
  | gwr (q : Req)
  /-- A guaranteed message is checked against its flow and queued for its injection slot (R184). -/
  | gmsg (q : Req)
  /-- A flow's owned injection slot arrives and the head unit is injected (R184). -/
  | guaranteedSlotInjection (f : Fin 1024) (at_ taken : Nat)
  /-- A class 0 unit arriving at a full destination buffer is discarded and counted (R186). -/
  | guaranteedBufferOverflow (f : Fin 1024)
  /-- An RDR, WRA, ATR or ERR arrives and completes the outstanding tag, or is discarded if unmatched (R163). -/
  | responseArrival (r : Resp) (lat : Nat)
  /-- WLT_RSPTMO expires for an outstanding tag and the request completes with ST_WLT_TIMEOUT (R164). -/
  | responseTimeout (e tag : Nat)
  /-- A lock not released within WLT_LOCKTMO is released by the target and logged (R166). -/
  | lockTimeout (tgt line : Nat)
  /-- A snoop invalidation reaches a core, which drops the line and returns SACK (R176). -/
  | sinv (c : Fin 384) (line : Nat)
  /-- A snoop acknowledgment arrives; when all have arrived, the waiting write is performed (R176). -/
  | sack (c : Fin 384) (line : Nat)
  /-- Injection stops and the network drains before changing between four-plane and normal service (R175). -/
  | serviceModeChange
  /-- At 10.0 µs outstanding requests abort, the format changes, tables load and injection resumes (R175). -/
  | serviceChangeDrainTimeout
  /-- A write of WLT_SVCREQ.SPLIT in HOLD changes the service mode for test, or is ignored with REQIGN (R174). -/
  | serviceSplitWrite (split : Bool)
  /-- An uncorrectable error in a Welt buffer discards the unit and sends regions to SAFE (R179). -/
  | weltBufferUe (elem : Fin 97) (op : Nat) (src : Nat) (dst : Nat)
  /-- WLT_FLOWCMD operation 1 schedules a flow enable at a frame boundary (R189). -/
  | flowEnable (f : Fin 1024)
  /-- WLT_FLOWCMD operation 2 disables a flow and completes once its queued units are delivered (R189). -/
  | flowDisable (f : Fin 1024)
  /-- WLT_FLOWCMD operation 3 disables one flow and enables another at one frame boundary (R189). -/
  | flowHandover (f : Fin 1024)
  /-- The frame boundary at least 2 frames after GO is reached and the flow change takes effect (R189). -/
  | flowCommandBoundary
  /-- Every element confirms its bank and the Last sets the boundary F (R195). -/
  | epochConfirmed
  /-- An element not confirmed by 2.00 ms abandons the change with ST_HW_WLT_TABLE (R195). -/
  | epochConfirmTimeout
  /-- At F the ports stamp the new epoch and the new lace bank is in force (R195). -/
  | epochBoundary
  /-- No old-epoch unit remains, holds are released and the change ends (R195). -/
  | epochDrainComplete
  /-- WLT_DRAINTMO after F sets DRAINTO and writes a record while forwarding continues (R195). -/
  | epochDrainTimeout
  /-- A sampling window ends and every port copies its live statistics into its readable set (R201). -/
  | statsWindowEnd
  /-- A write of WLT_STCTL.SNAP copies every live set at once (R201). -/
  | statsSnap
  /-- A write to word 2 of a single-producer queue publishes descriptors up to T′ (R208). -/
  | queDoorbell (src : Nat) (tag : Nat) (posted : Bool) (q : Fin 65536) (t : BitVec 32)
  /-- An AADD to word 2 of a multi-producer queue reserves k indices (R208). -/
  | queReserve (src : Nat) (tag : Nat) (q : Fin 65536) (k : BitVec 64)
  /-- A write to word 2 of a multi-producer queue commits reserved indices and advances TAIL (R208). -/
  | queCommit (src : Nat) (tag : Nat) (posted : Bool) (q : Fin 65536) (i : BitVec 32) (k : BitVec 32)
  /-- A write to word 3 releases descriptors, directly or through CMASK, and advances HEAD (R208). -/
  | queRelease (src : Nat) (tag : Nat) (posted : Bool) (q : Fin 65536) (lo : BitVec 32) (hi : BitVec 32)
  /-- An AADD to word 3 of a multi-consumer queue claims k published descriptors (R208). -/
  | queClaim (src : Nat) (tag : Nat) (q : Fin 65536) (k : BitVec 64)
  /-- QUE_QCMD operation 1 loads the staged configuration and enables a queue (R213). -/
  | queEnable
  /-- QUE_QCMD operation 2 disables a queue keeping indices and masks (R213). -/
  | queDisable
  /-- QUE_QCMD operation 3 zeroes indices, masks and counts of a disabled queue (R213). -/
  | queResetIndices
  /-- QUE_QCMD operation 4 re-arms an enabled queue and evaluates notification (R213). -/
  | queRearm
  /-- QUE_QCMD operation 5 copies a queue's configuration into the staging registers (R213). -/
  | queReadBack
  /-- An uncorrectable context word faults and disables the queue (R216). -/
  | queContextUe (q : Fin 65536) (k : Fin 4)
  /-- AWL_CTL.START starts or resumes a core in RUN or SHIFT (R220). -/
  | awlStart (c : Fin 384)
  /-- AWL_CTL.STOP stops a core at its next boundary (R220). -/
  | awlStop (c : Fin 384)
  /-- AWL_CTL.RESET puts a core in RESET and invalidates its caches (R220). -/
  | awlReset (c : Fin 384)
  /-- A write to AWL_ISET makes the named interrupt sources software pending (R241). -/
  | awlIsetWrite (c : Fin 384) (value : BitVec 32)
  /-- A FIRQ line edge or level makes its interrupt source pending (R241). -/
  | fabricIrq (c : Fin 384) (k : Fin 16) (level : Bool)
  /-- A pending enabled source above IPL is taken at a boundary, saving PC and SR (R241). -/
  | interruptEntry (c : Fin 384)
  /-- An LDW response arrives, fills pending registers, or raises LOADFAULT when oldest (R236). -/
  | ldwDataArrival (r : Resp) (lat : Nat)
  /-- An STW's WRA or ERR arrives; an ERR raises source 31 and counts in AWL_SFSTAT (R236). -/
  | stwResponse (r : Resp) (lat : Nat)
  /-- The core watchdog reaches 0, raises WDOG and reloads (R249). -/
  | watchdogFirstExpiry (c : Fin 384)
  /-- The watchdog reaches 0 again without a kick and resets the core or sends its region to SAFE (R249). -/
  | watchdogSecondExpiry (c : Fin 384)
  /-- Instruction ADD writes s1 + s2 (R265). -/
  | awlAdd (f : Fetch)
  /-- Instruction SUB writes s1 − s2 (R265). -/
  | awlSub (f : Fetch)
  /-- Instruction CMP sets the flags of s1 − s2 (R265). -/
  | awlCmp (f : Fetch)
  /-- Instruction AND writes the bitwise and (R265). -/
  | awlAnd (f : Fetch)
  /-- Instruction OR writes the bitwise or (R265). -/
  | awlOr (f : Fetch)
  /-- Instruction XOR writes the bitwise exclusive or (R265). -/
  | awlXor (f : Fetch)
  /-- Instruction SHL shifts left by n (R265). -/
  | awlShl (f : Fetch)
  /-- Instruction SHR shifts right logically by n (R265). -/
  | awlShr (f : Fetch)
  /-- Instruction ASR shifts right arithmetically by n (R265). -/
  | awlAsr (f : Fetch)
  /-- Instruction NEG writes 0 − s1 (R265). -/
  | awlNeg (f : Fetch)
  /-- Instruction ABS writes the absolute value of s1 (R265). -/
  | awlAbs (f : Fetch)
  /-- Instruction SAT saturates an accumulator to the destination width (R265). -/
  | awlSat (f : Fetch)
  /-- Instruction RND rounds an accumulator to 16 bits (R265). -/
  | awlRnd (f : Fetch)
  /-- Instruction MPY writes a signed product to an accumulator (R265). -/
  | awlMpy (f : Fetch)
  /-- Instruction MAC adds a signed product to an accumulator (R265). -/
  | awlMac (f : Fetch)
  /-- Instruction MSU subtracts a signed product from an accumulator (R265). -/
  | awlMsu (f : Fetch)
  /-- Format 001 MPY.UU writes an unsigned product with parallel moves (R266). -/
  | awlMpyUu (f : Fetch)
  /-- Format 001 MAC.UU accumulates an unsigned product with parallel moves (R266). -/
  | awlMacUu (f : Fetch)
  /-- Format 001 MAC.SU accumulates a signed by unsigned product with parallel moves (R266). -/
  | awlMacSu (f : Fetch)
  /-- A format 001 word without multiply performs X and Y moves and rotation (R267). -/
  | awlParallelMove (f : Fetch)
  /-- Instruction LDX loads from X memory (R270). -/
  | awlLdx (f : Fetch)
  /-- Instruction LDY loads from Y memory (R270). -/
  | awlLdy (f : Fetch)
  /-- Instruction STX stores to X memory (R270). -/
  | awlStx (f : Fetch)
  /-- Instruction STY stores to Y memory (R270). -/
  | awlSty (f : Fetch)
  /-- Instruction LDW issues a Welt read and marks its destination pending (R236). -/
  | awlLdw (f : Fetch)
  /-- Instruction STW sends a Welt write in program order (R236). -/
  | awlStw (f : Fetch)
  /-- Instruction MOV copies between registers under the width rules (R271). -/
  | awlMov (f : Fetch)
  /-- MOV to a system register writes it with its own effects two instructions later (R272). -/
  | awlMovToSysreg (f : Fetch)
  /-- MOV from a system register reads it, popping MSGD where named (R271). -/
  | awlMovFromSysreg (f : Fetch)
  /-- MOV with a 16-bit immediate writes it by KIND (R271). -/
  | awlMovImm16 (f : Fetch)
  /-- A format 110 instruction performs MOV, ALU, branch or LOOP with a 32-bit immediate (R279). -/
  | awlLongImmediate (f : Fetch)
  /-- Instruction PMOD modifies a pointer under R227 (R273). -/
  | awlPmod (f : Fetch)
  /-- Instruction PADD writes Ps + Mm linearly (R273). -/
  | awlPadd (f : Fetch)
  /-- Instruction BR branches to a target or register (R274). -/
  | awlBr (f : Fetch)
  /-- Instruction BRC branches when its condition holds (R275). -/
  | awlBrc (f : Fetch)
  /-- Instruction CALL saves the return address in G15 and branches (R274). -/
  | awlCall (f : Fetch)
  /-- Instruction RET branches to Gn (R274). -/
  | awlRet (f : Fetch)
  /-- Instruction RTI restores PC and SR of the current level (R274). -/
  | awlRti (f : Fetch)
  /-- Instruction LOOP pushes a hardware loop level (R232). -/
  | awlLoop (f : Fetch)
  /-- Instruction NOP does nothing (R278). -/
  | awlNop (f : Fetch)
  /-- Instruction ROT rotates the Q file names (R234). -/
  | awlRot (f : Fetch)
  /-- Instruction LOCK drains and opens a LOCK window of n instructions (R244). -/
  | awlLock (f : Fetch)
  /-- Instruction WAIT puts the core in WAIT until an enabled source is pending (R278). -/
  | awlWait (f : Fetch)
  /-- Instruction FENCE waits until every LDW and STW has completed (R278). -/
  | awlFence (f : Fetch)
  /-- Instruction TRAP records its code and raises TRAP (R278). -/
  | awlTrap (f : Fetch)
  /-- Instruction DBG enters the debug monitor when enabled (R278). -/
  | awlDbg (f : Fetch)
  /-- Instruction EI sets SR.IE (R278). -/
  | awlEi (f : Fetch)
  /-- Instruction DI clears SR.IE (R278). -/
  | awlDi (f : Fetch)
  /-- The scheduler drains a pair from the write queue by occupancy, age, idleness or a partial hit (R350). -/
  | dramWriteQueueDrain (c : Fin 8) (i : Fin 64)
  /-- A bank's idle timer expires and the bank is precharged (R352). -/
  | dramPageIdleExpiry (c : Fin 8) (b : Fin 32)
  /-- A same-bank refresh falls due each tREFI, postponed at most four intervals (R355). -/
  | dramRefresh (c : Fin 8) (b : Fin 32) (postpone : Bool)
  /-- Every 16.0 ms device temperatures set the refresh rate and the HOT flag (R355). -/
  | dramTemperatureRead (c : Fin 8) (t : Int)
  /-- Idle bursts zero-fill the channel from the top until FILLED is set (R360). -/
  | dramZeroFill (c : Fin 8) (wm : Nat)
  /-- Every PERIOD ms a channel remeasures its eyes and moves centres (R361). -/
  | dramTrack (c : Fin 8) (edges : List (Nat × Nat × Nat)) (runs : List (Nat × Nat × Nat × Nat))
  /-- DRC_CHCMD operation 1 runs a track at once (R361). -/
  | drcTrackNow (c : Fin 8) (edges : List (Nat × Nat × Nat)) (runs : List (Nat × Nat × Nat × Nat))
  /-- DRC_CHCMD operation 2 retrains one byte lane (R362). -/
  | drcRetrainLane (c : Fin 8) (lane : Fin 16) (runs : List (Nat × Nat × Nat × Nat))
  /-- DRC_CHCMD operation 3, or the Cobbler, remaps a line's pair to a spare pair (R363). -/
  | drcRemap (c : Fin 8) (bad : Nat)
  /-- The Cobbler reads the next protected word of a class sweep (R369). -/
  | sweepRead (cls : Fin 5) (die : Fin 13) (loc : Nat) (copy : Fin 4) (err : Nat) (took : Option Nat)
  /-- A sweep not complete within its interval sets LATE and writes a record (R371). -/
  | sweepLate (cls : Fin 5)
  /-- A queued correction is rewritten without losing any other write (R373). -/
  | correctionRewrite (cls : Fin 5) (miss : Bool) (bad : Nat)
  /-- A second with more than BTH corrections halves the class interval (R375). -/
  | burstSecondEnd
  /-- HOLD seconds without a burst double a class interval back (R375). -/
  | burstHoldExpiry (cls : Fin 5)
  /-- A correction history entry is removed WIN hours after its first correction (R375). -/
  | historyEntryExpiry
  /-- Pending remap records are written to the older remap store copy while NVINH is clear (R378). -/
  | remapStoreWrite
  /-- COB_CMD operation 1 restarts a class sweep (R369). -/
  | cobRestartSweep (cls : Fin 8)
  /-- COB_CMD operation 2 clears the remap store in HOLD (R379). -/
  | cobClearRemapStore
  /-- COB_CMD operation 3 clears the correction history (R375). -/
  | cobClearHistory
  /-- A bundle with EN = 1 trains clock, PAM2, equalisers, lanes, settings and codeword lock (R389). -/
  | sazorTraining (b : Fin 8) (t : SzTrain)
  /-- A FAILED bundle retries training every 1.00 s (R389). -/
  | sazorTrainingRetry (b : Fin 8)
  /-- Clock loss, uncorrectable threshold, replay limit or a RETRAIN write retrains a bundle (R391). -/
  | sazorRetrain (b : Fin 8)
  /-- A flit arrives, is checked, delivered in order or discarded with NAK (R393). -/
  | flitReceive (b : Fin 8) (f : Flit) (ack : BitVec 12) (nak : Bool) (crq : BitVec 8) (crs : BitVec 8) (crcOk : Bool) (cw : Fin 3)
  /-- NAK or 1.00 µs without progress replays from ACK + 1 (R393). -/
  | flitReplay (b : Fin 8)
  /-- After 100 ns with nothing to send, an idle flit carries ACK and credits (R393). -/
  | idleAckTimer (b : Fin 8)
  /-- A local request to a bridge window is translated and sent, or refused for RMOD or bundle state (R395). -/
  | bridgeRequest (q : Req)
  /-- A request arriving on a bundle is admitted and injected, or refused with ST_SZL_ADMIT (R396). -/
  | remoteRequestAdmission (b : Fin 8)
  /-- A failed retrain or EN = 0 completes outstanding requests with ST_SZL_DOWN (R395). -/
  | bundleFailCompletion (b : Fin 8)
  /-- An uncorrectable codeword or REFLOCK loss loses stream cycles, reading 0 or entering SAFE (R401). -/
  | streamCycleLoss (b : Fin 8) (cycles : Nat)
  /-- STAG or GEAR mismatch makes stream blocks read 0 and is counted (R398). -/
  | streamTagMismatch (b : Fin 8) (stag : BitVec 8) (gear : Fin 8) (cycles : Nat)
  /-- Idle time takes a transmit direction to DOZE or SLEEP (R403). -/
  | sazorPowerIdleTimer (b : Fin 8) (rx : Bool)
  /-- A flit to send wakes a dozing or sleeping transmitter (R403). -/
  | sazorTxWake (b : Fin 8)
  /-- A write of SZL_PWR.TXREQ changes the allowed power state, OFF taking the bundle down (R403). -/
  | sazorPwrWrite (b : Fin 8) (value : BitVec 32)
  /-- A write of SZL_TEST in HOLD starts or stops the pattern generator and checker (R404). -/
  | sazorPatternTest (b : Fin 8) (value : BitVec 32) (errs : List Nat)
  /-- SZL_INJ GO in HOLD injects bit or symbol errors (R405). -/
  | sazorErrorInject (b : Fin 8) (value : BitVec 32)
  /-- A PCIe reset of any kind resets the port's link, config space and MSI-X state only (R409). -/
  | pcieReset (kind : Fin 3)
  /-- The link trains within 20.0 ms of power-up or PERST# release (R410). -/
  | pcieLinkTraining (speed : Fin 6) (width : Nat) (ready msixEn busMaster funcMask d3 : Bool)
  /-- A memory write TLP on BAR0, BAR2 or BAR4 becomes register accesses or WRs (R412). -/
  | pcieMemoryWrite (bar : Fin 3) (off : BitVec 36) (be : List Bool) (data : Nat)
  /-- A memory read TLP waits for earlier writes and becomes RDs answered with completions (R412). -/
  | pcieMemoryRead (bar : Fin 3) (off : BitVec 36) (n : Fin 4097)
  /-- A received frame is matched against rules and discarded, produced or streamed (R416). -/
  | ethFrameReceive (p : Fin 16) (len data age : Nat) (good : Bool)
  /-- The port consumes a transmit descriptor and sends the frame no earlier than its launch time (R415). -/
  | ethFrameTransmit (p : Fin 16) (t : Fin 8)
  /-- A stream frame not queued within 1.00 µs is discarded whole (R417). -/
  | ethStreamPlaceTimeout (i : Fin 64)
  /-- A gPTP sync disciplines the module timebase by slew or step (R418). -/
  | gptpSync (p : Fin 16) (gm : Bool) (offset adj : Int) (iv : Nat)
  /-- Loss of sync puts the timebase in holdover and clears LOCKED (R418). -/
  | gptpSyncLoss
  /-- ETH_GCLCMD GO copies a gate control list into the administrative list (R419). -/
  | ethGclLoad (p : Fin 16)
  /-- At a cycle start at or after the base time, the administrative list becomes operational (R419). -/
  | gclBecomesOperational (p : Fin 16)
  /-- A write of ETH_CAGE.MODE retrains the cage's ports in the new mode (R414). -/
  | ethCageModeWrite (c : Fin 4) (value : BitVec 32)
  /-- The filtered level of an event input changes and delivers an event and wake (R423). -/
  | eventInputEdge (k : Fin 12) (n : Fin 32) (level : Bool) (t : Nat)
  /-- Edges merged within 20.0 ns are delivered as one event at t + 20.0 ns (R424). -/
  | eventMergeDelivery (k : Fin 12) (n : Fin 32)
  /-- An input active longer than STUCK is masked and recorded (R425). -/
  | eventInputStuck (k : Fin 12) (n : Fin 32)
  /-- A write to GIO_PCFG restarts the input filter from the pad value (R426). -/
  | gioPcfgWrite (k : Fin 12) (n : Fin 32) (value : BitVec 32)
  /-- A bank supply out of range for 1.00 µs sends its die to SAFE with pins high-impedance (R427). -/
  | bankSupplyFault (k : Fin 12)
  /-- Loss of the reference faults every region and PLLs enter holdover (R448). -/
  | referenceLoss
  /-- A Last or die PLL unlocks and its regions fault (R448). -/
  | pllUnlock (last : Bool) (d : Fin 12) (n : Fin 10)
  /-- A running regional network shows no edge for 4 periods and its region faults (R448). -/
  | regionClockFailure (d : Fin 12) (r : Fin 32) (k : Fin 4)
  /-- In SAFE after a clock failure, a stability window ends and READY may become 1 (R452). -/
  | safeStabilityWindow (count : Nat) (locks : Bool)
  /-- With AUTORES, READY held for RESDLY acknowledges SAFE and requests RUN (R453). -/
  | autoResume (noclk : List Nat) (runs : List (Nat × Nat × Nat × Nat))
  /-- Every 64 s with gPTP locked the RTC is set from the timebase (R436). -/
  | rtcSync
  /-- CLK_TBCMD operation 1 steps the timebase (R437). -/
  | timebaseStep
  /-- CLK_TBCMD operation 2 sets the RTC from CLK_RTCSET (R437). -/
  | rtcSetFromRegisters
  /-- CLK_TBCMD operation 3 sets the RTC from the timebase (R437). -/
  | rtcSetFromTimebase
  /-- A write of GEAR_REQ or GEAR_HLIM changes a group's target and starts a raise or lower (R442). -/
  | gearTargetChange (hlim : Bool) (g : Fin 12) (value : BitVec 32)
  /-- The group's rails reach the new voltage and regions load starting trim codes (R444). -/
  | gearRailInRegulation (g : Fin 12)
  /-- The named express count is reached and every divider switches to the new gear (R443). -/
  | gearSwitchCount (g : Fin 12)
  /-- A rail not in regulation within ramp time plus 20.0 µs ends the change with ST_HW_GEAR_VREG (R447). -/
  | gearRampTimeout (g : Fin 12)
  /-- A core rail outside ±30 mV for 1.00 µs sends its die to SAFE (R447). -/
  | coreRailOutOfBand (d : Fin 12)
  /-- The supply judges mains lost and the last-gasp record is written (R492). -/
  | mainsLost (ov : Bool)
  /-- Two good half-cycles restore mains and the bulk recharges (R492). -/
  | mainsRestored
  /-- Every 100 µs predicted hold-up is computed and WARN and NVINH set or clear (R493). -/
  | holdupTest (m : Meas)
  /-- Hold-up below 3.0 ms takes the module to DORMANT and switches the outputs off (R497). -/
  | powerLossDormant
  /-- The bulk falls below 200 V and the always-on domain moves to the coin cell (R497). -/
  | standbyOutputStop
  /-- Mains above threshold charges the bulk and brings up standby then main outputs (R499). -/
  | supplyStart (cap : Nat)
  /-- Main output not in regulation by 2.00 s records ST_HW_PWR_START and retries after 10.0 s (R499). -/
  | supplyStartFailure
  /-- Supply temperature above 95 or 110 °C flags or stops the power-factor stage (R500). -/
  | supplyOvertemp (stop : Bool)
  /-- Output above 500 W for 10.0 ms stops the power-factor stage (R500). -/
  | supplyOverload
  /-- After cooling or load relief and good mains, the power-factor stage restarts (R500). -/
  | supplyStageRestart
  /-- A die rail above 35.0 A for 20.0 µs is switched off and the die faults (R502). -/
  | dieOvercurrent (d : Fin 12)
  /-- Three missing telemetry frames lose the regulator link and fault the die (R501). -/
  | regulatorLinkLost (d : Fin 12)
  /-- A monitored rail outside its band sends regions to SAFE (R503). -/
  | railFault (rail : Fin 5) (d : Fin 12)
  /-- The coin cell is measured at start and every hour, setting BATLOW (R504). -/
  | coinCellMeasure (mv : Nat)
  /-- Mating or unmating the host connector changes HOST, resets PCIe and changes interlocks (R486). -/
  | hostConnectorMate (mated : Bool)
  /-- A WSP frame is received, checked and taken or discarded (R507). -/
  | wspFrameReceive (bytes : List Byte)
  /-- WSP IDENT returns identity, security and mode words (R509). -/
  | wspIdent (b : Bool)
  /-- WSP READ reads consecutive registers (R509). -/
  | wspRead (b : Bool) (a : BitVec 32) (n : BitVec 16)
  /-- WSP WRITE writes consecutive registers under ownership and control (R509). -/
  | wspWrite (b : Bool) (a : BitVec 32) (vs : List (BitVec 32))
  /-- WSP BAUD changes the link rate after the response (R511). -/
  | wspBaud (b : Bool) (i : BitVec 8)
  /-- No valid frame within 1.00 s at the new rate returns to 115,200 baud (R511). -/
  | wspBaudFallback
  /-- WSP TAKE gives control to the side-band master when permitted (R519). -/
  | wspTake (b : Bool)
  /-- WSP RELEASE returns control to the host (R520). -/
  | wspRelease (b : Bool)
  /-- WSP NVREAD returns non-volatile settings from the mirror (R512). -/
  | wspNvread (b : Bool) (off : BitVec 16) (n : BitVec 8)
  /-- WSP NVWRITE writes non-volatile settings as a short write (R512). -/
  | wspNvwrite (b : Bool) (off : BitVec 16) (l : List Byte)
  /-- WSP MEMREAD reads Welt memory through the management processor (R509). -/
  | wspMemread (b : Bool) (a : BitVec 48) (n : BitVec 16)
  /-- WSP MEMWRITE writes Welt memory through the management processor (R509). -/
  | wspMemwrite (b : Bool) (a : BitVec 48) (l : List Byte)
  /-- A host write of GLB_HEARTBEAT arms the monitor and clears a lapse, or counts a bad key (R517). -/
  | heartbeatWrite (value : BitVec 32)
  /-- TMO ms without a valid heartbeat sets LAPSED and takes the lapse action (R517). -/
  | heartbeatLapse
  /-- Side-band silence for SBP_IDLE.SEC with a live heartbeat returns control to the host (R520). -/
  | controlAutoReturn
  /-- Signed command operation 1 programs a key slot (R530). -/
  | signedProgramSlot (ok : Bool)
  /-- Signed command operation 2 revokes a key slot (R530). -/
  | signedRevokeSlot (ok : Bool)
  /-- Signed command operation 3 wipes, programs fuses and moves the life-cycle state (R525). -/
  | lifeCycleTransition (ok : Bool)
  /-- Signed command operation 4 unwraps a key blob into the key store (R527). -/
  | signedLoadKey
  /-- Signed command operation 5 erases one key or all keys (R530). -/
  | signedEraseKey
  /-- Signed command operation 6 opens the debug port in FIELD (R530). -/
  | signedDebugUnlock
  /-- Signed command operation 7 opens the cell service window (R534). -/
  | signedCellService
  /-- An enabled tamper source wipes secrets, records and takes its SAFE or ZERO actions (R532). -/
  | tamperEvent (src : Fin 5) (live : Bool)
  /-- The filtered OWNER_LOCK input changes the owner lock state (R528). -/
  | ownerLockChange (active : Bool)
  /-- The filtered MOTION input changes and update steps hold or proceed (R566). -/
  | motionInputChange (active : Bool)
  /-- A write of SEC_BATSVC.GO opens the 600 s cell service window (R534). -/
  | cellServiceOpen
  /-- The window expires or closes on loss of standby (R534). -/
  | cellServiceClose
  /-- A DBGACC poll captures the result of the latest window operation (R540). -/
  | dbgaccPoll (reserved : Bool)
  /-- A DBGACC read reads a register or Welt address, with PEEK avoiding side effects (R541). -/
  | dbgaccRead (peek space : Bool) (a : BitVec 48)
  /-- A DBGACC write writes a register or Welt address outside ownership (R541). -/
  | dbgaccWrite (space : Bool) (a : BitVec 48) (v : BitVec 32)
  /-- TRST* low or the domain powering up applies the debug reset (R537). -/
  | debugReset
  /-- PROBE_PRSNT changes and powers or unpowers the debug domain in DORMANT (R536). -/
  | probeAttach (on : Bool)
  /-- A core comparator hits on a retiring instruction and acts every SKIP + 1 hits (R546). -/
  | comparatorHit (c : Fin 384) (i : Fin 4) (addr data : BitVec 32)
  /-- A Welt monitor matches a packet and counts or acts (R548). -/
  | weltMonitorMatch (m : Fin 16) (die : Fin 13) (router : Fin 8) (q : Req)
  /-- A TRIGIN rising edge acts as DBG_CTL.TRIGACT selects (R549). -/
  | triginEdge
  /-- DBG_CORECMD ENTER requests monitor entry of a core (R550). -/
  | dbgCoreEnter (c : Fin 384)
  /-- A core enters the monitor at level 5 at an instruction boundary (R551). -/
  | monitorEntry (c : Fin 384)
  /-- A capture trigger with ARM fixes T and commands a capture (R559). -/
  | triggeredCapture
  /-- SHF_CMD STAGE checks an image and writes it into the shadow plane (R319). -/
  | shfStage (img : Image)
  /-- Shadow frames, banks and programs are written and STATE becomes STAGED (R319). -/
  | shfStagingComplete
  /-- SHF_CMD VERIFY verifies the shadow planes (R322). -/
  | shfVerify
  /-- SHF_CMD ARM checks gears and sends the arm message to every die (R323). -/
  | shfArm
  /-- A die not answered by 1.00 ms abandons the changeover with ST_SHF_ARMFAIL (R323). -/
  | armAnswerTimeout (miss : BitVec 13)
  /-- Every die and Welt element confirms and STATE becomes ARMED (R323). -/
  | armComplete
  /-- No COMMIT within ARMTMO abandons the changeover (R324). -/
  | armTimeout
  /-- SHF_CMD COMMIT fixes T_c at a lace frame boundary (R325). -/
  | shfCommit
  /-- At T_c − 10.0 µs a missing die acknowledgment abandons the changeover (R325). -/
  | commitAckDeadline (miss : BitVec 13)
  /-- At T_c the epoch changes and each die flips its planes at its commit edge (R325). -/
  | commitAtTc (ext : Tab (List Nat))
  /-- At T_c + 10.0 µs die reports set COMMITTED or start automatic rollback (R330). -/
  | commitReportDeadline (fails : List (Nat × Nat))
  /-- SHF_CMD ABANDON ends a changeover before commit (R317). -/
  | shfAbandon
  /-- SHF_CMD ROLLBACK fixes T_r and returns to the retained plane (R333). -/
  | shfRollback
  /-- At T_r every die flips back and flip-flops take their latch values (R333). -/
  | rollbackAtTr (ext : Tab (List Nat)) (fails : List (Nat × Nat))
  /-- SHF_CMD RELEASE gives up the retained plane (R331). -/
  | shfRelease
  /-- SHF_RELTMO seconds after T_c the changeover releases itself (R331). -/
  | autoRelease
  /-- SHF_CMD ATTACH flips the shadow selects of regions to attach (R338). -/
  | shfAttach (entriesOk : Bool)
  /-- SHF_CMD DETACH quiesces regions and raises QREQ (R337). -/
  | shfDetach
  /-- QACK or SHF_QTMO ends quiesce, refuses pending requests and stops cores (R337). -/
  | quiesceTimeout
  /-- Endpoints disabled, memories retained or off, and STATE returns to IDLE (R337). -/
  | detachComplete
  /-- UPD_CMD STAGE checks a package and writes new versions into the previous copies (R565). -/
  | updStage (pkg : Pkg) (stop : Option Nat)
  /-- UPD_CMD ACTIVATE arms the update for time T (R568). -/
  | updActivate
  /-- UPD_CMD ABORT returns an armed update to READY (R568). -/
  | updAbort
  /-- UPD_CMD REVERT switches executed steps back in reverse order (R575). -/
  | updRevert
  /-- UPD_CMD CONFIRM ends the trial and installs the update (R574). -/
  | updConfirm
  /-- At its grid time or after the previous step, a step begins if conditions allow (R569). -/
  | updateStepStart
  /-- A step held for HOLDOFF suspends the update (R569). -/
  | updateStepHoldTimeout
  /-- A component not running its new version in time is switched back and the update reverts or suspends (R573). -/
  | updateStepFailure (c : Fin 21)
  /-- UPD_TRIAL seconds after the last step the trial ends and the update is installed (R574). -/
  | trialEnd
  /-- A pending record is programmed into the ring and read back while NVINH is clear (R584). -/
  | blackBoxRecordProgram (ok1 : Bool) (ok2 : Bool) (eraseOk : Bool)
  /-- At the end of a second, suppressed records of a pair are summarised in one record (R585). -/
  | rateLimitSecondEnd
  /-- BBX_CMD operation 1 copies records to the Last store (R590). -/
  | bbxCopy
  /-- BBX_CMD operation 2 creates a host record (R590). -/
  | bbxHostRecord
  /-- BBX_CMD operation 3 erases the ring in HOLD (R590). -/
  | bbxErase
  /-- Every 1.00 ms every temperature sensor is read (R591). -/
  | temperatureReading (temps : List (Nat × BitVec 8 × Fin 32)) (last : BitVec 8)
  /-- After STEP or HLT_RAISE.SEC, the health policy lowers or raises a group's limit (R593). -/
  | gearPolicyStep (g : Fin 12)
  /-- A die above 115 °C faults to SAFE, and above 125 °C its rails switch off (R596). -/
  | dieOvertemp (d : Fin 12) (off : Bool)
  /-- Hourly the availability counters are written to the ring (R597). -/
  | availabilityCheckpoint
  /-- A read of an RP register returns and removes the head entry (R16). -/
  | rpQueuePop (m : Master) (a : Nat)
  /-- A read of an RC register returns its value and clears it (R15). -/
  | rcCounterRead (m : Master) (a : Nat)
  /-- A write to a register with no row of its own acts by its access code (R15). -/
  | registerWrite (m : Master) (a : Nat) (v : BitVec 32)
  /-- A rising edge of a running regional clock network, or of the die global clock of a spine register, updates flip-flops, product-block registers, spine registers and I/O cell registers (R46). -/
  | regionalClockEdge (d : Fin 12) (r : Fin 32) (clock : Fin 20) (ext : List Nat) (pads : BitVec 32) (idle : Bool)
  /-- An edge of the express clock moves values through launch, landing, pass-through and cross-connect registers (R83). -/
  | expressClockEdge (g : Fin 12) (ones : List Nat)
  /-- An Ethernet link goes up or down as a cage module or cable is fitted, removed or fails, and it trains when it comes up (R414). -/
  | ethLinkChange (c : Fin 4) (present : Bool) (up : BitVec 4) (fec : Fin 3)
  /-- The 1.00 ms frequency measurement of a receive direction ends and sets or clears REFLOCK, so stream delivery stops or starts again (R398). -/
  | reflockWindowEnd (b : Fin 8) (ppb : Int) (cycles : Nat)
  /-- A lane's window of 2^32 symbols ends and its corrected count restarts (R132). -/
  | laneWindowEnd (e : Fin 24) (dir : Fin 2) (g : Fin 4) (lane : Fin 88)
  /-- An Awl X or Y memory reaches ON after its wake time, and the stalled core and waiting Welt accesses proceed (R119). -/
  | awlMemoryWakeDone (d : Fin 12) (r : Fin 32) (y : Bool)
  /-- A fan drops below 1,000 revolutions per minute while driven, FAIL sets, a power event is written and the gear limit FANLIM applies (R595). -/
  | fanFailure (f : Fin 2) (rpm : Nat)
  /-- The coin cell is removed or inserted, setting or clearing BATABS and writing a cell service event during an open window (R504). -/
  | coinCellPresenceChange (present : Bool)
  /-- A die's regulator bus link carries telemetry again, and LINK sets so the acknowledgment check can pass (R501). -/
  | regulatorLinkRestored (d : Fin 12)
  /-- A general I/O bank supply returns within ±10 % of its nominal voltage and VFAULT clears (R427). -/
  | bankSupplyRestored (k : Fin 12)
  /-- A monitored rail or a core rail returns within its band, so a SAFE acknowledgment can pass (R503). -/
  | railBackInBand (rail : Fin 6) (d : Fin 12)
  /-- An Awl word with format 111, a reserved opcode, code or field, or a broken combination, becomes the oldest unretired instruction and raises ILLEGAL (R254). -/
  | reservedEncoding (f : Fetch)
  deriving DecidableEq, Repr

end Sys2Proof
end

