-- ==== Sys2Proof/Decode.lean ====
section
/-! DEFINITION. The words of the opcode table.  No row of spec/opcode_table.json gives a bit, so no word spells a command
(notes/assumptions/2.md). -/

namespace Sys2Proof

/-- The command a word of `nbits` bits spells by the table's bits: none.  [DEDUCED 2: notes/assumptions] -/
def decodeTableWord (_nbits _w : Nat) : Option Instr := none

end Sys2Proof
end

