-- ==== Sys2Proof/Machine/Flags.lean ====
section
/-! DEFINITION. Arithmetic, rounding, saturation and flags of the Awl core (R258 to R262). -/

namespace Sys2Proof.Machine

open Sys2Proof

/-- Bits of SR that instructions set (R224). -/
def srZ : Nat := 0
def srN : Nat := 1
def srC : Nat := 2
def srV : Nat := 3
def srE : Nat := 5
def srLV : Nat := 6
def srLS : Nat := 7

/-- What an instruction does to the flags of SR: the bits it sets, and their values (R262). -/
structure Flg where
  mask : Nat := 0
  val : Nat := 0
  deriving DecidableEq, Repr

/-- The flag at `b` takes `v`. -/
def Flg.put (f : Flg) (b : Nat) (v : Bool) : Flg :=
  { mask := f.mask ||| 2 ^ b, val := if v then f.val ||| 2 ^ b else f.val &&& (2 ^ 32 - 1 - 2 ^ b) }

/-- A sticky flag is set when `v` holds, and is otherwise unchanged. -/
def Flg.stick (f : Flg) (b : Nat) (v : Bool) : Flg := if v then f.put b true else f

/-- The flags of SR after the instruction. -/
def Flg.apply (f : Flg) (sr : Nat) : Nat := (sr &&& (2 ^ 32 - 1 - f.mask)) ||| (f.val &&& f.mask)

/-- The signed value of the low `w` bits of `x`. -/
def toS (w x : Nat) : Int := if x % 2 ^ w < 2 ^ (w - 1) then (x % 2 ^ w : Nat) else (x % 2 ^ w : Nat) - (2 ^ w : Nat)

/-- The low `w` bits of an integer. -/
def ofS (w : Nat) (x : Int) : Nat := (x % (2 ^ w : Nat)).toNat

/-- The value of `x` sign-extended from `v` to `w` bits. -/
def sext (v w x : Nat) : Nat := ofS w (toS v x)

/-- N and Z from a result of width `w` (R262). -/
def flagNZ (w x : Nat) (f : Flg) : Flg := (f.put srN (x / 2 ^ (w - 1) % 2 == 1)).put srZ (x % 2 ^ w == 0)

/-- acc() of R259: the 40-bit value written to an accumulator, and the flags. -/
def accR (sr : Nat) (r : Int) (f : Flg) : Nat × Flg :=
  let ovf := r < -2 ^ 39 || 2 ^ 39 - 1 < r
  let sata := ovf && bit sr 11 == 1
  let v := if sata then (if r < 0 then (-2 ^ 39 : Int) else 2 ^ 39 - 1) else toS 40 (ofS 40 r)
  let f := (((f.put srV ovf).stick srLV ovf).stick srLS sata)
  let f := (f.put srN (decide (v < 0))).put srZ (v == 0)
  (ofS 40 v, f.put srE (v < -2 ^ 31 || 2 ^ 31 - 1 < v))

/-- round16() of R260: the exact rounded value of a 40-bit accumulator. -/
def round16 (sr a : Nat) : Int :=
  let s := toS 40 a
  let m := bits sr 13 2
  let r := if m = 2 then s else
    let r := s + 0x8000
    if m ≠ 1 ∧ a % 65536 = 0x8000 then r - (if r / 65536 % 2 = 1 then 65536 else 0) else r
  r / 65536 * 65536

/-- sat16() and sat32() of R261, and whether they clamp. -/
def sat16 (r : Int) : Nat × Bool :=
  if 2 ^ 31 - 1 < r then (0x7FFF, true) else if r < -2 ^ 31 then (0x8000, true) else (ofS 16 (r / 65536), false)
def sat32 (r : Int) : Nat × Bool :=
  if 2 ^ 31 - 1 < r then (0x7FFFFFFF, true) else if r < -2 ^ 31 then (0x80000000, true) else (ofS 32 r, false)

/-- The exact product of R258. -/
def awlProduct (sr : Nat) (signed1 signed2 : Bool) (s1 s2 : Nat) : Int :=
  let a : Int := if signed1 then toS 16 s1 else (s1 % 65536 : Nat)
  let b : Int := if signed2 then toS 16 s2 else (s2 % 65536 : Nat)
  if bit sr 15 = 1 then a * b * 2 else a * b

/-- Width of an operand class of format 000: 0 W, 1 H, 2 A. -/
def szWidth (sz : Nat) : Nat := if sz = 0 then 32 else if sz = 1 then 16 else 40

/-- ADD, SUB and CMP, NEG (R262, R265): the result and flags of `s1 + s2`, or of `s1 − s2`. -/
def aluAdd (sr sz : Nat) (sub : Bool) (s1 s2 : Nat) : Nat × Flg :=
  let w := szWidth sz
  let a := s1 % 2 ^ w
  let b := s2 % 2 ^ w
  let exact : Int := if sub then toS w a - toS w b else toS w a + toS w b
  let carry := if sub then decide (b ≤ a) else decide (2 ^ w ≤ a + b)
  let f : Flg := ({} : Flg).put srC carry
  if sz = 2 then accR sr exact f
  else
    let r := ofS w exact
    let ovf := toS w r != exact
    (r, flagNZ w r ((f.put srV ovf).stick srLV ovf))

/-- A bitwise result `r` of AND, OR or XOR. -/
def aluLogic (sr sz r : Nat) : Nat × Flg :=
  let w := szWidth sz
  let f := (({} : Flg).put srV false).put srC false
  if sz = 2 then accR sr (toS 40 r) f else (r % 2 ^ w, flagNZ w r f)

/-- SHL by `n`. -/
def aluShl (sr sz s1 n : Nat) : Nat × Flg :=
  let w := szWidth sz
  let a := s1 % 2 ^ w
  let c := n ≠ 0 && n ≤ w && a / 2 ^ (w - n) % 2 == 1
  let f := ({} : Flg).put srC c
  if sz = 2 then accR sr (toS 40 a * 2 ^ n) f
  else
    let r := if w ≤ n then 0 else a * 2 ^ n % 2 ^ w
    let ovf := toS w r / 2 ^ n != toS w a
    (r, flagNZ w r ((f.put srV ovf).stick srLV ovf))

/-- SHR and ASR by `n`. -/
def aluShr (sr sz : Nat) (arith : Bool) (s1 n : Nat) : Nat × Flg :=
  let w := szWidth sz
  let a := s1 % 2 ^ w
  let r := if arith then ofS w (toS w a / 2 ^ n) else a / 2 ^ n
  let c := n ≠ 0 && (if arith then ofS 64 (toS w a) / 2 ^ (n - 1) % 2 == 1 else a / 2 ^ (n - 1) % 2 == 1)
  let f := (({} : Flg).put srC c).put srV false
  if sz = 2 then accR sr (toS 40 r) f else (r, flagNZ w r f)

/-- ABS. -/
def aluAbs (sr sz s1 : Nat) : Nat × Flg :=
  let w := szWidth sz
  let v := toS w s1
  let x := if v < 0 then -v else v
  let f := ({} : Flg).put srC false
  if sz = 2 then accR sr x f
  else
    let ovf := decide (2 ^ (w - 1) - 1 < x)
    (ofS w x, flagNZ w (ofS w x) ((f.put srV ovf).stick srLV ovf))

/-- SAT of an accumulator to the class `sz`. -/
def aluSat (sr sz a : Nat) : Nat × Flg :=
  let v := toS 40 a
  let c := if sz = 1 then sat16 v else sat32 v
  let f := ((({} : Flg).put srV false).stick srLS c.2)
  if sz = 2 then accR sr (toS 32 c.1) f else (c.1, flagNZ (szWidth sz) c.1 f)

/-- RND of an accumulator to the class `sz` (H or A). -/
def aluRnd (sr sz a : Nat) : Nat × Flg :=
  let v := round16 sr a
  if sz = 2 then accR sr v {}
  else if bit sr 12 = 1 then ((sat16 v).1, flagNZ 16 (sat16 v).1 ((({} : Flg).put srV false).stick srLS (sat16 v).2))
  else (ofS 16 (v / 65536), flagNZ 16 (ofS 16 (v / 65536)) (({} : Flg).put srV false))

/-- The operations 0x01 to 0x0D of R265 on operands `s1` and `s2` (the shift count for a shift): result and flags. -/
def aluOp (sr opc sz s1 s2 : Nat) : Nat × Flg :=
  match opc with
  | 0x01 => aluAdd sr sz false s1 s2
  | 0x02 => aluAdd sr sz true s1 s2
  | 0x03 => aluAdd sr sz true s1 s2
  | 0x04 => aluLogic sr sz (s1 &&& s2)
  | 0x05 => aluLogic sr sz (s1 ||| s2)
  | 0x06 => aluLogic sr sz (s1 ^^^ s2)
  | 0x07 => aluShl sr sz s1 s2
  | 0x08 => aluShr sr sz false s1 s2
  | 0x09 => aluShr sr sz true s1 s2
  | 0x0A => aluAdd sr sz true 0 s1
  | 0x0B => aluAbs sr sz s1
  | 0x0C => aluSat sr sz s1
  | _ => aluRnd sr sz s1

/-- MPY (0), MAC (1) and MSU (2) on an accumulator value and a product (R265, R266). -/
def accumulateOp (sr kind acc : Nat) (p : Int) : Nat × Flg :=
  accR sr (if kind = 0 then p else if kind = 1 then toS 40 acc + p else toS 40 acc - p) {}

/-- The sixteen conditions of BRC on SR (R275). -/
def condHolds (cond sr : Nat) : Bool :=
  let z := bit sr srZ == 1
  let n := bit sr srN == 1
  let c := bit sr srC == 1
  let v := bit sr srV == 1
  let e := bit sr srE == 1
  match cond with
  | 0 => z
  | 1 => !z
  | 2 => n != v
  | 3 => n == v
  | 4 => !z && n == v
  | 5 => z || n != v
  | 6 => c
  | 7 => !c
  | 8 => c && !z
  | 9 => !c || z
  | 10 => n
  | 11 => !n
  | 12 => v
  | 13 => !v
  | 14 => e
  | _ => !e

end Sys2Proof.Machine
end

