-- ==== Sys2Proof/Config.lean ====
section
/-! DEFINITION. What the spec leaves open and this model does not choose: constants without a body.  No proof can see
a value of theirs, so a claim holds whatever they are (notes/assumptions/1.md). -/

namespace Sys2Proof.Config

/-- A value that the spec leaves undefined, one for each number of the state's counter `fresh`. -/
opaque freeValue : Nat → BitVec 64

/-- Whether the ECDSA P-384 signature `sig` by the key `key` over the bytes `msg` verifies (R298, R529, R564). The curve's
arithmetic is not in the spec. -/
opaque signatureOk : (key sig : Nat) → (msg : List Nat) → Bool

/-- SHA-384 of a list of bytes, as one number (R296, R298, R526, R563). -/
opaque sha384 : List Nat → Nat

/-- The plaintext that AES key unwrap or AES-GCM gives for a key, a nonce and bytes, and whether its tag is right (R299, R527). -/
opaque decrypt : (key nonce : Nat) → List Nat → List Nat × Bool

/-- The 31 check bits of a frame's 16,384 bits (R281); the generator polynomial is not in the spec. -/
opaque frameCheckBits : Nat → Nat

end Sys2Proof.Config
end

