-- ==== Sys2Proof/Machine/RegKind.lean ====
section
/-! DEFINITION. What a management register is: its address, its instances, its owner and its fields with their access
codes (R12, R14, R15). -/

namespace Sys2Proof.Machine

/-- Access code of a field (R15). -/
inductive Acc where
  | ro | rw | w1c | w1s | rc | rp | wo
  deriving DecidableEq, Repr

/-- Owner of a register (R14, R515). -/
inductive Owner where
  | host | sideband | shared
  deriving DecidableEq, Repr

/-- A register field: the address of its register's first instance, its lowest bit, its width, its access code and the
value it reads after the reset of its block (R14, R476). -/
structure Fld where
  adr : Nat
  lo : Nat
  w : Nat
  acc : Acc
  rst : Nat
  deriving DecidableEq, Repr

/-- A register: name, address of its first instance, the stride and count of each index (outermost first), owner, and
its defined fields.  A bit in no field is reserved: it reads 0 and a write to it is lost (R14). -/
structure Reg where
  name : String
  adr : Nat
  dims : List (Nat × Nat)
  own : Owner
  flds : List Fld
  deriving DecidableEq, Repr

/-- Whether `off` is the offset of an instance: the outermost stride first. -/
def dimsHave : List (Nat × Nat) → Nat → Bool
  | [], off => off == 0
  | (s, n) :: t, off => off / s < n && dimsHave t (off % s)

/-- Whether the register has an instance at address `a`. -/
def Reg.at? (r : Reg) (a : Nat) : Bool := r.adr ≤ a && dimsHave r.dims (a - r.adr)

end Sys2Proof.Machine
end

