-- ==== Sys2Proof/Machine/RegMapA.lean ====
section
/-! DEFINITION. The register fields of the per-die spaces (FDC, BNK, AWL) and the EYE, WLT and QUE blocks, one constant per field (address of instance 0, lowest bit,
width, access code, reset value), and the registers they make up, as the register tables of the chapters named give
them (R12, R14, R15).  A field whose reset is "HW" in the spec takes the value of notes/assumptions/3.md. -/

namespace Sys2Proof.Machine

/-! WLT_SVC (spec/06_welt_network.md; shared) -/
def WLT_SVC_REQIGN : Fld := ⟨0x60000, 4, 1, .w1c, 0⟩
def WLT_SVC_TEST : Fld := ⟨0x60000, 3, 1, .ro, 0⟩
def WLT_SVC_STATE : Fld := ⟨0x60000, 0, 3, .ro, 0⟩
/-! WLT_SVCREQ (spec/06_welt_network.md; host-owned) -/
def WLT_SVCREQ_SPLIT : Fld := ⟨0x60004, 0, 1, .rw, 0⟩
/-! WLT_RSPTMO (spec/06_welt_network.md; host-owned) -/
def WLT_RSPTMO_TMO : Fld := ⟨0x60008, 0, 20, .rw, 100⟩
/-! WLT_LOCKTMO (spec/06_welt_network.md; host-owned) -/
def WLT_LOCKTMO_TMO : Fld := ⟨0x6000C, 0, 16, .rw, 200⟩
/-! WLT_ERRLOG (spec/06_welt_network.md; shared) -/
def WLT_ERRLOG_VALID : Fld := ⟨0x60010, 31, 1, .rp, 0⟩
def WLT_ERRLOG_LOST : Fld := ⟨0x60010, 30, 1, .rp, 0⟩
def WLT_ERRLOG_OP : Fld := ⟨0x60010, 24, 6, .rp, 0⟩
def WLT_ERRLOG_KIND : Fld := ⟨0x60010, 16, 4, .rp, 0⟩
def WLT_ERRLOG_STATUS : Fld := ⟨0x60010, 0, 16, .rp, 0⟩
/-! WLT_ERRLOG2 (spec/06_welt_network.md; shared) -/
def WLT_ERRLOG2_SRC : Fld := ⟨0x60014, 16, 16, .ro, 0⟩
def WLT_ERRLOG2_DST : Fld := ⟨0x60014, 0, 16, .ro, 0⟩
/-! WLT_ERRCNT (spec/06_welt_network.md; shared) -/
def WLT_ERRCNT_COUNT : Fld := ⟨0x60018, 0, 32, .rc, 0⟩
/-! WLT_SNPOCC (spec/06_welt_network.md; shared) -/
def WLT_SNPOCC_ENTRIES : Fld := ⟨0x60020, 0, 17, .ro, 0⟩
/-! WLT_SNPEVC (spec/06_welt_network.md; shared) -/
def WLT_SNPEVC_COUNT : Fld := ⟨0x60024, 0, 32, .rc, 0⟩
/-! WLT_BRWIN (spec/06_welt_network.md; host-owned) -/
def WLT_BRWIN_EN : Fld := ⟨0x60100, 31, 1, .rw, 0⟩
def WLT_BRWIN_WRALLOW : Fld := ⟨0x60100, 30, 1, .rw, 0⟩
def WLT_BRWIN_BUNDLE : Fld := ⟨0x60100, 27, 3, .rw, 0⟩
/-! WLT_BRBASE (spec/06_welt_network.md; host-owned) -/
def WLT_BRBASE_RMOD : Fld := ⟨0x60104, 24, 8, .rw, 0⟩
def WLT_BRBASE_RBASE : Fld := ⟨0x60104, 0, 15, .rw, 0⟩
/-! WLT_LACE (spec/07_welt_guaranteed_service.md; shared) -/
def WLT_LACE_RUN : Fld := ⟨0x61000, 31, 1, .ro, 0⟩
def WLT_LACE_SBANK : Fld := ⟨0x61000, 30, 1, .ro, 0⟩
def WLT_LACE_VIDX : Fld := ⟨0x61000, 24, 5, .ro, 0⟩
def WLT_LACE_SLOT : Fld := ⟨0x61000, 0, 10, .ro, 0⟩
/-! WLT_LACEFRM (spec/07_welt_guaranteed_service.md; shared) -/
def WLT_LACEFRM_FRAME : Fld := ⟨0x61004, 0, 32, .ro, 0⟩
/-! WLT_HALFSET (spec/07_welt_guaranteed_service.md; shared) -/
def WLT_HALFSET_HALF : Fld := ⟨0x61008, 0, 24, .ro, 0⟩
/-! WLT_EPOCH (spec/07_welt_guaranteed_service.md; shared) -/
def WLT_EPOCH_STATUS : Fld := ⟨0x61010, 16, 16, .ro, 0⟩
def WLT_EPOCH_DRAINTO : Fld := ⟨0x61010, 3, 1, .w1c, 0⟩
def WLT_EPOCH_STATE : Fld := ⟨0x61010, 1, 2, .ro, 0⟩
def WLT_EPOCH_CUR : Fld := ⟨0x61010, 0, 1, .ro, 0⟩
/-! WLT_EPOCHF (spec/07_welt_guaranteed_service.md; shared) -/
def WLT_EPOCHF_F : Fld := ⟨0x61014, 0, 32, .ro, 0⟩
/-! WLT_OLDCNT (spec/07_welt_guaranteed_service.md; shared) -/
def WLT_OLDCNT_COUNT : Fld := ⟨0x61018, 0, 20, .ro, 0⟩
/-! WLT_DRAINTMO (spec/07_welt_guaranteed_service.md; host-owned) -/
def WLT_DRAINTMO_TMO : Fld := ⟨0x6101C, 0, 20, .rw, 100⟩
/-! WLT_FLOWSEL (spec/07_welt_guaranteed_service.md; shared) -/
def WLT_FLOWSEL_FLOW : Fld := ⟨0x61030, 0, 10, .rw, 0⟩
/-! WLT_FLOWA (spec/07_welt_guaranteed_service.md; shared) -/
def WLT_FLOWA_EN : Fld := ⟨0x61034, 31, 1, .ro, 0⟩
def WLT_FLOWA_SCHED : Fld := ⟨0x61034, 30, 1, .ro, 0⟩
def WLT_FLOWA_SLOTS : Fld := ⟨0x61034, 16, 11, .ro, 0⟩
def WLT_FLOWA_SRC : Fld := ⟨0x61034, 0, 16, .ro, 0⟩
/-! WLT_FLOWB (spec/07_welt_guaranteed_service.md; shared) -/
def WLT_FLOWB_DST : Fld := ⟨0x61038, 16, 16, .ro, 0⟩
def WLT_FLOWB_DLY : Fld := ⟨0x61038, 8, 8, .ro, 0⟩
/-! WLT_FLOWUNITS (spec/07_welt_guaranteed_service.md; shared) -/
def WLT_FLOWUNITS_COUNT : Fld := ⟨0x6103C, 0, 32, .rc, 0⟩
/-! WLT_FLOWHELD (spec/07_welt_guaranteed_service.md; shared) -/
def WLT_FLOWHELD_COUNT : Fld := ⟨0x61040, 0, 32, .rc, 0⟩
/-! WLT_FLOWOVR (spec/07_welt_guaranteed_service.md; shared) -/
def WLT_FLOWOVR_COUNT : Fld := ⟨0x61044, 0, 32, .rc, 0⟩
/-! WLT_FLOWCMD (spec/07_welt_guaranteed_service.md; host-owned) -/
def WLT_FLOWCMD_STATUS : Fld := ⟨0x61048, 16, 16, .ro, 0⟩
def WLT_FLOWCMD_BUSY : Fld := ⟨0x61048, 15, 1, .ro, 0⟩
def WLT_FLOWCMD_GO : Fld := ⟨0x61048, 14, 1, .wo, 0⟩
def WLT_FLOWCMD_OP : Fld := ⟨0x61048, 12, 2, .rw, 0⟩
def WLT_FLOWCMD_FLOW : Fld := ⟨0x61048, 0, 10, .rw, 0⟩
/-! WLT_FLOWCMD2 (spec/07_welt_guaranteed_service.md; host-owned) -/
def WLT_FLOWCMD2_TO : Fld := ⟨0x6104C, 0, 10, .rw, 0⟩
/-! WLT_STSEL (spec/07_welt_guaranteed_service.md; shared) -/
def WLT_STSEL_EP : Fld := ⟨0x61100, 0, 16, .rw, 0⟩
/-! WLT_STCTL (spec/07_welt_guaranteed_service.md; host-owned) -/
def WLT_STCTL_EN : Fld := ⟨0x61104, 31, 1, .rw, 1⟩
def WLT_STCTL_SNAP : Fld := ⟨0x61104, 30, 1, .wo, 0⟩
def WLT_STCTL_WINDOW : Fld := ⟨0x61104, 0, 20, .rw, 0x3e8⟩
/-! WLT_STSEQ (spec/07_welt_guaranteed_service.md; shared) -/
def WLT_STSEQ_SEQ : Fld := ⟨0x61108, 0, 32, .ro, 0⟩
/-! WLT_STPKT (spec/07_welt_guaranteed_service.md; shared) -/
def WLT_STPKT_VALUE : Fld := ⟨0x61110, 0, 32, .ro, 0⟩
/-! WLT_STBYTL (spec/07_welt_guaranteed_service.md; shared) -/
def WLT_STBYTL_VALUE : Fld := ⟨0x61120, 0, 32, .ro, 0⟩
/-! WLT_STBYTH (spec/07_welt_guaranteed_service.md; shared) -/
def WLT_STBYTH_VALUE : Fld := ⟨0x61124, 0, 32, .ro, 0⟩
/-! WLT_STHIST (spec/07_welt_guaranteed_service.md; shared) -/
def WLT_STHIST_VALUE : Fld := ⟨0x61140, 0, 32, .ro, 0⟩
/-! WLT_STMAX (spec/07_welt_guaranteed_service.md; shared) -/
def WLT_STMAX_VALUE : Fld := ⟨0x61180, 0, 32, .ro, 0⟩
/-! QUE_QCMD (spec/08_queues_and_last_store.md; host-owned) -/
def QUE_QCMD_STATUS : Fld := ⟨0x70000, 16, 16, .ro, 0⟩
def QUE_QCMD_BUSY : Fld := ⟨0x70000, 15, 1, .ro, 0⟩
def QUE_QCMD_GO : Fld := ⟨0x70000, 14, 1, .wo, 0⟩
def QUE_QCMD_OP : Fld := ⟨0x70000, 11, 3, .rw, 0⟩
/-! QUE_QSEL (spec/08_queues_and_last_store.md; shared) -/
def QUE_QSEL_Q : Fld := ⟨0x70004, 0, 16, .rw, 0⟩
/-! QUE_SBASEL (spec/08_queues_and_last_store.md; host-owned) -/
def QUE_SBASEL_BASE : Fld := ⟨0x70008, 6, 26, .rw, 0⟩
/-! QUE_SBASEH (spec/08_queues_and_last_store.md; host-owned) -/
def QUE_SBASEH_BASE : Fld := ⟨0x7000C, 0, 16, .rw, 0⟩
/-! QUE_SPARM (spec/08_queues_and_last_store.md; host-owned) -/
def QUE_SPARM_NTHR : Fld := ⟨0x70010, 27, 5, .rw, 0⟩
def QUE_SPARM_NMODE : Fld := ⟨0x70010, 24, 3, .rw, 0⟩
def QUE_SPARM_MC : Fld := ⟨0x70010, 23, 1, .rw, 0⟩
def QUE_SPARM_MP : Fld := ⟨0x70010, 22, 1, .rw, 0⟩
def QUE_SPARM_LOG2N : Fld := ⟨0x70010, 16, 5, .rw, 0⟩
/-! QUE_SNOTE (spec/08_queues_and_last_store.md; host-owned) -/
def QUE_SNOTE_NSUB : Fld := ⟨0x70014, 21, 5, .rw, 0⟩
def QUE_SNOTE_NTGT : Fld := ⟨0x70014, 0, 16, .rw, 0⟩
/-! QUE_QPMASK (spec/08_queues_and_last_store.md; shared) -/
def QUE_QPMASK_MASK : Fld := ⟨0x70018, 0, 32, .ro, 0⟩
/-! QUE_QCMASK (spec/08_queues_and_last_store.md; shared) -/
def QUE_QCMASK_MASK : Fld := ⟨0x7001C, 0, 32, .ro, 0⟩
/-! QUE_EVENT (spec/08_queues_and_last_store.md; shared) -/
def QUE_EVENT_VALID : Fld := ⟨0x70020, 31, 1, .rp, 0⟩
def QUE_EVENT_LOST : Fld := ⟨0x70020, 30, 1, .rp, 0⟩
def QUE_EVENT_KIND : Fld := ⟨0x70020, 26, 4, .rp, 0⟩
def QUE_EVENT_Q : Fld := ⟨0x70020, 0, 16, .rp, 0⟩
/-! QUE_OPS (spec/08_queues_and_last_store.md; shared) -/
def QUE_OPS_COUNT : Fld := ⟨0x70024, 0, 32, .rc, 0⟩
/-! QUE_REFUSED (spec/08_queues_and_last_store.md; shared) -/
def QUE_REFUSED_COUNT : Fld := ⟨0x70028, 0, 32, .rc, 0⟩
/-! QUE_ENCNT (spec/08_queues_and_last_store.md; shared) -/
def QUE_ENCNT_COUNT : Fld := ⟨0x7002C, 0, 17, .ro, 0⟩
/-! EYE_CTL (spec/05_eyelets.md; host-owned) -/
def EYE_CTL_BERTH : Fld := ⟨0xB0000, 16, 16, .rw, 16⟩
def EYE_CTL_AUTOHALF : Fld := ⟨0xB0000, 3, 1, .rw, 1⟩
def EYE_CTL_AUTORSV : Fld := ⟨0xB0000, 2, 1, .rw, 1⟩
def EYE_CTL_AUTOSPARE : Fld := ⟨0xB0000, 1, 1, .rw, 1⟩
/-! EYE_LSEL (spec/05_eyelets.md; shared) -/
def EYE_LSEL_EYELET : Fld := ⟨0xB0010, 12, 5, .rw, 0⟩
def EYE_LSEL_DIR : Fld := ⟨0xB0010, 11, 1, .rw, 0⟩
def EYE_LSEL_GROUP : Fld := ⟨0xB0010, 9, 2, .rw, 0⟩
def EYE_LSEL_LANE : Fld := ⟨0xB0010, 0, 7, .rw, 0⟩
/-! EYE_LDAT (spec/05_eyelets.md; shared) -/
def EYE_LDAT_ROLE : Fld := ⟨0xB0014, 28, 4, .ro, 0⟩
def EYE_LDAT_SUBST : Fld := ⟨0xB0014, 20, 8, .ro, 255⟩
def EYE_LDAT_CORR : Fld := ⟨0xB0014, 0, 20, .ro, 0⟩
/-! EYE_EVENT (spec/05_eyelets.md; shared) -/
def EYE_EVENT_VALID : Fld := ⟨0xB0020, 31, 1, .rp, 0⟩
def EYE_EVENT_KIND : Fld := ⟨0xB0020, 28, 3, .rp, 0⟩
def EYE_EVENT_EYELET : Fld := ⟨0xB0020, 23, 5, .rp, 0⟩
def EYE_EVENT_DIR : Fld := ⟨0xB0020, 22, 1, .rp, 0⟩
def EYE_EVENT_GROUP : Fld := ⟨0xB0020, 20, 2, .rp, 0⟩
def EYE_EVENT_LANE : Fld := ⟨0xB0020, 13, 7, .rp, 0⟩
def EYE_EVENT_LOST : Fld := ⟨0xB0020, 12, 1, .rp, 0⟩
/-! EYE_CMD (spec/05_eyelets.md; host-owned) -/
def EYE_CMD_STATUS : Fld := ⟨0xB0030, 16, 16, .ro, 0⟩
def EYE_CMD_BUSY : Fld := ⟨0xB0030, 15, 1, .ro, 0⟩
def EYE_CMD_GO : Fld := ⟨0xB0030, 14, 1, .wo, 0⟩
def EYE_CMD_OP : Fld := ⟨0xB0030, 11, 3, .rw, 0⟩
/-! EYE_CMDTGT (spec/05_eyelets.md; host-owned) -/
def EYE_CMDTGT_EYELET : Fld := ⟨0xB0034, 12, 5, .rw, 0⟩
def EYE_CMDTGT_DIR : Fld := ⟨0xB0034, 11, 1, .rw, 0⟩
def EYE_CMDTGT_GROUP : Fld := ⟨0xB0034, 9, 2, .rw, 0⟩
def EYE_CMDTGT_LANE : Fld := ⟨0xB0034, 0, 7, .rw, 0⟩
/-! EYE_STAT (spec/05_eyelets.md; shared) -/
def EYE_STAT_REASON : Fld := ⟨0xB0100, 16, 16, .ro, 0⟩
def EYE_STAT_PROTO : Fld := ⟨0xB0100, 12, 4, .ro, 0⟩
def EYE_STAT_WWIDTH : Fld := ⟨0xB0100, 10, 2, .ro, 0⟩
def EYE_STAT_GUP : Fld := ⟨0xB0100, 4, 4, .ro, 0⟩
def EYE_STAT_CORNER : Fld := ⟨0xB0100, 3, 1, .ro, 0⟩
def EYE_STAT_STATE : Fld := ⟨0xB0100, 0, 3, .ro, 0⟩
/-! EYE_GSTAT (spec/05_eyelets.md; shared) -/
def EYE_GSTAT_SPUSED : Fld := ⟨0xB1000, 28, 4, .ro, 0⟩
def EYE_GSTAT_RSVUSED : Fld := ⟨0xB1000, 24, 4, .ro, 0⟩
def EYE_GSTAT_RETIRED : Fld := ⟨0xB1000, 16, 8, .ro, 0⟩
def EYE_GSTAT_FAILED : Fld := ⟨0xB1000, 8, 8, .ro, 0⟩
def EYE_GSTAT_INSVC : Fld := ⟨0xB1000, 0, 1, .ro, 0⟩
/-! EYE_SPMAP (spec/05_eyelets.md; shared) -/
def EYE_SPMAP_MAP : Fld := ⟨0xB1004, 0, 32, .ro, 0xffffffff⟩
/-! EYE_CORR (spec/05_eyelets.md; shared) -/
def EYE_CORR_COUNT : Fld := ⟨0xB1008, 0, 32, .rc, 0⟩
/-! EYE_UNC (spec/05_eyelets.md; shared) -/
def EYE_UNC_COUNT : Fld := ⟨0xB100C, 0, 32, .rc, 0⟩
/-! EYE_RSVMAP (spec/05_eyelets.md; shared) -/
def EYE_RSVMAP_USED : Fld := ⟨0xB1010, 0, 8, .ro, 0⟩
/-! FDC_IDENT (spec/01_dies_and_the_last.md; shared) -/
def FDC_IDENT_SERIAL : Fld := ⟨0x1000000, 16, 16, .ro, 0⟩
def FDC_IDENT_STEP : Fld := ⟨0x1000000, 8, 8, .ro, 0⟩
def FDC_IDENT_TYPE : Fld := ⟨0x1000000, 0, 8, .ro, 0⟩
/-! FDC_CAPW (spec/01_dies_and_the_last.md; shared) -/
def FDC_CAPW_FMT : Fld := ⟨0x1000004, 28, 4, .ro, 0⟩
def FDC_CAPW_GEN : Fld := ⟨0x1000004, 24, 4, .ro, 0⟩
def FDC_CAPW_PROTO : Fld := ⟨0x1000004, 20, 4, .ro, 0⟩
def FDC_CAPW_LOW : Fld := ⟨0x1000004, 0, 20, .ro, 0⟩
/-! FDC_CAPEN (spec/01_dies_and_the_last.md; shared) -/
def FDC_CAPEN_FEAT : Fld := ⟨0x1000008, 0, 8, .ro, 0⟩
/-! FDC_TRIMCFG (spec/03_fabric_routing_timing_classes.md; host-owned) -/
def FDC_TRIMCFG_WARN : Fld := ⟨0x1000040, 0, 5, .rw, 20⟩
/-! FDC_RSTAT (spec/02_fabric_cells.md; shared) -/
def FDC_RSTAT_RESTIGN : Fld := ⟨0x1010000, 11, 1, .w1c, 0⟩
def FDC_RSTAT_CAPPEND : Fld := ⟨0x1010000, 10, 1, .ro, 0⟩
def FDC_RSTAT_CAPDONE : Fld := ⟨0x1010000, 9, 1, .w1c, 0⟩
def FDC_RSTAT_LOADED : Fld := ⟨0x1010000, 8, 1, .ro, 0⟩
def FDC_RSTAT_CLKRUN : Fld := ⟨0x1010000, 0, 4, .ro, 0⟩
/-! FDC_RCTL (spec/02_fabric_cells.md; host-owned) -/
def FDC_RCTL_RESTORE : Fld := ⟨0x1010004, 0, 1, .wo, 0⟩
/-! FDC_RWAKES (spec/02_fabric_cells.md; shared) -/
def FDC_RWAKES_COUNT : Fld := ⟨0x1010008, 0, 16, .rc, 0⟩
/-! FDC_RCLK (spec/02_fabric_cells.md; host-owned) -/
def FDC_RCLK_SRC : Fld := ⟨0x1010010, 28, 4, .rw, 0⟩
def FDC_RCLK_MODE : Fld := ⟨0x1010010, 26, 2, .rw, 0⟩
def FDC_RCLK_WELT : Fld := ⟨0x1010010, 25, 1, .rw, 0⟩
def FDC_RCLK_EVT : Fld := ⟨0x1010010, 24, 1, .rw, 0⟩
def FDC_RCLK_TMR : Fld := ⟨0x1010010, 23, 1, .rw, 0⟩
def FDC_RCLK_EVSEL : Fld := ⟨0x1010010, 16, 5, .rw, 0⟩
def FDC_RCLK_IDLE : Fld := ⟨0x1010010, 0, 12, .rw, 0⟩
/-! FDC_RWTMR (spec/02_fabric_cells.md; host-owned) -/
def FDC_RWTMR_PERIODIC : Fld := ⟨0x1010020, 31, 1, .rw, 0⟩
def FDC_RWTMR_RELOAD : Fld := ⟨0x1010020, 0, 24, .rw, 0⟩
/-! FDC_TRIM (spec/03_fabric_routing_timing_classes.md; host-owned) -/
def FDC_TRIM_FREEZE : Fld := ⟨0x1010040, 31, 1, .rw, 0⟩
def FDC_TRIM_SETCODE : Fld := ⟨0x1010040, 16, 7, .rw, 0⟩
def FDC_TRIM_CODE : Fld := ⟨0x1010040, 0, 7, .ro, 0⟩
/-! FDC_TRIMST (spec/03_fabric_routing_timing_classes.md; shared) -/
def FDC_TRIMST_REASON : Fld := ⟨0x1010044, 16, 16, .ro, 0⟩
def FDC_TRIMST_DEV : Fld := ⟨0x1010044, 8, 8, .ro, 0⟩
def FDC_TRIMST_FRZIGN : Fld := ⟨0x1010044, 4, 1, .w1c, 0⟩
def FDC_TRIMST_TRIMFAULT : Fld := ⟨0x1010044, 3, 1, .ro, 0⟩
def FDC_TRIMST_TRIMWARN : Fld := ⟨0x1010044, 2, 1, .w1c, 0⟩
def FDC_TRIMST_TRIMLOCK : Fld := ⟨0x1010044, 1, 1, .ro, 0⟩
def FDC_TRIMST_ACTIVE : Fld := ⟨0x1010044, 0, 1, .ro, 0⟩
/-! FDC_BNKARB (spec/04_fabric_memory_banks.md; host-owned) -/
def FDC_BNKARB_WFORCE : Fld := ⟨0x1010048, 0, 8, .rw, 64⟩
/-! FDC_AWLMEM (spec/04_fabric_memory_banks.md; host-owned) -/
def FDC_AWLMEM_YSTATE : Fld := ⟨0x101004C, 10, 2, .ro, 0⟩
def FDC_AWLMEM_XSTATE : Fld := ⟨0x101004C, 8, 2, .ro, 0⟩
def FDC_AWLMEM_YRET : Fld := ⟨0x101004C, 1, 1, .rw, 0⟩
def FDC_AWLMEM_XRET : Fld := ⟨0x101004C, 0, 1, .rw, 0⟩
/-! BNK_CONF_A (spec/04_fabric_memory_banks.md; shared) -/
def BNK_CONF_A_COUNT : Fld := ⟨0x1010080, 0, 32, .rc, 0⟩
/-! BNK_CONF_B (spec/04_fabric_memory_banks.md; shared) -/
def BNK_CONF_B_COUNT : Fld := ⟨0x1010084, 0, 32, .rc, 0⟩
/-! BNK_CONF_W (spec/04_fabric_memory_banks.md; shared) -/
def BNK_CONF_W_COUNT : Fld := ⟨0x1010088, 0, 32, .rc, 0⟩
/-! BNK_CONF_C (spec/04_fabric_memory_banks.md; shared) -/
def BNK_CONF_C_COUNT : Fld := ⟨0x101008C, 0, 32, .rc, 0⟩
/-! BNK_CTL (spec/04_fabric_memory_banks.md; host-owned) -/
def BNK_CTL_AUTOWAKE : Fld := ⟨0x1020000, 2, 1, .rw, 1⟩
def BNK_CTL_PWRREQ : Fld := ⟨0x1020000, 0, 2, .rw, 0⟩
/-! BNK_STAT (spec/04_fabric_memory_banks.md; shared) -/
def BNK_STAT_SPFAIL : Fld := ⟨0x1020004, 8, 4, .ro, 0⟩
def BNK_STAT_UE : Fld := ⟨0x1020004, 7, 1, .w1c, 0⟩
def BNK_STAT_CE : Fld := ⟨0x1020004, 6, 1, .w1c, 0⟩
def BNK_STAT_SEALED : Fld := ⟨0x1020004, 5, 1, .ro, 0⟩
def BNK_STAT_TDP : Fld := ⟨0x1020004, 4, 1, .ro, 0⟩
def BNK_STAT_PWR : Fld := ⟨0x1020004, 0, 2, .ro, 0⟩
/-! BNK_ERRADR (spec/04_fabric_memory_banks.md; shared) -/
def BNK_ERRADR_VALID : Fld := ⟨0x1020008, 31, 1, .ro, 0⟩
def BNK_ERRADR_KIND : Fld := ⟨0x1020008, 30, 1, .ro, 0⟩
def BNK_ERRADR_SPARE : Fld := ⟨0x1020008, 11, 1, .ro, 0⟩
def BNK_ERRADR_WORD : Fld := ⟨0x1020008, 0, 10, .ro, 0⟩
/-! BNK_REMAPCMD (spec/04_fabric_memory_banks.md; host-owned) -/
def BNK_REMAPCMD_STATUS : Fld := ⟨0x102000C, 16, 16, .ro, 0⟩
def BNK_REMAPCMD_BUSY : Fld := ⟨0x102000C, 15, 1, .ro, 0⟩
def BNK_REMAPCMD_GO : Fld := ⟨0x102000C, 14, 1, .wo, 0⟩
def BNK_REMAPCMD_ADDR : Fld := ⟨0x102000C, 0, 10, .rw, 0⟩
/-! BNK_REMAP (spec/04_fabric_memory_banks.md; shared) -/
def BNK_REMAP_VALID : Fld := ⟨0x1020010, 31, 1, .ro, 0⟩
def BNK_REMAP_SPARE : Fld := ⟨0x1020010, 10, 2, .ro, 0⟩
def BNK_REMAP_ADDR : Fld := ⟨0x1020010, 0, 10, .ro, 0⟩
/-! AWL_CTL (spec/09_awl_core.md; host-owned) -/
def AWL_CTL_STATUS : Fld := ⟨0x1040000, 16, 16, .ro, 0⟩
def AWL_CTL_RESET : Fld := ⟨0x1040000, 2, 1, .wo, 0⟩
def AWL_CTL_STOP : Fld := ⟨0x1040000, 1, 1, .wo, 0⟩
def AWL_CTL_START : Fld := ⟨0x1040000, 0, 1, .wo, 0⟩
/-! AWL_STAT (spec/09_awl_core.md; shared) -/
def AWL_STAT_XVEC : Fld := ⟨0x1040004, 16, 8, .ro, 0⟩
def AWL_STAT_WDBITE : Fld := ⟨0x1040004, 10, 1, .w1c, 0⟩
def AWL_STAT_WDEXC : Fld := ⟨0x1040004, 9, 1, .w1c, 0⟩
def AWL_STAT_DFAULT : Fld := ⟨0x1040004, 8, 1, .w1c, 0⟩
def AWL_STAT_IPL : Fld := ⟨0x1040004, 4, 3, .ro, 0⟩
def AWL_STAT_MODESTOP : Fld := ⟨0x1040004, 3, 1, .ro, 0⟩
def AWL_STAT_STATE : Fld := ⟨0x1040004, 0, 3, .ro, 0⟩
/-! AWL_PC (spec/09_awl_core.md; shared) -/
def AWL_PC_PC : Fld := ⟨0x1040008, 0, 32, .ro, 0⟩
/-! AWL_IPEND (spec/09_awl_core.md; shared) -/
def AWL_IPEND_PEND : Fld := ⟨0x1040010, 0, 32, .w1c, 0⟩
/-! AWL_ISET (spec/09_awl_core.md; shared) -/
def AWL_ISET_SET : Fld := ⟨0x1040014, 0, 32, .wo, 0⟩
/-! AWL_IEN (spec/09_awl_core.md; shared) -/
def AWL_IEN_EN : Fld := ⟨0x1040018, 0, 32, .rw, 0⟩
/-! AWL_IPRI0 (spec/09_awl_core.md; shared) -/
def AWL_IPRI0_PRI : Fld := ⟨0x104001C, 0, 32, .rw, 0⟩
/-! AWL_IPRI1 (spec/09_awl_core.md; shared) -/
def AWL_IPRI1_PRI : Fld := ⟨0x1040020, 0, 32, .rw, 0⟩
/-! AWL_ICFG (spec/09_awl_core.md; host-owned) -/
def AWL_ICFG_EDGE : Fld := ⟨0x1040024, 0, 16, .rw, 0⟩
/-! AWL_WDGCFG (spec/09_awl_core.md; host-owned) -/
def AWL_WDGCFG_EN : Fld := ⟨0x1040030, 31, 1, .rw, 0⟩
def AWL_WDGCFG_ACT : Fld := ⟨0x1040030, 30, 1, .rw, 0⟩
def AWL_WDGCFG_RELOAD : Fld := ⟨0x1040030, 0, 24, .rw, 0xffffff⟩
/-! AWL_WDGCNT (spec/09_awl_core.md; shared) -/
def AWL_WDGCNT_COUNT : Fld := ⟨0x1040034, 0, 24, .ro, 0xffffff⟩
/-! AWL_WDGCFG2 (spec/09_awl_core.md; host-owned) -/
def AWL_WDGCFG2_GRACE : Fld := ⟨0x1040038, 0, 24, .rw, 0x2710⟩
/-! AWL_FAULT (spec/09_awl_core.md; shared) -/
def AWL_FAULT_STATUS : Fld := ⟨0x1040040, 16, 16, .ro, 0⟩
def AWL_FAULT_ADDRH : Fld := ⟨0x1040040, 0, 16, .ro, 0⟩
/-! AWL_FADDR (spec/09_awl_core.md; shared) -/
def AWL_FADDR_ADDR : Fld := ⟨0x1040044, 0, 32, .ro, 0⟩
/-! AWL_SFSTAT (spec/09_awl_core.md; shared) -/
def AWL_SFSTAT_STATUS : Fld := ⟨0x1040048, 16, 16, .ro, 0⟩
def AWL_SFSTAT_COUNT : Fld := ⟨0x1040048, 0, 16, .rc, 0⟩

/-- The registers of block WLT, part 1. -/
def regsWlt1 : List Reg := [
  ⟨"WLT_SVC", 0x60000, [], .shared, [WLT_SVC_REQIGN, WLT_SVC_TEST, WLT_SVC_STATE]⟩,
  ⟨"WLT_SVCREQ", 0x60004, [], .host, [WLT_SVCREQ_SPLIT]⟩,
  ⟨"WLT_RSPTMO", 0x60008, [], .host, [WLT_RSPTMO_TMO]⟩,
  ⟨"WLT_LOCKTMO", 0x6000C, [], .host, [WLT_LOCKTMO_TMO]⟩,
  ⟨"WLT_ERRLOG", 0x60010, [], .shared, [WLT_ERRLOG_VALID, WLT_ERRLOG_LOST, WLT_ERRLOG_OP, WLT_ERRLOG_KIND, WLT_ERRLOG_STATUS]⟩,
  ⟨"WLT_ERRLOG2", 0x60014, [], .shared, [WLT_ERRLOG2_SRC, WLT_ERRLOG2_DST]⟩,
  ⟨"WLT_ERRCNT", 0x60018, [], .shared, [WLT_ERRCNT_COUNT]⟩,
  ⟨"WLT_SNPOCC", 0x60020, [], .shared, [WLT_SNPOCC_ENTRIES]⟩,
  ⟨"WLT_SNPEVC", 0x60024, [], .shared, [WLT_SNPEVC_COUNT]⟩,
  ⟨"WLT_BRWIN", 0x60100, [(0x8, 16)], .host, [WLT_BRWIN_EN, WLT_BRWIN_WRALLOW, WLT_BRWIN_BUNDLE]⟩,
  ⟨"WLT_BRBASE", 0x60104, [(0x8, 16)], .host, [WLT_BRBASE_RMOD, WLT_BRBASE_RBASE]⟩,
  ⟨"WLT_LACE", 0x61000, [], .shared, [WLT_LACE_RUN, WLT_LACE_SBANK, WLT_LACE_VIDX, WLT_LACE_SLOT]⟩,
  ⟨"WLT_LACEFRM", 0x61004, [], .shared, [WLT_LACEFRM_FRAME]⟩,
  ⟨"WLT_HALFSET", 0x61008, [], .shared, [WLT_HALFSET_HALF]⟩,
  ⟨"WLT_EPOCH", 0x61010, [], .shared, [WLT_EPOCH_STATUS, WLT_EPOCH_DRAINTO, WLT_EPOCH_STATE, WLT_EPOCH_CUR]⟩,
  ⟨"WLT_EPOCHF", 0x61014, [], .shared, [WLT_EPOCHF_F]⟩,
  ⟨"WLT_OLDCNT", 0x61018, [], .shared, [WLT_OLDCNT_COUNT]⟩,
  ⟨"WLT_DRAINTMO", 0x6101C, [], .host, [WLT_DRAINTMO_TMO]⟩,
  ⟨"WLT_FLOWSEL", 0x61030, [], .shared, [WLT_FLOWSEL_FLOW]⟩,
  ⟨"WLT_FLOWA", 0x61034, [], .shared, [WLT_FLOWA_EN, WLT_FLOWA_SCHED, WLT_FLOWA_SLOTS, WLT_FLOWA_SRC]⟩,
  ⟨"WLT_FLOWB", 0x61038, [], .shared, [WLT_FLOWB_DST, WLT_FLOWB_DLY]⟩,
  ⟨"WLT_FLOWUNITS", 0x6103C, [], .shared, [WLT_FLOWUNITS_COUNT]⟩,
  ⟨"WLT_FLOWHELD", 0x61040, [], .shared, [WLT_FLOWHELD_COUNT]⟩,
  ⟨"WLT_FLOWOVR", 0x61044, [], .shared, [WLT_FLOWOVR_COUNT]⟩,
  ⟨"WLT_FLOWCMD", 0x61048, [], .host, [WLT_FLOWCMD_STATUS, WLT_FLOWCMD_BUSY, WLT_FLOWCMD_GO, WLT_FLOWCMD_OP, WLT_FLOWCMD_FLOW]⟩]

/-- The registers of block WLT, part 2. -/
def regsWlt2 : List Reg := [
  ⟨"WLT_FLOWCMD2", 0x6104C, [], .host, [WLT_FLOWCMD2_TO]⟩,
  ⟨"WLT_STSEL", 0x61100, [], .shared, [WLT_STSEL_EP]⟩,
  ⟨"WLT_STCTL", 0x61104, [], .host, [WLT_STCTL_EN, WLT_STCTL_SNAP, WLT_STCTL_WINDOW]⟩,
  ⟨"WLT_STSEQ", 0x61108, [], .shared, [WLT_STSEQ_SEQ]⟩,
  ⟨"WLT_STPKT", 0x61110, [(0x4, 4)], .shared, [WLT_STPKT_VALUE]⟩,
  ⟨"WLT_STBYTL", 0x61120, [(0x8, 4)], .shared, [WLT_STBYTL_VALUE]⟩,
  ⟨"WLT_STBYTH", 0x61124, [(0x8, 4)], .shared, [WLT_STBYTH_VALUE]⟩,
  ⟨"WLT_STHIST", 0x61140, [(0x4, 16)], .shared, [WLT_STHIST_VALUE]⟩,
  ⟨"WLT_STMAX", 0x61180, [], .shared, [WLT_STMAX_VALUE]⟩]

/-- The registers of block WLT. -/
def regsWlt : List Reg := regsWlt1 ++ regsWlt2

/-- The registers of block QUE, part 1. -/
def regsQue1 : List Reg := [
  ⟨"QUE_QCMD", 0x70000, [], .host, [QUE_QCMD_STATUS, QUE_QCMD_BUSY, QUE_QCMD_GO, QUE_QCMD_OP]⟩,
  ⟨"QUE_QSEL", 0x70004, [], .shared, [QUE_QSEL_Q]⟩,
  ⟨"QUE_SBASEL", 0x70008, [], .host, [QUE_SBASEL_BASE]⟩,
  ⟨"QUE_SBASEH", 0x7000C, [], .host, [QUE_SBASEH_BASE]⟩,
  ⟨"QUE_SPARM", 0x70010, [], .host, [QUE_SPARM_NTHR, QUE_SPARM_NMODE, QUE_SPARM_MC, QUE_SPARM_MP, QUE_SPARM_LOG2N]⟩,
  ⟨"QUE_SNOTE", 0x70014, [], .host, [QUE_SNOTE_NSUB, QUE_SNOTE_NTGT]⟩,
  ⟨"QUE_QPMASK", 0x70018, [], .shared, [QUE_QPMASK_MASK]⟩,
  ⟨"QUE_QCMASK", 0x7001C, [], .shared, [QUE_QCMASK_MASK]⟩,
  ⟨"QUE_EVENT", 0x70020, [], .shared, [QUE_EVENT_VALID, QUE_EVENT_LOST, QUE_EVENT_KIND, QUE_EVENT_Q]⟩,
  ⟨"QUE_OPS", 0x70024, [], .shared, [QUE_OPS_COUNT]⟩,
  ⟨"QUE_REFUSED", 0x70028, [], .shared, [QUE_REFUSED_COUNT]⟩,
  ⟨"QUE_ENCNT", 0x7002C, [], .shared, [QUE_ENCNT_COUNT]⟩]

/-- The registers of block QUE. -/
def regsQue : List Reg := regsQue1

/-- The registers of block EYE, part 1. -/
def regsEye1 : List Reg := [
  ⟨"EYE_CTL", 0xB0000, [], .host, [EYE_CTL_BERTH, EYE_CTL_AUTOHALF, EYE_CTL_AUTORSV, EYE_CTL_AUTOSPARE]⟩,
  ⟨"EYE_LSEL", 0xB0010, [], .shared, [EYE_LSEL_EYELET, EYE_LSEL_DIR, EYE_LSEL_GROUP, EYE_LSEL_LANE]⟩,
  ⟨"EYE_LDAT", 0xB0014, [], .shared, [EYE_LDAT_ROLE, EYE_LDAT_SUBST, EYE_LDAT_CORR]⟩,
  ⟨"EYE_EVENT", 0xB0020, [], .shared, [EYE_EVENT_VALID, EYE_EVENT_KIND, EYE_EVENT_EYELET, EYE_EVENT_DIR, EYE_EVENT_GROUP, EYE_EVENT_LANE, EYE_EVENT_LOST]⟩,
  ⟨"EYE_CMD", 0xB0030, [], .host, [EYE_CMD_STATUS, EYE_CMD_BUSY, EYE_CMD_GO, EYE_CMD_OP]⟩,
  ⟨"EYE_CMDTGT", 0xB0034, [], .host, [EYE_CMDTGT_EYELET, EYE_CMDTGT_DIR, EYE_CMDTGT_GROUP, EYE_CMDTGT_LANE]⟩,
  ⟨"EYE_STAT", 0xB0100, [(0x4, 24)], .shared, [EYE_STAT_REASON, EYE_STAT_PROTO, EYE_STAT_WWIDTH, EYE_STAT_GUP, EYE_STAT_CORNER, EYE_STAT_STATE]⟩,
  ⟨"EYE_GSTAT", 0xB1000, [(0x100, 24), (0x80, 2), (0x20, 4)], .shared, [EYE_GSTAT_SPUSED, EYE_GSTAT_RSVUSED, EYE_GSTAT_RETIRED, EYE_GSTAT_FAILED, EYE_GSTAT_INSVC]⟩,
  ⟨"EYE_SPMAP", 0xB1004, [(0x100, 24), (0x80, 2), (0x20, 4)], .shared, [EYE_SPMAP_MAP]⟩,
  ⟨"EYE_CORR", 0xB1008, [(0x100, 24), (0x80, 2), (0x20, 4)], .shared, [EYE_CORR_COUNT]⟩,
  ⟨"EYE_UNC", 0xB100C, [(0x100, 24), (0x80, 2), (0x20, 4)], .shared, [EYE_UNC_COUNT]⟩,
  ⟨"EYE_RSVMAP", 0xB1010, [(0x100, 24), (0x80, 2), (0x20, 4)], .shared, [EYE_RSVMAP_USED]⟩]

/-- The registers of block EYE. -/
def regsEye : List Reg := regsEye1

/-- The registers of block FDC, part 1. -/
def regsFdc1 : List Reg := [
  ⟨"FDC_IDENT", 0x1000000, [(0x100000, 12)], .shared, [FDC_IDENT_SERIAL, FDC_IDENT_STEP, FDC_IDENT_TYPE]⟩,
  ⟨"FDC_CAPW", 0x1000004, [(0x100000, 12)], .shared, [FDC_CAPW_FMT, FDC_CAPW_GEN, FDC_CAPW_PROTO, FDC_CAPW_LOW]⟩,
  ⟨"FDC_CAPEN", 0x1000008, [(0x100000, 12)], .shared, [FDC_CAPEN_FEAT]⟩,
  ⟨"FDC_TRIMCFG", 0x1000040, [(0x100000, 12)], .host, [FDC_TRIMCFG_WARN]⟩,
  ⟨"FDC_RSTAT", 0x1010000, [(0x100000, 12), (0x100, 32)], .shared, [FDC_RSTAT_RESTIGN, FDC_RSTAT_CAPPEND, FDC_RSTAT_CAPDONE, FDC_RSTAT_LOADED, FDC_RSTAT_CLKRUN]⟩,
  ⟨"FDC_RCTL", 0x1010004, [(0x100000, 12), (0x100, 32)], .host, [FDC_RCTL_RESTORE]⟩,
  ⟨"FDC_RWAKES", 0x1010008, [(0x100000, 12), (0x100, 32)], .shared, [FDC_RWAKES_COUNT]⟩,
  ⟨"FDC_RCLK", 0x1010010, [(0x100000, 12), (0x100, 32), (0x4, 4)], .host, [FDC_RCLK_SRC, FDC_RCLK_MODE, FDC_RCLK_WELT, FDC_RCLK_EVT, FDC_RCLK_TMR, FDC_RCLK_EVSEL, FDC_RCLK_IDLE]⟩,
  ⟨"FDC_RWTMR", 0x1010020, [(0x100000, 12), (0x100, 32)], .host, [FDC_RWTMR_PERIODIC, FDC_RWTMR_RELOAD]⟩,
  ⟨"FDC_TRIM", 0x1010040, [(0x100000, 12), (0x100, 32)], .host, [FDC_TRIM_FREEZE, FDC_TRIM_SETCODE, FDC_TRIM_CODE]⟩,
  ⟨"FDC_TRIMST", 0x1010044, [(0x100000, 12), (0x100, 32)], .shared, [FDC_TRIMST_REASON, FDC_TRIMST_DEV, FDC_TRIMST_FRZIGN, FDC_TRIMST_TRIMFAULT, FDC_TRIMST_TRIMWARN, FDC_TRIMST_TRIMLOCK, FDC_TRIMST_ACTIVE]⟩,
  ⟨"FDC_BNKARB", 0x1010048, [(0x100000, 12), (0x100, 32)], .host, [FDC_BNKARB_WFORCE]⟩,
  ⟨"FDC_AWLMEM", 0x101004C, [(0x100000, 12), (0x100, 32)], .host, [FDC_AWLMEM_YSTATE, FDC_AWLMEM_XSTATE, FDC_AWLMEM_YRET, FDC_AWLMEM_XRET]⟩]

/-- The registers of block FDC. -/
def regsFdc : List Reg := regsFdc1

/-- The registers of block BNK, part 1. -/
def regsBnk1 : List Reg := [
  ⟨"BNK_CONF_A", 0x1010080, [(0x100000, 12), (0x100, 32), (0x10, 8)], .shared, [BNK_CONF_A_COUNT]⟩,
  ⟨"BNK_CONF_B", 0x1010084, [(0x100000, 12), (0x100, 32), (0x10, 8)], .shared, [BNK_CONF_B_COUNT]⟩,
  ⟨"BNK_CONF_W", 0x1010088, [(0x100000, 12), (0x100, 32), (0x10, 8)], .shared, [BNK_CONF_W_COUNT]⟩,
  ⟨"BNK_CONF_C", 0x101008C, [(0x100000, 12), (0x100, 32), (0x10, 8)], .shared, [BNK_CONF_C_COUNT]⟩,
  ⟨"BNK_CTL", 0x1020000, [(0x100000, 12), (0x800, 32), (0x20, 64)], .host, [BNK_CTL_AUTOWAKE, BNK_CTL_PWRREQ]⟩,
  ⟨"BNK_STAT", 0x1020004, [(0x100000, 12), (0x800, 32), (0x20, 64)], .shared, [BNK_STAT_SPFAIL, BNK_STAT_UE, BNK_STAT_CE, BNK_STAT_SEALED, BNK_STAT_TDP, BNK_STAT_PWR]⟩,
  ⟨"BNK_ERRADR", 0x1020008, [(0x100000, 12), (0x800, 32), (0x20, 64)], .shared, [BNK_ERRADR_VALID, BNK_ERRADR_KIND, BNK_ERRADR_SPARE, BNK_ERRADR_WORD]⟩,
  ⟨"BNK_REMAPCMD", 0x102000C, [(0x100000, 12), (0x800, 32), (0x20, 64)], .host, [BNK_REMAPCMD_STATUS, BNK_REMAPCMD_BUSY, BNK_REMAPCMD_GO, BNK_REMAPCMD_ADDR]⟩,
  ⟨"BNK_REMAP", 0x1020010, [(0x100000, 12), (0x800, 32), (0x20, 64), (0x4, 4)], .shared, [BNK_REMAP_VALID, BNK_REMAP_SPARE, BNK_REMAP_ADDR]⟩]

/-- The registers of block BNK. -/
def regsBnk : List Reg := regsBnk1

/-- The registers of block AWL, part 1. -/
def regsAwl1 : List Reg := [
  ⟨"AWL_CTL", 0x1040000, [(0x100000, 12), (0x100, 32)], .host, [AWL_CTL_STATUS, AWL_CTL_RESET, AWL_CTL_STOP, AWL_CTL_START]⟩,
  ⟨"AWL_STAT", 0x1040004, [(0x100000, 12), (0x100, 32)], .shared, [AWL_STAT_XVEC, AWL_STAT_WDBITE, AWL_STAT_WDEXC, AWL_STAT_DFAULT, AWL_STAT_IPL, AWL_STAT_MODESTOP, AWL_STAT_STATE]⟩,
  ⟨"AWL_PC", 0x1040008, [(0x100000, 12), (0x100, 32)], .shared, [AWL_PC_PC]⟩,
  ⟨"AWL_IPEND", 0x1040010, [(0x100000, 12), (0x100, 32)], .shared, [AWL_IPEND_PEND]⟩,
  ⟨"AWL_ISET", 0x1040014, [(0x100000, 12), (0x100, 32)], .shared, [AWL_ISET_SET]⟩,
  ⟨"AWL_IEN", 0x1040018, [(0x100000, 12), (0x100, 32)], .shared, [AWL_IEN_EN]⟩,
  ⟨"AWL_IPRI0", 0x104001C, [(0x100000, 12), (0x100, 32)], .shared, [AWL_IPRI0_PRI]⟩,
  ⟨"AWL_IPRI1", 0x1040020, [(0x100000, 12), (0x100, 32)], .shared, [AWL_IPRI1_PRI]⟩,
  ⟨"AWL_ICFG", 0x1040024, [(0x100000, 12), (0x100, 32)], .host, [AWL_ICFG_EDGE]⟩,
  ⟨"AWL_WDGCFG", 0x1040030, [(0x100000, 12), (0x100, 32)], .host, [AWL_WDGCFG_EN, AWL_WDGCFG_ACT, AWL_WDGCFG_RELOAD]⟩,
  ⟨"AWL_WDGCNT", 0x1040034, [(0x100000, 12), (0x100, 32)], .shared, [AWL_WDGCNT_COUNT]⟩,
  ⟨"AWL_WDGCFG2", 0x1040038, [(0x100000, 12), (0x100, 32)], .host, [AWL_WDGCFG2_GRACE]⟩,
  ⟨"AWL_FAULT", 0x1040040, [(0x100000, 12), (0x100, 32)], .shared, [AWL_FAULT_STATUS, AWL_FAULT_ADDRH]⟩,
  ⟨"AWL_FADDR", 0x1040044, [(0x100000, 12), (0x100, 32)], .shared, [AWL_FADDR_ADDR]⟩,
  ⟨"AWL_SFSTAT", 0x1040048, [(0x100000, 12), (0x100, 32)], .shared, [AWL_SFSTAT_STATUS, AWL_SFSTAT_COUNT]⟩]

/-- The registers of block AWL. -/
def regsAwl : List Reg := regsAwl1

end Sys2Proof.Machine
end

