-- ==== Sys2Proof/Machine/RegMapB.lean ====
section
/-! DEFINITION. The register fields of the CFG, SHF, DRC, COB, SZL, PCI, ETH and GIO blocks, one constant per field (address of instance 0, lowest bit,
width, access code, reset value), and the registers they make up, as the register tables of the chapters named give
them (R12, R14, R15).  A field whose reset is "HW" in the spec takes the value of notes/assumptions/3.md. -/

namespace Sys2Proof.Machine

/-! CFG_CMD (spec/11_configuration_planes.md; host-owned) -/
def CFG_CMD_STATUS : Fld := ⟨0x40000, 16, 16, .ro, 0⟩
def CFG_CMD_BUSY : Fld := ⟨0x40000, 15, 1, .ro, 0⟩
def CFG_CMD_GO : Fld := ⟨0x40000, 14, 1, .wo, 0⟩
def CFG_CMD_OP : Fld := ⟨0x40000, 10, 4, .rw, 0⟩
/-! CFG_ARG0 (spec/11_configuration_planes.md; host-owned) -/
def CFG_ARG0_VALUE : Fld := ⟨0x40004, 0, 32, .rw, 0⟩
/-! CFG_ARG1 (spec/11_configuration_planes.md; host-owned) -/
def CFG_ARG1_VALUE : Fld := ⟨0x40008, 0, 32, .rw, 0⟩
/-! CFG_ARG2 (spec/11_configuration_planes.md; host-owned) -/
def CFG_ARG2_VALUE : Fld := ⟨0x4000C, 0, 32, .rw, 0⟩
/-! CFG_ARG3 (spec/11_configuration_planes.md; host-owned) -/
def CFG_ARG3_VALUE : Fld := ⟨0x40010, 0, 32, .rw, 0⟩
/-! CFG_STAT (spec/11_configuration_planes.md; shared) -/
def CFG_STAT_PHASE : Fld := ⟨0x40020, 29, 3, .ro, 0⟩
def CFG_STAT_STGIGN : Fld := ⟨0x40020, 4, 1, .w1c, 0⟩
def CFG_STAT_FALLBACK : Fld := ⟨0x40020, 3, 1, .ro, 0⟩
def CFG_STAT_AUTOBOOT : Fld := ⟨0x40020, 2, 1, .ro, 0⟩
def CFG_STAT_SBADSEL : Fld := ⟨0x40020, 1, 1, .ro, 0⟩
def CFG_STAT_BADSEL : Fld := ⟨0x40020, 0, 1, .ro, 0⟩
/-! CFG_RESULT (spec/11_configuration_planes.md; shared) -/
def CFG_RESULT_STATUS : Fld := ⟨0x40024, 16, 16, .ro, 0⟩
def CFG_RESULT_DETAIL : Fld := ⟨0x40024, 8, 8, .ro, 0⟩
def CFG_RESULT_SRC : Fld := ⟨0x40024, 0, 4, .ro, 0⟩
/-! CFG_RESLOC (spec/11_configuration_planes.md; shared) -/
def CFG_RESLOC_KIND : Fld := ⟨0x40028, 30, 2, .ro, 0⟩
def CFG_RESLOC_VALUE : Fld := ⟨0x40028, 0, 30, .ro, 0⟩
/-! CFG_PROG (spec/11_configuration_planes.md; shared) -/
def CFG_PROG_FRAMES : Fld := ⟨0x4002C, 0, 20, .ro, 0⟩
/-! CFG_AIMGL (spec/11_configuration_planes.md; shared) -/
def CFG_AIMGL_ID : Fld := ⟨0x40030, 0, 32, .ro, 0⟩
/-! CFG_AIMGH (spec/11_configuration_planes.md; shared) -/
def CFG_AIMGH_ID : Fld := ⟨0x40034, 0, 32, .ro, 0⟩
/-! CFG_SIMGL (spec/11_configuration_planes.md; shared) -/
def CFG_SIMGL_ID : Fld := ⟨0x40038, 0, 32, .ro, 0⟩
/-! CFG_SIMGH (spec/11_configuration_planes.md; shared) -/
def CFG_SIMGH_ID : Fld := ⟨0x4003C, 0, 32, .ro, 0⟩
/-! CFG_STGBASE (spec/11_configuration_planes.md; host-owned) -/
def CFG_STGBASE_BASE : Fld := ⟨0x40040, 0, 8, .rw, 126⟩
/-! CFG_STGSIZE (spec/11_configuration_planes.md; host-owned) -/
def CFG_STGSIZE_SIZE : Fld := ⟨0x40044, 0, 4, .rw, 2⟩
/-! CFG_FTSEL (spec/11_configuration_planes.md; shared) -/
def CFG_FTSEL_FID : Fld := ⟨0x40050, 0, 19, .rw, 0⟩
/-! CFG_FTDAT0 (spec/11_configuration_planes.md; shared) -/
def CFG_FTDAT0_CRC : Fld := ⟨0x40054, 0, 32, .ro, 0⟩
/-! CFG_FTDAT1 (spec/11_configuration_planes.md; shared) -/
def CFG_FTDAT1_CRC : Fld := ⟨0x40058, 0, 32, .ro, 0⟩
/-! CFG_FTDAT2 (spec/11_configuration_planes.md; shared) -/
def CFG_FTDAT2_DIE : Fld := ⟨0x4005C, 28, 4, .ro, 0⟩
def CFG_FTDAT2_DLEV : Fld := ⟨0x4005C, 27, 1, .ro, 0⟩
def CFG_FTDAT2_REGION : Fld := ⟨0x4005C, 22, 5, .ro, 0⟩
def CFG_FTDAT2_COLUMN : Fld := ⟨0x4005C, 15, 7, .ro, 0⟩
def CFG_FTDAT2_MINOR : Fld := ⟨0x4005C, 11, 4, .ro, 0⟩
/-! CFG_FTDAT3 (spec/11_configuration_planes.md; shared) -/
def CFG_FTDAT3_ST1 : Fld := ⟨0x40060, 30, 2, .ro, 0⟩
def CFG_FTDAT3_ST0 : Fld := ⟨0x40060, 28, 2, .ro, 0⟩
def CFG_FTDAT3_ACT : Fld := ⟨0x40060, 27, 1, .ro, 0⟩
def CFG_FTDAT3_BADSEL1 : Fld := ⟨0x40060, 26, 1, .ro, 0⟩
def CFG_FTDAT3_BADSEL0 : Fld := ⟨0x40060, 25, 1, .ro, 0⟩
def CFG_FTDAT3_KEEP : Fld := ⟨0x40060, 24, 1, .ro, 0⟩
def CFG_FTDAT3_NORB : Fld := ⟨0x40060, 23, 1, .ro, 0⟩
def CFG_FTDAT3_CECNT : Fld := ⟨0x40060, 16, 4, .ro, 0⟩
/-! CFG_CAPCMD (spec/11_configuration_planes.md; host-owned) -/
def CFG_CAPCMD_STATUS : Fld := ⟨0x40070, 16, 16, .ro, 0⟩
def CFG_CAPCMD_BUSY : Fld := ⟨0x40070, 15, 1, .ro, 0⟩
def CFG_CAPCMD_GO : Fld := ⟨0x40070, 14, 1, .wo, 0⟩
def CFG_CAPCMD_CAPLATE : Fld := ⟨0x40070, 13, 1, .w1c, 0⟩
def CFG_CAPCMD_DIEMASK : Fld := ⟨0x40070, 0, 12, .rw, 0⟩
/-! CFG_CAPMASK (spec/11_configuration_planes.md; host-owned) -/
def CFG_CAPMASK_MASK : Fld := ⟨0x40074, 0, 32, .rw, 0⟩
/-! CFG_CAPTL (spec/11_configuration_planes.md; host-owned) -/
def CFG_CAPTL_T : Fld := ⟨0x40078, 0, 32, .rw, 0⟩
/-! CFG_CAPTH (spec/11_configuration_planes.md; host-owned) -/
def CFG_CAPTH_T : Fld := ⟨0x4007C, 0, 32, .rw, 0⟩
/-! CFG_BOOT (spec/11_configuration_planes.md; shared) -/
def CFG_BOOT_VALID : Fld := ⟨0x40080, 16, 16, .ro, 0⟩
def CFG_BOOT_LAST : Fld := ⟨0x40080, 12, 4, .ro, 0⟩
def CFG_BOOT_FALLBACK : Fld := ⟨0x40080, 8, 4, .ro, 0⟩
def CFG_BOOT_BOOT : Fld := ⟨0x40080, 4, 4, .ro, 0⟩
/-! SHF_CMD (spec/12_live_changeover.md; host-owned) -/
def SHF_CMD_STATUS : Fld := ⟨0x50000, 16, 16, .ro, 0⟩
def SHF_CMD_BUSY : Fld := ⟨0x50000, 15, 1, .ro, 0⟩
def SHF_CMD_GO : Fld := ⟨0x50000, 14, 1, .wo, 0⟩
def SHF_CMD_OP : Fld := ⟨0x50000, 10, 4, .rw, 0⟩
/-! SHF_ARG0 (spec/12_live_changeover.md; host-owned) -/
def SHF_ARG0_VALUE : Fld := ⟨0x50004, 0, 32, .rw, 0⟩
/-! SHF_ARG1 (spec/12_live_changeover.md; host-owned) -/
def SHF_ARG1_VALUE : Fld := ⟨0x50008, 0, 32, .rw, 0⟩
/-! SHF_ARG2 (spec/12_live_changeover.md; host-owned) -/
def SHF_ARG2_VALUE : Fld := ⟨0x5000C, 0, 32, .rw, 0⟩
/-! SHF_ARG3 (spec/12_live_changeover.md; host-owned) -/
def SHF_ARG3_VALUE : Fld := ⟨0x50010, 0, 32, .rw, 0⟩
/-! SHF_STAT (spec/12_live_changeover.md; shared) -/
def SHF_STAT_RELAUTO : Fld := ⟨0x50020, 7, 1, .w1c, 0⟩
def SHF_STAT_KIND : Fld := ⟨0x50020, 4, 2, .ro, 0⟩
def SHF_STAT_STATE : Fld := ⟨0x50020, 0, 4, .ro, 0⟩
/-! SHF_RESULT (spec/12_live_changeover.md; shared) -/
def SHF_RESULT_STATUS : Fld := ⟨0x50024, 16, 16, .ro, 0⟩
def SHF_RESULT_FAILDIE : Fld := ⟨0x50024, 4, 4, .ro, 15⟩
def SHF_RESULT_OUTCOME : Fld := ⟨0x50024, 0, 4, .ro, 0⟩
/-! SHF_EPOCH (spec/12_live_changeover.md; shared) -/
def SHF_EPOCH_EPOCH : Fld := ⟨0x50028, 0, 32, .ro, 0⟩
/-! SHF_TCL (spec/12_live_changeover.md; shared) -/
def SHF_TCL_T : Fld := ⟨0x50030, 0, 32, .ro, 0⟩
/-! SHF_TCH (spec/12_live_changeover.md; shared) -/
def SHF_TCH_T : Fld := ⟨0x50034, 0, 32, .ro, 0⟩
/-! SHF_TRL (spec/12_live_changeover.md; shared) -/
def SHF_TRL_T : Fld := ⟨0x50038, 0, 32, .ro, 0⟩
/-! SHF_TRH (spec/12_live_changeover.md; shared) -/
def SHF_TRH_T : Fld := ⟨0x5003C, 0, 32, .ro, 0⟩
/-! SHF_CTL (spec/12_live_changeover.md; host-owned) -/
def SHF_CTL_AUTORB : Fld := ⟨0x50040, 31, 1, .rw, 1⟩
def SHF_CTL_ARMTMO : Fld := ⟨0x50040, 16, 12, .rw, 0x3e8⟩
def SHF_CTL_CHKWIN : Fld := ⟨0x50040, 8, 8, .rw, 10⟩
/-! SHF_RELTMO (spec/12_live_changeover.md; host-owned) -/
def SHF_RELTMO_SEC : Fld := ⟨0x50044, 0, 20, .rw, 0⟩
/-! SHF_QTMO (spec/12_live_changeover.md; host-owned) -/
def SHF_QTMO_TMO : Fld := ⟨0x50048, 0, 20, .rw, 0x3e8⟩
/-! SHF_DIEST (spec/12_live_changeover.md; shared) -/
def SHF_DIEST_REASON : Fld := ⟨0x50100, 16, 16, .ro, 0⟩
def SHF_DIEST_FAILED : Fld := ⟨0x50100, 3, 1, .ro, 0⟩
def SHF_DIEST_FLIPPED : Fld := ⟨0x50100, 2, 1, .ro, 0⟩
def SHF_DIEST_ARMED : Fld := ⟨0x50100, 1, 1, .ro, 0⟩
def SHF_DIEST_IN : Fld := ⟨0x50100, 0, 1, .ro, 0⟩
/-! SHF_DETACHED (spec/12_live_changeover.md; shared) -/
def SHF_DETACHED_MASK : Fld := ⟨0x50200, 0, 32, .ro, 0⟩
/-! DRC_STAT (spec/13_dram.md; shared) -/
def DRC_STAT_FAILED : Fld := ⟨0x80000, 16, 8, .ro, 0⟩
def DRC_STAT_FILLED : Fld := ⟨0x80000, 8, 8, .ro, 0⟩
def DRC_STAT_READY : Fld := ⟨0x80000, 0, 8, .ro, 0⟩
/-! DRC_GEOM (spec/13_dram.md; shared) -/
def DRC_GEOM_SIZE : Fld := ⟨0x80004, 16, 8, .ro, 16⟩
def DRC_GEOM_COLB : Fld := ⟨0x80004, 8, 4, .ro, 6⟩
def DRC_GEOM_ROWB : Fld := ⟨0x80004, 0, 5, .ro, 16⟩
/-! DRC_CTL (spec/13_dram.md; host-owned) -/
def DRC_CTL_AUTORTR : Fld := ⟨0x80008, 1, 1, .rw, 1⟩
def DRC_CTL_TRKEN : Fld := ⟨0x80008, 0, 1, .rw, 1⟩
/-! DRC_TRKCFG (spec/13_dram.md; host-owned) -/
def DRC_TRKCFG_MINEYE : Fld := ⟨0x8000C, 24, 8, .rw, 20⟩
def DRC_TRKCFG_PERIOD : Fld := ⟨0x8000C, 0, 16, .rw, 0x100⟩
/-! DRC_SCHED (spec/13_dram.md; host-owned) -/
def DRC_SCHED_AGE : Fld := ⟨0x80010, 16, 16, .rw, 0x640⟩
def DRC_SCHED_WQHI : Fld := ⟨0x80010, 8, 8, .rw, 48⟩
def DRC_SCHED_WQLO : Fld := ⟨0x80010, 0, 8, .rw, 16⟩
/-! DRC_ERRLOG (spec/13_dram.md; shared) -/
def DRC_ERRLOG_VALID : Fld := ⟨0x80020, 31, 1, .rp, 0⟩
def DRC_ERRLOG_LOST : Fld := ⟨0x80020, 30, 1, .rp, 0⟩
def DRC_ERRLOG_KIND : Fld := ⟨0x80020, 26, 4, .rp, 0⟩
def DRC_ERRLOG_CH : Fld := ⟨0x80020, 23, 3, .rp, 0⟩
def DRC_ERRLOG_DEV : Fld := ⟨0x80020, 18, 5, .rp, 0⟩
def DRC_ERRLOG_STATUS : Fld := ⟨0x80020, 0, 16, .rp, 0⟩
/-! DRC_ERRLOG2 (spec/13_dram.md; shared) -/
def DRC_ERRLOG2_LINE : Fld := ⟨0x80024, 0, 29, .ro, 0⟩
/-! DRC_CHSTAT (spec/13_dram.md; shared) -/
def DRC_CHSTAT_REASON : Fld := ⟨0x81000, 16, 16, .ro, 0⟩
def DRC_CHSTAT_TRATE : Fld := ⟨0x81000, 10, 1, .ro, 0⟩
def DRC_CHSTAT_HOT : Fld := ⟨0x81000, 9, 1, .ro, 0⟩
def DRC_CHSTAT_STATE : Fld := ⟨0x81000, 0, 3, .ro, 0⟩
/-! DRC_FILLWM (spec/13_dram.md; shared) -/
def DRC_FILLWM_WM : Fld := ⟨0x81004, 0, 29, .ro, 0⟩
/-! DRC_CECNT (spec/13_dram.md; shared) -/
def DRC_CECNT_COUNT : Fld := ⟨0x81008, 0, 32, .rc, 0⟩
/-! DRC_UECNT (spec/13_dram.md; shared) -/
def DRC_UECNT_COUNT : Fld := ⟨0x8100C, 0, 32, .rc, 0⟩
/-! DRC_FWDCNT (spec/13_dram.md; shared) -/
def DRC_FWDCNT_COUNT : Fld := ⟨0x81010, 0, 32, .rc, 0⟩
/-! DRC_RAWWAIT (spec/13_dram.md; shared) -/
def DRC_RAWWAIT_COUNT : Fld := ⟨0x81014, 0, 32, .rc, 0⟩
/-! DRC_CHCMD (spec/13_dram.md; host-owned) -/
def DRC_CHCMD_STATUS : Fld := ⟨0x81018, 16, 16, .ro, 0⟩
def DRC_CHCMD_BUSY : Fld := ⟨0x81018, 15, 1, .ro, 0⟩
def DRC_CHCMD_GO : Fld := ⟨0x81018, 14, 1, .wo, 0⟩
def DRC_CHCMD_OP : Fld := ⟨0x81018, 11, 3, .rw, 0⟩
def DRC_CHCMD_LANE : Fld := ⟨0x81018, 0, 4, .rw, 0⟩
/-! DRC_CHARG (spec/13_dram.md; host-owned) -/
def DRC_CHARG_LINE : Fld := ⟨0x8101C, 0, 29, .rw, 0⟩
/-! DRC_EYESEL (spec/13_dram.md; shared) -/
def DRC_EYESEL_DIR : Fld := ⟨0x81020, 4, 1, .rw, 0⟩
def DRC_EYESEL_LANE : Fld := ⟨0x81020, 0, 4, .rw, 0⟩
/-! DRC_EYEDAT (spec/13_dram.md; shared) -/
def DRC_EYEDAT_LEFT : Fld := ⟨0x81024, 24, 8, .ro, 0⟩
def DRC_EYEDAT_RIGHT : Fld := ⟨0x81024, 16, 8, .ro, 0⟩
def DRC_EYEDAT_CENTRE : Fld := ⟨0x81024, 8, 8, .ro, 0⟩
def DRC_EYEDAT_VREF : Fld := ⟨0x81024, 0, 6, .ro, 0⟩
/-! DRC_SPNEXT (spec/13_dram.md; shared) -/
def DRC_SPNEXT_NEXT : Fld := ⟨0x81028, 0, 13, .ro, 0⟩
/-! DRC_REMAPA (spec/13_dram.md; shared) -/
def DRC_REMAPA_VALID : Fld := ⟨0x81040, 31, 1, .ro, 0⟩
def DRC_REMAPA_LINE : Fld := ⟨0x81040, 0, 29, .ro, 0⟩
/-! DRC_REMAPB (spec/13_dram.md; shared) -/
def DRC_REMAPB_SPARE : Fld := ⟨0x81044, 0, 13, .ro, 0⟩
/-! DRC_IDLE (spec/13_dram.md; host-owned) -/
def DRC_IDLE_CYC : Fld := ⟨0x81100, 0, 10, .rw, 64⟩
/-! COB_CTL (spec/14_ecc_scrub_remap.md; host-owned) -/
def COB_CTL_EN : Fld := ⟨0x90000, 0, 5, .rw, 31⟩
/-! COB_STAT (spec/14_ecc_scrub_remap.md; shared) -/
def COB_STAT_SPFULL : Fld := ⟨0x90004, 24, 5, .w1c, 0⟩
def COB_STAT_BURST : Fld := ⟨0x90004, 16, 5, .ro, 0⟩
def COB_STAT_LATE : Fld := ⟨0x90004, 8, 5, .ro, 0⟩
def COB_STAT_GUAR : Fld := ⟨0x90004, 0, 5, .ro, 0⟩
/-! COB_POL (spec/14_ecc_scrub_remap.md; host-owned) -/
def COB_POL_AUTORM : Fld := ⟨0x90008, 24, 5, .rw, 30⟩
def COB_POL_WIN : Fld := ⟨0x90008, 16, 8, .rw, 24⟩
def COB_POL_REMAPTH : Fld := ⟨0x90008, 0, 8, .rw, 3⟩
/-! COB_BURST (spec/14_ecc_scrub_remap.md; host-owned) -/
def COB_BURST_EN : Fld := ⟨0x9000C, 22, 5, .rw, 31⟩
def COB_BURST_FACTOR : Fld := ⟨0x9000C, 19, 3, .rw, 2⟩
def COB_BURST_HOLD : Fld := ⟨0x9000C, 12, 7, .rw, 60⟩
def COB_BURST_BTH : Fld := ⟨0x9000C, 0, 12, .rw, 16⟩
/-! COB_INTV (spec/14_ecc_scrub_remap.md; host-owned) -/
def COB_INTV_INTV : Fld := ⟨0x90010, 0, 20, .rw, 0⟩
/-! COB_EVENT (spec/14_ecc_scrub_remap.md; shared) -/
def COB_EVENT_VALID : Fld := ⟨0x90030, 31, 1, .rp, 0⟩
def COB_EVENT_LOST : Fld := ⟨0x90030, 30, 1, .rp, 0⟩
def COB_EVENT_KIND : Fld := ⟨0x90030, 26, 4, .rp, 0⟩
def COB_EVENT_CLASS : Fld := ⟨0x90030, 23, 3, .rp, 0⟩
def COB_EVENT_DIE : Fld := ⟨0x90030, 19, 4, .rp, 0⟩
def COB_EVENT_STATUS : Fld := ⟨0x90030, 0, 16, .rp, 0⟩
/-! COB_EVENT2 (spec/14_ecc_scrub_remap.md; shared) -/
def COB_EVENT2_LOC : Fld := ⟨0x90034, 0, 32, .ro, 0⟩
/-! COB_CECNT (spec/14_ecc_scrub_remap.md; shared) -/
def COB_CECNT_COUNT : Fld := ⟨0x90040, 0, 32, .rc, 0⟩
/-! COB_UECNT (spec/14_ecc_scrub_remap.md; shared) -/
def COB_UECNT_COUNT : Fld := ⟨0x90060, 0, 32, .rc, 0⟩
/-! COB_LASTSWP (spec/14_ecc_scrub_remap.md; shared) -/
def COB_LASTSWP_TIME : Fld := ⟨0x90080, 0, 20, .ro, 0⟩
/-! COB_HIST (spec/14_ecc_scrub_remap.md; shared) -/
def COB_HIST_DROPPED : Fld := ⟨0x900A0, 16, 16, .rc, 0⟩
def COB_HIST_USED : Fld := ⟨0x900A0, 0, 13, .ro, 0⟩
/-! COB_RSTORE (spec/14_ecc_scrub_remap.md; shared) -/
def COB_RSTORE_FULL : Fld := ⟨0x900A4, 31, 1, .ro, 0⟩
def COB_RSTORE_PEND : Fld := ⟨0x900A4, 16, 9, .ro, 0⟩
def COB_RSTORE_USED : Fld := ⟨0x900A4, 0, 14, .ro, 0⟩
/-! COB_RSDROP (spec/14_ecc_scrub_remap.md; shared) -/
def COB_RSDROP_COUNT : Fld := ⟨0x900A8, 0, 32, .rc, 0⟩
/-! COB_CMD (spec/14_ecc_scrub_remap.md; host-owned) -/
def COB_CMD_STATUS : Fld := ⟨0x900C0, 16, 16, .ro, 0⟩
def COB_CMD_BUSY : Fld := ⟨0x900C0, 15, 1, .ro, 0⟩
def COB_CMD_GO : Fld := ⟨0x900C0, 14, 1, .wo, 0⟩
def COB_CMD_OP : Fld := ⟨0x900C0, 11, 3, .rw, 0⟩
def COB_CMD_CLASS : Fld := ⟨0x900C0, 0, 3, .rw, 0⟩
/-! SZL_MODID (spec/15_sazor_lanes.md; host-owned) -/
def SZL_MODID_ID : Fld := ⟨0xA0000, 0, 8, .rw, 0⟩
/-! SZL_EVENT (spec/15_sazor_lanes.md; shared) -/
def SZL_EVENT_VALID : Fld := ⟨0xA0010, 31, 1, .rp, 0⟩
def SZL_EVENT_LOST : Fld := ⟨0xA0010, 30, 1, .rp, 0⟩
def SZL_EVENT_KIND : Fld := ⟨0xA0010, 26, 4, .rp, 0⟩
def SZL_EVENT_BUNDLE : Fld := ⟨0xA0010, 23, 3, .rp, 0⟩
def SZL_EVENT_STATUS : Fld := ⟨0xA0010, 0, 16, .rp, 0⟩
/-! SZL_BCTL (spec/15_sazor_lanes.md; host-owned) -/
def SZL_BCTL_EN : Fld := ⟨0xA1000, 31, 1, .rw, 1⟩
def SZL_BCTL_RETRAIN : Fld := ⟨0xA1000, 30, 1, .wo, 0⟩
def SZL_BCTL_STRSAFE : Fld := ⟨0xA1000, 29, 1, .rw, 1⟩
def SZL_BCTL_PRECREQ : Fld := ⟨0xA1000, 28, 1, .rw, 0⟩
def SZL_BCTL_FECIREQ : Fld := ⟨0xA1000, 27, 1, .rw, 0⟩
def SZL_BCTL_HALFOK : Fld := ⟨0xA1000, 26, 1, .rw, 1⟩
def SZL_BCTL_MINWIDTH : Fld := ⟨0xA1000, 24, 2, .rw, 0⟩
def SZL_BCTL_UNCTH : Fld := ⟨0xA1000, 16, 8, .rw, 4⟩
/-! SZL_BSTAT (spec/15_sazor_lanes.md; shared) -/
def SZL_BSTAT_REASON : Fld := ⟨0xA1004, 16, 16, .ro, 0⟩
def SZL_BSTAT_REFLOCK : Fld := ⟨0xA1004, 15, 1, .ro, 0⟩
def SZL_BSTAT_STRUP : Fld := ⟨0xA1004, 14, 1, .ro, 0⟩
def SZL_BSTAT_FECI : Fld := ⟨0xA1004, 13, 1, .ro, 0⟩
def SZL_BSTAT_PRECTX : Fld := ⟨0xA1004, 12, 1, .ro, 0⟩
def SZL_BSTAT_PRECRX : Fld := ⟨0xA1004, 11, 1, .ro, 0⟩
def SZL_BSTAT_HALF : Fld := ⟨0xA1004, 10, 1, .ro, 0⟩
def SZL_BSTAT_WIDTH : Fld := ⟨0xA1004, 8, 2, .ro, 0⟩
def SZL_BSTAT_STATE : Fld := ⟨0xA1004, 0, 3, .ro, 0⟩
/-! SZL_LCAPW (spec/15_sazor_lanes.md; shared) -/
def SZL_LCAPW_WORD : Fld := ⟨0xA1008, 0, 32, .ro, 0⟩
/-! SZL_RCAPW (spec/15_sazor_lanes.md; shared) -/
def SZL_RCAPW_WORD : Fld := ⟨0xA100C, 0, 32, .ro, 0⟩
/-! SZL_ADMCTL (spec/15_sazor_lanes.md; host-owned) -/
def SZL_ADMCTL_RDEN : Fld := ⟨0xA1010, 31, 1, .rw, 0⟩
def SZL_ADMCTL_WREN : Fld := ⟨0xA1010, 30, 1, .rw, 0⟩
/-! SZL_ADMBASE (spec/15_sazor_lanes.md; host-owned) -/
def SZL_ADMBASE_BASE : Fld := ⟨0xA1014, 0, 22, .rw, 0⟩
/-! SZL_ADMSIZE (spec/15_sazor_lanes.md; host-owned) -/
def SZL_ADMSIZE_SIZE : Fld := ⟨0xA1018, 0, 23, .rw, 0⟩
/-! SZL_PWR (spec/15_sazor_lanes.md; host-owned) -/
def SZL_PWR_TXREQ : Fld := ⟨0xA101C, 30, 2, .rw, 0⟩
def SZL_PWR_TXST : Fld := ⟨0xA101C, 28, 2, .ro, 0⟩
def SZL_PWR_RXST : Fld := ⟨0xA101C, 26, 2, .ro, 0⟩
def SZL_PWR_SLEEPIDLE : Fld := ⟨0xA101C, 8, 8, .rw, 100⟩
def SZL_PWR_DOZEIDLE : Fld := ⟨0xA101C, 0, 8, .rw, 10⟩
/-! SZL_STRLAT (spec/15_sazor_lanes.md; shared) -/
def SZL_STRLAT_DSQ : Fld := ⟨0xA1020, 0, 4, .ro, 0⟩
/-! SZL_CWCORR (spec/15_sazor_lanes.md; shared) -/
def SZL_CWCORR_COUNT : Fld := ⟨0xA1024, 0, 32, .rc, 0⟩
/-! SZL_CWUNC (spec/15_sazor_lanes.md; shared) -/
def SZL_CWUNC_COUNT : Fld := ⟨0xA1028, 0, 32, .rc, 0⟩
/-! SZL_REPLAY (spec/15_sazor_lanes.md; shared) -/
def SZL_REPLAY_COUNT : Fld := ⟨0xA102C, 0, 32, .rc, 0⟩
/-! SZL_STRERR (spec/15_sazor_lanes.md; shared) -/
def SZL_STRERR_COUNT : Fld := ⟨0xA1030, 0, 32, .rc, 0⟩
/-! SZL_TEST (spec/15_sazor_lanes.md; host-owned) -/
def SZL_TEST_STATUS : Fld := ⟨0xA1034, 16, 16, .ro, 0⟩
def SZL_TEST_GEN : Fld := ⟨0xA1034, 15, 1, .rw, 0⟩
def SZL_TEST_CHK : Fld := ⟨0xA1034, 14, 1, .rw, 0⟩
def SZL_TEST_PAT : Fld := ⟨0xA1034, 11, 3, .rw, 0⟩
def SZL_TEST_LANEMASK : Fld := ⟨0xA1034, 0, 8, .rw, 0⟩
/-! SZL_INJ (spec/15_sazor_lanes.md; host-owned) -/
def SZL_INJ_STATUS : Fld := ⟨0xA1038, 16, 16, .ro, 0⟩
def SZL_INJ_GO : Fld := ⟨0xA1038, 15, 1, .wo, 0⟩
def SZL_INJ_KIND : Fld := ⟨0xA1038, 14, 1, .rw, 0⟩
def SZL_INJ_NSYM : Fld := ⟨0xA1038, 8, 6, .rw, 1⟩
def SZL_INJ_LANEMASK : Fld := ⟨0xA1038, 0, 8, .rw, 0⟩
/-! SZL_TESTCNT (spec/15_sazor_lanes.md; shared) -/
def SZL_TESTCNT_COUNT : Fld := ⟨0xA1040, 0, 32, .rc, 0⟩
/-! PCI_STAT (spec/16_standard_ports_and_io.md; shared) -/
def PCI_STAT_DSTATE : Fld := ⟨0xC0000, 8, 2, .ro, 0⟩
def PCI_STAT_WIDTH : Fld := ⟨0xC0000, 3, 5, .ro, 0⟩
def PCI_STAT_SPEED : Fld := ⟨0xC0000, 0, 3, .ro, 0⟩
/-! PCI_B4WIN (spec/16_standard_ports_and_io.md; host-owned) -/
def PCI_B4WIN_WIN : Fld := ⟨0xC0004, 0, 12, .rw, 0⟩
/-! PCI_ERRLOG (spec/16_standard_ports_and_io.md; shared) -/
def PCI_ERRLOG_VALID : Fld := ⟨0xC0008, 31, 1, .rp, 0⟩
def PCI_ERRLOG_LOST : Fld := ⟨0xC0008, 30, 1, .rp, 0⟩
def PCI_ERRLOG_WRITE : Fld := ⟨0xC0008, 29, 1, .rp, 0⟩
def PCI_ERRLOG_BAR : Fld := ⟨0xC0008, 27, 2, .rp, 0⟩
def PCI_ERRLOG_STATUS : Fld := ⟨0xC0008, 0, 16, .rp, 0⟩
/-! ETH_CAGE (spec/16_standard_ports_and_io.md; host-owned) -/
def ETH_CAGE_PRESENT : Fld := ⟨0xC1000, 1, 1, .ro, 0⟩
def ETH_CAGE_MODE : Fld := ⟨0xC1000, 0, 1, .rw, 0⟩
/-! ETH_PCTL (spec/16_standard_ports_and_io.md; host-owned) -/
def ETH_PCTL_EN : Fld := ⟨0xC1100, 31, 1, .rw, 0⟩
def ETH_PCTL_AN : Fld := ⟨0xC1100, 30, 1, .rw, 1⟩
def ETH_PCTL_FEC : Fld := ⟨0xC1100, 28, 2, .rw, 0⟩
def ETH_PCTL_DEFRULE : Fld := ⟨0xC1100, 0, 8, .rw, 255⟩
/-! ETH_PSTAT (spec/16_standard_ports_and_io.md; shared) -/
def ETH_PSTAT_LINK : Fld := ⟨0xC1104, 31, 1, .ro, 0⟩
def ETH_PSTAT_FEC : Fld := ⟨0xC1104, 29, 2, .ro, 0⟩
def ETH_PSTAT_BADFRM : Fld := ⟨0xC1104, 0, 16, .rc, 0⟩
/-! ETH_RULEA (spec/16_standard_ports_and_io.md; host-owned) -/
def ETH_RULEA_EN : Fld := ⟨0xC2000, 31, 1, .rw, 0⟩
def ETH_RULEA_ACT : Fld := ⟨0xC2000, 29, 2, .rw, 0⟩
def ETH_RULEA_MMAC : Fld := ⟨0xC2000, 28, 1, .rw, 0⟩
def ETH_RULEA_MVID : Fld := ⟨0xC2000, 27, 1, .rw, 0⟩
def ETH_RULEA_MPCP : Fld := ⟨0xC2000, 26, 1, .rw, 0⟩
def ETH_RULEA_MET : Fld := ⟨0xC2000, 25, 1, .rw, 0⟩
def ETH_RULEA_RING : Fld := ⟨0xC2000, 20, 5, .rw, 0⟩
def ETH_RULEA_PMASK : Fld := ⟨0xC2000, 0, 16, .rw, 0⟩
/-! ETH_RULEB (spec/16_standard_ports_and_io.md; host-owned) -/
def ETH_RULEB_ETYPE : Fld := ⟨0xC2004, 16, 16, .rw, 0⟩
def ETH_RULEB_PCP : Fld := ⟨0xC2004, 13, 3, .rw, 0⟩
def ETH_RULEB_VID : Fld := ⟨0xC2004, 0, 12, .rw, 0⟩
/-! ETH_RULEC (spec/16_standard_ports_and_io.md; host-owned) -/
def ETH_RULEC_MAC : Fld := ⟨0xC2008, 0, 32, .rw, 0⟩
/-! ETH_RULED (spec/16_standard_ports_and_io.md; host-owned) -/
def ETH_RULED_MACL : Fld := ⟨0xC200C, 16, 16, .rw, 0⟩
def ETH_RULED_TGT : Fld := ⟨0xC200C, 0, 16, .rw, 0⟩
/-! ETH_RABASE (spec/16_standard_ports_and_io.md; host-owned) -/
def ETH_RABASE_ADDR : Fld := ⟨0xC3000, 0, 32, .rw, 0⟩
/-! ETH_RSTAT (spec/16_standard_ports_and_io.md; shared) -/
def ETH_RSTAT_DROP : Fld := ⟨0xC3004, 16, 16, .rc, 0⟩
def ETH_RSTAT_FRAMES : Fld := ⟨0xC3004, 0, 16, .rc, 0⟩
/-! ETH_TXQ (spec/16_standard_ports_and_io.md; host-owned) -/
def ETH_TXQ_EN : Fld := ⟨0xC3400, 16, 1, .rw, 0⟩
def ETH_TXQ_Q : Fld := ⟨0xC3400, 0, 16, .rw, 0⟩
/-! ETH_GCLCMD (spec/16_standard_ports_and_io.md; host-owned) -/
def ETH_GCLCMD_STATUS : Fld := ⟨0xC3800, 16, 16, .ro, 0⟩
def ETH_GCLCMD_BUSY : Fld := ⟨0xC3800, 15, 1, .ro, 0⟩
def ETH_GCLCMD_GO : Fld := ⟨0xC3800, 14, 1, .wo, 0⟩
def ETH_GCLCMD_PORT : Fld := ⟨0xC3800, 0, 4, .rw, 0⟩
/-! ETH_GCLADR (spec/16_standard_ports_and_io.md; host-owned) -/
def ETH_GCLADR_OFFSET : Fld := ⟨0xC3804, 0, 32, .rw, 0⟩
/-! ETH_PTPCTL (spec/16_standard_ports_and_io.md; host-owned) -/
def ETH_PTPCTL_EN : Fld := ⟨0xC3900, 31, 1, .rw, 0⟩
def ETH_PTPCTL_STEPOK : Fld := ⟨0xC3900, 30, 1, .rw, 1⟩
def ETH_PTPCTL_PRIO1 : Fld := ⟨0xC3900, 16, 8, .rw, 248⟩
def ETH_PTPCTL_DOMAIN : Fld := ⟨0xC3900, 0, 8, .rw, 0⟩
/-! ETH_PTPSTAT (spec/16_standard_ports_and_io.md; shared) -/
def ETH_PTPSTAT_LOCKED : Fld := ⟨0xC3904, 31, 1, .ro, 0⟩
def ETH_PTPSTAT_GM : Fld := ⟨0xC3904, 30, 1, .ro, 0⟩
def ETH_PTPSTAT_HOLDOVER : Fld := ⟨0xC3904, 29, 1, .ro, 0⟩
def ETH_PTPSTAT_SLAVEPORT : Fld := ⟨0xC3904, 24, 5, .ro, 31⟩
def ETH_PTPSTAT_OFFSET : Fld := ⟨0xC3904, 0, 24, .ro, 0⟩
/-! GIO_PCFG (spec/16_standard_ports_and_io.md; host-owned) -/
def GIO_PCFG_EVEN : Fld := ⟨0xC8000, 31, 1, .rw, 0⟩
def GIO_PCFG_POL : Fld := ⟨0xC8000, 30, 1, .rw, 0⟩
def GIO_PCFG_EDGE : Fld := ⟨0xC8000, 28, 2, .rw, 0⟩
def GIO_PCFG_MINP : Fld := ⟨0xC8000, 18, 10, .rw, 1⟩
def GIO_PCFG_SUNIT : Fld := ⟨0xC8000, 17, 1, .rw, 0⟩
def GIO_PCFG_STUCK : Fld := ⟨0xC8000, 0, 16, .rw, 0⟩
/-! GIO_OVR (spec/16_standard_ports_and_io.md; shared) -/
def GIO_OVR_COUNT : Fld := ⟨0xC9000, 0, 16, .rc, 0⟩
/-! GIO_STUCK (spec/16_standard_ports_and_io.md; shared) -/
def GIO_STUCK_MASK : Fld := ⟨0xCA000, 0, 32, .ro, 0⟩
/-! GIO_BSTAT (spec/16_standard_ports_and_io.md; shared) -/
def GIO_BSTAT_STRAPUP : Fld := ⟨0xCA040, 3, 1, .ro, 0⟩
def GIO_BSTAT_VFAULT : Fld := ⟨0xCA040, 2, 1, .ro, 0⟩
def GIO_BSTAT_VOLT : Fld := ⟨0xCA040, 0, 2, .ro, 0⟩
/-! GIO_EVENT (spec/16_standard_ports_and_io.md; shared) -/
def GIO_EVENT_VALID : Fld := ⟨0xCA080, 31, 1, .rp, 0⟩
def GIO_EVENT_LOST : Fld := ⟨0xCA080, 30, 1, .rp, 0⟩
def GIO_EVENT_KIND : Fld := ⟨0xCA080, 26, 4, .rp, 0⟩
def GIO_EVENT_BANK : Fld := ⟨0xCA080, 22, 4, .rp, 0⟩
def GIO_EVENT_PIN : Fld := ⟨0xCA080, 17, 5, .rp, 0⟩

/-- The registers of block CFG, part 1. -/
def regsCfg1 : List Reg := [
  ⟨"CFG_CMD", 0x40000, [], .host, [CFG_CMD_STATUS, CFG_CMD_BUSY, CFG_CMD_GO, CFG_CMD_OP]⟩,
  ⟨"CFG_ARG0", 0x40004, [], .host, [CFG_ARG0_VALUE]⟩,
  ⟨"CFG_ARG1", 0x40008, [], .host, [CFG_ARG1_VALUE]⟩,
  ⟨"CFG_ARG2", 0x4000C, [], .host, [CFG_ARG2_VALUE]⟩,
  ⟨"CFG_ARG3", 0x40010, [], .host, [CFG_ARG3_VALUE]⟩,
  ⟨"CFG_STAT", 0x40020, [], .shared, [CFG_STAT_PHASE, CFG_STAT_STGIGN, CFG_STAT_FALLBACK, CFG_STAT_AUTOBOOT, CFG_STAT_SBADSEL, CFG_STAT_BADSEL]⟩,
  ⟨"CFG_RESULT", 0x40024, [], .shared, [CFG_RESULT_STATUS, CFG_RESULT_DETAIL, CFG_RESULT_SRC]⟩,
  ⟨"CFG_RESLOC", 0x40028, [], .shared, [CFG_RESLOC_KIND, CFG_RESLOC_VALUE]⟩,
  ⟨"CFG_PROG", 0x4002C, [], .shared, [CFG_PROG_FRAMES]⟩,
  ⟨"CFG_AIMGL", 0x40030, [], .shared, [CFG_AIMGL_ID]⟩,
  ⟨"CFG_AIMGH", 0x40034, [], .shared, [CFG_AIMGH_ID]⟩,
  ⟨"CFG_SIMGL", 0x40038, [], .shared, [CFG_SIMGL_ID]⟩,
  ⟨"CFG_SIMGH", 0x4003C, [], .shared, [CFG_SIMGH_ID]⟩,
  ⟨"CFG_STGBASE", 0x40040, [], .host, [CFG_STGBASE_BASE]⟩,
  ⟨"CFG_STGSIZE", 0x40044, [], .host, [CFG_STGSIZE_SIZE]⟩,
  ⟨"CFG_FTSEL", 0x40050, [], .shared, [CFG_FTSEL_FID]⟩,
  ⟨"CFG_FTDAT0", 0x40054, [], .shared, [CFG_FTDAT0_CRC]⟩,
  ⟨"CFG_FTDAT1", 0x40058, [], .shared, [CFG_FTDAT1_CRC]⟩,
  ⟨"CFG_FTDAT2", 0x4005C, [], .shared, [CFG_FTDAT2_DIE, CFG_FTDAT2_DLEV, CFG_FTDAT2_REGION, CFG_FTDAT2_COLUMN, CFG_FTDAT2_MINOR]⟩,
  ⟨"CFG_FTDAT3", 0x40060, [], .shared, [CFG_FTDAT3_ST1, CFG_FTDAT3_ST0, CFG_FTDAT3_ACT, CFG_FTDAT3_BADSEL1, CFG_FTDAT3_BADSEL0, CFG_FTDAT3_KEEP, CFG_FTDAT3_NORB, CFG_FTDAT3_CECNT]⟩,
  ⟨"CFG_CAPCMD", 0x40070, [], .host, [CFG_CAPCMD_STATUS, CFG_CAPCMD_BUSY, CFG_CAPCMD_GO, CFG_CAPCMD_CAPLATE, CFG_CAPCMD_DIEMASK]⟩,
  ⟨"CFG_CAPMASK", 0x40074, [], .host, [CFG_CAPMASK_MASK]⟩,
  ⟨"CFG_CAPTL", 0x40078, [], .host, [CFG_CAPTL_T]⟩,
  ⟨"CFG_CAPTH", 0x4007C, [], .host, [CFG_CAPTH_T]⟩,
  ⟨"CFG_BOOT", 0x40080, [], .shared, [CFG_BOOT_VALID, CFG_BOOT_LAST, CFG_BOOT_FALLBACK, CFG_BOOT_BOOT]⟩]

/-- The registers of block CFG. -/
def regsCfg : List Reg := regsCfg1

/-- The registers of block SHF, part 1. -/
def regsShf1 : List Reg := [
  ⟨"SHF_CMD", 0x50000, [], .host, [SHF_CMD_STATUS, SHF_CMD_BUSY, SHF_CMD_GO, SHF_CMD_OP]⟩,
  ⟨"SHF_ARG0", 0x50004, [], .host, [SHF_ARG0_VALUE]⟩,
  ⟨"SHF_ARG1", 0x50008, [], .host, [SHF_ARG1_VALUE]⟩,
  ⟨"SHF_ARG2", 0x5000C, [], .host, [SHF_ARG2_VALUE]⟩,
  ⟨"SHF_ARG3", 0x50010, [], .host, [SHF_ARG3_VALUE]⟩,
  ⟨"SHF_STAT", 0x50020, [], .shared, [SHF_STAT_RELAUTO, SHF_STAT_KIND, SHF_STAT_STATE]⟩,
  ⟨"SHF_RESULT", 0x50024, [], .shared, [SHF_RESULT_STATUS, SHF_RESULT_FAILDIE, SHF_RESULT_OUTCOME]⟩,
  ⟨"SHF_EPOCH", 0x50028, [], .shared, [SHF_EPOCH_EPOCH]⟩,
  ⟨"SHF_TCL", 0x50030, [], .shared, [SHF_TCL_T]⟩,
  ⟨"SHF_TCH", 0x50034, [], .shared, [SHF_TCH_T]⟩,
  ⟨"SHF_TRL", 0x50038, [], .shared, [SHF_TRL_T]⟩,
  ⟨"SHF_TRH", 0x5003C, [], .shared, [SHF_TRH_T]⟩,
  ⟨"SHF_CTL", 0x50040, [], .host, [SHF_CTL_AUTORB, SHF_CTL_ARMTMO, SHF_CTL_CHKWIN]⟩,
  ⟨"SHF_RELTMO", 0x50044, [], .host, [SHF_RELTMO_SEC]⟩,
  ⟨"SHF_QTMO", 0x50048, [], .host, [SHF_QTMO_TMO]⟩,
  ⟨"SHF_DIEST", 0x50100, [(0x4, 13)], .shared, [SHF_DIEST_REASON, SHF_DIEST_FAILED, SHF_DIEST_FLIPPED, SHF_DIEST_ARMED, SHF_DIEST_IN]⟩,
  ⟨"SHF_DETACHED", 0x50200, [(0x4, 12)], .shared, [SHF_DETACHED_MASK]⟩]

/-- The registers of block SHF. -/
def regsShf : List Reg := regsShf1

/-- The registers of block DRC, part 1. -/
def regsDrc1 : List Reg := [
  ⟨"DRC_STAT", 0x80000, [], .shared, [DRC_STAT_FAILED, DRC_STAT_FILLED, DRC_STAT_READY]⟩,
  ⟨"DRC_GEOM", 0x80004, [], .shared, [DRC_GEOM_SIZE, DRC_GEOM_COLB, DRC_GEOM_ROWB]⟩,
  ⟨"DRC_CTL", 0x80008, [], .host, [DRC_CTL_AUTORTR, DRC_CTL_TRKEN]⟩,
  ⟨"DRC_TRKCFG", 0x8000C, [], .host, [DRC_TRKCFG_MINEYE, DRC_TRKCFG_PERIOD]⟩,
  ⟨"DRC_SCHED", 0x80010, [], .host, [DRC_SCHED_AGE, DRC_SCHED_WQHI, DRC_SCHED_WQLO]⟩,
  ⟨"DRC_ERRLOG", 0x80020, [], .shared, [DRC_ERRLOG_VALID, DRC_ERRLOG_LOST, DRC_ERRLOG_KIND, DRC_ERRLOG_CH, DRC_ERRLOG_DEV, DRC_ERRLOG_STATUS]⟩,
  ⟨"DRC_ERRLOG2", 0x80024, [], .shared, [DRC_ERRLOG2_LINE]⟩,
  ⟨"DRC_CHSTAT", 0x81000, [(0x200, 8)], .shared, [DRC_CHSTAT_REASON, DRC_CHSTAT_TRATE, DRC_CHSTAT_HOT, DRC_CHSTAT_STATE]⟩,
  ⟨"DRC_FILLWM", 0x81004, [(0x200, 8)], .shared, [DRC_FILLWM_WM]⟩,
  ⟨"DRC_CECNT", 0x81008, [(0x200, 8)], .shared, [DRC_CECNT_COUNT]⟩,
  ⟨"DRC_UECNT", 0x8100C, [(0x200, 8)], .shared, [DRC_UECNT_COUNT]⟩,
  ⟨"DRC_FWDCNT", 0x81010, [(0x200, 8)], .shared, [DRC_FWDCNT_COUNT]⟩,
  ⟨"DRC_RAWWAIT", 0x81014, [(0x200, 8)], .shared, [DRC_RAWWAIT_COUNT]⟩,
  ⟨"DRC_CHCMD", 0x81018, [(0x200, 8)], .host, [DRC_CHCMD_STATUS, DRC_CHCMD_BUSY, DRC_CHCMD_GO, DRC_CHCMD_OP, DRC_CHCMD_LANE]⟩,
  ⟨"DRC_CHARG", 0x8101C, [(0x200, 8)], .host, [DRC_CHARG_LINE]⟩,
  ⟨"DRC_EYESEL", 0x81020, [(0x200, 8)], .shared, [DRC_EYESEL_DIR, DRC_EYESEL_LANE]⟩,
  ⟨"DRC_EYEDAT", 0x81024, [(0x200, 8)], .shared, [DRC_EYEDAT_LEFT, DRC_EYEDAT_RIGHT, DRC_EYEDAT_CENTRE, DRC_EYEDAT_VREF]⟩,
  ⟨"DRC_SPNEXT", 0x81028, [(0x200, 8)], .shared, [DRC_SPNEXT_NEXT]⟩,
  ⟨"DRC_REMAPA", 0x81040, [(0x200, 8), (0x8, 16)], .shared, [DRC_REMAPA_VALID, DRC_REMAPA_LINE]⟩,
  ⟨"DRC_REMAPB", 0x81044, [(0x200, 8), (0x8, 16)], .shared, [DRC_REMAPB_SPARE]⟩,
  ⟨"DRC_IDLE", 0x81100, [(0x200, 8), (0x4, 32)], .host, [DRC_IDLE_CYC]⟩]

/-- The registers of block DRC. -/
def regsDrc : List Reg := regsDrc1

/-- The registers of block COB, part 1. -/
def regsCob1 : List Reg := [
  ⟨"COB_CTL", 0x90000, [], .host, [COB_CTL_EN]⟩,
  ⟨"COB_STAT", 0x90004, [], .shared, [COB_STAT_SPFULL, COB_STAT_BURST, COB_STAT_LATE, COB_STAT_GUAR]⟩,
  ⟨"COB_POL", 0x90008, [], .host, [COB_POL_AUTORM, COB_POL_WIN, COB_POL_REMAPTH]⟩,
  ⟨"COB_BURST", 0x9000C, [], .host, [COB_BURST_EN, COB_BURST_FACTOR, COB_BURST_HOLD, COB_BURST_BTH]⟩,
  ⟨"COB_INTV", 0x90010, [(0x4, 5)], .host, [COB_INTV_INTV]⟩,
  ⟨"COB_EVENT", 0x90030, [], .shared, [COB_EVENT_VALID, COB_EVENT_LOST, COB_EVENT_KIND, COB_EVENT_CLASS, COB_EVENT_DIE, COB_EVENT_STATUS]⟩,
  ⟨"COB_EVENT2", 0x90034, [], .shared, [COB_EVENT2_LOC]⟩,
  ⟨"COB_CECNT", 0x90040, [(0x4, 5)], .shared, [COB_CECNT_COUNT]⟩,
  ⟨"COB_UECNT", 0x90060, [(0x4, 5)], .shared, [COB_UECNT_COUNT]⟩,
  ⟨"COB_LASTSWP", 0x90080, [(0x4, 4)], .shared, [COB_LASTSWP_TIME]⟩,
  ⟨"COB_HIST", 0x900A0, [], .shared, [COB_HIST_DROPPED, COB_HIST_USED]⟩,
  ⟨"COB_RSTORE", 0x900A4, [], .shared, [COB_RSTORE_FULL, COB_RSTORE_PEND, COB_RSTORE_USED]⟩,
  ⟨"COB_RSDROP", 0x900A8, [], .shared, [COB_RSDROP_COUNT]⟩,
  ⟨"COB_CMD", 0x900C0, [], .host, [COB_CMD_STATUS, COB_CMD_BUSY, COB_CMD_GO, COB_CMD_OP, COB_CMD_CLASS]⟩]

/-- The registers of block COB. -/
def regsCob : List Reg := regsCob1

/-- The registers of block SZL, part 1. -/
def regsSzl1 : List Reg := [
  ⟨"SZL_MODID", 0xA0000, [], .host, [SZL_MODID_ID]⟩,
  ⟨"SZL_EVENT", 0xA0010, [], .shared, [SZL_EVENT_VALID, SZL_EVENT_LOST, SZL_EVENT_KIND, SZL_EVENT_BUNDLE, SZL_EVENT_STATUS]⟩,
  ⟨"SZL_BCTL", 0xA1000, [(0x100, 8)], .host, [SZL_BCTL_EN, SZL_BCTL_RETRAIN, SZL_BCTL_STRSAFE, SZL_BCTL_PRECREQ, SZL_BCTL_FECIREQ, SZL_BCTL_HALFOK, SZL_BCTL_MINWIDTH, SZL_BCTL_UNCTH]⟩,
  ⟨"SZL_BSTAT", 0xA1004, [(0x100, 8)], .shared, [SZL_BSTAT_REASON, SZL_BSTAT_REFLOCK, SZL_BSTAT_STRUP, SZL_BSTAT_FECI, SZL_BSTAT_PRECTX, SZL_BSTAT_PRECRX, SZL_BSTAT_HALF, SZL_BSTAT_WIDTH, SZL_BSTAT_STATE]⟩,
  ⟨"SZL_LCAPW", 0xA1008, [(0x100, 8)], .shared, [SZL_LCAPW_WORD]⟩,
  ⟨"SZL_RCAPW", 0xA100C, [(0x100, 8)], .shared, [SZL_RCAPW_WORD]⟩,
  ⟨"SZL_ADMCTL", 0xA1010, [(0x100, 8)], .host, [SZL_ADMCTL_RDEN, SZL_ADMCTL_WREN]⟩,
  ⟨"SZL_ADMBASE", 0xA1014, [(0x100, 8)], .host, [SZL_ADMBASE_BASE]⟩,
  ⟨"SZL_ADMSIZE", 0xA1018, [(0x100, 8)], .host, [SZL_ADMSIZE_SIZE]⟩,
  ⟨"SZL_PWR", 0xA101C, [(0x100, 8)], .host, [SZL_PWR_TXREQ, SZL_PWR_TXST, SZL_PWR_RXST, SZL_PWR_SLEEPIDLE, SZL_PWR_DOZEIDLE]⟩,
  ⟨"SZL_STRLAT", 0xA1020, [(0x100, 8)], .shared, [SZL_STRLAT_DSQ]⟩,
  ⟨"SZL_CWCORR", 0xA1024, [(0x100, 8)], .shared, [SZL_CWCORR_COUNT]⟩,
  ⟨"SZL_CWUNC", 0xA1028, [(0x100, 8)], .shared, [SZL_CWUNC_COUNT]⟩,
  ⟨"SZL_REPLAY", 0xA102C, [(0x100, 8)], .shared, [SZL_REPLAY_COUNT]⟩,
  ⟨"SZL_STRERR", 0xA1030, [(0x100, 8)], .shared, [SZL_STRERR_COUNT]⟩,
  ⟨"SZL_TEST", 0xA1034, [(0x100, 8)], .host, [SZL_TEST_STATUS, SZL_TEST_GEN, SZL_TEST_CHK, SZL_TEST_PAT, SZL_TEST_LANEMASK]⟩,
  ⟨"SZL_INJ", 0xA1038, [(0x100, 8)], .host, [SZL_INJ_STATUS, SZL_INJ_GO, SZL_INJ_KIND, SZL_INJ_NSYM, SZL_INJ_LANEMASK]⟩,
  ⟨"SZL_TESTCNT", 0xA1040, [(0x100, 8), (0x4, 8)], .shared, [SZL_TESTCNT_COUNT]⟩]

/-- The registers of block SZL. -/
def regsSzl : List Reg := regsSzl1

/-- The registers of block PCI, part 1. -/
def regsPci1 : List Reg := [
  ⟨"PCI_STAT", 0xC0000, [], .shared, [PCI_STAT_DSTATE, PCI_STAT_WIDTH, PCI_STAT_SPEED]⟩,
  ⟨"PCI_B4WIN", 0xC0004, [], .host, [PCI_B4WIN_WIN]⟩,
  ⟨"PCI_ERRLOG", 0xC0008, [], .shared, [PCI_ERRLOG_VALID, PCI_ERRLOG_LOST, PCI_ERRLOG_WRITE, PCI_ERRLOG_BAR, PCI_ERRLOG_STATUS]⟩]

/-- The registers of block PCI. -/
def regsPci : List Reg := regsPci1

/-- The registers of block ETH, part 1. -/
def regsEth1 : List Reg := [
  ⟨"ETH_CAGE", 0xC1000, [(0x4, 4)], .host, [ETH_CAGE_PRESENT, ETH_CAGE_MODE]⟩,
  ⟨"ETH_PCTL", 0xC1100, [(0x8, 16)], .host, [ETH_PCTL_EN, ETH_PCTL_AN, ETH_PCTL_FEC, ETH_PCTL_DEFRULE]⟩,
  ⟨"ETH_PSTAT", 0xC1104, [(0x8, 16)], .shared, [ETH_PSTAT_LINK, ETH_PSTAT_FEC, ETH_PSTAT_BADFRM]⟩,
  ⟨"ETH_RULEA", 0xC2000, [(0x10, 64)], .host, [ETH_RULEA_EN, ETH_RULEA_ACT, ETH_RULEA_MMAC, ETH_RULEA_MVID, ETH_RULEA_MPCP, ETH_RULEA_MET, ETH_RULEA_RING, ETH_RULEA_PMASK]⟩,
  ⟨"ETH_RULEB", 0xC2004, [(0x10, 64)], .host, [ETH_RULEB_ETYPE, ETH_RULEB_PCP, ETH_RULEB_VID]⟩,
  ⟨"ETH_RULEC", 0xC2008, [(0x10, 64)], .host, [ETH_RULEC_MAC]⟩,
  ⟨"ETH_RULED", 0xC200C, [(0x10, 64)], .host, [ETH_RULED_MACL, ETH_RULED_TGT]⟩,
  ⟨"ETH_RABASE", 0xC3000, [(0x8, 64)], .host, [ETH_RABASE_ADDR]⟩,
  ⟨"ETH_RSTAT", 0xC3004, [(0x8, 64)], .shared, [ETH_RSTAT_DROP, ETH_RSTAT_FRAMES]⟩,
  ⟨"ETH_TXQ", 0xC3400, [(0x20, 16), (0x4, 8)], .host, [ETH_TXQ_EN, ETH_TXQ_Q]⟩,
  ⟨"ETH_GCLCMD", 0xC3800, [], .host, [ETH_GCLCMD_STATUS, ETH_GCLCMD_BUSY, ETH_GCLCMD_GO, ETH_GCLCMD_PORT]⟩,
  ⟨"ETH_GCLADR", 0xC3804, [], .host, [ETH_GCLADR_OFFSET]⟩,
  ⟨"ETH_PTPCTL", 0xC3900, [], .host, [ETH_PTPCTL_EN, ETH_PTPCTL_STEPOK, ETH_PTPCTL_PRIO1, ETH_PTPCTL_DOMAIN]⟩,
  ⟨"ETH_PTPSTAT", 0xC3904, [], .shared, [ETH_PTPSTAT_LOCKED, ETH_PTPSTAT_GM, ETH_PTPSTAT_HOLDOVER, ETH_PTPSTAT_SLAVEPORT, ETH_PTPSTAT_OFFSET]⟩]

/-- The registers of block ETH. -/
def regsEth : List Reg := regsEth1

/-- The registers of block GIO, part 1. -/
def regsGio1 : List Reg := [
  ⟨"GIO_PCFG", 0xC8000, [(0x100, 12), (0x4, 32)], .host, [GIO_PCFG_EVEN, GIO_PCFG_POL, GIO_PCFG_EDGE, GIO_PCFG_MINP, GIO_PCFG_SUNIT, GIO_PCFG_STUCK]⟩,
  ⟨"GIO_OVR", 0xC9000, [(0x100, 12), (0x4, 32)], .shared, [GIO_OVR_COUNT]⟩,
  ⟨"GIO_STUCK", 0xCA000, [(0x4, 12)], .shared, [GIO_STUCK_MASK]⟩,
  ⟨"GIO_BSTAT", 0xCA040, [(0x4, 12)], .shared, [GIO_BSTAT_STRAPUP, GIO_BSTAT_VFAULT, GIO_BSTAT_VOLT]⟩,
  ⟨"GIO_EVENT", 0xCA080, [], .shared, [GIO_EVENT_VALID, GIO_EVENT_LOST, GIO_EVENT_KIND, GIO_EVENT_BANK, GIO_EVENT_PIN]⟩]

/-- The registers of block GIO. -/
def regsGio : List Reg := regsGio1

end Sys2Proof.Machine
end

