-- ==== Sys2Proof/Machine/RegMapC.lean ====
section
/-! DEFINITION. The register fields of the GLB, PWR, CLK, GEAR, SBP, SEC, DBG, UPD, BBX and HLT blocks, one constant per field (address of instance 0, lowest bit,
width, access code, reset value), and the registers they make up, as the register tables of the chapters named give
them (R12, R14, R15).  A field whose reset is "HW" in the spec takes the value of notes/assumptions/3.md. -/

namespace Sys2Proof.Machine

/-! GLB_MODID (spec/01_dies_and_the_last.md; shared) -/
def GLB_MODID_CODE : Fld := ⟨0x0, 16, 4, .ro, 1⟩
def GLB_MODID_ISSUE : Fld := ⟨0x0, 0, 16, .ro, 0x4241⟩
/-! GLB_LASTID (spec/01_dies_and_the_last.md; shared) -/
def GLB_LASTID_STEP : Fld := ⟨0x4, 8, 8, .ro, 18⟩
def GLB_LASTID_GEN : Fld := ⟨0x4, 4, 4, .ro, 1⟩
def GLB_LASTID_PROTO : Fld := ⟨0x4, 0, 4, .ro, 2⟩
/-! GLB_PKG (spec/01_dies_and_the_last.md; shared) -/
def GLB_PKG_PROTO : Fld := ⟨0x8, 28, 4, .ro, 0⟩
def GLB_PKG_SUPPORTED : Fld := ⟨0x8, 12, 12, .ro, 0⟩
def GLB_PKG_PRESENT : Fld := ⟨0x8, 0, 12, .ro, 0⟩
/-! GLB_COMPATRES (spec/01_dies_and_the_last.md; shared) -/
def GLB_COMPATRES_STATUS : Fld := ⟨0xC, 16, 16, .ro, 0⟩
def GLB_COMPATRES_DIE : Fld := ⟨0xC, 0, 4, .ro, 15⟩
/-! GLB_SUPIDX (spec/01_dies_and_the_last.md; shared) -/
def GLB_SUPIDX_INDEX : Fld := ⟨0x10, 0, 6, .rw, 0⟩
/-! GLB_SUPDAT (spec/01_dies_and_the_last.md; shared) -/
def GLB_SUPDAT_GEN : Fld := ⟨0x14, 28, 4, .ro, 0⟩
def GLB_SUPDAT_STEP_MIN : Fld := ⟨0x14, 20, 8, .ro, 0⟩
def GLB_SUPDAT_STEP_MAX : Fld := ⟨0x14, 12, 8, .ro, 0⟩
def GLB_SUPDAT_PROTO : Fld := ⟨0x14, 8, 4, .ro, 0⟩
def GLB_SUPDAT_FEAT : Fld := ⟨0x14, 0, 8, .ro, 0⟩
/-! GLB_MODE (spec/18_modes_startup_reset.md; shared) -/
def GLB_MODE_STATUS : Fld := ⟨0x20, 16, 16, .ro, 0⟩
def GLB_MODE_BUSY : Fld := ⟨0x20, 15, 1, .ro, 0⟩
def GLB_MODE_REQ : Fld := ⟨0x20, 12, 3, .wo, 0⟩
def GLB_MODE_SOUT : Fld := ⟨0x20, 8, 4, .ro, 0⟩
def GLB_MODE_MODE : Fld := ⟨0x20, 0, 3, .ro, 0⟩
/-! GLB_SAFE (spec/18_modes_startup_reset.md; shared) -/
def GLB_SAFE_FIRST : Fld := ⟨0x24, 16, 16, .ro, 0⟩
def GLB_SAFE_COUNT : Fld := ⟨0x24, 8, 8, .ro, 0⟩
/-! GLB_SAFELAST (spec/18_modes_startup_reset.md; shared) -/
def GLB_SAFELAST_LAST : Fld := ⟨0x28, 16, 16, .ro, 0⟩
/-! GLB_SOUT (spec/18_modes_startup_reset.md; host-owned) -/
def GLB_SOUT_MASK3 : Fld := ⟨0x2C, 24, 6, .rw, 24⟩
def GLB_SOUT_MASK2 : Fld := ⟨0x2C, 16, 6, .rw, 24⟩
def GLB_SOUT_MASK1 : Fld := ⟨0x2C, 8, 6, .rw, 24⟩
def GLB_SOUT_MASK0 : Fld := ⟨0x2C, 0, 6, .rw, 24⟩
/-! GLB_XEVENT (spec/18_modes_startup_reset.md; shared) -/
def GLB_XEVENT_VALID : Fld := ⟨0x30, 31, 1, .rp, 0⟩
def GLB_XEVENT_LOST : Fld := ⟨0x30, 30, 1, .rp, 0⟩
def GLB_XEVENT_KIND : Fld := ⟨0x30, 26, 4, .rp, 0⟩
def GLB_XEVENT_DIE : Fld := ⟨0x30, 22, 4, .rp, 0⟩
def GLB_XEVENT_UNIT : Fld := ⟨0x30, 16, 6, .rp, 0⟩
def GLB_XEVENT_DISCARDED : Fld := ⟨0x30, 0, 16, .rp, 0⟩
/-! GLB_HEARTBEAT (spec/20_sideband_and_security.md; host-owned) -/
def GLB_HEARTBEAT_KEY : Fld := ⟨0x40, 0, 16, .wo, 0⟩
/-! GLB_HBTMO (spec/20_sideband_and_security.md; host-owned) -/
def GLB_HBTMO_ACT : Fld := ⟨0x44, 16, 2, .rw, 0⟩
def GLB_HBTMO_TMO : Fld := ⟨0x44, 0, 16, .rw, 0⟩
/-! GLB_HBBAD (spec/20_sideband_and_security.md; shared) -/
def GLB_HBBAD_COUNT : Fld := ⟨0x48, 0, 32, .rc, 0⟩
/-! GLB_DIESTAT (spec/01_dies_and_the_last.md; shared) -/
def GLB_DIESTAT_REASON : Fld := ⟨0x100, 16, 16, .ro, 0⟩
def GLB_DIESTAT_STATE : Fld := ⟨0x100, 0, 3, .ro, 0⟩
/-! GLB_SAFEREG (spec/18_modes_startup_reset.md; shared) -/
def GLB_SAFEREG_MASK : Fld := ⟨0x200, 0, 32, .ro, 0⟩
/-! PWR_STAT (spec/19_module_power_entry.md; shared) -/
def PWR_STAT_MAINS : Fld := ⟨0x10000, 31, 1, .ro, 0⟩
def PWR_STAT_STBY : Fld := ⟨0x10000, 30, 1, .ro, 0⟩
def PWR_STAT_MAIN : Fld := ⟨0x10000, 29, 1, .ro, 0⟩
def PWR_STAT_WARN : Fld := ⟨0x10000, 28, 1, .ro, 0⟩
def PWR_STAT_NVINH : Fld := ⟨0x10000, 27, 1, .ro, 1⟩
def PWR_STAT_BATLOW : Fld := ⟨0x10000, 26, 1, .ro, 0⟩
def PWR_STAT_BATABS : Fld := ⟨0x10000, 25, 1, .ro, 0⟩
def PWR_STAT_PSUHOT : Fld := ⟨0x10000, 24, 1, .ro, 0⟩
def PWR_STAT_OV : Fld := ⟨0x10000, 23, 1, .ro, 0⟩
def PWR_STAT_HOST : Fld := ⟨0x10000, 22, 1, .ro, 0⟩
def PWR_STAT_MLOST : Fld := ⟨0x10000, 0, 1, .w1c, 0⟩
/-! PWR_INPUT (spec/19_module_power_entry.md; shared) -/
def PWR_INPUT_VRMS : Fld := ⟨0x10004, 23, 9, .ro, 0⟩
def PWR_INPUT_FREQ : Fld := ⟨0x10004, 16, 7, .ro, 0⟩
def PWR_INPUT_PIN : Fld := ⟨0x10004, 0, 16, .ro, 0⟩
/-! PWR_BULK (spec/19_module_power_entry.md; shared) -/
def PWR_BULK_VBULK : Fld := ⟨0x10008, 22, 10, .ro, 0⟩
def PWR_BULK_CAP : Fld := ⟨0x10008, 12, 10, .ro, 0⟩
/-! PWR_HOLDUP (spec/19_module_power_entry.md; shared) -/
def PWR_HOLDUP_EUSE : Fld := ⟨0x1000C, 16, 16, .ro, 0⟩
def PWR_HOLDUP_H : Fld := ⟨0x1000C, 0, 16, .ro, 0⟩
/-! PWR_LOAD (spec/19_module_power_entry.md; shared) -/
def PWR_LOAD_POUT : Fld := ⟨0x10010, 16, 16, .ro, 0⟩
def PWR_LOAD_TPSU : Fld := ⟨0x10010, 8, 8, .ro, 0⟩
/-! PWR_BATT (spec/19_module_power_entry.md; shared) -/
def PWR_BATT_VBAT : Fld := ⟨0x10014, 8, 12, .ro, 0⟩
def PWR_BATT_AGE : Fld := ⟨0x10014, 0, 8, .ro, 0⟩
/-! PWR_EVENT (spec/19_module_power_entry.md; shared) -/
def PWR_EVENT_VALID : Fld := ⟨0x10018, 31, 1, .rp, 0⟩
def PWR_EVENT_LOST : Fld := ⟨0x10018, 30, 1, .rp, 0⟩
def PWR_EVENT_KIND : Fld := ⟨0x10018, 26, 4, .rp, 0⟩
def PWR_EVENT_DIE : Fld := ⟨0x10018, 22, 4, .rp, 0⟩
def PWR_EVENT_STATUS : Fld := ⟨0x10018, 0, 16, .rp, 0⟩
/-! PWR_COOL (spec/19_module_power_entry.md; shared) -/
def PWR_COOL_TIN : Fld := ⟨0x1001C, 24, 8, .ro, 0⟩
def PWR_COOL_TOUT : Fld := ⟨0x1001C, 16, 8, .ro, 0⟩
/-! PWR_FAN (spec/19_module_power_entry.md; shared) -/
def PWR_FAN_PRESENT : Fld := ⟨0x10020, 31, 1, .ro, 0⟩
def PWR_FAN_FAIL : Fld := ⟨0x10020, 30, 1, .ro, 0⟩
def PWR_FAN_RPM : Fld := ⟨0x10020, 0, 16, .ro, 0⟩
/-! PWR_DIERAIL (spec/19_module_power_entry.md; shared) -/
def PWR_DIERAIL_AMPS : Fld := ⟨0x10100, 20, 12, .ro, 0⟩
def PWR_DIERAIL_VMV : Fld := ⟨0x10100, 8, 12, .ro, 0⟩
def PWR_DIERAIL_LINK : Fld := ⟨0x10100, 0, 1, .ro, 0⟩
/-! PWR_LSSEG (spec/04_fabric_memory_banks.md; shared) -/
def PWR_LSSEG_STATUS : Fld := ⟨0x10400, 16, 16, .ro, 0⟩
def PWR_LSSEG_AUTOWAKE : Fld := ⟨0x10400, 4, 1, .rw, 1⟩
def PWR_LSSEG_STATE : Fld := ⟨0x10400, 2, 2, .ro, 0⟩
def PWR_LSSEG_REQ : Fld := ⟨0x10400, 0, 2, .rw, 0⟩
/-! PWR_VAULT (spec/04_fabric_memory_banks.md; shared) -/
def PWR_VAULT_AUTOWAKE : Fld := ⟨0x10500, 4, 1, .rw, 1⟩
def PWR_VAULT_STATE : Fld := ⟨0x10500, 2, 2, .ro, 0⟩
def PWR_VAULT_REQ : Fld := ⟨0x10500, 0, 2, .rw, 0⟩
/-! CLK_STAT (spec/17_clocks_and_gears.md; shared) -/
def CLK_STAT_REASON : Fld := ⟨0x20000, 16, 16, .ro, 0⟩
def CLK_STAT_READY : Fld := ⟨0x20000, 15, 1, .ro, 0⟩
def CLK_STAT_HOLDOVER : Fld := ⟨0x20000, 14, 1, .ro, 0⟩
def CLK_STAT_REFSTATE : Fld := ⟨0x20000, 12, 2, .ro, 0⟩
def CLK_STAT_LOCK : Fld := ⟨0x20000, 0, 6, .ro, 0⟩
/-! CLK_NVS (spec/17_clocks_and_gears.md; shared) -/
def CLK_NVS_REFSRC : Fld := ⟨0x20004, 8, 1, .ro, 0⟩
def CLK_NVS_OSCDLY : Fld := ⟨0x20004, 0, 8, .ro, 15⟩
/-! CLK_REFMEAS (spec/17_clocks_and_gears.md; shared) -/
def CLK_REFMEAS_DEV : Fld := ⟨0x20008, 20, 12, .ro, 0⟩
def CLK_REFMEAS_COUNT : Fld := ⟨0x20008, 0, 17, .ro, 0⟩
/-! CLK_CTL (spec/17_clocks_and_gears.md; host-owned) -/
def CLK_CTL_AUTORES : Fld := ⟨0x2000C, 31, 1, .rw, 0⟩
def CLK_CTL_RTCSYNC : Fld := ⟨0x2000C, 30, 1, .rw, 1⟩
def CLK_CTL_RESDLY : Fld := ⟨0x2000C, 16, 8, .rw, 100⟩
def CLK_CTL_AUTOMAX : Fld := ⟨0x2000C, 0, 4, .rw, 3⟩
/-! CLK_EVENT (spec/17_clocks_and_gears.md; shared) -/
def CLK_EVENT_VALID : Fld := ⟨0x20010, 31, 1, .rp, 0⟩
def CLK_EVENT_LOST : Fld := ⟨0x20010, 30, 1, .rp, 0⟩
def CLK_EVENT_KIND : Fld := ⟨0x20010, 26, 4, .rp, 0⟩
def CLK_EVENT_DIE : Fld := ⟨0x20010, 22, 4, .rp, 0⟩
def CLK_EVENT_UNIT : Fld := ⟨0x20010, 17, 5, .rp, 0⟩
def CLK_EVENT_STATUS : Fld := ⟨0x20010, 0, 16, .rp, 0⟩
/-! CLK_TBL (spec/17_clocks_and_gears.md; shared) -/
def CLK_TBL_TB : Fld := ⟨0x20020, 0, 32, .ro, 0⟩
/-! CLK_TBH (spec/17_clocks_and_gears.md; shared) -/
def CLK_TBH_TB : Fld := ⟨0x20024, 0, 32, .ro, 0⟩
/-! CLK_TBSTEPL (spec/17_clocks_and_gears.md; host-owned) -/
def CLK_TBSTEPL_STEP : Fld := ⟨0x20028, 0, 32, .rw, 0⟩
/-! CLK_TBSTEPH (spec/17_clocks_and_gears.md; host-owned) -/
def CLK_TBSTEPH_STEP : Fld := ⟨0x2002C, 0, 32, .rw, 0⟩
/-! CLK_TBCMD (spec/17_clocks_and_gears.md; host-owned) -/
def CLK_TBCMD_STATUS : Fld := ⟨0x20030, 16, 16, .ro, 0⟩
def CLK_TBCMD_BUSY : Fld := ⟨0x20030, 15, 1, .ro, 0⟩
def CLK_TBCMD_GO : Fld := ⟨0x20030, 14, 1, .wo, 0⟩
def CLK_TBCMD_OP : Fld := ⟨0x20030, 12, 2, .rw, 0⟩
/-! CLK_RTCSEC (spec/17_clocks_and_gears.md; shared) -/
def CLK_RTCSEC_SEC : Fld := ⟨0x20040, 0, 32, .ro, 0⟩
/-! CLK_RTCSECH (spec/17_clocks_and_gears.md; shared) -/
def CLK_RTCSECH_VALID : Fld := ⟨0x20044, 31, 1, .ro, 0⟩
def CLK_RTCSECH_SUB : Fld := ⟨0x20044, 16, 15, .ro, 0⟩
def CLK_RTCSECH_SECH : Fld := ⟨0x20044, 0, 16, .ro, 0⟩
/-! CLK_RTCSETL (spec/17_clocks_and_gears.md; host-owned) -/
def CLK_RTCSETL_SEC : Fld := ⟨0x20048, 0, 32, .rw, 0⟩
/-! CLK_RTCSETH (spec/17_clocks_and_gears.md; host-owned) -/
def CLK_RTCSETH_SEC : Fld := ⟨0x2004C, 0, 16, .rw, 0⟩
/-! CLK_PLLDIE (spec/17_clocks_and_gears.md; shared) -/
def CLK_PLLDIE_AWL : Fld := ⟨0x20100, 9, 1, .ro, 0⟩
def CLK_PLLDIE_WELT : Fld := ⟨0x20100, 8, 1, .ro, 0⟩
def CLK_PLLDIE_GEN : Fld := ⟨0x20100, 0, 8, .ro, 0⟩
/-! GEAR_REQ (spec/17_clocks_and_gears.md; host-owned) -/
def GEAR_REQ_GEAR : Fld := ⟨0x30000, 0, 3, .rw, 4⟩
/-! GEAR_HLIM (spec/17_clocks_and_gears.md; shared) -/
def GEAR_HLIM_LIMIT : Fld := ⟨0x30040, 0, 3, .rw, 4⟩
/-! GEAR_STAT (spec/17_clocks_and_gears.md; shared) -/
def GEAR_STAT_STATUS : Fld := ⟨0x30080, 16, 16, .ro, 0⟩
def GEAR_STAT_CLMA : Fld := ⟨0x30080, 11, 1, .ro, 0⟩
def GEAR_STAT_CLTIM : Fld := ⟨0x30080, 10, 1, .ro, 0⟩
def GEAR_STAT_CLHLT : Fld := ⟨0x30080, 9, 1, .ro, 0⟩
def GEAR_STAT_PHASE : Fld := ⟨0x30080, 6, 2, .ro, 0⟩
def GEAR_STAT_TARGET : Fld := ⟨0x30080, 3, 3, .ro, 0⟩
def GEAR_STAT_GEAR : Fld := ⟨0x30080, 0, 3, .ro, 0⟩
/-! GEAR_DIE (spec/17_clocks_and_gears.md; shared) -/
def GEAR_DIE_GROUP : Fld := ⟨0x30100, 28, 4, .ro, 15⟩
def GEAR_DIE_VMV : Fld := ⟨0x30100, 4, 12, .ro, 0⟩
def GEAR_DIE_GEAR : Fld := ⟨0x30100, 0, 3, .ro, 0⟩
/-! SBP_CTRL (spec/20_sideband_and_security.md; shared) -/
def SBP_CTRL_ARMED : Fld := ⟨0xD0000, 2, 1, .ro, 0⟩
def SBP_CTRL_LAPSED : Fld := ⟨0xD0000, 1, 1, .ro, 0⟩
def SBP_CTRL_CONTROL : Fld := ⟨0xD0000, 0, 1, .ro, 0⟩
/-! SBP_GRANT (spec/20_sideband_and_security.md; host-owned) -/
def SBP_GRANT_GRANT : Fld := ⟨0xD0004, 0, 1, .rw, 0⟩
/-! SBP_LINK (spec/20_sideband_and_security.md; shared) -/
def SBP_LINK_RATE : Fld := ⟨0xD0008, 8, 3, .ro, 0⟩
def SBP_LINK_ADDR : Fld := ⟨0xD0008, 0, 8, .ro, 1⟩
/-! SBP_IDLE (spec/20_sideband_and_security.md; side-band-owned) -/
def SBP_IDLE_SEC : Fld := ⟨0xD000C, 0, 16, .rw, 10⟩
/-! SBP_RXERR (spec/20_sideband_and_security.md; shared) -/
def SBP_RXERR_COUNT : Fld := ⟨0xD0010, 0, 32, .rc, 0⟩
/-! SBP_DENY (spec/20_sideband_and_security.md; shared) -/
def SBP_DENY_COUNT : Fld := ⟨0xD0014, 0, 32, .rc, 0⟩
/-! SBP_DENYADR (spec/20_sideband_and_security.md; shared) -/
def SBP_DENYADR_ADDR : Fld := ⟨0xD0018, 0, 32, .ro, 0⟩
/-! SBP_EVENT (spec/20_sideband_and_security.md; shared) -/
def SBP_EVENT_VALID : Fld := ⟨0xD0020, 31, 1, .rp, 0⟩
def SBP_EVENT_LOST : Fld := ⟨0xD0020, 30, 1, .rp, 0⟩
def SBP_EVENT_KIND : Fld := ⟨0xD0020, 26, 4, .rp, 0⟩
/-! SEC_STAT (spec/20_sideband_and_security.md; shared) -/
def SEC_STAT_LC : Fld := ⟨0xE0000, 29, 3, .ro, 1⟩
def SEC_STAT_RETCNT : Fld := ⟨0xE0000, 27, 2, .ro, 0⟩
def SEC_STAT_OWNLOCK : Fld := ⟨0xE0000, 26, 1, .ro, 0⟩
def SEC_STAT_OWNIN : Fld := ⟨0xE0000, 25, 1, .ro, 0⟩
def SEC_STAT_DBGOPEN : Fld := ⟨0xE0000, 24, 1, .ro, 1⟩
def SEC_STAT_SLOTPROG : Fld := ⟨0xE0000, 8, 8, .ro, 1⟩
def SEC_STAT_SLOTREV : Fld := ⟨0xE0000, 0, 8, .ro, 0⟩
/-! SEC_CMD (spec/20_sideband_and_security.md; shared) -/
def SEC_CMD_STATUS : Fld := ⟨0xE0004, 16, 16, .ro, 0⟩
def SEC_CMD_BUSY : Fld := ⟨0xE0004, 15, 1, .ro, 0⟩
def SEC_CMD_GO : Fld := ⟨0xE0004, 14, 1, .wo, 0⟩
/-! SEC_CMDADR (spec/20_sideband_and_security.md; shared) -/
def SEC_CMDADR_OFFSET : Fld := ⟨0xE0008, 6, 19, .rw, 0⟩
/-! SEC_NONCEL (spec/20_sideband_and_security.md; shared) -/
def SEC_NONCEL_N : Fld := ⟨0xE0010, 0, 32, .ro, 0⟩
/-! SEC_NONCEH (spec/20_sideband_and_security.md; shared) -/
def SEC_NONCEH_N : Fld := ⟨0xE0014, 0, 32, .ro, 0⟩
/-! SEC_MODSNL (spec/20_sideband_and_security.md; shared) -/
def SEC_MODSNL_SN : Fld := ⟨0xE0018, 0, 32, .ro, 0⟩
/-! SEC_MODSNH (spec/20_sideband_and_security.md; shared) -/
def SEC_MODSNH_SN : Fld := ⟨0xE001C, 0, 32, .ro, 0⟩
/-! SEC_KEYS (spec/20_sideband_and_security.md; shared) -/
def SEC_KEYS_PRESENT : Fld := ⟨0xE0020, 1, 15, .ro, 0⟩
/-! SEC_TAMPEN (spec/20_sideband_and_security.md; host-owned) -/
def SEC_TAMPEN_EN : Fld := ⟨0xE0030, 0, 5, .rw, 31⟩
/-! SEC_TAMPACT (spec/20_sideband_and_security.md; host-owned) -/
def SEC_TAMPACT_ZERO : Fld := ⟨0xE0034, 5, 5, .rw, 0⟩
def SEC_TAMPACT_SAFE : Fld := ⟨0xE0034, 0, 5, .rw, 0⟩
/-! SEC_TAMPER (spec/20_sideband_and_security.md; shared) -/
def SEC_TAMPER_LATCH : Fld := ⟨0xE0038, 0, 5, .w1c, 0⟩
/-! SEC_TAMPRAW (spec/20_sideband_and_security.md; shared) -/
def SEC_TAMPRAW_RAW : Fld := ⟨0xE003C, 0, 5, .ro, 0⟩
/-! SEC_BATSVC (spec/20_sideband_and_security.md; shared) -/
def SEC_BATSVC_STATUS : Fld := ⟨0xE0040, 16, 16, .ro, 0⟩
def SEC_BATSVC_OPEN : Fld := ⟨0xE0040, 15, 1, .ro, 0⟩
def SEC_BATSVC_GO : Fld := ⟨0xE0040, 14, 1, .wo, 0⟩
def SEC_BATSVC_REMAIN : Fld := ⟨0xE0040, 0, 10, .ro, 0⟩
/-! SEC_EVENT (spec/20_sideband_and_security.md; shared) -/
def SEC_EVENT_VALID : Fld := ⟨0xE0050, 31, 1, .rp, 0⟩
def SEC_EVENT_LOST : Fld := ⟨0xE0050, 30, 1, .rp, 0⟩
def SEC_EVENT_KIND : Fld := ⟨0xE0050, 26, 4, .rp, 0⟩
def SEC_EVENT_STATUS : Fld := ⟨0xE0050, 0, 16, .rp, 0⟩
/-! SEC_DEVPUB (spec/20_sideband_and_security.md; shared) -/
def SEC_DEVPUB_WORD : Fld := ⟨0xE0100, 0, 32, .ro, 0⟩
/-! DBG_ID (spec/21_debug_run_control.md; shared) -/
def DBG_ID_IDCODE : Fld := ⟨0xF0000, 0, 32, .ro, 0x112000f3⟩
/-! DBG_PORT (spec/21_debug_run_control.md; shared) -/
def DBG_PORT_OPEN : Fld := ⟨0xF0004, 31, 1, .ro, 1⟩
def DBG_PORT_PROBE : Fld := ⟨0xF0004, 30, 1, .ro, 0⟩
def DBG_PORT_POWER : Fld := ⟨0xF0004, 29, 1, .ro, 1⟩
def DBG_PORT_UNLOCKED : Fld := ⟨0xF0004, 28, 1, .ro, 0⟩
def DBG_PORT_WRITES : Fld := ⟨0xF0004, 0, 16, .rc, 0⟩
/-! DBG_CTL (spec/21_debug_run_control.md; host-owned) -/
def DBG_CTL_WDGHOLD : Fld := ⟨0xF0008, 31, 1, .rw, 0⟩
def DBG_CTL_TRIGACT : Fld := ⟨0xF0008, 29, 2, .rw, 0⟩
def DBG_CTL_TRIGCORE : Fld := ⟨0xF0008, 16, 9, .rw, 0⟩
/-! DBG_CAPCFG (spec/21_debug_run_control.md; host-owned) -/
def DBG_CAPCFG_ARM : Fld := ⟨0xF0010, 31, 1, .rw, 0⟩
def DBG_CAPCFG_DELAY : Fld := ⟨0xF0010, 20, 10, .rw, 30⟩
def DBG_CAPCFG_DIEMASK : Fld := ⟨0xF0010, 0, 12, .rw, 0⟩
/-! DBG_CAPMASK (spec/21_debug_run_control.md; host-owned) -/
def DBG_CAPMASK_MASK : Fld := ⟨0xF0014, 0, 32, .rw, 0⟩
/-! DBG_CAPSTAT (spec/21_debug_run_control.md; shared) -/
def DBG_CAPSTAT_STATUS : Fld := ⟨0xF0018, 16, 16, .ro, 0⟩
def DBG_CAPSTAT_PEND : Fld := ⟨0xF0018, 15, 1, .ro, 0⟩
def DBG_CAPSTAT_DONE : Fld := ⟨0xF0018, 14, 1, .w1c, 0⟩
def DBG_CAPSTAT_MISSED : Fld := ⟨0xF0018, 0, 14, .rc, 0⟩
/-! DBG_CAPTL (spec/21_debug_run_control.md; shared) -/
def DBG_CAPTL_T : Fld := ⟨0xF001C, 0, 32, .ro, 0⟩
/-! DBG_CAPTH (spec/21_debug_run_control.md; shared) -/
def DBG_CAPTH_T : Fld := ⟨0xF0020, 0, 32, .ro, 0⟩
/-! DBG_CAPEL (spec/21_debug_run_control.md; shared) -/
def DBG_CAPEL_T : Fld := ⟨0xF0024, 0, 32, .ro, 0⟩
/-! DBG_CAPEH (spec/21_debug_run_control.md; shared) -/
def DBG_CAPEH_T : Fld := ⟨0xF0028, 0, 32, .ro, 0⟩
/-! DBG_WMCTL (spec/21_debug_run_control.md; host-owned) -/
def DBG_WMCTL_EN : Fld := ⟨0xF0400, 31, 1, .rw, 0⟩
def DBG_WMCTL_ACT : Fld := ⟨0xF0400, 29, 2, .rw, 0⟩
def DBG_WMCTL_DIE : Fld := ⟨0xF0400, 25, 4, .rw, 0⟩
def DBG_WMCTL_ROUTER : Fld := ⟨0xF0400, 22, 3, .rw, 0⟩
def DBG_WMCTL_CLASSMASK : Fld := ⟨0xF0400, 18, 4, .rw, 0⟩
def DBG_WMCTL_CORE : Fld := ⟨0xF0400, 9, 9, .rw, 0⟩
def DBG_WMCTL_OP : Fld := ⟨0xF0400, 3, 6, .rw, 0⟩
def DBG_WMCTL_OPEN : Fld := ⟨0xF0400, 2, 1, .rw, 0⟩
/-! DBG_WMDST (spec/21_debug_run_control.md; host-owned) -/
def DBG_WMDST_VALUE : Fld := ⟨0xF0404, 16, 16, .rw, 0⟩
def DBG_WMDST_MASK : Fld := ⟨0xF0404, 0, 16, .rw, 0⟩
/-! DBG_WMSRC (spec/21_debug_run_control.md; host-owned) -/
def DBG_WMSRC_VALUE : Fld := ⟨0xF0408, 16, 16, .rw, 0⟩
def DBG_WMSRC_MASK : Fld := ⟨0xF0408, 0, 16, .rw, 0⟩
/-! DBG_WMAVL (spec/21_debug_run_control.md; host-owned) -/
def DBG_WMAVL_VALUE : Fld := ⟨0xF040C, 6, 26, .rw, 0⟩
/-! DBG_WMAVH (spec/21_debug_run_control.md; host-owned) -/
def DBG_WMAVH_MASK : Fld := ⟨0xF0410, 16, 16, .rw, 0⟩
def DBG_WMAVH_VALUE : Fld := ⟨0xF0410, 0, 16, .rw, 0⟩
/-! DBG_WMAML (spec/21_debug_run_control.md; host-owned) -/
def DBG_WMAML_MASK : Fld := ⟨0xF0414, 6, 26, .rw, 0⟩
/-! DBG_WMCNT (spec/21_debug_run_control.md; shared) -/
def DBG_WMCNT_COUNT : Fld := ⟨0xF0418, 0, 32, .rc, 0⟩
/-! DBG_CORECTL (spec/21_debug_run_control.md; host-owned) -/
def DBG_CORECTL_MONEN : Fld := ⟨0xF1000, 31, 1, .rw, 0⟩
def DBG_CORECTL_THRESH : Fld := ⟨0xF1000, 0, 3, .rw, 4⟩
/-! DBG_CORECMD (spec/21_debug_run_control.md; host-owned) -/
def DBG_CORECMD_STATUS : Fld := ⟨0xF1004, 16, 16, .ro, 0⟩
def DBG_CORECMD_BUSY : Fld := ⟨0xF1004, 15, 1, .ro, 0⟩
def DBG_CORECMD_GO : Fld := ⟨0xF1004, 14, 1, .wo, 0⟩
def DBG_CORECMD_OP : Fld := ⟨0xF1004, 11, 3, .rw, 0⟩
/-! DBG_STAT (spec/21_debug_run_control.md; shared) -/
def DBG_STAT_CODE : Fld := ⟨0xF1008, 24, 8, .ro, 0⟩
def DBG_STAT_CAUSE : Fld := ⟨0xF1008, 21, 3, .ro, 0⟩
def DBG_STAT_COMP : Fld := ⟨0xF1008, 19, 2, .ro, 0⟩
def DBG_STAT_MULTI : Fld := ⟨0xF1008, 18, 1, .w1c, 0⟩
def DBG_STAT_LOCKDEF : Fld := ⟨0xF1008, 17, 1, .w1c, 0⟩
def DBG_STAT_MON : Fld := ⟨0xF1008, 16, 1, .ro, 0⟩
def DBG_STAT_ENTRIES : Fld := ⟨0xF1008, 0, 16, .ro, 0⟩
/-! DBG_CMPCTL (spec/21_debug_run_control.md; host-owned) -/
def DBG_CMPCTL_EN : Fld := ⟨0xF1010, 31, 1, .rw, 0⟩
def DBG_CMPCTL_KIND : Fld := ⟨0xF1010, 28, 3, .rw, 0⟩
def DBG_CMPCTL_ACT : Fld := ⟨0xF1010, 26, 2, .rw, 0⟩
def DBG_CMPCTL_DMATCH : Fld := ⟨0xF1010, 25, 1, .rw, 0⟩
def DBG_CMPCTL_SKIP : Fld := ⟨0xF1010, 0, 16, .rw, 0⟩
/-! DBG_CMPADR (spec/21_debug_run_control.md; host-owned) -/
def DBG_CMPADR_VALUE : Fld := ⟨0xF1014, 0, 32, .rw, 0⟩
/-! DBG_CMPMSK (spec/21_debug_run_control.md; host-owned) -/
def DBG_CMPMSK_VALUE : Fld := ⟨0xF1018, 0, 32, .rw, 0⟩
/-! DBG_CMPDAT (spec/21_debug_run_control.md; host-owned) -/
def DBG_CMPDAT_VALUE : Fld := ⟨0xF101C, 0, 32, .rw, 0⟩
/-! UPD_CMD (spec/22_field_update.md; host-owned) -/
def UPD_CMD_STATUS : Fld := ⟨0x100000, 16, 16, .ro, 0⟩
def UPD_CMD_BUSY : Fld := ⟨0x100000, 15, 1, .ro, 0⟩
def UPD_CMD_GO : Fld := ⟨0x100000, 14, 1, .wo, 0⟩
def UPD_CMD_OP : Fld := ⟨0x100000, 11, 3, .rw, 0⟩
/-! UPD_ARG0 (spec/22_field_update.md; host-owned) -/
def UPD_ARG0_VALUE : Fld := ⟨0x100004, 0, 32, .rw, 0⟩
/-! UPD_ARG1 (spec/22_field_update.md; host-owned) -/
def UPD_ARG1_VALUE : Fld := ⟨0x100008, 0, 32, .rw, 0⟩
/-! UPD_ARG2 (spec/22_field_update.md; host-owned) -/
def UPD_ARG2_VALUE : Fld := ⟨0x10000C, 0, 32, .rw, 0⟩
/-! UPD_STAT (spec/22_field_update.md; shared) -/
def UPD_STAT_STATE : Fld := ⟨0x100020, 28, 4, .ro, 0⟩
def UPD_STAT_STEP : Fld := ⟨0x100020, 23, 5, .ro, 0⟩
def UPD_STAT_NSTEP : Fld := ⟨0x100020, 18, 5, .ro, 0⟩
def UPD_STAT_REVOK : Fld := ⟨0x100020, 17, 1, .ro, 0⟩
def UPD_STAT_MOTION : Fld := ⟨0x100020, 16, 1, .ro, 0⟩
def UPD_STAT_HOLDS : Fld := ⟨0x100020, 8, 5, .ro, 0⟩
def UPD_STAT_SLIP : Fld := ⟨0x100020, 0, 8, .ro, 0⟩
/-! UPD_RESULT (spec/22_field_update.md; shared) -/
def UPD_RESULT_STATUS : Fld := ⟨0x100024, 16, 16, .ro, 0⟩
def UPD_RESULT_COMP : Fld := ⟨0x100024, 3, 5, .ro, 31⟩
def UPD_RESULT_OUTCOME : Fld := ⟨0x100024, 0, 3, .ro, 0⟩
/-! UPD_TAL (spec/22_field_update.md; shared) -/
def UPD_TAL_T : Fld := ⟨0x100028, 0, 32, .ro, 0⟩
/-! UPD_TAH (spec/22_field_update.md; shared) -/
def UPD_TAH_T : Fld := ⟨0x10002C, 0, 32, .ro, 0⟩
/-! UPD_CTL (spec/22_field_update.md; host-owned) -/
def UPD_CTL_AUTOREV : Fld := ⟨0x100030, 31, 1, .rw, 1⟩
def UPD_CTL_PHYNOW : Fld := ⟨0x100030, 30, 1, .rw, 0⟩
def UPD_CTL_DOWNOK : Fld := ⟨0x100030, 29, 1, .rw, 0⟩
def UPD_CTL_STEPIV : Fld := ⟨0x100030, 16, 8, .rw, 10⟩
def UPD_CTL_HOLDOFF : Fld := ⟨0x100030, 8, 8, .rw, 60⟩
/-! UPD_TRIAL (spec/22_field_update.md; host-owned) -/
def UPD_TRIAL_SEC : Fld := ⟨0x100034, 0, 16, .rw, 0x258⟩
/-! UPD_PKGIDL (spec/22_field_update.md; shared) -/
def UPD_PKGIDL_ID : Fld := ⟨0x100038, 0, 32, .ro, 0⟩
/-! UPD_PKGIDH (spec/22_field_update.md; shared) -/
def UPD_PKGIDH_ID : Fld := ⟨0x10003C, 0, 32, .ro, 0⟩
/-! UPD_COMPSEL (spec/22_field_update.md; shared) -/
def UPD_COMPSEL_COPY : Fld := ⟨0x100040, 8, 2, .rw, 0⟩
def UPD_COMPSEL_COMP : Fld := ⟨0x100040, 0, 5, .rw, 0⟩
/-! UPD_COMPVER (spec/22_field_update.md; shared) -/
def UPD_COMPVER_MAJOR : Fld := ⟨0x100044, 24, 8, .ro, 0⟩
def UPD_COMPVER_MINOR : Fld := ⟨0x100044, 16, 8, .ro, 0⟩
def UPD_COMPVER_PATCH : Fld := ⟨0x100044, 0, 16, .ro, 0⟩
/-! UPD_COMPINF (spec/22_field_update.md; shared) -/
def UPD_COMPINF_COMPAT : Fld := ⟨0x100048, 16, 16, .ro, 0⟩
def UPD_COMPINF_VALID : Fld := ⟨0x100048, 15, 1, .ro, 0⟩
def UPD_COMPINF_PRESENT : Fld := ⟨0x100048, 14, 1, .ro, 0⟩
def UPD_COMPINF_SWITCHED : Fld := ⟨0x100048, 13, 1, .ro, 0⟩
/-! UPD_EVENT (spec/22_field_update.md; shared) -/
def UPD_EVENT_VALID : Fld := ⟨0x100050, 31, 1, .rp, 0⟩
def UPD_EVENT_LOST : Fld := ⟨0x100050, 30, 1, .rp, 0⟩
def UPD_EVENT_KIND : Fld := ⟨0x100050, 26, 4, .rp, 0⟩
def UPD_EVENT_COMP : Fld := ⟨0x100050, 21, 5, .rp, 0⟩
def UPD_EVENT_STATUS : Fld := ⟨0x100050, 0, 16, .rp, 0⟩
/-! UPD_PLAN (spec/22_field_update.md; shared) -/
def UPD_PLAN_VALID : Fld := ⟨0x100100, 31, 1, .ro, 0⟩
def UPD_PLAN_DONE : Fld := ⟨0x100100, 30, 1, .ro, 0⟩
def UPD_PLAN_COMP : Fld := ⟨0x100100, 0, 5, .ro, 0⟩
/-! BBX_STAT (spec/23_black_box_and_health.md; shared) -/
def BBX_STAT_PEND : Fld := ⟨0x110000, 16, 11, .ro, 0⟩
def BBX_STAT_SKIPPED : Fld := ⟨0x110000, 6, 10, .ro, 0⟩
def BBX_STAT_FAULT : Fld := ⟨0x110000, 3, 1, .ro, 0⟩
def BBX_STAT_NVWAIT : Fld := ⟨0x110000, 2, 1, .ro, 0⟩
def BBX_STAT_ERASING : Fld := ⟨0x110000, 1, 1, .ro, 0⟩
def BBX_STAT_READY : Fld := ⟨0x110000, 0, 1, .ro, 0⟩
/-! BBX_HEAD (spec/23_black_box_and_health.md; shared) -/
def BBX_HEAD_SEQ : Fld := ⟨0x110004, 0, 32, .ro, 0⟩
/-! BBX_TAIL (spec/23_black_box_and_health.md; shared) -/
def BBX_TAIL_SEQ : Fld := ⟨0x110008, 0, 32, .ro, 0⟩
/-! BBX_LOST (spec/23_black_box_and_health.md; shared) -/
def BBX_LOST_COUNT : Fld := ⟨0x11000C, 0, 32, .rc, 0⟩
/-! BBX_BADCRC (spec/23_black_box_and_health.md; shared) -/
def BBX_BADCRC_COUNT : Fld := ⟨0x110010, 0, 32, .rc, 0⟩
/-! BBX_RSEL (spec/23_black_box_and_health.md; shared) -/
def BBX_RSEL_SEQ : Fld := ⟨0x110020, 0, 32, .rw, 0⟩
/-! BBX_RSTAT (spec/23_black_box_and_health.md; shared) -/
def BBX_RSTAT_VALID : Fld := ⟨0x110024, 1, 1, .ro, 0⟩
def BBX_RSTAT_CRCOK : Fld := ⟨0x110024, 0, 1, .ro, 0⟩
/-! BBX_RDAT (spec/23_black_box_and_health.md; shared) -/
def BBX_RDAT_WORD : Fld := ⟨0x110040, 0, 32, .ro, 0⟩
/-! BBX_CMD (spec/23_black_box_and_health.md; host-owned) -/
def BBX_CMD_STATUS : Fld := ⟨0x110080, 16, 16, .ro, 0⟩
def BBX_CMD_BUSY : Fld := ⟨0x110080, 15, 1, .ro, 0⟩
def BBX_CMD_GO : Fld := ⟨0x110080, 14, 1, .wo, 0⟩
def BBX_CMD_OP : Fld := ⟨0x110080, 12, 2, .rw, 0⟩
/-! BBX_ARG0 (spec/23_black_box_and_health.md; host-owned) -/
def BBX_ARG0_VALUE : Fld := ⟨0x110084, 0, 32, .rw, 0⟩
/-! BBX_ARG1 (spec/23_black_box_and_health.md; host-owned) -/
def BBX_ARG1_VALUE : Fld := ⟨0x110088, 0, 32, .rw, 0⟩
/-! BBX_ARG2 (spec/23_black_box_and_health.md; host-owned) -/
def BBX_ARG2_VALUE : Fld := ⟨0x11008C, 0, 32, .rw, 0⟩
/-! BBX_FILTER (spec/23_black_box_and_health.md; host-owned) -/
def BBX_FILTER_MINSEV : Fld := ⟨0x110090, 16, 3, .rw, 0⟩
def BBX_FILTER_RATE : Fld := ⟨0x110090, 0, 16, .rw, 16⟩
/-! HLT_CTL (spec/23_black_box_and_health.md; host-owned) -/
def HLT_CTL_AUTOGEAR : Fld := ⟨0x120000, 31, 1, .rw, 1⟩
def HLT_CTL_PSUGEAR : Fld := ⟨0x120000, 30, 1, .rw, 1⟩
def HLT_CTL_FANGEAR : Fld := ⟨0x120000, 29, 1, .rw, 1⟩
def HLT_CTL_TRIMGEAR : Fld := ⟨0x120000, 28, 1, .rw, 0⟩
def HLT_CTL_MINGEAR : Fld := ⟨0x120000, 25, 3, .rw, 1⟩
def HLT_CTL_FANLIM : Fld := ⟨0x120000, 22, 3, .rw, 2⟩
/-! HLT_TPOL (spec/23_black_box_and_health.md; host-owned) -/
def HLT_TPOL_TLIM : Fld := ⟨0x120004, 24, 8, .rw, 105⟩
def HLT_TPOL_TWARN : Fld := ⟨0x120004, 16, 8, .rw, 95⟩
def HLT_TPOL_HYST : Fld := ⟨0x120004, 8, 8, .rw, 10⟩
def HLT_TPOL_STEP : Fld := ⟨0x120004, 0, 8, .rw, 10⟩
/-! HLT_RAISE (spec/23_black_box_and_health.md; host-owned) -/
def HLT_RAISE_SEC : Fld := ⟨0x120008, 0, 16, .rw, 10⟩
/-! HLT_TEMP (spec/23_black_box_and_health.md; shared) -/
def HLT_TEMP_HOT : Fld := ⟨0x120100, 24, 8, .ro, 0⟩
def HLT_TEMP_MAX : Fld := ⟨0x120100, 16, 8, .rc, 0⟩
def HLT_TEMP_STATE : Fld := ⟨0x120100, 8, 2, .ro, 0⟩
def HLT_TEMP_REGION : Fld := ⟨0x120100, 0, 5, .ro, 0⟩
/-! HLT_TLAST (spec/23_black_box_and_health.md; shared) -/
def HLT_TLAST_HOT : Fld := ⟨0x120140, 0, 8, .ro, 0⟩
/-! HLT_GSTAT (spec/23_black_box_and_health.md; shared) -/
def HLT_GSTAT_ACT : Fld := ⟨0x120180, 31, 1, .ro, 0⟩
def HLT_GSTAT_HOSTLIM : Fld := ⟨0x120180, 28, 3, .ro, 4⟩
def HLT_GSTAT_CAUSE : Fld := ⟨0x120180, 24, 4, .ro, 0⟩
def HLT_GSTAT_LIMIT : Fld := ⟨0x120180, 0, 3, .ro, 4⟩
/-! HLT_SUM (spec/23_black_box_and_health.md; shared) -/
def HLT_SUM_SPARES : Fld := ⟨0x1201C0, 7, 1, .ro, 0⟩
def HLT_SUM_SCRUB : Fld := ⟨0x1201C0, 6, 1, .ro, 0⟩
def HLT_SUM_DRAM : Fld := ⟨0x1201C0, 5, 1, .ro, 0⟩
def HLT_SUM_SAZOR : Fld := ⟨0x1201C0, 4, 1, .ro, 0⟩
def HLT_SUM_EYELET : Fld := ⟨0x1201C0, 3, 1, .ro, 0⟩
def HLT_SUM_GEAR : Fld := ⟨0x1201C0, 2, 1, .ro, 0⟩
def HLT_SUM_TEMP : Fld := ⟨0x1201C0, 1, 1, .ro, 0⟩
def HLT_SUM_SUPPLY : Fld := ⟨0x1201C0, 0, 1, .ro, 0⟩
/-! HLT_AVSEC (spec/23_black_box_and_health.md; shared) -/
def HLT_AVSEC_SEC : Fld := ⟨0x120200, 0, 32, .ro, 0⟩
/-! HLT_AVLOSS (spec/23_black_box_and_health.md; shared) -/
def HLT_AVLOSS_MS : Fld := ⟨0x120204, 0, 32, .ro, 0⟩
/-! HLT_AVEVT (spec/23_black_box_and_health.md; shared) -/
def HLT_AVEVT_EVT : Fld := ⟨0x120208, 0, 32, .ro, 0⟩

/-- The registers of block GLB, part 1. -/
def regsGlb1 : List Reg := [
  ⟨"GLB_MODID", 0x0, [], .shared, [GLB_MODID_CODE, GLB_MODID_ISSUE]⟩,
  ⟨"GLB_LASTID", 0x4, [], .shared, [GLB_LASTID_STEP, GLB_LASTID_GEN, GLB_LASTID_PROTO]⟩,
  ⟨"GLB_PKG", 0x8, [], .shared, [GLB_PKG_PROTO, GLB_PKG_SUPPORTED, GLB_PKG_PRESENT]⟩,
  ⟨"GLB_COMPATRES", 0xC, [], .shared, [GLB_COMPATRES_STATUS, GLB_COMPATRES_DIE]⟩,
  ⟨"GLB_SUPIDX", 0x10, [], .shared, [GLB_SUPIDX_INDEX]⟩,
  ⟨"GLB_SUPDAT", 0x14, [], .shared, [GLB_SUPDAT_GEN, GLB_SUPDAT_STEP_MIN, GLB_SUPDAT_STEP_MAX, GLB_SUPDAT_PROTO, GLB_SUPDAT_FEAT]⟩,
  ⟨"GLB_MODE", 0x20, [], .shared, [GLB_MODE_STATUS, GLB_MODE_BUSY, GLB_MODE_REQ, GLB_MODE_SOUT, GLB_MODE_MODE]⟩,
  ⟨"GLB_SAFE", 0x24, [], .shared, [GLB_SAFE_FIRST, GLB_SAFE_COUNT]⟩,
  ⟨"GLB_SAFELAST", 0x28, [], .shared, [GLB_SAFELAST_LAST]⟩,
  ⟨"GLB_SOUT", 0x2C, [], .host, [GLB_SOUT_MASK3, GLB_SOUT_MASK2, GLB_SOUT_MASK1, GLB_SOUT_MASK0]⟩,
  ⟨"GLB_XEVENT", 0x30, [], .shared, [GLB_XEVENT_VALID, GLB_XEVENT_LOST, GLB_XEVENT_KIND, GLB_XEVENT_DIE, GLB_XEVENT_UNIT, GLB_XEVENT_DISCARDED]⟩,
  ⟨"GLB_HEARTBEAT", 0x40, [], .host, [GLB_HEARTBEAT_KEY]⟩,
  ⟨"GLB_HBTMO", 0x44, [], .host, [GLB_HBTMO_ACT, GLB_HBTMO_TMO]⟩,
  ⟨"GLB_HBBAD", 0x48, [], .shared, [GLB_HBBAD_COUNT]⟩,
  ⟨"GLB_DIESTAT", 0x100, [(0x4, 12)], .shared, [GLB_DIESTAT_REASON, GLB_DIESTAT_STATE]⟩,
  ⟨"GLB_SAFEREG", 0x200, [(0x4, 12)], .shared, [GLB_SAFEREG_MASK]⟩]

/-- The registers of block GLB. -/
def regsGlb : List Reg := regsGlb1

/-- The registers of block PWR, part 1. -/
def regsPwr1 : List Reg := [
  ⟨"PWR_STAT", 0x10000, [], .shared, [PWR_STAT_MAINS, PWR_STAT_STBY, PWR_STAT_MAIN, PWR_STAT_WARN, PWR_STAT_NVINH, PWR_STAT_BATLOW, PWR_STAT_BATABS, PWR_STAT_PSUHOT, PWR_STAT_OV, PWR_STAT_HOST, PWR_STAT_MLOST]⟩,
  ⟨"PWR_INPUT", 0x10004, [], .shared, [PWR_INPUT_VRMS, PWR_INPUT_FREQ, PWR_INPUT_PIN]⟩,
  ⟨"PWR_BULK", 0x10008, [], .shared, [PWR_BULK_VBULK, PWR_BULK_CAP]⟩,
  ⟨"PWR_HOLDUP", 0x1000C, [], .shared, [PWR_HOLDUP_EUSE, PWR_HOLDUP_H]⟩,
  ⟨"PWR_LOAD", 0x10010, [], .shared, [PWR_LOAD_POUT, PWR_LOAD_TPSU]⟩,
  ⟨"PWR_BATT", 0x10014, [], .shared, [PWR_BATT_VBAT, PWR_BATT_AGE]⟩,
  ⟨"PWR_EVENT", 0x10018, [], .shared, [PWR_EVENT_VALID, PWR_EVENT_LOST, PWR_EVENT_KIND, PWR_EVENT_DIE, PWR_EVENT_STATUS]⟩,
  ⟨"PWR_COOL", 0x1001C, [], .shared, [PWR_COOL_TIN, PWR_COOL_TOUT]⟩,
  ⟨"PWR_FAN", 0x10020, [(0x4, 2)], .shared, [PWR_FAN_PRESENT, PWR_FAN_FAIL, PWR_FAN_RPM]⟩,
  ⟨"PWR_DIERAIL", 0x10100, [(0x4, 12)], .shared, [PWR_DIERAIL_AMPS, PWR_DIERAIL_VMV, PWR_DIERAIL_LINK]⟩,
  ⟨"PWR_LSSEG", 0x10400, [(0x4, 64)], .shared, [PWR_LSSEG_STATUS, PWR_LSSEG_AUTOWAKE, PWR_LSSEG_STATE, PWR_LSSEG_REQ]⟩,
  ⟨"PWR_VAULT", 0x10500, [], .shared, [PWR_VAULT_AUTOWAKE, PWR_VAULT_STATE, PWR_VAULT_REQ]⟩]

/-- The registers of block PWR. -/
def regsPwr : List Reg := regsPwr1

/-- The registers of block CLK, part 1. -/
def regsClk1 : List Reg := [
  ⟨"CLK_STAT", 0x20000, [], .shared, [CLK_STAT_REASON, CLK_STAT_READY, CLK_STAT_HOLDOVER, CLK_STAT_REFSTATE, CLK_STAT_LOCK]⟩,
  ⟨"CLK_NVS", 0x20004, [], .shared, [CLK_NVS_REFSRC, CLK_NVS_OSCDLY]⟩,
  ⟨"CLK_REFMEAS", 0x20008, [], .shared, [CLK_REFMEAS_DEV, CLK_REFMEAS_COUNT]⟩,
  ⟨"CLK_CTL", 0x2000C, [], .host, [CLK_CTL_AUTORES, CLK_CTL_RTCSYNC, CLK_CTL_RESDLY, CLK_CTL_AUTOMAX]⟩,
  ⟨"CLK_EVENT", 0x20010, [], .shared, [CLK_EVENT_VALID, CLK_EVENT_LOST, CLK_EVENT_KIND, CLK_EVENT_DIE, CLK_EVENT_UNIT, CLK_EVENT_STATUS]⟩,
  ⟨"CLK_TBL", 0x20020, [], .shared, [CLK_TBL_TB]⟩,
  ⟨"CLK_TBH", 0x20024, [], .shared, [CLK_TBH_TB]⟩,
  ⟨"CLK_TBSTEPL", 0x20028, [], .host, [CLK_TBSTEPL_STEP]⟩,
  ⟨"CLK_TBSTEPH", 0x2002C, [], .host, [CLK_TBSTEPH_STEP]⟩,
  ⟨"CLK_TBCMD", 0x20030, [], .host, [CLK_TBCMD_STATUS, CLK_TBCMD_BUSY, CLK_TBCMD_GO, CLK_TBCMD_OP]⟩,
  ⟨"CLK_RTCSEC", 0x20040, [], .shared, [CLK_RTCSEC_SEC]⟩,
  ⟨"CLK_RTCSECH", 0x20044, [], .shared, [CLK_RTCSECH_VALID, CLK_RTCSECH_SUB, CLK_RTCSECH_SECH]⟩,
  ⟨"CLK_RTCSETL", 0x20048, [], .host, [CLK_RTCSETL_SEC]⟩,
  ⟨"CLK_RTCSETH", 0x2004C, [], .host, [CLK_RTCSETH_SEC]⟩,
  ⟨"CLK_PLLDIE", 0x20100, [(0x4, 12)], .shared, [CLK_PLLDIE_AWL, CLK_PLLDIE_WELT, CLK_PLLDIE_GEN]⟩]

/-- The registers of block CLK. -/
def regsClk : List Reg := regsClk1

/-- The registers of block GEAR, part 1. -/
def regsGear1 : List Reg := [
  ⟨"GEAR_REQ", 0x30000, [(0x4, 12)], .host, [GEAR_REQ_GEAR]⟩,
  ⟨"GEAR_HLIM", 0x30040, [(0x4, 12)], .shared, [GEAR_HLIM_LIMIT]⟩,
  ⟨"GEAR_STAT", 0x30080, [(0x4, 12)], .shared, [GEAR_STAT_STATUS, GEAR_STAT_CLMA, GEAR_STAT_CLTIM, GEAR_STAT_CLHLT, GEAR_STAT_PHASE, GEAR_STAT_TARGET, GEAR_STAT_GEAR]⟩,
  ⟨"GEAR_DIE", 0x30100, [(0x4, 12)], .shared, [GEAR_DIE_GROUP, GEAR_DIE_VMV, GEAR_DIE_GEAR]⟩]

/-- The registers of block GEAR. -/
def regsGear : List Reg := regsGear1

/-- The registers of block SBP, part 1. -/
def regsSbp1 : List Reg := [
  ⟨"SBP_CTRL", 0xD0000, [], .shared, [SBP_CTRL_ARMED, SBP_CTRL_LAPSED, SBP_CTRL_CONTROL]⟩,
  ⟨"SBP_GRANT", 0xD0004, [], .host, [SBP_GRANT_GRANT]⟩,
  ⟨"SBP_LINK", 0xD0008, [], .shared, [SBP_LINK_RATE, SBP_LINK_ADDR]⟩,
  ⟨"SBP_IDLE", 0xD000C, [], .sideband, [SBP_IDLE_SEC]⟩,
  ⟨"SBP_RXERR", 0xD0010, [], .shared, [SBP_RXERR_COUNT]⟩,
  ⟨"SBP_DENY", 0xD0014, [], .shared, [SBP_DENY_COUNT]⟩,
  ⟨"SBP_DENYADR", 0xD0018, [], .shared, [SBP_DENYADR_ADDR]⟩,
  ⟨"SBP_EVENT", 0xD0020, [], .shared, [SBP_EVENT_VALID, SBP_EVENT_LOST, SBP_EVENT_KIND]⟩]

/-- The registers of block SBP. -/
def regsSbp : List Reg := regsSbp1

/-- The registers of block SEC, part 1. -/
def regsSec1 : List Reg := [
  ⟨"SEC_STAT", 0xE0000, [], .shared, [SEC_STAT_LC, SEC_STAT_RETCNT, SEC_STAT_OWNLOCK, SEC_STAT_OWNIN, SEC_STAT_DBGOPEN, SEC_STAT_SLOTPROG, SEC_STAT_SLOTREV]⟩,
  ⟨"SEC_CMD", 0xE0004, [], .shared, [SEC_CMD_STATUS, SEC_CMD_BUSY, SEC_CMD_GO]⟩,
  ⟨"SEC_CMDADR", 0xE0008, [], .shared, [SEC_CMDADR_OFFSET]⟩,
  ⟨"SEC_NONCEL", 0xE0010, [], .shared, [SEC_NONCEL_N]⟩,
  ⟨"SEC_NONCEH", 0xE0014, [], .shared, [SEC_NONCEH_N]⟩,
  ⟨"SEC_MODSNL", 0xE0018, [], .shared, [SEC_MODSNL_SN]⟩,
  ⟨"SEC_MODSNH", 0xE001C, [], .shared, [SEC_MODSNH_SN]⟩,
  ⟨"SEC_KEYS", 0xE0020, [], .shared, [SEC_KEYS_PRESENT]⟩,
  ⟨"SEC_TAMPEN", 0xE0030, [], .host, [SEC_TAMPEN_EN]⟩,
  ⟨"SEC_TAMPACT", 0xE0034, [], .host, [SEC_TAMPACT_ZERO, SEC_TAMPACT_SAFE]⟩,
  ⟨"SEC_TAMPER", 0xE0038, [], .shared, [SEC_TAMPER_LATCH]⟩,
  ⟨"SEC_TAMPRAW", 0xE003C, [], .shared, [SEC_TAMPRAW_RAW]⟩,
  ⟨"SEC_BATSVC", 0xE0040, [], .shared, [SEC_BATSVC_STATUS, SEC_BATSVC_OPEN, SEC_BATSVC_GO, SEC_BATSVC_REMAIN]⟩,
  ⟨"SEC_EVENT", 0xE0050, [], .shared, [SEC_EVENT_VALID, SEC_EVENT_LOST, SEC_EVENT_KIND, SEC_EVENT_STATUS]⟩,
  ⟨"SEC_DEVPUB", 0xE0100, [(0x4, 24)], .shared, [SEC_DEVPUB_WORD]⟩]

/-- The registers of block SEC. -/
def regsSec : List Reg := regsSec1

/-- The registers of block DBG, part 1. -/
def regsDbg1 : List Reg := [
  ⟨"DBG_ID", 0xF0000, [], .shared, [DBG_ID_IDCODE]⟩,
  ⟨"DBG_PORT", 0xF0004, [], .shared, [DBG_PORT_OPEN, DBG_PORT_PROBE, DBG_PORT_POWER, DBG_PORT_UNLOCKED, DBG_PORT_WRITES]⟩,
  ⟨"DBG_CTL", 0xF0008, [], .host, [DBG_CTL_WDGHOLD, DBG_CTL_TRIGACT, DBG_CTL_TRIGCORE]⟩,
  ⟨"DBG_CAPCFG", 0xF0010, [], .host, [DBG_CAPCFG_ARM, DBG_CAPCFG_DELAY, DBG_CAPCFG_DIEMASK]⟩,
  ⟨"DBG_CAPMASK", 0xF0014, [], .host, [DBG_CAPMASK_MASK]⟩,
  ⟨"DBG_CAPSTAT", 0xF0018, [], .shared, [DBG_CAPSTAT_STATUS, DBG_CAPSTAT_PEND, DBG_CAPSTAT_DONE, DBG_CAPSTAT_MISSED]⟩,
  ⟨"DBG_CAPTL", 0xF001C, [], .shared, [DBG_CAPTL_T]⟩,
  ⟨"DBG_CAPTH", 0xF0020, [], .shared, [DBG_CAPTH_T]⟩,
  ⟨"DBG_CAPEL", 0xF0024, [], .shared, [DBG_CAPEL_T]⟩,
  ⟨"DBG_CAPEH", 0xF0028, [], .shared, [DBG_CAPEH_T]⟩,
  ⟨"DBG_WMCTL", 0xF0400, [(0x40, 16)], .host, [DBG_WMCTL_EN, DBG_WMCTL_ACT, DBG_WMCTL_DIE, DBG_WMCTL_ROUTER, DBG_WMCTL_CLASSMASK, DBG_WMCTL_CORE, DBG_WMCTL_OP, DBG_WMCTL_OPEN]⟩,
  ⟨"DBG_WMDST", 0xF0404, [(0x40, 16)], .host, [DBG_WMDST_VALUE, DBG_WMDST_MASK]⟩,
  ⟨"DBG_WMSRC", 0xF0408, [(0x40, 16)], .host, [DBG_WMSRC_VALUE, DBG_WMSRC_MASK]⟩,
  ⟨"DBG_WMAVL", 0xF040C, [(0x40, 16)], .host, [DBG_WMAVL_VALUE]⟩,
  ⟨"DBG_WMAVH", 0xF0410, [(0x40, 16)], .host, [DBG_WMAVH_MASK, DBG_WMAVH_VALUE]⟩,
  ⟨"DBG_WMAML", 0xF0414, [(0x40, 16)], .host, [DBG_WMAML_MASK]⟩,
  ⟨"DBG_WMCNT", 0xF0418, [(0x40, 16)], .shared, [DBG_WMCNT_COUNT]⟩,
  ⟨"DBG_CORECTL", 0xF1000, [(0x80, 384)], .host, [DBG_CORECTL_MONEN, DBG_CORECTL_THRESH]⟩,
  ⟨"DBG_CORECMD", 0xF1004, [(0x80, 384)], .host, [DBG_CORECMD_STATUS, DBG_CORECMD_BUSY, DBG_CORECMD_GO, DBG_CORECMD_OP]⟩,
  ⟨"DBG_STAT", 0xF1008, [(0x80, 384)], .shared, [DBG_STAT_CODE, DBG_STAT_CAUSE, DBG_STAT_COMP, DBG_STAT_MULTI, DBG_STAT_LOCKDEF, DBG_STAT_MON, DBG_STAT_ENTRIES]⟩,
  ⟨"DBG_CMPCTL", 0xF1010, [(0x80, 384), (0x10, 4)], .host, [DBG_CMPCTL_EN, DBG_CMPCTL_KIND, DBG_CMPCTL_ACT, DBG_CMPCTL_DMATCH, DBG_CMPCTL_SKIP]⟩,
  ⟨"DBG_CMPADR", 0xF1014, [(0x80, 384), (0x10, 4)], .host, [DBG_CMPADR_VALUE]⟩,
  ⟨"DBG_CMPMSK", 0xF1018, [(0x80, 384), (0x10, 4)], .host, [DBG_CMPMSK_VALUE]⟩,
  ⟨"DBG_CMPDAT", 0xF101C, [(0x80, 384), (0x10, 4)], .host, [DBG_CMPDAT_VALUE]⟩]

/-- The registers of block DBG. -/
def regsDbg : List Reg := regsDbg1

/-- The registers of block UPD, part 1. -/
def regsUpd1 : List Reg := [
  ⟨"UPD_CMD", 0x100000, [], .host, [UPD_CMD_STATUS, UPD_CMD_BUSY, UPD_CMD_GO, UPD_CMD_OP]⟩,
  ⟨"UPD_ARG0", 0x100004, [], .host, [UPD_ARG0_VALUE]⟩,
  ⟨"UPD_ARG1", 0x100008, [], .host, [UPD_ARG1_VALUE]⟩,
  ⟨"UPD_ARG2", 0x10000C, [], .host, [UPD_ARG2_VALUE]⟩,
  ⟨"UPD_STAT", 0x100020, [], .shared, [UPD_STAT_STATE, UPD_STAT_STEP, UPD_STAT_NSTEP, UPD_STAT_REVOK, UPD_STAT_MOTION, UPD_STAT_HOLDS, UPD_STAT_SLIP]⟩,
  ⟨"UPD_RESULT", 0x100024, [], .shared, [UPD_RESULT_STATUS, UPD_RESULT_COMP, UPD_RESULT_OUTCOME]⟩,
  ⟨"UPD_TAL", 0x100028, [], .shared, [UPD_TAL_T]⟩,
  ⟨"UPD_TAH", 0x10002C, [], .shared, [UPD_TAH_T]⟩,
  ⟨"UPD_CTL", 0x100030, [], .host, [UPD_CTL_AUTOREV, UPD_CTL_PHYNOW, UPD_CTL_DOWNOK, UPD_CTL_STEPIV, UPD_CTL_HOLDOFF]⟩,
  ⟨"UPD_TRIAL", 0x100034, [], .host, [UPD_TRIAL_SEC]⟩,
  ⟨"UPD_PKGIDL", 0x100038, [], .shared, [UPD_PKGIDL_ID]⟩,
  ⟨"UPD_PKGIDH", 0x10003C, [], .shared, [UPD_PKGIDH_ID]⟩,
  ⟨"UPD_COMPSEL", 0x100040, [], .shared, [UPD_COMPSEL_COPY, UPD_COMPSEL_COMP]⟩,
  ⟨"UPD_COMPVER", 0x100044, [], .shared, [UPD_COMPVER_MAJOR, UPD_COMPVER_MINOR, UPD_COMPVER_PATCH]⟩,
  ⟨"UPD_COMPINF", 0x100048, [], .shared, [UPD_COMPINF_COMPAT, UPD_COMPINF_VALID, UPD_COMPINF_PRESENT, UPD_COMPINF_SWITCHED]⟩,
  ⟨"UPD_EVENT", 0x100050, [], .shared, [UPD_EVENT_VALID, UPD_EVENT_LOST, UPD_EVENT_KIND, UPD_EVENT_COMP, UPD_EVENT_STATUS]⟩,
  ⟨"UPD_PLAN", 0x100100, [(0x4, 21)], .shared, [UPD_PLAN_VALID, UPD_PLAN_DONE, UPD_PLAN_COMP]⟩]

/-- The registers of block UPD. -/
def regsUpd : List Reg := regsUpd1

/-- The registers of block BBX, part 1. -/
def regsBbx1 : List Reg := [
  ⟨"BBX_STAT", 0x110000, [], .shared, [BBX_STAT_PEND, BBX_STAT_SKIPPED, BBX_STAT_FAULT, BBX_STAT_NVWAIT, BBX_STAT_ERASING, BBX_STAT_READY]⟩,
  ⟨"BBX_HEAD", 0x110004, [], .shared, [BBX_HEAD_SEQ]⟩,
  ⟨"BBX_TAIL", 0x110008, [], .shared, [BBX_TAIL_SEQ]⟩,
  ⟨"BBX_LOST", 0x11000C, [], .shared, [BBX_LOST_COUNT]⟩,
  ⟨"BBX_BADCRC", 0x110010, [], .shared, [BBX_BADCRC_COUNT]⟩,
  ⟨"BBX_RSEL", 0x110020, [], .shared, [BBX_RSEL_SEQ]⟩,
  ⟨"BBX_RSTAT", 0x110024, [], .shared, [BBX_RSTAT_VALID, BBX_RSTAT_CRCOK]⟩,
  ⟨"BBX_RDAT", 0x110040, [(0x4, 16)], .shared, [BBX_RDAT_WORD]⟩,
  ⟨"BBX_CMD", 0x110080, [], .host, [BBX_CMD_STATUS, BBX_CMD_BUSY, BBX_CMD_GO, BBX_CMD_OP]⟩,
  ⟨"BBX_ARG0", 0x110084, [], .host, [BBX_ARG0_VALUE]⟩,
  ⟨"BBX_ARG1", 0x110088, [], .host, [BBX_ARG1_VALUE]⟩,
  ⟨"BBX_ARG2", 0x11008C, [], .host, [BBX_ARG2_VALUE]⟩,
  ⟨"BBX_FILTER", 0x110090, [], .host, [BBX_FILTER_MINSEV, BBX_FILTER_RATE]⟩]

/-- The registers of block BBX. -/
def regsBbx : List Reg := regsBbx1

/-- The registers of block HLT, part 1. -/
def regsHlt1 : List Reg := [
  ⟨"HLT_CTL", 0x120000, [], .host, [HLT_CTL_AUTOGEAR, HLT_CTL_PSUGEAR, HLT_CTL_FANGEAR, HLT_CTL_TRIMGEAR, HLT_CTL_MINGEAR, HLT_CTL_FANLIM]⟩,
  ⟨"HLT_TPOL", 0x120004, [], .host, [HLT_TPOL_TLIM, HLT_TPOL_TWARN, HLT_TPOL_HYST, HLT_TPOL_STEP]⟩,
  ⟨"HLT_RAISE", 0x120008, [], .host, [HLT_RAISE_SEC]⟩,
  ⟨"HLT_TEMP", 0x120100, [(0x4, 12)], .shared, [HLT_TEMP_HOT, HLT_TEMP_MAX, HLT_TEMP_STATE, HLT_TEMP_REGION]⟩,
  ⟨"HLT_TLAST", 0x120140, [], .shared, [HLT_TLAST_HOT]⟩,
  ⟨"HLT_GSTAT", 0x120180, [(0x4, 12)], .shared, [HLT_GSTAT_ACT, HLT_GSTAT_HOSTLIM, HLT_GSTAT_CAUSE, HLT_GSTAT_LIMIT]⟩,
  ⟨"HLT_SUM", 0x1201C0, [], .shared, [HLT_SUM_SPARES, HLT_SUM_SCRUB, HLT_SUM_DRAM, HLT_SUM_SAZOR, HLT_SUM_EYELET, HLT_SUM_GEAR, HLT_SUM_TEMP, HLT_SUM_SUPPLY]⟩,
  ⟨"HLT_AVSEC", 0x120200, [], .shared, [HLT_AVSEC_SEC]⟩,
  ⟨"HLT_AVLOSS", 0x120204, [], .shared, [HLT_AVLOSS_MS]⟩,
  ⟨"HLT_AVEVT", 0x120208, [], .shared, [HLT_AVEVT_EVT]⟩]

/-- The registers of block HLT. -/
def regsHlt : List Reg := regsHlt1

end Sys2Proof.Machine
end

