-- ==== Sys2Proof/Machine/Status.lean ====
section
/-! DEFINITION. The status words of R19, each as the chapter that defines it gives it. -/

namespace Sys2Proof.Machine

/-- an access that is not an aligned 32-bit one (R12) (chapter 00). -/
def ST_BAD_ACCESS : Nat := 0x0101
/-- EYE_CMD operation reserved, or target out of range for the Eyelet kind (chapter 05). -/
def ST_EYE_BADCMD : Nat := 0x0110
/-- reserved op or len, class not matching op, or op not served by the target or window (chapter 06). -/
def ST_WLT_BADOP : Nat := 0x0120
/-- address or dst in no valid range (R156) (chapter 06). -/
def ST_WLT_BADADDR : Nat := 0x0121
/-- alignment, block or byte-range rule broken (R159, R160, R165) (chapter 06). -/
def ST_WLT_ALIGN : Nat := 0x0122
/-- class 0 unit for a disabled, out-of-range or mismatched flow; invalid WLT_FLOWCMD (chapter 07). -/
def ST_WLT_BADFLOW : Nat := 0x0123
/-- the image's schedule or variants break R188 (chapter 07). -/
def ST_WLT_LACE : Nat := 0x0124
/-- context access of a form R207 does not accept, k outside 1–32, or a reserved QUE_QCMD operation (chapter 08). -/
def ST_QUE_ACCESS : Nat := 0x0130
/-- doorbell, commit or release naming indices that are not outstanding (chapter 08). -/
def ST_QUE_BADIDX : Nat := 0x0131
/-- AADD to a word whose mode does not reserve or claim (chapter 08). -/
def ST_QUE_MODE : Nat := 0x0132
/-- staged configuration invalid under R214 (chapter 08). -/
def ST_QUE_BADCFG : Nat := 0x0133
/-- malformed header, manifest or record, or a token stream that does not decode to 2,048 bytes (chapter 11). -/
def ST_CFG_FORMAT : Nat := 0x0140
/-- an image checker rule of R301 broken; DETAIL names it (chapter 11). -/
def ST_CFG_CHECK : Nat := 0x0141
/-- reserved operation, or an argument out of range (chapter 11). -/
def ST_CFG_BADCMD : Nat := 0x0142
/-- image larger than 2 GiB or than the staging area (chapter 11). -/
def ST_CFG_TOOBIG : Nat := 0x0143
/-- flash slot empty, or slot number out of range (chapter 11). -/
def ST_CFG_NOSLOT : Nat := 0x0144
/-- reserved SHF_CMD operation, or an argument out of range (chapter 12). -/
def ST_SHF_BADCMD : Nat := 0x0150
/-- an attach image breaks R338 (chapter 12). -/
def ST_SHF_NOTDELTA : Nat := 0x0151
/-- a requested commit or rollback time is less than 100 µs ahead (chapter 12). -/
def ST_SHF_TOOSOON : Nat := 0x0152
/-- a keep-list entry breaks R320 (chapter 12). -/
def ST_SHF_KEEP : Nat := 0x0153
/-- reserved DRC_CHCMD operation, or a lane or line out of range (chapter 13). -/
def ST_DRC_BADCMD : Nat := 0x0160
/-- reserved COB_CMD operation, or an argument out of range (chapter 14). -/
def ST_COB_BADCMD : Nat := 0x0170
/-- reserved pattern or kind, or an argument out of range (chapter 15). -/
def ST_SZL_BADCMD : Nat := 0x0180
/-- reserved command or argument out of range (chapter 16). -/
def ST_ETH_BADCMD : Nat := 0x0190
/-- a gate control list breaks R419 (chapter 16). -/
def ST_ETH_GCL : Nat := 0x0191
/-- reserved CLK_TBCMD operation (chapter 17). -/
def ST_CLK_BADCMD : Nat := 0x01A0
/-- REQ value 4–7 (chapter 18). -/
def ST_MODE_BADREQ : Nat := 0x01B0
/-- reserved WSP command, wrong payload length, or a setting out of range (chapter 20). -/
def ST_SBP_BADCMD : Nat := 0x01C0
/-- BAUD index above the permitted rate (R511) (chapter 20). -/
def ST_SBP_RATE : Nat := 0x01C1
/-- malformed signed command block or reserved operation (chapter 20). -/
def ST_SEC_BADCMD : Nat := 0x01D0
/-- reserved DBGACC OP, reserved DBG_CORECMD operation, or a field out of range (chapter 21). -/
def ST_DBG_BADCMD : Nat := 0x01E0
/-- reserved UPD_CMD operation, or an argument out of range (chapter 22). -/
def ST_UPD_BADCMD : Nat := 0x01F0
/-- malformed package header, directory or lengths (chapter 22). -/
def ST_UPD_FORMAT : Nat := 0x01F1
/-- reserved BBX_CMD operation, or an argument out of range (chapter 23). -/
def ST_BBX_BADCMD : Nat := 0x01F8
/-- a capture command for a region whose CAPPEND is 1 (R63, R70) (chapter 02). -/
def ST_CAP_BUSY : Nat := 0x0207
/-- no free spare word for a remap (R111) (chapter 04). -/
def ST_BNK_REMAP_FULL : Nat := 0x0208
/-- access to a Last store segment or the vault in OFF (R121) (chapter 04). -/
def ST_MEM_OFF : Nat := 0x0209
/-- access to a retained memory with AUTOWAKE = 0 (chapter 04). -/
def ST_MEM_ASLEEP : Nat := 0x020A
/-- power-down refused; the segment is in use by the queue engine (R122) (chapter 04). -/
def ST_MEM_INUSE : Nat := 0x020B
/-- a changeover was abandoned or released so that an Eyelet repair could use the shadow plane (R145) (chapter 05). -/
def ST_EYE_REPAIR : Nat := 0x020C
/-- EYE_CMD asked for a spare or reserve and none was free (chapter 05). -/
def ST_EYE_NOSPARE : Nat := 0x020D
/-- error injection requested outside HOLD (chapter 05). -/
def ST_EYE_NOTHOLD : Nat := 0x020E
/-- guaranteed injection in four-plane service, or a HOLD → RUN command while four-plane service is held for test (chapter 06). -/
def ST_WLT_MODE : Nat := 0x0210
/-- request completed locally because a service-mode change discarded it (chapter 06). -/
def ST_WLT_ABORT : Nat := 0x0211
/-- no response within WLT_RSPTMO (chapter 06). -/
def ST_WLT_TIMEOUT : Nat := 0x0212
/-- the target endpoint is disabled, on a DORMANT die, or removed (chapter 06). -/
def ST_WLT_NO_TARGET : Nat := 0x0213
/-- unlock by a requester that does not own the lock, including after a lock timeout (chapter 06). -/
def ST_WLT_LOCKBRK : Nat := 0x0214
/-- target quiescing; the request had no effect (R197) (chapter 07). -/
def ST_WLT_RETRY : Nat := 0x0215
/-- epoch change refused under R193 (chapter 07). -/
def ST_WLT_EPOCH_BUSY : Nat := 0x0216
/-- the target's lock table is full; the LRD had no effect (R166) (chapter 06). -/
def ST_WLT_LOCKFULL : Nat := 0x0217
/-- not enough free space (chapter 08). -/
def ST_QUE_FULL : Nat := 0x0220
/-- not enough published descriptors to claim (chapter 08). -/
def ST_QUE_EMPTY : Nat := 0x0221
/-- more than 32 reservations or claims outstanding; the operation may be repeated (chapter 08). -/
def ST_QUE_BUSY : Nat := 0x0222
/-- operation on a disabled queue (chapter 08). -/
def ST_QUE_DISABLED : Nat := 0x0223
/-- command not allowed in the queue's present state (chapter 08). -/
def ST_QUE_STATE : Nat := 0x0224
/-- AWL_CTL command not allowed in the core's state or the module mode (R220) (chapter 09). -/
def ST_AWL_STATE : Nat := 0x0230
/-- MSG to a core whose message queue is full (chapter 09). -/
def ST_AWL_MSGFULL : Nat := 0x0231
/-- RUN, commit or attach refused while BADSEL frames are concerned (R309) (chapter 11). -/
def ST_CFG_BADSEL : Nat := 0x0240
/-- load aborted before any write (chapter 11). -/
def ST_CFG_ABORTED : Nat := 0x0241
/-- operation not allowed in the present mode or load phase (chapter 11). -/
def ST_CFG_STATE : Nat := 0x0242
/-- flash write refused while non-volatile writes are inhibited (PWR_NVINH, described in Module construction and power entry) (chapter 11). -/
def ST_CFG_NVINH : Nat := 0x0243
/-- command not accepted in the changeover's state or the module's mode (chapter 12). -/
def ST_SHF_STATE : Nat := 0x0250
/-- a die did not arm, or did not acknowledge T_c, in time (chapter 12). -/
def ST_SHF_ARMFAIL : Nat := 0x0251
/-- no COMMIT within ARMTMO (chapter 12). -/
def ST_SHF_ARMTMO : Nat := 0x0252
/-- abandoned by entry to SAFE (chapter 12). -/
def ST_SHF_SAFE : Nat := 0x0253
/-- initial contents for a live bank that is not kept (chapter 12). -/
def ST_SHF_BANKLIVE : Nat := 0x0254
/-- program records overlap the active image's (chapter 12). -/
def ST_SHF_PROGLIVE : Nat := 0x0255
/-- gear check at arm failed, or a gear change arrived while armed (chapter 12). -/
def ST_SHF_GEAR : Nat := 0x0256
/-- a changeover abandoned or released by the heartbeat lapse action (R518) (chapter 12). -/
def ST_SHF_LAPSE : Nat := 0x0257
/-- no free entry or no usable spare pair (R364) (chapter 13). -/
def ST_DRC_REMAP_FULL : Nat := 0x0260
/-- command not allowed in the channel's state (chapter 13). -/
def ST_DRC_STATE : Nat := 0x0261
/-- COB_CMD operation not allowed in the present mode (chapter 14). -/
def ST_COB_STATE : Nat := 0x0270
/-- the bundle is not in service, or failed while the request was outstanding (chapter 15). -/
def ST_SZL_DOWN : Nat := 0x0280
/-- test or injection requested outside HOLD (chapter 15). -/
def ST_SZL_NOTHOLD : Nat := 0x0281
/-- a window's RMOD differs from the module at the far end of its bundle (chapter 15). -/
def ST_SZL_RMOD : Nat := 0x0282
/-- command not allowed while the port or list is busy (chapter 16). -/
def ST_ETH_STATE : Nat := 0x0290
/-- SAFE acknowledgment while the clocks are not ready (R452) (chapter 17). -/
def ST_CLK_NOTREADY : Nat := 0x02A0
/-- timebase step refused (R437) (chapter 17). -/
def ST_CLK_PENDING : Nat := 0x02A1
/-- G0 outside HOLD, or RUN refused while a die is at G0 (R446) (chapter 17). -/
def ST_GEAR_STATE : Nat := 0x02A2
/-- no such transition from the mode in force, or a request ended by REQ 0 (chapter 18). -/
def ST_MODE_STATE : Nat := 0x02B0
/-- WSP access to a register outside the always-on domain in DORMANT (chapter 18). -/
def ST_MODE_DORMANT : Nat := 0x02B1
/-- an item offered to a crossing whose other side is in reset (chapter 18). -/
def ST_PEER_RESET : Nat := 0x02B2
/-- a request pre-empted by entry to SAFE (R8, R457, R468) (chapter 18). -/
def ST_MODE_FAULTED : Nat := 0x02B3
/-- TAKE not permitted (R519) (chapter 20). -/
def ST_SBP_CONTROL : Nat := 0x02C0
/-- NVWRITE while non-volatile writes are inhibited or standby is absent (chapter 20). -/
def ST_SBP_NVINH : Nat := 0x02C1
/-- operation not allowed in the mode or the life-cycle state (chapter 20). -/
def ST_SEC_STATE : Nat := 0x02D0
/-- fuse or key-store write while PWR_NVINH holds (chapter 20). -/
def ST_SEC_NVINH : Nat := 0x02D1
/-- monitor entry not possible in the core's state or with MONEN = 0 (R550, R557) (chapter 21). -/
def ST_DBG_STATE : Nat := 0x02E0
/-- operation not accepted in the update's state (chapter 22). -/
def ST_UPD_STATE : Nat := 0x02F0
/-- activation time too near, past, or on an RTC that is not valid (chapter 22). -/
def ST_UPD_TIME : Nat := 0x02F1
/-- a deferred step outlasted HOLDOFF (R570) (chapter 22). -/
def ST_UPD_BUSY : Nat := 0x02F2
/-- operation not allowed in the present mode (chapter 23). -/
def ST_BBX_STATE : Nat := 0x02F8
/-- a used die's stepping code lies outside the image's range for that die (chapter 01). -/
def ST_COMPAT_DIE : Nat := 0x0301
/-- the image needs a feature that is not enabled on a used die, or a command needs a feature that is off (chapter 01). -/
def ST_COMPAT_FEATURE : Nat := 0x0302
/-- the image uses a die that is SILENT or UNSUPPORTED (chapter 01). -/
def ST_COMPAT_NODIE : Nat := 0x0303
/-- reason code: the die is not supported under R26 and R27 (chapter 01). -/
def ST_COMPAT_UNSUP : Nat := 0x0304
/-- an image needs an Eyelet or lanes that cannot carry it (R137) (chapter 05). -/
def ST_COMPAT_EYELET : Nat := 0x0305
/-- a WSP access, outside module DORMANT, to the per-die space of a DORMANT die or of a die not yet probed (R621) (chapter 01). -/
def ST_NO_DIE : Nat := 0x0306
/-- the image needs more DRAM than is fitted (chapter 11). -/
def ST_COMPAT_DRAM : Nat := 0x0307
/-- a delta image's base is not in the plane it refers to (chapter 11). -/
def ST_COMPAT_BASE : Nat := 0x0308
/-- the image changes the I/O voltage of a bank in use (chapter 12). -/
def ST_SHF_IOSTD : Nat := 0x0309
/-- no compatible plan, or a Last firmware that does not support a die in use (chapter 22). -/
def ST_COMPAT_UPD : Nat := 0x030A
/-- a lower version without DOWNGRADE and DOWNOK (chapter 22). -/
def ST_COMPAT_ROLLBACK : Nat := 0x030B
/-- uncorrectable error in an on-chip memory word (chapter 04). -/
def ST_ECC_UE : Nat := 0x0401
/-- an uncorrectable frame, or a corrected frame that fails its CRC-32 (chapter 14). -/
def ST_ECC_FRAME : Nat := 0x0402
/-- both copies of a frame-table entry are uncorrectable (chapter 14). -/
def ST_ECC_FTABLE : Nat := 0x0404
/-- signature invalid (chapter 11). -/
def ST_INT_SIG : Nat := 0x0410
/-- chunk digest mismatch (chapter 11). -/
def ST_INT_DIGEST : Nat := 0x0411
/-- GCM tag mismatch (chapter 11). -/
def ST_INT_GCM : Nat := 0x0412
/-- verify found a frame that does not match its CRC, or an uncorrectable frame (chapter 11). -/
def ST_INT_FRAMECRC : Nat := 0x0413
/-- uncorrected managed-flash read error (chapter 11). -/
def ST_INT_FLASH : Nat := 0x0414
/-- signed command signature invalid (chapter 20). -/
def ST_INT_CMDSIG : Nat := 0x0421
/-- signed command for another module or an old nonce (chapter 20). -/
def ST_INT_STALE : Nat := 0x0422
/-- key blob hash mismatch or unwrap failure (chapter 20). -/
def ST_INT_KEYBLOB : Nat := 0x0423
/-- package signature invalid (chapter 22). -/
def ST_INT_UPDSIG : Nat := 0x0430
/-- component digest mismatch (chapter 22). -/
def ST_INT_UPDDIGEST : Nat := 0x0431
/-- MOTION active (chapter 22). -/
def ST_REFUSED_MOTION : Nat := 0x0501
/-- mains lost, or hold-up insufficient (chapter 22). -/
def ST_REFUSED_ENERGY : Nat := 0x0502
/-- coin cell low or absent (chapter 22). -/
def ST_REFUSED_BATTERY : Nat := 0x0503
/-- owner lock in force and the package not signed by the owner (chapter 22). -/
def ST_REFUSED_LOCK : Nat := 0x0504
/-- module in SAFE, and the package not a recovery package (chapter 22). -/
def ST_REFUSED_STATE : Nat := 0x0505
/-- access to a sealed bank or the vault control by a master that is not secure (chapter 04). -/
def ST_REFUSED_SEALED : Nat := 0x0510
/-- register mirror write by a master not permitted to write (chapter 06). -/
def ST_REFUSED_MIRROR : Nat := 0x0511
/-- vault access by a master that is not secure (chapter 08). -/
def ST_REFUSED_VAULT : Nat := 0x0512
/-- a remote request outside the bundle's admission (R396) (chapter 15). -/
def ST_SZL_ADMIT : Nat := 0x0513
/-- operation allowed only in DEVELOP (chapter 11). -/
def ST_REFUSED_LIFECYCLE : Nat := 0x0520
/-- signing or decryption key not accepted (R298) (chapter 11). -/
def ST_REFUSED_IMGKEY : Nat := 0x0521
/-- readback of a NORB image (R313) (chapter 11). -/
def ST_REFUSED_NORB : Nat := 0x0522
/-- register write refused by ownership (R515) (chapter 20). -/
def ST_REFUSED_OWNER : Nat := 0x0530
/-- revocation would leave no accepted slot (chapter 20). -/
def ST_REFUSED_LASTKEY : Nat := 0x0531
/-- slot not permitted to sign this command (chapter 20). -/
def ST_REFUSED_SIGNER : Nat := 0x0532
/-- debug access, or a DBG register write, while the port is closed (R539) (chapter 21). -/
def ST_DBG_LOCKED : Nat := 0x0540
/-- reason code: the die did not answer the probe (chapter 01). -/
def ST_HW_DIE_SILENT : Nat := 0x0601
/-- a region's trim could not hold the class delays (R96) (chapter 03). -/
def ST_HW_TRIM : Nat := 0x0602
/-- training failed, or a clock lane lost lock (chapter 05). -/
def ST_HW_EYE_TRAIN : Nat := 0x0603
/-- uncorrectable code word on a group that could not tolerate it (chapter 05). -/
def ST_HW_EYE_UE : Nat := 0x0604
/-- repair resources used up on a group that could not tolerate it (chapter 05). -/
def ST_HW_EYE_EXHAUST : Nat := 0x0605
/-- uncorrectable error in a Welt buffer (chapter 06). -/
def ST_HW_WLT_UE : Nat := 0x0606
/-- no variant matches the half-width set (R192) (chapter 07). -/
def ST_HW_WLT_NOVARIANT : Nat := 0x0607
/-- an element failed to confirm its new bank (R195) (chapter 07). -/
def ST_HW_WLT_TABLE : Nat := 0x0608
/-- double fault (R243) (chapter 09). -/
def ST_HW_AWL_DFAULT : Nat := 0x0609
/-- a watchdog's second expiry took its region to SAFE (chapter 09). -/
def ST_HW_AWL_WDOG : Nat := 0x060A
/-- a frame failed its readback twice (R286) (chapter 11). -/
def ST_HW_CFGPORT : Nat := 0x0610
/-- a die failed its check after commit or rollback (R330) (chapter 12). -/
def ST_HW_SHF_COMMIT : Nat := 0x0611
/-- training or lane retraining failed (chapter 13). -/
def ST_HW_DRC_TRAIN : Nat := 0x0612
/-- request to a FAILED channel, or a load or stage refused because a channel is FAILED (chapter 13). -/
def ST_HW_DRC_CHANNEL : Nat := 0x0613
/-- stream data lost with STRSAFE = 1 (R401) (chapter 15). -/
def ST_HW_SZL_STREAM : Nat := 0x0620
/-- training failed (chapter 15). -/
def ST_HW_SZL_TRAIN : Nat := 0x0621
/-- a bank supply out of range (R427) (chapter 16). -/
def ST_HW_GIO_VCCO : Nat := 0x0630
/-- reference absent, unstable or lost (chapter 17). -/
def ST_HW_CLK_REF : Nat := 0x0640
/-- a PLL failed to lock or unlocked (chapter 17). -/
def ST_HW_CLK_PLL : Nat := 0x0641
/-- a running regional clock network failed (chapter 17). -/
def ST_HW_CLK_REGION : Nat := 0x0642
/-- a core rail failed to reach or hold its setpoint (R447) (chapter 17). -/
def ST_HW_GEAR_VREG : Nat := 0x0643
/-- no copy of Last firmware started (R460) (chapter 18). -/
def ST_HW_LAST_BOOT : Nat := 0x0650
/-- a die regulator switched its rail off for overcurrent (R502) (chapter 19). -/
def ST_HW_PWR_OCP : Nat := 0x0660
/-- a die's regulator bus link was lost (R501) (chapter 19). -/
def ST_HW_PWR_BUS : Nat := 0x0661
/-- a monitored rail left its band (R503) (chapter 19). -/
def ST_HW_PWR_RAIL : Nat := 0x0662
/-- the supply did not bring the main output into regulation within 2.00 s of a start (R499) (chapter 19). -/
def ST_HW_PWR_START : Nat := 0x0663
/-- tamper event with the SAFE action (chapter 20). -/
def ST_HW_TAMPER : Nat := 0x0670
/-- fuse read-back failed after programming (chapter 20). -/
def ST_HW_FUSE : Nat := 0x0671
/-- a component failed to run its new or previous version (chapter 22). -/
def ST_HW_UPD_COMP : Nat := 0x0680
/-- a die above 115 °C (R596) (chapter 23). -/
def ST_HW_HLT_TEMP : Nat := 0x0690

end Sys2Proof.Machine
end

