-- ==== Sys2Proof/Machine/State.lean ====
section
/-! DEFINITION. The state of the block, the reasons a step can stop, and the state right after reset. -/

namespace Sys2Proof.Machine

/-- Why a step stops with a fault.  The spec takes every fault to a mode, a status or an event, which are next states, so
the one fault is the model's own. -/
inductive Fault where
  /-- Raised by no meaning: the spec names no event after which the block has no next state.  Safe. -/
  | none
  deriving DecidableEq, Repr

/-- Why a command has no meaning. -/
inductive Refusal where
  /-- Raised by the dispatch for a command without a meaning yet.  Safe: no next state is claimed. -/
  | notModelled (mnemonic : String)
  deriving DecidableEq, Repr

/-- The whole state.  Each field names its chapter; every register field stands in `regs` under the key of Ops.lean, and a
field not listed there reads its reset value. -/
structure State where
  /-- Commands waiting, first in first out. -/
  pending : List Instr := []
  /-- The model's own: numbers the free values drawn so far (notes/assumptions/1.md). -/
  fresh : Nat := 0
  /-- Register fields that differ from their reset value (R14, R15). -/
  regs : Tab Nat := []
  /-- Event queues by the address of their RP register (R16). -/
  evq : Tab EvQueue := []
  /-- Every byte of the Welt address space that differs from 0 (R154). -/
  mem : List Host.Cell := []
  /-- What a read last returned to its master: a register word; a WSP answer as its status, then words, or bytes of settings and memory; or the
words of a debug capture (R15, R509, R540). -/
  reply : List Nat := []
  /-- Stepping table of Last firmware (R27). -/
  supTab : List SupEntry := [⟨1, 0x20, 0x31, 2, 0x0F⟩]
  /-- Fused starting trim codes, by region × 8 + gear (R90). -/
  fuseTrim : Tab Nat := []
  dies : Tab Die := []
  regions : Tab Region := []
  banks : Tab Bank := []
  /-- Lane groups by (Eyelet × 2 + direction) × 4 + group (R126, R127). -/
  eyes : Tab EyeGroup := []
  express : Express := {}
  /-- Awl cores by die × 32 + region (R13). -/
  cores : Tab Core := []
  modes : Modes := {}
  clocks : Clocks := {}
  gears : Tab GearChg := []
  bbx : BlackBox := {}
  power : Power := {}
  side : Sideband := {}
  secur : Secur := {}
  hlt : Hlt := {}
  dbg : Dbg := {}
  upd : Upd := {}
  /-- Registers written through the map whose command waits for what its row brings (notes/assumptions/5.md). -/
  asked : List Nat := []
  welt : Welt := {}
  /-- Health of protected words of Awl memories, the Last store and the vault by Welt address: 1 a single-bit error, 2 uncorrectable. -/
  marks : Tab Nat := []
  cob : Cob := {}
  chans : Tab Chan := []
  pcie : Pcie := {}
  eth : Eth := {}
  /-- General I/O pins by bank × 32 + pin (R420). -/
  pins : Tab Pin := []
  cfg : Cfg := {}
  shf : Shf := {}
  /-- Key hashes fused in the key slots (R526). -/
  keyHash : Tab Nat := []
  /-- Sazor bundles (R383). -/
  bundles : Tab Bundle := []
  /-- PMASK (2q) and CMASK (2q + 1) of queue q (R206). -/
  qmasks : Tab Nat := []
  deriving DecidableEq, Repr

/-- The block right after the always-on reset with no supply: DORMANT, every register at its reset value, nothing stored.  [DESIGN CHOICE 3: notes/assumptions] -/
def State.reset : State := {}

end Sys2Proof.Machine
end

