-- ==== Sys2Proof/Machine/Ops.lean ====
section
/-! DEFINITION. The named operations every meaning is written with: tables, register fields, event queues, memory bytes,
black-box records and the module mode. -/

namespace Sys2Proof.Machine

open Sys2Proof

/-- The outcome type of the block. -/
abbrev Out := Host.Outcome State Fault Refusal

/-! Tables -/

/-- The value under key `k`, `d` where none is listed. -/
def tabGet {α : Type} (d : α) : Tab α → Nat → α
  | [], _ => d
  | p :: t, k => if p.1 = k then p.2 else tabGet d t k

/-- The table without key `k`. -/
def tabErase {α : Type} (m : Tab α) (k : Nat) : Tab α := m.filter (fun p => p.1 != k)

/-- The table with `(k, v)` before the first greater key. -/
def tabIns {α : Type} (k : Nat) (v : α) : Tab α → Tab α
  | [] => [(k, v)]
  | p :: t => if k < p.1 then (k, v) :: p :: t else p :: tabIns k v t

/-- The table with `v` under key `k`; the default `d` is not listed. -/
def tabSet {α : Type} [DecidableEq α] (d : α) (m : Tab α) (k : Nat) (v : α) : Tab α :=
  if v = d then tabErase m k else tabIns k v (tabErase m k)

/-- The table with the value under `k` changed by `f`. -/
def tabMod {α : Type} [DecidableEq α] (d : α) (m : Tab α) (k : Nat) (f : α → α) : Tab α := tabSet d m k (f (tabGet d m k))

/-! Register fields -/

/-- Key of field `f` of the instance at byte offset `off` from its register's first. -/
def Fld.key (f : Fld) (off : Nat) : Nat := (f.adr + off) * 32 + f.lo

/-- Value of field `f`, instance offset `off`. -/
def State.rdi (s : State) (f : Fld) (off : Nat) : Nat := tabGet f.rst s.regs (f.key off)

/-- Field `f`, instance offset `off`, takes `v` (its low `f.w` bits). -/
def State.wri (s : State) (f : Fld) (off v : Nat) : State :=
  { s with regs := tabSet f.rst s.regs (f.key off) (v % 2 ^ f.w) }

/-- Value of a field of a register that exists once. -/
def State.rd (s : State) (f : Fld) : Nat := s.rdi f 0

/-- A field of a register that exists once takes `v`. -/
def State.wr (s : State) (f : Fld) (v : Nat) : State := s.wri f 0 v

/-- A counter field grows by `n` and stops at its largest value (R15, R17). -/
def State.addi (s : State) (f : Fld) (off n : Nat) : State := s.wri f off (min (s.rdi f off + n) (2 ^ f.w - 1))

/-- A counter field grows by one and stops at its largest value. -/
def State.inci (s : State) (f : Fld) (off : Nat) : State := s.addi f off 1

/-- A 64-bit value held in a low and a high register field. -/
def State.rd64 (s : State) (lo hi : Fld) : Nat := s.rd lo + s.rd hi * 2 ^ 32

/-- A low and a high register field take the halves of a 64-bit value. -/
def State.wr64 (s : State) (lo hi : Fld) (v : Nat) : State := (s.wr lo (v % 2 ^ 32)).wr hi (v / 2 ^ 32 % 2 ^ 32)

/-- Offset of per-die register instance `d` (R12). -/
def oDie (d : Nat) : Nat := d * 0x100000

/-- Offset of region register instance `[d][r]`. -/
def oReg (d r : Nat) : Nat := d * 0x100000 + r * 0x100

/-- Offset of bank register instance `[d][r][b]`. -/
def oBnk (d r b : Nat) : Nat := d * 0x100000 + r * 0x800 + b * 0x20

/-- Region number of the package. -/
def rix (d r : Nat) : Nat := d * 32 + r

/-- Bank number of the package. -/
def bix (d r b : Nat) : Nat := (d * 32 + r) * 64 + b

/-! Entries of the tables -/

def State.die (s : State) (d : Nat) : Die := tabGet {} s.dies d
def State.modDie (s : State) (d : Nat) (f : Die → Die) : State := { s with dies := tabMod {} s.dies d f }
def State.region (s : State) (k : Nat) : Region := tabGet {} s.regions k
def State.modRegion (s : State) (k : Nat) (f : Region → Region) : State := { s with regions := tabMod {} s.regions k f }
def State.bank (s : State) (k : Nat) : Bank := tabGet {} s.banks k
def State.modBank (s : State) (k : Nat) (f : Bank → Bank) : State := { s with banks := tabMod {} s.banks k f }
def State.gear (s : State) (g : Nat) : GearChg := tabGet {} s.gears g
def State.modGear (s : State) (g : Nat) (f : GearChg → GearChg) : State := { s with gears := tabMod {} s.gears g f }

/-! Memory of the Welt address space (R154), one byte an address; a byte not listed reads 0 (R120, R124, R360) -/

def State.rdByte (s : State) (a : Nat) : Nat := (tabGet (0 : BitVec 8) s.mem a).toNat
def State.wrByte (s : State) (a v : Nat) : State := { s with mem := tabSet (0 : BitVec 8) s.mem a (BitVec.ofNat 8 v) }

/-- `n` bytes from `a` as a little-endian number (R11). -/
def State.rdMem (s : State) : (n a : Nat) → Nat
  | 0, _ => 0
  | n + 1, a => s.rdByte a + 256 * s.rdMem n (a + 1)

/-- `n` bytes from `a` take a little-endian number. -/
def State.wrMem (s : State) : (n a v : Nat) → State
  | 0, _, _ => s
  | n + 1, a, v => (s.wrByte a (v % 256)).wrMem n (a + 1) (v / 256)

/-- The `n` bytes from `a`. -/
def State.rdBytes (s : State) : (n a : Nat) → List Nat
  | 0, _ => []
  | n + 1, a => s.rdByte a :: s.rdBytes n (a + 1)

/-- The bytes of the list are stored from `a` on. -/
def State.wrBytes (s : State) (a : Nat) : List Nat → State
  | [] => s
  | b :: t => (s.wrByte a b).wrBytes (a + 1) t

/-- Every byte of `[lo, hi)` reads 0. -/
def State.clearMem (s : State) (lo hi : Nat) : State := { s with mem := s.mem.filter (fun p => p.1 < lo || hi ≤ p.1) }

/-- Rising addresses and no byte equal to what an unlisted address reads as.  [DESIGN CHOICE 9: notes/assumptions] -/
def Memory.wf : List Host.Cell → Bool
  | [] => true
  | [p] => p.2 != 0
  | p :: q :: t => p.1 < q.1 && p.2 != 0 && Memory.wf (q :: t)

/-! Free values -/

/-- A value of `w` bits that the spec leaves open, and the state that has drawn it.  [DESIGN CHOICE 1: notes/assumptions] -/
def State.free (s : State) (w : Nat) : Nat × State := ((Config.freeValue s.fresh).toNat % 2 ^ w, { s with fresh := s.fresh + 1 })

/-! Event queues (R16) -/

/-- Entries that the queue behind an RP register holds, as its chapter says. -/
def evCap (q : Fld) : Nat := if q.adr = WLT_ERRLOG_VALID.adr ∨ q.adr = COB_EVENT_VALID.adr then 256 else 64

/-- Bit of LOST in an entry: [12] in EYE_EVENT and [30] elsewhere. -/
def evLostBit (q : Fld) : Nat := if q.adr = EYE_EVENT_VALID.adr then 12 else 30

/-- A hardware push on the queue of VALID field `q`, with the word a pop loads into the second register: a full queue loses
the entry, and the next one that fits carries LOST; VALID is [31]. -/
def State.push2 (s : State) (q : Fld) (e e2 : Nat) : State :=
  { s with evq := tabMod {} s.evq q.adr fun x =>
      if x.entries.length < evCap q then
        { entries := x.entries ++ [((2 ^ 31 + (if x.lost then 2 ^ evLostBit q else 0) + e) % 2 ^ 32, e2)], lost := false }
      else { x with lost := true } }

/-- A hardware push of an entry without a second word. -/
def State.push (s : State) (q : Fld) (e : Nat) : State := s.push2 q e 0

/-- Event entry with KIND at [29:26], DIE at [25:22] and further fields already placed. -/
def evWord (kind die rest : Nat) : Nat := kind * 2 ^ 26 + die * 2 ^ 22 + rest

/-! Modes (R6) -/

def DORMANT : Nat := 0
def LOAD : Nat := 1
def HOLD : Nat := 2
def RUN : Nat := 3
def SHIFT : Nat := 4
def SAFE : Nat := 5

def State.mode (s : State) : Nat := s.rd GLB_MODE_MODE

/-- Bit `k` is 1 while output `k` conducts in mode `m`: its mask holds the mode, and the mode is not DORMANT (R470).  [DESIGN CHOICE 85: notes/assumptions] -/
def State.soutFor (s : State) (m : Nat) : Nat :=
  if m = DORMANT then 0
  else bit (s.rd GLB_SOUT_MASK0) m + 2 * bit (s.rd GLB_SOUT_MASK1) m + 4 * bit (s.rd GLB_SOUT_MASK2) m + 8 * bit (s.rd GLB_SOUT_MASK3) m

/-- MODE := `m`; the safe-state outputs follow at the same moment (R470, R471).  [DESIGN CHOICE 85: notes/assumptions] -/
def State.setMode (s : State) (m : Nat) : State := (s.wr GLB_MODE_MODE m).wr GLB_MODE_SOUT (s.soutFor m)

/-- The mode request in progress completes with `st` (R455, R457). -/
def State.endReq (s : State) (st : Nat) : State :=
  { (s.wr GLB_MODE_STATUS st).wr GLB_MODE_BUSY 0 with
    asked := s.asked.erase GLB_MODE_BUSY.adr
    modes := { s.modes with req := none, held := false, lockWait := false, th := none, auto := false } }

/-- Whether the core rails of die `d` are up. -/
def State.dieUp (s : State) (d : Nat) : Bool := (s.die d).rails

/-- The twelve die numbers. -/
def dieList : List Nat := List.range 12

/-- Every region of every die whose core rails are up, as faulted-region masks (R465). -/
def State.allRegions (s : State) : List (Nat × Nat) := (dieList.filter fun d => s.dieUp d).map fun d => (d, 0xFFFFFFFF)

/-- Every region of die `d`, none if its rails are down (R465). -/
def State.dieRegions (s : State) (d : Nat) : List (Nat × Nat) := if s.dieUp d then [(d, 0xFFFFFFFF)] else []

/-- One region. -/
def oneRegion (d r : Nat) : List (Nat × Nat) := [(d, 2 ^ r)]

/-! Time (R436) -/

/-- Largest timebase value. -/
def tbMod : Nat := 2 ^ 64

/-- Fabric service is there (R597): the module is in LOAD, HOLD, RUN or SHIFT, no counted loss runs, and every used die is powered. -/
def State.inService (s : State) : Bool :=
  s.mode != DORMANT && s.mode != SAFE && s.hlt.lossAt.isNone && !(dieList.any fun d => (s.die d).used && !s.dieUp d)

/-- HLT_AVSEC counts the seconds of fabric service. -/
def State.serve (n : Nat) (s : State) : State :=
  if s.inService then
    let t := s.hlt.ns + n
    { (s.addi HLT_AVSEC_SEC 0 (t / 1000000000)) with hlt := { s.hlt with ns := t % 1000000000 } }
  else s

/-- `n` nanoseconds pass: the timebase advances while it runs, the always-on crystal's elapsed time and the real-time clock always
(R436, R453).  [DESIGN CHOICE 6: notes/assumptions] -/
def State.pass (s0 : State) (n : Nat) : State :=
  let s := s0.serve n
  { s with clocks := { s.clocks with tb := if s.clocks.tbRun then (s.clocks.tb + n) % tbMod else s.clocks.tb
                                     elapsed := s.clocks.elapsed + n, rtc := s.clocks.rtc + n } }

/-- The timebase has reached the scheduled time `t`: it never runs back (notes/assumptions/6.md).  [DESIGN CHOICE 84: notes/assumptions] -/
def State.reach (s : State) (t : Nat) : State := if s.clocks.tb < t then s.pass (t - s.clocks.tb) else s

/-- The always-on elapsed time has reached `t`.  [DESIGN CHOICE 6: notes/assumptions] -/
def State.reachElapsed (s : State) (t : Nat) : State := if s.clocks.elapsed < t then s.pass (t - s.clocks.elapsed) else s

/-- One tick of an idle block: a nanosecond passes (notes/assumptions/4.md). -/
def State.tick (s : State) : State := s.pass 1

/-! Black box -/

/-- A signed 8-bit reading as an integer. -/
def sgn8 (x : Nat) : Int := if x < 128 then (x : Int) else (x : Int) - 256

/-- Hottest die sensor of the package, or the Last's own while every fabric die is unpowered (R582, TEMP).  [DEDUCED 22: notes/assumptions] -/
def State.hottest (s : State) : Nat :=
  match dieList.filter (fun d => s.dieUp d) with
  | [] => s.rd HLT_TLAST_HOT
  | d :: t => t.foldl (fun best e => if sgn8 best < sgn8 (s.rdi HLT_TEMP_HOT (4 * e)) then s.rdi HLT_TEMP_HOT (4 * e) else best) (s.rdi HLT_TEMP_HOT (4 * d))

/-- The record of an event, as it is created (R582); without a timebase TIME is the RTC in ns and TB is 1.  [DEDUCED 22: notes/assumptions] -/
def State.mkRecord (s : State) (code source sev : Nat) (payload : List Nat) : Record :=
  { time := if s.clocks.tbRun then s.clocks.tb else s.clocks.rtc % tbMod
    seq := s.bbx.seq, code, source, sev, mode := s.mode, tb := !s.clocks.tbRun
    temp := s.hottest, holdup := s.rd PWR_HOLDUP_H, start := s.bbx.start, payload := payload.take 8 }

/-- Places of the pending area, and those kept for SEV 5 (R586). -/
def pendCap : Nat := 1024
def pendKept : Nat := 16

/-- The place of the oldest pending record of the lowest SEV. -/
def oldestLowest (l : List Record) : Nat :=
  let low := l.foldl (fun m r => min m r.sev) 5
  l.findIdx (fun r => r.sev == low)

/-- The record enters the pending area, is dropped, or replaces another (R586).  [DEDUCED 19: notes/assumptions] -/
def State.pendRecord (s : State) (r : Record) : State :=
  let n := s.bbx.pend.length
  if r.sev = 5 then
    if n < pendCap then { s with bbx := { s.bbx with pend := s.bbx.pend ++ [r], seq := (s.bbx.seq + 1) % 2 ^ 32 } }
    else { s with bbx := { s.bbx with pend := s.bbx.pend.eraseIdx (oldestLowest s.bbx.pend) ++ [r], seq := (s.bbx.seq + 1) % 2 ^ 32 } }
  else if n < pendCap - pendKept then { s with bbx := { s.bbx with pend := s.bbx.pend ++ [r], seq := (s.bbx.seq + 1) % 2 ^ 32 } }
  else { (s.inci BBX_LOST_COUNT 0) with bbx := { s.bbx with lost := s.bbx.lost + 1 } }

/-- Whether R585 lets one more record of this CODE and SOURCE be created in the present second. -/
def State.rateOk (s : State) (code source sev : Nat) : Bool :=
  4 ≤ sev || code == 0x0011 || code == 0x0012 ||
    (match s.bbx.rate.find? (fun c => c.code == code && c.source == source) with
      | none => true
      | some c => c.made < s.rd BBX_FILTER_RATE)

/-- The counts of R585 after a record of this pair was created (`made`) or suppressed. -/
def bumpRate (made : Bool) (code source : Nat) (l : List RateCnt) : List RateCnt :=
  if l.any (fun c => c.code == code && c.source == source) then
    l.map fun c => if c.code = code ∧ c.source = source then (if made then { c with made := c.made + 1 } else { c with held := c.held + 1 }) else c
  else l ++ [⟨code, source, if made then 1 else 0, if made then 0 else 1⟩]

/-- A black-box record is created (R583 to R586), unless its informational SEV is below MINSEV or the rate limit holds. -/
def State.record (s : State) (code source sev : Nat) (payload : List Nat) : State :=
  if code < 0x100 ∧ sev < s.rd BBX_FILTER_MINSEV then s
  else if s.rateOk code source sev then
    let s1 := s.pendRecord (s.mkRecord code source sev payload)
    if 4 ≤ sev ∨ code = 0x0011 ∨ code = 0x0012 then s1
    else { s1 with bbx := { s1.bbx with rate := bumpRate true code source s1.bbx.rate } }
  else { s with bbx := { s.bbx with rate := bumpRate false code source s.bbx.rate } }

/-- SEV of the record of a status outside an entry to SAFE (R583). -/
def sevOf (st : Nat) : Nat :=
  if st = ST_HW_TAMPER then 5 else if st / 256 = 4 ∨ st / 256 = 6 then 3 else 2

/-- The record of a status event that does not enter SAFE. -/
def State.recordSt (s : State) (st source : Nat) (payload : List Nat) : State := s.record st source (sevOf st) payload

/-- A record whose CODE and SEV the spec does not give: both are free values (notes/assumptions/1.md). -/
def State.recordOpen (s : State) (source : Nat) (payload : List Nat) : State :=
  let c := s.free 16
  let v := c.2.free 2
  v.2.record c.1 source v.1 payload

/-- The mode changes otherwise than to SAFE, with its record: old mode, new mode, cause (R583 code 0x0002). -/
def State.toMode (s : State) (m cause : Nat) : State := (s.setMode m).record 0x0002 12 1 [s.mode + m * 256 + cause * 65536]

end Sys2Proof.Machine
end

