-- ==== Sys2Proof/Machine/Operands.lean ====
section
/-! DEFINITION. Registers, operand codes, register codes and addressing of the Awl core (R222 to R227, R255 to R257, R269). -/

namespace Sys2Proof.Machine

open Sys2Proof

/-! Register keys: 0 to 15 G, 16 and 17 A, 24 to 31 P, 32 to 39 M, 40 to 43 B, 44 to 47 L, 48 to 55 WS, 64 to 95 physical Q, 100 + n
system register n, 140 PC, 160 + l and 170 + l the RPC and RSR of level l. -/

def kA (n : Nat) : Nat := 16 + n
def kP (n : Nat) : Nat := 24 + n
def kM (n : Nat) : Nat := 32 + n
def kB (n : Nat) : Nat := 40 + n
def kL (n : Nat) : Nat := 44 + n
def kWS (n : Nat) : Nat := 48 + n
def kQ (n : Nat) : Nat := 64 + n
def kSys (n : Nat) : Nat := 100 + n
def kSR : Nat := 100
def kQRB : Nat := 101
def kVBR : Nat := 102
def kPSEG : Nat := 103
def kLC (outer : Bool) : Nat := if outer then 104 else 107
def kLS (outer : Bool) : Nat := if outer then 105 else 108
def kLE (outer : Bool) : Nat := if outer then 106 else 109
def kXCAUSE : Nat := 112
def kXADDR : Nat := 113
def kFIN : Nat := 116
def kFOUT : Nat := 117
def kPC : Nat := 140
def kRPC (l : Nat) : Nat := 160 + l
def kRSR (l : Nat) : Nat := 170 + l

def Arch.get (a : Arch) (k : Nat) : Nat := tabGet 0 a.regs k
def Arch.put (a : Arch) (k v : Nat) : Arch := { a with regs := tabSet 0 a.regs k v }
def Arch.sr (a : Arch) : Nat := a.get kSR
def Arch.pc (a : Arch) : Nat := a.get kPC
def Arch.ipl (a : Arch) : Nat := bits a.sr 24 3
def Arch.ldepth (a : Arch) : Nat := bits a.sr 20 2

/-- A field of a word takes a value. -/
def putBits (x lo w v : Nat) : Nat := x / 2 ^ (lo + w) * 2 ^ (lo + w) + v % 2 ^ w * 2 ^ lo + x % 2 ^ lo

/-- A field of SR takes a value. -/
def Arch.srPut (a : Arch) (lo w v : Nat) : Arch := a.put kSR (putBits a.sr lo w v)

/-- Key of the physical register of logical Q name `n` (R234). -/
def Arch.q (a : Arch) (n : Nat) : Nat := kQ ((n + a.get kQRB) % 32)

/-- QRB after a rotation (R234). -/
def Arch.rotate (a : Arch) : Arch := a.put kQRB ((a.get kQRB + 31) % 32)

/-- mod(Pn, m) of R227. -/
def Arch.pmod (a : Arch) (n : Nat) (m : Int) : Nat :=
  let p : Int := a.get (kP n)
  if n < 4 ∧ a.get (kL n) ≠ 0 then
    let b : Int := a.get (kB n)
    ofS 32 (b + (p - b + m) % (a.get (kL n) : Int))
  else ofS 32 (p + m)

/-! Operand codes of formats 000, 010 and 110 (R255) -/

/-- The code names a register of its class (0 W, 1 H, 2 A). -/
def codeOk (sz c : Nat) : Bool := if sz = 0 then c < 16 else if sz = 1 then true else if sz = 2 then c < 2 else false

/-- Register key that a code names. -/
def codeKey (sz c : Nat) : Nat := if sz = 2 then kA c else c % 16

/-- Value of an operand code at its width. -/
def Arch.opGet (a : Arch) (sz c : Nat) : Nat :=
  let v := a.get (codeKey sz c)
  if sz = 1 then (if 16 ≤ c then v / 65536 else v % 65536) else v

/-- An operand code takes a value; a half leaves the other half (R256). -/
def Arch.opPut (a : Arch) (sz c v : Nat) : Arch :=
  let k := codeKey sz c
  if sz = 1 then a.put k (putBits (a.get k) (if 16 ≤ c then 16 else 0) 16 v) else a.put k (v % 2 ^ szWidth sz)

/-! Register codes of MOV (R256, R257) -/

/-- Width of a register code; 0 for a reserved one. -/
def rcWidth (c : Nat) : Nat :=
  if c < 0x10 then 32 else if c < 0x30 then 16 else if c < 0x32 then 40 else if c < 0x34 then 8 else if c < 0x38 then 16
  else if c < 0x50 then 32 else if c < 0x70 then 16 else 0

/-- Register key and lowest bit of a register code. -/
def Arch.rcLoc (a : Arch) (c : Nat) : Nat × Nat :=
  if c < 0x10 then (c, 0) else if c < 0x20 then (c % 16, 0) else if c < 0x30 then (c % 16, 16)
  else if c < 0x32 then (kA (c % 2), 0) else if c < 0x34 then (kA (c % 2), 32) else if c < 0x36 then (kA (c % 2), 16)
  else if c < 0x38 then (kA (c % 2), 0) else if c < 0x40 then (kP (c - 0x38), 0) else if c < 0x48 then (kM (c - 0x40), 0)
  else if c < 0x4C then (kB (c - 0x48), 0) else if c < 0x50 then (kL (c - 0x4C), 0) else (a.q (c - 0x50), 0)

def Arch.rcGet (a : Arch) (c : Nat) : Nat := bits (a.get (a.rcLoc c).1) (a.rcLoc c).2 (rcWidth c)

def Arch.rcPut (a : Arch) (c v : Nat) : Arch := a.put (a.rcLoc c).1 (putBits (a.get (a.rcLoc c).1) (a.rcLoc c).2 (rcWidth c) v)

/-- The value that MOV writes to code `d` from code `s` (R257), and whether it clamps. -/
def Arch.movValue (a : Arch) (d s : Nat) : Nat × Bool :=
  let v := a.rcGet s
  let ws := rcWidth s
  let wd := rcWidth d
  if ws = 40 then
    if wd = 8 then (v / 2 ^ 32, false)
    else if wd = 16 then (if bit a.sr 12 = 1 then sat16 (toS 40 v) else (bits v 16 16, false))
    else if wd = 32 then (if bit a.sr 12 = 1 then sat32 (toS 40 v) else (v % 2 ^ 32, false))
    else (v, false)
  else if wd = 40 then (if ws = 16 then ofS 40 (toS 16 v * 65536) else sext ws 40 v, false)
  else (sext ws wd v, false)

/-! Awl memories (R155, R225) -/

/-- Welt address of byte `a` of the X or Y memory of core `c`. -/
def xyAddr (c : Nat) (y : Bool) (a : Nat) : Nat :=
  0x008000000000 + c / 32 * 2 ^ 32 + 0x11000000 + c % 32 * 0x20000 + (if y then 0x10000 else 0) + a % 65536

/-- Byte `i` of a number. -/
def byteOf (v i : Nat) : Nat := v / 256 ^ i % 256

/-- Value of `size` bytes of X or Y memory at `a`, as the memory and the held stores after it give it (R237). -/
def xyRead (s : State) (c : Nat) (held : List AwlStore) (y : Bool) (a size : Nat) : Nat :=
  (List.range size).foldl (fun n i =>
    let b := (a + i) % 65536
    let v := held.foldl (fun v x => if x.y == y ∧ x.addr ≤ b ∧ b < x.addr + x.size then byteOf x.val (b - x.addr) else v) (s.rdByte (xyAddr c y b))
    n + v * 256 ^ i) 0

/-- Mark of the protected 32-bit word at `a`. -/
def xyMark (s : State) (c : Nat) (y : Bool) (a : Nat) : Nat := tabGet 0 s.marks (xyAddr c y (a / 4 * 4))

end Sys2Proof.Machine
end

