-- ==== Sys2Proof/Machine/AwlBase.lean ====
section
/-! DEFINITION. Awl cores: pending interrupts, exceptions, run-ahead, stopping and the arrival of Welt responses
(R219 to R221, R236 to R249). -/

namespace Sys2Proof.Machine

open Sys2Proof

def State.core (s : State) (c : Nat) : Core := tabGet {} s.cores c
def State.modCore (s : State) (c : Nat) (f : Core → Core) : State := { s with cores := tabMod {} s.cores c f }
def State.modArch (s : State) (c : Nat) (f : Arch → Arch) : State := s.modCore c fun k => { k with arch := f k.arch }

/-- Offset of the AWL registers of core `c`. -/
def oAwl (c : Nat) : Nat := oReg (c / 32) (c % 32)

def awlRESET : Nat := 0
def awlRUN : Nat := 1
def awlWAIT : Nat := 2
def awlSTOPPED : Nat := 3
def awlFAULTED : Nat := 4

def awlState (s : State) (c : Nat) : Nat := s.rdi AWL_STAT_STATE (oAwl c)

/-! Debug sessions and the watchdog counter (R249, R250, R550 to R558) -/

/-- Offset of the DBG registers of core `c`. -/
def oDbg (c : Nat) : Nat := c * 0x80

/-- A monitor session is open on the core (R550). -/
def inSession (s : State) (c : Nat) : Bool := s.rdi DBG_STAT_MON (oDbg c) == 1

/-- The core's watchdog counts (R249, R558). -/
def wdRuns (s : State) (c : Nat) : Bool :=
  s.rdi AWL_WDGCFG_EN (oAwl c) == 1 && awlState s c != awlRESET && !(awlState s c == awlSTOPPED && s.rdi AWL_STAT_MODESTOP (oAwl c) == 1) &&
    !s.dbg.wdHeld.contains c && s.dieUp (c / 32)

/-- What AWL_WDGCNT reads: the stored count less the 10.0 ns ticks since.  [DESIGN CHOICE 76: notes/assumptions] -/
def wdNow (s : State) (c : Nat) : Nat :=
  if wdRuns s c then s.rdi AWL_WDGCNT_COUNT (oAwl c) - (s.clocks.elapsed - (s.core c).wdAt) / 10 else s.rdi AWL_WDGCNT_COUNT (oAwl c)

/-- The stored count is made the present one, before what lets it count changes.  [DESIGN CHOICE 76: notes/assumptions] -/
def wdSettle (c : Nat) (s : State) : State :=
  let rest := if wdRuns s c then (s.clocks.elapsed - (s.core c).wdAt) % 10 else 0
  (s.wri AWL_WDGCNT_COUNT (oAwl c) (wdNow s c)).modCore c fun k => { k with wdAt := s.clocks.elapsed - rest }

/-- The count becomes `n`. -/
def wdSet (c n : Nat) (s : State) : State := (s.wri AWL_WDGCNT_COUNT (oAwl c) n).modCore c fun k => { k with wdAt := s.clocks.elapsed }

def setAwlState (c v : Nat) (s : State) : State := (wdSettle c s).wri AWL_STAT_STATE (oAwl c) v

/-- The session ends; a held watchdog resumes, with its grace but after a reset (R556 to R558). -/
def endSession (grace : Bool) (c : Nat) (s : State) : State :=
  if inSession s c then
    let held := s.dbg.wdHeld.contains c
    let s := wdSettle c s
    let s := if held ∧ grace then s.addi AWL_WDGCNT_COUNT (oAwl c) (s.rdi AWL_WDGCFG2_GRACE (oAwl c)) else s
    { (s.wri DBG_STAT_MON (oDbg c) 0) with dbg := { s.dbg with wdHeld := s.dbg.wdHeld.filter (· != c) } }
  else s

/-- An ENTER that waits completes with `st`.  [DEDUCED 74: notes/assumptions] -/
def enterDone (c st : Nat) (s : State) : State :=
  if s.rdi DBG_CORECMD_BUSY (oDbg c) = 1 then (s.wri DBG_CORECMD_BUSY (oDbg c) 0).wri DBG_CORECMD_STATUS (oDbg c) st else s

/-- A monitor entry not taken is discarded as the core becomes STOPPED, RESET or FAULTED (R557). -/
def dropEntry (c : Nat) (s : State) : State :=
  { (enterDone c ST_DBG_STATE s) with dbg := { s.dbg with pend := tabSet 0 s.dbg.pend c 0 } }

/-- With a die's core rails everything of its cores' sessions is lost (R557). -/
def loseSessions (p : Nat → Bool) (s : State) : State :=
  let s := (s.dbg.pend.filter fun x => p x.1).foldl (fun s x => dropEntry x.1 s) s
  { s with regs := s.regs.filter fun x => !(x.1 % 4096 == DBG_STAT_MON.key 0 % 4096 && DBG_STAT_MON.key 0 ≤ x.1 && x.1 < DBG_STAT_MON.key (oDbg 384) &&
                      p ((x.1 - DBG_STAT_MON.key 0) / 4096))
           dbg := { s.dbg with wdHeld := s.dbg.wdHeld.filter fun c => !p c } }

/-- Welt endpoint of the core (R218). -/
def coreEp (c : Nat) : Nat := c / 32 * 4096 + 4 * (c % 32) + 3

/-! Interrupt sources (R241, R242) -/

/-- Sources that keep an edge latch: fabric lines that AWL_ICFG makes edge sources, and source 31. -/
def edgeMask (s : State) (c : Nat) : Nat := s.rdi AWL_ICFG_EDGE (oAwl c) ||| 2 ^ 31

/-- IPEND: for each source its line, its edge latch or its software pending bit. -/
def ipend (s : State) (c : Nat) : Nat :=
  let k := s.core c
  ((k.lines % 65536) &&& (65535 - s.rdi AWL_ICFG_EDGE (oAwl c))) ||| (if k.msgq = [] then 0 else 2 ^ 30) ||| (k.edge &&& edgeMask s c) ||| k.soft

/-- Pending and enabled sources. -/
def irqReady (s : State) (c : Nat) : Nat := ipend s c &&& s.rdi AWL_IEN_EN (oAwl c)

/-- A core in WAIT wakes when an enabled source becomes pending (R241). -/
def wakeWait (c : Nat) (s : State) : State := if awlState s c = awlWAIT ∧ irqReady s c ≠ 0 then setAwlState c awlRUN s else s

/-- The sources in `m` become software pending. -/
def raiseSoft (c m : Nat) (s : State) : State := wakeWait c (s.modCore c fun k => { k with soft := k.soft ||| m % 2 ^ 32 })

/-- Source `n` latches an edge. -/
def raiseEdge (c n : Nat) (s : State) : State := wakeWait c (s.modCore c fun k => { k with edge := k.edge ||| 2 ^ n })

/-- A W1C write of `v` to IPEND (R241). -/
def clearPend (c v : Nat) (s : State) : State :=
  s.modCore c fun k => { k with soft := k.soft &&& (2 ^ 32 - 1 - v % 2 ^ 32), edge := k.edge &&& (2 ^ 32 - 1 - v % 2 ^ 32) }

/-- A message at the core's endpoint (R242): false when the queue is full. -/
def coreMsg (c addr : Nat) (s : State) : Bool × State :=
  if 16 ≤ (s.core c).msgq.length then (false, s)
  else (true, raiseSoft c (2 ^ (addr % 32)) (s.modCore c fun k => { k with msgq := k.msgq ++ [bits addr 5 32] }))

/-- Level of a source: its priority field plus one. -/
def srcLevel (s : State) (c n : Nat) : Nat := (if n < 16 then bits (s.rdi AWL_IPRI0_PRI (oAwl c)) (2 * n) 2 else bits (s.rdi AWL_IPRI1_PRI (oAwl c)) (2 * (n - 16)) 2) + 1

/-- The source taken first: the highest level above `ipl`, then the lowest number. -/
def bestSrc (s : State) (c ipl : Nat) : Option Nat :=
  (List.range 32).foldl (fun b n =>
    if bit (irqReady s c) n = 1 ∧ ipl < srcLevel s c n then
      (match b with
      | some m => if srcLevel s c m < srcLevel s c n then some n else b
      | none => some n)
    else b) none

/-! System registers (R223, R263, R272) -/

def sysKey (n : Nat) : Nat := if 20 ≤ n ∧ n ≤ 27 then kWS (n - 20) else kSys n

/-- SR at the point of effect of a write of `v` (R263): flags that the instruction between sets keep its results; LS and LV are
ORed; LKW is kept; an IPL of 5 to 7 written outside the monitor leaves IPL. -/
def srWrite (old v : Nat) (f : Flg) : Nat :=
  let ipl := bits v 24 3
  let v := if 5 ≤ ipl ∧ bits old 24 3 ≠ 5 then putBits v 24 3 (bits old 24 3) else v
  let v := putBits v 22 1 (bit old 22)
  let sticky := f.mask &&& f.val &&& 0xC0
  let fl := f.mask &&& 0x2F
  ((v &&& (2 ^ 32 - 1 - fl)) ||| (f.val &&& fl)) ||| sticky

/-- The write of system register `n` takes effect, `f` being the flags set by the instruction since. -/
def sysEffect (c n v : Nat) (f : Flg) (s : State) : State :=
  let o := oAwl c
  let a := (s.core c).arch
  if n = 0 then s.modArch c fun a => a.put kSR (srWrite a.sr v f)
  else if n = 1 then s.modArch c fun a => a.put kQRB (v % 32)
  else if n = 2 then s.modArch c fun a => a.put kVBR (v / 256 * 256 % 2 ^ 32)
  else if n = 3 ∨ (20 ≤ n ∧ n ≤ 27) then s.modArch c fun a => a.put (sysKey n) (v % 65536)
  else if n = 10 then s.modArch c fun a => a.put (kRPC a.ipl) (v % 2 ^ 32)
  else if n = 11 then s.modArch c fun a => a.put (kRSR a.ipl) (v % 2 ^ 32)
  else if n = 12 ∨ n = 13 ∨ n = 16 ∨ n = 18 ∨ n = 28 then s
  else if n = 14 then clearPend c v s
  else if n = 15 then wakeWait c (s.wri AWL_IEN_EN o v)
  else if n = 19 then
    (if v % 65536 = 0x5A17 then (wdSet c (s.rdi AWL_WDGCFG_RELOAD o) s).modCore c fun k => { k with wdFirst := false } else s)
  else s.modArch c fun _ => a.put (sysKey n) (v % 2 ^ 32)

/-- A write still waiting takes effect.  [DEDUCED 26: notes/assumptions] -/
def sysFlush (c : Nat) (f : Flg) (s : State) : State :=
  match (s.core c).arch.pend with
  | some (n, v) => sysEffect c n v f (s.modArch c fun a => { a with pend := none })
  | none => s

/-- Value of system register `n`; MSGD is read without its pop. -/
def sysRead (s : State) (c n : Nat) : Nat :=
  let k := s.core c
  if n = 10 then k.arch.get (kRPC k.arch.ipl) else if n = 11 then k.arch.get (kRSR k.arch.ipl)
  else if n = 14 then ipend s c else if n = 15 then s.rdi AWL_IEN_EN (oAwl c)
  else if n = 16 then k.fin else if n = 18 then k.msgq.getD 0 0 else if n = 19 then 0 else if n = 28 then c
  else k.arch.get (sysKey n)

/-! Exceptions and entries (R239, R240, R243) -/

/-- Handler address of vector `n`. -/
def vector (s : State) (c n : Nat) : Nat :=
  let a := (s.core c).arch
  s.rdMem 4 (a.get kPSEG * 2 ^ 32 + (a.get kVBR + 4 * n) % 2 ^ 32) / 4 * 4

/-- Entry at level `l` through vector `n` with the return address. -/
def awlEnter (c l n ret : Nat) (s : State) : State :=
  let s := sysFlush c {} s
  let pc := vector s c n
  s.modArch c fun a => (((a.put (kRPC l) ret).put (kRSR l) a.sr).put kSR (putBits (putBits a.sr 24 3 l) 22 1 0)).put kPC pc

/-- Vector `n` is taken at level 4 (R240). -/
def awlVector (c n ret : Nat) (s : State) : State := awlEnter c 4 n ret (s.modArch c fun a => a.put kXCAUSE (putBits (a.get kXCAUSE) 0 8 n))

/-- An exception: vector `n`; at level 4 or above, or in a monitor session, a double fault (R240, R243, R555). -/
def awlExc (c n ret : Nat) (s : State) : State :=
  if 4 ≤ (s.core c).arch.ipl ∨ inSession s c then
    let s := s.modArch c fun a => a.put kXCAUSE (putBits (a.get kXCAUSE) 0 8 n)
    dropEntry c (endSession true c (((setAwlState c awlFAULTED s).wri AWL_STAT_DFAULT (oAwl c) 1).recordSt ST_HW_AWL_DFAULT (c / 32) [c]))
  else awlVector c n ret s

/-- XCAUSE, XADDR and the AWL fault registers take a load or fetch fault (R223, R238). -/
def awlFaultInfo (c st addr : Nat) (s : State) : State :=
  let o := oAwl c
  let s := s.modArch c fun a => (a.put kXCAUSE (putBits (a.get kXCAUSE) 16 16 st)).put kXADDR (addr % 2 ^ 32)
  ((s.wri AWL_FAULT_STATUS o st).wri AWL_FAULT_ADDRH o (addr / 2 ^ 32)).wri AWL_FADDR_ADDR o (addr % 2 ^ 32)

/-! Run-ahead (R237, R238) -/

/-- Bytes of a held store go to X or Y memory; a whole word stored is good again. -/
def commitStore (c : Nat) (s : State) (x : AwlStore) : State :=
  let s := (List.range x.size).foldl (fun s i => s.wrByte (xyAddr c x.y (x.addr + i)) (byteOf x.val i)) s
  (List.range ((x.size + 3) / 4)).foldl (fun s i =>
    let k := xyAddr c x.y (x.addr / 4 * 4 + 4 * i)
    if 4 ≤ x.size ∨ tabGet 0 s.marks k = 1 then { s with marks := tabSet 0 s.marks k 0 } else s) s

/-- A WR or an RD of a core: the units of one access of `size` bytes at `addr` (R236). -/
def coreReq (c op tag addr size val : Nat) : Req :=
  let b := addr % 64
  { src := coreEp c, op, addr := addr - b, tag, len := if op = 2 then 1 else 0, bfirst := b, blast := b + size - 1
    units := if op = 2 then [⟨b, b + size - 1, val * 256 ^ b⟩] else [] }

/-- The lowest tag that the core's port has not outstanding and that no request of the core's waits with. -/
def freeTagOf (s : State) (c : Nat) : Nat :=
  let used := (s.welt.out.filter fun o => o.src == coreEp c).map Outst.tag ++ (s.core c).wrq.map Req.tag ++
    ((s.welt.wait.filter fun q => q.src == coreEp c).map Req.tag)
  ((List.range 4096).find? fun t => !used.contains t).getD 0

/-- An STW is sent (R236). -/
def sendStore (c : Nat) (s : State) (x : AwlStore) : State :=
  let t := freeTagOf s c
  s.modCore c fun k => { k with wrq := k.wrq ++ [coreReq c 2 t x.addr x.size x.val], stq := k.stq ++ [(t, x.addr)] }

/-- Held stores whose loads have all completed take effect, in order; none in a LOCK window. -/
def release (c : Nat) (s : State) : State :=
  let k := s.core c
  if k.lk.isSome then s
  else
    let bound := (k.loads.head?.map AwlLoad.ser)
    let go := fun (x : AwlStore) => match bound with
      | some n => decide (x.after < n)
      | none => true
    let s := (k.sbuf.filter go).foldl (commitStore c) (s.modCore c fun k => { k with sbuf := k.sbuf.filter fun x => !go x })
    (k.stwait.filter go).foldl (sendStore c) (s.modCore c fun k => { k with stwait := k.stwait.filter fun x => !go x })

/-- Everything younger than the oldest load, and that load, is undone (R238). -/
def squash (c : Nat) (s : State) : State :=
  match (s.core c).loads with
  | l :: _ => s.modCore c fun k => { k with arch := l.ckpt, loads := [], sbuf := [], stwait := [] }
  | [] => s

/-- AWL_PC shows the last instruction retired. -/
def showPc (c : Nat) (s : State) : State :=
  let k := s.core c
  s.wri AWL_PC_PC (oAwl c) (match k.loads with
    | l :: _ => l.ckpt.last
    | [] => k.arch.last)

/-- The value of a load goes to its destination key: 0 to 31 an H-class code, 100 + n a W-class code, 200 + n a pair, 300 + n a
physical Q register.  [DESIGN CHOICE 25: notes/assumptions] -/
def fillReg (dest v : Nat) (a : Arch) : Arch :=
  if dest < 100 then a.opPut 1 dest v
  else if dest < 200 then a.put (dest - 100) (v % 2 ^ 32)
  else if dest < 300 then (a.put (dest - 200) (v % 2 ^ 32)).put (dest - 199) (v / 2 ^ 32 % 2 ^ 32)
  else a.put (kQ (dest - 300)) (v % 65536)

/-- Register keys that a destination covers.  [DESIGN CHOICE 25: notes/assumptions] -/
def destKeys (dest : Nat) : List Nat :=
  if dest < 100 then [dest % 16] else if dest < 200 then [dest - 100] else if dest < 300 then [dest - 200, dest - 199] else [kQ (dest - 300)]

/-- Registers still pending (R236).  [DESIGN CHOICE 25: notes/assumptions] -/
def pendingKeys (k : Core) : List Nat := (k.loads.filter fun l => l.data.isNone).flatMap fun l => destKeys l.dest

/-- A LOCK window ends without effect (R247): its registers are those at the LOCK, and the lock, if taken, is released.  [DEDUCED 26: notes/assumptions] -/
def breakWindow (c : Nat) (s : State) : State :=
  match (s.core c).lk with
  | none => s
  | some w =>
    let t := freeTagOf s c
    let unl := match w.line with
      | some l => [{ src := coreEp c, op := 9, addr := l * 64, tag := t : Req }]
      | none => []
    s.modCore c fun k => { k with arch := w.ckpt, loads := [], sbuf := [], stwait := [], lk := none, wrq := k.wrq ++ unl }

/-- An exception of the instruction at hand: in a LOCK window it is taken at the LOCK.  [DEDUCED 26: notes/assumptions] -/
def awlRaise (c n : Nat) (s : State) : State :=
  let s := breakWindow c s
  let a := (s.core c).arch
  showPc c (awlExc c n a.pc s)

/-- A LOCK window whose last instruction has retired ends (R246): its stores take effect, and ULWR or UNL is sent.  [DEDUCED 26: notes/assumptions] -/
def endWindow (c : Nat) (s : State) : State :=
  let k := s.core c
  match k.lk with
  | some w =>
    if w.left = 0 ∧ k.loads = [] then
      let t := freeTagOf s c
      let out := match w.store, w.line with
        | some x, some _ =>
          let wa := x.addr / 8 * 8
          let old := ((w.words.find? fun p => p.1 == wa).map Prod.snd).getD 0
          let v := (List.range 8).foldl (fun n i => n + (if x.addr ≤ wa + i ∧ wa + i < x.addr + x.size then byteOf x.val (wa + i - x.addr) else byteOf old i) * 256 ^ i) 0
          [{ src := coreEp c, op := 8, addr := wa, tag := t, len := 1, bfirst := 0, blast := 7, units := [⟨0, 7, v⟩] : Req }]
        | none, some l => [{ src := coreEp c, op := 9, addr := (w.words.getD 0 (l * 64, 0)).1, tag := t : Req }]
        | _, none => []
      let s := s.modCore c fun k => { k with
        lk := none, wrq := k.wrq ++ out, stq := if w.store.isSome then k.stq ++ (out.map fun q => (q.tag, q.addr)) else k.stq
        arch := k.arch.srPut 22 1 0 }
      release c s
    else s
  | none => s

/-- A stop in progress is done once no LOCK window, ordered load or unanswered STW is left (R221). -/
def stopCheck (c : Nat) (s : State) : State :=
  let k := s.core c
  match k.stopping with
  | none => s
  | some m =>
    if k.lk.isSome ∨ (k.loads.any fun l => l.ordered) then s
    else
      let s := showPc c (squash c s)
      let k := s.core c
      if k.stq = [] then
        dropEntry c <| ((setAwlState c awlSTOPPED s).wri AWL_STAT_MODESTOP (oAwl c) m.toNat).modCore c fun k => { k with stopping := none }
      else s

/-- WDOG waits at a boundary and is taken there at level below 4 (R240, R249). -/
def takeWdog (c : Nat) (s : State) : State :=
  let k := s.core c
  if k.wdPend ∧ k.lk.isNone ∧ k.arch.ipl < 4 ∧ (awlState s c = awlRUN ∨ awlState s c = awlWAIT) ∧ !(k.loads.any fun l => l.ordered) then
    let s := squash c s
    let s := (setAwlState c awlRUN s).modCore c fun k => { k with wdPend := false }
    awlVector c 9 (s.core c).arch.pc s
  else s

/-- What keeps a core from a monitor entry other than an open window or an ordered load (R550).  [DEDUCED 74: notes/assumptions] -/
def cannotEnter (s : State) (c : Nat) : Bool :=
  s.rdi DBG_CORECTL_MONEN (oDbg c) == 0 || inSession s c || !(awlState s c == awlRUN || awlState s c == awlWAIT)

/-- The monitor entry that waits is taken at the boundary, unless a LOCK window or an ordered load defers it (R551 to R553); a core in WAIT wakes
and will wait again.  [DEDUCED 74: notes/assumptions] -/
def takeEntry (c : Nat) (s : State) : State :=
  let p := tabGet 0 s.dbg.pend c
  let k := s.core c
  if p = 0 ∨ cannotEnter s c then s
  else if k.lk.isSome then { s with dbg := { s.dbg with pend := tabSet 0 s.dbg.pend c (p % 32 + 32) } }
  else if k.loads.any fun l => l.ordered then s
  else
    let o := oDbg c
    let cause := p % 8
    let s := squash c s
    let a := (s.core c).arch
    let waits := awlState s c == awlWAIT
    let s := showPc c (awlEnter c 5 10 (if waits then a.last else a.pc) (setAwlState c awlRUN s))
    let s := (s.wri DBG_STAT_CAUSE o cause).wri DBG_STAT_LOCKDEF o (p / 32)
    let s := if cause = 2 ∨ cause = 3 then s.wri DBG_STAT_COMP o (p / 8 % 4) else s
    let s := enterDone c (if cause = 4 then 0 else ST_DBG_STATE) s
    let s := if s.rd DBG_CTL_WDGHOLD = 1 then (let t := wdSettle c s; { t with dbg := { t.dbg with wdHeld := t.dbg.wdHeld ++ [c] } }) else s
    { (s.wri DBG_STAT_MON o 1).wri DBG_STAT_ENTRIES o (s.rdi DBG_STAT_ENTRIES o + 1) with dbg := { s.dbg with pend := tabSet 0 s.dbg.pend c 0 } }

/-- The oldest load retires, or its fault is taken (R237, R238). -/
def retireOne (c : Nat) (s : State) : State :=
  match (s.core c).loads with
  | [] => s
  | l :: t =>
    match l.err with
    | some st =>
      let s := if l.lrd then breakWindow c s else squash c s
      awlExc c 2 (s.core c).arch.pc (awlFaultInfo c st l.addr s)
    | none =>
      if l.data.isSome then release c (s.modCore c fun k => { k with loads := t }) else s

/-- What a core does once responses have arrived: loads retire in order, a window and a stop end, WDOG is taken. -/
def coreSettle (c : Nat) (s : State) : State :=
  let s := (List.range (s.core c).loads.length).foldl (fun s _ => retireOne c s) s
  takeWdog c (takeEntry c (stopCheck c (showPc c (endWindow c s))))

/-- The data cache takes a line whose data it read: an address of the Last store outside the context table, in the two ways of the set that the
low bits of the line choose; which of two lines a third replaces is a free value (R176, R229).  [DESIGN CHOICE 1, 12, 83: notes/assumptions] -/
def cacheFill (c a : Nat) (s : State) : State :=
  let line := a / 64
  let set := (s.core c).dlines.filter fun x => x % 64 == line % 64
  if a < 0x4000200000 ∨ 0x4002000000 ≤ a ∨ set.contains line then s
  else if set.length < 2 then s.modCore c fun k => { k with dlines := k.dlines ++ [line] }
  else
    let x := s.free 1
    x.2.modCore c fun k => { k with dlines := k.dlines.filter (· != set.getD x.1 0) ++ [line] }

/-- The end of a request of a core at its injecting port (R236, R238, R241): data or a status for a load, or the answer to
an STW.  [DESIGN CHOICE 83: notes/assumptions] -/
def coreArrive (c tag op st data : Nat) (s : State) : State :=
  let k := s.core c
  match k.loads.find? fun l => l.tag == tag && l.data.isNone && l.err.isNone with
  | some l =>
    if op = 0x20 then
      let raw := if l.lrd then data % 2 ^ 64 / 256 ^ (l.addr % 8) else data / 256 ^ (l.addr % 64)
      let held := (k.lk.bind LockWin.store)
      let v := (List.range l.size).foldl (fun n i =>
        n + (match held with
          | some x => if l.lrd ∧ x.addr ≤ l.addr + i ∧ l.addr + i < x.addr + x.size then byteOf x.val (l.addr + i - x.addr) else byteOf raw i
          | none => byteOf raw i) * 256 ^ i) 0
      let s := if l.lrd ∨ l.snooped then s else cacheFill c l.addr s
      s.modCore c fun k => { k with
        arch := fillReg l.dest v k.arch
        loads := k.loads.map fun x => if x.tag = tag then { x with data := some v } else if l.ser < x.ser then { x with ckpt := fillReg l.dest v x.ckpt } else x
        lk := k.lk.map fun w => if l.lrd then { w with words := w.words ++ [(l.addr / 8 * 8, data % 2 ^ 64)] } else w }
    else s.modCore c fun k => { k with loads := k.loads.map fun x => if x.tag = tag then { x with err := some st } else x }
  | none =>
    if k.stq.any fun p => p.1 == tag then
      let s := s.modCore c fun k => { k with stq := k.stq.filter fun p => p.1 != tag }
      if op = 0x21 ∧ st = 0 then s
      else raiseEdge c 31 ((s.wri AWL_SFSTAT_STATUS (oAwl c) st).addi AWL_SFSTAT_COUNT (oAwl c) 1)
    else s

/-- The core is asked to stop; `byMode` sets MODESTOP (R220, R221). -/
def stopCore (byMode : Bool) (c : Nat) (s : State) : State :=
  if awlState s c = awlRUN ∨ awlState s c = awlWAIT then
    stopCheck c (s.modCore c fun k => { k with stopping := some byMode, wasWait := awlState s c == awlWAIT })
  else s

/-- Leaving RESET: the core runs from the reset vector (R220, R239). -/
def startReset (c : Nat) (s : State) : State := (setAwlState c awlRUN s).modArch c fun a => a.put kPC (vector s c 0)

/-- RUN or WAIT again from a stop by the mode. -/
def resumeCore (c : Nat) (s : State) : State :=
  wakeWait c ((setAwlState c (if (s.core c).wasWait then awlWAIT else awlRUN) s).wri AWL_STAT_MODESTOP (oAwl c) 0)

/-- AWL_CTL.RESET, or a load: registers at their reset values but those the image gives, caches invalid, and the snoop filter
without the core (R177, R220, R229).  [DEDUCED 27: notes/assumptions] -/
def resetCore (c : Nat) (s : State) : State :=
  let s := dropEntry c (endSession false c (wdSettle c s))
  let k := s.core c
  let vbr := k.arch.get kVBR
  let pseg := k.arch.get kPSEG
  let s := { s with cores := tabSet {} s.cores c { startFlag := k.startFlag, lines := k.lines, fin := k.fin, wdAt := k.wdAt, stq := [], wrq := [], arch := ({} : Arch).put kVBR vbr |>.put kPSEG pseg } }
  let s := { s with welt := { s.welt with snoop := (s.welt.snoop.map fun p => (p.1, { p.2 with mask := if bit p.2.mask c = 1 then p.2.mask - 2 ^ c else p.2.mask })).filter fun p => p.2.mask != 0 } }
  ((setAwlState c awlRESET s).wri AWL_STAT_MODESTOP (oAwl c) 0).wri AWL_PC_PC (oAwl c) 0

/-- Core IDs of regions given as faulted-region masks. -/
def coresOf (fs : List (Nat × Nat)) : List Nat := fs.flatMap fun p => (List.range 32).filterMap fun r => if bit p.2 r = 1 then some (p.1 * 32 + r) else none

end Sys2Proof.Machine
end

