-- ==== Sys2Proof/Machine/AwlDecode.lean ====
section
/-! DEFINITION. The words of the Awl core: which mnemonic a word is, which words are ILLEGAL, and which registers an
instruction reads and writes (R252 to R279). -/

namespace Sys2Proof.Machine

open Sys2Proof

/-- The mnemonics of the Awl core. -/
inductive Mn where
  | add | sub | cmp | and | or | xor | shl | shr | asr | neg | abs | sat | rnd | mpy | mac | msu
  | mpyUu | macUu | macSu | parallel
  | ldx | ldy | stx | sty | ldw | stw | mov | movToSys | movFromSys | movImm | long
  | pmod | padd | br | brc | call | ret | rti | loop
  | nop | rot | lock | wait | fence | trap | dbg | ei | di
  deriving DecidableEq, Repr

/-- Mnemonics of format 000 by opcode (R265). -/
def aluMn (opc : Nat) : Option Mn :=
  match opc with
  | 0x01 => some .add
  | 0x02 => some .sub
  | 0x03 => some .cmp
  | 0x04 => some .and
  | 0x05 => some .or
  | 0x06 => some .xor
  | 0x07 => some .shl
  | 0x08 => some .shr
  | 0x09 => some .asr
  | 0x0A => some .neg
  | 0x0B => some .abs
  | 0x0C => some .sat
  | 0x0D => some .rnd
  | 0x10 => some .mpy
  | 0x11 => some .mac
  | 0x12 => some .msu
  | _ => none

/-- The mnemonic of a first word, by format and opcode; none for format 111 and reserved opcodes (R253). -/
def mnOf (w : Nat) : Option Mn :=
  match bits w 29 3 with
  | 0 => aluMn (bits w 24 5)
  | 1 => match bits w 26 3 with
    | 0 => some .parallel
    | 1 => some .mpy
    | 2 => some .mac
    | 3 => some .msu
    | 4 => some .mpyUu
    | 5 => some .macUu
    | 6 => some .macSu
    | _ => none
  | 2 => match bits w 25 4 with
    | 0 => some .ldx
    | 1 => some .ldy
    | 2 => some .stx
    | 3 => some .sty
    | 4 => some .ldw
    | 5 => some .stw
    | 6 => some .mov
    | 7 => some .movToSys
    | 8 => some .movFromSys
    | 9 => some .movImm
    | _ => none
  | 3 => match bits w 26 3 with
    | 0 => some .pmod
    | 1 => some .pmod
    | 2 => some .padd
    | _ => none
  | 4 => match bits w 26 3 with
    | 0 => some .br
    | 1 => some .brc
    | 2 => some .call
    | 3 => some .ret
    | 4 => some .rti
    | 5 => some .loop
    | 6 => some .loop
    | _ => none
  | 5 => match bits w 24 5 with
    | 0 => some .nop
    | 1 => some .rot
    | 2 => some .lock
    | 3 => some .wait
    | 4 => some .fence
    | 5 => some .trap
    | 6 => some .dbg
    | 7 => some .ei
    | 8 => some .di
    | _ => none
  | 6 => if bits w 25 4 < 5 then some .long else none
  | _ => none

/-- Words of the instruction: two for format 110 (R252). -/
def wordsOf (w : Nat) : Nat := if bits w 29 3 = 6 then 2 else 1

/-- Rules of format 000 (R264, R265). -/
def legalAlu (w : Nat) : Bool :=
  let opc := bits w 24 5
  let sz := bits w 22 2
  let d := bits w 17 5
  let s1 := bits w 12 5
  let imm := bit w 11 == 1
  let s2 := bits w 6 5
  let regForm := imm || bits w 0 6 == 0
  let shift := opc == 7 || opc == 8 || opc == 9
  if sz = 3 then false
  else if opc = 3 then d == 0 && codeOk sz s1 && regForm && (imm || codeOk sz s2)
  else if opc ≤ 6 then codeOk sz d && codeOk sz s1 && regForm && (imm || codeOk sz s2)
  else if shift then codeOk sz d && codeOk sz s1 && (if imm then bits w 6 5 == 0 else codeOk 0 s2 && bits w 0 6 == 0)
  else if opc = 0xA ∨ opc = 0xB then codeOk sz d && codeOk sz s1 && !imm && bits w 0 11 == 0
  else if opc = 0xC then codeOk sz d && codeOk 2 s1 && !imm && bits w 0 11 == 0
  else if opc = 0xD then sz != 0 && codeOk sz d && codeOk 2 s1 && !imm && bits w 0 11 == 0
  else sz == 1 && codeOk 2 d && !imm && bits w 0 6 == 0

/-- Rules of format 001 (R266). -/
def legalMac (w : Nat) : Bool :=
  bits w 12 2 != 3 && bits w 5 2 != 3 &&
  (bits w 26 3 != 0 || (bits w 14 10 == 0 && bit w 25 == 0 && !(bits w 12 2 == 0 && bits w 5 2 == 0 && bit w 24 == 0)))

/-- Rules of loads, stores and moves (R269, R271). -/
def legalMove (w : Nat) : Bool :=
  let opc := bits w 25 4
  if opc ≤ 5 then
    let sz := bits w 23 2
    let r := bits w 18 5
    let q := bit w 17 == 1
    sz != 3 && !(sz == 2 && (decide (opc ≤ 3) || r % 2 == 1)) && !(q && sz != 0) && (q || sz == 0 || r < 16) &&
      (2 ≤ bits w 12 2 || bits w 0 12 == 0)
  else if opc = 6 then
    let d := bits w 18 7
    let x := bits w 11 7
    bits w 0 11 == 0 && rcWidth d != 0 && rcWidth x != 0 && !(rcWidth d == 40 && rcWidth x == 8)
  else if opc = 7 then bits w 0 13 == 0 && rcWidth (bits w 13 7) != 0 && bits w 20 5 < 29
  else if opc = 8 then bits w 0 13 == 0 && rcWidth (bits w 18 7) != 0 && bits w 13 5 < 29
  else
    let k := bits w 16 2
    rcWidth (bits w 18 7) != 0 && k != 3 && !(k == 2 && rcWidth (bits w 18 7) != 32)

/-- Rules of pointers, branches and loops (R273, R274). -/
def legalPtr (w : Nat) : Bool :=
  let o := bits w 26 3
  if o = 0 then bits w 20 3 == 0 && bits w 0 17 == 0 else if o = 1 then bits w 16 7 == 0 else bits w 0 17 == 0

def legalBranch (w : Nat) : Bool :=
  let o := bits w 26 3
  if o = 0 ∨ o = 2 then bit w 25 == 0 || bits w 0 21 == 0
  else if o = 1 then true
  else if o = 3 then bits w 0 22 == 0 && bits w 22 4 < 16
  else if o = 4 then bits w 0 26 == 0
  else if o = 5 then bits w 0 14 != 0
  else bits w 0 14 != 0 && bits w 14 8 == 0

/-- Rules of the system format (R278). -/
def legalSys (w : Nat) : Bool :=
  let o := bits w 24 5
  bits w 8 16 == 0 && (if o = 2 then bits w 2 6 == 0 else if o = 5 ∨ o = 6 then true else bits w 0 8 == 0)

/-- Rules of format 110 (R279). -/
def legalLong (w : Nat) : Bool :=
  let o := bits w 25 4
  if o = 0 then rcWidth (bits w 18 7) != 0 && bits w 0 18 == 0
  else if o = 1 then
    let opc := bits w 20 5
    let sz := bits w 18 2
    1 ≤ opc && opc ≤ 6 && (sz == 0 || sz == 2) && codeOk sz (bits w 8 5) && bits w 0 8 == 0 &&
      (if opc = 3 then bits w 13 5 == 0 else codeOk sz (bits w 13 5))
  else if o = 2 then bits w 0 24 == 0
  else if o = 3 then bits w 0 21 == 0
  else bits w 0 14 != 0 && bits w 14 11 == 0

/-- The word is an instruction that performs (R254), `ipl` being the level. -/
def legalWord (w ipl : Nat) : Bool :=
  match bits w 29 3 with
  | 0 => (mnOf w).isSome && legalAlu w
  | 1 => (mnOf w).isSome && legalMac w
  | 2 => (mnOf w).isSome && legalMove w
  | 3 => (mnOf w).isSome && legalPtr w
  | 4 => (mnOf w).isSome && legalBranch w && !(bits w 26 3 == 4 && ipl == 0)
  | 5 => (mnOf w).isSome && legalSys w
  | 6 => (mnOf w).isSome && legalLong w
  | _ => false

/-- A format 100 instruction, or a format 110 branch or LOOP: not allowed at the end of an active loop (R277). -/
def isBranch (w : Nat) : Bool := bits w 29 3 == 4 || (bits w 29 3 == 6 && 2 ≤ bits w 25 4)

/-- Formats that a LOCK window must not hold (R247). -/
def breaksWindow (w : Nat) : Bool := bits w 29 3 == 4 || bits w 29 3 == 5

/-- Register keys that an access of format 010 uses for its address. -/
def ptrKeys (p : Nat) (am : Nat) (welt : Bool) : List Nat :=
  [kP p] ++ (if am = 1 then [kM p] else []) ++ (if p < 4 then [kB p, kL p] else []) ++ (if welt then [kWS p] else [])

/-- Destination key of a load's data register, under its size and RC (R269). -/
def loadDest (a : Arch) (w : Nat) : Nat :=
  let r := bits w 18 5
  if bit w 17 = 1 then 300 + (r + a.get kQRB) % 32 else match bits w 23 2 with
    | 0 => r
    | 1 => 100 + r
    | _ => 200 + r

/-- Registers that a word reads and writes, as register keys.  [DESIGN CHOICE 25: notes/assumptions] -/
def regUse (a : Arch) (w : Nat) : List Nat × List Nat :=
  match bits w 29 3 with
  | 0 =>
    let opc := bits w 24 5
    let sz := bits w 22 2
    let dz := if 0x10 ≤ opc then 2 else sz
    let s1 := codeKey (if opc = 0xC ∨ opc = 0xD then 2 else sz) (bits w 12 5)
    let s2 := if bit w 11 = 1 then [] else [codeKey (if 7 ≤ opc ∧ opc ≤ 9 then 0 else sz) (bits w 6 5)]
    let d := codeKey dz (bits w 17 5)
    ([s1] ++ s2 ++ (if 0x11 ≤ opc then [d] else []), if opc = 3 then [] else [d])
  | 1 =>
    let x := bits w 12 2
    let y := bits w 5 2
    let xr := a.q (bits w 9 3)
    let yr := a.q (16 + bits w 2 3)
    let acc := kA (bit w 25)
    let mul := bits w 26 3
    ((if mul = 0 then [] else [a.q (bits w 19 5), a.q (bits w 14 5), acc]) ++ (if x = 0 then [] else ptrKeys (2 * bit w 8) (bit w 7) false) ++
      (if y = 0 then [] else ptrKeys (1 + 2 * bit w 1) (bit w 0) false) ++ (if x = 2 then [xr] else []) ++ (if y = 2 then [yr] else []),
     (if mul = 0 then [] else [acc]) ++ (if x = 0 then [] else [kP (2 * bit w 8)]) ++ (if y = 0 then [] else [kP (1 + 2 * bit w 1)]) ++
      (if x = 1 then [xr] else []) ++ (if y = 1 then [yr] else []))
  | 2 =>
    let opc := bits w 25 4
    if opc ≤ 5 then
      let d := destKeys (loadDest a w)
      let p := bits w 14 3
      let pk := ptrKeys p (bits w 12 2) (4 ≤ opc)
      if opc = 0 ∨ opc = 1 ∨ opc = 4 then (pk, d ++ [kP p]) else (pk ++ d, [kP p])
    else if opc = 6 then ([(a.rcLoc (bits w 11 7)).1], [(a.rcLoc (bits w 18 7)).1])
    else if opc = 7 then ([(a.rcLoc (bits w 13 7)).1], [sysKey (bits w 20 5)])
    else if opc = 8 then ([sysKey (bits w 13 5)], [(a.rcLoc (bits w 18 7)).1])
    else ([], [(a.rcLoc (bits w 18 7)).1])
  | 3 =>
    let n := bits w 23 3
    let src := if bits w 26 3 = 2 then [kP (bits w 20 3)] else [kP n]
    (src ++ (if bits w 26 3 = 1 then [] else [kM (bits w 17 3)]) ++ (if n < 4 then [kB n, kL n] else []), [kP n])
  | 4 =>
    let o := bits w 26 3
    ((if (o = 0 ∨ o = 2) ∧ bit w 25 = 1 then [bits w 21 4] else if o = 3 ∨ o = 6 then [bits w 22 4] else []), if o = 2 then [15] else [])
  | 6 =>
    let o := bits w 25 4
    if o = 0 then ([], [(a.rcLoc (bits w 18 7)).1])
    else if o = 1 then ([codeKey (bits w 18 2) (bits w 8 5)], if bits w 20 5 = 3 then [] else [codeKey (bits w 18 2) (bits w 13 5)])
    else if o = 2 ∧ bit w 24 = 1 then ([], [15]) else ([], [])
  | _ => ([], [])

end Sys2Proof.Machine
end

