-- ==== Sys2Proof/Machine/Cob.lean ====
section
/-! DEFINITION. What the Cobbler is told by the other blocks: corrections, uncorrectable words, and remaps to record
(R373 to R378). -/

namespace Sys2Proof.Machine

open Sys2Proof

/-- An entry of COB_EVENT: KIND, CLASS, DIE and STATUS. -/
def cobWord (kind cls die st : Nat) : Nat := kind * 2 ^ 26 + cls * 2 ^ 23 + die * 2 ^ 19 + st

def cobEvent (kind cls die st loc : Nat) (s : State) : State := s.push2 COB_EVENT_VALID (cobWord kind cls die st) loc

/-- Entries of a class's correction queue, and of the correction history (R373, R375). -/
def cobQueueCap : Nat := 64
def cobHistCap : Nat := 4096

/-- Nanoseconds of an hour.  [DEDUCED 32: notes/assumptions] -/
def hourNs : Nat := 3600000000000

def State.modCob (s : State) (f : Cob → Cob) : State := { s with cob := f s.cob }

/-- A history entry is at that location.  [DEDUCED 32: notes/assumptions] -/
def HistEnt.at? (h : HistEnt) (cls die loc : Nat) : Bool := h.cls == cls && h.die == die && h.loc == loc

/-- The history counts a correction (R375): a new location takes a free entry, or the oldest whose count is 1, or is dropped. -/
def histCount (cls die loc : Nat) (s : State) : State :=
  let h := s.cob.hist
  let e : HistEnt := ⟨cls, die, loc, 1, s.clocks.elapsed⟩
  if h.any fun x => x.at? cls die loc then
    s.modCob fun c => { c with hist := c.hist.map fun x => if x.at? cls die loc then { x with count := x.count + 1 } else x }
  else if h.length < cobHistCap then s.modCob fun c => { c with hist := c.hist ++ [e] }
  else if h.any fun x => x.count == 1 then
    s.modCob fun c => { c with hist := c.hist.eraseIdx (c.hist.findIdx fun x => x.count == 1) ++ [e] }
  else s.inci COB_HIST_DROPPED 0

/-- Corrections of a location within the window of its first (R375).  [DEDUCED 32: notes/assumptions] -/
def histOf (s : State) (cls die loc : Nat) : Nat :=
  match s.cob.hist.find? fun x => x.at? cls die loc with
  | some x => if s.clocks.elapsed ≤ x.first + s.rd COB_POL_WIN * hourNs then x.count else 0
  | none => 0

/-- A correction is found (R373, R375): counted, posted for rewrite unless the queue is full, and followed by the policy.  [DEDUCED 28: notes/assumptions] -/
def cobCorrected (cls die loc : Nat) (s : State) : State :=
  let s := s.inci COB_CECNT_COUNT (4 * cls)
  let s := s.modCob fun c => { c with sec := tabMod 0 c.sec cls (· + 1) }
  let s := if s.cob.queue.contains (cls, die, loc) ∨ cobQueueCap ≤ (s.cob.queue.filter fun x => x.1 == cls).length then s
    else s.modCob fun c => { c with queue := c.queue ++ [(cls, die, loc)] }
  let s := histCount cls die loc s
  if s.rd COB_POL_REMAPTH ≤ histOf s cls die loc then
    if cls ≠ 0 ∧ bit (s.rd COB_POL_AUTORM) cls = 1 then
      (if s.cob.due.contains (cls, die, loc) then s else s.modCob fun c => { c with due := c.due ++ [(cls, die, loc)] })
    else cobEvent 4 cls die 0 loc s
  else s

/-- An uncorrectable word is found (R376): event and count; its record and its outcome are the finder's. -/
def cobUncorrectable (cls die loc st : Nat) (s : State) : State := (cobEvent 2 cls die st loc s).inci COB_UECNT_COUNT (4 * cls)

/-- A remap is made (R375): KIND 3, its record, and the location leaves the history.  [DEDUCED 28: notes/assumptions] -/
def remapMade (cls die loc : Nat) (s : State) : State :=
  let s := s.modCob fun c => { c with hist := c.hist.filter fun x => !x.at? cls die loc, due := c.due.filter fun x => x != (cls, die, loc) }
  (cobEvent 3 cls die 0 loc s).record 0x0009 die 2 [cobWord 3 cls die 0, loc]

/-- A remap is refused (R375): KIND 5, and SPFULL of the class; the entry stays in the history.  [DEDUCED 43: notes/assumptions] -/
def remapRefused (cls die loc st : Nat) (s : State) : State :=
  let s := s.modCob fun c => { c with due := c.due.filter fun x => x != (cls, die, loc) }
  cobEvent 5 cls die st loc (s.wr COB_STAT_SPFULL (s.rd COB_STAT_SPFULL ||| 2 ^ cls))

/-- A remap is recorded for the remap store (R378): KIND 1 to 4, in the pending list of 256. -/
def rsRecord (kind die loc : Nat) (s : State) : State :=
  let hours := s.clocks.rtc / hourNs
  let r : RsRec := ⟨kind, die, if die = 12 then 0 else bits (s.die die).ident 16 16, loc, hours⟩
  if 8192 ≤ s.cob.rs.length + s.cob.rsPend.length then s.wr COB_RSTORE_FULL 1
  else if 256 ≤ s.cob.rsPend.length then s.inci COB_RSDROP_COUNT 0
  else
    let s := s.modCob fun c => { c with rsPend := c.rsPend ++ [r] }
    s.wr COB_RSTORE_PEND s.cob.rsPend.length

end Sys2Proof.Machine
end

