-- ==== Sys2Proof/Machine/Cells.lean ====
section
/-! DEFINITION. The fabric of a region: cells, carry chain, product blocks and regional clock networks (spec/02_fabric_cells.md),
and the tables of banks, Eyelets, bundles and planes. -/

namespace Sys2Proof.Machine

open Sys2Proof

/-- Register accesses and events of die `d` act only while its core rails are up and the probe has judged it usable
(R33, R38, R621): STATE SUPPORTED (1) or, for identity only, EXCLUDED. -/
def State.dieLive (s : State) (d : Nat) : Bool := s.dieUp d

/-- Region clocks may run in this mode: RUN and SHIFT, and SAFE in a region that is not faulted (R6, R64). -/
def State.clocksAllowed (s : State) (d r : Nat) : Bool :=
  s.mode == RUN || s.mode == SHIFT || (s.mode == SAFE && s.modes.safeFrom ≥ RUN && bit (s.rdi GLB_SAFEREG_MASK (4 * d)) r == 0)

/-- The design in the active plane of a region. -/
def Region.design (g : Region) : Design := if g.plane = 0 then g.design0 else g.design1

/-! Cells -/

/-- The two flip-flops of a cell as one number: QA + 2 × QB. -/
def packFf (a b : Bool) : Nat := a.toNat + 2 * b.toNat

/-- Every flip-flop of a design at INITQ (R48). -/
def initFf (g : Design) : Tab Nat := g.cells.foldl (fun m p => tabSet 0 m p.1 (packFf p.2.initA p.2.initB)) []

/-- Every product-block register of a design at its initial value (R48, R58). -/
def initProd (g : Design) : Tab ProdSt := g.prods.foldl (fun m p => tabSet {} m p.1 p.2.init) []

/-- What the routing of a region presents: its flip-flops, product blocks, and the signals from outside its cells. -/
structure View where
  design : Design
  ff : Tab Nat
  prod : Tab ProdSt
  ext : List Nat

/-! Product blocks -/

/-- `x` of `w` bits as an integer, signed or not. -/
def asInt (signed : Bool) (w x : Nat) : Int :=
  if signed ∧ 2 ^ (w - 1) ≤ x % 2 ^ w then (x % 2 ^ w : Nat) - (2 ^ w : Nat) else ((x % 2 ^ w : Nat) : Int)

/-- An integer kept in `w` bits. -/
def wrapTo (w : Nat) (x : Int) : Nat := (x % (2 ^ w : Nat)).toNat

/-- The pre-adder (R55): 24 bits, wrapping. -/
def preAdd (g : ProdCfg) (a d : Nat) : Nat :=
  let x := asInt g.signA 24 a
  let y := asInt g.signA 24 d
  wrapTo 24 (match g.pre with | 1 => x + y | 2 => x - y | 3 => y - x | _ => x)

/-- The product M, and the second product of PAIR (R54). -/
def product (g : ProdCfg) (a b : Nat) : Int × Int :=
  let lo := asInt g.signA 12 a * asInt g.signB 12 b
  let hi := asInt g.signA 12 (a / 2 ^ 12) * asInt g.signB 12 (b / 2 ^ 12)
  match g.mode with
  | 0 => (asInt g.signA 24 a * asInt g.signB 24 b, 0)
  | 1 => (lo + hi, 0)
  | _ => (lo, hi)

/-- The exact result of an accumulator operation on signed parts (R56). -/
def accOp (op : Nat) (m p c pcin : Int) : Int :=
  match op with
  | 0 => m | 1 => p + m | 2 => p - m | 3 => c + m | 4 => pcin + m | 5 => c - m | 6 => pcin - m | _ => 0

/-- The result in `w` bits, clamped or wrapped, and whether it overflowed (R57). -/
def accFit (sat : Bool) (w : Nat) (x : Int) : Nat × Bool :=
  let top : Int := (2 ^ (w - 1) : Nat)
  if x < -top ∨ top ≤ x then (if sat then wrapTo w (if x < 0 then -top else top - 1) else wrapTo w x, true)
  else (wrapTo w x, false)

/-- P and OVF from M, P, C and PCIN, in halves of 30 bits in PAIR (R54, R56, R57). -/
def accumulate (g : ProdCfg) (op : Nat) (m : Int × Int) (p c pcin : Nat) : Nat × Bool :=
  if g.mode = 2 then
    let half := fun (n : Nat) (mm : Int) => accFit g.sat 30 (accOp op mm (asInt true 30 (p / 2 ^ (30 * n))) (asInt true 30 (c / 2 ^ (30 * n))) (asInt true 30 (pcin / 2 ^ (30 * n))))
    let l := half 0 m.1
    let h := half 1 m.2
    (l.1 + h.1 * 2 ^ 30, l.2 || h.2)
  else accFit g.sat 60 (accOp op m.1 (asInt true 60 p) (asInt true 60 c) (asInt true 60 pcin))

/-- What stands at the output of each stage of a block, a bypassed register passing its input on (R59, R60): `a` to `d` after IREG, `ad`, `b2`
and `c3` after ADREG, `m`, `mHi`, `c2` and `op` after MREG.  [DEDUCED 14: notes/assumptions] -/
def prodFlow (bus : Nat → List Src → Nat) (g : ProdCfg) (st : ProdSt) : ProdSt :=
  let a := if g.ireg then st.a else bus 24 g.a
  let b := if g.ireg then st.b else bus 24 g.b
  let c := if g.ireg then st.c else bus 60 g.c
  let d := if g.ireg then st.d else bus 24 g.d
  let pre := g.mode = 0 ∧ g.pre ≠ 0
  let adOn := pre ∧ g.adreg = true
  let ad := if adOn then st.ad else if pre then preAdd g a d else a
  let b2 := if adOn then st.b2 else b
  let c3 := if adOn then st.c3 else c
  let m := if g.mreg then (st.m, st.mHi) else product g ad b2
  { a := a, b := b, c := c, d := d, ad := ad, b2 := b2, c3 := c3, m := m.1, mHi := m.2, c2 := if g.mreg then st.c2 else c3
    op := if g.dynOp then (if g.mreg then st.op else bus 3 g.opIn) else g.op }

/-- PREG is in the path: enabled, or present since the accumulator can feed back on itself.  [DEDUCED 14: notes/assumptions] -/
def pregOn (g : ProdCfg) : Bool := g.preg || g.dynOp || g.op == 1 || g.op == 2

/-- P and OVF of a block without PREG. -/
def prodComb (bus : Nat → List Src → Nat) (pcin : Unit → Nat) (g : ProdCfg) (st : ProdSt) : Nat × Bool :=
  let x := prodFlow bus g st
  accumulate g x.op (x.m, x.mHi) 0 x.c2 (if x.op = 4 ∨ x.op = 6 then pcin () else 0)

/-- A bus of sources read by `ev`, low bit first. -/
def busOf (ev : Src → Bool) (w : Nat) (l : List Src) : Nat := (List.range w).foldl (fun n i => n + (ev (l.getD i (.const false))).toNat * 2 ^ i) 0

/-- Value of a source (R42, R43, R51 to R53).  Output 4 of a cell is its carry-out.  `fuel` bounds the depth of
combinational logic.  [DESIGN CHOICE 10: notes/assumptions] -/
def evalSrc (v : View) : (fuel : Nat) → Src → Bool
  | 0, _ => false
  | _ + 1, .const b => b
  | _ + 1, .q c n => bit (tabGet 0 v.ff c) n == 1
  | f + 1, .p b n =>
    let st := tabGet {} v.prod b
    let g := tabGet {} v.design.prods b
    let r := if pregOn g then (st.p, st.ovf)
      else prodComb (busOf fun x => evalSrc v f x) (fun _ => if b % 32 = 0 then 0 else busOf (fun x => evalSrc v f x) 60 ((List.range 60).map fun i => .p (b - 1) i)) g st
    if n = 60 then r.2 else bit r.1 n == 1
  | _ + 1, .ext n => v.ext.contains n
  | f + 1, .o c out =>
    let g := tabGet {} v.design.cells c
    let a := fun i => (evalSrc v f (g.a.getD i (.const false))).toNat
    let low := a 0 + 2 * a 1 + 4 * a 2 + 8 * a 3 + 16 * a 4
    let p0 := bit g.init low == 1
    let p1 := bit g.init (32 + low) == 1
    if g.mode = 0 ∧ out < 2 then bit g.init (low + 32 * a 5) == 1
    else if g.mode = 1 ∧ out < 2 then (if out = 0 then p0 else p1)
    else
      let x0 := evalSrc v f g.x0
      let ci := match g.cimode with
        | 0 => false
        | 1 => true
        | 2 => x0
        | _ => if c % 1024 = 0 then false else evalSrc v f (.o (c - 1) 4)
      let c1 := if p0 then ci else (if g.cimode = 2 then false else x0)
      if out = 0 ∨ out = 2 then xor p0 ci
      else if out = 1 ∨ out = 3 then xor p1 c1
      else if p1 then c1 else evalSrc v f g.x1

/-- Depth of logic evaluated (notes/assumptions/10.md). -/
def logicDepth : Nat := 4096

def View.get (v : View) (x : Src) : Bool := evalSrc v logicDepth x

/-- A bus of sources, low bit first. -/
def View.bus (v : View) (w : Nat) (l : List Src) : Nat := busOf v.get w l

/-- D of flip-flop A (0) or B (1) (R43). -/
def cellD (v : View) (c : Nat) (g : CellCfg) (n : Nat) : Bool :=
  match (if n = 0 then g.dselA else g.dselB) with
  | 0 => v.get (.o c n)
  | 1 => v.get (.o c (2 + n))
  | 2 => v.get (if n = 0 then g.x0 else g.x1)
  | _ => v.get (.q c n)

/-- SR is active (R44). -/
def cellSr (v : View) (g : CellCfg) : Bool := v.get g.sr == g.srHigh

/-- The flip-flops of a cell after a rising edge of their network (R45, R46), and whether its release synchroniser still
holds one edge. -/
def cellEdge (v : View) (rel c : Nat) (g : CellCfg) : Nat × Nat :=
  if cellSr v g then (packFf g.srvalA g.srvalB, if g.srAsync then 1 else 0)
  else if rel ≠ 0 then (packFf g.srvalA g.srvalB, 0)
  else if v.get g.ce then (packFf (cellD v c g 0) (cellD v c g 1), 0)
  else (tabGet 0 v.ff c, 0)

/-- A product block after a rising edge of its network (R54 to R60); `pcin` is P of the block below, 0 in the bottom block
of a column (R58).  [DEDUCED 14: notes/assumptions] -/
def prodEdge (v : View) (pcin : Nat) (g : ProdCfg) (st : ProdSt) : ProdSt :=
  if v.get g.rst then g.init
  else
    let en := fun i => v.get (g.ce.getD i (.const true))
    let x := prodFlow v.bus g st
    let m := product g x.ad x.b2
    let r := accumulate g x.op (x.m, x.mHi) st.p x.c2 pcin
    { a := if en 0 then v.bus 24 g.a else st.a, b := if en 0 then v.bus 24 g.b else st.b, c := if en 0 then v.bus 60 g.c else st.c
      d := if en 0 then v.bus 24 g.d else st.d, ad := if en 1 then preAdd g x.a x.d else st.ad, b2 := if en 1 then x.b else st.b2
      c3 := if en 1 then x.c else st.c3, m := if en 2 then m.1 else st.m, mHi := if en 2 then m.2 else st.mHi, c2 := if en 2 then x.c3 else st.c2
      op := if en 2 then v.bus 3 g.opIn else st.op, p := if en 3 then r.1 else st.p, ovf := if en 3 then r.2 else st.ovf }

/-- PCIN of block `b` (R58). -/
def View.pcin (v : View) (b : Nat) : Nat := if b % 32 = 0 then 0 else v.bus 60 ((List.range 60).map fun n => .p (b - 1) n)

/-- The region after a rising edge of network `k` with the outside signals `ext` at 1 (R46, R47). -/
def regionEdge (g : Region) (k : Nat) (ext : List Nat) : Region :=
  let dsg := g.design
  let v : View := ⟨dsg, g.ff, g.prod, ext⟩
  let cells := (dsg.cells.filter fun p => p.2.net == k).map fun p => (p.1, cellEdge v (tabGet 0 g.rel p.1) p.1 p.2)
  let prods := (dsg.prods.filter fun p => p.2.net == k).map fun p =>
    (p.1, prodEdge v (v.pcin p.1) p.2 (tabGet {} g.prod p.1))
  { g with
    ff := cells.foldl (fun m p => tabSet 0 m p.1 p.2.1) g.ff
    rel := cells.foldl (fun m p => tabSet 0 m p.1 p.2.2) g.rel
    prod := prods.foldl (fun m p => tabSet {} m p.1 p.2) g.prod }

/-! Regional clock networks -/

/-- Bit `k` of FDC_RSTAT.CLKRUN takes `on`. -/
def setRun (d r k : Nat) (on : Bool) (s : State) : State :=
  let m := s.rdi FDC_RSTAT_CLKRUN (oReg d r)
  s.wri FDC_RSTAT_CLKRUN (oReg d r) (if on then m ||| 2 ^ k else m - bit m k * 2 ^ k)

/-- Offset of FDC_RCLK[d][r][k]. -/
def oClk (d r k : Nat) : Nat := oReg d r + 4 * k

/-- Network `k` is woken by source `src`: 0 WELT, 1 EVT, 2 TMR (R64, R65).  A network that was stopped is counted in
FDC_RWAKES. -/
def wakeNet (d r k src : Nat) (s : State) : State :=
  let en := match src with
    | 0 => s.rdi FDC_RCLK_WELT (oClk d r k)
    | 1 => s.rdi FDC_RCLK_EVT (oClk d r k)
    | _ => s.rdi FDC_RCLK_TMR (oClk d r k)
  if s.clocksAllowed d r && s.rdi FDC_RCLK_MODE (oClk d r k) == 2 && en == 1 then
    let s1 := s.modRegion (rix d r) fun g => { g with idle := tabSet 0 g.idle k 0 }
    if bit (s.rdi FDC_RSTAT_CLKRUN (oReg d r)) k = 1 then s1
    else (setRun d r k true s1).inci FDC_RWAKES_COUNT (oReg d r)
  else s

/-- Every network of a region is offered a wake source. -/
def wakeAll (d r src : Nat) (s : State) : State := (List.range 4).foldl (fun s k => wakeNet d r k src s) s

/-- The fields of FDC_RCLK[d][r][k] take the word `v`. -/
def putRclk (d r k v : Nat) (s : State) : State :=
  let o := oClk d r k
  ((((((s.wri FDC_RCLK_SRC o (bits v 28 4)).wri FDC_RCLK_MODE o (bits v 26 2)).wri FDC_RCLK_WELT o (bit v 25)).wri FDC_RCLK_EVT o (bit v 24)).wri
    FDC_RCLK_TMR o (bit v 23)).wri FDC_RCLK_EVSEL o (bits v 16 5)).wri FDC_RCLK_IDLE o (bits v 0 12)

/-- A network follows its mode where region clocks may run (R64): ON runs, OFF and the reserved mode stop, DEMAND stays as
it is until a wake or its idle limit. -/
def followMode (d r k : Nat) (s : State) : State :=
  if s.clocksAllowed d r then
    match s.rdi FDC_RCLK_MODE (oClk d r k) with
    | 1 => setRun d r k true s
    | 2 => s
    | _ => setRun d r k false s
  else s

/-! Entries of further tables -/

/-- Number of a lane group. -/
def gix (e dir g : Nat) : Nat := (e * 2 + dir) * 4 + g

/-- Number of an express channel (R127). -/
def xix (e dir sig : Nat) : Nat := (e * 2 + dir) * 4800 + sig

def State.eye (s : State) (k : Nat) : EyeGroup := tabGet {} s.eyes k
def State.modEye (s : State) (k : Nat) (f : EyeGroup → EyeGroup) : State := { s with eyes := tabMod {} s.eyes k f }

def State.bundle (s : State) (b : Nat) : Bundle := tabGet {} s.bundles b
def State.modBundle (s : State) (b : Nat) (f : Bundle → Bundle) : State := { s with bundles := tabMod {} s.bundles b f }
def State.modCfg (s : State) (f : Cfg → Cfg) : State := { s with cfg := f s.cfg }
def State.modShf (s : State) (f : Shf → Shf) : State := { s with shf := f s.shf }

/-- Welt address of die `d`'s space (R154). -/
def dieWelt (d : Nat) : Nat := 0x008000000000 + d * 2 ^ 32

/-- Welt address of a word of a bank (R155). -/
def bankAddr (d r b word : Nat) : Nat := dieWelt d + 0x10000000 + r * 0x80000 + b * 0x2000 + word * 8

/-- Location of a bank word (R378). -/
def bankLoc (r b word : Nat) : Nat := r * 2 ^ 21 + b * 2 ^ 15 + word

/-! Lanes of the Eyelets (R84, R126 to R129, R137 to R140) -/

/-- Offset of the registers of a lane group. -/
def oGrp (e dir g : Nat) : Nat := e * 0x100 + dir * 0x80 + g * 0x20

/-- Fabric dies of an Eyelet: the one die of spoke `e`, or FDd and its clockwise neighbour for ring Eyelet 12 + d (R23, R127). -/
def eyeDies (e : Nat) : List Nat := if e < 12 then [e] else [e - 12, (e - 12 + 1) % 12]

/-- A corner Eyelet joins FD2–FD3, FD5–FD6, FD8–FD9 or FD11–FD0. -/
def isCorner (e : Nat) : Bool := 12 ≤ e && (e - 12) % 3 == 2

/-- Feature bit `n` is enabled on every fabric die of the Eyelet (R29). -/
def eyeFeature (s : State) (e n : Nat) : Bool := (eyeDies e).all fun d => bit (s.rdi FDC_CAPEN_FEAT (oDie d)) n == 1

/-- Bits per lane of an express cycle (R128, R129). -/
def laneBits (e : Nat) : Nat := if isCorner e then 10 else 20

/-- Signals per direction, per group and per lane of an Eyelet (R84, R128). -/
def xSignals (e : Nat) : Nat := if isCorner e then 2400 else 4800

/-- Group and lane of a signal (R84, R129). -/
def sigLane (e sig : Nat) : Nat × Nat := (1 + sig / (80 * laneBits e), sig % (80 * laneBits e) / laneBits e)

/-- Every signal that the image carries on a lane is tolerant (R137, R140). -/
def laneTolerant (i : Image) (e dir g l : Nat) : Bool :=
  i.carries.all fun x => !(x.1 == e && x.2.1 == dir && sigLane e x.2.2 == (g, l)) || i.tolerant.contains x

/-- Lanes 0 to 87 of a group that are good. -/
def goodLanes (k : EyeGroup) : Nat := ((List.range 88).filter fun l => !k.failed.contains l && !k.retired.contains l && !k.failing.contains l).length

/-- A lane carries traffic: it is not retired, and a spare only in another lane's place (R138, R140). -/
def laneInUse (k : EyeGroup) (l : Nat) : Bool := !k.retired.contains l && (decide (l < 84) || (tabGet none k.subst l).isSome)

/-- The lane whose slots a lane carries: another's where it is a spare or a reserve in use. -/
def carriedLane (k : EyeGroup) (l : Nat) : Nat := (tabGet none k.subst l).getD l

/-- Spares that are idle and good, lowest first (R138). -/
def idleSpares (k : EyeGroup) : List Nat := [84, 85, 86, 87].filter fun l => !k.failed.contains l && (tabGet none k.subst l).isNone

/-- Reserves of the image that are good and not in use, lowest first (R139). -/
def idleReserves (k : EyeGroup) : List Nat :=
  k.reserves.filter fun l => !k.failed.contains l && !k.retired.contains l && (tabGet none k.subst l).isNone

/-- The status registers of a lane group follow its lanes. -/
def showGroup (e dir g : Nat) (s : State) : State :=
  let k := s.eye (gix e dir g)
  let o := oGrp e dir g
  let spUsed := ([84, 85, 86, 87].filter fun l => (tabGet none k.subst l).isSome).length
  let rsv := k.reserves.filter fun l => (tabGet none k.subst l).isSome
  let spByte := fun l => if k.failed.contains l then 0xFE else (tabGet none k.subst l).getD 0xFF
  let map := spByte 84 + spByte 85 * 2 ^ 8 + spByte 86 * 2 ^ 16 + spByte 87 * 2 ^ 24
  let rmap := (List.range 8).foldl (fun m i => m + (if ((k.reserves[i]?).bind fun l => tabGet none k.subst l).isSome then 2 ^ i else 0)) 0
  (((((s.wri EYE_GSTAT_SPUSED o spUsed).wri EYE_GSTAT_RSVUSED o rsv.length).wri EYE_GSTAT_RETIRED o k.retired.length).wri
    EYE_GSTAT_FAILED o k.failed.length).wri EYE_SPMAP_MAP o map).wri EYE_RSVMAP_USED o rmap

/-- Whether a reserve, a retirement or half width is in use on the Eyelet: DEGRADED. -/
def eyeDegraded (s : State) (e : Nat) : Bool :=
  [0, 1].any fun dir => [0, 1, 2, 3].any fun g =>
    let k := s.eye (gix e dir g)
    k.half || k.retired != [] || k.reserves.any fun l => (tabGet none k.subst l).isSome

/-- STATE of an Eyelet that is up becomes UP or DEGRADED. -/
def showEye (e : Nat) (s : State) : State :=
  let st := s.rdi EYE_STAT_STATE (4 * e)
  let w := if [0, 1].any fun dir => (s.eye (gix e dir 0)).half then 1 else 0
  if st = 2 ∨ st = 3 then (s.wri EYE_STAT_STATE (4 * e) (if eyeDegraded s e then 3 else 2)).wri EYE_STAT_WWIDTH (4 * e) w else s

/-- Lanes of a group that failed and that no spare carries. -/
def unrepaired (k : EyeGroup) : List Nat :=
  (List.range 84).filter fun l => k.failed.contains l && !([84, 85, 86, 87] ++ k.reserves).any fun sp => tabGet none k.subst sp == some l

/-- Data lanes that cannot carry their slots: failed or retired with no spare in their place. -/
def lanesOut (k : EyeGroup) : List Nat :=
  (List.range 80).filter fun l => (k.failed.contains l || k.retired.contains l) && !([84, 85, 86, 87].any fun sp => tabGet none k.subst sp == some l)

/-- The reserves and tolerant lanes of an image in a group: every lane that cannot carry its slots goes to a reserve of the image, those
whose signals are not tolerant first, and is retired (R134, R138, R145).  [DEDUCED 36: notes/assumptions] -/
def mapReserves (xres : Bool) (ls tol : List Nat) (k : EyeGroup) : EyeGroup :=
  let k := { k with reserves := ls, tolerant := tol, subst := k.subst.filter fun p => decide (84 ≤ p.1) }
  let out := (lanesOut k).filter fun l => !ls.contains l
  ((out.filter fun l => !tol.contains l) ++ out.filter fun l => tol.contains l).foldl (fun k l =>
    { k with
      retired := if k.retired.contains l then k.retired else k.retired ++ [l]
      subst := match (if xres then idleReserves k else []) with
        | r :: _ => tabSet none k.subst r (some l)
        | [] => k.subst }) k

/-! Die reset -/

/-- The register at key `k` lies in the per-die space of die `d`. -/
def inDieSpace (d k : Nat) : Bool := 0x1000000 + oDie d ≤ k / 32 && k / 32 < 0x1000000 + oDie (d + 1)

/-- The fabric and banks of a die take their die-reset state: registers, memories, regions, banks (R475, R115); FDC_CAPEN stays, as an EXCLUDED
die's identity registers do (R38).  [DEDUCED 73: notes/assumptions] -/
def resetDieSpace (d : Nat) (s : State) : State :=
  let keep := fun (k n : Nat) => k / n != d
  { (s.clearMem (dieWelt d) (dieWelt (d + 1))) with
    regs := s.regs.filter fun p => !inDieSpace d p.1 || p.1 == FDC_CAPEN_FEAT.key (oDie d)
    regions := s.regions.filter fun p => keep p.1 32
    banks := s.banks.filter fun p => keep p.1 (32 * 64)
    cores := s.cores.filter fun p => keep p.1 32
    marks := s.marks.filter fun p => p.1 < dieWelt d || dieWelt (d + 1) ≤ p.1
    cob := { s.cob with spares := s.cob.spares.filter fun x => x.2.1 != d } }

/-- Eyelets of a die: its spoke and its two ring Eyelets (R23). -/
def dieEyes (d : Nat) : List Nat := [d, 12 + d, 12 + (d + 11) % 12]

/-- The core rails of a die go off: die reset (R475), and its Eyelets go down; the identity copies stay (R33). -/
def railsOff (d : Nat) (s : State) : State :=
  let s := (resetDieSpace d (loseSessions (fun c => c / 32 == d) s)).modDie d fun x => { x with rails := false, hot := false, wiping := none }
  let s := (dieEyes d).foldl (fun s e => (s.wri EYE_STAT_STATE (4 * e) 0).wri EYE_STAT_GUP (4 * e) 0) s
  (((s.wri PWR_DIERAIL_VMV (4 * d) 0).wri CLK_PLLDIE_GEN (4 * d) 0).wri CLK_PLLDIE_WELT (4 * d) 0).wri CLK_PLLDIE_AWL (4 * d) 0

/-- The core rails of a die come up and its PLLs lock (R321, R433). -/
def railsOn (d : Nat) (s : State) : State :=
  let s := s.modDie d fun x => { x with rails := true, railOk := true, link := true }
  ((s.wri CLK_PLLDIE_GEN (4 * d) 0xFF).wri CLK_PLLDIE_WELT (4 * d) 1).wri CLK_PLLDIE_AWL (4 * d) 1

end Sys2Proof.Machine
end

