-- ==== Sys2Proof/Machine/Flip.lean ====
section
/-! DEFINITION. Frames and planes: the frame table, what a region's frames configure, what an image gives banks, cores and programs, and
the flip of planes at a commit, a rollback or an attach (spec/11_configuration_planes.md, R325 to R338). -/

namespace Sys2Proof.Machine

open Sys2Proof

/-! Frame IDs and units (R282 to R285) -/

def framesPerDie : Nat := 40960
def lastFrames : Nat := 491520

/-- Die of a frame: 12 the Last, 15 a reserved ID. -/
def frameDie (fid : Nat) : Nat := if fid < lastFrames then fid / framesPerDie else if fid < 491776 then 12 else 15

/-- Index of a frame within its die or the Last. -/
def frameIdx (fid : Nat) : Nat := if fid < lastFrames then fid % framesPerDie else fid - lastFrames

/-- The frame is reserved (R282). -/
def frameReserved (fid : Nat) : Bool := 491776 ≤ fid || (fid < lastFrames && 40224 ≤ fid % framesPerDie)

/-- Unit of a region, of a die's die-level set, and of the Last. -/
def unitReg (d r : Nat) : Nat := d * 33 + r
def unitDie (d : Nat) : Nat := d * 33 + 32

/-- Unit of a frame. -/
def frameUnit (fid : Nat) : Nat :=
  if frameDie fid < 12 ∧ frameIdx fid < 39936 then unitReg (frameDie fid) (frameIdx fid / 1248) else unitDie (frameDie fid)

/-- Active physical plane of a unit (R284). -/
def activeOf (s : State) (u : Nat) : Nat :=
  if u / 33 < 12 ∧ u % 33 < 32 then (s.region (rix (u / 33) (u % 33))).plane else tabGet 0 s.cfg.sel (u / 33)

/-- Physical plane of a frame in a role: 0 active, 1 shadow. -/
def planeOf (s : State) (fid role : Nat) : Nat := if role = 0 then activeOf s (frameUnit fid) else 1 - activeOf s (frameUnit fid)

def unitSt (s : State) (u p : Nat) : PUnit := tabGet {} s.cfg.units (u * 2 + p)

/-- The unit's frames in a plane take a status, and what was known of single frames of it is dropped. -/
def setUnit (u p : Nat) (x : PUnit) (s : State) : State :=
  s.modCfg fun c => { c with
    units := tabSet {} c.units (u * 2 + p) x
    fst := c.fst.filter fun q => !(frameUnit (q.1 / 2) == u && q.1 % 2 == p) }

/-- Units of a die: its regions and its die-level set; of the Last. -/
def unitsOf (d : Nat) : List Nat := if d = 12 then [unitDie 12] else (List.range 33).map (unitReg d)

/-- Next local index that the load's port of die `d` writes; none where it does not write. -/
def loadNext (s : State) (d : Nat) : Option Nat :=
  if s.rd CFG_STAT_PHASE = 3 then s.cfg.load.map fun l => tabGet 0 l.next d else none

/-- Status of a frame in a plane: 0 EMPTY, 1 WRITTEN, 2 VERIFIED, 3 FAILED. -/
def frameSt (s : State) (fid p : Nat) : Nat :=
  let u := frameUnit fid
  if frameDie fid = 15 then 0
  else match loadNext s (frameDie fid) with
    | some n => if p = activeOf s u ∧ frameIdx fid < n then 1 else tabGet (unitSt s u p).st s.cfg.fst (fid * 2 + p)
    | none => tabGet (unitSt s u p).st s.cfg.fst (fid * 2 + p)

def setFrameSt (fid p v : Nat) (s : State) : State :=
  s.modCfg fun c => { c with fst := tabSet (unitSt s (frameUnit fid) p).st c.fst (fid * 2 + p) v }

def frameData (s : State) (fid p : Nat) : Nat := tabGet 0 s.cfg.data (fid * 2 + p)
def frameMark (s : State) (fid p : Nat) : Nat := tabGet 0 s.cfg.marks (fid * 2 + p)
def frameBadsel (s : State) (fid p : Nat) : Bool := s.cfg.badsel.contains (fid * 2 + p)

/-- CRC-32 of IEEE 802.3 over the low `n` bits of `x`, bit 0 first (R285). -/
def crcGo : (n : Nat) → (x c : Nat) → Nat
  | 0, _, c => c
  | n + 1, x, c => crcGo n (x / 2) (c / 2 ^^^ (if (c + x) % 2 = 1 then 0xEDB88320 else 0))

def crc32 (n x : Nat) : Nat := crcGo n x 0xFFFFFFFF ^^^ 0xFFFFFFFF

/-- CFG_STAT shows whether a frame of the active or of the shadow plane holds BADSEL (R309); one that appears in RUN or SHIFT writes a
record. -/
def showBadsel (s : State) : State :=
  let act := s.cfg.badsel.any fun k => k % 2 == activeOf s (frameUnit (k / 2))
  let sh := s.cfg.badsel.any fun k => k % 2 != activeOf s (frameUnit (k / 2))
  let s1 := (s.wr CFG_STAT_BADSEL act.toNat).wr CFG_STAT_SBADSEL sh.toNat
  if act ∧ s.rd CFG_STAT_BADSEL = 0 ∧ (s.mode = RUN ∨ s.mode = SHIFT) then s1.recordOpen 12 [] else s1

/-- A frame is written (R286): its contents, good check bits, and the BADSEL mark of its decoder. -/
def putFrame (fid p data : Nat) (bad : Bool) (s : State) : State :=
  s.modCfg fun c => { c with
    data := tabSet 0 c.data (fid * 2 + p) (data % 2 ^ 16384)
    marks := tabSet 0 c.marks (fid * 2 + p) 0
    badsel := (c.badsel.filter fun k => k != fid * 2 + p) ++ (if bad then [fid * 2 + p] else []) }

/-- Every frame of a unit in a plane reads 0 with no marks. -/
def clearFrames (u p : Nat) (s : State) : State :=
  let keep := fun k => !(frameUnit (k / 2) == u && k % 2 == p)
  s.modCfg fun c => { c with data := c.data.filter fun q => keep q.1, marks := c.marks.filter fun q => keep q.1, badsel := c.badsel.filter keep }

/-! What the frames of a region configure -/

/-- FDC_RCLK words of a region in force. -/
def rclkWords (s : State) (d r : Nat) : Tab Nat :=
  (List.range 4).foldl (fun t k =>
    let o := oClk d r k
    tabSet 0 t k (s.rdi FDC_RCLK_SRC o * 2 ^ 28 + s.rdi FDC_RCLK_MODE o * 2 ^ 26 + s.rdi FDC_RCLK_WELT o * 2 ^ 25 + s.rdi FDC_RCLK_EVT o * 2 ^ 24 +
      s.rdi FDC_RCLK_TMR o * 2 ^ 23 + s.rdi FDC_RCLK_EVSEL o * 2 ^ 16 + s.rdi FDC_RCLK_IDLE o)) []

def putRclks (d r : Nat) (t : Tab Nat) (s : State) : State := (List.range 4).foldl (fun s k => putRclk d r k (tabGet 0 t k) s) s

/-- GIO_PCFG words of a bank's pins in force (R422). -/
def oPin (d n : Nat) : Nat := d * 0x100 + 4 * n
def pinWords (s : State) (d : Nat) : Tab Nat :=
  (List.range 32).foldl (fun t n =>
    let o := oPin d n
    tabSet 0 t n (s.rdi GIO_PCFG_EVEN o * 2 ^ 31 + s.rdi GIO_PCFG_POL o * 2 ^ 30 + s.rdi GIO_PCFG_EDGE o * 2 ^ 28 + s.rdi GIO_PCFG_MINP o * 2 ^ 18 +
      s.rdi GIO_PCFG_SUNIT o * 2 ^ 17 + s.rdi GIO_PCFG_STUCK o)) []

/-- GIO_PCFG of a pin takes the word `v`; MINP and STUCK are stored within their limits. -/
def putPinWord (d n v : Nat) (s : State) : State :=
  let o := oPin d n
  let unit := bit v 17
  (((((s.wri GIO_PCFG_EVEN o (bit v 31)).wri GIO_PCFG_POL o (bit v 30)).wri GIO_PCFG_EDGE o (bits v 28 2)).wri GIO_PCFG_MINP o
    (max 1 (min 1000 (bits v 18 10)))).wri GIO_PCFG_SUNIT o unit).wri GIO_PCFG_STUCK o (min (bits v 0 16) (if unit = 1 then 60000 else 1000))

def putPins (d : Nat) (t : Tab Nat) (s : State) : State := (List.range 32).foldl (fun s n => putPinWord d n (tabGet 0 t n) s) s

/-- Bank configuration and sealed marks of a region take effect (R97 to R100, R116). -/
def putBanks (d r : Nat) (c : RegCfg) (seals : List (Nat × Nat)) (s : State) : State :=
  (List.range 64).foldl (fun s b =>
    let x := tabGet {} c.banks b
    let sealed := seals.contains (r, b) && bit (s.rdi FDC_CAPEN_FEAT (oDie d)) 3 == 1
    (s.modBank (bix d r b) fun k => { k with widthA := x.widthA, widthB := x.widthB, oregA := x.oregA, oregB := x.oregB, net := x.net, sealed }).wri
      BNK_STAT_SEALED (oBnk d r b) sealed.toNat) s

def imgDie (i : Image) (d : Nat) : ImgDie := tabGet {} i.dies d
def imgReg (i : Image) (d r : Nat) : RegCfg := tabGet {} i.regs (rix d r)

/-- Region `r` of die `d` is listed by the image. -/
def lists (i : Image) (d r : Nat) : Bool := (imgDie i d).use && bit (imgDie i d).regions r == 1

/-- Regions that an image lists. -/
def listed (i : Image) : List (Nat × Nat) :=
  dieList.flatMap fun d => (List.range 32).filterMap fun r => if lists i d r then some (d, r) else none

/-- Dies that an image uses. -/
def usedDies (i : Image) : List Nat := dieList.filter fun d => (imgDie i d).use

/-- The design of a plane of a region.  [DESIGN CHOICE 7: notes/assumptions] -/
def setDesign (p : Nat) (g : Design) (x : Region) : Region := if p = 0 then { x with design0 := g } else { x with design1 := g }

/-- The region's flip-flops and pipeline registers take the initial values of its active design (R48). -/
def initRegion (d r : Nat) (s : State) : State :=
  s.modRegion (rix d r) fun g => { g with ff := initFf g.design, prod := initProd g.design, rel := [] }

/-! Banks, cores and programs of an image (R297, R305 step 6) -/

/-- A bank takes its initial contents, 0 where none is given (R115, R297). -/
def loadBank (d r b : Nat) (words : Tab Nat) (s : State) : State :=
  let lo := bankAddr d r b 0
  let s := (s.clearMem lo (lo + 0x2000)).modBank (bix d r b) fun k => { k with marks := k.marks.filter fun p => 1024 ≤ p.1 }
  words.foldl (fun s p => s.wrMem 8 (bankAddr d r b p.1) p.2) s

/-- Every bank of a loaded region is ON with its contents (R115). -/
def loadBanks (i : Image) (d r : Nat) (s : State) : State :=
  (List.range 64).foldl (fun s b =>
    let o := oBnk d r b
    loadBank d r b (tabGet [] i.banks (bix d r b)) ((s.wri BNK_STAT_PWR o 0).wri BNK_CTL_PWRREQ o 0)) s

/-- A core is set to RESET with its VBR, PSEG and START flag (R220, R305 step 6). -/
def loadCore (i : Image) (c : Nat) (s : State) : State :=
  let s := resetCore c s
  match i.cores.find? fun x => x.id == c with
  | some x => s.modCore c fun k => { k with startFlag := x.start, arch := (k.arch.put kVBR x.vbr).put kPSEG x.pseg }
  | none => s.modCore c fun k => { k with startFlag := false, arch := (k.arch.put kVBR 0).put kPSEG 0 }

/-- Program records are stored. -/
def loadProgs (i : Image) (s : State) : State := i.progs.foldl (fun s p => s.wrBytes p.1 p.2) s

/-- Reserves and tolerant nets of an image reach the Eyelets, and its slot maps take every move and retirement in force (R84, R134, R137, R145,
R290).  [DEDUCED 36: notes/assumptions] -/
def putReserves (i : Image) (s : State) : State :=
  (List.range 24).foldl (fun s e => [0, 1].foldl (fun s dir => [1, 2, 3].foldl (fun s g =>
    let ls := (tabGet [] i.reserves ((e * 2 + dir) * 3 + g - 1)).filter (· != 0xFF)
    let tol := (List.range 80).filter fun l => laneTolerant i e dir g l
    let old := s.eye (gix e dir g)
    let new := mapReserves (eyeFeature s e 1) ls tol old
    let s := s.modEye (gix e dir g) fun _ => new
    if new.subst = old.subst ∧ new.retired = old.retired ∧ new.reserves = old.reserves then s else showEye e (showGroup e dir g s)) s) s) s

/-- The express routing and the stream maps of a plane of the Last. -/
def putExpress (p : Nat) (i : Image) (s : State) : State :=
  let s := { s with express := if p = 0 then { s.express with cfg0 := i.spine } else { s.express with cfg1 := i.spine } }
  (List.range 8).foldl (fun s b => s.modBundle b fun x => if p = 0 then { x with map0 := tabGet {} i.streams b } else { x with map1 := tabGet {} i.streams b }) s

/-! Captures (R61 to R63) -/

/-- The region's latches take its flip-flops and pipeline registers. -/
def latchRegion (d r : Nat) (s : State) : State := s.modRegion (rix d r) fun g => { g with latchFf := g.ff, latchProd := g.prod, latchValid := true }

/-! The commit and rollback edges (R326 to R333) -/

def keepKind (e : Nat) : Nat := bits e 60 4

/-- Cell number of a flip-flop in its region: cluster column, cluster row, cell.  [DEDUCED 37: notes/assumptions] -/
def cellNo (col row cell : Nat) : Nat := (col * 64 + row) * 16 + cell

/-- Flip-flops of a region on a keep-list: cell number, and 0 for A or 1 for B (R293).  [DEDUCED 37: notes/assumptions] -/
def keptFfs (i : Image) (d r : Nat) : List (Nat × Nat) :=
  (i.keep.filter fun e => keepKind e == 1 && bits e 56 4 == d && bits e 51 5 == r).map fun e =>
    (cellNo (bits e 45 6) (bits e 39 6) (bits e 35 4), bit e 34)

/-- Product blocks of a region on a keep-list.  [DEDUCED 37: notes/assumptions] -/
def keptProds (i : Image) (d r : Nat) : List Nat :=
  (i.keep.filter fun e => keepKind e == 4 && bits e 56 4 == d && bits e 51 5 == r).map fun e => bits e 44 7

/-- The flip-flops and pipeline registers of a region after its edge (R326, R333): those on the keep-list take their next value from the
outgoing design, the others take `base`.  [DEDUCED 37: notes/assumptions] -/
def flipRegs (keep : Image) (d r : Nat) (ext : List Nat) (base : Tab Nat × Tab ProdSt) (g : Region) : Tab Nat × Tab ProdSt :=
  let nx := (List.range 4).map fun k => regionEdge g k ext
  let dsg := g.design
  let ff := (keptFfs keep d r).foldl (fun m p =>
    let v := bit (tabGet 0 (nx.getD (tabGet {} dsg.cells p.1).net g).ff p.1) p.2
    let o := tabGet 0 m p.1
    tabSet 0 m p.1 (if p.2 = 0 then o / 2 * 2 + v else o % 2 + 2 * v)) base.1
  let pr := (keptProds keep d r).foldl (fun m b => tabSet {} m b (tabGet {} (nx.getD (tabGet {} dsg.prods b).net g).prod b)) base.2
  (ff, pr)

/-- Gates of a region close (R449). -/
def stopRegion (d r : Nat) (s : State) : State := s.wri FDC_RSTAT_CLKRUN (oReg d r) 0

/-- Networks of a region follow their modes. -/
def startNets (d r : Nat) (s : State) : State := (List.range 4).foldl (fun s k => followMode d r k s) s

/-- Sealed banks of a region after a flip, and those to clear (R116, R327, R333). -/
def sealsOf (s : State) (d r : Nat) : List (Nat × Nat) := ((List.range 64).filter fun b => (s.bank (bix d r b)).sealed).map fun b => (r, b)

/-- Express channels that lie on nets a keep-list carries (R94, R293): those it names, and those joined to them by pass-throughs and by
the Last's cross-connect. -/
def xJoined (cfg : XCfg) (l : List Nat) : List Nat :=
  let pairs := cfg.pass ++ (cfg.xc.filter fun p => p.2 / 2 ^ 13 < 12).map fun p => (p.1, xix (p.2 / 2 ^ 13) 0 (p.2 % 2 ^ 13))
  l ++ (pairs.filter fun p => l.contains p.2).map Prod.fst ++ (pairs.filter fun p => l.contains p.1).map Prod.snd

def keptNets (keep : Image) (cfg : XCfg) : List Nat :=
  xJoined cfg (xJoined cfg ((keep.keep.filter fun e => keepKind e == 3).map fun e => xix (bits e 55 5) (bit e 54) (bits e 41 13)))

/-- Launch and landing registers take 0 at a commit or rollback edge, but those on carried nets (R94). -/
def flipExpress (nets : List Nat) (s : State) : State :=
  let on := fun (t : Tab Nat) => t.filter fun p => nets.contains p.1
  { s with express := { s.express with launch := on s.express.launch, fly := on s.express.fly, land := on s.express.land } }

/-- One region's edge: `inc` is the incoming image, `keep` the image whose keep-list counts, `back` a rollback.  [DEDUCED 37: notes/assumptions] -/
def flipRegion (back : Bool) (inc keep : Image) (ext : List Nat) (d r : Nat) (s : State) : State :=
  let g := s.region (rix d r)
  let nets := keptNets keep inc.spine
  let new := { g with plane := 1 - g.plane, epOff := (imgReg inc d r).weltOff
                      spine := g.spine.filter fun p => (tabGet 0 g.design.spineNet p.1 != 0) && nets.contains (tabGet 0 g.design.spineNet p.1 - 1) }
  let x := flipRegs keep d r ext (if back then (g.latchFf, g.latchProd) else (initFf new.design, initProd new.design)) g
  let words := rclkWords s d r
  let s := s.modRegion (rix d r) fun _ => { new with
    ff := x.1, prod := x.2, rel := [], rclkShadow := words
    latchFf := if back then g.latchFf else g.ff, latchProd := if back then g.latchProd else g.prod, latchValid := true }
  let old := sealsOf s d r
  let seals := (imgDie inc d).seals ++ (if back then old else [])
  let s := if back then s else (old.filter fun p => !seals.contains p).foldl (fun s p => loadBank d r p.2 [] s) s
  if lists inc d r then
    startNets d r ((putBanks d r (imgReg inc d r) seals (putRclks d r (if back then g.rclkShadow else (imgReg inc d r).rclk) s)).wri FDC_RSTAT_LOADED (oReg d r) 1)
  else stopRegion d r (s.wri FDC_RSTAT_LOADED (oReg d r) 0)

/-- A core takes its entry of the incoming image (R328, R333). -/
def flipCore (inc : Image) (c : Nat) (s : State) : State :=
  let s := loadCore inc c s
  if (s.core c).startFlag then startReset c s else s

/-- Core rail setpoint of a gear, in mV (R441). -/
def voltOf (g : Nat) : Nat := 450 + 100 * g

/-- A die is at a gear. -/
def dieGear (d g : Nat) (s : State) : State := (s.wri GEAR_DIE_GEAR (4 * d) g).wri GEAR_DIE_VMV (4 * d) (voltOf g)

/-- A die takes the timing gear, gear group and use of an image; it is at its group's gear in force (R445), G1 in a group that was empty.  [DEDUCED 37: notes/assumptions] -/
def dieTakes (i : Image) (d : Nat) (s : State) : State :=
  let e := imgDie i d
  let s := s.modDie d fun x => { x with used := e.use, timingGear := e.tgear }
  if e.use then
    let s := s.wri GEAR_DIE_GROUP (4 * d) e.ggroup
    let s := if s.rdi GEAR_STAT_GEAR (4 * e.ggroup) = 0 ∧ s.rdi GEAR_STAT_TARGET (4 * e.ggroup) = 0 then s.wri GEAR_STAT_GEAR (4 * e.ggroup) 1 else s
    dieGear d (s.rdi GEAR_STAT_GEAR (4 * e.ggroup)) s
  else ((s.wri GEAR_DIE_GROUP (4 * d) 15).wri GEAR_DIE_GEAR (4 * d) 0).wri GEAR_DIE_VMV (4 * d) 0

/-- Die-level set of a die, or the Last's, flips; the bank's pins take the words of image `inc`, or on a rollback those the retained plane
holds (R68, R422).  [DEDUCED 37: notes/assumptions] -/
def flipSel (back : Bool) (inc : Image) (d : Nat) (s : State) : State :=
  let s := s.modCfg fun c => { c with sel := tabMod 0 c.sel d fun p => 1 - p }
  let old := pinWords s d
  let s := if d = 12 then s else
    (putPins d (if back then (s.die d).pcfgShadow else (imgDie inc d).pcfg) s).modDie d fun x => { x with pcfgShadow := old }
  if d = 12 then { s with express := { s.express with plane := 1 - s.express.plane } } else s

/-- A SUPPORTED die that the image in force uses, and an EXCLUDED one that it does not (R38). -/
def useDies (s : State) : State :=
  dieList.foldl (fun s d =>
    let st := s.rdi GLB_DIESTAT_STATE (4 * d)
    if st = 4 ∧ (imgDie s.cfg.aimg d).use then s.wri GLB_DIESTAT_STATE (4 * d) 1
    else if st = 1 ∧ (imgDie s.cfg.aimg d).use = false then (railsOff d s).wri GLB_DIESTAT_STATE (4 * d) 4
    else s) s

/-- CFG_AIMG and CFG_SIMG show the images of the planes.  [DEDUCED 40: notes/assumptions] -/
def showImages (s : State) : State := (s.wr64 CFG_AIMGL_ID CFG_AIMGH_ID s.cfg.aimg.id).wr64 CFG_SIMGL_ID CFG_SIMGH_ID s.cfg.simg.id

/-- Dies that either image uses. -/
def bothDies (s : State) : List Nat := dieList.filter fun d => (imgDie s.cfg.aimg d).use || (imgDie s.cfg.simg d).use

/-- Regions of both images. -/
def bothRegions (s : State) : List (Nat × Nat) :=
  dieList.flatMap fun d => (List.range 32).filterMap fun r => if lists s.cfg.aimg d r || lists s.cfg.simg d r then some (d, r) else none

/-- Cores that a commit resets: those of regions either image lists, but those with CARRY. -/
def resetAtCommit (inc : Image) (c : Nat) : Bool := !((inc.cores.find? fun x => x.id == c).any CoreEnt.carry)

/-- The shadow design comes into force (R325 step 3): `ext` gives each region's outside signals. -/
def commitFlip (ext : Tab (List Nat)) (s : State) : State :=
  let inc := s.cfg.simg
  let regs := bothRegions s
  let dies := bothDies s
  let s := regs.foldl (fun s p => flipRegion false inc inc (tabGet [] ext (rix p.1 p.2)) p.1 p.2 s) s
  let s := regs.foldl (fun s p => if resetAtCommit inc (rix p.1 p.2) then flipCore inc (rix p.1 p.2) s else s) s
  let s := dies.foldl (fun s d => (dieTakes inc d (flipSel false inc d s)).wri SHF_DIEST_FLIPPED (4 * d) 1) s
  let s := flipExpress (keptNets inc inc.spine) ((flipSel false inc 12 s).wri SHF_DIEST_FLIPPED 48 1)
  showBadsel (putReserves inc (s.modCfg fun c => { c with aimg := inc, simg := s.cfg.aimg }))

/-- The retained design comes back (R333).  [DEDUCED 37: notes/assumptions] -/
def rollbackFlip (ext : Tab (List Nat)) (s : State) : State :=
  let out := s.cfg.aimg
  let inc := s.cfg.simg
  let regs := bothRegions s
  let dies := bothDies s
  let s := regs.foldl (fun s p => flipRegion true inc out (tabGet [] ext (rix p.1 p.2)) p.1 p.2 s) s
  let s := regs.foldl (fun s p => if resetAtCommit out (rix p.1 p.2) then flipCore inc (rix p.1 p.2) s else s) s
  let s := dies.foldl (fun s d => (dieTakes inc d (flipSel true inc d s)).wri SHF_DIEST_FLIPPED (4 * d) 1) s
  let s := flipExpress (keptNets out out.spine) ((flipSel true inc 12 s).wri SHF_DIEST_FLIPPED 48 1)
  showBadsel (putReserves inc (s.modCfg fun c => { c with aimg := inc, simg := out }))

/-- Regions attached to the running design flip with their dies' die-level sets and the Last's (R338). -/
def attachFlip (s : State) : State :=
  let inc := s.cfg.simg
  let regs := s.shf.regs.flatMap fun p => ((List.range 32).filter fun r => bit p.2 r == 1).map fun r => (p.1, r)
  let s := regs.foldl (fun s p =>
    let s := flipRegion false inc {} [] p.1 p.2 s
    flipCore inc (rix p.1 p.2) (s.modRegion (rix p.1 p.2) fun g => { g with quiescing := false })) s
  let s := s.shf.regs.foldl (fun s p => (dieTakes inc p.1 (flipSel false inc p.1 s)).wri SHF_DETACHED_MASK (4 * p.1) (s.rdi SHF_DETACHED_MASK (4 * p.1) &&& (2 ^ 32 - 1 - p.2))) s
  showBadsel (putReserves inc ((flipSel false inc 12 s).modCfg fun c => { c with aimg := inc, simg := {} }))

/-! The end of a changeover -/

/-- SHF_CMD completes. -/
def shfDone (st : Nat) (s : State) : State := (s.wr SHF_CMD_STATUS st).wr SHF_CMD_BUSY 0

/-- The stop of R464 that a heartbeat lapse asked for follows, as a REQ 2 (R518). -/
def lapseStop (s : State) : State :=
  if s.side.stopWait = false then s
  else
    let s := { s with side := { s.side with stopWait := false } }
    if s.mode = RUN ∧ s.rd GLB_MODE_BUSY = 0 then
      { (s.wr GLB_MODE_BUSY 1) with modes := { s.modes with req := some 2, th := some ((s.clocks.tb + 2999) / 1000 * 1000) } }
    else s

/-- STATE returns to IDLE with its result; dies raised for staging that the active image does not use go off again (R321); the module leaves
SHIFT (R317). -/
def shfEnd (outcome st die : Nat) (s : State) : State :=
  let s := (((s.wr SHF_RESULT_OUTCOME outcome).wr SHF_RESULT_STATUS st).wr SHF_RESULT_FAILDIE die).wr SHF_STAT_STATE 0
  let s := s.wr CFG_CMD_BUSY 0
  let s := s.shf.raised.foldl (fun s d => if (imgDie s.cfg.aimg d).use then s else (railsOff d s).wri GLB_DIESTAT_STATE (4 * d) 4) s
  let s := (List.range 13).foldl (fun s d => s.wri SHF_DIEST_IN (4 * d) 0) s
  let s := s.modShf fun x => { x with raised := [], rbWait := none, regs := [], step := 0 }
  let s := s.record 0x0007 12 1 [st * 65536 + die * 16 + outcome, s.rd CFG_AIMGL_ID, s.rd CFG_AIMGH_ID]
  lapseStop (if s.mode = SHIFT then s.toMode RUN 0 else s)

/-- The shadow plane holds no image any more (R331). -/
def dropShadow (s : State) : State := showImages (s.modCfg fun c => { c with simg := {} })

/-- An epoch change that has not reached its boundary is given up; its banks are disregarded. -/
def epochGiveUp (s : State) : State := if s.rd WLT_EPOCH_STATE = 1 ∨ s.rd WLT_EPOCH_STATE = 2 then s.wr WLT_EPOCH_STATE 0 else s

/-- A changeover is abandoned (R317, R335).  [DESIGN CHOICE 47: notes/assumptions] -/
def shfAbandon (st die : Nat) (s : State) : State := shfEnd 2 st die (dropShadow (epochGiveUp s))

/-- RELEASE (R331). -/
def shfReleaseNow (auto : Bool) (s : State) : State :=
  let s := useDies (dropShadow (if auto then s.wr SHF_STAT_RELAUTO 1 else s))
  let s := (bothRegions s).foldl (fun s p => s.modRegion (rix p.1 p.2) fun g => { g with latchValid := false }) s
  shfEnd 1 0 0xF s

/-- A detach's last steps (R337 steps 4 to 6). -/
def detachFinish (s : State) : State :=
  let off := s.shf.off
  let s := s.shf.regs.foldl (fun s p =>
    let d := p.1
    let s := ((List.range 32).filter fun r => bit p.2 r == 1).foldl (fun s r =>
      let s := (stopRegion d r s).wri FDC_RSTAT_LOADED (oReg d r) 0
      let s := s.modRegion (rix d r) fun g => { g with quiescing := false }
      if off then
        let s := (s.clearMem (bankAddr d r 0 0) (bankAddr d r 64 0)).clearMem (dieWelt d + 0x11000000 + r * 0x20000) (dieWelt d + 0x11000000 + (r + 1) * 0x20000)
        let core := dieWelt d + 0x11000000 + r * 0x20000
        let s := resetCore (rix d r) (s.modRegion (rix d r) fun g => { plane := g.plane : Region })
        let s := { s with banks := s.banks.filter fun q => q.1 / 64 != rix d r
                          marks := s.marks.filter fun p => !(core ≤ p.1 && p.1 < core + 0x20000) }
        let s := [0, 1].foldl (fun s pl => setUnit (unitReg d r) pl {} (clearFrames (unitReg d r) pl s)) s
        ((List.range 64).foldl (fun s b => (s.wri BNK_STAT_PWR (oBnk d r b) 0).wri BNK_STAT_SEALED (oBnk d r b) 0) s)
      else
        let s := (List.range 64).foldl (fun s b => (s.wri BNK_STAT_PWR (oBnk d r b) 2).wri BNK_CTL_PWRREQ (oBnk d r b) 1) s
        (((s.wri FDC_AWLMEM_XRET (oReg d r) 1).wri FDC_AWLMEM_YRET (oReg d r) 1).wri FDC_AWLMEM_XSTATE (oReg d r) 2).wri FDC_AWLMEM_YSTATE (oReg d r) 2) s
    let s := s.wri SHF_DETACHED_MASK (4 * d) (s.rdi SHF_DETACHED_MASK (4 * d) ||| p.2)
    if (imgDie s.cfg.aimg d).regions &&& (2 ^ 32 - 1 - s.rdi SHF_DETACHED_MASK (4 * d)) = 0 then (railsOff d s).wri GLB_DIESTAT_STATE (4 * d) 4 else s) s
  shfDone 0 (shfEnd 6 0 0xF s)

/-- An attach ends (R338). -/
def attachFinish (s : State) : State := shfDone 0 (shfEnd 5 0 0xF (showImages s))

/-- A rollback ends (R333). -/
def rollbackFinish (s : State) : State :=
  let auto := s.shf.rbAuto
  let st := if auto then ST_HW_SHF_COMMIT else 0
  let die := s.rd SHF_RESULT_FAILDIE
  useDies (shfEnd (if auto then 4 else 3) st (if auto then die else 0xF) (dropShadow s))

/-- The changeover on entry to SAFE, by its state (R335). -/
def shfSafeIn (s : State) : State :=
  let st := s.rd SHF_STAT_STATE
  let s := if s.rd SHF_CMD_BUSY = 1 then shfDone ST_MODE_FAULTED s else s
  if st = 0 ∨ st = 7 then s
  else if st ≤ 5 then shfAbandon ST_SHF_SAFE 0xF s
  else if st = 6 then
    shfAbandon ST_SHF_SAFE 0xF (if s.rdi SHF_DIEST_FLIPPED 48 = 1 then rollbackFlip [] s else s)
  else if st = 8 then rollbackFinish (if s.rdi SHF_DIEST_FLIPPED 48 = 1 then s else rollbackFlip [] s)
  else if st = 9 then detachFinish s
  else if st = 10 then attachFinish (attachFlip s)
  else s

/-- The same, called while MODE is still the mode left: the changeover does not bring the module back to RUN. -/
def shfSafe (s : State) : State := (shfSafeIn (s.wr GLB_MODE_MODE SAFE)).wr GLB_MODE_MODE s.mode

/-- Frames of a unit that the load has written in part keep their status WRITTEN when it ends (R308). -/
def keepPart (s0 : State) (d : Nat) (s : State) : State :=
  match loadNext s0 d with
  | some n =>
    let fid := (if d = 12 then lastFrames else d * framesPerDie) + n
    let u := frameUnit (fid - 1)
    if n = 0 ∨ frameUnit fid ≠ u then s
    else (List.range (min n 1248)).foldl (fun s k => if frameUnit (fid - 1 - k) = u then setFrameSt (fid - 1 - k) (activeOf s u) 1 s else s) s
  | none => s

/-- A load on entry to SAFE in LOAD (R308). -/
def loadSafe (s : State) : State :=
  if s.mode = LOAD then
    let s := (List.range 13).foldl (fun t d => keepPart s d t) s
    let s := (s.wr CFG_STAT_PHASE 6).modCfg fun c => { c with load := none, pendLoad := none }
    if s.rd CFG_CMD_BUSY = 1 then (s.wr CFG_CMD_STATUS ST_MODE_FAULTED).wr CFG_CMD_BUSY 0 else s
  else s

/-! The safe net (R307, R449, R450) -/

/-- The bank of a die is configured: its frames are written. -/
def bankConfigured (s : State) (d : Nat) : Bool :=
  (s.die d).used && (s.rd CFG_STAT_PHASE == 4 || s.rd CFG_STAT_PHASE == 5 || (loadNext s d).any fun n => decide (40224 ≤ n))

/-- Every pin of a configured bank is in its safe state.  [DEDUCED 66: notes/assumptions] -/
def safePins (s : State) : State :=
  dieList.foldl (fun s d =>
    if bankConfigured s d then
      { s with pins := (List.range 32).foldl (fun t n => tabMod {} t (d * 32 + n) fun p =>
          if p.st = 2 then { p with st := 1, held := p.out } else if p.st = 0 then { p with st := 1, held := none } else p) s.pins }
    else s) s

/-- What a pin's pad shows (R292, R306, R307, R450): the level driven, or none with the pull (0 strap, 1 none, 2 down, 3 up). -/
def pinShows (s : State) (k : Nat) : Option Bool × Nat :=
  let p : Pin := tabGet {} s.pins k
  let e := tabGet 0 s.cfg.aimg.pins k
  let pull := bits e 2 2
  if s.rdi GIO_BSTAT_VFAULT (4 * (k / 32)) = 1 then (none, pull)
  else if p.st = 2 then (p.out, pull)
  else if p.st = 1 then
    (match e % 4 with
    | 0 => (some false, pull)
    | 1 => (some true, pull)
    | 2 => (none, pull)
    | _ => (p.held, pull))
  else (none, 0)

end Sys2Proof.Machine
end

