-- ==== Sys2Proof/Machine/Hooks.lean ====
section
/-! DEFINITION. What each block does on entry to SAFE (R466) and when another block needs its resources, called by the shared
operations. -/

namespace Sys2Proof.Machine

/-- A change to normal service that a fault overtakes leads to four-plane service instead (R174, R468). -/
def turnService (s : State) : State :=
  if s.rd WLT_SVC_STATE = 3 ∨ (s.rd WLT_SVC_STATE = 2 ∧ s.welt.svcTo = some 3) then
    { (s.wr WLT_SVC_STATE 2) with welt := { s.welt with svcTo := some 1, after := none } }
  else s

/-- Welt on entry to SAFE (R174, R175): guaranteed units waiting or in the network are discarded and counted, normal service
starts its change to four-plane service, and a change the other way is turned round; no frame boundary comes for an epoch change that waits for one. -/
def weltOnSafe (s : State) : State :=
  let lost := s.welt.gfly.length + (s.welt.flows.foldl (fun n p => n + p.2.queue.length) 0) + (s.welt.wait.filter fun q => q.cls == 0).length
  let s := (s.addi WLT_ERRCNT_COUNT 0 lost).wr WLT_SVC_TEST 0
  let s := { s with welt := { s.welt with gfly := [], wait := s.welt.wait.filter fun q => q.cls != 0
                                          flows := s.welt.flows.map fun p => (p.1, { p.2 with queue := [] }) } }
  turnService (epochGiveUp s)

/-- The changeover, the load and the pins on entry to SAFE (R308, R335, R449); called while MODE is still the mode left.  [DEDUCED 72: notes/assumptions] -/
def shfOnSafe (s : State) : State := safePins (loadSafe (shfSafe s))

/-- The cores of faulted regions stop (R220). -/
def coresOnSafe (faulted : List (Nat × Nat)) (s : State) : State := (coresOf faulted).foldl (fun s c => stopCore true c s) s

/-- A reserve move or a retirement in SHIFT takes the shadow slot maps (R145): a changeover before its commit is abandoned, a committed
one is released at once; both report ST_EYE_REPAIR.  [DEDUCED 41: notes/assumptions] -/
def shfForRepair (s : State) : State :=
  let st := s.rd SHF_STAT_STATE
  if s.mode = SHIFT ∧ 1 ≤ st ∧ st ≤ 6 then shfAbandon ST_EYE_REPAIR 0xF (if s.rd SHF_CMD_BUSY = 1 then shfDone ST_EYE_REPAIR s else s)
  else if s.mode = SHIFT ∧ st = 7 then (shfReleaseNow true s).wr SHF_RESULT_STATUS ST_EYE_REPAIR
  else s

end Sys2Proof.Machine
end

