-- ==== Sys2Proof/Machine/Gears.lean ====
section
/-! DEFINITION. Gears and the trim loops' part in a change of gear (spec/17_clocks_and_gears.md, R441 to R447, R92, R496). -/

namespace Sys2Proof.Machine

open Sys2Proof

/-! Trim loops -/

/-- A region of a die loses its lock: the rail has moved (R92). -/
def relockRegion (d r : Nat) (s : State) : State := (s.wri FDC_TRIMST_TRIMLOCK (oReg d r) 0).modRegion (rix d r) fun g => { g with trimIn := 0, trimLim := 0 }

/-- The regions of a die relock at the targets of its gear. -/
def relockDie (d : Nat) (s : State) : State := (List.range 32).foldl (fun s r => relockRegion d r s) s

/-- Each region of a die loads its fused starting code for a gear (R92). -/
def loadTrim (d gear : Nat) (s : State) : State :=
  (List.range 32).foldl (fun s r => (relockRegion d r s).wri FDC_TRIM_CODE (oReg d r) (tabGet 0 s.fuseTrim (rix d r * 8 + gear))) s

/-- The trim loops of a die start when its rail reaches G1 or above: starting codes, unlocked, TRIMFAULT cleared (R91, R93). -/
def startTrim (d gear : Nat) (s : State) : State :=
  loadTrim d gear ((List.range 32).foldl (fun s r =>
    ((s.wri FDC_TRIMST_ACTIVE (oReg d r) 1).wri FDC_TRIMST_TRIMFAULT (oReg d r) 0).wri FDC_TRIMST_REASON (oReg d r) 0) s)

/-- The trim loops of a die stop (R446). -/
def stopTrim (d : Nat) (s : State) : State := (List.range 32).foldl (fun s r => (relockRegion d r s).wri FDC_TRIMST_ACTIVE (oReg d r) 0) s

/-! Targets (R442) -/

/-- Dies of a gear group. -/
def groupDies (s : State) (g : Nat) : List Nat := dieList.filter fun d => s.rdi GEAR_DIE_GROUP (4 * d) == g

/-- Timing gear of a group (R80, R85). -/
def groupTiming (s : State) (g : Nat) : Nat := (groupDies s g).foldl (fun m d => min m (s.die d).timingGear) 4

/-- Limit of the ordering code (R2). -/
def codeLimit (s : State) : Nat := if s.rd GLB_MODID_CODE = 3 then 3 else 4

/-- The least of the request and its limits. -/
def gearWish (s : State) (g : Nat) : Nat :=
  min (min (s.rdi GEAR_REQ_GEAR (4 * g)) (s.rdi GEAR_HLIM_LIMIT (4 * g))) (min (codeLimit s) (groupTiming s g))

/-- CLMA, CLTIM and CLHLT: the limits that lie below the request. -/
def showClamps (g : Nat) (s : State) : State :=
  let q := s.rdi GEAR_REQ_GEAR (4 * g)
  let below := fun (x : Nat) => if x < q then 1 else 0
  ((s.wri GEAR_STAT_CLMA (4 * g) (below (codeLimit s))).wri GEAR_STAT_CLTIM (4 * g) (below (groupTiming s g))).wri GEAR_STAT_CLHLT (4 * g)
    (below (s.rdi GEAR_HLIM_LIMIT (4 * g)))

/-- Every region of every die of the group is locked. -/
def groupLocked (s : State) (g : Nat) : Bool := (groupDies s g).all fun d => (List.range 32).all fun r => s.rdi FDC_TRIMST_TRIMLOCK (oReg d r) == 1

/-! A change of gear (R443 to R447) -/

/-- Setpoints of the group's rails. -/
def setVolts (g v : Nat) (s : State) : State := (groupDies s g).foldl (fun s d => s.wri GEAR_DIE_VMV (4 * d) v) s

/-- A change from the gear in force to `t` begins.  Leaving G0 goes to G1 first (R446). -/
def gearBegin (g t : Nat) (s : State) : State :=
  let a := s.rdi GEAR_STAT_GEAR (4 * g)
  if a < t then
    let b := if a = 0 then 1 else t
    (setVolts g (voltOf b) (s.wri GEAR_STAT_PHASE (4 * g) 1)).modGear g fun x => { x with step := 1, from_ := a, to_ := b, later := if b < t then some t else none }
  else (s.wri GEAR_STAT_PHASE (4 * g) 2).modGear g fun x => { x with step := 4, from_ := a, to_ := t, later := none }

/-- A reserve move or a retirement is scheduled on an Eyelet of the group (R146). -/
def swapDue (s : State) (g : Nat) : Bool :=
  s.eyes.any fun p => p.2.swap.isSome &&
    (let e := p.1 / 8
     (if e < 12 then [e] else [e - 12, (e - 12 + 1) % 12]).any fun d => s.rdi GEAR_DIE_GROUP (4 * d) == g)

/-- An idle group takes a target: at once, or later where R146, R324 or R496 hold it; a changeover that can still be abandoned
is (R324). -/
def gearStart (g t : Nat) (s : State) : State :=
  let a := s.rdi GEAR_STAT_GEAR (4 * g)
  let st := s.rd SHF_STAT_STATE
  let wait := s.modGear g fun x => { x with later := some t }
  if t = a then s.modGear g fun x => { x with later := none }
  else if swapDue s g ∨ (s.rd PWR_STAT_MAINS = 0 ∧ a < t) then wait
  else if st = 5 ∨ (st = 6 ∧ s.clocks.tb + 10000 < s.shf.tc) then
    gearBegin g t (shfAbandon ST_SHF_GEAR 0xF (if s.rd SHF_CMD_BUSY = 1 then shfDone ST_SHF_GEAR s else s))
  else if st = 6 then wait
  else gearBegin g t s

/-- A target held back is taken when the group is idle. -/
def gearNext (g : Nat) (s : State) : State :=
  match (s.gear g).later with
  | some t => if s.rdi GEAR_STAT_PHASE (4 * g) = 0 then gearStart g t s else s
  | none => s

/-- Every group takes a target that was held back. -/
def gearNextAll (s : State) : State := dieList.foldl (fun s g => gearNext g s) s

/-- The target of a group is computed again and taken (R442, R445, R446). -/
def gearTake (g : Nat) (s : State) : State :=
  let s := showClamps g s
  if (groupDies s g).isEmpty then (s.wri GEAR_STAT_GEAR (4 * g) 0).wri GEAR_STAT_TARGET (4 * g) 0
  else
    let w := gearWish s g
    let barred := w == 0 && s.mode != HOLD
    let t := if barred then 1 else w
    let s := (s.wri GEAR_STAT_TARGET (4 * g) t).wri GEAR_STAT_STATUS (4 * g) (if barred then ST_GEAR_STATE else 0)
    if s.rdi GEAR_STAT_PHASE (4 * g) = 0 then gearStart g t s else s.modGear g fun x => { x with later := some t }

/-- The dividers of a group switch at the switch count, which is count 0 of the new gear (R443); at G0 clocks and trim stop. -/
def gearSwitch (g : Nat) (s : State) : State :=
  let b := (s.gear g).to_
  let s := (groupDies s g).foldl (fun s d => s.wri GEAR_DIE_GEAR (4 * d) b) (s.wri GEAR_STAT_GEAR (4 * g) b)
  let s := s.modGear g fun x => { x with count := 0 }
  if b = 0 then (groupDies s g).foldl (fun s d => stopTrim d s) s else s

/-- The change ends.  [DEDUCED 39: notes/assumptions] -/
def gearEnd (g : Nat) (s : State) : State := gearNext g ((s.wri GEAR_STAT_PHASE (4 * g) 0).modGear g fun x => { x with step := 0 })

/-- A lowered group is IDLE once every region is locked at its new gear.  [DEDUCED 39: notes/assumptions] -/
def gearSettle (g : Nat) (s : State) : State :=
  if (s.gear g).step = 6 ∧ ((s.gear g).to_ = 0 ∨ groupLocked s g = true) then gearEnd g s else s

/-- A write of GEAR_REQ or GEAR_HLIM (R17): 5 to 7 are stored as 4; a host's limit on a group that the policy holds is its HOSTLIM
too (R594). -/
def gearWrite (hlim host : Bool) (g v : Nat) (s : State) : State :=
  let x := min 4 (v % 8)
  let s := if hlim then s.wri GEAR_HLIM_LIMIT (4 * g) x else s.wri GEAR_REQ_GEAR (4 * g) x
  let s := if hlim ∧ host ∧ s.rdi HLT_GSTAT_ACT (4 * g) = 1 then s.wri HLT_GSTAT_HOSTLIM (4 * g) x else s
  gearTake g s

/-- GEAR_TARGET_CHANGE (R442): a write of GEAR_REQ[g], or of GEAR_HLIM[g]. -/
def execGearTargetChange (hlim : Bool) (g : Fin 12) (value : BitVec 32) (s : State) : Out := .next (gearWrite hlim true g value.toNat s)

/-- GEAR_RAIL_IN_REGULATION (R444): every rail of the group reaches the voltage of its ramp. -/
def execGearRailInRegulation (g : Fin 12) (s : State) : Out :=
  let x := s.gear g
  let ds := groupDies s g
  let up := ds.foldl (fun s d => s.modDie d fun y => { y with railOk := true }) s
  if x.step = 1 then
    .next (ds.foldl (fun s d => if x.from_ = 0 then startTrim d x.to_ s else loadTrim d x.to_ s) (up.modGear g fun x => { x with step := 2 }))
  else if x.step = 5 then
    .next (gearSettle g ((if x.to_ = 0 then up else ds.foldl (fun s d => relockDie d s) up).modGear g fun x => { x with step := 6 }))
  else .next s

/-- GEAR_SWITCH_COUNT (R443, R444): the express count that the Last named, at a multiple of C, is reached; a raise names it once
every region is locked. -/
def execGearSwitchCount (g : Fin 12) (s : State) : Out :=
  let x := s.gear g
  if x.step = 2 ∧ groupLocked s g = true then .next (gearEnd g (gearSwitch g s))
  else if x.step = 4 then .next (setVolts g (voltOf x.to_) ((gearSwitch g s).modGear g fun x => { x with step := 5 }))
  else .next s

/-- GEAR_RAMP_TIMEOUT (R447): a rail that does not reach regulation ends the change: a raise at gear a, a lower at b with the
voltage of a. -/
def execGearRampTimeout (g : Fin 12) (s : State) : Out :=
  let x := s.gear g
  let ds := groupDies s g
  if x.step = 1 ∨ x.step = 5 then
    let s := (setVolts g (voltOf x.from_) s).wri GEAR_STAT_STATUS (4 * g) ST_HW_GEAR_VREG
    let s := ds.foldl (fun s d => s.push PWR_EVENT_VALID (evWord 8 d ST_HW_GEAR_VREG)) s
    .next (gearEnd g (s.recordSt ST_HW_GEAR_VREG 12 [evWord 8 (ds.getD 0 15) ST_HW_GEAR_VREG]))
  else .next s

/-- Mains is lost while a raise runs and its switch count is not named: the rails go back and the target is held (R496). -/
def gearMainsLost (s : State) : State :=
  dieList.foldl (fun s g =>
    let x := s.gear g
    if x.step = 1 ∨ (x.step = 2 ∧ groupLocked s g = false) then
      let s := (setVolts g (voltOf x.from_) s).wri GEAR_STAT_PHASE (4 * g) 0
      s.modGear g fun x => { x with step := 0, later := some (x.later.getD x.to_) }
    else s) s

/-- A die in use is at G0: its banks and Awl memories are held as in RETENTION (R446). -/
def atG0 (s : State) (d : Nat) : Bool := s.rdi GEAR_DIE_GROUP (4 * d) != 15 && s.rdi GEAR_DIE_GEAR (4 * d) == 0

end Sys2Proof.Machine
end

