-- ==== Sys2Proof/Machine/Safe.lean ====
section
/-! DEFINITION. Entry to SAFE as one operation (R465 to R467), and the other ways a fault is taken (R457). -/

namespace Sys2Proof.Machine

open Sys2Proof

/-- The gates of the regions in `mask` of die `d` close (R449, R466). -/
def closeGates (d mask : Nat) (s : State) : State :=
  (List.range 32).foldl (fun s r => if bit mask r = 1 then s.wri FDC_RSTAT_CLKRUN (oReg d r) 0 else s) s

/-- The regions are added to GLB_SAFEREG, and their clock gates close (R465, R449). -/
def addFaulted (fs : List (Nat × Nat)) (s : State) : State :=
  fs.foldl (fun s p => closeGates p.1 p.2 (s.wri GLB_SAFEREG_MASK (4 * p.1) (s.rdi GLB_SAFEREG_MASK (4 * p.1) ||| p.2))) s

/-- GLB_SAFEREG is cleared on entry to SAFE (R465). -/
def clearFaulted (s : State) : State := dieList.foldl (fun s d => s.wri GLB_SAFEREG_MASK (4 * d) 0) s

/-- Payload of a fault's record: the event word and second word, and the dies with faulted regions at bytes 8 and 9 (R583). -/
def safePayload (fs : List (Nat × Nat)) (ev : List Nat) : List Nat :=
  [ev.getD 0 0, ev.getD 1 0, fs.foldl (fun m p => m ||| 2 ^ p.1) 0]

/-- Checks 1 to 8 of R469: 0 where they pass. -/
def ackCheck (s : State) : Nat :=
  if s.rd CFG_STAT_PHASE = 6 then ST_CFG_STATE
  else if s.modes.causes.contains ST_ECC_FRAME ∨ s.modes.causes.contains ST_ECC_FTABLE then
    (s.modes.causes.find? fun c => c == ST_ECC_FRAME || c == ST_ECC_FTABLE).getD 0
  else if dieList.any fun d => (List.range 32).any fun r => bit (s.rdi GLB_SAFEREG_MASK (4 * d)) r == 1 && s.rdi FDC_TRIMST_TRIMFAULT (oReg d r) == 1 then ST_HW_TRIM
  else if s.rd CLK_STAT_READY = 0 then ST_CLK_NOTREADY
  else if dieList.any fun d => s.rdi GIO_BSTAT_VFAULT (4 * d) == 1 then ST_HW_GIO_VCCO
  else if s.power.bad ≠ [] then ST_HW_PWR_RAIL
  else if dieList.any fun d => (s.die d).used && s.dieUp d && !(s.die d).railOk &&
      (s.gear (s.rdi GEAR_DIE_GROUP (4 * d))).step != 1 && (s.gear (s.rdi GEAR_DIE_GROUP (4 * d))).step != 5 then ST_HW_GEAR_VREG
  else if dieList.any fun d => s.dieUp d && !(s.die d).link then ST_HW_PWR_BUS
  else if dieList.any fun d => (s.die d).hot &&
      decide (sgn8 (115 - s.rd HLT_TPOL_HYST) ≤ sgn8 (s.rdi HLT_TEMP_HOT (4 * d))) then ST_HW_HLT_TEMP
  else 0

/-! The availability account (R597, R598) -/

/-- A register holds its reset value: none of its fields is listed. -/
def atReset (s : State) (a : Nat) : Bool := !(s.regs.any fun p => p.1 / 32 == a)

/-- The conditions of R598 that the module can tell hold, and the cause of the loss is not the cooling.  [DESIGN CHOICE 48: notes/assumptions] -/
def lossCounts (st : Nat) (s : State) : Bool :=
  s.rd GLB_MODID_CODE != 3 && s.rd PWR_STAT_MAINS == 1 && s.rd PWR_STAT_BATLOW == 0 && decide (sgn8 (s.rd PWR_COOL_TIN) ≤ 40) &&
    s.rd COB_STAT_GUAR == 0x1F && atReset s COB_POL_AUTORM.adr && atReset s COB_BURST_EN.adr && atReset s EYE_CTL_BERTH.adr && atReset s DRC_CTL_AUTORTR.adr &&
    st != ST_HW_HLT_TEMP

/-- A loss of fabric service begins.  [DESIGN CHOICE 48: notes/assumptions] -/
def lossBegin (st : Nat) (s : State) : State :=
  if s.hlt.lossAt.isNone ∧ lossCounts st s = true then { (s.inci HLT_AVEVT_EVT 0) with hlt := { s.hlt with lossAt := some s.clocks.elapsed } } else s

/-- The counted loss in progress ends.  [DESIGN CHOICE 48; DEDUCED 50: notes/assumptions] -/
def lossEnd (s : State) : State :=
  match s.hlt.lossAt with
  | some t => { (s.addi HLT_AVLOSS_MS 0 ((s.clocks.elapsed - t) / 1000000)) with hlt := { s.hlt with lossAt := none } }
  | none => s

/-- In SAFE a loss ends once every check of R469 would pass.  [DESIGN CHOICE 48: notes/assumptions] -/
def lossCheck (s : State) : State := if s.mode = SAFE ∧ ackCheck s = 0 then lossEnd s else s

/-- Every FREEZE is cleared on leaving HOLD, the loop restarting from the frozen code (R95, R463 step 1). -/
def clearFreeze (s : State) : State :=
  dieList.foldl (fun s d => (List.range 32).foldl (fun s r =>
    if s.rdi FDC_TRIM_FREEZE (oReg d r) = 1 then
      ((s.wri FDC_TRIM_FREEZE (oReg d r) 0).wri FDC_TRIMST_TRIMLOCK (oReg d r) 0).modRegion (rix d r) fun g => { g with trimIn := 0 }
    else s) s) s

/-- A fault is taken.  In DORMANT it leaves its record only (R457).  In SAFE it is a further fault (R467).  In any other
mode the module enters SAFE (R465, R466); a mode request in progress completes with ST_MODE_FAULTED (R457, R8).  [DEDUCED 72: notes/assumptions] -/
def State.fault (s : State) (st source : Nat) (fs : List (Nat × Nat)) (ev : List Nat) : State :=
  if s.mode = DORMANT then s.recordSt st source ev
  else if s.mode = SAFE then
    let s := addFaulted fs s
    let s := coresOnSafe fs s
    let s := (s.addi GLB_SAFE_COUNT 0 1).wr GLB_SAFELAST_LAST st
    let s := { s with modes := { s.modes with causes := s.modes.causes ++ [st] } }
    let s := turnService (if s.modes.req = none then s else s.endReq ST_MODE_FAULTED)
    s.record st source (if st = ST_HW_TAMPER then 5 else 4) (safePayload fs ev)
  else
    let s := if s.mode = HOLD then clearFreeze s else s
    let s := { s with modes := { s.modes with causes := [st], safeFrom := s.mode, safeEyelets := [], safeNet := true
                                              shfIdleAtSafe := s.rd SHF_STAT_STATE == 0 } }
    let s := addFaulted fs (clearFaulted s)
    let s := (s.wr GLB_SAFE_FIRST st).wr GLB_SAFE_COUNT 1
    let s := if s.modes.req = none then s else s.endReq ST_MODE_FAULTED
    let s := gearNextAll (shfOnSafe s)
    let s := s.setMode SAFE
    let s := coresOnSafe fs s
    let s := weltOnSafe s
    lossCheck ((lossBegin st s).record st source (if st = ST_HW_TAMPER then 5 else 4) (safePayload fs ev))

end Sys2Proof.Machine
end

