-- ==== Sys2Proof/Machine/Policy.lean ====
section
/-! DEFINITION. The gear limits of the health policies (spec/23_black_box_and_health.md, R592 to R595). -/

namespace Sys2Proof.Machine

open Sys2Proof

/-- Bits of HLT_GSTAT.CAUSE. -/
def causeTemp : Nat := 1
def causePsu : Nat := 2
def causeFan : Nat := 4
def causeTrim : Nat := 8

def State.pol (s : State) (g : Nat) : Pol := tabGet {} s.hlt.pol g
def State.modPol (s : State) (g : Nat) (f : Pol → Pol) : State := { s with hlt := { s.hlt with pol := tabMod {} s.hlt.pol g f } }

/-- HLT_CTL.MINGEAR and FANLIM as they act. -/
def minGear (s : State) : Nat := max 1 (min 4 (s.rd HLT_CTL_MINGEAR))
def fanLim (s : State) : Nat := max (minGear s) (max 1 (min 4 (s.rd HLT_CTL_FANLIM)))

/-- Limit of a group in force, and the limit that the policy never exceeds. -/
def polLimit (s : State) (g : Nat) : Nat := s.rdi GEAR_HLIM_LIMIT (4 * g)
def polHost (s : State) (g : Nat) : Nat := if s.rdi HLT_GSTAT_ACT (4 * g) = 1 then s.rdi HLT_GSTAT_HOSTLIM (4 * g) else s.rdi GEAR_HLIM_LIMIT (4 * g)

/-- The policy sets a group's limit for a cause, with record 0x000D; it gives the group up at HOSTLIM (R593, R594).  [DEDUCED 49, 50: notes/assumptions] -/
def polSet (g new cause src : Nat) (s : State) : State :=
  let cur := polLimit s g
  if new = cur then s
  else
    let host := polHost s g
    let held := new != host
    let why := if held then s.rdi HLT_GSTAT_CAUSE (4 * g) ||| cause else 0
    let s := (((s.wri HLT_GSTAT_HOSTLIM (4 * g) host).wri HLT_GSTAT_ACT (4 * g) held.toNat).wri HLT_GSTAT_LIMIT (4 * g) new).wri HLT_GSTAT_CAUSE (4 * g) why
    let s := s.record 0x000D src 2 [g + cur * 2 ^ 8 + new * 2 ^ 16 + cause * 2 ^ 24]
    gearWrite true false g new s

/-- One lowering: one gear below the gear in force, not below MINGEAR and never above the limit in force.  [DEDUCED 49: notes/assumptions] -/
def polLower (g cause src : Nat) (s : State) : State :=
  let cur := polLimit s g
  let new := min cur (max (minGear s) (s.rdi GEAR_STAT_GEAR (4 * g) - 1))
  (polSet g new cause src s).modPol g fun x => { x with lowAt := s.clocks.elapsed }

/-- Groups that have dies. -/
def liveGroups (s : State) : List Nat := dieList.filter fun g => !(groupDies s g).isEmpty

/-- Every group is lowered by one gear for a cause. -/
def polLowerAll (cause : Nat) (s : State) : State :=
  if s.rd HLT_CTL_AUTOGEAR = 1 then (liveGroups s).foldl (fun s g => polLower g cause 13 s) s else s

/-- A trim warning lowers its group once (R595). -/
def trimPolicy (d : Nat) (s : State) : State :=
  let g := s.rdi GEAR_DIE_GROUP (4 * d)
  if s.rd HLT_CTL_AUTOGEAR = 1 ∧ s.rd HLT_CTL_TRIMGEAR = 1 ∧ g ≠ 15 then polLower g causeTrim d s else s

/-- A fan of an MA module has failed and FANGEAR holds the limits at FANLIM.  [DEDUCED 49: notes/assumptions] -/
def fanHolds (s : State) : Bool :=
  s.rd GLB_MODID_CODE == 3 && s.rd HLT_CTL_FANGEAR == 1 && (s.rdi PWR_FAN_FAIL 0 == 1 || s.rdi PWR_FAN_FAIL 4 == 1)

/-- A fan failure limits every group at once (R595).  [DEDUCED 49: notes/assumptions] -/
def fanPolicy (s : State) : State :=
  if s.rd HLT_CTL_AUTOGEAR = 1 ∧ fanHolds s = true then
    (liveGroups s).foldl (fun s g => if fanLim s < polLimit s g then (polSet g (fanLim s) causeFan 13 s).modPol g fun x => { x with lowAt := s.clocks.elapsed } else s) s
  else s

end Sys2Proof.Machine
end

