-- ==== Sys2Proof/Machine/Fabric.lean ====
section
/-! DEFINITION. Commands of a region's fabric: restore, asynchronous set and reset, wake, captures and trim (spec/02_fabric_cells.md,
R90 to R95). -/

namespace Sys2Proof.Machine

open Sys2Proof

/-! Commands -/

/-- REGION_RESTORE: a write of FDC_RCTL.RESTORE (R48).  In HOLD every flip-flop and product-block register of the region
takes its initial value; in any other mode the write sets RESTIGN alone. -/
def execRegionRestore (d : Fin 12) (r : Fin 32) (s : State) : Out :=
  if s.dieLive d = false then .next s
  else if s.mode = HOLD then
    .next (s.modRegion (rix d r) fun g => { g with ff := initFf g.design, prod := initProd g.design, rel := [] })
  else .next (s.wri FDC_RSTAT_RESTIGN (oReg d r) 1)

/-- ASYNC_SR_ASSERT: the asynchronous SR of a cell becomes active (R45, R47): its flip-flops take SRVAL with no clock, and
its release synchroniser is set. -/
def execAsyncSrAssert (d : Fin 12) (r : Fin 32) (cell : Nat) (s : State) : Out :=
  .next (s.modRegion (rix d r) fun g =>
    let c := tabGet {} g.design.cells cell
    if c.srAsync then { g with ff := tabSet 0 g.ff cell (packFf c.srvalA c.srvalB), rel := tabSet 0 g.rel cell 1 } else g)

/-- NETWORK_WAKE (R65). -/
def execNetworkWake (d : Fin 12) (r : Fin 32) (k : Fin 4) (src : Fin 3) (s : State) : Out := .next (wakeNet d r k src s)

/-- IDLE_LIMIT_REACHED (R66): the gate of a DEMAND network closes; a wake source or BUSY in the same cycle keeps it running
and restarts the count. -/
def execIdleLimitReached (d : Fin 12) (r : Fin 32) (k : Fin 4) (wake : Bool) (s : State) : Out :=
  if s.rdi FDC_RCLK_MODE (oClk d r k) = 2 ∧ s.rdi FDC_RCLK_IDLE (oClk d r k) ≠ 0 ∧ bit (s.rdi FDC_RSTAT_CLKRUN (oReg d r)) k = 1 then
    let s1 := s.modRegion (rix d r) fun g => { g with idle := tabSet 0 g.idle k 0 }
    .next (if wake then s1 else setRun d r k false s1)
  else .next s

/-- WAKE_TIMER_EXPIRY (R67): TMR is raised; a periodic timer reloads and any other stops. -/
def execWakeTimerExpiry (d : Fin 12) (r : Fin 32) (s : State) : Out :=
  if (s.region (rix d r)).wakeTimerOn then
    let per := s.rdi FDC_RWTMR_PERIODIC (oReg d r)
    .next (wakeAll d r 2 (s.modRegion (rix d r) fun g => { g with wakeTimerOn := per == 1 }))
  else .next s

/-- WAKE_TIMER_WRITE (R67): the timer restarts from the new RELOAD; RELOAD = 0 stops it. -/
def execWakeTimerWrite (d : Fin 12) (r : Fin 32) (value : BitVec 32) (s : State) : Out :=
  if s.dieLive d = false then .next s
  else
    let v := value.toNat
    let s1 := (s.wri FDC_RWTMR_PERIODIC (oReg d r) (bit v 31)).wri FDC_RWTMR_RELOAD (oReg d r) (bits v 0 24)
    .next (s1.modRegion (rix d r) fun g => { g with wakeTimerOn := bits v 0 24 != 0 })

/-- RCLK_WRITE (R68): a host write changes the active plane's copy. -/
def execRclkWrite (d : Fin 12) (r : Fin 32) (k : Fin 4) (value : BitVec 32) (s : State) : Out :=
  if s.dieLive d = false then .next s else .next (followMode d r k (putRclk d r k value.toNat s))

/-- CAPTURE_AT_T (R61, R62): the latches of a region in the capture set take the values its flip-flops and pipeline
registers hold before the next edge of their clocks. -/
def execCaptureAtT (d : Fin 12) (r : Fin 32) (s : State) : Out :=
  if s.rdi FDC_RSTAT_CAPPEND (oReg d r) = 1 then
    .next (s.modRegion (rix d r) fun g => { g with latchFf := g.ff, latchProd := g.prod, latchValid := true })
  else .next s

/-- A triggered capture is done when every region named holds it (R559).  [DESIGN CHOICE 75: notes/assumptions] -/
def capPendEnd (s : State) : State :=
  if s.rd DBG_CAPSTAT_PEND = 1 ∧ (s.dbg.capRegs.all fun p => s.rdi FDC_RSTAT_CAPPEND (oReg p.1 p.2) == 0 && s.rdi FDC_RSTAT_CAPDONE (oReg p.1 p.2) == 1) then
    (s.wr DBG_CAPSTAT_PEND 0).wr DBG_CAPSTAT_DONE 1
  else s

/-- CAPTURE_COMPLETE (R63): every latch is loaded. -/
def execCaptureComplete (d : Fin 12) (r : Fin 32) (s : State) : Out :=
  if s.rdi FDC_RSTAT_CAPPEND (oReg d r) = 1 ∧ (s.region (rix d r)).latchValid = true then
    .next (capPendEnd ((s.wri FDC_RSTAT_CAPPEND (oReg d r) 0).wri FDC_RSTAT_CAPDONE (oReg d r) 1))
  else .next s

/-! Trim (spec/03_fabric_routing_timing_classes.md, R90 to R95) -/

/-- A signed 7-bit trim code as an integer. -/
def sgn7 (x : Nat) : Int := if x < 64 then (x : Int) else (x : Int) - 128

/-- A trim fault of a region (R93): TRIMFAULT, REASON, and SAFE with the region faulted. -/
def trimFault (d r : Nat) (s : State) : State :=
  ((s.wri FDC_TRIMST_TRIMFAULT (oReg d r) 1).wri FDC_TRIMST_REASON (oReg d r) ST_HW_TRIM).fault ST_HW_TRIM d (oneRegion d r) []

/-- TRIM_WINDOW_END (R90, R91, R93): the code follows the deviation `dev`, in units of 0.1 %, of a loop that runs and is
not frozen; four windows within ±1.0 % lock the region and one outside unlocks it; a code at WARN warns; eight windows at a
limit with the deviation beyond ±1.0 % are a fault. -/
def execTrimWindowEnd (d : Fin 12) (r : Fin 32) (dev : Int) (s : State) : Out :=
  let o := oReg d r
  if s.rdi FDC_TRIMST_ACTIVE o = 0 then .next s
  else
    let code := sgn7 (s.rdi FDC_TRIM_CODE o)
    let code' := if s.rdi FDC_TRIM_FREEZE o = 1 then code
      else if dev > 5 then min (code + 1) 24 else if dev < -5 then max (code - 1) (-24) else code
    let g := s.region (rix d r)
    let inside := decide (-10 ≤ dev ∧ dev ≤ 10)
    let nIn := if inside then g.trimIn + 1 else 0
    let atLim := decide ((code = 24 ∧ dev > 10) ∨ (code = -24 ∧ dev < -10))
    let nLim := if atLim then g.trimLim + 1 else 0
    let s := s.modRegion (rix d r) fun g => { g with trimIn := nIn, trimLim := nLim }
    let s := s.wri FDC_TRIM_CODE o (wrapTo 7 code')
    let s := s.wri FDC_TRIMST_DEV o (wrapTo 8 (max (-128) (min 127 dev)))
    let s := s.wri FDC_TRIMST_TRIMLOCK o (if 4 ≤ nIn then 1 else 0)
    let s := if s.rdi FDC_TRIMCFG_WARN (oDie d) ≤ code'.natAbs ∧ s.rdi FDC_TRIMST_TRIMWARN o = 0 then
        trimPolicy d ((s.wri FDC_TRIMST_TRIMWARN o 1).record 0x000A d 2 [r]) else s
    let s := if s.rdi FDC_TRIMST_TRIMLOCK o = 1 then gearSettle (s.rdi GEAR_DIE_GROUP (4 * d)) s else s
    .next (if 8 ≤ nLim ∧ s.rdi FDC_TRIMST_TRIMFAULT o = 0 then trimFault d r s else s)

/-- TRIM_LOCK_TIMEOUT (R91, R93): a region not locked 200 µs after its rail reached the gear has a trim fault. -/
def execTrimLockTimeout (d : Fin 12) (r : Fin 32) (s : State) : Out :=
  if s.rdi FDC_TRIMST_ACTIVE (oReg d r) = 1 ∧ s.rdi FDC_TRIMST_TRIMLOCK (oReg d r) = 0 ∧ s.rdi FDC_TRIMST_TRIMFAULT (oReg d r) = 0 then
    .next (trimFault d r s)
  else .next s

/-- The code that SETCODE applies: the nearer limit outside ±24 (R95). -/
def setCode (v : Nat) : Nat := wrapTo 7 (max (-24) (min 24 (sgn7 (bits v 16 7))))

/-- TRIM_FREEZE_WRITE: a write of FDC_TRIM (R95).  SETCODE is stored; FREEZE is accepted in HOLD only, where the code is then
SETCODE; FREEZE := 1 elsewhere sets FRZIGN. -/
def execTrimFreezeWrite (d : Fin 12) (r : Fin 32) (value : BitVec 32) (s : State) : Out :=
  if s.dieLive d = false then .next s
  else
    let v := value.toNat
    let o := oReg d r
    let s := s.wri FDC_TRIM_SETCODE o (bits v 16 7)
    if bit v 31 = 0 then .next (s.wri FDC_TRIM_FREEZE o 0)
    else if s.mode = HOLD then .next ((s.wri FDC_TRIM_FREEZE o 1).wri FDC_TRIM_CODE o (setCode v))
    else .next (s.wri FDC_TRIMST_FRZIGN o 1)

/-- CORE_RAIL_OUT_OF_BAND (R447): outside ±30 mV for more than 1.00 µs while no ramp runs. -/
def execCoreRailOutOfBand (d : Fin 12) (s : State) : Out :=
  let st := (s.gear (s.rdi GEAR_DIE_GROUP (4 * d))).step
  if s.dieUp d = true ∧ s.mode ≠ DORMANT ∧ st ≠ 1 ∧ st ≠ 5 ∧ (s.die d).railOk = true then
    .next (((s.modDie d fun x => { x with railOk := false }).push PWR_EVENT_VALID (evWord 8 d ST_HW_GEAR_VREG)).fault ST_HW_GEAR_VREG d (s.dieRegions d)
      [evWord 8 d ST_HW_GEAR_VREG])
  else .next s

end Sys2Proof.Machine
end

