-- ==== Sys2Proof/Machine/Dies.lean ====
section
/-! DEFINITION. Dies and their probe (spec/01_dies_and_the_last.md): identity, support, package protocol, and a die's reset
when its core rails go off (R475). -/

namespace Sys2Proof.Machine

open Sys2Proof

/-- The stepping-table entry that supports a die of this identity: eligible (R26), a stepping (R25), its generation and
range (R27). -/
def supportEntry (s : State) (ident capw : Nat) : Option SupEntry :=
  let step := bits ident 8 8
  let gen := bits capw 24 4
  let lastGen := s.rd GLB_LASTID_GEN
  if bits ident 0 8 = 1 ∧ lastGen ≤ gen ∧ gen ≤ lastGen + 2 ∧ step ≠ 0 then
    s.supTab.find? fun e => e.gen == gen && e.stepMin ≤ step && step ≤ e.stepMax
  else none

/-- The Last switches off a die after the probe (R33): STATE SILENT with REASON, and its bit of SUPPORTED clears.  [DEDUCED 73: notes/assumptions] -/
def dieOff (d reason : Nat) (s : State) : State :=
  let s := railsOff d s
  let m := s.rd GLB_PKG_SUPPORTED
  ((s.wri GLB_DIESTAT_STATE (4 * d) 3).wri GLB_DIESTAT_REASON (4 * d) reason).wr GLB_PKG_SUPPORTED (m - bit m d * 2 ^ d) |>.wri FDC_CAPEN_FEAT (oDie d) 0

/-- Step 1 of the probe (R32): every die is NOT_PROBED with its rails up.  [DEDUCED 73: notes/assumptions] -/
def probeStart (s : State) : State :=
  dieList.foldl (fun s d => (((s.wri GLB_DIESTAT_STATE (4 * d) 0).wri GLB_DIESTAT_REASON (4 * d) 0).wri FDC_CAPEN_FEAT (oDie d) 0).modDie d
    fun x => { x with rails := true, answered := false, ident := 0, capw := 0 }) s

/-- DIE_PROBE_ANSWER (R32 step 2): while the die is NOT_PROBED and its rails are up, the Last copies its identity and
capability word. -/
def execDieProbeAnswer (d : Fin 12) (ident capw : BitVec 32) (s : State) : Out :=
  if s.mode = LOAD ∧ s.dieUp d ∧ s.rdi GLB_DIESTAT_STATE (4 * d) = 0 then
    .next (s.modDie d fun x => { x with answered := true, ident := ident.toNat, capw := capw.toNat })
  else .next s

/-- Step 3 and step 4 of the probe for one die (R32): STATE, REASON, features (R29) and the record of a silent or
unsupported die. -/
def judgeDie (d : Nat) (s : State) : State :=
  let x := s.die d
  if x.answered then
    match supportEntry s x.ident x.capw with
    | some e => ((s.wri GLB_DIESTAT_STATE (4 * d) 1).wri FDC_CAPEN_FEAT (oDie d) ((x.capw &&& e.feat) % 256 &&& 0x0F))
    | none => ((s.wri GLB_DIESTAT_STATE (4 * d) 2).wri GLB_DIESTAT_REASON (4 * d) ST_COMPAT_UNSUP).recordSt ST_COMPAT_UNSUP d []
  else ((s.wri GLB_DIESTAT_STATE (4 * d) 3).wri GLB_DIESTAT_REASON (4 * d) ST_HW_DIE_SILENT).recordSt ST_HW_DIE_SILENT d []

/-- The package protocol version (R34).  [DEDUCED 38: notes/assumptions] -/
def packageProto (s : State) : Nat :=
  dieList.foldl (fun p d =>
    if s.rdi GLB_DIESTAT_STATE (4 * d) = 1 then
      match supportEntry s (s.die d).ident (s.die d).capw with
      | some e => min p (min (bits (s.die d).capw 20 4) e.proto)
      | none => p
    else p) (s.rd GLB_LASTID_PROTO)

/-- The dies for which `f` holds, as a mask. -/
def dieMask (f : Nat → Bool) : Nat := dieList.foldl (fun m d => if f d then m + 2 ^ d else m) 0

/-- Steps 3 to 6 of the probe but for the Eyelets (R32): every die judged, GLB_PKG set, and the rails of silent and
unsupported dies off.  [DEDUCED 38: notes/assumptions] -/
def probeJudge (s : State) : State :=
  let s := dieList.foldl (fun s d => judgeDie d s) s
  let s := (s.wr GLB_PKG_PRESENT (dieMask fun d => (s.die d).answered)).wr GLB_PKG_SUPPORTED (dieMask fun d => s.rdi GLB_DIESTAT_STATE (4 * d) == 1)
  let s := s.wr GLB_PKG_PROTO (packageProto s)
  dieList.foldl (fun s d => if s.rdi GLB_DIESTAT_STATE (4 * d) = 1 then s else railsOff d s) s

/-- WIPE_CONFIRM_TIMEOUT (R118): a die that has not confirmed its wipe has its core rails switched off.  [DEDUCED 69: notes/assumptions] -/
def execWipeConfirmTimeout (d : Fin 12) (s : State) : Out :=
  match (s.die d).wiping with
  | some t =>
    if t + 5000 < s.clocks.elapsed then .next s
    else .next ((dieOff d ST_HW_DIE_SILENT ((s.reachElapsed (t + 5000)).modDie d fun x => { x with wiping := none })).recordSt ST_HW_DIE_SILENT d [])
  | none => .next s

end Sys2Proof.Machine
end

