-- ==== Sys2Proof/Machine/Banks.lean ====
section
/-! DEFINITION. Banks: ports, arbitration, narrow writes, errors, remap and power (spec/04_fabric_memory_banks.md). -/

namespace Sys2Proof.Machine

open Sys2Proof

/-- The valid remap entry of a word, if any: entry number and spare (R110). -/
def remapOf (s : State) (d r b word : Nat) : Option (Nat × Nat) :=
  ((List.range 4).find? fun e => s.rdi BNK_REMAP_VALID (oBnk d r b + 4 * e) == 1 && s.rdi BNK_REMAP_ADDR (oBnk d r b + 4 * e) == word).map
    fun e => (e, s.rdi BNK_REMAP_SPARE (oBnk d r b + 4 * e))

/-- Physical word that holds a word: itself, or 1,024 + its spare. -/
def physWord (s : State) (d r b word : Nat) : Nat :=
  match remapOf s d r b word with
  | some (_, sp) => 1024 + sp
  | none => word

/-- Health of a word: 0 good, 1 single-bit error, 2 uncorrectable. -/
def wordMark (s : State) (d r b word : Nat) : Nat := tabGet 0 (s.bank (bix d r b)).marks (physWord s d r b word)

/-- A word's error mark takes `v`. -/
def setMark (d r b word v : Nat) (s : State) : State :=
  s.modBank (bix d r b) fun k => { k with marks := tabSet 0 k.marks (physWord s d r b word) v }

/-- BNK_ERRADR takes an error: a corrected one never replaces an uncorrectable one while UE is set. -/
def setErrAdr (d r b phys ue : Nat) (s : State) : State :=
  let o := oBnk d r b
  if ue = 0 ∧ s.rdi BNK_STAT_UE o = 1 ∧ s.rdi BNK_ERRADR_VALID o = 1 ∧ s.rdi BNK_ERRADR_KIND o = 1 then s
  else
    (((s.wri BNK_ERRADR_VALID o 1).wri BNK_ERRADR_KIND o ue).wri BNK_ERRADR_SPARE o (if 1024 ≤ phys then 1 else 0)).wri
      BNK_ERRADR_WORD o (if 1024 ≤ phys then phys - 1024 else phys)

/-- What a bank read's check does outside the requester (R109): a single-bit error sets CE and is posted for rewrite; an
uncorrectable one sets UE and takes the region to SAFE. -/
def bankChecked (d r b word : Nat) (s : State) : State :=
  let ph := physWord s d r b word
  let loc := bankLoc r b word
  match wordMark s d r b word with
  | 0 => s
  | 1 => cobCorrected 1 d loc (setErrAdr d r b ph 0 (s.wri BNK_STAT_CE (oBnk d r b) 1))
  | _ => (cobUncorrectable 1 d loc ST_ECC_UE ((setErrAdr d r b ph 1 s).wri BNK_STAT_UE (oBnk d r b) 1)).fault ST_ECC_UE d (oneRegion d r)
      [cobWord 2 1 d ST_ECC_UE, loc]

/-- The stored word. -/
def bankWord (s : State) (d r b word : Nat) : Nat := s.rdMem 8 (bankAddr d r b word)

/-- Bytes of `old` replaced by those of `new` where the byte mask has a 1 (R101).  [DEDUCED 15: notes/assumptions] -/
def mergeBytes (old new mask : Nat) : Nat :=
  (List.range 8).foldl (fun n i => n + (if bit mask i = 1 then bits new (8 * i) 8 else bits old (8 * i) 8) * 2 ^ (8 * i)) 0

/-- Word, byte mask and lane shift of an access at width `w` (R98).  [DEDUCED 15: notes/assumptions] -/
def laneOf (w addr be : Nat) : Nat × Nat × Nat :=
  let n := 64 / w
  let lane := addr % n
  (addr / n % 1024, if w = 64 then be % 256 else (2 ^ (w / 8) - 1) * 2 ^ (lane * (w / 8)), lane * w)

/-- The fabric port may write: A always, B in a true dual-port bank (R97, R99).  [DEDUCED 15: notes/assumptions] -/
def portWrites (b port : Nat) (p : PortIn) : Bool := if b < 8 then p.we else port == 0

/-- Fabric port A (0) or B (1) owns the physical port of the same number (R104). -/
def confFld (port : Nat) : Fld := if port = 0 then BNK_CONF_A_COUNT else BNK_CONF_B_COUNT

/-- Offset of the conflict counters of a bank's group. -/
def oConf (d r b : Nat) : Nat := oReg d r + 0x10 * (b / 8)

/-- Waiting thresholds (R107): the Cobbler's and a remap step's is fixed; the Welt port's is WFORCE × 64, 0 for never. -/
def cobThreshold : Nat := 4096
def weltThreshold (s : State) (d r : Nat) : Option Nat :=
  let w := s.rdi FDC_BNKARB_WFORCE (oReg d r)
  if w = 0 then none else some (64 * w)

/-- A count that has reached its threshold. -/
def reached (n : Nat) : Option Nat → Bool
  | some t => t ≤ n
  | none => false

/-- Physical port of a Welt or Cobbler request that writes or reads (R104). -/
def physOf (b : Nat) (wr : Bool) : Nat := if b < 8 then 1 else if wr then 0 else 1

/-- Who takes a physical port at an edge (R105). -/
inductive Served where
  | rmw | welt | cob | remap | fabric | nobody
  deriving DecidableEq, Repr

/-- The choice of one physical port (R105): second cycle, forced cycle, owning fabric port, Welt port, Cobbler, remap. -/
def choose (rmw forceWelt forceCob forceRemap fabric welt cob remap : Bool) : Served :=
  if rmw then .rmw else if forceWelt then .welt else if forceCob then .cob else if forceRemap then .remap
  else if fabric then .fabric else if welt then .welt else if cob then .cob else if remap then .remap else .nobody

/-- The remap of word `x` (R110, R111): to the lowest spare neither in use nor failed, the spare it leaves failed; refused with
ST_BNK_REMAP_FULL, or with ST_ECC_UE where the word is uncorrectable.  The status and the state, nothing reported. -/
def remapWord (d r b x : Nat) (s : State) : Nat × State :=
  let o := oBnk d r b
  let used := fun sp => (List.range 4).any fun e => s.rdi BNK_REMAP_VALID (o + 4 * e) == 1 && s.rdi BNK_REMAP_SPARE (o + 4 * e) == sp
  match (List.range 4).find? fun sp => !used sp && bit (s.rdi BNK_STAT_SPFAIL o) sp == 0 with
  | none => (ST_BNK_REMAP_FULL, s)
  | some sp =>
    if wordMark s d r b x = 2 then (ST_ECC_UE, s)
    else
      let old := remapOf s d r b x
      let e := match old with
        | some (e, _) => e
        | none => ((List.range 4).find? fun e => s.rdi BNK_REMAP_VALID (o + 4 * e) == 0).getD 0
      let s := match old with
        | some (_, osp) => s.wri BNK_STAT_SPFAIL o (s.rdi BNK_STAT_SPFAIL o ||| 2 ^ osp)
        | none => s
      let s := ((s.wri BNK_REMAP_VALID (o + 4 * e) 1).wri BNK_REMAP_SPARE (o + 4 * e) sp).wri BNK_REMAP_ADDR (o + 4 * e) x
      (0, s.modBank (bix d r b) fun k => { k with marks := tabSet 0 k.marks (1024 + sp) 0 })

/-- The remap of word `x` is made or refused: reported, recorded for the remap store, and the end of a BNK_REMAPCMD for the word
(R110, R111, R375, R378). -/
def makeRemap (d r b x : Nat) (s : State) : State :=
  let o := oBnk d r b
  let loc := bankLoc r b x
  let (st, s) := remapWord d r b x s
  let s := if st = 0 then rsRecord 1 d loc (remapMade 1 d loc s) else remapRefused 1 d loc st (if st = ST_ECC_UE then bankChecked d r b x s else s)
  if s.rdi BNK_REMAPCMD_BUSY o = 1 ∧ s.rdi BNK_REMAPCMD_ADDR o = x then (s.wri BNK_REMAPCMD_STATUS o st).wri BNK_REMAPCMD_BUSY o 0 else s

/-- What one edge of a bank's clock presents: the two fabric ports, and whether the Welt port (and to write) or the Cobbler
(and to write a correction) has a request to serve. -/
structure EdgeIn where
  a : PortIn
  b : PortIn
  welt : Option Bool
  cob : Option Bool

/-- One fabric port's access that is served at this edge (R98, R100, R102, R103, R109): a read delivers the word's lane to
the port's data pipe, a whole-word write stores, a narrow write starts its read-modify-write, whose read phase shows at ERR1 and ERR2.
[DEDUCED 15: notes/assumptions]  [DEDUCED 15: notes/assumptions] -/
def portAccess (d r b port : Nat) (p : PortIn) (old : State) (s : State) : State :=
  let k := old.bank (bix d r b)
  let w := if port = 0 then k.widthA else k.widthB
  let (word, mask, sh) := laneOf w p.addr p.be
  let mark := wordMark old d r b word
  let stored := bankWord old d r b word
  let setDue := fun (v : Option Nat × Nat) (k : Bank) => if port = 0 then { k with dueA := some v } else { k with dueB := some v }
  if portWrites b port p then
    if w = 64 ∧ mask = 0xFF then
      setMark d r b word 0 (s.wrMem 8 (bankAddr d r b word) (p.din % 2 ^ 64))
    else
      bankChecked d r b word (s.modBank (bix d r b) fun k => setDue (none, mark) { k with rmw := k.rmw ++ [⟨port, word, mask, p.din, mark == 2⟩] })
  else
    let raw := if mark = 2 then (s.free 64) else (stored, s)
    let v := bits raw.1 sh w * 2 ^ sh
    bankChecked d r b word (raw.2.modBank (bix d r b) (setDue (some v, mark)))

/-- The second cycle of a narrow write (R102, R103): the bytes merge into the word as it stands. -/
def rmwFinish (d r b : Nat) (x : Rmw) (s : State) : State :=
  if x.bad then s
  else setMark d r b x.word 0 (s.wrMem 8 (bankAddr d r b x.word) (mergeBytes (bankWord s d r b x.word) x.data x.mask))

/-- The data pipes of both ports move on (R100): data read at edge k is at DOUT after edge k + 1, or k + 2 behind OREG. -/
def pipeEdge (k : Bank) : Bank :=
  let a := if k.oregA then k.due2A else k.dueA
  let b := if k.oregB then k.due2B else k.dueB
  { k with
    doutA := (a.bind Prod.fst).getD k.doutA, errA := (a.map Prod.snd).getD k.errA
    doutB := (b.bind Prod.fst).getD k.doutB, errB := (b.map Prod.snd).getD k.errB
    due2A := k.dueA, due2B := k.dueB, dueA := none, dueB := none }

/-- One edge of a bank (R100 to R111). A bank that is not ON, or is ON for a scrub wake, performs no fabric access and counts what is
presented (R113, R114), a read-modify-write in progress being completed (R112).
Port A's bytes win over port B's, so B's write is stored first; a read returns the word before the edge (R101). -/
def bankEdge (d r b : Nat) (i : EdgeIn) (s0 : State) : State :=
  let k := s0.bank (bix d r b)
  let oc := oConf d r b
  let count := fun (f : Fld) (c : Bool) (s : State) => if c then s.inci f oc else s
  if s0.rdi BNK_STAT_PWR (oBnk d r b) ≠ 0 ∨ k.scrubWake = true then
    let s := (k.rmw.filter fun x => x.port != 0).foldl (fun s x => rmwFinish d r b x s) s0
    let s := (k.rmw.filter fun x => x.port == 0).foldl (fun s x => rmwFinish d r b x s) s
    (count BNK_CONF_A_COUNT i.a.en (count BNK_CONF_B_COUNT i.b.en s)).modBank (bix d r b) fun k => { pipeEdge k with rmw := [], waitA := true, waitB := true }
  else
    let hasRmw := fun p => k.rmw.any fun x => x.port == p
    let forceW := fun p => i.welt.any (fun wr => physOf b wr == p) && reached (k.weltWait.getD 0) (weltThreshold s0 d r)
    let forceC := fun p => i.cob.any (fun wr => physOf b wr == p) && decide (cobThreshold ≤ k.cobWait.getD 0)
    let remapW := (k.remapReq.map Prod.snd).getD 0
    let forceR := k.remapReq.isSome && decide (cobThreshold ≤ remapW) && !forceW 0 && !forceW 1 && !hasRmw 0 && !hasRmw 1
    let fab := fun p => if p = 0 then i.a.en && !k.waitA else i.b.en && !k.waitB
    let serve : Nat → Served := fun p => choose (hasRmw p) (forceW p) (forceC p) forceR (fab p) (i.welt.any fun wr => physOf b wr == p)
      (i.cob.any fun wr => physOf b wr == p) k.remapReq.isSome
    let s := s0.modBank (bix d r b) fun k => { pipeEdge k with rmw := [] }
    let s := if serve 1 == Served.fabric then portAccess d r b 1 i.b s0 s else s
    let s := (k.rmw.filter fun x => x.port == 1).foldl (fun s x => rmwFinish d r b x s) s
    let s := if serve 0 == Served.fabric then portAccess d r b 0 i.a s0 s else s
    let s := (k.rmw.filter fun x => x.port == 0).foldl (fun s x => rmwFinish d r b x s) s
    let s := count BNK_CONF_A_COUNT (i.a.en && serve 0 != Served.fabric) (count BNK_CONF_B_COUNT (i.b.en && serve 1 != Served.fabric) s)
    let weltServed := i.welt.any fun wr => serve (physOf b wr) == Served.welt
    let cobServed := i.cob.any fun wr => serve (physOf b wr) == Served.cob
    let s := count BNK_CONF_W_COUNT (i.welt.isSome && !weltServed) (count BNK_CONF_C_COUNT (i.cob.isSome && !cobServed) s)
    let s := match k.remapReq with
      | some (x, n) =>
        if serve 0 == Served.remap && serve 1 == Served.remap then (makeRemap d r b x s).modBank (bix d r b) fun k => { k with remapReq := none }
        else (s.inci BNK_CONF_C_COUNT oc).modBank (bix d r b) fun k => { k with remapReq := some (x, n + 1) }
      | none => s
    let ww := if i.welt.isSome && !weltServed then some (k.weltWait.getD 0 + 1) else none
    let cw := if i.cob.isSome && !cobServed then some (k.cobWait.getD 0 + 1) else none
    let nextForce := fun p =>
      (i.welt.any (fun wr => physOf b wr == p) && ww.any fun n => reached n (weltThreshold s0 d r)) ||
      (i.cob.any (fun wr => physOf b wr == p) && cw.any fun n => decide (cobThreshold ≤ n)) ||
      ((s.bank (bix d r b)).remapReq.any (fun (q : Nat × Nat) => decide (cobThreshold ≤ q.2)))
    s.modBank (bix d r b) fun k => { k with
      weltWait := ww, cobWait := cw
      waitA := (k.rmw.any fun x => x.port == 0) || nextForce 0
      waitB := (k.rmw.any fun x => x.port == 1) || nextForce 1 }

/-- The bank's clock runs for its fabric ports: its regional network runs (R100, R108). -/
def bankClocked (s : State) (d r b : Nat) : Bool := bit (s.rdi FDC_RSTAT_CLKRUN (oReg d r)) ((s.bank (bix d r b)).net) == 1

/-- BANK_PORT_ACCESS (R100 to R109): an edge of the bank's network at which its fabric ports present what `pa` and `pb` say,
beside what the Welt port (`welt`: a request, and whether it writes) and the Cobbler ask. -/
def execBankPortAccess (d : Fin 12) (r : Fin 32) (b : Fin 64) (pa pb : PortIn) (welt cob : Option Bool) (s : State) : Out :=
  if bankClocked s d r b then .next (bankEdge d r b ⟨pa, pb, welt, cob⟩ s) else .next s

/-- NARROW_WRITE_MERGE (R102, R103): the edge at which a pending read-modify-write stores the merged word. -/
def execNarrowWriteMerge (d : Fin 12) (r : Fin 32) (b : Fin 64) (s : State) : Out :=
  if (s.bank (bix d r b)).rmw = [] then .next s else .next (bankEdge d r b ⟨{}, {}, none, none⟩ s)

/-- FORCED_CYCLE (R107): the requester whose wait has reached its threshold takes this edge, whatever the fabric ports
present: 0 the Cobbler, 1 a remap step, 2 the Welt port; `wr` says whether it writes. -/
def execForcedCycle (d : Fin 12) (r : Fin 32) (b : Fin 64) (kind : Fin 3) (wr : Bool) (pa pb : PortIn) (s : State) : Out :=
  let k := s.bank (bix d r b)
  let due : Bool := match kind.val with
    | 0 => decide (cobThreshold ≤ k.cobWait.getD 0)
    | 1 => k.remapReq.any (fun (q : Nat × Nat) => decide (cobThreshold ≤ q.2))
    | _ => reached (k.weltWait.getD 0) (weltThreshold s d r)
  if due then
    .next (bankEdge d r b ⟨pa, pb, if kind.val = 2 then some wr else none, if kind.val = 0 then some wr else none⟩ s)
  else .next s

/-- BANK_REMAP_CMD: a write of BNK_REMAPCMD with GO (R110, R111); ignored while BUSY.  With no free spare it completes at once. -/
def execBankRemapCmd (d : Fin 12) (r : Fin 32) (b : Fin 64) (addr : Fin 1024) (s : State) : Out :=
  let o := oBnk d r b
  if s.dieLive d = false ∨ s.rdi BNK_REMAPCMD_BUSY o = 1 then .next s
  else
    let s := (s.wri BNK_REMAPCMD_ADDR o addr).wri BNK_REMAPCMD_BUSY o 1
    let free := (List.range 4).any fun sp => bit (s.rdi BNK_STAT_SPFAIL o) sp == 0 &&
      !((List.range 4).any fun e => s.rdi BNK_REMAP_VALID (o + 4 * e) == 1 && s.rdi BNK_REMAP_SPARE (o + 4 * e) == sp)
    if free then .next (s.modBank (bix d r b) fun k => { k with remapReq := some (addr, 0) })
    else .next (remapRefused 1 d (bankLoc r b addr) ST_BNK_REMAP_FULL ((s.wri BNK_REMAPCMD_STATUS o ST_BNK_REMAP_FULL).wri BNK_REMAPCMD_BUSY o 0))

/-- BANK_REMAP_STEP (R110): an edge served on both physical ports makes the requested remap. -/
def execBankRemapStep (d : Fin 12) (r : Fin 32) (b : Fin 64) (s : State) : Out :=
  match (s.bank (bix d r b)).remapReq with
  | some (x, _) => .next ((makeRemap d r b x s).modBank (bix d r b) fun k => { k with remapReq := none })
  | none => .next s

/-- The requested state is RETENTION (R112): PWRREQ 1, or 2 with PSLEEP at 1. -/
def wantsRetention (s : State) (d r b : Nat) : Bool :=
  s.rdi BNK_CTL_PWRREQ (oBnk d r b) == 1 || (s.rdi BNK_CTL_PWRREQ (oBnk d r b) == 2 && (s.bank (bix d r b)).psleep)

/-- The bank's power state follows its requested state (R112): ON enters RETENTION; RETENTION wakes; an entry is undone. -/
def bankFollow (d r b : Nat) (s : State) : State :=
  let o := oBnk d r b
  let p := s.rdi BNK_STAT_PWR o
  if wantsRetention s d r b then (if p = 0 ∧ (s.bank (bix d r b)).scrubWake = false then s.wri BNK_STAT_PWR o 1 else s)
  else
    let s := s.modBank (bix d r b) fun k => { k with scrubWake := false }
    if p = 2 then s.wri BNK_STAT_PWR o 3 else if p = 1 then s.wri BNK_STAT_PWR o 0 else s

/-- Field and state of one Awl memory of FDC_AWLMEM: X (`false`) or Y (`true`). -/
def awlMemState (y : Bool) : Fld := if y then FDC_AWLMEM_YSTATE else FDC_AWLMEM_XSTATE

/-- One Awl memory follows its request (R119): ON goes to RETENTION, RETENTION wakes.  [DEDUCED 17: notes/assumptions] -/
def awlMemFollow (d r : Nat) (y : Bool) (ret : Nat) (s : State) : State :=
  let p := s.rdi (awlMemState y) (oReg d r)
  if ret = 1 then (if p = 0 then s.wri (awlMemState y) (oReg d r) 2 else s)
  else if p = 2 then s.wri (awlMemState y) (oReg d r) 3 else s

/-- AWL_MEMORY_POWER_WRITE: a write of FDC_AWLMEM (R119).  Entry completes what was issued within the step. -/
def execAwlMemoryPowerWrite (d : Fin 12) (r : Fin 32) (value : BitVec 32) (s : State) : Out :=
  if s.dieLive d = false then .next s
  else
    let v := value.toNat
    let s := (s.wri FDC_AWLMEM_XRET (oReg d r) (bit v 0)).wri FDC_AWLMEM_YRET (oReg d r) (bit v 1)
    .next (awlMemFollow d r true (bit v 1) (awlMemFollow d r false (bit v 0) s))

end Sys2Proof.Machine
end

