-- ==== Sys2Proof/Machine/Awl.lean ====
section
/-! DEFINITION. Execution of one Awl instruction, with its exceptions, loop ends, delayed system-register writes, run-ahead and
LOCK windows (spec/09_awl_core.md, spec/10_awl_instruction_set.md). -/

namespace Sys2Proof.Machine

open Sys2Proof

/-- What one instruction comes to: it waits, raises an exception, or is done with new registers, the flags it sets, and the
address it goes to. -/
inductive Did where
  | stall (s : State)
  | raised (n : Nat) (s : State)
  | done (a : Arch) (f : Flg) (target : Option Nat) (s : State)

/-- The signed 12-bit offset and 16-bit immediate. -/
def simm (w n : Nat) : Int := toS n w

/-- An accumulator access of a multiply: new registers and flags. -/
def doMul (a : Arch) (kind acc : Nat) (p : Int) : Arch × Flg :=
  let r := accumulateOp a.sr kind (a.get (kA acc)) p
  (a.put (kA acc) r.1, r.2)

/-- Format 000 (R265). -/
def doAlu (a : Arch) (w : Nat) : Arch × Flg :=
  let opc := bits w 24 5
  let sz := bits w 22 2
  let imm := bit w 11 == 1
  if 0x10 ≤ opc then
    doMul a (opc - 0x10) (bits w 17 5) (awlProduct a.sr true true (a.opGet 1 (bits w 12 5)) (a.opGet 1 (bits w 6 5)))
  else
    let s1 := a.opGet (if opc = 0xC ∨ opc = 0xD then 2 else sz) (bits w 12 5)
    let s2 :=
      if 7 ≤ opc ∧ opc ≤ 9 then (if imm then bits w 0 6 else a.opGet 0 (bits w 6 5) % 64)
      else if imm then ofS (szWidth sz) (simm (bits w 0 11) 11) else a.opGet sz (bits w 6 5)
    let r := aluOp a.sr opc sz s1 s2
    (if opc = 3 then a else a.opPut sz (bits w 17 5) r.1, r.2)

/-- The memory of an access needs its power state ON; a retained one is woken and the core stalls (R119). -/
def xyAsleep (s : State) (c : Nat) (y : Bool) : Bool := s.rdi (awlMemState y) (oAwl c) != 0

/-- The memory of core `c` is asked to wake. -/
def wakeXy (c : Nat) (y : Bool) (s : State) : State :=
  if s.rdi (awlMemState y) (oAwl c) = 2 then s.wri (awlMemState y) (oAwl c) 3 else s

/-- Exception of one X or Y access, if any (R225): 4 ALIGN, 8 ECC. -/
def xyCheck (s : State) (c : Nat) (y load : Bool) (a size : Nat) : Option Nat :=
  if a % size ≠ 0 then some 4 else if load ∧ xyMark s c y a = 2 then some 8 else none

/-- XADDR takes the address of an ALIGN or ECC exception. -/
def noteAddr (c a : Nat) (s : State) : State := s.modArch c fun x => x.put kXADDR (a % 2 ^ 32)

/-- Location of an X or Y word (R378). -/
def xyLoc (c : Nat) (y : Bool) (a : Nat) : Nat := c % 32 * 2 ^ 21 + (if y then 2 ^ 20 else 0) + a % 65536 / 4

/-- A corrected X or Y word is passed to the Cobbler (R225). -/
def xyCorrected (c : Nat) (y : Bool) (a : Nat) (s : State) : State :=
  if xyMark s c y a = 1 then cobCorrected 2 (c / 32) (xyLoc c y a) s else s

/-- An X or Y store takes effect, or is held behind loads or in a LOCK window (R237, R246). -/
def xyStore (c : Nat) (y : Bool) (a size v : Nat) (s : State) : State :=
  let k := s.core c
  let x : AwlStore := { after := k.nload, y, addr := a, size, val := v }
  if k.loads = [] ∧ k.lk.isNone then commitStore c s x else s.modCore c fun k => { k with sbuf := k.sbuf ++ [x] }

/-- The store buffer has 16 entries (R237). -/
def sbufFull (s : State) (c n : Nat) : Bool := 16 < (s.core c).sbuf.length + n

/-- Format 001 (R266 to R268). -/
def doMac (c w : Nat) (s : State) : Did :=
  let a := (s.core c).arch
  let xk := bits w 12 2
  let yk := bits w 5 2
  let xp := 2 * bit w 8
  let yp := 1 + 2 * bit w 1
  let xa := a.get (kP xp) % 65536
  let ya := a.get (kP yp) % 65536
  let xr := a.q (bits w 9 3)
  let yr := a.q (16 + bits w 2 3)
  if xk ≠ 0 ∧ xyAsleep s c false then .stall (wakeXy c false s)
  else if yk ≠ 0 ∧ xyAsleep s c true then .stall (wakeXy c true s)
  else if sbufFull s c ((if xk = 2 then 1 else 0) + (if yk = 2 then 1 else 0)) then .stall s
  else
    match (if xk = 0 then none else xyCheck s c false (xk == 1) xa 2), (if yk = 0 then none else xyCheck s c true (yk == 1) ya 2) with
    | some n, _ => .raised n (noteAddr c xa s)
    | none, some n => .raised n (noteAddr c ya s)
    | none, none =>
      let held := (s.core c).sbuf
      let xv := xyRead s c held false xa 2
      let yv := xyRead s c held true ya 2
      let mop := bits w 26 3
      let s1 := a.get (a.q (bits w 19 5))
      let s2 := a.get (a.q (bits w 14 5))
      let m := if mop = 0 then (a, {}) else
        doMul a (if mop = 1 ∨ mop = 4 then 0 else if mop = 3 then 2 else 1) (bit w 25)
          (awlProduct a.sr (mop != 4 && mop != 5) (mop != 4 && mop != 5 && mop != 6) s1 s2)
      let b := m.1
      let b := if xk = 1 then b.put xr xv else b
      let b := if yk = 1 then b.put yr yv else b
      let b := if xk = 0 then b else b.put (kP xp) (a.pmod xp (if bit w 7 = 0 then 2 else toS 32 (a.get (kM xp))))
      let b := if yk = 0 then b else b.put (kP yp) (a.pmod yp (if bit w 0 = 0 then 2 else toS 32 (a.get (kM yp))))
      let b := if bit w 24 = 1 then b.rotate else b
      let s := if xk = 1 then xyCorrected c false xa s else if xk = 2 then xyStore c false xa 2 (a.get xr) s else s
      let s := if yk = 1 then xyCorrected c true ya s else if yk = 2 then xyStore c true ya 2 (a.get yr) s else s
      .done b m.2 none s

/-- Address used and pointer after an access of format 010 (R269). -/
def accessAddr (a : Arch) (w size : Nat) : Nat × Nat :=
  let p := bits w 14 3
  let off := simm (bits w 0 12) 12
  match bits w 12 2 with
  | 0 => (a.get (kP p), a.pmod p size)
  | 1 => (a.get (kP p), a.pmod p (toS 32 (a.get (kM p))))
  | 2 => (a.pmod p off, a.get (kP p))
  | _ => (a.get (kP p), a.pmod p off)

/-- Bytes of an access: SZ 0 two, 1 four, 2 eight. -/
def accessSize (w : Nat) : Nat := 2 * 2 ^ bits w 23 2

/-- Value of the data register of a store. -/
def storeValue (a : Arch) (w : Nat) : Nat :=
  let r := bits w 18 5
  if bit w 17 = 1 then a.get (a.q r) else match bits w 23 2 with
    | 0 => a.opGet 1 r
    | 1 => a.get r
    | _ => a.get r + a.get (r + 1) * 2 ^ 32

/-- LDX, LDY, STX and STY (R270). -/
def doXy (c w : Nat) (y store : Bool) (s : State) : Did :=
  let a := (s.core c).arch
  let size := accessSize w
  let (ad, p) := accessAddr a w size
  let ad := ad % 65536
  if xyAsleep s c y then .stall (wakeXy c y s)
  else if store && sbufFull s c 1 then .stall s
  else
    match xyCheck s c y (!store) ad size with
    | some n => .raised n (noteAddr c ad s)
    | none =>
      let b := a.put (kP (bits w 14 3)) p
      if store then .done b {} none (xyStore c y ad size (storeValue a w) s)
      else .done (fillReg (loadDest a w) (xyRead s c (s.core c).sbuf y ad size) b) {} none (xyCorrected c y ad s)

/-- Addresses of an ordered load: the register mirror, a user-endpoint window, a bridge window (R237).  [DEDUCED 26: notes/assumptions] -/
def orderedAddr (a : Nat) : Bool :=
  (0x00F000000000 ≤ a && a < 0x00F001C00000) || (0x008000000000 ≤ a && a < 0x008C00000000 && a % 2 ^ 32 < 0x10000000) ||
    (0x00C000000000 ≤ a && a < 0x00C000000000 + 16 * 2 ^ 33)

/-- Addresses that a LOCK window may touch: the Last store or a bank (R245). -/
def lockableAddr (a : Nat) : Bool :=
  (0x004000000000 ≤ a && a < 0x004002000000) ||
    (0x008000000000 ≤ a && a < 0x008C00000000 && 0x10000000 ≤ a % 2 ^ 32 && a % 2 ^ 32 < 0x11000000)

/-- A Last store line that the core's data cache holds (R229).  [DESIGN CHOICE 83: notes/assumptions] -/
def cacheHit (s : State) (c a : Nat) : Bool := (s.core c).dlines.contains (a / 64)

/-- LDW (R236, R245, R270).  [DESIGN CHOICE 83: notes/assumptions] -/
def doLdw (c w : Nat) (s : State) : Did :=
  let k := s.core c
  let a := k.arch
  let size := accessSize w
  let (lo, p) := accessAddr a w size
  let ad := a.get (kWS (bits w 14 3)) * 2 ^ 32 + lo
  let b := a.put (kP (bits w 14 3)) p
  if ad % size ≠ 0 then .raised 4 (noteAddr c ad s)
  else match k.lk with
    | some win =>
      if lockableAddr ad = false ∨ (win.line.isSome ∧ win.line ≠ some (ad / 64)) ∨
          ((ptrKeys (bits w 14 3) (bits w 12 2) true).any fun x => win.taint.contains x) then .raised 6 s
      else
        let t := freeTagOf s c
        let l : AwlLoad := { ser := k.nload + 1, tag := t, addr := ad, size, dest := loadDest a w, lrd := true, ckpt := a }
        let q : Req := { src := coreEp c, op := 7, addr := ad / 8 * 8, tag := t }
        .done b {} none (s.modCore c fun k => { k with
          loads := k.loads ++ [l], nload := k.nload + 1, wrq := k.wrq ++ [q]
          lk := some { win with line := some (ad / 64) } })
    | none =>
      if (k.stq.any fun x => x.2 / 64 == ad / 64) ∨ (k.stwait.any fun x => x.addr / 64 == ad / 64) then .stall s
      else if cacheHit s c ad then .done (fillReg (loadDest a w) (s.rdMem size ad) b) {} none s
      else if 8 ≤ k.loads.length ∨ (orderedAddr ad ∧ k.loads ≠ []) then .stall s
      else
        let t := freeTagOf s c
        let l : AwlLoad := { ser := k.nload + 1, tag := t, addr := ad, size, dest := loadDest a w, ordered := orderedAddr ad, ckpt := a }
        .done b {} none (s.modCore c fun k => { k with
          loads := k.loads ++ [l], nload := k.nload + 1, wrq := k.wrq ++ [coreReq c 1 t ad size 0] })

/-- STW (R236, R245, R270). -/
def doStw (c w : Nat) (s : State) : Did :=
  let k := s.core c
  let a := k.arch
  let size := accessSize w
  let (lo, p) := accessAddr a w size
  let ad := a.get (kWS (bits w 14 3)) * 2 ^ 32 + lo
  let b := a.put (kP (bits w 14 3)) p
  let x : AwlStore := { after := k.nload, addr := ad, size, val := storeValue a w }
  if ad % size ≠ 0 then .raised 4 (noteAddr c ad s)
  else match k.lk with
    | some win =>
      if lockableAddr ad = false ∨ win.line ≠ some (ad / 64) ∨ win.store.isSome ∨ !(win.words.any fun q => q.1 == ad / 8 * 8) then .raised 6 s
      else .done b {} none (s.modCore c fun k => { k with lk := some { win with store := some x } })
    | none =>
      if 16 ≤ k.stq.length + k.stwait.length then .stall s
      else if k.loads = [] then .done b {} none (sendStore c s x)
      else .done b {} none (s.modCore c fun k => { k with stwait := k.stwait ++ [x] })

/-- MOV in its four forms (R271, R272).  A move that touches what lies outside the core's registers waits for older loads. -/
def doMov (c w : Nat) (s : State) : Did :=
  let k := s.core c
  let a := k.arch
  match bits w 25 4 with
  | 6 =>
    let r := a.movValue (bits w 18 7) (bits w 11 7)
    .done (a.rcPut (bits w 18 7) r.1) (({} : Flg).stick srLS r.2) none s
  | 7 =>
    let n := bits w 20 5
    if k.loads ≠ [] ∧ (n = 14 ∨ n = 15 ∨ n = 17 ∨ n = 19) then .stall s
    else
      let r := a.movValue 0 (bits w 13 7)
      .done { a with pend := some (n, r.1 % 2 ^ 32) } (({} : Flg).stick srLS r.2) none s
  | 8 =>
    let n := bits w 13 5
    if k.loads ≠ [] ∧ (n = 18 ∨ n = 14 ∨ n = 15) then .stall s
    else
      let b := a.rcPut (bits w 18 7) (sysRead s c n)
      .done b {} none (if n = 18 then s.modCore c fun k => { k with msgq := k.msgq.drop 1 } else s)
  | _ =>
    let d := bits w 18 7
    let v := match bits w 16 2 with
      | 0 => sext 16 (rcWidth d) (bits w 0 16)
      | 1 => bits w 0 16
      | _ => bits w 0 16 * 65536 + a.rcGet d % 65536
    .done (a.rcPut d v) {} none s

/-- PMOD and PADD (R273). -/
def doPtr (a : Arch) (w : Nat) : Arch :=
  let n := bits w 23 3
  match bits w 26 3 with
  | 0 => a.put (kP n) (a.pmod n (toS 32 (a.get (kM (bits w 17 3)))))
  | 1 => a.put (kP n) (a.pmod n (simm (bits w 0 16) 16))
  | _ => a.put (kP n) ((a.get (kP (bits w 20 3)) + a.get (kM (bits w 17 3))) % 2 ^ 32)

/-- LOOP with a count and the address of its last instruction (R232, R274); `next` is the address after it. -/
def doLoop (c count le next : Nat) (s : State) : Did :=
  let a := (s.core c).arch
  if 2 ≤ a.ldepth then .raised 5 s
  else if count = 0 then
    let w := s.rdMem 4 (a.get kPSEG * 2 ^ 32 + le)
    .done a {} (some ((le + 4 * wordsOf w) % 2 ^ 32)) s
  else
    let out := a.ldepth == 0
    .done ((((a.put (kLC out) count).put (kLS out) next).put (kLE out) le).srPut 20 2 (a.ldepth + 1)) {} none s

/-- Address of a word offset from the branch (R274). -/
def branchTo (pc : Nat) (off : Int) : Nat := ofS 32 ((pc : Int) + 4 * off)

/-- Format 100 (R274, R275). -/
def doBranch (c w : Nat) (s : State) : Did :=
  let a := (s.core c).arch
  let pc := a.pc
  let next := (pc + 4) % 2 ^ 32
  let target := if bit w 25 = 1 then a.get (bits w 21 4) / 4 * 4 else branchTo pc (simm (bits w 0 25) 25)
  match bits w 26 3 with
  | 0 => .done a {} (some target) s
  | 1 => .done a {} (if condHolds (bits w 22 4) a.sr then some (branchTo pc (simm (bits w 0 22) 22)) else none) s
  | 2 => .done (a.put 15 next) {} (some target) s
  | 3 => .done a {} (some (a.get (bits w 22 4) / 4 * 4)) s
  | 4 =>
    let b := a.put kSR (a.get (kRSR a.ipl))
    let t := some (a.get (kRPC a.ipl) / 4 * 4)
    if a.ipl = 5 then (if (s.core c).loads ≠ [] then .stall s else .done b {} t (endSession true c s)) else .done b {} t s
  | 5 => doLoop c (bits w 14 12) (branchTo pc (bits w 0 14)) next s
  | _ => doLoop c (a.get (bits w 22 4)) (branchTo pc (bits w 0 14)) next s

/-- Format 110 (R279). -/
def doLong (c w w2 : Nat) (s : State) : Did :=
  let a := (s.core c).arch
  let next := (a.pc + 8) % 2 ^ 32
  match bits w 25 4 with
  | 0 => .done (a.rcPut (bits w 18 7) (if rcWidth (bits w 18 7) = 40 then sext 32 40 w2 else w2)) {} none s
  | 1 =>
    let opc := bits w 20 5
    let sz := bits w 18 2
    let r := aluOp a.sr opc sz (a.opGet sz (bits w 8 5)) (if sz = 2 then sext 32 40 w2 else w2)
    .done (if opc = 3 then a else a.opPut sz (bits w 13 5) r.1) r.2 none s
  | 2 => .done (if bit w 24 = 1 then a.put 15 next else a) {} (some (w2 / 4 * 4)) s
  | 3 => .done a {} (if condHolds (bits w 21 4) a.sr then some (w2 / 4 * 4) else none) s
  | _ => doLoop c w2 (branchTo a.pc (bits w 0 14)) next s

/-- Work outside the core that must be over before FENCE, LOCK and WAIT (R236, R244). -/
def coreBusy (k : Core) : Bool := k.loads != [] || k.stq != [] || k.stwait != []

/-- Format 101 (R278).  DBG, where the monitor is enabled and no session is open, waits to be the oldest and leaves its entry due. -/
def doSys (c w : Nat) (s : State) : Did :=
  let k := s.core c
  let a := k.arch
  match bits w 24 5 with
  | 0 => .done a {} none s
  | 1 => .done a.rotate {} none s
  | 2 =>
    if coreBusy k then .stall s
    else .done (a.srPut 22 1 1) {} none (s.modCore c fun k => { k with lk := some { ckpt := a, left := w % 4 + 2 } })
  | 3 =>
    if k.loads ≠ [] then .stall s
    else .done a {} none (if irqReady s c = 0 then setAwlState c awlWAIT s else s)
  | 4 => if coreBusy k then .stall s else .done a {} none s
  | 5 => .raised 7 (s.modArch c fun x => x.put kXCAUSE (putBits (x.get kXCAUSE) 8 8 (w % 256)))
  | 6 =>
    if cannotEnter s c then .done a {} none s
    else if k.loads ≠ [] then .stall s
    else .done a {} none { (s.wri DBG_STAT_CODE (oDbg c) (w % 256)) with dbg := { s.dbg with pend := tabSet 0 s.dbg.pend c 1 } }
  | 7 => .done (a.srPut 23 1 1) {} none s
  | _ => .done (a.srPut 23 1 0) {} none s

/-- One instruction word that is legal. -/
def doWord (c w w2 : Nat) (s : State) : Did :=
  let a := (s.core c).arch
  match bits w 29 3 with
  | 0 => .done (doAlu a w).1 (doAlu a w).2 none s
  | 1 => doMac c w s
  | 2 => match bits w 25 4 with
    | 0 => doXy c w false false s
    | 1 => doXy c w true false s
    | 2 => doXy c w false true s
    | 3 => doXy c w true true s
    | 4 => doLdw c w s
    | 5 => doStw c w s
    | _ => doMov c w s
  | 3 => .done (doPtr a w) {} none s
  | 4 => doBranch c w s
  | 5 => doSys c w s
  | _ => doLong c w w2 s

/-- One loop end: the innermost level ends at `at_` (R232): the registers, and whether the level stays. -/
def loopLevel (at_ : Nat) (a : Arch) : Arch × Option Nat × Bool :=
  if a.ldepth = 0 then (a, none, false)
  else
    let out := a.ldepth == 1
    if a.get (kLE out) ≠ at_ then (a, none, false)
    else
      let n := ofS 32 ((a.get (kLC out) : Int) - 1)
      let a := a.put (kLC out) n
      if n ≠ 0 then (a, some (a.get (kLS out)), false) else (a.srPut 20 2 (a.ldepth - 1), none, true)

/-- The loop ends at the instruction at `at_`: the inner level, and then the outer if the inner was popped. -/
def loopEnd (at_ : Nat) (a : Arch) : Arch × Option Nat :=
  let (a, t, popped) := loopLevel at_ a
  if popped then
    let (a, t, _) := loopLevel at_ a
    (a, t)
  else (a, t)

/-- The instruction at `pc` is the last of an active loop. -/
def atLoopEnd (a : Arch) (pc : Nat) : Bool :=
  (1 ≤ a.ldepth && a.get (kLE true) == pc) || (2 ≤ a.ldepth && a.get (kLE false) == pc)

/-- A LOCK window after one of its instructions: one instruction fewer, and what depends on loaded data. -/
def windowStep (a : Arch) (w : Nat) (win : LockWin) : LockWin :=
  let u := regUse a w
  let isLdw := bits w 29 3 == 2 && bits w 25 4 == 4
  let dirty := isLdw || u.1.any fun x => win.taint.contains x
  { win with left := win.left - 1, taint := if dirty then win.taint ++ (if isLdw then destKeys (loadDest a w) else u.2) else win.taint }

/-- An instruction that is done: the loop end, the system-register write of the instruction before, the new address and the
run-ahead window. -/
def finish (c w : Nat) (a0 a : Arch) (f : Flg) (target : Option Nat) (s : State) : State :=
  let pc := a0.pc
  let r := if target.isSome ∨ isBranch w then (a, target) else loopEnd pc a
  let next := r.2.getD ((pc + 4 * wordsOf w) % 2 ^ 32)
  let newPend := if bits w 29 3 = 2 ∧ bits w 25 4 = 7 then a.pend else none
  let s := s.modArch c fun _ => ({ r.1 with pend := a0.pend, last := pc }.put kSR (f.apply r.1.sr)).put kPC next
  (sysFlush c f s).modCore c fun k => { k with
    arch := { k.arch with pend := newPend }
    loads := k.loads.map fun l => { l with young := l.young + 1 }
    lk := k.lk.map fun win => windowStep a0 w win }

/-- What follows a finished instruction: the end of a window or of a stop, and WDOG. -/
def afterward (c : Nat) (s : State) : State := takeWdog c (takeEntry c (stopCheck c (showPc c (endWindow c s))))

/-- The core executes instructions: in RUN, on a live die, outside gear 0 (R218). -/
def coreRuns (s : State) (c : Nat) : Bool := awlState s c == awlRUN && s.dieUp (c / 32) && s.rdi GEAR_DIE_GEAR (4 * (c / 32)) != 0

/-- One instruction word fetched by a core (R228 to R280).  An exception waits until the instruction is the oldest; an
instruction that needs a pending register, a full resource or a retained memory waits, and its command is given again.  [DESIGN CHOICE 24: notes/assumptions] -/
def awlStep (f : Fetch) (s : State) : State :=
  let c := f.core.val
  let k := s.core c
  let a := k.arch
  let w := f.w.toNat
  let oldest := k.loads == []
  if coreRuns s c = false ∨ k.stopping.isSome then s
  else if (k.lk.isSome ∧ k.loads ≠ []) ∨ (k.loads.head?.any fun l => decide (33 ≤ l.young)) then s
  else match f.err with
    | some st => if oldest then awlRaise c 3 (awlFaultInfo c st (a.get kPSEG * 2 ^ 32 + a.pc) s) else s
    | none =>
      if legalWord w a.ipl = false ∨ (isBranch w ∧ atLoopEnd a a.pc) then (if oldest then awlRaise c 1 s else s)
      else if k.lk.isSome ∧ (breaksWindow w ∨ atLoopEnd a a.pc) then awlRaise c 6 s
      else if ((regUse a w).1 ++ (regUse a w).2).any (fun x => (pendingKeys k).contains x) then s
      else match doWord c w f.w2.toNat s with
        | .stall s => s
        | .raised n s1 =>
          if oldest = false then s
          else if n = 7 then
            let s2 := finish c w a (s1.core c).arch {} none s1
            showPc c (awlExc c 7 (s2.core c).arch.pc s2)
          else awlRaise c n s1
        | .done b fl t s => afterward c (finish c w a b fl t s)

/-- The word of a fetch is of the mnemonic `m`. -/
def isMn (f : Fetch) (m : Mn) : Bool := mnOf f.w.toNat == some m

/-- A row of the Awl core: the word fetched is one of its mnemonic; another word leaves the state (notes/assumptions/5.md).  [DESIGN CHOICE 24: notes/assumptions] -/
def awlRow (m : Mn) (f : Fetch) (s : State) : State := if isMn f m then awlStep f s else s

end Sys2Proof.Machine
end

