-- ==== Sys2Proof/Machine/Welt.lean ====
section
/-! DEFINITION. Welt: addresses and endpoints, the checks of an injecting port, tags, responses, locks, the snoop filter and the
guaranteed service (spec/06_welt_network.md, spec/07_welt_guaranteed_service.md). -/

namespace Sys2Proof.Machine

open Sys2Proof

def State.modWelt (s : State) (f : Welt → Welt) : State := { s with welt := f s.welt }

/-! Endpoints and addresses (R151, R154 to R156) -/

def epDram (ch : Nat) : Nat := 0xC000 + ch
def epQueue : Nat := 0xC008
def epLast : Nat := 0xC009
def epConfig : Nat := 0xC00A
def epPcie : Nat := 0xC00B
def epEth : Nat := 0xC00C
def epBridge (b : Nat) : Nat := 0xC00D + b
def epMgmt : Nat := 0xC00F

/-- Die, local part and region of an endpoint. -/
def epDie (e : Nat) : Nat := e / 4096
def epLocal (e : Nat) : Nat := e % 4096
def epRegion (e : Nat) : Nat := epLocal e / 4

/-- Endpoint of a region: 0 and 1 user endpoints, 2 bank Welt port, 3 Awl core. -/
def epOf (d r k : Nat) : Nat := d * 4096 + 4 * r + k

/-- The endpoint belongs to a region of a fabric die. -/
def epInRegion (e : Nat) : Bool := epDie e < 12 && epLocal e < 128

/-- The endpoint ID is one that R151 lists. -/
def epValid (e : Nat) : Bool := (epDie e < 12 && (epLocal e < 128 || epLocal e == 0x100)) || (epDie e == 12 && epLocal e < 16)

/-- The endpoint is an Awl core, and its core ID (die × 32 + region). -/
def epIsCore (e : Nat) : Bool := epInRegion e && epLocal e % 4 == 3
def epCore (e : Nat) : Nat := epDie e * 32 + epRegion e

/-- Element of the network that serves an endpoint: die × 8 + router, 96 for the hub (R149, R196). -/
def epElem (e : Nat) : Nat :=
  if epDie e = 12 then 96 else if epInRegion e then epDie e * 8 + (epRegion e / 16) * 4 + epRegion e % 8 / 2 else epDie e * 8 + 1

/-- Bytes of DRAM fitted, over the eight channels (R154, DRC_GEOM.SIZE in GiB a channel). -/
def dramBytes (s : State) : Nat := s.rd DRC_GEOM_SIZE * 2 ^ 33

def lastBase : Nat := 0x004000000000
def vaultBase : Nat := 0x004100000000
def bridgeBase : Nat := 0x00C000000000
def mirrorBase : Nat := 0x00F000000000

def inDram (a : Nat) : Bool := a < 2 ^ 38
def inLast (a : Nat) : Bool := lastBase ≤ a && a < lastBase + 0x2000000
def inVault (a : Nat) : Bool := vaultBase ≤ a && a < vaultBase + 0x100000
def inDieSpaces (a : Nat) : Bool := 0x008000000000 ≤ a && a < 0x008C00000000
def inBridge (a : Nat) : Bool := bridgeBase ≤ a && a < bridgeBase + 16 * 2 ^ 33
def inMirror (a : Nat) : Bool := mirrorBase ≤ a && a < mirrorBase + 0x1C00000

/-- The bridge window of an address. -/
def windowOf (a : Nat) : Nat := (a - bridgeBase) / 2 ^ 33

/-- Endpoint that an address names (R155, R156); none where the request is refused with ST_WLT_BADADDR. -/
def addrDst (s : State) (a : Nat) : Option Nat :=
  if inDram a then (if a < dramBytes s then some (epDram (bits a 8 3)) else none)
  else if inLast a || inVault a then some epLast
  else if inDieSpaces a then
    let d := (a - 0x008000000000) / 2 ^ 32
    let o := a % 2 ^ 32
    if o < 0x10000000 then some (epOf d (o / 0x800000) (o / 0x400000 % 2))
    else if o < 0x11000000 then some (epOf d ((o - 0x10000000) / 0x80000) 2)
    else if o < 0x11400000 then some (epOf d ((o - 0x11000000) / 0x20000) 3)
    else none
  else if inBridge a then
    (if s.rdi WLT_BRWIN_EN (8 * windowOf a) = 1 then some (epBridge (windowOf a / 8)) else none)
  else if inMirror a then some epMgmt else none

/-! Operations (R161) -/

def RD : Nat := 0x01
def WR : Nat := 0x02
def WRP : Nat := 0x03
def AADD : Nat := 0x04
def ASWP : Nat := 0x05
def ACAS : Nat := 0x06
def LRD : Nat := 0x07
def ULWR : Nat := 0x08
def UNL : Nat := 0x09
def MSG : Nat := 0x0A
def GWR : Nat := 0x10
def GMSG : Nat := 0x11
def RDR : Nat := 0x20
def WRA : Nat := 0x21
def ATR : Nat := 0x22
def ERR : Nat := 0x23

/-- Class that R161 gives a request op; none for every other op value. -/
def opClass (op : Nat) : Option Nat :=
  if RD ≤ op ∧ op ≤ MSG then some 1 else if op = GWR ∨ op = GMSG then some 0 else none

/-- The op waits for no response. -/
def opPosted (op : Nat) : Bool := op == WRP || op == GWR || op == GMSG

def opAtomic (op : Nat) : Bool := op == AADD || op == ASWP || op == ACAS
def opLock (op : Nat) : Bool := op == LRD || op == ULWR || op == UNL
def opMsg (op : Nat) : Bool := op == MSG || op == GMSG
def opWrites (op : Nat) : Bool := op == WR || op == WRP || op == GWR || op == ULWR || opAtomic op

/-- Normal response of an op. -/
def opAnswer (op : Nat) : Nat := if op = RD ∨ op = LRD then RDR else if opAtomic op then ATR else WRA

/-- Address and byte-range rules (R159 to R161, R165, R166). -/
def aligned (q : Req) : Bool :=
  let u := q.units.getD 0 {}
  if opMsg q.op then q.units.all fun x => x.first ≤ x.last
  else if q.op = RD then
    q.addr % 64 == 0 && !(q.uidx == 0 && decide (q.blast < q.bfirst)) && q.addr % 256 + 64 * q.uidx + q.blast < 256
  else if q.op = LRD ∨ q.op = UNL then q.addr % 8 == 0
  else if q.op = ACAS then q.addr % 8 == 0 && u.first == 0 && u.last == 15
  else if q.op = AADD ∨ q.op = ASWP ∨ q.op = ULWR then q.addr % 8 == 0 && u.first == 0 && u.last == 7
  else q.addr % 64 == 0 && q.addr % 256 + 64 * q.len ≤ 256 && q.units.all fun x => decide (x.first ≤ x.last)

/-! Guaranteed flows (R181 to R194) -/

def Welt.sched (w : Welt) : Sched := if w.bank = 0 then w.sched0 else w.sched1
def State.flowSt (s : State) (f : Nat) : FlowSt := tabGet {} s.welt.flows f
def State.modFlow (s : State) (f : Nat) (g : FlowSt → FlowSt) : State := s.modWelt fun w => { w with flows := tabMod {} w.flows f g }

/-- The flow as schedule `x` has it under variant `v` (R190). -/
def Sched.flow (x : Sched) (v f : Nat) : Flow :=
  match x.variants.find? (fun y => y.1 == v && (y.2.2.any fun p => p.1 == f)) with
  | some y => tabGet {} y.2.2 f
  | none => tabGet {} x.flows f

/-- The flow in the schedule and variant in force. -/
def State.flowNow (s : State) (f : Nat) : Flow := s.welt.sched.flow (s.rd WLT_LACE_VIDX) f

/-- The check of R184 of a class 0 unit. -/
def flowOk (s : State) (q : Req) (dst : Nat) : Bool :=
  q.flow < 1024 && (s.flowSt q.flow).en && (s.flowNow q.flow).src == q.src && (s.flowNow q.flow).dst == dst

/-- What the injecting port answers to a request (R622), its checks in order: refused with a status, or its dst. -/
def injectCheck (s : State) (q : Req) : Nat ⊕ Nat :=
  if opClass q.op ≠ some q.cls ∨ 5 ≤ q.len then .inl ST_WLT_BADOP
  else if q.cls = 0 ∧ s.rd WLT_SVC_STATE = 1 then .inl ST_WLT_MODE
  else
    match (if opMsg q.op then (if epValid q.dst then some q.dst else none) else addrDst s q.addr) with
    | none => .inl ST_WLT_BADADDR
    | some dst =>
      if aligned q = false then .inl ST_WLT_ALIGN
      else if q.cls = 0 ∧ flowOk s q dst = false then .inl ST_WLT_BADFLOW
      else .inr dst

/-! Events and completions -/

/-- A Welt error event is logged and counted. -/
def weltLog (kind op st src dst : Nat) (s : State) : State :=
  (s.push2 WLT_ERRLOG_VALID (op * 2 ^ 24 + kind * 2 ^ 16 + st) (src * 65536 + dst)).inci WLT_ERRCNT_COUNT 0

/-- A live statistic of endpoint `e` grows (R199), while EN is 1, and stops at its maximum. -/
def statAdd (e item n : Nat) (s : State) : State :=
  if s.rd WLT_STCTL_EN = 1 then
    s.modWelt fun w => { w with live := tabMod 0 w.live (e * 32 + item) fun x => min (x + n) (if 4 ≤ item ∧ item < 8 then 2 ^ 64 - 1 else 2 ^ 32 - 1) }
  else s

/-- The units of a request are counted at its injecting port (R199). -/
def statUnits (q : Req) (s : State) : State :=
  let bytes := q.units.foldl (fun n u => n + (u.last + 1 - u.first)) 0
  statAdd q.src (4 + q.cls) bytes (statAdd q.src q.cls (max 1 q.len) s)

/-- Bin of a latency of `l` link cycles of 0.4 ns (R200); edges in tenths of a nanosecond. -/
def latBin (l : Nat) : Nat :=
  ([50, 80, 140, 250, 400, 700, 1200, 2000, 3500, 6000, 10000, 18000, 32000, 56000, 100000].filter fun e => decide (e < 4 * l)).length

/-- A latency sample (R199, R200). -/
def statLatency (e l : Nat) (s : State) : State :=
  if s.rd WLT_STCTL_EN = 1 then
    let s := statAdd e (8 + latBin l) 1 s
    s.modWelt fun w => { w with live := tabMod 0 w.live (e * 32 + 24) fun x => max x (min l (2 ^ 32 - 1)) }
  else s

/-- Every live set is copied into its readable set and cleared (R201). -/
def statCopy (s : State) : State :=
  (s.modWelt fun w => { w with shown := w.live, live := [] }).wr WLT_STSEQ_SEQ (s.rd WLT_STSEQ_SEQ + 1)

/-- A request completes at its initiator. -/
def complete (e tag op st data : Nat) (s : State) : State := s.modWelt fun w => { w with comp := tabSet {} w.comp e ⟨tag, op, st, data⟩ }

/-- The tag is outstanding at that port. -/
def tagBusy (s : State) (e tag : Nat) : Bool := s.welt.out.any fun o => o.src == e && o.tag == tag

/-- A tag is free again. -/
def freeTag (e tag : Nat) (s : State) : State := s.modWelt fun w => { w with out := w.out.filter fun o => !(o.src == e && o.tag == tag) }

/-- The target sends a response. -/
def respond (q : Req) (op st data len : Nat) (s : State) : State :=
  s.modWelt fun w => { w with resps := w.resps ++ [⟨q.src, q.dst, q.tag, op, st, data, len, w.stamp⟩] }

/-- The target refuses a request: ERR with the status, or for a posted request an entry in the log (R162). -/
def refuse (q : Req) (st : Nat) (s : State) : State :=
  if opPosted q.op then weltLog 5 q.op st q.src q.dst s
  else respond q ERR st st 1 (if st = ST_WLT_NO_TARGET then weltLog 4 q.op st q.src q.dst s else s)

/-- The target has done a request: its normal response, none for a posted one. -/
def answer (q : Req) (data : Nat) (s : State) : State :=
  if opPosted q.op then s
  else respond q (opAnswer q.op) 0 data (if q.op = RD then q.uidx + 1 else if opAnswer q.op = WRA then 0 else 1) s

/-- A request waits at its target. -/
def hold (q : Req) (why : Why) (s : State) : State := s.modWelt fun w => { w with held := w.held ++ [⟨q, why⟩] }

/-- A request or message is handed to the unit behind an endpoint. -/
def toInbox (e : Nat) (q : Req) (s : State) : State := s.modWelt fun w => { w with inbox := tabMod [] w.inbox e fun l => l ++ [q] }

/-! Locks (R166) -/

def lineOf (a : Nat) : Nat := a / 64

/-- Owner of a line of a target, if it is locked. -/
def lockOwner (s : State) (tgt line : Nat) : Option Nat := (s.welt.locks.find? fun l => l.tgt == tgt && l.line == line).map Lock.owner

/-- The request touches the line. -/
def touches (q : Req) (line : Nat) : Bool :=
  if opAtomic q.op ∨ opLock q.op then lineOf q.addr == line
  else lineOf q.addr ≤ line && line < lineOf q.addr + (if q.op = RD then q.uidx + 1 else max 1 q.len)

/-- A lock holds the request off: a line it touches is locked by another owner. -/
def lockedOff (s : State) (q : Req) : Bool := s.welt.locks.any fun l => l.tgt == q.dst && touches q l.line && l.owner != q.src

/-- Lines that one owner may hold at a target, and lines of a target's table. -/
def lockCap : Nat := 4
def lockTable (tgt : Nat) : Nat := if tgt = epLast then 256 else 16

/-- Status with which an LRD is refused: a fifth line of its owner, or a full table (R166).  [DEDUCED 34: notes/assumptions] -/
def lrdRefusal (s : State) (q : Req) : Option Nat :=
  if lockOwner s q.dst (lineOf q.addr) = some q.src then none
  else if lockCap ≤ (s.welt.locks.filter fun l => l.tgt == q.dst && l.owner == q.src).length then some ST_WLT_BADOP
  else if lockTable q.dst ≤ (s.welt.locks.filter fun l => l.tgt == q.dst).length then some ST_WLT_LOCKFULL else none

def addLock (tgt line owner : Nat) (s : State) : State :=
  if lockOwner s tgt line = some owner then s else s.modWelt fun w => { w with locks := w.locks ++ [⟨tgt, line, owner⟩] }

def dropLock (tgt line : Nat) (s : State) : State := s.modWelt fun w => { w with locks := w.locks.filter fun l => !(l.tgt == tgt && l.line == line) }

/-! Snoop filter (R176, R177) -/

/-- Lines that Awl cores may cache: the Last store but its context table (R176, R204). -/
def cacheable (a : Nat) : Bool := inLast a && lastBase + 0x200000 ≤ a

def snpMask (s : State) (line : Nat) : Nat := (tabGet {} s.welt.snoop line).mask

/-- Entries of the set of a line, sets being chosen by the line number modulo 4,096 (notes/assumptions/12.md). -/
def snpSet (s : State) (line : Nat) : Tab SnpEnt := s.welt.snoop.filter fun p => p.1 % 4096 == line % 4096

/-- The line to invalidate before `line` can have an entry: the least recently filled of a full set (R177).  [DESIGN CHOICE 12: notes/assumptions] -/
def snpVictim (s : State) (line : Nat) : Option Nat :=
  let l := snpSet s line
  if l.any (fun p => p.1 == line) ∨ l.length < 16 then none
  else l.foldl (fun (b : Option (Nat × Nat)) p => match b with
    | some x => if p.2.order < x.2 then some (p.1, p.2.order) else b
    | none => some (p.1, p.2.order)) none |>.map Prod.fst

/-- A core's bit of a line is set.  [DEDUCED 34: notes/assumptions] -/
def snpSetBit (line core : Nat) (s : State) : State :=
  let isNew := !(s.welt.snoop.any fun p => p.1 == line)
  s.modWelt fun w => { w with snoop := tabMod {} w.snoop line fun e => { mask := e.mask ||| 2 ^ core, order := if isNew then w.fills else e.order }
                              fills := if isNew then w.fills + 1 else w.fills }

/-- The bits of the cores in `m` are cleared; a line without any has no entry. -/
def snpClear (line m : Nat) (s : State) : State :=
  s.modWelt fun w => { w with snoop := (tabMod {} w.snoop line fun e => { e with mask := e.mask &&& (2 ^ 384 - 1 - m % 2 ^ 384) }).filter fun p => p.2.mask != 0 }

/-! Lace time, flow commands and epochs -/

/-- Slots since the lace timebase started, its frame, and slots to a frame (R181). -/
def laceSlots (s : State) : Nat := s.welt.lace / 2
def laceFrame (s : State) : Nat := laceSlots s / 1024

/-- The lace timebase has reached slot `n` counted from its start. -/
def reachLace (n : Nat) (s : State) : State :=
  if s.welt.lace < 2 * n then (s.pass (2 * n / 5 - s.welt.lace / 5)).modWelt fun w => { w with lace := 2 * n } else s

/-- First frame boundary at least `n` frames ahead. -/
def boundaryAfter (n : Nat) (s : State) : Nat := (s.welt.lace + 2047) / 2048 + n

/-- The first of the slots that begins after slot count `at_`. -/
def nextSlot (slots : List Nat) (at_ : Nat) : Option Nat :=
  (slots.map fun x => let base := at_ / 1024 * 1024 + x
                      if at_ < base then base else base + 1024).foldl (fun b x => match b with
    | some y => some (min x y)
    | none => some x) none

/-- The half-width set: every Eyelet whose group 0 is at half width in a direction and that an enabled flow crosses (R192). -/
def halfSet (s : State) : Nat :=
  (List.range 24).foldl (fun m e =>
    if (tabGet {} s.eyes ((e * 2) * 4)).half || (tabGet {} s.eyes ((e * 2 + 1) * 4)).half then
      (if (s.welt.sched.flows.any fun p => bit p.2.eyes e == 1 && (s.flowSt p.1).en) then m + 2 ^ e else m)
    else m) 0

/-- The variant for a half-width set: 0 for the empty set (R192). -/
def variantFor (x : Sched) (set : Nat) : Option Nat :=
  if set = 0 then some 0 else (x.variants.find? fun v => v.2.1 == set).map Prod.fst

/-- A drop of Eyelet `e` to half width (R192): the variant of the new set is in force, or the dies at its ends enter SAFE. -/
def weltHalfWidth (e : Nat) (dies : List (Nat × Nat)) (s : State) : State :=
  if s.rd WLT_SVC_STATE ≠ 3 then s
  else
    let set := halfSet s
    let crossed := bit set e == 1
    let s := s.wr WLT_HALFSET_HALF set
    match variantFor s.welt.sched set with
    | some v => s.wr WLT_LACE_VIDX v
    | none => if crossed then s.fault ST_HW_WLT_NOVARIANT (48 + e) dies [set] else s

/-- Flow `f` differs between two schedules with their variants (R194). -/
def flowAffected (a b : Sched) (va vb f : Nat) : Bool :=
  let x := a.flow va f
  let y := b.flow vb f
  x.cells != y.cells || x.dly != y.dly || x.slots != y.slots

/-- Elements whose route from some element differs between the two banks (R196). -/
def movedMask (a b : Sched) : List Nat :=
  (List.range 97).filter fun t => (List.range 97).any fun x => tabGet 0 a.routes (x * 128 + t) != tabGet 0 b.routes (x * 128 + t)

/-- Old-epoch units in flight (R196). -/
def oldCount (s : State) : Nat := (s.welt.resps.filter fun x => x.epoch != s.welt.stamp).length

/-- An epoch change begins (R193, R195 step 1): the inactive bank takes the new tables, except for a rollback, whose bank is
kept unchanged. -/
def epochStart (cause : Nat) (new : Sched) (frame : Option Nat) (s : State) : State :=
  (s.modWelt fun w =>
    let w := if cause = 2 then w else if w.bank = 0 then { w with sched1 := new } else { w with sched0 := new }
    { w with chg := { cause, frame, moved := movedMask w.sched0 w.sched1 } }).wr WLT_EPOCH_STATE 1

/-- Flow enables under a schedule newly in force: a context it shares with the one before keeps its enable, another takes its
initial value (R183, R189).  [DESIGN CHOICE 33: notes/assumptions] -/
def takeEnables (old new : Sched) (s : State) : State :=
  new.flows.foldl (fun s p => if old.flows.any (fun q => q.1 == p.1) then s else s.modFlow p.1 fun x => { x with en := p.2.en0 }) s

/-- A change of lace bank is due at frame `f` (R195), or of the width of an Eyelet (R141). -/
def bankChanges (s : State) (f : Nat) : Bool := s.rd WLT_EPOCH_STATE == 2 && f == s.rd WLT_EPOCHF_F
def widthChanges (s : State) (f : Nat) : Bool := s.eyes.any fun p => p.2.halfAt == some f

/-- The widths, the bank and the enables after the changes due at frame `f`. -/
def afterSeam (f : Nat) (s : State) : State :=
  let t : State := { s with eyes := s.eyes.map fun p => if p.2.halfAt = some f then (p.1, { p.2 with half := true }) else p }
  if bankChanges s f then
    let t := t.modWelt fun w => { w with bank := 1 - w.bank }
    takeEnables s.welt.sched t.welt.sched t
  else t

/-- Slot count `at_` lies in the seam window of a change of bank or variant, and the flow is affected by it (R194). -/
def inSeam (s : State) (f at_ : Nat) : Bool :=
  let b := at_ / 1024 + 1
  decide (1010 ≤ at_ % 1024) && (bankChanges s b || widthChanges s b) &&
    (let t := afterSeam b s
     flowAffected s.welt.sched t.welt.sched (s.rd WLT_LACE_VIDX)
       ((variantFor t.welt.sched (halfSet t)).getD (if bankChanges s b then 0 else s.rd WLT_LACE_VIDX)) f)

/-- The class 0 units of a flow still at its port or in the network. -/
def flowBusy (s : State) (f : Nat) : Bool := !(s.flowSt f).queue.isEmpty || s.welt.gfly.any fun q => q.2.flow == f

/-- WLT_FLOWCMD completes. -/
def flowDone (st : Nat) (s : State) : State := (s.wr WLT_FLOWCMD_STATUS st).wr WLT_FLOWCMD_BUSY 0

/-- A write of WLT_FLOWCMD with GO (R189): ignored while BUSY; an invalid command completes at once. -/
def flowCmd (op f : Nat) (s : State) : State :=
  if s.rd WLT_FLOWCMD_BUSY = 1 then s
  else
    let s := ((s.wr WLT_FLOWCMD_OP op).wr WLT_FLOWCMD_FLOW f).wr WLT_FLOWCMD_BUSY 1
    let t := s.rd WLT_FLOWCMD2_TO
    if op = 0 ∨ (op = 3 ∧ ((s.flowSt t).en = true ∨ (s.flowNow t).dst ≠ (s.flowNow f).dst)) then flowDone ST_WLT_BADFLOW s
    else s.modWelt fun w => { w with flowAt := boundaryAfter 2 s }

/-- FLOW_ENABLE (R189). -/
def execFlowEnable (f : Fin 1024) (s : State) : Out := .next (flowCmd 1 f s)

/-- FLOW_DISABLE (R189). -/
def execFlowDisable (f : Fin 1024) (s : State) : Out := .next (flowCmd 2 f s)

/-- FLOW_HANDOVER (R189): the target context is WLT_FLOWCMD2.TO. -/
def execFlowHandover (f : Fin 1024) (s : State) : Out := .next (flowCmd 3 f s)

/-- The disable of WLT_FLOWCMD completes once the flow's last unit is delivered (R189). -/
def flowDrained (s : State) : State :=
  let f := s.rd WLT_FLOWCMD_FLOW
  if s.rd WLT_FLOWCMD_BUSY = 1 ∧ s.rd WLT_FLOWCMD_OP = 2 ∧ (s.flowSt f).en = false ∧ flowBusy s f = false then flowDone 0 s else s

/-- FLOW_COMMAND_BOUNDARY (R189): the boundary of the command in progress. -/
def execFlowCommandBoundary (s : State) : Out :=
  if s.rd WLT_FLOWCMD_BUSY = 0 then .next s
  else
    let f := s.rd WLT_FLOWCMD_FLOW
    let s := reachLace (s.welt.flowAt * 1024) s
    if s.rd WLT_FLOWCMD_OP = 1 then .next (flowDone 0 (s.modFlow f fun x => { x with en := true }))
    else if s.rd WLT_FLOWCMD_OP = 2 then .next (flowDrained (s.modFlow f fun x => { x with en := false }))
    else .next (flowDone 0 ((s.modFlow f fun x => { x with en := false }).modFlow (s.rd WLT_FLOWCMD2_TO) fun x => { x with en := true }))

/-- Step 4 of R195: at F the new epoch is stamped and the new lace bank is in force, with the variant of the
present half-width set.  [DEDUCED 23: notes/assumptions] -/
def epochBoundary (s : State) : State :=
  let s := reachLace (s.rd WLT_EPOCHF_F * 1024) s
  let old := s.welt.sched
  let s := (s.modWelt fun w => { w with stamp := 1 - w.stamp, bank := 1 - w.bank }).wr WLT_EPOCH_STATE 3
  let s := takeEnables old s.welt.sched (s.wr WLT_LACE_SBANK s.welt.bank)
  let set := halfSet s
  (s.wr WLT_HALFSET_HALF set).wr WLT_LACE_VIDX ((variantFor s.welt.sched set).getD 0)

/-- EPOCH_DRAIN_TIMEOUT (R195 step 6). -/
def execEpochDrainTimeout (s : State) : Out :=
  if s.rd WLT_EPOCH_STATE = 3 then .next ((s.wr WLT_EPOCH_DRAINTO 1).recordOpen 12 [s.rd WLT_EPOCHF_F]) else .next s

/-- STATS_WINDOW_END (R201): no window ends while WINDOW is 0. -/
def execStatsWindowEnd (s : State) : Out :=
  if s.rd WLT_STCTL_WINDOW = 0 then .next s
  else .next (statCopy (s.modWelt fun w => { w with flows := w.flows.map fun p => (p.1, { p.2 with ovrSaid := false }) }))

/-- STATS_SNAP (R201): a write of WLT_STCTL.SNAP. -/
def execStatsSnap (s : State) : Out := .next (statCopy s)

/-! Service modes (R174, R175) -/

/-- A change of service mode is due (R175 step 1).  [DEDUCED 38: notes/assumptions] -/
def svcStart (to_ : Nat) (after : Option Nat) (s : State) : State :=
  (s.modWelt fun w => { w with svcTo := some to_, after }).wr WLT_SVC_STATE 2

/-- SERVICE_SPLIT_WRITE: a write of WLT_SVCREQ.SPLIT (R174): in HOLD it starts the change it asks for; elsewhere it is ignored
and sets REQIGN. -/
def execServiceSplitWrite (split : Bool) (s : State) : Out :=
  if s.mode ≠ HOLD then .next (s.wr WLT_SVC_REQIGN 1)
  else
    let s := s.wr WLT_SVCREQ_SPLIT split.toNat
    if split = true ∧ s.rd WLT_SVC_STATE = 3 then .next (svcStart 1 none s)
    else if split = false ∧ s.rd WLT_SVC_STATE = 1 then .next (svcStart 3 none s)
    else .next s

/-- WELT_BUFFER_UE (R179): the buffer of an element (die × 8 + router, 96 the hub, or the endpoint's element) loses a unit. -/
def execWeltBufferUe (elem : Fin 97) (op src dst : Nat) (s : State) : Out :=
  let s := weltLog 8 (op % 64) ST_HW_WLT_UE (src % 65536) (dst % 65536) s
  let m := elem.val % 8
  let regs := (List.range 32).foldl (fun n r => if r / 16 = m / 4 ∧ r % 8 / 2 = m % 4 then n + 2 ^ r else n) 0
  .next (s.fault ST_HW_WLT_UE (if elem.val = 96 then 12 else elem.val / 8) (if elem.val = 96 then s.allRegions else [(elem.val / 8, regs)])
    [elem.val, (src % 65536) * 65536 + dst % 65536])

end Sys2Proof.Machine
end

