-- ==== Sys2Proof/Machine/Dram.lean ====
section
/-! DEFINITION. DRAM channels: mapping, line code, write queue, refresh, training, tracking, zero fill and remap
(spec/13_dram.md). -/

namespace Sys2Proof.Machine

open Sys2Proof

def State.chan (s : State) (c : Nat) : Chan := tabGet {} s.chans c
def State.modChan (s : State) (c : Nat) (f : Chan → Chan) : State := { s with chans := tabMod {} s.chans c f }

/-- Offset of the registers of channel `c`. -/
def oCh (c : Nat) : Nat := c * 0x200

def drcState (s : State) (c : Nat) : Nat := s.rdi DRC_CHSTAT_STATE (oCh c)
def drcDOWN : Nat := 0
def drcTRAINING : Nat := 1
def drcREADY : Nat := 2
def drcRETRAINING : Nat := 3
def drcFAILED : Nat := 4

/-- The channel shows a state; READY and FAILED have their bits in DRC_STAT. -/
def setDrc (c v : Nat) (s : State) : State :=
  let put := fun (f : Fld) (on : Bool) (s : State) => s.wr f (if on then s.rd f ||| 2 ^ c else s.rd f &&& (255 - 2 ^ c))
  put DRC_STAT_FAILED (v == drcFAILED) (put DRC_STAT_READY (v == drcREADY || v == drcRETRAINING) (s.wri DRC_CHSTAT_STATE (oCh c) v))

/-! Address mapping (R343) -/

/-- Line index within its channel of a Welt address of the DRAM window. -/
def lineOfAddr (a : Nat) : Nat := (bits a 11 27 * 256 + a % 256) / 64

/-- Welt address of a line of a channel. -/
def addrOfLine (c line : Nat) : Nat := line * 64 / 256 * 2048 + c * 256 + line * 64 % 256

/-- Pairs backed by the window in a channel. -/
def drcPairs (s : State) : Nat := s.rd DRC_GEOM_SIZE * 2 ^ 23

/-- Bank index and row of a pair (R343). -/
def pairBank (s : State) (p : Nat) : Nat × Nat :=
  let colb := s.rd DRC_GEOM_COLB
  let row := p / 2 ^ (3 + colb + 2)
  (4 * (bits p 1 3 ^^^ row % 8) + bits p (3 + colb) 2, row)

/-! Events and checks (R344 to R346) -/

/-- An entry of DRC_ERRLOG. -/
def drcWord (kind c dev st : Nat) : Nat := kind * 2 ^ 26 + c * 2 ^ 23 + dev * 2 ^ 18 + st

def drcLog (kind c dev st line : Nat) (s : State) : State := s.push2 DRC_ERRLOG_VALID (drcWord kind c dev st) line

/-- Source number of a channel in a black-box record (R582). -/
def drcSource (c : Nat) : Nat := 40 + c

/-- Location of a line (R378). -/
def lineLoc (c line : Nat) : Nat := c * 2 ^ 29 + line

/-- A read of a line from the devices (R345): clean, corrected and posted for rewrite, or uncorrectable. -/
def lineCheck (c line : Nat) (s : State) : State × Bool :=
  let m := tabGet 0 (s.chan c).marks line
  if m = 0 then (s, true)
  else if m ≤ 20 then (cobCorrected 4 12 (lineLoc c line) (drcLog 1 c (m - 1) 0 line (s.inci DRC_CECNT_COUNT (oCh c))), true)
  else
    let s := drcLog 2 c 31 ST_ECC_UE line (s.inci DRC_UECNT_COUNT (oCh c))
    let s := cobUncorrectable 4 12 (lineLoc c line) ST_ECC_UE s
    (s.recordSt ST_ECC_UE (drcSource c) [drcWord 2 c 31 ST_ECC_UE, line], false)

def setLineMark (c line v : Nat) (s : State) : State := s.modChan c fun k => { k with marks := tabSet 0 k.marks line v }

/-- Bytes of a line. -/
def lineData (s : State) (c line : Nat) : Nat := s.rdMem 64 (addrOfLine c line)

/-- Bytes of `old` replaced by those of `new` in the byte mask. -/
def mergeLine (old new mask : Nat) : Nat :=
  (List.range 64).foldl (fun n i => n + (if bit mask i = 1 then bits new (8 * i) 8 else bits old (8 * i) 8) * 2 ^ (8 * i)) 0

/-- Byte mask of a range. -/
def rangeMask (first last : Nat) : Nat := 2 ^ (last + 1) - 2 ^ first

def fullMask : Nat := 2 ^ 64 - 1

/-! Write queue (R347 to R351) -/

def wqCap : Nat := 64

def wqEntry (s : State) (c line : Nat) : Option WqEnt := (s.chan c).wq.find? fun e => e.line == line

/-- The row of a pair is open after an access; with CYC 0 the bank is precharged again (R352). -/
def touchRow (c p : Nat) (s : State) : State :=
  let (b, row) := pairBank s p
  s.modChan c fun k => { k with rows := tabSet 0 k.rows b (if s.rdi DRC_IDLE_CYC (oCh c + 4 * b) = 0 then 0 else row + 1) }

/-- One queued line is written (R346, R350): whole, merged into what was read, or poisoned. -/
def drainLine (c : Nat) (e : WqEnt) (readPair : Bool) (s : State) : State :=
  if e.mask = fullMask then
    setLineMark c e.line 0 ((if readPair then (lineCheck c e.line s).1 else s).wrMem 64 (addrOfLine c e.line) e.data)
  else
    let m := tabGet 0 (s.chan c).marks e.line
    let s := (lineCheck c e.line s).1
    let s := s.wrMem 64 (addrOfLine c e.line) (mergeLine (lineData s c e.line) e.data e.mask)
    if 20 < m then
      (drcLog 3 c 31 ST_ECC_UE e.line (setLineMark c e.line 101 s)).recordSt ST_ECC_UE (drcSource c) [drcWord 3 c 31 ST_ECC_UE, e.line]
    else setLineMark c e.line 0 s

/-- A pair is drained (R350); a partner line without an entry is written back as read, or as corrected.  [DESIGN CHOICE 11: notes/assumptions] -/
def drainPair (c p : Nat) (s : State) : State :=
  let es := (s.chan c).wq.filter fun e => e.line / 2 == p
  if es = [] then s
  else
    let whole := es.length == 2 && es.all fun e => e.mask == fullMask
    let s := es.foldl (fun s e => drainLine c e (!whole) s) s
    let s := [2 * p, 2 * p + 1].foldl (fun s l =>
      if es.any (fun e => e.line == l) then s
      else
        let m := tabGet 0 (s.chan c).marks l
        let s := (lineCheck c l s).1
        if 0 < m ∧ m ≤ 20 then setLineMark c l 0 s else s) s
    touchRow c p (s.modChan c fun k => { k with wq := k.wq.filter fun e => e.line / 2 != p })

/-- A read of the bytes of a line in `mask` (R349, R360): the data, and whether it is good. -/
def readLine (c line mask : Nat) (s : State) : Nat × Bool × State :=
  if line / 2 < s.rdi DRC_FILLWM_WM (oCh c) then (0, true, s)
  else
    match wqEntry s c line with
    | some e =>
      if e.mask &&& mask = mask then (e.data, true, s.inci DRC_FWDCNT_COUNT (oCh c))
      else
        let s := drainPair c (line / 2) (s.inci DRC_RAWWAIT_COUNT (oCh c))
        let r := lineCheck c line s
        (lineData r.1 c line, r.2, touchRow c (line / 2) r.1)
    | none =>
      let r := lineCheck c line s
      (lineData r.1 c line, r.2, touchRow c (line / 2) r.1)

/-- Bytes enter the write queue (R348). -/
def queueWrite (c line mask data : Nat) (s : State) : State :=
  s.modChan c fun k =>
    if k.wq.any fun e => e.line == line then
      { k with wq := k.wq.map fun e => if e.line = line then { e with mask := e.mask ||| mask, data := mergeLine e.data data mask } else e }
    else { k with wq := k.wq ++ [⟨line, mask, mergeLine 0 data mask⟩] }

/-- What a target makes of a request: done, with the data of its response; refused; or it waits. -/
inductive Ans where
  | ok (data : Nat)
  | err (st : Nat)
  | wait (why : Why)
  deriving DecidableEq, Repr

/-- Lines that a write touches, with their masks and data. -/
def writeLines (q : Req) : List (Nat × Nat × Nat) :=
  (List.range q.units.length).map fun i =>
    let u := q.units.getD i {}
    (lineOfAddr q.addr + i, rangeMask u.first u.last, u.data)

/-- The new value of an atomic, if it writes (R165). -/
def atomicNew (q : Req) (old : Nat) : Option Nat :=
  let d := (q.units.getD 0 {}).data
  if q.op = AADD then some ((old + d % 2 ^ 64) % 2 ^ 64)
  else if q.op = ASWP then some (d % 2 ^ 64)
  else if old = d % 2 ^ 64 then some (bits d 64 64) else none

/-- A request at its channel controller (R345 to R351, R359, R360). -/
def dramServe (q : Req) (s : State) : Ans × State :=
  let c := bits q.addr 8 3
  let st := drcState s c
  let wm := s.rdi DRC_FILLWM_WM (oCh c)
  if opLock q.op ∨ q.op = MSG then (.err ST_WLT_BADOP, s)
  else if st = drcFAILED then (.err ST_HW_DRC_CHANNEL, s)
  else if st ≠ drcREADY then (.wait .dram, s)
  else if q.op = RD then
    let (data, good, s) := (List.range (q.uidx + 1)).foldl (fun (r : Nat × Bool × State) u =>
      let m := rangeMask (if u = 0 then q.bfirst else 0) (if u = q.uidx then q.blast else 63)
      let x := readLine c (lineOfAddr q.addr + u) m r.2.2
      (r.1 + x.1 * 2 ^ (512 * u), r.2.1 && x.2.1, x.2.2)) (0, true, s)
    (if good then .ok data else .err ST_ECC_UE, s)
  else if opAtomic q.op then
    let line := lineOfAddr q.addr
    let off := q.addr % 64
    if line / 2 < wm then (.wait .dram, s)
    else
      let s0 := s
      let (data, good, s) := readLine c line (rangeMask off (off + 7)) s
      let old := bits data (8 * off) 64
      if good = false then (.err ST_ECC_UE, s)
      else match atomicNew q old with
        | some v =>
          if (wqEntry s c line).isNone ∧ wqCap ≤ (s.chan c).wq.length then (.wait .dram, s0)
          else (.ok old, queueWrite c line (rangeMask off (off + 7)) (v * 2 ^ (8 * off)) s)
        | none => (.ok old, s)
  else
    let ls := writeLines q
    let fresh := (ls.filter fun l => (wqEntry s c l.1).isNone).length
    if ls.any (fun l => decide (l.1 / 2 < wm)) ∨ (0 < fresh ∧ wqCap < (s.chan c).wq.length + fresh) then (.wait .dram, s)
    else (.ok 0, ls.foldl (fun s l => queueWrite c l.1 l.2.1 l.2.2 s) s)

/-- DRAM_PAGE_IDLE_EXPIRY (R352). -/
def execDramPageIdleExpiry (c : Fin 8) (b : Fin 32) (s : State) : Out := .next (s.modChan c fun k => { k with rows := tabErase k.rows b })

/-- DRAM_REFRESH (R355): a refresh of the bank falls due; it may be postponed while requests wait, four times at most, and it
precharges the bank. -/
def execDramRefresh (c : Fin 8) (b : Fin 32) (postpone : Bool) (s : State) : Out :=
  if drcState s c ≠ drcREADY then .next s
  else if postpone = true ∧ tabGet 0 (s.chan c).post b < 4 then .next (s.modChan c fun k => { k with post := tabMod 0 k.post b (· + 1) })
  else .next (s.modChan c fun k => { k with post := tabErase k.post b, rows := tabErase k.rows b })

/-- DRAM_TEMPERATURE_READ (R355, R356): the hottest device of the channel, in °C. -/
def execDramTemperatureRead (c : Fin 8) (t : Int) (s : State) : Out :=
  let o := oCh c
  let s := if 85 < t then s.wri DRC_CHSTAT_TRATE o 1 else if t < 82 then s.wri DRC_CHSTAT_TRATE o 0 else s
  if 95 < t ∧ s.rdi DRC_CHSTAT_HOT o = 0 then
    .next (((drcLog 9 c 31 0 0 (s.wri DRC_CHSTAT_HOT o 1)).wri DRC_CHSTAT_TRATE o 1).record 0x000B (drcSource c) 2 [drcWord 9 c 31 0])
  else if t < 92 then .next (s.wri DRC_CHSTAT_HOT o 0)
  else .next s

/-! Training (R357 to R362) -/

/-- Key of an eye: channel, direction (0 read, 1 write) and byte lane. -/
def eyeKey (c dir lane : Nat) : Nat := c * 20 + dir * 10 + lane

/-- The longest run of passing delays at Vref step `v`, the lower first delay of two equal ones (R358); runs are given as
(eye key, Vref step, first, last). -/
def longestRun (runs : List (Nat × Nat × Nat × Nat)) (key v : Nat) : Option (Nat × Nat) :=
  runs.foldl (fun (b : Option (Nat × Nat)) r =>
    if r.1 = key ∧ r.2.1 = v ∧ r.2.2.1 ≤ r.2.2.2 then
      (match b with
      | none => some r.2.2
      | some x => if x.2 + 1 - x.1 < r.2.2.2 + 1 - r.2.2.1 ∨ (x.2 + 1 - x.1 = r.2.2.2 + 1 - r.2.2.1 ∧ r.2.2.1 < x.1) then some r.2.2 else b)
    else b) none

/-- One step of the search of R358: width, Vref, left and right of the best run so far. -/
def eyeStep (runs : List (Nat × Nat × Nat × Nat)) (key : Nat) (best : Nat × Nat × Nat × Nat) (v : Nat) : Nat × Nat × Nat × Nat :=
  match longestRun runs key v with
  | some (l, r) => if best.1 < r + 1 - l then (r + 1 - l, v, l, r) else best
  | none => best

/-- The eye found by R358: width 0 where no point passes. -/
def eyeSearch (runs : List (Nat × Nat × Nat × Nat)) (key : Nat) : Nat × Nat × Nat × Nat :=
  let b := ((List.range 16).map (4 * ·)).foldl (eyeStep runs key) (0, 0, 0, 0)
  let v1 := b.2.1
  (((List.range 7).map fun i => v1 + i).filter fun x => 3 ≤ x && x - 3 < 64).foldl (fun b x => eyeStep runs key b (x - 3)) b

/-- The lanes of a channel take the eyes found; false when one is narrower than MINEYE (R357 steps 4 to 6).  [DEDUCED 30: notes/assumptions] -/
def trainEyes (c : Nat) (lanes : List Nat) (runs : List (Nat × Nat × Nat × Nat)) (s : State) : State × Bool :=
  lanes.foldl (fun (r : State × Bool) i =>
    let e := eyeSearch runs (c * 20 + i)
    (r.1.modChan c fun k => { k with eyes := tabSet {} k.eyes i ⟨e.2.2.1, e.2.2.2, (e.2.2.1 + e.2.2.2) / 2, e.2.1⟩ },
     r.2 && decide (s.rd DRC_TRKCFG_MINEYE ≤ e.1))) (s, true)

/-- The lines of a channel lose their contents, marks and remaps; NEXT and the fill start again (R360, R362, R364, R365). -/
def channelLost (c : Nat) (s : State) : State :=
  let s := { s with mem := s.mem.filter fun p => !(decide (p.1 < 2 ^ 38) && bits p.1 8 3 == c) }
  let s := s.modChan c fun k => { k with wq := [], marks := [], rows := [], post := [] }
  let s := (List.range 16).foldl (fun s e => ((s.wri DRC_REMAPA_VALID (oCh c + 8 * e) 0).wri DRC_REMAPA_LINE (oCh c + 8 * e) 0).wri DRC_REMAPB_SPARE (oCh c + 8 * e) 0) s
  (s.wri DRC_SPNEXT_NEXT (oCh c) 0).wri DRC_FILLWM_WM (oCh c) (drcPairs s)

/-- A channel trains (R357 to R359): READY and ready to fill, or FAILED.  [DEDUCED 30: notes/assumptions] -/
def drcTrain (runs : List (Nat × Nat × Nat × Nat)) (c : Nat) (s : State) : State :=
  let s := channelLost c s
  let s := s.wr DRC_STAT_FILLED (s.rd DRC_STAT_FILLED &&& (255 - 2 ^ c))
  let (s, ok) := trainEyes c (List.range 20) runs s
  if ok then (setDrc c drcREADY s).wri DRC_CHSTAT_REASON (oCh c) 0
  else ((setDrc c drcFAILED s).wri DRC_CHSTAT_REASON (oCh c) ST_HW_DRC_TRAIN).recordSt ST_HW_DRC_TRAIN (drcSource c) [drcWord 8 c 31 ST_HW_DRC_TRAIN]

/-- A byte lane of a READY channel retrains (R362): KIND 6, or the channel fails and the module enters SAFE. -/
def retrainLane (c lane : Nat) (runs : List (Nat × Nat × Nat × Nat)) (s : State) : State × Bool :=
  let (s, ok) := trainEyes c [lane, 10 + lane] runs s
  if ok then (drcLog 6 c lane 0 0 s, true)
  else
    let s := (setDrc c drcFAILED s).wri DRC_CHSTAT_REASON (oCh c) ST_HW_DRC_TRAIN
    let s := drcLog 8 c 31 ST_HW_DRC_TRAIN 0 s
    (s.fault ST_HW_DRC_TRAIN (drcSource c) s.allRegions [drcWord 8 c 31 ST_HW_DRC_TRAIN], false)

/-- A centre moves toward a new one by at most two steps (R361). -/
def moveCentre (old new : Nat) : Nat := if old + 2 ≤ new then old + 2 else if new + 2 ≤ old then old - 2 else new

/-- A track (R361, R362): `edges` gives, by direction × 10 + lane, the edges found within ±16 steps of the stored ones; an eye
that it does not name lost an edge. -/
def drcTrack (c : Nat) (edges : List (Nat × Nat × Nat)) (runs : List (Nat × Nat × Nat × Nat)) (s : State) : State :=
  let found := fun i => edges.find? fun e => e.1 == i
  let s := (List.range 20).foldl (fun s i => match found i with
    | some (_, l, r) => s.modChan c fun k => { k with eyes := tabMod {} k.eyes i fun e => { e with left := l, right := r, centre := moveCentre e.centre ((l + r) / 2) } }
    | none => s) s
  let narrow := fun i => match found i with
    | some (_, l, r) => decide (r + 1 < l + s.rd DRC_TRKCFG_MINEYE)
    | none => true
  (List.range 10).foldl (fun s lane =>
    if (narrow lane || narrow (10 + lane)) && drcState s c == drcREADY then
      (if s.rd DRC_CTL_AUTORTR = 1 then (retrainLane c lane runs s).1 else drcLog 7 c lane 0 0 s)
    else s) s

/-- A channel has FAILED, which refuses every load and staging (R359). -/
def channelFailed (s : State) : Bool := (List.range 8).any fun c => drcState s c == drcFAILED

/-- DRC_CHCMD completes. -/
def chcmdDone (c st : Nat) (s : State) : State :=
  { ((s.wri DRC_CHCMD_STATUS (oCh c) st).wri DRC_CHCMD_BUSY (oCh c) 0) with asked := s.asked.erase (DRC_CHCMD_BUSY.adr + oCh c) }

/-- A GO is ignored while BUSY, unless it came through the register map and waits for its row. -/
def chcmdBusy (c : Nat) (s : State) : Bool := s.rdi DRC_CHCMD_BUSY (oCh c) == 1 && !s.asked.contains (DRC_CHCMD_BUSY.adr + oCh c)

/-! Remap (R363, R364) -/

/-- The remap of the pair of a line (R363, R364); `bad` is how many spares in turn fail their readback.  The status, 0 when it is made;
nothing is reported. -/
def remapPair (c line bad : Nat) (s : State) : State × Nat :=
  let o := oCh c
  let p := line / 2
  let old := (List.range 16).find? fun e => s.rdi DRC_REMAPA_VALID (o + 8 * e) == 1 && s.rdi DRC_REMAPA_LINE (o + 8 * e) / 2 == p
  let slot := match old with
    | some e => some e
    | none => (List.range 16).find? fun e => s.rdi DRC_REMAPA_VALID (o + 8 * e) == 0
  let next := s.rdi DRC_SPNEXT_NEXT o
  if drcState s c ≠ drcREADY then (s, ST_DRC_STATE)
  else match slot with
    | none => (s, ST_DRC_REMAP_FULL)
    | some e =>
      if 7680 ≤ next ∨ 4 ≤ bad ∨ 7680 ≤ next + bad then (s, ST_DRC_REMAP_FULL)
      else
        let s := drainPair c p s
        let s := [2 * p, 2 * p + 1].foldl (fun s l =>
          let m := tabGet 0 (s.chan c).marks l
          let s := (lineCheck c l s).1
          setLineMark c l (if 20 < m then 101 else 0) s) s
        (((((s.wri DRC_REMAPA_VALID (o + 8 * e) 1).wri DRC_REMAPA_LINE (o + 8 * e) line).wri DRC_REMAPB_SPARE (o + 8 * e) (next + bad)).wri DRC_SPNEXT_NEXT o (next + bad + 1)), 0)

/-- A remap of a line is made or refused, reported and recorded (R364, R375, R378). -/
def drcRemap (c line bad : Nat) (s : State) : State × Nat :=
  let x := remapPair c line bad s
  let loc := lineLoc c line
  if x.2 = 0 then (rsRecord 4 12 loc (remapMade 4 12 loc (drcLog 4 c 31 0 line x.1)), 0)
  else (remapRefused 4 12 loc x.2 (drcLog 5 c 31 x.2 line x.1), x.2)

/-- DRC_REMAP: DRC_CHCMD operation 3 on the line of DRC_CHARG. -/
def execDrcRemap (c : Fin 8) (bad : Nat) (s : State) : Out :=
  if chcmdBusy c s then .next s
  else
    let s := s.wri DRC_CHCMD_OP (oCh c) 3
    let line := s.rdi DRC_CHARG_LINE (oCh c)
    if 2 * drcPairs s ≤ line then .next (chcmdDone c ST_DRC_BADCMD s)
    else
      let r := drcRemap c line bad s
      .next (chcmdDone c r.2 r.1)

end Sys2Proof.Machine
end

