-- ==== Sys2Proof/Machine/Queues.lean ====
section
/-! DEFINITION. The queue engine: contexts, operations, notification and commands; and the delivery of messages to MSI-X
vectors, Awl cores and user endpoints (spec/08_queues_and_last_store.md, R413). -/

namespace Sys2Proof.Machine

open Sys2Proof

/-! Delivery of messages -/

def State.modPcie (s : State) (f : Pcie → Pcie) : State := { s with pcie := f s.pcie }

/-- Vector control word of a vector is masked: bit 0, 1 after a reset of the port.  [PRESUMED 31: notes/assumptions] -/
def vecMasked (s : State) (v : Nat) : Bool := tabGet 1 (s.pcie.table.filter fun p => p.1 % 4 == 3) (4 * v + 3) % 2 == 1

/-- An MSI-X message of vector `v` (R413): false where it is not delivered. -/
def sendMsix (v : Nat) (s : State) : Bool × State :=
  let p := s.pcie
  if 2048 ≤ v ∨ p.msixEn = false ∨ p.busMaster = false ∨ s.rd PCI_STAT_SPEED = 0 ∨ s.rd PCI_STAT_DSTATE = 3 then (false, s)
  else if p.funcMask ∨ vecMasked s v then (true, s.modPcie fun p => { p with pend := if p.pend.contains v then p.pend else p.pend ++ [v] })
  else (true, s.modPcie fun p => { p with sent := p.sent ++ [v] })

/-- Region `r` of die `d` serves its Welt endpoints: the die is live and the region is loaded (R48, R153). -/
def endpointsOn (s : State) (d r : Nat) : Bool :=
  s.rdi GLB_DIESTAT_STATE (4 * d) == 1 && s.dieUp d && s.rdi FDC_RSTAT_LOADED (oReg d r) == 1 && !(s.region (rix d r)).epOff

/-- The region is faulted: the module is in SAFE and GLB_SAFEREG names it. -/
def regionFaulted (s : State) (d r : Nat) : Bool := s.mode == SAFE && bit (s.rdi GLB_SAFEREG_MASK (4 * d)) r == 1

/-- A message `q` to the endpoint `q.dst`, a user endpoint or an Awl core (R162, R242): its status, 0 for WRA. -/
def deliverMsg (q : Req) (s : State) : Nat × State :=
  let d := epDie q.dst
  let r := epRegion q.dst
  if !epInRegion q.dst || epLocal q.dst % 4 == 2 then (ST_WLT_BADOP, s)
  else if endpointsOn s d r = false then (ST_WLT_NO_TARGET, s)
  else if epIsCore q.dst ∧ s.modes.clamped.contains (1, d, r) = true then (ST_PEER_RESET, s)
  else if epIsCore q.dst then
    let x := coreMsg (epCore q.dst) q.addr s
    (if x.1 then 0 else ST_AWL_MSGFULL, x.2)
  else (0, toInbox q.dst q (wakeAll d r 0 s))

/-! Contexts (R206) -/

def ctxAddr (q k : Nat) : Nat := lastBase + 32 * q + 8 * k
def ctxWord (s : State) (q k : Nat) : Nat := s.rdMem 8 (ctxAddr q k)
def setCtxWord (q k v : Nat) (s : State) : State := s.wrMem 8 (ctxAddr q k) v
def setCtx (q k lo w v : Nat) (s : State) : State := setCtxWord q k (putBits (ctxWord s q k) lo w v) s

def qNthr (s : State) (q : Nat) : Nat := bits (ctxWord s q 0) 59 5
def qNmode (s : State) (q : Nat) : Nat := bits (ctxWord s q 0) 56 3
def qEn (s : State) (q : Nat) : Bool := bit (ctxWord s q 0) 55 == 1
def qMc (s : State) (q : Nat) : Bool := bit (ctxWord s q 0) 54 == 1
def qMp (s : State) (q : Nat) : Bool := bit (ctxWord s q 0) 53 == 1
def qLog2n (s : State) (q : Nat) : Nat := bits (ctxWord s q 0) 48 5
def qN (s : State) (q : Nat) : Nat := 2 ^ qLog2n s q
def qBase (s : State) (q : Nat) : Nat := bits (ctxWord s q 0) 6 42 * 64
def qArmed (s : State) (q : Nat) : Bool := bit (ctxWord s q 1) 26 == 1
def qNsub (s : State) (q : Nat) : Nat := bits (ctxWord s q 1) 21 5
def qNtgt (s : State) (q : Nat) : Nat := bits (ctxWord s q 1) 0 16
def qTail (s : State) (q : Nat) : Nat := bits (ctxWord s q 2) 0 32
def qResv (s : State) (q : Nat) : Nat := bits (ctxWord s q 2) 32 32
def qHead (s : State) (q : Nat) : Nat := bits (ctxWord s q 3) 0 32
def qClaim (s : State) (q : Nat) : Nat := bits (ctxWord s q 3) 32 32
def qPmask (s : State) (q : Nat) : Nat := tabGet 0 s.qmasks (2 * q)
def qCmask (s : State) (q : Nat) : Nat := tabGet 0 s.qmasks (2 * q + 1)
def setPmask (q v : Nat) (s : State) : State := { s with qmasks := tabSet 0 s.qmasks (2 * q) v }
def setCmask (q v : Nat) (s : State) : State := { s with qmasks := tabSet 0 s.qmasks (2 * q + 1) v }

/-- Sum and difference of indices, modulo 2^32. -/
def add32 (a b : Nat) : Nat := (a + b) % 2 ^ 32
def sub32 (a b : Nat) : Nat := (a + (2 ^ 32 - b % 2 ^ 32)) % 2 ^ 32

/-- Run of set bits at the bottom of a mask. -/
def lowRun (m : Nat) : Nat := ((List.range 33).find? fun j => bit m j == 0).getD 32

/-! Notification (R211, R212) -/

/-- The notification of queue `q` is sent; one that is not delivered is logged. -/
def notify (q : Nat) (s : State) : State :=
  let t := qNtgt s q
  let r : Bool × State :=
    if qNmode s q = 1 then sendMsix t s
    else if qNmode s q = 2 then
      (if t < 384 ∧ regionFaulted s (t / 32) (t % 32) = false then
        let x := deliverMsg { src := epQueue, op := MSG, dst := coreEp t, addr := qNsub s q + q * 32 } s
        (x.1 == 0, x.2)
      else (false, s))
    else if epInRegion t ∧ regionFaulted s (epDie t) (epRegion t) = false then
      let x := deliverMsg { src := epQueue, op := MSG, dst := t, addr := q + qNsub s q * 2 ^ 16 + qTail s q % 2 ^ 27 * 2 ^ 21 } s
      (x.1 == 0, x.2)
    else (false, s)
  if r.1 then r.2 else r.2.push QUE_EVENT_VALID (2 ^ 26 + q)

/-- The evaluation of R211. -/
def evalNotify (q : Nat) (s : State) : State :=
  if qEn s q ∧ qArmed s q ∧ min (2 ^ qNthr s q) (qN s q) ≤ sub32 (qTail s q) (qClaim s q) ∧ qNmode s q ≠ 0 then
    notify q (setCtx q 1 26 1 0 s)
  else s

/-! Operations (R207, R208) -/

/-- TAIL advances over PMASK, HEAD over CMASK. -/
def advanceTail (q : Nat) (s : State) : State :=
  let n := lowRun (qPmask s q)
  setPmask q (qPmask s q / 2 ^ n) (setCtx q 2 0 32 (add32 (qTail s q) n) s)
def advanceHead (q : Nat) (s : State) : State :=
  let n := lowRun (qCmask s q)
  setCmask q (qCmask s q / 2 ^ n) (setCtx q 3 0 32 (add32 (qHead s q) n) s)

/-- Bits `i … i + k − 1` of a mask of 32. -/
def runMask (i k : Nat) : Nat := (2 ^ k - 1) * 2 ^ i

/-- A doorbell with T′. -/
def qDoorbell (q t : Nat) (s : State) : Nat × State :=
  if qEn s q = false then (ST_QUE_DISABLED, s)
  else if qN s q < sub32 t (qTail s q) + sub32 (qTail s q) (qHead s q) then (ST_QUE_FULL, s)
  else (0, setCtxWord q 2 (t + t * 2 ^ 32) s)

/-- A reserve of `k` indices. -/
def qReserve (q k : Nat) (s : State) : Nat × State :=
  if qEn s q = false then (ST_QUE_DISABLED, s)
  else if k < 1 ∨ 32 < k then (ST_QUE_ACCESS, s)
  else if qN s q < sub32 (qResv s q) (qHead s q) + k then (ST_QUE_FULL, s)
  else if 32 < sub32 (qResv s q) (qTail s q) + k then (ST_QUE_BUSY, s)
  else (0, setCtx q 2 32 32 (add32 (qResv s q) k) s)

/-- A commit of indices `i … i + k − 1`. -/
def qCommit (q i k : Nat) (s : State) : Nat × State :=
  let o := sub32 i (qTail s q)
  if qEn s q = false then (ST_QUE_DISABLED, s)
  else if k < 1 ∨ 32 < k ∨ sub32 (qResv s q) (qTail s q) < o + k ∨ 32 < o + k ∨ qPmask s q &&& runMask o k ≠ 0 then (ST_QUE_BADIDX, s)
  else (0, advanceTail q (setPmask q (qPmask s q ||| runMask o k) s))

/-- A release of a single-consumer queue up to H′. -/
def qReleaseTo (q h : Nat) (s : State) : Nat × State :=
  if qEn s q = false then (ST_QUE_DISABLED, s)
  else if sub32 (qTail s q) (qHead s q) < sub32 h (qHead s q) then (ST_QUE_BADIDX, s)
  else (0, setCtxWord q 3 (h + h * 2 ^ 32) s)

/-- A claim of `k` descriptors. -/
def qClaimK (q k : Nat) (s : State) : Nat × State :=
  if qEn s q = false then (ST_QUE_DISABLED, s)
  else if k < 1 ∨ 32 < k then (ST_QUE_ACCESS, s)
  else if sub32 (qTail s q) (qClaim s q) < k then (ST_QUE_EMPTY, s)
  else if 32 < sub32 (qClaim s q) (qHead s q) + k then (ST_QUE_BUSY, s)
  else (0, setCtx q 3 32 32 (add32 (qClaim s q) k) s)

/-- A release of claimed indices `i … i + k − 1`. -/
def qReleaseK (q i k : Nat) (s : State) : Nat × State :=
  let o := sub32 i (qHead s q)
  if qEn s q = false then (ST_QUE_DISABLED, s)
  else if k < 1 ∨ 32 < k ∨ sub32 (qClaim s q) (qHead s q) < o + k ∨ 32 < o + k ∨ qCmask s q &&& runMask o k ≠ 0 then (ST_QUE_BADIDX, s)
  else (0, advanceHead q (setCmask q (qCmask s q ||| runMask o k) s))

/-- The operation of R208 on word 2 or 3: an AADD, or a write of a word `v`. -/
def qOp (q k : Nat) (add : Bool) (v : Nat) (s : State) : Nat × State :=
  let lo := v % 2 ^ 32
  let hi := bits v 32 32
  if k = 2 then
    if add then (if qMp s q then qReserve q (v % 2 ^ 64) s else (ST_QUE_MODE, s))
    else if qMp s q then qCommit q lo hi s else qDoorbell q lo s
  else
    if add then (if qMc s q then qClaimK q (v % 2 ^ 64) s else (ST_QUE_MODE, s))
    else if qMc s q then qReleaseK q lo hi s else qReleaseTo q lo s

/-- RESV equals TAIL in a single-producer queue, CLAIM equals HEAD in a single-consumer queue (R206). -/
def qFinish (q k : Nat) (s : State) : State :=
  let s := if k = 3 then setCtx q 1 26 1 1 s else s
  evalNotify q s

/-- A refusal under R208 counts in the queue and in the block. -/
def qRefused (q : Nat) (s : State) : State :=
  (setCtx q 1 48 16 (min (bits (ctxWord s q 1) 48 16 + 1) 65535) s).inci QUE_REFUSED_COUNT 0

/-- The context word at `a` is uncorrectable (R216, R376). -/
def ctxUe (a : Nat) (s : State) : State :=
  let q := (a - lastBase) / 32
  let s := cobUncorrectable 3 12 ((a - lastBase) / 8) ST_ECC_UE (setCtx q 0 55 1 0 (setCtx q 1 20 1 1 s))
  (s.push QUE_EVENT_VALID (2 * 2 ^ 26 + q)).recordSt ST_ECC_UE 12 [2 * 2 ^ 26 + q]

/-- Context words are read: corrections are posted, and one that is uncorrectable disables its queue (R204, R216); true where all read well. -/
def ctxReads (ws : List Nat) (s : State) : Bool × State :=
  ws.foldl (fun r a => match tabGet 0 s.marks a with
    | 0 => r
    | 1 => (r.1, cobCorrected 3 12 ((a - lastBase) / 8) r.2)
    | _ => (false, ctxUe a r.2)) (true, s)

/-- A request to the context table (R207, R209). -/
def queServe (r : Req) (s : State) : Ans × State :=
  let s := s.inci QUE_OPS_COUNT 0
  let u := r.units.getD 0 {}
  if r.op = RD then
    let lo := (r.addr + r.bfirst) / 8
    let hi := (r.addr + 64 * r.uidx + r.blast) / 8
    match ctxReads ((List.range (hi + 1 - lo)).map fun i => (lo + i) * 8) s with
    | (true, s) => (.ok (s.rdMem (64 * (r.uidx + 1)) r.addr), s)
    | (false, s) => (.err ST_ECC_UE, s)
  else
    let add := r.op == AADD
    let okForm := add || ((r.op == WR || r.op == WRP) && r.len == 1 && u.first % 8 == 0 && u.last == u.first + 7)
    let a := if add then r.addr else r.addr + u.first
    let q := (a - lastBase) / 32
    let k := (a - lastBase) / 8 % 4
    if okForm = false ∨ k < 2 then (.err ST_QUE_ACCESS, s)
    else
      match ctxReads ((List.range 4).map (ctxAddr q)) s with
      | (false, s) => (.err ST_ECC_UE, s)
      | (true, s) =>
        let old := ctxWord s q k
        let v := if add then u.data % 2 ^ 64 else bits u.data (8 * u.first) 64
        let x := qOp q k add v s
        if x.1 = 0 then (.ok old, qFinish q k x.2) else (.err x.1, qRefused q x.2)

/-! Commands (R213, R214) -/

/-- The ring lies wholly in fitted DRAM, or wholly in Last store segments 4 to 63 that are ON. -/
def ringOk (s : State) (base n : Nat) : Bool :=
  let last := base + 64 * n - 1
  last < dramBytes s ||
    (inLast base && inLast last && lastBase + 4 * 0x80000 ≤ base &&
      (List.range 64).all fun g => !(decide ((base - lastBase) / 0x80000 ≤ g) && decide (g ≤ (last - lastBase) / 0x80000)) || s.rdi PWR_LSSEG_STATE (4 * g) == 0)

/-- The staged configuration is valid (R214). -/
def stagingOk (s : State) : Bool :=
  let l := s.rd QUE_SPARM_LOG2N
  let m := s.rd QUE_SPARM_NMODE
  let t := s.rd QUE_SNOTE_NTGT
  let supported := fun d => s.rdi GLB_DIESTAT_STATE (4 * d) == 1
  4 ≤ l && l ≤ 20 && ringOk s (s.rd QUE_SBASEL_BASE * 64 + s.rd QUE_SBASEH_BASE * 2 ^ 32) (2 ^ l) && m ≤ 3 &&
    (if m = 1 then t < 2048 else if m = 2 then t < 384 && supported (t / 32)
     else if m = 3 then epInRegion t && epLocal t % 4 < 2 && supported (epDie t) else true)

/-- QUE_QCMD completes. -/
def qcmdDone (st : Nat) (s : State) : State := (s.wr QUE_QCMD_STATUS st).wr QUE_QCMD_BUSY 0

/-- QUE_QCMD is written with GO and operation `op`; a GO while BUSY is ignored. -/
def qcmd (op : Nat) (f : Nat → State → Nat × State) (s : State) : Out :=
  if s.rd QUE_QCMD_BUSY = 1 then .next s
  else
    let r := f (s.rd QUE_QSEL_Q) (s.wr QUE_QCMD_OP op)
    .next (qcmdDone r.1 r.2)

/-- Operation 1, enable (R213). -/
def qEnable (q : Nat) (s : State) : Nat × State :=
  let base := s.rd QUE_SBASEL_BASE * 64 + s.rd QUE_SBASEH_BASE * 2 ^ 32
  let moved := base ≠ qBase s q ∨ s.rd QUE_SPARM_LOG2N ≠ qLog2n s q
  let equal := qTail s q = qResv s q ∧ qTail s q = qHead s q ∧ qTail s q = qClaim s q
  if qEn s q then (ST_QUE_STATE, s)
  else if stagingOk s = false then (ST_QUE_BADCFG, s)
  else if moved ∧ ¬equal then (ST_QUE_STATE, s)
  else
    let w0 := s.rd QUE_SPARM_NTHR * 2 ^ 59 + s.rd QUE_SPARM_NMODE * 2 ^ 56 + 2 ^ 55 + s.rd QUE_SPARM_MC * 2 ^ 54 + s.rd QUE_SPARM_MP * 2 ^ 53 +
      s.rd QUE_SPARM_LOG2N * 2 ^ 48 + base
    let w1 := putBits (putBits (putBits (ctxWord s q 1) 21 5 (s.rd QUE_SNOTE_NSUB)) 0 16 (s.rd QUE_SNOTE_NTGT)) 26 1 1
    (0, evalNotify q (setCtxWord q 1 w1 (setCtxWord q 0 w0 s)))

/-- QUE_ENABLE. -/
def execQueEnable (s : State) : Out := qcmd 1 qEnable s

/-- QUE_DISABLE: EN := 0, indices and masks kept. -/
def execQueDisable (s : State) : Out := qcmd 2 (fun q s => (0, setCtx q 0 55 1 0 s)) s

/-- QUE_RESET_INDICES. -/
def execQueResetIndices (s : State) : Out :=
  qcmd 3 (fun q s => if qEn s q then (ST_QUE_STATE, s)
    else (0, setPmask q 0 (setCmask q 0 (setCtx q 1 20 1 0 (setCtx q 1 48 16 0 (setCtxWord q 3 0 (setCtxWord q 2 0
      { s with marks := s.marks.filter fun p => !(ctxAddr q 0 ≤ p.1 && p.1 < ctxAddr q 4) })))))) ) s

/-- QUE_REARM. -/
def execQueRearm (s : State) : Out :=
  qcmd 4 (fun q s => if qEn s q then (0, evalNotify q (setCtx q 1 26 1 1 s)) else (ST_QUE_DISABLED, s)) s

/-- QUE_READ_BACK: the staging registers take the context's fields. -/
def execQueReadBack (s : State) : Out :=
  qcmd 5 (fun q s =>
    let s := (((s.wr QUE_SPARM_NTHR (qNthr s q)).wr QUE_SPARM_NMODE (qNmode s q)).wr QUE_SPARM_MC (bit (ctxWord s q 0) 54)).wr QUE_SPARM_MP (bit (ctxWord s q 0) 53)
    let s := ((s.wr QUE_SPARM_LOG2N (qLog2n s q)).wr QUE_SBASEL_BASE (bits (qBase s q) 6 26)).wr QUE_SBASEH_BASE (bits (qBase s q) 32 16)
    (0, (s.wr QUE_SNOTE_NSUB (qNsub s q)).wr QUE_SNOTE_NTGT (qNtgt s q))) s

/-- QUE_CONTEXT_UE (R216): context word `k` of queue `q` reads uncorrectable.  [DESIGN CHOICE 29: notes/assumptions] -/
def execQueContextUe (q : Fin 65536) (k : Fin 4) (s : State) : Out :=
  .next (ctxUe (ctxAddr q k) { s with marks := tabSet 0 s.marks (ctxAddr q k) 2 })

/-- Queues with EN = 1 (QUE_ENCNT): those whose word 0 has a byte listed in memory. -/
def enabledQueues (s : State) : List Nat :=
  ((s.mem.filter fun p => lastBase ≤ p.1 && p.1 < lastBase + 0x200000 && p.1 % 32 == 6).map fun p => (p.1 - lastBase) / 32).filter (qEn s)

end Sys2Proof.Machine
end

