-- ==== Sys2Proof/Machine/Access.lean ====
section
/-! DEFINITION. A Welt request from its presentation to its response: injection, the targets, waiting, the snoop filter, guaranteed
units and changes of service mode (spec/06_welt_network.md, spec/07_welt_guaranteed_service.md, R108, R119 to R123, R204, R205). -/

namespace Sys2Proof.Machine

open Sys2Proof

/-! Words of a request -/

/-- First and last byte offset from the address that an RD names (R161). -/
def rdLast (q : Req) : Nat := 64 * q.uidx + q.blast

/-- Bytes of memory in the valid range of an RD, in place. -/
def rdBytes (q : Req) (s : State) : Nat := s.rdMem (rdLast q + 1 - q.bfirst) (q.addr + q.bfirst) * 256 ^ q.bfirst

/-- Addresses of the words of `n` bytes that an RD touches, ascending. -/
def rdWords (n : Nat) (q : Req) : List Nat :=
  let lo := (q.addr + q.bfirst) / n
  let hi := (q.addr + rdLast q) / n
  (List.range (hi + 1 - lo)).map fun i => (lo + i) * n

/-- Words of `n` bytes that a write touches, ascending: address, byte mask, data. -/
def wrWords (n : Nat) (q : Req) : List (Nat × Nat × Nat) :=
  (List.range q.units.length).flatMap fun i =>
    let u := q.units.getD i {}
    let m := rangeMask u.first u.last
    (List.range (64 / n)).filterMap fun w =>
      let k := bits m (n * w) n
      if k = 0 then none else some (q.addr + 64 * i + n * w, k, bits u.data (8 * n * w) (8 * n))

/-- Bytes of a word of `n` bytes replaced where the mask has a 1. -/
def mergeWord (n old new mask : Nat) : Nat :=
  (List.range n).foldl (fun x i => x + (if bit mask i = 1 then bits new (8 * i) 8 else bits old (8 * i) 8) * 2 ^ (8 * i)) 0

/-- A memory of words: bytes of a word, health of a word, what a check of it does, and how its health is set. -/
structure WordMem where
  n : Nat
  mark : Nat → State → Nat
  check : Nat → State → State
  setMark : Nat → Nat → State → State

/-- Words are read in turn; ST_ECC_UE if one is uncorrectable. -/
def WordMem.reads (m : WordMem) (ws : List Nat) (s : State) : Bool × State :=
  ws.foldl (fun r a => (r.1 && m.mark a r.2 != 2, m.check a r.2)) (true, s)

/-- A word is written; a partial write of an uncorrectable word is not performed (R103). -/
def WordMem.write (m : WordMem) (r : Bool × State) (w : Nat × Nat × Nat) : Bool × State :=
  let (a, k, v) := w
  if k = 2 ^ m.n - 1 then (r.1, m.setMark a 0 (r.2.wrMem m.n a v))
  else
    let bad := m.mark a r.2 == 2
    let s := m.check a r.2
    if bad then (false, s) else (r.1, m.setMark a 0 (s.wrMem m.n a (mergeWord m.n (s.rdMem m.n a) v k)))

/-- RD, WR, WRP, the atomics and the lock operations on words (R161, R165, R166); locks have been judged. -/
def WordMem.serve (m : WordMem) (q : Req) (s : State) : Ans × State :=
  let word := q.addr / 8 * 8
  let res := fun (r : Bool × State) (d : Nat) => (if r.1 then Ans.ok d else Ans.err ST_ECC_UE, r.2)
  if q.op = RD then res (m.reads (rdWords m.n q) s) (rdBytes q s)
  else if q.op = LRD then res (m.reads [word] (addLock q.dst (lineOf q.addr) q.src s)) (s.rdMem 8 word)
  else if q.op = UNL then (.ok 0, dropLock q.dst (lineOf q.addr) s)
  else if q.op = ULWR then
    let r := m.write (true, s) (word, 255, (q.units.getD 0 {}).data % 2 ^ 64)
    (.ok 0, dropLock q.dst (lineOf q.addr) r.2)
  else if opAtomic q.op then
    let old := s.rdMem 8 word
    let r := m.reads [word] s
    if r.1 then
      (match atomicNew q old with
      | some v => (.ok old, (m.write r (word, 255, v)).2)
      | none => (.ok old, r.2))
    else (.err ST_ECC_UE, r.2)
  else res ((wrWords m.n q).foldl m.write (true, s)) 0

/-- A lock that holds the request off belongs to a master in a quiescing region (R197). -/
def waitsOnQuiescing (s : State) (q : Req) : Bool :=
  s.welt.locks.any fun l => l.tgt == q.dst && touches q l.line && l.owner != q.src && epInRegion l.owner && (s.region (rix (epDie l.owner) (epRegion l.owner))).quiescing

/-- Lock rules of R166 at a target that has locks: an answer at once, or none where the request is served. -/
def lockJudge (q : Req) (s : State) : Option Ans :=
  if (q.op = ULWR ∨ q.op = UNL) ∧ lockOwner s q.dst (lineOf q.addr) ≠ some q.src then some (.err ST_WLT_LOCKBRK)
  else if lockedOff s q then some (if waitsOnQuiescing s q then .err ST_WLT_RETRY else .wait .lock)
  else if q.op = LRD then (lrdRefusal s q).map Ans.err
  else none

/-! Banks (R108, R112, R113, R116, R117) -/

/-- The secure masters (R521). -/
def secureMaster (s : State) (e : Nat) : Bool :=
  e == epMgmt || e == epConfig || (e == epPcie && (s.rd SEC_STAT_LC == 1 || s.rd SEC_STAT_LC == 3))

/-- Bank and word of an address of the bank area. -/
def bankOf (a : Nat) : Nat := a % 0x80000 / 0x2000
def bankWordOf (a : Nat) : Nat := a % 0x2000 / 8

/-- The words of the banks of region `r` of die `d`.  [DESIGN CHOICE 16: notes/assumptions] -/
def bankMem (d r : Nat) : WordMem where
  n := 8
  mark a s := wordMark s d r (bankOf a) (bankWordOf a)
  check a s := bankChecked d r (bankOf a) (bankWordOf a) s
  setMark a v s := setMark d r (bankOf a) (bankWordOf a) v s

/-- A request at a bank Welt port.  [DESIGN CHOICE 16: notes/assumptions] -/
def bankServe (q : Req) (s : State) : Ans × State :=
  let d := epDie q.dst
  let r := epRegion q.dst
  let b := bankOf q.addr
  let o := oBnk d r b
  let pwr := s.rdi BNK_STAT_PWR o
  let s := wakeAll d r 0 s
  if (s.bank (bix d r b)).sealed ∧ secureMaster s q.src = false then (.err ST_REFUSED_SEALED, s)
  else if atG0 s d = true ∨ (pwr = 2 ∧ s.rdi BNK_CTL_AUTOWAKE o = 0) then (.err ST_MEM_ASLEEP, s)
  else if pwr = 1 then (.wait .asleep, if s.rdi BNK_CTL_AUTOWAKE o = 1 then s.wri BNK_STAT_PWR o 0 else s)
  else if pwr ≠ 0 then (.wait .asleep, s.wri BNK_STAT_PWR o 3)
  else match lockJudge q s with
    | some a => (a, s)
    | none => (bankMem d r).serve q s

/-! Awl memories (R119, R225, R226, R245) -/

/-- The 32-bit words of X and Y memory. -/
def awlMem (c : Nat) : WordMem where
  n := 4
  mark a s := tabGet 0 s.marks a
  check a s := match tabGet 0 s.marks a with
    | 0 => s
    | 1 => cobCorrected 2 (c / 32) (xyLoc c (bit a 16 == 1) a) s
    | _ => (cobUncorrectable 2 (c / 32) (xyLoc c (bit a 16 == 1) a) ST_ECC_UE s).recordSt ST_ECC_UE (c / 32) [cobWord 2 2 (c / 32) ST_ECC_UE, xyLoc c (bit a 16 == 1) a]
  setMark a v s := { s with marks := tabSet 0 s.marks a v }

/-- A request at the memories of a core. -/
def awlServe (q : Req) (s : State) : Ans × State :=
  let c := epCore q.dst
  let y := bit q.addr 16 == 1
  if opAtomic q.op ∨ opLock q.op then (.err ST_WLT_BADOP, s)
  else if atG0 s (c / 32) = true then (.err ST_MEM_ASLEEP, s)
  else if s.rdi (awlMemState y) (oAwl c) ≠ 0 then (.wait .asleep, wakeXy c y s)
  else if (s.core c).lk.isSome then (.wait .lock, s)
  else (awlMem c).serve q s

/-! Last store and vault (R120 to R123, R176, R204, R205) -/

/-- Segment of a Last store address; 64 for the vault. -/
def lastUnit (a : Nat) : Nat := if inVault a then 64 else (a - lastBase) / 0x80000

/-- Power fields of a unit: STATE and AUTOWAKE. -/
def unitState (s : State) (u : Nat) : Nat := if u = 64 then s.rd PWR_VAULT_STATE else s.rdi PWR_LSSEG_STATE (4 * u)
def unitAuto (s : State) (u : Nat) : Nat := if u = 64 then s.rd PWR_VAULT_AUTOWAKE else s.rdi PWR_LSSEG_AUTOWAKE (4 * u)
def setUnitState (u v : Nat) (s : State) : State := if u = 64 then s.wr PWR_VAULT_STATE v else s.wri PWR_LSSEG_STATE (4 * u) v

/-- Location of a word (R378). -/
def lastLoc (a : Nat) : Nat := if inVault a then 2 ^ 23 + (a - vaultBase) / 8 else (a - lastBase) / 8

/-- The 64-bit words of the Last store and the vault. -/
def lastMem : WordMem where
  n := 8
  mark a s := tabGet 0 s.marks a
  check a s := if lastBase ≤ a ∧ a < lastBase + 0x200000 then (ctxReads [a] s).2 else match tabGet 0 s.marks a with
    | 0 => s
    | 1 => cobCorrected 3 12 (lastLoc a) s
    | _ => (cobUncorrectable 3 12 (lastLoc a) ST_ECC_UE s).recordSt ST_ECC_UE 12 [cobWord 2 3 12 ST_ECC_UE, lastLoc a]
  setMark a v s := { s with marks := tabSet 0 s.marks a v }

/-- Lines that a request touches. -/
def reqLines (q : Req) : List Nat :=
  if opAtomic q.op ∨ opLock q.op then [lineOf q.addr]
  else (List.range (if q.op = RD then q.uidx + 1 else max 1 q.len)).map (lineOf q.addr + ·)

/-- Cores of a line's entry other than the writer; cores of a die without rails hold nothing. -/
def snpOthers (s : State) (line src : Nat) : Nat :=
  (List.range 384).foldl (fun m c => if bit (snpMask s line) c = 1 ∧ coreEp c ≠ src ∧ s.dieUp (c / 32) then m + 2 ^ c else m) 0

/-- The lines whose copies a request waits to have invalidated: those it writes, or for a core's read the line to evict. -/
def snoopLines (q : Req) (s : State) : List Nat :=
  if opWrites q.op then reqLines q
  else if epIsCore q.src then ((reqLines q).filterMap (snpVictim s)).take 1 else []

/-- The waiting mask: bit 384 i + c.  [DEDUCED 34: notes/assumptions] -/
def snoopWait (q : Req) (ls : List Nat) (s : State) : Nat :=
  (List.range ls.length).foldl (fun m i => m + snpOthers s (ls.getD i 0) (if opWrites q.op then q.src else 0) * 2 ^ (384 * i)) 0

/-- SINVs leave for every core of the mask. -/
def sendSinv (ls : List Nat) (m : Nat) (s : State) : State :=
  let l := (List.range ls.length).flatMap fun i => ((List.range 384).filter fun c => bit m (384 * i + c) == 1).map fun c => (ls.getD i 0, c)
  s.modWelt fun w => { w with sinv := w.sinv ++ l.filter fun x => !w.sinv.contains x && !w.sack.contains x }

/-- A request at the Last store controller.  [DEDUCED 34: notes/assumptions] -/
def lastServe (q : Req) (s : State) : Ans × State :=
  let u := lastUnit q.addr
  if inVault q.addr ∧ secureMaster s q.src = false then (.err ST_REFUSED_VAULT, s)
  else if unitState s u = 2 then (.err ST_MEM_OFF, s)
  else if unitState s u = 1 ∧ unitAuto s u = 0 then (.err ST_MEM_ASLEEP, s)
  else if unitState s u ≠ 0 then (.wait .asleep, setUnitState u 3 s)
  else if inLast q.addr ∧ q.addr < lastBase + 0x200000 then queServe q s
  else match lockJudge q s with
    | some a => (a, s)
    | none =>
      let ls := if cacheable q.addr then snoopLines q s else []
      let m := snoopWait q ls s
      if m ≠ 0 then (.wait (.snoop m), sendSinv ls m s)
      else
        let s := if cacheable q.addr ∧ epIsCore q.src ∧ (q.op = RD ∨ q.op = LRD) then
            (reqLines q).foldl (fun s l => snpSetBit l (epCore q.src) s) s else s
        lastMem.serve q s

/-! Bridges (R178, R395) -/

def oBun (b : Nat) : Nat := b * 0x100

def szlState (s : State) (b : Nat) : Nat := s.rdi SZL_BSTAT_STATE (oBun b)

/-- Flits of a packet: one a unit. -/
def reqFlits (q : Req) : List Flit := (List.range (max 1 q.units.length)).map fun i => { kind := 1, unit := i, req := q }
def respFlits (r : Resp) : List Flit := (List.range (max 1 r.len)).map fun i => { kind := 2, unit := i, resp := r }

/-- A bundle can send flits: UP or DEGRADED, its transmitter ACTIVE, and no pattern generator on it (R391, R403, R404). -/
def bundleSends (s : State) (b : Nat) : Bool :=
  (szlState s b == 3 || szlState s b == 4) && s.rdi SZL_PWR_TXST (oBun b) == 0 && s.rdi SZL_TEST_GEN (oBun b) == 0

/-- Flits leave while the replay buffer has room and the peer's buffers have credit, those of one kind in their order (R393, R394); each is
sequenced and carries ACK, NAK and credits. -/
def bundlePump : (n : Nat) → Bundle → Bundle
  | 0, x => x
  | n + 1, x =>
    if 512 ≤ x.replay.length then x
    else match x.txq.find? fun f => if f.kind = 1 then decide (0 < x.crq) else decide (0 < x.crs) with
      | none => x
      | some f =>
        bundlePump n { x with txq := x.txq.erase f, replay := x.replay ++ [{ f with seq := x.seq }], seq := (x.seq + 1) % 4096
                              crq := if f.kind = 1 then x.crq - 1 else x.crq, crs := if f.kind = 1 then x.crs else x.crs - 1
                              lastAck := some (x.got, x.nak, min 255 x.owedRq, min 255 x.owedRs), owed := false, nak := false
                              owedRq := x.owedRq - 255, owedRs := x.owedRs - 255 }

def bundleSendAll (b : Nat) (s : State) : State :=
  if bundleSends s b then s.modBundle b fun x => bundlePump x.txq.length x else s

/-- A bundle takes flits to send. -/
def bundleSend (b : Nat) (fs : List Flit) (s : State) : State := bundleSendAll b (s.modBundle b fun x => { x with txq := x.txq ++ fs })

/-- A request at a bridge: refused, or translated and handed to its bundle. -/
def bridgeServe (q : Req) (s : State) : Ans × State :=
  let w := windowOf q.addr
  let o := 8 * w
  let b := s.rdi WLT_BRWIN_BUNDLE o
  let writes := opWrites q.op
  if q.cls ≠ 1 ∨ opLock q.op ∨ q.op = MSG ∨ (writes ∧ s.rdi WLT_BRWIN_WRALLOW o = 0) then (.err ST_WLT_BADOP, s)
  else if s.rdi WLT_BRBASE_RMOD o ≠ bits (s.rdi SZL_RCAPW_WORD (oBun b)) 20 8 then (.err ST_SZL_RMOD, s)
  else if szlState s b ≠ 3 ∧ szlState s b ≠ 4 ∧ szlState s b ≠ 5 then (.err ST_SZL_DOWN, s)
  else
    let a := (s.rdi WLT_BRBASE_RBASE o * 2 ^ 33 + (q.addr - bridgeBase) % 2 ^ 33) % 2 ^ 48
    (if opPosted q.op then .ok 0 else .wait (.remote b), bundleSend b (reqFlits { q with addr := a }) s)

/-! Every target -/

/-- A request at the endpoint `q.dst`. -/
def serveAt (q : Req) (s : State) : Ans × State :=
  let d := epDie q.dst
  let r := epRegion q.dst
  if epInRegion q.dst then
    if s.rdi GLB_DIESTAT_STATE (4 * d) ≠ 1 ∨ endpointsOn s d r = false then (.err ST_WLT_NO_TARGET, s)
    else if (s.region (rix d r)).quiescing then (.err ST_WLT_RETRY, s)
    else match epLocal q.dst % 4 with
      | 2 => if opMsg q.op then (.err ST_WLT_BADOP, s) else bankServe q s
      | 3 =>
        if opMsg q.op ∧ s.modes.clamped.contains (1, d, r) = true then (.err ST_PEER_RESET, s)
        else if opMsg q.op then
          let x := coreMsg (epCore q.dst) q.addr s
          (if x.1 then .ok 0 else .err ST_AWL_MSGFULL, x.2)
        else awlServe q s
      | _ =>
        if opAtomic q.op ∨ opLock q.op then (.err ST_WLT_BADOP, s)
        else if opPosted q.op then (.ok 0, toInbox q.dst q (wakeAll d r 0 s))
        else (.wait .design, wakeAll d r 0 s)
  else if d < 12 ∧ s.rdi GLB_DIESTAT_STATE (4 * d) ≠ 1 then (.err ST_WLT_NO_TARGET, s)
  else if opMsg q.op then (.err ST_WLT_BADOP, s)
  else if q.dst < epDram 8 ∧ epDram 0 ≤ q.dst then dramServe q s
  else if q.dst = epLast then lastServe q s
  else if q.dst = epBridge 0 ∨ q.dst = epBridge 1 then bridgeServe q s
  else if q.dst = epMgmt then (if opAtomic q.op ∨ opLock q.op then (.err ST_WLT_BADOP, s) else (.wait .design, s))
  else (.err ST_WLT_BADOP, s)

/-- A request must wait behind one that waits at its target already (R108, R167, R176). -/
def behind (q : Req) (held : List Held) : Bool :=
  held.any fun h => h.req.dst == q.dst &&
    ((h.req.src == q.src && (match h.why with | .lock | .design | .remote _ => false | _ => true)) ||
     (epInRegion q.dst && epLocal q.dst % 4 == 2 && h.why == .asleep) ||
     (match h.why with | .snoop _ => opWrites h.req.op && (reqLines h.req).any fun l => touches q l | _ => false))

/-- A request arrives at its target: it is answered, refused, or waits. -/
def serveOrHold (q : Req) (s : State) : State :=
  if behind q s.welt.held then hold q .behind s
  else match serveAt q s with
    | (.ok v, s) => answer q v s
    | (.err st, s) => refuse q st s
    | (.wait w, s) => hold q w s

/-! Injection (R163, R174, R175, R184, R196, R622) -/

/-- A remote request ends: its bridge restores src and tag and sends the response on its bundle (R394), if that is still in service. -/
def bridgeFinish (e tag op st data : Nat) (s : State) : State :=
  match (List.range 8).find? fun b => epBridge (b / 4) == e && (s.bundle b).remote.any fun x => x.1 == tag with
  | none => complete e tag op st data s
  | some b =>
    match (s.bundle b).remote.find? fun x => x.1 == tag with
    | none => s
    | some x =>
      let r : Resp := ⟨x.2.1, e, x.2.2.1, op, st, data, if op = RDR then x.2.2.2 else if op = WRA then 0 else 1, 0⟩
      let s := s.modBundle b fun y => { y with remote := y.remote.erase x }
      if szlState s b = 3 ∨ szlState s b = 4 ∨ szlState s b = 5 then bundleSend b (respFlits r) s else s

/-- A completed read TLP: its bytes in address order (R412). -/
def readBytes (r : PRead) : Nat :=
  (r.reqs.foldl (fun (a : Nat × Nat) q =>
    let n := rdLast q + 1 - q.bfirst
    (a.1 + n, a.2 + ((r.got.find? fun g => g.1 == q.tag).map Prod.snd).getD 0 / 256 ^ q.bfirst % 256 ^ n * 256 ^ a.1)) (0, 0)).2

/-- A Welt request of the PCIe port ends (R412): a write frees the reads behind it, a read completes with its last part, and an error is
logged in PCI_ERRLOG. -/
def pcieFinish (tag op st data : Nat) (s : State) : State :=
  match s.pcie.writes.find? fun w => w.2 == tag with
  | some w =>
    let s := s.modPcie fun p => { p with writes := p.writes.erase w, reads := p.reads.map fun r => { r with after := r.after.erase tag } }
    if op = ERR then s.push PCI_ERRLOG_VALID (2 ^ 29 + w.1 * 2 ^ 27 + st) else s
  | none =>
    match s.pcie.reads.find? fun r => r.sent && r.reqs.any fun q => q.tag == tag with
    | none => s
    | some r =>
      let bad := if op = ERR ∧ r.st = 0 then (if st = ST_WLT_BADADDR ∨ st = ST_WLT_ALIGN then 1 else 2) else r.st
      let x : PRead := { r with got := r.got ++ [(tag, data)], st := bad }
      let s := if op = ERR then s.push PCI_ERRLOG_VALID (r.bar * 2 ^ 27 + st) else s
      if x.got.length = x.reqs.length then
        s.modPcie fun p => { p with reads := p.reads.erase r, cpl := p.cpl ++ [(x.st, if x.st = 0 then readBytes x else 0)] }
      else s.modPcie fun p => { p with reads := p.reads.map fun y => if y = r then x else y }

/-- Bytes of the parts of a transfer in address order. -/
def partBytes (m : MemOp) : List Nat :=
  m.reqs.flatMap fun q =>
    let v := ((m.got.find? fun g => g.1 == q.tag).map Prod.snd).getD 0
    (List.range (rdLast q + 1 - q.bfirst)).map fun i => byteOf v (q.bfirst + i)

/-- A request of the management processor ends: that of the debug window has tag 0 (R542), the others are parts of a side-band transfer, whose
answer is sent with its last part (R509).  [DESIGN CHOICE 80: notes/assumptions] -/
def mgmtFinish (tag op st data : Nat) (s : State) : State :=
  if tag = 0 then
    match s.welt.win with
    | none => s
    | some first =>
      { (s.modWelt fun w => { w with win := none }) with
        dbg := { s.dbg with done := true, status := if op = ERR then st else 0, data := if op = RDR then data / 256 ^ first % 2 ^ 32 else s.dbg.data } }
  else
    match s.welt.mem with
    | none => s
    | some m =>
      let m := { m with got := m.got ++ [(tag, data)], st := if op = ERR ∧ m.st = 0 then st else m.st }
      if m.got.length < m.reqs.length then s.modWelt fun w => { w with mem := some m }
      else
        let rd := m.reqs.any fun q => q.op == RD
        { (s.modWelt fun w => { w with mem := none }) with reply := m.st :: (if m.st = 0 ∧ rd then partBytes m else []) }

/-- A request ends at its initiator. -/
def finishAt (e tag op st data : Nat) (s : State) : State :=
  if e = epBridge 0 ∨ e = epBridge 1 then bridgeFinish e tag op st data s
  else if e = epPcie then pcieFinish tag op st data s
  else if e = epMgmt then mgmtFinish tag op st data s
  else if epIsCore e then coreSettle (epCore e) (coreArrive (epCore e) tag op st data s) else complete e tag op st data s

/-- A request is refused at injection: completed with its status, counted as a unit, and logged (R162, R199, R622). -/
def refuseInject (q : Req) (st : Nat) (s : State) : State :=
  finishAt q.src q.tag ERR st 0 (weltLog 6 (q.op % 64) st q.src q.dst (statUnits q s))

/-- New requests are not taken: the service mode is DOWN or CHANGING. -/
def portsClosed (s : State) : Bool := s.rd WLT_SVC_STATE == 0 || s.rd WLT_SVC_STATE == 2

/-- The hold of R196: the destination is served by a moved pair while the old epoch drains. -/
def movedHold (s : State) (dst : Nat) : Bool := s.rd WLT_EPOCH_STATE == 3 && s.welt.chg.moved.contains (epElem dst)

/-- Tags that a port has outstanding. -/
def outOf (s : State) (e : Nat) : Nat := (s.welt.out.filter fun o => o.src == e).length

/-- A request is taken by its port, or none where it waits. -/
def tryInject (q : Req) (s : State) : Option State :=
  if portsClosed s then none
  else match injectCheck s q with
    | .inl st => some (refuseInject q st s)
    | .inr dst =>
      let q := { q with dst, epoch := s.welt.stamp }
      if q.cls = 0 then
        if 4 ≤ (s.flowSt q.flow).queue.length then none
        else some (s.modFlow q.flow fun x => { x with queue := x.queue ++ [q], headAt := if x.queue = [] then laceSlots s else x.headAt })
      else if movedHold s dst then none
      else if opPosted q.op then some (serveOrHold q (statUnits q s))
      else if tagBusy s q.src q.tag ∨ 4096 ≤ outOf s q.src then none
      else some (serveOrHold q (statUnits q (s.modWelt fun w => { w with out := w.out ++ [⟨q.src, q.tag, q.op, dst, q.addr⟩] })))

/-- A request is presented at the port of `q.src`: behind others of its class that wait there, it waits too. -/
def present (q : Req) (s : State) : State :=
  let wait := s.modWelt fun w => { w with wait := w.wait ++ [q] }
  if s.welt.wait.any fun x => x.src == q.src && x.cls == q.cls then wait else (tryInject q s).getD wait

/-! Held requests -/

/-- A held snooping request whose acknowledgments are all in clears the bits of those cores (R176 step 3, R177). -/
def snoopDone (q : Req) (s : State) : State :=
  let s1 := (snoopLines q s).foldl (fun s l => snpClear l (snpMask s l - (if opWrites q.op ∧ epIsCore q.src ∧ bit (snpMask s l) (epCore q.src) = 1 then 2 ^ epCore q.src else 0)) s) s
  if opWrites q.op then s1 else s1.inci WLT_SNPEVC_COUNT 0

/-- One held request is offered to its target again; those that only an answer ends stay. -/
def retryOne (s : State) (h : Held) : State :=
  match h.why with
  | .design | .remote _ => s.modWelt fun w => { w with held := w.held ++ [h] }
  | .snoop m => if m = 0 then serveOrHold h.req (snoopDone h.req s) else s.modWelt fun w => { w with held := w.held ++ [h] }
  | _ => serveOrHold h.req s

def retryHeld (s : State) : State := s.welt.held.foldl retryOne (s.modWelt fun w => { w with held := [] })

/-- Requests waiting at their ports are presented again. -/
def retryWait (s : State) : State := s.welt.wait.foldl (fun s q => present q s) (s.modWelt fun w => { w with wait := [] })

/-- Requests of the cores' Welt stages are presented. -/
def retryCores (s : State) : State :=
  s.cores.foldl (fun s p =>
    if p.2.wrq = [] then s else (s.core p.1).wrq.foldl (fun s q => present q s) (s.modCore p.1 fun k => { k with wrq := [] })) s

/-- A read TLP whose earlier writes have all received their WRA. -/
def PRead.ready (r : PRead) : Bool := !r.sent && r.after.isEmpty

/-- Reads of the PCIe port that need wait no longer are presented (R412). -/
def retryPcie (s : State) : State :=
  let l := s.pcie.reads.filter PRead.ready
  l.foldl (fun s r => r.reqs.foldl (fun s q => present q s) s)
    (s.modPcie fun p => { p with reads := p.reads.map fun r => if r.ready then { r with sent := true } else r })

/-- Something might move. -/
def busyPorts (s : State) : Bool := (s.cores.any fun p => !p.2.wrq.isEmpty) || s.pcie.reads.any PRead.ready

/-- A stream frame is placed whole in its flow's queue, discarded and counted where its units are refused, or waits (R417). -/
def placeStream (s : State) (x : Nat × List Req) : State :=
  let f := (x.2.headD {}).flow
  let wait : State := { s with eth := { s.eth with streams := s.eth.streams ++ [x] } }
  if portsClosed s then wait
  else if x.2.any fun q => (injectCheck s q).isLeft then s.inci ETH_RSTAT_DROP (8 * x.1)
  else if (s.eth.streams.any fun y => (y.2.headD {}).flow == f) ∨ 4 < (s.flowSt f).queue.length + x.2.length then wait
  else x.2.foldl (fun s q => (tryInject q s).getD s) s

/-- Stream frames that wait are offered again, oldest first. -/
def placeStreams (s : State) : State := s.eth.streams.foldl placeStream { s with eth := { s.eth with streams := [] } }

/-- Waiting requests move on until nothing more does, within `n` rounds. -/
def pumpN : Nat → State → State
  | 0, s => s
  | n + 1, s =>
    let t := retryHeld (retryWait (retryPcie (retryCores s)))
    if t.welt.held.length = s.welt.held.length ∧ t.welt.wait.length = s.welt.wait.length ∧ busyPorts t = false then t else pumpN n t

/-- Every request that can move does. -/
def pump (s0 : State) : State :=
  let s := placeStreams s0
  if s.welt.held = [] ∧ s.welt.wait = [] ∧ busyPorts s = false then s
  else pumpN (s.welt.held.length + s.welt.wait.length + s.cores.length + s.pcie.reads.length + 8) s

/-- A request is presented and every request that can move does. -/
def inject (q : Req) (s : State) : State := pump (present q s)

/-! Responses (R162 to R164) -/

/-- A response reaches its initiator; `lat` is its latency in link cycles. -/
def deliverResp (r : Resp) (lat : Nat) (s : State) : State := pump (finishAt r.to_ r.tag r.op r.st r.data (statLatency r.to_ lat (freeTag r.to_ r.tag s)))

/-- A held request that its design or a remote module answers.  [DEDUCED 35: notes/assumptions] -/
def awaitsAnswer (r : Resp) (h : Held) : Bool :=
  h.req.src == r.to_ && h.req.tag == r.tag && (match h.why with | .design => h.req.dst != epMgmt | .remote _ => true | _ => false)

/-- A response arrives (R162, R163): one that matches no outstanding tag, or carries a reserved op, is discarded and logged.  One for an
outstanding tag is on its way, or is the answer of a design or a remote module.  [DEDUCED 35: notes/assumptions] -/
def respArrive (r : Resp) (lat : Nat) (s : State) : State :=
  let sent := s.welt.resps.contains r
  let asked := s.welt.held.any (awaitsAnswer r)
  let okOp := r.op == RDR || r.op == WRA || r.op == ATR || r.op == ERR
  if tagBusy s r.to_ r.tag = false ∨ okOp = false then
    weltLog 1 (r.op % 64) r.st r.src r.to_ (s.modWelt fun w => { w with resps := w.resps.erase r })
  else if sent then deliverResp r lat (s.modWelt fun w => { w with resps := w.resps.erase r })
  else if asked then deliverResp r lat (s.modWelt fun w => { w with held := w.held.eraseIdx (w.held.findIdx (awaitsAnswer r)) })
  else s

/-- A tag is completed locally with a status (R164, R175). -/
def completeLocal (kind st : Nat) (o : Outst) (s : State) : State :=
  finishAt o.src o.tag ERR st 0 (weltLog kind o.op st o.src o.dst (freeTag o.src o.tag s))

/-- WLT_RSPTMO expires for the tag `tag` of port `e`, outstanding, or waiting while the service mode is DOWN (R164, R174). -/
def respTimeout (e tag : Nat) (s : State) : State :=
  match s.welt.out.find? fun o => o.src == e && o.tag == tag with
  | some o => pump (completeLocal 2 ST_WLT_TIMEOUT o s)
  | none =>
    match s.welt.wait.find? fun q => q.src == e && q.tag == tag && !opPosted q.op with
    | some q =>
      if s.rd WLT_SVC_STATE = 0 then
        finishAt e tag ERR ST_WLT_TIMEOUT 0 (weltLog 2 q.op ST_WLT_TIMEOUT q.src q.dst (s.modWelt fun w => { w with wait := w.wait.erase q }))
      else s
    | none => s

/-- A lock times out (R166). -/
def lockTimeout (tgt line : Nat) (s : State) : State :=
  match lockOwner s tgt line with
  | some o => pump (dropLock tgt line (weltLog 7 LRD ST_WLT_LOCKBRK o tgt s))
  | none => s

/-! Snoops (R176, R177) -/

/-- A SINV reaches a core: the line is dropped, a fill under way is not installed, and SACK leaves. -/
def sinvArrive (c line : Nat) (s : State) : State :=
  if s.welt.sinv.contains (line, c) then
    let s := s.modCore c fun k => { k with
      dlines := k.dlines.filter (· != line)
      loads := k.loads.map fun l => if l.addr / 64 = line ∧ l.data.isNone then { l with snooped := true } else l }
    s.modWelt fun w => { w with sinv := w.sinv.erase (line, c), sack := w.sack ++ [(line, c)] }
  else s

/-- The mask of a waiting request without a core's acknowledgment of a line. -/
def ackHeld (c line : Nat) (s : State) (h : Held) : Held :=
  match h.why with
  | .snoop m =>
    let ls := snoopLines h.req s
    { h with why := .snoop ((List.range ls.length).foldl (fun m i => if ls.getD i 0 = line ∧ bit m (384 * i + c) = 1 then m - 2 ^ (384 * i + c) else m) m) }
  | _ => h

/-- A SACK arrives; one that no SINV caused is discarded and logged (R162). -/
def sackArrive (c line : Nat) (s : State) : State :=
  if s.welt.sack.contains (line, c) then
    pump (s.modWelt fun w => { w with sack := w.sack.erase (line, c), held := w.held.map (ackHeld c line s) })
  else weltLog 1 0x31 0 (coreEp c) epLast s

/-! Guaranteed units (R184 to R187) -/

/-- Units in the buffer of a destination: those a design has not taken, and those that wait at the target.  [DESIGN CHOICE 33: notes/assumptions] -/
def gBuffered (s : State) (e : Nat) : Nat := tabGet 0 s.welt.gbuf e + (s.welt.held.filter fun h => h.req.cls == 0 && h.req.dst == e).length

/-- A unit meets a full buffer: discarded, counted, and reported once a window for each flow (R186). -/
def gDiscard (q : Req) (s : State) : State :=
  let s := (s.modFlow q.flow fun x => { x with ovr := min (x.ovr + 1) (2 ^ 32 - 1) }).inci WLT_ERRCNT_COUNT 0
  if (s.flowSt q.flow).ovrSaid then s
  else (s.recordOpen 12 [q.flow, q.src * 65536 + q.dst]).modFlow q.flow fun x => { x with ovrSaid := true }

/-- A unit arrives at its destination.  [DESIGN CHOICE 33: notes/assumptions] -/
def gDeliver (q : Req) (s : State) : State :=
  if 8 ≤ gBuffered s q.dst then gDiscard q s
  else
    let user := epInRegion q.dst && epLocal q.dst % 4 < 2
    let s := if user then s.modWelt fun w => { w with gbuf := tabMod 0 w.gbuf q.dst (· + 1) } else s
    serveOrHold q s

/-- Every guaranteed unit whose time has come arrives. -/
def gArrive (s : State) : State :=
  let due := s.welt.gfly.filter fun p => p.1 ≤ laceSlots s
  flowDrained (due.foldl (fun s p => gDeliver p.2 s) (s.modWelt fun w => { w with gfly := w.gfly.filter fun p => !(p.1 ≤ laceSlots s) }))

/-- An owned injection slot of flow `f` arrives, `at_` counted from the start of the lace timebase; the design of the flow's
destination has taken `taken` units before. -/
def slotInject (f at_ taken : Nat) (s : State) : State :=
  if s.rd WLT_SVC_STATE ≠ 3 ∨ at_ < laceSlots s then s
  else
    let s := reachLace at_ s
    let x := s.flowNow f
    let s := s.modWelt fun w => { w with gbuf := tabMod 0 w.gbuf x.dst (· - taken) }
    let s := gArrive s
    let st := s.flowSt f
    match st.queue with
    | [] => pump s
    | q :: t =>
      if x.slots.contains (at_ % 1024) = false ∨ at_ ≤ st.headAt ∨ inSeam s f at_ then pump s
      else
        let late := match nextSlot x.slots st.headAt with
          | some n => decide (n < at_)
          | none => false
        let s := s.modFlow f fun y => { y with
          queue := t, headAt := at_, units := min (y.units + 1) (2 ^ 32 - 1), held := if late then min (y.held + 1) (2 ^ 32 - 1) else y.held }
        let s := statUnits q s
        pump (s.modWelt fun w => { w with gfly := w.gfly ++ [(at_ + x.dly, q)] })

/-- The next unit of flow `f` arrives while its destination's buffer is full. -/
def overflowArrive (f : Nat) (s : State) : State :=
  match s.welt.gfly.find? fun p => p.2.flow == f with
  | some p =>
    let s := reachLace p.1 s
    if 8 ≤ gBuffered s p.2.dst then flowDrained (gDiscard p.2 (s.modWelt fun w => { w with gfly := w.gfly.erase p })) else gArrive s
  | none => s

/-! Changes of service mode (R174, R175) -/

/-- Step 3: outstanding requests are aborted, and units in the network are discarded. -/
def svcAbort (s : State) : State :=
  let out := s.welt.out
  let s := s.modWelt fun w => { w with resps := [], held := w.held.filter fun h => opPosted h.req.op }
  out.foldl (fun s o => completeLocal 3 ST_WLT_ABORT o s) s

/-- Steps 4 to 6: the format changes, tables load, and injection resumes.  The tables are those of the active image, and the variant that of
the half-width set (R192). -/
def svcFinish (s : State) : State :=
  match s.welt.svcTo with
  | none => s
  | some to_ =>
    let s := s.modWelt fun w => { w with svcTo := none }
    let s := if to_ = 3 then
        let sch := s.cfg.aimg.lace
        let s := s.modWelt fun w => { w with sched0 := sch, bank := 0, lace := 0, stamp := 0, gfly := [], gbuf := []
                                             flows := w.flows.map fun p => (p.1, { p.2 with en := (tabGet {} sch.flows p.1).en0, headAt := 0 }) }
        let s := takeEnables {} sch ((s.wr WLT_EPOCH_CUR 0).wr WLT_LACE_SBANK 0)
        let set := halfSet s
        (((s.wr WLT_HALFSET_HALF set).wr WLT_LACE_VIDX ((variantFor sch set).getD 0)).wr WLT_SVC_TEST 0).wr WLT_SVC_STATE 3
      else (s.wr WLT_SVC_TEST (if s.mode = HOLD then s.rd WLT_SVCREQ_SPLIT else 0)).wr WLT_SVC_STATE 1
    pump s

/-- Step 5 of an epoch change (R195): holds are released, CUR changes, and the change ends.  [DEDUCED 23: notes/assumptions] -/
def epochDrained (s : State) : State := pump (((s.wr WLT_EPOCH_CUR s.welt.stamp).wr WLT_EPOCH_STATE 0).wr WLT_EPOCH_STATUS 0)

/-- No unit of the old epoch is in the network; a request is stamped when its port takes it, and one that waits at its target has left the
network. -/
def oldGone (s : State) : Bool := oldCount s == 0

/-! Power of memories (R112, R119 to R123) -/

/-- BANK_POWER_REQUEST (R112): BNK_CTL takes the word `ctl` and the PSLEEP pin is `psleep`; the state follows. -/
def execBankPowerRequest (d : Fin 12) (r : Fin 32) (b : Fin 64) (ctl : BitVec 32) (psleep : Bool) (s : State) : Out :=
  if s.dieLive d = false then .next s
  else
    let o := oBnk d r b
    let s := (s.wri BNK_CTL_AUTOWAKE o (bit ctl.toNat 2)).wri BNK_CTL_PWRREQ o (bits ctl.toNat 0 2)
    .next (pump (bankFollow d r b (s.modBank (bix d r b) fun k => { k with psleep })))

/-- BANK_POWER_TRANSITION_DONE (R112): an entry ends in RETENTION, a wake in ON. -/
def execBankPowerTransitionDone (d : Fin 12) (r : Fin 32) (b : Fin 64) (s : State) : Out :=
  let o := oBnk d r b
  let p := s.rdi BNK_STAT_PWR o
  if p = 1 then .next (pump (s.wri BNK_STAT_PWR o 2))
  else if p = 3 then .next (pump (s.wri BNK_STAT_PWR o 0))
  else .next s

/-- AWL_MEMORY_WAKE_DONE (R119). -/
def execAwlMemoryWakeDone (d : Fin 12) (r : Fin 32) (y : Bool) (s : State) : Out :=
  if s.rdi (awlMemState y) (oReg d r) = 3 then .next (pump (s.wri (awlMemState y) (oReg d r) 0)) else .next s

/-- Words of a unit of the Last store or the vault. -/
def unitRange (u : Nat) : Nat × Nat := if u = 64 then (vaultBase, vaultBase + 0x100000) else (lastBase + u * 0x80000, lastBase + (u + 1) * 0x80000)

/-- The contents of a unit are lost; every word is good and 0 (R120, R368). -/
def clearUnit (u : Nat) (s : State) : State :=
  let (lo, hi) := unitRange u
  let s := { (s.clearMem lo hi) with marks := s.marks.filter fun p => !(lo ≤ p.1 && p.1 < hi) }
  s.modCob fun c => { c with spares := c.spares.filter fun x => !(x.1 == 3 && (if u = 64 then 2 ^ 23 ≤ x.2.2.1 else x.2.2.1 / 65536 == u)) }

/-- A unit follows its requested state `req`: ON, RETENTION or OFF.  [DEDUCED 17: notes/assumptions] -/
def unitFollow (u req : Nat) (s : State) : State :=
  let st := unitState s u
  if req = 0 then (if st = 1 ∨ st = 2 then setUnitState u 3 s else s)
  else if req = 1 then (if st = 0 ∨ st = 3 then setUnitState u 1 s else s)
  else if req = 2 then setUnitState u 2 (clearUnit u s) else s

/-- The segment holds the context table or the ring of an enabled queue (R122, R204).  [DEDUCED 17: notes/assumptions] -/
def segInUse (s : State) (g : Nat) : Bool :=
  let qs := enabledQueues s
  (decide (g < 4) && !qs.isEmpty) || qs.any fun q =>
    let b := qBase s q
    inLast b && decide ((b - lastBase) / 0x80000 ≤ g) && decide (g ≤ (b + 64 * qN s q - 1 - lastBase) / 0x80000)

/-- LAST_STORE_SEGMENT_POWER: a write of PWR_LSSEG (R120, R122).  REQ 3 is reserved and acts as ON.  [DEDUCED 17: notes/assumptions] -/
def segWrite (g v : Nat) (s : State) : State :=
  let req := bits v 0 2
  let s := s.wri PWR_LSSEG_AUTOWAKE (4 * g) (bit v 4)
  if req ≠ 0 ∧ req ≠ 3 ∧ segInUse s g then s.wri PWR_LSSEG_STATUS (4 * g) ST_MEM_INUSE
  else pump (unitFollow g (req % 3) ((s.wri PWR_LSSEG_REQ (4 * g) req).wri PWR_LSSEG_STATUS (4 * g) 0))

def execLastStoreSegmentPower (seg : Fin 64) (value : BitVec 32) (s : State) : Out := .next (segWrite seg value.toNat s)

/-- VAULT_POWER_WRITE (R123): only a secure master's write has effect.  [DEDUCED 17: notes/assumptions] -/
def vaultWrite (secure : Bool) (v : Nat) (s : State) : State :=
  if secure = false then s
  else
    let s := s.wr PWR_VAULT_AUTOWAKE (bit v 4)
    pump (unitFollow 64 (bits v 0 2 % 3) (s.wr PWR_VAULT_REQ (bits v 0 2)))

def execVaultPowerWrite (secure : Bool) (value : BitVec 32) (s : State) : Out := .next (vaultWrite secure value.toNat s)

/-- MEMORY_WAKE_DONE: segment `unit`, or the vault for 64, reaches ON (R120). -/
def execMemoryWakeDone (unit : Fin 65) (s : State) : Out :=
  if unitState s unit = 3 then .next (pump (setUnitState unit 0 s)) else .next s

/-! DRAM rows that let requests proceed -/

/-- Requests that wait for a channel that has failed are answered (R359). -/
def afterTrain (c : Nat) (s : State) : State := if drcState s c = drcFAILED then pump s else s

/-- DRAM_TRACK (R361): a track falls due. -/
def execDramTrack (c : Fin 8) (edges : List (Nat × Nat × Nat)) (runs : List (Nat × Nat × Nat × Nat)) (s : State) : Out :=
  if s.rd DRC_CTL_TRKEN = 1 ∧ drcState s c = drcREADY then .next (afterTrain c (drcTrack c edges runs s)) else .next s

/-- DRC_TRACK_NOW: DRC_CHCMD operation 1. -/
def execDrcTrackNow (c : Fin 8) (edges : List (Nat × Nat × Nat)) (runs : List (Nat × Nat × Nat × Nat)) (s : State) : Out :=
  if chcmdBusy c s then .next s
  else
    let s := s.wri DRC_CHCMD_OP (oCh c) 1
    if drcState s c ≠ drcREADY then .next (chcmdDone c ST_DRC_STATE s)
    else .next (afterTrain c (chcmdDone c 0 (drcTrack c edges runs s)))

/-- DRC_RETRAIN_LANE: DRC_CHCMD operation 2 on byte lane `lane` (R362). -/
def execDrcRetrainLane (c : Fin 8) (lane : Fin 16) (runs : List (Nat × Nat × Nat × Nat)) (s : State) : Out :=
  if chcmdBusy c s then .next s
  else
    let s := (s.wri DRC_CHCMD_OP (oCh c) 2).wri DRC_CHCMD_LANE (oCh c) lane
    if 10 ≤ lane.val then .next (chcmdDone c ST_DRC_BADCMD s)
    else if drcState s c ≠ drcREADY then .next (chcmdDone c ST_DRC_STATE s)
    else
      let r := retrainLane c lane runs s
      .next (afterTrain c (chcmdDone c (if r.2 then 0 else ST_HW_DRC_TRAIN) r.1))

/-- DRAM_WRITE_QUEUE_DRAIN (R350): the pair of entry `i` of the write queue is drained. -/
def execDramWriteQueueDrain (c : Fin 8) (i : Fin 64) (s : State) : Out :=
  match (s.chan c).wq[i.val]? with
  | some e => if drcState s c = drcREADY then .next (pump (drainPair c (e.line / 2) s)) else .next s
  | none => .next s

/-- DRAM_ZERO_FILL (R360): the fill has reached pair `wm`; at pair 0 the channel is FILLED. -/
def execDramZeroFill (c : Fin 8) (wm : Nat) (s : State) : Out :=
  if drcState s c = drcREADY ∧ wm < s.rdi DRC_FILLWM_WM (oCh c) then
    let s := s.wri DRC_FILLWM_WM (oCh c) wm
    .next (pump (if wm = 0 then s.wr DRC_STAT_FILLED (s.rd DRC_STAT_FILLED ||| 2 ^ c.val) else s))
  else .next s

/-! Queue operations (R207, R208) -/

/-- A write of word `k` of queue `q` (R207). -/
def ctxWrite (src tag : Nat) (posted : Bool) (q k v : Nat) : Req :=
  let a := ctxAddr q k
  let w := a % 64
  { src, op := if posted then WRP else WR, addr := a - w, tag, len := 1, bfirst := w, blast := w + 7, units := [⟨w, w + 7, v * 256 ^ w⟩] }

/-- An AADD of `v` to word `k` of queue `q`. -/
def ctxAdd (src tag q k v : Nat) : Req :=
  { src, op := AADD, addr := ctxAddr q k, tag, len := 1, bfirst := 0, blast := 7, units := [⟨0, 7, v⟩] }

/-- QUE_DOORBELL: T′ to word 2. -/
def execQueDoorbell (src tag : Nat) (posted : Bool) (q : Fin 65536) (t : BitVec 32) (s : State) : Out :=
  .next (inject (ctxWrite src tag posted q 2 t.toNat) s)

/-- QUE_RESERVE: an AADD of k to word 2. -/
def execQueReserve (src tag : Nat) (q : Fin 65536) (k : BitVec 64) (s : State) : Out := .next (inject (ctxAdd src tag q 2 k.toNat) s)

/-- QUE_COMMIT: i and k to word 2. -/
def execQueCommit (src tag : Nat) (posted : Bool) (q : Fin 65536) (i k : BitVec 32) (s : State) : Out :=
  .next (inject (ctxWrite src tag posted q 2 (i.toNat + k.toNat * 2 ^ 32)) s)

/-- QUE_RELEASE: H′, or i and k, to word 3. -/
def execQueRelease (src tag : Nat) (posted : Bool) (q : Fin 65536) (lo hi : BitVec 32) (s : State) : Out :=
  .next (inject (ctxWrite src tag posted q 3 (lo.toNat + hi.toNat * 2 ^ 32)) s)

/-- QUE_CLAIM: an AADD of k to word 3. -/
def execQueClaim (src tag : Nat) (q : Fin 65536) (k : BitVec 64) (s : State) : Out := .next (inject (ctxAdd src tag q 3 k.toNat) s)

end Sys2Proof.Machine
end

