-- ==== Sys2Proof/Machine/AwlCtl.lean ====
section
/-! DEFINITION. Commands and events of the Awl cores other than instructions: START, STOP, RESET, interrupt sources and entry, the watchdog
(spec/09_awl_core.md, R220, R241, R249; spec/21_debug_run_control.md, R554). -/

namespace Sys2Proof.Machine

open Sys2Proof

/-- A command of AWL_CTL completes with `st` (R220). -/
def awlCtlDone (c st : Nat) (s : State) : State := s.wri AWL_CTL_STATUS (oAwl c) st

/-- AWL_CTL.START: a core in RESET or STOPPED runs, in RUN and SHIFT only; it has no effect on one that runs.  [DEDUCED 77: notes/assumptions] -/
def awlStartCmd (c : Nat) (s : State) : State :=
  let st := awlState s c
  if (s.mode ≠ RUN ∧ s.mode ≠ SHIFT) ∨ st = awlFAULTED then awlCtlDone c ST_AWL_STATE s
  else if st = awlRESET then awlCtlDone c 0 (startReset c s)
  else if st = awlSTOPPED then awlCtlDone c 0 ((setAwlState c awlRUN s).wri AWL_STAT_MODESTOP (oAwl c) 0)
  else awlCtlDone c 0 s

def execAwlStart (c : Fin 384) (s : State) : Out := if s.dieUp (c / 32) then .next (awlStartCmd c s) else .next s

/-- AWL_CTL.STOP.  [DEDUCED 77: notes/assumptions] -/
def awlStopCmd (c : Nat) (s : State) : State :=
  if awlState s c = awlFAULTED then awlCtlDone c ST_AWL_STATE s else awlCtlDone c 0 (stopCore false c s)

def execAwlStop (c : Fin 384) (s : State) : Out := if s.dieUp (c / 32) then .next (awlStopCmd c s) else .next s

/-- AWL_CTL.RESET.  [DEDUCED 27: notes/assumptions] -/
def awlResetCmd (c : Nat) (s : State) : State := awlCtlDone c 0 (resetCore c s)

def execAwlReset (c : Fin 384) (s : State) : Out := if s.dieUp (c / 32) then .next (awlResetCmd c s) else .next s

/-- AWL_ISET_WRITE: the named sources become software pending (R241). -/
def execAwlIsetWrite (c : Fin 384) (value : BitVec 32) (s : State) : Out :=
  if s.dieUp (c / 32) then .next (raiseSoft c value.toNat s) else .next s

/-- FABRIC_IRQ: line FIRQ[k] of the core takes `level`; a rising edge of an edge source latches (R241). -/
def execFabricIrq (c : Fin 384) (k : Fin 16) (level : Bool) (s : State) : Out :=
  if s.dieUp (c / 32) = false then .next s
  else
    let was := bit (s.core c).lines k
    let s := s.modCore c fun x => { x with lines := if level then x.lines ||| 2 ^ k.val else x.lines &&& (65535 - 2 ^ k.val) }
    if level = true ∧ was = 0 ∧ bit (s.rdi AWL_ICFG_EDGE (oAwl c)) k = 1 then .next (raiseEdge c k s) else .next (wakeWait c s)

/-- Level above which a source is taken (R241): IPL; in a session THRESH and the level that the monitor interrupted, and in a handler entered
from the monitor that handler's level too (R554).  [DEDUCED 74: notes/assumptions] -/
def irqFloor (s : State) (c : Nat) : Nat :=
  let a := (s.core c).arch
  if inSession s c then
    max (max (s.rdi DBG_CORECTL_THRESH (oDbg c)) (bits (a.get (kRSR 5)) 24 3)) (if a.ipl = 5 then 0 else a.ipl)
  else a.ipl

/-- INTERRUPT_ENTRY: at a boundary the highest pending and enabled source above the floor is taken while IE is 1 (R238, R241). -/
def execInterruptEntry (c : Fin 384) (s : State) : Out :=
  let k := s.core c
  if coreRuns s c = false ∨ k.lk.isSome ∨ k.stopping.isSome ∨ (k.loads.any fun l => l.ordered) then .next s
  else
    let t := squash c s
    let a := (t.core c).arch
    if bit a.sr 23 = 0 then .next s
    else match bestSrc t c (irqFloor t c) with
      | none => .next s
      | some n =>
        let t := awlEnter c (srcLevel t c n) (16 + n) a.pc t
        .next (showPc c (t.modCore c fun k => { k with
          soft := if bit k.soft n = 1 then k.soft - 2 ^ n else k.soft
          edge := if bit (edgeMask t c) n = 1 ∧ bit k.edge n = 1 then k.edge - 2 ^ n else k.edge }))

/-- The time at which the watchdog reaches 0.  [DESIGN CHOICE 76: notes/assumptions] -/
def wdExpires (c : Nat) (s : State) : State := s.reachElapsed ((s.core c).wdAt + s.rdi AWL_WDGCNT_COUNT (oAwl c) * 10)

/-- WATCHDOG_FIRST_EXPIRY: WDOG is raised and the counter reloads (R249).  [DESIGN CHOICE 76: notes/assumptions] -/
def execWatchdogFirstExpiry (c : Fin 384) (s : State) : Out :=
  if wdRuns s c = false ∨ (s.core c).wdFirst then .next s
  else
    let s := wdSet c (s.rdi AWL_WDGCFG_RELOAD (oAwl c)) (wdExpires c s)
    let s := (s.wri AWL_STAT_WDEXC (oAwl c) 1).modCore c fun k => { k with wdFirst := true, wdPend := true }
    .next (takeWdog c (s.recordOpen (c / 32) [c]))

/-- WATCHDOG_SECOND_EXPIRY: the core is reset, or its region enters SAFE (R249).  [DESIGN CHOICE 76: notes/assumptions] -/
def execWatchdogSecondExpiry (c : Fin 384) (s : State) : Out :=
  if wdRuns s c = false ∨ (s.core c).wdFirst = false then .next s
  else
    let s := wdSet c (s.rdi AWL_WDGCFG_RELOAD (oAwl c)) (wdExpires c s)
    let s := s.modCore c fun k => { k with wdFirst := false, wdPend := false }
    if s.rdi AWL_WDGCFG_ACT (oAwl c) = 1 then .next (s.fault ST_HW_AWL_WDOG (c / 32) (oneRegion (c / 32) (c % 32)) [c])
    else .next (((resetCore c s).wri AWL_STAT_WDBITE (oAwl c) 1).recordOpen (c / 32) [c])

end Sys2Proof.Machine
end

