-- ==== Sys2Proof/Machine/Eyelets.lean ====
section
/-! DEFINITION. Eyelets: training, the repair ladder, and the express channels that ride on them (spec/05_eyelets.md, R81 to
R88 of spec/03_fabric_routing_timing_classes.md). -/

namespace Sys2Proof.Machine

open Sys2Proof

/-- An Eyelet is trained when every fabric die of it is SUPPORTED (R32 step 6, R133). -/
def eyeTrains (s : State) (e : Nat) : Bool := (eyeDies e).all fun d => s.rdi GLB_DIESTAT_STATE (4 * d) == 1

/-- Every region of the Eyelet's fabric dies (R142). -/
def eyeRegions (s : State) (e : Nat) : List (Nat × Nat) := (eyeDies e).flatMap fun d => s.dieRegions d

/-- Failed data and check lanes of a group are replaced by good spares, lowest lane first (R133 step 5). -/
def spareFailed (k : EyeGroup) : EyeGroup :=
  ((List.range 84).filter fun l => k.failed.contains l).foldl (fun k l =>
    match idleSpares k with
    | [] => k
    | sp :: _ => { k with subst := tabSet none k.subst sp (some l) }) k

/-- Training of one group (R133, R134), a failed check lane that no spare carries being retired (R140): whether it comes into service, and its lanes.  `clk` says whether its clock lane
locks, `bad` which lanes fail the test. -/
def trainGroup (whalf clk : Bool) (g : Nat) (bad : List Nat) (k : EyeGroup) : Bool × EyeGroup :=
  let k := spareFailed { k with failed := bad, failing := [], retired := [], subst := [], corr := [], swap := none, half := false, halfAt := none }
  let k := if g = 0 ∧ unrepaired k ≠ [] then { k with half := whalf } else k
  let k := if g = 0 then k else { k with retired := (unrepaired k).filter fun l => decide (80 ≤ l) }
  (clk && decide (44 ≤ goodLanes k) && (g != 0 || k.half || unrepaired k == []), k)

/-- Training of one Eyelet after a probe (R133): GUP, protocol version, STATE UP or DEGRADED, or TRAINING while a group is
out of service (R135). -/
def trainEye (bad : List (Nat × Nat)) (noclk : List Nat) (e : Nat) (s : State) : State :=
  let wh := eyeFeature s e 2
  let s := [0, 1].foldl (fun s dir => [0, 1, 2, 3].foldl (fun s g =>
    let k := gix e dir g
    let r := trainGroup wh (!noclk.contains k) g ((bad.filter fun p => p.1 == k).map Prod.snd) (s.eye k)
    showGroup e dir g ((s.modEye k fun _ => r.2).wri EYE_GSTAT_INSVC (oGrp e dir g) r.1.toNat)) s) s
  let gup := [0, 1, 2, 3].foldl (fun m g => if s.rdi EYE_GSTAT_INSVC (oGrp e 0 g) = 1 ∧ s.rdi EYE_GSTAT_INSVC (oGrp e 1 g) = 1 then m + 2 ^ g else m) 0
  let s := ((s.wri EYE_STAT_GUP (4 * e) gup).wri EYE_STAT_PROTO (4 * e) (s.rd GLB_PKG_PROTO)).wri EYE_STAT_STATE (4 * e) (if gup = 15 then 2 else 1)
  showEye e s

/-- A retrain under R142: lane states are kept; clock lock, alignment and latency lock are taken again (R136). -/
def retrainEye (noclk : List Nat) (e : Nat) (s : State) : State × Bool :=
  let ok := [0, 1].all fun dir => [0, 1, 2, 3].all fun g => !noclk.contains (gix e dir g)
  let s := [0, 1].foldl (fun s dir => [0, 1, 2, 3].foldl (fun s g =>
    let k := gix e dir g
    s.wri EYE_GSTAT_INSVC (oGrp e dir g) (if noclk.contains k then 0 else 1)) s) s
  if ok then (showEye e (((s.wri EYE_STAT_GUP (4 * e) 15).wri EYE_STAT_STATE (4 * e) 2).wri EYE_STAT_REASON (4 * e) 0), true)
  else ((s.wri EYE_STAT_STATE (4 * e) 4).wri EYE_STAT_REASON (4 * e) ST_HW_EYE_TRAIN, false)

/-- EYE_EVENT entry. -/
def eyeEvent (kind e dir g lane : Nat) : Nat := kind * 2 ^ 28 + e * 2 ^ 23 + dir * 2 ^ 22 + g * 2 ^ 20 + lane * 2 ^ 13

/-- SOURCE of a record about Eyelet `e` (R582). -/
def eyeSource (e : Nat) : Nat := 48 + e

/-- Every Eyelet whose dies are supported trains (R32 step 6): `bad` lists failing lanes by group and `noclk` the groups whose clock lane
does not lock. -/
def trainEyes24 (bad : List (Nat × Nat)) (noclk : List Nat) (s : State) : State :=
  (List.range 24).foldl (fun s e => if eyeTrains s e then trainEye bad noclk e s else s) s

/-- EYELET_TRAINING_TIMEOUT (R135): an Eyelet still training is FAILED; a failed spoke makes its die SILENT. -/
def execEyeletTrainingTimeout (e : Fin 24) (s : State) : Out :=
  if s.rdi EYE_STAT_STATE (4 * e) = 1 then
    let s := (s.wri EYE_STAT_STATE (4 * e) 4).wri EYE_STAT_REASON (4 * e) ST_HW_EYE_TRAIN
    let s := s.wri EYE_STAT_WWIDTH (4 * e) (if bit (s.rdi EYE_STAT_GUP (4 * e)) 0 = 0 then 2 else if (s.eye (gix e 0 0)).half ∨ (s.eye (gix e 1 0)).half then 1 else 0)
    let s := s.recordSt ST_HW_EYE_TRAIN (eyeSource e) []
    .next (if e.val < 12 then dieOff e ST_HW_DIE_SILENT s else s)
  else .next s

/-- The Eyelet takes its dies to SAFE (R142): REASON, an event, and the Eyelet is retrained by the acknowledgment. -/
def eyeFault (e dir g lane kind st : Nat) (s : State) : State :=
  let w := eyeEvent kind e dir g lane
  let s := (s.push EYE_EVENT_VALID w).wri EYE_STAT_REASON (4 * e) st
  let s := s.fault st (eyeSource e) (eyeRegions s e) [w]
  { s with modes := { s.modes with safeEyelets := if s.modes.safeEyelets.contains e then s.modes.safeEyelets else s.modes.safeEyelets ++ [e] } }

/-- Nothing of the ladder is left for a failing lane (R142): an express lane that is not tolerant with no spare and no
reserve, or group 0 with no spare that may not or cannot run at half width.  A rung that EYE_CTL turns off is left to the
host (R143), but for half width, whose AUTOHALF = 0 counts as none. -/
def exhausted (s : State) (e dir g lane : Nat) : Bool :=
  let k := s.eye (gix e dir g)
  let lane := carriedLane k lane
  if idleSpares k ≠ [] then false
  else if g = 0 then
    decide (goodLanes k < 44) || !k.half && (!eyeFeature s e 2 || s.rd EYE_CTL_AUTOHALF == 0)
  else
    let rsv := if eyeFeature s e 1 then idleReserves k else []
    decide (lane < 80) && rsv == [] && !k.tolerant.contains lane && s.rd EYE_CTL_AUTORSV == 1

/-- The step before a rung is used up, or EYE_CTL turns it off (R143). -/
def sparesDone (s : State) (x : EyeGroup) : Bool := idleSpares x == [] || s.rd EYE_CTL_AUTOSPARE == 0

/-- Group 0 is to drop to half width (R141). -/
def halfNeeded (s : State) (e g : Nat) (x : EyeGroup) : Bool :=
  g == 0 && x.failing != [] && sparesDone s x && !x.half && s.rd EYE_CTL_AUTOHALF == 1 && eyeFeature s e 2

/-- The decision to drop to half width picks the first lace frame boundary at least two frames ahead (R141). -/
def halfDecide (e dir g : Nat) (s : State) : State :=
  let x := s.eye (gix e dir g)
  if halfNeeded s e g x = true ∧ x.halfAt = none ∧ s.rd WLT_SVC_STATE = 3 then
    s.modEye (gix e dir g) fun x => { x with halfAt := some (boundaryAfter 2 s) }
  else s

/-- The lane that waits first has nothing of the ladder left (R142), or group 0 is to drop to half width (R141). -/
def ladderNext (e dir g : Nat) (s : State) : State :=
  match (s.eye (gix e dir g)).failing with
  | l :: _ => if (s.eye (gix e dir g)).swap = none ∧ exhausted s e dir g l = true then eyeFault e dir g l 7 ST_HW_EYE_EXHAUST s else halfDecide e dir g s
  | [] => s

/-- The decoder's count of a lane in its window is `n`, `run` of it in successive code words (R132, R142 to R144): at BERTH or at
64 the lane is failing and waits its turn.  A spare that is not in use and shows an error is failed (R138); a retired lane has none (R130).
[DEDUCED 21: notes/assumptions]  [DEDUCED 21: notes/assumptions] -/
def laneCorrected (e dir g lane n run : Nat) (s : State) : State :=
  let k := gix e dir g
  let x := s.eye k
  if laneInUse x lane = false then
    if 84 ≤ lane ∧ 0 < n ∧ ¬ x.failed.contains lane = true then showGroup e dir g (s.modEye k fun x => { x with failed := x.failed ++ [lane] }) else s
  else
    let s := s.modEye k fun x => { x with corr := tabSet 0 x.corr lane (min n 0xFFFFF) }
    let s := s.addi EYE_CORR_COUNT (oGrp e dir g) (n - tabGet 0 x.corr lane)
    if (max 1 (s.rd EYE_CTL_BERTH) ≤ n ∨ 64 ≤ run) ∧ ¬ x.failed.contains lane = true then
      let s := if x.failing.contains lane then s
        else (s.modEye k fun x => { x with failing := x.failing ++ [lane] }).push EYE_EVENT_VALID (eyeEvent 1 e dir g lane)
      if exhausted s e dir g lane then eyeFault e dir g lane 7 ST_HW_EYE_EXHAUST s else halfDecide e dir g s
    else s

/-- LANE_FAILING: the decoder has corrected `n` symbols of a lane in its window, `run` of them in successive code words. -/
def execLaneFailing (e : Fin 24) (dir : Fin 2) (g : Fin 4) (lane : Fin 88) (n run : Nat) (s : State) : Out :=
  .next (laneCorrected e dir g lane n run s)

/-- LANE_WINDOW_END (R132): the lane's count restarts. -/
def execLaneWindowEnd (e : Fin 24) (dir : Fin 2) (g : Fin 4) (lane : Fin 88) (s : State) : Out :=
  .next (s.modEye (gix e dir g) fun x => { x with corr := tabSet 0 x.corr lane 0 })

/-- A lane is replaced by an idle good spare (R138), which takes over what a spare in use carried, with its event and record. -/
def spareLane (e dir g lane sp : Nat) (s : State) : State :=
  let w := eyeEvent 2 e dir g lane
  let s := s.modEye (gix e dir g) fun x =>
    { x with
      failing := x.failing.filter (· != lane), failed := if x.failed.contains lane then x.failed else x.failed ++ [lane]
      subst := if lane < 84 then tabSet none x.subst sp (some lane) else tabSet none (tabSet none x.subst lane none) sp (tabGet none x.subst lane) }
  ((showEye e (showGroup e dir g s)).push EYE_EVENT_VALID w).record 0x0008 (eyeSource e) 2 [w]

/-- At half width a failing lane is replaced by a good lane that is not in use (R141). -/
def replaceHalf (e dir lane : Nat) (s : State) : State :=
  let w := eyeEvent 2 e dir 0 lane
  let s := s.modEye (gix e dir 0) fun x => { x with failing := x.failing.filter (· != lane), failed := if x.failed.contains lane then x.failed else x.failed ++ [lane] }
  ((showGroup e dir 0 s).push EYE_EVENT_VALID w).record 0x0008 (eyeSource e) 2 [w]

/-- LANE_SPARE (R138, R141, R143, R144): with AUTOSPARE the lane first detected takes the lowest idle good spare, or at half width a good
lane of the group, while no other repair of the group runs. -/
def execLaneSpare (e : Fin 24) (dir : Fin 2) (g : Fin 4) (s : State) : Out :=
  let x := s.eye (gix e dir g)
  match x.failing, idleSpares x with
  | l :: _, sp :: _ => if s.rd EYE_CTL_AUTOSPARE = 1 ∧ x.swap = none then .next (ladderNext e dir g (spareLane e dir g l sp s)) else .next s
  | l :: _, [] => if s.rd EYE_CTL_AUTOSPARE = 1 ∧ g.val = 0 ∧ x.half = true ∧ 44 ≤ goodLanes x then .next (ladderNext e dir g (replaceHalf e dir l s)) else .next s
  | [], _ => .next s

/-- A lane's slots move to a reserve, or nowhere: the lane is retired (R139 step 4, R140), and a spare or reserve that carried them and is
failing is given up. -/
def moveLane (e dir g lane : Nat) (dst : Option Nat) (s : State) : State :=
  let w := eyeEvent (if dst.isSome then 3 else 4) e dir g lane
  let s := s.modEye (gix e dir g) fun x =>
    let lost := (x.subst.filter fun p => p.2 == some lane && x.failing.contains p.1).map Prod.fst
    let gone := x.retired ++ lost.filter fun l => decide (l < 80)
    let sub := x.subst.filter fun p => p.2 != some lane
    { x with
      failing := x.failing.filter fun l => l != lane && !lost.contains l
      failed := x.failed ++ lost.filter fun l => decide (84 ≤ l)
      retired := if gone.contains lane then gone else gone ++ [lane], swap := none
      subst := match dst with
        | some r => tabSet none sub r (some lane)
        | none => sub }
  ((showEye e (showGroup e dir g s)).push EYE_EVENT_VALID w).record 0x0008 (eyeSource e) 2 [w]

/-- A move or retirement is written at once where no region clock runs, and is scheduled for T otherwise, the shadow plane
being given up in SHIFT (R139, R140, R145).  [DEDUCED 41: notes/assumptions] -/
def startMove (e dir g lane : Nat) (dst : Option Nat) (s : State) : State :=
  if s.mode = RUN ∨ s.mode = SHIFT then
    let s := shfForRepair s
    s.modEye (gix e dir g) fun x => { x with swap := some (lane, dst, s.clocks.tb + 120000) }
  else moveLane e dir g lane dst s

/-- Reserves that a failing lane may take: none where the feature is off (R29). -/
def freeReserves (s : State) (e : Nat) (x : EyeGroup) : List Nat := if eyeFeature s e 1 then idleReserves x else []

/-- RESERVE_MOVE (R139, R143): with no spare free, AUTORSV on and XRES enabled, what the lane first detected of an express group carries
goes to the lowest free reserve. -/
def execReserveMove (e : Fin 24) (dir : Fin 2) (g : Fin 4) (s : State) : Out :=
  let x := s.eye (gix e dir g)
  match x.failing, freeReserves s e x with
  | l :: _, r :: _ =>
    if g.val ≠ 0 ∧ carriedLane x l < 80 ∧ sparesDone s x = true ∧ x.swap = none ∧ s.rd EYE_CTL_AUTORSV = 1 then
      .next (ladderNext e dir g (startMove e dir g (carriedLane x l) (some r) s))
    else .next s
  | _, _ => .next s

/-- EYE_CMD completes with `st`. -/
def eyeCmdDone (st : Nat) (s : State) : State := (s.wr EYE_CMD_STATUS st).wr EYE_CMD_BUSY 0

/-- Target of EYE_CMD: Eyelet, direction, group and lane.  [DEDUCED 20: notes/assumptions] -/
def eyeTarget (s : State) : Nat × Nat × Nat × Nat := (s.rd EYE_CMDTGT_EYELET, s.rd EYE_CMDTGT_DIR, s.rd EYE_CMDTGT_GROUP, s.rd EYE_CMDTGT_LANE)

/-- Operation 1 or 2 of EYE_CMD on a group without a repair in progress.  [DEDUCED 20: notes/assumptions] -/
def eyeCmdRun (op : Nat) (s : State) : State :=
  let (e, dir, g, l) := eyeTarget s
  let x := s.eye (gix e dir g)
  match if op = 1 then idleSpares x else freeReserves s e x with
  | r :: _ => eyeCmdDone 0 (if op = 1 then spareLane e dir g l r s else startMove e dir g l (some r) s)
  | [] => eyeCmdDone ST_EYE_NOSPARE s

/-- A repair command whose group repairs a lane waits for it (R144).  [DEDUCED 20: notes/assumptions] -/
def eyeCmdTry (op : Nat) (s : State) : State :=
  let (e, dir, g, _) := eyeTarget s
  if (s.eye (gix e dir g)).swap = none then eyeCmdRun op s else s.wr EYE_CMD_BUSY 1

/-- The repair of a group is complete: a command that waits for it runs, and the next lane has its turn (R144). -/
def repairEnds (e dir g : Nat) (s : State) : State :=
  let t := eyeTarget s
  ladderNext e dir g (if s.rd EYE_CMD_BUSY = 1 ∧ t.1 = e ∧ t.2.1 = dir ∧ t.2.2.1 = g then eyeCmdRun (s.rd EYE_CMD_OP) s else s)

/-- RESERVE_SWAP (R139 steps 3 and 4): the swap point of a scheduled move or retirement.  None falls in a gear change of the Eyelet's
dies, and a gear change that waited for it begins (R146). -/
def execReserveSwap (e : Fin 24) (dir : Fin 2) (g : Fin 4) (s : State) : Out :=
  match (s.eye (gix e dir g)).swap with
  | some (l, dst, t) =>
    if (eyeDies e).any fun d => s.rdi GEAR_STAT_PHASE (4 * s.rdi GEAR_DIE_GROUP (4 * d)) != 0 then .next s
    else .next (gearNextAll (repairEnds e dir g (moveLane e dir g l dst (s.reach t))))
  | none => .next s

/-- LANE_RETIRE (R140, R143): with spares and reserves used up, a lane whose signals are all tolerant, or a check lane, is retired. -/
def execLaneRetire (e : Fin 24) (dir : Fin 2) (g : Fin 4) (s : State) : Out :=
  let x := s.eye (gix e dir g)
  match x.failing with
  | l :: _ =>
    let m := carriedLane x l
    if sparesDone s x = true ∧ x.swap = none ∧ s.rd EYE_CTL_AUTORSV = 1 ∧
        ((80 ≤ m ∧ m < 84) ∨ (g.val ≠ 0 ∧ m < 80 ∧ x.tolerant.contains m = true ∧ freeReserves s e x = [])) then
      .next (ladderNext e dir g (startMove e dir g m none s))
    else .next s
  | [] => .next s

/-- HALF_WIDTH_CHANGE (R141): at the lace frame boundary picked, group 0 drops to half width and every enabled flow's degraded
variant through the Eyelet is in force. -/
def execHalfWidthChange (e : Fin 24) (dir : Fin 2) (s : State) : Out :=
  let x := s.eye (gix e dir 0)
  match x.failing with
  | l :: _ =>
    if halfNeeded s e 0 x = true then
      let w := eyeEvent 5 e dir 0 l
      let s := if s.rd WLT_SVC_STATE = 3 then reachLace (x.halfAt.getD (boundaryAfter 2 s) * 1024) s else s
      let s := s.modEye (gix e dir 0) fun x => { x with half := true, halfAt := none, failing := [], failed := x.failed ++ x.failing }
      let s := weltHalfWidth e (eyeRegions s e) (showEye e (showGroup e dir 0 s))
      .next ((s.push EYE_EVENT_VALID w).record 0x0008 (eyeSource e) 2 [w])
    else .next s
  | [] => .next s

/-- A signal travels in code word `w` of an express cycle of its group (R129, R130). -/
def inWord (e g w sig : Nat) : Bool := (sigLane e sig).1 == g && (isCorner e || sig % (80 * laneBits e) % laneBits e / 10 == w)

/-- Every signal that the image carries in the code word is tolerant (R142). -/
def wordTolerant (s : State) (e dir g w : Nat) : Bool :=
  s.cfg.aimg.carries.all fun x => !(x.1 == e && x.2.1 == dir && inWord e g w x.2.2) || s.cfg.aimg.tolerant.contains x

/-- EYELET_UNCORRECTABLE (R130, R142): code word `word` of a cycle of a group has more than one symbol in error.  Signals that are all
tolerant read 0 for the cycle. -/
def execEyeletUncorrectable (e : Fin 24) (dir : Fin 2) (g : Fin 4) (word : Fin 2) (s : State) : Out :=
  let s := s.inci EYE_UNC_COUNT (oGrp e dir g)
  if g.val ≠ 0 ∧ wordTolerant s e dir g word = true then
    let fly := s.express.fly.filter fun p => !(p.1 / 4800 == e.val * 2 + dir.val && inWord e g word (p.1 % 4800))
    .next ({ s with express := { s.express with fly := fly } }.push EYE_EVENT_VALID (eyeEvent 6 e dir g 0))
  else .next (eyeFault e dir g 0 6 ST_HW_EYE_UE s)

/-- EYELET_CLOCK_LANE_LOSS (R142): the forwarded clock of a group loses lock. -/
def execEyeletClockLaneLoss (e : Fin 24) (dir : Fin 2) (g : Fin 4) (s : State) : Out :=
  let s := s.wri EYE_GSTAT_INSVC (oGrp e dir g) 0
  let gup := s.rdi EYE_STAT_GUP (4 * e)
  let s := s.wri EYE_STAT_GUP (4 * e) (gup - bit gup g * 2 ^ g.val)
  .next (eyeFault e dir g 88 6 ST_HW_EYE_TRAIN (if g.val = 0 then s.wri EYE_STAT_WWIDTH (4 * e) 2 else s))

/-- EYE_CMD_SPARE: operation 1 (R138): the target data or check lane takes a spare, or ST_EYE_NOSPARE.  [DEDUCED 20: notes/assumptions] -/
def execEyeCmdSpare (s : State) : Out :=
  if s.rd EYE_CMD_BUSY = 1 then .next s
  else
    let s := s.wr EYE_CMD_OP 1
    let (e, _, _, l) := eyeTarget s
    .next (if 24 ≤ e ∨ 84 ≤ l then eyeCmdDone ST_EYE_BADCMD s else eyeCmdTry 1 s)

/-- EYE_CMD_MOVE: operation 2 (R139): the target data lane of an express group moves to a reserve, or ST_EYE_NOSPARE.  [DEDUCED 20: notes/assumptions] -/
def execEyeCmdMove (s : State) : Out :=
  if s.rd EYE_CMD_BUSY = 1 then .next s
  else
    let s := s.wr EYE_CMD_OP 2
    let (e, _, g, l) := eyeTarget s
    .next (if 24 ≤ e ∨ 80 ≤ l ∨ g = 0 then eyeCmdDone ST_EYE_BADCMD s else eyeCmdTry 2 s)

/-- EYE_CMD_INJECT: operation 3 (R147): in HOLD one symbol of the target lane is corrupted for one code word, corrected and
counted like any other error; elsewhere ST_EYE_NOTHOLD.  [DEDUCED 20, 21: notes/assumptions] -/
def execEyeCmdInject (s : State) : Out :=
  if s.rd EYE_CMD_BUSY = 1 then .next s
  else
    let s := s.wr EYE_CMD_OP 3
    let (e, dir, g, l) := eyeTarget s
    if s.mode ≠ HOLD then .next (eyeCmdDone ST_EYE_NOTHOLD s)
    else if 24 ≤ e ∨ 84 ≤ l then .next (eyeCmdDone ST_EYE_BADCMD s)
    else .next (eyeCmdDone 0 (laneCorrected e dir g l (tabGet 0 (s.eye (gix e dir g)).corr l + 1) 1 s))

/-! Express channels -/

/-- Sending die of a channel, `none` for the Last (R127). -/
def xSender (x : Nat) : Option Nat :=
  let e := x / 4800 / 2
  let dir := x / 4800 % 2
  if e < 12 then (if dir = 0 then some e else none) else if dir = 0 then some (e - 12) else some ((e - 12 + 1) % 12)

/-- Gear group in which a channel is clocked: its sender's, the spoke die's where the Last sends (R85). -/
def xGroup (s : State) (x : Nat) : Nat := s.rdi GEAR_DIE_GROUP (4 * ((xSender x).getD (x / 4800 / 2)))

/-- A channel's landing register may hold a value (R88): its group is in service, its sender is up, and neither the sender
nor the Eyelet is in SAFE; a retired lane carries 0 (R140). -/
def xLive (s : State) (x : Nat) : Bool :=
  let e := x / 4800 / 2
  let dir := x / 4800 % 2
  let n := xSignals e / 3
  let g := 1 + x % 4800 / n
  let lane := x % 4800 % n / (n / 80)
  let k := s.eye (gix e dir g)
  let up := match xSender x with
    | some d => s.dieUp d && s.rdi GLB_DIESTAT_STATE (4 * d) == 1 && !(s.mode == SAFE && s.rdi GLB_SAFEREG_MASK (4 * d) != 0)
    | none => true
  bit (s.rdi EYE_STAT_GUP (4 * e)) g == 1 && up && !(s.mode == SAFE && s.modes.safeEyelets.contains e) &&
    (!k.retired.contains lane || k.reserves.any fun r => tabGet none k.subst r == some lane)

/-- What a cross-connect output selects (R86): a landing on a spoke, or a constant; a reserved code gives 0.  [DEDUCED 20: notes/assumptions] -/
def xcSelect (land : Tab Nat) (code : Nat) : Nat :=
  let spoke := code / 2 ^ 13
  let sig := code % 2 ^ 13
  if spoke < 12 ∧ sig < 4800 then tabGet 0 land (xix spoke 0 sig) else if spoke = 15 ∧ sig = 1 then 1 else 0

/-- A launch register of the Last that an enabled receive entry drives from a bundle whose streams deliver (R397, R398). -/
def streamDriven (s : State) (x : Nat) : Bool :=
  let e := x / 4800 / 2
  let blk := x % 4800 / 20
  (List.range 8).any fun b =>
    s.rdi SZL_BSTAT_STRUP (b * 0x100) == 1 &&
      (if s.express.plane = 0 then (s.bundle b).map0 else (s.bundle b).map1).rx.any fun p => bit p.2 15 == 1 && bits p.2 11 4 == e && bits p.2 0 8 == blk

/-- EXPRESS_CLOCK_EDGE (R83, R86 to R88): an edge of gear group `g`'s express clock.  A launched value lands two edges
later; the Last's launch registers take the landings their codes select, in the same edge; a pass-through takes a landing
register's value of before the edge; every other launch register, a stream's among them (R397, R400), takes 1 where `ones` lists its channel. -/
def execExpressClockEdge (g : Fin 12) (ones : List Nat) (s : State) : Out :=
  if s.rdi GEAR_STAT_GEAR (4 * g) = 0 then .next s
  else
    let x := s.express
    let cfg := if x.plane = 0 then x.cfg0 else x.cfg1
    let mine := fun (p : Nat × Nat) => xGroup s p.1 == g.val
    let other := fun (t : Tab Nat) => t.filter fun p => !mine p
    let put := fun (t : Tab Nat) (p : Nat × Nat) => tabSet 0 t p.1 p.2
    let land := ((x.fly.filter mine).filter fun p => xLive s p.1).foldl put (other x.land)
    let fly := (x.launch.filter mine).foldl put (other x.fly)
    let fromFabric := ((ones.filter fun c => c < 24 * 2 * 4800 && xGroup s c == g.val && ((xSender c).isSome || (c / 4800 % 2 == 1 && c / 9600 < 12 && streamDriven s c)))).foldl (fun t c => tabSet 0 t c 1) (other x.launch)
    let fromPass := (cfg.pass.filter mine).foldl (fun t p => tabSet 0 t p.1 (tabGet 0 x.land p.2)) fromFabric
    let fromXc := (cfg.xc.filter fun p => mine p && !streamDriven s p.1).foldl (fun t p => tabSet 0 t p.1 (xcSelect land p.2)) fromPass
    let s := { s with express := { x with land := land, fly := fly, launch := fromXc } }
    .next (s.modGear g fun c => { c with count := c.count + 1 })

end Sys2Proof.Machine
end

