-- ==== Sys2Proof/Machine/Planes.lean ====
section
/-! DEFINITION. Frames, the frame table, the checks of an image, and what a region's frames, an image's banks, cores, programs and
routing come to in the machine (spec/11_configuration_planes.md, R36 to R38, R137). -/

namespace Sys2Proof.Machine

open Sys2Proof

/-! The checks of R300 -/

/-- A refusal of an image: status, DETAIL, and KIND and VALUE of CFG_RESLOC. -/
abbrev Refused := Option (Nat × Nat × Nat × Nat)

/-- The signing key of a slot is accepted (R298, R524, R528). -/
def slotAccepted (s : State) (n : Nat) : Bool := bit (s.rd SEC_STAT_SLOTPROG) n == 1 && bit (s.rd SEC_STAT_SLOTREV) n == 0

def keyOk (s : State) (i : Image) : Bool :=
  i.sigSlot < 8 && slotAccepted s i.sigSlot && tabGet 0 s.keyHash i.sigSlot == i.keyHash &&
    (s.rd SEC_STAT_OWNLOCK == 0 || i.sigSlot == 7) && (s.rd SEC_STAT_LC != 3 || i.sigSlot == 0) &&
    (!i.enc || (1 ≤ i.encKey && i.encKey ≤ 15 && bit (s.rd SEC_KEYS_PRESENT) (i.encKey - 1) == 1))

/-- Check 5: the first die that fails, with its status (R36). -/
def dieCheck (s : State) (i : Image) : Option (Nat × Nat) :=
  (usedDies i).findSome? fun d =>
    let e := imgDie i d
    let st := s.rdi GLB_DIESTAT_STATE (4 * d)
    let step := bits (s.die d).ident 8 8
    if st = 2 ∨ st = 3 then some (ST_COMPAT_NODIE, d)
    else if (e.stepMin ≠ 0 ∧ step < e.stepMin) ∨ (e.stepMax ≠ 0xFF ∧ e.stepMax < step) then some (ST_COMPAT_DIE, d)
    else if e.feat &&& s.rdi FDC_CAPEN_FEAT (oDie d) ≠ e.feat then some (ST_COMPAT_FEATURE, d) else none

/-- The image uses an Eyelet: a spoke of a die it uses, a ring Eyelet on which it carries signals (R135, R137).  [DEDUCED 36: notes/assumptions] -/
def eyeUsed (i : Image) (e : Nat) : Bool := if e < 12 then (imgDie i e).use else i.carries.any fun x => x.1 == e

/-- Check 8: the first Eyelet used by the image that R137 refuses; reserves exist for groups 1 to 3.  [DEDUCED 36: notes/assumptions] -/
def eyeCheck (s : State) (i : Image) : Option Nat :=
  (List.range 24).find? fun e =>
    eyeUsed i e &&
      (s.rdi EYE_STAT_STATE (4 * e) == 4 || [0, 1].any fun dir => [1, 2, 3].any fun g =>
        let k := s.eye (gix e dir g)
        let ls := tabGet [] i.reserves ((e * 2 + dir) * 3 + g - 1)
        let rsv := if eyeFeature s e 1 then (ls.filter fun l => l != 0xFF && !k.failed.contains l && !k.retired.contains l).length else 0
        let firm := (lanesOut k).filter fun l => !ls.contains l && !laneTolerant i e dir g l
        decide (rsv < firm.length))

/-- Two byte ranges overlap. -/
def overlap (a b c d : Nat) : Bool := decide (a < d) && decide (c < b) && decide (a < b) && decide (c < d)

/-- The staging area (R302). -/
def stgLo (s : State) : Nat := s.rd CFG_STGBASE_BASE * 2 ^ 30
def stgHi (s : State) : Nat := stgLo s + s.rd CFG_STGSIZE_SIZE * 2 ^ 30

/-- Check 9: the lowest DETAIL of the rules of R301 that the manifest breaks. -/
def manifestRule (s : State) (i : Image) : Option Nat :=
  let r6 := (List.range 144).any fun k =>
    let l := tabGet [] i.reserves k
    !(l.all (· == 0xFF)) && !(l.all (fun x => decide (x < 80)) && l.Nodup && l.length == 8)
  let r8 := dieList.any fun d => decide (8 < (imgDie i d).seals.length) || ((imgDie i d).seals != [] && bit (imgDie i d).feat 3 == 0)
  let r9 := overlap i.dramLo i.dramTop (stgLo s) (stgHi s)
  let r10 := dieList.any fun d => !(imgDie i d).use && ((imgDie i d).regions != 0 || (imgDie i d).seals != [])
  let own := if r6 then some 6 else if r8 then some 8 else if r9 then some 9 else if r10 then some 10 else none
  match own, i.rules with
  | some a, some b => some (min a b)
  | some a, none => some a
  | none, b => b

/-- GLB_COMPATRES is written by checks 5 and 8 (R37). -/
def setCompat (x : Option (Nat × Nat)) (s : State) : State :=
  match x with
  | some (st, d) => (s.wr GLB_COMPATRES_STATUS st).wr GLB_COMPATRES_DIE d
  | none => (s.wr GLB_COMPATRES_STATUS 0).wr GLB_COMPATRES_DIE 0xF

/-- Checks 1 to 4.  [DESIGN CHOICE 8: notes/assumptions] -/
def headCheck (s : State) (i : Image) : Refused :=
  match i.headOk with
  | some o => some (ST_CFG_FORMAT, 0, 3, o)
  | none =>
    if 2 ^ 31 < i.size ∨ s.rd CFG_STGSIZE_SIZE * 2 ^ 30 < i.size then some (ST_CFG_TOOBIG, 0, 0, 0)
    else if s.rd SEC_STAT_LC = 0 ∨ 4 ≤ s.rd SEC_STAT_LC then some (ST_REFUSED_LIFECYCLE, 0, 0, 0)
    else if keyOk s i = false then some (ST_REFUSED_IMGKEY, 0, 0, 0)
    else if i.sigOk = false then some (ST_INT_SIG, 0, 0, 0)
    else i.maniOk.map fun o => (ST_CFG_FORMAT, 0, 3, o)

/-- Checks 1 to 9, `baseId` being the image ID of the plane a delta image refers to.  [DESIGN CHOICE 8: notes/assumptions] -/
def imageCheck (i : Image) (baseId : Nat) (s : State) : Refused × State :=
  match headCheck s i with
  | some r => (some r, s)
  | none =>
    match dieCheck s i with
    | some (st, d) => (some (st, 0, 0, 0), setCompat (some (st, d)) s)
    | none =>
      let s := setCompat none s
      if dramBytes s < i.dramTop then (some (ST_COMPAT_DRAM, 0, 0, 0), s)
      else if i.delta ∧ (i.base ≠ baseId ∨ i.base = 0) then (some (ST_COMPAT_BASE, 0, 0, 0), s)
      else match eyeCheck s i with
        | some e => (some (ST_COMPAT_EYELET, 0, 0, 0), setCompat (some (ST_COMPAT_EYELET, (eyeDies e).foldl min 11)) s)
        | none => ((manifestRule s i).map fun n => (ST_CFG_CHECK, n, 0, 0), s)

/-- Check 10 of chunk `c`: its first failure, if any.  [DESIGN CHOICE 8: notes/assumptions] -/
def chunkCheck (i : Image) (c : Nat) : Refused := (i.chunkBad.find? fun x => x.chunk == c).map fun x => (x.st, x.detail, x.kind, x.loc)

/-- Check 10 of the parts that the model decodes: rules 9, 10, 11 and 13 of R301 on records. -/
def recordCheck (s : State) (i : Image) : Refused :=
  match i.frames.find? fun f => frameReserved f.1 && f.2 != 0 with
  | some f => some (ST_CFG_CHECK, 11, 1, f.1)
  | none =>
    match i.frames.find? fun f => frameDie f.1 < 12 && !(imgDie i (frameDie f.1)).use with
    | some f => some (ST_CFG_CHECK, 10, 1, f.1)
    | none =>
      if i.progs.any fun p => overlap p.1 (p.1 + p.2.length) (stgLo s) (stgHi s) || overlap p.1 (p.1 + p.2.length) lastBase (lastBase + 0x200000) ||
          overlap p.1 (p.1 + p.2.length) vaultBase (vaultBase + 0x100000) then some (ST_CFG_CHECK, 9, 0, 0)
      else if i.cores.any fun c => !lists i (c.id / 32) (c.id % 32) then some (ST_CFG_CHECK, 13, 0, 0) else none

/-- Check 11 (R188): cells claimed twice, DLY bounds, excluded dies, and what the model takes from the image.  [DESIGN CHOICE 8: notes/assumptions] -/
def laceCheck (i : Image) : Bool :=
  let vs := 0 :: i.lace.variants.map fun v => v.1
  let flows := i.lace.flows.map Prod.fst
  i.laceBad || vs.any fun v =>
    let cells := flows.flatMap fun f => (i.lace.flow v f).cells
    !(cells.Nodup) || flows.any fun f =>
      let x := i.lace.flow v f
      decide ((if v = 0 then 12 else 14) < x.dly) || (epDie x.src < 12 && !(imgDie i (epDie x.src)).use) || (epDie x.dst < 12 && !(imgDie i (epDie x.dst)).use)

/-- The result of a check or load is recorded (R300, R305). -/
def cfgResult (src : Nat) (r : Refused) (s : State) : State :=
  let (st, det, k, v) := r.getD (0, 0, 0, 0)
  ((((s.wr CFG_RESULT_STATUS st).wr CFG_RESULT_DETAIL det).wr CFG_RESULT_SRC src).wr CFG_RESLOC_KIND k).wr CFG_RESLOC_VALUE v

/-- The image names a frame of die `d` with a local index from `lo` up to `hi`. -/
def names (i : Image) (d lo hi : Nat) : Bool := i.frames.any fun f => frameDie f.1 == d && decide (lo ≤ frameIdx f.1) && decide (frameIdx f.1 < hi)

/-- A delta image with what it takes from its base (R293): the regions that it lists, the I/O banks of its dies and the express and stream routing
whose frames it does not name. -/
def resolveDelta (base i : Image) : Image :=
  if i.delta then
    { i with
      dies := (usedDies i).foldl (fun t d =>
        if (imgDie base d).use && !names i d 40192 40224 then tabSet {} t d { imgDie i d with iov := (imgDie base d).iov, pcfg := (imgDie base d).pcfg } else t) i.dies
      regs := (listed i).foldl (fun t p => if (i.regs.any fun q => q.1 == rix p.1 p.2) then t else tabSet {} t (rix p.1 p.2) (imgReg base p.1 p.2)) i.regs
      spine := if (i.frames.any fun f => frameDie f.1 == 12) || dieList.any fun d => names i d 39936 40160 then i.spine else base.spine
      streams := if i.frames.any fun f => frameDie f.1 == 12 then i.streams else base.streams }
  else i

/-- Contents of a frame of an image over its base, the base's contents being `old` (R293, R295). -/
def imgFrame (i : Image) (baseUses : Bool) (fid old : Nat) : Nat :=
  match i.frames.find? fun f => f.1 == fid with
  | some f => f.2
  | none =>
    let d := frameDie fid
    let copied := if d = 12 then true else baseUses && (if frameIdx fid < 39936 then lists i d (frameIdx fid / 1248) else decide (frameIdx fid < 40224))
    if i.delta ∧ copied then old else 0

/-- Frames of a unit that an image or its base names with contents. -/
def unitFrames (i : Image) (s : State) (u p : Nat) : List Nat :=
  ((i.frames.map Prod.fst) ++ ((s.cfg.data.filter fun (q : Nat × Nat) => q.1 % 2 == p).map fun (q : Nat × Nat) => q.1 / 2)).filter fun f => frameUnit f == u

/-- A unit of a plane takes an image's frames, `base` being the plane of a delta image's base. -/
def writeUnit (i : Image) (u p base : Nat) (baseUses : Bool) (s : State) : State :=
  let fs := unitFrames i s u base
  let new := fs.map fun f => (f, imgFrame i baseUses f (frameData s f base))
  let s := clearFrames u p s
  setUnit u p { st := 1, norb := i.norb } (new.foldl (fun s x => putFrame x.1 p x.2 false s) s)

end Sys2Proof.Machine
end

