-- ==== Sys2Proof/Machine/Load.lean ====
section
/-! DEFINITION. The configuration controller's commands: cold load, verify, readback, capture, raw write and the managed flash
(spec/11_configuration_planes.md, R302 to R315). -/

namespace Sys2Proof.Machine

open Sys2Proof

/-- A GO on a command register: ignored while `busy` is 1, unless it came through the register map and waits for this row
(notes/assumptions/5.md).  In SCRAP every command completes with ST_REFUSED_LIFECYCLE (R524).  [DEDUCED 70: notes/assumptions] -/
def onGo (busy op : Fld) (n : Nat) (f : State → State) (s : State) : State :=
  if s.rd SEC_STAT_LC = 4 then
    ({ s with asked := s.asked.erase busy.adr } : State).wri ⟨busy.adr, 16, 16, .ro, 0⟩ 0 ST_REFUSED_LIFECYCLE |>.wr busy 0
  else if s.asked.contains busy.adr then f (((({ s with asked := s.asked.erase busy.adr } : State).wr busy 0)).wr op n)
  else if s.rd busy = 1 then s else f (s.wr op n)

/-- CFG_CMD completes. -/
def cfgDone (st : Nat) (s : State) : State := (s.wr CFG_CMD_STATUS st).wr CFG_CMD_BUSY 0

/-- A GO of CFG_CMD with operation `n`. -/
def cfgGo (n : Nat) (f : State → State) (s : State) : Out := .next (onGo CFG_CMD_BUSY CFG_CMD_OP n f s)

/-! Cold load (R304 to R308) -/

/-- An auto-boot attempt goes on with the FALLBACK slot (R304). -/
def nextSlotOf (s : State) (src : Nat) : Option Nat :=
  let fb := s.rd CFG_BOOT_FALLBACK
  if fb ≠ 0 ∧ fb ≠ src ∧ s.rd CFG_STAT_FALLBACK = 0 then some fb else none

/-- The image of a source: 0 the staging area, 1 to 12 a flash slot. -/
def sourceImage (s : State) (src : Nat) (img : Image) : Option Image := if src = 0 then some img else tabGet none s.cfg.flash src

/-- A load ends before it has written anything (R308). -/
def loadEnd (auto : Bool) (src : Nat) (r : Nat × Nat × Nat × Nat) (s : State) : State :=
  let s := (cfgResult src (some r) s).wr CFG_STAT_PHASE 0
  let s := s.modCfg fun c => { c with load := none }
  if auto then s.recordSt r.1 12 [] else cfgDone r.1 s

/-- Steps 1 and 2 of a load (R305): checks 1 to 9; what they refuse ends it, and so does a failed DRAM channel (R359). -/
def loadCheck (auto : Bool) (src : Nat) (img : Image) (s : State) : Bool × State :=
  let s := ((s.wr CFG_STAT_PHASE 1).wr CFG_BOOT_LAST src).wr CFG_PROG_FRAMES 0
  if channelFailed s then (false, loadEnd auto src (ST_HW_DRC_CHANNEL, 0, 0, 0) s)
  else match sourceImage s src img with
  | none => (false, loadEnd auto src (ST_CFG_NOSLOT, 0, 0, 0) s)
  | some i =>
    match imageCheck i (s.rd64 CFG_AIMGL_ID CFG_AIMGH_ID) s with
    | (some r, s) => (false, loadEnd auto src r s)
    | (none, s) => (true, (s.wr CFG_STAT_PHASE 2).modCfg fun c => { c with load := some { img := resolveDelta c.aimg i, src, auto } })

/-- A load begins; an auto-boot tries FALLBACK after BOOT (R304). -/
def loadBegin (auto : Bool) (src : Nat) (img : Image) (s : State) : State :=
  let s := (s.wr CFG_STAT_AUTOBOOT auto.toNat).modCfg fun c => { c with pendLoad := none }
  let x := loadCheck auto src img s
  if x.1 then x.2
  else match if auto then nextSlotOf s src else none with
    | some fb => (loadCheck true fb {} (x.2.wr CFG_STAT_FALLBACK 1)).2
    | none => x.2

/-- A load fails in step 3. -/
def loadFail (l : Load) (r : Nat × Nat × Nat × Nat) (s : State) : State :=
  let t := loadEnd l.auto l.src r s
  match if l.auto then nextSlotOf s l.src else none with
  | some fb => (loadCheck true fb {} (t.wr CFG_STAT_FALLBACK 1)).2
  | none => t

/-- A die takes part again: rails, trim, and its Eyelets whose dies are all in use (R38, R321). -/
def raiseDie (d : Nat) (s : State) : State :=
  let s := startTrim d 1 (railsOn d (s.wri GLB_DIESTAT_STATE (4 * d) 1))
  (dieEyes d).foldl (fun s e => if eyeTrains s e then (retrainEye [] e s).1 else s) s

/-- An accepted image decides which dies take part (R38): EXCLUDED or SUPPORTED. -/
def acceptDies (i : Image) (s : State) : State :=
  dieList.foldl (fun s d =>
    let st := s.rdi GLB_DIESTAT_STATE (4 * d)
    if st = 4 ∧ (imgDie i d).use then raiseDie d s
    else if st = 1 ∧ (imgDie i d).use = false then (railsOff d s).wri GLB_DIESTAT_STATE (4 * d) 4
    else s) s

/-- Step 4 begins (R305): regions are not loaded, region clocks stand, and the shadow planes are EMPTY. -/
def loadWrites (l : Load) (s : State) : State :=
  let s := acceptDies l.img s
  let s := dieList.foldl (fun s d => (List.range 32).foldl (fun s r => stopRegion d r (s.wri FDC_RSTAT_LOADED (oReg d r) 0)) s) s
  let s := ((usedDies l.img ++ [12]).flatMap unitsOf).foldl (fun s u => setUnit u (1 - activeOf s u) {} s) s
  (showImages ((s.wr CFG_STAT_PHASE 3).modCfg fun c => { c with load := some { l with next := [] }, simg := {} })).wr64 CFG_AIMGL_ID CFG_AIMGH_ID (s.rd64 CFG_AIMGL_ID CFG_AIMGH_ID)

/-- All chunks have been checked: checks 10 and 11, and step 4 begins. -/
def loadChecked (l : Load) (s : State) : State :=
  match recordCheck s l.img with
  | some r => loadFail l r s
  | none => if laceCheck l.img then loadFail l (ST_WLT_LACE, 0, 0, 0) s else loadWrites l s

/-- IMAGE_CHUNK_ARRIVAL (R300 check 10, R305 step 3): the next chunk of the body arrives and is checked; after the last one
check 11 follows and the ports begin to write.  [DESIGN CHOICE 11: notes/assumptions] -/
def execImageChunkArrival (s : State) : Out :=
  match s.cfg.load with
  | some l =>
    if s.rd CFG_STAT_PHASE ≠ 2 then .next s
    else match chunkCheck l.img l.chunks with
      | some r => .next (loadFail l r s)
      | none =>
        let l := { l with chunks := l.chunks + 1 }
        .next (if l.img.nchunk ≤ l.chunks then loadChecked l s else s.modCfg fun c => { c with load := some l })
  | none => .next s

/-- COLD_LOAD: CFG_CMD operation 1 (R305); `img` is what the staging area holds.  In DORMANT the clocks start and the load waits for
the probe; in SAFE the module enters LOAD (R305, R336). -/
def coldLoad (img : Image) (start : State → State) (s : State) : State :=
  let src := s.rd CFG_ARG0_VALUE
  if s.mode ≠ DORMANT ∧ s.mode ≠ LOAD ∧ s.mode ≠ SAFE then cfgDone ST_CFG_STATE s
  else if 12 < src then cfgDone ST_CFG_NOSLOT s
  else
    let s := (s.wr CFG_CMD_BUSY 1).modCfg fun c => { c with staged := img }
    if s.mode = DORMANT then start (s.modCfg fun c => { c with pendLoad := some (src, false) })
    else if s.mode = LOAD ∧ s.rd GLB_PKG_PROTO = 0 then s.modCfg fun c => { c with pendLoad := some (src, false) }
    else
      let s := if s.mode = SAFE then
          let s := if s.rd SHF_STAT_STATE = 0 then s else (shfEnd 2 ST_SHF_SAFE 0xF (dropShadow s)).wr CFG_CMD_BUSY 1
          let s := (dieList.filter fun d => s.dieUp d).foldl (fun s d => (List.range 32).foldl (fun s r =>
            stopCore true (rix d r) (if s.rdi FDC_TRIMST_TRIMFAULT (oReg d r) = 1 then
              relockRegion d r ((s.wri FDC_TRIMST_TRIMFAULT (oReg d r) 0).wri FDC_TRIMST_REASON (oReg d r) 0) else s)) s) s
          s.toMode LOAD 0
        else s
      loadBegin false src img s

/-- A region's last frame is written (R305 step 5): the design, networks and banks it configures; a listed region is LOADED with its
initial values. -/
def regionLoaded (i : Image) (d r : Nat) (s : State) : State :=
  let c := imgReg i d r
  let p := (s.region (rix d r)).plane
  let s := initRegion d r (s.modRegion (rix d r) fun g => { setDesign p c.design g with epOff := c.weltOff })
  let s := putRclks d r c.rclk s
  let s := putBanks d r c (imgDie i d).seals s
  if lists i d r then s.wri FDC_RSTAT_LOADED (oReg d r) 1 else s

/-- Contents of frames `lo` to `hi` of a die's port in the active plane (R286). -/
def putFrames (i : Image) (base : Image) (d lo hi : Nat) (s : State) : State :=
  let first := if d = 12 then lastFrames else d * framesPerDie
  let here := fun (fid : Nat) => first + lo ≤ fid && fid < first + hi
  let p := fun (fid : Nat) => activeOf s (frameUnit fid)
  let fids := (i.frames.map Prod.fst ++ s.cfg.data.map (fun (q : Nat × Nat) => q.1 / 2)).filter here
  let uses := d == 12 || (imgDie base d).use
  let new := fids.map fun f => (f, imgFrame i uses f (frameData s f (p f)))
  let s := s.modCfg fun c => { c with
    marks := c.marks.filter fun q => !(here (q.1 / 2) && q.1 % 2 == p (q.1 / 2))
    badsel := c.badsel.filter fun k => !(here (k / 2) && k % 2 == p (k / 2)) }
  showBadsel (new.foldl (fun s x => putFrame x.1 (p x.1) x.2 false s) s)

/-- Frames that a port writes: every local index of a die, those of the Last. -/
def portFrames (d : Nat) : Nat := if d = 12 then 256 else framesPerDie

/-- The ports that a load writes through. -/
def loadPorts (i : Image) : List Nat := usedDies i ++ [12]

/-- Every group starts from G1 and goes to its target at the end of a load (R442). -/
def gearsFromG1 (i : Image) (s : State) : State :=
  let s := dieList.foldl (fun s g => ((s.wri GEAR_STAT_GEAR (4 * g) 0).wri GEAR_STAT_TARGET (4 * g) 0).wri GEAR_STAT_PHASE (4 * g) 0) { s with gears := [] }
  let s := dieList.foldl (fun s d => dieTakes i d s) s
  let s := (usedDies i).foldl (fun s d => startTrim d 1 s) s
  dieList.foldl (fun s g => gearTake g s) s

/-- FRAME_WRITE_READBACK (R286, R305 step 4): the port of die `d` (12 the Last) has written and read back its next `n` frames; `clean`
says whether the last of them read back clean at the first or the second try. -/
def execFrameWriteReadback (d : Fin 13) (n : Nat) (clean : Bool) (s : State) : Out :=
  match s.cfg.load with
  | some l =>
    if s.rd CFG_STAT_PHASE ≠ 3 ∨ (loadPorts l.img).contains d.val = false then .next s
    else
      let lo := tabGet 0 l.next d
      let hi := min (lo + n) (portFrames d)
      let good := if clean then hi else max lo (hi - 1)
      let s := putFrames l.img s.cfg.aimg d lo good s
      let done := fun (a b : Nat) => decide (lo < b) && decide (b ≤ good) && decide (a < b)
      let s := if d.val = 12 then s else
        (List.range 32).foldl (fun s r =>
          if done (r * 1248) ((r + 1) * 1248) then regionLoaded l.img d r (setUnit (unitReg d r) (activeOf s (unitReg d r)) { st := 1, norb := l.img.norb } s)
          else s) s
      let s := if done 39936 (portFrames d) ∨ (d.val = 12 ∧ done 0 256) then setUnit (unitDie d) (activeOf s (unitDie d)) { st := 1, norb := l.img.norb } s else s
      let s := if d.val < 12 ∧ done 40192 40224 then putPins d (imgDie l.img d).pcfg (s.wri GIO_BSTAT_VOLT (4 * d) (imgDie l.img d).iov) else s
      let next := tabSet 0 l.next d good
      let s := (s.modCfg fun c => { c with load := some { l with next } }).wr CFG_PROG_FRAMES (max (s.rd CFG_PROG_FRAMES) good)
      if clean = false then .next (s.fault ST_HW_CFGPORT d (if d.val = 12 then s.allRegions else s.dieRegions d) [])
      else if (loadPorts l.img).all fun e => tabGet 0 next e == portFrames e then
        .next (gearsFromG1 l.img ((s.wr CFG_STAT_PHASE 4).modCfg fun c => { c with aimg := l.img }))
      else .next s
  | none => .next s

/-- LOAD_CONTENTS_DONE (R305 steps 6 and 7): bank contents, cores, programs, reserves, routing and lace schedule are in place, and the
service changes to normal before HOLD; a group below its target holds this back (R442). -/
def execLoadContentsDone (s : State) : Out :=
  match s.cfg.load with
  | some l =>
    if s.rd CFG_STAT_PHASE ≠ 4 ∨ s.welt.after.isSome ∨ dieList.any (fun g => s.rdi GEAR_STAT_PHASE (4 * g) != 0) then .next s
    else
      let i := l.img
      let s := (listed i).foldl (fun s p => loadBanks i p.1 p.2 s) s
      let s := ((usedDies i).flatMap fun d => (List.range 32).map (rix d)).foldl (fun s c => loadCore i c s) s
      let s := putExpress s.express.plane i (putReserves i (loadProgs i s))
      let s := s.modWelt fun w => if w.bank = 0 then { w with sched0 := i.lace } else { w with sched1 := i.lace }
      .next (svcStart 3 (some HOLD) s)
  | none => .next s

/-- The load ends in HOLD (R305 step 7, R307): pins take their safe states, CFG_AIMG and PHASE, and the record of the load. -/
def loadToHold (s : State) : State :=
  match s.cfg.load with
  | some l =>
    let s := (showImages (s.modCfg fun c => { c with load := none })).wr CFG_STAT_PHASE 5
    let s := safePins (cfgResult l.src none s)
    let s := if l.auto then s else cfgDone 0 s
    (s.record 0x0006 12 1 [l.img.id % 2 ^ 32, l.img.id / 2 ^ 32, l.src]).toMode HOLD 0
  | none => s

/-- CFG_ABORT: CFG_CMD operation 9 (R308), the one that BUSY does not hold off: before step 4 nothing is written and the load completes
with ST_CFG_ABORTED; later, or with no load, it completes with ST_CFG_STATE.  [DEDUCED 40: notes/assumptions] -/
def execCfgAbort (s : State) : Out :=
  let s := s.wr CFG_CMD_OP 9
  match s.cfg.load with
  | some l =>
    if s.rd CFG_STAT_PHASE = 1 ∨ s.rd CFG_STAT_PHASE = 2 then
      .next (cfgDone ST_CFG_ABORTED ((cfgResult l.src (some (ST_CFG_ABORTED, 0, 0, 0)) (s.wr CFG_STAT_PHASE 0)).modCfg fun c => { c with load := none }))
    else .next (s.wr CFG_CMD_STATUS ST_CFG_STATE)
  | none =>
    match s.cfg.pendLoad with
    | some (_, false) => .next (cfgDone ST_CFG_ABORTED (s.modCfg fun c => { c with pendLoad := none }))
    | _ => .next (s.wr CFG_CMD_STATUS ST_CFG_STATE)

/-! Verify and readback (R311 to R313) -/

/-- Frames of the units of a die that verification fails in a plane: uncorrectable ones whose status is not EMPTY. -/
def verifyBad (s : State) (d role : Nat) : List Nat :=
  ((s.cfg.marks.filter fun q => q.2 = 3 && frameDie (q.1 / 2) == d && q.1 % 2 == planeOf s (q.1 / 2) role && frameSt s (q.1 / 2) (q.1 % 2) != 0).map fun q => q.1 / 2) ++
    ((s.cfg.fst.filter fun q => q.2 = 3 && frameDie (q.1 / 2) == d && q.1 % 2 == planeOf s (q.1 / 2) role).map fun q => q.1 / 2)

/-- Frames of a plane of a die read with corrections are counted in the frame table (R311). -/
def countCe (d : Nat) (roles : List Nat) (s : State) : State :=
  let hit := s.cfg.marks.filter fun q => (q.2 == 1 || q.2 == 2) && frameDie (q.1 / 2) == d && roles.any fun r => q.1 % 2 == planeOf s (q.1 / 2) r
  s.modCfg fun c => { c with ce := hit.foldl (fun t q => tabMod 0 t (q.1 / 2) (fun n => min 15 (n + 1))) c.ce }

/-- Verification of planes of dies: failing frames become FAILED, the others that are not EMPTY VERIFIED; the first failing frame.  [DEDUCED 40: notes/assumptions] -/
def verifyDies (dies roles : List Nat) (s : State) : Option Nat × State :=
  let bad := dies.flatMap fun d => roles.flatMap fun r => (verifyBad s d r).map fun f => (f, planeOf s f r)
  let s := dies.foldl (fun s d => countCe d roles s) s
  let s := (dies.flatMap fun d => (unitsOf d).flatMap fun u => roles.map fun r => (u, r)).foldl (fun s p =>
    let pl := if p.2 = 0 then activeOf s p.1 else 1 - activeOf s p.1
    let x := unitSt s p.1 pl
    let s := s.modCfg fun c => { c with fst := c.fst.map fun q => if frameUnit (q.1 / 2) = p.1 ∧ q.1 % 2 = pl ∧ q.2 = 1 then (q.1, 2) else q }
    if x.st = 1 then s.modCfg fun c => { c with units := tabSet {} c.units (p.1 * 2 + pl) { x with st := 2 } } else s) s
  let s := bad.foldl (fun s f => setFrameSt f.1 f.2 3 s) s
  (bad.foldl (fun m f => some (min f.1 (m.getD f.1))) none, s)

/-- CFG_VERIFY: CFG_CMD operation 3 (R311).  [DESIGN CHOICE 11: notes/assumptions] -/
def execCfgVerify (s : State) : Out :=
  cfgGo 3 (fun s =>
    let a := s.rd CFG_ARG0_VALUE
    let m := s.rd CFG_ARG1_VALUE
    if s.mode = DORMANT then cfgDone ST_CFG_STATE s
    else if a = 0 ∨ 4 ≤ a ∨ 2 ^ 13 ≤ m then cfgDone ST_CFG_BADCMD s
    else
      let x := verifyDies ((List.range 13).filter fun d => bit m d == 1) ((List.range 2).filter fun r => bit a r == 1) s
      match x.1 with
      | some f => cfgDone ST_INT_FRAMECRC ((x.2.wr CFG_RESLOC_KIND 1).wr CFG_RESLOC_VALUE f)
      | none => cfgDone 0 x.2) s

/-- Bytes are stored by a unit of the Last: writes that wait for the lines are made first, and stored words are good again. -/
def dmaWrite (a : Nat) (bs : List Nat) (s : State) : State :=
  let hi := a + bs.length
  let s := (List.range 8).foldl (fun s c =>
    ((s.chan c).wq.filter fun e => decide (a ≤ addrOfLine c e.line + 63) && decide (addrOfLine c e.line < hi)).foldl (fun s e => drainLine c e false s) s) s
  let s := { s with marks := s.marks.filter fun p => p.1 < a || hi ≤ p.1 }
  s.wrBytes a bs

/-- A destination of the controller lies in DRAM or in Last store segments 4 to 63 (R312). -/
def cfgDest (s : State) (a n : Nat) : Bool := a + n ≤ dramBytes s || (lastBase + 4 * 0x80000 ≤ a && a + n ≤ lastBase + 0x2000000)

/-- The little-endian bytes of a number. -/
def numBytes (n x : Nat) : List Nat := (List.range n).map fun k => x / 256 ^ k % 256

/-- A value of `16 n` words of 64 bits that the spec leaves open. -/
def freeWide : (n : Nat) → State → Nat × State
  | 0, s => (0, s)
  | n + 1, s =>
    let x := s.free 64
    let y := freeWide n x.2
    (x.1 + 2 ^ 64 * y.1, y.2)

/-- A frame as readback returns it: 2,048 bytes of data, then the trailer (R312); uncorrectable data is raw, and open here.  [DEDUCED 40: notes/assumptions] -/
def frameOut (fid role : Nat) (s : State) : List Nat × State :=
  let p := planeOf s fid role
  let m := frameMark s fid p
  let x := if m = 3 then freeWide 256 s else (frameData s fid p, s)
  let s := if m = 1 ∨ m = 2 then x.2.modCfg fun c => { c with ce := tabMod 0 c.ce fid (fun n => min 15 (n + 1)) } else x.2
  (numBytes 2048 x.1 ++ numBytes 4 fid ++ [p, role, m, frameSt s fid p] ++ numBytes 4 (crc32 16384 x.1) ++
    numBytes 4 (Config.frameCheckBits (frameData s fid p) % 2 ^ 31), s)

/-- A frame of a plane was written by an image that forbids readback (R313). -/
def frameNorb (s : State) (fid p : Nat) : Bool := (unitSt s (frameUnit fid) p).norb

/-- CFG_READBACK: CFG_CMD operation 4 (R312, R313).  [DESIGN CHOICE 11: notes/assumptions] -/
def execCfgReadback (s : State) : Out :=
  cfgGo 4 (fun s =>
    let role := s.rd CFG_ARG0_VALUE
    let count := bits (s.rd CFG_ARG1_VALUE) 19 13 + 1
    let first := bits (s.rd CFG_ARG1_VALUE) 0 19
    let dst := s.rd CFG_ARG2_VALUE + s.rd CFG_ARG3_VALUE % 2 ^ 16 * 2 ^ 32
    let fids := (List.range count).map fun k => first + k
    if s.mode < HOLD then cfgDone ST_CFG_STATE s
    else if 2 ≤ role ∨ 524288 < first + count ∨ cfgDest s dst (2064 * count) = false then cfgDone ST_CFG_BADCMD s
    else if s.rd SEC_STAT_LC ≠ 1 ∧ fids.any (fun f => frameNorb s f (planeOf s f role)) then cfgDone ST_REFUSED_NORB s
    else cfgDone 0 (fids.foldl (fun s f => let x := frameOut f role s; dmaWrite (dst + 2064 * (f - first)) x.1 x.2) s)) s

/-! Captures (R314, R315) -/

/-- MREG of a block as 48 bits: in PAIR mode the second product lies in the upper half.  [DEDUCED 40: notes/assumptions] -/
def mregOf (g : ProdCfg) (x : ProdSt) : Nat := if g.mode = 2 then wrapTo 24 x.m + 2 ^ 24 * wrapTo 24 x.mHi else wrapTo 48 x.m

/-- The 264 bits of a block in a capture frame: A, B, D, C, ADREG, MREG, PREG. -/
def prodBits (g : ProdCfg) (x : ProdSt) : Nat :=
  x.a % 2 ^ 24 + 2 ^ 24 * (x.b % 2 ^ 24) + 2 ^ 48 * (x.d % 2 ^ 24) + 2 ^ 72 * (x.c % 2 ^ 60) + 2 ^ 132 * (x.ad % 2 ^ 24) + 2 ^ 156 * mregOf g x + 2 ^ 204 * (x.p % 2 ^ 60)

/-- Capture frame `k` of a region. -/
def captureFrame (g : Region) (k : Nat) : Nat :=
  if k < 8 then (g.latchFf.filter fun p => p.1 / 8192 == k).foldl (fun m p => m + p.2 % 4 * 2 ^ (2 * (p.1 % 8192))) 0
  else (List.range 43).foldl (fun m j =>
    let b := 43 * (k - 8) + j
    if 128 ≤ b then m else m + prodBits (tabGet {} g.design.prods b) (tabGet {} g.latchProd b) * 2 ^ (264 * j)) 0

/-- CFG_CAPTURE_READOUT: CFG_CMD operation 6 (R315, R313). -/
def execCfgCaptureReadout (s : State) : Out :=
  cfgGo 6 (fun s =>
    let d := s.rd CFG_ARG0_VALUE
    let r := s.rd CFG_ARG1_VALUE
    let dst := s.rd CFG_ARG2_VALUE + s.rd CFG_ARG3_VALUE % 2 ^ 16 * 2 ^ 32
    if 12 ≤ d ∨ 32 ≤ r ∨ cfgDest s dst (11 * 2048) = false then cfgDone ST_CFG_BADCMD s
    else if s.rdi FDC_RSTAT_CAPDONE (oReg d r) = 0 then cfgDone ST_CFG_STATE s
    else if s.rd SEC_STAT_LC ≠ 1 ∧ (unitSt s (unitReg d r) (activeOf s (unitReg d r))).norb then cfgDone ST_REFUSED_NORB s
    else cfgDone 0 ((List.range 11).foldl (fun s k => dmaWrite (dst + 2048 * k) (numBytes 2048 (captureFrame (s.region (rix d r)) k)) s) s)) s

/-- Regions that masks name. -/
def capRegions (dies mask : Nat) : List (Nat × Nat) :=
  (dieList.filter fun d => bit dies d == 1).flatMap fun d => ((List.range 32).filter fun r => bit mask r == 1).map fun r => (d, r)

/-- Why a capture of these regions is refused (R314, R332, R63): 0 where it is not. -/
def capRefusal (dies mask : Nat) (s : State) : Nat :=
  let rs := capRegions dies mask
  if (dieList.any fun d => bit dies d == 1 && bit (s.rdi FDC_CAPEN_FEAT (oDie d)) 0 == 0) || rs.any fun p => s.rdi FDC_RSTAT_LOADED (oReg p.1 p.2) == 0 then ST_COMPAT_FEATURE
  else if rs.any fun p => s.rdi FDC_RSTAT_CAPPEND (oReg p.1 p.2) == 1 ||
      ((s.rd SHF_STAT_STATE == 7 || s.rd SHF_STAT_STATE == 8) && s.rdi SHF_DIEST_IN (4 * p.1) == 1) then ST_CAP_BUSY
  else 0

/-- A capture is commanded in these regions (R61, R63). -/
def capStart (rs : List (Nat × Nat)) (s : State) : State :=
  rs.foldl (fun s p => (s.wri FDC_RSTAT_CAPPEND (oReg p.1 p.2) 1).modRegion (rix p.1 p.2) fun g => { g with latchValid := false }) s

/-- CAPTURE_COMMAND: CFG_CAPCMD.GO (R314). -/
def execCaptureCommand (s : State) : Out :=
  if s.rd CFG_CAPCMD_BUSY = 1 then .next s
  else
    let rs := capRegions (s.rd CFG_CAPCMD_DIEMASK) (s.rd CFG_CAPMASK_MASK)
    let st := capRefusal (s.rd CFG_CAPCMD_DIEMASK) (s.rd CFG_CAPMASK_MASK) s
    let s := s.wr CFG_CAPCMD_STATUS st
    if st ≠ 0 then .next s
    else
      let late := decide (s.rd64 CFG_CAPTL_T CFG_CAPTH_T < s.clocks.tb + 2000)
      .next (capStart rs (if late then s.wr CFG_CAPCMD_CAPLATE 1 else s))

/-! Raw writes (R310) -/

/-- CFG_RAW_WRITE: CFG_CMD operation 7 (R310).  `bad` lists the frames whose decoder sets BADSEL and `regs` what the frames of a region
then configure, by region: the bits of a frame are not part of the manual.  [DESIGN CHOICE 7, 11: notes/assumptions] -/
def execCfgRawWrite (bad : List Nat) (regs : Tab RegCfg) (s : State) : Out :=
  cfgGo 7 (fun s =>
    let first := s.rd CFG_ARG0_VALUE
    let count := s.rd CFG_ARG1_VALUE
    let src := s.rd CFG_ARG2_VALUE + s.rd CFG_ARG3_VALUE % 2 ^ 16 * 2 ^ 32
    if s.mode ≠ HOLD then cfgDone ST_CFG_STATE s
    else if s.rd SEC_STAT_LC ≠ 1 then cfgDone ST_REFUSED_LIFECYCLE s
    else if 2 ^ 19 ≤ first ∨ count = 0 ∨ 40960 < count ∨ 524288 < first + count ∨ cfgDest s src (2048 * count) = false then cfgDone ST_CFG_BADCMD s
    else
      let s := (List.range count).foldl (fun s k =>
        let f := first + k
        let p := activeOf s (frameUnit f)
        setFrameSt f p 1 (putFrame f p (s.rdMem 2048 (src + 2048 * k)) (bad.contains f) s)) s
      let s := regs.foldl (fun s q =>
        if (List.range count).any fun k => frameDie (first + k) == q.1 / 32 && frameUnit (first + k) == unitReg (q.1 / 32) (q.1 % 32) then
          let g := s.region q.1
          putBanks (q.1 / 32) (q.1 % 32) q.2 (sealsOf s (q.1 / 32) (q.1 % 32)) (putRclks (q.1 / 32) (q.1 % 32) q.2.rclk (s.modRegion q.1 (setDesign g.plane q.2.design)))
        else s) s
      cfgDone 0 (showBadsel s)) s

/-! The managed flash and the staging area (R302, R303) -/

/-- The flags of slot `n`: BOOT and FALLBACK are each held by one slot at most. -/
def slotFlags (n : Nat) (boot fallback : Bool) (s : State) : State :=
  let one := fun (f : Fld) (on : Bool) (s : State) => if on then s.wr f n else if s.rd f = n then s.wr f 0 else s
  one CFG_BOOT_FALLBACK fallback (one CFG_BOOT_BOOT boot s)

/-- VALID of a slot. -/
def slotValid (n : Nat) (v : Bool) (s : State) : State :=
  let m := s.rd CFG_BOOT_VALID
  s.wr CFG_BOOT_VALID (if v then m ||| 2 ^ n else m - bit m n * 2 ^ n)

/-- CFG_FLASH_WRITE: CFG_CMD operation 8 (R303, R494); `img` is what the staging area holds.  [DESIGN CHOICE 11: notes/assumptions] -/
def execCfgFlashWrite (img : Image) (s : State) : Out :=
  cfgGo 8 (fun s =>
    let n := s.rd CFG_ARG0_VALUE
    let fl := s.rd CFG_ARG1_VALUE
    if s.mode = DORMANT then cfgDone ST_CFG_STATE s
    else if n = 0 ∨ 12 < n then cfgDone ST_CFG_NOSLOT s
    else if s.rd PWR_STAT_NVINH = 1 ∨ s.rd PWR_STAT_MAINS = 0 then cfgDone ST_CFG_NVINH s
    else match headCheck s img with
      | some r => cfgDone r.1 (cfgResult 0 (some r) s)
      | none =>
        let s := s.modCfg fun c => { c with flash := tabSet none c.flash n (some img) }
        cfgDone 0 (slotFlags n (bit fl 0 == 1) (bit fl 1 == 1) (slotValid n true s))) s

/-- CFG_FLASH_DIRECTORY: CFG_CMD operation 10 (R303). -/
def execCfgFlashDirectory (s : State) : Out :=
  cfgGo 10 (fun s =>
    let n := s.rd CFG_ARG0_VALUE
    let fl := s.rd CFG_ARG1_VALUE
    if s.mode = DORMANT then cfgDone ST_CFG_STATE s
    else if n = 0 ∨ 12 < n then cfgDone ST_CFG_NOSLOT s
    else if s.rd PWR_STAT_NVINH = 1 then cfgDone ST_CFG_NVINH s
    else if bit fl 2 = 1 then cfgDone 0 (slotFlags n false false (slotValid n false (s.modCfg fun c => { c with flash := tabSet none c.flash n none })))
    else if (tabGet none s.cfg.flash n).isNone then cfgDone ST_CFG_NOSLOT s
    else cfgDone 0 (slotFlags n (bit fl 0 == 1) (bit fl 1 == 1) s)) s

/-- A staging area of these bytes would lie over memory that a design or a queue uses (R302). -/
def stagingHits (lo hi : Nat) (s : State) : Bool :=
  ([s.cfg.aimg, s.cfg.simg].any fun i => overlap i.dramLo i.dramTop lo hi || i.progs.any fun p => overlap p.1 (p.1 + p.2.length) lo hi) ||
    (enabledQueues s).any fun q => overlap (qBase s q) (qBase s q + 64 * qN s q) lo hi

/-- A write of CFG_STGBASE, or of CFG_STGSIZE (R302). -/
def stagingWrite (size : Bool) (v : Nat) (s : State) : State :=
  let fit := dramBytes s / 2 ^ 30
  let base := if size then s.rd CFG_STGBASE_BASE else v % 256
  let want := if size then (if v % 16 = 0 then 1 else min 8 (v % 16)) else s.rd CFG_STGSIZE_SIZE
  let n := if fit < base + want then fit - base else want
  if s.rd CFG_CMD_BUSY = 1 ∨ s.rd64 CFG_SIMGL_ID CFG_SIMGH_ID ≠ 0 ∨ fit ≤ base ∨ stagingHits (base * 2 ^ 30) ((base + n) * 2 ^ 30) s then s.wr CFG_STAT_STGIGN 1
  else (s.wr CFG_STGBASE_BASE base).wr CFG_STGSIZE_SIZE n

/-- STAGING_AREA_WRITE (R302): a write of CFG_STGBASE, or with `size` of CFG_STGSIZE. -/
def execStagingAreaWrite (size : Bool) (value : BitVec 32) (s : State) : Out := .next (stagingWrite size value.toNat s)

end Sys2Proof.Machine
end

