-- ==== Sys2Proof/Machine/Cobbler.lean ====
section
/-! DEFINITION. The Cobbler: sweeps, rewrites, uncorrectable words, the policy, and the remap store (spec/14_ecc_scrub_remap.md). -/

namespace Sys2Proof.Machine

open Sys2Proof

/-! Intervals (R369, R371, R375) -/

/-- Default, shortest and longest interval of a class: ms for classes 0 to 3, minutes for class 4. -/
def intvDef (k : Nat) : Nat := if k = 0 then 100 else if k = 4 then 1440 else 1000
def intvMin (k : Nat) : Nat := if k = 0 then 50 else 10
def intvMax (k : Nat) : Nat := if k = 0 then 10000 else if k = 4 then 10080 else 60000

/-- The configured interval: a register that nothing has written holds its default. -/
def intvCfg (s : State) (k : Nat) : Nat := if s.rdi COB_INTV_INTV (4 * k) = 0 then intvDef k else s.rdi COB_INTV_INTV (4 * k)

/-- A value written to COB_INTV[k] as it is stored. -/
def intvStore (k v : Nat) : Nat := min (intvMax k) (max (intvMin k) (v % 2 ^ 20))

/-- The interval in force after `h` halvings: never below the shortest nor below configured ÷ FACTOR. -/
def intvAfter (s : State) (k h : Nat) : Nat := max (intvCfg s k / 2 ^ h) (max (intvMin k) (intvCfg s k / 2 ^ s.rd COB_BURST_FACTOR))

def intvForce (s : State) (k : Nat) : Nat := min (intvCfg s k) (intvAfter s k (tabGet 0 s.cob.halved k))

/-- COB_STAT.GUAR (R371): the classes that sweep, are not late and are configured at most at their default interval.  [DEDUCED 44: notes/assumptions] -/
def guarMask (s : State) : Nat :=
  if s.mode = DORMANT then 0
  else (List.range 5).foldl (fun m k =>
    if bit (s.rd COB_CTL_EN) k = 1 ∧ bit (s.rd COB_STAT_LATE) k = 0 ∧ intvCfg s k ≤ intvDef k then m + 2 ^ k else m) 0

/-- Bit `k` of a mask field takes `on`. -/
def putBit (f : Fld) (k : Nat) (on : Bool) (s : State) : State := s.wr f (if on then s.rd f ||| 2 ^ k else s.rd f - bit (s.rd f) k * 2 ^ k)

/-! Uncorrectable frames and table entries (R376) -/

/-- Event, count and record of an uncorrectable word that does not enter SAFE. -/
def cobUeRecord (cls die loc st : Nat) (s : State) : State := (cobUncorrectable cls die loc st s).recordSt st die [cobWord 2 cls die st, loc]

/-- A frame of physical plane `p` is uncorrectable; an arm in progress fails, its die being one that cannot answer (R323).  [DESIGN CHOICE 29: notes/assumptions] -/
def frameUe (fid p : Nat) (s : State) : State :=
  let d := frameDie fid
  let ev := [cobWord 2 0 d ST_ECC_FRAME, fid]
  let st := s.rd SHF_STAT_STATE
  if p = activeOf s (frameUnit fid) then
    (cobUncorrectable 0 d fid ST_ECC_FRAME s).fault ST_ECC_FRAME d
      (if d = 12 then s.allRegions else if frameIdx fid < 39936 then oneRegion d (frameIdx fid / 1248) else s.dieRegions d) ev
  else
    let s := cobUeRecord 0 d fid ST_ECC_FRAME (setFrameSt fid p 3 s)
    if st = 7 then (shfReleaseNow true s).wr SHF_RESULT_STATUS ST_ECC_FRAME
    else if st = 3 then s.wr SHF_STAT_STATE 2
    else if st = 4 then
      let s := (s.wri SHF_DIEST_FAILED (4 * d) 1).wri SHF_DIEST_REASON (4 * d) ST_SHF_ARMFAIL
      shfAbandon ST_SHF_ARMFAIL d (if s.rd SHF_CMD_BUSY = 1 then shfDone ST_SHF_ARMFAIL s else s)
    else s

/-- Both copies of a frame-table entry are uncorrectable. -/
def tableUe (fid : Nat) (s : State) : State :=
  (cobUncorrectable 0 (frameDie fid) fid ST_ECC_FTABLE s).fault ST_ECC_FTABLE (frameDie fid) s.allRegions [cobWord 2 0 (frameDie fid) ST_ECC_FTABLE, fid]

/-! Locations (R378) -/

/-- Welt address of a word of class 2 or 3. -/
def awlLocAddr (die loc : Nat) : Nat := xyAddr (rix die (bits loc 21 5)) (bit loc 20 == 1) (4 * bits loc 0 14)
def lastLocAddr (loc : Nat) : Nat := if bit loc 23 = 1 then vaultBase + bits loc 0 17 * 8 else lastBase + bits loc 0 22 * 8

/-- Die of a class's words: a die, or 12 for the Last and DRAM. -/
def locDie (cls die : Nat) : Nat := if 3 ≤ cls then 12 else die

/-- The word is one that its class sweeps and that can be read (R369). -/
def swept (s : State) (cls die loc copy : Nat) : Bool :=
  let region := bits loc 21 5
  match cls with
  | 0 => frameDie loc == die && (die == 12 || s.dieUp die) && (2 ≤ copy || (1 ≤ frameSt s loc copy && frameSt s loc copy ≤ 2))
  | 1 => s.rdi FDC_RSTAT_LOADED (oReg die region) == 1 && s.rdi BNK_STAT_PWR (oBnk die region (bits loc 15 6)) == 0 && !atG0 s die && bits loc 0 15 < 1024
  | 2 => s.rdi FDC_RSTAT_LOADED (oReg die region) == 1 && s.rdi (awlMemState (bit loc 20 == 1)) (oReg die region) == 0 && !atG0 s die && bits loc 0 20 < 16384
  | 3 => if bit loc 23 = 1 then decide (unitState s 64 ≤ 1) && bits loc 0 22 < 131072 else decide (unitState s (bits loc 0 22 / 65536) ≤ 1)
  | _ => drcState s (bits loc 29 3) == drcREADY && bits loc 0 29 < 2 * drcPairs s && s.rdi DRC_FILLWM_WM (oCh (bits loc 29 3)) ≤ bits loc 0 29 / 2

/-- Errors of a word as they stand: bits for frames and words, a device plus one for DRAM, 101 poisoned. -/
def locMark (s : State) (cls die loc copy : Nat) : Nat :=
  match cls with
  | 0 => if copy < 2 then frameMark s loc copy else if bit (tabGet 0 s.cfg.ftBad loc) (copy - 2) = 1 then 2 else 0
  | 1 => wordMark s die (bits loc 21 5) (bits loc 15 6) (bits loc 0 15)
  | 2 => tabGet 0 s.marks (awlLocAddr die loc)
  | 3 => tabGet 0 s.marks (lastLocAddr loc)
  | _ => tabGet 0 (s.chan (bits loc 29 3)).marks (bits loc 0 29)

/-- Errors that have arisen in a word: they are added to those that stand. -/
def locSpoil (cls die loc copy err : Nat) (s : State) : State :=
  let v := max err (locMark s cls die loc copy)
  match cls with
  | 0 =>
    if copy < 2 then s.modCfg fun c => { c with marks := tabSet 0 c.marks (loc * 2 + copy) (min 3 v) }
    else if 2 ≤ v then s.modCfg fun c => { c with ftBad := tabMod 0 c.ftBad loc fun m => m ||| 2 ^ (copy - 2) } else s
  | 1 => setMark die (bits loc 21 5) (bits loc 15 6) (bits loc 0 15) (min 2 v) s
  | 2 => { s with marks := tabSet 0 s.marks (awlLocAddr die loc) (min 2 v) }
  | 3 => { s with marks := tabSet 0 s.marks (lastLocAddr loc) (min 2 v) }
  | _ => setLineMark (bits loc 29 3) (bits loc 0 29) (min 101 v) s

/-- A read by the Cobbler: corrected words are posted, uncorrectable ones have the outcome of R376. -/
def locCheck (cls die loc copy : Nat) (s : State) : State :=
  match cls with
  | 0 =>
    if copy < 2 then
      (match frameMark s loc copy with
      | 0 => s
      | 3 => frameUe loc copy s
      | _ => cobCorrected 0 die loc s)
    else
      (match tabGet 0 s.cfg.ftBad loc with
      | 0 => s
      | 3 => tableUe loc s
      | _ => cobCorrected 0 die loc s)
  | 1 => bankChecked die (bits loc 21 5) (bits loc 15 6) (bits loc 0 15) s
  | 2 => (awlMem (rix die (bits loc 21 5))).check (awlLocAddr die loc) s
  | 3 => lastMem.check (lastLocAddr loc) s
  | _ => (lineCheck (bits loc 29 3) (bits loc 0 29) s).1

/-- A sweep of class `k` ends after `took` (R371): LASTSWP, and LATE clears if it met its interval. -/
def sweepEnd (k took : Nat) (s : State) : State :=
  let s := (s.modCob fun c => { c with pos := tabErase c.pos k }).wri COB_LASTSWP_TIME (4 * k) (min took (2 ^ 20 - 1))
  if took ≤ intvForce s k then putBit COB_STAT_LATE k false s else s

/-- Place of a location in its class's ascending order.  [DEDUCED 43: notes/assumptions] -/
def sweepOrder (die loc copy : Nat) : Nat := (die * 2 ^ 32 + loc) * 4 + copy + 1

/-- SWEEP_READ (R369 to R376): class `cls` reads its next word, at or above where its sweep stands; `copy` is a frame's physical plane, 2 or
3 a copy of its table entry, and 0 for other classes; `err` is the errors that have arisen in it; `took` ends the sweep with its
duration.  [DESIGN CHOICE 29: notes/assumptions] -/
def execSweepRead (cls : Fin 5) (die : Fin 13) (loc : Nat) (copy : Fin 4) (err : Nat) (took : Option Nat) (s : State) : Out :=
  let here := sweepOrder die loc copy
  if s.mode = DORMANT ∨ bit (s.rd COB_CTL_EN) cls = 0 ∨ here < tabGet 0 s.cob.pos cls ∨ die.val ≠ (if cls.val = 0 then frameDie loc else locDie cls die) ∨
      (cls.val ≠ 0 ∧ copy.val ≠ 0) ∨ swept s cls die loc copy = false then .next s
  else
    let s := s.modCob fun c => { c with pos := tabSet 0 c.pos cls (here + 1) }
    let s := locCheck cls die loc copy (locSpoil cls die loc copy err s)
    .next (match took with | some t => sweepEnd cls t s | none => s)

/-- SWEEP_LATE (R371): a sweep has not ended within its interval. -/
def execSweepLate (cls : Fin 5) (s : State) : Out :=
  if s.mode = DORMANT ∨ bit (s.rd COB_CTL_EN) cls = 0 ∨ bit (s.rd COB_STAT_LATE) cls = 1 then .next s
  else
    let s := putBit COB_STAT_LATE cls true s
    .next (s.record 0x000B 12 2 [s.rd COB_STAT_SPFULL * 2 ^ 24 + s.rd COB_STAT_BURST * 2 ^ 16 + s.rd COB_STAT_LATE * 2 ^ 8 + guarMask s])

/-! Remaps of Awl memories, the Last store and the vault (R368) -/

/-- Spare words of the memory that holds a location: 4 of an Awl memory, 16 of a segment or of the vault; and whether two locations share
one. -/
def spareCount (cls : Nat) : Nat := if cls = 2 then 4 else 16
def sameMem (cls a b : Nat) : Bool := if cls = 2 then a / 2 ^ 20 == b / 2 ^ 20 else a / 2 ^ 23 == b / 2 ^ 23 && (2 ^ 23 ≤ a || a / 2 ^ 16 == b / 2 ^ 16)

/-- Spares taken or failed of a memory; a failed one is kept under class `cls` + 8. -/
def sparesOf (s : State) (cls die loc : Nat) : List Nat :=
  (s.cob.spares.filter fun x => (x.1 == cls || x.1 == cls + 8) && x.2.1 == die && sameMem cls x.2.2.1 loc).map fun x => x.2.2.2

/-- A word of class 2 or 3 is remapped to the lowest free spare, `bad` spares in turn failing their readback.  The status, 0 when made.  [DEDUCED 43: notes/assumptions] -/
def remapSpare (cls die loc bad : Nat) (s : State) : Nat × State :=
  let free := (List.range (spareCount cls)).filter fun n => !(sparesOf s cls die loc).contains n
  let s := s.modCob fun c => { c with spares := c.spares ++ (free.take bad).map fun n => (cls + 8, die, loc, n) }
  match free.drop bad with
  | [] => (ST_BNK_REMAP_FULL, s)
  | n :: _ =>
    if locMark s cls die loc 0 = 2 then (ST_ECC_UE, s)
    else
      let s := s.modCob fun c => { c with spares :=
        (c.spares.map fun x => if x.1 = cls ∧ x.2.1 = die ∧ x.2.2.1 = loc then (cls + 8, x.2) else x) ++ [(cls, die, loc, n)] }
      (0, { s with marks := tabErase s.marks (if cls = 2 then awlLocAddr die loc else lastLocAddr loc) })

/-- The policy remaps a location (R375): a bank word at an edge of its bank (R110), the others at once.  [DEDUCED 43: notes/assumptions] -/
def cobRemap (cls die loc bad : Nat) (s : State) : State :=
  match cls with
  | 1 => s.modBank (bix die (bits loc 21 5) (bits loc 15 6)) fun k => if k.remapReq.isNone then { k with remapReq := some (bits loc 0 10, 0) } else k
  | 4 => (drcRemap (bits loc 29 3) (bits loc 0 29) bad s).1
  | _ =>
    let x := remapSpare cls die loc bad s
    if x.1 = 0 then rsRecord cls die loc (remapMade cls die loc x.2) else remapRefused cls die loc x.1 x.2

/-! Rewrites (R373, R374) -/

/-- A frame's correctable planes and its damaged table copy are rewritten; with `miss` a corrected frame does not match its CRC-32.  [DEDUCED 43: notes/assumptions] -/
def rewriteFrame (fid : Nat) (miss : Bool) (s : State) : State :=
  let d := frameDie fid
  let one := fun (p : Nat) (s : State) =>
    let m := frameMark s fid p
    if m = 0 then s
    else if m = 3 then frameUe fid p s
    else if miss then
      frameUe fid p (cobEvent 7 0 d ST_ECC_FRAME fid (s.modCfg fun c => { c with marks := tabSet 0 c.marks (fid * 2 + p) 3 }))
    else cobEvent 1 0 d 0 fid (s.modCfg fun c => { c with marks := tabErase c.marks (fid * 2 + p) })
  let s := one 1 (one 0 s)
  let t := tabGet 0 s.cfg.ftBad fid
  if t = 3 then tableUe fid s
  else if t = 0 then s else cobEvent 1 0 d 0 fid (s.modCfg fun c => { c with ftBad := tabErase c.ftBad fid })

/-- A word is read again and rewritten if it still has a correctable error. -/
def rewriteWord (cls die loc : Nat) (s : State) : State :=
  let m := locMark s cls die loc 0
  let ue := if cls = 4 then decide (20 < m) else decide (2 ≤ m)
  if m = 0 then s
  else if ue then locCheck cls die loc 0 s
  else
    cobEvent 1 cls die 0 loc (match cls with
      | 1 => setMark die (bits loc 21 5) (bits loc 15 6) (bits loc 0 15) 0 s
      | 2 => { s with marks := tabErase s.marks (awlLocAddr die loc) }
      | 3 => { s with marks := tabErase s.marks (lastLocAddr loc) }
      | _ => setLineMark (bits loc 29 3) (bits loc 0 29) 0 s)

/-- CORRECTION_REWRITE (R373): the oldest entry of a class's correction queue is rewritten, and its remap follows if the policy asks for
it; with an empty queue a remap that is due is made.  `miss`: the corrected frame fails its CRC-32; `bad`: spares that fail their
readback. -/
def execCorrectionRewrite (cls : Fin 5) (miss : Bool) (bad : Nat) (s : State) : Out :=
  match s.cob.queue.find? fun x => x.1 == cls.val with
  | some (k, die, loc) =>
    if k = 1 ∧ (s.rdi BNK_STAT_PWR (oBnk die (bits loc 21 5) (bits loc 15 6)) ≠ 0 ∨ atG0 s die = true) then .next s
    else
      let s := s.modCob fun c => { c with queue := c.queue.erase (k, die, loc) }
      let s := if k = 0 then rewriteFrame loc miss s else rewriteWord k die loc s
      .next (if s.cob.due.contains (k, die, loc) then cobRemap k die loc bad s else s)
  | none =>
    match s.cob.due.find? fun x => x.1 == cls.val with
    | some (k, die, loc) => .next (cobRemap k die loc bad s)
    | none => .next s

/-! The policy (R375) -/

/-- A second of class `k` ends. -/
def burstSecond (s : State) (k : Nat) : State :=
  let n := tabGet 0 s.cob.sec k
  let h := tabGet 0 s.cob.halved k
  let s := s.modCob fun c => { c with sec := tabErase c.sec k }
  if s.rd COB_BURST_BTH < n ∧ bit (s.rd COB_BURST_EN) k = 1 ∧ intvAfter s k (h + 1) < intvAfter s k h then
    let s := s.modCob fun c => { c with halved := tabSet 0 c.halved k (h + 1) }
    if h = 0 then putBit COB_STAT_BURST k true (cobEvent 8 k 12 0 0 s) else s
  else s

/-- BURST_SECOND_END (R375): a second ends, for every class. -/
def execBurstSecondEnd (s : State) : Out := .next ((List.range 5).foldl burstSecond s)

/-- BURST_HOLD_EXPIRY (R375): HOLD seconds without a burst of the class. -/
def execBurstHoldExpiry (cls : Fin 5) (s : State) : Out :=
  let h := tabGet 0 s.cob.halved cls
  if h = 0 then .next s
  else
    let s := s.modCob fun c => { c with halved := tabSet 0 c.halved cls (h - 1) }
    .next (if h = 1 then putBit COB_STAT_BURST cls false (cobEvent 9 cls 12 0 0 s) else s)

/-- HISTORY_ENTRY_EXPIRY (R375): the entry whose first correction is oldest leaves WIN hours after it. -/
def execHistoryEntryExpiry (s : State) : Out :=
  match s.cob.hist with
  | [] => .next s
  | h :: t =>
    let e := t.foldl (fun (m : HistEnt) x => if x.first < m.first then x else m) h
    .next ((s.reachElapsed (e.first + s.rd COB_POL_WIN * hourNs)).modCob fun c => { c with hist := c.hist.erase e })

/-! The remap store (R378, R379) -/

/-- USED and FULL of COB_RSTORE. -/
def showStore (s : State) : State :=
  ((s.wr COB_RSTORE_USED s.cob.rs.length).wr COB_RSTORE_PEND s.cob.rsPend.length).wr COB_RSTORE_FULL (if 8192 ≤ s.cob.rs.length then 1 else 0)

/-- REMAP_STORE_WRITE (R378): the pending records are written to the older copy while NVINH is clear. -/
def execRemapStoreWrite (s : State) : Out :=
  if s.rd PWR_STAT_NVINH = 1 ∨ s.mode = DORMANT ∨ s.cob.rsPend = [] then .next s
  else .next (showStore (s.modCob fun c => { c with rs := (c.rs ++ c.rsPend).take 8192, rsPend := [], rsSeq := c.rsSeq + 1 }))

/-- A record's remap is made again at a start; a skipped one writes KIND 6. -/
def replayOne (s : State) (x : RsRec) : State :=
  let skip := cobEvent 6 x.kind x.die 0 x.loc
  let mine := s.rdi GLB_DIESTAT_STATE (4 * x.die) = 1 ∧ bits (s.die x.die).ident 16 16 = x.serial
  match x.kind with
  | 1 =>
    if mine then
      let r := remapWord x.die (bits x.loc 21 5) (bits x.loc 15 6) (bits x.loc 0 10) s
      if r.1 = 0 then r.2 else skip s
    else s
  | 2 =>
    if mine then
      let r := remapSpare 2 x.die x.loc 0 s
      if r.1 = 0 then r.2 else skip s
    else s
  | 3 =>
    let r := remapSpare 3 12 x.loc 0 s
    if r.1 = 0 then r.2 else skip s
  | _ =>
    if drcState s (bits x.loc 29 3) = drcREADY then
      let r := remapPair (bits x.loc 29 3) (bits x.loc 0 29) 0 s
      if r.2 = 0 then r.1 else skip s
    else s

/-- The remap store is replayed (R379). -/
def replayRemaps (s : State) : State := s.cob.rs.foldl replayOne s

/-! COB_CMD -/

/-- COB_CMD completes with `st`; the operations end at once. -/
def cobCmd (op st : Nat) (s : State) : State := ((s.wr COB_CMD_OP op).wr COB_CMD_STATUS st).wr COB_CMD_BUSY 0

/-- COB_RESTART_SWEEP (R369): COB_CMD operation 1. -/
def execCobRestartSweep (cls : Fin 8) (s : State) : Out :=
  let s := s.wr COB_CMD_CLASS cls
  if 5 ≤ cls.val then .next (cobCmd 1 ST_COB_BADCMD s)
  else .next (cobCmd 1 0 (s.modCob fun c => { c with pos := tabErase c.pos cls }))

/-- COB_CLEAR_REMAP_STORE (R379): COB_CMD operation 2. -/
def execCobClearRemapStore (s : State) : Out :=
  if s.mode ≠ HOLD then .next (cobCmd 2 ST_COB_STATE s)
  else .next (cobCmd 2 0 (showStore (s.modCob fun c => { c with rs := [], rsSeq := c.rsSeq + 1 })))

/-- COB_CLEAR_HISTORY (R375): COB_CMD operation 3. -/
def execCobClearHistory (s : State) : Out := .next (cobCmd 3 0 (s.modCob fun c => { c with hist := [], due := [] }))

/-! Scrub wakes (R114) -/

/-- BANK_SCRUB_WAKE (R114): a bank in RETENTION wakes for its scrub; once it is ON, the Cobbler scrubs its words, in which `errs` says
what errors it finds (word, errors), and returns it to RETENTION if that is still requested.  [DEDUCED 43: notes/assumptions] -/
def execBankScrubWake (d : Fin 12) (r : Fin 32) (b : Fin 64) (errs : List (Nat × Nat)) (s : State) : Out :=
  let o := oBnk d r b
  let k := bix d r b
  let p := s.rdi BNK_STAT_PWR o
  if s.rdi FDC_RSTAT_LOADED (oReg d r) = 0 ∨ bit (s.rd COB_CTL_EN) 1 = 0 then .next s
  else if p = 2 then .next ((s.wri BNK_STAT_PWR o 3).modBank k fun x => { x with scrubWake := true })
  else if p = 0 ∧ (s.bank k).scrubWake = true then
    let s := errs.foldl (fun s e =>
      if 1024 ≤ e.1 then s
      else
        let loc := bankLoc r b e.1
        let s := locCheck 1 d loc 0 (locSpoil 1 d loc 0 e.2 s)
        rewriteWord 1 d loc (s.modCob fun c => { c with queue := c.queue.erase (1, d.val, loc) })) s
    .next (bankFollow d r b (s.modBank k fun x => { x with scrubWake := false }))
  else .next s

end Sys2Proof.Machine
end

