-- ==== Sys2Proof/Machine/UpdBase.lean ====
section
/-! DEFINITION. Components of a field update: versions, compatibility, the plan, and switching a copy
(spec/22_field_update.md, R562, R563, R567, R571, R577). -/

namespace Sys2Proof.Machine

open Sys2Proof

def State.modUpd (s : State) (f : Upd → Upd) : State := { s with upd := f s.upd }

/-- Dies in use: SUPPORTED or EXCLUDED. -/
def liveDies (s : State) : List Nat := dieList.filter fun d => s.rdi GLB_DIESTAT_STATE (4 * d) == 1 || s.rdi GLB_DIESTAT_STATE (4 * d) == 4

/-- Fabric generation of a die. -/
def dieGen (s : State) (d : Nat) : Nat := bits (s.die d).capw 24 4

/-- A component is present (R562). -/
def compPresent (s : State) (c : Nat) : Bool := c ≤ 5 || (c ≤ 20 && (liveDies s).any fun d => dieGen s d + 5 == c)

/-- The active copy of each component; Last firmware carries the stepping table in force (R27). -/
def activeCopy (s : State) (c : Nat) : CompCopy :=
  let x := tabGet {} s.upd.active c
  if c = 0 then { x with table := s.supTab } else x

/-- The table of a Last firmware supports every die in use. -/
def tableSupports (s : State) (t : List SupEntry) : Bool :=
  (liveDies s).all fun d => t.any fun e => e.gen == dieGen s d && decide (e.stepMin ≤ bits (s.die d).ident 8 8) && decide (bits (s.die d).ident 8 8 ≤ e.stepMax)

/-- A state of the module is compatible (R563): `v` gives each present component's copy. -/
def compatible (s : State) (v : Nat → CompCopy) : Bool :=
  tableSupports s (v 0).table && (List.range 20).all fun k =>
    let x := k + 1
    !compPresent s x || (decide (tabGet 0 (v x).req 0 ≤ (v 0).compat) && decide (tabGet 0 (v 0).req x ≤ (v x).compat))

/-- The procedure of R567 with `n` rounds left: `v` is S, `p` the members of P in ascending order. -/
def planFrom (s : State) (new : Tab CompCopy) : (n : Nat) → (v : Nat → CompCopy) → (p : List Nat) → Option (List Nat)
  | 0, _, p => if p = [] then some [] else none
  | n + 1, v, p =>
    if p = [] then some []
    else
      let take := fun (x : Nat) (c : Nat) => if c = x then tabGet {} new x else v c
      match p.find? fun x => compatible s (take x) with
      | none => none
      | some x => (planFrom s new n (take x) (p.erase x)).map fun l => x :: l

/-- The plan of a package, none where R567 refuses it. -/
def planOf (s : State) (new : Tab CompCopy) : Option (List Nat) :=
  let p := (List.range 21).filter fun c => compPresent s c && (new.any fun q => q.1 == c) && (tabGet {} new c).version != (activeCopy s c).version
  if compatible s (fun c => if p.contains c then tabGet {} new c else activeCopy s c) then planFrom s new 21 (activeCopy s) p else none

/-- UPD_EVENT entry with its record; a failed step's record is of its status.  [DEDUCED 50: notes/assumptions] -/
def updEvent (kind comp st : Nat) (s : State) : State :=
  let w := kind * 2 ^ 26 + comp * 2 ^ 21 + st
  let s := s.push UPD_EVENT_VALID w
  if kind = 6 then s.recordSt st 12 [w]
  else s.record 0x000F 12 1 [w, s.rd UPD_RESULT_STATUS * 2 ^ 16 + s.rd UPD_RESULT_COMP * 8 + s.rd UPD_RESULT_OUTCOME]

/-- UPD_RESULT. -/
def updResult (outcome comp st : Nat) (s : State) : State := ((s.wr UPD_RESULT_OUTCOME outcome).wr UPD_RESULT_COMP comp).wr UPD_RESULT_STATUS st

/-- The copies of a component change places; for Last firmware the boot record names the other bank, as TRIAL on the way forward. -/
def swapComp (c : Nat) (fwd : Bool) (s : State) : State :=
  let a := activeCopy s c
  let p := tabGet {} s.upd.prev c
  let s := s.modUpd fun u => { u with active := tabSet {} u.active c p, prev := tabSet {} u.prev c a }
  if c = 0 then { s with supTab := p.table, upd := { s.upd with bank := 1 - s.upd.bank, trial := fwd } } else s

/-- DONE of the plan entry of a component. -/
def planDone (c : Nat) (done : Bool) (s : State) : State :=
  (List.range 21).foldl (fun s i => if s.rdi UPD_PLAN_VALID (4 * i) = 1 ∧ s.rdi UPD_PLAN_COMP (4 * i) = c then s.wri UPD_PLAN_DONE (4 * i) done.toNat else s) s

/-- A start has fallen back from a TRIAL bank (R577): the switched steps are reverted; the bank is the previous one already. -/
def bootRevert (s : State) : State :=
  if s.upd.fell then
    let b := s.upd.bank
    let s := s.upd.taken.reverse.foldl (fun s c => planDone c false (swapComp c false s)) s
    let s := s.modUpd fun u => { u with taken := [], fell := false, trial := false, bank := b }
    updEvent 9 0 0 (updResult 5 0 0 ((s.wr UPD_STAT_STATE 0).wr UPD_STAT_REVOK 0))
  else s

end Sys2Proof.Machine
end

