-- ==== Sys2Proof/Machine/Modes.lean ====
section
/-! DEFINITION. Modes, start-up, DORMANT and resets (spec/18_modes_startup_reset.md), and the clocks' part in them
(spec/17_clocks_and_gears.md, R430 to R437, R448 to R453). -/

namespace Sys2Proof.Machine

open Sys2Proof

/-! Non-volatile settings (R512) -/

def nvsAUTOBOOT : Nat := 0
def nvsREFSRC : Nat := 1
def nvsOSCDLY : Nat := 2
def nvsWSPADDR : Nat := 3
def nvsWSPMAX : Nat := 4
def nvsHBTMO : Nat := 5

def nvsDef (o : Nat) : Nat := if o = 2 then 15 else if o = 3 then 1 else if o = 4 then 6 else if o = 5 then 100 else 0
def nvsGet (s : State) (o : Nat) : Nat := tabGet (nvsDef o) s.side.nvs o

/-! Clock events -/

/-- CLK_EVENT and what its record carries. -/
def clkWord (kind die unit st : Nat) : Nat := evWord kind die (unit * 2 ^ 17 + st)

/-- A clock event that enters no mode: its entry and its record 0x0013.  [DEDUCED 42: notes/assumptions] -/
def clkEvent (kind die unit st : Nat) (s : State) : State :=
  (s.push CLK_EVENT_VALID (clkWord kind die unit st)).record 0x0013 12 1 [clkWord kind die unit st]

/-! The clock start (R430 to R434, R456, R459, R460) -/

/-- The main output is in regulation and PWR_NVINH is clear. -/
def startAllowed (s : State) : Bool := s.rd PWR_STAT_MAIN == 1 && s.rd PWR_STAT_NVINH == 0

/-- Step 1 of R433. -/
def startClocks (s : State) : State :=
  if s.clocks.start.isSome then s
  else
    let src := nvsGet s nvsREFSRC
    let s := ((s.wr CLK_NVS_REFSRC src).wr CLK_NVS_OSCDLY (nvsGet s nvsOSCDLY)).wr CLK_STAT_REFSTATE 1
    { s with clocks := { s.clocks with start := some (src, 0), xoEn := src == 1, win := false, locking := false, fw := false }
             modes := { s.modes with held := false } }

/-- A start that is asked for begins if it may, and is held otherwise (R456). -/
def tryStart (s : State) : State :=
  if s.mode = DORMANT ∧ (s.modes.req = some 1 ∨ s.cfg.pendLoad.isSome) then
    (if startAllowed s then startClocks s else { s with modes := { s.modes with held := true } })
  else s

/-- The clocks stop and the Last's core rails go off; the module stays in DORMANT. -/
def stopClocks (ref : Nat) (s : State) : State :=
  let s := ((s.wr CLK_STAT_REFSTATE ref).wr CLK_STAT_LOCK 0).wr CLK_STAT_READY 0
  { s with clocks := { s.clocks with start := none, locking := false, win := false, fw := false, xoEn := false } }

/-- The start fails with `st` (R434, R460): its record, and the command or auto-boot that asked for it completes. -/
def startFail (ref st : Nat) (s : State) : State :=
  let s := (stopClocks ref s).recordSt st 12 []
  let s := if s.modes.req = some 1 then s.endReq st else s
  match s.cfg.pendLoad with
  | some (_, auto) => if auto then s.modCfg fun c => { c with pendLoad := none } else cfgDone st (s.modCfg fun c => { c with pendLoad := none })
  | none => s

/-- A clock start fails (R434).  [DEDUCED 39: notes/assumptions] -/
def clockFail (st : Nat) (s : State) : State := startFail 3 st (s.wr CLK_STAT_REASON st)

/-- Nominal count of a stability window, and how far from it a passing count lies (R432). -/
def winNominal (src : Nat) : Nat := if src = 0 then 25177 else 100708
def winPasses (src count : Nat) : Bool :=
  if src = 0 then 25172 ≤ count && count ≤ 25182 else 100688 ≤ count && count ≤ 100728

/-- Deviation of a count from nominal over 33 crystal periods in ppm, rounded to the nearest and saturating.  [DEDUCED 39: notes/assumptions] -/
def winDev (src count : Nat) : Int :=
  let f : Int := if src = 0 then 25 else 100
  max (-2047) (min 2047 (((count : Int) * 65536 - 66 * f * 1000000 + 33 * f) / (66 * f)))

/-- CLK_REFMEAS shows a window. -/
def showWindow (count : Nat) (s : State) : State :=
  (s.wr CLK_REFMEAS_COUNT (min count (2 ^ 17 - 1))).wr CLK_REFMEAS_DEV (wrapTo 12 (winDev (s.rd CLK_NVS_REFSRC) count))

/-- Bit `k` of a mask field of instance `off` takes `on`. -/
def putBitI (f : Fld) (off k : Nat) (on : Bool) (s : State) : State :=
  s.wri f off (if on then s.rdi f off ||| 2 ^ k else s.rdi f off - bit (s.rdi f off) k * 2 ^ k)

/-- The clocks are not ready (R452). -/
def notReady (st : Nat) (s : State) : State :=
  let s := (s.wr CLK_STAT_REASON st).wr CLK_STAT_READY 0
  { s with modes := { s.modes with readySince := none }, clocks := { s.clocks with passed := 0 } }

/-- Loss of the reference (R448, R451).  [DEDUCED 42: notes/assumptions] -/
def refLoss (s : State) : State :=
  let w := clkWord 1 15 0 ST_HW_CLK_REF
  let s := (notReady ST_HW_CLK_REF s).push CLK_EVENT_VALID w
  let s := (s.wr CLK_STAT_HOLDOVER 1).wr CLK_STAT_REFSTATE 3
  ({ s with clocks := { s.clocks with refOk := false } } : State).fault ST_HW_CLK_REF 12 s.allRegions [w]

/-- OSCILLATOR_START_DELAY_END (R431, R433 step 2). -/
def execOscillatorStartDelayEnd (s : State) : Out :=
  match s.clocks.start with
  | some _ => .next (if s.clocks.locking then s else { s with clocks := { s.clocks with win := true } })
  | none => .next s

/-- STABILITY_WINDOW_END (R432 to R434, R448): a window of the clock start ends with `count` edges; or one of the monitoring in RUN and
SHIFT, which finds the reference lost beyond ±1,000 ppm. -/
def execStabilityWindowEnd (count : Nat) (s : State) : Out :=
  match s.clocks.start with
  | some (src, n) =>
    if s.clocks.win = false ∨ s.mode ≠ DORMANT then .next s
    else
      let s := showWindow count s
      if winPasses src count then .next (({ s with clocks := { s.clocks with win := false, locking := true } } : State).wr CLK_STAT_REFSTATE 2)
      else if 16 ≤ n + 1 then .next (clockFail ST_HW_CLK_REF s)
      else .next { s with clocks := { s.clocks with start := some (src, n + 1) } }
  | none =>
    if s.mode = RUN ∨ s.mode = SHIFT then
      let s := showWindow count s
      let d := winDev (s.rd CLK_NVS_REFSRC) count
      .next (if (1000 < d ∨ d < -1000) ∧ s.clocks.refOk = true then refLoss s else s)
    else .next s

/-! Entry to LOAD -/

/-- The newest record of a code that the ring or the pending area holds. -/
def newestRecord (code : Nat) (b : BlackBox) : Option Record :=
  (((b.ring.filter fun p => p.2.2).map fun p => p.2.1) ++ b.pend).foldl (fun (m : Option Record) r =>
    if r.code = code then (match m with | some x => if x.seq < r.seq then some r else m | none => some r) else m) none

/-- HLT_AV* are restored at a start from the newest checkpoint, or the loss and its count from a newer last-gasp record (R587, R597). -/
def restoreAvail (s : State) : State :=
  let c := newestRecord 0x0010 s.bbx
  let g := newestRecord 0x0003 s.bbx
  let s := match c with
    | some r => ((s.wr HLT_AVSEC_SEC (r.payload.getD 0 0)).wr HLT_AVLOSS_MS (r.payload.getD 1 0)).wr HLT_AVEVT_EVT (r.payload.getD 2 0)
    | none => s
  match g with
  | some r => if (c.map Record.seq).all (fun n => n < r.seq) then (s.wr HLT_AVLOSS_MS (r.payload.getD 6 0)).wr HLT_AVEVT_EVT (r.payload.getD 7 0) else s
  | none => s

/-- The module timebase starts from the RTC's value, which counts 1/32,768 s (R436). -/
def startTimebase (s : State) : State :=
  { s with clocks := { s.clocks with tb := s.clocks.rtc * 32768 / 1000000000 * 1000000000 / 32768 % tbMod, tbRun := true, start := none, locking := false, refOk := true } }

/-- The key store is erased (R525, R527, R532). -/
def keysErase (s : State) : State := { (s.wr SEC_KEYS_PRESENT 0) with secur := { s.secur with keys := [], eraseWait := false } }

/-- The module reset is released and the module enters LOAD (R433 step 5, R459 step 4): the probe starts, and every DRAM channel trains
(R357); the debug domain is powered (R536).  [DEDUCED 30: notes/assumptions] -/
def enterLoad (runs : List (Nat × Nat × Nat × Nat)) (s : State) : State :=
  let s := { s with modes := { s.modes with readySince := some s.clocks.elapsed }, bbx := { s.bbx with start := s.bbx.start + 1 } }
  let n := s.free 64
  let s := (n.2.wr SEC_NONCEL_N (n.1 % 2 ^ 32)).wr SEC_NONCEH_N (n.1 / 2 ^ 32)
  let s := if s.secur.eraseWait then keysErase s else s
  let s := restoreAvail ((s.wr DBG_PORT_POWER 1).wr GLB_HBTMO_TMO (nvsGet s nvsHBTMO * 10))
  let s := s.record 0x0001 12 1 [s.bbx.start, (List.range 4).foldl (fun m k => m + nvsGet s k * 2 ^ (8 * k)) 0, nvsGet s 4 + nvsGet s 5 * 256]
  let s := if s.modes.req = some 1 then (s.toMode LOAD 0).endReq 0 else s.toMode LOAD 0
  let s := (List.range 8).foldl (fun s b => if s.rdi SZL_BCTL_EN (oBun b) = 1 then s.wri SZL_BSTAT_STATE (oBun b) 2 else s) s
  let s := probeStart (bootRevert (s.modUpd fun u => { u with trialAt := s.clocks.elapsed }))
  (List.range 8).foldl (fun s c => drcTrain runs c s) s

/-- The clocks are locked and Last firmware runs: the module enters LOAD. -/
def loadIfReady (runs : List (Nat × Nat × Nat × Nat)) (s : State) : State :=
  if s.clocks.start.isSome ∧ s.rd CLK_STAT_LOCK = 0x3F ∧ s.clocks.fw = true then enterLoad runs (startTimebase s) else s

/-- LAST_PLLS_LOCKED (R433 steps 4 and 5, R434): the Last PLLs have locked, or one has not in time; `runs` gives what DRAM training
finds.  [DEDUCED 39: notes/assumptions] -/
def execLastPllsLocked (locked : Bool) (runs : List (Nat × Nat × Nat × Nat)) (s : State) : Out :=
  if s.clocks.start.isNone ∨ s.clocks.locking = false ∨ s.rd CLK_STAT_LOCK = 0x3F then .next s
  else if locked = false then .next (clockFail ST_HW_CLK_PLL s)
  else .next (loadIfReady runs ((s.wr CLK_STAT_LOCK 0x3F).wr CLK_STAT_READY 1))

/-- LAST_FIRMWARE_BOOT (R460, R577): the bank of the boot record starts, or the other one, or none; `ok` says whether bank 0 and bank 1
can. -/
def execLastFirmwareBoot (okA okB : Bool) (runs : List (Nat × Nat × Nat × Nat)) (s : State) : Out :=
  if s.clocks.start.isNone ∨ s.clocks.fw = true then .next s
  else
    let ok := fun (b : Nat) => if b = 0 then okA else okB
    let b := s.upd.bank
    if ok b then .next (loadIfReady runs { s with clocks := { s.clocks with fw := true } })
    else if ok (1 - b) then
      .next (loadIfReady runs { s with clocks := { s.clocks with fw := true }, upd := { s.upd with bank := 1 - b, fell := s.upd.trial } })
    else .next (startFail 0 ST_HW_LAST_BOOT s)

/-- The slot that an auto-boot loads first: BOOT, or FALLBACK where BOOT is empty (R304); none where neither is set. -/
def bootSlot (s : State) : Option Nat :=
  if s.rd CFG_BOOT_BOOT ≠ 0 then some (s.rd CFG_BOOT_BOOT) else if s.rd CFG_BOOT_FALLBACK ≠ 0 then some (s.rd CFG_BOOT_FALLBACK) else none

/-- AUTO_BOOT_DECISION (R304, R459 step 3): taken once a supply start, with NVS_AUTOBOOT = 1.  [DEDUCED 45: notes/assumptions] -/
def execAutoBootDecision (s : State) : Out :=
  if s.mode ≠ DORMANT ∨ startAllowed s = false ∨ s.power.bootDue = false then .next s
  else
    let s := { s with power := { s.power with bootDue := false } }
    if nvsGet s nvsAUTOBOOT = 0 ∨ s.clocks.start.isSome then .next s
    else
      .next (startClocks (match s.cfg.pendLoad, bootSlot s with
        | none, some n => s.modCfg fun c => { c with pendLoad := some (n, true) }
        | _, _ => s))

/-- COLD_LOAD: CFG_CMD operation 1 (R305); `img` is what the staging area holds. -/
def execColdLoad (img : Image) (s : State) : Out := cfgGo 1 (coldLoad img tryStart) s

/-- The ring is scanned at a start (R589).  [DEDUCED 45: notes/assumptions] -/
def scanRing (s : State) : State :=
  let good := (s.bbx.ring.filter fun p => p.2.2).map fun p => p.2.1.seq
  let bad := (s.bbx.ring.filter fun p => !p.2.2).length
  let s := (s.addi BBX_BADCRC_COUNT 0 bad).wr BBX_STAT_READY 1
  match good with
  | [] => (s.wr BBX_HEAD_SEQ 0).wr BBX_TAIL_SEQ 0
  | x :: t => (s.wr BBX_HEAD_SEQ ((t.foldl max x + 1) % 2 ^ 32)).wr BBX_TAIL_SEQ (t.foldl min x)

/-- The key store is erased (R532). -/
def eraseKeys (s : State) : State := ({ s with secur := { s.secur with keys := [], eraseWait := false } } : State).wr SEC_KEYS_PRESENT 0

/-- PROBE_DEADLINE (R32 steps 3 to 7): every die is judged, the rails of unusable dies go off, Eyelets train, four-plane service is due
(R174), the remap store is replayed (R379), the black-box ring is scanned (R589), an erase of the key store that waited is made (R532), and a
cold load that waited begins.  [DESIGN CHOICE 18: notes/assumptions] -/
def execProbeDeadline (bad : List (Nat × Nat)) (noclk : List Nat) (s : State) : Out :=
  if s.mode = LOAD ∧ s.rd GLB_PKG_PROTO = 0 then
    let s := trainEyes24 bad noclk (probeJudge s)
    let s := dieList.foldl (fun s d => if s.rdi GLB_DIESTAT_STATE (4 * d) = 1 then
      startTrim d 1 (((s.wri CLK_PLLDIE_GEN (4 * d) 0xFF).wri CLK_PLLDIE_WELT (4 * d) 1).wri CLK_PLLDIE_AWL (4 * d) 1) else s) s
    let s := if s.rd WLT_SVC_STATE = 0 then svcStart 1 none s else s
    let s := scanRing (replayRemaps s)
    let s := if s.secur.eraseWait then eraseKeys s else s
    .next (match s.cfg.pendLoad with | some (src, auto) => loadBegin auto src s.cfg.staged s | none => s)
  else .next s

/-! DORMANT (R472, R475, R476) -/

/-- Register keys that the module reset does not reach: the always-on registers, the supply's, the mode, what flash, fuses, straps and the
update journal hold.  [DEDUCED 13: notes/assumptions] -/
def keptKey (k : Nat) : Bool :=
  let a := k / 32
  (0x10000 ≤ a && a < 0x10400) || a == 0 || a == 4 || k == 0x20 * 32 || k == 0x20 * 32 + 8 || a == 0x20044 || (a == 0x40080 && k % 32 != 12) ||
    (0xCA040 ≤ a && a < 0xCA080 && k % 32 == 3) || a == 0xD0008 || a == 0xD0010 || a == 0xE0000 || a == 0xE0018 || a == 0xE001C || a == 0xE0020 ||
    a == 0xE0038 || a == 0xE003C || (0xE0100 ≤ a && a < 0xE0180) || (0xF0000 ≤ a && a < 0x100000) || (a == 0x100020 && 17 ≤ k % 32) ||
    a == 0x100038 || a == 0x10003C || (0x100100 ≤ a && a < 0x100180) || a == 0x900A4

/-- The state after the module reset: what the always-on and debug domains, the fuses, the flash and the world outside hold.  [DEDUCED 13: notes/assumptions] -/
def moduleReset (s : State) : State :=
  { pending := s.pending, fresh := s.fresh, reply := s.reply, supTab := s.supTab, fuseTrim := s.fuseTrim
    regs := s.regs.filter fun p => keptKey p.1
    evq := s.evq.filter fun p => 0x10000 ≤ p.1 && p.1 < 0x10400
    bbx := s.bbx, power := { s.power with bad := [] }, side := { nvs := s.side.nvs }, secur := s.secur, dbg := s.dbg, upd := s.upd, hlt := { ns := s.hlt.ns, lossAt := s.hlt.lossAt }
    keyHash := s.keyHash
    cob := { rs := s.cob.rs, rsSeq := s.cob.rsSeq }, cfg := { flash := s.cfg.flash }
    clocks := { elapsed := s.clocks.elapsed, rtc := s.clocks.rtc }, modes := { resumes := s.modes.resumes }, pcie := { perst := s.pcie.perst } }

/-- The debug reset (R475, R537): of DBG_PORT, the port's openness, the probe and the power stay as they are. -/
def debugReset (s : State) : State :=
  { s with regs := s.regs.filter fun p => !(0xF0000 ≤ p.1 / 32 && p.1 / 32 < 0x100000 && (p.1 / 32 != 0xF0004 || p.1 % 32 < 29))
           dbg := {} }

/-- What the journal keeps of an update (R578).  [DESIGN CHOICE 54; DEDUCED 55: notes/assumptions] -/
def journalResume (power : Bool) (s : State) : State :=
  let st := s.rd UPD_STAT_STATE
  if st = 4 then s.wr UPD_STAT_STATE 3
  else if st = 5 then
    let x := if power then (ST_CFG_NVINH, s) else s.free 16
    ((x.2.wr UPD_STAT_STATE 6).wr UPD_RESULT_OUTCOME 2).wr UPD_RESULT_STATUS x.1
  else if st = 1 ∨ st = 2 then s.wr UPD_STAT_STATE 0
  else s

/-- The module goes to DORMANT (R472, R497): everything outside the always-on and debug domains is lost.  [DEDUCED 13; DESIGN CHOICE 18: notes/assumptions] -/
def enterDormant (power : Bool) (s : State) : State :=
  let s := s.toMode DORMANT 0
  let s := s.record 0x0010 12 0 [s.rd HLT_AVSEC_SEC, s.rd HLT_AVLOSS_MS, s.rd HLT_AVEVT_EVT]
  let s : State := if s.welt.win.isSome then { s with dbg := { s.dbg with done := true, status := ST_PEER_RESET } } else s
  let s := journalResume power (moduleReset (loseSessions (fun _ => true) s))
  let s := ((s.wr SBP_LINK_RATE 0).wr SEC_TAMPEN_EN s.secur.fuseEn).wr SEC_TAMPACT_ZERO s.secur.fuseZero
  let s := ((s.wr SEC_TAMPACT_SAFE s.secur.fuseSafe).wr SEC_STAT_DBGOPEN (if s.rd SEC_STAT_LC ≤ 1 ∨ s.rd SEC_STAT_LC = 3 then 1 else 0)).wr DBG_PORT_UNLOCKED 0
  let s := s.wr DBG_PORT_OPEN (s.rd SEC_STAT_DBGOPEN)
  if s.rd DBG_PORT_PROBE = 1 ∧ s.rd PWR_STAT_STBY = 1 then s else (debugReset s).wr DBG_PORT_POWER 0

/-- MODE_REQ_DORMANT (R455, R457, R472): a write of REQ 0.  [DEDUCED 44: notes/assumptions] -/
def reqDormant (s : State) : State :=
  if s.mode = DORMANT then
    (if s.modes.req.isSome then (stopClocks 0 s).endReq ST_MODE_STATE else s.endReq 0)
  else enterDormant false s

def execModeReqDormant (s : State) : Out := .next (reqDormant s)

/-! LOAD, HOLD and RUN on request (R455 to R464) -/

/-- A request begins. -/
def beginReq (n : Nat) (s : State) : State := { (s.wr GLB_MODE_BUSY 1) with modes := { s.modes with req := some n } }

/-- A write of REQ 1. -/
def reqLoad (s : State) : State :=
  if s.rd GLB_MODE_BUSY = 1 then s
  else if s.mode = DORMANT then tryStart (beginReq 1 s)
  else s.endReq (if s.mode = LOAD then 0 else ST_MODE_STATE)

def execModeReqLoad (s : State) : Out := .next (reqLoad s)

/-- The first whole microsecond of the timebase at least 2.00 µs ahead. -/
def nextMicro (s : State) : Nat := (s.clocks.tb + 2999) / 1000 * 1000

/-- A write of REQ 2 elsewhere than in SAFE. -/
def reqHold (s : State) : State :=
  if s.rd GLB_MODE_BUSY = 1 then s
  else if s.mode = RUN then
    let s := beginReq 2 s
    { s with modes := { s.modes with th := some (nextMicro s) } }
  else if s.mode = SAFE then { (beginReq 2 s) with asked := s.asked ++ [GLB_MODE_BUSY.adr] }
  else s.endReq (if s.mode = HOLD then 0 else if s.mode = SHIFT then ST_SHF_STATE else ST_MODE_STATE)

def execModeReqHold (s : State) : Out := .next (reqHold s)

/-- The checks of R463: 0 where they pass. -/
def runCheck (s : State) : Nat :=
  if s.rd SHF_STAT_STATE ≠ 0 then ST_SHF_STATE
  else if s.rd CFG_STAT_BADSEL = 1 then ST_CFG_BADSEL
  else if s.rd WLT_SVC_TEST = 1 then ST_WLT_MODE
  else if dieList.any fun d => (s.die d).used && atG0 s d then ST_GEAR_STATE else 0

/-- REQ 3 in HOLD: the checks, then trim freezes clear and the regions' locks are awaited. -/
def runBegin (auto : Bool) (s : State) : State :=
  let st := runCheck s
  if st ≠ 0 then s.endReq st
  else
    let s := clearFreeze (beginReq 3 s)
    { s with modes := { s.modes with lockWait := true, auto } }

/-- A write of REQ 3. -/
def reqRun (s : State) : State :=
  if s.rd GLB_MODE_BUSY = 1 then s
  else if s.mode = HOLD then runBegin false s
  else s.endReq (if s.mode = RUN then 0 else ST_MODE_STATE)

def execModeReqRun (s : State) : Out := .next (reqRun s)

/-- A write of GLB_MODE.REQ (R455). -/
def modeWrite (n : Nat) (s : State) : State :=
  match n with
  | 0 => reqDormant s
  | 1 => reqLoad s
  | 2 => reqHold s
  | 3 => reqRun s
  | _ => if s.rd GLB_MODE_BUSY = 1 then s else s.endReq ST_MODE_BADREQ

/-- Loaded regions of used dies. -/
def loadedRegions (s : State) : List (Nat × Nat) :=
  (dieList.filter fun d => (s.die d).used && s.dieUp d).flatMap fun d => (List.range 32).filterMap fun r =>
    if s.rdi FDC_RSTAT_LOADED (oReg d r) = 1 then some (d, r) else none

/-- Cores of the dies whose rails are up. -/
def upCores (s : State) : List Nat := (dieList.filter fun d => s.dieUp d).flatMap fun d => (List.range 32).map (rix d)

/-- MODE := RUN at T_s (R463 step 3, R220, R471). -/
def runStart (s : State) : State :=
  let s := lossEnd (s.toMode RUN 0)
  let s := { s with modes := { s.modes with safeNet := false } }
  let s := (loadedRegions s).foldl (fun s p => startNets p.1 p.2 s) s
  let s := (loadedRegions s).foldl (fun s p =>
    let c := rix p.1 p.2
    if awlState s c = awlRESET ∧ (s.core c).startFlag = true then startReset c s
    else if awlState s c = awlSTOPPED ∧ s.rdi AWL_STAT_MODESTOP (oAwl c) = 1 then resumeCore c s else s) s
  if s.modes.auto then clkEvent 6 15 0 0 s else s

/-- RUN_START_AT_TS (R463): every loaded region of every used die is locked; T_s is named, and reached. -/
def execRunStartAtTs (s : State) : Out :=
  if s.mode = HOLD ∧ s.modes.lockWait = true ∧ (loadedRegions s).all (fun p => s.rdi FDC_TRIMST_TRIMLOCK (oReg p.1 p.2) == 1) = true then
    .next (pump ((runStart (s.reach (nextMicro s))).endReq 0))
  else .next s

/-- Every core is STOPPED: a REQ 2 in RUN completes (R464). -/
def holdDone (s : State) : State :=
  if s.mode = HOLD ∧ s.modes.req = some 2 ∧ (s.cores.all fun p => p.2.stopping.isNone) = true then s.endReq 0 else s

/-- The design stops (R464): the safe net, the gates and the cores. -/
def stopDesign (s : State) : State :=
  let s := safePins s
  let s := (dieList.filter fun d => s.dieUp d).foldl (fun s d => (List.range 32).foldl (fun s r => stopRegion d r s) s) s
  let s := (upCores s).foldl (fun s c => stopCore true c s) s
  { s with modes := { s.modes with safeNet := true } }

/-- HOLD_AT_TH (R464): T_h is reached. -/
def execHoldAtTh (s : State) : Out :=
  match s.modes.th with
  | some t => if s.mode = RUN then .next (holdDone (stopDesign ((s.reach t).toMode HOLD 0))) else .next s
  | none => .next s

/-- MODE_REQ_COMPLETE_CORE_STOP (R221, R464): a core reaches its boundary with nothing outstanding. -/
def execModeReqCompleteCoreStop (d : Fin 12) (r : Fin 32) (s : State) : Out := .next (holdDone (stopCheck (rix d r) s))

/-! Acknowledgment (R469, R453) -/

/-- The acknowledgment: checks, retraining of Eyelets and of failed channels, and the change to normal service before HOLD. -/
def acknowledge (auto : Bool) (noclk : List Nat) (runs : List (Nat × Nat × Nat × Nat)) (s : State) : State :=
  let s := beginReq 2 { s with asked := s.asked.erase GLB_MODE_BUSY.adr, modes := { s.modes with auto } }
  let st := ackCheck s
  if st ≠ 0 then s.endReq st
  else
    let (s, ok) := s.modes.safeEyelets.foldl (fun (x : State × Bool) e =>
      let y := retrainEye noclk e x.1
      (y.1, x.2 && y.2)) (s, true)
    if ok = false then s.endReq ST_HW_EYE_TRAIN
    else
      let s := ((List.range 8).filter fun c => drcState s c == drcFAILED).foldl (fun s c => drcTrain runs c s) s
      if channelFailed s then s.endReq ST_HW_DRC_TRAIN
      else
        let s := { s with modes := { s.modes with safeEyelets := [] } }
        svcStart 3 (some HOLD) (dieList.foldl (fun s d => s.modDie d fun x => { x with hot := false }) s)

/-- SAFE_ACKNOWLEDGMENT: REQ 2 in SAFE (R469). -/
def execSafeAcknowledgment (noclk : List Nat) (runs : List (Nat × Nat × Nat × Nat)) (s : State) : Out :=
  if s.mode ≠ SAFE then .next (reqHold s)
  else if s.rd GLB_MODE_BUSY = 1 ∧ s.asked.contains GLB_MODE_BUSY.adr = false then .next s
  else .next (acknowledge false noclk runs s)

/-- MODE := HOLD after an acknowledgment (R469 step 5, R220); an automatic resume goes on to RUN (R453). -/
def safeToHold (s : State) : State :=
  let auto := s.modes.auto
  let s := (stopDesign (s.toMode HOLD 0)).endReq 0
  if auto then runBegin true (clkEvent 6 15 0 0 s) else s

/-- The module mode changes after the service (R175 step 6). -/
def afterService (s : State) : State :=
  if s.welt.after = some HOLD then
    let s := s.modWelt fun w => { w with after := none }
    if s.mode = LOAD then lossEnd (loadToHold s) else if s.mode = SAFE then safeToHold s else s
  else s

/-- SERVICE_MODE_CHANGE (R175): every outstanding request is complete, and the change of service is made. -/
def execServiceModeChange (s : State) : Out :=
  if s.welt.svcTo.isSome ∧ s.welt.out = [] then .next (afterService (svcFinish s)) else .next s

/-- SERVICE_CHANGE_DRAIN_TIMEOUT (R175 step 3): requests still outstanding at 10.0 µs are aborted, and the change is made. -/
def execServiceChangeDrainTimeout (s : State) : Out :=
  if s.welt.svcTo.isSome then .next (afterService (svcFinish (svcAbort s))) else .next s

/-- The conditions of R453 but for the wait. -/
def mayResume (s : State) : Bool :=
  s.rd CLK_CTL_AUTORES == 1 && s.mode == SAFE && s.modes.safeFrom == RUN && s.modes.shfIdleAtSafe && s.rd GLB_MODE_BUSY == 0 &&
    (s.modes.causes.all fun c => c == ST_HW_CLK_REF || c == ST_HW_CLK_PLL || c == ST_HW_CLK_REGION) && s.rd CLK_STAT_READY == 1 &&
    decide ((s.modes.resumes.filter fun t => s.clocks.elapsed < t + hourNs).length < s.rd CLK_CTL_AUTOMAX)

/-- AUTO_RESUME (R453): READY has been 1 for RESDLY ms. -/
def execAutoResume (noclk : List Nat) (runs : List (Nat × Nat × Nat × Nat)) (s : State) : Out :=
  if mayResume s then
    let s := s.reachElapsed ((s.modes.readySince.getD 0) + s.rd CLK_CTL_RESDLY * 1000000)
    if mayResume s then
      let s := { s with modes := { s.modes with resumes := (s.modes.resumes.filter fun t => s.clocks.elapsed < t + hourNs) ++ [s.clocks.elapsed] } }
      .next (acknowledge true noclk runs s)
    else .next s
  else .next s

/-! Clock failures (R448 to R452) -/

/-- REFERENCE_LOSS (R448, R451).  [DEDUCED 42: notes/assumptions] -/
def execReferenceLoss (s : State) : Out := if s.mode = DORMANT ∨ s.clocks.refOk = false then .next s else .next (refLoss s)

/-- PLL_UNLOCK (R448): a Last PLL, or a PLL of die `d`: general 0 to 7, Welt 8, Awl 9. -/
def execPllUnlock (last : Bool) (d : Fin 12) (n : Fin 10) (s : State) : Out :=
  if s.mode = DORMANT then .next s
  else if last then
    if 6 ≤ n.val then .next s
    else
      let w := clkWord 3 12 n ST_HW_CLK_PLL
      .next ((((notReady ST_HW_CLK_PLL s).push CLK_EVENT_VALID w).wr CLK_STAT_LOCK (s.rd CLK_STAT_LOCK - bit (s.rd CLK_STAT_LOCK) n * 2 ^ n.val)).fault
        ST_HW_CLK_PLL 12 s.allRegions [w])
  else if s.dieUp d = false then .next s
  else
    let w := clkWord 4 d n ST_HW_CLK_PLL
    let s := (notReady ST_HW_CLK_PLL s).push CLK_EVENT_VALID w
    let s := if n.val = 8 then s.wri CLK_PLLDIE_WELT (4 * d) 0 else if n.val = 9 then s.wri CLK_PLLDIE_AWL (4 * d) 0 else putBitI CLK_PLLDIE_GEN (4 * d) n false s
    .next (s.fault ST_HW_CLK_PLL d (s.dieRegions d) [w])

/-- REGION_CLOCK_FAILURE (R448). -/
def execRegionClockFailure (d : Fin 12) (r : Fin 32) (k : Fin 4) (s : State) : Out :=
  if bit (s.rdi FDC_RSTAT_CLKRUN (oReg d r)) k = 0 then .next s
  else
    let w := clkWord 5 d r ST_HW_CLK_REGION
    .next (((notReady ST_HW_CLK_REGION s).push CLK_EVENT_VALID w).fault ST_HW_CLK_REGION d (oneRegion d r) [w])

/-- SAFE_STABILITY_WINDOW (R452): a window ends in SAFE; `locks` says that every PLL is locked again. -/
def execSafeStabilityWindow (count : Nat) (locks : Bool) (s : State) : Out :=
  if s.mode ≠ SAFE ∨ s.rd CLK_STAT_READY = 1 then .next s
  else
    let s := showWindow count s
    let n := if winPasses (s.rd CLK_NVS_REFSRC) count then s.clocks.passed + 1 else 0
    let lost := !s.clocks.refOk
    let s := { s with clocks := { s.clocks with passed := n } }
    if 4 ≤ n ∧ locks = true then
      let s := (((s.wr CLK_STAT_READY 1).wr CLK_STAT_HOLDOVER 0).wr CLK_STAT_REFSTATE 2).wr CLK_STAT_LOCK 0x3F
      let s := (dieList.filter fun d => s.dieUp d).foldl (fun s d => ((s.wri CLK_PLLDIE_GEN (4 * d) 0xFF).wri CLK_PLLDIE_WELT (4 * d) 1).wri CLK_PLLDIE_AWL (4 * d) 1) s
      let s := { s with clocks := { s.clocks with refOk := true }, modes := { s.modes with readySince := some s.clocks.elapsed } }
      .next (lossCheck (if lost then clkEvent 2 15 0 0 s else s))
    else .next s

/-! Module time (R436, R437) -/

/-- The RTC takes a value and is valid. -/
def setRtc (ns : Nat) (s : State) : State := ({ s with clocks := { s.clocks with rtc := ns % (2 ^ 48 * 1000000000) } } : State).wr CLK_RTCSECH_VALID 1

/-- RTC_SYNC (R436). -/
def execRtcSync (s : State) : Out :=
  if s.rd CLK_CTL_RTCSYNC = 1 ∧ s.rd ETH_PTPSTAT_LOCKED = 1 ∧ s.clocks.tbRun = true then .next (setRtc s.clocks.tb s) else .next s

/-- A scheduled time is pending in the sense of R418: a changeover ARMED or COMMITTING, a capture, a Qbv change, an update. -/
def timePending (s : State) : Bool :=
  s.rd SHF_STAT_STATE == 5 || s.rd SHF_STAT_STATE == 6 || s.rd UPD_STAT_STATE == 4 || (s.rd DBG_CAPSTAT_PEND == 1) ||
    (dieList.any fun d => (List.range 32).any fun r => s.rdi FDC_RSTAT_CAPPEND (oReg d r) == 1) ||
    s.eth.gclPend != []

/-- CLK_TBCMD completes. -/
def tbDone (st : Nat) (s : State) : State := (s.wr CLK_TBCMD_STATUS st).wr CLK_TBCMD_BUSY 0

/-- A GO of CLK_TBCMD: no effect in DORMANT. -/
def tbGo (n : Nat) (f : State → State) (s : State) : State := if s.mode = DORMANT then s else onGo CLK_TBCMD_BUSY CLK_TBCMD_OP n f s

/-- TIMEBASE_STEP: CLK_TBCMD operation 1. -/
def tbStep (s : State) : State :=
  tbGo 1 (fun s =>
    if timePending s ∨ s.rd ETH_PTPCTL_EN = 1 then tbDone ST_CLK_PENDING s
    else
      tbDone 0 (clkEvent 7 15 0 0 { s with clocks := { s.clocks with tb := (s.clocks.tb + s.rd64 CLK_TBSTEPL_STEP CLK_TBSTEPH_STEP) % tbMod } })) s

def execTimebaseStep (s : State) : Out := .next (tbStep s)

/-- RTC_SET_FROM_REGISTERS: CLK_TBCMD operation 2. -/
def rtcFromRegs (s : State) : State :=
  tbGo 2 (fun s => tbDone 0 (clkEvent 8 15 0 0 (setRtc ((s.rd CLK_RTCSETL_SEC + s.rd CLK_RTCSETH_SEC % 2 ^ 16 * 2 ^ 32) * 1000000000) s))) s

def execRtcSetFromRegisters (s : State) : Out := .next (rtcFromRegs s)

/-- RTC_SET_FROM_TIMEBASE: CLK_TBCMD operation 3. -/
def rtcFromTb (s : State) : State := tbGo 3 (fun s => tbDone 0 (clkEvent 8 15 0 0 (setRtc s.clocks.tb s))) s

def execRtcSetFromTimebase (s : State) : Out := .next (rtcFromTb s)

/-! Reset-isolation gates (R478 to R480) -/

/-- One side of a crossing is in reset. -/
def crossReset (s : State) (kind d unit : Nat) : Bool :=
  match kind with
  | 1 => !s.dieUp d || awlState s (rix d unit) == awlRESET
  | 2 => s.pcie.perst || s.mode == DORMANT
  | 3 => !s.dieUp d
  | 4 => (eyeDies unit).any fun e => !s.dieUp e
  | 5 => szlState s unit == 0
  | 6 => drcState s unit != drcREADY
  | 7 => s.mode == DORMANT
  | 8 => s.mode == DORMANT || s.rd DBG_PORT_POWER == 0
  | _ => false

/-- Items that the state holds in a crossing, and the state without them. -/
def crossDrop (kind d unit : Nat) (s : State) : Nat × State :=
  match kind with
  | 1 =>
    let c := rix d unit
    let mine := s.welt.resps.filter fun x => x.to_ == coreEp c
    ((s.core c).wrq.length + (s.core c).msgq.length + mine.length,
      (s.modCore c fun k => { k with wrq := [], msgq := [] }).modWelt fun w => { w with resps := w.resps.filter fun x => x.to_ != coreEp c })
  | 2 => (s.pcie.writes.length + s.pcie.reads.length, s.modPcie fun p => { p with writes := [], reads := [] })
  | 5 => ((s.bundle unit).txq.length + (s.bundle unit).part.length, s.modBundle unit fun b => { b with txq := [], part := [] })
  | _ => (0, s)

/-- RESET_ISOLATION_CLAMP (R478): the gate of a crossing clamps and discards what it holds and `extra` items more that it holds in part;
one GLB_XEVENT entry. -/
def execResetIsolationClamp (kind : Fin 9) (d : Fin 16) (unit : Nat) (extra : Nat) (s : State) : Out :=
  let id := (kind.val, d.val, unit)
  if kind.val = 0 ∨ 64 ≤ unit ∨ s.modes.clamped.contains id = true ∨ crossReset s kind d unit = false then .next s
  else
    let x := crossDrop kind d unit s
    let s := { x.2 with modes := { x.2.modes with clamped := x.2.modes.clamped ++ [id] } }
    .next (s.push GLB_XEVENT_VALID (evWord kind d (unit * 2 ^ 16 + min 0xFFFF (x.1 + extra))))

/-- RESET_ISOLATION_RELEASE (R480): both sides are out of reset. -/
def execResetIsolationRelease (kind : Fin 9) (d : Fin 16) (unit : Nat) (s : State) : Out :=
  if crossReset s kind d unit then .next s
  else .next (pump { s with modes := { s.modes with clamped := s.modes.clamped.erase (kind.val, d.val, unit) } })

end Sys2Proof.Machine
end

