-- ==== Sys2Proof/Machine/Health.lean ====
section
/-! DEFINITION. Black box, health and availability (spec/23_black_box_and_health.md). -/

namespace Sys2Proof.Machine

open Sys2Proof

/-! The record as bytes (R582) -/

def recFlags (r : Record) : Nat := r.sev % 8 + 8 * (r.mode % 8) + 64 * r.tb.toNat + 128 * r.late.toNat

/-- Bytes 0 to 59. -/
def recBody (r : Record) : List Nat :=
  numBytes 8 r.time ++ numBytes 4 r.seq ++ numBytes 2 r.code ++ [r.source % 256, recFlags r, r.temp % 256, 0] ++ numBytes 2 r.holdup ++
    numBytes 4 r.start ++ [0, 0, 0, 0] ++ (List.range 8).flatMap fun k => numBytes 4 (r.payload.getD k 0)

/-- The little-endian number of bytes. -/
def ofBytes (l : List Nat) : Nat := l.foldr (fun b n => b + 256 * n) 0

/-- The 64 bytes of a record, its CRC computed as it is programmed. -/
def recBytes (r : Record) : List Nat := recBody r ++ numBytes 4 (crc32 480 (ofBytes (recBody r)))

/-! The ring (R581, R584, R586, R588) -/

def ringPlaces : Nat := 65536

/-- The next sector after `k` that is not skipped. -/
def nextSector (skipped : List Nat) : (fuel k : Nat) → Nat
  | 0, k => (k + 1) % 1024
  | n + 1, k => if skipped.contains ((k + 1) % 1024) then nextSector skipped n ((k + 1) % 1024) else (k + 1) % 1024

/-- The place after `p`. -/
def nextPlace (b : BlackBox) (p : Nat) : Nat := if p % 64 = 63 then 64 * nextSector b.skipped 1023 (p / 64) else p + 1

/-- A sector is erased: its records are lost. -/
def eraseSector (k : Nat) (b : BlackBox) : BlackBox := { b with ring := b.ring.filter fun p => p.1 / 64 != k }

/-- The write position enters the sector of `p`: the sector after it is erased; one that fails its erase is skipped for good, and the next
is erased. -/
def enterSector (ok : Bool) (p : Nat) (s : State) : State :=
  if p % 64 ≠ 0 then s
  else
    let k := nextSector s.bbx.skipped 1023 (p / 64)
    let s := { s with bbx := eraseSector k s.bbx }
    if ok then s
    else
      let s := { (s.inci BBX_STAT_SKIPPED 0) with bbx := { s.bbx with skipped := s.bbx.skipped ++ [k] } }
      { s with bbx := eraseSector (nextSector s.bbx.skipped 1023 k) s.bbx }

/-- A record is programmed at the write position, which moves on; `ok` says whether it reads back as written.  [DEDUCED 19: notes/assumptions] -/
def putRecord (r : Record) (ok eraseOk : Bool) (s : State) : State :=
  let p := s.bbx.place
  let s := enterSector eraseOk p s
  { s with bbx := { s.bbx with ring := tabIns p (r, ok) (tabErase s.bbx.ring p), place := nextPlace s.bbx p } }

/-- BBX_TAIL shows the oldest SEQ that the ring holds.  [DEDUCED 51: notes/assumptions] -/
def showTail (s : State) : State :=
  match (s.bbx.ring.filter fun p => p.2.2).map fun p => p.2.1.seq with
  | [] => s.wr BBX_TAIL_SEQ (s.rd BBX_HEAD_SEQ)
  | x :: t => s.wr BBX_TAIL_SEQ (t.foldl min x)

/-- BLACK_BOX_RECORD_PROGRAM (R584, R588): the oldest pending record is programmed and read back, and once more in the next place where the
first fails; records dropped are reported once there is space (R586).  [DEDUCED 19, 51: notes/assumptions] -/
def execBlackBoxRecordProgram (ok1 ok2 eraseOk : Bool) (s : State) : Out :=
  match s.bbx.pend with
  | [] => .next s
  | r :: t =>
    if s.rd PWR_STAT_NVINH = 1 ∨ s.mode = DORMANT then .next s
    else
      let s := putRecord r ok1 eraseOk { s with bbx := { s.bbx with pend := t } }
      let s := if ok1 then s else putRecord r ok2 eraseOk s
      let s := s.wr BBX_STAT_FAULT (if ok1 ∨ ok2 then 0 else 1)
      let s := showTail (s.wr BBX_HEAD_SEQ ((r.seq + 1) % 2 ^ 32))
      if s.bbx.lost = 0 ∨ pendCap - pendKept ≤ s.bbx.pend.length then .next s
      else .next ({ s with bbx := { s.bbx with lost := 0 } }.record 0x0012 14 3 [s.bbx.lost])

/-- RATE_LIMIT_SECOND_END (R585): the second ends, and each pair with suppressed records is summarised. -/
def execRateLimitSecondEnd (s : State) : Out :=
  let s := s.pass (1000000000 - (if s.clocks.tbRun then s.clocks.tb else s.clocks.rtc) % 1000000000)
  let l := s.bbx.rate
  .next ((l.filter fun c => c.held != 0).foldl (fun s c => s.record 0x0011 c.source 2 [c.code + c.source * 2 ^ 16, c.held]) { s with bbx := { s.bbx with rate := [] } })

/-! BBX_CMD (R590) -/

/-- BBX_CMD completes. -/
def bbxDone (st : Nat) (s : State) : State := (s.wr BBX_CMD_STATUS st).wr BBX_CMD_BUSY 0

/-- A GO of BBX_CMD: the block is not served in DORMANT. -/
def bbxGo (n : Nat) (f : State → State) (s : State) : State := if s.mode = DORMANT then s else onGo BBX_CMD_BUSY BBX_CMD_OP n f s

/-- Bytes `off` to `off + n` of the Last store lie in segments 4 to 63. -/
def inSegs (off n : Nat) : Bool := decide (4 * 0x80000 ≤ off) && decide (off + n ≤ 0x2000000)

/-- The record of a SEQ that the ring holds, with whether its CRC is right.  [DEDUCED 51: notes/assumptions] -/
def ringFind (s : State) (seq : Nat) : Option (Record × Bool) :=
  match s.bbx.ring.find? fun p => p.2.1.seq == seq && p.2.2 with
  | some p => some p.2
  | none => (s.bbx.ring.find? fun p => p.2.1.seq == seq).map Prod.snd

/-- The 64 bytes that a read of a SEQ gives: zeros where absent, and open where it does not read as written. -/
def ringBytes (seq : Nat) (s : State) : List Nat × State :=
  match ringFind s seq with
  | none => (List.replicate 64 0, s)
  | some (r, true) => (recBytes r, s)
  | some (_, false) => let x := freeWide 8 s; (numBytes 64 x.1, x.2)

/-- BBX_COPY: operation 1.  [DESIGN CHOICE 11; DEDUCED 51: notes/assumptions] -/
def bbxCopy (s : State) : State :=
  bbxGo 1 (fun s =>
    let seq := s.rd BBX_ARG0_VALUE
    let n := s.rd BBX_ARG1_VALUE
    let off := s.rd BBX_ARG2_VALUE
    if n = 0 ∨ 65536 < n ∨ off % 64 ≠ 0 ∨ inSegs off (64 * n) = false then bbxDone ST_BBX_BADCMD s
    else bbxDone 0 ((List.range n).foldl (fun s k => let x := ringBytes ((seq + k) % 2 ^ 32) s; dmaWrite (lastBase + off + 64 * k) x.1 x.2) s)) s

def execBbxCopy (s : State) : Out := .next (bbxCopy s)

/-- BBX_HOST_RECORD: operation 2. -/
def bbxHostRecord (s : State) : State :=
  bbxGo 2 (fun s =>
    let c := s.rd BBX_ARG0_VALUE % 256
    let off := s.rd BBX_ARG2_VALUE
    if c < 0xF0 ∨ inSegs off 32 = false then bbxDone ST_BBX_BADCMD s
    else bbxDone 0 (s.record c 16 0 ((List.range 8).map fun k => s.rdMem 4 (lastBase + off + 4 * k)))) s

def execBbxHostRecord (s : State) : Out := .next (bbxHostRecord s)

/-- Payload of the record of a module start (R583 code 0x0001). -/
def startPayload (s : State) : List Nat :=
  [s.bbx.start, (List.range 4).foldl (fun m k => m + nvsGet s k * 2 ^ (8 * k)) 0, nvsGet s 4 + nvsGet s 5 * 256]

/-- BBX_ERASE: operation 3. -/
def bbxErase (s : State) : State :=
  bbxGo 3 (fun s =>
    if s.mode ≠ HOLD then bbxDone ST_BBX_STATE s
    else if s.rd SEC_STAT_LC ≠ 1 ∧ s.rd SEC_STAT_LC ≠ 3 then bbxDone ST_REFUSED_LIFECYCLE s
    else if s.rd PWR_STAT_NVINH = 1 then bbxDone ST_CFG_NVINH s
    else bbxDone 0 ((showTail { s with bbx := { s.bbx with ring := [] } }).record 0x0001 12 1 (startPayload s))) s

def execBbxErase (s : State) : Out := .next (bbxErase s)

/-! Temperatures (R591, R593, R596) -/

/-- One die's reading: HOT, MAX and REGION, the counts of successive readings, the warning state with its record, and STATE.  [DEDUCED 49: notes/assumptions] -/
def readTemp (d : Nat) (t : BitVec 8) (r : Nat) (s : State) : State :=
  let x := tabGet {} s.hlt.dies d
  let v := sgn8 t.toNat
  let lim : Int := s.rd HLT_TPOL_TLIM
  let wrn : Int := s.rd HLT_TPOL_TWARN
  let hy : Int := s.rd HLT_TPOL_HYST
  let cnt := fun (b : Bool) (n : Nat) => if b then min 10 (n + 1) else 0
  let y : Therm := { up := cnt (decide (lim < v)) x.up, warm := cnt (decide (wrn < v)) x.warm
                     cool := cnt (decide (v < wrn - hy)) x.cool, low := cnt (decide (v < lim - hy)) x.low, warn := x.warn }
  let y := { y with warn := if y.warm = 10 then true else if y.cool = 10 then false else y.warn }
  let s := (s.wri HLT_TEMP_HOT (4 * d) t.toNat).wri HLT_TEMP_REGION (4 * d) r
  let s := if sgn8 (s.rdi HLT_TEMP_MAX (4 * d)) < v then s.wri HLT_TEMP_MAX (4 * d) t.toNat else s
  let s := { s with hlt := { s.hlt with dies := tabSet {} s.hlt.dies d y } }
  let s := s.wri HLT_TEMP_STATE (4 * d) (if 115 < v then 3 else if y.up = 10 then 2 else if y.warn then 1 else 0)
  if y.warn = x.warn then s else s.record 0x000E d 2 [d + r * 2 ^ 8 + t.toNat * 2 ^ 16]

/-- A die exceeds TLIM, and a die has stayed below TLIM − HYST for ten readings. -/
def tempExceeds (s : State) (d : Nat) : Bool := (tabGet {} s.hlt.dies d).up == 10
def tempLow (s : State) (d : Nat) : Bool := (tabGet {} s.hlt.dies d).low == 10

/-- A group's first lowering when a die comes to exceed TLIM, and the delay before a raise. -/
def groupTemp (s0 : State) (g : Nat) (s : State) : State :=
  let ds := groupDies s g
  let s := if ds.all (tempLow s) then s.modPol g fun p => { p with raiseAt := some (p.raiseAt.getD s.clocks.elapsed) } else s.modPol g fun p => { p with raiseAt := none }
  match ds.find? fun d => tempExceeds s d with
  | some d => if s.rd HLT_CTL_AUTOGEAR = 1 ∧ (ds.any fun e => tempExceeds s0 e) = false then polLower g causeTemp d s else s
  | none => s

/-- TEMPERATURE_READING (R591): every sensor is read; `temps` gives the hottest of each die with its region. -/
def execTemperatureReading (temps : List (Nat × BitVec 8 × Fin 32)) (last : BitVec 8) (s : State) : Out :=
  if s.mode = DORMANT then .next s
  else
    let s0 := s
    let s := (temps.filter fun x => x.1 < 12 && s.dieUp x.1).foldl (fun s x => readTemp x.1 x.2.1 x.2.2 s) (s.wr HLT_TLAST_HOT last.toNat)
    .next (lossCheck ((liveGroups s).foldl (fun s g => groupTemp s0 g s) s))

/-- Causes that still ask for a lowering of a group: a die exceeds TLIM, or the supply is hot. -/
def lowerCause (s : State) (g : Nat) : Option (Nat × Nat) :=
  match (groupDies s g).find? fun d => tempExceeds s d with
  | some d => some (causeTemp, d)
  | none => if s.rd PWR_STAT_PSUHOT = 1 ∧ s.rd HLT_CTL_PSUGEAR = 1 then some (causePsu, 13) else none

/-- The highest limit that the policy may set.  [DEDUCED 49: notes/assumptions] -/
def polTop (s : State) (g : Nat) : Nat := if fanHolds s then min (polHost s g) (fanLim s) else polHost s g

/-- GEAR_POLICY_STEP (R593, R595): STEP after its last lowering the policy lowers a group again while a cause holds; HLT_RAISE.SEC after
every die is cool it raises the limit by one gear. -/
def execGearPolicyStep (g : Fin 12) (s : State) : Out :=
  if s.mode = DORMANT ∨ s.rd HLT_CTL_AUTOGEAR = 0 ∨ (groupDies s g).isEmpty = true then .next s
  else match lowerCause s g with
    | some (c, src) => .next (polLower g c src (s.reachElapsed ((s.pol g).lowAt + max 1 (s.rd HLT_TPOL_STEP) * 10000000)))
    | none =>
      match (s.pol g).raiseAt with
      | none => .next s
      | some t =>
        if s.rdi HLT_GSTAT_ACT (4 * g) = 0 ∨ polTop s g ≤ polLimit s g then .next s
        else
          let s := s.reachElapsed (t + max 1 (s.rd HLT_RAISE_SEC) * 1000000000)
          .next ((polSet g (polLimit s g + 1) (s.rdi HLT_GSTAT_CAUSE (4 * g)) 12 s).modPol g fun p => { p with raiseAt := some s.clocks.elapsed })

/-- DIE_OVERTEMP (R596): a die above 115 °C, or with `off` above 125 °C. -/
def execDieOvertemp (d : Fin 12) (off : Bool) (s : State) : Out :=
  if s.dieUp d = false ∨ s.mode = DORMANT then .next s
  else
    let s := (s.modDie d fun x => { x with hot := true }).wri HLT_TEMP_STATE (4 * d.val) 3
    let s := s.fault ST_HW_HLT_TEMP d (s.dieRegions d) []
    .next (if off then dieOff d ST_HW_HLT_TEMP s else s)

/-- AVAILABILITY_CHECKPOINT (R597): the hourly record. -/
def execAvailabilityCheckpoint (s : State) : Out :=
  if s.mode = DORMANT then .next s else .next (s.record 0x0010 12 0 [s.rd HLT_AVSEC_SEC, s.rd HLT_AVLOSS_MS, s.rd HLT_AVEVT_EVT])

end Sys2Proof.Machine
end

