-- ==== Sys2Proof/Machine/Power.lean ====
section
/-! DEFINITION. The supply, stored energy, die regulators and the coin cell (spec/19_module_power_entry.md, R475, R595). -/

namespace Sys2Proof.Machine

open Sys2Proof

/-- Fields of instance `off` of a register as its word. -/
def State.pack (s : State) (off : Nat) (fs : List Fld) : Nat := fs.foldl (fun n f => n + s.rdi f off * 2 ^ f.lo) 0

def wInput (s : State) : Nat := s.pack 0 [PWR_INPUT_VRMS, PWR_INPUT_FREQ, PWR_INPUT_PIN]
def wBulk (s : State) : Nat := s.pack 0 [PWR_BULK_VBULK, PWR_BULK_CAP]
def wHoldup (s : State) : Nat := s.pack 0 [PWR_HOLDUP_EUSE, PWR_HOLDUP_H]
def wLoad (s : State) : Nat := s.pack 0 [PWR_LOAD_POUT, PWR_LOAD_TPSU]
def wShfStat (s : State) : Nat := s.pack 0 [SHF_STAT_RELAUTO, SHF_STAT_KIND, SHF_STAT_STATE]
def wUpdStat (s : State) : Nat := s.pack 0 [UPD_STAT_STATE, UPD_STAT_STEP, UPD_STAT_NSTEP, UPD_STAT_REVOK, UPD_STAT_MOTION, UPD_STAT_HOLDS, UPD_STAT_SLIP]
def wSafe (s : State) : Nat := s.pack 0 [GLB_SAFE_FIRST, GLB_SAFE_COUNT]

/-- PWR_EVENT. -/
def pwrEvent (kind die st : Nat) (s : State) : State := s.push PWR_EVENT_VALID (evWord kind die st)

def State.modPower (s : State) (f : Power → Power) : State := { s with power := f s.power }

/-! Mains (R492, R495, R496) -/

/-- Mains is judged lost: the last-gasp record carries PWR_INPUT of the last good half-cycle. -/
def mainsLost (ov : Bool) (s : State) : State :=
  if s.rd PWR_STAT_MAINS = 0 then s
  else
    let gasp := [wInput s, wBulk s, wLoad s, wShfStat s, wUpdStat s, wSafe s, s.rd HLT_AVLOSS_MS, s.rd HLT_AVEVT_EVT]
    let s := ((s.wr PWR_STAT_MAINS 0).wr PWR_STAT_MLOST 1).wr PWR_INPUT_FREQ 0
    let s := pwrEvent 1 15 0 s
    let s := if ov then pwrEvent 11 15 0 (s.wr PWR_STAT_OV 1) else s
    gearMainsLost (s.record 0x0003 13 5 gasp)

/-- MAINS_LOST: with `ov` by the over-voltage stop. -/
def execMainsLost (ov : Bool) (s : State) : Out := .next (mainsLost ov s)

/-- Mains is back: a target held above the gear in force is taken. -/
def mainsBack (s : State) : State :=
  if s.rd PWR_STAT_MAINS = 1 then s
  else gearNextAll ((pwrEvent 2 15 0 ((s.wr PWR_STAT_MAINS 1).wr PWR_STAT_OV 0)).record 0x0004 13 1 [wInput s, wBulk s])

/-- MAINS_RESTORED: the power-factor stage must not stand stopped (R500). -/
def execMainsRestored (s : State) : Out := .next (if s.power.stopped = 0 then mainsBack s else s)

/-! Hold-up (R491, R493) -/

/-- 2,000 times the usable energy in mJ, and the load that counts in 0.1 W.  [DEDUCED 52: notes/assumptions] -/
def energy2000 (cap v : Nat) : Nat := if v ≤ 280 then 0 else cap * (v * v - 280 * 280)
def loadOf (p : Nat) : Nat := max p 1500

/-- H lies below `n` tenths of a millisecond.  [DEDUCED 52: notes/assumptions] -/
def holdupBelow (cap v p n : Nat) : Bool := decide (94 * energy2000 cap v < n * 2000 * loadOf p)

/-- The measurements of the supply controller reach the registers.  [DEDUCED 52: notes/assumptions] -/
def showMeas (m : Meas) (s : State) : State :=
  let cap := s.rd PWR_BULK_CAP
  let e := energy2000 cap m.vbulk
  let s := ((s.wr PWR_INPUT_VRMS (min 511 m.vrms)).wr PWR_INPUT_FREQ (if s.rd PWR_STAT_MAINS = 1 then min 127 m.freq else 0)).wr PWR_INPUT_PIN (min 65535 m.pin)
  let s := (s.wr PWR_STAT_OV (decide (275 < m.vrms)).toNat).wr PWR_BULK_VBULK (min 1023 m.vbulk)
  let s := (s.wr PWR_HOLDUP_EUSE (min 65535 (e / 2000))).wr PWR_HOLDUP_H (min 65535 ((94 * e + 1000 * loadOf m.pout) / (2000 * loadOf m.pout)))
  let s := ((s.wr PWR_LOAD_POUT (min 65535 m.pout)).wr PWR_LOAD_TPSU m.tpsu.toNat).wr PWR_STAT_PSUHOT (if sgn8 m.tpsu.toNat ≤ 95 then 0 else s.rd PWR_STAT_PSUHOT)
  let s := (s.wr PWR_COOL_TIN m.tin.toNat).wr PWR_COOL_TOUT m.tout.toNat
  let s := if s.rd GLB_MODID_CODE = 3 then
      [0, 1].foldl (fun s f =>
        let n := m.rpm.getD f 0
        let s := s.wri PWR_FAN_RPM (4 * f) (min 65535 n)
        if 1000 ≤ n then s.wri PWR_FAN_FAIL (4 * f) 0 else s) s
    else s
  (m.rails.filter fun x => x.1 < 12).foldl (fun s x => (s.wri PWR_DIERAIL_AMPS (4 * x.1) (min 4095 x.2.1)).wri PWR_DIERAIL_VMV (4 * x.1) (min 4095 x.2.2)) s

/-- Records that waited when a start clears NVINH are late (R584). -/
def markLate (s : State) : State :=
  if s.power.starting then
    ({ s with bbx := { s.bbx with pend := s.bbx.pend.map fun r => { r with late := true } } } : State).modPower fun p => { p with starting := false }
  else s

/-- The three thresholds on H, once the main output is in regulation.  [DEDUCED 52: notes/assumptions] -/
def thresholds (m : Meas) (s : State) : State :=
  let low := fun (n : Nat) => holdupBelow (s.rd PWR_BULK_CAP) m.vbulk m.pout n
  let s := s.modPower fun p => { p with under := low 30 }
  let s := if s.rd PWR_STAT_WARN = 0 ∧ low 120 = true then (pwrEvent 3 15 0 (s.wr PWR_STAT_WARN 1)).record 0x0005 13 2 [wHoldup s, wLoad s]
    else if s.rd PWR_STAT_WARN = 1 ∧ low 130 = false then s.wr PWR_STAT_WARN 0 else s
  if s.rd PWR_STAT_NVINH = 0 ∧ low 80 = true then pwrEvent 4 15 0 (s.wr PWR_STAT_NVINH 1)
  else if s.rd PWR_STAT_NVINH = 1 ∧ low 90 = false then tryStart (markLate (pwrEvent 5 15 0 (s.wr PWR_STAT_NVINH 0)))
  else s

/-- HOLDUP_TEST. -/
def execHoldupTest (m : Meas) (s : State) : Out :=
  let s := showMeas m s
  .next (if s.rd PWR_STAT_MAIN = 1 then thresholds m s else s)

/-! Loss of power and start (R497 to R499) -/

/-- A request to leave DORMANT that is in progress ends without a completion, and no status is stored for it (R457). -/
def powerEndsReq (s : State) : State :=
  { (s.wr GLB_MODE_BUSY 0).wr CFG_CMD_BUSY 0 with
    modes := { s.modes with req := none, held := false }
    cfg := { s.cfg with pendLoad := none } }

/-- POWER_LOSS_DORMANT (R497): H has been found below 3.0 ms.  A stop of the stage for overload is a counted loss (R597, R598). -/
def execPowerLossDormant (s : State) : Out :=
  if s.rd PWR_STAT_MAIN = 0 ∨ s.power.under = false then .next s
  else
    let s := if s.mode = DORMANT then s
      else
        let m := s.rd PWR_STAT_MAINS
        enterDormant true (if s.power.stopped = 2 then (lossBegin 0 (s.wr PWR_STAT_MAINS 1)).wr PWR_STAT_MAINS m else s)
    let s := powerEndsReq (if s.clocks.start.isSome then stopClocks 0 s else s)
    .next (((s.wr PWR_STAT_MAIN 0).wr PWR_STAT_NVINH 1).modPower fun p => { p with under := false, bad := [], bootDue := false, offAt := some s.clocks.elapsed })

/-- The always-on reset (R475): registers of the always-on domain, the RTC, the SRAM and the tamper state; SEQ goes on from what the ring
holds.  [DEDUCED 45: notes/assumptions] -/
def alwaysOnReset (s : State) : State :=
  let gone := fun (k : Nat) =>
    let a := k / 32
    (0x10000 ≤ a && a < 0x10400) || a == SBP_LINK_RATE.adr || a == SBP_RXERR_COUNT.adr || a == SEC_TAMPER_LATCH.adr || a == SEC_TAMPRAW_RAW.adr || a == CLK_RTCSECH_VALID.adr
  let seqs := (s.bbx.ring.filter fun p => p.2.2).map fun p => p.2.1.seq + 1
  { s with
    regs := s.regs.filter fun p => !gone p.1
    evq := s.evq.filter fun p => !(0x10000 ≤ p.1 && p.1 < 0x10400)
    bbx := { seq := seqs.foldl max 0, ring := s.bbx.ring, place := s.bbx.place, skipped := s.bbx.skipped }
    clocks := { s.clocks with rtc := 0 }, power := {}, secur := { s.secur with eraseWait := false } }

/-- The cell service window closes (R534). -/
def batClose (s : State) : State := (s.wr SEC_BATSVC_OPEN 0).wr SEC_BATSVC_REMAIN 0

/-- STANDBY_OUTPUT_STOP (R497 step 5, R534, R504): the always-on domain goes to the coin cell, and is reset where there is none. -/
def execStandbyOutputStop (s : State) : Out :=
  if s.rd PWR_STAT_STBY = 0 ∨ s.rd PWR_STAT_MAIN = 1 then .next s
  else
    let absent := s.rd PWR_STAT_BATABS
    let s := (debugReset (batClose (s.wr PWR_STAT_STBY 0))).wr DBG_PORT_POWER 0
    .next (if absent = 1 then (alwaysOnReset s).wr PWR_STAT_BATABS 1 else s)

/-- SUPPLY_START (R498, R499, R491): the outputs come up, with the capacitance measured, and the auto-boot decision is due.  [DESIGN CHOICE 18: notes/assumptions] -/
def execSupplyStart (cap : Nat) (s : State) : Out :=
  if s.rd PWR_STAT_MAIN = 1 ∨ s.power.stopped ≠ 0 then .next s
  else
    let s := match s.power.offAt with
      | some t => s.reachElapsed (t + 200000000)
      | none => s
    let s := mainsBack s
    let s := (((s.wr PWR_STAT_STBY 1).wr PWR_STAT_MAIN 1).wr PWR_STAT_NVINH 1).wr PWR_BULK_CAP (min 1023 cap)
    .next (s.modPower fun p => { p with starting := true, bootDue := true, offAt := none })

/-- SUPPLY_START_FAILURE (R499): the record waits in the always-on SRAM. -/
def execSupplyStartFailure (s : State) : Out := if s.rd PWR_STAT_MAIN = 1 then .next s else .next (s.recordSt ST_HW_PWR_START 14 [])

/-! Protection of the supply (R500) -/

/-- The power-factor stage stops, and mains is reported lost. -/
def stageStop (why : Nat) (s : State) : State := mainsLost false (s.modPower fun p => { p with stopped := why })

/-- SUPPLY_OVERTEMP: above 95 °C, or with `stop` above 110 °C. -/
def execSupplyOvertemp (stop : Bool) (s : State) : Out :=
  let s := if s.rd PWR_STAT_PSUHOT = 1 then s
    else
      let s := pwrEvent 7 15 0 (s.wr PWR_STAT_PSUHOT 1)
      if s.rd HLT_CTL_PSUGEAR = 1 then polLowerAll causePsu s else s
  .next (if stop then stageStop 1 s else s)

/-- SUPPLY_OVERLOAD: above 500 W for 10.0 ms. -/
def execSupplyOverload (s : State) : Out := if s.rd PWR_STAT_MAIN = 0 then .next s else .next (stageStop 2 s)

/-- SUPPLY_STAGE_RESTART. -/
def execSupplyStageRestart (s : State) : Out :=
  if s.power.stopped = 0 then .next s else .next (mainsBack (s.modPower fun p => { p with stopped := 0 }))

/-! Die regulators and rails (R501 to R503) -/

/-- DIE_OVERCURRENT: the regulator switches the rail off. -/
def execDieOvercurrent (d : Fin 12) (s : State) : Out :=
  if s.dieUp d = false then .next s
  else
    let w := evWord 8 d ST_HW_PWR_OCP
    .next (dieOff d ST_HW_PWR_OCP ((s.push PWR_EVENT_VALID w).fault ST_HW_PWR_OCP d (s.dieRegions d) [w]))

/-- REGULATOR_LINK_LOST: the rail holds its setpoint. -/
def execRegulatorLinkLost (d : Fin 12) (s : State) : Out :=
  if s.dieUp d = false ∨ (s.die d).link = false then .next s
  else
    let w := evWord 8 d ST_HW_PWR_BUS
    .next (((s.modDie d fun x => { x with link := false }).push PWR_EVENT_VALID w).fault ST_HW_PWR_BUS d (s.dieRegions d) [w])

/-- REGULATOR_LINK_RESTORED. -/
def execRegulatorLinkRestored (d : Fin 12) (s : State) : Out := .next (lossCheck (s.modDie d fun x => { x with link := true }))

/-- RAIL_FAULT (R503): 0 the Welt rail and 1 the I/O auxiliary rail of die `d`, 2 the Last core rail, 3 DRAM VDD and VDDQ, 4 DRAM VPP. -/
def execRailFault (rail : Fin 5) (d : Fin 12) (s : State) : Out :=
  let die := if rail.val < 2 then d.val else 12
  let id := rail.val * 16 + (if rail.val < 2 then d.val else 0)
  if s.mode = DORMANT ∨ (rail.val < 2 ∧ s.dieUp d = false) ∨ s.power.bad.contains id = true then .next s
  else
    let w := evWord 9 die ST_HW_PWR_RAIL
    let s := (s.modPower fun p => { p with bad := p.bad ++ [id] }).push PWR_EVENT_VALID w
    .next (s.fault ST_HW_PWR_RAIL die (if rail.val < 2 then s.dieRegions d else s.allRegions) [w])

/-- RAIL_BACK_IN_BAND: a rail of RAIL_FAULT, or with 5 the core rail of die `d` (R447). -/
def execRailBackInBand (rail : Fin 6) (d : Fin 12) (s : State) : Out :=
  if rail.val = 5 then .next (lossCheck (s.modDie d fun x => { x with railOk := true }))
  else .next (lossCheck (s.modPower fun p => { p with bad := p.bad.erase (rail.val * 16 + (if rail.val < 2 then d.val else 0)) }))

/-! The coin cell (R504) -/

/-- COIN_CELL_MEASURE: BATLOW, and its event when it rises. -/
def execCoinCellMeasure (mv : Nat) (s : State) : Out :=
  let was := s.rd PWR_STAT_BATLOW
  let s := ((s.wr PWR_BATT_VBAT (min 4095 mv)).wr PWR_BATT_AGE 0).wr PWR_STAT_BATLOW (decide (mv < 2700)).toNat
  let s := s.modPower fun p => { p with battAt := s.clocks.elapsed }
  .next (if was = 0 ∧ mv < 2700 then pwrEvent 6 15 0 s else s)

/-- SEC_EVENT with its black-box record where it has one. -/
def secEvent (kind st : Nat) (s : State) : State := s.push SEC_EVENT_VALID (kind * 2 ^ 26 + st)

/-- COIN_CELL_PRESENCE_CHANGE (R504, R531, R534): during a cell service window it writes KIND 10; outside one the removed cell shows in
SEC_TAMPRAW, and with no standby output the always-on domain is reset.  [DEDUCED 53: notes/assumptions] -/
def execCoinCellPresenceChange (present : Bool) (s : State) : Out :=
  let now := if present then 0 else 1
  if s.rd PWR_STAT_BATABS = now then .next s
  else
    let s := s.wr PWR_STAT_BATABS now
    let win := s.rd SEC_BATSVC_OPEN
    let s := if win = 1 then secEvent 10 0 s else s
    let s := putBit SEC_TAMPRAW_RAW 4 (!present && win == 0) s
    .next (if present = false ∧ s.rd PWR_STAT_STBY = 0 then (alwaysOnReset s).wr PWR_STAT_BATABS 1 else s)

/-- FAN_FAILURE (R595): an MA module has fans.  [DEDUCED 49: notes/assumptions] -/
def execFanFailure (f : Fin 2) (rpm : Nat) (s : State) : Out :=
  if s.rd GLB_MODID_CODE ≠ 3 ∨ 1000 ≤ rpm then .next s
  else
    let was := s.rdi PWR_FAN_FAIL (4 * f)
    let s := (s.wri PWR_FAN_RPM (4 * f) rpm).wri PWR_FAN_FAIL (4 * f) 1
    .next (if was = 1 then s else fanPolicy (pwrEvent 10 15 0 s))

end Sys2Proof.Machine
end

