-- ==== Sys2Proof/Machine/Sazor.lean ====
section
/-! DEFINITION. Sazor lanes: training, the link layer, bridge traffic, streams, power states and tests (spec/15_sazor_lanes.md). -/

namespace Sys2Proof.Machine

open Sys2Proof

/-- SZL_EVENT. -/
def szlEvent (kind b st : Nat) (s : State) : State := s.push SZL_EVENT_VALID (kind * 2 ^ 26 + b * 2 ^ 23 + st)

def setSzl (b v : Nat) (s : State) : State := s.wri SZL_BSTAT_STATE (oBun b) v

/-- The bundle is in service. -/
def szlUp (s : State) (b : Nat) : Bool := szlState s b == 3 || szlState s b == 4

/-- The stream map in force. -/
def szlMap (s : State) (b : Nat) : StreamMap := if s.express.plane = 0 then (s.bundle b).map0 else (s.bundle b).map1

def enabledEntries (t : Tab Nat) : List Nat := (t.filter fun p => bit p.2 15 == 1).map Prod.snd

/-! Streams (R397 to R402) -/

/-- Launch registers of the receive entries of a bundle take 0. -/
def streamZero (b : Nat) (s : State) : State :=
  let es := enabledEntries (szlMap s b).rx
  let hit := fun (x : Nat) => x / 4800 % 2 == 1 && es.any fun e => bits e 11 4 == x / 9600 && bits e 0 8 == x % 4800 / 20
  { s with express := { s.express with launch := s.express.launch.filter fun p => !hit p.1 } }

/-- STRUP: width 8, full rate, REFLOCK, tags and gear that match (R398); streams that stop read 0. -/
def showStr (b : Nat) (s : State) : State :=
  let x := s.bundle b
  let up := szlUp s b && x.wRx == 8 && !x.halfRx && s.rdi SZL_BSTAT_REFLOCK (oBun b) == 1 && !x.mism && s.rdi SZL_TEST_GEN (oBun b) == 0
  let s := s.wri SZL_BSTAT_STRUP (oBun b) up.toNat
  if up then s else streamZero b s

/-- Every region of each die that the receive entries name. -/
def streamRegions (s : State) (b : Nat) : List (Nat × Nat) :=
  (dieList.filter fun d => (enabledEntries (szlMap s b).rx).any fun e => bits e 11 4 == d).flatMap fun d => s.dieRegions d

/-- Stream cycles are lost (R401). -/
def streamLoss (b cycles : Nat) (s : State) : State :=
  let s := szlEvent 4 b ST_HW_SZL_STREAM (streamZero b (s.addi SZL_STRERR_COUNT (oBun b) cycles))
  if s.rdi SZL_BCTL_STRSAFE (oBun b) = 1 then s.fault ST_HW_SZL_STREAM (32 + b) (streamRegions s b) [4 * 2 ^ 26 + b * 2 ^ 23 + ST_HW_SZL_STREAM] else s

/-! The end of service (R395) -/

/-- Outstanding non-posted requests complete with ST_SZL_DOWN; posted ones in the replay buffer are discarded, each with an event.  [DEDUCED 56: notes/assumptions] -/
def bundleFail (b : Nat) (s : State) : State :=
  let mine := fun (h : Held) => match h.why with
    | .remote x => x == b
    | _ => false
  let l := s.welt.held.filter mine
  let posted := ((s.bundle b).replay ++ (s.bundle b).txq).filter fun f => f.kind == 1 && f.unit == 0 && opPosted f.req.op
  let s := posted.foldl (fun s _ => szlEvent 8 b ST_SZL_DOWN s) s
  let s := s.modBundle b fun x => { x with txq := [], replay := [], part := [], arrived := [], again := (0, 0), owed := false, nak := false }
  pump (l.foldl (fun s h => refuse h.req ST_SZL_DOWN s) (s.modWelt fun w => { w with held := w.held.filter fun h => !mine h }))

/-- BUNDLE_FAIL_COMPLETION: a bundle that is OFF, DOWN or FAILED has nothing outstanding. -/
def execBundleFailCompletion (b : Fin 8) (s : State) : Out :=
  if szlState s b = 0 ∨ szlState s b = 1 ∨ szlState s b = 6 then .next (bundleFail b s) else .next s

/-! Training (R388 to R391) -/

/-- The local capability word with the lanes judged good. -/
def lcapw (s : State) (b laneOk : Nat) : Nat :=
  let o := oBun b
  2 ^ 28 + s.rd SZL_MODID_ID * 2 ^ 20 + b * 2 ^ 16 + 2 ^ 15 + s.rdi SZL_BCTL_PRECREQ o * 2 ^ 14 + 2 ^ 13 + 2 ^ 12 + s.rdi SZL_BCTL_FECIREQ o * 2 ^ 11 +
    s.rdi SZL_BCTL_HALFOK o * 2 ^ 10 + 3 * 2 ^ 8 + laneOk

/-- Width of a direction (R390): the largest whose lane set is all good, that both ends support and accept; `min_` is a MINWIDTH value. -/
def dirWidth (ok widths min_ : Nat) : Option Nat :=
  let all := fun (l : List Nat) => l.all fun i => bit ok i == 1
  let w4 := all [0, 1, 2, 3] || all [4, 5, 6, 7]
  let w2 := all [0, 1] || all [2, 3] || all [4, 5] || all [6, 7]
  let least := if min_ = 0 then 2 else if min_ = 1 then 4 else 8
  if all (List.range 8) then some 8
  else if w4 && bit widths 1 == 1 && least ≤ 4 then some 4
  else if w2 && bit widths 0 == 1 && least ≤ 2 then some 2 else none

/-- The settings a training finds: width and half rate of the transmit and of the receive direction. -/
def szlSettings (s : State) (b : Nat) (t : SzTrain) : Option ((Nat × Bool) × Nat × Bool) :=
  let w := t.rcapw.toNat
  let m := max (s.rdi SZL_BCTL_MINWIDTH (oBun b)) t.peerMin
  let half := s.rdi SZL_BCTL_HALFOK (oBun b) == 1 && bit w 10 == 1
  let rx := match dirWidth t.rxOk.toNat (bits w 8 2) m with
    | some n => some (n, false)
    | none => if half then (dirWidth t.rxHalf.toNat (bits w 8 2) m).map fun n => (n, true) else none
  let tx := if t.txHalf && !half then none else (dirWidth (bits w 0 8) (bits w 8 2) m).map fun n => (n, t.txHalf)
  match t.lock, tx, rx with
  | true, some a, some c => some (a, c)
  | _, _, _ => none

/-- A training ends with the settings of both directions (R389 step 7, R400).  [DEDUCED 56: notes/assumptions] -/
def szlTrained (b : Nat) (t : SzTrain) (x : (Nat × Bool) × Nat × Bool) (s : State) : State :=
  let o := oBun b
  let w := t.rcapw.toNat
  let deg := x.1.1 != 8 || x.2.1 != 8 || x.1.2 || x.2.2
  let fresh := szlState s b != 5
  let narrow := min x.1.1 x.2.1
  let s := s.modBundle b fun y =>
    let y := { y with wTx := x.1.1, halfTx := x.1.2, wRx := x.2.1, halfRx := x.2.2, said := false, mism := false, again := (0, 0) }
    if fresh then { y with seq := 0, got := 4095, nak := false, owed := false, crq := 64, crs := 64, owedRq := 0, owedRs := 0 } else y
  let s := ((s.wri SZL_LCAPW_WORD o (lcapw s b t.rxOk.toNat)).wri SZL_RCAPW_WORD o w).wri SZL_BSTAT_REASON o 0
  let s := (s.wri SZL_BSTAT_REFLOCK o t.reflock.toNat).wri SZL_BSTAT_FECI o (if bit w 12 = 1 ∧ (bit w 11 = 1 ∨ s.rdi SZL_BCTL_FECIREQ o = 1) then 1 else 0)
  let s := (s.wri SZL_BSTAT_PRECTX o (bit w 14)).wri SZL_BSTAT_PRECRX o (if s.rdi SZL_BCTL_PRECREQ o = 1 then bit w 13 else 0)
  let s := (s.wri SZL_BSTAT_HALF o (x.1.2 || x.2.2).toNat).wri SZL_BSTAT_WIDTH o (if narrow = 8 then 0 else if narrow = 4 then 1 else 2)
  let s := (s.wri SZL_STRLAT_DSQ o ((t.transport + 59) / 40)).wri SZL_PWR_TXST o 0
  let s := szlEvent 1 b 0 (setSzl b (if deg then 4 else 3) s)
  let s := if deg then szlEvent 6 b 0 s else s
  pump (bundleSendAll b (showStr b s))

/-- A training fails: FAILED, with one record for the first failure, and R395 where the bundle was in service. -/
def szlFailed (b : Nat) (s : State) : State :=
  let s := szlEvent 2 b ST_HW_SZL_TRAIN ((setSzl b 6 s).wri SZL_BSTAT_REASON (oBun b) ST_HW_SZL_TRAIN)
  let s := if (s.bundle b).said then s
    else (s.recordSt ST_HW_SZL_TRAIN (32 + b) [2 * 2 ^ 26 + b * 2 ^ 23 + ST_HW_SZL_TRAIN]).modBundle b fun x => { x with said := true }
  bundleFail b (showStr b s)

/-- SAZOR_TRAINING (R389): the training or retraining of an enabled bundle ends.  [DEDUCED 56: notes/assumptions] -/
def execSazorTraining (b : Fin 8) (t : SzTrain) (s : State) : Out :=
  let st := szlState s b
  if s.mode = DORMANT ∨ s.rdi SZL_BCTL_EN (oBun b) = 0 ∨ s.rdi SZL_PWR_TXREQ (oBun b) = 3 ∨ st = 3 ∨ st = 4 ∨ st = 6 then .next s
  else match szlSettings s b t with
    | some x => .next (szlTrained b t x s)
    | none => .next (szlFailed b s)

/-- SAZOR_TRAINING_RETRY: every 1.00 s while EN is 1. -/
def execSazorTrainingRetry (b : Fin 8) (s : State) : Out :=
  if szlState s b = 6 ∧ s.rdi SZL_BCTL_EN (oBun b) = 1 then .next (setSzl b 2 (s.pass 1000000000)) else .next s

/-- A bundle in service retrains (R391). -/
def szlRetrain (b : Nat) (s : State) : State := if szlUp s b then showStr b (szlEvent 3 b 0 (setSzl b 5 s)) else s

/-- SAZOR_RETRAIN. -/
def execSazorRetrain (b : Fin 8) (s : State) : Out := .next (szlRetrain b s)

/-- A write of SZL_BCTL: MINWIDTH 3 is stored as 2 and UNCTH 0 as 1; EN takes the bundle out of service or trains it, and RETRAIN retrains
it.  [DEDUCED 56: notes/assumptions] -/
def szlBctlWrite (b v : Nat) (s : State) : State :=
  let o := oBun b
  let was := s.rdi SZL_BCTL_EN o
  let s := ((s.wri SZL_BCTL_EN o (bit v 31)).wri SZL_BCTL_STRSAFE o (bit v 29)).wri SZL_BCTL_PRECREQ o (bit v 28)
  let s := ((s.wri SZL_BCTL_FECIREQ o (bit v 27)).wri SZL_BCTL_HALFOK o (bit v 26)).wri SZL_BCTL_MINWIDTH o (min 2 (bits v 24 2))
  let s := s.wri SZL_BCTL_UNCTH o (max 1 (bits v 16 8))
  if was = 1 ∧ bit v 31 = 0 then bundleFail b (showStr b (setSzl b 0 s))
  else if was = 0 ∧ bit v 31 = 1 then (if s.rdi SZL_PWR_TXREQ o = 3 then setSzl b 1 s else setSzl b 2 s)
  else if bit v 30 = 1 then szlRetrain b s else s

/-! The link layer (R392 to R394) -/

/-- Replay from ACK + 1; the eighth in succession of one SEQ retrains the bundle. -/
def szlReplay (b : Nat) (s : State) : State :=
  match (s.bundle b).replay with
  | [] => s
  | f :: _ =>
    let a := (s.bundle b).again
    let n := if a.2 ≠ 0 ∧ a.1 = f.seq then a.2 + 1 else 1
    let s := (s.inci SZL_REPLAY_COUNT (oBun b)).modBundle b fun x => { x with again := if 8 ≤ n then (0, 0) else (f.seq, n) }
    if 8 ≤ n then szlRetrain b (szlEvent 5 b 0 s) else s

/-- FLIT_REPLAY: 1.00 µs without progress while flits are unacknowledged. -/
def execFlitReplay (b : Fin 8) (s : State) : Out := if szlUp s b then .next (szlReplay b s) else .next s

/-- Flits acknowledged leave the replay buffer: those up to SEQ `a`. -/
def acked (a : Nat) (l : List Flit) : List Flit :=
  if l.any fun f => f.seq == a then (l.dropWhile fun f => f.seq != a).drop 1 else l

/-- A response from the remote module reaches its bridge and goes on over Welt; one that nothing waits for is discarded (R162, R395). -/
def remoteResp (b : Nat) (r : Resp) (s : State) : State :=
  let mine := fun (h : Held) => h.req.src == r.to_ && h.req.tag == r.tag && (match h.why with
    | .remote x => x == b
    | _ => false)
  match s.welt.held.find? mine with
  | some h => s.modWelt fun w => { w with held := w.held.erase h, resps := w.resps ++ [{ r with src := h.req.dst, epoch := w.stamp }] }
  | none => weltLog 1 (r.op % 64) r.st r.src r.to_ s

/-- A sequenced flit in order is delivered; a packet counts when its last unit is there.  [DEDUCED 56: notes/assumptions] -/
def flitIn (b : Nat) (f : Flit) (s : State) : State :=
  let last := f.unit + 1 == max 1 (if f.kind = 1 then f.req.units.length else f.resp.len)
  let s := s.modBundle b fun x => { x with got := f.seq, owed := true, part := if last then x.part.filter fun y => y.kind != f.kind else x.part ++ [f] }
  if last = false then s
  else if f.kind = 1 then s.modBundle b fun x => { x with arrived := x.arrived ++ [f.req] }
  else remoteResp b f.resp (s.modBundle b fun x => { x with owedRs := x.owedRs + max 1 f.resp.len })

/-- FLIT_RECEIVE: `cw` is 0 where its codewords were clean, 1 where one was corrected, 2 where one was uncorrectable. -/
def execFlitReceive (b : Fin 8) (f : Flit) (ack : BitVec 12) (nak : Bool) (crq crs : BitVec 8) (crcOk : Bool) (cw : Fin 3) (s : State) : Out :=
  if szlUp s b = false then .next s
  else
    let o := oBun b
    let s := s.wri SZL_PWR_RXST o 0
    let s := if cw.val = 1 then s.inci SZL_CWCORR_COUNT o else if cw.val = 2 then s.inci SZL_CWUNC_COUNT o else s
    if crcOk = false ∨ cw.val = 2 then .next (s.modBundle b fun x => { x with nak := true })
    else
      let s := s.modBundle b fun x => { x with replay := acked ack.toNat x.replay, crq := min 64 (x.crq + crq.toNat), crs := min 64 (x.crs + crs.toNat) }
      let s := if nak then szlReplay b s else s
      let s := if f.kind = 1 ∨ f.kind = 2 then
          (if f.seq = ((s.bundle b).got + 1) % 4096 then flitIn b f s else s)
        else s
      .next (bundleSendAll b s)

/-- IDLE_ACK_TIMER: after 100 ns with nothing to send, an idle flit carries what is owed. -/
def execIdleAckTimer (b : Fin 8) (s : State) : Out :=
  let x := s.bundle b
  if bundleSends s b ∧ x.txq = [] ∧ (x.owed = true ∨ x.nak = true ∨ x.owedRq ≠ 0 ∨ x.owedRs ≠ 0) then
    .next (s.modBundle b fun x => { x with lastAck := some (x.got, x.nak, min 255 x.owedRq, min 255 x.owedRs), owed := false, nak := false
                                           owedRq := x.owedRq - 255, owedRs := x.owedRs - 255 })
  else .next s

/-! Bridge requests (R178, R395, R396) -/

/-- BRIDGE_REQUEST: a local request to a bridge window is injected. -/
def execBridgeRequest (q : Req) (s : State) : Out := if inBridge q.addr then .next (inject q s) else .next s

/-- A remote request is admitted (R396). -/
def admitted (s : State) (b : Nat) (q : Req) : Bool :=
  let o := oBun b
  let lo := s.rdi SZL_ADMBASE_BASE o * 2 ^ 26
  let hi := lo + s.rdi SZL_ADMSIZE_SIZE o * 2 ^ 26
  ((q.op == RD && s.rdi SZL_ADMCTL_RDEN o == 1) || ((q.op == WR || q.op == WRP || opAtomic q.op) && s.rdi SZL_ADMCTL_WREN o == 1)) &&
    decide (lo ≤ q.addr) && decide (q.addr < hi)

/-- The lowest tag that a bridge has free.  [DEDUCED 56: notes/assumptions] -/
def bridgeFreeTag (s : State) (e : Nat) : Option Nat := (List.range 4096).find? fun t => !tagBusy s e t

/-- An admitted request is injected with the bridge's src and a tag of its own, or waits for one. -/
def remoteInject (b : Nat) (q : Req) (s : State) : State :=
  let e := epBridge (b / 4)
  if opPosted q.op then inject { q with src := e, cls := 1 } s
  else match bridgeFreeTag s e with
    | none => s.modBundle b fun x => { x with waiting := x.waiting ++ [q] }
    | some t => inject { q with src := e, cls := 1, tag := t } (s.modBundle b fun x => { x with remote := x.remote ++ [(t, q.src, q.tag, if q.op = RD then q.uidx + 1 else 1)] })

/-- REMOTE_REQUEST_ADMISSION: the oldest request received whole, or one that waits for a tag, is admitted or refused. -/
def execRemoteRequestAdmission (b : Fin 8) (s : State) : Out :=
  let x := s.bundle b
  match x.waiting, x.arrived with
  | q :: t, _ => .next (remoteInject b q (s.modBundle b fun x => { x with waiting := t }))
  | [], q :: t =>
    let s := s.modBundle b fun x => { x with arrived := t, owedRq := x.owedRq + max 1 q.units.length }
    if admitted s b q then .next (remoteInject b q s)
    else
      let s := szlEvent 9 b ST_SZL_ADMIT s
      .next (if opPosted q.op then s else bundleSend b (respFlits ⟨q.src, epBridge (b / 4), q.tag, ERR, ST_SZL_ADMIT, ST_SZL_ADMIT, 1, 0⟩) s)
  | [], [] => .next s

/-! Stream events -/

/-- STREAM_CYCLE_LOSS (R401): an uncorrectable codeword touches `cycles` cycles of streams that deliver. -/
def execStreamCycleLoss (b : Fin 8) (cycles : Nat) (s : State) : Out :=
  let s := s.inci SZL_CWUNC_COUNT (oBun b)
  if s.rdi SZL_BSTAT_STRUP (oBun b) = 1 ∧ (enabledEntries (szlMap s b).rx) ≠ [] then .next (streamLoss b cycles s) else .next s

/-- Gear of the bundle's stream gear group. -/
def streamGear (s : State) (b : Nat) : Nat :=
  match (enabledEntries (szlMap s b).rx).head? with
  | some e => s.rdi GEAR_DIE_GEAR (4 * bits e 11 4)
  | none => 0

/-- STREAM_TAG_MISMATCH (R398): a codeword header with this STAG and GEAR arrives. -/
def execStreamTagMismatch (b : Fin 8) (stag : BitVec 8) (gear : Fin 8) (cycles : Nat) (s : State) : Out :=
  if szlUp s b = false ∨ (enabledEntries (szlMap s b).rx) = [] then .next s
  else if stag.toNat = (szlMap s b).rxtag ∧ gear.val = streamGear s b then .next (showStr b (s.modBundle b fun x => { x with mism := false }))
  else
    let was := (s.bundle b).mism
    let s := showStr b ((s.addi SZL_STRERR_COUNT (oBun b) cycles).modBundle b fun x => { x with mism := true })
    .next (if was then s else szlEvent 7 b 0 s)

/-- REFLOCK_WINDOW_END (R398, R401): the peer's clock lies `ppb` parts in 10^9 from nominal; a loss while streams deliver loses `cycles`
cycles. -/
def execReflockWindowEnd (b : Fin 8) (ppb : Int) (cycles : Nat) (s : State) : Out :=
  let st := szlState s b
  if st = 0 ∨ st = 1 ∨ st = 6 then .next s
  else
    let was := s.rdi SZL_BSTAT_STRUP (oBun b)
    let ok := decide (-100 ≤ ppb) && decide (ppb ≤ 100)
    let s := showStr b (s.wri SZL_BSTAT_REFLOCK (oBun b) ok.toNat)
    if was = 1 ∧ ok = false ∧ (enabledEntries (szlMap s b).rx) ≠ [] then .next (streamLoss b cycles s) else .next s

/-! Power states (R403) -/

/-- A transmit direction that must stay ACTIVE: its map enables a stream block. -/
def txStreams (s : State) (b : Nat) : Bool := (enabledEntries (szlMap s b).tx) != []

/-- SAZOR_POWER_IDLE_TIMER: an idle transmit direction goes to DOZE and on to SLEEP; with `rx`, the peer's has. -/
def execSazorPowerIdleTimer (b : Fin 8) (rx : Bool) (s : State) : Out :=
  let o := oBun b
  let x := s.bundle b
  let req := s.rdi SZL_PWR_TXREQ o
  if szlUp s b = false then .next s
  else if rx then .next (if s.rdi SZL_PWR_RXST o < 2 then s.wri SZL_PWR_RXST o (s.rdi SZL_PWR_RXST o + 1) else s)
  else if x.txq ≠ [] ∨ x.replay ≠ [] ∨ x.owed = true ∨ txStreams s b = true then .next s
  else if s.rdi SZL_PWR_TXST o = 0 ∧ s.rdi SZL_PWR_DOZEIDLE o ≠ 0 ∧ (req = 0 ∨ req = 2) then .next (s.wri SZL_PWR_TXST o 1)
  else if s.rdi SZL_PWR_TXST o = 1 ∧ s.rdi SZL_PWR_SLEEPIDLE o ≠ 0 ∧ req = 0 then .next (s.wri SZL_PWR_TXST o 2)
  else .next s

/-- A dozing or sleeping transmitter is ACTIVE again, and what waits is sent. -/
def szlWake (b : Nat) (s : State) : State :=
  if s.rdi SZL_PWR_TXST (oBun b) = 1 ∨ s.rdi SZL_PWR_TXST (oBun b) = 2 then bundleSendAll b (s.wri SZL_PWR_TXST (oBun b) 0) else s

/-- SAZOR_TX_WAKE: a flit or an ack is to be sent, or a stream block is enabled. -/
def execSazorTxWake (b : Fin 8) (s : State) : Out :=
  let x := s.bundle b
  if x.txq ≠ [] ∨ x.replay ≠ [] ∨ x.owed = true ∨ x.nak = true ∨ txStreams s b = true then .next (szlWake b s) else .next s

/-- A write of SZL_PWR.  [DEDUCED 56: notes/assumptions] -/
def szlPwrWrite (b v : Nat) (s : State) : State :=
  let o := oBun b
  let was := s.rdi SZL_PWR_TXREQ o
  let req := bits v 30 2
  let s := ((s.wri SZL_PWR_TXREQ o req).wri SZL_PWR_SLEEPIDLE o (bits v 8 8)).wri SZL_PWR_DOZEIDLE o (bits v 0 8)
  if req = 3 ∧ was ≠ 3 then bundleFail b (showStr b ((if s.rdi SZL_BCTL_EN o = 1 then setSzl b 1 s else s).wri SZL_PWR_TXST o 3))
  else if req ≠ 3 ∧ was = 3 then (if s.rdi SZL_BCTL_EN o = 1 then setSzl b 2 s else s).wri SZL_PWR_TXST o 0
  else if req = 1 then szlWake b s else s

/-- SAZOR_PWR_WRITE. -/
def execSazorPwrWrite (b : Fin 8) (value : BitVec 32) (s : State) : Out := .next (szlPwrWrite b value.toNat s)

/-! Tests in HOLD (R404, R405) -/

/-- A write of SZL_TEST; `errs` are the bit errors that a running checker has counted on each lane since the last write. -/
def szlTestWrite (b v : Nat) (errs : List Nat) (s : State) : State :=
  let o := oBun b
  if s.mode ≠ HOLD then s.wri SZL_TEST_STATUS o ST_SZL_NOTHOLD
  else
    let s := if s.rdi SZL_TEST_CHK o = 1 then
        (List.range 8).foldl (fun s l => if bit (s.rdi SZL_TEST_LANEMASK o) l = 1 then s.addi SZL_TESTCNT_COUNT (o + 4 * l) (errs.getD l 0) else s) s
      else s
    if 6 ≤ bits v 11 3 then s.wri SZL_TEST_STATUS o ST_SZL_BADCMD
    else
      let was := s.rdi SZL_TEST_GEN o
      let s := ((s.wri SZL_TEST_STATUS o 0).wri SZL_TEST_GEN o (bit v 15)).wri SZL_TEST_CHK o (bit v 14)
      let s := showStr b ((s.wri SZL_TEST_PAT o (bits v 11 3)).wri SZL_TEST_LANEMASK o (bits v 0 8))
      if was = 1 ∧ bit v 15 = 0 then szlRetrain b s else s

/-- SAZOR_PATTERN_TEST.  [DESIGN CHOICE 57: notes/assumptions] -/
def execSazorPatternTest (b : Fin 8) (value : BitVec 32) (errs : List Nat) (s : State) : Out := .next (szlTestWrite b value.toNat errs s)

/-- A write of SZL_INJ. -/
def szlInjWrite (b v : Nat) (s : State) : State :=
  let o := oBun b
  let n := bits v 8 6
  if bit v 15 = 0 then ((s.wri SZL_INJ_KIND o (bit v 14)).wri SZL_INJ_NSYM o n).wri SZL_INJ_LANEMASK o (bits v 0 8)
  else if s.mode ≠ HOLD then s.wri SZL_INJ_STATUS o ST_SZL_NOTHOLD
  else
    let s := ((s.wri SZL_INJ_KIND o (bit v 14)).wri SZL_INJ_NSYM o n).wri SZL_INJ_LANEMASK o (bits v 0 8)
    if bit v 14 = 1 ∧ (n = 0 ∨ 32 < n) then s.wri SZL_INJ_STATUS o ST_SZL_BADCMD
    else (s.wri SZL_INJ_STATUS o 0).modBundle b fun x => { x with inject := some (bit v 14, n, bits v 0 8) }

/-- SAZOR_ERROR_INJECT. -/
def execSazorErrorInject (b : Fin 8) (value : BitVec 32) (s : State) : Out := .next (szlInjWrite b value.toNat s)

end Sys2Proof.Machine
end

