-- ==== Sys2Proof/Machine/Ports.lean ====
section
/-! DEFINITION. The PCIe port's link and resets, Ethernet, general I/O, and the edges of a region's clocks (spec/16_standard_ports_and_io.md,
R46, R81). -/

namespace Sys2Proof.Machine

open Sys2Proof

/-! PCIe (R408 to R410, R413, R486) -/

/-- A PCIe reset of any kind: link, configuration space, MSI-X table and pending bits; Welt requests of the port are forgotten (R409).  [PRESUMED 31; DESIGN CHOICE 58; DEDUCED 59: notes/assumptions] -/
def pcieReset (s : State) : State :=
  (((s.wr PCI_STAT_SPEED 0).wr PCI_STAT_WIDTH 0).wr PCI_STAT_DSTATE 0).modPcie fun p => { perst := p.perst, sent := p.sent, cpl := p.cpl }

/-- PCIE_RESET (R409): PERST# asserted (0), a hot reset (1) or a Function Level Reset (2).  [DEDUCED 59: notes/assumptions] -/
def execPcieReset (kind : Fin 3) (s : State) : Out :=
  .next ((pcieReset s).modPcie fun p => { p with perst := p.perst || kind.val == 0 })

/-- Pending messages of vectors that are no longer masked are sent (R413). -/
def msixUnmask (s : State) : State :=
  let go := s.pcie.pend.filter fun v => !(s.pcie.funcMask || vecMasked s v)
  if s.rd PCI_STAT_SPEED = 0 ∨ s.pcie.msixEn = false ∨ s.pcie.busMaster = false ∨ s.rd PCI_STAT_DSTATE = 3 then s
  else s.modPcie fun p => { p with pend := p.pend.filter fun v => !go.contains v, sent := p.sent ++ go }

/-- PCIE_LINK_TRAINING (R408, R410): with PERST# released the link trains at a rate and a width, and the host then configures the port:
whether configuration requests are answered normally, MSI-X Enable, Bus Master Enable, function mask and D3hot.  No effect in DORMANT, where
the port is unpowered, and without a host.  [DESIGN CHOICE 58: notes/assumptions] -/
def execPcieLinkTraining (speed : Fin 6) (width : Nat) (ready msixEn busMaster funcMask d3 : Bool) (s : State) : Out :=
  if s.mode = DORMANT ∨ s.rd PWR_STAT_HOST = 0 ∨ (([1, 2, 4, 8, 16].contains width) = false ∧ speed.val ≠ 0) then .next s
  else
    let s := ((s.wr PCI_STAT_SPEED speed).wr PCI_STAT_WIDTH (if speed.val = 0 then 0 else width)).wr PCI_STAT_DSTATE (if d3 then 3 else 0)
    .next (msixUnmask (s.modPcie fun p => { p with perst := false, cfgReady := ready, msixEn, busMaster, funcMask }))

/-- HOST_CONNECTOR_MATE (R485, R486): HPRSNT changes, the port takes a PCIe reset, and an open connector holds PERST# asserted.  [DEDUCED 53: notes/assumptions] -/
def execHostConnectorMate (mated : Bool) (s : State) : Out :=
  if s.rd PWR_STAT_HOST = mated.toNat then .next s
  else .next ((pcieReset (pwrEvent 12 15 0 (s.wr PWR_STAT_HOST mated.toNat))).modPcie fun p => { p with perst := !mated })

/-! Ethernet ports (R414) -/

def oPort (p : Nat) : Nat := 8 * p
def cageMode (s : State) (c : Nat) : Nat := s.rdi ETH_CAGE_MODE (4 * c)
def modEth (f : Eth → Eth) (s : State) : State := { s with eth := f s.eth }

/-- Port `p` exists in its cage's mode. -/
def ethExists (s : State) (p : Nat) : Bool := p < 16 && (cageMode s (p / 4) == 1 || p % 4 == 0)

/-- Links of a cage's four ports. -/
def cageLinks (c : Nat) (f : Nat → Bool) (s : State) : State :=
  (List.range 4).foldl (fun s l => s.wri ETH_PSTAT_LINK (oPort (4 * c + l)) (f (4 * c + l)).toNat) s

/-- ETH_CAGE[c] := v: a change of MODE takes the cage's links down, and they train again (ETH_LINK_CHANGE). -/
def cageWrite (c v : Nat) (s : State) : State :=
  if cageMode s c = v % 2 then s else cageLinks c (fun _ => false) (s.wri ETH_CAGE_MODE (4 * c) (v % 2))

/-- ETH_CAGE_MODE_WRITE. -/
def execEthCageModeWrite (c : Fin 4) (value : BitVec 32) (s : State) : Out := .next (cageWrite c value.toNat s)

/-- ETH_LINK_CHANGE (R414): the module of a cage, and which of its lanes train; `fec` is what negotiation chose.  A port that does not exist, is not
enabled, or lies in a cage without a module is down. -/
def execEthLinkChange (c : Fin 4) (present : Bool) (up : BitVec 4) (fec : Fin 3) (s : State) : Out :=
  let s := s.wri ETH_CAGE_PRESENT (4 * c) present.toNat
  let on := fun (t : State) (p : Nat) => present && bit up.toNat (p % 4) == 1 && ethExists t p && t.rdi ETH_PCTL_EN (oPort p) == 1 && t.mode != DORMANT
  let s := cageLinks c (on s) s
  .next ((List.range 4).foldl (fun s l =>
    let p := 4 * c.val + l
    if on s p then s.wri ETH_PSTAT_FEC (oPort p) (if cageMode s c = 0 then 0 else if s.rdi ETH_PCTL_AN (oPort p) = 1 then fec else s.rdi ETH_PCTL_FEC (oPort p))
    else s) s)

/-! Frames (R415 to R417) -/

/-- The port's own Welt request, served whole at once: what it answers.  [DESIGN CHOICE 62: notes/assumptions] -/
def ethDo (q : Req) (s : State) : Ans × State :=
  if portsClosed s then (.wait .design, s)
  else match injectCheck s q with
    | .inl st => (.err st, weltLog 6 q.op st q.src q.dst (statUnits q s))
    | .inr dst => serveAt { q with dst, epoch := s.welt.stamp } (statUnits q s)

/-- Several requests, up to the first that is refused or waits.  [DESIGN CHOICE 62: notes/assumptions] -/
def ethAll : List Req → State → Ans × State
  | [], s => (.ok 0, s)
  | q :: t, s => match ethDo q s with
    | (.ok v, s) => if t = [] then (.ok v, s) else ethAll t s
    | r => r

/-- Requests of `op` (WR or RD) over the bytes `[a, a + n)`, one for each 256-byte block (R160); `data` is what a write stores. -/
def blockReqs (src op a n data : Nat) : List Req :=
  if n = 0 then []
  else
    let b0 := a / 256
    let b1 := (a + n - 1) / 256
    (List.range (b1 + 1 - b0)).map fun i =>
      let lo := max a ((b0 + i) * 256)
      let hi := min (a + n) ((b0 + i + 1) * 256)
      let base := lo / 64 * 64
      let units := (List.range ((hi - 1) / 64 + 1 - lo / 64)).map fun j =>
        let ua := base + 64 * j
        let first := max lo ua - ua
        let last := min hi (ua + 64) - ua - 1
        (⟨first, last, data / 256 ^ (ua + first - a) % 256 ^ (last + 1 - first) * 256 ^ first⟩ : WUnit)
      if op = RD then { src, op, addr := base, tag := 0, len := 0, uidx := units.length - 1, bfirst := lo - base, blast := (hi - 1) % 64 }
      else { src, op, addr := base, tag := 0, len := units.length, units }

/-- Bytes `[a, a + n)` as the port reads them. -/
def ethRead (a n : Nat) (s : State) : Ans × State :=
  (blockReqs epEth RD a n 0).foldl (fun (r : Ans × State) q =>
    match r.1 with
    | .ok v => (match ethDo q r.2 with
      | (.ok x, s) => (.ok (v + x / 256 ^ q.bfirst % 256 ^ (rdLast q + 1 - q.bfirst) * 256 ^ (q.addr + q.bfirst - a)), s)
      | y => y)
    | _ => r) (.ok 0, s)

/-- The descriptor of queue `q` at index `i`. -/
def descAddr (s : State) (q i : Nat) : Nat := qBase s q + 64 * (i % qN s q)

/-- The port takes the next descriptor of queue `q` as a consumer (R208 to R210): its index, or why there is none.  [DESIGN CHOICE 62: notes/assumptions] -/
def ethTake (q : Nat) (s : State) : Ans × State :=
  if qEn s q = false then (.err ST_QUE_DISABLED, s)
  else if qMc s q then ethDo (ctxAdd epEth 0 q 3 1) s
  else if qHead s q = qTail s q then (.err ST_QUE_EMPTY, s)
  else (.ok (qHead s q), s)

/-- The port releases index `i` of queue `q`. -/
def ethRelease (q i : Nat) (s : State) : State :=
  (ethDo (ctxWrite epEth 0 false q 3 (if qMc s q then i + 2 ^ 32 else add32 i 1)) s).2

/-- The port produces a descriptor into queue `q` as a producer (R208 to R210).  [DESIGN CHOICE 62: notes/assumptions] -/
def ethProduce (q desc : Nat) (s : State) : Ans × State :=
  let at_ := if qMp s q then ethDo (ctxAdd epEth 0 q 2 1) s
    else if qEn s q = false then (.err ST_QUE_DISABLED, s)
    else if qN s q ≤ sub32 (qTail s q) (qHead s q) then (.err ST_QUE_FULL, s)
    else (.ok (qTail s q), s)
  match at_ with
  | (.ok i, s) =>
    match ethAll (blockReqs epEth WR (descAddr s q i) 64 desc) s with
    | (.ok _, s) => ethDo (ctxWrite epEth 0 false q 2 (if qMp s q then i + 2 ^ 32 else add32 i 1)) s
    | r => r
  | r => r

/-- Field of a frame: `n` bytes from byte `i`, most significant first.  [PRESUMED 64: notes/assumptions] -/
def frameField (data i n : Nat) : Nat := (List.range n).foldl (fun v j => v * 256 + byteOf data (i + j)) 0

/-- Rule `i` matches a frame that arrived on port `p` (R416).  A frame without a VLAN tag has no VID and no PCP.  [DEDUCED 63; PRESUMED 64: notes/assumptions] -/
def ruleMatches (s : State) (i p data : Nat) : Bool :=
  let o := 16 * i
  let tagged := frameField data 12 2 == 0x8100
  let tci := frameField data 14 2
  let et := if tagged then frameField data 16 2 else frameField data 12 2
  s.rdi ETH_RULEA_EN o == 1 && bit (s.rdi ETH_RULEA_PMASK o) p == 1 &&
    (s.rdi ETH_RULEA_MMAC o == 0 || frameField data 0 6 == s.rdi ETH_RULEC_MAC o * 65536 + s.rdi ETH_RULED_MACL o) &&
    (s.rdi ETH_RULEA_MVID o == 0 || (tagged && tci % 4096 == s.rdi ETH_RULEB_VID o)) &&
    (s.rdi ETH_RULEA_MPCP o == 0 || (tagged && tci / 8192 == s.rdi ETH_RULEB_PCP o)) &&
    (s.rdi ETH_RULEA_MET o == 0 || et == s.rdi ETH_RULEB_ETYPE o)

/-- The rule that takes a frame: the first that matches, else the port's default rule; none discards it.  [DEDUCED 63: notes/assumptions] -/
def ruleOf (s : State) (p data : Nat) : Option Nat :=
  match (List.range 64).find? fun i => ruleMatches s i p data with
  | some i => some i
  | none =>
    let d := s.rdi ETH_PCTL_DEFRULE (oPort p)
    if d < 64 then some d else none

/-- A frame of rule `i` is discarded under R415 or R417.  [DEDUCED 63: notes/assumptions] -/
def ruleDrop (i : Nat) (s : State) : State := s.inci ETH_RSTAT_DROP (8 * i)

/-- ACT 1 (R415): a descriptor of the free queue, the frame in its buffer, and a descriptor in the done queue.  None where an access has to
wait: the frame is then offered again.  [DEDUCED 63: notes/assumptions] -/
def ethPlace (p i len data ts : Nat) (s : State) : Option State :=
  let free := s.rdi ETH_RULED_TGT (16 * i)
  let done := (free + 1) % 65536
  match ethTake free s with
  | (.wait _, _) => none
  | (.err _, t) => some (ruleDrop i t)
  | (.ok x, t) =>
    match ethRead (descAddr t free x) 64 t with
    | (.wait _, _) => none
    | (.err _, t) => some (ruleDrop i (ethRelease free x t))
    | (.ok desc, t) =>
      let buf := desc % 2 ^ 48
      let room := bits desc 64 32
      let n := min len room
      match ethAll (blockReqs epEth WR buf n data) t with
      | (.wait _, _) => none
      | (.err _, t) => some (ruleDrop i (ethRelease free x t))
      | (.ok _, t) =>
        let info := len % 2 ^ 14 + i * 2 ^ 16 + p * 2 ^ 24 + (if room < len then 2 ^ 31 else 0)
        match ethProduce done (buf + room * 2 ^ 64 + info * 2 ^ 96 + ts % 2 ^ 64 * 2 ^ 128) t with
        | (.wait _, _) => none
        | (.err _, t) => some (ruleDrop i (ethRelease free x t))
        | (.ok _, t) => some (ethRelease free x t)

/-- ACT 2 (R417): the GWRs of a frame.  [DEDUCED 63: notes/assumptions] -/
def ethStream (i len data : Nat) (s : State) : State :=
  let n := tabGet 0 s.eth.ruleN i
  let s := modEth (fun e => { e with ruleN := tabSet 0 e.ruleN i (n + 1) }) s
  if 256 < len then ruleDrop i s
  else
    let base := s.rdi ETH_RABASE_ADDR (8 * i) * 65536 + 256 * (n % 2 ^ s.rdi ETH_RULEA_RING (16 * i))
    let reqs : List Req := (List.range ((len + 63) / 64)).map fun j =>
      { src := epEth, op := GWR, cls := 0, addr := base + 64 * j, len := 1, flow := s.rdi ETH_RULED_TGT (16 * i) % 1024
        units := [⟨0, min 64 (len - 64 * j) - 1, bits data (512 * j) (8 * min 64 (len - 64 * j))⟩] }
    pump (modEth (fun e => { e with streams := e.streams ++ [(i, reqs)] }) s)

/-- ETH_FRAME_RECEIVE (R414 to R417): a frame of `len` bytes without FCS arrives whole on port `p`; `good` says whether its FCS is right, `age` how
many ns ago the first bit of its destination address came.  [DESIGN CHOICE 62: notes/assumptions] -/
def execEthFrameReceive (p : Fin 16) (len data age : Nat) (good : Bool) (s : State) : Out :=
  if s.mode = DORMANT ∨ s.rdi ETH_PCTL_EN (oPort p) = 0 ∨ s.rdi ETH_PSTAT_LINK (oPort p) = 0 then .next s
  else if good = false ∨ len < 60 ∨ 9212 < len then .next (s.inci ETH_PSTAT_BADFRM (oPort p))
  else
    let data := data % 256 ^ len
    match ruleOf s p data with
    | none => .next s
    | some i =>
      let t := s.inci ETH_RSTAT_FRAMES (8 * i)
      match s.rdi ETH_RULEA_ACT (16 * i) with
      | 1 => .next ((ethPlace p i len data (s.clocks.tb - age) t).getD s)
      | 2 => .next (ethStream i len data t)
      | _ => .next t

/-- ETH_STREAM_PLACE_TIMEOUT (R417): the oldest frame of rule `i` that waits is discarded whole. -/
def execEthStreamPlaceTimeout (i : Fin 64) (s : State) : Out :=
  match s.eth.streams.find? fun x => x.1 == i.val with
  | some x => .next (pump (ruleDrop i (modEth (fun e => { e with streams := e.streams.erase x }) s)))
  | none => .next s

/-! Scheduled traffic (R419) -/

/-- How long the gate of class `t` stays open from `pos` in a list, over at most `fuel` entries. -/
def openFor (l : List (Nat × Nat)) (t : Nat) : (fuel i skip : Nat) → Nat
  | 0, _, _ => 0
  | n + 1, i, skip =>
    let e := l.getD (i % l.length) (0, 0)
    if bit e.1 t = 0 then 0 else e.2 - skip + openFor l t n (i + 1) 0

/-- Entry in force at position `pos` of the cycle, and how far into it. -/
def entryAt (pos : Nat) : List (Nat × Nat) → Nat → Nat × Nat
  | [], i => (i, pos)
  | e :: t, i => if pos < e.2 then (i, pos) else entryAt (pos - e.2) t (i + 1)

/-- Position of time `t` in the cycle of a list.  [DEDUCED 63: notes/assumptions] -/
def cyclePos (g : Gcl) (t : Nat) : Nat := ((t : Int) - g.base) % (g.cycle : Int) |>.toNat

/-- The first time from `t` on at which a frame that takes `dur` ns fits whole in an open interval of its class: now, or the start of an entry in
this or the next cycle. -/
def sendTime (g : Gcl) (tc dur t : Nat) : Option Nat :=
  if g.cycle = 0 ∨ g.entries = [] then some t
  else
    let n := g.entries.length
    let pos := cyclePos g t
    let starts := (List.range (2 * n)).map fun k => k / n * g.cycle + ((g.entries.take (k % n)).foldl (fun a e => a + e.2) 0)
    let at_ := (pos :: starts.filter fun x => decide (pos < x)).find? fun x =>
      let e := entryAt (x % g.cycle) g.entries 0
      decide (dur ≤ openFor g.entries tc (2 * n) e.1 e.2)
    at_.map fun x => t + (x - pos)

/-- Time on the wire of a frame with FCS and preamble, in ns.  [PRESUMED 64: notes/assumptions] -/
def wireNs (s : State) (p len : Nat) : Nat :=
  let rate := if cageMode s (p / 4) = 0 then 100 else 25
  ((len + 12) * 8 + rate - 1) / rate

/-- ETH_FRAME_TRANSMIT (R415, R419): the next descriptor of the queue of port `p` and class `t` is sent, no earlier than its launch time, in an open
interval of its gate, and released.  [DESIGN CHOICE 62: notes/assumptions] -/
def execEthFrameTransmit (p : Fin 16) (t : Fin 8) (s : State) : Out :=
  let o := 32 * p.val + 4 * t.val
  if s.mode = DORMANT ∨ ethExists s p = false ∨ s.rdi ETH_PCTL_EN (oPort p) = 0 ∨ s.rdi ETH_PSTAT_LINK (oPort p) = 0 ∨ s.rdi ETH_TXQ_EN o = 0 then .next s
  else
    let q := s.rdi ETH_TXQ_Q o
    match ethTake q s with
    | (.ok x, s1) =>
      match ethRead (descAddr s1 q x) 64 s1 with
      | (.wait _, _) => .next s
      | (.err _, s1) => .next (ethRelease q x s1)
      | (.ok desc, s1) =>
        let len := bits desc 64 32
        let from_ := if bit desc 127 = 1 then max s1.clocks.tb (bits desc 128 64) else s1.clocks.tb
        if len < 60 ∨ 9212 < len then .next (ethRelease q x s1)
        else match ethRead (desc % 2 ^ 48) len s1, sendTime (tabGet {} s1.eth.oper p) t (wireNs s1 p len) from_ with
          | (.ok data, s2), some at_ =>
            .next (ethRelease q x (modEth (fun e => { e with sent := e.sent ++ [⟨p, t, len, data, at_⟩] }) (s2.reach at_)))
          | (.err _, s2), _ => .next (ethRelease q x s2)
          | _, _ => .next s
    | _ => .next s

/-- ETH_GCLCMD completes.  [DEDUCED 63: notes/assumptions] -/
def gclDone (st : Nat) (s : State) : State := (s.wr ETH_GCLCMD_STATUS st).wr ETH_GCLCMD_BUSY 0

/-- The first cycle start of a list at or after its base time, and not before `now`.  [DEDUCED 63: notes/assumptions] -/
def firstCycle (base cycle now : Nat) : Nat := if now ≤ base ∨ cycle = 0 then max base now else base + (now - base + cycle - 1) / cycle * cycle

/-- GO of ETH_GCLCMD (R419): the list at ETH_GCLADR becomes the administrative list of PORT.  [DEDUCED 63: notes/assumptions] -/
def gclLoad (s : State) : State :=
  let p := s.rd ETH_GCLCMD_PORT
  let off := s.rd ETH_GCLADR_OFFSET
  let a := lastBase + off
  let n := s.rdMem 4 (a + 12)
  let cycle := s.rdMem 4 (a + 8)
  let entries := (List.range (min n 256)).map fun i => (s.rdMem 1 (a + 16 + 4 * i + 3), s.rdMem 3 (a + 16 + 4 * i))
  if ethExists s p = false ∨ 0x2000000 < off + 16 then gclDone ST_ETH_BADCMD s
  else if s.eth.gclPend.contains p then gclDone ST_ETH_STATE s
  else if 256 < n ∨ entries.foldl (fun t e => t + e.2) 0 ≠ cycle then gclDone ST_ETH_GCL s
  else if 0x2000000 < off + 16 + 4 * n then gclDone ST_ETH_BADCMD s
  else
    let base := s.rdMem 8 a
    gclDone 0 (modEth (fun e => { e with
      admin := tabSet {} e.admin p ⟨base, cycle, entries, firstCycle base cycle s.clocks.tb⟩
      gclPend := e.gclPend ++ [p] }) s)

/-- ETH_GCL_LOAD: a write of ETH_GCLCMD with GO 1 and the port. -/
def execEthGclLoad (p : Fin 16) (s : State) : Out := .next (if s.rd ETH_GCLCMD_BUSY = 1 then s else gclLoad (s.wr ETH_GCLCMD_PORT p))

/-- GCL_BECOMES_OPERATIONAL (R419): at its first cycle start, or the end of the operational cycle in progress then. -/
def execGclBecomesOperational (p : Fin 16) (s : State) : Out :=
  if s.eth.gclPend.contains p.val then
    let a := tabGet {} s.eth.admin p
    let o := tabGet {} s.eth.oper p
    let t := if o.cycle = 0 ∨ a.first ≤ o.base then a.first else firstCycle o.base o.cycle a.first
    .next (modEth (fun e => { e with oper := tabSet {} e.oper p a, gclPend := e.gclPend.erase p }) (s.reach t))
  else .next s

/-! gPTP (R418) -/

/-- A signed value kept in 24 bits, saturating.  [DESIGN CHOICE 65: notes/assumptions] -/
def sat24 (x : Int) : Nat := wrapTo 24 (max (-8388608) (min 8388607 x))

/-- GPTP_SYNC (R418): a sync interval of `iv` ns ends with the timebase `offset` ns from the grandmaster on port `p`; the servo slews by `adj` ns in
it, at most 500 ppm, or the timebase steps.  `gm`: this module is the grandmaster.  [DESIGN CHOICE 65: notes/assumptions] -/
def execGptpSync (p : Fin 16) (gm : Bool) (offset adj : Int) (iv : Nat) (s : State) : Out :=
  if s.rd ETH_PTPCTL_EN = 0 ∨ s.clocks.tbRun = false then .next s
  else if gm then
    .next (modEth (fun e => { e with syncOk := 0 })
      (((((s.wr ETH_PTPSTAT_GM 1).wr ETH_PTPSTAT_LOCKED 0).wr ETH_PTPSTAT_HOLDOVER 0).wr ETH_PTPSTAT_SLAVEPORT 0x1F).wr ETH_PTPSTAT_OFFSET 0))
  else
    let step := decide (1000 < offset.natAbs) && s.rd ETH_PTPCTL_STEPOK == 1 && !timePending s
    let lim : Int := iv * 500 / 1000000
    let move : Int := if step then -offset else max (-lim) (min lim adj)
    let s := { s with clocks := { s.clocks with tb := wrapTo 64 (s.clocks.tb + move) } }
    let s := if step then clkEvent 7 15 0 0 s else s
    let n := if offset.natAbs ≤ 100 then min 16 (s.eth.syncOk + 1) else 0
    .next (modEth (fun e => { e with syncOk := n })
      (((((s.wr ETH_PTPSTAT_GM 0).wr ETH_PTPSTAT_HOLDOVER 0).wr ETH_PTPSTAT_SLAVEPORT p).wr ETH_PTPSTAT_OFFSET (sat24 offset)).wr ETH_PTPSTAT_LOCKED
        (if n = 16 then 1 else 0)))

/-- GPTP_SYNC_LOSS (R418): the timebase holds its last rate.  [DESIGN CHOICE 65: notes/assumptions] -/
def execGptpSyncLoss (s : State) : Out :=
  if s.rd ETH_PTPCTL_EN = 0 ∨ s.rd ETH_PTPSTAT_SLAVEPORT = 0x1F then .next s
  else .next (modEth (fun e => { e with syncOk := 0 }) (((s.wr ETH_PTPSTAT_HOLDOVER 1).wr ETH_PTPSTAT_LOCKED 0).wr ETH_PTPSTAT_SLAVEPORT 0x1F))

/-! Event inputs (R423 to R426) -/

def State.pin (s : State) (k n : Nat) : Pin := tabGet {} s.pins (k * 32 + n)
def State.modPin (s : State) (k n : Nat) (f : Pin → Pin) : State := { s with pins := tabMod {} s.pins (k * 32 + n) f }

/-- Word of GIO_EVENT. -/
def gioWord (kind k n : Nat) : Nat := kind * 2 ^ 26 + k * 2 ^ 22 + n * 2 ^ 17

/-- The level is active under POL. -/
def pinActive (s : State) (k n : Nat) (level : Bool) : Bool := level != (s.rdi GIO_PCFG_POL (oPin k n) == 1)

/-- Stuck time in ns, 0 for off. -/
def stuckNs (s : State) (k n : Nat) : Nat := s.rdi GIO_PCFG_STUCK (oPin k n) * (if s.rdi GIO_PCFG_SUNIT (oPin k n) = 1 then 1000000 else 1000)

/-- An event is delivered at time `t`: the design's strobe, and the wake of the networks of the die that select the pin (R65, R423). -/
def deliverEvent (k n t : Nat) (s : State) : State :=
  let s := s.modPin k n fun p => { p with evAt := some t, merged := 0 }
  (List.range 32).foldl (fun s r => (List.range 4).foldl (fun s c => if s.rdi FDC_RCLK_EVSEL (oClk k r c) = n then wakeNet k r c 1 s else s) s) s

/-- Merged edges are delivered as one event, 20 ns after the last (R424). -/
def mergeDeliver (k n : Nat) (s : State) : State :=
  let p := s.pin k n
  match p.evAt with
  | some t => if p.merged = 0 then s else deliverEvent k n (t + 20) (s.reach (t + 20))
  | none => s

/-- A qualifying edge at time `t`.  [DEDUCED 66: notes/assumptions] -/
def eventEdge (k n t : Nat) (s : State) : State :=
  let s := match (s.pin k n).evAt with
    | some u => if u + 20 ≤ t then mergeDeliver k n s else s
    | none => s
  let p := s.pin k n
  match p.evAt with
  | some u =>
    if u + 20 ≤ t then deliverEvent k n t s
    else
      let s := s.modPin k n fun p => { p with merged := p.merged + 1 }
      if p.merged = 0 then s
      else
        let s := s.inci GIO_OVR_COUNT (oPin k n)
        if p.ovrSaid then s else (s.push GIO_EVENT_VALID (gioWord 3 k n)).modPin k n fun p => { p with ovrSaid := true }
  | none => deliverEvent k n t s

/-- EVENT_INPUT_EDGE (R423 to R425): at time `t` the filtered level of an event input has been confirmed by MINP samples and becomes `level`.  A masked
input that becomes inactive is re-armed.  [DEDUCED 66: notes/assumptions] -/
def execEventInputEdge (k : Fin 12) (n : Fin 32) (level : Bool) (t : Nat) (s0 : State) : Out :=
  let o := oPin k n
  let p := s0.pin k n
  if s0.rdi GIO_PCFG_EVEN o = 0 ∨ p.filt = level ∨ t < p.okAt then .next s0
  else
    let s := s0.reach t
    let act := pinActive s k n level
    let s := s.modPin k n fun p => { p with filt := level, okAt := t + 2 * s.rdi GIO_PCFG_MINP o, since := if act then some t else none }
    if p.masked then
      .next (if act then s else
        ((s.wri GIO_STUCK_MASK (4 * k) (s.rdi GIO_STUCK_MASK (4 * k) - 2 ^ n.val)).push GIO_EVENT_VALID (gioWord 2 k n)).modPin k n fun p => { p with masked := false })
    else if bit (s.rdi GIO_PCFG_EDGE o) (if act then 0 else 1) = 1 then .next (eventEdge k n t s)
    else .next s

/-- EVENT_MERGE_DELIVERY (R424). -/
def execEventMergeDelivery (k : Fin 12) (n : Fin 32) (s : State) : Out := .next (if (s.pin k n).masked then s else mergeDeliver k n s)

/-- EVENT_INPUT_STUCK (R425): the level has been active for more than STUCK. -/
def execEventInputStuck (k : Fin 12) (n : Fin 32) (s : State) : Out :=
  let p := s.pin k n
  match p.since with
  | some t =>
    if s.rdi GIO_PCFG_EVEN (oPin k n) = 0 ∨ p.masked ∨ stuckNs s k n = 0 then .next s
    else
      let s := s.reach (t + stuckNs s k n + 2)
      let s := (s.modPin k n fun p => { p with masked := true, merged := 0 }).wri GIO_STUCK_MASK (4 * k) (s.rdi GIO_STUCK_MASK (4 * k) ||| 2 ^ n.val)
      .next ((s.push GIO_EVENT_VALID (gioWord 1 k n)).record 0x0014 12 2 [gioWord 1 k n, s.rdi GIO_STUCK_MASK (4 * k)])
  | none => .next s

/-- GIO_PCFG[k][n] := v (R422, R426): the filter restarts from the pad, and the stuck timer where the level is active. -/
def pcfgWrite (k n v : Nat) (s : State) : State :=
  let s := putPinWord k n v s
  s.modPin k n fun p => { p with
    okAt := s.clocks.tb + 2 * s.rdi GIO_PCFG_MINP (oPin k n) - 1
    since := if s.rdi GIO_PCFG_EVEN (oPin k n) = 1 ∧ pinActive s k n p.filt = true then some s.clocks.tb else none }

/-- GIO_PCFG_WRITE.  [DEDUCED 66: notes/assumptions] -/
def execGioPcfgWrite (k : Fin 12) (n : Fin 32) (value : BitVec 32) (s : State) : Out := .next (pcfgWrite k n value.toNat s)

/-! Bank supplies (R427) -/

/-- BANK_SUPPLY_FAULT: the bank's pins go high-impedance (pinShows); the module enters SAFE unless R33 holds the die DORMANT. -/
def execBankSupplyFault (k : Fin 12) (s : State) : Out :=
  if s.rdi GIO_BSTAT_VFAULT (4 * k) = 1 then .next s
  else
    let w := gioWord 4 k 0
    let s := (s.wri GIO_BSTAT_VFAULT (4 * k) 1).push GIO_EVENT_VALID w
    let st := s.rdi GLB_DIESTAT_STATE (4 * k)
    .next (if 2 ≤ st then s.recordSt ST_HW_GIO_VCCO k [w] else s.fault ST_HW_GIO_VCCO k (s.dieRegions k) [w])

/-- BANK_SUPPLY_RESTORED.  [DEDUCED 66: notes/assumptions] -/
def execBankSupplyRestored (k : Fin 12) (s : State) : Out := .next (lossCheck (s.wri GIO_BSTAT_VFAULT (4 * k) 0))

/-! Clock edges (R42 to R47, R54 to R60, R81, R420) -/

/-- Pins of a bank whose I/O cells lie in region `r` of a design, with their configurations. -/
def regionPins (g : Design) (r : Nat) : Tab PinCfg := if r < 24 then [] else g.pins.filter fun p => p.1 / 4 + 24 == r

/-- What the output driver of a pin presents: none while its output enable is 0. -/
def pinOut (v : View) (c : PinCfg) (p : Pin) : Option Bool :=
  if (if c.oereg then p.oereg else v.get c.oe) then some (if c.oreg then p.oreg else v.get c.out) else none

/-- The I/O cells of a region at an edge of network `k`: `old` is what the region presented before it, `new` after. -/
def pinEdge (d r k : Nat) (old new : View) (pads : Nat) (s : State) : State :=
  (regionPins new.design r).foldl (fun s x =>
    let n := x.1
    let c := x.2
    let drives := (s.mode == RUN || s.mode == SHIFT) && c.net == k
    let level := if s.rdi GIO_PCFG_EVEN (oPin d n) = 1 then pinActive s d n (s.pin d n).filt && !(s.pin d n).masked else bit pads n == 1
    s.modPin d n fun p =>
      let p := if c.net = k then { p with oreg := old.get c.out, oereg := old.get c.oe, ireg := level } else p
      let p := if drives then { p with st := 2 } else p
      if p.st = 2 then { p with out := pinOut new c p } else p) s

/-- REGIONAL_CLOCK_EDGE: clock 0 to 3 is a regional network of region `r`, 4 + g the die's global clock `g` at the spine registers of its drop ports.  `ext`
are the outside signals, or for a spine the drop ports whose route presents 1; `pads` the levels of the bank's pads; `idle` whether the cycle is idle
(R66).  [DEDUCED 66: notes/assumptions] -/
def execRegionalClockEdge (d : Fin 12) (r : Fin 32) (clock : Fin 20) (ext : List Nat) (pads : BitVec 32) (idle : Bool) (s : State) : Out :=
  let g := s.region (rix d r)
  if s.dieLive d = false then .next s
  else if 4 ≤ clock.val then
    if s.rdi GEAR_DIE_GEAR (4 * d) = 0 then .next s
    else .next (s.modRegion (rix d r) fun x => { x with
      spine := (x.design.spines.filter fun p => p.2 + 4 == clock.val).foldl (fun m p => tabSet 0 m p.1 (ext.contains p.1).toNat) x.spine })
  else if bit (s.rdi FDC_RSTAT_CLKRUN (oReg d r)) clock = 0 then .next s
  else
    let h := regionEdge g clock ext
    let h := if s.rdi FDC_RCLK_MODE (oClk d r clock) = 2 then
        { h with idle := tabSet 0 h.idle clock (if idle then tabGet 0 h.idle clock + 1 else 0) } else h
    .next (pinEdge d r clock ⟨g.design, g.ff, g.prod, ext⟩ ⟨h.design, h.ff, h.prod, ext⟩ pads.toNat (s.modRegion (rix d r) fun _ => h))

end Sys2Proof.Machine
end

