-- ==== Sys2Proof/Machine/Update.lean ====
section
/-! DEFINITION. Field update: the commands of UPD_CMD, steps, holds, reverts and the trial (spec/22_field_update.md). -/

namespace Sys2Proof.Machine

open Sys2Proof

/-- UPD_CMD completes. -/
def updDone (st : Nat) (s : State) : State := (s.wr UPD_CMD_STATUS st).wr UPD_CMD_BUSY 0

/-- A GO of UPD_CMD with operation `n`; in DORMANT no master reaches the block.  [DESIGN CHOICE 5: notes/assumptions] -/
def updGo (n : Nat) (f : State → State) (s : State) : State := if s.mode = DORMANT then s else onGo UPD_CMD_BUSY UPD_CMD_OP n f s

def updState (s : State) : Nat := s.rd UPD_STAT_STATE

/-- The package that an update installs. -/
def updPkg (s : State) : Pkg := s.upd.pkg.getD {}

/-- Conditions of R566 that hold, in order: bit of HOLDS and status; `rev` leaves out ST_REFUSED_STATE (R575). -/
def updConds (p : Pkg) (rev : Bool) (s : State) : List (Nat × Nat) :=
  (if s.rd UPD_STAT_MOTION = 1 then [(0, ST_REFUSED_MOTION)] else []) ++
  (if s.rd PWR_STAT_MAINS = 0 ∨ s.rd PWR_STAT_WARN = 1 ∨ s.rd PWR_STAT_NVINH = 1 then [(1, ST_REFUSED_ENERGY)] else []) ++
  (if s.rd PWR_STAT_BATLOW = 1 ∨ s.rd PWR_STAT_BATABS = 1 then [(2, ST_REFUSED_BATTERY)] else []) ++
  (if s.rd SEC_STAT_OWNLOCK = 1 ∧ p.sigSlot ≠ 7 then [(3, ST_REFUSED_LOCK)] else []) ++
  (if s.mode = SAFE ∧ p.recovery = false ∧ rev = false then [(3, ST_REFUSED_STATE)] else [])

/-- The step of a component is deferred (R570). -/
def updDefers (c : Nat) (s : State) : Bool :=
  if c = 0 then
    s.rd SHF_STAT_STATE != 0 || s.rd WLT_EPOCH_STATE != 0 || (dieList.any fun g => s.rdi GEAR_STAT_PHASE (4 * g) != 0) || s.rd CFG_CMD_BUSY == 1 ||
      s.eyes.any fun p => p.2.swap.isSome
  else 6 ≤ c && (liveDies s).any fun d => dieGen s d + 5 == c && s.rdi GEAR_DIE_GROUP (4 * d) < 12 && s.rdi GEAR_STAT_PHASE (4 * s.rdi GEAR_DIE_GROUP (4 * d)) != 0

/-- What holds the step of component `c`. -/
def updHolds (c : Nat) (rev : Bool) (s : State) : List (Nat × Nat) :=
  updConds (updPkg s) rev s ++ (if updDefers c s then [(4, ST_UPD_BUSY)] else [])

/-- HOLDS shows the conditions. -/
def showHolds (l : List (Nat × Nat)) (s : State) : State := s.wr UPD_STAT_HOLDS (l.foldl (fun m x => m ||| 2 ^ x.1) 0)

/-- A step holds: HOLDS, and KIND 4 once. -/
def stepHold (c : Nat) (l : List (Nat × Nat)) (s : State) : State :=
  let s := showHolds l s
  if s.upd.held then s
  else (updEvent 4 c ((l.head?.map Prod.snd).getD 0) s).modUpd fun u => { u with held := true, heldAt := s.clocks.elapsed }

/-- PHY steps with PHYNOW = 1 retrain every link or bundle in service (R571). -/
def phyRetrain (c : Nat) (s : State) : State :=
  if s.rd UPD_CTL_PHYNOW = 0 then s
  else if c = 4 then (List.range 4).foldl (fun s k => cageLinks k (fun _ => false) s) s
  else if c = 5 then (List.range 8).foldl (fun s b => szlRetrain b s) s
  else s

/-- A step begins and completes: the copy is switched, forward or back. -/
def takeStep (c : Nat) (fwd : Bool) (s : State) : State :=
  let s := phyRetrain c (planDone c fwd (swapComp c fwd s))
  s.modUpd fun u => { u with taken := if fwd then u.taken ++ [c] else u.taken.erase c, held := false }

/-! Reverts (R573, R575) -/

/-- The switched steps go back in reverse order, until one holds or none is left.  [DEDUCED 55: notes/assumptions] -/
def revertSteps : (fuel : Nat) → State → State
  | 0, s => s
  | n + 1, s =>
    match s.upd.taken.getLast? with
    | none =>
      let auto := s.upd.auto
      let s := ((showHolds [] s).wr UPD_STAT_STATE 0).wr UPD_STAT_REVOK 0
      let s := if auto then s.wr UPD_RESULT_OUTCOME 4 else updResult 3 31 0 s
      (updEvent 7 (s.rd UPD_RESULT_COMP) (s.rd UPD_RESULT_STATUS) s).modUpd fun u => { u with auto := false, held := false, run := 0 }
    | some c =>
      let l := updHolds c true s
      if l = [] then revertSteps n (takeStep c false (showHolds [] s)) else stepHold c l s

/-- A revert begins.  [DEDUCED 55: notes/assumptions] -/
def revertBegin (auto : Bool) (s : State) : State :=
  revertSteps 22 ((s.wr UPD_STAT_STATE 8).modUpd fun u => { u with auto, held := false })

/-! Commands -/

/-- The first check of R565 that fails.  [DESIGN CHOICE 8: notes/assumptions] -/
def updCheck (p : Pkg) (s : State) : Nat :=
  if p.formatOk = false ∨ 2 ^ 31 < p.size ∨ p.id = 0 ∨ p.comps = [] ∨ (p.comps.any fun q => 21 ≤ q.1) ∨ 8 ≤ p.sigSlot then ST_UPD_FORMAT
  else if s.rd SEC_STAT_LC = 0 ∨ 4 ≤ s.rd SEC_STAT_LC then ST_REFUSED_LIFECYCLE
  else if slotAccepted s p.sigSlot = false ∨ tabGet 0 s.keyHash p.sigSlot ≠ p.keyHash ∨ (s.rd SEC_STAT_LC = 3 ∧ p.sigSlot ≠ 0) then ST_REFUSED_IMGKEY
  else if s.rd SEC_STAT_OWNLOCK = 1 ∧ p.sigSlot ≠ 7 then ST_REFUSED_LOCK
  else if p.sigOk = false then ST_INT_UPDSIG
  else match updConds p false s with
    | x :: _ => x.2
    | [] =>
      if p.digestsOk = false then ST_INT_UPDDIGEST
      else if (p.comps.any fun q => compPresent s q.1 && decide (q.2.version < (activeCopy s q.1).version)) ∧ (p.downgrade = false ∨ s.rd UPD_CTL_DOWNOK = 0) then
        ST_COMPAT_ROLLBACK
      else if (planOf s p.comps).isNone then ST_COMPAT_UPD
      else 0

/-- UPD_PLAN shows a plan. -/
def showPlan (l : List Nat) (s : State) : State :=
  (List.range 21).foldl (fun s i =>
    ((s.wri UPD_PLAN_VALID (4 * i) (decide (i < l.length)).toNat).wri UPD_PLAN_DONE (4 * i) 0).wri UPD_PLAN_COMP (4 * i) (l.getD i 0)) s

/-- The new versions go into the previous copies of the plan's components, `n` of them. -/
def writeCopies (p : Pkg) (l : List Nat) (n : Nat) (s : State) : State :=
  s.modUpd fun u => { u with prev := (l.take n).foldl (fun t c => tabSet {} t c (tabGet {} p.comps c)) u.prev }

/-- STAGE (R565): `p` is the package in the staging area (ARG0 = 0) or the package area (1); `stop` says that a write is abandoned under R494, and
after how many of the package area and the copies.  [DEDUCED 55: notes/assumptions] -/
def updStage (area : Pkg) (stop : Option Nat) (s : State) : State :=
  updGo 1 (fun s =>
    if 2 ≤ s.rd UPD_ARG0_VALUE then updDone ST_UPD_BADCMD s
    else if updState s ≠ 0 ∧ updState s ≠ 3 then updDone ST_UPD_STATE s
    else
      let p? := if s.rd UPD_ARG0_VALUE = 0 then some area else s.upd.pkg
      match p? with
      | none => updDone ST_UPD_FORMAT s
      | some p =>
        let st := updCheck p s
        if st ≠ 0 then updDone st s
        else
          let l := (planOf s p.comps).getD []
          let s := (s.wr UPD_STAT_REVOK 0).modUpd fun u => { u with taken := [], run := 0, held := false, wasSusp := false }
          match stop with
          | some n =>
            let s := (writeCopies p l (n - 1) s).modUpd fun u => { u with
              pkg := if n = 0 then none else some p
              prev := match l[n - 1]? with
                | some c => if n = 0 then u.prev else tabSet {} u.prev c { tabGet {} p.comps c with valid := false }
                | none => u.prev }
            updDone ST_CFG_NVINH (s.wr UPD_STAT_STATE 0)
          | none =>
            let s := (writeCopies p l 21 s).modUpd fun u => { u with pkg := some p }
            let s := (((showPlan l s).wr UPD_STAT_NSTEP l.length).wr UPD_STAT_STEP 0).wr UPD_STAT_SLIP 0
            let s := (s.wr64 UPD_PKGIDL_ID UPD_PKGIDH_ID p.id).wr UPD_STAT_STATE 3
            updDone 0 (updEvent 1 31 0 s)) s

/-- UPD_STAGE.  [DESIGN CHOICE 54: notes/assumptions] -/
def execUpdStage (pkg : Pkg) (stop : Option Nat) (s : State) : Out := .next (updStage pkg stop s)

/-- Now and the earliest activation time, by clock: ns of the timebase, or RTC seconds.  [DEDUCED 55: notes/assumptions] -/
def updNow (clock : Nat) (s : State) : Nat := if clock = 0 then s.clocks.tb else s.clocks.rtc
def updUnit (clock : Nat) : Nat := if clock = 0 then 1 else 1000000000

/-- UPD_ACTIVATE (R568). -/
def updActivate (s : State) : State :=
  updGo 2 (fun s =>
    let c := s.rd UPD_ARG2_VALUE
    let t0 := s.rd64 UPD_ARG0_VALUE UPD_ARG1_VALUE
    let least := updNow c s + 10000000
    let t := if t0 = 0 then (least + updUnit c - 1) / updUnit c else t0
    if 2 ≤ c then updDone ST_UPD_BADCMD s
    else if updState s ≠ 3 ∧ updState s ≠ 6 then updDone ST_UPD_STATE s
    else if t * updUnit c < least ∨ (c = 1 ∧ s.rd CLK_RTCSECH_VALID = 0) then updDone ST_UPD_TIME s
    else match updConds (updPkg s) false s with
      | x :: _ => updDone x.2 s
      | [] =>
        let s := (s.wr64 UPD_TAL_T UPD_TAH_T t).modUpd fun u => { u with clock := c, t, run := 0, held := false, wasSusp := updState s == 6 }
        updDone 0 (updEvent 2 31 0 (s.wr UPD_STAT_STATE 4))) s

def execUpdActivate (s : State) : Out := .next (updActivate s)

/-- UPD_ABORT (R568). -/
def updAbort (s : State) : State :=
  updGo 3 (fun s => if updState s ≠ 4 then updDone ST_UPD_STATE s else updDone 0 (s.wr UPD_STAT_STATE (if s.upd.wasSusp then 6 else 3))) s

def execUpdAbort (s : State) : Out := .next (updAbort s)

/-- UPD_REVERT (R575). -/
def updRevert (s : State) : State :=
  updGo 4 (fun s =>
    let st := updState s
    if st ≠ 7 ∧ st ≠ 6 ∧ (st ≠ 0 ∨ s.rd UPD_STAT_REVOK = 0) then updDone ST_UPD_STATE s
    else match updConds (updPkg s) true s with
      | x :: _ => updDone x.2 s
      | [] => updDone 0 (revertBegin false s)) s

def execUpdRevert (s : State) : Out := .next (updRevert s)

/-- The trial ends, or there is none: the update is installed (R574). -/
def updInstalled (s : State) : State :=
  ((updResult 1 31 0 ((s.wr UPD_STAT_STATE 0).wr UPD_STAT_REVOK 1))).modUpd fun u => { u with trial := false }

/-- UPD_CONFIRM (R574). -/
def updConfirm (s : State) : State :=
  updGo 5 (fun s => if updState s ≠ 7 then updDone ST_UPD_STATE s else updDone 0 (updEvent 8 31 0 (updInstalled s))) s

def execUpdConfirm (s : State) : Out := .next (updConfirm s)

/-- TRIAL_END (R574). -/
def execTrialEnd (s : State) : Out :=
  if updState s = 7 then .next (updEvent 8 31 0 (updInstalled (s.reachElapsed (s.upd.trialAt + s.rd UPD_TRIAL_SEC * 1000000000)))) else .next s

/-! Steps (R569 to R573) -/

/-- The first step not DONE, with its place in the plan. -/
def nextStep (s : State) : Option Nat := (List.range (s.rd UPD_STAT_NSTEP)).find? fun i => s.rdi UPD_PLAN_DONE (4 * i) == 0

/-- The block waits until a time of the activation clock. -/
def reachClock (clock t : Nat) (s : State) : State :=
  if clock = 0 then s.reach t else if s.clocks.rtc < t then s.pass (t - s.clocks.rtc) else s

/-- After the last step: TRIAL, or with SEC = 0 the update is installed. -/
def stepsDone (s : State) : State :=
  if s.rd UPD_TRIAL_SEC = 0 then updInstalled s
  else (s.wr UPD_STAT_STATE 7).modUpd fun u => { u with trialAt := s.clocks.elapsed }

/-- The step due of an update that runs: at its grid time it begins, unless it holds. -/
def stepStart (s : State) : State :=
  match nextStep s with
  | none => stepsDone s
  | some i =>
    let c := s.rdi UPD_PLAN_COMP (4 * i)
    let at_ := s.upd.t * updUnit s.upd.clock + s.upd.run * (max 1 (s.rd UPD_CTL_STEPIV)) * 100000000
    let s := (reachClock s.upd.clock at_ s).wr UPD_STAT_STATE 5
    let s := s.wr UPD_STAT_STEP i
    let l := updHolds c false s
    if l ≠ [] then stepHold c l s
    else
      let s := if at_ < updNow s.upd.clock s then s.wr UPD_STAT_SLIP (min 255 (s.rd UPD_STAT_SLIP + 1)) else s
      let s := (takeStep c true (showHolds [] s)).modUpd fun u => { u with run := u.run + 1 }
      let s := updEvent 3 c 0 s
      match nextStep s with
      | none => stepsDone s
      | some j => s.wr UPD_STAT_STEP j

/-- UPDATE_STEP_START (R569): also a step of a revert that has held.  [DESIGN CHOICE 54: notes/assumptions] -/
def execUpdateStepStart (s : State) : Out :=
  if updState s = 4 ∨ updState s = 5 then .next (stepStart s)
  else if updState s = 8 then .next (revertSteps 22 s)
  else .next s

/-- UPDATE_STEP_HOLD_TIMEOUT (R569, R570): the status of the first condition in HOLDS. -/
def execUpdateStepHoldTimeout (s : State) : Out :=
  if updState s = 5 ∧ s.upd.held = true then
    let s := s.reachElapsed (s.upd.heldAt + max 1 (s.rd UPD_CTL_HOLDOFF) * 1000000000)
    match nextStep s with
    | none => .next s
    | some i =>
      let c := s.rdi UPD_PLAN_COMP (4 * i)
      match updHolds c false s with
      | [] => .next s
      | x :: _ =>
        .next (updEvent 5 c x.2 (updResult 2 c x.2 ((s.wr UPD_STAT_STATE 6).modUpd fun u => { u with held := false })))
  else .next s

/-- UPDATE_STEP_FAILURE (R573, R574): a switched component does not run its new version. -/
def execUpdateStepFailure (c : Fin 21) (s : State) : Out :=
  if (updState s = 5 ∨ updState s = 7) ∧ s.upd.taken.contains c.val = true then
    let s := updEvent 6 c ST_HW_UPD_COMP (takeStep c false s)
    if s.rd UPD_CTL_AUTOREV = 1 then .next (revertBegin true (updResult 4 c ST_HW_UPD_COMP s))
    else .next (updEvent 5 c ST_HW_UPD_COMP (updResult 2 c ST_HW_UPD_COMP (s.wr UPD_STAT_STATE 6)))
  else .next s

/-- MOTION_INPUT_CHANGE (R566): the MOTION input after its 10 ms filter; an open input reads active.  [DEDUCED 53: notes/assumptions] -/
def execMotionInputChange (active : Bool) (s : State) : Out := .next (s.wr UPD_STAT_MOTION active.toNat)

end Sys2Proof.Machine
end

