-- ==== Sys2Proof/Machine/Security.lean ====
section
/-! DEFINITION. Heartbeat, signed commands, life cycle, tamper and owner lock (spec/20_sideband_and_security.md, R517 to R534). -/

namespace Sys2Proof.Machine

open Sys2Proof

def State.modSide (s : State) (f : Sideband → Sideband) : State := { s with side := f s.side }
def State.modSecur (s : State) (f : Secur → Secur) : State := { s with secur := f s.secur }

/-! Heartbeat (R517, R518) -/

/-- SBP_CTRL as a word, SBP_EVENT, and the record of a lapse or a change of control. -/
def wSbpCtrl (s : State) : Nat := s.pack 0 [SBP_CTRL_ARMED, SBP_CTRL_LAPSED, SBP_CTRL_CONTROL]
def sbpEvent (kind : Nat) (s : State) : State := s.push SBP_EVENT_VALID (kind * 2 ^ 26)
def sbpRecord (kind : Nat) (s : State) : State := s.record 0x000C 12 2 [2 ^ 31 + kind * 2 ^ 26, wSbpCtrl s]

/-- A host write of GLB_HEARTBEAT. -/
def hbWrite (v : Nat) (s : State) : State :=
  if s.mode = DORMANT then s
  else if v % 2 ^ 16 ≠ 0x4842 then s.inci GLB_HBBAD_COUNT 0
  else
    let s := s.modSide fun x => { x with hbAt := some s.clocks.elapsed }
    let s := if s.rd GLB_HBTMO_TMO = 0 then s else s.wr SBP_CTRL_ARMED 1
    if s.rd SBP_CTRL_LAPSED = 1 then sbpEvent 2 (s.wr SBP_CTRL_LAPSED 0) else s

/-- HEARTBEAT_WRITE. -/
def execHeartbeatWrite (value : BitVec 32) (s : State) : Out := .next (hbWrite value.toNat s)

/-- ACT 1 of R518. -/
def lapseAct (s : State) : State :=
  let st := s.rd SHF_STAT_STATE
  let ask : State := s.modSide fun x => { x with stopWait := true }
  if s.mode = RUN then (if st = 0 then reqHold s else ask)
  else if s.mode ≠ SHIFT then s
  else if (1 ≤ st ∧ st ≤ 5) ∨ (st = 6 ∧ s.clocks.tb + 10000 < s.shf.tc) then
    shfAbandon ST_SHF_LAPSE 0xF (if s.rd SHF_CMD_BUSY = 1 then shfDone ST_SHF_LAPSE ask else ask)
  else if st = 7 then (shfReleaseNow false ask).wr SHF_RESULT_STATUS ST_SHF_LAPSE
  else ask

/-- HEARTBEAT_LAPSE: TMO ms since the last valid heartbeat of an armed monitor. -/
def execHeartbeatLapse (s : State) : Out :=
  match s.side.hbAt with
  | none => .next s
  | some t =>
    if s.mode = DORMANT ∨ s.rd SBP_CTRL_ARMED = 0 ∨ s.rd SBP_CTRL_LAPSED = 1 then .next s
    else
      let s := (s.reachElapsed (t + s.rd GLB_HBTMO_TMO * 1000000)).wr SBP_CTRL_LAPSED 1
      let s := sbpRecord 1 (sbpEvent 1 s)
      .next (if s.rd GLB_HBTMO_ACT = 1 then lapseAct s else s)

/-! Wipes (R118, R123) -/

/-- The vault and every sealed bank of every die that is up are cleared, spares and check bits included.  [DEDUCED 69: notes/assumptions] -/
def wipeAll (s : State) : State :=
  let sealed := s.banks.filter fun p => p.2.sealed && s.dieUp (p.1 / 2048)
  let s := sealed.foldl (fun s p =>
    let a := bankAddr (p.1 / 2048) (p.1 / 64 % 32) (p.1 % 64) 0
    (s.clearMem a (a + 0x2000)).modBank p.1 fun k => { k with marks := [] }) s
  let s := (dieList.filter fun d => sealed.any fun p => p.1 / 2048 == d).foldl (fun s d =>
    s.modDie d fun x => match x.wiping with
      | some t => if s.clocks.elapsed < t + 5000 then x else { x with wiping := some s.clocks.elapsed }
      | none => { x with wiping := some s.clocks.elapsed }) s
  let s := s.clearMem vaultBase (vaultBase + 0x100000)
  { s with marks := s.marks.filter fun p => p.1 < vaultBase || vaultBase + 0x100000 ≤ p.1 }

/-! Owner lock (R528) -/

/-- OWNLOCK follows the owner slot and the input. -/
def ownLockFollow (s : State) : State :=
  let now := if slotAccepted s 7 ∧ s.rd SEC_STAT_OWNIN = 1 then 1 else 0
  if s.rd SEC_STAT_OWNLOCK = now then s else secEvent 7 0 (s.wr SEC_STAT_OWNLOCK now)

/-- OWNER_LOCK_CHANGE: the input after its 10 ms filter; an open input reads active.  [DEDUCED 53: notes/assumptions] -/
def execOwnerLockChange (active : Bool) (s : State) : Out := .next (ownLockFollow (s.wr SEC_STAT_OWNIN active.toNat))

/-! Signed commands (R529, R530) -/

/-- `n` bytes of the block at offset `i`. -/
def secField (s : State) (i n : Nat) : Nat := s.rdMem n (lastBase + 64 * s.rd SEC_CMDADR_OFFSET + i)
def secBytes (s : State) (i n : Nat) : List Nat := s.rdBytes n (lastBase + 64 * s.rd SEC_CMDADR_OFFSET + i)

/-- Number whose first byte is the most significant. -/
def bigEndian (l : List Nat) : Nat := l.foldl (fun v b => v * 256 + b) 0

def secOp (s : State) : Nat := secField s 4 2
def secSlot (s : State) : Nat := secField s 6 1
def secArg (s : State) (i n : Nat) : Nat := secField s (0x18 + i) n

/-- Signers that R525 names for a transition: unsigned allowed, and the slots allowed. -/
def lcSigner (s : State) (to_ : Nat) : Bool × (Nat → Bool) :=
  match s.rd SEC_STAT_LC, to_ with
  | 0, 1 => (true, fun _ => false)
  | 1, 2 => (true, fun _ => true)
  | 2, 3 => (false, fun n => n == if bit (s.rd SEC_STAT_SLOTPROG) 7 = 1 then 7 else 0)
  | 3, 2 => (false, fun n => n == 0)
  | l, 4 => (decide (l ≤ 1), fun _ => true)
  | _, _ => (true, fun _ => true)

/-- The signer is permitted (step 3 of R529).  [DEDUCED 67: notes/assumptions] -/
def signerOk (s : State) : Bool :=
  let op := secOp s
  let n := secSlot s
  let lc := lcSigner s (secArg s 0 1)
  if n = 0xFF then
    if op = 1 then decide (s.rd SEC_STAT_LC ≤ 1) else if op = 3 then lc.1 else false
  else
    n < 8 && slotAccepted s n && Config.sha384 (secBytes s 0x60 96) == tabGet 0 s.keyHash n && (s.rd SEC_STAT_OWNLOCK == 0 || n == 7) &&
      (op != 3 || lc.2 n)

/-- The checks of R529 before the operation's own: 0 where they pass.  [DEDUCED 67: notes/assumptions] -/
def secCheck (s : State) : Nat :=
  let off := 64 * s.rd SEC_CMDADR_OFFSET
  if off < 4 * 0x80000 ∨ 0x2000000 < off + 288 ∨ secField s 0 4 ≠ 0x314D4353 ∨ secOp s = 0 ∨ 7 < secOp s ∨ secField s 7 1 ≠ 0 then ST_SEC_BADCMD
  else if secField s 8 8 ≠ s.rd64 SEC_MODSNL_SN SEC_MODSNH_SN ∨ secField s 0x10 8 ≠ s.rd64 SEC_NONCEL_N SEC_NONCEH_N then ST_INT_STALE
  else if signerOk s = false then ST_REFUSED_SIGNER
  else if secSlot s ≠ 0xFF ∧ Config.signatureOk (bigEndian (secBytes s 0x60 96)) (bigEndian (secBytes s 0xC0 96)) (secBytes s 0 0xC0) = false then ST_INT_CMDSIG
  else 0

/-- SEC_NONCE takes a new value.  [DESIGN CHOICE 1: notes/assumptions] -/
def newNonce (s : State) : State :=
  let n := s.free 64
  (n.2.wr SEC_NONCEL_N (n.1 % 2 ^ 32)).wr SEC_NONCEH_N (n.1 / 2 ^ 32)

/-- SEC_CMD completes; a refusal writes KIND 8. -/
def secDone (refused : Bool) (st : Nat) (s : State) : State :=
  let s := newNonce ((s.wr SEC_CMD_STATUS st).wr SEC_CMD_BUSY 0)
  if refused then secEvent 8 st s else s

/-- An operation that was carried out: its SEC_EVENT, its black-box record, and completion. -/
def secMade (kind : Nat) (s : State) : State := secDone false 0 ((secEvent kind 0 s).recordOpen 12 [2 ^ 31 + kind * 2 ^ 26])

/-- A GO of SEC_CMD on a block with operation `op`: the checks, then `f`, which answers a refusal or the state after. -/
def secGo (op : Nat) (f : State → Nat ⊕ State) (s : State) : State :=
  if s.mode = DORMANT ∨ secOp s ≠ op then s
  else if s.rd SEC_CMD_BUSY = 1 ∧ s.asked.contains SEC_CMD_BUSY.adr = false then s
  else
    let s : State := { s with asked := s.asked.erase SEC_CMD_BUSY.adr }
    if s.rd SEC_STAT_LC = 4 then (s.wr SEC_CMD_STATUS ST_REFUSED_LIFECYCLE).wr SEC_CMD_BUSY 0
    else if secCheck s ≠ 0 then secDone true (secCheck s) s
    else match f s with
      | .inl st => secDone true st s
      | .inr t => t

/-- Short writes start only while NVINH is 0 (R494).  [DEDUCED 67: notes/assumptions] -/
def fuseFirst (s : State) (t : State) : Nat ⊕ State := if s.rd PWR_STAT_NVINH = 1 then .inl ST_SEC_NVINH else .inr t

/-- SIGNED_PROGRAM_SLOT: operation 1; `ok` says that the fuses read back.  [DEDUCED 67: notes/assumptions] -/
def secProgram (ok : Bool) (s : State) : State :=
  secGo 1 (fun s =>
    let n := secArg s 0 1
    if 8 ≤ n then .inl ST_SEC_BADCMD
    else if bit (s.rd SEC_STAT_SLOTPROG) n = 1 then .inl ST_SEC_STATE
    else fuseFirst s (if ok = false then secDone false ST_HW_FUSE s
      else
        let h := bigEndian (secBytes s 0x19 48)
        secMade 3 (ownLockFollow ({ s with keyHash := tabSet 0 s.keyHash n h }.wr SEC_STAT_SLOTPROG (s.rd SEC_STAT_SLOTPROG + 2 ^ n))))) s

def execSignedProgramSlot (ok : Bool) (s : State) : Out := .next (secProgram ok s)

/-- SIGNED_REVOKE_SLOT: operation 2. -/
def secRevoke (ok : Bool) (s : State) : State :=
  secGo 2 (fun s =>
    let n := secArg s 0 1
    if 8 ≤ n then .inl ST_SEC_BADCMD
    else if ((List.range 8).any fun m => m != n && slotAccepted s m) = false then .inl ST_REFUSED_LASTKEY
    else fuseFirst s (if ok = false then secDone false ST_HW_FUSE s
      else secMade 4 (ownLockFollow (s.wr SEC_STAT_SLOTREV (s.rd SEC_STAT_SLOTREV ||| 2 ^ n))))) s

def execSignedRevokeSlot (ok : Bool) (s : State) : Out := .next (secRevoke ok s)

/-- The debug port's state after a change of life cycle (R524): open in BLANK, DEVELOP and RETURN. -/
def dbgPortFollow (s : State) : State :=
  let o := if s.rd SEC_STAT_LC ≤ 1 ∨ s.rd SEC_STAT_LC = 3 then 1 else 0
  ((s.wr SEC_STAT_DBGOPEN o).wr DBG_PORT_OPEN o).wr DBG_PORT_UNLOCKED 0

/-- A condition of R525 on a transition fails.  [DEDUCED 67: notes/assumptions] -/
def lcBad (s : State) (to_ : Nat) : Bool :=
  match s.rd SEC_STAT_LC, to_ with
  | 0, 1 => bit (s.rd SEC_STAT_SLOTPROG) 0 == 0
  | 1, 2 => s.rd SEC_STAT_SLOTPROG % 128 == 0
  | 2, 3 => false
  | 3, 2 => 3 ≤ s.rd SEC_STAT_RETCNT
  | l, 4 => l == 4
  | _, _ => true

/-- LIFE_CYCLE_TRANSITION: operation 3 (R525, R533).  [DEDUCED 67: notes/assumptions] -/
def secLife (ok : Bool) (s : State) : State :=
  secGo 3 (fun s =>
    let to_ := secArg s 0 1
    let from_ := s.rd SEC_STAT_LC
    if 5 ≤ to_ then .inl ST_SEC_BADCMD
    else if (s.mode ≠ LOAD ∧ s.mode ≠ HOLD) ∨ lcBad s to_ = true then .inl ST_SEC_STATE
    else fuseFirst s (
      let s := wipeAll s
      if ok = false then secDone false ST_HW_FUSE s
      else
        let s := dbgPortFollow (s.wr SEC_STAT_LC to_)
        let s := if to_ = 3 ∨ to_ = 4 then keysErase s else s
        let s := if from_ = 3 ∧ to_ = 2 then s.wr SEC_STAT_RETCNT (s.rd SEC_STAT_RETCNT + 1) else s
        let s := if from_ = 1 ∧ to_ = 2 then s.modSecur fun x => { x with
            fuseEn := s.rd SEC_TAMPEN_EN, fuseZero := s.rd SEC_TAMPACT_ZERO, fuseSafe := s.rd SEC_TAMPACT_SAFE } else s
        secMade 2 s)) s

def execLifeCycleTransition (ok : Bool) (s : State) : Out := .next (secLife ok s)

/-- SIGNED_LOAD_KEY: operation 4 (R527). -/
def secLoadKey (s : State) : State :=
  secGo 4 (fun s =>
    let n := secArg s 0 1
    let off := secArg s 4 4
    let blob := s.rdBytes 136 (lastBase + off)
    if n = 0 ∨ 16 ≤ n ∨ 0x2000000 < off + 136 then .inl ST_SEC_BADCMD
    else if Config.sha384 blob ≠ bigEndian (secBytes s 0x20 48) then .inl ST_INT_KEYBLOB
    else
      let k := Config.decrypt 0 (s.rd64 SEC_MODSNL_SN SEC_MODSNH_SN) blob
      if k.2 = false then .inl ST_INT_KEYBLOB
      else fuseFirst s (secMade 5 ((s.modSecur fun x => { x with keys := tabSet 0 x.keys n (bigEndian k.1) }).wr SEC_KEYS_PRESENT
        (s.rd SEC_KEYS_PRESENT ||| 2 ^ (n - 1))))) s

def execSignedLoadKey (s : State) : Out := .next (secLoadKey s)

/-- SIGNED_ERASE_KEY: operation 5. -/
def secEraseKey (s : State) : State :=
  secGo 5 (fun s =>
    let n := secArg s 0 1
    if 16 ≤ n then .inl ST_SEC_BADCMD
    else fuseFirst s (secMade 6 (if n = 0 then keysErase s
      else (s.modSecur fun x => { x with keys := tabErase x.keys n }).wr SEC_KEYS_PRESENT (s.rd SEC_KEYS_PRESENT &&& (2 ^ 15 - 1 - 2 ^ (n - 1)))))) s

def execSignedEraseKey (s : State) : Out := .next (secEraseKey s)

/-- SIGNED_DEBUG_UNLOCK: operation 6. -/
def secUnlock (s : State) : State :=
  secGo 6 (fun s =>
    if s.rd SEC_STAT_LC ≠ 2 then .inl ST_SEC_STATE
    else .inr (secDone false 0 (secEvent 9 0 (((s.wr SEC_STAT_DBGOPEN 1).wr DBG_PORT_OPEN 1).wr DBG_PORT_UNLOCKED 1)))) s

def execSignedDebugUnlock (s : State) : Out := .next (secUnlock s)

/-- The cell service window opens for 600 s (R534).  [DESIGN CHOICE 71: notes/assumptions] -/
def openWindow (s : State) : State := ((s.wr SEC_BATSVC_OPEN 1).wr SEC_BATSVC_REMAIN 600).modSecur fun x => { x with winAt := s.clocks.elapsed }

/-- SIGNED_CELL_SERVICE: operation 7. -/
def secCell (s : State) : State :=
  secGo 7 (fun s => if s.rd PWR_STAT_STBY = 0 then .inl ST_SEC_STATE else .inr (secDone false 0 (openWindow s))) s

def execSignedCellService (s : State) : Out := .next (secCell s)

/-- A GO whose block holds no operation of R530. -/
def secBad (s : State) : State :=
  if s.mode = DORMANT ∨ s.rd SEC_CMD_BUSY = 1 then s
  else if s.rd SEC_STAT_LC = 4 then s.wr SEC_CMD_STATUS ST_REFUSED_LIFECYCLE
  else if secCheck s ≠ 0 then secDone true (secCheck s) s else s

/-- A GO written to SEC_CMD: an operation that programs fuses waits for its row (notes/assumptions/5.md).  [DEDUCED 70: notes/assumptions] -/
def secCmdGo (s : State) : State :=
  match secOp s with
  | 1 | 2 | 3 =>
    if s.mode = DORMANT ∨ s.rd SEC_CMD_BUSY = 1 then s
    else { (s.wr SEC_CMD_BUSY 1) with asked := s.asked ++ [SEC_CMD_BUSY.adr] }
  | 4 => secLoadKey s
  | 5 => secEraseKey s
  | 6 => secUnlock s
  | 7 => secCell s
  | _ => secBad s

/-- CELL_SERVICE_OPEN: a GO of SEC_BATSVC.  [DEDUCED 70; DESIGN CHOICE 71: notes/assumptions] -/
def batGo (s : State) : State :=
  if s.mode = DORMANT then s
  else if s.rd SEC_STAT_OWNLOCK = 1 then s.wr SEC_BATSVC_STATUS ST_REFUSED_SIGNER
  else if s.rd PWR_STAT_STBY = 0 then s.wr SEC_BATSVC_STATUS ST_SEC_STATE
  else openWindow (s.wr SEC_BATSVC_STATUS 0)

def execCellServiceOpen (s : State) : Out := .next (batGo s)

/-- CELL_SERVICE_CLOSE: after 600 s, or at once where the standby output is lost.  [DESIGN CHOICE 71: notes/assumptions] -/
def execCellServiceClose (s : State) : Out :=
  if s.rd SEC_BATSVC_OPEN = 0 then .next s
  else .next (batClose (if s.rd PWR_STAT_STBY = 0 then s else s.reachElapsed (s.secur.winAt + 600000000000)))

/-! Tamper (R531, R532) -/

/-- TAMPER_EVENT: source `src` becomes active or, with `live` false, inactive.  It is watched while the coin cell or the standby output is present; a
cell removed in a cell service window is no event.  [DEDUCED 69: notes/assumptions] -/
def execTamperEvent (src : Fin 5) (live : Bool) (s : State) : Out :=
  if s.rd PWR_STAT_STBY = 0 ∧ s.rd PWR_STAT_BATABS = 1 ∧ src.val ≠ 4 then .next s
  else
    let s := putBit SEC_TAMPRAW_RAW src live s
    if live = false ∨ bit (s.rd SEC_TAMPEN_EN) src = 0 ∨ (src.val = 4 ∧ s.rd SEC_BATSVC_OPEN = 1) then .next s
    else
      let s := putBit SEC_TAMPER_LATCH src true (wipeAll s)
      let s := secEvent 1 (2 ^ src.val) s
      let w := 2 ^ 31 + 2 ^ 26 + 2 ^ src.val
      let safe := bit (s.rd SEC_TAMPACT_SAFE) src = 1 ∧ 2 ≤ s.mode ∧ s.mode ≤ 4
      let s := if bit (s.rd SEC_TAMPACT_ZERO) src = 1 then
          (if s.rd PWR_STAT_NVINH = 1 ∨ s.rd PWR_STAT_MAIN = 0 then s.modSecur fun x => { x with eraseWait := true } else secEvent 6 0 (keysErase s)) else s
      .next (if safe then s.fault ST_HW_TAMPER 12 s.allRegions [w] else s.recordSt ST_HW_TAMPER 12 [w])

end Sys2Proof.Machine
end

