-- ==== Sys2Proof/Machine/Shf.lean ====
section
/-! DEFINITION. Live changeover, attach and detach, and the epoch changes they make (spec/12_live_changeover.md, R193 to R198). -/

namespace Sys2Proof.Machine

open Sys2Proof

/-! Shared parts -/

/-- A GO of SHF_CMD with operation `n` (R317).  [DESIGN CHOICE 5: notes/assumptions] -/
def shfGo (n : Nat) (f : State → State) (s : State) : Out := .next (onGo SHF_CMD_BUSY SHF_CMD_OP n f s)

def shfState (s : State) : Nat := s.rd SHF_STAT_STATE

/-- Dies of a 13-bit mask, 12 being the Last. -/
def maskDies (m : Nat) : List Nat := (List.range 13).filter fun d => bit m d == 1

/-- Dies that take part, and their lowest. -/
def inDies (s : State) : List Nat := (List.range 13).filter fun d => s.rdi SHF_DIEST_IN (4 * d) == 1
def lowest (l : List Nat) : Nat := l.foldl min 0xF

/-- Dies have failed to arm, to acknowledge, or their check.  [DEDUCED 46: notes/assumptions] -/
def shfFailed (l : List (Nat × Nat)) (s : State) : State :=
  l.foldl (fun s p => (s.wri SHF_DIEST_FAILED (4 * p.1) 1).wri SHF_DIEST_REASON (4 * p.1) p.2) s

/-- A changeover that a command has in progress is abandoned, and the command completes (R317, R323). -/
def shfDrop (st die : Nat) (s : State) : State := shfAbandon st die (if s.rd SHF_CMD_BUSY = 1 then shfDone st s else s)

/-- The per-die bits of a new changeover. -/
def clearDiest (s : State) : State :=
  (List.range 13).foldl (fun s d => (((s.wri SHF_DIEST_REASON (4 * d) 0).wri SHF_DIEST_FAILED (4 * d) 0).wri SHF_DIEST_FLIPPED (4 * d) 0).wri SHF_DIEST_ARMED (4 * d) 0) s

/-- SHIFT begins (R317). -/
def shiftBegin (kind st : Nat) (s : State) : State :=
  (((clearDiest (s.toMode SHIFT 0)).wr SHF_STAT_KIND kind).wr SHF_STAT_STATE st).wr CFG_CMD_BUSY 1

/-- STAGE and DETACH are accepted in RUN, in IDLE, with no mode request in progress (R317). -/
def shiftAllowed (s : State) : Bool := shfState s == 0 && s.mode == RUN && s.rd GLB_MODE_BUSY == 0

/-! Scheduled times (R181, R325) -/

/-- First lace frame whose boundary lies at or after timebase `t`, and the timebase of a frame's boundary in ns, rounded down. -/
def frameAt (t : Nat) (s : State) : Nat := (5 * (t - s.clocks.tb) + s.welt.lace + 2047) / 2048
def frameTime (f : Nat) (s : State) : Nat := s.clocks.tb + (2048 * f - s.welt.lace) / 5

/-- The time a command asks for: none where it is nearer than 100 µs. -/
def askedTime (s : State) : Option Nat :=
  let t := s.rd64 SHF_ARG0_VALUE SHF_ARG1_VALUE
  let soon := s.clocks.tb + 100000
  if t = 0 then some soon else if t < soon then none else some t

/-! Staging (R319 to R321) -/

/-- Banks for which an image gives records. -/
def recordBanks (i : Image) : List (Nat × Nat × Nat) :=
  (i.banks.filter fun p => p.2 != []).map fun p => (p.1 / 2048, p.1 / 64 % 32, p.1 % 64)

def keptBank (i : Image) (d r b : Nat) : Bool :=
  i.keep.any fun e => keepKind e == 2 && bits e 56 4 == d && bits e 51 5 == r && bits e 45 6 == b

/-- A bank is live: the active plane connects a pin of a fabric port of it. -/
def bankLive (s : State) (d r b : Nat) : Bool := lists s.cfg.aimg d r && (tabGet {} (imgReg s.cfg.aimg d r).banks b).live

/-- An image uses an express net: its routing joins the channel, or a design of a region it lists reads it. -/
def usesNet (i : Image) (x : Nat) : Bool :=
  (i.spine.pass.any fun p => p.1 == x || p.2 == x) || (i.spine.xc.any fun p => p.1 == x || xix (p.2 / 2 ^ 13) 0 (p.2 % 2 ^ 13) == x) ||
    i.regs.any fun q => q.2.design.spineNet.any fun p => p.2 == x + 1

/-- The cases of R320: the status of the first that refuses. -/
def stageCheck (s : State) (i : Image) : Option Nat :=
  let a := s.cfg.aimg
  let keepBad := i.keep.any fun e =>
    let d := bits e 56 4
    let r := bits e 51 5
    if keepKind e = 3 then !(usesNet a (xix (bits e 55 5) (bit e 54) (bits e 41 13)) && usesNet i (xix (bits e 55 5) (bit e 54) (bits e 41 13)))
    else !(lists a d r && lists i d r) ||
      (keepKind e == 2 && (imgDie a d).seals.contains (r, bits e 45 6) && !(imgDie i d).seals.contains (r, bits e 45 6))
  if (recordBanks i).any fun p => bankLive s p.1 p.2.1 p.2.2 && !keptBank i p.1 p.2.1 p.2.2 then some ST_SHF_BANKLIVE
  else if i.progs.any fun p => a.progs.any fun q => overlap p.1 (p.1 + p.2.length) q.1 (q.1 + q.2.length) then some ST_SHF_PROGLIVE
  else if dieList.any fun d => (imgDie a d).use && (imgDie i d).use && (imgDie a d).iov != (imgDie i d).iov then some ST_SHF_IOSTD
  else if keepBad then some ST_SHF_KEEP else none

/-- First failure of check 10 over every chunk. -/
def chunksCheck (i : Image) : Refused := (List.range (i.nchunk + 1)).findSome? fun c => chunkCheck i c

/-- The whole check of a staging: R300, then R320. -/
def stageRefusal (i : Image) (s : State) : Refused × State :=
  match imageCheck i (s.rd64 CFG_AIMGL_ID CFG_AIMGH_ID) s with
  | (some r, s) => (some r, s)
  | (none, s) =>
    match chunksCheck i with
    | some r => (some r, s)
    | none =>
      match recordCheck s i with
      | some r => (some r, s)
      | none => (if laceCheck i then some (ST_WLT_LACE, 0, 0, 0) else (stageCheck s (resolveDelta s.cfg.aimg i)).map fun st => (st, 0, 0, 0), s)

/-- Dies that the active image excludes and the staged one uses come up: rails, trim and Eyelets; they stay out of Welt (R321). -/
def raiseForStage (i : Image) (s : State) : State :=
  let ds := (usedDies i).filter fun d => s.rdi GLB_DIESTAT_STATE (4 * d) == 4
  let up := fun (s : State) (d : Nat) => s.rdi GLB_DIESTAT_STATE (4 * d) == 1 || ds.contains d
  let s := ds.foldl (fun s d => dieGear d 1 (startTrim d 1 (railsOn d s))) s
  let s := (ds.flatMap dieEyes).foldl (fun s e => if (eyeDies e).all (up s) then (retrainEye [] e s).1 else s) s
  s.modShf fun x => { x with raised := ds }

/-- SHF_STAGE (R319): `img` is what the staging area holds. -/
def execShfStage (img : Image) (s : State) : Out :=
  shfGo 1 (fun s =>
    let src := s.rd SHF_ARG0_VALUE
    if shiftAllowed s = false then shfDone ST_SHF_STATE s
    else if 12 < src then shfDone ST_SHF_BADCMD s
    else
      let s := (shiftBegin 0 1 s).wr SHF_CMD_BUSY 1
      if channelFailed s then shfDone ST_HW_DRC_CHANNEL (shfEnd 2 ST_HW_DRC_CHANNEL 0xF (cfgResult src (some (ST_HW_DRC_CHANNEL, 0, 0, 0)) s))
      else match sourceImage s src img with
      | none => shfDone ST_CFG_NOSLOT (shfEnd 2 ST_CFG_NOSLOT 0xF (cfgResult src (some (ST_CFG_NOSLOT, 0, 0, 0)) s))
      | some i =>
        match stageRefusal i s with
        | (some r, s) => shfDone r.1 (shfEnd 2 r.1 0xF (cfgResult src (some r) s))
        | (none, s) =>
          let j := resolveDelta s.cfg.aimg i
          let s := raiseForStage j ((cfgResult src none s).modShf fun x => { x with img := j, src })
          let s := s.modCfg fun c => { c with simg := {} }
          (List.range 13).foldl (fun s d => s.wri SHF_DIEST_IN (4 * d) ((d == 12 || (imgDie s.cfg.aimg d).use || (imgDie j d).use).toNat)) s) s

/-- The shadow planes of a staged image (R293, R319 step 3). -/
def stageFrames (i : Image) (s : State) : State :=
  ((usedDies i ++ [12]).flatMap unitsOf).foldl (fun s u =>
    let p := 1 - activeOf s u
    let uses := u / 33 == 12 || (imgDie s.cfg.aimg (u / 33)).use
    let s := writeUnit i u p (1 - p) uses s
    if u / 33 < 12 ∧ u % 33 < 32 then s.modRegion (rix (u / 33) (u % 33)) (setDesign p (imgReg i (u / 33) (u % 33)).design) else s) s

/-- STAGING_COMPLETE (R319 steps 3 and 4): frames, bank contents and programs are written. -/
def execShfStagingComplete (s : State) : Out :=
  if shfState s ≠ 1 then .next s
  else
    let i := s.shf.img
    let s := showBadsel (stageFrames i s)
    let s := (recordBanks i).foldl (fun s p => loadBank p.1 p.2.1 p.2.2 (tabGet [] i.banks (bix p.1 p.2.1 p.2.2)) s) s
    let s := putExpress (1 - s.express.plane) i (loadProgs i s)
    .next (shfDone 0 ((showImages (s.modCfg fun c => { c with simg := i })).wr SHF_STAT_STATE 2))

/-- SHF_VERIFY (R322). -/
def execShfVerify (s : State) : Out :=
  shfGo 2 (fun s =>
    if shfState s ≠ 2 then shfDone ST_SHF_STATE s
    else
      let x := verifyDies (usedDies s.cfg.simg ++ [12]) [1] s
      match x.1 with
      | some f => shfDone ST_INT_FRAMECRC ((x.2.wr CFG_RESLOC_KIND 1).wr CFG_RESLOC_VALUE f)
      | none => shfDone 0 (x.2.wr SHF_STAT_STATE 3)) s

/-! Arming (R323, R324) -/

/-- The gear check of R323 step 1: no die above its new timing gear, and the dies of a new group at one gear; dies raised for the staging are at
G1 and take their group's gear. -/
def armGears (s : State) : Bool :=
  let i := s.cfg.simg
  let ds := (usedDies i).filter fun d => !s.shf.raised.contains d
  (ds.all fun d => decide (s.rdi GEAR_DIE_GEAR (4 * d) ≤ (imgDie i d).tgear)) &&
    ds.all fun d => ds.all fun e => (imgDie i d).ggroup != (imgDie i e).ggroup || s.rdi GEAR_DIE_GEAR (4 * d) == s.rdi GEAR_DIE_GEAR (4 * e)

/-- SHF_ARM (R323 steps 1 and 2). -/
def execShfArm (s : State) : Out :=
  shfGo 3 (fun s =>
    if shfState s ≠ 3 then shfDone ST_SHF_STATE s
    else if s.rd CFG_STAT_SBADSEL = 1 then shfDone ST_CFG_BADSEL s
    else if s.rd WLT_EPOCH_STATE ≠ 0 then shfDone ST_WLT_EPOCH_BUSY (s.wr WLT_EPOCH_STATUS ST_WLT_EPOCH_BUSY)
    else if armGears s = false then shfDone ST_SHF_GEAR s
    else
      let s := ((s.wr SHF_CMD_BUSY 1).wr SHF_EPOCH_EPOCH (s.rd SHF_EPOCH_EPOCH + 1)).wr SHF_STAT_STATE 4
      epochStart 1 s.cfg.simg.lace none s) s

/-- ARM_ANSWER_TIMEOUT (R323 step 3): the dies of `miss` have not answered with the epoch by 1.00 ms. -/
def execArmAnswerTimeout (miss : BitVec 13) (s : State) : Out :=
  let l := (maskDies miss.toNat).filter fun d => (inDies s).contains d && s.rdi SHF_DIEST_ARMED (4 * d) == 0
  if shfState s ≠ 4 ∨ l = [] then .next s
  else .next (shfDrop ST_SHF_ARMFAIL (lowest l) (shfFailed (l.map fun d => (d, ST_SHF_ARMFAIL)) s))

/-- A die can confirm its shadow frames: every unit is WRITTEN or VERIFIED (R323 step 3). -/
def shadowWritten (s : State) (d : Nat) : Bool :=
  !(s.cfg.simg.dies.any fun p => p.1 == d && p.2.use) ||
    (unitsOf d).all fun u => (unitSt s u (1 - activeOf s u)).st == 1 || (unitSt s u (1 - activeOf s u)).st == 2

/-- ARM_COMPLETE (R323 step 4): every die and every Welt element has confirmed. -/
def execArmComplete (s : State) : Out :=
  if shfState s ≠ 4 ∨ s.rd WLT_EPOCH_STATE ≠ 2 ∨ (List.range 13).all (shadowWritten s) = false then .next s
  else
    let s := (inDies s).foldl (fun s d => s.wri SHF_DIEST_ARMED (4 * d) 1) s
    .next (shfDone 0 ((s.wr SHF_STAT_STATE 5).modShf fun x => { x with tr := s.clocks.tb }))

/-- ARM_TIMEOUT (R324): ARMTMO ms in ARMED without COMMIT; a field of 0 counts as 1. -/
def execArmTimeout (s : State) : Out :=
  if shfState s ≠ 5 then .next s
  else .next (shfDrop ST_SHF_ARMTMO 0xF (s.reach (s.shf.tr + max 1 (s.rd SHF_CTL_ARMTMO) * 1000000)))

/-! Epoch changes (R195) -/

/-- EPOCH_CONFIRMED (R195 step 2): every element has its bank.  F is the boundary the changeover names, or the first at least four frames
ahead; an arm names none yet (R323). -/
def execEpochConfirmed (s : State) : Out :=
  if s.rd WLT_EPOCH_STATE ≠ 1 then .next s
  else
    let s := s.wr WLT_EPOCH_STATE 2
    if s.welt.chg.cause = 1 then .next s
    else .next (s.wr WLT_EPOCHF_F (s.welt.chg.frame.getD (boundaryAfter 4 s)))

/-- EPOCH_BOUNDARY (R195 step 4): a change that has its F reaches it; from F on the endpoints of regions that detach are disabled (R337
step 5).  [DEDUCED 23; DESIGN CHOICE 47: notes/assumptions] -/
def execEpochBoundary (s : State) : Out :=
  let st := shfState s
  if s.rd WLT_EPOCH_STATE ≠ 2 ∨ (s.welt.chg.cause ≠ 4 ∧ st ≠ 6 ∧ st ≠ 8 ∧ st ≠ 10) then .next s
  else
    let s := epochBoundary s
    if s.welt.chg.cause = 4 then
      .next (s.shf.regs.foldl (fun s p => ((List.range 32).filter fun r => bit p.2 r == 1).foldl (fun s r => s.modRegion (rix p.1 r) fun g => { g with epOff := true }) s) s)
    else .next s

/-- A region that a detach has stopped and that stays goes on: its networks and its cores.  [DESIGN CHOICE 47: notes/assumptions] -/
def undetach (s : State) : State :=
  s.shf.regs.foldl (fun s p => ((List.range 32).filter fun r => bit p.2 r == 1).foldl (fun s r =>
    let c := rix p.1 r
    let s := startNets p.1 r (s.modRegion c fun g => { g with quiescing := false, epOff := (imgReg s.cfg.aimg p.1 r).weltOff })
    if awlState s c = awlSTOPPED ∧ s.rdi AWL_STAT_MODESTOP (oAwl c) = 1 then resumeCore c s else s) s) s

/-- EPOCH_CONFIRM_TIMEOUT (R195): an element has not confirmed by 2.00 ms; the change is abandoned and its cause completes with
ST_HW_WLT_TABLE.  [DESIGN CHOICE 47: notes/assumptions] -/
def execEpochConfirmTimeout (s : State) : Out :=
  if s.rd WLT_EPOCH_STATE ≠ 1 then .next s
  else
    let s := ((s.wr WLT_EPOCH_STATE 0).wr WLT_EPOCH_STATUS ST_HW_WLT_TABLE).recordSt ST_HW_WLT_TABLE 12 [s.welt.chg.cause]
    if shfState s = 9 then .next (pump (shfDone ST_HW_WLT_TABLE (shfEnd 2 ST_HW_WLT_TABLE 0xF (undetach s))))
    else if shfState s = 4 ∨ shfState s = 10 then .next (shfDrop ST_HW_WLT_TABLE 0xF s)
    else .next s

/-! Commit (R325 to R330) -/

/-- SHF_COMMIT: T_c is the first lace frame boundary at or after T. -/
def execShfCommit (s : State) : Out :=
  shfGo 4 (fun s =>
    if shfState s ≠ 5 then shfDone ST_SHF_STATE s
    else match askedTime s with
      | none => shfDone ST_SHF_TOOSOON s
      | some t =>
        let f := frameAt t s
        let tc := frameTime f s
        let s := ((s.wr64 SHF_TCL_T SHF_TCH_T tc).wr WLT_EPOCHF_F f).modShf fun x => { x with tc }
        ((s.modWelt fun w => { w with chg := { w.chg with frame := some f } }).wr SHF_STAT_STATE 6).wr SHF_CMD_BUSY 1) s

/-- COMMIT_ACK_DEADLINE (R325): at T_c − 10.0 µs the dies of `miss` have not acknowledged; the changeover is abandoned on every die. -/
def execCommitAckDeadline (miss : BitVec 13) (s : State) : Out :=
  let st := shfState s
  let l := (maskDies miss.toNat).filter fun d => (inDies s).contains d
  if (st ≠ 6 ∧ st ≠ 10) ∨ s.rdi SHF_DIEST_FLIPPED 48 = 1 then .next s
  else
    let s := s.reach (s.shf.tc - 10000)
    if l = [] then .next s
    else .next (shfDrop ST_SHF_ARMFAIL (lowest l) (shfFailed (l.map fun d => (d, ST_SHF_ARMFAIL)) s))

/-- At T_c or T_r the ports stamp the new epoch, if EPOCH_BOUNDARY has not come already. -/
def boundaryNow (s : State) : State := if s.rd WLT_EPOCH_STATE = 2 then epochBoundary s else s

/-- COMMIT_AT_TC (R325 steps 2 to 4, R326 to R329, R338): every die flips at its commit edge; `ext` gives the outside signals that the carried
flip-flops' logic sees in each region. -/
def execCommitAtTc (ext : Tab (List Nat)) (s : State) : Out :=
  let st := shfState s
  if (st ≠ 6 ∧ st ≠ 10) ∨ s.rdi SHF_DIEST_FLIPPED 48 = 1 ∨ s.rd WLT_EPOCH_STATE < 2 then .next s
  else
    let s := boundaryNow (s.reach s.shf.tc)
    if st = 10 then .next (pump ((attachFlip s).wri SHF_DIEST_FLIPPED 48 1))
    else
      let s := s.shf.raised.foldl (fun s d => s.wri GLB_DIESTAT_STATE (4 * d) 1) s
      .next (pump (commitFlip ext s))

/-- Dies that a check after a flip finds wrong (R330): a frame of the new active plane is uncorrectable, or a listed region is not LOADED.  [DEDUCED 46: notes/assumptions] -/
def checkFails (s : State) : List (Nat × Nat) :=
  (bothDies s ++ [12]).filterMap fun d =>
    if verifyBad s d 0 != [] then some (d, ST_ECC_FRAME)
    else if d < 12 ∧ (List.range 32).any (fun r => lists s.cfg.aimg d r && s.rdi FDC_RSTAT_LOADED (oReg d r) == 0) = true then some (d, ST_HW_SHF_COMMIT) else none

/-- Reports FAILED of dies that take part, each with its record.  [DEDUCED 46: notes/assumptions] -/
def reportFails (l : List (Nat × Nat)) (s : State) : State :=
  (l.foldl (fun s p => s.recordSt ST_HW_SHF_COMMIT p.1 [p.2]) (shfFailed l s)).wr SHF_RESULT_FAILDIE (lowest (l.map Prod.fst))

/-- Targets held back or changed by an image's timing gears are taken (R324, R442). -/
def gearsAfterShift (s : State) : State := dieList.foldl (fun s g => gearTake g s) s

/-- A rollback begins (R333): T_r is a lace frame boundary, and its epoch change loads nothing. -/
def startRollback (auto : Bool) (s : State) : State :=
  let soon := s.clocks.tb + 100000
  let f := frameAt (if auto then soon else max soon (s.rd64 SHF_ARG0_VALUE SHF_ARG1_VALUE)) s
  let tr := frameTime f s
  let s := (s.wr64 SHF_TRL_T SHF_TRH_T tr).modShf fun x => { x with tr, rbAuto := auto, rbWait := none }
  let s := (List.range 13).foldl (fun s d => s.wri SHF_DIEST_FLIPPED (4 * d) 0) s
  (((epochStart 2 {} (some f) s).wr WLT_EPOCH_STATE 2).wr WLT_EPOCHF_F f).wr SHF_STAT_STATE 8

/-- A rollback waits for the epoch change of the commit, or begins. -/
def askRollback (auto : Bool) (s : State) : State :=
  if s.rd WLT_EPOCH_STATE = 0 then startRollback auto s else s.modShf fun x => { x with rbWait := some auto }

/-- COMMIT_REPORT_DEADLINE (R325 step 5, R330, R338): at T_c + 10.0 µs, or later within CHKWIN, the dies report; `fails` are the failures that
the model does not find itself, each with its reason. -/
def execCommitReportDeadline (fails : List (Nat × Nat)) (s : State) : Out :=
  let st := shfState s
  if s.rdi SHF_DIEST_FLIPPED 48 = 0 ∨ (st ≠ 6 ∧ st ≠ 7 ∧ st ≠ 10) then .next s
  else if st = 7 ∧ s.shf.tc + max 1 (s.rd SHF_CTL_CHKWIN) * 10000 < s.clocks.tb then .next s
  else
    let s := s.reach (s.shf.tc + 10000)
    let l := (fails.filter fun p => (inDies s).contains p.1) ++ checkFails s
    let s := if l = [] then s else reportFails l s
    if st = 10 then .next (gearsAfterShift (attachFinish s))
    else
      let s := if st = 6 then gearsAfterShift (shfDone 0 ((showImages s).wr SHF_STAT_STATE 7)) else s
      if s.side.stopWait then .next ((shfReleaseNow false s).wr SHF_RESULT_STATUS ST_SHF_LAPSE)
      else if l ≠ [] ∧ s.rd SHF_CTL_AUTORB = 1 ∧ s.shf.rbWait = none then .next (askRollback true s) else .next s

/-! Abandonment, rollback and release (R317, R331 to R333, R336) -/

/-- SHF_ABANDON: operation 5, which BUSY does not hold off. -/
def execShfAbandon (s : State) : Out :=
  let st := shfState s
  let s : State := { (s.wr SHF_CMD_OP 5) with asked := s.asked.erase SHF_CMD_BUSY.adr }
  if (1 ≤ st ∧ st ≤ 5) ∨ (st = 6 ∧ s.clocks.tb + 10000 < s.shf.tc) then .next (shfDone 0 (shfAbandon 0 0xF s))
  else .next (s.wr SHF_CMD_STATUS ST_SHF_STATE)

/-- The route tables and the lace schedule of the active image are in force at once (R336), with the variant of the half-width set. -/
def laceNow (s : State) : State :=
  let old := s.welt.sched
  let new := s.cfg.aimg.lace
  let s := takeEnables old new (s.modWelt fun w => if w.bank = 0 then { w with sched0 := new } else { w with sched1 := new })
  if s.rd WLT_SVC_STATE = 3 then
    let set := halfSet s
    (s.wr WLT_HALFSET_HALF set).wr WLT_LACE_VIDX ((variantFor new set).getD 0)
  else s

/-- SHF_ROLLBACK (R333, R336): at a scheduled time in SHIFT, at once in HOLD. -/
def execShfRollback (s : State) : Out :=
  shfGo 6 (fun s =>
    if shfState s ≠ 7 ∨ (s.mode ≠ SHIFT ∧ s.mode ≠ HOLD) ∨ s.shf.rbWait.isSome then shfDone ST_SHF_STATE s
    else if s.mode = HOLD then shfDone 0 (gearsAfterShift (rollbackFinish (laceNow (rollbackFlip [] (s.modShf fun x => { x with rbAuto := false })))))
    else match askedTime s with
      | none => shfDone ST_SHF_TOOSOON s
      | some _ => askRollback false (s.wr SHF_CMD_BUSY 1)) s

/-- ROLLBACK_AT_TR (R333): every die flips back, and each has reported at T_r + 10.0 µs; one that fails takes the module to SAFE. -/
def execRollbackAtTr (ext : Tab (List Nat)) (fails : List (Nat × Nat)) (s : State) : Out :=
  if shfState s ≠ 8 ∨ s.rd WLT_EPOCH_STATE < 2 then .next s
  else
    let s := pump (rollbackFlip ext (boundaryNow (s.reach s.shf.tr)))
    let s := s.reach (s.shf.tr + 10000)
    let l := (fails.filter fun p => (inDies s).contains p.1) ++ checkFails s
    let s := if l = [] then s else reportFails l s
    let busy := s.rd SHF_CMD_BUSY == 1
    let s := gearsAfterShift (rollbackFinish s)
    let s := if busy then shfDone 0 s else s
    match l with
    | [] => .next s
    | p :: _ => .next (s.fault ST_HW_SHF_COMMIT p.1 (l.flatMap fun q => if q.1 = 12 then s.allRegions else s.dieRegions q.1) [p.2])

/-- SHF_RELEASE (R331, R336). -/
def execShfRelease (s : State) : Out :=
  shfGo 7 (fun s =>
    if shfState s ≠ 7 ∨ (s.mode ≠ SHIFT ∧ s.mode ≠ HOLD) ∨ s.shf.rbWait.isSome then shfDone ST_SHF_STATE s
    else shfDone 0 (gearsAfterShift (shfReleaseNow false s))) s

/-- AUTO_RELEASE (R331): RELTMO seconds after T_c. -/
def execAutoRelease (s : State) : Out :=
  let n := s.rd SHF_RELTMO_SEC
  if shfState s ≠ 7 ∨ n = 0 ∨ s.mode ≠ SHIFT ∨ s.shf.rbWait.isSome then .next s
  else .next (gearsAfterShift (shfReleaseNow true (s.reach (s.shf.tc + n * 1000000000))))

/-- EPOCH_DRAIN_COMPLETE (R195 step 5, R325 step 6): nothing of the old epoch is left; a rollback that waits begins (R333).  [DEDUCED 23: notes/assumptions] -/
def execEpochDrainComplete (s : State) : Out :=
  if s.rd WLT_EPOCH_STATE ≠ 3 ∨ oldGone s = false then .next s
  else
    let s := epochDrained s
    match s.shf.rbWait with
    | some auto => if shfState s = 7 then .next (startRollback auto s) else .next s
    | none => .next s

/-! Attach (R338) -/

/-- Regions that an attach adds: die and mask. -/
def attachRegs (s : State) : List (Nat × Nat) :=
  (dieList.map fun d => (d, (imgDie s.cfg.simg d).regions - ((imgDie s.cfg.simg d).regions &&& ((imgDie s.cfg.aimg d).regions - ((imgDie s.cfg.aimg d).regions &&& s.rdi SHF_DETACHED_MASK (4 * d)))))).filter fun p => p.2 != 0

/-- The staged image keeps the rules of R338; `entriesOk` says so of the entries of its die-level and Last frames. -/
def attachOk (entriesOk : Bool) (s : State) : Bool :=
  let i := s.cfg.simg
  let add := attachRegs s
  i.delta && i.base == s.cfg.aimg.id && entriesOk &&
    (dieList.all fun d =>
      let keep := (imgDie s.cfg.aimg d).regions - ((imgDie s.cfg.aimg d).regions &&& s.rdi SHF_DETACHED_MASK (4 * d))
      keep &&& (imgDie i d).regions == keep) &&
    i.frames.all fun f => frameUnit f.1 % 33 == 32 || add.any fun p => frameDie f.1 == p.1 && bit p.2 (frameUnit f.1 % 33) == 1

/-- SHF_ATTACH. -/
def execShfAttach (entriesOk : Bool) (s : State) : Out :=
  shfGo 8 (fun s =>
    if shfState s ≠ 2 then shfDone ST_SHF_STATE s
    else if attachOk entriesOk s = false then shfDone ST_SHF_NOTDELTA (shfAbandon ST_SHF_NOTDELTA 0xF s)
    else if s.rd CFG_STAT_SBADSEL = 1 then shfDone ST_CFG_BADSEL s
    else if s.rd WLT_EPOCH_STATE ≠ 0 then shfDone ST_WLT_EPOCH_BUSY (s.wr WLT_EPOCH_STATUS ST_WLT_EPOCH_BUSY)
    else match askedTime s with
      | none => shfDone ST_SHF_TOOSOON s
      | some t =>
        let f := frameAt t s
        let tc := frameTime f s
        let regs := attachRegs s
        let s := (((s.wr SHF_CMD_BUSY 1).wr SHF_STAT_KIND 1).wr SHF_STAT_STATE 10).wr64 SHF_TCL_T SHF_TCH_T tc
        let s := s.modShf fun x => { x with tc, regs }
        epochStart 3 s.cfg.simg.lace (some f) s) s

/-! Detach (R337, R197, R198) -/

/-- An endpoint lies in a region that detaches. -/
def epLeaves (regs : List (Nat × Nat)) (e : Nat) : Bool := epInRegion e && regs.any fun p => p.1 == epDie e && bit p.2 (epRegion e) == 1

/-- The regions of a mask of a die. -/
def maskRegs (p : Nat × Nat) : List (Nat × Nat) := ((List.range 32).filter fun r => bit p.2 r == 1).map fun r => (p.1, r)

/-- Guaranteed flows of the regions are handed over or disabled (R198).  [DESIGN CHOICE 47: notes/assumptions] -/
def leaveFlows (regs : List (Nat × Nat)) (s : State) : State :=
  s.welt.flows.foldl (fun s p =>
    let x := s.flowNow p.1
    if (s.flowSt p.1).en ∧ (epLeaves regs x.src ∨ epLeaves regs x.dst) then
      let s := s.modFlow p.1 fun y => { y with en := false }
      match x.hand with
      | some t => s.modFlow t fun y => { y with en := true }
      | none => s
    else s) s

/-- Held requests that a test picks are answered with ST_WLT_RETRY. -/
def retryHeldIf (f : Held → Bool) (s : State) : State :=
  let l := s.welt.held.filter f
  pump (l.foldl (fun s h => refuse h.req ST_WLT_RETRY s) (s.modWelt fun w => { w with held := w.held.filter fun h => !f h }))

/-- A request waits for a lock of a master in these regions (R197). -/
def waitsOnLeaving (s : State) (regs : List (Nat × Nat)) (h : Held) : Bool :=
  (match h.why with | .lock => true | _ => false) && s.welt.locks.any fun l => l.tgt == h.req.dst && touches h.req l.line && epLeaves regs l.owner

/-- SHF_DETACH (R337 steps 1 and 2). -/
def execShfDetach (s : State) : Out :=
  shfGo 9 (fun s =>
    let m := s.rd SHF_ARG0_VALUE
    let d := s.rd SHF_ARG1_VALUE % 16
    if shiftAllowed s = false then shfDone ST_SHF_STATE s
    else if 12 ≤ d ∨ m = 0 ∨ 32 ≤ s.rd SHF_ARG1_VALUE ∨ (List.range 32).any (fun r => bit m r == 1 && (!lists s.cfg.aimg d r || bit (s.rdi SHF_DETACHED_MASK (4 * d)) r == 1)) = true then
      shfDone ST_SHF_BADCMD s
    else if s.rd WLT_EPOCH_STATE ≠ 0 then shfDone ST_WLT_EPOCH_BUSY (s.wr WLT_EPOCH_STATUS ST_WLT_EPOCH_BUSY)
    else
      let regs := [(d, m)]
      let s := (shiftBegin 2 9 s).wr SHF_CMD_BUSY 1
      let s := (s.modShf fun x => { x with regs, off := bit (s.rd SHF_ARG1_VALUE) 4 == 1, step := 1 }).wri SHF_DIEST_IN (4 * d) 1
      let s := (maskRegs (d, m)).foldl (fun s p =>
        (List.range 4).foldl (fun s k => setRun p.1 p.2 k true s) (s.modRegion (rix p.1 p.2) fun g => { g with quiescing := true })) s
      retryHeldIf (waitsOnLeaving s regs) (leaveFlows regs s)) s

/-- QUIESCE_TIMEOUT (R337 step 3): the design raises QACK, or SHF_QTMO expires. -/
def execQuiesceTimeout (s : State) : Out :=
  if shfState s ≠ 9 ∨ s.shf.step ≠ 1 then .next s
  else
    let regs := s.shf.regs
    let s := retryHeldIf (fun h => epLeaves regs h.req.dst) s
    let s := (regs.flatMap maskRegs).foldl (fun s p => stopCore true (rix p.1 p.2) s) s
    .next (s.modShf fun x => { x with step := 2 })

/-- Class 0 units of the regions' flows are still queued or in the network (R189, R198). -/
def leavingBusy (s : State) (regs : List (Nat × Nat)) : Bool :=
  s.welt.flows.any fun p => flowBusy s p.1 && (epLeaves regs (s.flowNow p.1).src || epLeaves regs (s.flowNow p.1).dst)

/-- DETACH_COMPLETE (R337 steps 4 to 6): with nothing of the regions' own outstanding their clocks stop and the epoch change begins; once it is
past its boundary the regions are retained or off. -/
def execDetachComplete (s : State) : Out :=
  if shfState s ≠ 9 then .next s
  else
    let regs := s.shf.regs
    if s.shf.step = 2 then
      let cores := (regs.flatMap maskRegs).map fun p => rix p.1 p.2
      if (s.welt.out.any fun o => epLeaves regs o.src) ∨ leavingBusy s regs ∨ (cores.any fun c => (s.core c).stopping.isSome) = true then .next s
      else
        let s := (regs.flatMap maskRegs).foldl (fun s p => stopRegion p.1 p.2 s) s
        .next (epochStart 4 s.welt.sched none (s.modShf fun x => { x with step := 3 }))
    else if s.shf.step = 3 ∧ (s.rd WLT_EPOCH_STATE = 0 ∨ s.rd WLT_EPOCH_STATE = 3) then .next (gearsAfterShift (detachFinish s))
    else .next s

end Sys2Proof.Machine
end

