-- ==== Sys2Proof/Machine/Debug.lean ====
section
/-! DEFINITION. The debug domain: comparators, Welt monitors, TRIGIN, monitor entry and triggered captures
(spec/21_debug_run_control.md, R536, R537, R545 to R553, R559, R560). -/

namespace Sys2Proof.Machine

open Sys2Proof

def State.modDbg (s : State) (f : Dbg → Dbg) : State := { s with dbg := f s.dbg }

/-- The debug domain is powered (R536). -/
def dbgPowered (s : State) : Bool := s.rd DBG_PORT_POWER == 1

/-- DEBUG_RESET: TRST* low, or the rail of the domain rising. -/
def execDebugReset (s : State) : Out := .next (debugReset s)

/-- PROBE_ATTACH: PROBE_PRSNT changes; in DORMANT it powers the domain, or leaves it unpowered. -/
def execProbeAttach (on : Bool) (s : State) : Out :=
  let s := s.wr DBG_PORT_PROBE on.toNat
  if s.mode ≠ DORMANT then .next s
  else
    let p := on && s.rd PWR_STAT_STBY == 1
    .next (if s.rd DBG_PORT_POWER = p.toNat then s else (debugReset s).wr DBG_PORT_POWER p.toNat)

/-- A monitor entry of `cause` is due on the core; it is lost where the core cannot enter, and a second comparator hit in one LOCK window sets
MULTI (R550, R553).  [DEDUCED 74: notes/assumptions] -/
def requestEntry (c cause comp : Nat) (s : State) : State :=
  let p := tabGet 0 s.dbg.pend c
  if cannotEnter s c then s
  else if p = 0 then s.modDbg fun x => { x with pend := tabSet 0 x.pend c (cause + 8 * comp + if (s.core c).lk.isSome then 32 else 0) }
  else if (s.core c).lk.isSome ∧ (cause = 2 ∨ cause = 3) ∧ (p % 8 = 2 ∨ p % 8 = 3) then s.wri DBG_STAT_MULTI (oDbg c) 1
  else s

/-- A pulse on TRIGOUT: 100 ns, merged with one being driven (R549). -/
def trigPulse (s : State) : State := if s.clocks.elapsed < s.dbg.trigOut then s else s.modDbg fun x => { x with trigOut := s.clocks.elapsed + 100 }

/-- A capture trigger is on its way to the debug domain.  [DESIGN CHOICE 75: notes/assumptions] -/
def trigCapture (s : State) : State := s.modDbg fun x => { x with trig := x.trig + 1 }

/-- Offset of comparator `i` of core `c`. -/
def oCmp (c i : Nat) : Nat := c * 0x80 + i * 0x10

/-- `a` equals `v` in every bit that `m` does not mask (R545, R548). -/
def maskedEq (a v m w : Nat) : Bool := (a ^^^ v) &&& (2 ^ w - 1 - m) == 0

/-- Comparator `i` matches what it watches at address `a` with data `d` (R545). -/
def cmpMatches (s : State) (c i a d : Nat) : Bool :=
  let o := oCmp c i
  s.rdi DBG_CMPCTL_EN o == 1 && s.rdi DBG_CMPCTL_KIND o != 7 && maskedEq a (s.rdi DBG_CMPADR_VALUE o) (s.rdi DBG_CMPMSK_VALUE o) 32 &&
    (s.rdi DBG_CMPCTL_KIND o == 0 || s.rdi DBG_CMPCTL_DMATCH o == 0 || d == s.rdi DBG_CMPDAT_VALUE o)

/-- Address of the oldest unretired instruction. -/
def oldestPc (k : Core) : Nat :=
  match k.loads with
  | l :: _ => l.ckpt.pc
  | [] => k.arch.pc

/-- The instruction that an execution comparator compares (R546): the oldest unretired one for ACT 1, the last retired one otherwise. -/
def execPc (s : State) (c i : Nat) : Nat :=
  if s.rdi DBG_CMPCTL_ACT (oCmp c i) = 1 then oldestPc (s.core c) else s.rdi AWL_PC_PC (oAwl c)

/-- COMPARATOR_HIT: comparator `i` of core `c` matches an instruction, or an access of a retiring one at `addr` with `data` (R545 to R547); every
(SKIP + 1)th hit acts.  [DEDUCED 74: notes/assumptions] -/
def execComparatorHit (c : Fin 384) (i : Fin 4) (addr data : BitVec 32) (s : State) : Out :=
  let o := oCmp c i
  if dbgPowered s = false ∨ inSession s c ∨ awlState s c ≠ awlRUN ∨ cmpMatches s c i addr.toNat data.toNat = false ∨
      (s.rdi DBG_CMPCTL_KIND o = 0 ∧ addr.toNat ≠ execPc s c i) then .next s
  else
    let key := c.val * 4 + i.val
    let n := tabGet 0 s.dbg.hits key + 1
    let s := s.modDbg fun x => { x with hits := tabSet 0 x.hits key n }
    if n % (s.rdi DBG_CMPCTL_SKIP o + 1) ≠ 0 then .next s
    else .next (match s.rdi DBG_CMPCTL_ACT o with
      | 1 => takeEntry c (requestEntry c (if s.rdi DBG_CMPCTL_KIND o = 0 then 2 else 3) i s)
      | 2 => trigCapture s
      | 3 => trigPulse s
      | _ => s)

/-- What a trigger's ACT does: entry of core `c`, capture, TRIGOUT (R549). -/
def trigAct (act c : Nat) (s : State) : State :=
  match act with
  | 1 => requestEntry c 5 0 s
  | 2 => trigCapture s
  | 3 => trigPulse s
  | _ => s

/-- Monitor `m` matches the first unit of packet `q` (R548). -/
def wmMatches (s : State) (m : Nat) (q : Req) : Bool :=
  let o := m * 0x40
  bit (s.rdi DBG_WMCTL_CLASSMASK o) q.cls == 1 && (s.rdi DBG_WMCTL_OPEN o == 0 || q.op == s.rdi DBG_WMCTL_OP o) &&
    maskedEq q.dst (s.rdi DBG_WMDST_VALUE o) (s.rdi DBG_WMDST_MASK o) 16 && maskedEq q.src (s.rdi DBG_WMSRC_VALUE o) (s.rdi DBG_WMSRC_MASK o) 16 &&
    maskedEq (bits q.addr 6 26) (s.rdi DBG_WMAVL_VALUE o) (s.rdi DBG_WMAML_MASK o) 26 &&
    maskedEq (bits q.addr 32 16) (s.rdi DBG_WMAVH_VALUE o) (s.rdi DBG_WMAVH_MASK o) 16

/-- WELT_MONITOR_MATCH: the first unit of packet `q` leaves router `router` of die `die`, 12 being the hub, and monitor `m` watches there (R548,
R549). -/
def execWeltMonitorMatch (m : Fin 16) (die : Fin 13) (router : Fin 8) (q : Req) (s : State) : Out :=
  let o := m.val * 0x40
  if dbgPowered s = false ∨ s.rdi DBG_WMCTL_EN o = 0 ∨ s.rdi DBG_WMCTL_DIE o ≠ die.val ∨ (die.val ≠ 12 ∧ s.rdi DBG_WMCTL_ROUTER o ≠ router.val) ∨
      wmMatches s m q = false then .next s
  else .next (trigAct (s.rdi DBG_WMCTL_ACT o) (s.rdi DBG_WMCTL_CORE o) (s.inci DBG_WMCNT_COUNT o))

/-- TRIGIN_EDGE: a rising edge that has lasted 20.0 ns. -/
def execTriginEdge (s : State) : Out := if dbgPowered s then .next (trigAct (s.rd DBG_CTL_TRIGACT) (s.rd DBG_CTL_TRIGCORE) s) else .next s

/-- DBG_CORECMD.GO with OP 1 (R550). -/
def coreEnter (c : Nat) (s : State) : State :=
  let o := oDbg c
  if s.rdi DBG_CORECMD_BUSY o = 1 ∨ dbgPowered s = false then s
  else if cannotEnter s c then s.wri DBG_CORECMD_STATUS o ST_DBG_STATE
  else requestEntry c 4 0 (s.wri DBG_CORECMD_BUSY o 1)

def execDbgCoreEnter (c : Fin 384) (s : State) : Out := .next (coreEnter c s)

/-- MONITOR_ENTRY: the entry that is due reaches the core and is taken at its boundary (R551). -/
def execMonitorEntry (c : Fin 384) (s : State) : Out := .next (takeEntry c s)

/-- TRIGGERED_CAPTURE: a capture trigger reaches the debug domain (R559, R560).  [DESIGN CHOICE 75: notes/assumptions] -/
def execTriggeredCapture (s : State) : Out :=
  if s.dbg.trig = 0 ∨ dbgPowered s = false then .next s
  else
    let s := s.modDbg fun x => { x with trig := x.trig - 1 }
    if s.rd DBG_CAPCFG_ARM = 0 ∨ s.rd DBG_CAPSTAT_PEND = 1 then .next (s.inci DBG_CAPSTAT_MISSED 0)
    else
      let rs := capRegions (s.rd DBG_CAPCFG_DIEMASK) (s.rd DBG_CAPMASK_MASK)
      let st := capRefusal (s.rd DBG_CAPCFG_DIEMASK) (s.rd DBG_CAPMASK_MASK) s
      let s := ((s.wr64 DBG_CAPEL_T DBG_CAPEH_T s.clocks.tb).wr64 DBG_CAPTL_T DBG_CAPTH_T ((s.clocks.tb + s.rd DBG_CAPCFG_DELAY * 10) % tbMod)).wr DBG_CAPCFG_ARM 0
      let s := s.wr DBG_CAPSTAT_STATUS st
      .next (if st ≠ 0 then s
        else capPendEnd ((capStart rs (s.wr DBG_CAPSTAT_PEND 1)).modDbg fun x => { x with capRegs := rs }))

end Sys2Proof.Machine
end

