-- ==== Sys2Proof/Machine/Views.lean ====
section
/-! DEFINITION. What a read of a register shows where the value stands outside the register fields: selected table entries, clocks,
queues, and summaries of other state (R15; the register tables of spec/00 to spec/23). -/

namespace Sys2Proof.Machine

open Sys2Proof

/-- A field `f` of a word. -/
def Fld.of (f : Fld) (w : Nat) : Nat := bits w f.lo f.w

/-! GLB, PWR, CLK -/

/-- GLB_SUPDAT shows the stepping-table entry of GLB_SUPIDX, zeros beyond the table (R27). -/
def viewGlb (s : State) (f : Fld) : Option Nat :=
  if f.adr = GLB_SUPDAT_GEN.adr then
    some (match s.supTab[s.rd GLB_SUPIDX_INDEX]? with
      | none => 0
      | some e => f.of (e.gen * 2 ^ 28 + e.stepMin * 2 ^ 20 + e.stepMax * 2 ^ 12 + e.proto * 2 ^ 8 + e.feat))
  else none

/-- Hours since the last coin-cell measurement; a die's telemetry link. -/
def viewPwr (s : State) (f : Fld) (off : Nat) : Option Nat :=
  if f = PWR_BATT_AGE then some (if s.rd PWR_BATT_VBAT = 0 then 0 else min 255 ((s.clocks.elapsed - s.power.battAt) / 3600000000000))
  else if f = PWR_DIERAIL_LINK then some ((s.die (off / 4)).rails && (s.die (off / 4)).link).toNat
  else none

/-- The timebase and the real-time clock (R436). -/
def viewClk (s : State) (f : Fld) : Option Nat :=
  if f = CLK_TBL_TB then some (s.clocks.tb % 2 ^ 32)
  else if f = CLK_RTCSEC_SEC then some (s.clocks.rtc / 1000000000 % 2 ^ 32)
  else if f = CLK_RTCSECH_SECH then some (s.clocks.rtc / 1000000000 / 2 ^ 32 % 2 ^ 16)
  else if f = CLK_RTCSECH_SUB then some (s.clocks.rtc % 1000000000 * 32768 / 1000000000)
  else none

/-! CFG: the frame table (R285, R293) -/

/-- Dies at the two ends of the express net that a keep-list entry names: the dies that one channel of it alone touches.  [DEDUCED 37: notes/assumptions] -/
def netEnds (i : Image) (e : Nat) : List Nat :=
  let ds := (keptNets { i with keep := [e] } i.spine).flatMap fun x => eyeDies (x / 9600)
  ds.filter fun d => ds.count d == 1

/-- The net passes through the Last. -/
def netSpoke (i : Image) (e : Nat) : Bool := (keptNets { i with keep := [e] } i.spine).any fun x => x / 9600 < 12

/-- The frame holds state that the keep-list of the image names. -/
def frameKept (i : Image) (fid : Nat) : Bool :=
  let d := frameDie fid
  let x := frameIdx fid
  let col := x % 1248 / 16
  i.keep.any fun e =>
    let here := d < 12 && x < 39936 && bits e 56 4 == d && bits e 51 5 == x / 1248
    match keepKind e with
    | 1 => here && col == bits e 45 6
    | 2 => here && col == 68 + bits e 45 6 / 16
    | 4 => here && col == 64 + bits e 44 7 / 32
    | 3 => (d < 12 && 39936 ≤ x && x < 40160 && (netEnds i e).contains d) || (d == 12 && x < 64 && netSpoke i e)
    | _ => false

def viewCfg (s : State) (f : Fld) : Option Nat :=
  let fid := s.rd CFG_FTSEL_FID
  let crc := fun p => if frameSt s fid p = 0 then 0 else crc32 16384 (frameData s fid p)
  let a := planeOf s fid 0
  if f = CFG_FTDAT0_CRC then some (crc 0)
  else if f = CFG_FTDAT1_CRC then some (crc 1)
  else if f.adr = CFG_FTDAT2_DIE.adr then
    let d := if frameReserved fid then 15 else frameDie fid
    let dlev := d == 12 || (d < 12 && 39936 ≤ frameIdx fid)
    let n := if d = 12 then frameIdx fid else if dlev then frameIdx fid - 39936 else frameIdx fid % 1248
    some (if d = 15 then (if f = CFG_FTDAT2_DIE then 15 else 0)
      else f.of (d * 2 ^ 28 + dlev.toNat * 2 ^ 27 + (if dlev then 0 else frameIdx fid / 1248) * 2 ^ 22 + n / 16 * 2 ^ 15 + n % 16 * 2 ^ 11))
  else if f.adr = CFG_FTDAT3_ST1.adr then
    some (f.of (frameSt s fid 1 * 2 ^ 30 + frameSt s fid 0 * 2 ^ 28 + a * 2 ^ 27 + (frameBadsel s fid 1).toNat * 2 ^ 26 + (frameBadsel s fid 0).toNat * 2 ^ 25 +
      (frameKept s.cfg.aimg fid || frameKept s.cfg.simg fid).toNat * 2 ^ 24 + (frameNorb s fid 0 || frameNorb s fid 1).toNat * 2 ^ 23 +
      tabGet 0 s.cfg.ce fid % 16 * 2 ^ 16))
  else none

/-! WLT -/

/-- Item of a statistics field: class or bin of its instance. -/
def viewStat (s : State) (f : Fld) (off : Nat) : Option Nat :=
  let x := fun item => tabGet 0 s.welt.shown (s.rd WLT_STSEL_EP * 32 + item)
  if f = WLT_STPKT_VALUE then some (x (off / 4))
  else if f = WLT_STBYTL_VALUE then some (x (4 + off / 8) % 2 ^ 32)
  else if f = WLT_STBYTH_VALUE then some (x (4 + off / 8) / 2 ^ 32)
  else if f = WLT_STHIST_VALUE then some (x (8 + off / 4))
  else if f = WLT_STMAX_VALUE then some (x 24)
  else none

def viewWlt (s : State) (f : Fld) (off : Nat) : Option Nat :=
  let n := s.rd WLT_FLOWSEL_FLOW
  let x := s.flowNow n
  let y := s.flowSt n
  if f = WLT_SNPOCC_ENTRIES then some s.welt.snoop.length
  else if f = WLT_LACE_RUN then some (decide (s.rd WLT_SVC_STATE = 3)).toNat
  else if f = WLT_LACE_SLOT then some (laceSlots s % 1024)
  else if f = WLT_LACEFRM_FRAME then some (laceFrame s % 2 ^ 32)
  else if f = WLT_OLDCNT_COUNT then some (oldCount s)
  else if f.adr = WLT_FLOWA_EN.adr then some (f.of (y.en.toNat * 2 ^ 31 + (if x.cells = [] then 0 else 2 ^ 30) + x.slots.length * 2 ^ 16 + x.src))
  else if f.adr = WLT_FLOWB_DST.adr then some (f.of (x.dst * 2 ^ 16 + x.dly % 256 * 2 ^ 8))
  else if f = WLT_FLOWUNITS_COUNT then some y.units
  else if f = WLT_FLOWHELD_COUNT then some y.held
  else if f = WLT_FLOWOVR_COUNT then some y.ovr
  else viewStat s f off

/-! QUE, DRC, COB -/

def viewQue (s : State) (f : Fld) : Option Nat :=
  if f = QUE_QPMASK_MASK then some (qPmask s (s.rd QUE_QSEL_Q))
  else if f = QUE_QCMASK_MASK then some (qCmask s (s.rd QUE_QSEL_Q))
  else if f = QUE_ENCNT_COUNT then some (enabledQueues s).length
  else none

def viewDrc (s : State) (f : Fld) (off : Nat) : Option Nat :=
  if f.adr = DRC_EYEDAT_LEFT.adr then
    let l := s.rdi DRC_EYESEL_LANE off
    let e := tabGet {} (s.chan (off / 0x200)).eyes (s.rdi DRC_EYESEL_DIR off * 10 + l)
    some (if 10 ≤ l then 0 else f.of (e.left % 256 * 2 ^ 24 + e.right % 256 * 2 ^ 16 + e.centre % 256 * 2 ^ 8 + e.vref % 64))
  else none

def viewCob (s : State) (f : Fld) (off : Nat) : Option Nat :=
  if f = COB_STAT_GUAR then some (guarMask s)
  else if f = COB_HIST_USED then some s.cob.hist.length
  else if f = COB_INTV_INTV then some (intvCfg s (off / 4))
  else none

/-! EYE -/

/-- ROLE of a lane. -/
def laneRole (k : EyeGroup) (l : Nat) : Nat :=
  if l = 88 then 8
  else if k.failed.contains l then 7
  else if k.retired.contains l then 6
  else if 84 ≤ l then (if (tabGet none k.subst l).isSome then 3 else 2)
  else if k.reserves.contains l then (if (tabGet none k.subst l).isSome then 5 else 4)
  else if 80 ≤ l then 1 else 0

/-- SUBST of a lane. -/
def laneSubst (k : EyeGroup) (l : Nat) : Nat :=
  let r := laneRole k l
  if r = 3 ∨ r = 5 then (tabGet none k.subst l).getD 0xFF
  else if r = 6 ∨ r = 7 then ((k.subst.find? fun p => p.2 == some l).map Prod.fst).getD 0xFF
  else 0xFF

def viewEye (s : State) (f : Fld) (off : Nat) : Option Nat :=
  let l := s.rd EYE_LSEL_LANE
  let k := s.eye (gix (s.rd EYE_LSEL_EYELET) (s.rd EYE_LSEL_DIR) (s.rd EYE_LSEL_GROUP))
  if f = EYE_STAT_CORNER then some (isCorner (off / 4)).toNat
  else if f.adr = EYE_LDAT_ROLE.adr then
    some (if 88 < l then 0 else f.of (laneRole k l * 2 ^ 28 + laneSubst k l * 2 ^ 20 + min (tabGet 0 k.corr l) 0xFFFFF))
  else none

/-! SBP, SEC, UPD, BBX, HLT -/

def viewSbp (s : State) (f : Fld) : Option Nat := if f = SBP_LINK_ADDR then some (nvsGet s nvsWSPADDR) else none

/-- REMAIN of the cell service window (R534). -/
def viewSec (s : State) (f : Fld) : Option Nat :=
  if f = SEC_BATSVC_REMAIN then some (if s.rd SEC_BATSVC_OPEN = 1 then 600 - (s.clocks.elapsed - s.secur.winAt) / 1000000000 else 0) else none

/-- The copy of a component that UPD_COMPSEL names; none reads all zeros.  [DESIGN CHOICE 54; DEDUCED 55: notes/assumptions] -/
def selCopy (s : State) : Option CompCopy :=
  let c := s.rd UPD_COMPSEL_COMP
  if 20 < c then none
  else match s.rd UPD_COMPSEL_COPY with
    | 0 => some (activeCopy s c)
    | 1 => some (tabGet {} s.upd.prev c)
    | 2 => match s.upd.pkg with
      | some p => if p.comps.any fun x => x.1 == c then some (tabGet {} p.comps c) else none
      | none => none
    | _ => none

def viewUpd (s : State) (f : Fld) : Option Nat :=
  let c := s.rd UPD_COMPSEL_COMP
  if f.adr = UPD_COMPVER_MAJOR.adr then some (match selCopy s with | none => 0 | some x => f.of x.version)
  else if f.adr = UPD_COMPINF_COMPAT.adr then
    let here := decide (c ≤ 20) && s.rd UPD_COMPSEL_COPY != 3
    let sw := here && s.upd.taken.contains c && (s.rd UPD_STAT_STATE == 6 || s.rd UPD_STAT_STATE == 7)
    let own := match selCopy s with | none => 0 | some x => x.compat % 2 ^ 16 * 2 ^ 16 + x.valid.toNat * 2 ^ 15
    some (f.of (own + (if here && compPresent s c then 2 ^ 14 else 0) + (if sw then 2 ^ 13 else 0)))
  else none

def viewBbx (s : State) (f : Fld) (off : Nat) : Option Nat :=
  let r := ringFind s (s.rd BBX_RSEL_SEQ)
  if f = BBX_STAT_PEND then some s.bbx.pend.length
  else if f = BBX_STAT_NVWAIT then some (!s.bbx.pend.isEmpty && s.rd PWR_STAT_NVINH == 1).toNat
  else if f = BBX_RSTAT_VALID then some r.isSome.toNat
  else if f = BBX_RSTAT_CRCOK then some (match r with | some x => x.2.toNat | none => 0)
  else if f = BBX_RDAT_WORD then
    some (match r with
      | some (x, true) => ofBytes (((recBytes x).drop off).take 4)
      | _ => 0)
  else none

/-- HLT_SUM (R594). -/
def viewHlt (s : State) (f : Fld) : Option Nat :=
  if f = HLT_SUM_SPARES then some (s.rd COB_STAT_SPFULL != 0).toNat
  else if f = HLT_SUM_SCRUB then some (guarMask s != 31).toNat
  else if f = HLT_SUM_DRAM then
    some ((List.range 8).any fun c => drcState s c == drcRETRAINING || drcState s c == drcFAILED || s.rdi DRC_CHSTAT_HOT (oCh c) == 1).toNat
  else if f = HLT_SUM_SAZOR then some ((List.range 8).any fun b => s.rdi SZL_BCTL_EN (oBun b) == 1 && szlState s b != 3).toNat
  else if f = HLT_SUM_EYELET then some ((List.range 24).any fun e => s.rdi EYE_STAT_STATE (4 * e) == 3 || s.rdi EYE_STAT_STATE (4 * e) == 4).toNat
  else if f = HLT_SUM_GEAR then some (dieList.any fun g => s.rdi HLT_GSTAT_ACT (4 * g) == 1).toNat
  else if f = HLT_SUM_TEMP then some (dieList.any fun d => s.rdi HLT_TEMP_STATE (4 * d) != 0).toNat
  else if f = HLT_SUM_SUPPLY then some (s.rd PWR_STAT_WARN == 1 || s.rd PWR_STAT_BATLOW == 1 || s.rd PWR_STAT_BATABS == 1 || s.rd PWR_STAT_PSUHOT == 1).toNat
  else none

/-! Per-die space -/

/-- Core of an offset in per-die space. -/
def offCore (off : Nat) : Nat := rix (off / 0x100000) (off % 0x100000 / 0x100)

def viewDie (s : State) (f : Fld) (off : Nat) : Option Nat :=
  let c := offCore off
  if f.adr = FDC_IDENT_SERIAL.adr then some (f.of (s.die (off / 0x100000)).ident)
  else if f.adr = FDC_CAPW_FMT.adr then some (f.of (s.die (off / 0x100000)).capw)
  else if f = BNK_STAT_TDP then some (decide (off % 0x800 / 0x20 < 8)).toNat
  else if f = AWL_STAT_IPL then some (bits (s.core c).arch.sr 24 3)
  else if f = AWL_STAT_XVEC then some (bits ((s.core c).arch.get kXCAUSE) 0 8)
  else if f = AWL_IPEND_PEND then some (ipend s c)
  else if f = AWL_WDGCNT_COUNT then some (wdNow s c)
  else none

/-- What a field shows where it is not stored. -/
def viewOf (s : State) (f : Fld) (off : Nat) : Option Nat :=
  if 0x1000000 ≤ f.adr then viewDie s f off
  else match f.adr / 0x10000 with
    | 0 => viewGlb s f
    | 1 => viewPwr s f off
    | 2 => viewClk s f
    | 4 => viewCfg s f
    | 6 => viewWlt s f off
    | 7 => viewQue s f
    | 8 => viewDrc s f off
    | 9 => viewCob s f off
    | 11 => viewEye s f off
    | 13 => viewSbp s f
    | 14 => viewSec s f
    | 16 => viewUpd s f
    | 17 => viewBbx s f off
    | 18 => viewHlt s f
    | _ => none

/-- The value of field `f`, instance offset `off`, as a read shows it. -/
def fieldVal (s : State) (f : Fld) (off : Nat) : Nat :=
  if f.acc = .wo then 0
  else match viewOf s f off with
    | some v => v % 2 ^ f.w
    | none => s.rdi f off

end Sys2Proof.Machine
end

