-- ==== Sys2Proof/Machine/Registers.lean ====
section
/-! DEFINITION. Accesses to the register map by a master: which register an address names, who may write it, what its access codes
do, and what a write of a command register starts (R12 to R18, R33, R474, R513 to R517, R539, R541, R544, R623). -/

namespace Sys2Proof.Machine

open Sys2Proof

/-! The map (R12) -/

/-- Registers of the block or of per-die space that an address lies in. -/
def regsAt (a : Nat) : List Reg :=
  if 0x1000000 ≤ a then regsFdc ++ regsBnk ++ regsAwl
  else match a / 0x10000 with
    | 0 => regsGlb
    | 1 => regsPwr
    | 2 => regsClk
    | 3 => regsGear
    | 4 => regsCfg
    | 5 => regsShf
    | 6 => regsWlt
    | 7 => regsQue
    | 8 => regsDrc
    | 9 => regsCob
    | 10 => regsSzl
    | 11 => regsEye
    | 12 => regsPci ++ regsEth ++ regsGio
    | 13 => regsSbp
    | 14 => regsSec
    | 15 => regsDbg
    | 16 => regsUpd
    | 17 => regsBbx
    | 18 => regsHlt
    | _ => []

/-- The register at an address.  [DEDUCED 78: notes/assumptions] -/
def regAt (a : Nat) : Option Reg := (regsAt a).find? fun r => r.at? a

/-- The register is the one that holds the field. -/
def Reg.has (r : Reg) (f : Fld) : Bool := r.adr == f.adr

def Reg.isRp (r : Reg) : Bool := r.flds.any fun f => f.acc == .rp
def Reg.isRc (r : Reg) : Bool := r.flds.any fun f => f.acc == .rc

/-- A command register: GO in bit 14 and BUSY in bit 15. -/
def Reg.isCmd (r : Reg) : Bool := (r.flds.any fun f => f.lo == 14 && f.acc == .wo) && r.flds.any fun f => f.lo == 15 && f.acc == .ro

/-! Which accesses reach a register -/

/-- Registers of the always-on domain (R474, R476).  [DEDUCED 78: notes/assumptions] -/
def alwaysOn (a : Nat) : Bool :=
  [GLB_MODE_MODE, CLK_RTCSEC_SEC, CLK_RTCSECH_SECH, SBP_LINK_ADDR, SBP_RXERR_COUNT, SEC_STAT_LC, SEC_TAMPER_LATCH, SEC_TAMPRAW_RAW].any fun f => f.adr == a

def inDbgBlock (a : Nat) : Bool := 0xF0000 ≤ a && a < 0x100000

/-- Identity and black-box registers, which alone answer in SCRAP (R524).  [DEDUCED 70: notes/assumptions] -/
def answersInScrap (a : Nat) : Bool := a == 0 || a == 4 || a == SEC_MODSNL_SN.adr || a == SEC_MODSNH_SN.adr || (0x110000 ≤ a && a < 0x120000)

/-- Per-die space of a die. -/
def dieOfAddr (a : Nat) : Option Nat := if 0x1000000 ≤ a ∧ a < 0x1C00000 then some ((a - 0x1000000) / 0x100000) else none

/-- The register still answers while its die is DORMANT or not probed: FDC_IDENT and FDC_CAPW, and FDC_CAPEN before the probe and for an
EXCLUDED die (R33, R38, R621).  [DEDUCED 73, 78: notes/assumptions] -/
def deadDieReg (s : State) (d a : Nat) : Bool :=
  let x := a - 0x1000000 - oDie d
  let st := s.rdi GLB_DIESTAT_STATE (4 * d)
  x == 0 || x == 4 || (x == 8 && (st == 0 || st == 4))

/-- Why an access ends before it reaches a register, in order: reset of the Last, life cycle, alignment, a die that is not there.  [DEDUCED 70, 78: notes/assumptions] -/
def accessStop (m : Master) (wr : Bool) (a : Nat) (s : State) : Option Nat :=
  if s.mode = DORMANT ∧ (m = .host ∨ m = .mirror ∨ (m = .sideband ∧ alwaysOn a = false)) then some ST_MODE_DORMANT
  else if s.mode = DORMANT ∧ m = .debug ∧ alwaysOn a = false ∧ inDbgBlock a = false then some ST_PEER_RESET
  else if s.rd SEC_STAT_LC = 4 ∧ m = .sideband ∧ (wr = true ∨ answersInScrap a = false) then some ST_REFUSED_LIFECYCLE
  else if a % 4 ≠ 0 then some ST_BAD_ACCESS
  else match dieOfAddr a with
    | some d => if s.rdi GLB_DIESTAT_STATE (4 * d) ≠ 1 ∧ deadDieReg s d a = false then some ST_NO_DIE else none
    | none => none

/-! Reads (R15, R16, R18) -/

/-- The word that a read of register `r` shows, instance offset `off`. -/
def regWord (r : Reg) (off : Nat) (s : State) : Nat :=
  if r.isRp then (match (tabGet ({} : EvQueue) s.evq r.adr).entries with
    | [] => 0
    | e :: _ => e.1)
  else r.flds.foldl (fun n f => n + fieldVal s f off * 2 ^ f.lo) 0

/-- The second register of a pop takes the entry's second word. -/
def popSecond (adr w : Nat) (s : State) : State :=
  if adr = WLT_ERRLOG_VALID.adr then (s.wr WLT_ERRLOG2_SRC (w / 65536)).wr WLT_ERRLOG2_DST (w % 65536)
  else if adr = DRC_ERRLOG_VALID.adr then s.wr DRC_ERRLOG2_LINE w
  else if adr = COB_EVENT_VALID.adr then s.wr COB_EVENT2_LOC w
  else s

/-- The head of an event queue is removed.  [DESIGN CHOICE 1: notes/assumptions] -/
def popHead (adr : Nat) (s : State) : State :=
  match (tabGet ({} : EvQueue) s.evq adr).entries with
  | [] => s
  | e :: t => popSecond adr e.2 { s with evq := tabMod {} s.evq adr fun x => { x with entries := t } }

/-- RC fields of a register read 0 from now on. -/
def clearRc (r : Reg) (off : Nat) (s : State) : State :=
  let f := s.rd WLT_FLOWSEL_FLOW
  if r.has WLT_FLOWUNITS_COUNT then s.modFlow f fun x => { x with units := 0 }
  else if r.has WLT_FLOWHELD_COUNT then s.modFlow f fun x => { x with held := 0 }
  else if r.has WLT_FLOWOVR_COUNT then s.modFlow f fun x => { x with ovr := 0 }
  else
    let s := (r.flds.filter fun x => x.acc == .rc).foldl (fun s x => s.wri x off 0) s
    if r.has GIO_OVR_COUNT then s.modPin (off / 0x100) (off % 0x100 / 4) fun p => { p with ovrSaid := false } else s

/-- The side effect of a read: an RP register pops, an RC field clears, CLK_TBL latches the upper half. -/
def readEffect (r : Reg) (off : Nat) (s : State) : State :=
  if r.isRp then popHead r.adr s
  else if r.isRc then clearRc r off s
  else if r.has CLK_TBL_TB then s.wr CLK_TBH_TB (s.clocks.tb / 2 ^ 32)
  else s

/-- A read by master `m`: status, word, state.  A read that stops, and one of an address without a register, gives 0.  [DEDUCED 78: notes/assumptions] -/
def regRead (m : Master) (peek : Bool) (a : Nat) (s : State) : (Nat × Nat) × State :=
  match accessStop m false a s with
  | some st => ((st, 0), s)
  | none =>
    match regAt a with
    | none => ((0, 0), s)
    | some r =>
      let off := a - r.adr
      let bad := r.has BBX_RDAT_WORD && (match ringFind s (s.rd BBX_RSEL_SEQ) with | some (_, false) => true | _ => false)
      if bad then let x := s.free 32; ((0, x.1), x.2)
      else ((0, regWord r off s), if peek then s else readEffect r off s)

/-! Writes: access codes and stored values -/

/-- Fields whose 0 is stored as 1. -/
def zeroIsOne : List Fld :=
  [EYE_CTL_BERTH, WLT_RSPTMO_TMO, WLT_LOCKTMO_TMO, WLT_DRAINTMO_TMO, DRC_TRKCFG_PERIOD, DRC_SCHED_AGE, COB_POL_WIN, COB_POL_REMAPTH,
   COB_BURST_HOLD, COB_BURST_BTH, SHF_CTL_ARMTMO, SHF_CTL_CHKWIN, SHF_QTMO_TMO, AWL_WDGCFG_RELOAD, BBX_FILTER_RATE, UPD_CTL_STEPIV,
   UPD_CTL_HOLDOFF, CLK_CTL_RESDLY, HLT_TPOL_STEP, HLT_RAISE_SEC]

/-- What a value written to a field is stored as (the register tables). -/
def stored (f : Fld) (off v : Nat) : Nat :=
  if v = 0 ∧ zeroIsOne.contains f = true then 1
  else if f = DRC_TRKCFG_MINEYE then max 8 v
  else if f = DRC_SCHED_WQHI then max 2 (min 64 v)
  else if f = COB_BURST_FACTOR then min 4 v
  else if f = COB_INTV_INTV then intvStore (off / 4) v
  else if f = BBX_FILTER_MINSEV then min 3 v
  else if f = HLT_CTL_MINGEAR then max 1 (min 4 v)
  else if f = HLT_TPOL_TLIM then min 110 v
  else if f = HLT_TPOL_HYST then max 2 (min 30 v)
  else if f = DBG_CTL_TRIGCORE ∨ f = DBG_WMCTL_CORE then min 383 v
  else if f = DBG_CAPCFG_DELAY then max 30 v
  else if f = DBG_CORECTL_THRESH then min 4 v
  else if f = ETH_PCTL_FEC ∨ f = ETH_RULEA_ACT then v % 3
  else if f = FDC_TRIMCFG_WARN then (if v = 0 ∨ 24 < v then 24 else v)
  else if f = WLT_BRWIN_BUNDLE then (if off < 64 then v % 4 else v % 4 + 4)
  else v

/-- Field values that another field of the same register limits. -/
def limited (r : Reg) (s : State) : State :=
  if r.has DRC_SCHED_WQLO then s.wr DRC_SCHED_WQLO (min (s.rd DRC_SCHED_WQLO) (s.rd DRC_SCHED_WQHI - 1))
  else if r.has HLT_TPOL_TWARN then s.wr HLT_TPOL_TWARN (min (s.rd HLT_TPOL_TWARN) (s.rd HLT_TPOL_TLIM))
  else s

/-- Each field of a register acts by its access code (R15); with `busy` only W1C and W1S fields do. -/
def storeFlds (r : Reg) (busy : Bool) (off v : Nat) (s : State) : State :=
  limited r (r.flds.foldl (fun s f =>
    let x := f.of v
    match f.acc with
    | .rw => if busy then s else s.wri f off (stored f off x)
    | .w1c => s.wri f off (s.rdi f off &&& (2 ^ f.w - 1 - x))
    | .w1s => s.wri f off (s.rdi f off ||| x)
    | _ => s) s)

/-! Command registers -/

/-- The state that an outcome leaves. -/
def afterOut (s : State) (o : Out) : State :=
  match o with
  | .next t => t
  | _ => s

/-- The command waits, busy, for the row that brings what it needs from outside (notes/assumptions/5.md). -/
def askRow (busy : Fld) (off : Nat) (s : State) : State := { (s.wri busy off 1) with asked := s.asked ++ [busy.adr + off] }

def fin12 (n : Nat) : Fin 12 := ⟨n % 12, Nat.mod_lt _ (by decide)⟩
def fin32 (n : Nat) : Fin 32 := ⟨n % 32, Nat.mod_lt _ (by decide)⟩
def fin64 (n : Nat) : Fin 64 := ⟨n % 64, Nat.mod_lt _ (by decide)⟩
def fin4 (n : Nat) : Fin 4 := ⟨n % 4, Nat.mod_lt _ (by decide)⟩
def fin8 (n : Nat) : Fin 8 := ⟨n % 8, Nat.mod_lt _ (by decide)⟩
def fin1024 (n : Nat) : Fin 1024 := ⟨n % 1024, Nat.mod_lt _ (by decide)⟩

/-- GO of CFG_CMD with operation `op`. -/
def cfgCmdGo (op : Nat) (s : State) : State :=
  match op with
  | 1 | 7 | 8 => askRow CFG_CMD_BUSY 0 s
  | 3 => afterOut s (execCfgVerify s)
  | 4 => afterOut s (execCfgReadback s)
  | 6 => afterOut s (execCfgCaptureReadout s)
  | 9 => afterOut s (execCfgAbort s)
  | 10 => afterOut s (execCfgFlashDirectory s)
  | _ => cfgDone ST_CFG_BADCMD s

/-- GO of SHF_CMD. -/
def shfCmdGo (op : Nat) (s : State) : State :=
  match op with
  | 1 | 8 => askRow SHF_CMD_BUSY 0 s
  | 2 => afterOut s (execShfVerify s)
  | 3 => afterOut s (execShfArm s)
  | 4 => afterOut s (execShfCommit s)
  | 5 => afterOut s (execShfAbandon s)
  | 6 => afterOut s (execShfRollback s)
  | 7 => afterOut s (execShfRelease s)
  | 9 => afterOut s (execShfDetach s)
  | _ => shfDone ST_SHF_BADCMD s

/-- GO of UPD_CMD. -/
def updCmdGo (op : Nat) (s : State) : State :=
  match op with
  | 1 => askRow UPD_CMD_BUSY 0 s
  | 2 => updActivate s
  | 3 => updAbort s
  | 4 => updRevert s
  | 5 => updConfirm s
  | _ => updDone ST_UPD_BADCMD s

/-- GO of QUE_QCMD. -/
def qcmdGo (op : Nat) (s : State) : State :=
  match op with
  | 1 => afterOut s (execQueEnable s)
  | 2 => afterOut s (execQueDisable s)
  | 3 => afterOut s (execQueResetIndices s)
  | 4 => afterOut s (execQueRearm s)
  | 5 => afterOut s (execQueReadBack s)
  | _ => qcmdDone ST_QUE_ACCESS s

/-- GO of COB_CMD and of EYE_CMD. -/
def cobCmdGo (op : Nat) (s : State) : State :=
  match op with
  | 1 => afterOut s (execCobRestartSweep (fin8 (s.rd COB_CMD_CLASS)) s)
  | 2 => afterOut s (execCobClearRemapStore s)
  | 3 => afterOut s (execCobClearHistory s)
  | _ => cobCmd op ST_COB_BADCMD s

def eyeCmdGo (op : Nat) (s : State) : State :=
  match op with
  | 1 => afterOut s (execEyeCmdSpare s)
  | 2 => afterOut s (execEyeCmdMove s)
  | 3 => afterOut s (execEyeCmdInject s)
  | _ => eyeCmdDone ST_EYE_BADCMD s

/-- GO of DRC_CHCMD of channel `c`: every operation measures its channel. -/
def chcmdGo (c op : Nat) (s : State) : State :=
  if 1 ≤ op ∧ op ≤ 3 then askRow DRC_CHCMD_BUSY (oCh c) s else chcmdDone c ST_DRC_BADCMD s

/-- GO of BBX_CMD and of CLK_TBCMD. -/
def bbxCmdGo (op : Nat) (s : State) : State :=
  match op with
  | 1 => bbxCopy s
  | 2 => bbxHostRecord s
  | 3 => bbxErase s
  | _ => bbxDone ST_BBX_BADCMD s

def tbCmdGo (op : Nat) (s : State) : State :=
  match op with
  | 1 => tbStep s
  | 2 => rtcFromRegs s
  | 3 => rtcFromTb s
  | _ => tbDone ST_CLK_BADCMD s

/-- A GO on a command register, its RW fields stored. -/
def cmdGo (r : Reg) (off v : Nat) (s : State) : State :=
  if r.has CFG_CMD_OP then cfgCmdGo (bits v 10 4) s
  else if r.has CFG_CAPCMD_GO then afterOut s (execCaptureCommand s)
  else if r.has SHF_CMD_OP then shfCmdGo (bits v 10 4) s
  else if r.has UPD_CMD_OP then updCmdGo (bits v 11 3) s
  else if r.has QUE_QCMD_OP then qcmdGo (bits v 11 3) s
  else if r.has COB_CMD_OP then cobCmdGo (bits v 11 3) s
  else if r.has EYE_CMD_OP then eyeCmdGo (bits v 11 3) s
  else if r.has DRC_CHCMD_OP then chcmdGo (off / 0x200) (bits v 11 3) s
  else if r.has BBX_CMD_OP then bbxCmdGo (bits v 12 2) s
  else if r.has CLK_TBCMD_OP then tbCmdGo (bits v 12 2) s
  else if r.has ETH_GCLCMD_GO then gclLoad s
  else if r.has WLT_FLOWCMD_OP then flowCmd (bits v 12 2) (bits v 0 10) s
  else if r.has DBG_CORECMD_OP then
    (if bits v 11 3 = 1 then coreEnter (off / 0x80) s else s.wri DBG_CORECMD_STATUS off ST_DBG_BADCMD)
  else if r.has BNK_REMAPCMD_ADDR then
    afterOut s (execBankRemapCmd (fin12 (off / 0x100000)) (fin32 (off % 0x100000 / 0x800)) (fin64 (off % 0x800 / 0x20)) (fin1024 (bits v 0 10)) s)
  else if r.has SEC_CMD_GO then secCmdGo s
  else s

/-- A write of a command register: while BUSY is 1 its fields are held and a GO is ignored, but for CFG_CMD's ABORT; in SCRAP a GO
completes with ST_REFUSED_LIFECYCLE (R524).  [DEDUCED 78: notes/assumptions] -/
def cmdWrite (r : Reg) (off v : Nat) (s : State) : State :=
  let busy := s.rdi ⟨r.adr, 15, 1, .ro, 0⟩ off == 1
  let go := bit v 14 == 1
  if busy then
    let s := storeFlds r true off v s
    if go ∧ r.has CFG_CMD_OP ∧ bits v 10 4 = 9 then afterOut s (execCfgAbort s) else s
  else
    let s := storeFlds r false off v s
    if go = false then s
    else if s.rd SEC_STAT_LC = 4 then s.wri ⟨r.adr, 16, 16, .ro, 0⟩ off ST_REFUSED_LIFECYCLE
    else cmdGo r off v s

/-! Registers whose write is an operation of its own -/

/-- Write of AWL_CTL: RESET acts alone; of the other two, a write of both acts in neither.  [DEDUCED 77: notes/assumptions] -/
def awlCtlWrite (c v : Nat) (s : State) : State :=
  if bit v 2 = 1 then awlResetCmd c s
  else if bit v 1 = 1 ∧ bit v 0 = 0 then awlStopCmd c s
  else if bit v 0 = 1 ∧ bit v 1 = 0 then awlStartCmd c s
  else s

/-- Values of `w` bits that the spec leaves open. -/
def freeList : (n w : Nat) → State → List Nat × State
  | 0, _, s => ([], s)
  | n + 1, w, s =>
    let x := s.free w
    let y := freeList n w x.2
    (x.1 :: y.1, y.2)

/-- A write of SZL_TEST through the map: what a running checker has counted is open.  [DESIGN CHOICE 1, 57: notes/assumptions] -/
def szlTestReg (b v : Nat) (s : State) : State :=
  if s.rdi SZL_TEST_CHK (oBun b) = 1 then let x := freeList 8 32 s; szlTestWrite b v x.1 x.2 else szlTestWrite b v [] s

/-- SEC_TAMPEN and SEC_TAMPACT are writable in BLANK and DEVELOP only (R533). -/
def tampWrite (r : Reg) (off v : Nat) (s : State) : State := if s.rd SEC_STAT_LC ≤ 1 then storeFlds r false off v s else s

/-- Whether a master is secure for PWR_VAULT (R521, R522).  [DEDUCED 78: notes/assumptions] -/
def secureWrite (m : Master) (s : State) : Bool :=
  match m with
  | .host => s.rd SEC_STAT_LC == 1 || s.rd SEC_STAT_LC == 3
  | .mirror => true
  | _ => false

/-- Per-die registers with a write of their own. -/
def dieWrite (r : Reg) (off v : Nat) (s : State) : Option State :=
  let d := fin12 (off / 0x100000)
  let g := fin32 (off % 0x100000 / 0x100)
  let c := offCore off
  let w : BitVec 32 := BitVec.ofNat 32 v
  if r.has FDC_RCLK_SRC then some (afterOut s (execRclkWrite d g (fin4 (off % 0x100 / 4)) w s))
  else if r.has FDC_RWTMR_RELOAD then some (afterOut s (execWakeTimerWrite d g w s))
  else if r.has FDC_TRIM_SETCODE then some (afterOut s (execTrimFreezeWrite d g w s))
  else if r.has FDC_AWLMEM_XRET then some (afterOut s (execAwlMemoryPowerWrite d g w s))
  else if r.has FDC_RCTL_RESTORE then some (if bit v 0 = 1 then afterOut s (execRegionRestore d g s) else s)
  else if r.has BNK_CTL_PWRREQ then
    let k := fin32 (off % 0x100000 / 0x800)
    let b := fin64 (off % 0x800 / 0x20)
    some (afterOut s (execBankPowerRequest d k b w (s.bank (bix d k b)).psleep s))
  else if r.has AWL_CTL_START then some (awlCtlWrite c v s)
  else if r.has AWL_ISET_SET then some (raiseSoft c v s)
  else if r.has AWL_IPEND_PEND then some (clearPend c v s)
  else if r.has AWL_IEN_EN ∨ r.has AWL_ICFG_EDGE then some (wakeWait c (storeFlds r false off v s))
  else if r.has AWL_WDGCFG_EN then some (storeFlds r false off v (wdSettle c s))
  else none

/-- Registers of the blocks with a write of their own. -/
def blockWrite (m : Master) (r : Reg) (off v : Nat) (s : State) : Option State :=
  if r.has GLB_MODE_REQ then some (modeWrite (bits v 12 3) s)
  else if r.has GLB_SOUT_MASK0 then let s := storeFlds r false off v s; some (s.wr GLB_MODE_SOUT (s.soutFor s.mode))
  else if r.has GLB_HBTMO_TMO then let s := storeFlds r false off v s; some (if s.rd GLB_HBTMO_TMO = 0 then s.wr SBP_CTRL_ARMED 0 else s)
  else if r.has PWR_LSSEG_REQ then some (segWrite (off / 4) v s)
  else if r.has PWR_VAULT_REQ then some (vaultWrite (secureWrite m s) v s)
  else if r.has GEAR_REQ_GEAR then some (gearWrite false true (off / 4) v s)
  else if r.has GEAR_HLIM_LIMIT then some (gearWrite true true (off / 4) v s)
  else if r.has CFG_STGBASE_BASE then some (stagingWrite false v s)
  else if r.has CFG_STGSIZE_SIZE then some (stagingWrite true v s)
  else if r.has WLT_SVCREQ_SPLIT then some (afterOut s (execServiceSplitWrite (bit v 0 == 1) s))
  else if r.has WLT_STCTL_EN then let s := storeFlds r false off v s; some (if bit v 30 = 1 then statCopy s else s)
  else if r.has SZL_BCTL_EN then some (szlBctlWrite (off / 0x100) v s)
  else if r.has SZL_PWR_TXREQ then some (szlPwrWrite (off / 0x100) v s)
  else if r.has SZL_TEST_GEN then some (szlTestReg (off / 0x100) v s)
  else if r.has SZL_INJ_GO then some (szlInjWrite (off / 0x100) v s)
  else if r.has ETH_CAGE_MODE then some (cageWrite (off / 4) v s)
  else if r.has ETH_PCTL_EN then
    let s := storeFlds r false off v s
    some (if s.rdi ETH_PCTL_EN off = 0 then s.wri ETH_PSTAT_LINK off 0 else s)
  else if r.has GIO_PCFG_MINP then some (pcfgWrite (off / 0x100) (off % 0x100 / 4) v s)
  else if r.has SEC_BATSVC_GO then some (if bit v 14 = 0 then s else if s.rd SEC_STAT_LC = 4 then s.wr SEC_BATSVC_STATUS ST_REFUSED_LIFECYCLE else batGo s)
  else if r.has SEC_TAMPEN_EN ∨ r.has SEC_TAMPACT_SAFE then some (tampWrite r off v s)
  else if r.has DBG_CMPCTL_EN then
    some { (storeFlds r false off v s) with dbg := { s.dbg with hits := tabSet 0 s.dbg.hits (off / 0x80 * 4 + off % 0x80 / 0x10) 0 } }
  else none

/-- A write that is performed on register `r`. -/
def writeReg (m : Master) (r : Reg) (off v : Nat) (s : State) : State :=
  match (if 0x1000000 ≤ r.adr then dieWrite r off v s else blockWrite m r off v s) with
  | some t => t
  | none => if r.isCmd then cmdWrite r off v s else storeFlds r false off v s

/-! Ownership and control (R513 to R517) -/

/-- Control is held by the side-band master. -/
def sidebandHolds (s : State) : Bool := s.rd SBP_CTRL_CONTROL == 1

/-- Whether the owner rules let the master write (R515); window and mirror writes are not subject to them (R541). -/
def ownerLets (m : Master) (r : Reg) (s : State) : Bool :=
  match m, r.own with
  | .host, .host => !sidebandHolds s
  | .host, .sideband => false
  | .sideband, .host => sidebandHolds s
  | _, _ => true

/-- A refused host write is counted, with its address and SBP_EVENT KIND 8 (R515). -/
def denyHost (a : Nat) (s : State) : State := sbpEvent 8 ((s.inci SBP_DENY_COUNT 0).wr SBP_DENYADR_ADDR a)

/-- A closed debug port refuses host and side-band writes of the DBG block, but of DBG_CAPSTAT (R539). -/
def dbgLocked (m : Master) (a : Nat) (s : State) : Bool :=
  (m == .host || m == .sideband) && inDbgBlock a && a != DBG_CAPSTAT_DONE.adr && s.rd DBG_PORT_OPEN == 0

/-- A write of `v` at address `a` by master `m`: status and state.  A host write that stops or is refused has no effect and no error. -/
def regWrite (m : Master) (a v : Nat) (s : State) : Nat × State :=
  match accessStop m true a s with
  | some st => (st, s)
  | none =>
    match regAt a with
    | none => (0, s)
    | some r =>
      if r.has GLB_HEARTBEAT_KEY then
        (match m with
        | .host => (0, hbWrite v s)
        | .sideband => (ST_REFUSED_OWNER, s)
        | _ => (0, s))
      else if dbgLocked m a s then (if m = .host then (ST_DBG_LOCKED, denyHost a s) else (ST_DBG_LOCKED, s))
      else if r.has PWR_VAULT_REQ ∧ m = .sideband then (ST_REFUSED_SEALED, s)
      else if ownerLets m r s = false then (ST_REFUSED_OWNER, if m = .host then denyHost a s else s)
      else (0, writeReg m r (a - r.adr) (v % 2 ^ 32) s)

/-! Rows -/

/-- RP_QUEUE_POP: master `m` reads the RP register at address `a`. -/
def execRpQueuePop (m : Master) (a : Nat) (s : State) : Out :=
  match regAt a with
  | some r => if r.isRp then (let x := regRead m false a s; .next { x.2 with reply := [x.1.2] }) else .next s
  | none => .next s

/-- RC_COUNTER_READ: master `m` reads a register with RC fields. -/
def execRcCounterRead (m : Master) (a : Nat) (s : State) : Out :=
  match regAt a with
  | some r => if r.isRc then (let x := regRead m false a s; .next { x.2 with reply := [x.1.2] }) else .next s
  | none => .next s

/-- REGISTER_WRITE: master `m` writes the word `v` at address `a` (R15, R515). -/
def execRegisterWrite (m : Master) (a : Nat) (v : BitVec 32) (s : State) : Out := .next (regWrite m a v.toNat s).2

end Sys2Proof.Machine
end

