-- ==== Sys2Proof/Machine/Mirror.lean ====
section
/-! DEFINITION. The register mirror: Welt requests to the management endpoint act on the register map (R157); and the requests that
the management processor makes itself. -/

namespace Sys2Proof.Machine

open Sys2Proof

/-- Address of the one aligned 32-bit word that a request accesses, with its byte offset in the unit; none for any other shape. -/
def mirrorWord (q : Req) : Option (Nat × Nat) :=
  if q.op = RD then
    (if q.uidx = 0 ∧ q.blast = q.bfirst + 3 ∧ q.bfirst % 4 = 0 then some (q.addr + q.bfirst - mirrorBase, q.bfirst) else none)
  else
    match q.units with
    | [u] => if u.last = u.first + 3 ∧ u.first % 4 = 0 then some (q.addr + u.first - mirrorBase, u.first) else none
    | _ => none

/-- Whose write a mirror write is: the host's from the PCIe port; the management processor and the configuration controller are not
subject to ownership (R515). -/
def mirrorMaster (e : Nat) : Option Master :=
  if e = epPcie then some .host else if e = epMgmt ∨ e = epConfig then some .mirror else none

/-- Status with which a mirror access ends: a die that is not there completes without effect (R33), and a write that ownership refuses raises no
error (R515).  [DEDUCED 78: notes/assumptions] -/
def mirrorStatus (st : Nat) : Nat := if st = ST_NO_DIE ∨ st = ST_REFUSED_OWNER ∨ st = ST_DBG_LOCKED then 0 else st

/-- A request to the mirror is served. -/
def mirrorServe (q : Req) (s : State) : State :=
  match mirrorWord q with
  | none => refuse q ST_BAD_ACCESS s
  | some (a, first) =>
    if q.op = RD then
      let x := regRead .mirror false a s
      if mirrorStatus x.1.1 = 0 then answer q (x.1.2 * 256 ^ first) x.2 else refuse q x.1.1 x.2
    else match mirrorMaster q.src with
      | none => refuse q ST_REFUSED_MIRROR s
      | some m =>
        let x := regWrite m a ((q.units.getD 0 {}).data / 256 ^ first % 2 ^ 32) s
        if mirrorStatus x.1 = 0 then answer q 0 x.2 else refuse q x.1 x.2

/-- A held request that the mirror serves.  [DESIGN CHOICE 82: notes/assumptions] -/
def Held.mirror (h : Held) : Bool := h.req.dst == epMgmt && h.why == .design

/-- Requests that wait at the mirror are served, oldest first.  [DESIGN CHOICE 4, 82: notes/assumptions] -/
def settle (s : State) : State :=
  match s.welt.held.filter Held.mirror with
  | [] => s
  | l => pump (l.foldl (fun s h => mirrorServe h.req s) (s.modWelt fun w => { w with held := w.held.filter fun h => !h.mirror }))

/-- A request enters Welt and everything that can move does.  [DESIGN CHOICE 82: notes/assumptions] -/
def sendWelt (q : Req) (s : State) : State := settle (inject q s)

/-- Idle block: a nanosecond passes, and the mirror serves what waits for it.  [DESIGN CHOICE 4: notes/assumptions] -/
def idle (s : State) : State := settle s.tick

end Sys2Proof.Machine
end

