-- ==== Sys2Proof/Machine/AwlRows.lean ====
section
/-! DEFINITION. The rows of the Awl instruction set: each runs a fetched word of its mnemonic on its core, and what the word sends into Welt
moves on (spec/10_awl_instruction_set.md). -/

namespace Sys2Proof.Machine

open Sys2Proof

/-- A word of mnemonic `m` runs on its core; what it sent moves on. -/
def awlRun (m : Mn) (f : Fetch) (s : State) : State := settle (pump (awlRow m f s))

/-- ADD (R265). -/
def execAwlAdd (f : Fetch) (s : State) : Out := .next (awlRun .add f s)

/-- SUB (R265). -/
def execAwlSub (f : Fetch) (s : State) : Out := .next (awlRun .sub f s)

/-- CMP (R265). -/
def execAwlCmp (f : Fetch) (s : State) : Out := .next (awlRun .cmp f s)

/-- AND (R265). -/
def execAwlAnd (f : Fetch) (s : State) : Out := .next (awlRun .and f s)

/-- OR (R265). -/
def execAwlOr (f : Fetch) (s : State) : Out := .next (awlRun .or f s)

/-- XOR (R265). -/
def execAwlXor (f : Fetch) (s : State) : Out := .next (awlRun .xor f s)

/-- SHL (R265). -/
def execAwlShl (f : Fetch) (s : State) : Out := .next (awlRun .shl f s)

/-- SHR (R265). -/
def execAwlShr (f : Fetch) (s : State) : Out := .next (awlRun .shr f s)

/-- ASR (R265). -/
def execAwlAsr (f : Fetch) (s : State) : Out := .next (awlRun .asr f s)

/-- NEG (R265). -/
def execAwlNeg (f : Fetch) (s : State) : Out := .next (awlRun .neg f s)

/-- ABS (R265). -/
def execAwlAbs (f : Fetch) (s : State) : Out := .next (awlRun .abs f s)

/-- SAT (R265). -/
def execAwlSat (f : Fetch) (s : State) : Out := .next (awlRun .sat f s)

/-- RND (R265). -/
def execAwlRnd (f : Fetch) (s : State) : Out := .next (awlRun .rnd f s)

/-- MPY (R265). -/
def execAwlMpy (f : Fetch) (s : State) : Out := .next (awlRun .mpy f s)

/-- MAC (R265). -/
def execAwlMac (f : Fetch) (s : State) : Out := .next (awlRun .mac f s)

/-- MSU (R265). -/
def execAwlMsu (f : Fetch) (s : State) : Out := .next (awlRun .msu f s)

/-- MPY_UU (R266). -/
def execAwlMpyUu (f : Fetch) (s : State) : Out := .next (awlRun .mpyUu f s)

/-- MAC_UU (R266). -/
def execAwlMacUu (f : Fetch) (s : State) : Out := .next (awlRun .macUu f s)

/-- MAC_SU (R266). -/
def execAwlMacSu (f : Fetch) (s : State) : Out := .next (awlRun .macSu f s)

/-- PARALLEL_MOVE (R267). -/
def execAwlParallelMove (f : Fetch) (s : State) : Out := .next (awlRun .parallel f s)

/-- LDX (R270). -/
def execAwlLdx (f : Fetch) (s : State) : Out := .next (awlRun .ldx f s)

/-- LDY (R270). -/
def execAwlLdy (f : Fetch) (s : State) : Out := .next (awlRun .ldy f s)

/-- STX (R270). -/
def execAwlStx (f : Fetch) (s : State) : Out := .next (awlRun .stx f s)

/-- STY (R270). -/
def execAwlSty (f : Fetch) (s : State) : Out := .next (awlRun .sty f s)

/-- LDW (R236). -/
def execAwlLdw (f : Fetch) (s : State) : Out := .next (awlRun .ldw f s)

/-- STW (R236). -/
def execAwlStw (f : Fetch) (s : State) : Out := .next (awlRun .stw f s)

/-- MOV (R271). -/
def execAwlMov (f : Fetch) (s : State) : Out := .next (awlRun .mov f s)

/-- MOV_TO_SYSREG (R272). -/
def execAwlMovToSysreg (f : Fetch) (s : State) : Out := .next (awlRun .movToSys f s)

/-- MOV_FROM_SYSREG (R271); one that reads FIN finds the word that the fabric presents (R223). -/
def execAwlMovFromSysreg (f : Fetch) (s : State) : Out :=
  .next (awlRun .movFromSys f (if isMn f .movFromSys ∧ bits f.w.toNat 13 5 = 16 then s.modCore f.core fun k => { k with fin := f.fin.toNat } else s))

/-- MOV_IMM16 (R271). -/
def execAwlMovImm16 (f : Fetch) (s : State) : Out := .next (awlRun .movImm f s)

/-- LONG_IMMEDIATE (R279). -/
def execAwlLongImmediate (f : Fetch) (s : State) : Out := .next (awlRun .long f s)

/-- PMOD (R273). -/
def execAwlPmod (f : Fetch) (s : State) : Out := .next (awlRun .pmod f s)

/-- PADD (R273). -/
def execAwlPadd (f : Fetch) (s : State) : Out := .next (awlRun .padd f s)

/-- BR (R274). -/
def execAwlBr (f : Fetch) (s : State) : Out := .next (awlRun .br f s)

/-- BRC (R275). -/
def execAwlBrc (f : Fetch) (s : State) : Out := .next (awlRun .brc f s)

/-- CALL (R274). -/
def execAwlCall (f : Fetch) (s : State) : Out := .next (awlRun .call f s)

/-- RET (R274). -/
def execAwlRet (f : Fetch) (s : State) : Out := .next (awlRun .ret f s)

/-- RTI (R274). -/
def execAwlRti (f : Fetch) (s : State) : Out := .next (awlRun .rti f s)

/-- LOOP (R232). -/
def execAwlLoop (f : Fetch) (s : State) : Out := .next (awlRun .loop f s)

/-- NOP (R278). -/
def execAwlNop (f : Fetch) (s : State) : Out := .next (awlRun .nop f s)

/-- ROT (R234). -/
def execAwlRot (f : Fetch) (s : State) : Out := .next (awlRun .rot f s)

/-- LOCK (R244). -/
def execAwlLock (f : Fetch) (s : State) : Out := .next (awlRun .lock f s)

/-- WAIT (R278). -/
def execAwlWait (f : Fetch) (s : State) : Out := .next (awlRun .wait f s)

/-- FENCE (R278). -/
def execAwlFence (f : Fetch) (s : State) : Out := .next (awlRun .fence f s)

/-- TRAP (R278). -/
def execAwlTrap (f : Fetch) (s : State) : Out := .next (awlRun .trap f s)

/-- DBG (R278). -/
def execAwlDbg (f : Fetch) (s : State) : Out := .next (awlRun .dbg f s)

/-- EI (R278). -/
def execAwlEi (f : Fetch) (s : State) : Out := .next (awlRun .ei f s)

/-- DI (R278). -/
def execAwlDi (f : Fetch) (s : State) : Out := .next (awlRun .di f s)

/-- RESERVED_ENCODING: a word that no instruction has, at the privilege of its core (R254, R256). -/
def execReservedEncoding (f : Fetch) (s : State) : Out :=
  if legalWord f.w.toNat (s.core f.core).arch.ipl then .next s else .next (settle (pump (awlStep f s)))

end Sys2Proof.Machine
end

