-- ==== Sys2Proof/Machine/PcieRows.lean ====
section
/-! DEFINITION. Memory TLPs of the PCIe port: registers, MSI-X table and pending bits over BAR0, the Last store over BAR2 and Welt over
BAR4 (R12, R411 to R413). -/

namespace Sys2Proof.Machine

open Sys2Proof

/-- A TLP completes: 0 success, 1 Unsupported Request, and its data.  [DESIGN CHOICE 60: notes/assumptions] -/
def tlpDone (st v : Nat) (s : State) : State := s.modPcie fun p => { p with cpl := p.cpl ++ [(st, v)] }

/-- The port takes TLPs: it is powered and its link is up.  [DEDUCED 61: notes/assumptions] -/
def pcieUp (s : State) : Bool := s.mode != DORMANT && s.rd PCI_STAT_SPEED != 0

/-- The MSI-X table lies at BAR0 offsets 0x300_0000 to 0x300_7FFF, the pending bits at 0x300_8000 to 0x300_80FF. -/
def inTable (off : Nat) : Bool := 0x3000000 ≤ off && off < 0x3008000
def inPba (off : Nat) : Bool := 0x3008000 ≤ off && off < 0x3008100

/-- Words of the table; vector control is masked unless written.  [PRESUMED 31: notes/assumptions] -/
def tblDef (i : Nat) : Nat := if i % 4 = 3 then 1 else 0
def tblGet (s : State) (i : Nat) : Nat := tabGet (tblDef i) s.pcie.table i
def tblPut (i v : Nat) (s : State) : State := s.modPcie fun p => { p with table := tabSet (tblDef i) p.table i v }

/-- Word `i` of the pending bits. -/
def pbaWord (s : State) (i : Nat) : Nat := (List.range 32).foldl (fun n k => if s.pcie.pend.contains (32 * i + k) then n + 2 ^ k else n) 0

/-- An aligned access of one or two words. -/
def dwords (off n : Nat) : Bool := (n == 4 || n == 8) && off % n == 0

/-- A write TLP on BAR0 of `n` bytes, all enabled if `full`.  [DEDUCED 61: notes/assumptions] -/
def bar0Write (off n : Nat) (full : Bool) (v : Nat) (s : State) : State :=
  if off < 0x1C00000 ∧ n = 4 ∧ off % 4 = 0 ∧ full = true then (regWrite .host off v s).2
  else if inTable off ∧ dwords off n = true ∧ full = true then
    let i := (off - 0x3000000) / 4
    let s := tblPut i (v % 2 ^ 32) s
    msixUnmask (if n = 8 then tblPut (i + 1) (v / 2 ^ 32 % 2 ^ 32) s else s)
  else if inPba off ∧ dwords off n = true then s
  else tlpDone 1 0 s

/-- A read TLP on BAR0.  [DEDUCED 61: notes/assumptions] -/
def bar0Read (off n : Nat) (s : State) : State :=
  if off < 0x1C00000 ∧ n = 4 ∧ off % 4 = 0 then
    let x := regRead .host false off s
    tlpDone 0 x.1.2 { x.2 with reply := [x.1.2] }
  else if inTable off ∧ dwords off n = true then
    let i := (off - 0x3000000) / 4
    tlpDone 0 (tblGet s i + (if n = 8 then tblGet s (i + 1) * 2 ^ 32 else 0)) s
  else if inPba off ∧ dwords off n = true then
    let i := (off - 0x3008000) / 4
    tlpDone 0 (pbaWord s i + (if n = 8 then pbaWord s (i + 1) * 2 ^ 32 else 0)) s
  else tlpDone 1 0 s

/-- Welt address of an offset of BAR2 or BAR4; none beyond the BAR, or in the register mirror (R411). -/
def barAddr (s : State) (bar off n : Nat) : Option Nat :=
  if bar = 1 then (if off + n ≤ 2 ^ 25 then some (lastBase + off) else none)
  else
    let a := s.rd PCI_B4WIN_WIN * 2 ^ 36 + off
    if inMirror a || inMirror (a + n - 1) then none else some a

/-- Contiguous runs of enabled bytes: start and length. -/
def runsOf : List Bool → Nat → List (Nat × Nat)
  | [], _ => []
  | false :: t, i => runsOf t (i + 1)
  | true :: t, i =>
    match runsOf t (i + 1) with
    | [] => [(i, 1)]
    | (j, n) :: r => if j = i + 1 then (i, n + 1) :: r else (i, 1) :: (j, n) :: r

/-- The `n` lowest tags that the port has not in use. -/
def pcieTags (n : Nat) (s : State) : List Nat :=
  let used := ((s.welt.out.filter fun o => o.src == epPcie).map Outst.tag) ++ ((s.welt.wait.filter fun q => q.src == epPcie).map Req.tag) ++
    s.pcie.writes.map Prod.snd ++ s.pcie.reads.flatMap fun r => r.reqs.map Req.tag
  ((List.range 4096).filter fun t => !used.contains t).take n

/-- The requests take tags of the port; none where it has too few. -/
def tagged (l : List Req) (s : State) : Option (List Req) :=
  let ts := pcieTags l.length s
  if ts.length < l.length then none else some ((List.range l.length).map fun i => { l.getD i {} with tag := ts.getD i 0 })

/-- A write TLP on BAR2 or BAR4: one WR for each 256-byte block and each run of enabled bytes (R412).  [DESIGN CHOICE 60: notes/assumptions] -/
def barWrite (bar a : Nat) (be : List Bool) (v : Nat) (s : State) : State :=
  let l := (runsOf be 0).flatMap fun r => blockReqs epPcie WR (a + r.1) r.2 (v / 256 ^ r.1 % 256 ^ r.2)
  match tagged l s with
  | none => s
  | some l =>
    let s := s.modPcie fun p => { p with writes := p.writes ++ l.map fun q => (bar, q.tag) }
    settle (pump (l.foldl (fun s q => present q s) s))

/-- A read TLP on BAR2 or BAR4: held until every earlier write has its WRA (R412).  [DESIGN CHOICE 60: notes/assumptions] -/
def barRead (bar a n : Nat) (s : State) : State :=
  match tagged (blockReqs epPcie RD a n 0) s with
  | none => s
  | some l =>
    settle (pump (s.modPcie fun p => { p with reads := p.reads ++ [{ bar, after := p.writes.map Prod.snd, reqs := l }] }))

/-- PCIE_MEMORY_WRITE: a memory write of the bytes of `data` that `be` enables, from offset `off` of BAR0, BAR2 or BAR4. -/
def execPcieMemoryWrite (bar : Fin 3) (off : BitVec 36) (be : List Bool) (data : Nat) (s : State) : Out :=
  let o := off.toNat
  if pcieUp s = false then .next s
  else if s.rd PCI_STAT_DSTATE = 3 then .next (tlpDone 1 0 s)
  else if bar = 0 then .next (bar0Write o be.length (be.all id) data s)
  else match barAddr s bar o be.length with
    | some a => .next (barWrite bar a be data s)
    | none => .next (tlpDone 1 0 s)

/-- PCIE_MEMORY_READ: a memory read of `n` bytes. -/
def execPcieMemoryRead (bar : Fin 3) (off : BitVec 36) (n : Fin 4097) (s : State) : Out :=
  let o := off.toNat
  if pcieUp s = false then .next s
  else if s.rd PCI_STAT_DSTATE = 3 then .next (tlpDone 1 0 s)
  else if bar = 0 then .next (bar0Read o n s)
  else match barAddr s bar o (max 1 n) with
    | some a => .next (barRead bar a (max 1 n) s)
    | none => .next (tlpDone 1 0 s)

end Sys2Proof.Machine
end

