-- ==== Sys2Proof/Machine/Window.lean ====
section
/-! DEFINITION. The debug window: DBGACC operations on registers and on Welt addresses (R538 to R544). -/

namespace Sys2Proof.Machine

open Sys2Proof

/-- The low `n` 32-bit words of a number. -/
def words32 (n x : Nat) : List Nat := (List.range n).map fun i => x / 2 ^ (32 * i) % 2 ^ 32

/-- The debug access register as a capture loads it (R540). -/
def dbgCapture (s : State) : Nat := s.dbg.data % 2 ^ 32 + s.dbg.status % 2 ^ 16 * 2 ^ 66 + s.dbg.drop.toNat * 2 ^ 82 + s.dbg.done.toNat * 2 ^ 83

/-- An operation completes with a status, and with data where it read some. -/
def winDone (st : Nat) (data : Option Nat) (s : State) : State :=
  { s with dbg := { s.dbg with done := true, status := st, data := data.getD s.dbg.data } }

/-- An operation is presented: discarded while one is in progress, refused while the port is closed (R539, R540). -/
def winGo (f : State → State) (s : State) : State :=
  if dbgPowered s = false then s
  else if s.welt.win.isSome then { s with dbg := { s.dbg with drop := true } }
  else if s.rd DBG_PORT_OPEN = 0 then winDone ST_DBG_LOCKED none s
  else f s

/-- Address of a register access: [27:0], with [47:28] = 0. -/
def winAddr (a : BitVec 48) : Option Nat := if a.toNat < 2 ^ 28 then some a.toNat else none

/-- Status of a window access to a register: a die that is not there completes without effect and reads 0 (R33).  [DEDUCED 79: notes/assumptions] -/
def winStatus (st : Nat) : Nat := if st = ST_NO_DIE then 0 else st

/-- A register read through the window (R541, R543, R544).  [DEDUCED 79: notes/assumptions] -/
def winReadReg (peek : Bool) (a : Nat) (s : State) : State :=
  let x := regRead .debug peek a s
  winDone (winStatus x.1.1) (if winStatus x.1.1 = 0 then some x.1.2 else none) x.2

/-- A register write through the window.  [DEDUCED 79: notes/assumptions] -/
def winWriteReg (a v : Nat) (s : State) : State :=
  let x := regWrite .debug a v s
  winDone (winStatus x.1) none x.2

/-- The address lies in a sealed bank. -/
def inSealedBank (s : State) (a : Nat) : Bool :=
  inDieSpaces a && (match addrDst s a with
    | some e => epInRegion e && epLocal e % 4 == 2 && (s.bank (bix (epDie e) (epRegion e) (bankOf a))).sealed
    | none => false)

/-- Why the management processor refuses a window access to a Welt address before it sends anything (R542). -/
def winRefusal (a : Nat) (wr : Bool) (s : State) : Option (Nat × Option Nat) :=
  if s.mode = DORMANT then some (ST_PEER_RESET, none)
  else if a % 4 ≠ 0 then some (ST_WLT_ALIGN, none)
  else if inVault a then some (ST_REFUSED_VAULT, none)
  else if inSealedBank s a then some (if wr then (ST_REFUSED_SEALED, none) else (0, some 0))
  else if inMirror a then some (ST_BAD_ACCESS, none)
  else none

/-- A window access to a Welt address: the management processor sends an RD or a WR of four bytes with tag 0.  [DESIGN CHOICE 80: notes/assumptions] -/
def winWelt (a : Nat) (wr : Option Nat) (s : State) : State :=
  match winRefusal a wr.isSome s with
  | some x => winDone x.1 x.2 s
  | none =>
    let q := (blockReqs epMgmt (if wr.isSome then WR else RD) a 4 (wr.getD 0)).headD {}
    let s := { (s.modWelt fun w => { w with win := some (a % 64) }) with dbg := { s.dbg with done := false } }
    sendWelt q s

/-- DBGACC_POLL: Capture-DR loads the result of the latest operation and clears DROP; with `reserved` the register shifted in has OP 3, which
completes with ST_DBG_BADCMD.  [DEDUCED 79: notes/assumptions] -/
def execDbgaccPoll (reserved : Bool) (s : State) : Out :=
  if dbgPowered s = false then .next s
  else
    let t : State := { s with reply := words32 3 (dbgCapture s), dbg := { s.dbg with drop := false } }
    .next (if reserved then winGo (winDone ST_DBG_BADCMD none) t else t)

/-- DBGACC_READ. -/
def execDbgaccRead (peek space : Bool) (a : BitVec 48) (s : State) : Out :=
  .next (winGo (fun s =>
    if space then winWelt a.toNat none s
    else match winAddr a with
      | some x => winReadReg peek x s
      | none => winDone ST_BAD_ACCESS none s) s)

/-- DBGACC_WRITE: each one is counted in DBG_PORT.WRITES.  [DEDUCED 79: notes/assumptions] -/
def execDbgaccWrite (space : Bool) (a : BitVec 48) (v : BitVec 32) (s : State) : Out :=
  .next (winGo (fun s =>
    let s := s.inci DBG_PORT_WRITES 0
    if space then winWelt a.toNat (some v.toNat) s
    else match winAddr a with
      | some x => winWriteReg x v.toNat s
      | none => winDone ST_BAD_ACCESS none s) s)

end Sys2Proof.Machine
end

