-- ==== Sys2Proof/Machine/Sideband.lean ====
section
/-! DEFINITION. The side-band port: WSP frames and commands, its rate, its settings and the control it takes and gives back
(spec/20_sideband_and_security.md, R506 to R520). -/

namespace Sys2Proof.Machine

open Sys2Proof

/-! Frames (R507) -/

/-- CRC-32 of bytes. -/
def crcBytes (l : List Nat) : Nat := crc32 (8 * l.length) (ofBytes l)

/-- The module answers a command; it never answers a broadcast.  [DEDUCED 81: notes/assumptions] -/
def wspReply (bcast : Bool) (l : List Nat) (s : State) : State := { s with reply := if bcast then [] else l }

/-- A valid frame has arrived: it confirms a change of rate (R511), and one addressed to the module is activity of the side-band master (R520).  [DEDUCED 81: notes/assumptions] -/
def wspSeen (own : Bool) (s : State) : State :=
  s.modSide fun x => { x with proving := none, frameAt := if own then s.clocks.elapsed else x.frameAt }

/-- A command of the side-band master: in SCRAP every one but IDENT and READ completes with ST_REFUSED_LIFECYCLE (R524).  The bus
master sends nothing while a transfer of the module is in progress (R508).  [DESIGN CHOICE 5; DEDUCED 70: notes/assumptions] -/
def wspGo (bcast readOnly : Bool) (f : State → State) (s : State) : State :=
  if s.welt.mem.isSome then s
  else
    let s := wspSeen (!bcast) s
    if s.rd SEC_STAT_LC = 4 ∧ readOnly = false then wspReply bcast [ST_REFUSED_LIFECYCLE] s else f s

/-! Commands (R509) -/

/-- The word at a register address, without the rules on who reads it. -/
def wordAt (a : Nat) (s : State) : Nat :=
  match regAt a with
  | some r => regWord r (a - r.adr) s
  | none => 0

/-- IDENT. -/
def wspIdent (b : Bool) (s : State) : State :=
  wspGo b true (fun s => wspReply b [0, wordAt 0 s, wordAt 4 s, wordAt SEC_STAT_LC.adr s, wordAt GLB_MODE_MODE.adr s] s) s

/-- Consecutive registers are read until one fails: status, words, state. -/
def wspReads : (n a : Nat) → State → (Nat × List Nat) × State
  | 0, _, s => ((0, []), s)
  | n + 1, a, s =>
    let x := regRead .sideband false a s
    if x.1.1 ≠ 0 then ((x.1.1, []), x.2)
    else
      let y := wspReads n (a + 4) x.2
      ((y.1.1, x.1.2 :: y.1.2), y.2)

/-- READ. -/
def wspRead (b : Bool) (a n : Nat) (s : State) : State :=
  wspGo b true (fun s =>
    if n = 0 ∨ 256 < n then wspReply b [ST_SBP_BADCMD] s
    else
      let x := wspReads n a s
      wspReply b (x.1.1 :: x.1.2) x.2) s

/-- Consecutive registers are written until one fails. -/
def wspWrites : (a : Nat) → List Nat → State → Nat × State
  | _, [], s => (0, s)
  | a, v :: t, s =>
    let x := regWrite .sideband a v s
    if x.1 ≠ 0 then x else wspWrites (a + 4) t x.2

/-- WRITE. -/
def wspWrite (b : Bool) (a : Nat) (vs : List Nat) (s : State) : State :=
  wspGo b true (fun s =>
    if vs.length = 0 ∨ 256 < vs.length then wspReply b [ST_SBP_BADCMD] s
    else
      let x := wspWrites a vs s
      wspReply b [x.1] x.2) s

/-- BAUD (R511): the answer goes out at the old rate, then the rate changes and waits for a valid frame. -/
def wspBaud (b : Bool) (i : Nat) (s : State) : State :=
  wspGo b false (fun s =>
    if 6 < i then wspReply b [ST_SBP_BADCMD] s
    else if nvsGet s nvsWSPMAX < i ∨ (s.mode = DORMANT ∧ 2 < i) then wspReply b [ST_SBP_RATE] s
    else wspReply b [0] ((sbpEvent 6 (s.wr SBP_LINK_RATE i)).modSide fun x => { x with proving := some s.clocks.elapsed })) s

/-- Control changes hands, with its event and record (R519, R520, R583). -/
def giveControl (v kind : Nat) (s : State) : State :=
  let t := sbpEvent kind (s.wr SBP_CTRL_CONTROL v)
  if s.rd SBP_CTRL_CONTROL = v then t else sbpRecord kind t

/-- TAKE (R519). -/
def wspTake (b : Bool) (s : State) : State :=
  wspGo b false (fun s =>
    if s.rd SBP_CTRL_LAPSED = 1 ∨ s.rd SBP_GRANT_GRANT = 1 ∨ s.rd SBP_CTRL_CONTROL = 1 then wspReply b [0] (giveControl 1 3 s)
    else wspReply b [ST_SBP_CONTROL] s) s

/-- RELEASE (R520). -/
def wspRelease (b : Bool) (s : State) : State :=
  wspGo b false (fun s => wspReply b [0] (if s.rd SBP_CTRL_CONTROL = 0 then s else giveControl 0 4 s)) s

/-- NVREAD (R512).  [DEDUCED 81: notes/assumptions] -/
def wspNvread (b : Bool) (off n : Nat) (s : State) : State :=
  wspGo b false (fun s =>
    if n = 0 ∨ 64 < n then wspReply b [ST_SBP_BADCMD] s
    else wspReply b (0 :: (List.range n).map fun i => nvsGet s (off + i)) s) s

/-- The value lies in the range of the setting at its offset. -/
def nvsOk (o v : Nat) : Bool :=
  if o = 0 ∨ o = 1 then v < 2 else if o = 2 ∨ o = 5 then v < 256 else if o = 3 then 1 ≤ v && v ≤ 247 else if o = 4 then v ≤ 6 else false

/-- Settings from an offset on take bytes; whether one was refused.  [DEDUCED 81: notes/assumptions] -/
def nvsPut : (o : Nat) → List Nat → State → Bool × State
  | _, [], s => (false, s)
  | o, v :: t, s =>
    let bad := !nvsOk o v
    let y := nvsPut (o + 1) t (if bad then s else s.modSide fun x => { x with nvs := tabSet (nvsDef o) x.nvs o v })
    (bad || y.1, y.2)

/-- NVWRITE (R512): a short write of the embedded flash.  [DEDUCED 81: notes/assumptions] -/
def wspNvwrite (b : Bool) (off : Nat) (l : List Nat) (s : State) : State :=
  wspGo b false (fun s =>
    if l.length = 0 ∨ 64 < l.length then wspReply b [ST_SBP_BADCMD] s
    else if s.rd PWR_STAT_NVINH = 1 ∨ s.rd PWR_STAT_STBY = 0 then wspReply b [ST_SBP_NVINH] s
    else
      let x := nvsPut off l s
      wspReply b [if x.1 then ST_SBP_BADCMD else 0] x.2) s

/-- Why the management processor refuses a transfer of `n` bytes at `a` before it sends anything (R509). -/
def memRefusal (a n : Nat) (s : State) : Option Nat :=
  let any := fun (p : Nat → Bool) => (List.range n).any fun i => p (a + i)
  if any inVault then some ST_REFUSED_VAULT
  else if any (inSealedBank s) then some ST_REFUSED_SEALED
  else if any inMirror then some ST_SBP_BADCMD
  else none

/-- MEMREAD and MEMWRITE: the management processor makes the transfer as RDs or WRs of one 256-byte block each, with tags 1 to 5 (R160).  [DESIGN CHOICE 80: notes/assumptions] -/
def wspMem (b : Bool) (a n : Nat) (wr : Option Nat) (s : State) : State :=
  wspGo b false (fun s =>
    if n = 0 ∨ 1024 < n then wspReply b [ST_SBP_BADCMD] s
    else if s.mode = DORMANT then wspReply b [ST_MODE_DORMANT] s
    else match memRefusal a n s with
      | some st => wspReply b [st] s
      | none =>
        let l := blockReqs epMgmt (if wr.isSome then WR else RD) a n (wr.getD 0)
        let l := (List.range l.length).map fun i => { l.getD i {} with tag := i + 1 }
        let s := s.modWelt fun w => { w with mem := some { reqs := l } }
        settle (pump (l.foldl (fun s q => present q s) s))) s

/-! Rows -/

/-- WSP_IDENT; `b` says in this and the following rows that the frame is a broadcast. -/
def execWspIdent (b : Bool) (s : State) : Out := .next (wspIdent b s)

/-- WSP_READ. -/
def execWspRead (b : Bool) (a : BitVec 32) (n : BitVec 16) (s : State) : Out := .next (wspRead b a.toNat n.toNat s)

/-- WSP_WRITE. -/
def execWspWrite (b : Bool) (a : BitVec 32) (vs : List (BitVec 32)) (s : State) : Out := .next (wspWrite b a.toNat (vs.map BitVec.toNat) s)

/-- WSP_BAUD. -/
def execWspBaud (b : Bool) (i : BitVec 8) (s : State) : Out := .next (wspBaud b i.toNat s)

/-- WSP_BAUD_FALLBACK (R511). -/
def execWspBaudFallback (s : State) : Out :=
  match s.side.proving with
  | none => .next s
  | some t => .next (sbpEvent 7 (((s.reachElapsed (t + 1000000000)).wr SBP_LINK_RATE 0).modSide fun x => { x with proving := none }))

/-- WSP_TAKE. -/
def execWspTake (b : Bool) (s : State) : Out := .next (wspTake b s)

/-- WSP_RELEASE. -/
def execWspRelease (b : Bool) (s : State) : Out := .next (wspRelease b s)

/-- WSP_NVREAD. -/
def execWspNvread (b : Bool) (off : BitVec 16) (n : BitVec 8) (s : State) : Out := .next (wspNvread b off.toNat n.toNat s)

/-- WSP_NVWRITE. -/
def execWspNvwrite (b : Bool) (off : BitVec 16) (l : List Byte) (s : State) : Out := .next (wspNvwrite b off.toNat (l.map BitVec.toNat) s)

/-- WSP_MEMREAD. -/
def execWspMemread (b : Bool) (a : BitVec 48) (n : BitVec 16) (s : State) : Out := .next (wspMem b a.toNat n.toNat none s)

/-- WSP_MEMWRITE. -/
def execWspMemwrite (b : Bool) (a : BitVec 48) (l : List Byte) (s : State) : Out :=
  .next (wspMem b a.toNat l.length (some (ofBytes (l.map BitVec.toNat))) s)

/-- A command byte with its payload: a reserved command, and a payload of the wrong length for its command, are answered with
ST_SBP_BADCMD. -/
def wspCommand (b : Bool) (cmd : Nat) (p : List Nat) (s : State) : State :=
  let n := p.length
  let fld := fun i k => ofBytes ((p.drop i).take k)
  let bad := wspGo b false (wspReply b [ST_SBP_BADCMD]) s
  match cmd with
  | 0x01 => if n = 0 then wspIdent b s else bad
  | 0x02 => if n = 6 then wspRead b (fld 0 4) (fld 4 2) s else bad
  | 0x03 => if 6 ≤ n ∧ n = 6 + 4 * fld 4 2 then wspWrite b (fld 0 4) ((List.range (fld 4 2)).map fun i => fld (6 + 4 * i) 4) s else bad
  | 0x04 => if n = 1 then wspBaud b (fld 0 1) s else bad
  | 0x05 => if n = 0 then wspTake b s else bad
  | 0x06 => if n = 0 then wspRelease b s else bad
  | 0x07 => if n = 3 then wspNvread b (fld 0 2) (fld 2 1) s else bad
  | 0x08 => if 3 ≤ n ∧ n = 3 + fld 2 1 then wspNvwrite b (fld 0 2) (p.drop 3) s else bad
  | 0x09 => if n = 8 then wspMem b (fld 0 6) (fld 6 2) none s else bad
  | 0x0A => if 8 ≤ n ∧ n = 8 + fld 6 2 then wspMem b (fld 0 6) (n - 8) (some (ofBytes (p.drop 8))) s else bad
  | _ => bad

/-- WSP_FRAME_RECEIVE (R507): the bytes of a frame from ADDR to its CRC.  A bad CRC, a LEN above 1,040 or not that of the frame, and a
reserved ADDR are counted and discarded; a frame of another module is not the module's. -/
def execWspFrameReceive (bytes : List Byte) (s : State) : Out :=
  let l := bytes.map BitVec.toNat
  let n := l.length - 8
  let adr := l.getD 0 0
  let len := l.getD 1 0 + 256 * l.getD 2 0
  let body := l.take (n + 4)
  if l.length < 8 ∨ 1040 < len ∨ len ≠ n ∨ 247 < adr ∨ ofBytes (l.drop (n + 4)) ≠ crcBytes body then .next (s.inci SBP_RXERR_COUNT 0)
  else if adr = 0 ∨ adr = nvsGet s nvsWSPADDR then .next (wspCommand (adr == 0) (l.getD 3 0) (body.drop 4) s)
  else .next (wspSeen false s)

/-- CONTROL_AUTO_RETURN (R520): SBP_IDLE.SEC seconds without a valid frame, with a valid heartbeat within TMO. -/
def execControlAutoReturn (s : State) : Out :=
  if s.rd SBP_CTRL_CONTROL = 0 ∨ s.rd SBP_IDLE_SEC = 0 then .next s
  else
    let t := s.reachElapsed (s.side.frameAt + s.rd SBP_IDLE_SEC * 1000000000)
    let live := match t.side.hbAt with
      | some h => decide (t.clocks.elapsed ≤ h + t.rd GLB_HBTMO_TMO * 1000000)
      | none => false
    .next (if live then giveControl 0 5 t else s)

end Sys2Proof.Machine
end

