-- ==== Sys2Proof/Machine/WeltRows.lean ====
section
/-! DEFINITION. The rows of the Welt network: requests that an endpoint presents, responses, timeouts, snoops and guaranteed units
(spec/06_welt_network.md, spec/07_welt_guaranteed_service.md). -/

namespace Sys2Proof.Machine

open Sys2Proof

/-- The endpoint can present requests: it is one of R151, and its region or the Last runs.  [DEDUCED 35: notes/assumptions] -/
def canSend (s : State) (e : Nat) : Bool :=
  epValid e && s.mode != DORMANT && (!epInRegion e || endpointsOn s (epDie e) (epRegion e))

/-- Endpoint `q.src` presents a request of op `op`.  [DEDUCED 35: notes/assumptions] -/
def weltRow (op : Nat) (q : Req) (s : State) : State := if canSend s q.src then sendWelt { q with op } s else s

/-- RD (R161). -/
def execRd (q : Req) (s : State) : Out := .next (weltRow RD q s)

/-- WR (R161). -/
def execWr (q : Req) (s : State) : Out := .next (weltRow WR q s)

/-- WRP (R161). -/
def execWrp (q : Req) (s : State) : Out := .next (weltRow WRP q s)

/-- AADD (R165). -/
def execAadd (q : Req) (s : State) : Out := .next (weltRow AADD q s)

/-- ASWP (R165). -/
def execAswp (q : Req) (s : State) : Out := .next (weltRow ASWP q s)

/-- ACAS (R165). -/
def execAcas (q : Req) (s : State) : Out := .next (weltRow ACAS q s)

/-- LRD (R166). -/
def execLrd (q : Req) (s : State) : Out := .next (weltRow LRD q s)

/-- ULWR (R166). -/
def execUlwr (q : Req) (s : State) : Out := .next (weltRow ULWR q s)

/-- UNL (R166). -/
def execUnl (q : Req) (s : State) : Out := .next (weltRow UNL q s)

/-- MSG (R161). -/
def execMsg (q : Req) (s : State) : Out := .next (weltRow MSG q s)

/-- GWR (R184). -/
def execGwr (q : Req) (s : State) : Out := .next (weltRow GWR q s)

/-- GMSG (R184). -/
def execGmsg (q : Req) (s : State) : Out := .next (weltRow GMSG q s)

/-- GUARANTEED_SLOT_INJECTION (R184). -/
def execGuaranteedSlotInjection (f : Fin 1024) (at_ taken : Nat) (s : State) : Out := .next (settle (slotInject f at_ taken s))

/-- GUARANTEED_BUFFER_OVERFLOW (R186). -/
def execGuaranteedBufferOverflow (f : Fin 1024) (s : State) : Out := .next (settle (overflowArrive f s))

/-- RESPONSE_ARRIVAL (R163). -/
def execResponseArrival (r : Resp) (lat : Nat) (s : State) : Out := .next (settle (respArrive r lat s))

/-- RESPONSE_TIMEOUT (R164). -/
def execResponseTimeout (e tag : Nat) (s : State) : Out := .next (settle (respTimeout e tag s))

/-- LOCK_TIMEOUT (R166). -/
def execLockTimeout (tgt line : Nat) (s : State) : Out := .next (settle (lockTimeout tgt line s))

/-- SINV (R176). -/
def execSinv (c : Fin 384) (line : Nat) (s : State) : Out := .next (sinvArrive c line s)

/-- SACK (R176). -/
def execSack (c : Fin 384) (line : Nat) (s : State) : Out := .next (settle (sackArrive c line s))

/-- The response is for a load of the core that waits for its data. -/
def forLoad (s : State) (r : Resp) : Bool :=
  epIsCore r.to_ && (s.core (epCore r.to_)).loads.any fun l => l.tag == r.tag && l.data.isNone && l.err.isNone

/-- LDW_DATA_ARRIVAL (R236): the response of a load; another response leaves the state. -/
def execLdwDataArrival (r : Resp) (lat : Nat) (s : State) : Out :=
  if forLoad s r then .next (settle (respArrive r lat s)) else .next s

/-- STW_RESPONSE (R236): the response of an STW; another response leaves the state. -/
def execStwResponse (r : Resp) (lat : Nat) (s : State) : Out :=
  if epIsCore r.to_ ∧ ((s.core (epCore r.to_)).stq.any fun p => p.1 == r.tag) = true then .next (settle (respArrive r lat s)) else .next s

end Sys2Proof.Machine
end

