-- ==== Sys2Proof/Machine/Dispatch.lean ====
section
/-! DEFINITION. The meaning of each command, by constructor. -/

namespace Sys2Proof.Machine

open Sys2Proof

def exec (i : Instr) (s : State) : Host.Outcome State Fault Refusal :=
  match i with
  | .modeReqDormant => Sys2Proof.Machine.execModeReqDormant s
  | .modeReqLoad => Sys2Proof.Machine.execModeReqLoad s
  | .modeReqHold => Sys2Proof.Machine.execModeReqHold s
  | .safeAcknowledgment noclk runs => Sys2Proof.Machine.execSafeAcknowledgment noclk runs s
  | .modeReqRun => Sys2Proof.Machine.execModeReqRun s
  | .runStartAtTs => Sys2Proof.Machine.execRunStartAtTs s
  | .holdAtTh => Sys2Proof.Machine.execHoldAtTh s
  | .modeReqCompleteCoreStop d r => Sys2Proof.Machine.execModeReqCompleteCoreStop d r s
  | .resetIsolationClamp kind d unit extra => Sys2Proof.Machine.execResetIsolationClamp kind d unit extra s
  | .resetIsolationRelease kind d unit => Sys2Proof.Machine.execResetIsolationRelease kind d unit s
  | .oscillatorStartDelayEnd => Sys2Proof.Machine.execOscillatorStartDelayEnd s
  | .stabilityWindowEnd count => Sys2Proof.Machine.execStabilityWindowEnd count s
  | .lastPllsLocked locked runs => Sys2Proof.Machine.execLastPllsLocked locked runs s
  | .lastFirmwareBoot okA okB runs => Sys2Proof.Machine.execLastFirmwareBoot okA okB runs s
  | .dieProbeAnswer d ident capw => Sys2Proof.Machine.execDieProbeAnswer d ident capw s
  | .probeDeadline bad noclk => Sys2Proof.Machine.execProbeDeadline bad noclk s
  | .autoBootDecision => Sys2Proof.Machine.execAutoBootDecision s
  | .coldLoad img => Sys2Proof.Machine.execColdLoad img s
  | .imageChunkArrival => Sys2Proof.Machine.execImageChunkArrival s
  | .frameWriteReadback d n clean => Sys2Proof.Machine.execFrameWriteReadback d n clean s
  | .loadContentsDone => Sys2Proof.Machine.execLoadContentsDone s
  | .cfgVerify => Sys2Proof.Machine.execCfgVerify s
  | .cfgReadback => Sys2Proof.Machine.execCfgReadback s
  | .cfgCaptureReadout => Sys2Proof.Machine.execCfgCaptureReadout s
  | .cfgRawWrite bad regs => Sys2Proof.Machine.execCfgRawWrite bad regs s
  | .cfgFlashWrite img => Sys2Proof.Machine.execCfgFlashWrite img s
  | .cfgAbort => Sys2Proof.Machine.execCfgAbort s
  | .cfgFlashDirectory => Sys2Proof.Machine.execCfgFlashDirectory s
  | .stagingAreaWrite size value => Sys2Proof.Machine.execStagingAreaWrite size value s
  | .captureCommand => Sys2Proof.Machine.execCaptureCommand s
  | .captureAtT d r => Sys2Proof.Machine.execCaptureAtT d r s
  | .captureComplete d r => Sys2Proof.Machine.execCaptureComplete d r s
  | .regionRestore d r => Sys2Proof.Machine.execRegionRestore d r s
  | .asyncSrAssert d r cell => Sys2Proof.Machine.execAsyncSrAssert d r cell s
  | .networkWake d r k src => Sys2Proof.Machine.execNetworkWake d r k src s
  | .idleLimitReached d r k wake => Sys2Proof.Machine.execIdleLimitReached d r k wake s
  | .wakeTimerExpiry d r => Sys2Proof.Machine.execWakeTimerExpiry d r s
  | .wakeTimerWrite d r value => Sys2Proof.Machine.execWakeTimerWrite d r value s
  | .rclkWrite d r k value => Sys2Proof.Machine.execRclkWrite d r k value s
  | .trimWindowEnd d r dev => Sys2Proof.Machine.execTrimWindowEnd d r dev s
  | .trimLockTimeout d r => Sys2Proof.Machine.execTrimLockTimeout d r s
  | .trimFreezeWrite d r value => Sys2Proof.Machine.execTrimFreezeWrite d r value s
  | .bankPortAccess d r b pa pb welt cob => Sys2Proof.Machine.execBankPortAccess d r b pa pb welt cob s
  | .narrowWriteMerge d r b => Sys2Proof.Machine.execNarrowWriteMerge d r b s
  | .forcedCycle d r b kind wr pa pb => Sys2Proof.Machine.execForcedCycle d r b kind wr pa pb s
  | .bankRemapCmd d r b addr => Sys2Proof.Machine.execBankRemapCmd d r b addr s
  | .bankRemapStep d r b => Sys2Proof.Machine.execBankRemapStep d r b s
  | .bankPowerRequest d r b ctl psleep => Sys2Proof.Machine.execBankPowerRequest d r b ctl psleep s
  | .bankPowerTransitionDone d r b => Sys2Proof.Machine.execBankPowerTransitionDone d r b s
  | .bankScrubWake d r b errs => Sys2Proof.Machine.execBankScrubWake d r b errs s
  | .wipeConfirmTimeout d => Sys2Proof.Machine.execWipeConfirmTimeout d s
  | .awlMemoryPowerWrite d r value => Sys2Proof.Machine.execAwlMemoryPowerWrite d r value s
  | .lastStoreSegmentPower seg value => Sys2Proof.Machine.execLastStoreSegmentPower seg value s
  | .vaultPowerWrite secure value => Sys2Proof.Machine.execVaultPowerWrite secure value s
  | .memoryWakeDone unit => Sys2Proof.Machine.execMemoryWakeDone unit s
  | .eyeletTrainingTimeout e => Sys2Proof.Machine.execEyeletTrainingTimeout e s
  | .laneFailing e dir g lane n run => Sys2Proof.Machine.execLaneFailing e dir g lane n run s
  | .laneSpare e dir g => Sys2Proof.Machine.execLaneSpare e dir g s
  | .reserveMove e dir g => Sys2Proof.Machine.execReserveMove e dir g s
  | .reserveSwap e dir g => Sys2Proof.Machine.execReserveSwap e dir g s
  | .laneRetire e dir g => Sys2Proof.Machine.execLaneRetire e dir g s
  | .halfWidthChange e dir => Sys2Proof.Machine.execHalfWidthChange e dir s
  | .eyeletUncorrectable e dir g word => Sys2Proof.Machine.execEyeletUncorrectable e dir g word s
  | .eyeletClockLaneLoss e dir g => Sys2Proof.Machine.execEyeletClockLaneLoss e dir g s
  | .eyeCmdSpare => Sys2Proof.Machine.execEyeCmdSpare s
  | .eyeCmdMove => Sys2Proof.Machine.execEyeCmdMove s
  | .eyeCmdInject => Sys2Proof.Machine.execEyeCmdInject s
  | .rd q => Sys2Proof.Machine.execRd q s
  | .wr q => Sys2Proof.Machine.execWr q s
  | .wrp q => Sys2Proof.Machine.execWrp q s
  | .aadd q => Sys2Proof.Machine.execAadd q s
  | .aswp q => Sys2Proof.Machine.execAswp q s
  | .acas q => Sys2Proof.Machine.execAcas q s
  | .lrd q => Sys2Proof.Machine.execLrd q s
  | .ulwr q => Sys2Proof.Machine.execUlwr q s
  | .unl q => Sys2Proof.Machine.execUnl q s
  | .msg q => Sys2Proof.Machine.execMsg q s
  | .gwr q => Sys2Proof.Machine.execGwr q s
  | .gmsg q => Sys2Proof.Machine.execGmsg q s
  | .guaranteedSlotInjection f at_ taken => Sys2Proof.Machine.execGuaranteedSlotInjection f at_ taken s
  | .guaranteedBufferOverflow f => Sys2Proof.Machine.execGuaranteedBufferOverflow f s
  | .responseArrival r lat => Sys2Proof.Machine.execResponseArrival r lat s
  | .responseTimeout e tag => Sys2Proof.Machine.execResponseTimeout e tag s
  | .lockTimeout tgt line => Sys2Proof.Machine.execLockTimeout tgt line s
  | .sinv c line => Sys2Proof.Machine.execSinv c line s
  | .sack c line => Sys2Proof.Machine.execSack c line s
  | .serviceModeChange => Sys2Proof.Machine.execServiceModeChange s
  | .serviceChangeDrainTimeout => Sys2Proof.Machine.execServiceChangeDrainTimeout s
  | .serviceSplitWrite split => Sys2Proof.Machine.execServiceSplitWrite split s
  | .weltBufferUe elem op src dst => Sys2Proof.Machine.execWeltBufferUe elem op src dst s
  | .flowEnable f => Sys2Proof.Machine.execFlowEnable f s
  | .flowDisable f => Sys2Proof.Machine.execFlowDisable f s
  | .flowHandover f => Sys2Proof.Machine.execFlowHandover f s
  | .flowCommandBoundary => Sys2Proof.Machine.execFlowCommandBoundary s
  | .epochConfirmed => Sys2Proof.Machine.execEpochConfirmed s
  | .epochConfirmTimeout => Sys2Proof.Machine.execEpochConfirmTimeout s
  | .epochBoundary => Sys2Proof.Machine.execEpochBoundary s
  | .epochDrainComplete => Sys2Proof.Machine.execEpochDrainComplete s
  | .epochDrainTimeout => Sys2Proof.Machine.execEpochDrainTimeout s
  | .statsWindowEnd => Sys2Proof.Machine.execStatsWindowEnd s
  | .statsSnap => Sys2Proof.Machine.execStatsSnap s
  | .queDoorbell src tag posted q t => Sys2Proof.Machine.execQueDoorbell src tag posted q t s
  | .queReserve src tag q k => Sys2Proof.Machine.execQueReserve src tag q k s
  | .queCommit src tag posted q i0 k => Sys2Proof.Machine.execQueCommit src tag posted q i0 k s
  | .queRelease src tag posted q lo hi => Sys2Proof.Machine.execQueRelease src tag posted q lo hi s
  | .queClaim src tag q k => Sys2Proof.Machine.execQueClaim src tag q k s
  | .queEnable => Sys2Proof.Machine.execQueEnable s
  | .queDisable => Sys2Proof.Machine.execQueDisable s
  | .queResetIndices => Sys2Proof.Machine.execQueResetIndices s
  | .queRearm => Sys2Proof.Machine.execQueRearm s
  | .queReadBack => Sys2Proof.Machine.execQueReadBack s
  | .queContextUe q k => Sys2Proof.Machine.execQueContextUe q k s
  | .awlStart c => Sys2Proof.Machine.execAwlStart c s
  | .awlStop c => Sys2Proof.Machine.execAwlStop c s
  | .awlReset c => Sys2Proof.Machine.execAwlReset c s
  | .awlIsetWrite c value => Sys2Proof.Machine.execAwlIsetWrite c value s
  | .fabricIrq c k level => Sys2Proof.Machine.execFabricIrq c k level s
  | .interruptEntry c => Sys2Proof.Machine.execInterruptEntry c s
  | .ldwDataArrival r lat => Sys2Proof.Machine.execLdwDataArrival r lat s
  | .stwResponse r lat => Sys2Proof.Machine.execStwResponse r lat s
  | .watchdogFirstExpiry c => Sys2Proof.Machine.execWatchdogFirstExpiry c s
  | .watchdogSecondExpiry c => Sys2Proof.Machine.execWatchdogSecondExpiry c s
  | .awlAdd f => Sys2Proof.Machine.execAwlAdd f s
  | .awlSub f => Sys2Proof.Machine.execAwlSub f s
  | .awlCmp f => Sys2Proof.Machine.execAwlCmp f s
  | .awlAnd f => Sys2Proof.Machine.execAwlAnd f s
  | .awlOr f => Sys2Proof.Machine.execAwlOr f s
  | .awlXor f => Sys2Proof.Machine.execAwlXor f s
  | .awlShl f => Sys2Proof.Machine.execAwlShl f s
  | .awlShr f => Sys2Proof.Machine.execAwlShr f s
  | .awlAsr f => Sys2Proof.Machine.execAwlAsr f s
  | .awlNeg f => Sys2Proof.Machine.execAwlNeg f s
  | .awlAbs f => Sys2Proof.Machine.execAwlAbs f s
  | .awlSat f => Sys2Proof.Machine.execAwlSat f s
  | .awlRnd f => Sys2Proof.Machine.execAwlRnd f s
  | .awlMpy f => Sys2Proof.Machine.execAwlMpy f s
  | .awlMac f => Sys2Proof.Machine.execAwlMac f s
  | .awlMsu f => Sys2Proof.Machine.execAwlMsu f s
  | .awlMpyUu f => Sys2Proof.Machine.execAwlMpyUu f s
  | .awlMacUu f => Sys2Proof.Machine.execAwlMacUu f s
  | .awlMacSu f => Sys2Proof.Machine.execAwlMacSu f s
  | .awlParallelMove f => Sys2Proof.Machine.execAwlParallelMove f s
  | .awlLdx f => Sys2Proof.Machine.execAwlLdx f s
  | .awlLdy f => Sys2Proof.Machine.execAwlLdy f s
  | .awlStx f => Sys2Proof.Machine.execAwlStx f s
  | .awlSty f => Sys2Proof.Machine.execAwlSty f s
  | .awlLdw f => Sys2Proof.Machine.execAwlLdw f s
  | .awlStw f => Sys2Proof.Machine.execAwlStw f s
  | .awlMov f => Sys2Proof.Machine.execAwlMov f s
  | .awlMovToSysreg f => Sys2Proof.Machine.execAwlMovToSysreg f s
  | .awlMovFromSysreg f => Sys2Proof.Machine.execAwlMovFromSysreg f s
  | .awlMovImm16 f => Sys2Proof.Machine.execAwlMovImm16 f s
  | .awlLongImmediate f => Sys2Proof.Machine.execAwlLongImmediate f s
  | .awlPmod f => Sys2Proof.Machine.execAwlPmod f s
  | .awlPadd f => Sys2Proof.Machine.execAwlPadd f s
  | .awlBr f => Sys2Proof.Machine.execAwlBr f s
  | .awlBrc f => Sys2Proof.Machine.execAwlBrc f s
  | .awlCall f => Sys2Proof.Machine.execAwlCall f s
  | .awlRet f => Sys2Proof.Machine.execAwlRet f s
  | .awlRti f => Sys2Proof.Machine.execAwlRti f s
  | .awlLoop f => Sys2Proof.Machine.execAwlLoop f s
  | .awlNop f => Sys2Proof.Machine.execAwlNop f s
  | .awlRot f => Sys2Proof.Machine.execAwlRot f s
  | .awlLock f => Sys2Proof.Machine.execAwlLock f s
  | .awlWait f => Sys2Proof.Machine.execAwlWait f s
  | .awlFence f => Sys2Proof.Machine.execAwlFence f s
  | .awlTrap f => Sys2Proof.Machine.execAwlTrap f s
  | .awlDbg f => Sys2Proof.Machine.execAwlDbg f s
  | .awlEi f => Sys2Proof.Machine.execAwlEi f s
  | .awlDi f => Sys2Proof.Machine.execAwlDi f s
  | .dramWriteQueueDrain c i0 => Sys2Proof.Machine.execDramWriteQueueDrain c i0 s
  | .dramPageIdleExpiry c b => Sys2Proof.Machine.execDramPageIdleExpiry c b s
  | .dramRefresh c b postpone => Sys2Proof.Machine.execDramRefresh c b postpone s
  | .dramTemperatureRead c t => Sys2Proof.Machine.execDramTemperatureRead c t s
  | .dramZeroFill c wm => Sys2Proof.Machine.execDramZeroFill c wm s
  | .dramTrack c edges runs => Sys2Proof.Machine.execDramTrack c edges runs s
  | .drcTrackNow c edges runs => Sys2Proof.Machine.execDrcTrackNow c edges runs s
  | .drcRetrainLane c lane runs => Sys2Proof.Machine.execDrcRetrainLane c lane runs s
  | .drcRemap c bad => Sys2Proof.Machine.execDrcRemap c bad s
  | .sweepRead cls die loc copy err took => Sys2Proof.Machine.execSweepRead cls die loc copy err took s
  | .sweepLate cls => Sys2Proof.Machine.execSweepLate cls s
  | .correctionRewrite cls miss bad => Sys2Proof.Machine.execCorrectionRewrite cls miss bad s
  | .burstSecondEnd => Sys2Proof.Machine.execBurstSecondEnd s
  | .burstHoldExpiry cls => Sys2Proof.Machine.execBurstHoldExpiry cls s
  | .historyEntryExpiry => Sys2Proof.Machine.execHistoryEntryExpiry s
  | .remapStoreWrite => Sys2Proof.Machine.execRemapStoreWrite s
  | .cobRestartSweep cls => Sys2Proof.Machine.execCobRestartSweep cls s
  | .cobClearRemapStore => Sys2Proof.Machine.execCobClearRemapStore s
  | .cobClearHistory => Sys2Proof.Machine.execCobClearHistory s
  | .sazorTraining b t => Sys2Proof.Machine.execSazorTraining b t s
  | .sazorTrainingRetry b => Sys2Proof.Machine.execSazorTrainingRetry b s
  | .sazorRetrain b => Sys2Proof.Machine.execSazorRetrain b s
  | .flitReceive b f ack nak crq crs crcOk cw => Sys2Proof.Machine.execFlitReceive b f ack nak crq crs crcOk cw s
  | .flitReplay b => Sys2Proof.Machine.execFlitReplay b s
  | .idleAckTimer b => Sys2Proof.Machine.execIdleAckTimer b s
  | .bridgeRequest q => Sys2Proof.Machine.execBridgeRequest q s
  | .remoteRequestAdmission b => Sys2Proof.Machine.execRemoteRequestAdmission b s
  | .bundleFailCompletion b => Sys2Proof.Machine.execBundleFailCompletion b s
  | .streamCycleLoss b cycles => Sys2Proof.Machine.execStreamCycleLoss b cycles s
  | .streamTagMismatch b stag gear cycles => Sys2Proof.Machine.execStreamTagMismatch b stag gear cycles s
  | .sazorPowerIdleTimer b rx => Sys2Proof.Machine.execSazorPowerIdleTimer b rx s
  | .sazorTxWake b => Sys2Proof.Machine.execSazorTxWake b s
  | .sazorPwrWrite b value => Sys2Proof.Machine.execSazorPwrWrite b value s
  | .sazorPatternTest b value errs => Sys2Proof.Machine.execSazorPatternTest b value errs s
  | .sazorErrorInject b value => Sys2Proof.Machine.execSazorErrorInject b value s
  | .pcieReset kind => Sys2Proof.Machine.execPcieReset kind s
  | .pcieLinkTraining speed width ready msixEn busMaster funcMask d3 => Sys2Proof.Machine.execPcieLinkTraining speed width ready msixEn busMaster funcMask d3 s
  | .pcieMemoryWrite bar off be data => Sys2Proof.Machine.execPcieMemoryWrite bar off be data s
  | .pcieMemoryRead bar off n => Sys2Proof.Machine.execPcieMemoryRead bar off n s
  | .ethFrameReceive p len data age good => Sys2Proof.Machine.execEthFrameReceive p len data age good s
  | .ethFrameTransmit p t => Sys2Proof.Machine.execEthFrameTransmit p t s
  | .ethStreamPlaceTimeout i0 => Sys2Proof.Machine.execEthStreamPlaceTimeout i0 s
  | .gptpSync p gm offset adj iv => Sys2Proof.Machine.execGptpSync p gm offset adj iv s
  | .gptpSyncLoss => Sys2Proof.Machine.execGptpSyncLoss s
  | .ethGclLoad p => Sys2Proof.Machine.execEthGclLoad p s
  | .gclBecomesOperational p => Sys2Proof.Machine.execGclBecomesOperational p s
  | .ethCageModeWrite c value => Sys2Proof.Machine.execEthCageModeWrite c value s
  | .eventInputEdge k n level t => Sys2Proof.Machine.execEventInputEdge k n level t s
  | .eventMergeDelivery k n => Sys2Proof.Machine.execEventMergeDelivery k n s
  | .eventInputStuck k n => Sys2Proof.Machine.execEventInputStuck k n s
  | .gioPcfgWrite k n value => Sys2Proof.Machine.execGioPcfgWrite k n value s
  | .bankSupplyFault k => Sys2Proof.Machine.execBankSupplyFault k s
  | .referenceLoss => Sys2Proof.Machine.execReferenceLoss s
  | .pllUnlock last d n => Sys2Proof.Machine.execPllUnlock last d n s
  | .regionClockFailure d r k => Sys2Proof.Machine.execRegionClockFailure d r k s
  | .safeStabilityWindow count locks => Sys2Proof.Machine.execSafeStabilityWindow count locks s
  | .autoResume noclk runs => Sys2Proof.Machine.execAutoResume noclk runs s
  | .rtcSync => Sys2Proof.Machine.execRtcSync s
  | .timebaseStep => Sys2Proof.Machine.execTimebaseStep s
  | .rtcSetFromRegisters => Sys2Proof.Machine.execRtcSetFromRegisters s
  | .rtcSetFromTimebase => Sys2Proof.Machine.execRtcSetFromTimebase s
  | .gearTargetChange hlim g value => Sys2Proof.Machine.execGearTargetChange hlim g value s
  | .gearRailInRegulation g => Sys2Proof.Machine.execGearRailInRegulation g s
  | .gearSwitchCount g => Sys2Proof.Machine.execGearSwitchCount g s
  | .gearRampTimeout g => Sys2Proof.Machine.execGearRampTimeout g s
  | .coreRailOutOfBand d => Sys2Proof.Machine.execCoreRailOutOfBand d s
  | .mainsLost ov => Sys2Proof.Machine.execMainsLost ov s
  | .mainsRestored => Sys2Proof.Machine.execMainsRestored s
  | .holdupTest m => Sys2Proof.Machine.execHoldupTest m s
  | .powerLossDormant => Sys2Proof.Machine.execPowerLossDormant s
  | .standbyOutputStop => Sys2Proof.Machine.execStandbyOutputStop s
  | .supplyStart cap => Sys2Proof.Machine.execSupplyStart cap s
  | .supplyStartFailure => Sys2Proof.Machine.execSupplyStartFailure s
  | .supplyOvertemp stop => Sys2Proof.Machine.execSupplyOvertemp stop s
  | .supplyOverload => Sys2Proof.Machine.execSupplyOverload s
  | .supplyStageRestart => Sys2Proof.Machine.execSupplyStageRestart s
  | .dieOvercurrent d => Sys2Proof.Machine.execDieOvercurrent d s
  | .regulatorLinkLost d => Sys2Proof.Machine.execRegulatorLinkLost d s
  | .railFault rail d => Sys2Proof.Machine.execRailFault rail d s
  | .coinCellMeasure mv => Sys2Proof.Machine.execCoinCellMeasure mv s
  | .hostConnectorMate mated => Sys2Proof.Machine.execHostConnectorMate mated s
  | .wspFrameReceive bytes => Sys2Proof.Machine.execWspFrameReceive bytes s
  | .wspIdent b => Sys2Proof.Machine.execWspIdent b s
  | .wspRead b a n => Sys2Proof.Machine.execWspRead b a n s
  | .wspWrite b a vs => Sys2Proof.Machine.execWspWrite b a vs s
  | .wspBaud b i0 => Sys2Proof.Machine.execWspBaud b i0 s
  | .wspBaudFallback => Sys2Proof.Machine.execWspBaudFallback s
  | .wspTake b => Sys2Proof.Machine.execWspTake b s
  | .wspRelease b => Sys2Proof.Machine.execWspRelease b s
  | .wspNvread b off n => Sys2Proof.Machine.execWspNvread b off n s
  | .wspNvwrite b off l => Sys2Proof.Machine.execWspNvwrite b off l s
  | .wspMemread b a n => Sys2Proof.Machine.execWspMemread b a n s
  | .wspMemwrite b a l => Sys2Proof.Machine.execWspMemwrite b a l s
  | .heartbeatWrite value => Sys2Proof.Machine.execHeartbeatWrite value s
  | .heartbeatLapse => Sys2Proof.Machine.execHeartbeatLapse s
  | .controlAutoReturn => Sys2Proof.Machine.execControlAutoReturn s
  | .signedProgramSlot ok => Sys2Proof.Machine.execSignedProgramSlot ok s
  | .signedRevokeSlot ok => Sys2Proof.Machine.execSignedRevokeSlot ok s
  | .lifeCycleTransition ok => Sys2Proof.Machine.execLifeCycleTransition ok s
  | .signedLoadKey => Sys2Proof.Machine.execSignedLoadKey s
  | .signedEraseKey => Sys2Proof.Machine.execSignedEraseKey s
  | .signedDebugUnlock => Sys2Proof.Machine.execSignedDebugUnlock s
  | .signedCellService => Sys2Proof.Machine.execSignedCellService s
  | .tamperEvent src live => Sys2Proof.Machine.execTamperEvent src live s
  | .ownerLockChange active => Sys2Proof.Machine.execOwnerLockChange active s
  | .motionInputChange active => Sys2Proof.Machine.execMotionInputChange active s
  | .cellServiceOpen => Sys2Proof.Machine.execCellServiceOpen s
  | .cellServiceClose => Sys2Proof.Machine.execCellServiceClose s
  | .dbgaccPoll reserved => Sys2Proof.Machine.execDbgaccPoll reserved s
  | .dbgaccRead peek space a => Sys2Proof.Machine.execDbgaccRead peek space a s
  | .dbgaccWrite space a v => Sys2Proof.Machine.execDbgaccWrite space a v s
  | .debugReset => Sys2Proof.Machine.execDebugReset s
  | .probeAttach on => Sys2Proof.Machine.execProbeAttach on s
  | .comparatorHit c i0 addr data => Sys2Proof.Machine.execComparatorHit c i0 addr data s
  | .weltMonitorMatch m die router q => Sys2Proof.Machine.execWeltMonitorMatch m die router q s
  | .triginEdge => Sys2Proof.Machine.execTriginEdge s
  | .dbgCoreEnter c => Sys2Proof.Machine.execDbgCoreEnter c s
  | .monitorEntry c => Sys2Proof.Machine.execMonitorEntry c s
  | .triggeredCapture => Sys2Proof.Machine.execTriggeredCapture s
  | .shfStage img => Sys2Proof.Machine.execShfStage img s
  | .shfStagingComplete => Sys2Proof.Machine.execShfStagingComplete s
  | .shfVerify => Sys2Proof.Machine.execShfVerify s
  | .shfArm => Sys2Proof.Machine.execShfArm s
  | .armAnswerTimeout miss => Sys2Proof.Machine.execArmAnswerTimeout miss s
  | .armComplete => Sys2Proof.Machine.execArmComplete s
  | .armTimeout => Sys2Proof.Machine.execArmTimeout s
  | .shfCommit => Sys2Proof.Machine.execShfCommit s
  | .commitAckDeadline miss => Sys2Proof.Machine.execCommitAckDeadline miss s
  | .commitAtTc ext => Sys2Proof.Machine.execCommitAtTc ext s
  | .commitReportDeadline fails => Sys2Proof.Machine.execCommitReportDeadline fails s
  | .shfAbandon => Sys2Proof.Machine.execShfAbandon s
  | .shfRollback => Sys2Proof.Machine.execShfRollback s
  | .rollbackAtTr ext fails => Sys2Proof.Machine.execRollbackAtTr ext fails s
  | .shfRelease => Sys2Proof.Machine.execShfRelease s
  | .autoRelease => Sys2Proof.Machine.execAutoRelease s
  | .shfAttach entriesOk => Sys2Proof.Machine.execShfAttach entriesOk s
  | .shfDetach => Sys2Proof.Machine.execShfDetach s
  | .quiesceTimeout => Sys2Proof.Machine.execQuiesceTimeout s
  | .detachComplete => Sys2Proof.Machine.execDetachComplete s
  | .updStage pkg stop => Sys2Proof.Machine.execUpdStage pkg stop s
  | .updActivate => Sys2Proof.Machine.execUpdActivate s
  | .updAbort => Sys2Proof.Machine.execUpdAbort s
  | .updRevert => Sys2Proof.Machine.execUpdRevert s
  | .updConfirm => Sys2Proof.Machine.execUpdConfirm s
  | .updateStepStart => Sys2Proof.Machine.execUpdateStepStart s
  | .updateStepHoldTimeout => Sys2Proof.Machine.execUpdateStepHoldTimeout s
  | .updateStepFailure c => Sys2Proof.Machine.execUpdateStepFailure c s
  | .trialEnd => Sys2Proof.Machine.execTrialEnd s
  | .blackBoxRecordProgram ok1 ok2 eraseOk => Sys2Proof.Machine.execBlackBoxRecordProgram ok1 ok2 eraseOk s
  | .rateLimitSecondEnd => Sys2Proof.Machine.execRateLimitSecondEnd s
  | .bbxCopy => Sys2Proof.Machine.execBbxCopy s
  | .bbxHostRecord => Sys2Proof.Machine.execBbxHostRecord s
  | .bbxErase => Sys2Proof.Machine.execBbxErase s
  | .temperatureReading temps last => Sys2Proof.Machine.execTemperatureReading temps last s
  | .gearPolicyStep g => Sys2Proof.Machine.execGearPolicyStep g s
  | .dieOvertemp d off => Sys2Proof.Machine.execDieOvertemp d off s
  | .availabilityCheckpoint => Sys2Proof.Machine.execAvailabilityCheckpoint s
  | .rpQueuePop m a => Sys2Proof.Machine.execRpQueuePop m a s
  | .rcCounterRead m a => Sys2Proof.Machine.execRcCounterRead m a s
  | .registerWrite m a v => Sys2Proof.Machine.execRegisterWrite m a v s
  | .regionalClockEdge d r clock ext pads idle => Sys2Proof.Machine.execRegionalClockEdge d r clock ext pads idle s
  | .expressClockEdge g ones => Sys2Proof.Machine.execExpressClockEdge g ones s
  | .ethLinkChange c present up fec => Sys2Proof.Machine.execEthLinkChange c present up fec s
  | .reflockWindowEnd b ppb cycles => Sys2Proof.Machine.execReflockWindowEnd b ppb cycles s
  | .laneWindowEnd e dir g lane => Sys2Proof.Machine.execLaneWindowEnd e dir g lane s
  | .awlMemoryWakeDone d r y => Sys2Proof.Machine.execAwlMemoryWakeDone d r y s
  | .fanFailure f rpm => Sys2Proof.Machine.execFanFailure f rpm s
  | .coinCellPresenceChange present => Sys2Proof.Machine.execCoinCellPresenceChange present s
  | .regulatorLinkRestored d => Sys2Proof.Machine.execRegulatorLinkRestored d s
  | .bankSupplyRestored k => Sys2Proof.Machine.execBankSupplyRestored k s
  | .railBackInBand rail d => Sys2Proof.Machine.execRailBackInBand rail d s
  | .reservedEncoding f => Sys2Proof.Machine.execReservedEncoding f s

end Sys2Proof.Machine
end

