-- ==== Sys2Proof/WellFormed.lean ====
section
/-! DEFINITION. Which commands are well formed: the operand fields that the spec's encodings bound, where the operand's type does not.
A command outside these bounds is one that no sender can form; exec gives it a meaning all the same, and no statement rests on
these checks but the ones that name them. -/

namespace Sys2Proof

open Sys2Proof.Machine

/-- Lane groups by number (R126). -/
def groupsOk (l : List Nat) : Bool := l.all fun k => decide (k < 192)

/-- Lanes by group and lane (R126). -/
def lanesOk (l : List (Nat × Nat)) : Bool := l.all fun p => decide (p.1 < 192) && decide (p.2 < 88)

/-- Runs of passing delays: byte lane of a channel and direction, Vref step, first and last delay (R358). -/
def runsOk (l : List (Nat × Nat × Nat × Nat)) : Bool := l.all fun r => decide (r.1 < 160) && decide (r.2.1 < 64) && decide (r.2.2.1 ≤ r.2.2.2)

/-- Eye edges measured on a byte lane of a channel (R361). -/
def edgesOk (l : List (Nat × Nat × Nat)) : Bool := l.all fun r => decide (r.1 < 20)

/-- Dies and the Last by number, each with a status (R330). -/
def diesOk (l : List (Nat × Nat)) : Bool := l.all fun p => decide (p.1 < 13) && decide (p.2 < 65536)

/-- The sender and tag of a request (R152, R158). -/
def senderOk (src tag : Nat) : Bool := decide (src < 65536) && decide (tag < 4096)

/-- A register address (R12): a word of the 28-bit register space. -/
def regAddr (a : Nat) : Bool := a % 4 == 0 && decide (a < 2 ^ 28)

/-- The fields of a unit's flags and payload (R158, R159). -/
def unitOk (u : WUnit) : Bool := decide (u.first < 64) && decide (u.last < 64) && decide (u.data < 2 ^ 512)

/-- The fields of a request's header, and one unit for each that len counts (R158, R159). -/
def reqOk (q : Req) : Bool :=
  decide (q.src < 65536) && decide (q.op < 64) && decide (q.dst < 65536) && decide (q.addr < 2 ^ 48) && decide (q.cls < 4) && decide (q.tag < 4096) &&
    decide (q.len < 8) && decide (q.flow < 1024) && decide (q.uidx < 4) && decide (q.bfirst < 64) && decide (q.blast < 64) && decide (q.epoch < 2) &&
    decide (q.units.length = q.len) && q.units.all unitOk

/-- The fields of a response (R158, R161). -/
def respOk (r : Resp) : Bool :=
  decide (r.to_ < 65536) && decide (r.src < 65536) && decide (r.tag < 4096) && (r.op == 0x20 || r.op == 0x21 || r.op == 0x22 || r.op == 0x23) &&
    decide (r.st < 65536) && decide (r.len ≤ 4) && decide (r.data < 2 ^ 2048) && decide (r.epoch < 2)

/-- The fields of a flit (R392). -/
def flitOk (f : Flit) : Bool := decide (f.kind < 4) && decide (f.seq < 4096) && decide (f.unit < 4) && reqOk f.req

/-- The fields of an access at a fabric port (R99). -/
def portOk (p : PortIn) : Bool := decide (p.addr < 65536) && decide (p.din < 2 ^ 64) && decide (p.be < 256)

/-- The fields of an image (R288 to R297): sizes, IDs, dies, frames, contents and cores by number. -/
def imageOk (i : Image) : Bool :=
  decide (i.size < 2 ^ 32) && decide (i.id < 2 ^ 32) && decide (i.base < 2 ^ 32) && (i.dies.all fun p => decide (p.1 < 12)) &&
    (i.frames.all fun p => decide (p.1 < 2 ^ 20) && decide (p.2 < 2 ^ 16384)) && (i.regs.all fun p => decide (p.1 < 384)) &&
    (i.banks.all fun p => decide (p.1 < 24576) && p.2.all fun w => decide (w.1 < 1024) && decide (w.2 < 2 ^ 64)) &&
    (i.cores.all fun c => decide (c.id < 384)) && (i.keep.all fun k => decide (k < 2 ^ 64))

/-- The command's operands lie within the bounds of the spec's encodings. -/
def Instr.wf (i : Instr) : Bool :=
  match i with
  | .modeReqDormant => true
  | .modeReqLoad => true
  | .modeReqHold => true
  | .safeAcknowledgment noclk runs => groupsOk noclk && runsOk runs
  | .modeReqRun => true
  | .runStartAtTs => true
  | .holdAtTh => true
  | .modeReqCompleteCoreStop _ _ => true
  | .resetIsolationClamp _ _ unit _ => decide (unit < 64)
  | .resetIsolationRelease _ _ unit => decide (unit < 64)
  | .oscillatorStartDelayEnd => true
  | .stabilityWindowEnd _ => true
  | .lastPllsLocked _ runs => runsOk runs
  | .lastFirmwareBoot _ _ runs => runsOk runs
  | .dieProbeAnswer _ _ _ => true
  | .probeDeadline bad noclk => lanesOk bad && groupsOk noclk
  | .autoBootDecision => true
  | .coldLoad img => imageOk img
  | .imageChunkArrival => true
  | .frameWriteReadback d n _ => decide (n < (if d.val = 12 then 256 else 40960))
  | .loadContentsDone => true
  | .cfgVerify => true
  | .cfgReadback => true
  | .cfgCaptureReadout => true
  | .cfgRawWrite bad regs => (bad.all fun f => decide (f < 491776)) && (regs.all fun p => decide (p.1 < 384))
  | .cfgFlashWrite img => imageOk img
  | .cfgAbort => true
  | .cfgFlashDirectory => true
  | .stagingAreaWrite _ _ => true
  | .captureCommand => true
  | .captureAtT _ _ => true
  | .captureComplete _ _ => true
  | .regionRestore _ _ => true
  | .asyncSrAssert _ _ cell => decide (cell < 65536)
  | .networkWake _ _ _ _ => true
  | .idleLimitReached _ _ _ _ => true
  | .wakeTimerExpiry _ _ => true
  | .wakeTimerWrite _ _ _ => true
  | .rclkWrite _ _ _ _ => true
  | .trimWindowEnd _ _ _ => true
  | .trimLockTimeout _ _ => true
  | .trimFreezeWrite _ _ _ => true
  | .bankPortAccess _ _ _ pa pb _ _ => portOk pa && portOk pb
  | .narrowWriteMerge _ _ _ => true
  | .forcedCycle _ _ _ _ _ pa pb => portOk pa && portOk pb
  | .bankRemapCmd _ _ _ _ => true
  | .bankRemapStep _ _ _ => true
  | .bankPowerRequest _ _ _ _ _ => true
  | .bankPowerTransitionDone _ _ _ => true
  | .bankScrubWake _ _ _ errs => errs.all fun e => decide (e.1 < 1028) && decide (1 ≤ e.2) && decide (e.2 ≤ 2)
  | .wipeConfirmTimeout _ => true
  | .awlMemoryPowerWrite _ _ _ => true
  | .lastStoreSegmentPower _ _ => true
  | .vaultPowerWrite _ _ => true
  | .memoryWakeDone _ => true
  | .eyeletTrainingTimeout _ => true
  | .laneFailing _ _ _ _ _ _ => true
  | .laneSpare _ _ _ => true
  | .reserveMove _ _ _ => true
  | .reserveSwap _ _ _ => true
  | .laneRetire _ _ _ => true
  | .halfWidthChange _ _ => true
  | .eyeletUncorrectable _ _ _ _ => true
  | .eyeletClockLaneLoss _ _ _ => true
  | .eyeCmdSpare => true
  | .eyeCmdMove => true
  | .eyeCmdInject => true
  | .rd q => reqOk q && q.op == 1
  | .wr q => reqOk q && q.op == 2
  | .wrp q => reqOk q && q.op == 3
  | .aadd q => reqOk q && q.op == 4
  | .aswp q => reqOk q && q.op == 5
  | .acas q => reqOk q && q.op == 6
  | .lrd q => reqOk q && q.op == 7
  | .ulwr q => reqOk q && q.op == 8
  | .unl q => reqOk q && q.op == 9
  | .msg q => reqOk q && q.op == 10
  | .gwr q => reqOk q && q.op == 16
  | .gmsg q => reqOk q && q.op == 17
  | .guaranteedSlotInjection _ _ _ => true
  | .guaranteedBufferOverflow _ => true
  | .responseArrival r _ => respOk r
  | .responseTimeout e tag => decide (e < 65536) && decide (tag < 4096)
  | .lockTimeout tgt line => decide (tgt < 65536) && decide (line < 2 ^ 42)
  | .sinv _ line => decide (line < 2 ^ 42)
  | .sack _ line => decide (line < 2 ^ 42)
  | .serviceModeChange => true
  | .serviceChangeDrainTimeout => true
  | .serviceSplitWrite _ => true
  | .weltBufferUe _ op src dst => decide (op < 64) && decide (src < 65536) && decide (dst < 65536)
  | .flowEnable _ => true
  | .flowDisable _ => true
  | .flowHandover _ => true
  | .flowCommandBoundary => true
  | .epochConfirmed => true
  | .epochConfirmTimeout => true
  | .epochBoundary => true
  | .epochDrainComplete => true
  | .epochDrainTimeout => true
  | .statsWindowEnd => true
  | .statsSnap => true
  | .queDoorbell src tag _ _ _ => senderOk src tag
  | .queReserve src tag _ _ => senderOk src tag
  | .queCommit src tag _ _ _ _ => senderOk src tag
  | .queRelease src tag _ _ _ _ => senderOk src tag
  | .queClaim src tag _ _ => senderOk src tag
  | .queEnable => true
  | .queDisable => true
  | .queResetIndices => true
  | .queRearm => true
  | .queReadBack => true
  | .queContextUe _ _ => true
  | .awlStart _ => true
  | .awlStop _ => true
  | .awlReset _ => true
  | .awlIsetWrite _ _ => true
  | .fabricIrq _ _ _ => true
  | .interruptEntry _ => true
  | .ldwDataArrival r _ => respOk r
  | .stwResponse r _ => respOk r
  | .watchdogFirstExpiry _ => true
  | .watchdogSecondExpiry _ => true
  | .awlAdd f => isMn f .add
  | .awlSub f => isMn f .sub
  | .awlCmp f => isMn f .cmp
  | .awlAnd f => isMn f .and
  | .awlOr f => isMn f .or
  | .awlXor f => isMn f .xor
  | .awlShl f => isMn f .shl
  | .awlShr f => isMn f .shr
  | .awlAsr f => isMn f .asr
  | .awlNeg f => isMn f .neg
  | .awlAbs f => isMn f .abs
  | .awlSat f => isMn f .sat
  | .awlRnd f => isMn f .rnd
  | .awlMpy f => isMn f .mpy
  | .awlMac f => isMn f .mac
  | .awlMsu f => isMn f .msu
  | .awlMpyUu f => isMn f .mpyUu
  | .awlMacUu f => isMn f .macUu
  | .awlMacSu f => isMn f .macSu
  | .awlParallelMove f => isMn f .parallel
  | .awlLdx f => isMn f .ldx
  | .awlLdy f => isMn f .ldy
  | .awlStx f => isMn f .stx
  | .awlSty f => isMn f .sty
  | .awlLdw f => isMn f .ldw
  | .awlStw f => isMn f .stw
  | .awlMov f => isMn f .mov
  | .awlMovToSysreg f => isMn f .movToSys
  | .awlMovFromSysreg f => isMn f .movFromSys
  | .awlMovImm16 f => isMn f .movImm
  | .awlLongImmediate f => isMn f .long
  | .awlPmod f => isMn f .pmod
  | .awlPadd f => isMn f .padd
  | .awlBr f => isMn f .br
  | .awlBrc f => isMn f .brc
  | .awlCall f => isMn f .call
  | .awlRet f => isMn f .ret
  | .awlRti f => isMn f .rti
  | .awlLoop f => isMn f .loop
  | .awlNop f => isMn f .nop
  | .awlRot f => isMn f .rot
  | .awlLock f => isMn f .lock
  | .awlWait f => isMn f .wait
  | .awlFence f => isMn f .fence
  | .awlTrap f => isMn f .trap
  | .awlDbg f => isMn f .dbg
  | .awlEi f => isMn f .ei
  | .awlDi f => isMn f .di
  | .dramWriteQueueDrain _ _ => true
  | .dramPageIdleExpiry _ _ => true
  | .dramRefresh _ _ _ => true
  | .dramTemperatureRead _ _ => true
  | .dramZeroFill _ wm => decide (wm ≤ 2 ^ 36)
  | .dramTrack _ edges runs => edgesOk edges && runsOk runs
  | .drcTrackNow _ edges runs => edgesOk edges && runsOk runs
  | .drcRetrainLane _ lane runs => decide (lane.val < 10) && runsOk runs
  | .drcRemap _ _ => true
  | .sweepRead _ _ _ _ err _ => decide (err ≤ 3)
  | .sweepLate _ => true
  | .correctionRewrite _ _ _ => true
  | .burstSecondEnd => true
  | .burstHoldExpiry _ => true
  | .historyEntryExpiry => true
  | .remapStoreWrite => true
  | .cobRestartSweep _ => true
  | .cobClearRemapStore => true
  | .cobClearHistory => true
  | .sazorTraining _ _ => true
  | .sazorTrainingRetry _ => true
  | .sazorRetrain _ => true
  | .flitReceive _ f _ _ _ _ _ _ => flitOk f
  | .flitReplay _ => true
  | .idleAckTimer _ => true
  | .bridgeRequest q => reqOk q
  | .remoteRequestAdmission _ => true
  | .bundleFailCompletion _ => true
  | .streamCycleLoss _ _ => true
  | .streamTagMismatch _ _ _ _ => true
  | .sazorPowerIdleTimer _ _ => true
  | .sazorTxWake _ => true
  | .sazorPwrWrite _ _ => true
  | .sazorPatternTest _ _ errs => decide (errs.length ≤ 8)
  | .sazorErrorInject _ _ => true
  | .pcieReset _ => true
  | .pcieLinkTraining _ width _ _ _ _ _ => [1, 2, 4, 8, 16].contains width
  | .pcieMemoryWrite _ _ be data => decide (be.length ≤ 4096) && decide (data < 256 ^ be.length)
  | .pcieMemoryRead _ _ _ => true
  | .ethFrameReceive _ len data _ _ => decide (data < 256 ^ len)
  | .ethFrameTransmit _ _ => true
  | .ethStreamPlaceTimeout _ => true
  | .gptpSync _ _ _ _ _ => true
  | .gptpSyncLoss => true
  | .ethGclLoad _ => true
  | .gclBecomesOperational _ => true
  | .ethCageModeWrite _ _ => true
  | .eventInputEdge _ _ _ _ => true
  | .eventMergeDelivery _ _ => true
  | .eventInputStuck _ _ => true
  | .gioPcfgWrite _ _ _ => true
  | .bankSupplyFault _ => true
  | .referenceLoss => true
  | .pllUnlock _ _ _ => true
  | .regionClockFailure _ _ _ => true
  | .safeStabilityWindow _ _ => true
  | .autoResume noclk runs => groupsOk noclk && runsOk runs
  | .rtcSync => true
  | .timebaseStep => true
  | .rtcSetFromRegisters => true
  | .rtcSetFromTimebase => true
  | .gearTargetChange _ _ _ => true
  | .gearRailInRegulation _ => true
  | .gearSwitchCount _ => true
  | .gearRampTimeout _ => true
  | .coreRailOutOfBand _ => true
  | .mainsLost _ => true
  | .mainsRestored => true
  | .holdupTest _ => true
  | .powerLossDormant => true
  | .standbyOutputStop => true
  | .supplyStart cap => decide (cap < 65536)
  | .supplyStartFailure => true
  | .supplyOvertemp _ => true
  | .supplyOverload => true
  | .supplyStageRestart => true
  | .dieOvercurrent _ => true
  | .regulatorLinkLost _ => true
  | .railFault _ _ => true
  | .coinCellMeasure mv => decide (mv < 4096)
  | .hostConnectorMate _ => true
  | .wspFrameReceive bytes => decide (bytes.length ≤ 4096)
  | .wspIdent _ => true
  | .wspRead _ _ _ => true
  | .wspWrite _ _ _ => true
  | .wspBaud _ _ => true
  | .wspBaudFallback => true
  | .wspTake _ => true
  | .wspRelease _ => true
  | .wspNvread _ _ _ => true
  | .wspNvwrite _ _ _ => true
  | .wspMemread _ _ _ => true
  | .wspMemwrite _ _ _ => true
  | .heartbeatWrite _ => true
  | .heartbeatLapse => true
  | .controlAutoReturn => true
  | .signedProgramSlot _ => true
  | .signedRevokeSlot _ => true
  | .lifeCycleTransition _ => true
  | .signedLoadKey => true
  | .signedEraseKey => true
  | .signedDebugUnlock => true
  | .signedCellService => true
  | .tamperEvent _ _ => true
  | .ownerLockChange _ => true
  | .motionInputChange _ => true
  | .cellServiceOpen => true
  | .cellServiceClose => true
  | .dbgaccPoll _ => true
  | .dbgaccRead _ _ _ => true
  | .dbgaccWrite _ _ _ => true
  | .debugReset => true
  | .probeAttach _ => true
  | .comparatorHit _ _ _ _ => true
  | .weltMonitorMatch _ _ _ q => reqOk q
  | .triginEdge => true
  | .dbgCoreEnter _ => true
  | .monitorEntry _ => true
  | .triggeredCapture => true
  | .shfStage img => imageOk img
  | .shfStagingComplete => true
  | .shfVerify => true
  | .shfArm => true
  | .armAnswerTimeout _ => true
  | .armComplete => true
  | .armTimeout => true
  | .shfCommit => true
  | .commitAckDeadline _ => true
  | .commitAtTc ext => ext.all fun p => decide (p.1 < 384)
  | .commitReportDeadline fails => diesOk fails
  | .shfAbandon => true
  | .shfRollback => true
  | .rollbackAtTr ext fails => (ext.all fun p => decide (p.1 < 384)) && diesOk fails
  | .shfRelease => true
  | .autoRelease => true
  | .shfAttach _ => true
  | .shfDetach => true
  | .quiesceTimeout => true
  | .detachComplete => true
  | .updStage pkg _ => pkg.comps.all fun p => decide (p.1 < 21)
  | .updActivate => true
  | .updAbort => true
  | .updRevert => true
  | .updConfirm => true
  | .updateStepStart => true
  | .updateStepHoldTimeout => true
  | .updateStepFailure _ => true
  | .trialEnd => true
  | .blackBoxRecordProgram _ _ _ => true
  | .rateLimitSecondEnd => true
  | .bbxCopy => true
  | .bbxHostRecord => true
  | .bbxErase => true
  | .temperatureReading temps _ => temps.all fun p => decide (p.1 < 12)
  | .gearPolicyStep _ => true
  | .dieOvertemp _ _ => true
  | .availabilityCheckpoint => true
  | .rpQueuePop _ a => regAddr a
  | .rcCounterRead _ a => regAddr a
  | .registerWrite _ a _ => regAddr a
  | .regionalClockEdge _ _ _ _ _ _ => true
  | .expressClockEdge _ ones => ones.all fun x => decide (x < 230400)
  | .ethLinkChange _ _ _ _ => true
  | .reflockWindowEnd _ _ _ => true
  | .laneWindowEnd _ _ _ _ => true
  | .awlMemoryWakeDone _ _ _ => true
  | .fanFailure _ _ => true
  | .coinCellPresenceChange _ => true
  | .regulatorLinkRestored _ => true
  | .bankSupplyRestored _ => true
  | .railBackInBand _ _ => true
  | .reservedEncoding f => !legalWord f.w.toNat 0

end Sys2Proof
end

