-- ==== Sys2Proof/Safety.lean ====
section
/-! DEFINITION. The terms in which the statements speak of the machine: a command that completes, what it leaves unchanged, runs, the
canonical form of the state, and an Awl core that is free to execute a word. -/

namespace Sys2Proof.Machine

open Sys2Proof

/-- The outcome is a next state, and `P` holds of it. -/
def Yields (o : Out) (P : State → Prop) : Prop := ∃ t, o = .next t ∧ P t

/-- Every byte of memory reads in `t` as in `s`. -/
def SameMem (s t : State) : Prop := ∀ a, t.rdByte a = s.rdByte a

/-- Every byte of memory outside the `n` bytes from `lo` reads in `t` as in `s`. -/
def SameMemOutside (lo n : Nat) (s t : State) : Prop := ∀ a, a < lo ∨ lo + n ≤ a → t.rdByte a = s.rdByte a

/-- Every register field reads in `t` as in `s`, but those at the keys of `l` (a key is the field's address and lowest bit). -/
def SameRegsBut (l : List Nat) (s t : State) : Prop := ∀ (f : Fld) (o : Nat), f.key o ∉ l → t.rdi f o = s.rdi f o

/-- Every register field outside the block of addresses `[lo, hi)` reads in `t` as in `s`. -/
def SameRegsOutside (lo hi : Nat) (s t : State) : Prop := ∀ (f : Fld) (o : Nat), f.lo < 32 → f.adr + o < lo ∨ hi ≤ f.adr + o → t.rdi f o = s.rdi f o

/-- Keys strictly rising. -/
def Tab.Rising {α : Type} (m : Tab α) : Prop := m.Pairwise fun p q => p.1 < q.1

/-- An entry of kind `kind` was written to the event queue of VALID field `q`, unless the queue was full (R16). -/
def EventWritten (q : Fld) (kind : Nat) (s t : State) : Prop :=
  (tabGet {} s.evq q.adr).entries.length < evCap q →
    ∃ e w, (tabGet {} t.evq q.adr).entries = (tabGet {} s.evq q.adr).entries ++ [(e, w)] ∧ bit e 31 = 1 ∧ bits e 26 4 = kind

/-- The canonical form of a state: memory lists each byte that differs from 0 once, by rising address, and the register table and the express
channels' tables list each entry once, by rising key; equal memories and registers are then equal data, and every read has one answer. -/
def State.Canonical (s : State) : Prop :=
  Memory.wf s.mem = true ∧ Tab.Rising s.regs ∧ Tab.Rising s.express.launch ∧ Tab.Rising s.express.fly ∧ Tab.Rising s.express.land

/-- Every region and every plane select names plane 0 or plane 1 (R286). -/
def State.PlanesOk (s : State) : Prop := ∀ u, activeOf s u < 2

/-- A command register of BUSY field `busy` takes a GO: the module is not in SCRAP (R524), and no operation is in progress. -/
def MayGo (s : State) (busy : Fld) : Prop := s.rd SEC_STAT_LC ≠ 4 ∧ s.rd busy = 0

/-- The operation of a command register has ended with status `st`. -/
def Ends (t : State) (status busy : Fld) (st : Nat) : Prop := t.rd status = st ∧ t.rd busy = 0

/-- `t` is reached from `s` by steps. -/
inductive Reaches : State → State → Prop where
  | refl (s : State) : Reaches s s
  | step {s t u : State} : Reaches s t → Machine.step t = .next u → Reaches s u

/-- A safe run: every state it reaches has a next state. -/
def SafeFrom (s : State) : Prop := ∀ t, Reaches s t → ∃ u, Machine.step t = .next u

/-! Welt -/

/-- Nothing waits in the network or at a port: what is presented is served at once and nothing else moves. -/
def NetIdle (s : State) : Prop := s.welt.wait = [] ∧ s.welt.held = [] ∧ s.eth.streams = [] ∧ busyPorts s = false

/-- Endpoint `e` can present a class 1 request, which its port takes now. -/
def PortOpen (e : Nat) (s : State) : Prop := canSend s e = true ∧ portsClosed s = false ∧ s.rd WLT_EPOCH_STATE ≠ 3

/-- `tag` can be used at endpoint `e` (R163). -/
def TagFree (e tag : Nat) (s : State) : Prop := tagBusy s e tag = false ∧ outOf s e < 4096

/-- An endpoint whose completions are left to the design or the unit behind it: no Awl core, no bridge, not the PCIe port or the management
processor. -/
def PlainPort (e : Nat) : Prop := epIsCore e = false ∧ e ≠ epBridge 0 ∧ e ≠ epBridge 1 ∧ e ≠ epPcie ∧ e ≠ epMgmt

/-- The rows of requests, by op. -/
def reqRows : List (Nat × (Req → Instr)) :=
  [(RD, .rd), (WR, .wr), (WRP, .wrp), (AADD, .aadd), (ASWP, .aswp), (ACAS, .acas), (LRD, .lrd), (ULWR, .ulwr), (UNL, .unl), (MSG, .msg), (GWR, .gwr), (GMSG, .gmsg)]

/-- A request of op `op` reaches the Last store outside the context table now: the segment is ON, its words are good, no lock holds it off, and
no core's copy has to be invalidated. -/
def LastReady (op : Nat) (q : Req) (s : State) : Prop :=
  injectCheck s { q with op } = .inr epLast ∧ unitState s (lastUnit q.addr) = 0 ∧ cacheable q.addr = true ∧
    (∀ a, q.addr ≤ a → a < q.addr + 256 → tabGet 0 s.marks a = 0) ∧ lockJudge { q with op, dst := epLast } s = none ∧
    snoopWait { q with op } (snoopLines { q with op } s) s = 0

/-- The target's response to `q`, and the tag it answers, in `t`. -/
def Answers (q : Req) (op dst rop data len : Nat) (s t : State) : Prop :=
  t.welt.resps = s.welt.resps ++ [⟨q.src, dst, q.tag, rop, 0, data, len, s.welt.stamp⟩] ∧
    t.welt.out = s.welt.out ++ [⟨q.src, q.tag, op, dst, q.addr⟩]

/-- Queue `q` is enabled and sends no notification, its segment is ON, its context reads well, and a request with `tag` of endpoint `e` is taken
and served now. -/
def QueReady (e tag q : Nat) (s : State) : Prop :=
  NetIdle s ∧ portsClosed s = false ∧ s.rd WLT_EPOCH_STATE ≠ 3 ∧ TagFree e tag s ∧ unitState s (lastUnit (ctxAddr q 0)) = 0 ∧ (∀ k, k < 4 → tabGet 0 s.marks (ctxAddr q k) = 0) ∧
    qEn s q = true ∧ qNmode s q = 0

/-- Words 0 and 1 of queue `q` but ARMED are those of `s`. -/
def SameQueue (q : Nat) (s t : State) : Prop := ctxWord t q 0 = ctxWord s q 0 ∧ qNsub t q = qNsub s q ∧ qNtgt t q = qNtgt s q

/-! Awl cores -/

/-- The row of each Awl mnemonic, on a fetched word. -/
def Mn.row (f : Fetch) : Mn → Instr
  | .add => .awlAdd f
  | .sub => .awlSub f
  | .cmp => .awlCmp f
  | .and => .awlAnd f
  | .or => .awlOr f
  | .xor => .awlXor f
  | .shl => .awlShl f
  | .shr => .awlShr f
  | .asr => .awlAsr f
  | .neg => .awlNeg f
  | .abs => .awlAbs f
  | .sat => .awlSat f
  | .rnd => .awlRnd f
  | .mpy => .awlMpy f
  | .mac => .awlMac f
  | .msu => .awlMsu f
  | .mpyUu => .awlMpyUu f
  | .macUu => .awlMacUu f
  | .macSu => .awlMacSu f
  | .parallel => .awlParallelMove f
  | .ldx => .awlLdx f
  | .ldy => .awlLdy f
  | .stx => .awlStx f
  | .sty => .awlSty f
  | .ldw => .awlLdw f
  | .stw => .awlStw f
  | .mov => .awlMov f
  | .movToSys => .awlMovToSysreg f
  | .movFromSys => .awlMovFromSysreg f
  | .movImm => .awlMovImm16 f
  | .long => .awlLongImmediate f
  | .pmod => .awlPmod f
  | .padd => .awlPadd f
  | .br => .awlBr f
  | .brc => .awlBrc f
  | .call => .awlCall f
  | .ret => .awlRet f
  | .rti => .awlRti f
  | .loop => .awlLoop f
  | .nop => .awlNop f
  | .rot => .awlRot f
  | .lock => .awlLock f
  | .wait => .awlWait f
  | .fence => .awlFence f
  | .trap => .awlTrap f
  | .dbg => .awlDbg f
  | .ei => .awlEi f
  | .di => .awlDi f

/-- Nothing of core `c` is under way that an instruction would have to wait for or that would follow it: it runs, no stop, LOCK window,
load, held store, watchdog exception or monitor entry is waiting. -/
def CoreQuiet (c : Nat) (s : State) : Prop :=
  coreRuns s c = true ∧ (s.core c).stopping = none ∧ (s.core c).lk = none ∧ (s.core c).loads = [] ∧ (s.core c).sbuf = [] ∧ (s.core c).stwait = [] ∧
    (s.core c).wdPend = false ∧ tabGet 0 s.dbg.pend c = 0

/-- And no write of a system register is delayed. -/
def CoreFree (c : Nat) (s : State) : Prop := CoreQuiet c s ∧ (s.core c).arch.pend = none

/-- The registers of `a` with the flags that `f` sets. -/
def Arch.flagged (a : Arch) (f : Flg) (k : Nat) : Nat := if k = kSR then f.apply a.sr else a.get k

/-- The registers of `a` after an exception through vector `n` at level 4 that returns to `ret` (R240). -/
def Arch.raised (a : Arch) (n ret : Nat) (k : Nat) : Nat :=
  if k = kRPC 4 then ret else if k = kRSR 4 then a.sr else if k = kSR then putBits (putBits a.sr 24 3 4) 22 1 0
  else if k = kXCAUSE then putBits (a.get kXCAUSE) 0 8 n else a.get k

/-- The fetched word is an instruction of mnemonic `m` that its core performs at its present level, and is not the last of a loop. -/
def WordRuns (m : Mn) (f : Fetch) (s : State) : Prop :=
  isMn f m = true ∧ f.err = none ∧ legalWord f.w.toNat (s.core f.core).arch.ipl = true ∧
    atLoopEnd (s.core f.core).arch (s.core f.core).arch.pc = false

/-- Core `c` of `u` holds the registers that `v` gives and the address `pc` of the next instruction, AWL_PC shows the instruction at
`last`, and the other cores are those of `s`. -/
def CoreAfter (c : Nat) (s u : State) (v : Nat → Nat) (pc last : Nat) : Prop :=
  (∀ k, k ≠ kPC → (u.core c).arch.get k = v k) ∧ (u.core c).arch.pc = pc ∧ u.rdi AWL_PC_PC (oAwl c) = last % 2 ^ 32 ∧
    ∀ c', c' ≠ c → u.core c' = s.core c'

end Sys2Proof.Machine
end

