-- ==== Sys2Proof/Certificates/Slice0/Obligations.lean ====
section
/-! DEFINITION. The statements for the provers.  Each says of named commands what the rules it cites say of them: under which states
and operands the command has its effect, and what the next state then holds. -/

open Sys2Proof Sys2Proof.Machine

/-! The machine -/

/-- One step executes the command at the front of the queue on the state with the queue's rest. -/
def Obligations.StepRunsFrontCommand : Prop :=
  ∀ (c : Instr) (rest : List Instr) (s : State), s.pending = c :: rest → step s = exec c { s with pending := rest }

/-- The model's choice (notes/assumptions/4.md): on an empty queue a step is a nanosecond of always-on elapsed time, after which the register
mirror serves the requests that wait for it, if any do.
No command changes the queue: commands are taken first in, first out, and only the step takes them. -/
def Obligations.CommandQueue : Prop :=
  (∀ s : State, s.pending = [] → ∃ u, step s = .next (settle u) ∧ u.pending = [] ∧ u.clocks.elapsed = s.clocks.elapsed + 1 ∧ u.mode = s.mode ∧
    SameMem s u ∧ SameRegsBut [HLT_AVSEC_SEC.key 0] s u ∧ (s.welt.held.filter Held.mirror = [] → settle u = u)) ∧
  (∀ (c : Instr) (s t : State), exec c s = .next t → t.pending = s.pending)

/-- Every step, of every command and of the idle block, keeps the canonical form of memory, of the register table and of the express channels. -/
def Obligations.StepKeepsCanonical : Prop := ∀ s t : State, s.Canonical → step s = .next t → t.Canonical

/-- Every step keeps the plane of each region and of each die one of the two (R286). -/
def Obligations.StepKeepsPlanes : Prop := ∀ s t : State, s.PlanesOk → step s = .next t → t.PlanesOk

/-- No command is refused and none faults: from every state, every run has a next step. -/
def Obligations.EveryRunIsSafe : Prop := ∀ s : State, SafeFrom s

/-- After reset the module is DORMANT (R6) with nothing in progress: MODE and REQ are 0, the clocks are not ready, memory reads 0
everywhere, no die has its rails up, and the registers named hold their reset values (R164, R166, R497).
The state after reset is canonical, and every plane select names plane 0.
Beside the spec it rests on the model's choices of notes/assumptions/3.md, notes/assumptions/9.md. -/
def Obligations.ResetState : Prop :=
  (State.reset.mode = DORMANT ∧ State.reset.rd GLB_MODE_BUSY = 0 ∧ State.reset.rd CLK_STAT_READY = 0 ∧ (∀ a, State.reset.rdByte a = 0) ∧
    (∀ d, State.reset.dieUp d = false) ∧ State.reset.rd WLT_RSPTMO_TMO = 100 ∧ State.reset.rd WLT_LOCKTMO_TMO = 200 ∧
    (∀ c, awlState State.reset c = awlRESET) ∧ State.reset.pending = []) ∧
  (State.reset.Canonical ∧ State.reset.PlanesOk)

/-! Modes, start-up and clocks (spec/18, spec/17) -/

/-- Mode requests (R455, R456, R463, R464, R469, R472).  REQ 0 outside DORMANT takes the module there and loses memory, regions and cores.  REQ 1
in DORMANT starts the clocks from the setting's source.  REQ 2 in RUN names T_h, the first whole microsecond at least 2.00 µs ahead.
REQ 2 in SAFE whose checks pass, with no Eyelet and no DRAM channel to retrain, starts the change to normal service before HOLD; one
whose check fails ends with its status, in SAFE.  REQ 3 in HOLD whose checks pass waits for trim lock.
Beside the spec it rests on the model's choices of notes/assumptions/5.md, notes/assumptions/18.md. -/
def Obligations.ModeRequests : Prop :=
  (∀ s : State, s.mode ≠ DORMANT → Yields (exec .modeReqDormant s) fun t =>
    t.mode = DORMANT ∧ (∀ a, t.rdByte a = 0) ∧ t.regions = [] ∧ t.cores = [] ∧ t.clocks.elapsed = s.clocks.elapsed) ∧
  (∀ s : State, s.mode = DORMANT → s.rd GLB_MODE_BUSY = 0 → startAllowed s = true → s.clocks.start = none → Yields (exec .modeReqLoad s) fun t =>
    t.mode = DORMANT ∧ t.rd GLB_MODE_BUSY = 1 ∧ t.rd CLK_STAT_REFSTATE = 1 ∧ t.clocks.start = some (nvsGet s nvsREFSRC, 0) ∧ SameMem s t) ∧
  (∀ s : State, s.mode = RUN → s.rd GLB_MODE_BUSY = 0 → Yields (exec .modeReqHold s) fun t =>
    t.mode = RUN ∧ t.rd GLB_MODE_BUSY = 1 ∧ (∃ n, t.modes.th = some (n * 1000) ∧ s.clocks.tb + 2000 ≤ n * 1000 ∧ n * 1000 < s.clocks.tb + 3000) ∧
      SameMem s t ∧ SameRegsBut [GLB_MODE_BUSY.key 0] s t) ∧
  (∀ (s : State) (noclk : List Nat) (runs : List (Nat × Nat × Nat × Nat)), s.mode = SAFE → s.rd GLB_MODE_BUSY = 0 → ackCheck s = 0 →
    s.modes.safeEyelets = [] → (∀ c, c < 8 → drcState s c ≠ drcFAILED) → Yields (exec (.safeAcknowledgment noclk runs) s) fun t =>
      t.mode = SAFE ∧ t.rd GLB_MODE_BUSY = 1 ∧ t.rd WLT_SVC_STATE = 2 ∧ t.welt.svcTo = some 3 ∧ t.welt.after = some HOLD) ∧
  (∀ (s : State) (noclk : List Nat) (runs : List (Nat × Nat × Nat × Nat)), s.mode = SAFE → s.rd GLB_MODE_BUSY = 0 → ackCheck s ≠ 0 →
    Yields (exec (.safeAcknowledgment noclk runs) s) fun t => t.mode = SAFE ∧ t.rd GLB_MODE_BUSY = 0 ∧ t.rd GLB_MODE_STATUS = ackCheck s % 2 ^ 16) ∧
  (∀ s : State, s.mode = HOLD → s.rd GLB_MODE_BUSY = 0 → runCheck s = 0 → Yields (exec .modeReqRun s) fun t =>
    t.mode = HOLD ∧ t.rd GLB_MODE_BUSY = 1 ∧ t.modes.lockWait = true ∧ t.modes.req = some 3 ∧ SameMem s t)

/-- The timed steps of RUN and HOLD (R463, R464, R221).  With every loaded region of every used die locked, the wait for trim lock ends in RUN
with the safe net released and the request complete, and requests that waited move on.  At T_h the design stops: MODE is HOLD and the safe net is asserted.  A core asked
by the mode to stop, with no LOCK window, ordered load or unanswered STW, becomes STOPPED with MODESTOP 1.
Beside the spec it rests on the model's choices of notes/assumptions/5.md, notes/assumptions/6.md. -/
def Obligations.RunStartsAndStops : Prop :=
  (∀ s : State, s.mode = HOLD → s.modes.lockWait = true → (∀ p ∈ loadedRegions s, s.rdi FDC_TRIMST_TRIMLOCK (oReg p.1 p.2) = 1) →
    ∃ u, exec .runStartAtTs s = .next (pump u) ∧ u.mode = RUN ∧ u.modes.req = none ∧ u.modes.safeNet = false ∧ SameMem s u) ∧
  (∀ (s : State) (n : Nat), s.mode = RUN → s.modes.th = some n → Yields (exec .holdAtTh s) fun t => t.mode = HOLD ∧ t.modes.safeNet = true) ∧
  (∀ (s : State) (d : Fin 12) (r : Fin 32), (s.core (rix d r)).stopping = some true → (s.core (rix d r)).lk = none →
    (s.core (rix d r)).loads = [] → (s.core (rix d r)).stq = [] → Yields (exec (.modeReqCompleteCoreStop d r) s) fun t =>
      awlState t (rix d r) = awlSTOPPED ∧ t.rdi AWL_STAT_MODESTOP (oAwl (rix d r)) = 1 ∧ (t.core (rix d r)).stopping = none)

/-- The clock start (R431 to R434, R459, R460).  The oscillator delay ends with the first window; a window that passes leaves the PLLs to lock
and REFSTATE 2, with its count in CLK_REFMEAS; one that fails before the sixteenth is counted; the sixteenth ends the start with
ST_HW_CLK_REF in REASON.  The PLLs lock: LOCK 0x3F and READY 1, and with Last firmware running the module is in LOAD with its timebase
running.  Last firmware starts from a bank that can, and with none the start ends.  The auto-boot decision starts the clocks once a supply
start.
Beside the spec it rests on the model's choices of notes/assumptions/5.md, notes/assumptions/6.md, notes/assumptions/18.md, notes/assumptions/39.md, notes/assumptions/45.md. -/
def Obligations.ClockStart : Prop :=
  (∀ (s : State) (p : Nat × Nat), s.clocks.start = some p → s.clocks.locking = false → Yields (exec .oscillatorStartDelayEnd s) fun t =>
    t.clocks.win = true ∧ t.clocks.start = some p ∧ SameMem s t ∧ SameRegsBut [] s t) ∧
  (∀ (s : State) (src n count : Nat), s.clocks.start = some (src, n) → s.clocks.win = true → s.mode = DORMANT → winPasses src count = true →
    Yields (exec (.stabilityWindowEnd count) s) fun t =>
      t.clocks.locking = true ∧ t.clocks.win = false ∧ t.rd CLK_STAT_REFSTATE = 2 ∧ t.rd CLK_REFMEAS_COUNT = count ∧
        SameRegsBut [CLK_STAT_REFSTATE.key 0, CLK_REFMEAS_COUNT.key 0, CLK_REFMEAS_DEV.key 0] s t) ∧
  (∀ (s : State) (src n count : Nat), s.clocks.start = some (src, n) → s.clocks.win = true → s.mode = DORMANT → winPasses src count = false → n < 15 →
    Yields (exec (.stabilityWindowEnd count) s) fun t => t.clocks.start = some (src, n + 1) ∧ t.clocks.locking = s.clocks.locking) ∧
  (∀ (s : State) (src n count : Nat), s.clocks.start = some (src, n) → s.clocks.win = true → s.mode = DORMANT → winPasses src count = false → 15 ≤ n →
    s.cfg.pendLoad = none → Yields (exec (.stabilityWindowEnd count) s) fun t => t.clocks.start = none ∧ t.rd CLK_STAT_REASON = ST_HW_CLK_REF ∧ t.mode = DORMANT) ∧
  (∀ (s : State) (runs : List (Nat × Nat × Nat × Nat)), s.clocks.start ≠ none → s.clocks.locking = true → s.rd CLK_STAT_LOCK ≠ 0x3F → s.clocks.fw = false →
    Yields (exec (.lastPllsLocked true runs) s) fun t => t.rd CLK_STAT_LOCK = 0x3F ∧ t.rd CLK_STAT_READY = 1 ∧ t.mode = s.mode) ∧
  (∀ (s : State) (runs : List (Nat × Nat × Nat × Nat)), s.clocks.start ≠ none → s.clocks.locking = true → s.rd CLK_STAT_LOCK ≠ 0x3F → s.clocks.fw = true →
    Yields (exec (.lastPllsLocked true runs) s) fun t => t.mode = LOAD ∧ t.clocks.tbRun = true ∧ t.clocks.start = none ∧ t.rd DBG_PORT_POWER = 1) ∧
  (∀ (s : State) (okA okB : Bool) (runs : List (Nat × Nat × Nat × Nat)), s.clocks.start ≠ none → s.clocks.fw = false → s.rd CLK_STAT_LOCK ≠ 0x3F →
    (if s.upd.bank = 0 then okA else okB) = true → Yields (exec (.lastFirmwareBoot okA okB runs) s) fun t =>
      t.clocks.fw = true ∧ t.upd.bank = s.upd.bank ∧ SameRegsBut [] s t) ∧
  (∀ (s : State) (runs : List (Nat × Nat × Nat × Nat)), s.clocks.start ≠ none → s.clocks.fw = false → s.cfg.pendLoad = none →
    Yields (exec (.lastFirmwareBoot false false runs) s) fun t => t.clocks.start = none ∧ t.clocks.fw = false ∧ t.mode = s.mode) ∧
  (∀ s : State, s.mode = DORMANT → startAllowed s = true → s.power.bootDue = true → nvsGet s nvsAUTOBOOT ≠ 0 → s.clocks.start = none →
    Yields (exec .autoBootDecision s) fun t => t.clocks.start = some (nvsGet s nvsREFSRC, 0) ∧ t.power.bootDue = false ∧ t.mode = DORMANT)

/-- The probe (R32).  An answer within the window gives the Last the die's identity and capability word, and changes no other die.  At the
deadline the package is judged: the black-box ring is scanned and ready; and the judgement itself makes each die SUPPORTED (1),
UNSUPPORTED (2) or SILENT (3).
Beside the spec it rests on the model's choices of notes/assumptions/5.md, notes/assumptions/18.md, notes/assumptions/38.md. -/
def Obligations.ProbeJudgesEveryDie : Prop :=
  (∀ (s : State) (d : Fin 12) (ident capw : BitVec 32), s.mode = LOAD → s.dieUp d = true → s.rdi GLB_DIESTAT_STATE (4 * d) = 0 →
    Yields (exec (.dieProbeAnswer d ident capw) s) fun t => (t.die d).answered = true ∧ (t.die d).ident = ident.toNat ∧ (t.die d).capw = capw.toNat ∧
      (∀ e, e ≠ d.val → t.die e = s.die e) ∧ SameMem s t ∧ SameRegsBut [] s t) ∧
  (∀ (s : State) (bad : List (Nat × Nat)) (noclk : List Nat), s.mode = LOAD → s.rd GLB_PKG_PROTO = 0 → s.cfg.pendLoad = none →
    Yields (exec (.probeDeadline bad noclk) s) fun t => t.rd BBX_STAT_READY = 1) ∧
  (∀ (s : State) (d : Nat), d < 12 → (probeJudge s).rdi GLB_DIESTAT_STATE (4 * d) =
    if (s.die d).answered then (if (supportEntry s (s.die d).ident (s.die d).capw).isSome then 1 else 2) else 3)

/-- Clock failures (R448 to R453).  Outside DORMANT a loss of the reference, the unlocking of a PLL and the failure of a running regional
network enter SAFE with READY 0; in SAFE the fourth window that passes with every PLL locked makes READY 1; and with AUTORES the resume, once
allowed and with its checks passing, starts the change to normal service.
Module time (R436, R437).  With RTCSYNC and gPTP locked the RTC takes the timebase.  Outside DORMANT and before SCRAP, with no operation running, operation 1
steps the timebase by CLK_TBSTEP where nothing is scheduled and gPTP is off, operation 2 sets the RTC from CLK_RTCSET and operation 3
from the timebase; each ends with STATUS 0 and BUSY 0.
Beside the spec it rests on the model's choices of notes/assumptions/5.md, notes/assumptions/39.md, notes/assumptions/42.md. -/
def Obligations.ClockFailuresAndTime : Prop :=
  ((∀ s : State, s.mode ≠ DORMANT → s.clocks.refOk = true → Yields (exec .referenceLoss s) fun t => t.mode = SAFE ∧ t.clocks.refOk = false) ∧
  (∀ (s : State) (d : Fin 12) (n : Fin 10), s.mode ≠ DORMANT → n.val < 6 → Yields (exec (.pllUnlock true d n) s) fun t => t.mode = SAFE) ∧
  (∀ (s : State) (d : Fin 12) (n : Fin 10), s.mode ≠ DORMANT → s.dieUp d = true → Yields (exec (.pllUnlock false d n) s) fun t => t.mode = SAFE) ∧
  (∀ (s : State) (d : Fin 12) (r : Fin 32) (k : Fin 4), s.mode ≠ DORMANT → bit (s.rdi FDC_RSTAT_CLKRUN (oReg d r)) k = 1 →
    Yields (exec (.regionClockFailure d r k) s) fun t => t.mode = SAFE) ∧
  (∀ (s : State) (count : Nat), s.mode = SAFE → s.rd CLK_STAT_READY ≠ 1 → winPasses (s.rd CLK_NVS_REFSRC) count = true → 3 ≤ s.clocks.passed →
    Yields (exec (.safeStabilityWindow count true) s) fun t =>
      t.rd CLK_STAT_READY = 1 ∧ t.rd CLK_STAT_HOLDOVER = 0 ∧ t.rd CLK_STAT_LOCK = 0x3F ∧ t.clocks.refOk = true ∧ t.mode = SAFE) ∧
  (∀ (s : State) (noclk : List Nat) (runs : List (Nat × Nat × Nat × Nat)), mayResume s = true →
    (s.modes.readySince.getD 0) + s.rd CLK_CTL_RESDLY * 1000000 ≤ s.clocks.elapsed → ackCheck s = 0 → s.modes.safeEyelets = [] →
    (∀ c, c < 8 → drcState s c ≠ drcFAILED) → Yields (exec (.autoResume noclk runs) s) fun t =>
      t.mode = SAFE ∧ t.modes.auto = true ∧ t.welt.svcTo = some 3 ∧ t.rd WLT_SVC_STATE = 2)) ∧
  ((∀ s : State, s.rd CLK_CTL_RTCSYNC = 1 → s.rd ETH_PTPSTAT_LOCKED = 1 → s.clocks.tbRun = true → Yields (exec .rtcSync s) fun t =>
    t.clocks.rtc = s.clocks.tb % (2 ^ 48 * 1000000000) ∧ t.rd CLK_RTCSECH_VALID = 1 ∧ SameRegsBut [CLK_RTCSECH_VALID.key 0] s t) ∧
  (∀ s : State, s.mode ≠ DORMANT → s.rd SEC_STAT_LC ≠ 4 → s.rd CLK_TBCMD_BUSY = 0 → timePending s = false → s.rd ETH_PTPCTL_EN ≠ 1 → Yields (exec .timebaseStep s) fun t =>
    t.clocks.tb = (s.clocks.tb + s.rd64 CLK_TBSTEPL_STEP CLK_TBSTEPH_STEP) % 2 ^ 64 ∧ t.rd CLK_TBCMD_STATUS = 0 ∧ t.rd CLK_TBCMD_BUSY = 0 ∧
      t.clocks.elapsed = s.clocks.elapsed ∧ t.clocks.rtc = s.clocks.rtc) ∧
  (∀ s : State, s.mode ≠ DORMANT → s.rd SEC_STAT_LC ≠ 4 → s.rd CLK_TBCMD_BUSY = 0 → (timePending s = true ∨ s.rd ETH_PTPCTL_EN = 1) → Yields (exec .timebaseStep s) fun t =>
    t.clocks = s.clocks ∧ t.rd CLK_TBCMD_STATUS = ST_CLK_PENDING ∧ t.rd CLK_TBCMD_BUSY = 0) ∧
  (∀ s : State, s.mode ≠ DORMANT → s.rd SEC_STAT_LC ≠ 4 → s.rd CLK_TBCMD_BUSY = 0 → Yields (exec .rtcSetFromRegisters s) fun t =>
    t.clocks.rtc = (s.rd CLK_RTCSETL_SEC + s.rd CLK_RTCSETH_SEC % 2 ^ 16 * 2 ^ 32) * 1000000000 % (2 ^ 48 * 1000000000) ∧ t.rd CLK_RTCSECH_VALID = 1 ∧
      t.rd CLK_TBCMD_STATUS = 0 ∧ t.clocks.tb = s.clocks.tb) ∧
  (∀ s : State, s.mode ≠ DORMANT → s.rd SEC_STAT_LC ≠ 4 → s.rd CLK_TBCMD_BUSY = 0 → Yields (exec .rtcSetFromTimebase s) fun t =>
    t.clocks.rtc = s.clocks.tb % (2 ^ 48 * 1000000000) ∧ t.rd CLK_RTCSECH_VALID = 1 ∧ t.rd CLK_TBCMD_STATUS = 0 ∧ t.clocks.tb = s.clocks.tb))

/-- Reset-isolation gates (R478, R480).  A crossing with a side in reset clamps: it is noted, what it held is discarded, and one entry of
GLB_XEVENT says so.  Once both sides are out of reset it is released, and what waited moves on.
A change of service (R175): the change ends once no request is outstanding, or at 10.0 µs by completing those that are; the tables of the
service it leads to are in force, 3 NORMAL with epoch 0 and the lace at slot 0, or 1 FOUR-PLANE, and injection resumes before the module
mode changes.
Beside the spec it rests on the model's choices of notes/assumptions/5.md. -/
def Obligations.GatesAndServiceChanges : Prop :=
  ((∀ (s : State) (kind : Fin 9) (d : Fin 16) (unit extra : Nat), kind.val ≠ 0 → unit < 64 → (kind.val, d.val, unit) ∉ s.modes.clamped →
    crossReset s kind d unit = true → Yields (exec (.resetIsolationClamp kind d unit extra) s) fun t =>
      (kind.val, d.val, unit) ∈ t.modes.clamped ∧ SameRegsBut [] s t ∧ SameMem s t ∧
        ((tabGet {} s.evq GLB_XEVENT_VALID.adr).entries.length < 64 →
          (tabGet {} t.evq GLB_XEVENT_VALID.adr).entries.length = (tabGet {} s.evq GLB_XEVENT_VALID.adr).entries.length + 1)) ∧
  (∀ (s : State) (kind : Fin 9) (d : Fin 16) (unit : Nat), crossReset s kind d unit = false → s.modes.clamped.Nodup →
    ∃ u, exec (.resetIsolationRelease kind d unit) s = .next (pump u) ∧ (kind.val, d.val, unit) ∉ u.modes.clamped ∧ SameRegsBut [] s u ∧ SameMem s u)) ∧
  ((∀ (s : State) (n : Nat), s.welt.svcTo = some n → s.welt.out = [] → ∃ u, exec .serviceModeChange s = .next (afterService (pump u)) ∧
    u.welt.svcTo = none ∧ u.rd WLT_SVC_STATE = (if n = 3 then 3 else 1) ∧ (n = 3 → u.rd WLT_EPOCH_CUR = 0 ∧ u.welt.lace = 0) ∧ u.mode = s.mode ∧ SameMem s u) ∧
  (∀ (s : State) (n : Nat), s.welt.svcTo = some n → ∃ u, exec .serviceChangeDrainTimeout s = .next (afterService (pump u)) ∧
    u.welt.svcTo = none ∧ u.rd WLT_SVC_STATE = (if n = 3 then 3 else 1) ∧ (n = 3 → u.rd WLT_EPOCH_CUR = 0 ∧ u.welt.lace = 0)))


/-! Gears and trim (spec/17, spec/03) -/

/-- A change of gear (R442 to R447).  A write of GEAR_REQ above the gear in force of an idle group, with no limit below it, starts a raise:
TARGET shows the gear, and the rails ramp first.  Once they are in regulation the starting codes are loaded and the locks are awaited.  The
switch count of a raise, with every region locked, puts every die of the group in the new gear and the group is idle; that of a lower
switches first and then moves the rails.  A rail out of time ends the change with ST_HW_GEAR_VREG.
Beside the spec it rests on the model's choices of notes/assumptions/5.md, notes/assumptions/39.md. -/
def Obligations.GearChanges : Prop :=
  (∀ (s : State) (g : Fin 12) (value : BitVec 32), groupDies s g ≠ [] → value.toNat % 8 ≤ 4 → s.rdi GEAR_STAT_GEAR (4 * g) < value.toNat % 8 →
    0 < s.rdi GEAR_STAT_GEAR (4 * g) → value.toNat % 8 ≤ s.rdi GEAR_HLIM_LIMIT (4 * g) → value.toNat % 8 ≤ codeLimit s → value.toNat % 8 ≤ groupTiming s g →
    s.rdi GEAR_STAT_PHASE (4 * g) = 0 → swapDue s g = false → s.rd PWR_STAT_MAINS ≠ 0 → s.rd SHF_STAT_STATE = 0 →
    Yields (exec (.gearTargetChange false g value) s) fun t => t.rdi GEAR_REQ_GEAR (4 * g) = value.toNat % 8 ∧
      t.rdi GEAR_STAT_TARGET (4 * g) = value.toNat % 8 ∧ t.rdi GEAR_STAT_PHASE (4 * g) = 1 ∧ (t.gear g).step = 1 ∧ (t.gear g).to_ = value.toNat % 8 ∧
      t.rdi GEAR_STAT_GEAR (4 * g) = s.rdi GEAR_STAT_GEAR (4 * g) ∧ SameMem s t) ∧
  (∀ (s : State) (g : Fin 12), (s.gear g).step = 1 → Yields (exec (.gearRailInRegulation g) s) fun t => (t.gear g).step = 2 ∧ (t.gear g).to_ = (s.gear g).to_ ∧
    SameMem s t ∧ ∀ d r, d ∈ groupDies s g → r < 32 → t.rdi FDC_TRIMST_TRIMLOCK (oReg d r) = 0) ∧
  (∀ (s : State) (g : Fin 12), (s.gear g).step = 2 → groupLocked s g = true → (s.gear g).later = none → 0 < (s.gear g).to_ → (s.gear g).to_ < 8 →
    Yields (exec (.gearSwitchCount g) s) fun t => t.rdi GEAR_STAT_GEAR (4 * g) = (s.gear g).to_ ∧ t.rdi GEAR_STAT_PHASE (4 * g) = 0 ∧ (t.gear g).step = 0 ∧
      ∀ d, d ∈ groupDies s g → t.rdi GEAR_DIE_GEAR (4 * d) = (s.gear g).to_) ∧
  (∀ (s : State) (g : Fin 12), (s.gear g).step = 4 → (s.gear g).to_ < 8 → Yields (exec (.gearSwitchCount g) s) fun t =>
    t.rdi GEAR_STAT_GEAR (4 * g) = (s.gear g).to_ ∧ (t.gear g).step = 5) ∧
  (∀ (s : State) (g : Fin 12), (s.gear g).step = 1 ∨ (s.gear g).step = 5 → (s.gear g).later = none → Yields (exec (.gearRampTimeout g) s) fun t =>
    t.rdi GEAR_STAT_STATUS (4 * g) = ST_HW_GEAR_VREG ∧ t.rdi GEAR_STAT_PHASE (4 * g) = 0 ∧ (t.gear g).step = 0 ∧
      t.rdi GEAR_STAT_GEAR (4 * g) = s.rdi GEAR_STAT_GEAR (4 * g)) ∧
  (∀ (s : State) (d : Fin 12), s.dieUp d = true → s.mode ≠ DORMANT → (s.gear (s.rdi GEAR_DIE_GROUP (4 * d))).step ≠ 1 →
    (s.gear (s.rdi GEAR_DIE_GROUP (4 * d))).step ≠ 5 → (s.die d).railOk = true → Yields (exec (.coreRailOutOfBand d) s) fun t => t.mode = SAFE)

/-- Trim (R90, R91, R93, R95).  A window outside ±0.5 % moves the code by one toward its limit of ±24 and shows its deviation; four
windows in succession within ±1.0 % lock the region, and one outside unlocks it.  A region that does not lock in time enters SAFE.  FREEZE is
accepted in HOLD, where CODE takes SETCODE within ±24; elsewhere it sets FRZIGN and nothing else but SETCODE.
Beside the spec it rests on the model's choices of notes/assumptions/5.md. -/
def Obligations.TrimLoop : Prop :=
  (∀ (s : State) (d : Fin 12) (r : Fin 32) (dev : Int), s.rdi FDC_TRIMST_ACTIVE (oReg d r) ≠ 0 → s.rdi FDC_TRIM_FREEZE (oReg d r) ≠ 1 →
    s.rdi FDC_TRIMST_TRIMWARN (oReg d r) = 1 → (s.gear (s.rdi GEAR_DIE_GROUP (4 * d))).step ≠ 6 → (s.region (rix d r)).trimLim < 7 →
    Yields (exec (.trimWindowEnd d r dev) s) fun t =>
      t.rdi FDC_TRIM_CODE (oReg d r) = wrapTo 7 (if dev > 5 then min (sgn7 (s.rdi FDC_TRIM_CODE (oReg d r)) + 1) 24
        else if dev < -5 then max (sgn7 (s.rdi FDC_TRIM_CODE (oReg d r)) - 1) (-24) else sgn7 (s.rdi FDC_TRIM_CODE (oReg d r))) ∧
      t.rdi FDC_TRIMST_TRIMLOCK (oReg d r) = (if -10 ≤ dev ∧ dev ≤ 10 ∧ 3 ≤ (s.region (rix d r)).trimIn then 1 else 0) ∧
      t.rdi FDC_TRIMST_DEV (oReg d r) = wrapTo 8 (max (-128) (min 127 dev)) ∧ SameMem s t ∧
      SameRegsBut [FDC_TRIM_CODE.key (oReg d r), FDC_TRIMST_DEV.key (oReg d r), FDC_TRIMST_TRIMLOCK.key (oReg d r)] s t) ∧
  (∀ (s : State) (d : Fin 12) (r : Fin 32), s.mode ≠ DORMANT → s.rdi FDC_TRIMST_ACTIVE (oReg d r) = 1 → s.rdi FDC_TRIMST_TRIMLOCK (oReg d r) = 0 →
    s.rdi FDC_TRIMST_TRIMFAULT (oReg d r) = 0 → Yields (exec (.trimLockTimeout d r) s) fun t => t.mode = SAFE) ∧
  (∀ (s : State) (d : Fin 12) (r : Fin 32) (v : BitVec 32), s.dieUp d = true → s.mode = HOLD → bit v.toNat 31 = 1 →
    Yields (exec (.trimFreezeWrite d r v) s) fun t => t.rdi FDC_TRIM_FREEZE (oReg d r) = 1 ∧
      t.rdi FDC_TRIM_CODE (oReg d r) = wrapTo 7 (max (-24) (min 24 (sgn7 (bits v.toNat 16 7)))) ∧ t.rdi FDC_TRIM_SETCODE (oReg d r) = bits v.toNat 16 7 ∧
      SameRegsBut [FDC_TRIM_FREEZE.key (oReg d r), FDC_TRIM_CODE.key (oReg d r), FDC_TRIM_SETCODE.key (oReg d r)] s t ∧ SameMem s t) ∧
  (∀ (s : State) (d : Fin 12) (r : Fin 32) (v : BitVec 32), s.dieUp d = true → s.mode ≠ HOLD → bit v.toNat 31 = 1 →
    Yields (exec (.trimFreezeWrite d r v) s) fun t => t.rdi FDC_TRIMST_FRZIGN (oReg d r) = 1 ∧ t.rdi FDC_TRIM_SETCODE (oReg d r) = bits v.toNat 16 7 ∧
      SameRegsBut [FDC_TRIMST_FRZIGN.key (oReg d r), FDC_TRIM_SETCODE.key (oReg d r)] s t ∧ SameMem s t)

/-! Fabric (spec/02) -/

/-- The registers of a region outside its clock edges (R45, R48, R61, R63).  RESTORE in HOLD gives every flip-flop and product block its initial
value, and in any other mode sets RESTIGN alone.  An asynchronous SR puts SRVAL in its cell's flip-flops.  A capture copies what they hold
into the latches, and completes with CAPDONE.
Regional clock networks (R64 to R68).  A wake source that a DEMAND network is enabled for starts it and is counted; the idle limit stops it
unless a wake comes with it; the wake timer reloads or stops; writes of FDC_RWTMR and FDC_RCLK take effect, and a network set to ON runs
where region clocks may.
Beside the spec it rests on the model's choices of notes/assumptions/5.md, notes/assumptions/7.md. -/
def Obligations.FabricRegistersAndClocks : Prop :=
  ((∀ (s : State) (d : Fin 12) (r : Fin 32), s.dieUp d = true → s.mode = HOLD → Yields (exec (.regionRestore d r) s) fun t =>
    (t.region (rix d r)).ff = initFf (s.region (rix d r)).design ∧ (t.region (rix d r)).prod = initProd (s.region (rix d r)).design ∧
      (∀ k, k ≠ rix d r → t.region k = s.region k) ∧ SameRegsBut [] s t ∧ SameMem s t) ∧
  (∀ (s : State) (d : Fin 12) (r : Fin 32), s.dieUp d = true → s.mode ≠ HOLD → Yields (exec (.regionRestore d r) s) fun t =>
    t.rdi FDC_RSTAT_RESTIGN (oReg d r) = 1 ∧ t.regions = s.regions ∧ SameRegsBut [FDC_RSTAT_RESTIGN.key (oReg d r)] s t ∧ SameMem s t) ∧
  (∀ (s : State) (d : Fin 12) (r : Fin 32) (cell : Nat), (tabGet {} (s.region (rix d r)).design.cells cell).srAsync = true →
    Yields (exec (.asyncSrAssert d r cell) s) fun t =>
      tabGet 0 (t.region (rix d r)).ff cell =
        packFf (tabGet {} (s.region (rix d r)).design.cells cell).srvalA (tabGet {} (s.region (rix d r)).design.cells cell).srvalB ∧
      (∀ c, c ≠ cell → tabGet 0 (t.region (rix d r)).ff c = tabGet 0 (s.region (rix d r)).ff c) ∧ SameRegsBut [] s t ∧ SameMem s t) ∧
  (∀ (s : State) (d : Fin 12) (r : Fin 32), s.rdi FDC_RSTAT_CAPPEND (oReg d r) = 1 → Yields (exec (.captureAtT d r) s) fun t =>
    (t.region (rix d r)).latchFf = (s.region (rix d r)).ff ∧ (t.region (rix d r)).latchProd = (s.region (rix d r)).prod ∧
      (t.region (rix d r)).ff = (s.region (rix d r)).ff ∧ (t.region (rix d r)).latchValid = true ∧ SameRegsBut [] s t ∧ SameMem s t) ∧
  (∀ (s : State) (d : Fin 12) (r : Fin 32), s.rdi FDC_RSTAT_CAPPEND (oReg d r) = 1 → (s.region (rix d r)).latchValid = true →
    Yields (exec (.captureComplete d r) s) fun t => t.rdi FDC_RSTAT_CAPPEND (oReg d r) = 0 ∧ t.rdi FDC_RSTAT_CAPDONE (oReg d r) = 1 ∧
      t.regions = s.regions ∧ SameMem s t)) ∧
  ((∀ (s : State) (d : Fin 12) (r : Fin 32) (k : Fin 4), s.clocksAllowed d r = true → s.rdi FDC_RCLK_MODE (oClk d r k) = 2 →
    s.rdi FDC_RCLK_WELT (oClk d r k) = 1 → bit (s.rdi FDC_RSTAT_CLKRUN (oReg d r)) k = 0 → Yields (exec (.networkWake d r k 0) s) fun t =>
      bit (t.rdi FDC_RSTAT_CLKRUN (oReg d r)) k = 1 ∧
      t.rdi FDC_RWAKES_COUNT (oReg d r) = min (s.rdi FDC_RWAKES_COUNT (oReg d r) + 1) (2 ^ FDC_RWAKES_COUNT.w - 1) ∧
      tabGet 0 (t.region (rix d r)).idle k = 0 ∧ SameRegsBut [FDC_RSTAT_CLKRUN.key (oReg d r), FDC_RWAKES_COUNT.key (oReg d r)] s t ∧ SameMem s t) ∧
  (∀ (s : State) (d : Fin 12) (r : Fin 32) (k : Fin 4) (wake : Bool), s.rdi FDC_RCLK_MODE (oClk d r k) = 2 → s.rdi FDC_RCLK_IDLE (oClk d r k) ≠ 0 →
    bit (s.rdi FDC_RSTAT_CLKRUN (oReg d r)) k = 1 → Yields (exec (.idleLimitReached d r k wake) s) fun t =>
      bit (t.rdi FDC_RSTAT_CLKRUN (oReg d r)) k = wake.toNat ∧ tabGet 0 (t.region (rix d r)).idle k = 0 ∧
      SameRegsBut [FDC_RSTAT_CLKRUN.key (oReg d r)] s t ∧ SameMem s t) ∧
  (∀ (s : State) (d : Fin 12) (r : Fin 32), (s.region (rix d r)).wakeTimerOn = true → Yields (exec (.wakeTimerExpiry d r) s) fun t =>
    (t.region (rix d r)).wakeTimerOn = (s.rdi FDC_RWTMR_PERIODIC (oReg d r) == 1) ∧ SameMem s t) ∧
  (∀ (s : State) (d : Fin 12) (r : Fin 32) (v : BitVec 32), s.dieUp d = true → Yields (exec (.wakeTimerWrite d r v) s) fun t =>
    t.rdi FDC_RWTMR_RELOAD (oReg d r) = bits v.toNat 0 24 ∧ t.rdi FDC_RWTMR_PERIODIC (oReg d r) = bit v.toNat 31 ∧
      (t.region (rix d r)).wakeTimerOn = (bits v.toNat 0 24 != 0) ∧
      SameRegsBut [FDC_RWTMR_RELOAD.key (oReg d r), FDC_RWTMR_PERIODIC.key (oReg d r)] s t ∧ SameMem s t) ∧
  (∀ (s : State) (d : Fin 12) (r : Fin 32) (k : Fin 4) (v : BitVec 32), s.dieUp d = true → Yields (exec (.rclkWrite d r k v) s) fun t =>
    t.rdi FDC_RCLK_SRC (oClk d r k) = bits v.toNat 28 4 ∧ t.rdi FDC_RCLK_MODE (oClk d r k) = bits v.toNat 26 2 ∧
      t.rdi FDC_RCLK_IDLE (oClk d r k) = bits v.toNat 0 12 ∧ t.rdi FDC_RCLK_WELT (oClk d r k) = bit v.toNat 25 ∧
      (s.clocksAllowed d r = true → bits v.toNat 26 2 = 1 → bit (t.rdi FDC_RSTAT_CLKRUN (oReg d r)) k = 1) ∧
      (s.clocksAllowed d r = true → bits v.toNat 26 2 = 0 → bit (t.rdi FDC_RSTAT_CLKRUN (oReg d r)) k = 0) ∧ t.regions = s.regions ∧ SameMem s t))

/-! Banks and memory power (spec/04) -/

/-- Accesses to a bank that is ON and clocked, with no narrow write between its edges, no waiting requester and the port not told to wait (R97 to R102,
R107).  Port A of a simple dual-port bank writes and its port B reads, and both ports of banks 0 to 7 do as WE says: a whole write stores its word, a
narrow one waits for the next edge, and a read of a good word brings the lane read to the port.  At that edge the bytes of a narrow write are merged
into the word.  A forced cycle serves the request whose wait has reached its threshold.
Beside the spec it rests on the model's choices of notes/assumptions/5.md, notes/assumptions/15.md. -/
def Obligations.BankAccesses : Prop :=
  (∀ (s : State) (d : Fin 12) (r : Fin 32) (b : Fin 64) (p : PortIn) (word mask sh : Nat), bankClocked s d r b = true →
    s.rdi BNK_STAT_PWR (oBnk d r b) = 0 → (s.bank (bix d r b)).scrubWake = false → (s.bank (bix d r b)).rmw = [] → (s.bank (bix d r b)).waitA = false →
    (s.bank (bix d r b)).remapReq = none → [64, 32, 16, 8].contains (s.bank (bix d r b)).widthA = true → p.en = true →
    laneOf (s.bank (bix d r b)).widthA p.addr p.be = (word, mask, sh) → wordMark s d r b word = 0 →
    Yields (exec (.bankPortAccess d r b p {} none none) s) fun t =>
      (8 ≤ b.val ∨ p.we = true → (s.bank (bix d r b)).widthA = 64 → mask = 255 →
        bankWord t d r b word = p.din % 2 ^ 64 ∧ wordMark t d r b word = 0 ∧ SameMemOutside (bankAddr d r b word) 8 s t) ∧
      (8 ≤ b.val ∨ p.we = true → (s.bank (bix d r b)).widthA ≠ 64 ∨ mask ≠ 255 →
        (t.bank (bix d r b)).rmw = [⟨0, word, mask, p.din, false⟩] ∧ SameMem s t) ∧
      (¬(8 ≤ b.val ∨ p.we = true) →
        (t.bank (bix d r b)).dueA = some (some (bits (bankWord s d r b word) sh (s.bank (bix d r b)).widthA * 2 ^ sh), 0) ∧ SameMem s t) ∧ SameRegsBut [] s t) ∧
  (∀ (s : State) (d : Fin 12) (r : Fin 32) (b : Fin 64) (p : PortIn) (word mask sh : Nat), bankClocked s d r b = true →
    s.rdi BNK_STAT_PWR (oBnk d r b) = 0 → (s.bank (bix d r b)).scrubWake = false → (s.bank (bix d r b)).rmw = [] → (s.bank (bix d r b)).waitB = false →
    (s.bank (bix d r b)).remapReq = none → [64, 32, 16, 8].contains (s.bank (bix d r b)).widthB = true → p.en = true →
    laneOf (s.bank (bix d r b)).widthB p.addr p.be = (word, mask, sh) → wordMark s d r b word = 0 →
    Yields (exec (.bankPortAccess d r b {} p none none) s) fun t =>
      (b.val < 8 ∧ p.we = true → (s.bank (bix d r b)).widthB = 64 → mask = 255 →
        bankWord t d r b word = p.din % 2 ^ 64 ∧ wordMark t d r b word = 0 ∧ SameMemOutside (bankAddr d r b word) 8 s t) ∧
      (b.val < 8 ∧ p.we = true → (s.bank (bix d r b)).widthB ≠ 64 ∨ mask ≠ 255 →
        (t.bank (bix d r b)).rmw = [⟨1, word, mask, p.din, false⟩] ∧ SameMem s t) ∧
      (¬(b.val < 8 ∧ p.we = true) →
        (t.bank (bix d r b)).dueB = some (some (bits (bankWord s d r b word) sh (s.bank (bix d r b)).widthB * 2 ^ sh), 0) ∧ SameMem s t) ∧ SameRegsBut [] s t) ∧
  (∀ (s : State) (d : Fin 12) (r : Fin 32) (b : Fin 64) (x : Rmw), s.rdi BNK_STAT_PWR (oBnk d r b) = 0 → (s.bank (bix d r b)).scrubWake = false →
    (s.bank (bix d r b)).rmw = [x] → x.port < 2 → x.word < 1024 → x.bad = false → (s.bank (bix d r b)).remapReq = none →
    Yields (exec (.narrowWriteMerge d r b) s) fun t =>
      bankWord t d r b x.word = mergeBytes (bankWord s d r b x.word) x.data x.mask ∧ (t.bank (bix d r b)).rmw = [] ∧ wordMark t d r b x.word = 0 ∧
      SameMemOutside (bankAddr d r b x.word) 8 s t ∧ SameRegsBut [] s t) ∧
  (∀ (s : State) (d : Fin 12) (r : Fin 32) (b : Fin 64) (kind : Fin 3) (wr : Bool) (pa pb : PortIn), s.rdi BNK_STAT_PWR (oBnk d r b) = 0 →
    (s.bank (bix d r b)).scrubWake = false → (s.bank (bix d r b)).rmw = [] → (s.bank (bix d r b)).waitA = true → (s.bank (bix d r b)).waitB = true →
    (kind.val = 0 → 4096 ≤ (s.bank (bix d r b)).cobWait.getD 0) →
    (kind.val = 1 → ∃ x n, (s.bank (bix d r b)).remapReq = some (x, n) ∧ 4096 ≤ n) →
    (kind.val = 2 → s.rdi FDC_BNKARB_WFORCE (oReg d r) ≠ 0 ∧ 64 * s.rdi FDC_BNKARB_WFORCE (oReg d r) ≤ (s.bank (bix d r b)).weltWait.getD 0) →
    Yields (exec (.forcedCycle d r b kind wr pa pb) s) fun t =>
      (kind.val = 0 → (t.bank (bix d r b)).cobWait = none) ∧ (kind.val = 1 → (t.bank (bix d r b)).remapReq = none) ∧
        (kind.val = 2 → (t.bank (bix d r b)).weltWait = none) ∧ SameMem s t)

/-- Remaps of a bank's words (R110).  With a spare free, BNK_REMAPCMD is busy with its request; with none it ends with ST_BNK_REMAP_FULL.  The
step gives the word a spare, its contents unchanged.
Beside the spec it rests on the model's choices of notes/assumptions/11.md, notes/assumptions/43.md. -/
def Obligations.BankRemaps : Prop :=
  (∀ (s : State) (d : Fin 12) (r : Fin 32) (b : Fin 64) (addr : Fin 1024) (sp : Nat), s.dieUp d = true → s.rdi BNK_REMAPCMD_BUSY (oBnk d r b) ≠ 1 → sp < 4 →
    bit (s.rdi BNK_STAT_SPFAIL (oBnk d r b)) sp = 0 → (∀ e, e < 4 → s.rdi BNK_REMAP_VALID (oBnk d r b + 4 * e) = 0) →
    Yields (exec (.bankRemapCmd d r b addr) s) fun t => t.rdi BNK_REMAPCMD_BUSY (oBnk d r b) = 1 ∧ t.rdi BNK_REMAPCMD_ADDR (oBnk d r b) = addr ∧
      (t.bank (bix d r b)).remapReq = some (addr.val, 0) ∧ SameMem s t ∧
      SameRegsBut [BNK_REMAPCMD_BUSY.key (oBnk d r b), BNK_REMAPCMD_ADDR.key (oBnk d r b)] s t) ∧
  (∀ (s : State) (d : Fin 12) (r : Fin 32) (b : Fin 64) (addr : Fin 1024), s.dieUp d = true → s.rdi BNK_REMAPCMD_BUSY (oBnk d r b) ≠ 1 →
    (∀ sp, sp < 4 → bit (s.rdi BNK_STAT_SPFAIL (oBnk d r b)) sp = 1) → Yields (exec (.bankRemapCmd d r b addr) s) fun t =>
      t.rdi BNK_REMAPCMD_BUSY (oBnk d r b) = 0 ∧ t.rdi BNK_REMAPCMD_STATUS (oBnk d r b) = ST_BNK_REMAP_FULL ∧ SameMem s t) ∧
  (∀ (s : State) (d : Fin 12) (r : Fin 32) (b : Fin 64) (x n sp : Nat), (s.bank (bix d r b)).remapReq = some (x, n) → x < 1024 → sp < 4 →
    bit (s.rdi BNK_STAT_SPFAIL (oBnk d r b)) sp = 0 → (∀ e, e < 4 → s.rdi BNK_REMAP_VALID (oBnk d r b + 4 * e) = 0) → wordMark s d r b x ≠ 2 →
    Yields (exec (.bankRemapStep d r b) s) fun t => (t.bank (bix d r b)).remapReq = none ∧ (∃ k, remapOf t d r b x = some (0, k) ∧ k < 4) ∧
      wordMark t d r b x = 0 ∧ SameMem s t)

/-- Power states of banks, Awl memories, Last store segments and the vault (R111, R112, R114, R119, R120, R123), 0 ON, 1 RETENTION's entry for a
bank or RETENTION for a unit of the Last, 2 RETENTION or OFF, 3 waking.  A request for RETENTION starts the entry of a bank that is ON, a
request for ON wakes it, and each ends in the state it leads to; what waited for the memory then moves on.
Beside the spec it rests on the model's choices of notes/assumptions/5.md, notes/assumptions/17.md. -/
def Obligations.MemoryPower : Prop :=
  (∀ (s : State) (d : Fin 12) (r : Fin 32) (b : Fin 64) (ctl : BitVec 32) (ps : Bool), s.dieUp d = true → (s.bank (bix d r b)).scrubWake = false →
    ∃ u, exec (.bankPowerRequest d r b ctl ps) s = .next (pump u) ∧
      u.rdi BNK_CTL_PWRREQ (oBnk d r b) = bits ctl.toNat 0 2 ∧ u.rdi BNK_CTL_AUTOWAKE (oBnk d r b) = bit ctl.toNat 2 ∧
      u.rdi BNK_STAT_PWR (oBnk d r b) = (if bits ctl.toNat 0 2 = 1 ∨ (bits ctl.toNat 0 2 = 2 ∧ ps = true)
        then (if s.rdi BNK_STAT_PWR (oBnk d r b) = 0 then 1 else s.rdi BNK_STAT_PWR (oBnk d r b))
        else (if s.rdi BNK_STAT_PWR (oBnk d r b) = 2 then 3 else if s.rdi BNK_STAT_PWR (oBnk d r b) = 1 then 0 else s.rdi BNK_STAT_PWR (oBnk d r b))) ∧
      SameMem s u ∧ SameRegsBut [BNK_CTL_PWRREQ.key (oBnk d r b), BNK_CTL_AUTOWAKE.key (oBnk d r b), BNK_STAT_PWR.key (oBnk d r b)] s u) ∧
  (∀ (s : State) (d : Fin 12) (r : Fin 32) (b : Fin 64), s.rdi BNK_STAT_PWR (oBnk d r b) = 1 → ∃ u, exec (.bankPowerTransitionDone d r b) s = .next (pump u) ∧
    u.rdi BNK_STAT_PWR (oBnk d r b) = 2 ∧ SameRegsBut [BNK_STAT_PWR.key (oBnk d r b)] s u ∧ SameMem s u) ∧
  (∀ (s : State) (d : Fin 12) (r : Fin 32) (b : Fin 64), s.rdi BNK_STAT_PWR (oBnk d r b) = 3 → ∃ u, exec (.bankPowerTransitionDone d r b) s = .next (pump u) ∧
    u.rdi BNK_STAT_PWR (oBnk d r b) = 0 ∧ SameRegsBut [BNK_STAT_PWR.key (oBnk d r b)] s u ∧ SameMem s u) ∧
  (∀ (s : State) (d : Fin 12) (r : Fin 32) (b : Fin 64) (errs : List (Nat × Nat)), s.rdi FDC_RSTAT_LOADED (oReg d r) ≠ 0 → bit (s.rd COB_CTL_EN) 1 ≠ 0 →
    s.rdi BNK_STAT_PWR (oBnk d r b) = 2 → Yields (exec (.bankScrubWake d r b errs) s) fun t =>
      t.rdi BNK_STAT_PWR (oBnk d r b) = 3 ∧ (t.bank (bix d r b)).scrubWake = true ∧ SameRegsBut [BNK_STAT_PWR.key (oBnk d r b)] s t ∧ SameMem s t) ∧
  (∀ (s : State) (d : Fin 12) (r : Fin 32) (v : BitVec 32), s.dieUp d = true → Yields (exec (.awlMemoryPowerWrite d r v) s) fun t =>
    t.rdi FDC_AWLMEM_XRET (oReg d r) = bit v.toNat 0 ∧ t.rdi FDC_AWLMEM_YRET (oReg d r) = bit v.toNat 1 ∧
      (∀ y : Bool, t.rdi (awlMemState y) (oReg d r) = (let p := s.rdi (awlMemState y) (oReg d r)
        if bit v.toNat y.toNat = 1 then (if p = 0 then 2 else p) else (if p = 2 then 3 else p))) ∧ SameMem s t) ∧
  (∀ (s : State) (d : Fin 12) (r : Fin 32) (y : Bool), s.rdi (awlMemState y) (oReg d r) = 3 → ∃ u, exec (.awlMemoryWakeDone d r y) s = .next (pump u) ∧
    u.rdi (awlMemState y) (oReg d r) = 0 ∧ SameRegsBut [(awlMemState y).key (oReg d r)] s u ∧ SameMem s u) ∧
  (∀ (s : State) (g : Fin 64) (v : BitVec 32), bits v.toNat 0 2 = 1 ∨ bits v.toNat 0 2 = 2 → segInUse s g = true → Yields (exec (.lastStoreSegmentPower g v) s) fun t =>
    t.rdi PWR_LSSEG_STATUS (4 * g) = ST_MEM_INUSE ∧ SameRegsBut [PWR_LSSEG_STATUS.key (4 * g), PWR_LSSEG_AUTOWAKE.key (4 * g)] s t ∧ SameMem s t) ∧
  (∀ (s : State) (g : Fin 64) (v : BitVec 32), segInUse s g = false → s.rdi PWR_LSSEG_STATE (4 * g) = 0 →
    ∃ u, exec (.lastStoreSegmentPower g v) s = .next (pump u) ∧ u.rdi PWR_LSSEG_REQ (4 * g) = bits v.toNat 0 2 ∧ u.rdi PWR_LSSEG_STATUS (4 * g) = 0 ∧
      u.rdi PWR_LSSEG_STATE (4 * g) = bits v.toNat 0 2 % 3 ∧
      (bits v.toNat 0 2 = 2 → ∀ a, lastBase + g * 0x80000 ≤ a → a < lastBase + (g + 1) * 0x80000 → u.rdByte a = 0) ∧
      (bits v.toNat 0 2 ≠ 2 → SameMem s u)) ∧
  (∀ (s : State) (v : BitVec 32), s.rd PWR_VAULT_STATE = 0 → ∃ u, exec (.vaultPowerWrite true v) s = .next (pump u) ∧ u.rd PWR_VAULT_REQ = bits v.toNat 0 2 ∧
    u.rd PWR_VAULT_STATE = bits v.toNat 0 2 % 3 ∧ (bits v.toNat 0 2 = 2 → ∀ a, vaultBase ≤ a → a < vaultBase + 0x100000 → u.rdByte a = 0)) ∧
  (∀ (s : State) (v : BitVec 32), exec (.vaultPowerWrite false v) s = .next s) ∧
  (∀ (s : State) (u : Fin 65), unitState s u = 3 → ∃ t, exec (.memoryWakeDone u) s = .next (pump t) ∧ unitState t u = 0 ∧ SameMem s t) ∧
  (∀ (s : State) (d : Fin 12) (n : Nat), (s.die d).wiping = some n → s.clocks.elapsed ≤ n + 5000 → Yields (exec (.wipeConfirmTimeout d) s) fun t =>
    t.dieUp d = false ∧ t.rdi GLB_DIESTAT_STATE (4 * d) = 3 ∧ t.rdi GLB_DIESTAT_REASON (4 * d) = ST_HW_DIE_SILENT ∧ (t.die d).wiping = none)

/-! Loads, the configuration controller and captures (spec/11, spec/02) -/

/-- Cold load (R304 to R308).  A load that its checks 1 to 9 let pass is in phase 2 with BUSY 1; one asked for in HOLD, RUN or SHIFT
completes with ST_CFG_STATE.  A chunk that check 10 passes is counted; one that it refuses ends the load with its status and
nothing written.  A port writes its frames; a frame that does not read back clean enters SAFE.  With the frames written and no
group below its target, the contents are in place and the service changes to normal before HOLD.
CFG_ABORT (R308), which BUSY does not hold off: before frames are written the load completes with ST_CFG_ABORTED; later, and with no load, the
status is ST_CFG_STATE and the load goes on.
Beside the spec it rests on the model's choices of notes/assumptions/5.md, notes/assumptions/8.md, notes/assumptions/11.md, notes/assumptions/40.md. -/
def Obligations.ColdLoad : Prop :=
  ((∀ (s : State) (img i : Image), MayGo s CFG_CMD_BUSY → s.mode = LOAD → s.rd GLB_PKG_PROTO ≠ 0 → s.rd CFG_ARG0_VALUE ≤ 12 → channelFailed s = false →
    sourceImage s (s.rd CFG_ARG0_VALUE) img = some i → headCheck s i = none → dieCheck s i = none → i.dramTop ≤ dramBytes s → i.delta = false →
    eyeCheck s i = none → manifestRule s i = none → Yields (exec (.coldLoad img) s) fun t =>
      t.mode = LOAD ∧ t.rd CFG_STAT_PHASE = 2 ∧ t.rd CFG_CMD_BUSY = 1 ∧ t.rd CFG_CMD_OP = 1 ∧ t.rd CFG_BOOT_LAST = s.rd CFG_ARG0_VALUE ∧
      t.cfg.load = some { img := i, src := s.rd CFG_ARG0_VALUE } ∧ SameMem s t) ∧
  (∀ (s : State) (img : Image), MayGo s CFG_CMD_BUSY → s.mode = HOLD ∨ s.mode = RUN ∨ s.mode = SHIFT → Yields (exec (.coldLoad img) s) fun t =>
    Ends t CFG_CMD_STATUS CFG_CMD_BUSY ST_CFG_STATE ∧ t.mode = s.mode ∧ t.cfg = s.cfg ∧ SameMem s t ∧
      SameRegsBut [CFG_CMD_OP.key 0, CFG_CMD_STATUS.key 0, CFG_CMD_BUSY.key 0] s t) ∧
  (∀ (s : State) (l : Load), s.cfg.load = some l → s.rd CFG_STAT_PHASE = 2 → chunkCheck l.img l.chunks = none → l.chunks + 1 < l.img.nchunk →
    Yields (exec .imageChunkArrival s) fun t => t.cfg.load = some { l with chunks := l.chunks + 1 } ∧ SameMem s t ∧ SameRegsBut [] s t) ∧
  (∀ (s : State) (l : Load) (r : Nat × Nat × Nat × Nat), s.cfg.load = some l → s.rd CFG_STAT_PHASE = 2 → l.auto = false → chunkCheck l.img l.chunks = some r →
    Yields (exec .imageChunkArrival s) fun t => t.cfg.load = none ∧ t.rd CFG_STAT_PHASE = 0 ∧ Ends t CFG_CMD_STATUS CFG_CMD_BUSY (r.1 % 2 ^ 16) ∧
      t.rd CFG_RESULT_STATUS = r.1 % 2 ^ 16 ∧ t.cfg.data = s.cfg.data ∧ SameMem s t) ∧
  (∀ (s : State) (l : Load) (d : Fin 13) (n : Nat), s.cfg.load = some l → s.rd CFG_STAT_PHASE = 3 → (loadPorts l.img).contains d.val = true →
    (∃ e, e ∈ loadPorts l.img ∧ e ≠ d.val ∧ tabGet 0 l.next e ≠ portFrames e) → Yields (exec (.frameWriteReadback d n true) s) fun t =>
      t.cfg.load = some { l with next := tabSet 0 l.next d (min (tabGet 0 l.next d + n) (portFrames d)) } ∧ t.rd CFG_STAT_PHASE = 3 ∧ t.mode = s.mode) ∧
  (∀ (s : State) (l : Load) (d : Fin 13) (n : Nat), s.cfg.load = some l → s.rd CFG_STAT_PHASE = 3 → (loadPorts l.img).contains d.val = true →
    s.mode ≠ DORMANT → Yields (exec (.frameWriteReadback d n false) s) fun t => t.mode = SAFE) ∧
  (∀ (s : State) (l : Load), s.cfg.load = some l → s.rd CFG_STAT_PHASE = 4 → s.welt.after = none → (∀ g, g < 12 → s.rdi GEAR_STAT_PHASE (4 * g) = 0) →
    Yields (exec .loadContentsDone s) fun t => t.rd WLT_SVC_STATE = 2 ∧ t.welt.svcTo = some 3 ∧ t.welt.after = some HOLD ∧ t.mode = s.mode)) ∧
  ((∀ (s : State) (l : Load), s.cfg.load = some l → s.rd CFG_STAT_PHASE = 1 ∨ s.rd CFG_STAT_PHASE = 2 → Yields (exec .cfgAbort s) fun t =>
    t.cfg.load = none ∧ t.rd CFG_STAT_PHASE = 0 ∧ Ends t CFG_CMD_STATUS CFG_CMD_BUSY ST_CFG_ABORTED ∧ t.mode = s.mode ∧ SameMem s t) ∧
  (∀ (s : State) (l : Load), s.cfg.load = some l → s.rd CFG_STAT_PHASE ≠ 1 → s.rd CFG_STAT_PHASE ≠ 2 → Yields (exec .cfgAbort s) fun t =>
    t.cfg = s.cfg ∧ t.rd CFG_CMD_STATUS = ST_CFG_STATE ∧ SameMem s t ∧ SameRegsBut [CFG_CMD_OP.key 0, CFG_CMD_STATUS.key 0] s t) ∧
  (∀ s : State, s.cfg.load = none → s.cfg.pendLoad = none → Yields (exec .cfgAbort s) fun t =>
    t.cfg = s.cfg ∧ t.rd CFG_CMD_STATUS = ST_CFG_STATE ∧ SameMem s t ∧ SameRegsBut [CFG_CMD_OP.key 0, CFG_CMD_STATUS.key 0] s t))

/-- The controller's work on frames (R310 to R313).  A verification that finds nothing ends with 0, and one that finds a bad frame with
ST_INT_FRAMECRC and the lowest one's ID.  A readback of frames without errors stores their 2,048 bytes at each 2,064 of the
destination and no byte outside it.  A raw write in HOLD puts 2,048 bytes from memory in each frame of the active plane.
Beside the spec it rests on the model's choices of notes/assumptions/8.md, notes/assumptions/11.md, notes/assumptions/40.md. -/
def Obligations.FrameCommands : Prop :=
  (∀ s : State, MayGo s CFG_CMD_BUSY → s.mode ≠ DORMANT → s.rd CFG_ARG0_VALUE ≠ 0 → s.rd CFG_ARG0_VALUE < 4 → s.rd CFG_ARG1_VALUE < 2 ^ 13 →
    (∀ d r, verifyBad s d r = []) → Yields (exec .cfgVerify s) fun t => Ends t CFG_CMD_STATUS CFG_CMD_BUSY 0 ∧ t.cfg.data = s.cfg.data ∧ SameMem s t ∧
      SameRegsBut [CFG_CMD_OP.key 0, CFG_CMD_STATUS.key 0, CFG_CMD_BUSY.key 0] s t) ∧
  (∀ (s : State) (d f : Nat), MayGo s CFG_CMD_BUSY → s.mode ≠ DORMANT → s.rd CFG_ARG0_VALUE = 1 → s.rd CFG_ARG1_VALUE = 2 ^ d → d < 13 → f < 2 ^ 19 →
    f ∈ verifyBad s d 0 → (∀ g, g ∈ verifyBad s d 0 → f ≤ g) → Yields (exec .cfgVerify s) fun t => Ends t CFG_CMD_STATUS CFG_CMD_BUSY ST_INT_FRAMECRC ∧
      t.rd CFG_RESLOC_KIND = 1 ∧ t.rd CFG_RESLOC_VALUE = f ∧ t.cfg.data = s.cfg.data ∧ SameMem s t) ∧
  (∀ s : State, MayGo s CFG_CMD_BUSY → s.mode ≠ DORMANT → s.rd CFG_ARG0_VALUE = 0 ∨ 4 ≤ s.rd CFG_ARG0_VALUE ∨ 2 ^ 13 ≤ s.rd CFG_ARG1_VALUE →
    Yields (exec .cfgVerify s) fun t => Ends t CFG_CMD_STATUS CFG_CMD_BUSY ST_CFG_BADCMD ∧ t.cfg = s.cfg ∧ SameMem s t) ∧
  (∀ (s : State) (first count role dst : Nat), MayGo s CFG_CMD_BUSY → HOLD ≤ s.mode → s.rd CFG_ARG0_VALUE = role → role < 2 →
    bits (s.rd CFG_ARG1_VALUE) 0 19 = first → bits (s.rd CFG_ARG1_VALUE) 19 13 + 1 = count → first + count ≤ 524288 →
    s.rd CFG_ARG2_VALUE + s.rd CFG_ARG3_VALUE % 2 ^ 16 * 2 ^ 32 = dst → cfgDest s dst (2064 * count) = true →
    (∀ k, k < count → frameNorb s (first + k) (planeOf s (first + k) role) = false ∧ frameMark s (first + k) (planeOf s (first + k) role) = 0) →
    (∀ c, c < 8 → (s.chan c).wq = []) → Yields (exec .cfgReadback s) fun t => Ends t CFG_CMD_STATUS CFG_CMD_BUSY 0 ∧
      (∀ k j, k < count → j < 2048 → t.rdByte (dst + 2064 * k + j) = frameData s (first + k) (planeOf s (first + k) role) / 256 ^ j % 256) ∧
      SameMemOutside dst (2064 * count) s t ∧ t.cfg = s.cfg ∧ SameRegsBut [CFG_CMD_OP.key 0, CFG_CMD_STATUS.key 0, CFG_CMD_BUSY.key 0] s t) ∧
  (∀ s : State, MayGo s CFG_CMD_BUSY → s.mode < HOLD → Yields (exec .cfgReadback s) fun t => Ends t CFG_CMD_STATUS CFG_CMD_BUSY ST_CFG_STATE ∧ SameMem s t) ∧
  (∀ (s : State) (bad : List Nat) (first count src : Nat), MayGo s CFG_CMD_BUSY → s.mode = HOLD → s.rd SEC_STAT_LC = 1 → s.rd CFG_ARG0_VALUE = first →
    s.rd CFG_ARG1_VALUE = count → count ≠ 0 → count ≤ 40960 → first + count ≤ 524288 → s.rd CFG_ARG2_VALUE + s.rd CFG_ARG3_VALUE % 2 ^ 16 * 2 ^ 32 = src →
    cfgDest s src (2048 * count) = true → s.PlanesOk → Yields (exec (.cfgRawWrite bad []) s) fun t => Ends t CFG_CMD_STATUS CFG_CMD_BUSY 0 ∧
      (∀ k, k < count → frameData t (first + k) (activeOf s (frameUnit (first + k))) = s.rdMem 2048 (src + 2048 * k)) ∧ t.regions = s.regions ∧ SameMem s t) ∧
  (∀ (s : State) (bad : List Nat) (regs : Tab RegCfg), MayGo s CFG_CMD_BUSY → s.mode ≠ HOLD → Yields (exec (.cfgRawWrite bad regs) s) fun t =>
    Ends t CFG_CMD_STATUS CFG_CMD_BUSY ST_CFG_STATE ∧ t.cfg = s.cfg ∧ SameMem s t)

/-- Captures (R314, R315).  The command sets CAPPEND in every region that its masks name, or, where one cannot be captured, ends with
that status and starts none.  The read-out of a completed capture stores the eleven frames of the latches and no other byte; of one
not completed it ends with ST_CFG_STATE.
Beside the spec it rests on the model's choices of notes/assumptions/11.md, notes/assumptions/40.md. -/
def Obligations.Captures : Prop :=
  (∀ s : State, s.rd CFG_CAPCMD_BUSY ≠ 1 → capRefusal (s.rd CFG_CAPCMD_DIEMASK) (s.rd CFG_CAPMASK_MASK) s = 0 → Yields (exec .captureCommand s) fun t =>
    t.rd CFG_CAPCMD_STATUS = 0 ∧ (∀ d r, d < 12 → r < 32 → bit (s.rd CFG_CAPCMD_DIEMASK) d = 1 → bit (s.rd CFG_CAPMASK_MASK) r = 1 →
      t.rdi FDC_RSTAT_CAPPEND (oReg d r) = 1 ∧ (t.region (rix d r)).latchValid = false ∧ (t.region (rix d r)).ff = (s.region (rix d r)).ff) ∧ SameMem s t) ∧
  (∀ s : State, s.rd CFG_CAPCMD_BUSY ≠ 1 → capRefusal (s.rd CFG_CAPCMD_DIEMASK) (s.rd CFG_CAPMASK_MASK) s ≠ 0 → Yields (exec .captureCommand s) fun t =>
    t.rd CFG_CAPCMD_STATUS = capRefusal (s.rd CFG_CAPCMD_DIEMASK) (s.rd CFG_CAPMASK_MASK) s ∧ t.regions = s.regions ∧ SameMem s t ∧
      SameRegsBut [CFG_CAPCMD_STATUS.key 0] s t) ∧
  (∀ (s : State) (d r dst : Nat), MayGo s CFG_CMD_BUSY → s.rd CFG_ARG0_VALUE = d → s.rd CFG_ARG1_VALUE = r → d < 12 → r < 32 →
    s.rd CFG_ARG2_VALUE + s.rd CFG_ARG3_VALUE % 2 ^ 16 * 2 ^ 32 = dst → cfgDest s dst (11 * 2048) = true → s.rdi FDC_RSTAT_CAPDONE (oReg d r) ≠ 0 →
    (unitSt s (unitReg d r) (activeOf s (unitReg d r))).norb = false → (∀ c, c < 8 → (s.chan c).wq = []) → Yields (exec .cfgCaptureReadout s) fun t =>
      Ends t CFG_CMD_STATUS CFG_CMD_BUSY 0 ∧
      (∀ k j, k < 11 → j < 2048 → t.rdByte (dst + 2048 * k + j) = captureFrame (s.region (rix d r)) k / 256 ^ j % 256) ∧ SameMemOutside dst 22528 s t ∧
      t.regions = s.regions) ∧
  (∀ (s : State) (d r : Nat), MayGo s CFG_CMD_BUSY → s.rd CFG_ARG0_VALUE = d → s.rd CFG_ARG1_VALUE = r → d < 12 → r < 32 →
    cfgDest s (s.rd CFG_ARG2_VALUE + s.rd CFG_ARG3_VALUE % 2 ^ 16 * 2 ^ 32) (11 * 2048) = true → s.rdi FDC_RSTAT_CAPDONE (oReg d r) = 0 →
    Yields (exec .cfgCaptureReadout s) fun t => Ends t CFG_CMD_STATUS CFG_CMD_BUSY ST_CFG_STATE ∧ SameMem s t ∧ t.regions = s.regions)

/-- The managed flash and the staging area (R302, R303).  A whole image is stored in its slot, whose VALID and flags follow; an empty slot has no
flags to set; EMPTY clears the slot.  The staging area moves to a place that memory holds and nothing uses, and elsewhere the write sets STGIGN alone.
Beside the spec it rests on the model's choices of notes/assumptions/8.md, notes/assumptions/11.md. -/
def Obligations.ManagedFlash : Prop :=
  (∀ (s : State) (img : Image) (n : Nat), MayGo s CFG_CMD_BUSY → s.mode ≠ DORMANT → s.rd CFG_ARG0_VALUE = n → 0 < n → n ≤ 12 → s.rd PWR_STAT_NVINH = 0 →
    s.rd PWR_STAT_MAINS ≠ 0 → headCheck s img = none → Yields (exec (.cfgFlashWrite img) s) fun t => Ends t CFG_CMD_STATUS CFG_CMD_BUSY 0 ∧
      tabGet none t.cfg.flash n = some img ∧ (∀ k, k ≠ n → tabGet none t.cfg.flash k = tabGet none s.cfg.flash k) ∧ bit (t.rd CFG_BOOT_VALID) n = 1 ∧
      (bit (s.rd CFG_ARG1_VALUE) 0 = 1 → t.rd CFG_BOOT_BOOT = n) ∧ (bit (s.rd CFG_ARG1_VALUE) 1 = 1 → t.rd CFG_BOOT_FALLBACK = n) ∧ SameMem s t) ∧
  (∀ (s : State) (img : Image) (n : Nat), MayGo s CFG_CMD_BUSY → s.mode ≠ DORMANT → s.rd CFG_ARG0_VALUE = n → 0 < n → n ≤ 12 →
    s.rd PWR_STAT_NVINH = 1 ∨ s.rd PWR_STAT_MAINS = 0 → Yields (exec (.cfgFlashWrite img) s) fun t => Ends t CFG_CMD_STATUS CFG_CMD_BUSY ST_CFG_NVINH ∧ t.cfg = s.cfg ∧ SameMem s t) ∧
  (∀ (s : State) (n : Nat), MayGo s CFG_CMD_BUSY → s.mode ≠ DORMANT → s.rd CFG_ARG0_VALUE = n → 0 < n → n ≤ 12 → s.rd PWR_STAT_NVINH ≠ 1 →
    bit (s.rd CFG_ARG1_VALUE) 2 = 1 → Yields (exec .cfgFlashDirectory s) fun t => Ends t CFG_CMD_STATUS CFG_CMD_BUSY 0 ∧ tabGet none t.cfg.flash n = none ∧
      bit (t.rd CFG_BOOT_VALID) n = 0 ∧ t.rd CFG_BOOT_BOOT ≠ n ∧ t.rd CFG_BOOT_FALLBACK ≠ n ∧ SameMem s t) ∧
  (∀ (s : State) (n : Nat), MayGo s CFG_CMD_BUSY → s.mode ≠ DORMANT → s.rd CFG_ARG0_VALUE = n → 0 < n → n ≤ 12 → s.rd PWR_STAT_NVINH ≠ 1 →
    bit (s.rd CFG_ARG1_VALUE) 2 ≠ 1 → tabGet none s.cfg.flash n = none → Yields (exec .cfgFlashDirectory s) fun t =>
      Ends t CFG_CMD_STATUS CFG_CMD_BUSY ST_CFG_NOSLOT ∧ t.cfg = s.cfg ∧ SameMem s t) ∧
  (∀ (s : State) (v : BitVec 32), s.rd CFG_CMD_BUSY ≠ 1 → s.rd64 CFG_SIMGL_ID CFG_SIMGH_ID = 0 →
    v.toNat % 256 + s.rd CFG_STGSIZE_SIZE ≤ dramBytes s / 2 ^ 30 → v.toNat % 256 < dramBytes s / 2 ^ 30 →
    stagingHits (v.toNat % 256 * 2 ^ 30) ((v.toNat % 256 + s.rd CFG_STGSIZE_SIZE) * 2 ^ 30) s = false → Yields (exec (.stagingAreaWrite false v) s) fun t =>
      t.rd CFG_STGBASE_BASE = v.toNat % 256 ∧ t.rd CFG_STGSIZE_SIZE = s.rd CFG_STGSIZE_SIZE % 2 ^ CFG_STGSIZE_SIZE.w ∧ SameMem s t ∧
      SameRegsBut [CFG_STGBASE_BASE.key 0, CFG_STGSIZE_SIZE.key 0] s t) ∧
  (∀ (s : State) (size : Bool) (v : BitVec 32), s.rd CFG_CMD_BUSY = 1 → Yields (exec (.stagingAreaWrite size v) s) fun t =>
    t.rd CFG_STAT_STGIGN = 1 ∧ SameMem s t ∧ SameRegsBut [CFG_STAT_STGIGN.key 0] s t)

/-! Eyelets and express channels (spec/05, spec/03, spec/02) -/

/-- Lane repair (R132, R138 to R141, R143 to R146).  Errors of a lane in use below the threshold only count; at it, with something of the ladder left, the
lane waits for repair, and with nothing left the module enters SAFE.  An idle spare with an error is failed, and a retired lane has none.  A spare takes the
lane first detected, and so does a reserve or a retirement where no region clock runs, with the spares used up or turned off, while no other lane waits; in
RUN a reserve's move waits for its swap point, which carries it out.  Group 0 may drop to half width, where a good lane not in use takes a failing one.
Beside the spec it rests on the model's choices of notes/assumptions/5.md, notes/assumptions/20.md. -/
def Obligations.LaneRepair : Prop :=
  (∀ (s : State) (e : Fin 24) (dir : Fin 2) (g : Fin 4) (lane : Fin 88) (n run : Nat), laneInUse (s.eye (gix e dir g)) lane = true → n < max 1 (s.rd EYE_CTL_BERTH) →
    run < 64 → Yields (exec (.laneFailing e dir g lane n run) s) fun t => (t.eye (gix e dir g)).failing = (s.eye (gix e dir g)).failing ∧
      tabGet 0 (t.eye (gix e dir g)).corr lane = min n 0xFFFFF ∧
      t.rdi EYE_CORR_COUNT (oGrp e dir g) = min (s.rdi EYE_CORR_COUNT (oGrp e dir g) + (n - tabGet 0 (s.eye (gix e dir g)).corr lane)) (2 ^ EYE_CORR_COUNT.w - 1) ∧
      (∀ k, k ≠ gix e dir g → t.eye k = s.eye k) ∧ SameRegsBut [EYE_CORR_COUNT.key (oGrp e dir g)] s t ∧ SameMem s t) ∧
  (∀ (s : State) (e : Fin 24) (dir : Fin 2) (g : Fin 4) (lane : Fin 88) (n run : Nat), laneInUse (s.eye (gix e dir g)) lane = true → max 1 (s.rd EYE_CTL_BERTH) ≤ n ∨ 64 ≤ run →
    lane.val ∉ (s.eye (gix e dir g)).failing → lane.val ∉ (s.eye (gix e dir g)).failed → idleSpares (s.eye (gix e dir g)) ≠ [] →
    Yields (exec (.laneFailing e dir g lane n run) s) fun t => (t.eye (gix e dir g)).failing = (s.eye (gix e dir g)).failing ++ [lane.val] ∧
      (∀ k, k ≠ gix e dir g → t.eye k = s.eye k) ∧ t.mode = s.mode ∧ SameMem s t) ∧
  (∀ (s : State) (e : Fin 24) (dir : Fin 2) (lane : Fin 88) (n run : Nat), s.mode ≠ DORMANT → laneInUse (s.eye (gix e dir 0)) lane = true → max 1 (s.rd EYE_CTL_BERTH) ≤ n ∨ 64 ≤ run →
    lane.val ∉ (s.eye (gix e dir 0)).failed → idleSpares (s.eye (gix e dir 0)) = [] →
    (s.eye (gix e dir 0)).half = false → s.rd EYE_CTL_AUTOHALF = 0 → Yields (exec (.laneFailing e dir 0 lane n run) s) fun t => t.mode = SAFE) ∧
  (∀ (s : State) (e : Fin 24) (dir : Fin 2) (g : Fin 4) (lane : Fin 88) (n run : Nat), 84 ≤ lane.val → laneInUse (s.eye (gix e dir g)) lane = false → 0 < n →
    lane.val ∉ (s.eye (gix e dir g)).failed → Yields (exec (.laneFailing e dir g lane n run) s) fun t => lane.val ∈ (t.eye (gix e dir g)).failed ∧
      (t.eye (gix e dir g)).failing = (s.eye (gix e dir g)).failing ∧ (∀ k, k ≠ gix e dir g → t.eye k = s.eye k) ∧ t.mode = s.mode ∧ SameMem s t) ∧
  (∀ (s : State) (e : Fin 24) (dir : Fin 2) (g : Fin 4) (lane : Fin 88) (n run : Nat), laneInUse (s.eye (gix e dir g)) lane = false →
    lane.val < 84 ∨ n = 0 ∨ lane.val ∈ (s.eye (gix e dir g)).failed → exec (.laneFailing e dir g lane n run) s = .next s) ∧
  (∀ (s : State) (e : Fin 24) (dir : Fin 2) (g : Fin 4) (lane : Fin 88), Yields (exec (.laneWindowEnd e dir g lane) s) fun t =>
    tabGet 0 (t.eye (gix e dir g)).corr lane = 0 ∧ (t.eye (gix e dir g)).failing = (s.eye (gix e dir g)).failing ∧
      (∀ k, k ≠ gix e dir g → t.eye k = s.eye k) ∧ SameRegsBut [] s t ∧ SameMem s t) ∧
  (∀ (s : State) (e : Fin 24) (dir : Fin 2) (g : Fin 4) (l sp : Nat) (ls sps : List Nat), (s.eye (gix e dir g)).failing = l :: ls →
    idleSpares (s.eye (gix e dir g)) = sp :: sps → sps ≠ [] ∨ (∀ x ∈ ls, x = l) → s.rd EYE_CTL_AUTOSPARE = 1 → (s.eye (gix e dir g)).swap = none →
    Yields (exec (.laneSpare e dir g) s) fun t =>
      tabGet none (t.eye (gix e dir g)).subst sp = (if l < 84 then some l else tabGet none (s.eye (gix e dir g)).subst l) ∧ l ∈ (t.eye (gix e dir g)).failed ∧
      (t.eye (gix e dir g)).failing = ls.filter (· != l) ∧ (∀ k, k ≠ gix e dir g → t.eye k = s.eye k) ∧ t.mode = s.mode ∧ SameMem s t) ∧
  (∀ (s : State) (e : Fin 24) (dir : Fin 2) (l : Nat) (ls : List Nat), (s.eye (gix e dir 0)).failing = l :: ls → (∀ x ∈ ls, x = l) →
    idleSpares (s.eye (gix e dir 0)) = [] → s.rd EYE_CTL_AUTOSPARE = 1 → (s.eye (gix e dir 0)).half = true → 44 ≤ goodLanes (s.eye (gix e dir 0)) →
    Yields (exec (.laneSpare e dir 0) s) fun t => l ∈ (t.eye (gix e dir 0)).failed ∧ (t.eye (gix e dir 0)).failing = [] ∧
      (∀ k, k ≠ gix e dir 0 → t.eye k = s.eye k) ∧ t.mode = s.mode ∧ SameMem s t) ∧
  (∀ (s : State) (e : Fin 24) (dir : Fin 2) (g : Fin 4) (l r : Nat) (ls rs : List Nat), (s.eye (gix e dir g)).failing = l :: ls → (∀ x ∈ ls, x = l) →
    carriedLane (s.eye (gix e dir g)) l = l → idleReserves (s.eye (gix e dir g)) = r :: rs → idleSpares (s.eye (gix e dir g)) = [] ∨ s.rd EYE_CTL_AUTOSPARE = 0 → g.val ≠ 0 → l < 80 → s.rd EYE_CTL_AUTORSV = 1 → eyeFeature s e 1 = true →
    (s.eye (gix e dir g)).swap = none → Yields (exec (.reserveMove e dir g) s) fun t =>
      (s.mode = RUN → (t.eye (gix e dir g)).swap = some (l, some r, s.clocks.tb + 120000) ∧ (t.eye (gix e dir g)).subst = (s.eye (gix e dir g)).subst) ∧
      (s.mode ≠ RUN → s.mode ≠ SHIFT → tabGet none (t.eye (gix e dir g)).subst r = some l ∧ l ∈ (t.eye (gix e dir g)).retired)) ∧
  (∀ (s : State) (e : Fin 24) (dir : Fin 2) (g : Fin 4) (l at_ : Nat) (dst : Option Nat), (s.eye (gix e dir g)).swap = some (l, dst, at_) →
    (∀ x ∈ (s.eye (gix e dir g)).failing, x = l) → s.rd EYE_CMD_BUSY = 0 → (∀ d, d ∈ eyeDies e → s.rdi GEAR_STAT_PHASE (4 * s.rdi GEAR_DIE_GROUP (4 * d)) = 0) →
    ∃ u, exec (.reserveSwap e dir g) s = .next (gearNextAll u) ∧ (u.eye (gix e dir g)).swap = none ∧ l ∈ (u.eye (gix e dir g)).retired ∧
      (∀ r, dst = some r → tabGet none (u.eye (gix e dir g)).subst r = some l) ∧ (∀ k, k ≠ gix e dir g → u.eye k = s.eye k) ∧ SameMem s u) ∧
  (∀ (s : State) (e : Fin 24) (dir : Fin 2) (g : Fin 4) (l : Nat) (ls : List Nat), (s.eye (gix e dir g)).failing = l :: ls → (∀ x ∈ ls, x = l) →
    (∀ p ∈ (s.eye (gix e dir g)).subst, p.1 ≠ l ∧ p.2 ≠ some l) →
    idleSpares (s.eye (gix e dir g)) = [] ∨ s.rd EYE_CTL_AUTOSPARE = 0 → (s.eye (gix e dir g)).swap = none → s.rd EYE_CTL_AUTORSV = 1 → 80 ≤ l → l < 84 → s.mode ≠ RUN → s.mode ≠ SHIFT →
    Yields (exec (.laneRetire e dir g) s) fun t => l ∈ (t.eye (gix e dir g)).retired ∧ (t.eye (gix e dir g)).subst = (s.eye (gix e dir g)).subst ∧
      (∀ k, k ≠ gix e dir g → t.eye k = s.eye k) ∧ t.mode = s.mode ∧ SameMem s t) ∧
  (∀ (s : State) (e : Fin 24) (dir : Fin 2) (l : Nat) (ls : List Nat), (s.eye (gix e dir 0)).failing = l :: ls → idleSpares (s.eye (gix e dir 0)) = [] ∨ s.rd EYE_CTL_AUTOSPARE = 0 →
    (s.eye (gix e dir 0)).half = false → s.rd EYE_CTL_AUTOHALF = 1 → eyeFeature s e 2 = true → s.rd WLT_SVC_STATE ≠ 3 → Yields (exec (.halfWidthChange e dir) s) fun t =>
      (t.eye (gix e dir 0)).half = true ∧ (t.eye (gix e dir 0)).failing = [] ∧ t.mode = s.mode ∧ SameMem s t)

/-- Training and the errors that no repair answers (R130, R135, R142): an Eyelet still training is FAILED, and a spoke takes its die with it as SILENT.
A word beyond repair counts, and takes the dies to SAFE unless all the signals it carries are tolerant, which then read 0 for the cycle; so does the loss of
a group's clock.
The host's repair commands (R138, R139, R147) spare or move their target, or end with ST_EYE_NOSPARE; an injected error counts in HOLD only. -/
def Obligations.EyeletErrorsAndCommands : Prop :=
  (∀ (s : State) (e : Fin 24), 12 ≤ e.val → s.rdi EYE_STAT_STATE (4 * e) = 1 → Yields (exec (.eyeletTrainingTimeout e) s) fun t =>
    t.rdi EYE_STAT_STATE (4 * e) = 4 ∧ t.rdi EYE_STAT_REASON (4 * e) = ST_HW_EYE_TRAIN ∧ t.mode = s.mode ∧ SameMem s t) ∧
  (∀ (s : State) (e : Fin 24), e.val < 12 → s.rdi EYE_STAT_STATE (4 * e) = 1 → Yields (exec (.eyeletTrainingTimeout e) s) fun t =>
    t.dieUp e = false ∧ t.rdi GLB_DIESTAT_STATE (4 * e) = 3 ∧ t.rdi GLB_DIESTAT_REASON (4 * e) = ST_HW_DIE_SILENT ∧ t.mode = s.mode) ∧
  (∀ (s : State) (e : Fin 24) (dir : Fin 2) (g : Fin 4) (word : Fin 2), g.val ≠ 0 → wordTolerant s e dir g word = true → Yields (exec (.eyeletUncorrectable e dir g word) s) fun t =>
    (∀ sig, sig < xSignals e → tabGet 0 t.express.fly (xix e dir sig) = (if inWord e g word sig = true then 0 else tabGet 0 s.express.fly (xix e dir sig))) ∧
    t.express.launch = s.express.launch ∧ t.express.land = s.express.land ∧
    t.rdi EYE_UNC_COUNT (oGrp e dir g) = min (s.rdi EYE_UNC_COUNT (oGrp e dir g) + 1) (2 ^ EYE_UNC_COUNT.w - 1) ∧
      SameRegsBut [EYE_UNC_COUNT.key (oGrp e dir g)] s t ∧ SameMem s t) ∧
  (∀ (s : State) (e : Fin 24) (dir : Fin 2) (g : Fin 4) (word : Fin 2), s.mode ≠ DORMANT → g.val = 0 ∨ wordTolerant s e dir g word = false →
    Yields (exec (.eyeletUncorrectable e dir g word) s) fun t => t.mode = SAFE ∧ e.val ∈ t.modes.safeEyelets) ∧
  (∀ (s : State) (e : Fin 24) (dir : Fin 2) (g : Fin 4), s.mode ≠ DORMANT → Yields (exec (.eyeletClockLaneLoss e dir g) s) fun t =>
    t.mode = SAFE ∧ e.val ∈ t.modes.safeEyelets) ∧
  (∀ (s : State) (e dir g l sp : Nat) (sps : List Nat), s.rd EYE_CMD_BUSY = 0 → eyeTarget s = (e, dir, g, l) → e < 24 → dir < 2 → g < 4 → l < 84 →
    (s.eye (gix e dir g)).swap = none → idleSpares (s.eye (gix e dir g)) = sp :: sps → Yields (exec .eyeCmdSpare s) fun t => Ends t EYE_CMD_STATUS EYE_CMD_BUSY 0 ∧
      tabGet none (t.eye (gix e dir g)).subst sp = some l ∧ l ∈ (t.eye (gix e dir g)).failed ∧ (∀ k, k ≠ gix e dir g → t.eye k = s.eye k) ∧ SameMem s t) ∧
  (∀ (s : State) (e dir g l : Nat), s.rd EYE_CMD_BUSY = 0 → eyeTarget s = (e, dir, g, l) → e < 24 → dir < 2 → g < 4 → l < 84 → (s.eye (gix e dir g)).swap = none →
    idleSpares (s.eye (gix e dir g)) = [] → Yields (exec .eyeCmdSpare s) fun t => Ends t EYE_CMD_STATUS EYE_CMD_BUSY ST_EYE_NOSPARE ∧ t.eyes = s.eyes ∧ SameMem s t) ∧
  (∀ (s : State) (e dir g l r : Nat) (rs : List Nat), s.rd EYE_CMD_BUSY = 0 → eyeTarget s = (e, dir, g, l) → e < 24 → dir < 2 → g < 4 → l < 80 → g ≠ 0 → s.mode ≠ RUN → s.mode ≠ SHIFT →
    (s.eye (gix e dir g)).swap = none → freeReserves s e (s.eye (gix e dir g)) = r :: rs → Yields (exec .eyeCmdMove s) fun t => Ends t EYE_CMD_STATUS EYE_CMD_BUSY 0 ∧
      tabGet none (t.eye (gix e dir g)).subst r = some l ∧ l ∈ (t.eye (gix e dir g)).retired ∧ (∀ k, k ≠ gix e dir g → t.eye k = s.eye k) ∧ SameMem s t) ∧
  (∀ (s : State) (e dir g l : Nat), s.rd EYE_CMD_BUSY = 0 → eyeTarget s = (e, dir, g, l) → e < 24 → dir < 2 → g < 4 → l < 84 → s.mode = HOLD →
    l ∉ (s.eye (gix e dir g)).retired → tabGet 0 (s.eye (gix e dir g)).corr l + 1 < max 1 (s.rd EYE_CTL_BERTH) → Yields (exec .eyeCmdInject s) fun t => Ends t EYE_CMD_STATUS EYE_CMD_BUSY 0 ∧
      tabGet 0 (t.eye (gix e dir g)).corr l = min (tabGet 0 (s.eye (gix e dir g)).corr l + 1) 0xFFFFF ∧ (t.eye (gix e dir g)).failing = (s.eye (gix e dir g)).failing ∧
      t.rdi EYE_CORR_COUNT (oGrp e dir g) = min (s.rdi EYE_CORR_COUNT (oGrp e dir g) + 1) (2 ^ EYE_CORR_COUNT.w - 1) ∧ SameMem s t ∧
      SameRegsBut [EYE_CMD_OP.key 0, EYE_CMD_STATUS.key 0, EYE_CMD_BUSY.key 0, EYE_CORR_COUNT.key (oGrp e dir g)] s t) ∧
  (∀ (s : State) (e dir g l : Nat), s.rd EYE_CMD_BUSY = 0 → eyeTarget s = (e, dir, g, l) → e < 24 → dir < 2 → g < 4 → l < 84 → s.mode = HOLD →
    l ∉ (s.eye (gix e dir g)).retired → max 1 (s.rd EYE_CTL_BERTH) ≤ tabGet 0 (s.eye (gix e dir g)).corr l + 1 → l ∉ (s.eye (gix e dir g)).failing → l ∉ (s.eye (gix e dir g)).failed →
    idleSpares (s.eye (gix e dir g)) ≠ [] → Yields (exec .eyeCmdInject s) fun t => Ends t EYE_CMD_STATUS EYE_CMD_BUSY 0 ∧
      (t.eye (gix e dir g)).failing = (s.eye (gix e dir g)).failing ++ [l] ∧ (∀ k, k ≠ gix e dir g → t.eye k = s.eye k) ∧ t.mode = s.mode ∧ SameMem s t) ∧
  (∀ (s : State) (e dir g l : Nat), s.rd EYE_CMD_BUSY = 0 → eyeTarget s = (e, dir, g, l) → e < 24 → l < 84 → s.mode = HOLD →
    l ∈ (s.eye (gix e dir g)).retired → Yields (exec .eyeCmdInject s) fun t => Ends t EYE_CMD_STATUS EYE_CMD_BUSY 0 ∧ t.eyes = s.eyes ∧ SameMem s t) ∧
  (∀ s : State, s.rd EYE_CMD_BUSY = 0 → s.mode ≠ HOLD → Yields (exec .eyeCmdInject s) fun t => Ends t EYE_CMD_STATUS EYE_CMD_BUSY ST_EYE_NOTHOLD ∧ t.eyes = s.eyes ∧
    SameMem s t ∧ SameRegsBut [EYE_CMD_OP.key 0, EYE_CMD_STATUS.key 0, EYE_CMD_BUSY.key 0] s t)

/-- An edge of a gear group's express clock (R83, R85, R88), for the channels it clocks and for those it does not: what was launched is one stage on, what was
in flight has landed where the channel is live, and a channel of another group keeps all three registers.  A fabric die's launch registers
that no pass-through or cross-connect drives take what the fabric presents.
A rising edge of a regional network (R43, R45 to R47), for a design that lists each cell once: every cell on the network takes what its inputs
presented before the edge, every other cell and the captured values stay, and a network that does not run has no edge.  An edge of
a spine global clock moves its spine latches alone.  A product block on the network (R54, R56, R57) takes its initial values under its reset; one
in FULL mode that accumulates adds the product behind MREG to P modulo 2^60, OVF telling an exact sum outside 60 signed bits; one on another
network stays. -/
def Obligations.ClockEdges : Prop :=
  ((∀ (s : State) (g : Fin 12) (ones : List Nat) (x : Nat), s.rdi GEAR_STAT_GEAR (4 * g) ≠ 0 → Tab.Rising s.express.launch → Tab.Rising s.express.fly →
    Tab.Rising s.express.land → xGroup s x = g.val → Yields (exec (.expressClockEdge g ones) s) fun t =>
      tabGet 0 t.express.fly x = tabGet 0 s.express.launch x ∧
      tabGet 0 t.express.land x = (if xLive s x then tabGet 0 s.express.fly x else 0) ∧ (t.gear g).count = (s.gear g).count + 1 ∧
      ((∀ p ∈ (if s.express.plane = 0 then s.express.cfg0 else s.express.cfg1).pass, p.1 ≠ x) →
        (∀ p ∈ (if s.express.plane = 0 then s.express.cfg0 else s.express.cfg1).xc, p.1 ≠ x) → (xSender x).isSome = true → x < 230400 → tabGet 0 t.express.launch x = (ones.contains x).toNat) ∧ SameRegsBut [] s t ∧ SameMem s t) ∧
  (∀ (s : State) (g : Fin 12) (ones : List Nat) (x : Nat), xGroup s x ≠ g.val → Yields (exec (.expressClockEdge g ones) s) fun t =>
    tabGet 0 t.express.fly x = tabGet 0 s.express.fly x ∧ tabGet 0 t.express.land x = tabGet 0 s.express.land x ∧
      tabGet 0 t.express.launch x = tabGet 0 s.express.launch x)) ∧
  ((∀ (s : State) (d : Fin 12) (r : Fin 32) (clock : Fin 20) (ext : List Nat) (pads : BitVec 32) (idle : Bool), s.dieUp d = true → clock.val < 4 →
    bit (s.rdi FDC_RSTAT_CLKRUN (oReg d r)) clock = 1 → Tab.Rising (s.region (rix d r)).design.cells →
    Yields (exec (.regionalClockEdge d r clock ext pads idle) s) fun t =>
      (∀ c g, (c, g) ∈ (s.region (rix d r)).design.cells → tabGet 0 (t.region (rix d r)).ff c =
        (if g.net = clock.val then (cellEdge ⟨(s.region (rix d r)).design, (s.region (rix d r)).ff, (s.region (rix d r)).prod, ext⟩
          (tabGet 0 (s.region (rix d r)).rel c) c g).1 else tabGet 0 (s.region (rix d r)).ff c)) ∧
      (∀ c g v, (c, g) ∈ (s.region (rix d r)).design.cells → g.net = clock.val → tabGet 0 (s.region (rix d r)).rel c = 0 →
        v = (⟨(s.region (rix d r)).design, (s.region (rix d r)).ff, (s.region (rix d r)).prod, ext⟩ : View) → tabGet 0 (t.region (rix d r)).ff c =
          (if v.get g.sr = g.srHigh then g.srvalA.toNat + 2 * g.srvalB.toNat
          else if v.get g.ce = true then (cellD v c g 0).toNat + 2 * (cellD v c g 1).toNat else tabGet 0 (s.region (rix d r)).ff c)) ∧
      (t.region (rix d r)).latchFf = (s.region (rix d r)).latchFf ∧ (∀ k, k ≠ rix d r → t.region k = s.region k) ∧ SameRegsBut [] s t ∧ SameMem s t) ∧
  (∀ (s : State) (d : Fin 12) (r : Fin 32) (clock : Fin 20) (ext : List Nat) (pads : BitVec 32) (idle : Bool), clock.val < 4 →
    bit (s.rdi FDC_RSTAT_CLKRUN (oReg d r)) clock = 0 → exec (.regionalClockEdge d r clock ext pads idle) s = .next s) ∧
  (∀ (s : State) (d : Fin 12) (r : Fin 32) (clock : Fin 20) (ext : List Nat) (pads : BitVec 32) (idle : Bool), s.dieUp d = true → 4 ≤ clock.val →
    s.rdi GEAR_DIE_GEAR (4 * d) ≠ 0 → Yields (exec (.regionalClockEdge d r clock ext pads idle) s) fun t =>
      (t.region (rix d r)).ff = (s.region (rix d r)).ff ∧ (t.region (rix d r)).prod = (s.region (rix d r)).prod ∧ t.pins = s.pins ∧ SameRegsBut [] s t ∧ SameMem s t) ∧
  (∀ (s : State) (d : Fin 12) (r : Fin 32) (clock : Fin 20) (ext : List Nat) (pads : BitVec 32) (idle : Bool), s.dieUp d = true → clock.val < 4 →
    bit (s.rdi FDC_RSTAT_CLKRUN (oReg d r)) clock = 1 → Tab.Rising (s.region (rix d r)).design.prods →
    Yields (exec (.regionalClockEdge d r clock ext pads idle) s) fun t =>
      ∀ b g x y, (b, g) ∈ (s.region (rix d r)).design.prods → x = tabGet {} (s.region (rix d r)).prod b → y = tabGet {} (t.region (rix d r)).prod b →
        (g.net ≠ clock.val → y = x) ∧ (g.net = clock.val → g.rst = .const true → y = g.init) ∧
        (g.net = clock.val → g.rst = .const false → g.ce = [] → g.mode = 0 → g.mreg = true → g.dynOp = false → g.op = 1 → g.sat = false →
          y.p = (((x.p : Int) + x.m) % 2 ^ 60).toNat ∧
          (y.ovf = true ↔ asInt true 60 x.p + x.m < -(2 ^ 59) ∨ 2 ^ 59 ≤ asInt true 60 x.p + x.m))))


/-! Welt (spec/06, spec/07) -/

/-- Injection of a request of any op (R161 to R163, R174, R622).  While the service mode is DOWN or CHANGING it waits at its port.  A request that its port's
checks refuse completes at once with ERR and the status, is logged and counted, and no tag is outstanding for it.  A request of an endpoint
that cannot present one has no effect.
Beside the spec it rests on the model's choices of notes/assumptions/35.md. -/
def Obligations.WeltInjection : Prop :=
  (∀ x ∈ reqRows, ∀ (s : State) (q : Req), canSend s q.src = true → portsClosed s = true → ∃ u, exec (x.2 q) s = .next (settle (pump u)) ∧
    u.welt.wait = s.welt.wait ++ [{ q with op := x.1 }] ∧ u.welt.out = s.welt.out ∧ SameRegsBut [] s u ∧ SameMem s u) ∧
  (∀ x ∈ reqRows, ∀ (s : State) (q : Req) (st : Nat), canSend s q.src = true → portsClosed s = false → PlainPort q.src →
    (∀ w ∈ s.welt.wait, w.src ≠ q.src ∨ w.cls ≠ q.cls) → injectCheck s { q with op := x.1 } = .inl st → ∃ u, exec (x.2 q) s = .next (settle (pump u)) ∧
      tabGet {} u.welt.comp q.src = ⟨q.tag, ERR, st, 0⟩ ∧ u.welt.out = s.welt.out ∧ u.welt.wait = s.welt.wait ∧
      u.rd WLT_ERRCNT_COUNT = min (s.rd WLT_ERRCNT_COUNT + 1) (2 ^ WLT_ERRCNT_COUNT.w - 1) ∧ SameRegsBut [WLT_ERRCNT_COUNT.key 0] s u ∧ SameMem s u) ∧
  (∀ x ∈ reqRows, ∀ (s : State) (q : Req), canSend s q.src = false → exec (x.2 q) s = .next s)

/-- Requests to the Last store (R161, R165, R166, R176), each answered in the same step where nothing waits.  RD returns the bytes it names.  WR and the
posted WRP store the valid bytes of their units and no other byte.  AADD, ASWP and ACAS return the old word and store the sum, the operand, or the
operand where the comparison holds.  LRD locks its line for its source; ULWR by the owner stores and unlocks, UNL unlocks, and by another
source both are refused with ST_WLT_LOCKBRK.
Beside the spec it rests on the model's choices of notes/assumptions/9.md, notes/assumptions/34.md, notes/assumptions/35.md. -/
def Obligations.LastStoreRequests : Prop :=
  (∀ (s : State) (q : Req), reqOk q = true → NetIdle s → PortOpen q.src s → TagFree q.src q.tag s → LastReady RD q s → Yields (exec (.rd q) s) fun t =>
    (∃ v, Answers q RD epLast RDR v (q.uidx + 1) s t ∧ ∀ i, q.bfirst ≤ i → i ≤ 64 * q.uidx + q.blast → v / 256 ^ i % 256 = s.rdByte (q.addr + i)) ∧
      SameMem s t ∧ SameRegsBut [] s t) ∧
  (∀ (s : State) (q : Req), reqOk q = true → NetIdle s → PortOpen q.src s → TagFree q.src q.tag s → LastReady WR q s → Yields (exec (.wr q) s) fun t =>
    Answers q WR epLast WRA 0 0 s t ∧
      (∀ i b, i < q.units.length → b < 64 → t.rdByte (q.addr + 64 * i + b) =
        if (q.units.getD i {}).first ≤ b ∧ b ≤ (q.units.getD i {}).last then (q.units.getD i {}).data / 256 ^ b % 256 else s.rdByte (q.addr + 64 * i + b)) ∧
      SameMemOutside q.addr (64 * q.units.length) s t ∧ SameRegsBut [] s t) ∧
  (∀ (s : State) (q : Req), reqOk q = true → NetIdle s → PortOpen q.src s → LastReady WRP q s → Yields (exec (.wrp q) s) fun t =>
    t.welt.out = s.welt.out ∧ t.welt.resps = s.welt.resps ∧
      (∀ i b, i < q.units.length → b < 64 → t.rdByte (q.addr + 64 * i + b) =
        if (q.units.getD i {}).first ≤ b ∧ b ≤ (q.units.getD i {}).last then (q.units.getD i {}).data / 256 ^ b % 256 else s.rdByte (q.addr + 64 * i + b)) ∧
      SameMemOutside q.addr (64 * q.units.length) s t ∧ SameRegsBut [] s t) ∧
  (∀ (s : State) (q : Req), reqOk q = true → NetIdle s → PortOpen q.src s → TagFree q.src q.tag s → LastReady AADD q s → Yields (exec (.aadd q) s) fun t =>
    Answers q AADD epLast ATR (s.rdMem 8 q.addr) 1 s t ∧ t.rdMem 8 q.addr = (s.rdMem 8 q.addr + (q.units.getD 0 {}).data % 2 ^ 64) % 2 ^ 64 ∧
      SameMemOutside q.addr 8 s t ∧ SameRegsBut [] s t) ∧
  (∀ (s : State) (q : Req), reqOk q = true → NetIdle s → PortOpen q.src s → TagFree q.src q.tag s → LastReady ASWP q s → Yields (exec (.aswp q) s) fun t =>
    Answers q ASWP epLast ATR (s.rdMem 8 q.addr) 1 s t ∧ t.rdMem 8 q.addr = (q.units.getD 0 {}).data % 2 ^ 64 ∧
      SameMemOutside q.addr 8 s t ∧ SameRegsBut [] s t) ∧
  (∀ (s : State) (q : Req), reqOk q = true → NetIdle s → PortOpen q.src s → TagFree q.src q.tag s → LastReady ACAS q s → Yields (exec (.acas q) s) fun t =>
    Answers q ACAS epLast ATR (s.rdMem 8 q.addr) 1 s t ∧
      t.rdMem 8 q.addr = (if s.rdMem 8 q.addr = (q.units.getD 0 {}).data % 2 ^ 64 then (q.units.getD 0 {}).data / 2 ^ 64 % 2 ^ 64 else s.rdMem 8 q.addr) ∧
      SameMemOutside q.addr 8 s t ∧ SameRegsBut [] s t) ∧
  (∀ (s : State) (q : Req), reqOk q = true → NetIdle s → PortOpen q.src s → TagFree q.src q.tag s → LastReady LRD q s → Yields (exec (.lrd q) s) fun t =>
    Answers q LRD epLast RDR (s.rdMem 8 q.addr) 1 s t ∧ lockOwner t epLast (lineOf q.addr) = some q.src ∧ SameMem s t ∧ SameRegsBut [] s t) ∧
  (∀ (s : State) (q : Req), reqOk q = true → NetIdle s → PortOpen q.src s → TagFree q.src q.tag s → LastReady ULWR q s → Yields (exec (.ulwr q) s) fun t =>
    Answers q ULWR epLast WRA 0 0 s t ∧ lockOwner t epLast (lineOf q.addr) = none ∧ t.rdMem 8 q.addr = (q.units.getD 0 {}).data % 2 ^ 64 ∧
      SameMemOutside q.addr 8 s t ∧ SameRegsBut [] s t) ∧
  (∀ (s : State) (q : Req), reqOk q = true → NetIdle s → PortOpen q.src s → TagFree q.src q.tag s → LastReady UNL q s → Yields (exec (.unl q) s) fun t =>
    Answers q UNL epLast WRA 0 0 s t ∧ lockOwner t epLast (lineOf q.addr) = none ∧ SameMem s t ∧ SameRegsBut [] s t) ∧
  (∀ (s : State) (q : Req), NetIdle s → PortOpen q.src s → TagFree q.src q.tag s → injectCheck s { q with op := UNL } = .inr epLast →
    unitState s (lastUnit q.addr) = 0 → cacheable q.addr = true → lockOwner s epLast (lineOf q.addr) ≠ some q.src → Yields (exec (.unl q) s) fun t =>
      t.welt.resps = s.welt.resps ++ [⟨q.src, epLast, q.tag, ERR, ST_WLT_LOCKBRK, ST_WLT_LOCKBRK, 1, s.welt.stamp⟩] ∧ t.welt.locks = s.welt.locks ∧ SameMem s t)

/-- Requests to a region of a fabric die (R108, R161, R162, R250).  A read at a bank that is ON returns the bytes it names.  A message to an Awl core joins its
message FIFO, and is refused with ST_AWL_MSGFULL by a full one.  A request to a user endpoint waits for the design's answer, and a posted one is handed to it.
Beside the spec it rests on the model's choices of notes/assumptions/16.md, notes/assumptions/35.md. -/
def Obligations.RegionRequests : Prop :=
  (∀ (s : State) (q : Req) (d r : Nat), d < 12 → r < 32 → reqOk q = true → NetIdle s → PortOpen q.src s → TagFree q.src q.tag s →
    injectCheck s { q with op := RD } = .inr (epOf d r 2) → endpointsOn s d r = true → (s.region (rix d r)).quiescing = false → atG0 s d = false →
    (s.bank (bix d r (bankOf q.addr))).sealed = false → s.rdi BNK_STAT_PWR (oBnk d r (bankOf q.addr)) = 0 → lockedOff s { q with op := RD, dst := epOf d r 2 } = false →
    (∀ w, w < 1024 → wordMark s d r (bankOf q.addr) w = 0) → Yields (exec (.rd q) s) fun t =>
      (∃ v, Answers q RD (epOf d r 2) RDR v (q.uidx + 1) s t ∧ ∀ i, q.bfirst ≤ i → i ≤ 64 * q.uidx + q.blast → v / 256 ^ i % 256 = s.rdByte (q.addr + i)) ∧ SameMem s t) ∧
  (∀ (s : State) (q : Req) (d r : Nat), d < 12 → r < 32 → NetIdle s → PortOpen q.src s → TagFree q.src q.tag s →
    injectCheck s { q with op := MSG } = .inr (epOf d r 3) → endpointsOn s d r = true → (s.region (rix d r)).quiescing = false →
    (1, d, r) ∉ s.modes.clamped → (s.core (rix d r)).msgq.length < 16 → ∃ u, exec (.msg q) s = .next (settle (pump u)) ∧
      Answers q MSG (epOf d r 3) WRA 0 0 s u ∧ (u.core (rix d r)).msgq = (s.core (rix d r)).msgq ++ [bits q.addr 5 32] ∧ SameMem s u) ∧
  (∀ (s : State) (q : Req) (d r : Nat), d < 12 → r < 32 → NetIdle s → PortOpen q.src s → TagFree q.src q.tag s →
    injectCheck s { q with op := MSG } = .inr (epOf d r 3) → endpointsOn s d r = true → (s.region (rix d r)).quiescing = false →
    (1, d, r) ∉ s.modes.clamped → 16 ≤ (s.core (rix d r)).msgq.length → Yields (exec (.msg q) s) fun t =>
      t.welt.resps = s.welt.resps ++ [⟨q.src, epOf d r 3, q.tag, ERR, ST_AWL_MSGFULL, ST_AWL_MSGFULL, 1, s.welt.stamp⟩] ∧ t.cores = s.cores ∧ SameMem s t) ∧
  (∀ (s : State) (q : Req) (d r k : Nat), d < 12 → r < 32 → k < 2 → NetIdle s → PortOpen q.src s → TagFree q.src q.tag s →
    injectCheck s { q with op := RD } = .inr (epOf d r k) → endpointsOn s d r = true → (s.region (rix d r)).quiescing = false →
    ∃ u, exec (.rd q) s = .next (settle (pump u)) ∧ u.welt.held = [⟨{ q with op := RD, dst := epOf d r k, epoch := s.welt.stamp }, .design⟩] ∧
      tagBusy u q.src q.tag = true ∧ SameMem s u) ∧
  (∀ (s : State) (q : Req) (d r k : Nat), d < 12 → r < 32 → k < 2 → NetIdle s → PortOpen q.src s →
    injectCheck s { q with op := WRP } = .inr (epOf d r k) → endpointsOn s d r = true → (s.region (rix d r)).quiescing = false → Yields (exec (.wrp q) s) fun t =>
      tabGet [] t.welt.inbox (epOf d r k) = tabGet [] s.welt.inbox (epOf d r k) ++ [{ q with op := WRP, dst := epOf d r k, epoch := s.welt.stamp }] ∧
      t.welt.out = s.welt.out ∧ SameMem s t)

/-- Guaranteed service (R184 to R187): GWR and GMSG join their flow's queue at the port, where four units wait at most.  An owned slot of the flow takes the head of the
queue, which arrives DLY slots later.  A unit that finds eight in its destination's buffer is discarded and counted.
Beside the spec it rests on the model's choices of notes/assumptions/33.md, notes/assumptions/35.md. -/
def Obligations.GuaranteedUnits : Prop :=
  (∀ x ∈ [(GWR, Instr.gwr), (GMSG, Instr.gmsg)], ∀ (s : State) (q : Req) (dst : Nat), NetIdle s → canSend s q.src = true → portsClosed s = false →
    injectCheck s { q with op := x.1 } = .inr dst → (s.flowSt q.flow).queue.length < 4 → Yields (exec (x.2 q) s) fun t =>
      (t.flowSt q.flow).queue = (s.flowSt q.flow).queue ++ [{ q with op := x.1, dst, epoch := s.welt.stamp }] ∧ t.welt.out = s.welt.out ∧
      (∀ f, f ≠ q.flow → t.flowSt f = s.flowSt f) ∧ SameRegsBut [] s t ∧ SameMem s t) ∧
  (∀ x ∈ [(GWR, Instr.gwr), (GMSG, Instr.gmsg)], ∀ (s : State) (q : Req) (dst : Nat), s.welt.wait = [] → canSend s q.src = true → portsClosed s = false →
    injectCheck s { q with op := x.1 } = .inr dst → 4 ≤ (s.flowSt q.flow).queue.length → ∃ u, exec (x.2 q) s = .next (settle (pump u)) ∧
      u.welt.wait = [{ q with op := x.1 }] ∧ u.welt.flows = s.welt.flows ∧ SameMem s u) ∧
  (∀ (s : State) (f : Fin 1024) (at_ taken : Nat) (q : Req) (l : List Req), s.rd WLT_SVC_STATE = 3 → laceSlots s ≤ at_ → s.welt.gfly = [] → (s.flowSt f).queue = q :: l →
    (s.flowNow f).slots.contains (at_ % 1024) = true → (s.flowSt f).headAt < at_ → s.rd WLT_EPOCH_STATE ≠ 2 → (∀ p ∈ s.eyes, p.2.halfAt = none) →
    ∃ u, exec (.guaranteedSlotInjection f at_ taken) s = .next (settle (pump u)) ∧ (u.flowSt f).queue = l ∧ (u.flowSt f).headAt = at_ ∧
      u.welt.gfly = [(at_ + (s.flowNow f).dly, q)] ∧ (u.flowSt f).units = min ((s.flowSt f).units + 1) (2 ^ 32 - 1) ∧ laceSlots u = at_ ∧ SameMem s u) ∧
  (∀ (s : State) (f : Fin 1024) (p : Nat × Req), s.welt.gfly.find? (fun p => p.2.flow == f.val) = some p → 8 ≤ gBuffered s p.2.dst →
    ∃ u, exec (.guaranteedBufferOverflow f) s = .next (settle u) ∧ (u.flowSt f).ovr = min ((s.flowSt f).ovr + 1) (2 ^ 32 - 1) ∧
      u.welt.gfly = s.welt.gfly.erase p ∧ u.rd WLT_ERRCNT_COUNT = min (s.rd WLT_ERRCNT_COUNT + 1) (2 ^ WLT_ERRCNT_COUNT.w - 1) ∧ u.welt.resps = s.welt.resps ∧ SameMem s u)

/-- Responses, timeouts, locks and snoops (R162 to R164, R166, R176).  A response to an outstanding tag completes it and frees the tag; any other is discarded and logged.  A
request that times out completes with ST_WLT_TIMEOUT.  A lock that times out is released.  An invalidation drops the line from its core's cache
and is acknowledged.  The data of an LDW fill its register, and its line enters the data cache where no invalidation met it (R229, R236); the response of an STW ends it, one with a status being counted.
Beside the spec it rests on the model's choices of notes/assumptions/12.md, notes/assumptions/35.md, notes/assumptions/83.md. -/
def Obligations.ResponsesAndSnoops : Prop :=
  (∀ (s : State) (r : Resp) (lat : Nat), PlainPort r.to_ → tagBusy s r.to_ r.tag = true → r ∈ s.welt.resps → r.op = RDR ∨ r.op = WRA ∨ r.op = ATR ∨ r.op = ERR →
    ∃ u, exec (.responseArrival r lat) s = .next (settle (pump u)) ∧ tabGet {} u.welt.comp r.to_ = ⟨r.tag, r.op, r.st, r.data⟩ ∧
      tagBusy u r.to_ r.tag = false ∧ u.welt.resps = s.welt.resps.erase r ∧ SameRegsBut [] s u ∧ SameMem s u) ∧
  (∀ (s : State) (r : Resp) (lat : Nat), tagBusy s r.to_ r.tag = false → ∃ u, exec (.responseArrival r lat) s = .next (settle u) ∧ u.welt.comp = s.welt.comp ∧
    u.welt.out = s.welt.out ∧ u.welt.resps = s.welt.resps.erase r ∧ u.rd WLT_ERRCNT_COUNT = min (s.rd WLT_ERRCNT_COUNT + 1) (2 ^ WLT_ERRCNT_COUNT.w - 1) ∧
    SameRegsBut [WLT_ERRCNT_COUNT.key 0] s u ∧ SameMem s u) ∧
  (∀ (s : State) (e tag : Nat), PlainPort e → tagBusy s e tag = true → ∃ u, exec (.responseTimeout e tag) s = .next (settle (pump u)) ∧
    tabGet {} u.welt.comp e = ⟨tag, ERR, ST_WLT_TIMEOUT, 0⟩ ∧ tagBusy u e tag = false ∧
    u.rd WLT_ERRCNT_COUNT = min (s.rd WLT_ERRCNT_COUNT + 1) (2 ^ WLT_ERRCNT_COUNT.w - 1) ∧ SameMem s u) ∧
  (∀ (s : State) (tgt line o : Nat), lockOwner s tgt line = some o → ∃ u, exec (.lockTimeout tgt line) s = .next (settle (pump u)) ∧ lockOwner u tgt line = none ∧
    u.rd WLT_ERRCNT_COUNT = min (s.rd WLT_ERRCNT_COUNT + 1) (2 ^ WLT_ERRCNT_COUNT.w - 1) ∧ SameMem s u) ∧
  (∀ (s : State) (c : Fin 384) (line : Nat), (line, c.val) ∈ s.welt.sinv → Yields (exec (.sinv c line) s) fun t =>
    line ∉ (t.core c).dlines ∧ t.welt.sinv = s.welt.sinv.erase (line, c.val) ∧ t.welt.sack = s.welt.sack ++ [(line, c.val)] ∧
      (∀ k, k ≠ c.val → t.core k = s.core k) ∧ SameRegsBut [] s t ∧ SameMem s t) ∧
  (∀ (s : State) (c : Fin 384) (line : Nat), (line, c.val) ∈ s.welt.sack → ∃ u, exec (.sack c line) s = .next (settle (pump u)) ∧
    u.welt.sack = s.welt.sack.erase (line, c.val) ∧ u.welt.snoop = s.welt.snoop ∧ SameRegsBut [] s u ∧ SameMem s u) ∧
  (∀ (s : State) (c : Fin 384) (line : Nat), (line, c.val) ∉ s.welt.sack → ∃ u, exec (.sack c line) s = .next (settle u) ∧ u.welt.snoop = s.welt.snoop ∧
    u.rd WLT_ERRCNT_COUNT = min (s.rd WLT_ERRCNT_COUNT + 1) (2 ^ WLT_ERRCNT_COUNT.w - 1) ∧ SameMem s u) ∧
  (∀ (s : State) (c : Fin 384) (r : Resp) (lat : Nat) (l : AwlLoad), r.to_ = coreEp c → tagBusy s r.to_ r.tag = true → r ∈ s.welt.resps → r.op = RDR →
    (s.core c).loads = [l] → l.tag = r.tag → l.data = none → l.err = none → l.lrd = false → (s.core c).lk = none → (s.core c).sbuf = [] → (s.core c).stwait = [] →
    (s.core c).stopping = none → (s.core c).wdPend = false → tabGet 0 s.dbg.pend c = 0 → ∃ u, exec (.ldwDataArrival r lat) s = .next (settle (pump u)) ∧
      (u.core c).loads = [] ∧ (u.core c).arch = fillReg l.dest (r.data / 256 ^ (l.addr % 64) % 256 ^ l.size) (s.core c).arch ∧
      (l.snooped = false → cacheable l.addr = true → l.addr / 64 ∈ (u.core c).dlines) ∧
      (∀ k, k ≠ c.val → u.core k = s.core k) ∧ tagBusy u r.to_ r.tag = false ∧ SameMem s u) ∧
  (∀ (s : State) (c : Fin 384) (r : Resp) (lat : Nat), r.to_ = coreEp c → tagBusy s r.to_ r.tag = true → r ∈ s.welt.resps → r.op = WRA ∨ r.op = ERR →
    (s.core c).loads = [] → (∃ a, (r.tag, a) ∈ (s.core c).stq) → (s.core c).lk = none → (s.core c).stopping = none → (s.core c).wdPend = false →
    tabGet 0 s.dbg.pend c = 0 → ∃ u, exec (.stwResponse r lat) s = .next (settle (pump u)) ∧
      (u.core c).stq = (s.core c).stq.filter (fun p => p.1 != r.tag) ∧ (u.core c).arch = (s.core c).arch ∧
      u.rdi AWL_SFSTAT_COUNT (oAwl c) = (if r.op = WRA ∧ r.st = 0 then s.rdi AWL_SFSTAT_COUNT (oAwl c)
        else min (s.rdi AWL_SFSTAT_COUNT (oAwl c) + 1) (2 ^ AWL_SFSTAT_COUNT.w - 1)) ∧ SameMem s u)

/-- Flow commands and statistics (R189, R199, R201).  WLT_FLOWCMD is busy until the boundary two frames ahead, where the flow is enabled, disabled once its last
unit is delivered, or handed over; a handover to a flow that is enabled is refused.  A window's end and SNAP copy the live sets and clear them.
Beside the spec it rests on the model's choices of notes/assumptions/5.md, notes/assumptions/33.md. -/
def Obligations.FlowsAndStatistics : Prop :=
  (∀ (s : State) (f : Fin 1024), s.rd WLT_FLOWCMD_BUSY = 0 → Yields (exec (.flowEnable f) s) fun t =>
    t.rd WLT_FLOWCMD_BUSY = 1 ∧ t.rd WLT_FLOWCMD_OP = 1 ∧ t.rd WLT_FLOWCMD_FLOW = f ∧ t.welt.flowAt = boundaryAfter 2 s ∧ t.welt.flows = s.welt.flows ∧ SameMem s t ∧
      SameRegsBut [WLT_FLOWCMD_BUSY.key 0, WLT_FLOWCMD_OP.key 0, WLT_FLOWCMD_FLOW.key 0] s t) ∧
  (∀ (s : State) (f : Fin 1024), s.rd WLT_FLOWCMD_BUSY = 0 → Yields (exec (.flowDisable f) s) fun t =>
    t.rd WLT_FLOWCMD_BUSY = 1 ∧ t.rd WLT_FLOWCMD_OP = 2 ∧ t.rd WLT_FLOWCMD_FLOW = f ∧ t.welt.flowAt = boundaryAfter 2 s ∧ t.welt.flows = s.welt.flows ∧ SameMem s t) ∧
  (∀ (s : State) (f : Fin 1024), s.rd WLT_FLOWCMD_BUSY = 0 → (s.flowSt (s.rd WLT_FLOWCMD2_TO)).en = false → (s.flowNow (s.rd WLT_FLOWCMD2_TO)).dst = (s.flowNow f).dst →
    Yields (exec (.flowHandover f) s) fun t =>
      t.rd WLT_FLOWCMD_BUSY = 1 ∧ t.rd WLT_FLOWCMD_OP = 3 ∧ t.rd WLT_FLOWCMD_FLOW = f ∧ t.welt.flowAt = boundaryAfter 2 s ∧ t.welt.flows = s.welt.flows ∧ SameMem s t) ∧
  (∀ (s : State) (f : Fin 1024), s.rd WLT_FLOWCMD_BUSY = 0 → (s.flowSt (s.rd WLT_FLOWCMD2_TO)).en = true → Yields (exec (.flowHandover f) s) fun t =>
    Ends t WLT_FLOWCMD_STATUS WLT_FLOWCMD_BUSY ST_WLT_BADFLOW ∧ t.welt = s.welt ∧ SameMem s t) ∧
  (∀ (s : State) (f : Nat), s.rd WLT_FLOWCMD_BUSY ≠ 0 → s.rd WLT_FLOWCMD_OP = 1 → s.rd WLT_FLOWCMD_FLOW = f → Yields (exec .flowCommandBoundary s) fun t =>
    Ends t WLT_FLOWCMD_STATUS WLT_FLOWCMD_BUSY 0 ∧ (t.flowSt f).en = true ∧ (∀ g, g ≠ f → t.flowSt g = s.flowSt g) ∧ s.welt.flowAt * 2048 ≤ t.welt.lace ∧ SameMem s t) ∧
  (∀ (s : State) (f : Nat), s.rd WLT_FLOWCMD_BUSY = 1 → s.rd WLT_FLOWCMD_OP = 2 → s.rd WLT_FLOWCMD_FLOW = f → Yields (exec .flowCommandBoundary s) fun t =>
    (t.flowSt f).en = false ∧ (∀ g, g ≠ f → t.flowSt g = s.flowSt g) ∧ (flowBusy s f = false → Ends t WLT_FLOWCMD_STATUS WLT_FLOWCMD_BUSY 0) ∧
      (flowBusy s f = true → t.rd WLT_FLOWCMD_BUSY = 1) ∧ SameMem s t) ∧
  (∀ (s : State) (f to_ : Nat), s.rd WLT_FLOWCMD_BUSY ≠ 0 → s.rd WLT_FLOWCMD_OP = 3 → s.rd WLT_FLOWCMD_FLOW = f → s.rd WLT_FLOWCMD2_TO = to_ → f ≠ to_ →
    Yields (exec .flowCommandBoundary s) fun t => Ends t WLT_FLOWCMD_STATUS WLT_FLOWCMD_BUSY 0 ∧ (t.flowSt f).en = false ∧ (t.flowSt to_).en = true ∧ SameMem s t) ∧
  (∀ s : State, s.rd WLT_STCTL_WINDOW ≠ 0 → Yields (exec .statsWindowEnd s) fun t => t.welt.shown = s.welt.live ∧ t.welt.live = [] ∧
    t.rd WLT_STSEQ_SEQ = (s.rd WLT_STSEQ_SEQ + 1) % 2 ^ WLT_STSEQ_SEQ.w ∧ SameRegsBut [WLT_STSEQ_SEQ.key 0] s t ∧ SameMem s t) ∧
  (∀ s : State, Yields (exec .statsSnap s) fun t => t.welt.shown = s.welt.live ∧ t.welt.live = [] ∧
    t.rd WLT_STSEQ_SEQ = (s.rd WLT_STSEQ_SEQ + 1) % 2 ^ WLT_STSEQ_SEQ.w ∧ SameRegsBut [WLT_STSEQ_SEQ.key 0] s t ∧ SameMem s t)

/-- Epochs and the service of the network (R174, R179, R193 to R196).  A change that every element confirms names F, four frames ahead unless it is given; one not
confirmed in time ends with ST_HW_WLT_TABLE.  At F the stamp and the lace bank change; once no unit of the old epoch is left CUR takes the new
epoch and the change ends; a drain that takes too long is shown.  SPLIT starts a change of service in HOLD and sets REQIGN elsewhere.  An
uncorrectable network buffer enters SAFE.
Beside the spec it rests on the model's choices of notes/assumptions/5.md, notes/assumptions/23.md, notes/assumptions/47.md. -/
def Obligations.Epochs : Prop :=
  (∀ s : State, s.rd WLT_EPOCH_STATE = 1 → s.welt.chg.cause ≠ 1 → Yields (exec .epochConfirmed s) fun t => t.rd WLT_EPOCH_STATE = 2 ∧
    t.rd WLT_EPOCHF_F = s.welt.chg.frame.getD (boundaryAfter 4 s) % 2 ^ WLT_EPOCHF_F.w ∧ t.welt = s.welt ∧ SameMem s t ∧
    SameRegsBut [WLT_EPOCH_STATE.key 0, WLT_EPOCHF_F.key 0] s t) ∧
  (∀ s : State, s.rd WLT_EPOCH_STATE = 1 → shfState s ≠ 9 → shfState s ≠ 4 → shfState s ≠ 10 → Yields (exec .epochConfirmTimeout s) fun t =>
    t.rd WLT_EPOCH_STATE = 0 ∧ t.rd WLT_EPOCH_STATUS = ST_HW_WLT_TABLE ∧ t.welt = s.welt ∧ t.mode = s.mode ∧ SameMem s t) ∧
  (∀ s : State, s.rd WLT_EPOCH_STATE = 2 → shfState s = 6 ∨ shfState s = 8 ∨ shfState s = 10 → s.welt.chg.cause ≠ 4 → Yields (exec .epochBoundary s) fun t =>
    t.rd WLT_EPOCH_STATE = 3 ∧ t.welt.stamp = 1 - s.welt.stamp ∧ t.welt.bank = 1 - s.welt.bank ∧ t.rd WLT_EPOCH_CUR = s.rd WLT_EPOCH_CUR ∧
      s.rd WLT_EPOCHF_F * 2048 ≤ t.welt.lace ∧ SameMem s t) ∧
  (∀ s : State, s.rd WLT_EPOCH_STATE = 3 → oldGone s = true → s.shf.rbWait = none → ∃ u, exec .epochDrainComplete s = .next (pump u) ∧
    u.rd WLT_EPOCH_STATE = 0 ∧ u.rd WLT_EPOCH_STATUS = 0 ∧ u.rd WLT_EPOCH_CUR = s.welt.stamp % 2 ^ WLT_EPOCH_CUR.w ∧ u.welt = s.welt ∧ SameMem s u) ∧
  (∀ s : State, s.rd WLT_EPOCH_STATE = 3 → oldGone s = false → exec .epochDrainComplete s = .next s) ∧
  (∀ s : State, s.rd WLT_EPOCH_STATE = 3 → Yields (exec .epochDrainTimeout s) fun t => t.rd WLT_EPOCH_DRAINTO = 1 ∧ t.rd WLT_EPOCH_STATE = 3 ∧ t.welt = s.welt ∧ SameMem s t) ∧
  (∀ s : State, s.mode = HOLD → s.rd WLT_SVC_STATE = 3 → Yields (exec (.serviceSplitWrite true) s) fun t =>
    t.rd WLT_SVCREQ_SPLIT = 1 ∧ t.rd WLT_SVC_STATE = 2 ∧ t.welt.svcTo = some 1 ∧ t.welt.after = none ∧ SameMem s t) ∧
  (∀ s : State, s.mode = HOLD → s.rd WLT_SVC_STATE = 1 → Yields (exec (.serviceSplitWrite false) s) fun t =>
    t.rd WLT_SVCREQ_SPLIT = 0 ∧ t.rd WLT_SVC_STATE = 2 ∧ t.welt.svcTo = some 3 ∧ t.welt.after = none ∧ SameMem s t) ∧
  (∀ (s : State) (split : Bool), s.mode ≠ HOLD → Yields (exec (.serviceSplitWrite split) s) fun t =>
    t.rd WLT_SVC_REQIGN = 1 ∧ t.welt = s.welt ∧ SameMem s t ∧ SameRegsBut [WLT_SVC_REQIGN.key 0] s t) ∧
  (∀ (s : State) (elem : Fin 97) (op src dst : Nat), s.mode ≠ DORMANT → Yields (exec (.weltBufferUe elem op src dst) s) fun t => t.mode = SAFE)

/-! Queues (spec/08) -/

/-- Queue operations (R206 to R211), on an enabled queue that sends no notification.  A doorbell that fits moves TAIL and RESV; one beyond the ring is refused
with ST_QUE_FULL and moves nothing.  A reserve hands out RESV and adds k; a commit at TAIL moves TAIL over it, one beyond TAIL waits in PMASK.
A release moves HEAD and CLAIM, or HEAD over what is released from it; a claim hands out CLAIM and adds k.  Consumer operations arm the queue. -/
def Obligations.QueueOperations : Prop :=
  (∀ (s : State) (e tag : Nat) (q : Fin 65536) (v : BitVec 32), QueReady e tag q s → qMp s q = false →
    sub32 v.toNat (qTail s q) + sub32 (qTail s q) (qHead s q) ≤ qN s q → Yields (exec (.queDoorbell e tag false q v) s) fun t =>
      qTail t q = v.toNat ∧ qResv t q = v.toNat ∧ qHead t q = qHead s q ∧ qClaim t q = qClaim s q ∧ SameQueue q s t ∧
      t.welt.resps = s.welt.resps ++ [⟨e, epLast, tag, WRA, 0, ctxWord s q 2, 0, s.welt.stamp⟩] ∧ SameMemOutside (ctxAddr q 2) 8 s t ∧
      SameRegsBut [QUE_OPS_COUNT.key 0] s t) ∧
  (∀ (s : State) (e tag : Nat) (q : Fin 65536) (v : BitVec 32), QueReady e tag q s → qMp s q = false →
    qN s q < sub32 v.toNat (qTail s q) + sub32 (qTail s q) (qHead s q) → Yields (exec (.queDoorbell e tag false q v) s) fun t =>
      qTail t q = qTail s q ∧ qResv t q = qResv s q ∧ qHead t q = qHead s q ∧ qClaim t q = qClaim s q ∧
      t.welt.resps = s.welt.resps ++ [⟨e, epLast, tag, ERR, ST_QUE_FULL, ST_QUE_FULL, 1, s.welt.stamp⟩] ∧
      bits (ctxWord t q 1) 48 16 = min (bits (ctxWord s q 1) 48 16 + 1) 65535 ∧ SameMemOutside (ctxAddr q 1) 8 s t) ∧
  (∀ (s : State) (e tag : Nat) (q : Fin 65536) (k : BitVec 64), QueReady e tag q s → qMp s q = true → 1 ≤ k.toNat → k.toNat ≤ 32 →
    sub32 (qResv s q) (qHead s q) + k.toNat ≤ qN s q → sub32 (qResv s q) (qTail s q) + k.toNat ≤ 32 → Yields (exec (.queReserve e tag q k) s) fun t =>
      qResv t q = add32 (qResv s q) k.toNat ∧ qTail t q = qTail s q ∧ qHead t q = qHead s q ∧ qClaim t q = qClaim s q ∧ SameQueue q s t ∧
      t.welt.resps = s.welt.resps ++ [⟨e, epLast, tag, ATR, 0, ctxWord s q 2, 1, s.welt.stamp⟩] ∧ SameMemOutside (ctxAddr q 2) 8 s t) ∧
  (∀ (s : State) (e tag : Nat) (q : Fin 65536) (i k : BitVec 32), QueReady e tag q s → qMp s q = true → i.toNat = qTail s q → 1 ≤ k.toNat → k.toNat ≤ 32 →
    k.toNat ≤ sub32 (qResv s q) (qTail s q) → qPmask s q = 0 → Yields (exec (.queCommit e tag false q i k) s) fun t =>
      qTail t q = add32 (qTail s q) k.toNat ∧ qResv t q = qResv s q ∧ qPmask t q = 0 ∧ qHead t q = qHead s q ∧ SameMemOutside (ctxAddr q 2) 8 s t) ∧
  (∀ (s : State) (e tag : Nat) (q : Fin 65536) (i k : BitVec 32), QueReady e tag q s → qMp s q = true → 1 ≤ sub32 i.toNat (qTail s q) → 1 ≤ k.toNat →
    sub32 i.toNat (qTail s q) + k.toNat ≤ min 32 (sub32 (qResv s q) (qTail s q)) → qPmask s q = 0 → Yields (exec (.queCommit e tag false q i k) s) fun t =>
      qTail t q = qTail s q ∧ qPmask t q = (2 ^ k.toNat - 1) * 2 ^ sub32 i.toNat (qTail s q) ∧ SameMem s t) ∧
  (∀ (s : State) (e tag : Nat) (q : Fin 65536) (lo hi : BitVec 32), QueReady e tag q s → qMc s q = false →
    sub32 lo.toNat (qHead s q) ≤ sub32 (qTail s q) (qHead s q) → Yields (exec (.queRelease e tag false q lo hi) s) fun t =>
      qHead t q = lo.toNat ∧ qClaim t q = lo.toNat ∧ qTail t q = qTail s q ∧ qResv t q = qResv s q ∧ qArmed t q = true ∧ SameQueue q s t ∧
      SameMemOutside (ctxAddr q 1) 24 s t) ∧
  (∀ (s : State) (e tag : Nat) (q : Fin 65536) (lo hi : BitVec 32), QueReady e tag q s → qMc s q = true → lo.toNat = qHead s q → 1 ≤ hi.toNat → hi.toNat ≤ 32 →
    hi.toNat ≤ sub32 (qClaim s q) (qHead s q) → qCmask s q = 0 → Yields (exec (.queRelease e tag false q lo hi) s) fun t =>
      qHead t q = add32 (qHead s q) hi.toNat ∧ qClaim t q = qClaim s q ∧ qCmask t q = 0 ∧ qTail t q = qTail s q ∧ qArmed t q = true) ∧
  (∀ (s : State) (e tag : Nat) (q : Fin 65536) (k : BitVec 64), QueReady e tag q s → qMc s q = true → 1 ≤ k.toNat → k.toNat ≤ sub32 (qTail s q) (qClaim s q) →
    sub32 (qClaim s q) (qHead s q) + k.toNat ≤ 32 → Yields (exec (.queClaim e tag q k) s) fun t =>
      qClaim t q = add32 (qClaim s q) k.toNat ∧ qHead t q = qHead s q ∧ qTail t q = qTail s q ∧ qArmed t q = true ∧
      t.welt.resps = s.welt.resps ++ [⟨e, epLast, tag, ATR, 0, ctxWord s q 3, 1, s.welt.stamp⟩])

/-- Queue commands (R213, R214, R216).  Enabling an empty queue with a valid configuration takes the staged base, size and target and arms it; an invalid one
ends with ST_QUE_BADCFG, a queue already enabled with ST_QUE_STATE.  Disabling clears EN alone.  The indices of a disabled queue are reset; an enabled one
is armed again; the staging registers read the context back.  An uncorrectable context word disables the queue and sets its error bit.
Beside the spec it rests on the model's choices of notes/assumptions/29.md. -/
def Obligations.QueueCommands : Prop :=
  (∀ (s : State) (q : Nat), s.rd QUE_QCMD_BUSY = 0 → s.rd QUE_QSEL_Q = q → q < 65536 → qEn s q = false → stagingOk s = true → s.rd QUE_SPARM_MC < 2 → s.rd QUE_SPARM_MP < 2 →
    s.rd QUE_SBASEL_BASE < 2 ^ 26 → s.rd QUE_SBASEH_BASE < 2 ^ 16 → s.rd QUE_SPARM_NTHR < 32 → s.rd QUE_SNOTE_NTGT < 2 ^ 16 → s.rd QUE_SNOTE_NSUB < 32 →
    qTail s q = qResv s q → qTail s q = qHead s q → qTail s q = qClaim s q → Yields (exec .queEnable s) fun t => Ends t QUE_QCMD_STATUS QUE_QCMD_BUSY 0 ∧
      qEn t q = true ∧ qBase t q = s.rd QUE_SBASEL_BASE * 64 + s.rd QUE_SBASEH_BASE * 2 ^ 32 ∧ qLog2n t q = s.rd QUE_SPARM_LOG2N ∧ qNmode t q = s.rd QUE_SPARM_NMODE ∧
      qNtgt t q = s.rd QUE_SNOTE_NTGT ∧ qNsub t q = s.rd QUE_SNOTE_NSUB ∧ qArmed t q = true ∧ SameMemOutside (ctxAddr q 0) 16 s t) ∧
  (∀ (s : State) (q : Nat), s.rd QUE_QCMD_BUSY = 0 → s.rd QUE_QSEL_Q = q → qEn s q = false → stagingOk s = false → Yields (exec .queEnable s) fun t =>
    Ends t QUE_QCMD_STATUS QUE_QCMD_BUSY ST_QUE_BADCFG ∧ SameMem s t) ∧
  (∀ (s : State) (q : Nat), s.rd QUE_QCMD_BUSY = 0 → s.rd QUE_QSEL_Q = q → qEn s q = true → Yields (exec .queEnable s) fun t =>
    Ends t QUE_QCMD_STATUS QUE_QCMD_BUSY ST_QUE_STATE ∧ SameMem s t) ∧
  (∀ (s : State) (q : Nat), s.rd QUE_QCMD_BUSY = 0 → s.rd QUE_QSEL_Q = q → Yields (exec .queDisable s) fun t => Ends t QUE_QCMD_STATUS QUE_QCMD_BUSY 0 ∧
    qEn t q = false ∧ qBase t q = qBase s q ∧ qLog2n t q = qLog2n s q ∧ SameMemOutside (ctxAddr q 0) 8 s t ∧ t.qmasks = s.qmasks ∧
    SameRegsBut [QUE_QCMD_OP.key 0, QUE_QCMD_STATUS.key 0, QUE_QCMD_BUSY.key 0] s t) ∧
  (∀ (s : State) (q : Nat), s.rd QUE_QCMD_BUSY = 0 → s.rd QUE_QSEL_Q = q → qEn s q = false → Yields (exec .queResetIndices s) fun t =>
    Ends t QUE_QCMD_STATUS QUE_QCMD_BUSY 0 ∧ ctxWord t q 2 = 0 ∧ ctxWord t q 3 = 0 ∧ ctxWord t q 0 = ctxWord s q 0 ∧ qPmask t q = 0 ∧ qCmask t q = 0 ∧
      SameMemOutside (ctxAddr q 1) 24 s t) ∧
  (∀ (s : State) (q : Nat), s.rd QUE_QCMD_BUSY = 0 → s.rd QUE_QSEL_Q = q → qEn s q = true → qNmode s q = 0 → Yields (exec .queRearm s) fun t =>
    Ends t QUE_QCMD_STATUS QUE_QCMD_BUSY 0 ∧ qArmed t q = true ∧ SameMemOutside (ctxAddr q 1) 8 s t) ∧
  (∀ (s : State) (q : Nat), s.rd QUE_QCMD_BUSY = 0 → s.rd QUE_QSEL_Q = q → Yields (exec .queReadBack s) fun t => Ends t QUE_QCMD_STATUS QUE_QCMD_BUSY 0 ∧
    t.rd QUE_SPARM_LOG2N = qLog2n s q ∧ t.rd QUE_SPARM_NMODE = qNmode s q ∧ t.rd QUE_SPARM_NTHR = qNthr s q ∧ t.rd QUE_SNOTE_NTGT = qNtgt s q ∧
    t.rd QUE_SBASEL_BASE * 64 + t.rd QUE_SBASEH_BASE * 2 ^ 32 = qBase s q ∧ SameMem s t) ∧
  (∀ (s : State) (q : Fin 65536) (k : Fin 4), Yields (exec (.queContextUe q k) s) fun t => qEn t q = false ∧ bit (ctxWord t q 1) 20 = 1 ∧
    qBase t q = qBase s q ∧ SameMemOutside (ctxAddr q 0) 16 s t)

/-! Awl cores (spec/09, spec/10) -/

/-- The operations of format 000 on values (R258, R262, R265).  On W and H an ADD or SUB wraps, with C the carry or the absence of a borrow, V the signed overflow, and Z and N of
the result; CMP is SUB; the logic operations clear C and V; a shift keeps the bits that stay.  On A the result is the exact one while it fits 40
bits, with E telling whether it exceeds 32, and clamps only with SATA. -/
def Obligations.AluResults : Prop :=
  (∀ sr sz a b, sz < 2 → a < 2 ^ szWidth sz → b < 2 ^ szWidth sz →
    let r := aluOp sr 1 sz a b
    r.1 = (a + b) % 2 ^ szWidth sz ∧ bit (r.2.apply sr) srC = (a + b) / 2 ^ szWidth sz ∧
      (bit (r.2.apply sr) srV = 1 ↔ toS (szWidth sz) a + toS (szWidth sz) b ≠ toS (szWidth sz) r.1) ∧
      (bit (r.2.apply sr) srZ = 1 ↔ r.1 = 0) ∧ (bit (r.2.apply sr) srN = 1 ↔ toS (szWidth sz) r.1 < 0)) ∧
  (∀ sr sz a b, sz < 2 → a < 2 ^ szWidth sz → b < 2 ^ szWidth sz →
    let r := aluOp sr 2 sz a b
    r.1 = (a + 2 ^ szWidth sz - b) % 2 ^ szWidth sz ∧ (bit (r.2.apply sr) srC = 1 ↔ b ≤ a) ∧
      (bit (r.2.apply sr) srV = 1 ↔ toS (szWidth sz) a - toS (szWidth sz) b ≠ toS (szWidth sz) r.1) ∧
      (bit (r.2.apply sr) srZ = 1 ↔ a = b) ∧ aluOp sr 3 sz a b = r) ∧
  (∀ sr sz a b, sz < 2 → a < 2 ^ szWidth sz → b < 2 ^ szWidth sz →
    (aluOp sr 4 sz a b).1 = a &&& b ∧ (aluOp sr 5 sz a b).1 = a ||| b ∧ (aluOp sr 6 sz a b).1 = a ^^^ b ∧
      bit ((aluOp sr 6 sz a b).2.apply sr) srC = 0 ∧ bit ((aluOp sr 6 sz a b).2.apply sr) srV = 0) ∧
  (∀ sr sz a n, sz < 2 → a < 2 ^ szWidth sz → n < 64 →
    (aluOp sr 7 sz a n).1 = a * 2 ^ n % 2 ^ szWidth sz ∧ (aluOp sr 8 sz a n).1 = a / 2 ^ n ∧
      toS (szWidth sz) (aluOp sr 9 sz a n).1 = toS (szWidth sz) a / 2 ^ n) ∧
  (∀ sr sz a, sz < 2 → a < 2 ^ szWidth sz → (aluOp sr 0xA sz a 0).1 = (2 ^ szWidth sz - a) % 2 ^ szWidth sz ∧
    (aluOp sr 0xB sz a 0).1 = (if toS (szWidth sz) a < 0 then 2 ^ szWidth sz - a else a)) ∧
  (∀ sr kind acc p, acc < 2 ^ 40 → -2 ^ 39 ≤ (if kind = 0 then p else if kind = 1 then toS 40 acc + p else toS 40 acc - p) →
    (if kind = 0 then p else if kind = 1 then toS 40 acc + p else toS 40 acc - p) < 2 ^ 39 →
    toS 40 (accumulateOp sr kind acc p).1 = (if kind = 0 then p else if kind = 1 then toS 40 acc + p else toS 40 acc - p) ∧
      bit ((accumulateOp sr kind acc p).2.apply sr) srV = 0 ∧
      (bit ((accumulateOp sr kind acc p).2.apply sr) srE = 1 ↔
        toS 40 (accumulateOp sr kind acc p).1 < -2 ^ 31 ∨ 2 ^ 31 ≤ toS 40 (accumulateOp sr kind acc p).1)) ∧
  (∀ sr sz a, a < 2 ^ 40 → sz = 0 ∨ sz = 1 → (aluOp sr 0xC sz a 0).1 =
    (if 2 ^ 31 ≤ toS 40 a then 2 ^ (szWidth sz - 1) - 1 else if toS 40 a < -2 ^ 31 then 2 ^ (szWidth sz - 1) else a / 2 ^ (32 - szWidth sz) % 2 ^ szWidth sz))

/-- Data processing (R255, R262, R264 to R266): ADD, SUB, CMP, AND, OR, XOR, SHL, SHR, ASR, NEG, ABS, SAT, RND, MPY, MAC and MSU of format 000.  The
destination and the flags take what the operation gives for the operands that the word names, and nothing else but the PC changes; a loop that ends
at the instruction takes its branch back (R232).
Beside the spec it rests on the model's choices of notes/assumptions/24.md. -/
def Obligations.DataProcessing : Prop :=
  (∀ (m : Mn) (f : Fetch) (s : State), bits f.w.toNat 29 3 = 0 → CoreFree f.core s → WordRuns m f s → ∃ u, exec (m.row f) s = .next (settle (pump u)) ∧
    CoreAfter f.core s u ((doAlu (s.core f.core).arch f.w.toNat).1.flagged (doAlu (s.core f.core).arch f.w.toNat).2)
      (((s.core f.core).arch.pc + 4) % 2 ^ 32) (s.core f.core).arch.pc ∧ SameMem s u ∧ SameRegsBut [AWL_PC_PC.key (oAwl f.core)] s u) ∧
  (∀ (m : Mn) (f : Fetch) (s : State), bits f.w.toNat 29 3 = 0 → CoreFree f.core s → isMn f m = true → f.err = none →
    legalWord f.w.toNat (s.core f.core).arch.ipl = true → (s.core f.core).arch.ldepth = 1 → (s.core f.core).arch.get (kLE true) = (s.core f.core).arch.pc →
    (s.core f.core).arch.get (kLC true) ≠ 1 → (s.core f.core).arch.get (kLC true) < 2 ^ 32 → ∃ u, exec (m.row f) s = .next (settle (pump u)) ∧
      (u.core f.core).arch.pc = (s.core f.core).arch.get (kLS true) ∧ (u.core f.core).arch.ldepth = 1 ∧
      (u.core f.core).arch.get (kLC true) = ((s.core f.core).arch.get (kLC true) + (2 ^ 32 - 1)) % 2 ^ 32 ∧ SameMem s u) ∧
  (∀ (m : Mn) (f : Fetch) (s : State), bits f.w.toNat 29 3 = 0 → CoreFree f.core s → isMn f m = true → f.err = none →
    legalWord f.w.toNat (s.core f.core).arch.ipl = true → (s.core f.core).arch.ldepth = 1 → (s.core f.core).arch.get (kLE true) = (s.core f.core).arch.pc →
    (s.core f.core).arch.get (kLC true) = 1 → ∃ u, exec (m.row f) s = .next (settle (pump u)) ∧
      (u.core f.core).arch.pc = ((s.core f.core).arch.pc + 4) % 2 ^ 32 ∧ (u.core f.core).arch.ldepth = 0 ∧ SameMem s u)

/-- Multiplies with parallel moves (R226, R227, R234, R258, R266 to R268): MPY, MAC, MSU, MPY_UU, MAC_UU, MAC_SU and PARALLEL_MOVE of format 001.  The accumulator
takes its product, an X and a Y load fill their Q registers, a store writes its two bytes, each pointer used moves on, and ROT turns the register
file, all from the registers as they were.
Beside the spec it rests on the model's choices of notes/assumptions/24.md, notes/assumptions/25.md. -/
def Obligations.MultiplyAndMove : Prop :=
  ∀ (m : Mn) (f : Fetch) (s : State) (w xk yk mop : Nat) (a : Arch), f.w.toNat = w → (s.core f.core).arch = a → bits w 29 3 = 1 → CoreFree f.core s → WordRuns m f s →
    bits w 12 2 = xk → bits w 5 2 = yk → bits w 26 3 = mop → (xk ≠ 0 → xyAsleep s f.core false = false) → (yk ≠ 0 → xyAsleep s f.core true = false) →
    (xk ≠ 0 → xyCheck s f.core false (xk == 1) (a.get (kP (2 * bit w 8)) % 65536) 2 = none) → (xk = 1 → xyMark s f.core false (a.get (kP (2 * bit w 8)) % 65536) = 0) →
    (yk ≠ 0 → xyCheck s f.core true (yk == 1) (a.get (kP (1 + 2 * bit w 1)) % 65536) 2 = none) → (yk = 1 → xyMark s f.core true (a.get (kP (1 + 2 * bit w 1)) % 65536) = 0) →
    ∃ u, exec (m.row f) s = .next (settle (pump u)) ∧
      CoreAfter f.core s u (fun k =>
        if k = kSR then ((if mop = 0 then ({} : Flg) else (doMul a (if mop = 1 ∨ mop = 4 then 0 else if mop = 3 then 2 else 1) (bit w 25)
          (awlProduct a.sr (mop != 4 && mop != 5) (mop != 4 && mop != 5 && mop != 6) (a.get (a.q (bits w 19 5))) (a.get (a.q (bits w 14 5))))).2)).apply a.sr
        else if mop ≠ 0 ∧ k = kA (bit w 25) then (accumulateOp a.sr (if mop = 1 ∨ mop = 4 then 0 else if mop = 3 then 2 else 1) (a.get (kA (bit w 25)))
          (awlProduct a.sr (mop != 4 && mop != 5) (mop != 4 && mop != 5 && mop != 6) (a.get (a.q (bits w 19 5))) (a.get (a.q (bits w 14 5))))).1
        else if xk = 1 ∧ k = a.q (bits w 9 3) then s.rdMem 2 (xyAddr f.core false (a.get (kP (2 * bit w 8))))
        else if yk = 1 ∧ k = a.q (16 + bits w 2 3) then s.rdMem 2 (xyAddr f.core true (a.get (kP (1 + 2 * bit w 1))))
        else if xk ≠ 0 ∧ k = kP (2 * bit w 8) then a.pmod (2 * bit w 8) (if bit w 7 = 0 then 2 else toS 32 (a.get (kM (2 * bit w 8))))
        else if yk ≠ 0 ∧ k = kP (1 + 2 * bit w 1) then a.pmod (1 + 2 * bit w 1) (if bit w 0 = 0 then 2 else toS 32 (a.get (kM (1 + 2 * bit w 1))))
        else if bit w 24 = 1 ∧ k = kQRB then (a.get kQRB + 31) % 32 else a.get k) ((a.pc + 4) % 2 ^ 32) a.pc ∧
      (xk = 2 → u.rdMem 2 (xyAddr f.core false (a.get (kP (2 * bit w 8)))) = a.get (a.q (bits w 9 3)) % 65536) ∧
      (yk = 2 → u.rdMem 2 (xyAddr f.core true (a.get (kP (1 + 2 * bit w 1)))) = a.get (a.q (16 + bits w 2 3)) % 65536) ∧
      (∀ b, (xk = 2 → b < xyAddr f.core false (a.get (kP (2 * bit w 8))) ∨ xyAddr f.core false (a.get (kP (2 * bit w 8))) + 2 ≤ b) →
        (yk = 2 → b < xyAddr f.core true (a.get (kP (1 + 2 * bit w 1))) ∨ xyAddr f.core true (a.get (kP (1 + 2 * bit w 1))) + 2 ≤ b) → u.rdByte b = s.rdByte b) ∧
      SameRegsBut [AWL_PC_PC.key (oAwl f.core)] s u

/-- Loads and stores (R225, R227, R236, R269, R270).  LDX and LDY fill the data register from X or Y memory, STX and STY store it there and nowhere else, and the
pointer moves on.  An LDW that its data cache holds is filled at once; another sends one read and its register is pending.  An STW sends
one write and is waited for.  A misaligned access raises ALIGN with its address in XADDR, and a retained memory is woken first.
Beside the spec it rests on the model's choices of notes/assumptions/24.md, notes/assumptions/25.md, notes/assumptions/83.md. -/
def Obligations.LoadsAndStores : Prop :=
  (∀ (y : Bool) (f : Fetch) (s : State) (w ad p : Nat) (a : Arch), f.w.toNat = w → (s.core f.core).arch = a → CoreFree f.core s →
    WordRuns (if y then .ldy else .ldx) f s → accessAddr a w (accessSize w) = (ad, p) → xyAsleep s f.core y = false →
    xyCheck s f.core y true (ad % 65536) (accessSize w) = none → xyMark s f.core y (ad % 65536) = 0 →
    ∃ u, exec ((if y then Mn.ldy else Mn.ldx).row f) s = .next (settle (pump u)) ∧
      CoreAfter f.core s u ((fillReg (loadDest a w) (s.rdMem (accessSize w) (xyAddr f.core y ad)) (a.put (kP (bits w 14 3)) p)).flagged {}) ((a.pc + 4) % 2 ^ 32) a.pc ∧
      SameMem s u ∧ SameRegsBut [AWL_PC_PC.key (oAwl f.core)] s u) ∧
  (∀ (y : Bool) (f : Fetch) (s : State) (w ad p : Nat) (a : Arch), f.w.toNat = w → (s.core f.core).arch = a → CoreFree f.core s →
    WordRuns (if y then .sty else .stx) f s → accessAddr a w (accessSize w) = (ad, p) → xyAsleep s f.core y = false →
    xyCheck s f.core y false (ad % 65536) (accessSize w) = none → ∃ u, exec ((if y then Mn.sty else Mn.stx).row f) s = .next (settle (pump u)) ∧
      CoreAfter f.core s u ((a.put (kP (bits w 14 3)) p).flagged {}) ((a.pc + 4) % 2 ^ 32) a.pc ∧
      u.rdMem (accessSize w) (xyAddr f.core y ad) = storeValue a w % 256 ^ accessSize w ∧ SameMemOutside (xyAddr f.core y ad) (accessSize w) s u ∧
      SameRegsBut [AWL_PC_PC.key (oAwl f.core)] s u) ∧
  (∀ (f : Fetch) (s : State) (w lo p ad : Nat) (a : Arch), f.w.toNat = w → (s.core f.core).arch = a → CoreFree f.core s → WordRuns .ldw f s →
    accessAddr a w (accessSize w) = (lo, p) → a.get (kWS (bits w 14 3)) * 2 ^ 32 + lo = ad → ad % accessSize w = 0 → (∀ x ∈ (s.core f.core).stq, x.2 / 64 ≠ ad / 64) →
    ∃ u, exec (.awlLdw f) s = .next (settle (pump u)) ∧
      (cacheHit s f.core ad = true → CoreAfter f.core s u ((fillReg (loadDest a w) (s.rdMem (accessSize w) ad) (a.put (kP (bits w 14 3)) p)).flagged {}) ((a.pc + 4) % 2 ^ 32) a.pc) ∧
      (cacheHit s f.core ad = false → CoreAfter f.core s u ((a.put (kP (bits w 14 3)) p).flagged {}) ((a.pc + 4) % 2 ^ 32) a.last ∧
        (u.core f.core).wrq = (s.core f.core).wrq ++ [coreReq f.core RD (freeTagOf s f.core) ad (accessSize w) 0] ∧
        (∀ k ∈ destKeys (loadDest a w), k ∈ pendingKeys (u.core f.core))) ∧
      SameMem s u ∧ SameRegsBut [AWL_PC_PC.key (oAwl f.core)] s u) ∧
  (∀ (f : Fetch) (s : State) (w lo p ad : Nat) (a : Arch), f.w.toNat = w → (s.core f.core).arch = a → CoreFree f.core s → WordRuns .stw f s →
    accessAddr a w (accessSize w) = (lo, p) → a.get (kWS (bits w 14 3)) * 2 ^ 32 + lo = ad → ad % accessSize w = 0 → (s.core f.core).stq.length < 16 →
    ∃ u, exec (.awlStw f) s = .next (settle (pump u)) ∧ CoreAfter f.core s u ((a.put (kP (bits w 14 3)) p).flagged {}) ((a.pc + 4) % 2 ^ 32) a.pc ∧
      (u.core f.core).wrq = (s.core f.core).wrq ++ [coreReq f.core WR (freeTagOf s f.core) ad (accessSize w) (storeValue a w)] ∧
      (u.core f.core).stq = (s.core f.core).stq ++ [(freeTagOf s f.core, ad)] ∧ SameMem s u ∧ SameRegsBut [AWL_PC_PC.key (oAwl f.core)] s u) ∧
  (∀ (y : Bool) (f : Fetch) (s : State) (w ad p : Nat) (a : Arch), f.w.toNat = w → (s.core f.core).arch = a → CoreFree f.core s →
    WordRuns (if y then .ldy else .ldx) f s → accessAddr a w (accessSize w) = (ad, p) → xyAsleep s f.core y = false → ad % accessSize w ≠ 0 → a.ipl < 4 →
    inSession s f.core = false → ∃ u, exec ((if y then Mn.ldy else Mn.ldx).row f) s = .next (settle (pump u)) ∧
      CoreAfter f.core s u ((a.put kXADDR (ad % 65536)).raised 4 a.pc) (vector s f.core 4) a.last ∧ SameMem s u) ∧
  (∀ (y : Bool) (f : Fetch) (s : State), CoreFree f.core s → WordRuns (if y then .ldy else .ldx) f s → s.rdi (awlMemState y) (oAwl f.core) = 2 →
    ∃ u, exec ((if y then Mn.ldy else Mn.ldx).row f) s = .next (settle (pump u)) ∧ u.rdi (awlMemState y) (oAwl f.core) = 3 ∧ u.cores = s.cores ∧ SameMem s u)

/-- Moves and pointers (R223, R256, R257, R263, R271 to R273, R279): MOV, MOV_FROM_SYSREG, MOV_IMM16, LONG_IMMEDIATE, PMOD and PADD write the register that the word names.
MOV_TO_SYSREG changes no register at once; its write takes effect after the instruction that follows.
Beside the spec it rests on the model's choices of notes/assumptions/24.md, notes/assumptions/26.md. -/
def Obligations.MovesAndPointers : Prop :=
  (∀ (f : Fetch) (s : State) (w : Nat) (a : Arch), f.w.toNat = w → (s.core f.core).arch = a → CoreFree f.core s → WordRuns .mov f s →
    ∃ u, exec (.awlMov f) s = .next (settle (pump u)) ∧
      CoreAfter f.core s u ((a.rcPut (bits w 18 7) (a.movValue (bits w 18 7) (bits w 11 7)).1).flagged (({} : Flg).stick srLS (a.movValue (bits w 18 7) (bits w 11 7)).2))
        ((a.pc + 4) % 2 ^ 32) a.pc ∧ SameMem s u ∧ SameRegsBut [AWL_PC_PC.key (oAwl f.core)] s u) ∧
  (∀ (f : Fetch) (s : State) (w : Nat) (a : Arch), f.w.toNat = w → (s.core f.core).arch = a → CoreFree f.core s → WordRuns .movFromSys f s → bits w 13 5 ≠ 18 →
    ∃ u, exec (.awlMovFromSysreg f) s = .next (settle (pump u)) ∧
      CoreAfter f.core s u ((a.rcPut (bits w 18 7) (if bits w 13 5 = 16 then f.fin.toNat else sysRead s f.core (bits w 13 5))).flagged {}) ((a.pc + 4) % 2 ^ 32) a.pc ∧ SameMem s u ∧
      SameRegsBut [AWL_PC_PC.key (oAwl f.core)] s u) ∧
  (∀ (f : Fetch) (s : State) (w : Nat), f.w.toNat = w → CoreFree f.core s → WordRuns .movFromSys f s → bits w 13 5 = 18 →
    ∃ u, exec (.awlMovFromSysreg f) s = .next (settle (pump u)) ∧ (u.core f.core).msgq = (s.core f.core).msgq.drop 1 ∧
      (u.core f.core).arch.rcGet (bits w 18 7) % 2 ^ 8 = (s.core f.core).msgq.getD 0 0 % 2 ^ 8 ∧ SameMem s u) ∧
  (∀ (f : Fetch) (s : State) (w d v : Nat) (a : Arch), f.w.toNat = w → bits w 18 7 = d → (s.core f.core).arch = a → CoreFree f.core s → WordRuns .movImm f s →
    (if bits w 16 2 = 0 then sext 16 (rcWidth d) (bits w 0 16) else if bits w 16 2 = 1 then bits w 0 16 else bits w 0 16 * 65536 + a.rcGet d % 65536) = v →
    ∃ u, exec (.awlMovImm16 f) s = .next (settle (pump u)) ∧ CoreAfter f.core s u ((a.rcPut d v).flagged {}) ((a.pc + 4) % 2 ^ 32) a.pc ∧ SameMem s u ∧
      SameRegsBut [AWL_PC_PC.key (oAwl f.core)] s u) ∧
  (∀ (f : Fetch) (s : State) (w : Nat) (a : Arch), f.w.toNat = w → (s.core f.core).arch = a → CoreFree f.core s → WordRuns .long f s → bits w 25 4 = 0 →
    ∃ u, exec (.awlLongImmediate f) s = .next (settle (pump u)) ∧
      CoreAfter f.core s u ((a.rcPut (bits w 18 7) (if rcWidth (bits w 18 7) = 40 then sext 32 40 f.w2.toNat else f.w2.toNat)).flagged {}) ((a.pc + 8) % 2 ^ 32) a.pc ∧
      SameMem s u ∧ SameRegsBut [AWL_PC_PC.key (oAwl f.core)] s u) ∧
  (∀ (f : Fetch) (s : State) (w sz : Nat) (r : Nat × Flg) (a : Arch), f.w.toNat = w → bits w 18 2 = sz → (s.core f.core).arch = a → CoreFree f.core s → WordRuns .long f s →
    bits w 25 4 = 1 → aluOp a.sr (bits w 20 5) sz (a.opGet sz (bits w 8 5)) (if sz = 2 then sext 32 40 f.w2.toNat else f.w2.toNat) = r →
    ∃ u, exec (.awlLongImmediate f) s = .next (settle (pump u)) ∧
      CoreAfter f.core s u ((if bits w 20 5 = 3 then a else a.opPut sz (bits w 13 5) r.1).flagged r.2) ((a.pc + 8) % 2 ^ 32) a.pc ∧ SameMem s u) ∧
  (∀ (f : Fetch) (s : State) (w n : Nat) (a : Arch), f.w.toNat = w → bits w 23 3 = n → (s.core f.core).arch = a → CoreFree f.core s → WordRuns .pmod f s →
    ∃ u, exec (.awlPmod f) s = .next (settle (pump u)) ∧
      CoreAfter f.core s u ((a.put (kP n) (a.pmod n (if bits w 26 3 = 0 then toS 32 (a.get (kM (bits w 17 3))) else toS 16 (bits w 0 16)))).flagged {}) ((a.pc + 4) % 2 ^ 32) a.pc ∧
      SameMem s u ∧ SameRegsBut [AWL_PC_PC.key (oAwl f.core)] s u) ∧
  (∀ (f : Fetch) (s : State) (w n : Nat) (a : Arch), f.w.toNat = w → bits w 23 3 = n → (s.core f.core).arch = a → CoreFree f.core s → WordRuns .padd f s →
    ∃ u, exec (.awlPadd f) s = .next (settle (pump u)) ∧
      CoreAfter f.core s u ((a.put (kP n) ((a.get (kP (bits w 20 3)) + a.get (kM (bits w 17 3))) % 2 ^ 32)).flagged {}) ((a.pc + 4) % 2 ^ 32) a.pc ∧
      SameMem s u ∧ SameRegsBut [AWL_PC_PC.key (oAwl f.core)] s u) ∧
  (∀ (f : Fetch) (s : State) (w : Nat) (a : Arch), f.w.toNat = w → (s.core f.core).arch = a → CoreFree f.core s → WordRuns .movToSys f s →
    ∃ u, exec (.awlMovToSysreg f) s = .next (settle (pump u)) ∧
      CoreAfter f.core s u (a.flagged (({} : Flg).stick srLS (a.movValue 0 (bits w 13 7)).2)) ((a.pc + 4) % 2 ^ 32) a.pc ∧
      (u.core f.core).arch.pend = some (bits w 20 5, (a.movValue 0 (bits w 13 7)).1 % 2 ^ 32) ∧ SameMem s u ∧ SameRegsBut [AWL_PC_PC.key (oAwl f.core)] s u) ∧
  (∀ (f : Fetch) (s : State) (v : Nat) (a : Arch), (s.core f.core).arch = a → CoreQuiet f.core s → a.pend = some (2, v) → WordRuns .nop f s →
    ∃ u, exec (.awlNop f) s = .next (settle (pump u)) ∧ (u.core f.core).arch.pend = none ∧
      CoreAfter f.core s u ((a.put kVBR (v / 256 * 256 % 2 ^ 32)).flagged {}) ((a.pc + 4) % 2 ^ 32) a.pc ∧ SameMem s u)

/-- Branches and loops (R224, R232, R274, R275, R279): BR, BRC, CALL, RET, RTI, LOOP, and the long forms of branch, CALL, BRC and LOOP.  A branch goes to a register's or its offset's
word; CALL leaves the return address in G15; RTI takes SR and the PC back from its level; LOOP of a count opens a level, of 0 skips the body, and a third level
raises LOOP.
Beside the spec it rests on the model's choices of notes/assumptions/24.md. -/
def Obligations.Branches : Prop :=
  (∀ (f : Fetch) (s : State) (w : Nat) (a : Arch), f.w.toNat = w → (s.core f.core).arch = a → CoreFree f.core s → WordRuns .br f s →
    ∃ u, exec (.awlBr f) s = .next (settle (pump u)) ∧
      CoreAfter f.core s u (a.flagged {}) (if bit w 25 = 1 then a.get (bits w 21 4) / 4 * 4 else ofS 32 ((a.pc : Int) + 4 * toS 25 (bits w 0 25))) a.pc ∧
      SameMem s u ∧ SameRegsBut [AWL_PC_PC.key (oAwl f.core)] s u) ∧
  (∀ (f : Fetch) (s : State) (w : Nat) (a : Arch), f.w.toNat = w → (s.core f.core).arch = a → CoreFree f.core s → WordRuns .brc f s →
    ∃ u, exec (.awlBrc f) s = .next (settle (pump u)) ∧
      CoreAfter f.core s u (a.flagged {}) (if condHolds (bits w 22 4) a.sr then ofS 32 ((a.pc : Int) + 4 * toS 22 (bits w 0 22)) else (a.pc + 4) % 2 ^ 32) a.pc ∧
      SameMem s u ∧ SameRegsBut [AWL_PC_PC.key (oAwl f.core)] s u) ∧
  (∀ (f : Fetch) (s : State) (w : Nat) (a : Arch), f.w.toNat = w → (s.core f.core).arch = a → CoreFree f.core s → WordRuns .call f s →
    ∃ u, exec (.awlCall f) s = .next (settle (pump u)) ∧ CoreAfter f.core s u ((a.put 15 ((a.pc + 4) % 2 ^ 32)).flagged {})
      (if bit w 25 = 1 then a.get (bits w 21 4) / 4 * 4 else ofS 32 ((a.pc : Int) + 4 * toS 25 (bits w 0 25))) a.pc ∧ SameMem s u) ∧
  (∀ (f : Fetch) (s : State) (w : Nat) (a : Arch), f.w.toNat = w → (s.core f.core).arch = a → CoreFree f.core s → WordRuns .ret f s →
    ∃ u, exec (.awlRet f) s = .next (settle (pump u)) ∧ CoreAfter f.core s u (a.flagged {}) (a.get (bits w 22 4) / 4 * 4) a.pc ∧ SameMem s u) ∧
  (∀ (f : Fetch) (s : State) (a : Arch), (s.core f.core).arch = a → CoreFree f.core s → WordRuns .rti f s → a.ipl ≠ 5 →
    ∃ u, exec (.awlRti f) s = .next (settle (pump u)) ∧ CoreAfter f.core s u ((a.put kSR (a.get (kRSR a.ipl))).flagged {}) (a.get (kRPC a.ipl) / 4 * 4) a.pc ∧
      SameMem s u ∧ SameRegsBut [AWL_PC_PC.key (oAwl f.core)] s u) ∧
  (∀ (f : Fetch) (s : State) (a : Arch), (s.core f.core).arch = a → CoreFree f.core s → WordRuns .rti f s → a.ipl = 5 → inSession s f.core = true →
    ∃ u, exec (.awlRti f) s = .next (settle (pump u)) ∧ CoreAfter f.core s u ((a.put kSR (a.get (kRSR 5))).flagged {}) (a.get (kRPC 5) / 4 * 4) a.pc ∧
      inSession u f.core = false ∧ SameMem s u) ∧
  (∀ (f : Fetch) (s : State) (w count : Nat) (a : Arch), f.w.toNat = w → (s.core f.core).arch = a → CoreFree f.core s → WordRuns .loop f s →
    (if bits w 26 3 = 5 then bits w 14 12 else a.get (bits w 22 4)) = count → count ≠ 0 → a.ldepth < 2 → ∃ u, exec (.awlLoop f) s = .next (settle (pump u)) ∧
      CoreAfter f.core s u ((((((a.put (kLC (a.ldepth == 0)) count).put (kLS (a.ldepth == 0)) ((a.pc + 4) % 2 ^ 32)).put (kLE (a.ldepth == 0))
        (ofS 32 ((a.pc : Int) + 4 * (bits w 0 14 : Nat)))).srPut 20 2 (a.ldepth + 1))).flagged {}) ((a.pc + 4) % 2 ^ 32) a.pc ∧ SameMem s u) ∧
  (∀ (f : Fetch) (s : State) (w le : Nat) (a : Arch), f.w.toNat = w → (s.core f.core).arch = a → CoreFree f.core s → WordRuns .loop f s →
    (if bits w 26 3 = 5 then bits w 14 12 else a.get (bits w 22 4)) = 0 → a.ldepth < 2 → ofS 32 ((a.pc : Int) + 4 * (bits w 0 14 : Nat)) = le →
    ∃ u, exec (.awlLoop f) s = .next (settle (pump u)) ∧
      CoreAfter f.core s u (a.flagged {}) ((le + 4 * wordsOf (s.rdMem 4 (a.get kPSEG * 2 ^ 32 + le))) % 2 ^ 32) a.pc ∧ SameMem s u) ∧
  (∀ (f : Fetch) (s : State) (a : Arch), (s.core f.core).arch = a → CoreFree f.core s → WordRuns .loop f s → 2 ≤ a.ldepth → a.ipl < 4 → inSession s f.core = false →
    ∃ u, exec (.awlLoop f) s = .next (settle (pump u)) ∧ CoreAfter f.core s u (a.raised 5 a.pc) (vector s f.core 5) a.last ∧ SameMem s u) ∧
  (∀ (f : Fetch) (s : State) (w : Nat) (a : Arch), f.w.toNat = w → (s.core f.core).arch = a → CoreFree f.core s → WordRuns .long f s → bits w 25 4 = 2 →
    ∃ u, exec (.awlLongImmediate f) s = .next (settle (pump u)) ∧
      CoreAfter f.core s u ((if bit w 24 = 1 then a.put 15 ((a.pc + 8) % 2 ^ 32) else a).flagged {}) (f.w2.toNat / 4 * 4) a.pc ∧ SameMem s u) ∧
  (∀ (f : Fetch) (s : State) (w : Nat) (a : Arch), f.w.toNat = w → (s.core f.core).arch = a → CoreFree f.core s → WordRuns .long f s → bits w 25 4 = 3 →
    ∃ u, exec (.awlLongImmediate f) s = .next (settle (pump u)) ∧
      CoreAfter f.core s u (a.flagged {}) (if condHolds (bits w 21 4) a.sr then f.w2.toNat / 4 * 4 else (a.pc + 8) % 2 ^ 32) a.pc ∧ SameMem s u) ∧
  (∀ (f : Fetch) (s : State) (w : Nat) (a : Arch), f.w.toNat = w → (s.core f.core).arch = a → CoreFree f.core s → WordRuns .long f s → bits w 25 4 = 4 →
    f.w2.toNat ≠ 0 → a.ldepth < 2 → ∃ u, exec (.awlLongImmediate f) s = .next (settle (pump u)) ∧
      CoreAfter f.core s u ((((((a.put (kLC (a.ldepth == 0)) f.w2.toNat).put (kLS (a.ldepth == 0)) ((a.pc + 8) % 2 ^ 32)).put (kLE (a.ldepth == 0))
        (ofS 32 ((a.pc : Int) + 4 * (bits w 0 14 : Nat)))).srPut 20 2 (a.ldepth + 1))).flagged {}) ((a.pc + 8) % 2 ^ 32) a.pc ∧ SameMem s u)

/-- System instructions (R244 to R246, R234, R241, R278, R550 to R552).  NOP changes nothing; ROT turns the register file; LOCK opens a window of LEN + 1 further words, with LKW;
WAIT with no enabled source pending leaves the core in WAIT; FENCE with nothing outstanding changes nothing; EI and DI set IE.  TRAP raises vector 7 with its
immediate in XCAUSE, returning after itself.  DBG does nothing unless the monitor may be entered, and then enters it, returning after itself.
Beside the spec it rests on the model's choices of notes/assumptions/24.md, notes/assumptions/26.md. -/
def Obligations.SystemInstructions : Prop :=
  (∀ (f : Fetch) (s : State) (a : Arch), (s.core f.core).arch = a → CoreFree f.core s → WordRuns .nop f s → ∃ u, exec (.awlNop f) s = .next (settle (pump u)) ∧
    CoreAfter f.core s u (a.flagged {}) ((a.pc + 4) % 2 ^ 32) a.pc ∧ SameMem s u ∧ SameRegsBut [AWL_PC_PC.key (oAwl f.core)] s u) ∧
  (∀ (f : Fetch) (s : State) (a : Arch), (s.core f.core).arch = a → CoreFree f.core s → WordRuns .rot f s → ∃ u, exec (.awlRot f) s = .next (settle (pump u)) ∧
    CoreAfter f.core s u ((a.put kQRB ((a.get kQRB + 31) % 32)).flagged {}) ((a.pc + 4) % 2 ^ 32) a.pc ∧ SameMem s u) ∧
  (∀ (f : Fetch) (s : State) (a : Arch), (s.core f.core).arch = a → CoreFree f.core s → WordRuns .lock f s → (s.core f.core).stq = [] →
    ∃ u, exec (.awlLock f) s = .next (settle (pump u)) ∧ CoreAfter f.core s u ((a.srPut 22 1 1).flagged {}) ((a.pc + 4) % 2 ^ 32) a.pc ∧
      (∃ win, (u.core f.core).lk = some win ∧ win.left = f.w.toNat % 4 + 1 ∧ win.ckpt = a) ∧ SameMem s u) ∧
  (∀ (f : Fetch) (s : State) (a : Arch), (s.core f.core).arch = a → CoreFree f.core s → WordRuns .wait f s → ∃ u, exec (.awlWait f) s = .next (settle (pump u)) ∧
    CoreAfter f.core s u (a.flagged {}) ((a.pc + 4) % 2 ^ 32) a.pc ∧ awlState u f.core = (if irqReady s f.core = 0 then awlWAIT else awlRUN) ∧ SameMem s u) ∧
  (∀ (f : Fetch) (s : State) (a : Arch), (s.core f.core).arch = a → CoreFree f.core s → WordRuns .fence f s → (s.core f.core).stq = [] →
    ∃ u, exec (.awlFence f) s = .next (settle (pump u)) ∧ CoreAfter f.core s u (a.flagged {}) ((a.pc + 4) % 2 ^ 32) a.pc ∧ SameMem s u) ∧
  (∀ (f : Fetch) (s : State), CoreFree f.core s → WordRuns .fence f s → (s.core f.core).stq ≠ [] →
    ∃ u, exec (.awlFence f) s = .next (settle (pump u)) ∧ u.cores = s.cores ∧ SameMem s u) ∧
  (∀ (f : Fetch) (s : State) (a : Arch) (ei : Bool), (s.core f.core).arch = a → CoreFree f.core s → WordRuns (if ei then .ei else .di) f s →
    ∃ u, exec ((if ei then Mn.ei else Mn.di).row f) s = .next (settle (pump u)) ∧
      CoreAfter f.core s u ((a.srPut 23 1 ei.toNat).flagged {}) ((a.pc + 4) % 2 ^ 32) a.pc ∧ SameMem s u) ∧
  (∀ (f : Fetch) (s : State) (a : Arch), (s.core f.core).arch = a → CoreFree f.core s → WordRuns .trap f s → a.ipl < 4 → inSession s f.core = false → a.sr < 2 ^ 32 →
    ∃ u, exec (.awlTrap f) s = .next (settle (pump u)) ∧
      CoreAfter f.core s u ((a.put kXCAUSE (putBits (a.get kXCAUSE) 8 8 (f.w.toNat % 256))).raised 7 ((a.pc + 4) % 2 ^ 32)) (vector s f.core 7) a.pc ∧ SameMem s u) ∧
  (∀ (f : Fetch) (s : State) (a : Arch), (s.core f.core).arch = a → CoreFree f.core s → WordRuns .dbg f s → cannotEnter s f.core = true →
    ∃ u, exec (.awlDbg f) s = .next (settle (pump u)) ∧ CoreAfter f.core s u (a.flagged {}) ((a.pc + 4) % 2 ^ 32) a.pc ∧ SameMem s u ∧
      SameRegsBut [AWL_PC_PC.key (oAwl f.core)] s u) ∧
  (∀ (f : Fetch) (s : State) (a : Arch), (s.core f.core).arch = a → CoreFree f.core s → WordRuns .dbg f s → cannotEnter s f.core = false →
    ∃ u, exec (.awlDbg f) s = .next (settle (pump u)) ∧ inSession u f.core = true ∧ (u.core f.core).arch.ipl = 5 ∧
      (u.core f.core).arch.get (kRPC 5) = (a.pc + 4) % 2 ^ 32 ∧ u.rdi DBG_STAT_CODE (oDbg f.core) = f.w.toNat % 256 ∧ u.rdi DBG_STAT_CAUSE (oDbg f.core) = 1 ∧ SameMem s u)

/-- Exceptions and double faults (R238 to R240, R243, R254).  A word that no instruction has raises vector 1, a fetch that fails vector 3 with its status in XCAUSE: below level 4 and outside a
session the level becomes 4, with the return address and SR saved; otherwise the core is FAULTED.  A word that has a mnemonic at its level is no
reserved encoding.
Beside the spec it rests on the model's choices of notes/assumptions/24.md, notes/assumptions/26.md. -/
def Obligations.AwlExceptions : Prop :=
  (∀ (f : Fetch) (s : State) (a : Arch), (s.core f.core).arch = a → CoreFree f.core s → f.err = none → legalWord f.w.toNat a.ipl = false → a.ipl < 4 →
    inSession s f.core = false → ∃ u, exec (.reservedEncoding f) s = .next (settle (pump u)) ∧
      CoreAfter f.core s u (a.raised 1 a.pc) (vector s f.core 1) a.last ∧ SameMem s u ∧ SameRegsBut [AWL_PC_PC.key (oAwl f.core)] s u) ∧
  (∀ (f : Fetch) (s : State) (a : Arch), (s.core f.core).arch = a → CoreFree f.core s → f.err = none → legalWord f.w.toNat a.ipl = false →
    4 ≤ a.ipl ∨ inSession s f.core = true → ∃ u, exec (.reservedEncoding f) s = .next (settle (pump u)) ∧ awlState u f.core = awlFAULTED ∧
      u.rdi AWL_STAT_DFAULT (oAwl f.core) = 1 ∧ inSession u f.core = false ∧ SameMem s u) ∧
  (∀ (f : Fetch) (s : State), legalWord f.w.toNat (s.core f.core).arch.ipl = true → exec (.reservedEncoding f) s = .next s) ∧
  (∀ (m : Mn) (f : Fetch) (s : State) (a : Arch) (st : Nat), (s.core f.core).arch = a → CoreFree f.core s → isMn f m = true → f.err = some st → a.ipl < 4 → inSession s f.core = false →
    ∃ u, exec (m.row f) s = .next (settle (pump u)) ∧ (u.core f.core).arch.pc = vector s f.core 3 ∧ (u.core f.core).arch.get (kRPC 4) = a.pc ∧
      (u.core f.core).arch.get (kRSR 4) = a.sr ∧ (u.core f.core).arch.ipl = 4 ∧ u.rdi AWL_FAULT_STATUS (oAwl f.core) = st % 2 ^ AWL_FAULT_STATUS.w ∧ SameMem s u) ∧
  (∀ (m : Mn) (f : Fetch) (s : State), coreRuns s f.core = false → ∃ u, exec (m.row f) s = .next (settle (pump u)) ∧ u = s)

/-- Control of the cores (R220, R221, R239, R241, R249).  START runs a core from its reset vector in RUN or SHIFT, and ends with ST_AWL_STATE elsewhere; STOP of a core with
nothing under way leaves it STOPPED; RESET leaves it in RESET.  ISET and a fabric line make a source pending.  The highest enabled source above the level is
entered through its vector, and its latch cleared.  The watchdog's first expiry raises its exception; its second resets the core, or takes the region to SAFE.
Beside the spec it rests on the model's choices of notes/assumptions/5.md, notes/assumptions/27.md, notes/assumptions/76.md, notes/assumptions/77.md. -/
def Obligations.AwlControl : Prop :=
  (∀ (s : State) (c : Fin 384), s.dieUp (c / 32) = true → s.mode = RUN ∨ s.mode = SHIFT → awlState s c = awlRESET → Yields (exec (.awlStart c) s) fun t =>
    awlState t c = awlRUN ∧ (t.core c).arch.pc = vector s c 0 ∧ t.rdi AWL_CTL_STATUS (oAwl c) = 0 ∧ (∀ k, k ≠ c.val → t.core k = s.core k) ∧ SameMem s t) ∧
  (∀ (s : State) (c : Fin 384), s.dieUp (c / 32) = true → s.mode ≠ RUN → s.mode ≠ SHIFT → Yields (exec (.awlStart c) s) fun t =>
    t.rdi AWL_CTL_STATUS (oAwl c) = ST_AWL_STATE ∧ t.cores = s.cores ∧ awlState t c = awlState s c ∧ SameMem s t ∧ SameRegsBut [AWL_CTL_STATUS.key (oAwl c)] s t) ∧
  (∀ (s : State) (c : Fin 384), s.dieUp (c / 32) = true → awlState s c = awlRUN → (s.core c).lk = none → (s.core c).loads = [] → (s.core c).stq = [] →
    Yields (exec (.awlStop c) s) fun t => awlState t c = awlSTOPPED ∧ t.rdi AWL_STAT_MODESTOP (oAwl c) = 0 ∧ t.rdi AWL_CTL_STATUS (oAwl c) = 0 ∧
      (t.core c).arch = (s.core c).arch ∧ (∀ k, k ≠ c.val → t.core k = s.core k) ∧ SameMem s t) ∧
  (∀ (s : State) (c : Fin 384), s.dieUp (c / 32) = true → Yields (exec (.awlReset c) s) fun t =>
    awlState t c = awlRESET ∧ (t.core c).loads = [] ∧ (t.core c).dlines = [] ∧ (t.core c).arch.get kVBR = (s.core c).arch.get kVBR ∧ (t.core c).arch.sr = ({} : Arch).sr ∧
      t.rdi AWL_CTL_STATUS (oAwl c) = 0 ∧ (∀ k, k ≠ c.val → t.core k = s.core k) ∧ SameMem s t) ∧
  (∀ (s : State) (c : Fin 384) (v : BitVec 32), s.dieUp (c / 32) = true → Yields (exec (.awlIsetWrite c v) s) fun t =>
    (t.core c).soft = (s.core c).soft ||| v.toNat ∧ (t.core c).arch = (s.core c).arch ∧
      (awlState s c = awlWAIT → irqReady s c ||| (v.toNat &&& s.rdi AWL_IEN_EN (oAwl c)) ≠ 0 → awlState t c = awlRUN) ∧ SameMem s t) ∧
  (∀ (s : State) (c : Fin 384) (k : Fin 16), s.dieUp (c / 32) = true → bit (s.core c).lines k = 0 → bit (s.rdi AWL_ICFG_EDGE (oAwl c)) k = 1 →
    Yields (exec (.fabricIrq c k true) s) fun t => bit (t.core c).lines k = 1 ∧ bit (t.core c).edge k = 1 ∧ SameMem s t) ∧
  (∀ (s : State) (c : Fin 384) (k : Fin 16), s.dieUp (c / 32) = true → Yields (exec (.fabricIrq c k false) s) fun t =>
    bit (t.core c).lines k = 0 ∧ (t.core c).edge = (s.core c).edge ∧ SameMem s t) ∧
  (∀ (s : State) (c : Fin 384) (n : Nat) (a : Arch), CoreFree c s → (s.core c).arch = a → bit a.sr 23 = 1 → bestSrc s c (irqFloor s c) = some n →
    Yields (exec (.interruptEntry c) s) fun t =>
      CoreAfter c s t (fun k => if k = kRPC (srcLevel s c n) then a.pc else if k = kRSR (srcLevel s c n) then a.sr
        else if k = kSR then putBits (putBits a.sr 24 3 (srcLevel s c n)) 22 1 0 else a.get k) (vector s c (16 + n)) a.last ∧
      bit (t.core c).soft n = 0 ∧ SameMem s t ∧ SameRegsBut [AWL_PC_PC.key (oAwl c)] s t) ∧
  (∀ (s : State) (c : Fin 384), CoreFree c s → bit (s.core c).arch.sr 23 = 0 → exec (.interruptEntry c) s = .next s) ∧
  (∀ (s : State) (c : Fin 384), wdRuns s c = true → (s.core c).wdFirst = false → Yields (exec (.watchdogFirstExpiry c) s) fun t =>
    (t.core c).wdFirst = true ∧ t.rdi AWL_STAT_WDEXC (oAwl c) = 1 ∧ SameMem s t) ∧
  (∀ (s : State) (c : Fin 384), wdRuns s c = true → (s.core c).wdFirst = true → s.rdi AWL_WDGCFG_ACT (oAwl c) ≠ 1 → Yields (exec (.watchdogSecondExpiry c) s) fun t =>
    awlState t c = awlRESET ∧ t.rdi AWL_STAT_WDBITE (oAwl c) = 1 ∧ SameMem s t) ∧
  (∀ (s : State) (c : Fin 384), s.mode ≠ DORMANT → wdRuns s c = true → (s.core c).wdFirst = true → s.rdi AWL_WDGCFG_ACT (oAwl c) = 1 →
    Yields (exec (.watchdogSecondExpiry c) s) fun t => t.mode = SAFE)

/-! DRAM and the Cobbler (spec/13, spec/14) -/

/-- DRAM traffic (R343 to R352, R355, R356, R360).  A read of a line that is filled and not queued returns its bytes; a write enters the queue of its channel, whose memory
it does not change yet; draining a pair writes the queued bytes of its line and no other byte.  The fill lowers its mark, and at pair 0 the channel
is FILLED.  A refresh is postponed four times at most; the temperature sets the refresh rate and HOT.
Beside the spec it rests on the model's choices of notes/assumptions/9.md, notes/assumptions/11.md. -/
def Obligations.DramTraffic : Prop :=
  (∀ (s : State) (q : Req) (c : Nat), reqOk q = true → NetIdle s → PortOpen q.src s → TagFree q.src q.tag s → bits q.addr 8 3 = c →
    injectCheck s { q with op := RD } = .inr (epDram c) → drcState s c = drcREADY → s.rdi DRC_FILLWM_WM (oCh c) = 0 → (s.chan c).wq = [] → (s.chan c).marks = [] →
    Yields (exec (.rd q) s) fun t =>
      (∃ v, Answers q RD (epDram c) RDR v (q.uidx + 1) s t ∧ ∀ i, q.bfirst ≤ i → i ≤ 64 * q.uidx + q.blast → v / 256 ^ i % 256 = s.rdByte (q.addr + i)) ∧
      SameMem s t ∧ SameRegsBut [] s t) ∧
  (∀ (s : State) (q : Req) (c : Nat) (w : WUnit), reqOk q = true → NetIdle s → PortOpen q.src s → TagFree q.src q.tag s → bits q.addr 8 3 = c → q.units = [w] → w.first = 0 → w.last = 63 →
    injectCheck s { q with op := WR } = .inr (epDram c) → drcState s c = drcREADY → s.rdi DRC_FILLWM_WM (oCh c) = 0 → (s.chan c).wq = [] → Yields (exec (.wr q) s) fun t =>
      Answers q WR (epDram c) WRA 0 0 s t ∧ (t.chan c).wq = [⟨lineOfAddr q.addr, fullMask, w.data⟩] ∧ SameMem s t ∧ SameRegsBut [] s t) ∧
  (∀ (s : State) (c : Fin 8) (i : Fin 64) (e : WqEnt), (s.chan c).wq[i.val]? = some e → drcState s c = drcREADY →
    (s.chan c).wq.filter (fun x => x.line / 2 == e.line / 2) = [e] → tabGet 0 (s.chan c).marks e.line = 0 → tabGet 0 (s.chan c).marks (2 * (e.line / 2)) = 0 →
    tabGet 0 (s.chan c).marks (2 * (e.line / 2) + 1) = 0 → ∃ u, exec (.dramWriteQueueDrain c i) s = .next (pump u) ∧
      (u.chan c).wq = (s.chan c).wq.filter (fun x => x.line / 2 != e.line / 2) ∧
      (∀ j, j < 64 → u.rdByte (addrOfLine c e.line + j) = if bit e.mask j = 1 then e.data / 256 ^ j % 256 else s.rdByte (addrOfLine c e.line + j)) ∧
      SameMemOutside (addrOfLine c e.line) 64 s u ∧ SameRegsBut [] s u) ∧
  (∀ (s : State) (c : Fin 8) (b : Fin 32), Yields (exec (.dramPageIdleExpiry c b) s) fun t => tabGet 0 (t.chan c).rows b = 0 ∧
    (∀ x, x ≠ b.val → tabGet 0 (t.chan c).rows x = tabGet 0 (s.chan c).rows x) ∧ (t.chan c).wq = (s.chan c).wq ∧ SameRegsBut [] s t ∧ SameMem s t) ∧
  (∀ (s : State) (c : Fin 8) (b : Fin 32), drcState s c = drcREADY → tabGet 0 (s.chan c).post b < 4 → Yields (exec (.dramRefresh c b true) s) fun t =>
    tabGet 0 (t.chan c).post b = tabGet 0 (s.chan c).post b + 1 ∧ (t.chan c).rows = (s.chan c).rows ∧ SameRegsBut [] s t ∧ SameMem s t) ∧
  (∀ (s : State) (c : Fin 8) (b : Fin 32) (postpone : Bool), drcState s c = drcREADY → postpone = false ∨ 4 ≤ tabGet 0 (s.chan c).post b →
    Yields (exec (.dramRefresh c b postpone) s) fun t => tabGet 0 (t.chan c).post b = 0 ∧ tabGet 0 (t.chan c).rows b = 0 ∧ SameRegsBut [] s t ∧ SameMem s t) ∧
  (∀ (s : State) (c : Fin 8) (x : Int), 85 < x → x ≤ 95 → Yields (exec (.dramTemperatureRead c x) s) fun t => t.rdi DRC_CHSTAT_TRATE (oCh c) = 1 ∧
    SameRegsBut [DRC_CHSTAT_TRATE.key (oCh c), DRC_CHSTAT_HOT.key (oCh c)] s t ∧ SameMem s t) ∧
  (∀ (s : State) (c : Fin 8) (x : Int), 95 < x → Yields (exec (.dramTemperatureRead c x) s) fun t => t.rdi DRC_CHSTAT_TRATE (oCh c) = 1 ∧
    (s.rdi DRC_CHSTAT_HOT (oCh c) ≤ 1 → t.rdi DRC_CHSTAT_HOT (oCh c) = 1) ∧ t.mode = s.mode ∧ SameMem s t) ∧
  (∀ (s : State) (c : Fin 8) (x : Int), x < 82 → Yields (exec (.dramTemperatureRead c x) s) fun t =>
    t.rdi DRC_CHSTAT_TRATE (oCh c) = 0 ∧ t.rdi DRC_CHSTAT_HOT (oCh c) = 0 ∧ SameMem s t) ∧
  (∀ (s : State) (c : Fin 8) (wm : Nat), drcState s c = drcREADY → wm < s.rdi DRC_FILLWM_WM (oCh c) → wm < 2 ^ DRC_FILLWM_WM.w → ∃ u, exec (.dramZeroFill c wm) s = .next (pump u) ∧
    u.rdi DRC_FILLWM_WM (oCh c) = wm ∧ (wm = 0 → bit (u.rd DRC_STAT_FILLED) c = 1) ∧ SameMem s u)

/-- DRAM training and repair (R357 to R364).  A track moves each stored eye's centre by two steps at most; a lane that retrains takes the eyes found, and one whose eye is narrower
than MINEYE fails its channel and enters SAFE.  A remap gives its line the next spare, and with no spare left ends with ST_DRC_REMAP_FULL.  A channel that
is not READY refuses the commands with ST_DRC_STATE.
Beside the spec it rests on the model's choices of notes/assumptions/5.md, notes/assumptions/30.md. -/
def Obligations.DramTraining : Prop :=
  (∀ (s : State) (c : Fin 8) (edges : List (Nat × Nat × Nat)) (runs : List (Nat × Nat × Nat × Nat)) (now : Bool), drcState s c = drcREADY →
    (now = false → s.rd DRC_CTL_TRKEN = 1) → (now = true → s.rdi DRC_CHCMD_BUSY (oCh c) = 0) →
    (∀ i, i < 20 → ∃ l r, edges.find? (fun e => e.1 == i) = some (i, l, r) ∧ l + s.rd DRC_TRKCFG_MINEYE ≤ r + 1) →
    Yields (exec (if now then .drcTrackNow c edges runs else .dramTrack c edges runs) s) fun t =>
      (∀ i l r, i < 20 → edges.find? (fun e => e.1 == i) = some (i, l, r) → tabGet {} (t.chan c).eyes i =
        { tabGet {} (s.chan c).eyes i with left := l, right := r, centre := moveCentre (tabGet {} (s.chan c).eyes i).centre ((l + r) / 2) }) ∧
      drcState t c = drcREADY ∧ (now = true → t.rdi DRC_CHCMD_STATUS (oCh c) = 0 ∧ t.rdi DRC_CHCMD_BUSY (oCh c) = 0) ∧ t.mode = s.mode ∧ SameMem s t) ∧
  (∀ old new, moveCentre old new ≤ old + 2 ∧ old ≤ moveCentre old new + 2 ∧ (new ≤ old + 2 → old ≤ new + 2 → moveCentre old new = new)) ∧
  (∀ (s : State) (c : Fin 8) (lane : Fin 16) (runs : List (Nat × Nat × Nat × Nat)), drcState s c = drcREADY → s.rdi DRC_CHCMD_BUSY (oCh c) = 0 → lane.val < 10 →
    s.rd DRC_TRKCFG_MINEYE ≤ (eyeSearch runs (c.val * 20 + lane.val)).1 → s.rd DRC_TRKCFG_MINEYE ≤ (eyeSearch runs (c.val * 20 + (10 + lane.val))).1 →
    Yields (exec (.drcRetrainLane c lane runs) s) fun t => t.rdi DRC_CHCMD_STATUS (oCh c) = 0 ∧ t.rdi DRC_CHCMD_BUSY (oCh c) = 0 ∧ drcState t c = drcREADY ∧
      (tabGet {} (t.chan c).eyes lane).vref = (eyeSearch runs (c.val * 20 + lane.val)).2.1 ∧ t.mode = s.mode ∧ SameMem s t) ∧
  (∀ (s : State) (c : Fin 8) (lane : Fin 16) (runs : List (Nat × Nat × Nat × Nat)), s.mode ≠ DORMANT → drcState s c = drcREADY → s.rdi DRC_CHCMD_BUSY (oCh c) = 0 → lane.val < 10 →
    (eyeSearch runs (c.val * 20 + lane.val)).1 < s.rd DRC_TRKCFG_MINEYE → ∃ u, exec (.drcRetrainLane c lane runs) s = .next (pump u) ∧
      u.mode = SAFE ∧ drcState u c = drcFAILED ∧ u.rdi DRC_CHCMD_STATUS (oCh c) = ST_HW_DRC_TRAIN) ∧
  (∀ (s : State) (c : Fin 8) (lane : Fin 16) (runs : List (Nat × Nat × Nat × Nat)), drcState s c ≠ drcREADY → s.rdi DRC_CHCMD_BUSY (oCh c) = 0 → lane.val < 10 →
    Yields (exec (.drcRetrainLane c lane runs) s) fun t => t.rdi DRC_CHCMD_STATUS (oCh c) = ST_DRC_STATE ∧ t.rdi DRC_CHCMD_BUSY (oCh c) = 0 ∧ t.chans = s.chans ∧ SameMem s t) ∧
  (∀ (s : State) (c : Fin 8) (bad line : Nat), drcState s c = drcREADY → s.rdi DRC_CHCMD_BUSY (oCh c) = 0 → s.rdi DRC_CHARG_LINE (oCh c) = line → line < 2 * drcPairs s →
    line < 2 ^ DRC_REMAPA_LINE.w → (∀ e, e < 16 → s.rdi DRC_REMAPA_VALID (oCh c + 8 * e) = 0) → bad < 4 → s.rdi DRC_SPNEXT_NEXT (oCh c) + bad < 7680 → (s.chan c).wq = [] →
    (s.chan c).marks = [] → Yields (exec (.drcRemap c bad) s) fun t => t.rdi DRC_CHCMD_STATUS (oCh c) = 0 ∧ t.rdi DRC_CHCMD_BUSY (oCh c) = 0 ∧
      t.rdi DRC_REMAPA_VALID (oCh c) = 1 ∧ t.rdi DRC_REMAPA_LINE (oCh c) = line ∧ t.rdi DRC_REMAPB_SPARE (oCh c) = s.rdi DRC_SPNEXT_NEXT (oCh c) + bad ∧
      t.rdi DRC_SPNEXT_NEXT (oCh c) = s.rdi DRC_SPNEXT_NEXT (oCh c) + bad + 1 ∧ SameMem s t) ∧
  (∀ (s : State) (c : Fin 8) (bad : Nat), drcState s c = drcREADY → s.rdi DRC_CHCMD_BUSY (oCh c) = 0 → s.rdi DRC_CHARG_LINE (oCh c) < 2 * drcPairs s →
    7680 ≤ s.rdi DRC_SPNEXT_NEXT (oCh c) → Yields (exec (.drcRemap c bad) s) fun t =>
      t.rdi DRC_CHCMD_STATUS (oCh c) = ST_DRC_REMAP_FULL ∧ t.rdi DRC_CHCMD_BUSY (oCh c) = 0 ∧ t.chans = s.chans ∧ SameMem s t)

/-- The Cobbler's sweeps and rewrites (R369 to R376).  A clean word of the Last store is passed; one found with a single error is counted and queued, and its rewrite
makes it good; an uncorrectable one is counted and left.  An uncorrectable frame of an active plane enters SAFE; a corrected frame is made good.  A late
sweep sets LATE.
Beside the spec it rests on the model's choices of notes/assumptions/11.md, notes/assumptions/29.md, notes/assumptions/43.md. -/
def Obligations.CobblerSweeps : Prop :=
  (∀ (s : State) (loc : Nat), s.mode ≠ DORMANT → bit (s.rd COB_CTL_EN) 3 ≠ 0 → tabGet 0 s.cob.pos 3 ≤ sweepOrder 12 loc 0 → loc < 2 ^ 22 → swept s 3 12 loc 0 = true →
    locMark s 3 12 loc 0 = 0 → Yields (exec (.sweepRead 3 12 loc 0 0 none) s) fun t => tabGet 0 t.cob.pos 3 = sweepOrder 12 loc 0 + 1 ∧ t.cob.queue = s.cob.queue ∧
      locMark t 3 12 loc 0 = 0 ∧ SameRegsBut [] s t ∧ SameMem s t) ∧
  (∀ (s : State) (loc : Nat), s.mode ≠ DORMANT → bit (s.rd COB_CTL_EN) 3 ≠ 0 → tabGet 0 s.cob.pos 3 ≤ sweepOrder 12 loc 0 → loc < 2 ^ 22 → swept s 3 12 loc 0 = true →
    locMark s 3 12 loc 0 = 0 → (s.cob.queue.filter fun x => x.1 == 3).length < 64 → Yields (exec (.sweepRead 3 12 loc 0 1 none) s) fun t =>
      (3, 12, loc) ∈ t.cob.queue ∧ locMark t 3 12 loc 0 = 1 ∧ t.rdi COB_CECNT_COUNT 12 = min (s.rdi COB_CECNT_COUNT 12 + 1) (2 ^ COB_CECNT_COUNT.w - 1) ∧ t.mode = s.mode ∧ SameMem s t) ∧
  (∀ (s : State) (loc : Nat), s.mode ≠ DORMANT → bit (s.rd COB_CTL_EN) 3 ≠ 0 → tabGet 0 s.cob.pos 3 ≤ sweepOrder 12 loc 0 → loc < 2 ^ 22 → swept s 3 12 loc 0 = true →
    locMark s 3 12 loc 0 = 0 → Yields (exec (.sweepRead 3 12 loc 0 2 none) s) fun t => locMark t 3 12 loc 0 = 2 ∧ t.cob.queue = s.cob.queue ∧
      t.rdi COB_UECNT_COUNT 12 = min (s.rdi COB_UECNT_COUNT 12 + 1) (2 ^ COB_UECNT_COUNT.w - 1) ∧ t.mode = s.mode ∧ SameMem s t) ∧
  (∀ (s : State) (die : Fin 13) (fid : Nat) (copy : Fin 4), s.mode ≠ DORMANT → bit (s.rd COB_CTL_EN) 0 ≠ 0 → tabGet 0 s.cob.pos 0 ≤ sweepOrder die fid copy → frameDie fid = die.val →
    copy.val = activeOf s (frameUnit fid) → copy.val < 2 → swept s 0 die fid copy = true → Yields (exec (.sweepRead 0 die fid copy 3 none) s) fun t => t.mode = SAFE) ∧
  (∀ (s : State) (miss : Bool) (bad loc : Nat), s.cob.queue.find? (fun x => x.1 == 3) = some (3, 12, loc) → loc < 2 ^ 22 → locMark s 3 12 loc 0 = 1 → (3, 12, loc) ∉ s.cob.due →
    Yields (exec (.correctionRewrite 3 miss bad) s) fun t => locMark t 3 12 loc 0 = 0 ∧ t.cob.queue = s.cob.queue.erase (3, 12, loc) ∧ SameRegsBut [] s t ∧ SameMem s t) ∧
  (∀ (s : State) (bad fid die : Nat), s.cob.queue.find? (fun x => x.1 == 0) = some (0, die, fid) → (0, die, fid) ∉ s.cob.due → frameMark s fid 0 < 3 → frameMark s fid 1 < 3 →
    tabGet 0 s.cfg.ftBad fid = 0 → Yields (exec (.correctionRewrite 0 false bad) s) fun t => frameMark t fid 0 = 0 ∧ frameMark t fid 1 = 0 ∧
      t.cob.queue = s.cob.queue.erase (0, die, fid) ∧ t.cfg.data = s.cfg.data ∧ SameRegsBut [] s t ∧ SameMem s t) ∧
  (∀ (s : State) (k : Fin 5), s.mode ≠ DORMANT → bit (s.rd COB_CTL_EN) k ≠ 0 → bit (s.rd COB_STAT_LATE) k = 0 → Yields (exec (.sweepLate k) s) fun t =>
    bit (t.rd COB_STAT_LATE) k = 1 ∧ t.cob = s.cob ∧ t.mode = s.mode ∧ SameMem s t)

/-- The Cobbler's policy, remap store and commands (R369, R375, R378, R379).  A burst halves its class's interval, and each hold that expires undoes one halving.  The history loses
its oldest entry at the end of its window.  The pending remaps are stored while writes are allowed; in HOLD the store is cleared, elsewhere that command
ends with ST_COB_STATE; a sweep restarts; the history is cleared.
Beside the spec it rests on the model's choices of notes/assumptions/11.md, notes/assumptions/32.md, notes/assumptions/43.md. -/
def Obligations.CobblerPolicy : Prop :=
  (∀ (s : State) (k : Nat), k < 5 → Yields (exec .burstSecondEnd s) fun t => tabGet 0 t.cob.sec k = 0 ∧
    tabGet 0 t.cob.halved k = (if s.rd COB_BURST_BTH < tabGet 0 s.cob.sec k ∧ bit (s.rd COB_BURST_EN) k = 1 ∧
      intvAfter s k (tabGet 0 s.cob.halved k + 1) < intvAfter s k (tabGet 0 s.cob.halved k) then tabGet 0 s.cob.halved k + 1 else tabGet 0 s.cob.halved k) ∧
    SameRegsBut [COB_STAT_BURST.key 0] s t ∧ SameMem s t) ∧
  (∀ (s : State) (k : Fin 5), tabGet 0 s.cob.halved k ≠ 0 → Yields (exec (.burstHoldExpiry k) s) fun t => tabGet 0 t.cob.halved k = tabGet 0 s.cob.halved k - 1 ∧
    (tabGet 0 s.cob.halved k = 1 → bit (t.rd COB_STAT_BURST) k = 0) ∧ SameRegsBut [COB_STAT_BURST.key 0] s t ∧ SameMem s t) ∧
  (∀ s : State, s.cob.hist ≠ [] → Yields (exec .historyEntryExpiry s) fun t => (∃ e ∈ s.cob.hist, (∀ x ∈ s.cob.hist, e.first ≤ x.first) ∧ t.cob.hist = s.cob.hist.erase e ∧
    e.first + s.rd COB_POL_WIN * hourNs ≤ t.clocks.elapsed) ∧ SameMem s t) ∧
  (∀ s : State, s.rd PWR_STAT_NVINH ≠ 1 → s.mode ≠ DORMANT → s.cob.rsPend ≠ [] → Yields (exec .remapStoreWrite s) fun t =>
    t.cob.rs = (s.cob.rs ++ s.cob.rsPend).take 8192 ∧ t.cob.rsPend = [] ∧ t.rd COB_RSTORE_PEND = 0 ∧
      SameRegsBut [COB_RSTORE_USED.key 0, COB_RSTORE_PEND.key 0, COB_RSTORE_FULL.key 0] s t ∧ SameMem s t) ∧
  (∀ s : State, s.rd PWR_STAT_NVINH = 1 → exec .remapStoreWrite s = .next s) ∧
  (∀ (s : State) (k : Fin 8), k.val < 5 → Yields (exec (.cobRestartSweep k) s) fun t => tabGet 0 t.cob.pos k = 0 ∧ Ends t COB_CMD_STATUS COB_CMD_BUSY 0 ∧ t.rd COB_CMD_CLASS = k ∧
    t.cob.queue = s.cob.queue ∧ SameMem s t) ∧
  (∀ (s : State) (k : Fin 8), 5 ≤ k.val → Yields (exec (.cobRestartSweep k) s) fun t => t.cob = s.cob ∧ Ends t COB_CMD_STATUS COB_CMD_BUSY ST_COB_BADCMD ∧ SameMem s t) ∧
  (∀ s : State, s.mode = HOLD → Yields (exec .cobClearRemapStore s) fun t => t.cob.rs = [] ∧ t.rd COB_RSTORE_USED = 0 ∧ Ends t COB_CMD_STATUS COB_CMD_BUSY 0 ∧ SameMem s t) ∧
  (∀ s : State, s.mode ≠ HOLD → Yields (exec .cobClearRemapStore s) fun t => t.cob = s.cob ∧ Ends t COB_CMD_STATUS COB_CMD_BUSY ST_COB_STATE ∧ SameMem s t) ∧
  (∀ s : State, Yields (exec .cobClearHistory s) fun t => t.cob.hist = [] ∧ t.cob.due = [] ∧ t.cob.queue = s.cob.queue ∧ Ends t COB_CMD_STATUS COB_CMD_BUSY 0 ∧ SameMem s t)

/-! Sazor lanes (spec/15) -/

/-- A bundle's training, its link layer and its bridge (R389 to R396).  A training that finds every lane good leaves the bundle UP at width 8, one with a narrower width
both ends accept DEGRADED, one without lock FAILED; a FAILED bundle trains again after 1.00 s.  A flit that follows the last in order is taken, and one
that fails its CRC or is out of order is not; ACK frees the replay buffer; the eighth replay of one flit retrains.  A bridge request is translated and sent; a
remote one is admitted or refused with ST_SZL_ADMIT.
Beside the spec it rests on the model's choices of notes/assumptions/5.md, notes/assumptions/56.md. -/
def Obligations.SazorLinks : Prop :=
  (∀ (s : State) (b : Fin 8) (t : SzTrain), s.mode ≠ DORMANT → s.rdi SZL_BCTL_EN (oBun b) = 1 → s.rdi SZL_PWR_TXREQ (oBun b) ≠ 3 → szlState s b = 2 ∨ szlState s b = 5 → t.lock = true →
    t.rxOk = 0xFF → bits t.rcapw.toNat 0 8 = 255 → t.txHalf = false → ∃ u, exec (.sazorTraining b t) s = .next (pump u) ∧ szlState u b = 3 ∧
      u.rdi SZL_BSTAT_WIDTH (oBun b) = 0 ∧ u.rdi SZL_BSTAT_HALF (oBun b) = 0 ∧ u.rdi SZL_RCAPW_WORD (oBun b) = t.rcapw.toNat ∧ u.rdi SZL_PWR_TXST (oBun b) = 0 ∧ SameMem s u) ∧
  (∀ (s : State) (b : Fin 8) (t : SzTrain), s.mode ≠ DORMANT → s.rdi SZL_BCTL_EN (oBun b) = 1 → s.rdi SZL_PWR_TXREQ (oBun b) ≠ 3 → szlState s b = 2 → t.lock = true →
    t.rxOk = 0x0F → bits t.rcapw.toNat 0 8 = 255 → bit t.rcapw.toNat 9 = 1 → t.txHalf = false → s.rdi SZL_BCTL_MINWIDTH (oBun b) ≤ 1 → t.peerMin ≤ 1 →
    ∃ u, exec (.sazorTraining b t) s = .next (pump u) ∧ szlState u b = 4 ∧ u.rdi SZL_BSTAT_WIDTH (oBun b) = 1 ∧ u.rdi SZL_BSTAT_HALF (oBun b) = 0 ∧ (u.bundle b).wRx = 4 ∧
      (u.bundle b).wTx = 8 ∧ SameMem s u) ∧
  (∀ (s : State) (b : Fin 8) (t : SzTrain), s.mode ≠ DORMANT → s.rdi SZL_BCTL_EN (oBun b) = 1 → s.rdi SZL_PWR_TXREQ (oBun b) ≠ 3 → szlState s b = 2 ∨ szlState s b = 5 → t.lock = false →
    ∃ u, exec (.sazorTraining b t) s = .next (pump u) ∧ szlState u b = 6 ∧ u.rdi SZL_BSTAT_REASON (oBun b) = ST_HW_SZL_TRAIN ∧ (u.bundle b).replay = [] ∧ (u.bundle b).txq = [] ∧
      (u.bundle b).said = true ∧ SameMem s u) ∧
  (∀ (s : State) (b : Fin 8), szlState s b = 6 → s.rdi SZL_BCTL_EN (oBun b) = 1 → Yields (exec (.sazorTrainingRetry b) s) fun t =>
    szlState t b = 2 ∧ t.clocks.elapsed = s.clocks.elapsed + 1000000000 ∧ t.mode = s.mode ∧ SameMem s t) ∧
  (∀ (s : State) (b : Fin 8), szlUp s b = true → Yields (exec (.sazorRetrain b) s) fun t => szlState t b = 5 ∧ t.rdi SZL_BSTAT_STRUP (oBun b) = 0 ∧
    SameRegsBut [SZL_BSTAT_STATE.key (oBun b), SZL_BSTAT_STRUP.key (oBun b)] s t ∧ SameMem s t) ∧
  (∀ (s : State) (b : Fin 8), szlState s b = 0 ∨ szlState s b = 1 ∨ szlState s b = 6 → ∃ u, exec (.bundleFailCompletion b) s = .next (pump u) ∧ (u.bundle b).txq = [] ∧
    (u.bundle b).replay = [] ∧ (u.bundle b).arrived = [] ∧ (∀ h ∈ u.welt.held, h.why ≠ .remote b) ∧
    (∀ h ∈ s.welt.held, h.why = .remote b → opPosted h.req.op = false → ∃ r ∈ u.welt.resps, r.to_ = h.req.src ∧ r.tag = h.req.tag ∧ r.st = ST_SZL_DOWN) ∧ SameMem s u) ∧
  (∀ (s : State) (b : Fin 8) (f : Flit) (ack : BitVec 12) (crq crs : BitVec 8), szlUp s b = true → f.kind = 1 → f.seq = ((s.bundle b).got + 1) % 4096 →
    f.unit + 1 = max 1 f.req.units.length → Yields (exec (.flitReceive b f ack false crq crs true 0) s) fun t =>
      (t.bundle b).arrived = (s.bundle b).arrived ++ [f.req] ∧ (t.bundle b).got = f.seq ∧ t.rdi SZL_PWR_RXST (oBun b) = 0 ∧ SameRegsBut [SZL_PWR_RXST.key (oBun b)] s t ∧ SameMem s t) ∧
  (∀ (s : State) (b : Fin 8) (f : Flit) (ack : BitVec 12) (crq crs : BitVec 8), szlUp s b = true → f.seq ≠ ((s.bundle b).got + 1) % 4096 →
    Yields (exec (.flitReceive b f ack false crq crs true 0) s) fun t => (t.bundle b).arrived = (s.bundle b).arrived ∧ (t.bundle b).got = (s.bundle b).got ∧ SameMem s t) ∧
  (∀ (s : State) (b : Fin 8) (f : Flit) (ack : BitVec 12) (nak : Bool) (crq crs : BitVec 8) (cw : Fin 3), szlUp s b = true → Yields (exec (.flitReceive b f ack nak crq crs false cw) s) fun t =>
    t.bundle b = { s.bundle b with nak := true } ∧ SameMem s t) ∧
  (∀ (s : State) (b : Fin 8) (g : Flit) (pre post : List Flit) (crq crs : BitVec 8), szlUp s b = true → (s.bundle b).txq = [] → (s.bundle b).replay = pre ++ g :: post → g.seq < 4096 →
    (∀ x ∈ pre, x.seq ≠ g.seq) → Yields (exec (.flitReceive b {} (BitVec.ofNat 12 g.seq) false crq crs true 0) s) fun t => (t.bundle b).replay = post ∧
      (t.bundle b).crq = min 64 ((s.bundle b).crq + crq.toNat) ∧ (t.bundle b).crs = min 64 ((s.bundle b).crs + crs.toNat) ∧ (t.bundle b).got = (s.bundle b).got ∧ SameMem s t) ∧
  (∀ (s : State) (b : Fin 8) (f : Flit) (l : List Flit), szlUp s b = true → (s.bundle b).replay = f :: l → (s.bundle b).again.1 ≠ f.seq → Yields (exec (.flitReplay b) s) fun t =>
    (t.bundle b).again = (f.seq, 1) ∧ (t.bundle b).replay = f :: l ∧ szlState t b = szlState s b ∧
      t.rdi SZL_REPLAY_COUNT (oBun b) = min (s.rdi SZL_REPLAY_COUNT (oBun b) + 1) (2 ^ 32 - 1) ∧ SameRegsBut [SZL_REPLAY_COUNT.key (oBun b)] s t ∧ SameMem s t) ∧
  (∀ (s : State) (b : Fin 8) (f : Flit) (l : List Flit), szlUp s b = true → (s.bundle b).replay = f :: l → (s.bundle b).again = (f.seq, 7) → Yields (exec (.flitReplay b) s) fun t =>
    szlState t b = 5 ∧ (t.bundle b).replay = f :: l ∧ (t.bundle b).again = (0, 0) ∧ SameMem s t) ∧
  (∀ (s : State) (b : Fin 8), bundleSends s b = true → (s.bundle b).txq = [] → (s.bundle b).owed = true → Yields (exec (.idleAckTimer b) s) fun t =>
    (t.bundle b).lastAck = some ((s.bundle b).got, (s.bundle b).nak, min 255 (s.bundle b).owedRq, min 255 (s.bundle b).owedRs) ∧ (t.bundle b).owed = false ∧ (t.bundle b).nak = false ∧
      SameRegsBut [] s t ∧ SameMem s t) ∧
  (∀ (s : State) (q : Req) (b w : Nat), inBridge q.addr = true → NetIdle s → PortOpen q.src s → TagFree q.src q.tag s → q.op = RD → q.units = [] →
    injectCheck s q = .inr (epBridge (w / 8)) → windowOf q.addr = w → w < 16 → s.rdi WLT_BRWIN_BUNDLE (8 * w) = b → s.rdi WLT_BRBASE_RMOD (8 * w) = bits (s.rdi SZL_RCAPW_WORD (oBun b)) 20 8 →
    bundleSends s b = true → (s.bundle b).txq = [] → (s.bundle b).replay.length < 512 → 0 < (s.bundle b).crq → ∃ u, exec (.bridgeRequest q) s = .next (pump u) ∧
      u.welt.held = [⟨{ q with dst := epBridge (w / 8), epoch := s.welt.stamp }, .remote b⟩] ∧ (u.bundle b).crq + 1 = (s.bundle b).crq ∧
      (u.bundle b).replay = (s.bundle b).replay ++ [{ kind := 1, seq := (s.bundle b).seq, unit := 0, req := { q with dst := epBridge (w / 8), epoch := s.welt.stamp, addr := (s.rdi WLT_BRBASE_RBASE (8 * w) * 2 ^ 33 + (q.addr - bridgeBase) % 2 ^ 33) % 2 ^ 48 } }] ∧ SameRegsBut [] s u ∧ SameMem s u) ∧
  (∀ (s : State) (b : Fin 8) (q : Req) (l : List Req) (tag dst : Nat), (s.bundle b).waiting = [] → (s.bundle b).arrived = q :: l → admitted s b q = true → q.op = RD →
    bridgeFreeTag s (epBridge (b / 4)) = some tag → injectCheck s { q with src := epBridge (b / 4), cls := 1, tag } = .inr dst →
    ∃ u, exec (.remoteRequestAdmission b) s = .next (pump u) ∧ (u.bundle b).remote = (s.bundle b).remote ++ [(tag, q.src, q.tag, q.uidx + 1)] ∧ (u.bundle b).arrived = l) ∧
  (∀ (s : State) (b : Fin 8) (q : Req) (l : List Req), (s.bundle b).waiting = [] → (s.bundle b).arrived = q :: l → admitted s b q = false → opPosted q.op = false → bundleSends s b = true →
    (s.bundle b).txq = [] → (s.bundle b).replay.length < 512 → 0 < (s.bundle b).crs → Yields (exec (.remoteRequestAdmission b) s) fun t => (t.bundle b).arrived = l ∧ t.welt = s.welt ∧
      (t.bundle b).replay = (s.bundle b).replay ++ [{ kind := 2, seq := (s.bundle b).seq, unit := 0, resp := ⟨q.src, epBridge (b / 4), q.tag, ERR, ST_SZL_ADMIT, ST_SZL_ADMIT, 1, 0⟩ }] ∧
      SameRegsBut [] s t ∧ SameMem s t)

/-- Streams, power and tests of a bundle (R398, R401, R403 to R405).  Lost cycles are counted and every received stream block reads 0, and with STRSAFE they enter SAFE; a
wrong tag or gear and a loss of the reference stop delivery.  An idle transmitter goes to DOZE and SLEEP and wakes to send; TXREQ OFF ends the
bundle's service.  Pattern tests and error injection are refused outside HOLD.
Beside the spec it rests on the model's choices of notes/assumptions/5.md, notes/assumptions/56.md, notes/assumptions/57.md. -/
def Obligations.SazorStreams : Prop :=
  (∀ (s : State) (b : Fin 8) (cycles : Nat), s.rdi SZL_BSTAT_STRUP (oBun b) = 1 → enabledEntries (szlMap s b).rx ≠ [] → s.rdi SZL_BCTL_STRSAFE (oBun b) ≠ 1 →
    Yields (exec (.streamCycleLoss b cycles) s) fun t => t.rdi SZL_CWUNC_COUNT (oBun b) = min (s.rdi SZL_CWUNC_COUNT (oBun b) + 1) (2 ^ 32 - 1) ∧
      t.rdi SZL_STRERR_COUNT (oBun b) = min (s.rdi SZL_STRERR_COUNT (oBun b) + cycles) (2 ^ 32 - 1) ∧ t.mode = s.mode ∧ t.express.fly = s.express.fly ∧
      (∀ e ∈ enabledEntries (szlMap s b).rx, ∀ i, bits e 0 8 < 240 → i < 20 → tabGet 0 t.express.launch (9600 * bits e 11 4 + 4800 + 20 * bits e 0 8 + i) = 0) ∧
      SameRegsBut [SZL_CWUNC_COUNT.key (oBun b), SZL_STRERR_COUNT.key (oBun b)] s t ∧ SameMem s t) ∧
  (∀ (s : State) (b : Fin 8) (cycles : Nat), s.mode ≠ DORMANT → s.rdi SZL_BSTAT_STRUP (oBun b) = 1 → enabledEntries (szlMap s b).rx ≠ [] → s.rdi SZL_BCTL_STRSAFE (oBun b) = 1 →
    Yields (exec (.streamCycleLoss b cycles) s) fun t => t.mode = SAFE) ∧
  (∀ (s : State) (b : Fin 8) (cycles : Nat), s.rdi SZL_BSTAT_STRUP (oBun b) = 0 → Yields (exec (.streamCycleLoss b cycles) s) fun t =>
    SameRegsBut [SZL_CWUNC_COUNT.key (oBun b)] s t ∧ t.express = s.express ∧ SameMem s t) ∧
  (∀ (s : State) (b : Fin 8) (stag : BitVec 8) (gear : Fin 8) (cycles : Nat), szlUp s b = true → enabledEntries (szlMap s b).rx ≠ [] → stag.toNat ≠ (szlMap s b).rxtag ∨ gear.val ≠ streamGear s b →
    Yields (exec (.streamTagMismatch b stag gear cycles) s) fun t => (t.bundle b).mism = true ∧ t.rdi SZL_BSTAT_STRUP (oBun b) = 0 ∧
      t.rdi SZL_STRERR_COUNT (oBun b) = min (s.rdi SZL_STRERR_COUNT (oBun b) + cycles) (2 ^ 32 - 1) ∧ t.mode = s.mode ∧ SameMem s t) ∧
  (∀ (s : State) (b : Fin 8) (stag : BitVec 8) (gear : Fin 8) (cycles : Nat), szlUp s b = true → enabledEntries (szlMap s b).rx ≠ [] → stag.toNat = (szlMap s b).rxtag → gear.val = streamGear s b →
    Yields (exec (.streamTagMismatch b stag gear cycles) s) fun t => (t.bundle b).mism = false ∧ t.rdi SZL_STRERR_COUNT (oBun b) = s.rdi SZL_STRERR_COUNT (oBun b) ∧ t.mode = s.mode ∧ SameMem s t) ∧
  (∀ (s : State) (b : Fin 8) (ppb : Int) (cycles : Nat), szlUp s b = true → -100 ≤ ppb → ppb ≤ 100 → Yields (exec (.reflockWindowEnd b ppb cycles) s) fun t =>
    t.rdi SZL_BSTAT_REFLOCK (oBun b) = 1 ∧ t.mode = s.mode ∧ SameRegsBut [SZL_BSTAT_REFLOCK.key (oBun b), SZL_BSTAT_STRUP.key (oBun b)] s t ∧ SameMem s t) ∧
  (∀ (s : State) (b : Fin 8) (ppb : Int) (cycles : Nat), szlUp s b = true → ppb < -100 ∨ 100 < ppb → s.rdi SZL_BSTAT_STRUP (oBun b) = 0 ∨ enabledEntries (szlMap s b).rx = [] →
    Yields (exec (.reflockWindowEnd b ppb cycles) s) fun t => t.rdi SZL_BSTAT_REFLOCK (oBun b) = 0 ∧ t.rdi SZL_BSTAT_STRUP (oBun b) = 0 ∧ t.mode = s.mode ∧ SameMem s t) ∧
  (∀ (s : State) (b : Fin 8), szlUp s b = true → (s.bundle b).txq = [] → (s.bundle b).replay = [] → (s.bundle b).owed = false → txStreams s b = false → s.rdi SZL_PWR_TXREQ (oBun b) = 0 →
    s.rdi SZL_PWR_DOZEIDLE (oBun b) ≠ 0 → s.rdi SZL_PWR_SLEEPIDLE (oBun b) ≠ 0 → s.rdi SZL_PWR_TXST (oBun b) < 2 → Yields (exec (.sazorPowerIdleTimer b false) s) fun t =>
      t.rdi SZL_PWR_TXST (oBun b) = s.rdi SZL_PWR_TXST (oBun b) + 1 ∧ SameRegsBut [SZL_PWR_TXST.key (oBun b)] s t ∧ SameMem s t ∧ t.bundles = s.bundles) ∧
  (∀ (s : State) (b : Fin 8), szlUp s b = true → s.rdi SZL_PWR_RXST (oBun b) < 2 → Yields (exec (.sazorPowerIdleTimer b true) s) fun t =>
    t.rdi SZL_PWR_RXST (oBun b) = s.rdi SZL_PWR_RXST (oBun b) + 1 ∧ SameRegsBut [SZL_PWR_RXST.key (oBun b)] s t ∧ SameMem s t) ∧
  (∀ (s : State) (b : Fin 8), (s.bundle b).txq ≠ [] → s.rdi SZL_PWR_TXST (oBun b) = 1 ∨ s.rdi SZL_PWR_TXST (oBun b) = 2 → Yields (exec (.sazorTxWake b) s) fun t =>
    t.rdi SZL_PWR_TXST (oBun b) = 0 ∧ SameRegsBut [SZL_PWR_TXST.key (oBun b)] s t ∧ SameMem s t) ∧
  (∀ (s : State) (b : Fin 8) (v : BitVec 32), bits v.toNat 30 2 = 3 → s.rdi SZL_PWR_TXREQ (oBun b) ≠ 3 → s.rdi SZL_BCTL_EN (oBun b) = 1 → ∃ u, exec (.sazorPwrWrite b v) s = .next (pump u) ∧
    szlState u b = 1 ∧ u.rdi SZL_PWR_TXST (oBun b) = 3 ∧ (u.bundle b).replay = [] ∧ (u.bundle b).txq = [] ∧ SameMem s u) ∧
  (∀ (s : State) (b : Fin 8) (v : BitVec 32), bits v.toNat 30 2 ≠ 3 → s.rdi SZL_PWR_TXREQ (oBun b) = 3 → s.rdi SZL_BCTL_EN (oBun b) = 1 → Yields (exec (.sazorPwrWrite b v) s) fun t =>
    szlState t b = 2 ∧ t.rdi SZL_PWR_TXST (oBun b) = 0 ∧ t.rdi SZL_PWR_SLEEPIDLE (oBun b) = bits v.toNat 8 8 ∧ t.rdi SZL_PWR_DOZEIDLE (oBun b) = bits v.toNat 0 8 ∧ SameMem s t) ∧
  (∀ (s : State) (b : Fin 8) (v : BitVec 32) (errs : List Nat), s.mode ≠ HOLD → Yields (exec (.sazorPatternTest b v errs) s) fun t =>
    t.rdi SZL_TEST_STATUS (oBun b) = ST_SZL_NOTHOLD ∧ SameRegsBut [SZL_TEST_STATUS.key (oBun b)] s t ∧ SameMem s t) ∧
  (∀ (s : State) (b : Fin 8) (v : BitVec 32) (errs : List Nat), s.mode = HOLD → bits v.toNat 11 3 < 6 → Yields (exec (.sazorPatternTest b v errs) s) fun t =>
    t.rdi SZL_TEST_STATUS (oBun b) = 0 ∧ t.rdi SZL_TEST_GEN (oBun b) = bit v.toNat 15 ∧ t.rdi SZL_TEST_CHK (oBun b) = bit v.toNat 14 ∧ t.rdi SZL_TEST_PAT (oBun b) = bits v.toNat 11 3 ∧
      t.rdi SZL_TEST_LANEMASK (oBun b) = bits v.toNat 0 8 ∧ (∀ l, l < 8 → s.rdi SZL_TEST_CHK (oBun b) = 1 → bit (s.rdi SZL_TEST_LANEMASK (oBun b)) l = 1 →
        t.rdi SZL_TESTCNT_COUNT (oBun b + 4 * l) = min (s.rdi SZL_TESTCNT_COUNT (oBun b + 4 * l) + errs.getD l 0) (2 ^ 32 - 1)) ∧ SameMem s t) ∧
  (∀ (s : State) (b : Fin 8) (v : BitVec 32), bit v.toNat 15 = 1 → s.mode ≠ HOLD → Yields (exec (.sazorErrorInject b v) s) fun t =>
    t.rdi SZL_INJ_STATUS (oBun b) = ST_SZL_NOTHOLD ∧ SameRegsBut [SZL_INJ_STATUS.key (oBun b)] s t ∧ t.bundles = s.bundles ∧ SameMem s t) ∧
  (∀ (s : State) (b : Fin 8) (v : BitVec 32), bit v.toNat 15 = 1 → bit v.toNat 14 = 0 ∨ (1 ≤ bits v.toNat 8 6 ∧ bits v.toNat 8 6 ≤ 32) → s.mode = HOLD → Yields (exec (.sazorErrorInject b v) s) fun t =>
    t.rdi SZL_INJ_STATUS (oBun b) = 0 ∧ (t.bundle b).inject = some (bit v.toNat 14, bits v.toNat 8 6, bits v.toNat 0 8) ∧ SameMem s t)

/-! Standard ports and general I/O (spec/16) -/

/-- The PCIe port (R408 to R413).  Every reset takes the link down and clears the MSI-X table, the pending bits and what is outstanding.  A trained link shows its rate
and width.  A write of the MSI-X table stores its word and a read returns it; a full 64-byte write over BAR2 stores its bytes; a read over BAR2 waits for the writes
before it.  In D3hot and beyond a BAR a TLP completes as Unsupported Request; with the link down none has an effect.
Beside the spec it rests on the model's choices of notes/assumptions/31.md, notes/assumptions/58.md, notes/assumptions/59.md, notes/assumptions/60.md, notes/assumptions/61.md. -/
def Obligations.PciePort : Prop :=
  (∀ (s : State) (kind : Fin 3), Yields (exec (.pcieReset kind) s) fun t => t.rd PCI_STAT_SPEED = 0 ∧ t.rd PCI_STAT_WIDTH = 0 ∧ t.rd PCI_STAT_DSTATE = 0 ∧ t.pcie.table = [] ∧
    t.pcie.pend = [] ∧ t.pcie.writes = [] ∧ t.pcie.reads = [] ∧ t.pcie.cfgReady = false ∧ t.pcie.busMaster = false ∧ t.pcie.msixEn = false ∧ (kind.val = 0 → t.pcie.perst = true) ∧
    (kind.val ≠ 0 → t.pcie.perst = s.pcie.perst) ∧ SameRegsBut [PCI_STAT_SPEED.key 0, PCI_STAT_WIDTH.key 0, PCI_STAT_DSTATE.key 0] s t ∧ SameMem s t) ∧
  (∀ (s : State) (speed : Fin 6) (width : Nat) (ready msixEn busMaster funcMask d3 : Bool), s.mode ≠ DORMANT → s.rd PWR_STAT_HOST ≠ 0 → speed.val ≠ 0 → width ∈ [1, 2, 4, 8, 16] →
    Yields (exec (.pcieLinkTraining speed width ready msixEn busMaster funcMask d3) s) fun t => t.rd PCI_STAT_SPEED = speed ∧ t.rd PCI_STAT_WIDTH = width ∧
      t.rd PCI_STAT_DSTATE = (if d3 then 3 else 0) ∧ t.pcie.perst = false ∧ t.pcie.cfgReady = ready ∧ t.pcie.msixEn = msixEn ∧ t.pcie.busMaster = busMaster ∧ t.pcie.funcMask = funcMask ∧
      t.pcie.table = s.pcie.table ∧ SameRegsBut [PCI_STAT_SPEED.key 0, PCI_STAT_WIDTH.key 0, PCI_STAT_DSTATE.key 0] s t ∧ SameMem s t) ∧
  (∀ (s : State) (i : Nat) (v : BitVec 32), i < 8192 → pcieUp s = true → s.rd PCI_STAT_DSTATE ≠ 3 →
    Yields (exec (.pcieMemoryWrite 0 (BitVec.ofNat 36 (0x3000000 + 4 * i)) [true, true, true, true] v.toNat) s) fun t =>
      tblGet t i = v.toNat ∧ (∀ j, j ≠ i → tblGet t j = tblGet s j) ∧ SameRegsBut [] s t ∧ SameMem s t) ∧
  (∀ (s : State) (i : Nat), i < 8192 → pcieUp s = true → s.rd PCI_STAT_DSTATE ≠ 3 → Yields (exec (.pcieMemoryRead 0 (BitVec.ofNat 36 (0x3000000 + 4 * i)) 4) s) fun t =>
    t.pcie.cpl = s.pcie.cpl ++ [(0, tblGet s i)] ∧ t.pcie.table = s.pcie.table ∧ SameRegsBut [] s t ∧ SameMem s t) ∧
  (∀ (s : State) (off : BitVec 36) (data : Nat) (q : Req), pcieUp s = true → s.rd PCI_STAT_DSTATE ≠ 3 → off.toNat + 64 ≤ 2 ^ 25 → off.toNat % 64 = 0 → NetIdle s → PortOpen epPcie s →
    tagged (blockReqs epPcie WR (lastBase + off.toNat) 64 (data % 256 ^ 64)) s = some [q] → TagFree epPcie q.tag s → LastReady WR q s →
    ∃ u, exec (.pcieMemoryWrite 1 off (List.replicate 64 true) data) s = .next (settle (pump u)) ∧ (∀ i, i < 64 → u.rdByte (lastBase + off.toNat + i) = data / 256 ^ i % 256) ∧
      SameMemOutside (lastBase + off.toNat) 64 s u ∧ SameRegsBut [] s u) ∧
  (∀ (s : State) (off : BitVec 36) (n : Fin 4097) (l : List Req), pcieUp s = true → s.rd PCI_STAT_DSTATE ≠ 3 → 1 ≤ n.val → off.toNat + n.val ≤ 2 ^ 25 →
    tagged (blockReqs epPcie RD (lastBase + off.toNat) n 0) s = some l → ∃ u, exec (.pcieMemoryRead 1 off n) s = .next (settle (pump u)) ∧
      u.pcie.reads = s.pcie.reads ++ [{ bar := 1, after := s.pcie.writes.map Prod.snd, reqs := l }] ∧ u.welt = s.welt ∧ SameRegsBut [] s u ∧ SameMem s u) ∧
  (∀ (s : State) (bar : Fin 3) (off : BitVec 36) (be : List Bool) (data : Nat), pcieUp s = true → s.rd PCI_STAT_DSTATE = 3 ∨ (bar.val = 1 ∧ 2 ^ 25 < off.toNat + be.length) →
    Yields (exec (.pcieMemoryWrite bar off be data) s) fun t => t.pcie.cpl = s.pcie.cpl ++ [(1, 0)] ∧ t.welt = s.welt ∧ SameRegsBut [] s t ∧ SameMem s t) ∧
  (∀ (s : State) (bar : Fin 3) (off : BitVec 36) (n : Fin 4097), pcieUp s = true → s.rd PCI_STAT_DSTATE = 3 ∨ (bar.val = 1 ∧ 2 ^ 25 < off.toNat + n.val) →
    Yields (exec (.pcieMemoryRead bar off n) s) fun t => t.pcie.cpl = s.pcie.cpl ++ [(1, 0)] ∧ t.welt = s.welt ∧ SameRegsBut [] s t ∧ SameMem s t) ∧
  (∀ (s : State) (bar : Fin 3) (off : BitVec 36) (be : List Bool) (data : Nat) (n : Fin 4097), pcieUp s = false →
    exec (.pcieMemoryWrite bar off be data) s = .next s ∧ exec (.pcieMemoryRead bar off n) s = .next s)

/-- Ethernet (R414 to R419).  A change of a cage's mode takes its four links down; a link is up where the module, the lane and the port allow.  A bad frame is counted and
discarded, a good one counts for the rule it matches; a stream frame over 256 bytes, one that waited too long, and one for a disabled free queue are
discarded and counted.  A frame is sent in its gate and its descriptor released.  A gate list whose intervals add up becomes administrative and then operational.
A sync slews the timebase by 500 ppm at most; its loss keeps the rate.
Beside the spec it rests on the model's choices of notes/assumptions/62.md, notes/assumptions/63.md, notes/assumptions/64.md, notes/assumptions/65.md. -/
def Obligations.EthernetPorts : Prop :=
  (∀ (s : State) (c : Fin 4) (v : BitVec 32), cageMode s c ≠ v.toNat % 2 → Yields (exec (.ethCageModeWrite c v) s) fun t => cageMode t c = v.toNat % 2 ∧
    (∀ l, l < 4 → t.rdi ETH_PSTAT_LINK (oPort (4 * c + l)) = 0) ∧ SameRegsBut (ETH_CAGE_MODE.key (4 * c) :: (List.range 4).map fun l => ETH_PSTAT_LINK.key (oPort (4 * c + l))) s t ∧ SameMem s t) ∧
  (∀ (s : State) (c : Fin 4) (v : BitVec 32), cageMode s c = v.toNat % 2 → exec (.ethCageModeWrite c v) s = .next s) ∧
  (∀ (s : State) (c : Fin 4) (present : Bool) (up : BitVec 4) (fec : Fin 3), Yields (exec (.ethLinkChange c present up fec) s) fun t => t.rdi ETH_CAGE_PRESENT (4 * c) = present.toNat ∧
    (∀ l, l < 4 → (t.rdi ETH_PSTAT_LINK (oPort (4 * c + l)) = 1 ↔ present = true ∧ bit up.toNat l = 1 ∧ ethExists s (4 * c + l) = true ∧ s.rdi ETH_PCTL_EN (oPort (4 * c + l)) = 1 ∧
      s.mode ≠ DORMANT)) ∧ SameMem s t) ∧
  (∀ (s : State) (p : Fin 16) (len data age : Nat) (good : Bool), s.mode ≠ DORMANT → s.rdi ETH_PCTL_EN (oPort p) ≠ 0 → s.rdi ETH_PSTAT_LINK (oPort p) ≠ 0 → good = false ∨ len < 60 ∨ 9212 < len →
    Yields (exec (.ethFrameReceive p len data age good) s) fun t => t.rdi ETH_PSTAT_BADFRM (oPort p) = min (s.rdi ETH_PSTAT_BADFRM (oPort p) + 1) 65535 ∧
      SameRegsBut [ETH_PSTAT_BADFRM.key (oPort p)] s t ∧ SameMem s t) ∧
  (∀ (s : State) (p : Fin 16) (len data age : Nat), s.mode ≠ DORMANT → s.rdi ETH_PCTL_EN (oPort p) ≠ 0 → s.rdi ETH_PSTAT_LINK (oPort p) ≠ 0 → 60 ≤ len → len ≤ 9212 →
    ruleOf s p (data % 256 ^ len) = none → exec (.ethFrameReceive p len data age true) s = .next s) ∧
  (∀ (s : State) (p : Fin 16) (len data age i : Nat), s.mode ≠ DORMANT → s.rdi ETH_PCTL_EN (oPort p) ≠ 0 → s.rdi ETH_PSTAT_LINK (oPort p) ≠ 0 → 60 ≤ len → len ≤ 9212 →
    ruleOf s p (data % 256 ^ len) = some i → s.rdi ETH_RULEA_ACT (16 * i) = 0 → Yields (exec (.ethFrameReceive p len data age true) s) fun t =>
      t.rdi ETH_RSTAT_FRAMES (8 * i) = min (s.rdi ETH_RSTAT_FRAMES (8 * i) + 1) 65535 ∧ SameRegsBut [ETH_RSTAT_FRAMES.key (8 * i)] s t ∧ SameMem s t) ∧
  (∀ (s : State) (p : Fin 16) (len data age i : Nat), s.mode ≠ DORMANT → s.rdi ETH_PCTL_EN (oPort p) ≠ 0 → s.rdi ETH_PSTAT_LINK (oPort p) ≠ 0 → 60 ≤ len → len ≤ 9212 →
    ruleOf s p (data % 256 ^ len) = some i →
    (s.rdi ETH_RULEA_ACT (16 * i) = 2 ∧ 256 < len) ∨ (s.rdi ETH_RULEA_ACT (16 * i) = 1 ∧ qEn s (s.rdi ETH_RULED_TGT (16 * i)) = false) →
    Yields (exec (.ethFrameReceive p len data age true) s) fun t => t.rdi ETH_RSTAT_FRAMES (8 * i) = min (s.rdi ETH_RSTAT_FRAMES (8 * i) + 1) 65535 ∧
      t.rdi ETH_RSTAT_DROP (8 * i) = min (s.rdi ETH_RSTAT_DROP (8 * i) + 1) 65535 ∧ t.welt = s.welt ∧ SameMem s t) ∧
  (∀ (s : State) (p : Fin 16) (data age i : Nat), s.mode ≠ DORMANT → s.rdi ETH_PCTL_EN (oPort p) ≠ 0 → s.rdi ETH_PSTAT_LINK (oPort p) ≠ 0 →
    ruleOf s p (data % 256 ^ 64) = some i → s.rdi ETH_RULEA_ACT (16 * i) = 2 → ∃ u, exec (.ethFrameReceive p 64 data age true) s = .next (pump u) ∧
      u.eth.streams = s.eth.streams ++ [(i, [{ src := epEth, op := GWR, cls := 0, len := 1, flow := s.rdi ETH_RULED_TGT (16 * i) % 1024, units := [⟨0, 63, data % 256 ^ 64⟩],
                                               addr := s.rdi ETH_RABASE_ADDR (8 * i) * 65536 + 256 * (tabGet 0 s.eth.ruleN i % 2 ^ s.rdi ETH_RULEA_RING (16 * i)) }])] ∧
      tabGet 0 u.eth.ruleN i = tabGet 0 s.eth.ruleN i + 1 ∧ SameMem s u) ∧
  (∀ (s : State) (i : Fin 64) (l : List Req) (a b : List (Nat × List Req)), s.eth.streams = a ++ (i.val, l) :: b → (∀ x ∈ a, x.1 ≠ i.val) → ∃ u, exec (.ethStreamPlaceTimeout i) s = .next (pump u) ∧
    u.eth.streams = a ++ b ∧ u.rdi ETH_RSTAT_DROP (8 * i) = min (s.rdi ETH_RSTAT_DROP (8 * i) + 1) 65535 ∧ SameMem s u) ∧
  (∀ (s s1 s2 : State) (p : Fin 16) (c : Fin 8) (q desc data at_ : Nat), s.mode ≠ DORMANT → ethExists s p = true → s.rdi ETH_PCTL_EN (oPort p) ≠ 0 → s.rdi ETH_PSTAT_LINK (oPort p) ≠ 0 →
    s.rdi ETH_TXQ_EN (32 * p + 4 * c) ≠ 0 → s.rdi ETH_TXQ_Q (32 * p + 4 * c) = q → qEn s q = true → qMc s q = false → qHead s q ≠ qTail s q →
    ethRead (descAddr s q (qHead s q)) 64 s = (.ok desc, s1) → 60 ≤ bits desc 64 32 → bits desc 64 32 ≤ 9212 → bit desc 127 = 0 → ethRead (desc % 2 ^ 48) (bits desc 64 32) s1 = (.ok data, s2) →
    sendTime (tabGet {} s.eth.oper p) c (wireNs s p (bits desc 64 32)) s.clocks.tb = some at_ →
    Yields (exec (.ethFrameTransmit p c) s) fun t => t.eth.sent = s.eth.sent ++ [⟨p, c, bits desc 64 32, data, at_⟩]) ∧
  (∀ (s : State) (p : Fin 16), s.rd ETH_GCLCMD_BUSY ≠ 1 → ethExists s p = false → Yields (exec (.ethGclLoad p) s) fun t =>
    Ends t ETH_GCLCMD_STATUS ETH_GCLCMD_BUSY ST_ETH_BADCMD ∧ t.eth = s.eth ∧ SameMem s t) ∧
  (∀ (s : State) (p : Fin 16) (a n base cycle : Nat) (es : List (Nat × Nat)), s.rd ETH_GCLCMD_BUSY ≠ 1 → ethExists s p = true → a = lastBase + s.rd ETH_GCLADR_OFFSET →
    s.rd ETH_GCLADR_OFFSET + 16 + 4 * n ≤ 0x2000000 → p.val ∉ s.eth.gclPend → s.rdMem 8 a = base → s.rdMem 4 (a + 8) = cycle → s.rdMem 4 (a + 12) = n → n ≤ 256 →
    es = ((List.range n).map fun i => (s.rdMem 1 (a + 16 + 4 * i + 3), s.rdMem 3 (a + 16 + 4 * i))) → (es.map Prod.snd).sum = cycle → Yields (exec (.ethGclLoad p) s) fun t =>
      Ends t ETH_GCLCMD_STATUS ETH_GCLCMD_BUSY 0 ∧ tabGet {} t.eth.admin p = ⟨base, cycle, es, firstCycle base cycle s.clocks.tb⟩ ∧ t.eth.gclPend = s.eth.gclPend ++ [p.val] ∧
      t.eth.oper = s.eth.oper ∧ SameMem s t) ∧
  (∀ (s : State) (p : Fin 16), p.val ∈ s.eth.gclPend → Yields (exec (.gclBecomesOperational p) s) fun t => tabGet {} t.eth.oper p = tabGet {} s.eth.admin p ∧
    t.eth.gclPend = s.eth.gclPend.erase p.val ∧ (∀ x, x ≠ p.val → tabGet {} t.eth.oper x = tabGet {} s.eth.oper x) ∧ SameMem s t) ∧
  (∀ (s : State) (p : Fin 16) (offset adj : Int) (iv : Nat), s.rd ETH_PTPCTL_EN ≠ 0 → s.clocks.tbRun = true → offset.natAbs ≤ 1000 → adj.natAbs * 1000000 ≤ iv * 500 →
    Yields (exec (.gptpSync p false offset adj iv) s) fun t => t.clocks.tb = (((s.clocks.tb : Int) + adj) % 2 ^ 64).toNat ∧ t.clocks.rtc = s.clocks.rtc ∧ t.rd ETH_PTPSTAT_SLAVEPORT = p ∧
      t.rd ETH_PTPSTAT_GM = 0 ∧ t.rd ETH_PTPSTAT_HOLDOVER = 0 ∧ (t.rd ETH_PTPSTAT_LOCKED = 1 ↔ offset.natAbs ≤ 100 ∧ 15 ≤ s.eth.syncOk) ∧ SameMem s t) ∧
  (∀ (s : State) (p : Fin 16) (offset adj : Int) (iv : Nat), s.rd ETH_PTPCTL_EN ≠ 0 → s.clocks.tbRun = true → 1000 < offset.natAbs → s.rd ETH_PTPCTL_STEPOK = 1 → timePending s = false →
    Yields (exec (.gptpSync p false offset adj iv) s) fun t => t.clocks.tb = (((s.clocks.tb : Int) - offset) % 2 ^ 64).toNat ∧ t.rd ETH_PTPSTAT_LOCKED = 0 ∧ SameMem s t) ∧
  (∀ (s : State) (p : Fin 16) (offset adj : Int) (iv : Nat), s.rd ETH_PTPCTL_EN ≠ 0 → s.clocks.tbRun = true → Yields (exec (.gptpSync p true offset adj iv) s) fun t =>
    t.clocks = s.clocks ∧ t.rd ETH_PTPSTAT_GM = 1 ∧ t.rd ETH_PTPSTAT_OFFSET = 0 ∧ SameMem s t) ∧
  (∀ s : State, s.rd ETH_PTPCTL_EN ≠ 0 → s.rd ETH_PTPSTAT_SLAVEPORT ≠ 0x1F → Yields (exec .gptpSyncLoss s) fun t => t.rd ETH_PTPSTAT_HOLDOVER = 1 ∧ t.rd ETH_PTPSTAT_LOCKED = 0 ∧
    t.clocks = s.clocks ∧ SameRegsBut [ETH_PTPSTAT_HOLDOVER.key 0, ETH_PTPSTAT_LOCKED.key 0, ETH_PTPSTAT_SLAVEPORT.key 0] s t ∧ SameMem s t)

/-- General I/O (R422 to R427).  A qualifying edge of an event input is delivered; one within 20 ns of it is merged, and merged edges are delivered 20 ns after it.  An
input active for longer than STUCK is masked until it becomes inactive.  A write of the configuration keeps its limits.  The loss of a bank's supply
enters SAFE unless the die is not in service.
Beside the spec it rests on the model's choices of notes/assumptions/5.md, notes/assumptions/66.md. -/
def Obligations.GeneralIo : Prop :=
  (∀ (s : State) (k : Fin 12) (n : Fin 32) (level : Bool) (t : Nat), s.rdi GIO_PCFG_EVEN (oPin k n) ≠ 0 → (s.pin k n).filt ≠ level → (s.pin k n).okAt ≤ t → (s.pin k n).masked = false →
    bit (s.rdi GIO_PCFG_EDGE (oPin k n)) (if pinActive s k n level then 0 else 1) = 1 → (s.pin k n).evAt = none → Yields (exec (.eventInputEdge k n level t) s) fun u =>
      u.pin k n = { s.pin k n with filt := level, okAt := t + 2 * s.rdi GIO_PCFG_MINP (oPin k n), since := if pinActive s k n level then some t else none, evAt := some t, merged := 0 } ∧
      u.mode = s.mode ∧ SameMem s u) ∧
  (∀ (s : State) (k : Fin 12) (n : Fin 32) (level : Bool) (t e : Nat), s.rdi GIO_PCFG_EVEN (oPin k n) ≠ 0 → (s.pin k n).filt ≠ level → (s.pin k n).okAt ≤ t → (s.pin k n).masked = false →
    bit (s.rdi GIO_PCFG_EDGE (oPin k n)) (if pinActive s k n level then 0 else 1) = 1 → (s.pin k n).evAt = some e → t < e + 20 → Yields (exec (.eventInputEdge k n level t) s) fun u =>
      (u.pin k n).evAt = some e ∧ (u.pin k n).merged = (s.pin k n).merged + 1 ∧
      u.rdi GIO_OVR_COUNT (oPin k n) = (if (s.pin k n).merged = 0 then s.rdi GIO_OVR_COUNT (oPin k n) else min (s.rdi GIO_OVR_COUNT (oPin k n) + 1) 65535) ∧ SameMem s u) ∧
  (∀ (s : State) (k : Fin 12) (n : Fin 32) (level : Bool) (t : Nat), s.rdi GIO_PCFG_EVEN (oPin k n) ≠ 0 → (s.pin k n).filt ≠ level → (s.pin k n).okAt ≤ t → (s.pin k n).masked = true →
    pinActive s k n level = false → s.rdi GIO_STUCK_MASK (4 * k) < 2 ^ 32 → bit (s.rdi GIO_STUCK_MASK (4 * k)) n = 1 → Yields (exec (.eventInputEdge k n level t) s) fun u =>
      (u.pin k n).masked = false ∧ u.rdi GIO_STUCK_MASK (4 * k) + 2 ^ n.val = s.rdi GIO_STUCK_MASK (4 * k) ∧ (u.pin k n).evAt = (s.pin k n).evAt ∧ SameMem s u) ∧
  (∀ (s : State) (k : Fin 12) (n : Fin 32) (level : Bool) (t : Nat), s.rdi GIO_PCFG_EVEN (oPin k n) = 0 ∨ (s.pin k n).filt = level ∨ t < (s.pin k n).okAt →
    exec (.eventInputEdge k n level t) s = .next s) ∧
  (∀ (s : State) (k : Fin 12) (n : Fin 32) (e : Nat), (s.pin k n).masked = false → (s.pin k n).evAt = some e → (s.pin k n).merged ≠ 0 → Yields (exec (.eventMergeDelivery k n) s) fun u =>
    u.pin k n = { s.pin k n with evAt := some (e + 20), merged := 0 } ∧ SameMem s u) ∧
  (∀ (s : State) (k : Fin 12) (n : Fin 32), (s.pin k n).masked = true ∨ (s.pin k n).merged = 0 → exec (.eventMergeDelivery k n) s = .next s) ∧
  (∀ (s : State) (k : Fin 12) (n : Fin 32) (t : Nat), (s.pin k n).since = some t → s.rdi GIO_PCFG_EVEN (oPin k n) ≠ 0 → (s.pin k n).masked = false → stuckNs s k n ≠ 0 →
    Yields (exec (.eventInputStuck k n) s) fun u => (u.pin k n).masked = true ∧ (u.pin k n).merged = 0 ∧ bit (u.rdi GIO_STUCK_MASK (4 * k)) n = 1 ∧ u.mode = s.mode ∧ SameMem s u) ∧
  (∀ (s : State) (k : Fin 12) (n : Fin 32) (v : BitVec 32), Yields (exec (.gioPcfgWrite k n v) s) fun t => t.rdi GIO_PCFG_EVEN (oPin k n) = bit v.toNat 31 ∧
    t.rdi GIO_PCFG_POL (oPin k n) = bit v.toNat 30 ∧ t.rdi GIO_PCFG_EDGE (oPin k n) = bits v.toNat 28 2 ∧ t.rdi GIO_PCFG_MINP (oPin k n) = max 1 (min 1000 (bits v.toNat 18 10)) ∧
    t.rdi GIO_PCFG_SUNIT (oPin k n) = bit v.toNat 17 ∧ t.rdi GIO_PCFG_STUCK (oPin k n) = min (bits v.toNat 0 16) (if bit v.toNat 17 = 1 then 60000 else 1000) ∧
    (t.pin k n).filt = (s.pin k n).filt ∧ (t.pin k n).okAt = s.clocks.tb + 2 * max 1 (min 1000 (bits v.toNat 18 10)) - 1 ∧
    (t.pin k n).masked = (s.pin k n).masked ∧
    (t.pin k n).since = (if bit v.toNat 31 = 1 ∧ (s.pin k n).filt ≠ decide (bit v.toNat 30 = 1) then some s.clocks.tb else none) ∧
    SameRegsBut ([GIO_PCFG_EVEN, GIO_PCFG_POL, GIO_PCFG_EDGE, GIO_PCFG_MINP, GIO_PCFG_SUNIT, GIO_PCFG_STUCK].map fun f => f.key (oPin k n)) s t ∧ SameMem s t) ∧
  (∀ (s : State) (k : Fin 12), s.rdi GIO_BSTAT_VFAULT (4 * k) ≠ 1 → s.rdi GLB_DIESTAT_STATE (4 * k) < 2 → s.mode ≠ DORMANT → Yields (exec (.bankSupplyFault k) s) fun t =>
    t.mode = SAFE ∧ t.rdi GIO_BSTAT_VFAULT (4 * k) = 1) ∧
  (∀ (s : State) (k : Fin 12), s.rdi GIO_BSTAT_VFAULT (4 * k) ≠ 1 → 2 ≤ s.rdi GLB_DIESTAT_STATE (4 * k) → Yields (exec (.bankSupplyFault k) s) fun t =>
    t.mode = s.mode ∧ t.rdi GIO_BSTAT_VFAULT (4 * k) = 1 ∧ SameMem s t) ∧
  (∀ (s : State) (k : Fin 12), s.rdi GIO_BSTAT_VFAULT (4 * k) = 1 → exec (.bankSupplyFault k) s = .next s) ∧
  (∀ (s : State) (k : Fin 12), s.mode ≠ SAFE → Yields (exec (.bankSupplyRestored k) s) fun t =>
    t.rdi GIO_BSTAT_VFAULT (4 * k) = 0 ∧ t.mode = s.mode ∧ SameRegsBut [GIO_BSTAT_VFAULT.key (4 * k)] s t ∧ SameMem s t)

/-! Module power entry (spec/19) -/

/-- The supply, the die regulators and the coin cell (R491 to R504, R595).  The loss of mains, its return, and H below each threshold show in PWR_STAT; H below 3.0 ms puts the
module in DORMANT without its outputs.  An over-temperature, an overload and their end stop and restart the stage.  An over-current, a lost regulator link and
a rail out of band enter SAFE.  The coin cell, the host's connector and the fans show their state.
Beside the spec it rests on the model's choices of notes/assumptions/5.md, notes/assumptions/18.md, notes/assumptions/52.md. -/
def Obligations.SupplyAndRails : Prop :=
  (∀ (s : State) (ov : Bool), s.rd PWR_STAT_MAINS ≠ 0 → Yields (exec (.mainsLost ov) s) fun t => t.rd PWR_STAT_MAINS = 0 ∧ t.rd PWR_STAT_MLOST = 1 ∧ t.rd PWR_INPUT_FREQ = 0 ∧
    t.rd PWR_STAT_OV = (if ov then 1 else s.rd PWR_STAT_OV) ∧ t.mode = s.mode ∧ SameMem s t) ∧
  (∀ s : State, s.power.stopped = 0 → s.rd PWR_STAT_MAINS ≠ 1 → Yields (exec .mainsRestored s) fun t => t.rd PWR_STAT_MAINS = 1 ∧ t.rd PWR_STAT_OV = 0) ∧
  (∀ s : State, s.power.stopped ≠ 0 → exec .mainsRestored s = .next s) ∧
  (∀ (s : State) (m : Meas), s.rd PWR_STAT_MAIN ≠ 1 → Yields (exec (.holdupTest m) s) fun t => t.rd PWR_BULK_VBULK = min 1023 m.vbulk ∧ t.rd PWR_LOAD_POUT = min 65535 m.pout ∧
    t.rd PWR_HOLDUP_EUSE = min 65535 (energy2000 (s.rd PWR_BULK_CAP) m.vbulk / 2000) ∧ t.rd PWR_STAT_NVINH = s.rd PWR_STAT_NVINH ∧ t.mode = s.mode ∧ SameMem s t) ∧
  (∀ (s : State) (m : Meas), s.rd PWR_STAT_MAIN = 1 → s.rd PWR_STAT_WARN = 0 → s.rd PWR_STAT_NVINH = 0 → holdupBelow (s.rd PWR_BULK_CAP) m.vbulk m.pout 80 = true →
    Yields (exec (.holdupTest m) s) fun t => t.rd PWR_STAT_WARN = 1 ∧ t.rd PWR_STAT_NVINH = 1 ∧ t.power.under = holdupBelow (s.rd PWR_BULK_CAP) m.vbulk m.pout 30 ∧ t.mode = s.mode ∧ SameMem s t) ∧
  (∀ (s : State) (m : Meas), s.rd PWR_STAT_MAIN = 1 → s.rd PWR_STAT_NVINH = 1 → holdupBelow (s.rd PWR_BULK_CAP) m.vbulk m.pout 90 = false → Yields (exec (.holdupTest m) s) fun t =>
    t.rd PWR_STAT_NVINH = 0) ∧
  (∀ s : State, s.rd PWR_STAT_MAIN ≠ 0 → s.power.under = true → s.mode ≠ DORMANT → Yields (exec .powerLossDormant s) fun t => t.mode = DORMANT ∧ t.rd PWR_STAT_MAIN = 0 ∧
    t.rd PWR_STAT_NVINH = 1 ∧ t.power.under = false ∧ t.power.offAt = some s.clocks.elapsed ∧ t.pending = s.pending) ∧
  (∀ s : State, s.rd PWR_STAT_STBY ≠ 0 → s.rd PWR_STAT_MAIN ≠ 1 → s.rd PWR_STAT_BATABS ≠ 1 → Yields (exec .standbyOutputStop s) fun t => t.rd PWR_STAT_STBY = 0 ∧ t.rd SEC_BATSVC_OPEN = 0 ∧
    t.rd DBG_PORT_POWER = 0 ∧ t.bbx = s.bbx ∧ t.clocks = s.clocks ∧ SameMem s t) ∧
  (∀ s : State, s.rd PWR_STAT_STBY ≠ 0 → s.rd PWR_STAT_MAIN ≠ 1 → s.rd PWR_STAT_BATABS = 1 → Yields (exec .standbyOutputStop s) fun t => t.clocks.rtc = 0 ∧ t.rd CLK_RTCSECH_VALID = 0 ∧
    t.bbx.pend = [] ∧ t.bbx.ring = s.bbx.ring ∧ t.rd SEC_TAMPER_LATCH = 0 ∧ t.rd PWR_STAT_BATABS = 1 ∧ SameMem s t) ∧
  (∀ (s : State) (cap : Nat), s.rd PWR_STAT_MAIN ≠ 1 → s.power.stopped = 0 → Yields (exec (.supplyStart cap) s) fun t => t.rd PWR_STAT_MAIN = 1 ∧ t.rd PWR_STAT_STBY = 1 ∧ t.rd PWR_STAT_MAINS = 1 ∧
    t.rd PWR_STAT_NVINH = 1 ∧ t.rd PWR_BULK_CAP = min 1023 cap ∧ t.power.starting = true ∧ t.power.bootDue = true ∧ t.power.offAt = none) ∧
  (∀ s : State, s.rd PWR_STAT_MAIN ≠ 1 → Yields (exec .supplyStartFailure s) fun t => t.mode = s.mode ∧ SameRegsBut [BBX_LOST_COUNT.key 0] s t ∧ SameMem s t) ∧
  (∀ (s : State) (stop : Bool), s.rd PWR_STAT_PSUHOT ≠ 1 → Yields (exec (.supplyOvertemp stop) s) fun t => t.rd PWR_STAT_PSUHOT = 1 ∧ (stop = true → t.power.stopped = 1 ∧ t.rd PWR_STAT_MAINS = 0)) ∧
  (∀ s : State, s.rd PWR_STAT_MAIN ≠ 0 → Yields (exec .supplyOverload s) fun t => t.power.stopped = 2 ∧ t.rd PWR_STAT_MAINS = 0 ∧ t.mode = s.mode ∧ SameMem s t) ∧
  (∀ s : State, s.power.stopped ≠ 0 → Yields (exec .supplyStageRestart s) fun t => t.power.stopped = 0 ∧ t.rd PWR_STAT_MAINS = 1) ∧
  (∀ (s : State) (d : Fin 12), s.dieUp d = true → s.mode ≠ DORMANT → Yields (exec (.dieOvercurrent d) s) fun t => t.mode = SAFE ∧ t.dieUp d = false ∧
    t.rdi GLB_DIESTAT_STATE (4 * d) = 3 ∧ t.rdi GLB_DIESTAT_REASON (4 * d) = ST_HW_PWR_OCP) ∧
  (∀ (s : State) (d : Fin 12), s.dieUp d = true → (s.die d).link = true → s.mode ≠ DORMANT → Yields (exec (.regulatorLinkLost d) s) fun t => t.mode = SAFE ∧ (t.die d).link = false) ∧
  (∀ (s : State) (d : Fin 12), Yields (exec (.regulatorLinkRestored d) s) fun t => (t.die d).link = true ∧ (∀ x, x ≠ d.val → t.die x = s.die x) ∧ t.mode = s.mode ∧
    SameRegsBut [HLT_AVLOSS_MS.key 0] s t ∧ SameMem s t) ∧
  (∀ (s : State) (rail : Fin 5) (d : Fin 12), s.mode ≠ DORMANT → 2 ≤ rail.val ∨ s.dieUp d = true → rail.val * 16 + (if rail.val < 2 then d.val else 0) ∉ s.power.bad →
    Yields (exec (.railFault rail d) s) fun t => t.mode = SAFE ∧ rail.val * 16 + (if rail.val < 2 then d.val else 0) ∈ t.power.bad) ∧
  (∀ (s : State) (rail : Fin 6) (d : Fin 12), rail.val ≠ 5 → Yields (exec (.railBackInBand rail d) s) fun t =>
    t.power.bad = s.power.bad.erase (rail.val * 16 + (if rail.val < 2 then d.val else 0)) ∧ t.mode = s.mode ∧ SameRegsBut [HLT_AVLOSS_MS.key 0] s t ∧ SameMem s t) ∧
  (∀ (s : State) (d : Fin 12), Yields (exec (.railBackInBand 5 d) s) fun t => (t.die d).railOk = true ∧ t.power = s.power ∧ t.mode = s.mode ∧ SameMem s t) ∧
  (∀ (s : State) (mv : Nat), Yields (exec (.coinCellMeasure mv) s) fun t => t.rd PWR_BATT_VBAT = min 4095 mv ∧ t.rd PWR_BATT_AGE = 0 ∧ t.rd PWR_STAT_BATLOW = (if mv < 2700 then 1 else 0) ∧
    SameRegsBut [PWR_BATT_VBAT.key 0, PWR_BATT_AGE.key 0, PWR_STAT_BATLOW.key 0] s t ∧ SameMem s t) ∧
  (∀ (s : State), s.rd PWR_STAT_BATABS ≠ 1 → s.rd PWR_STAT_STBY ≠ 0 → Yields (exec (.coinCellPresenceChange false) s) fun t => t.rd PWR_STAT_BATABS = 1 ∧
    bit (t.rd SEC_TAMPRAW_RAW) 4 = (if s.rd SEC_BATSVC_OPEN = 0 then 1 else 0) ∧ t.clocks = s.clocks ∧ SameRegsBut [PWR_STAT_BATABS.key 0, SEC_TAMPRAW_RAW.key 0] s t ∧ SameMem s t) ∧
  (∀ (s : State), s.rd PWR_STAT_BATABS ≠ 0 → Yields (exec (.coinCellPresenceChange true) s) fun t => t.rd PWR_STAT_BATABS = 0 ∧ bit (t.rd SEC_TAMPRAW_RAW) 4 = 0 ∧ SameMem s t) ∧
  (∀ (s : State) (mated : Bool), s.rd PWR_STAT_HOST ≠ mated.toNat → Yields (exec (.hostConnectorMate mated) s) fun t => t.rd PWR_STAT_HOST = mated.toNat ∧ t.rd PCI_STAT_SPEED = 0 ∧
    t.pcie.table = [] ∧ t.pcie.perst = !mated ∧ SameRegsBut [PWR_STAT_HOST.key 0, PCI_STAT_SPEED.key 0, PCI_STAT_WIDTH.key 0, PCI_STAT_DSTATE.key 0] s t ∧ SameMem s t) ∧
  (∀ (s : State) (f : Fin 2) (rpm : Nat), s.rd GLB_MODID_CODE = 3 → rpm < 1000 → Yields (exec (.fanFailure f rpm) s) fun t => t.rdi PWR_FAN_FAIL (4 * f) = 1 ∧ t.rdi PWR_FAN_RPM (4 * f) = rpm)

/-! Registers and the side-band port (spec/00, spec/20) -/

/-- Access to registers (R15 to R18, R515).  A pop answers with the head of its queue and removes it; a read clears the counters it shows; a plain write stores each field by
its access code and touches no other register; a write its owner refuses is counted, with its address, and has no effect. -/
def Obligations.RegisterAccess : Prop :=
  (∀ (s : State) (m : Master) (a : Nat) (r : Reg) (e : Nat × Nat) (l : List (Nat × Nat)), accessStop m false a s = none → regAt a = some r → r.isRp = true → r.has BBX_RDAT_WORD = false →
    (tabGet {} s.evq r.adr).entries = e :: l → Yields (exec (.rpQueuePop m a) s) fun t => t.reply = [e.1] ∧ (tabGet {} t.evq r.adr).entries = l ∧
      (∀ x, x ≠ r.adr → tabGet {} t.evq x = tabGet {} s.evq x) ∧ SameMem s t) ∧
  (∀ (s : State) (m : Master) (a : Nat) (r : Reg), accessStop m false a s = none → regAt a = some r → r.isRp = true → r.has BBX_RDAT_WORD = false → (tabGet {} s.evq r.adr).entries = [] →
    exec (.rpQueuePop m a) s = .next { s with reply := [0] }) ∧
  (∀ (a : Nat) (r : Reg), regAt a = some r → r.isRp = true → ∃ f ∈ r.flds, f.lo = 31 ∧ f.w = 1 ∧ f.acc = .rp) ∧
  (∀ (s : State) (m : Master) (a : Nat) (r : Reg), accessStop m false a s = none → regAt a = some r → r.isRp = false → r.isRc = true → r.has BBX_RDAT_WORD = false →
    Yields (exec (.rcCounterRead m a) s) fun t => t.reply = [regWord r (a - r.adr) s] ∧ (∀ f ∈ r.flds, f.acc = .rc → fieldVal t f (a - r.adr) = 0) ∧
      SameRegsOutside a (a + 4) s t ∧ SameMem s t) ∧
  (∀ (s : State) (m : Master) (a : Nat) (v : BitVec 32) (r : Reg) (f : Fld), accessStop m true a s = none → regAt a = some r → dbgLocked m a s = false → ownerLets m r s = true →
    r.has GLB_HEARTBEAT_KEY = false → r.has PWR_VAULT_REQ = false → r.isCmd = false → (∀ w, (if 0x1000000 ≤ r.adr then dieWrite r (a - r.adr) w s else blockWrite m r (a - r.adr) w s) = none) →
    f ∈ r.flds → f ≠ DRC_SCHED_WQLO → f ≠ HLT_TPOL_TWARN → Yields (exec (.registerWrite m a v) s) fun t =>
      (f.acc = .rw → t.rdi f (a - r.adr) = stored f (a - r.adr) (f.of v.toNat) % 2 ^ f.w) ∧
      (f.acc = .w1c → t.rdi f (a - r.adr) = (s.rdi f (a - r.adr) &&& (2 ^ f.w - 1 - f.of v.toNat)) % 2 ^ f.w) ∧
      (f.acc = .w1s → t.rdi f (a - r.adr) = (s.rdi f (a - r.adr) ||| f.of v.toNat) % 2 ^ f.w) ∧
      (f.acc ≠ .rw → f.acc ≠ .w1c → f.acc ≠ .w1s → t.rdi f (a - r.adr) = s.rdi f (a - r.adr)) ∧ SameRegsOutside a (a + 4) s t ∧ SameMem s t) ∧
  (∀ (s : State) (a : Nat) (v : BitVec 32) (r : Reg), accessStop .host true a s = none → regAt a = some r → r.has GLB_HEARTBEAT_KEY = false → ownerLets .host r s = false →
    Yields (exec (.registerWrite .host a v) s) fun t => t.rd SBP_DENY_COUNT = min (s.rd SBP_DENY_COUNT + 1) (2 ^ 32 - 1) ∧ t.rd SBP_DENYADR_ADDR = a % 2 ^ 32 ∧
      SameRegsBut [SBP_DENY_COUNT.key 0, SBP_DENYADR_ADDR.key 0] s t ∧ SameMem s t) ∧
  (∀ (s : State) (m : Master) (a st : Nat) (v : BitVec 32), accessStop m true a s = some st → exec (.registerWrite m a v) s = .next s)

/-- The side-band port (R506 to R520).  Commands answer with their status; a broadcast has its effect and no answer.  A frame that is damaged is counted.  Control passes
on TAKE where it may and back on RELEASE and by itself.  A memory transfer refuses the vault; a wrong heartbeat is counted, and a lapse is shown.
Beside the spec it rests on the model's choices of notes/assumptions/78.md, notes/assumptions/80.md, notes/assumptions/81.md. -/
def Obligations.SidebandPort : Prop :=
  (∀ (s : State) (b : Bool), s.welt.mem = none → Yields (exec (.wspIdent b) s) fun t =>
    t.reply = (if b then [] else [0, wordAt 0 s, wordAt 4 s, wordAt SEC_STAT_LC.adr s, wordAt GLB_MODE_MODE.adr s]) ∧ t.side.proving = none ∧
    t.side.frameAt = (if b then s.side.frameAt else s.clocks.elapsed) ∧ SameRegsBut [] s t ∧ SameMem s t) ∧
  (∀ (s : State) (a : BitVec 32) (r : Reg), s.welt.mem = none → accessStop .sideband false a.toNat s = none → regAt a.toNat = some r → r.isRp = false → r.isRc = false →
    r.has CLK_TBL_TB = false → r.has BBX_RDAT_WORD = false → Yields (exec (.wspRead false a 1) s) fun t => t.reply = [0, regWord r (a.toNat - r.adr) s] ∧ SameRegsBut [] s t ∧ SameMem s t) ∧
  (∀ (s : State) (a : BitVec 32) (n : BitVec 16), s.welt.mem = none → n = 0 ∨ 256 < n.toNat → Yields (exec (.wspRead false a n) s) fun t => t.reply = [ST_SBP_BADCMD] ∧ SameRegsBut [] s t ∧ SameMem s t) ∧
  (∀ (s : State) (a v : BitVec 32), s.welt.mem = none → s.rd SEC_STAT_LC ≠ 4 → Yields (exec (.wspWrite false a [v]) s) fun t =>
    t.reply = [(regWrite .sideband a.toNat v.toNat (wspSeen true s)).1] ∧ t.regs = (regWrite .sideband a.toNat v.toNat (wspSeen true s)).2.regs ∧
      t.mem = (regWrite .sideband a.toNat v.toNat (wspSeen true s)).2.mem) ∧
  (∀ (s : State) (a v : BitVec 32), s.welt.mem = none → s.rd SEC_STAT_LC = 4 → s.mode ≠ DORMANT → Yields (exec (.wspWrite false a [v]) s) fun t => t.reply = [ST_REFUSED_LIFECYCLE] ∧ SameRegsBut [] s t ∧ SameMem s t) ∧
  (∀ (s : State) (a : BitVec 32) (n : BitVec 16), s.welt.mem = none → s.mode = DORMANT → alwaysOn a.toNat = false → 1 ≤ n.toNat → n.toNat ≤ 256 →
    Yields (exec (.wspRead false a n) s) fun t => t.reply = [ST_MODE_DORMANT] ∧ t.evq = s.evq ∧ SameRegsBut [] s t ∧ SameMem s t) ∧
  (∀ (s : State) (a : BitVec 32) (v : BitVec 32) (l : List (BitVec 32)), s.welt.mem = none → s.mode = DORMANT → alwaysOn a.toNat = false → l.length ≤ 255 →
    Yields (exec (.wspWrite false a (v :: l)) s) fun t => t.reply = [ST_MODE_DORMANT] ∧ t.evq = s.evq ∧ SameRegsBut [] s t ∧ SameMem s t) ∧
  (∀ (s : State) (b : Bool) (i : BitVec 8), s.welt.mem = none → s.rd SEC_STAT_LC ≠ 4 → i.toNat ≤ 6 → i.toNat ≤ nvsGet s nvsWSPMAX → s.mode ≠ DORMANT ∨ i.toNat ≤ 2 →
    Yields (exec (.wspBaud b i) s) fun t => t.reply = (if b then [] else [0]) ∧ t.rd SBP_LINK_RATE = i.toNat ∧ t.side.proving = some s.clocks.elapsed ∧ SameRegsBut [SBP_LINK_RATE.key 0] s t ∧ SameMem s t) ∧
  (∀ (s : State) (i : BitVec 8), s.welt.mem = none → s.rd SEC_STAT_LC ≠ 4 → i.toNat ≤ 6 → nvsGet s nvsWSPMAX < i.toNat ∨ (s.mode = DORMANT ∧ 2 < i.toNat) →
    Yields (exec (.wspBaud false i) s) fun t => t.reply = [ST_SBP_RATE] ∧ SameRegsBut [] s t ∧ SameMem s t) ∧
  (∀ (s : State) (at_ : Nat), s.side.proving = some at_ → Yields (exec .wspBaudFallback s) fun t => t.rd SBP_LINK_RATE = 0 ∧ t.side.proving = none ∧ at_ + 1000000000 ≤ t.clocks.elapsed ∧ SameMem s t) ∧
  (∀ (s : State) (b : Bool), s.welt.mem = none → s.rd SEC_STAT_LC ≠ 4 → s.rd SBP_CTRL_LAPSED = 1 ∨ s.rd SBP_GRANT_GRANT = 1 ∨ s.rd SBP_CTRL_CONTROL = 1 → Yields (exec (.wspTake b) s) fun t =>
    t.rd SBP_CTRL_CONTROL = 1 ∧ t.reply = (if b then [] else [0]) ∧ EventWritten SBP_EVENT_VALID 3 s t ∧ SameRegsBut [SBP_CTRL_CONTROL.key 0, BBX_LOST_COUNT.key 0] s t ∧ SameMem s t) ∧
  (∀ s : State, s.welt.mem = none → s.rd SEC_STAT_LC ≠ 4 → s.rd SBP_CTRL_LAPSED = 0 → s.rd SBP_GRANT_GRANT = 0 → s.rd SBP_CTRL_CONTROL = 0 → Yields (exec (.wspTake false) s) fun t =>
    t.rd SBP_CTRL_CONTROL = 0 ∧ t.reply = [ST_SBP_CONTROL] ∧ SameRegsBut [] s t ∧ SameMem s t) ∧
  (∀ (s : State) (b : Bool), s.welt.mem = none → s.rd SEC_STAT_LC ≠ 4 → Yields (exec (.wspRelease b) s) fun t => t.rd SBP_CTRL_CONTROL = 0 ∧ t.reply = (if b then [] else [0]) ∧ SameMem s t) ∧
  (∀ (s : State) (h : Nat), s.rd SBP_CTRL_CONTROL ≠ 0 → s.rd SBP_IDLE_SEC ≠ 0 → s.side.hbAt = some h → s.clocks.elapsed ≤ s.side.frameAt + s.rd SBP_IDLE_SEC * 1000000000 →
    s.side.frameAt + s.rd SBP_IDLE_SEC * 1000000000 ≤ h + s.rd GLB_HBTMO_TMO * 1000000 → Yields (exec .controlAutoReturn s) fun t => t.rd SBP_CTRL_CONTROL = 0 ∧ SameMem s t) ∧
  (∀ (s : State) (off : BitVec 16) (n : BitVec 8), s.welt.mem = none → s.rd SEC_STAT_LC ≠ 4 → 1 ≤ n.toNat → n.toNat ≤ 64 → Yields (exec (.wspNvread false off n) s) fun t =>
    t.reply = 0 :: (List.range n.toNat).map (fun i => nvsGet s (off.toNat + i)) ∧ SameRegsBut [] s t ∧ SameMem s t) ∧
  (∀ (s : State) (off : BitVec 16) (v : Byte), s.welt.mem = none → s.rd SEC_STAT_LC ≠ 4 → s.rd PWR_STAT_NVINH ≠ 1 → s.rd PWR_STAT_STBY ≠ 0 → nvsOk off.toNat v.toNat = true →
    Yields (exec (.wspNvwrite false off [v]) s) fun t => t.reply = [0] ∧ nvsGet t off.toNat = v.toNat ∧ (∀ o, o ≠ off.toNat → nvsGet t o = nvsGet s o) ∧ SameRegsBut [] s t ∧ SameMem s t) ∧
  (∀ (s : State) (off : BitVec 16) (v : Byte), s.welt.mem = none → s.rd SEC_STAT_LC ≠ 4 → s.rd PWR_STAT_NVINH = 1 → Yields (exec (.wspNvwrite false off [v]) s) fun t =>
    t.reply = [ST_SBP_NVINH] ∧ t.side.nvs = s.side.nvs ∧ SameMem s t) ∧
  (∀ (s : State) (a : BitVec 48) (q : Req), s.welt.mem = none → s.rd SEC_STAT_LC ≠ 4 → s.mode ≠ DORMANT → memRefusal a.toNat 64 s = none → a.toNat % 64 = 0 →
    blockReqs epMgmt RD a.toNat 64 0 = [q] → NetIdle s → PortOpen epMgmt s → TagFree epMgmt 1 s → LastReady RD { q with tag := 1 } s → ∃ u, exec (.wspMemread false a 64) s = .next (settle (pump u)) ∧
      (∃ v, Answers { q with tag := 1 } RD epLast RDR v 1 s u ∧ ∀ i, i < 64 → v / 256 ^ i % 256 = s.rdByte (a.toNat + i)) ∧ u.welt.mem = some { reqs := [{ q with tag := 1 }] } ∧ SameMem s u ∧ SameRegsBut [] s u) ∧
  (∀ (s : State) (a : BitVec 48) (l : List Byte) (q : Req), s.welt.mem = none → s.rd SEC_STAT_LC ≠ 4 → s.mode ≠ DORMANT → memRefusal a.toNat 64 s = none → a.toNat % 64 = 0 → l.length = 64 →
    blockReqs epMgmt WR a.toNat 64 (ofBytes (l.map BitVec.toNat)) = [q] → NetIdle s → PortOpen epMgmt s → TagFree epMgmt 1 s → LastReady WR { q with tag := 1 } s →
    ∃ u, exec (.wspMemwrite false a l) s = .next (settle (pump u)) ∧ (∀ i, i < 64 → u.rdByte (a.toNat + i) = (l.getD i 0).toNat) ∧ SameMemOutside a.toNat 64 s u ∧ SameRegsBut [] s u) ∧
  (∀ (s : State) (a : BitVec 48) (l : List Byte), s.welt.mem = none → s.rd SEC_STAT_LC ≠ 4 → s.mode ≠ DORMANT → 1 ≤ l.length → l.length ≤ 1024 → inVault a.toNat = true →
    Yields (exec (.wspMemwrite false a l) s) fun t => t.reply = [ST_REFUSED_VAULT] ∧ t.welt = s.welt ∧ SameRegsBut [] s t ∧ SameMem s t) ∧
  (∀ (s : State) (l : List Byte), l.length < 8 ∨ 247 < (l.getD 0 0).toNat ∨ l.length ≠ 8 + (l.getD 1 0).toNat + 256 * (l.getD 2 0).toNat → Yields (exec (.wspFrameReceive l) s) fun t =>
    t.rd SBP_RXERR_COUNT = min (s.rd SBP_RXERR_COUNT + 1) (2 ^ 32 - 1) ∧ SameRegsBut [SBP_RXERR_COUNT.key 0] s t ∧ SameMem s t) ∧
  (∀ (s : State) (adr c0 c1 c2 c3 : Byte), s.welt.mem = none → adr.toNat = nvsGet s nvsWSPADDR → 1 ≤ adr.toNat → adr.toNat ≤ 247 →
    ofBytes ([c0, c1, c2, c3].map BitVec.toNat) = crcBytes [adr.toNat, 0, 0, 1] → Yields (exec (.wspFrameReceive [adr, 0, 0, 1, c0, c1, c2, c3]) s) fun t =>
      t.reply = [0, wordAt 0 s, wordAt 4 s, wordAt SEC_STAT_LC.adr s, wordAt GLB_MODE_MODE.adr s] ∧ SameRegsBut [] s t ∧ SameMem s t) ∧
  (∀ (s : State) (v : BitVec 32), s.mode ≠ DORMANT → v.toNat % 2 ^ 16 = 0x4842 → Yields (exec (.heartbeatWrite v) s) fun t => t.side.hbAt = some s.clocks.elapsed ∧
    t.rd SBP_CTRL_ARMED = (if s.rd GLB_HBTMO_TMO = 0 then s.rd SBP_CTRL_ARMED else 1) ∧ (s.rd SBP_CTRL_LAPSED = 1 → t.rd SBP_CTRL_LAPSED = 0) ∧ t.rd SBP_CTRL_CONTROL = s.rd SBP_CTRL_CONTROL ∧ SameMem s t) ∧
  (∀ (s : State) (v : BitVec 32), s.mode ≠ DORMANT → v.toNat % 2 ^ 16 ≠ 0x4842 → Yields (exec (.heartbeatWrite v) s) fun t =>
    t.rd GLB_HBBAD_COUNT = min (s.rd GLB_HBBAD_COUNT + 1) (2 ^ 32 - 1) ∧ t.side = s.side ∧ SameRegsBut [GLB_HBBAD_COUNT.key 0] s t ∧ SameMem s t) ∧
  (∀ (s : State) (at_ : Nat), s.side.hbAt = some at_ → s.mode ≠ DORMANT → s.rd SBP_CTRL_ARMED ≠ 0 → s.rd SBP_CTRL_LAPSED ≠ 1 → Yields (exec .heartbeatLapse s) fun t => t.rd SBP_CTRL_LAPSED = 1 ∧
    at_ + s.rd GLB_HBTMO_TMO * 1000000 ≤ t.clocks.elapsed ∧ (s.rd GLB_HBTMO_ACT ≠ 1 → t.mode = s.mode ∧ SameMem s t))

/-! Security (spec/20) -/

/-- A signed command of operation `op` is due: its block passes the checks of R529, and no command is in progress. -/
def SignedDue (op : Nat) (s : State) : Prop :=
  s.mode ≠ DORMANT ∧ s.rd SEC_STAT_LC ≠ 4 ∧ s.rd SEC_CMD_BUSY = 0 ∧ secOp s = op ∧ secCheck s = 0

/-- Signed commands, tamper and the owner's inputs (R525 to R534).  A command that passes the checks programs or revokes its slot, changes the life cycle and wipes the
vault, loads or erases its key, opens the debug port or the cell service window; one that fails them completes with what failed and changes nothing else.
Tamper latches its source and wipes the vault.
Beside the spec it rests on the model's choices of notes/assumptions/67.md, notes/assumptions/68.md, notes/assumptions/69.md. -/
def Obligations.SignedCommandsAndTamper : Prop :=
  (∀ s : State, SignedDue 1 s → secArg s 0 1 < 8 → s.rd SEC_STAT_SLOTPROG < 256 → bit (s.rd SEC_STAT_SLOTPROG) (secArg s 0 1) = 0 → s.rd PWR_STAT_NVINH ≠ 1 →
    Yields (exec (.signedProgramSlot true) s) fun t => Ends t SEC_CMD_STATUS SEC_CMD_BUSY 0 ∧ t.rd SEC_STAT_SLOTPROG = s.rd SEC_STAT_SLOTPROG + 2 ^ secArg s 0 1 ∧
      tabGet 0 t.keyHash (secArg s 0 1) = bigEndian (secBytes s 0x19 48) ∧ t.rd SEC_STAT_LC = s.rd SEC_STAT_LC ∧ SameMem s t) ∧
  (∀ s : State, SignedDue 2 s → secArg s 0 1 < 8 → (∃ m, m < 8 ∧ m ≠ secArg s 0 1 ∧ slotAccepted s m = true) → s.rd PWR_STAT_NVINH ≠ 1 →
    Yields (exec (.signedRevokeSlot true) s) fun t => Ends t SEC_CMD_STATUS SEC_CMD_BUSY 0 ∧ bit (t.rd SEC_STAT_SLOTREV) (secArg s 0 1) = 1 ∧
      t.rd SEC_STAT_SLOTPROG = s.rd SEC_STAT_SLOTPROG ∧ t.keyHash = s.keyHash ∧ SameMem s t) ∧
  (∀ s : State, SignedDue 3 s → secArg s 0 1 < 5 → s.mode = LOAD ∨ s.mode = HOLD → lcBad s (secArg s 0 1) = false → s.rd PWR_STAT_NVINH ≠ 1 →
    Yields (exec (.lifeCycleTransition true) s) fun t => Ends t SEC_CMD_STATUS SEC_CMD_BUSY 0 ∧ t.rd SEC_STAT_LC = secArg s 0 1 ∧ (∀ a, inVault a = true → t.rdByte a = 0) ∧
      (secArg s 0 1 = 3 ∨ secArg s 0 1 = 4 → t.rd SEC_KEYS_PRESENT = 0 ∧ t.secur.keys = []) ∧ t.rd DBG_PORT_UNLOCKED = 0 ∧
      t.rd SEC_STAT_DBGOPEN = (if secArg s 0 1 ≤ 1 ∨ secArg s 0 1 = 3 then 1 else 0) ∧ t.mode = s.mode) ∧
  (∀ s : State, SignedDue 3 s → secArg s 0 1 < 5 → s.mode ≠ LOAD → s.mode ≠ HOLD → Yields (exec (.lifeCycleTransition true) s) fun t =>
    Ends t SEC_CMD_STATUS SEC_CMD_BUSY ST_SEC_STATE ∧ t.rd SEC_STAT_LC = s.rd SEC_STAT_LC ∧ SameMem s t) ∧
  (∀ s : State, SignedDue 4 s → 1 ≤ secArg s 0 1 → secArg s 0 1 < 16 → secArg s 4 4 + 136 ≤ 0x2000000 → Config.sha384 (s.rdBytes 136 (lastBase + secArg s 4 4)) = bigEndian (secBytes s 0x20 48) →
    (Config.decrypt 0 (s.rd64 SEC_MODSNL_SN SEC_MODSNH_SN) (s.rdBytes 136 (lastBase + secArg s 4 4))).2 = true → s.rd PWR_STAT_NVINH ≠ 1 → Yields (exec .signedLoadKey s) fun t =>
      Ends t SEC_CMD_STATUS SEC_CMD_BUSY 0 ∧ bit (t.rd SEC_KEYS_PRESENT) (secArg s 0 1 - 1) = 1 ∧
      tabGet 0 t.secur.keys (secArg s 0 1) = bigEndian (Config.decrypt 0 (s.rd64 SEC_MODSNL_SN SEC_MODSNH_SN) (s.rdBytes 136 (lastBase + secArg s 4 4))).1 ∧ SameMem s t) ∧
  (∀ s : State, SignedDue 5 s → secArg s 0 1 < 16 → s.rd PWR_STAT_NVINH ≠ 1 → Yields (exec .signedEraseKey s) fun t => Ends t SEC_CMD_STATUS SEC_CMD_BUSY 0 ∧
    tabGet 0 t.secur.keys (secArg s 0 1) = 0 ∧ (secArg s 0 1 = 0 → t.secur.keys = [] ∧ t.rd SEC_KEYS_PRESENT = 0) ∧
    (1 ≤ secArg s 0 1 → bit (t.rd SEC_KEYS_PRESENT) (secArg s 0 1 - 1) = 0) ∧ SameMem s t) ∧
  (∀ s : State, SignedDue 6 s → s.rd SEC_STAT_LC = 2 → Yields (exec .signedDebugUnlock s) fun t => Ends t SEC_CMD_STATUS SEC_CMD_BUSY 0 ∧ t.rd SEC_STAT_DBGOPEN = 1 ∧ t.rd DBG_PORT_OPEN = 1 ∧
    t.rd DBG_PORT_UNLOCKED = 1 ∧ SameMem s t) ∧
  (∀ s : State, SignedDue 7 s → s.rd PWR_STAT_STBY ≠ 0 → Yields (exec .signedCellService s) fun t => Ends t SEC_CMD_STATUS SEC_CMD_BUSY 0 ∧ t.rd SEC_BATSVC_OPEN = 1 ∧
    t.secur.winAt = s.clocks.elapsed ∧ SameMem s t) ∧
  (∀ x ∈ [(1, Instr.signedProgramSlot true), (2, .signedRevokeSlot true), (3, .lifeCycleTransition true), (4, .signedLoadKey), (5, .signedEraseKey), (6, .signedDebugUnlock), (7, .signedCellService)],
    ∀ s : State, s.mode ≠ DORMANT → s.rd SEC_STAT_LC ≠ 4 → s.rd SEC_CMD_BUSY = 0 → secOp s = x.1 → secCheck s ≠ 0 → secCheck s < 2 ^ 16 → Yields (exec x.2 s) fun t =>
      Ends t SEC_CMD_STATUS SEC_CMD_BUSY (secCheck s) ∧ t.rd SEC_STAT_SLOTPROG = s.rd SEC_STAT_SLOTPROG ∧ t.rd SEC_STAT_SLOTREV = s.rd SEC_STAT_SLOTREV ∧ t.rd SEC_STAT_LC = s.rd SEC_STAT_LC ∧
      t.secur = s.secur ∧ t.keyHash = s.keyHash ∧ SameMem s t) ∧
  (∀ (s : State) (src : Fin 5), s.rd PWR_STAT_STBY ≠ 0 → bit (s.rd SEC_TAMPEN_EN) src = 1 → src.val ≠ 4 ∨ s.rd SEC_BATSVC_OPEN ≠ 1 → Yields (exec (.tamperEvent src true) s) fun t =>
    bit (t.rd SEC_TAMPER_LATCH) src = 1 ∧ bit (t.rd SEC_TAMPRAW_RAW) src = 1 ∧ (∀ a, inVault a = true → t.rdByte a = 0) ∧
    (bit (s.rd SEC_TAMPACT_SAFE) src = 1 → 2 ≤ s.mode → s.mode ≤ 4 → t.mode = SAFE) ∧ (bit (s.rd SEC_TAMPACT_SAFE) src = 0 → t.mode = s.mode) ∧
    (bit (s.rd SEC_TAMPACT_ZERO) src = 1 → s.rd PWR_STAT_NVINH ≠ 1 → s.rd PWR_STAT_MAIN ≠ 0 → t.secur.keys = [] ∧ t.rd SEC_KEYS_PRESENT = 0)) ∧
  (∀ (s : State) (src : Fin 5), s.rd PWR_STAT_STBY ≠ 0 → Yields (exec (.tamperEvent src false) s) fun t => bit (t.rd SEC_TAMPRAW_RAW) src = 0 ∧ t.rd SEC_TAMPER_LATCH = s.rd SEC_TAMPER_LATCH ∧
    SameRegsBut [SEC_TAMPRAW_RAW.key 0] s t ∧ SameMem s t) ∧
  (∀ (s : State) (active : Bool), Yields (exec (.ownerLockChange active) s) fun t => t.rd SEC_STAT_OWNIN = active.toNat ∧
    t.rd SEC_STAT_OWNLOCK = (if slotAccepted s 7 = true ∧ active = true then 1 else 0) ∧ SameRegsBut [SEC_STAT_OWNIN.key 0, SEC_STAT_OWNLOCK.key 0] s t ∧ SameMem s t) ∧
  (∀ (s : State) (active : Bool), Yields (exec (.motionInputChange active) s) fun t => t.rd UPD_STAT_MOTION = active.toNat ∧ SameRegsBut [UPD_STAT_MOTION.key 0] s t ∧ SameMem s t) ∧
  (∀ s : State, s.mode ≠ DORMANT → s.rd SEC_STAT_OWNLOCK ≠ 1 → s.rd PWR_STAT_STBY ≠ 0 → Yields (exec .cellServiceOpen s) fun t => t.rd SEC_BATSVC_OPEN = 1 ∧ t.rd SEC_BATSVC_STATUS = 0 ∧
    t.rd SEC_BATSVC_REMAIN = 600 ∧ t.secur.winAt = s.clocks.elapsed ∧ SameMem s t) ∧
  (∀ s : State, s.mode ≠ DORMANT → s.rd SEC_STAT_OWNLOCK = 1 → Yields (exec .cellServiceOpen s) fun t => t.rd SEC_BATSVC_STATUS = ST_REFUSED_SIGNER ∧
    SameRegsBut [SEC_BATSVC_STATUS.key 0] s t ∧ SameMem s t) ∧
  (∀ s : State, s.rd SEC_BATSVC_OPEN ≠ 0 → Yields (exec .cellServiceClose s) fun t => t.rd SEC_BATSVC_OPEN = 0 ∧ (s.rd PWR_STAT_STBY ≠ 0 → s.secur.winAt + 600000000000 ≤ t.clocks.elapsed) ∧
    t.mode = s.mode ∧ SameMem s t)

/-! Debug (spec/21) -/

/-- Nothing of core `c` delays a monitor entry: the debug domain has power, the monitor is enabled, the core runs outside a session, LOCK window, load and delayed write, and no entry waits. -/
def EntryFree (c : Nat) (s : State) : Prop :=
  dbgPowered s = true ∧ s.rdi DBG_CORECTL_MONEN (oDbg c) ≠ 0 ∧ inSession s c = false ∧ awlState s c = awlRUN ∧ (s.core c).lk = none ∧ (s.core c).loads = [] ∧ (s.core c).arch.pend = none

/-- In `t` core `c` has entered the monitor from `s` for `cause` (R551): level 5, the return address and status saved, the entry counted. -/
def InMonitor (c cause : Nat) (s t : State) : Prop :=
  t.rdi DBG_STAT_MON (oDbg c) = 1 ∧ t.rdi DBG_STAT_CAUSE (oDbg c) = cause ∧ t.rdi DBG_STAT_ENTRIES (oDbg c) = (s.rdi DBG_STAT_ENTRIES (oDbg c) + 1) % 2 ^ 16 ∧
    (t.core c).arch.get (kRPC 5) = (s.core c).arch.pc ∧ (t.core c).arch.get (kRSR 5) = (s.core c).arch.sr ∧ (t.core c).arch.pc = vector s c 10 ∧ tabGet 0 t.dbg.pend c = 0 ∧
    (∀ x, x ≠ c → t.core x = s.core x) ∧ t.mode = s.mode ∧ SameMem s t

/-- The debug domain (R536 to R553, R559, R560).  Its reset and loss of power clear its registers.  A comparator acts on every (SKIP + 1)th hit: it enters the monitor, asks
for a capture, or pulses TRIGOUT; a Welt monitor counts its matches and acts; so does TRIGIN.  A core that cannot enter refuses DBG_CORECMD.  A capture trigger
starts the captures it names, or is counted as missed.  The window reads, writes and polls.
Beside the spec it rests on the model's choices of notes/assumptions/5.md, notes/assumptions/74.md, notes/assumptions/75.md, notes/assumptions/79.md. -/
def Obligations.DebugDomain : Prop :=
  (∀ s : State, Yields (exec .debugReset s) fun t => t.dbg = {} ∧ (∀ f o, f.lo < 32 → 0xF0000 ≤ f.adr + o → f.adr + o < 0x100000 → f.adr + o ≠ 0xF0004 → t.rdi f o = f.rst) ∧
    t.rd DBG_PORT_WRITES = 0 ∧ t.rd DBG_PORT_UNLOCKED = 0 ∧ t.rd DBG_PORT_OPEN = s.rd DBG_PORT_OPEN ∧
    SameRegsOutside 0xF0000 0x100000 s t ∧ t.mode = s.mode ∧ t.cores = s.cores ∧ SameMem s t) ∧
  (∀ (s : State) (on : Bool), s.mode ≠ DORMANT → Yields (exec (.probeAttach on) s) fun t => t.rd DBG_PORT_PROBE = on.toNat ∧ t.dbg = s.dbg ∧ SameRegsBut [DBG_PORT_PROBE.key 0] s t ∧ SameMem s t) ∧
  (∀ (s : State) (on : Bool), s.mode = DORMANT → Yields (exec (.probeAttach on) s) fun t => t.rd DBG_PORT_PROBE = on.toNat ∧
    t.rd DBG_PORT_POWER = (if on = true ∧ s.rd PWR_STAT_STBY = 1 then 1 else 0) ∧ SameRegsOutside 0xF0000 0x100000 s t ∧ SameMem s t) ∧
  (∀ (s : State) (c : Fin 384) (i : Fin 4) (a d : BitVec 32), dbgPowered s = true → inSession s c = false → awlState s c = awlRUN → cmpMatches s c i a.toNat d.toNat = true →
    s.rdi DBG_CMPCTL_KIND (oCmp c i) ≠ 0 ∨ a.toNat = execPc s c i → (tabGet 0 s.dbg.hits (c * 4 + i) + 1) % (s.rdi DBG_CMPCTL_SKIP (oCmp c i) + 1) ≠ 0 ∨ s.rdi DBG_CMPCTL_ACT (oCmp c i) = 0 →
    Yields (exec (.comparatorHit c i a d) s) fun t => t.dbg = { s.dbg with hits := tabSet 0 s.dbg.hits (c * 4 + i) (tabGet 0 s.dbg.hits (c * 4 + i) + 1) } ∧ t.cores = s.cores ∧ SameRegsBut [] s t ∧ SameMem s t) ∧
  (∀ (s : State) (c : Fin 384) (i : Fin 4) (a d : BitVec 32), dbgPowered s = true → inSession s c = false → awlState s c = awlRUN → cmpMatches s c i a.toNat d.toNat = true →
    s.rdi DBG_CMPCTL_KIND (oCmp c i) ≠ 0 ∨ a.toNat = execPc s c i → (tabGet 0 s.dbg.hits (c * 4 + i) + 1) % (s.rdi DBG_CMPCTL_SKIP (oCmp c i) + 1) = 0 → s.rdi DBG_CMPCTL_ACT (oCmp c i) = 2 →
    Yields (exec (.comparatorHit c i a d) s) fun t => t.dbg.trig = s.dbg.trig + 1 ∧ t.cores = s.cores ∧ SameRegsBut [] s t ∧ SameMem s t) ∧
  (∀ (s : State) (c : Fin 384) (i : Fin 4) (a d : BitVec 32), EntryFree c s → tabGet 0 s.dbg.pend c = 0 → cmpMatches s c i a.toNat d.toNat = true →
    s.rdi DBG_CMPCTL_KIND (oCmp c i) ≠ 0 ∨ a.toNat = execPc s c i → (tabGet 0 s.dbg.hits (c * 4 + i) + 1) % (s.rdi DBG_CMPCTL_SKIP (oCmp c i) + 1) = 0 → s.rdi DBG_CMPCTL_ACT (oCmp c i) = 1 →
    Yields (exec (.comparatorHit c i a d) s) fun t => InMonitor c (if s.rdi DBG_CMPCTL_KIND (oCmp c i) = 0 then 2 else 3) s t ∧ t.rdi DBG_STAT_COMP (oDbg c) = i) ∧
  (∀ (s : State) (m : Fin 16) (die : Fin 13) (router : Fin 8) (q : Req), dbgPowered s = true → s.rdi DBG_WMCTL_EN (m * 0x40) ≠ 0 → s.rdi DBG_WMCTL_DIE (m * 0x40) = die →
    die.val = 12 ∨ s.rdi DBG_WMCTL_ROUTER (m * 0x40) = router → wmMatches s m q = true → Yields (exec (.weltMonitorMatch m die router q) s) fun t =>
      t.rdi DBG_WMCNT_COUNT (m * 0x40) = min (s.rdi DBG_WMCNT_COUNT (m * 0x40) + 1) (2 ^ 32 - 1) ∧ (s.rdi DBG_WMCTL_ACT (m * 0x40) = 0 → t.dbg = s.dbg) ∧
      (s.rdi DBG_WMCTL_ACT (m * 0x40) = 2 → t.dbg.trig = s.dbg.trig + 1) ∧ (s.rdi DBG_WMCTL_ACT (m * 0x40) = 3 → t.dbg.trigOut = (if s.clocks.elapsed < s.dbg.trigOut then s.dbg.trigOut else s.clocks.elapsed + 100)) ∧
      t.cores = s.cores ∧ SameMem s t) ∧
  (∀ (s : State) (m : Fin 16) (die : Fin 13) (router : Fin 8) (q : Req), dbgPowered s = false ∨ wmMatches s m q = false → exec (.weltMonitorMatch m die router q) s = .next s) ∧
  (∀ (s : State), dbgPowered s = true → s.rd DBG_CTL_TRIGACT = 2 → Yields (exec .triginEdge s) fun t => t.dbg = { s.dbg with trig := s.dbg.trig + 1 } ∧ SameRegsBut [] s t ∧ SameMem s t) ∧
  (∀ (s : State) (c : Nat), s.rd DBG_CTL_TRIGACT = 1 → s.rd DBG_CTL_TRIGCORE = c → EntryFree c s → tabGet 0 s.dbg.pend c = 0 → Yields (exec .triginEdge s) fun t =>
    tabGet 0 t.dbg.pend c = 5 ∧ SameRegsBut [] s t ∧ SameMem s t) ∧
  (∀ (s : State) (c : Fin 384), EntryFree c s → tabGet 0 s.dbg.pend c = 0 → s.rdi DBG_CORECMD_BUSY (oDbg c) ≠ 1 → Yields (exec (.dbgCoreEnter c) s) fun t =>
    t.rdi DBG_CORECMD_BUSY (oDbg c) = 1 ∧ tabGet 0 t.dbg.pend c = 4 ∧ SameRegsBut [DBG_CORECMD_BUSY.key (oDbg c)] s t ∧ t.cores = s.cores ∧ SameMem s t) ∧
  (∀ (s : State) (c : Fin 384), dbgPowered s = true → cannotEnter s c = true → s.rdi DBG_CORECMD_BUSY (oDbg c) ≠ 1 → Yields (exec (.dbgCoreEnter c) s) fun t =>
    t.rdi DBG_CORECMD_STATUS (oDbg c) = ST_DBG_STATE ∧ SameRegsBut [DBG_CORECMD_STATUS.key (oDbg c)] s t ∧ t.dbg = s.dbg ∧ SameMem s t) ∧
  (∀ (s : State) (c : Fin 384), EntryFree c s → tabGet 0 s.dbg.pend c = 4 → Yields (exec (.monitorEntry c) s) fun t => InMonitor c 4 s t ∧
    (s.rdi DBG_CORECMD_BUSY (oDbg c) = 1 → t.rdi DBG_CORECMD_BUSY (oDbg c) = 0 ∧ t.rdi DBG_CORECMD_STATUS (oDbg c) = 0)) ∧
  (∀ (s : State) (c : Fin 384), tabGet 0 s.dbg.pend c = 0 ∨ cannotEnter s c = true → exec (.monitorEntry c) s = .next s) ∧
  (∀ s : State, s.dbg.trig ≠ 0 → dbgPowered s = true → s.rd DBG_CAPCFG_ARM = 0 ∨ s.rd DBG_CAPSTAT_PEND = 1 → Yields (exec .triggeredCapture s) fun t => t.dbg.trig + 1 = s.dbg.trig ∧
    t.rd DBG_CAPSTAT_MISSED = min (s.rd DBG_CAPSTAT_MISSED + 1) (2 ^ 14 - 1) ∧ SameRegsBut [DBG_CAPSTAT_MISSED.key 0] s t ∧ SameMem s t) ∧
  (∀ s : State, s.dbg.trig ≠ 0 → dbgPowered s = true → s.rd DBG_CAPCFG_ARM ≠ 0 → s.rd DBG_CAPSTAT_PEND ≠ 1 → capRefusal (s.rd DBG_CAPCFG_DIEMASK) (s.rd DBG_CAPMASK_MASK) s = 0 →
    capRegions (s.rd DBG_CAPCFG_DIEMASK) (s.rd DBG_CAPMASK_MASK) ≠ [] → Yields (exec .triggeredCapture s) fun t => t.rd DBG_CAPSTAT_PEND = 1 ∧ t.rd DBG_CAPSTAT_STATUS = 0 ∧ t.rd DBG_CAPCFG_ARM = 0 ∧
      t.rd DBG_CAPEL_T = s.clocks.tb % 2 ^ 32 ∧ (∀ p ∈ capRegions (s.rd DBG_CAPCFG_DIEMASK) (s.rd DBG_CAPMASK_MASK), t.rdi FDC_RSTAT_CAPPEND (oReg p.1 p.2) = 1) ∧ t.mode = s.mode ∧ SameMem s t) ∧
  (∀ s : State, s.dbg.trig ≠ 0 → dbgPowered s = true → s.rd DBG_CAPCFG_ARM ≠ 0 → s.rd DBG_CAPSTAT_PEND ≠ 1 → capRefusal (s.rd DBG_CAPCFG_DIEMASK) (s.rd DBG_CAPMASK_MASK) s ≠ 0 →
    Yields (exec .triggeredCapture s) fun t => t.rd DBG_CAPSTAT_STATUS = capRefusal (s.rd DBG_CAPCFG_DIEMASK) (s.rd DBG_CAPMASK_MASK) s ∧ t.rd DBG_CAPSTAT_PEND = s.rd DBG_CAPSTAT_PEND ∧
      t.rd DBG_CAPCFG_ARM = 0 ∧ SameMem s t) ∧
  (∀ (s : State), dbgPowered s = true → Yields (exec (.dbgaccPoll false) s) fun t => t.reply = words32 3 (dbgCapture s) ∧ t.dbg = { s.dbg with drop := false } ∧ SameRegsBut [] s t ∧ SameMem s t) ∧
  (∀ (s : State) (peek : Bool) (a : BitVec 48) (r : Reg), dbgPowered s = true → s.welt.win = none → s.rd DBG_PORT_OPEN ≠ 0 → a.toNat < 2 ^ 28 → accessStop .debug false a.toNat s = none → regAt a.toNat = some r →
    r.has BBX_RDAT_WORD = false → peek = true ∨ (r.isRp = false ∧ r.isRc = false ∧ r.has CLK_TBL_TB = false) → Yields (exec (.dbgaccRead peek false a) s) fun t =>
      t.dbg.done = true ∧ t.dbg.status = 0 ∧ t.dbg.data = regWord r (a.toNat - r.adr) s ∧ SameRegsBut [] s t ∧ SameMem s t) ∧
  (∀ (s : State) (peek : Bool) (a : BitVec 48), dbgPowered s = true → s.welt.win = none → s.rd DBG_PORT_OPEN ≠ 0 → s.mode ≠ DORMANT → inVault a.toNat = true → a.toNat % 4 = 0 →
    Yields (exec (.dbgaccRead peek true a) s) fun t => t.dbg.done = true ∧ t.dbg.status = ST_REFUSED_VAULT ∧ t.dbg.data = s.dbg.data ∧ t.welt = s.welt ∧ SameRegsBut [] s t ∧ SameMem s t) ∧
  (∀ (s : State) (space : Bool) (a : BitVec 48) (v : BitVec 32), dbgPowered s = true → s.rd DBG_PORT_OPEN = 0 → s.welt.win = none → Yields (exec (.dbgaccWrite space a v) s) fun t =>
    t.dbg.status = ST_DBG_LOCKED ∧ t.dbg.done = true ∧ SameRegsBut [] s t ∧ SameMem s t) ∧
  (∀ (s : State) (space : Bool) (a : BitVec 48) (v : BitVec 32), dbgPowered s = true → s.welt.win ≠ none → Yields (exec (.dbgaccWrite space a v) s) fun t =>
    t.dbg = { s.dbg with drop := true } ∧ SameRegsBut [] s t ∧ SameMem s t) ∧
  (∀ (s : State) (a : BitVec 48) (v : BitVec 32), dbgPowered s = true → s.welt.win = none → s.rd DBG_PORT_OPEN ≠ 0 → a.toNat = DBG_CAPMASK_MASK.adr → Yields (exec (.dbgaccWrite false a v) s) fun t =>
    t.rd DBG_CAPMASK_MASK = v.toNat ∧ t.rd DBG_PORT_WRITES = min (s.rd DBG_PORT_WRITES + 1) 65535 ∧ t.dbg.status = 0 ∧ t.dbg.done = true ∧ SameRegsBut [DBG_CAPMASK_MASK.key 0, DBG_PORT_WRITES.key 0] s t ∧ SameMem s t)

/-! Live changeover (spec/12) -/

/-- The changeover is over: SHF is idle with this outcome and status, and a module in SHIFT is back in RUN. -/
def ShfEnded (outcome st : Nat) (s t : State) : Prop :=
  shfState t = 0 ∧ t.rd SHF_RESULT_OUTCOME = outcome ∧ t.rd SHF_RESULT_STATUS = st ∧ (s.mode = SHIFT → t.mode = RUN)

/-- Live changeover (R317 to R338).  A staging enters SHIFT or ends; its completion, VERIFY, ARM and COMMIT each move the state on and are refused in another one.  At T_c the
staged image becomes the active one; a good report is SWITCHED, a release ends it, a rollback returns to the image before.  A die that does not answer, ARMTMO
and ABANDON end a changeover without effect.  An attach and a detach go the same way; a detached region is noted and stops.
Beside the spec it rests on the model's choices of notes/assumptions/5.md, notes/assumptions/37.md, notes/assumptions/46.md, notes/assumptions/47.md. -/
def Obligations.LiveChangeover : Prop :=
  (∀ (s : State) (img : Image), MayGo s SHF_CMD_BUSY → shiftAllowed s = false → Yields (exec (.shfStage img) s) fun t => Ends t SHF_CMD_STATUS SHF_CMD_BUSY ST_SHF_STATE ∧
    t.mode = s.mode ∧ shfState t = shfState s ∧ t.cfg = s.cfg ∧ SameMem s t) ∧
  (∀ (s : State) (img : Image), MayGo s SHF_CMD_BUSY → shiftAllowed s = true → s.rd SHF_ARG0_VALUE ≤ 12 → Yields (exec (.shfStage img) s) fun t => t.cfg.aimg = s.cfg.aimg ∧
    ((t.mode = SHIFT ∧ shfState t = 1 ∧ t.rd SHF_CMD_BUSY = 1 ∧ t.shf.src = s.rd SHF_ARG0_VALUE) ∨ (t.mode = RUN ∧ shfState t = 0 ∧ t.rd SHF_CMD_BUSY = 0 ∧ t.rd SHF_RESULT_OUTCOME = 2))) ∧
  (∀ s : State, shfState s = 1 → Yields (exec .shfStagingComplete s) fun t => shfState t = 2 ∧ Ends t SHF_CMD_STATUS SHF_CMD_BUSY 0 ∧ t.cfg.simg = s.shf.img ∧ t.cfg.aimg = s.cfg.aimg ∧
    t.mode = s.mode ∧ t.rd WLT_EPOCH_STATE = s.rd WLT_EPOCH_STATE) ∧
  (∀ s : State, shfState s ≠ 1 → exec .shfStagingComplete s = .next s) ∧
  (∀ s : State, MayGo s SHF_CMD_BUSY → shfState s = 2 → (verifyDies (usedDies s.cfg.simg ++ [12]) [1] s).1 = none → Yields (exec .shfVerify s) fun t => shfState t = 3 ∧
    Ends t SHF_CMD_STATUS SHF_CMD_BUSY 0 ∧ t.mode = s.mode ∧ SameMem s t) ∧
  (∀ (s : State) (f : Nat), MayGo s SHF_CMD_BUSY → shfState s = 2 → (verifyDies (usedDies s.cfg.simg ++ [12]) [1] s).1 = some f → Yields (exec .shfVerify s) fun t => shfState t = 2 ∧
    Ends t SHF_CMD_STATUS SHF_CMD_BUSY ST_INT_FRAMECRC ∧ t.mode = s.mode ∧ SameMem s t) ∧
  (∀ s : State, MayGo s SHF_CMD_BUSY → shfState s = 3 → s.rd CFG_STAT_SBADSEL ≠ 1 → s.rd WLT_EPOCH_STATE = 0 → armGears s = true → Yields (exec .shfArm s) fun t => shfState t = 4 ∧ t.rd SHF_CMD_BUSY = 1 ∧
    t.rd WLT_EPOCH_STATE = 1 ∧ t.rd SHF_EPOCH_EPOCH = (s.rd SHF_EPOCH_EPOCH + 1) % 2 ^ 32 ∧ t.cfg = s.cfg ∧ t.mode = s.mode ∧ SameMem s t) ∧
  (∀ s : State, MayGo s SHF_CMD_BUSY → shfState s = 3 → s.rd CFG_STAT_SBADSEL ≠ 1 → s.rd WLT_EPOCH_STATE = 0 → armGears s = false → Yields (exec .shfArm s) fun t => shfState t = 3 ∧
    Ends t SHF_CMD_STATUS SHF_CMD_BUSY ST_SHF_GEAR ∧ SameMem s t) ∧
  (∀ x ∈ [(2, Instr.shfVerify), (3, .shfArm), (5, .shfCommit), (7, .shfRollback), (7, .shfRelease)], ∀ s : State, MayGo s SHF_CMD_BUSY → shfState s ≠ x.1 → Yields (exec x.2 s) fun t =>
    Ends t SHF_CMD_STATUS SHF_CMD_BUSY ST_SHF_STATE ∧ shfState t = shfState s ∧ t.cfg = s.cfg ∧ t.mode = s.mode ∧ SameMem s t) ∧
  (∀ (s : State) (miss : BitVec 13) (d : Nat), shfState s = 4 → d < 13 → bit miss.toNat d = 1 → s.rdi SHF_DIEST_IN (4 * d) = 1 → s.rdi SHF_DIEST_ARMED (4 * d) = 0 →
    Yields (exec (.armAnswerTimeout miss) s) fun t => ShfEnded 2 ST_SHF_ARMFAIL s t ∧ t.rdi SHF_DIEST_FAILED (4 * d) = 1 ∧ t.cfg.aimg = s.cfg.aimg ∧ (s.rd SHF_CMD_BUSY = 1 → Ends t SHF_CMD_STATUS SHF_CMD_BUSY ST_SHF_ARMFAIL)) ∧
  (∀ s : State, shfState s = 4 → s.rd WLT_EPOCH_STATE = 2 → (∀ d, d < 13 → shadowWritten s d = true) → Yields (exec .armComplete s) fun t => shfState t = 5 ∧ Ends t SHF_CMD_STATUS SHF_CMD_BUSY 0 ∧
    (∀ d ∈ inDies s, t.rdi SHF_DIEST_ARMED (4 * d) = 1) ∧ t.cfg = s.cfg ∧ t.mode = s.mode ∧ SameMem s t) ∧
  (∀ s : State, shfState s = 5 → Yields (exec .armTimeout s) fun t => ShfEnded 2 ST_SHF_ARMTMO s t ∧ t.cfg.aimg = s.cfg.aimg) ∧
  (∀ (s : State) (T : Nat), MayGo s SHF_CMD_BUSY → shfState s = 5 → askedTime s = some T → Yields (exec .shfCommit s) fun t => shfState t = 6 ∧ t.rd SHF_CMD_BUSY = 1 ∧
    t.shf.tc = frameTime (frameAt T s) s ∧ t.rd WLT_EPOCHF_F = frameAt T s % 2 ^ WLT_EPOCHF_F.w ∧ t.cfg = s.cfg ∧ t.mode = s.mode ∧ SameMem s t) ∧
  (∀ s : State, MayGo s SHF_CMD_BUSY → shfState s = 5 → askedTime s = none → Yields (exec .shfCommit s) fun t => shfState t = 5 ∧ Ends t SHF_CMD_STATUS SHF_CMD_BUSY ST_SHF_TOOSOON ∧ SameMem s t) ∧
  (∀ (s : State) (miss : BitVec 13) (d : Nat), shfState s = 6 → s.rdi SHF_DIEST_FLIPPED 48 ≠ 1 → d < 13 → bit miss.toNat d = 1 → s.rdi SHF_DIEST_IN (4 * d) = 1 →
    Yields (exec (.commitAckDeadline miss) s) fun t => ShfEnded 2 ST_SHF_ARMFAIL s t ∧ t.rdi SHF_DIEST_FAILED (4 * d) = 1 ∧ t.cfg.aimg = s.cfg.aimg) ∧
  (∀ (s : State) (ext : Tab (List Nat)), shfState s = 6 → s.rdi SHF_DIEST_FLIPPED 48 ≠ 1 → s.rd WLT_EPOCH_STATE = 2 → ∃ u, exec (.commitAtTc ext) s = .next (pump u) ∧ u.cfg.aimg = s.cfg.simg ∧
    u.cfg.simg = s.cfg.aimg ∧ u.rdi SHF_DIEST_FLIPPED 48 = 1 ∧ shfState u = 6 ∧ u.rd WLT_EPOCH_STATE = 3 ∧ u.welt.stamp = 1 - s.welt.stamp) ∧
  (∀ s : State, shfState s = 6 → s.rdi SHF_DIEST_FLIPPED 48 = 1 → checkFails s = [] → s.side.stopWait = false → Yields (exec (.commitReportDeadline []) s) fun t => shfState t = 7 ∧
    Ends t SHF_CMD_STATUS SHF_CMD_BUSY 0 ∧ t.cfg.aimg = s.cfg.aimg ∧ t.mode = s.mode) ∧
  (∀ s : State, 1 ≤ shfState s → shfState s ≤ 5 → Yields (exec .shfAbandon s) fun t => ShfEnded 2 0 s t ∧ Ends t SHF_CMD_STATUS SHF_CMD_BUSY 0 ∧ t.cfg.aimg = s.cfg.aimg) ∧
  (∀ s : State, shfState s = 0 ∨ 7 ≤ shfState s → Yields (exec .shfAbandon s) fun t => t.rd SHF_CMD_STATUS = ST_SHF_STATE ∧ shfState t = shfState s ∧ t.cfg = s.cfg ∧ t.mode = s.mode ∧ SameMem s t) ∧
  (∀ (s : State) (T : Nat), MayGo s SHF_CMD_BUSY → shfState s = 7 → s.mode = SHIFT → s.shf.rbWait = none → askedTime s = some T → s.rd WLT_EPOCH_STATE = 0 → Yields (exec .shfRollback s) fun t =>
    shfState t = 8 ∧ t.rd SHF_CMD_BUSY = 1 ∧ t.rd WLT_EPOCH_STATE = 2 ∧ t.cfg = s.cfg ∧ t.shf.rbAuto = false ∧ t.mode = s.mode ∧ SameMem s t) ∧
  (∀ s : State, MayGo s SHF_CMD_BUSY → shfState s = 7 → s.mode = HOLD → s.shf.rbWait = none → Yields (exec .shfRollback s) fun t => shfState t = 0 ∧ t.cfg.aimg = s.cfg.simg ∧
    t.rd SHF_RESULT_OUTCOME = 3 ∧ Ends t SHF_CMD_STATUS SHF_CMD_BUSY 0 ∧ t.mode = HOLD) ∧
  (∀ (s : State) (ext : Tab (List Nat)) (fails : List (Nat × Nat)), shfState s = 8 → s.rd WLT_EPOCH_STATE = 2 ∨ s.rd WLT_EPOCH_STATE = 3 → Yields (exec (.rollbackAtTr ext fails) s) fun t =>
    shfState t = 0 ∧ (s.rd SHF_CMD_BUSY = 1 → t.rd SHF_CMD_BUSY = 0)) ∧
  (∀ s : State, MayGo s SHF_CMD_BUSY → shfState s = 7 → s.mode = SHIFT → s.shf.rbWait = none → Yields (exec .shfRelease s) fun t => ShfEnded 1 0 s t ∧ Ends t SHF_CMD_STATUS SHF_CMD_BUSY 0 ∧
    t.cfg.aimg = s.cfg.aimg) ∧
  (∀ s : State, shfState s = 7 → s.rd SHF_RELTMO_SEC ≠ 0 → s.mode = SHIFT → s.shf.rbWait = none → Yields (exec .autoRelease s) fun t => ShfEnded 1 0 s t ∧ t.rd SHF_STAT_RELAUTO = 1 ∧ t.cfg.aimg = s.cfg.aimg) ∧
  (∀ (s : State) (T : Nat), MayGo s SHF_CMD_BUSY → shfState s = 2 → attachOk true s = true → s.rd CFG_STAT_SBADSEL ≠ 1 → s.rd WLT_EPOCH_STATE = 0 → askedTime s = some T →
    Yields (exec (.shfAttach true) s) fun t => shfState t = 10 ∧ t.rd SHF_CMD_BUSY = 1 ∧ t.rd SHF_STAT_KIND = 1 ∧ t.rd WLT_EPOCH_STATE = 1 ∧ t.shf.regs = attachRegs s ∧ t.cfg = s.cfg ∧ t.mode = s.mode ∧ SameMem s t) ∧
  (∀ s : State, MayGo s SHF_CMD_BUSY → shfState s = 2 → Yields (exec (.shfAttach false) s) fun t => ShfEnded 2 ST_SHF_NOTDELTA s t ∧ Ends t SHF_CMD_STATUS SHF_CMD_BUSY ST_SHF_NOTDELTA ∧ t.cfg.aimg = s.cfg.aimg) ∧
  (∀ (s : State) (m d : Nat), MayGo s SHF_CMD_BUSY → shiftAllowed s = true → s.rd SHF_ARG0_VALUE = m → s.rd SHF_ARG1_VALUE = d → d < 12 → m ≠ 0 → s.rd WLT_EPOCH_STATE = 0 →
    (∀ r, r < 32 → bit m r = 1 → lists s.cfg.aimg d r = true ∧ bit (s.rdi SHF_DETACHED_MASK (4 * d)) r ≠ 1) → ∃ u, exec .shfDetach s = .next (pump u) ∧ u.mode = SHIFT ∧ shfState u = 9 ∧
      u.rd SHF_CMD_BUSY = 1 ∧ u.rd SHF_STAT_KIND = 2 ∧ u.shf.regs = [(d, m)] ∧ u.shf.step = 1 ∧ (∀ r, r < 32 → bit m r = 1 → (u.region (rix d r)).quiescing = true) ∧ SameMem s u) ∧
  (∀ s : State, MayGo s SHF_CMD_BUSY → shiftAllowed s = true → s.rd SHF_ARG0_VALUE = 0 ∨ 12 ≤ s.rd SHF_ARG1_VALUE % 16 → Yields (exec .shfDetach s) fun t => Ends t SHF_CMD_STATUS SHF_CMD_BUSY ST_SHF_BADCMD ∧
    shfState t = 0 ∧ t.mode = s.mode ∧ SameMem s t) ∧
  (∀ s : State, shfState s = 9 → s.shf.step = 1 → NetIdle s → Yields (exec .quiesceTimeout s) fun t => t.shf.step = 2 ∧ shfState t = 9 ∧ t.cfg = s.cfg ∧ t.mode = s.mode ∧ SameMem s t) ∧
  (∀ s : State, shfState s = 9 → s.shf.step = 2 → s.welt.out = [] → (∀ p ∈ s.welt.flows, flowBusy s p.1 = false) → (∀ c, (s.core c).stopping = none) → Yields (exec .detachComplete s) fun t => t.shf.step = 3 ∧ t.rd WLT_EPOCH_STATE = 1 ∧ t.cfg = s.cfg ∧ SameMem s t) ∧
  (∀ (s : State) (d m : Nat), shfState s = 9 → s.shf.step = 3 → s.rd WLT_EPOCH_STATE = 0 → s.shf.regs = [(d, m)] → d < 12 → m < 2 ^ 32 → s.rdi SHF_DETACHED_MASK (4 * d) < 2 ^ 32 →
    Yields (exec .detachComplete s) fun t => ShfEnded 6 0 s t ∧ Ends t SHF_CMD_STATUS SHF_CMD_BUSY 0 ∧ t.rdi SHF_DETACHED_MASK (4 * d) = s.rdi SHF_DETACHED_MASK (4 * d) ||| m ∧ t.cfg.aimg = s.cfg.aimg)

/-! Field update (spec/22) -/

/-- UPD_CMD takes a GO in a module that is not in DORMANT. -/
def UpdMayGo (s : State) : Prop := s.mode ≠ DORMANT ∧ MayGo s UPD_CMD_BUSY

/-- Field update (R562 to R577).  A staged package that passes its checks is STAGED with its plan; one that fails leaves only its status.  ACTIVATE schedules it, ABORT
takes it back.  A step changes the copies of its component, unless a condition holds it; a hold that lasts suspends the update; a component that fails goes
back, with AUTOREV the whole update.  REVERT takes every step back, CONFIRM and the end of the trial install the update. -/
def Obligations.FieldUpdate : Prop :=
  (∀ (s : State) (p : Pkg) (l : List Nat), UpdMayGo s → s.rd UPD_ARG0_VALUE = 0 → updState s = 0 ∨ updState s = 3 → updCheck p s = 0 → planOf s p.comps = some l → Yields (exec (.updStage p none) s) fun t =>
    updState t = 3 ∧ Ends t UPD_CMD_STATUS UPD_CMD_BUSY 0 ∧ t.upd.pkg = some p ∧ t.upd.taken = [] ∧ (∀ c ∈ l.take 21, tabGet {} t.upd.prev c = tabGet {} p.comps c) ∧ t.upd.active = s.upd.active ∧
    t.rd UPD_STAT_NSTEP = l.length % 32 ∧ t.rd64 UPD_PKGIDL_ID UPD_PKGIDH_ID = p.id % 2 ^ 64 ∧ t.mode = s.mode ∧ SameMem s t) ∧
  (∀ (s : State) (p : Pkg) (stop : Option Nat), UpdMayGo s → s.rd UPD_ARG0_VALUE = 0 → updState s = 0 ∨ updState s = 3 → updCheck p s ≠ 0 → updCheck p s < 2 ^ 16 → Yields (exec (.updStage p stop) s) fun t =>
    updState t = updState s ∧ Ends t UPD_CMD_STATUS UPD_CMD_BUSY (updCheck p s) ∧ t.upd = s.upd ∧ SameMem s t) ∧
  (∀ (s : State) (p : Pkg) (n : Nat), UpdMayGo s → s.rd UPD_ARG0_VALUE = 0 → updState s = 0 ∨ updState s = 3 → updCheck p s = 0 → Yields (exec (.updStage p (some n)) s) fun t =>
    updState t = 0 ∧ Ends t UPD_CMD_STATUS UPD_CMD_BUSY ST_CFG_NVINH ∧ t.upd.active = s.upd.active ∧ SameMem s t) ∧
  (∀ (s : State) (T : Nat), UpdMayGo s → updState s = 3 ∨ updState s = 6 → s.rd UPD_ARG2_VALUE = 0 → s.rd64 UPD_ARG0_VALUE UPD_ARG1_VALUE = T → T ≠ 0 → s.clocks.tb + 10000000 ≤ T → updConds (updPkg s) false s = [] →
    Yields (exec .updActivate s) fun t => updState t = 4 ∧ Ends t UPD_CMD_STATUS UPD_CMD_BUSY 0 ∧ t.upd.t = T ∧ t.upd.clock = 0 ∧ t.rd64 UPD_TAL_T UPD_TAH_T = T % 2 ^ 64 ∧ t.upd.active = s.upd.active ∧ SameMem s t) ∧
  (∀ (s : State), UpdMayGo s → updState s = 3 ∨ updState s = 6 → s.rd UPD_ARG2_VALUE = 0 → s.rd64 UPD_ARG0_VALUE UPD_ARG1_VALUE ≠ 0 → s.rd64 UPD_ARG0_VALUE UPD_ARG1_VALUE < s.clocks.tb + 10000000 →
    Yields (exec .updActivate s) fun t => updState t = updState s ∧ Ends t UPD_CMD_STATUS UPD_CMD_BUSY ST_UPD_TIME ∧ t.upd = s.upd ∧ SameMem s t) ∧
  (∀ s : State, UpdMayGo s → updState s = 4 → Yields (exec .updAbort s) fun t => updState t = (if s.upd.wasSusp then 6 else 3) ∧ Ends t UPD_CMD_STATUS UPD_CMD_BUSY 0 ∧ t.upd = s.upd ∧ SameMem s t) ∧
  (∀ s : State, UpdMayGo s → updState s ≠ 4 → Yields (exec .updAbort s) fun t => updState t = updState s ∧ Ends t UPD_CMD_STATUS UPD_CMD_BUSY ST_UPD_STATE ∧ t.upd = s.upd ∧ SameMem s t) ∧
  (∀ (s : State) (c : Nat), UpdMayGo s → updState s = 6 ∨ updState s = 7 → s.upd.taken = [c] → updHolds c true s = [] → Yields (exec .updRevert s) fun t => updState t = 0 ∧ Ends t UPD_CMD_STATUS UPD_CMD_BUSY 0 ∧
    t.rd UPD_RESULT_OUTCOME = 3 ∧ t.upd.taken = [] ∧ activeCopy t c = tabGet {} s.upd.prev c ∧ tabGet {} t.upd.prev c = activeCopy s c ∧ SameMem s t) ∧
  (∀ s : State, UpdMayGo s → updState s = 3 ∨ updState s = 4 ∨ (updState s = 0 ∧ s.rd UPD_STAT_REVOK = 0) → Yields (exec .updRevert s) fun t => updState t = updState s ∧
    Ends t UPD_CMD_STATUS UPD_CMD_BUSY ST_UPD_STATE ∧ t.upd = s.upd ∧ SameMem s t) ∧
  (∀ s : State, UpdMayGo s → updState s = 7 → Yields (exec .updConfirm s) fun t => updState t = 0 ∧ Ends t UPD_CMD_STATUS UPD_CMD_BUSY 0 ∧ t.rd UPD_RESULT_OUTCOME = 1 ∧ t.rd UPD_STAT_REVOK = 1 ∧
    t.upd = { s.upd with trial := false } ∧ SameMem s t) ∧
  (∀ s : State, UpdMayGo s → updState s ≠ 7 → Yields (exec .updConfirm s) fun t => updState t = updState s ∧ Ends t UPD_CMD_STATUS UPD_CMD_BUSY ST_UPD_STATE ∧ t.upd = s.upd ∧ SameMem s t) ∧
  (∀ s : State, updState s = 7 → Yields (exec .trialEnd s) fun t => updState t = 0 ∧ t.rd UPD_RESULT_OUTCOME = 1 ∧ t.rd UPD_STAT_REVOK = 1 ∧ t.upd = { s.upd with trial := false } ∧
    s.upd.trialAt + s.rd UPD_TRIAL_SEC * 1000000000 ≤ t.clocks.elapsed ∧ t.mode = s.mode ∧ SameMem s t) ∧
  (∀ (s : State) (i c : Nat), updState s = 4 ∨ updState s = 5 → nextStep s = some i → s.rdi UPD_PLAN_COMP (4 * i) = c → s.rdi UPD_PLAN_VALID (4 * i) = 1 → i < 21 → updHolds c false s = [] →
    Yields (exec .updateStepStart s) fun t => activeCopy t c = tabGet {} s.upd.prev c ∧ tabGet {} t.upd.prev c = activeCopy s c ∧ t.upd.taken = s.upd.taken ++ [c] ∧ t.rdi UPD_PLAN_DONE (4 * i) = 1 ∧
      ((∀ j, j < s.rd UPD_STAT_NSTEP → j ≠ i → s.rdi UPD_PLAN_DONE (4 * j) = 1) → updState t = (if s.rd UPD_TRIAL_SEC = 0 then 0 else 7) ∧
        (s.rd UPD_TRIAL_SEC ≠ 0 → t.upd.trialAt = t.clocks.elapsed)) ∧ SameMem s t) ∧
  (∀ (s : State) (i c : Nat), updState s = 4 ∨ updState s = 5 → nextStep s = some i → s.rdi UPD_PLAN_COMP (4 * i) = c → updHolds c false s ≠ [] → Yields (exec .updateStepStart s) fun t =>
    updState t = 5 ∧ t.upd.held = true ∧ t.upd.active = s.upd.active ∧ t.upd.prev = s.upd.prev ∧ t.upd.taken = s.upd.taken ∧ t.rd UPD_STAT_HOLDS ≠ 0 ∧ SameMem s t) ∧
  (∀ (s : State) (i c : Nat) (x : Nat × Nat) (l : List (Nat × Nat)), updState s = 5 → s.upd.held = true → nextStep s = some i → s.rdi UPD_PLAN_COMP (4 * i) = c → updHolds c false s = x :: l →
    Yields (exec .updateStepHoldTimeout s) fun t => updState t = 6 ∧ t.rd UPD_RESULT_OUTCOME = 2 ∧ t.rd UPD_RESULT_STATUS = x.2 % 2 ^ 16 ∧ t.upd.active = s.upd.active ∧ t.upd.held = false ∧
      s.upd.heldAt + max 1 (s.rd UPD_CTL_HOLDOFF) * 1000000000 ≤ t.clocks.elapsed ∧ SameMem s t) ∧
  (∀ (s : State) (c : Fin 21), updState s = 5 ∨ updState s = 7 → c.val ∈ s.upd.taken → s.rd UPD_CTL_AUTOREV ≠ 1 → Yields (exec (.updateStepFailure c) s) fun t => updState t = 6 ∧
    t.rd UPD_RESULT_OUTCOME = 2 ∧ t.rd UPD_RESULT_STATUS = ST_HW_UPD_COMP ∧ t.rd UPD_RESULT_COMP = c ∧ activeCopy t c = tabGet {} s.upd.prev c ∧ t.upd.taken = s.upd.taken.erase c ∧ SameMem s t) ∧
  (∀ (s : State) (c : Fin 21), updState s = 5 ∨ updState s = 7 → s.upd.taken = [c.val] → s.rd UPD_CTL_AUTOREV = 1 → Yields (exec (.updateStepFailure c) s) fun t => updState t = 0 ∧
    t.rd UPD_RESULT_OUTCOME = 4 ∧ t.rd UPD_RESULT_STATUS = ST_HW_UPD_COMP ∧ activeCopy t c = tabGet {} s.upd.prev c ∧ t.upd.taken = [] ∧ SameMem s t)

/-! Black box and health (spec/23) -/

/-- The black box and the health of the module (R581 to R597).  A pending record is programmed at the write position, and once more in the next place where it does not
read back; none is while NVINH is 1.  COPY writes a record's 64 bytes, ERASE empties the ring where it may.  A reading shows its temperature and state; the policy
lowers a group's limit by a gear while a cause holds; a die above 115 °C enters SAFE.
Beside the spec it rests on the model's choices of notes/assumptions/5.md, notes/assumptions/48.md, notes/assumptions/49.md, notes/assumptions/51.md. -/
def Obligations.BlackBoxAndHealth : Prop :=
  (∀ (s : State) (r : Record) (l : List Record) (ok2 eraseOk : Bool), s.bbx.pend = r :: l → s.rd PWR_STAT_NVINH ≠ 1 → s.mode ≠ DORMANT → s.bbx.lost = 0 →
    Yields (exec (.blackBoxRecordProgram true ok2 eraseOk) s) fun t => t.bbx.pend = l ∧ tabGet ({}, false) t.bbx.ring s.bbx.place = (r, true) ∧ t.rd BBX_HEAD_SEQ = (r.seq + 1) % 2 ^ 32 ∧
      t.rd BBX_STAT_FAULT = 0 ∧ t.mode = s.mode ∧ SameMem s t) ∧
  (∀ (s : State) (r : Record) (l : List Record) (ok2 eraseOk : Bool), s.bbx.pend = r :: l → s.rd PWR_STAT_NVINH ≠ 1 → s.mode ≠ DORMANT → s.bbx.lost = 0 →
    Yields (exec (.blackBoxRecordProgram false ok2 eraseOk) s) fun t => t.bbx.pend = l ∧ t.rd BBX_STAT_FAULT = (if ok2 then 0 else 1) ∧ (∃ x ∈ t.bbx.ring, x.2 = (r, ok2)) ∧ SameMem s t) ∧
  (∀ (s : State) (ok1 ok2 eraseOk : Bool), s.bbx.pend = [] ∨ s.rd PWR_STAT_NVINH = 1 ∨ s.mode = DORMANT → exec (.blackBoxRecordProgram ok1 ok2 eraseOk) s = .next s) ∧
  (∀ s : State, (∀ c ∈ s.bbx.rate, c.held = 0) → Yields (exec .rateLimitSecondEnd s) fun t => t.bbx.rate = [] ∧ t.bbx.pend = s.bbx.pend ∧
    t.clocks.elapsed = s.clocks.elapsed + (1000000000 - (if s.clocks.tbRun then s.clocks.tb else s.clocks.rtc) % 1000000000) ∧ t.mode = s.mode ∧ SameMem s t) ∧
  (∀ (s : State) (r : Record), s.mode ≠ DORMANT → MayGo s BBX_CMD_BUSY → s.rd BBX_ARG1_VALUE = 1 → s.rd BBX_ARG2_VALUE % 64 = 0 → inSegs (s.rd BBX_ARG2_VALUE) 64 = true →
    ringFind s (s.rd BBX_ARG0_VALUE % 2 ^ 32) = some (r, true) → Yields (exec .bbxCopy s) fun t => Ends t BBX_CMD_STATUS BBX_CMD_BUSY 0 ∧
      (∀ i, i < 64 → t.rdByte (lastBase + s.rd BBX_ARG2_VALUE + i) = (recBytes r).getD i 0)) ∧
  (∀ s : State, s.mode ≠ DORMANT → MayGo s BBX_CMD_BUSY → s.rd BBX_ARG1_VALUE = 0 ∨ s.rd BBX_ARG2_VALUE % 64 ≠ 0 → Yields (exec .bbxCopy s) fun t => Ends t BBX_CMD_STATUS BBX_CMD_BUSY ST_BBX_BADCMD ∧
    t.bbx = s.bbx ∧ SameMem s t) ∧
  (∀ s : State, s.mode ≠ DORMANT → MayGo s BBX_CMD_BUSY → 0xF0 ≤ s.rd BBX_ARG0_VALUE % 256 → inSegs (s.rd BBX_ARG2_VALUE) 32 = true → s.rd BBX_FILTER_MINSEV = 0 → s.bbx.rate = [] → 1 ≤ s.rd BBX_FILTER_RATE →
    s.bbx.pend = [] → Yields (exec .bbxHostRecord s) fun t => Ends t BBX_CMD_STATUS BBX_CMD_BUSY 0 ∧ (t.bbx.pend.map fun r => (r.code, r.payload)) =
      [(s.rd BBX_ARG0_VALUE % 256, (List.range 8).map fun k => s.rdMem 4 (lastBase + s.rd BBX_ARG2_VALUE + 4 * k))] ∧ SameMem s t) ∧
  (∀ s : State, s.mode ≠ DORMANT → MayGo s BBX_CMD_BUSY → s.rd BBX_ARG0_VALUE % 256 < 0xF0 → Yields (exec .bbxHostRecord s) fun t => Ends t BBX_CMD_STATUS BBX_CMD_BUSY ST_BBX_BADCMD ∧ t.bbx = s.bbx ∧ SameMem s t) ∧
  (∀ s : State, MayGo s BBX_CMD_BUSY → s.mode = HOLD → s.rd SEC_STAT_LC = 1 ∨ s.rd SEC_STAT_LC = 3 → s.rd PWR_STAT_NVINH ≠ 1 → Yields (exec .bbxErase s) fun t =>
    Ends t BBX_CMD_STATUS BBX_CMD_BUSY 0 ∧ t.bbx.ring = [] ∧ t.mode = s.mode ∧ SameMem s t) ∧
  (∀ s : State, MayGo s BBX_CMD_BUSY → s.mode ≠ DORMANT → s.mode ≠ HOLD → Yields (exec .bbxErase s) fun t => Ends t BBX_CMD_STATUS BBX_CMD_BUSY ST_BBX_STATE ∧ t.bbx = s.bbx ∧ SameMem s t) ∧
  (∀ (s : State) (d : Fin 12) (v : BitVec 8) (r : Fin 32) (last : BitVec 8), s.mode ≠ DORMANT → s.dieUp d = true → Yields (exec (.temperatureReading [(d.val, v, r)] last) s) fun t =>
    t.rdi HLT_TEMP_HOT (4 * d) = v.toNat ∧ t.rdi HLT_TEMP_REGION (4 * d) = r ∧ t.rd HLT_TLAST_HOT = last.toNat ∧ (115 < sgn8 v.toNat → t.rdi HLT_TEMP_STATE (4 * d) = 3) ∧
    t.rdi HLT_TEMP_MAX (4 * d) = (if sgn8 (s.rdi HLT_TEMP_MAX (4 * d)) < sgn8 v.toNat then v.toNat else s.rdi HLT_TEMP_MAX (4 * d)) ∧
    (∀ x, x < 12 → x ≠ d.val → t.rdi HLT_TEMP_HOT (4 * x) = s.rdi HLT_TEMP_HOT (4 * x))) ∧
  (∀ (s : State) (g : Fin 12) (c src : Nat), s.mode ≠ DORMANT → s.rd HLT_CTL_AUTOGEAR ≠ 0 → groupDies s g ≠ [] → lowerCause s g = some (c, src) → polLimit s g ≤ 4 → Yields (exec (.gearPolicyStep g) s) fun t =>
    polLimit t g = min (polLimit s g) (max (minGear s) (s.rdi GEAR_STAT_GEAR (4 * g) - 1)) ∧ (∀ x, x < 12 → x ≠ g.val → polLimit t x = polLimit s x) ∧
    (s.pol g).lowAt + max 1 (s.rd HLT_TPOL_STEP) * 10000000 ≤ t.clocks.elapsed) ∧
  (∀ (s : State) (g : Fin 12), s.mode = DORMANT ∨ s.rd HLT_CTL_AUTOGEAR = 0 → exec (.gearPolicyStep g) s = .next s) ∧
  (∀ (s : State) (d : Fin 12) (off : Bool), s.dieUp d = true → s.mode ≠ DORMANT → Yields (exec (.dieOvertemp d off) s) fun t => t.mode = SAFE ∧ t.rdi HLT_TEMP_STATE (4 * d) = 3 ∧
    (off = true → t.dieUp d = false ∧ t.rdi GLB_DIESTAT_STATE (4 * d) = 3 ∧ t.rdi GLB_DIESTAT_REASON (4 * d) = ST_HW_HLT_TEMP)) ∧
  (∀ s : State, s.mode ≠ DORMANT → Yields (exec .availabilityCheckpoint s) fun t => t.mode = s.mode ∧ t.hlt = s.hlt ∧ SameRegsBut [BBX_LOST_COUNT.key 0] s t ∧ SameMem s t)
end

