-- ==== Sys2Proof/Laws/Tab.lean ====
section
/-! SUPPORT. Tables: reading after setting, and the canonical form that every table operation keeps. -/

namespace Sys2Proof.Machine

variable {α : Type}

@[simp] theorem tabGet_nil (d : α) (k : Nat) : tabGet d [] k = d := rfl

theorem tabGet_cons (d : α) (p : Nat × α) (t : Tab α) (k : Nat) : tabGet d (p :: t) k = if p.1 = k then p.2 else tabGet d t k := rfl

theorem tabErase_cons (p : Nat × α) (t : Tab α) (k : Nat) : tabErase (p :: t) k = if p.1 = k then tabErase t k else p :: tabErase t k := by
  by_cases h : p.1 = k <;> simp [tabErase, h]

@[simp] theorem tabGet_erase_same (d : α) (m : Tab α) (k : Nat) : tabGet d (tabErase m k) k = d := by
  induction m with
  | nil => rfl
  | cons p t ih => rw [tabErase_cons]; by_cases h : p.1 = k <;> simp [h, tabGet_cons, ih]

theorem tabGet_erase_ne (d : α) (m : Tab α) {k j : Nat} (h : j ≠ k) : tabGet d (tabErase m k) j = tabGet d m j := by
  induction m with
  | nil => rfl
  | cons p t ih =>
    rw [tabErase_cons]
    by_cases hp : p.1 = k
    · have hj : p.1 ≠ j := fun e => h (e.symm.trans hp)
      rw [if_pos hp, tabGet_cons, if_neg hj, ih]
    · rw [if_neg hp, tabGet_cons, tabGet_cons, ih]

theorem tabGet_ins_ne (d v : α) (m : Tab α) {k j : Nat} (h : j ≠ k) : tabGet d (tabIns k v m) j = tabGet d m j := by
  have hk : k ≠ j := Ne.symm h
  induction m with
  | nil => simp [tabIns, tabGet_cons, hk]
  | cons p t ih => by_cases hp : k < p.1 <;> simp [tabIns, hp, tabGet_cons, hk, ih]

theorem tabGet_ins_erase (d v : α) (m : Tab α) (k : Nat) : tabGet d (tabIns k v (tabErase m k)) k = v := by
  induction m with
  | nil => simp [tabErase, tabIns, tabGet_cons]
  | cons p t ih =>
    rw [tabErase_cons]
    by_cases hp : p.1 = k
    · rw [if_pos hp]; exact ih
    · rw [if_neg hp]; by_cases hk : k < p.1 <;> simp [tabIns, hk, tabGet_cons, hp, ih]

/-- Reading the key just set. -/
@[simp] theorem tabGet_set_same [DecidableEq α] (d : α) (m : Tab α) (k : Nat) (v : α) : tabGet d (tabSet d m k v) k = v := by
  by_cases h : v = d
  · simp [tabSet, h]
  · simp only [tabSet, if_neg h]; exact tabGet_ins_erase d v m k

/-- Setting one key leaves every other; the default of the reader plays no part. -/
theorem tabGet_set_ne [DecidableEq α] (d e : α) (m : Tab α) {k j : Nat} (v : α) (h : j ≠ k) : tabGet e (tabSet d m k v) j = tabGet e m j := by
  by_cases hv : v = d
  · simp only [tabSet, if_pos hv]; exact tabGet_erase_ne e m h
  · simp only [tabSet, if_neg hv]; rw [tabGet_ins_ne e v _ h, tabGet_erase_ne e m h]

@[simp] theorem tabGet_mod_same [DecidableEq α] (d : α) (m : Tab α) (k : Nat) (f : α → α) : tabGet d (tabMod d m k f) k = f (tabGet d m k) :=
  tabGet_set_same d m k _

theorem tabGet_mod_ne [DecidableEq α] (d : α) (m : Tab α) {k j : Nat} (f : α → α) (h : j ≠ k) : tabGet d (tabMod d m k f) j = tabGet d m j :=
  tabGet_set_ne d d m _ h

/-! The canonical form: keys strictly rising -/


theorem Tab.Rising.filter {m : Tab α} (h : m.Rising) (f : Nat × α → Bool) : Tab.Rising (m.filter f) := List.Pairwise.filter f h

theorem Tab.Rising.erase {m : Tab α} (h : m.Rising) (k : Nat) : Tab.Rising (tabErase m k) := h.filter _

theorem mem_tabIns {k : Nat} {v : α} {m : Tab α} {q : Nat × α} (h : q ∈ tabIns k v m) : q = (k, v) ∨ q ∈ m := by
  induction m with
  | nil => simpa [tabIns] using h
  | cons p t ih =>
    by_cases hk : k < p.1
    · simpa [tabIns, hk] using h
    · simp only [tabIns, if_neg hk, List.mem_cons] at h ⊢
      rcases h with h | h
      · exact .inr (.inl h)
      · rcases ih h with h | h
        · exact .inl h
        · exact .inr (.inr h)

theorem Tab.Rising.ins {m : Tab α} (h : m.Rising) {k : Nat} (v : α) (hk : ∀ p ∈ m, p.1 ≠ k) : Tab.Rising (tabIns k v m) := by
  unfold Tab.Rising at *
  induction m with
  | nil => simp [tabIns]
  | cons p t ih =>
    rw [List.pairwise_cons] at h
    by_cases hp : k < p.1
    · simp only [tabIns, if_pos hp, List.pairwise_cons]
      refine ⟨fun q hq => ?_, h.1, h.2⟩
      rcases List.mem_cons.1 hq with rfl | hq
      · exact hp
      · exact lt_trans hp (h.1 q hq)
    · simp only [tabIns, if_neg hp, List.pairwise_cons]
      refine ⟨fun q hq => ?_, ih h.2 fun q hq => hk q (List.mem_cons_of_mem _ hq)⟩
      rcases mem_tabIns hq with rfl | hq
      · have := hk p (List.mem_cons_self ..); simp only at *; omega
      · exact h.1 q hq

theorem tabErase_keys (m : Tab α) (k : Nat) : ∀ p ∈ tabErase m k, p.1 ≠ k := by
  intro p hp; simpa [tabErase] using (List.mem_filter.1 hp).2

theorem Tab.Rising.set [DecidableEq α] {m : Tab α} (h : m.Rising) (d : α) (k : Nat) (v : α) : Tab.Rising (tabSet d m k v) := by
  unfold tabSet
  split
  · exact h.erase k
  · exact (h.erase k).ins v (tabErase_keys m k)

/-- No entry holds the default. -/
theorem tabSet_all_ne [DecidableEq α] {m : Tab α} {d : α} (h : ∀ p ∈ m, p.2 ≠ d) (k : Nat) (v : α) : ∀ p ∈ tabSet d m k v, p.2 ≠ d := by
  have he : ∀ p ∈ tabErase m k, p.2 ≠ d := fun p hp => h p (List.mem_of_mem_filter hp)
  unfold tabSet
  split
  · exact he
  · rename_i hv
    intro p hp
    rcases mem_tabIns hp with rfl | hp
    · exact hv
    · exact he p hp

end Sys2Proof.Machine
end

