-- ==== Sys2Proof/Laws/Memory.lean ====
section
/-! SUPPORT. Memory: a byte read after writes, and the canonical form that every memory operation keeps. -/

namespace Sys2Proof.Machine

theorem Memory.wf_iff (m : List Host.Cell) : Memory.wf m = true ↔ Tab.Rising m ∧ ∀ p ∈ m, p.2 ≠ 0 := by
  unfold Tab.Rising
  induction m with
  | nil => simp [Memory.wf]
  | cons p t ih =>
    cases t with
    | nil => simp [Memory.wf]
    | cons q t =>
      simp only [Memory.wf, Bool.and_eq_true, decide_eq_true_eq, bne_iff_ne, ih, List.pairwise_cons, List.mem_cons, forall_eq_or_imp]
      constructor
      · rintro ⟨⟨hlt, hp⟩, ⟨hq, ht⟩, hq0, hall⟩
        exact ⟨⟨⟨hlt, fun r hr => lt_trans hlt (hq r hr)⟩, hq, ht⟩, hp, hq0, hall⟩
      · rintro ⟨⟨⟨hlt, _⟩, hq, ht⟩, hp, hq0, hall⟩
        exact ⟨⟨hlt, hp⟩, ⟨hq, ht⟩, hq0, hall⟩

theorem Memory.wf_filter {m : List Host.Cell} (h : Memory.wf m = true) (f : Host.Cell → Bool) : Memory.wf (m.filter f) = true := by
  rw [Memory.wf_iff] at *
  exact ⟨h.1.filter f, fun p hp => h.2 p (List.mem_of_mem_filter hp)⟩

theorem Memory.wf_set {m : List Host.Cell} (h : Memory.wf m = true) (k : Nat) (v : BitVec 8) : Memory.wf (tabSet 0 m k v) = true := by
  rw [Memory.wf_iff] at *
  exact ⟨h.1.set 0 k v, tabSet_all_ne h.2 k v⟩

theorem Memory.wf_reset : Memory.wf State.reset.mem = true := rfl

theorem State.wrByte_wf {s : State} (h : Memory.wf s.mem = true) (a v : Nat) : Memory.wf (s.wrByte a v).mem = true := Memory.wf_set h _ _

theorem State.wrMem_wf {s : State} (h : Memory.wf s.mem = true) (n a v : Nat) : Memory.wf (s.wrMem n a v).mem = true := by
  induction n generalizing s a v with
  | zero => exact h
  | succ n ih => exact ih (s.wrByte_wf h ..) _ _

theorem State.wrBytes_wf {s : State} (h : Memory.wf s.mem = true) (a : Nat) (l : List Nat) : Memory.wf (s.wrBytes a l).mem = true := by
  induction l generalizing s a with
  | nil => exact h
  | cons b t ih => exact ih (s.wrByte_wf h ..) _

theorem State.clearMem_wf {s : State} (h : Memory.wf s.mem = true) (lo hi : Nat) : Memory.wf (s.clearMem lo hi).mem = true := Memory.wf_filter h _

/-! Reading -/

theorem State.rdByte_lt (s : State) (a : Nat) : s.rdByte a < 256 := BitVec.isLt _

@[simp] theorem State.rdByte_wrByte_same (s : State) (a v : Nat) : (s.wrByte a v).rdByte a = v % 256 := by
  simp [State.rdByte, State.wrByte]

theorem State.rdByte_wrByte_ne (s : State) {a b : Nat} (v : Nat) (h : b ≠ a) : (s.wrByte a v).rdByte b = s.rdByte b := by
  simp only [State.rdByte, State.wrByte]; rw [tabGet_set_ne _ _ _ _ h]

/-- A byte after `n` bytes from `a` were stored: the bytes of the number inside, as before outside. -/
theorem State.rdByte_wrMem (s : State) (n a v b : Nat) :
    (s.wrMem n a v).rdByte b = if a ≤ b ∧ b < a + n then v / 256 ^ (b - a) % 256 else s.rdByte b := by
  induction n generalizing s a v with
  | zero => have : ¬ (a ≤ b ∧ b < a + 0) := by omega
            rw [if_neg this]; rfl
  | succ n ih =>
    simp only [State.wrMem]
    rw [ih]
    by_cases hb : b = a
    · subst hb
      rw [if_neg (by omega), if_pos (by omega)]
      simp
    · rw [State.rdByte_wrByte_ne _ _ hb]
      by_cases h : a + 1 ≤ b ∧ b < a + 1 + n
      · rw [if_pos h, if_pos (by omega), Nat.div_div_eq_div_mul]
        have : b - a = (b - (a + 1)) + 1 := by omega
        rw [this, pow_succ, Nat.mul_comm]
      · rw [if_neg h, if_neg (by omega)]

theorem tabGet_filter_true {α : Type} (d : α) (m : Tab α) (f : Nat → Bool) {k : Nat} (h : f k = true) :
    tabGet d (m.filter fun p => f p.1) k = tabGet d m k := by
  induction m with
  | nil => rfl
  | cons p t ih =>
    by_cases hp : p.1 = k
    · simp [tabGet_cons, hp, h]
    · by_cases hf : f p.1 = true <;> simp [tabGet_cons, hf, hp, ih]

theorem tabGet_filter_false {α : Type} (d : α) (m : Tab α) (f : Nat → Bool) {k : Nat} (h : f k = false) :
    tabGet d (m.filter fun p => f p.1) k = d := by
  induction m with
  | nil => rfl
  | cons p t ih =>
    by_cases hf : f p.1 = true
    · have hp : p.1 ≠ k := fun e => by rw [e, h] at hf; cases hf
      simp [tabGet_cons, hf, hp, ih]
    · simp [hf, ih]

/-- A byte after a range was cleared. -/
theorem State.rdByte_clearMem (s : State) (lo hi b : Nat) :
    (s.clearMem lo hi).rdByte b = if lo ≤ b ∧ b < hi then 0 else s.rdByte b := by
  unfold State.rdByte State.clearMem
  by_cases h : lo ≤ b ∧ b < hi
  · rw [if_pos h, tabGet_filter_false (f := fun x => x < lo || hi ≤ x) (h := by simp; omega)]; rfl
  · rw [if_neg h, tabGet_filter_true (f := fun x => x < lo || hi ≤ x) (h := by simp; omega)]

end Sys2Proof.Machine
end

