-- ==== Sys2Proof/Laws/State.lean ====
section
/-! SUPPORT. What each named update of State leaves unchanged, field by field, and what the reads of registers and tables give after
it: each conjunct is a rewrite of its own for simp, so that no proof unfolds a record update. -/

namespace Sys2Proof.Machine

/-- What stays as a register field takes a value. -/
@[simp] theorem State.wri_frame (s : State) (f : Fld) (o v : Nat) :
    (s.wri f o v).pending = s.pending ∧ (s.wri f o v).fresh = s.fresh ∧ (s.wri f o v).evq = s.evq ∧ (s.wri f o v).mem = s.mem ∧ (s.wri f o v).reply = s.reply ∧ (s.wri f o v).supTab = s.supTab ∧
    (s.wri f o v).fuseTrim = s.fuseTrim ∧ (s.wri f o v).dies = s.dies ∧ (s.wri f o v).regions = s.regions ∧ (s.wri f o v).banks = s.banks ∧ (s.wri f o v).eyes = s.eyes ∧ (s.wri f o v).express = s.express ∧
    (s.wri f o v).cores = s.cores ∧ (s.wri f o v).modes = s.modes ∧ (s.wri f o v).clocks = s.clocks ∧ (s.wri f o v).gears = s.gears ∧ (s.wri f o v).bbx = s.bbx ∧ (s.wri f o v).power = s.power ∧
    (s.wri f o v).side = s.side ∧ (s.wri f o v).secur = s.secur ∧ (s.wri f o v).hlt = s.hlt ∧ (s.wri f o v).dbg = s.dbg ∧ (s.wri f o v).upd = s.upd ∧ (s.wri f o v).asked = s.asked ∧
    (s.wri f o v).welt = s.welt ∧ (s.wri f o v).marks = s.marks ∧ (s.wri f o v).cob = s.cob ∧ (s.wri f o v).chans = s.chans ∧ (s.wri f o v).pcie = s.pcie ∧ (s.wri f o v).eth = s.eth ∧
    (s.wri f o v).pins = s.pins ∧ (s.wri f o v).cfg = s.cfg ∧ (s.wri f o v).shf = s.shf ∧ (s.wri f o v).keyHash = s.keyHash ∧ (s.wri f o v).bundles = s.bundles ∧ (s.wri f o v).qmasks = s.qmasks :=
  by and_intros <;> rfl

/-- What stays as a field of a register that exists once takes a value. -/
@[simp] theorem State.wr_frame (s : State) (f : Fld) (v : Nat) :
    (s.wr f v).pending = s.pending ∧ (s.wr f v).fresh = s.fresh ∧ (s.wr f v).evq = s.evq ∧ (s.wr f v).mem = s.mem ∧ (s.wr f v).reply = s.reply ∧ (s.wr f v).supTab = s.supTab ∧
    (s.wr f v).fuseTrim = s.fuseTrim ∧ (s.wr f v).dies = s.dies ∧ (s.wr f v).regions = s.regions ∧ (s.wr f v).banks = s.banks ∧ (s.wr f v).eyes = s.eyes ∧ (s.wr f v).express = s.express ∧
    (s.wr f v).cores = s.cores ∧ (s.wr f v).modes = s.modes ∧ (s.wr f v).clocks = s.clocks ∧ (s.wr f v).gears = s.gears ∧ (s.wr f v).bbx = s.bbx ∧ (s.wr f v).power = s.power ∧
    (s.wr f v).side = s.side ∧ (s.wr f v).secur = s.secur ∧ (s.wr f v).hlt = s.hlt ∧ (s.wr f v).dbg = s.dbg ∧ (s.wr f v).upd = s.upd ∧ (s.wr f v).asked = s.asked ∧
    (s.wr f v).welt = s.welt ∧ (s.wr f v).marks = s.marks ∧ (s.wr f v).cob = s.cob ∧ (s.wr f v).chans = s.chans ∧ (s.wr f v).pcie = s.pcie ∧ (s.wr f v).eth = s.eth ∧
    (s.wr f v).pins = s.pins ∧ (s.wr f v).cfg = s.cfg ∧ (s.wr f v).shf = s.shf ∧ (s.wr f v).keyHash = s.keyHash ∧ (s.wr f v).bundles = s.bundles ∧ (s.wr f v).qmasks = s.qmasks :=
  by and_intros <;> rfl

/-- What stays as a counter grows. -/
@[simp] theorem State.addi_frame (s : State) (f : Fld) (o n : Nat) :
    (s.addi f o n).pending = s.pending ∧ (s.addi f o n).fresh = s.fresh ∧ (s.addi f o n).evq = s.evq ∧ (s.addi f o n).mem = s.mem ∧ (s.addi f o n).reply = s.reply ∧ (s.addi f o n).supTab = s.supTab ∧
    (s.addi f o n).fuseTrim = s.fuseTrim ∧ (s.addi f o n).dies = s.dies ∧ (s.addi f o n).regions = s.regions ∧ (s.addi f o n).banks = s.banks ∧ (s.addi f o n).eyes = s.eyes ∧ (s.addi f o n).express = s.express ∧
    (s.addi f o n).cores = s.cores ∧ (s.addi f o n).modes = s.modes ∧ (s.addi f o n).clocks = s.clocks ∧ (s.addi f o n).gears = s.gears ∧ (s.addi f o n).bbx = s.bbx ∧ (s.addi f o n).power = s.power ∧
    (s.addi f o n).side = s.side ∧ (s.addi f o n).secur = s.secur ∧ (s.addi f o n).hlt = s.hlt ∧ (s.addi f o n).dbg = s.dbg ∧ (s.addi f o n).upd = s.upd ∧ (s.addi f o n).asked = s.asked ∧
    (s.addi f o n).welt = s.welt ∧ (s.addi f o n).marks = s.marks ∧ (s.addi f o n).cob = s.cob ∧ (s.addi f o n).chans = s.chans ∧ (s.addi f o n).pcie = s.pcie ∧ (s.addi f o n).eth = s.eth ∧
    (s.addi f o n).pins = s.pins ∧ (s.addi f o n).cfg = s.cfg ∧ (s.addi f o n).shf = s.shf ∧ (s.addi f o n).keyHash = s.keyHash ∧ (s.addi f o n).bundles = s.bundles ∧ (s.addi f o n).qmasks = s.qmasks :=
  by and_intros <;> rfl

/-- What stays as a counter grows by one. -/
@[simp] theorem State.inci_frame (s : State) (f : Fld) (o : Nat) :
    (s.inci f o).pending = s.pending ∧ (s.inci f o).fresh = s.fresh ∧ (s.inci f o).evq = s.evq ∧ (s.inci f o).mem = s.mem ∧ (s.inci f o).reply = s.reply ∧ (s.inci f o).supTab = s.supTab ∧
    (s.inci f o).fuseTrim = s.fuseTrim ∧ (s.inci f o).dies = s.dies ∧ (s.inci f o).regions = s.regions ∧ (s.inci f o).banks = s.banks ∧ (s.inci f o).eyes = s.eyes ∧ (s.inci f o).express = s.express ∧
    (s.inci f o).cores = s.cores ∧ (s.inci f o).modes = s.modes ∧ (s.inci f o).clocks = s.clocks ∧ (s.inci f o).gears = s.gears ∧ (s.inci f o).bbx = s.bbx ∧ (s.inci f o).power = s.power ∧
    (s.inci f o).side = s.side ∧ (s.inci f o).secur = s.secur ∧ (s.inci f o).hlt = s.hlt ∧ (s.inci f o).dbg = s.dbg ∧ (s.inci f o).upd = s.upd ∧ (s.inci f o).asked = s.asked ∧
    (s.inci f o).welt = s.welt ∧ (s.inci f o).marks = s.marks ∧ (s.inci f o).cob = s.cob ∧ (s.inci f o).chans = s.chans ∧ (s.inci f o).pcie = s.pcie ∧ (s.inci f o).eth = s.eth ∧
    (s.inci f o).pins = s.pins ∧ (s.inci f o).cfg = s.cfg ∧ (s.inci f o).shf = s.shf ∧ (s.inci f o).keyHash = s.keyHash ∧ (s.inci f o).bundles = s.bundles ∧ (s.inci f o).qmasks = s.qmasks :=
  by and_intros <;> rfl

/-- What stays as a 64-bit register pair takes a value. -/
@[simp] theorem State.wr64_frame (s : State) (lo hi : Fld) (v : Nat) :
    (s.wr64 lo hi v).pending = s.pending ∧ (s.wr64 lo hi v).fresh = s.fresh ∧ (s.wr64 lo hi v).evq = s.evq ∧ (s.wr64 lo hi v).mem = s.mem ∧ (s.wr64 lo hi v).reply = s.reply ∧ (s.wr64 lo hi v).supTab = s.supTab ∧
    (s.wr64 lo hi v).fuseTrim = s.fuseTrim ∧ (s.wr64 lo hi v).dies = s.dies ∧ (s.wr64 lo hi v).regions = s.regions ∧ (s.wr64 lo hi v).banks = s.banks ∧ (s.wr64 lo hi v).eyes = s.eyes ∧ (s.wr64 lo hi v).express = s.express ∧
    (s.wr64 lo hi v).cores = s.cores ∧ (s.wr64 lo hi v).modes = s.modes ∧ (s.wr64 lo hi v).clocks = s.clocks ∧ (s.wr64 lo hi v).gears = s.gears ∧ (s.wr64 lo hi v).bbx = s.bbx ∧ (s.wr64 lo hi v).power = s.power ∧
    (s.wr64 lo hi v).side = s.side ∧ (s.wr64 lo hi v).secur = s.secur ∧ (s.wr64 lo hi v).hlt = s.hlt ∧ (s.wr64 lo hi v).dbg = s.dbg ∧ (s.wr64 lo hi v).upd = s.upd ∧ (s.wr64 lo hi v).asked = s.asked ∧
    (s.wr64 lo hi v).welt = s.welt ∧ (s.wr64 lo hi v).marks = s.marks ∧ (s.wr64 lo hi v).cob = s.cob ∧ (s.wr64 lo hi v).chans = s.chans ∧ (s.wr64 lo hi v).pcie = s.pcie ∧ (s.wr64 lo hi v).eth = s.eth ∧
    (s.wr64 lo hi v).pins = s.pins ∧ (s.wr64 lo hi v).cfg = s.cfg ∧ (s.wr64 lo hi v).shf = s.shf ∧ (s.wr64 lo hi v).keyHash = s.keyHash ∧ (s.wr64 lo hi v).bundles = s.bundles ∧ (s.wr64 lo hi v).qmasks = s.qmasks :=
  by and_intros <;> rfl

/-- What stays as the mode changes. -/
@[simp] theorem State.setMode_frame (s : State) (m : Nat) :
    (s.setMode m).pending = s.pending ∧ (s.setMode m).fresh = s.fresh ∧ (s.setMode m).evq = s.evq ∧ (s.setMode m).mem = s.mem ∧ (s.setMode m).reply = s.reply ∧ (s.setMode m).supTab = s.supTab ∧
    (s.setMode m).fuseTrim = s.fuseTrim ∧ (s.setMode m).dies = s.dies ∧ (s.setMode m).regions = s.regions ∧ (s.setMode m).banks = s.banks ∧ (s.setMode m).eyes = s.eyes ∧ (s.setMode m).express = s.express ∧
    (s.setMode m).cores = s.cores ∧ (s.setMode m).modes = s.modes ∧ (s.setMode m).clocks = s.clocks ∧ (s.setMode m).gears = s.gears ∧ (s.setMode m).bbx = s.bbx ∧ (s.setMode m).power = s.power ∧
    (s.setMode m).side = s.side ∧ (s.setMode m).secur = s.secur ∧ (s.setMode m).hlt = s.hlt ∧ (s.setMode m).dbg = s.dbg ∧ (s.setMode m).upd = s.upd ∧ (s.setMode m).asked = s.asked ∧
    (s.setMode m).welt = s.welt ∧ (s.setMode m).marks = s.marks ∧ (s.setMode m).cob = s.cob ∧ (s.setMode m).chans = s.chans ∧ (s.setMode m).pcie = s.pcie ∧ (s.setMode m).eth = s.eth ∧
    (s.setMode m).pins = s.pins ∧ (s.setMode m).cfg = s.cfg ∧ (s.setMode m).shf = s.shf ∧ (s.setMode m).keyHash = s.keyHash ∧ (s.setMode m).bundles = s.bundles ∧ (s.setMode m).qmasks = s.qmasks :=
  by and_intros <;> rfl

/-- What stays as a mode request ends. -/
@[simp] theorem State.endReq_frame (s : State) (st : Nat) :
    (s.endReq st).pending = s.pending ∧ (s.endReq st).fresh = s.fresh ∧ (s.endReq st).evq = s.evq ∧ (s.endReq st).mem = s.mem ∧ (s.endReq st).reply = s.reply ∧ (s.endReq st).supTab = s.supTab ∧
    (s.endReq st).fuseTrim = s.fuseTrim ∧ (s.endReq st).dies = s.dies ∧ (s.endReq st).regions = s.regions ∧ (s.endReq st).banks = s.banks ∧ (s.endReq st).eyes = s.eyes ∧ (s.endReq st).express = s.express ∧
    (s.endReq st).cores = s.cores ∧ (s.endReq st).clocks = s.clocks ∧ (s.endReq st).gears = s.gears ∧ (s.endReq st).bbx = s.bbx ∧ (s.endReq st).power = s.power ∧ (s.endReq st).side = s.side ∧
    (s.endReq st).secur = s.secur ∧ (s.endReq st).hlt = s.hlt ∧ (s.endReq st).dbg = s.dbg ∧ (s.endReq st).upd = s.upd ∧ (s.endReq st).welt = s.welt ∧ (s.endReq st).marks = s.marks ∧
    (s.endReq st).cob = s.cob ∧ (s.endReq st).chans = s.chans ∧ (s.endReq st).pcie = s.pcie ∧ (s.endReq st).eth = s.eth ∧ (s.endReq st).pins = s.pins ∧ (s.endReq st).cfg = s.cfg ∧
    (s.endReq st).shf = s.shf ∧ (s.endReq st).keyHash = s.keyHash ∧ (s.endReq st).bundles = s.bundles ∧ (s.endReq st).qmasks = s.qmasks :=
  by and_intros <;> rfl

/-- What stays as a byte is stored. -/
@[simp] theorem State.wrByte_frame (s : State) (a v : Nat) :
    (s.wrByte a v).pending = s.pending ∧ (s.wrByte a v).fresh = s.fresh ∧ (s.wrByte a v).regs = s.regs ∧ (s.wrByte a v).evq = s.evq ∧ (s.wrByte a v).reply = s.reply ∧ (s.wrByte a v).supTab = s.supTab ∧
    (s.wrByte a v).fuseTrim = s.fuseTrim ∧ (s.wrByte a v).dies = s.dies ∧ (s.wrByte a v).regions = s.regions ∧ (s.wrByte a v).banks = s.banks ∧ (s.wrByte a v).eyes = s.eyes ∧ (s.wrByte a v).express = s.express ∧
    (s.wrByte a v).cores = s.cores ∧ (s.wrByte a v).modes = s.modes ∧ (s.wrByte a v).clocks = s.clocks ∧ (s.wrByte a v).gears = s.gears ∧ (s.wrByte a v).bbx = s.bbx ∧ (s.wrByte a v).power = s.power ∧
    (s.wrByte a v).side = s.side ∧ (s.wrByte a v).secur = s.secur ∧ (s.wrByte a v).hlt = s.hlt ∧ (s.wrByte a v).dbg = s.dbg ∧ (s.wrByte a v).upd = s.upd ∧ (s.wrByte a v).asked = s.asked ∧
    (s.wrByte a v).welt = s.welt ∧ (s.wrByte a v).marks = s.marks ∧ (s.wrByte a v).cob = s.cob ∧ (s.wrByte a v).chans = s.chans ∧ (s.wrByte a v).pcie = s.pcie ∧ (s.wrByte a v).eth = s.eth ∧
    (s.wrByte a v).pins = s.pins ∧ (s.wrByte a v).cfg = s.cfg ∧ (s.wrByte a v).shf = s.shf ∧ (s.wrByte a v).keyHash = s.keyHash ∧ (s.wrByte a v).bundles = s.bundles ∧ (s.wrByte a v).qmasks = s.qmasks :=
  by and_intros <;> rfl

@[simp] theorem State.wrByte_mode (s : State) (a v : Nat) : (s.wrByte a v).mode = s.mode := rfl
@[simp] theorem State.wrByte_rdi (s : State) (a v : Nat) (fld : Fld) (p : Nat) : (s.wrByte a v).rdi fld p = s.rdi fld p := rfl
@[simp] theorem State.wrByte_rd (s : State) (a v : Nat) (fld : Fld) : (s.wrByte a v).rd fld = s.rd fld := rfl

/-- What stays as a range of memory is cleared. -/
@[simp] theorem State.clearMem_frame (s : State) (lo hi : Nat) :
    (s.clearMem lo hi).pending = s.pending ∧ (s.clearMem lo hi).fresh = s.fresh ∧ (s.clearMem lo hi).regs = s.regs ∧ (s.clearMem lo hi).evq = s.evq ∧ (s.clearMem lo hi).reply = s.reply ∧ (s.clearMem lo hi).supTab = s.supTab ∧
    (s.clearMem lo hi).fuseTrim = s.fuseTrim ∧ (s.clearMem lo hi).dies = s.dies ∧ (s.clearMem lo hi).regions = s.regions ∧ (s.clearMem lo hi).banks = s.banks ∧ (s.clearMem lo hi).eyes = s.eyes ∧ (s.clearMem lo hi).express = s.express ∧
    (s.clearMem lo hi).cores = s.cores ∧ (s.clearMem lo hi).modes = s.modes ∧ (s.clearMem lo hi).clocks = s.clocks ∧ (s.clearMem lo hi).gears = s.gears ∧ (s.clearMem lo hi).bbx = s.bbx ∧ (s.clearMem lo hi).power = s.power ∧
    (s.clearMem lo hi).side = s.side ∧ (s.clearMem lo hi).secur = s.secur ∧ (s.clearMem lo hi).hlt = s.hlt ∧ (s.clearMem lo hi).dbg = s.dbg ∧ (s.clearMem lo hi).upd = s.upd ∧ (s.clearMem lo hi).asked = s.asked ∧
    (s.clearMem lo hi).welt = s.welt ∧ (s.clearMem lo hi).marks = s.marks ∧ (s.clearMem lo hi).cob = s.cob ∧ (s.clearMem lo hi).chans = s.chans ∧ (s.clearMem lo hi).pcie = s.pcie ∧ (s.clearMem lo hi).eth = s.eth ∧
    (s.clearMem lo hi).pins = s.pins ∧ (s.clearMem lo hi).cfg = s.cfg ∧ (s.clearMem lo hi).shf = s.shf ∧ (s.clearMem lo hi).keyHash = s.keyHash ∧ (s.clearMem lo hi).bundles = s.bundles ∧ (s.clearMem lo hi).qmasks = s.qmasks :=
  by and_intros <;> rfl

@[simp] theorem State.clearMem_mode (s : State) (lo hi : Nat) : (s.clearMem lo hi).mode = s.mode := rfl
@[simp] theorem State.clearMem_rdi (s : State) (lo hi : Nat) (fld : Fld) (p : Nat) : (s.clearMem lo hi).rdi fld p = s.rdi fld p := rfl
@[simp] theorem State.clearMem_rd (s : State) (lo hi : Nat) (fld : Fld) : (s.clearMem lo hi).rd fld = s.rd fld := rfl

/-- What stays as an event is pushed. -/
@[simp] theorem State.push2_frame (s : State) (q : Fld) (e e2 : Nat) :
    (s.push2 q e e2).pending = s.pending ∧ (s.push2 q e e2).fresh = s.fresh ∧ (s.push2 q e e2).regs = s.regs ∧ (s.push2 q e e2).mem = s.mem ∧ (s.push2 q e e2).reply = s.reply ∧ (s.push2 q e e2).supTab = s.supTab ∧
    (s.push2 q e e2).fuseTrim = s.fuseTrim ∧ (s.push2 q e e2).dies = s.dies ∧ (s.push2 q e e2).regions = s.regions ∧ (s.push2 q e e2).banks = s.banks ∧ (s.push2 q e e2).eyes = s.eyes ∧ (s.push2 q e e2).express = s.express ∧
    (s.push2 q e e2).cores = s.cores ∧ (s.push2 q e e2).modes = s.modes ∧ (s.push2 q e e2).clocks = s.clocks ∧ (s.push2 q e e2).gears = s.gears ∧ (s.push2 q e e2).bbx = s.bbx ∧ (s.push2 q e e2).power = s.power ∧
    (s.push2 q e e2).side = s.side ∧ (s.push2 q e e2).secur = s.secur ∧ (s.push2 q e e2).hlt = s.hlt ∧ (s.push2 q e e2).dbg = s.dbg ∧ (s.push2 q e e2).upd = s.upd ∧ (s.push2 q e e2).asked = s.asked ∧
    (s.push2 q e e2).welt = s.welt ∧ (s.push2 q e e2).marks = s.marks ∧ (s.push2 q e e2).cob = s.cob ∧ (s.push2 q e e2).chans = s.chans ∧ (s.push2 q e e2).pcie = s.pcie ∧ (s.push2 q e e2).eth = s.eth ∧
    (s.push2 q e e2).pins = s.pins ∧ (s.push2 q e e2).cfg = s.cfg ∧ (s.push2 q e e2).shf = s.shf ∧ (s.push2 q e e2).keyHash = s.keyHash ∧ (s.push2 q e e2).bundles = s.bundles ∧ (s.push2 q e e2).qmasks = s.qmasks :=
  by and_intros <;> rfl

@[simp] theorem State.push2_mode (s : State) (q : Fld) (e e2 : Nat) : (s.push2 q e e2).mode = s.mode := rfl
@[simp] theorem State.push2_rdi (s : State) (q : Fld) (e e2 : Nat) (fld : Fld) (p : Nat) : (s.push2 q e e2).rdi fld p = s.rdi fld p := rfl
@[simp] theorem State.push2_rd (s : State) (q : Fld) (e e2 : Nat) (fld : Fld) : (s.push2 q e e2).rd fld = s.rd fld := rfl

/-- What stays as an event is pushed. -/
@[simp] theorem State.push_frame (s : State) (q : Fld) (e : Nat) :
    (s.push q e).pending = s.pending ∧ (s.push q e).fresh = s.fresh ∧ (s.push q e).regs = s.regs ∧ (s.push q e).mem = s.mem ∧ (s.push q e).reply = s.reply ∧ (s.push q e).supTab = s.supTab ∧
    (s.push q e).fuseTrim = s.fuseTrim ∧ (s.push q e).dies = s.dies ∧ (s.push q e).regions = s.regions ∧ (s.push q e).banks = s.banks ∧ (s.push q e).eyes = s.eyes ∧ (s.push q e).express = s.express ∧
    (s.push q e).cores = s.cores ∧ (s.push q e).modes = s.modes ∧ (s.push q e).clocks = s.clocks ∧ (s.push q e).gears = s.gears ∧ (s.push q e).bbx = s.bbx ∧ (s.push q e).power = s.power ∧
    (s.push q e).side = s.side ∧ (s.push q e).secur = s.secur ∧ (s.push q e).hlt = s.hlt ∧ (s.push q e).dbg = s.dbg ∧ (s.push q e).upd = s.upd ∧ (s.push q e).asked = s.asked ∧
    (s.push q e).welt = s.welt ∧ (s.push q e).marks = s.marks ∧ (s.push q e).cob = s.cob ∧ (s.push q e).chans = s.chans ∧ (s.push q e).pcie = s.pcie ∧ (s.push q e).eth = s.eth ∧
    (s.push q e).pins = s.pins ∧ (s.push q e).cfg = s.cfg ∧ (s.push q e).shf = s.shf ∧ (s.push q e).keyHash = s.keyHash ∧ (s.push q e).bundles = s.bundles ∧ (s.push q e).qmasks = s.qmasks :=
  by and_intros <;> rfl

@[simp] theorem State.push_mode (s : State) (q : Fld) (e : Nat) : (s.push q e).mode = s.mode := rfl
@[simp] theorem State.push_rdi (s : State) (q : Fld) (e : Nat) (fld : Fld) (p : Nat) : (s.push q e).rdi fld p = s.rdi fld p := rfl
@[simp] theorem State.push_rd (s : State) (q : Fld) (e : Nat) (fld : Fld) : (s.push q e).rd fld = s.rd fld := rfl

/-- What stays as a die changes. -/
@[simp] theorem State.modDie_frame (s : State) (d : Nat) (f : Die → Die) :
    (s.modDie d f).pending = s.pending ∧ (s.modDie d f).fresh = s.fresh ∧ (s.modDie d f).regs = s.regs ∧ (s.modDie d f).evq = s.evq ∧ (s.modDie d f).mem = s.mem ∧ (s.modDie d f).reply = s.reply ∧
    (s.modDie d f).supTab = s.supTab ∧ (s.modDie d f).fuseTrim = s.fuseTrim ∧ (s.modDie d f).regions = s.regions ∧ (s.modDie d f).banks = s.banks ∧ (s.modDie d f).eyes = s.eyes ∧ (s.modDie d f).express = s.express ∧
    (s.modDie d f).cores = s.cores ∧ (s.modDie d f).modes = s.modes ∧ (s.modDie d f).clocks = s.clocks ∧ (s.modDie d f).gears = s.gears ∧ (s.modDie d f).bbx = s.bbx ∧ (s.modDie d f).power = s.power ∧
    (s.modDie d f).side = s.side ∧ (s.modDie d f).secur = s.secur ∧ (s.modDie d f).hlt = s.hlt ∧ (s.modDie d f).dbg = s.dbg ∧ (s.modDie d f).upd = s.upd ∧ (s.modDie d f).asked = s.asked ∧
    (s.modDie d f).welt = s.welt ∧ (s.modDie d f).marks = s.marks ∧ (s.modDie d f).cob = s.cob ∧ (s.modDie d f).chans = s.chans ∧ (s.modDie d f).pcie = s.pcie ∧ (s.modDie d f).eth = s.eth ∧
    (s.modDie d f).pins = s.pins ∧ (s.modDie d f).cfg = s.cfg ∧ (s.modDie d f).shf = s.shf ∧ (s.modDie d f).keyHash = s.keyHash ∧ (s.modDie d f).bundles = s.bundles ∧ (s.modDie d f).qmasks = s.qmasks :=
  by and_intros <;> rfl

@[simp] theorem State.modDie_mode (s : State) (d : Nat) (f : Die → Die) : (s.modDie d f).mode = s.mode := rfl
@[simp] theorem State.modDie_rdi (s : State) (d : Nat) (f : Die → Die) (fld : Fld) (p : Nat) : (s.modDie d f).rdi fld p = s.rdi fld p := rfl
@[simp] theorem State.modDie_rd (s : State) (d : Nat) (f : Die → Die) (fld : Fld) : (s.modDie d f).rd fld = s.rd fld := rfl

/-- What stays as a region changes. -/
@[simp] theorem State.modRegion_frame (s : State) (k : Nat) (f : Region → Region) :
    (s.modRegion k f).pending = s.pending ∧ (s.modRegion k f).fresh = s.fresh ∧ (s.modRegion k f).regs = s.regs ∧ (s.modRegion k f).evq = s.evq ∧ (s.modRegion k f).mem = s.mem ∧ (s.modRegion k f).reply = s.reply ∧
    (s.modRegion k f).supTab = s.supTab ∧ (s.modRegion k f).fuseTrim = s.fuseTrim ∧ (s.modRegion k f).dies = s.dies ∧ (s.modRegion k f).banks = s.banks ∧ (s.modRegion k f).eyes = s.eyes ∧ (s.modRegion k f).express = s.express ∧
    (s.modRegion k f).cores = s.cores ∧ (s.modRegion k f).modes = s.modes ∧ (s.modRegion k f).clocks = s.clocks ∧ (s.modRegion k f).gears = s.gears ∧ (s.modRegion k f).bbx = s.bbx ∧ (s.modRegion k f).power = s.power ∧
    (s.modRegion k f).side = s.side ∧ (s.modRegion k f).secur = s.secur ∧ (s.modRegion k f).hlt = s.hlt ∧ (s.modRegion k f).dbg = s.dbg ∧ (s.modRegion k f).upd = s.upd ∧ (s.modRegion k f).asked = s.asked ∧
    (s.modRegion k f).welt = s.welt ∧ (s.modRegion k f).marks = s.marks ∧ (s.modRegion k f).cob = s.cob ∧ (s.modRegion k f).chans = s.chans ∧ (s.modRegion k f).pcie = s.pcie ∧ (s.modRegion k f).eth = s.eth ∧
    (s.modRegion k f).pins = s.pins ∧ (s.modRegion k f).cfg = s.cfg ∧ (s.modRegion k f).shf = s.shf ∧ (s.modRegion k f).keyHash = s.keyHash ∧ (s.modRegion k f).bundles = s.bundles ∧ (s.modRegion k f).qmasks = s.qmasks :=
  by and_intros <;> rfl

@[simp] theorem State.modRegion_mode (s : State) (k : Nat) (f : Region → Region) : (s.modRegion k f).mode = s.mode := rfl
@[simp] theorem State.modRegion_rdi (s : State) (k : Nat) (f : Region → Region) (fld : Fld) (p : Nat) : (s.modRegion k f).rdi fld p = s.rdi fld p := rfl
@[simp] theorem State.modRegion_rd (s : State) (k : Nat) (f : Region → Region) (fld : Fld) : (s.modRegion k f).rd fld = s.rd fld := rfl

/-- What stays as a bank changes. -/
@[simp] theorem State.modBank_frame (s : State) (k : Nat) (f : Bank → Bank) :
    (s.modBank k f).pending = s.pending ∧ (s.modBank k f).fresh = s.fresh ∧ (s.modBank k f).regs = s.regs ∧ (s.modBank k f).evq = s.evq ∧ (s.modBank k f).mem = s.mem ∧ (s.modBank k f).reply = s.reply ∧
    (s.modBank k f).supTab = s.supTab ∧ (s.modBank k f).fuseTrim = s.fuseTrim ∧ (s.modBank k f).dies = s.dies ∧ (s.modBank k f).regions = s.regions ∧ (s.modBank k f).eyes = s.eyes ∧ (s.modBank k f).express = s.express ∧
    (s.modBank k f).cores = s.cores ∧ (s.modBank k f).modes = s.modes ∧ (s.modBank k f).clocks = s.clocks ∧ (s.modBank k f).gears = s.gears ∧ (s.modBank k f).bbx = s.bbx ∧ (s.modBank k f).power = s.power ∧
    (s.modBank k f).side = s.side ∧ (s.modBank k f).secur = s.secur ∧ (s.modBank k f).hlt = s.hlt ∧ (s.modBank k f).dbg = s.dbg ∧ (s.modBank k f).upd = s.upd ∧ (s.modBank k f).asked = s.asked ∧
    (s.modBank k f).welt = s.welt ∧ (s.modBank k f).marks = s.marks ∧ (s.modBank k f).cob = s.cob ∧ (s.modBank k f).chans = s.chans ∧ (s.modBank k f).pcie = s.pcie ∧ (s.modBank k f).eth = s.eth ∧
    (s.modBank k f).pins = s.pins ∧ (s.modBank k f).cfg = s.cfg ∧ (s.modBank k f).shf = s.shf ∧ (s.modBank k f).keyHash = s.keyHash ∧ (s.modBank k f).bundles = s.bundles ∧ (s.modBank k f).qmasks = s.qmasks :=
  by and_intros <;> rfl

@[simp] theorem State.modBank_mode (s : State) (k : Nat) (f : Bank → Bank) : (s.modBank k f).mode = s.mode := rfl
@[simp] theorem State.modBank_rdi (s : State) (k : Nat) (f : Bank → Bank) (fld : Fld) (p : Nat) : (s.modBank k f).rdi fld p = s.rdi fld p := rfl
@[simp] theorem State.modBank_rd (s : State) (k : Nat) (f : Bank → Bank) (fld : Fld) : (s.modBank k f).rd fld = s.rd fld := rfl

/-- What stays as a gear group changes. -/
@[simp] theorem State.modGear_frame (s : State) (g : Nat) (f : GearChg → GearChg) :
    (s.modGear g f).pending = s.pending ∧ (s.modGear g f).fresh = s.fresh ∧ (s.modGear g f).regs = s.regs ∧ (s.modGear g f).evq = s.evq ∧ (s.modGear g f).mem = s.mem ∧ (s.modGear g f).reply = s.reply ∧
    (s.modGear g f).supTab = s.supTab ∧ (s.modGear g f).fuseTrim = s.fuseTrim ∧ (s.modGear g f).dies = s.dies ∧ (s.modGear g f).regions = s.regions ∧ (s.modGear g f).banks = s.banks ∧ (s.modGear g f).eyes = s.eyes ∧
    (s.modGear g f).express = s.express ∧ (s.modGear g f).cores = s.cores ∧ (s.modGear g f).modes = s.modes ∧ (s.modGear g f).clocks = s.clocks ∧ (s.modGear g f).bbx = s.bbx ∧ (s.modGear g f).power = s.power ∧
    (s.modGear g f).side = s.side ∧ (s.modGear g f).secur = s.secur ∧ (s.modGear g f).hlt = s.hlt ∧ (s.modGear g f).dbg = s.dbg ∧ (s.modGear g f).upd = s.upd ∧ (s.modGear g f).asked = s.asked ∧
    (s.modGear g f).welt = s.welt ∧ (s.modGear g f).marks = s.marks ∧ (s.modGear g f).cob = s.cob ∧ (s.modGear g f).chans = s.chans ∧ (s.modGear g f).pcie = s.pcie ∧ (s.modGear g f).eth = s.eth ∧
    (s.modGear g f).pins = s.pins ∧ (s.modGear g f).cfg = s.cfg ∧ (s.modGear g f).shf = s.shf ∧ (s.modGear g f).keyHash = s.keyHash ∧ (s.modGear g f).bundles = s.bundles ∧ (s.modGear g f).qmasks = s.qmasks :=
  by and_intros <;> rfl

@[simp] theorem State.modGear_mode (s : State) (g : Nat) (f : GearChg → GearChg) : (s.modGear g f).mode = s.mode := rfl
@[simp] theorem State.modGear_rdi (s : State) (g : Nat) (f : GearChg → GearChg) (fld : Fld) (p : Nat) : (s.modGear g f).rdi fld p = s.rdi fld p := rfl
@[simp] theorem State.modGear_rd (s : State) (g : Nat) (f : GearChg → GearChg) (fld : Fld) : (s.modGear g f).rd fld = s.rd fld := rfl

/-- What stays as a lane group changes. -/
@[simp] theorem State.modEye_frame (s : State) (k : Nat) (f : EyeGroup → EyeGroup) :
    (s.modEye k f).pending = s.pending ∧ (s.modEye k f).fresh = s.fresh ∧ (s.modEye k f).regs = s.regs ∧ (s.modEye k f).evq = s.evq ∧ (s.modEye k f).mem = s.mem ∧ (s.modEye k f).reply = s.reply ∧
    (s.modEye k f).supTab = s.supTab ∧ (s.modEye k f).fuseTrim = s.fuseTrim ∧ (s.modEye k f).dies = s.dies ∧ (s.modEye k f).regions = s.regions ∧ (s.modEye k f).banks = s.banks ∧ (s.modEye k f).express = s.express ∧
    (s.modEye k f).cores = s.cores ∧ (s.modEye k f).modes = s.modes ∧ (s.modEye k f).clocks = s.clocks ∧ (s.modEye k f).gears = s.gears ∧ (s.modEye k f).bbx = s.bbx ∧ (s.modEye k f).power = s.power ∧
    (s.modEye k f).side = s.side ∧ (s.modEye k f).secur = s.secur ∧ (s.modEye k f).hlt = s.hlt ∧ (s.modEye k f).dbg = s.dbg ∧ (s.modEye k f).upd = s.upd ∧ (s.modEye k f).asked = s.asked ∧
    (s.modEye k f).welt = s.welt ∧ (s.modEye k f).marks = s.marks ∧ (s.modEye k f).cob = s.cob ∧ (s.modEye k f).chans = s.chans ∧ (s.modEye k f).pcie = s.pcie ∧ (s.modEye k f).eth = s.eth ∧
    (s.modEye k f).pins = s.pins ∧ (s.modEye k f).cfg = s.cfg ∧ (s.modEye k f).shf = s.shf ∧ (s.modEye k f).keyHash = s.keyHash ∧ (s.modEye k f).bundles = s.bundles ∧ (s.modEye k f).qmasks = s.qmasks :=
  by and_intros <;> rfl

@[simp] theorem State.modEye_mode (s : State) (k : Nat) (f : EyeGroup → EyeGroup) : (s.modEye k f).mode = s.mode := rfl
@[simp] theorem State.modEye_rdi (s : State) (k : Nat) (f : EyeGroup → EyeGroup) (fld : Fld) (p : Nat) : (s.modEye k f).rdi fld p = s.rdi fld p := rfl
@[simp] theorem State.modEye_rd (s : State) (k : Nat) (f : EyeGroup → EyeGroup) (fld : Fld) : (s.modEye k f).rd fld = s.rd fld := rfl

/-- What stays as a bundle changes. -/
@[simp] theorem State.modBundle_frame (s : State) (b : Nat) (f : Bundle → Bundle) :
    (s.modBundle b f).pending = s.pending ∧ (s.modBundle b f).fresh = s.fresh ∧ (s.modBundle b f).regs = s.regs ∧ (s.modBundle b f).evq = s.evq ∧ (s.modBundle b f).mem = s.mem ∧ (s.modBundle b f).reply = s.reply ∧
    (s.modBundle b f).supTab = s.supTab ∧ (s.modBundle b f).fuseTrim = s.fuseTrim ∧ (s.modBundle b f).dies = s.dies ∧ (s.modBundle b f).regions = s.regions ∧ (s.modBundle b f).banks = s.banks ∧ (s.modBundle b f).eyes = s.eyes ∧
    (s.modBundle b f).express = s.express ∧ (s.modBundle b f).cores = s.cores ∧ (s.modBundle b f).modes = s.modes ∧ (s.modBundle b f).clocks = s.clocks ∧ (s.modBundle b f).gears = s.gears ∧ (s.modBundle b f).bbx = s.bbx ∧
    (s.modBundle b f).power = s.power ∧ (s.modBundle b f).side = s.side ∧ (s.modBundle b f).secur = s.secur ∧ (s.modBundle b f).hlt = s.hlt ∧ (s.modBundle b f).dbg = s.dbg ∧ (s.modBundle b f).upd = s.upd ∧
    (s.modBundle b f).asked = s.asked ∧ (s.modBundle b f).welt = s.welt ∧ (s.modBundle b f).marks = s.marks ∧ (s.modBundle b f).cob = s.cob ∧ (s.modBundle b f).chans = s.chans ∧ (s.modBundle b f).pcie = s.pcie ∧
    (s.modBundle b f).eth = s.eth ∧ (s.modBundle b f).pins = s.pins ∧ (s.modBundle b f).cfg = s.cfg ∧ (s.modBundle b f).shf = s.shf ∧ (s.modBundle b f).keyHash = s.keyHash ∧ (s.modBundle b f).qmasks = s.qmasks :=
  by and_intros <;> rfl

@[simp] theorem State.modBundle_mode (s : State) (b : Nat) (f : Bundle → Bundle) : (s.modBundle b f).mode = s.mode := rfl
@[simp] theorem State.modBundle_rdi (s : State) (b : Nat) (f : Bundle → Bundle) (fld : Fld) (p : Nat) : (s.modBundle b f).rdi fld p = s.rdi fld p := rfl
@[simp] theorem State.modBundle_rd (s : State) (b : Nat) (f : Bundle → Bundle) (fld : Fld) : (s.modBundle b f).rd fld = s.rd fld := rfl

/-- What stays as the configuration controller changes. -/
@[simp] theorem State.modCfg_frame (s : State) (f : Cfg → Cfg) :
    (s.modCfg f).pending = s.pending ∧ (s.modCfg f).fresh = s.fresh ∧ (s.modCfg f).regs = s.regs ∧ (s.modCfg f).evq = s.evq ∧ (s.modCfg f).mem = s.mem ∧ (s.modCfg f).reply = s.reply ∧
    (s.modCfg f).supTab = s.supTab ∧ (s.modCfg f).fuseTrim = s.fuseTrim ∧ (s.modCfg f).dies = s.dies ∧ (s.modCfg f).regions = s.regions ∧ (s.modCfg f).banks = s.banks ∧ (s.modCfg f).eyes = s.eyes ∧
    (s.modCfg f).express = s.express ∧ (s.modCfg f).cores = s.cores ∧ (s.modCfg f).modes = s.modes ∧ (s.modCfg f).clocks = s.clocks ∧ (s.modCfg f).gears = s.gears ∧ (s.modCfg f).bbx = s.bbx ∧
    (s.modCfg f).power = s.power ∧ (s.modCfg f).side = s.side ∧ (s.modCfg f).secur = s.secur ∧ (s.modCfg f).hlt = s.hlt ∧ (s.modCfg f).dbg = s.dbg ∧ (s.modCfg f).upd = s.upd ∧
    (s.modCfg f).asked = s.asked ∧ (s.modCfg f).welt = s.welt ∧ (s.modCfg f).marks = s.marks ∧ (s.modCfg f).cob = s.cob ∧ (s.modCfg f).chans = s.chans ∧ (s.modCfg f).pcie = s.pcie ∧
    (s.modCfg f).eth = s.eth ∧ (s.modCfg f).pins = s.pins ∧ (s.modCfg f).shf = s.shf ∧ (s.modCfg f).keyHash = s.keyHash ∧ (s.modCfg f).bundles = s.bundles ∧ (s.modCfg f).qmasks = s.qmasks :=
  by and_intros <;> rfl

@[simp] theorem State.modCfg_mode (s : State) (f : Cfg → Cfg) : (s.modCfg f).mode = s.mode := rfl
@[simp] theorem State.modCfg_rdi (s : State) (f : Cfg → Cfg) (fld : Fld) (p : Nat) : (s.modCfg f).rdi fld p = s.rdi fld p := rfl
@[simp] theorem State.modCfg_rd (s : State) (f : Cfg → Cfg) (fld : Fld) : (s.modCfg f).rd fld = s.rd fld := rfl

/-- What stays as the changeover changes. -/
@[simp] theorem State.modShf_frame (s : State) (f : Shf → Shf) :
    (s.modShf f).pending = s.pending ∧ (s.modShf f).fresh = s.fresh ∧ (s.modShf f).regs = s.regs ∧ (s.modShf f).evq = s.evq ∧ (s.modShf f).mem = s.mem ∧ (s.modShf f).reply = s.reply ∧
    (s.modShf f).supTab = s.supTab ∧ (s.modShf f).fuseTrim = s.fuseTrim ∧ (s.modShf f).dies = s.dies ∧ (s.modShf f).regions = s.regions ∧ (s.modShf f).banks = s.banks ∧ (s.modShf f).eyes = s.eyes ∧
    (s.modShf f).express = s.express ∧ (s.modShf f).cores = s.cores ∧ (s.modShf f).modes = s.modes ∧ (s.modShf f).clocks = s.clocks ∧ (s.modShf f).gears = s.gears ∧ (s.modShf f).bbx = s.bbx ∧
    (s.modShf f).power = s.power ∧ (s.modShf f).side = s.side ∧ (s.modShf f).secur = s.secur ∧ (s.modShf f).hlt = s.hlt ∧ (s.modShf f).dbg = s.dbg ∧ (s.modShf f).upd = s.upd ∧
    (s.modShf f).asked = s.asked ∧ (s.modShf f).welt = s.welt ∧ (s.modShf f).marks = s.marks ∧ (s.modShf f).cob = s.cob ∧ (s.modShf f).chans = s.chans ∧ (s.modShf f).pcie = s.pcie ∧
    (s.modShf f).eth = s.eth ∧ (s.modShf f).pins = s.pins ∧ (s.modShf f).cfg = s.cfg ∧ (s.modShf f).keyHash = s.keyHash ∧ (s.modShf f).bundles = s.bundles ∧ (s.modShf f).qmasks = s.qmasks :=
  by and_intros <;> rfl

@[simp] theorem State.modShf_mode (s : State) (f : Shf → Shf) : (s.modShf f).mode = s.mode := rfl
@[simp] theorem State.modShf_rdi (s : State) (f : Shf → Shf) (fld : Fld) (p : Nat) : (s.modShf f).rdi fld p = s.rdi fld p := rfl
@[simp] theorem State.modShf_rd (s : State) (f : Shf → Shf) (fld : Fld) : (s.modShf f).rd fld = s.rd fld := rfl

/-- What stays as a core changes. -/
@[simp] theorem State.modCore_frame (s : State) (c : Nat) (f : Core → Core) :
    (s.modCore c f).pending = s.pending ∧ (s.modCore c f).fresh = s.fresh ∧ (s.modCore c f).regs = s.regs ∧ (s.modCore c f).evq = s.evq ∧ (s.modCore c f).mem = s.mem ∧ (s.modCore c f).reply = s.reply ∧
    (s.modCore c f).supTab = s.supTab ∧ (s.modCore c f).fuseTrim = s.fuseTrim ∧ (s.modCore c f).dies = s.dies ∧ (s.modCore c f).regions = s.regions ∧ (s.modCore c f).banks = s.banks ∧ (s.modCore c f).eyes = s.eyes ∧
    (s.modCore c f).express = s.express ∧ (s.modCore c f).modes = s.modes ∧ (s.modCore c f).clocks = s.clocks ∧ (s.modCore c f).gears = s.gears ∧ (s.modCore c f).bbx = s.bbx ∧ (s.modCore c f).power = s.power ∧
    (s.modCore c f).side = s.side ∧ (s.modCore c f).secur = s.secur ∧ (s.modCore c f).hlt = s.hlt ∧ (s.modCore c f).dbg = s.dbg ∧ (s.modCore c f).upd = s.upd ∧ (s.modCore c f).asked = s.asked ∧
    (s.modCore c f).welt = s.welt ∧ (s.modCore c f).marks = s.marks ∧ (s.modCore c f).cob = s.cob ∧ (s.modCore c f).chans = s.chans ∧ (s.modCore c f).pcie = s.pcie ∧ (s.modCore c f).eth = s.eth ∧
    (s.modCore c f).pins = s.pins ∧ (s.modCore c f).cfg = s.cfg ∧ (s.modCore c f).shf = s.shf ∧ (s.modCore c f).keyHash = s.keyHash ∧ (s.modCore c f).bundles = s.bundles ∧ (s.modCore c f).qmasks = s.qmasks :=
  by and_intros <;> rfl

@[simp] theorem State.modCore_mode (s : State) (c : Nat) (f : Core → Core) : (s.modCore c f).mode = s.mode := rfl
@[simp] theorem State.modCore_rdi (s : State) (c : Nat) (f : Core → Core) (fld : Fld) (p : Nat) : (s.modCore c f).rdi fld p = s.rdi fld p := rfl
@[simp] theorem State.modCore_rd (s : State) (c : Nat) (f : Core → Core) (fld : Fld) : (s.modCore c f).rd fld = s.rd fld := rfl

/-- What stays as the registers of a core change. -/
@[simp] theorem State.modArch_frame (s : State) (c : Nat) (f : Arch → Arch) :
    (s.modArch c f).pending = s.pending ∧ (s.modArch c f).fresh = s.fresh ∧ (s.modArch c f).regs = s.regs ∧ (s.modArch c f).evq = s.evq ∧ (s.modArch c f).mem = s.mem ∧ (s.modArch c f).reply = s.reply ∧
    (s.modArch c f).supTab = s.supTab ∧ (s.modArch c f).fuseTrim = s.fuseTrim ∧ (s.modArch c f).dies = s.dies ∧ (s.modArch c f).regions = s.regions ∧ (s.modArch c f).banks = s.banks ∧ (s.modArch c f).eyes = s.eyes ∧
    (s.modArch c f).express = s.express ∧ (s.modArch c f).modes = s.modes ∧ (s.modArch c f).clocks = s.clocks ∧ (s.modArch c f).gears = s.gears ∧ (s.modArch c f).bbx = s.bbx ∧ (s.modArch c f).power = s.power ∧
    (s.modArch c f).side = s.side ∧ (s.modArch c f).secur = s.secur ∧ (s.modArch c f).hlt = s.hlt ∧ (s.modArch c f).dbg = s.dbg ∧ (s.modArch c f).upd = s.upd ∧ (s.modArch c f).asked = s.asked ∧
    (s.modArch c f).welt = s.welt ∧ (s.modArch c f).marks = s.marks ∧ (s.modArch c f).cob = s.cob ∧ (s.modArch c f).chans = s.chans ∧ (s.modArch c f).pcie = s.pcie ∧ (s.modArch c f).eth = s.eth ∧
    (s.modArch c f).pins = s.pins ∧ (s.modArch c f).cfg = s.cfg ∧ (s.modArch c f).shf = s.shf ∧ (s.modArch c f).keyHash = s.keyHash ∧ (s.modArch c f).bundles = s.bundles ∧ (s.modArch c f).qmasks = s.qmasks :=
  by and_intros <;> rfl

@[simp] theorem State.modArch_mode (s : State) (c : Nat) (f : Arch → Arch) : (s.modArch c f).mode = s.mode := rfl
@[simp] theorem State.modArch_rdi (s : State) (c : Nat) (f : Arch → Arch) (fld : Fld) (p : Nat) : (s.modArch c f).rdi fld p = s.rdi fld p := rfl
@[simp] theorem State.modArch_rd (s : State) (c : Nat) (f : Arch → Arch) (fld : Fld) : (s.modArch c f).rd fld = s.rd fld := rfl

/-- What stays as the Cobbler changes. -/
@[simp] theorem State.modCob_frame (s : State) (f : Cob → Cob) :
    (s.modCob f).pending = s.pending ∧ (s.modCob f).fresh = s.fresh ∧ (s.modCob f).regs = s.regs ∧ (s.modCob f).evq = s.evq ∧ (s.modCob f).mem = s.mem ∧ (s.modCob f).reply = s.reply ∧
    (s.modCob f).supTab = s.supTab ∧ (s.modCob f).fuseTrim = s.fuseTrim ∧ (s.modCob f).dies = s.dies ∧ (s.modCob f).regions = s.regions ∧ (s.modCob f).banks = s.banks ∧ (s.modCob f).eyes = s.eyes ∧
    (s.modCob f).express = s.express ∧ (s.modCob f).cores = s.cores ∧ (s.modCob f).modes = s.modes ∧ (s.modCob f).clocks = s.clocks ∧ (s.modCob f).gears = s.gears ∧ (s.modCob f).bbx = s.bbx ∧
    (s.modCob f).power = s.power ∧ (s.modCob f).side = s.side ∧ (s.modCob f).secur = s.secur ∧ (s.modCob f).hlt = s.hlt ∧ (s.modCob f).dbg = s.dbg ∧ (s.modCob f).upd = s.upd ∧
    (s.modCob f).asked = s.asked ∧ (s.modCob f).welt = s.welt ∧ (s.modCob f).marks = s.marks ∧ (s.modCob f).chans = s.chans ∧ (s.modCob f).pcie = s.pcie ∧ (s.modCob f).eth = s.eth ∧
    (s.modCob f).pins = s.pins ∧ (s.modCob f).cfg = s.cfg ∧ (s.modCob f).shf = s.shf ∧ (s.modCob f).keyHash = s.keyHash ∧ (s.modCob f).bundles = s.bundles ∧ (s.modCob f).qmasks = s.qmasks :=
  by and_intros <;> rfl

@[simp] theorem State.modCob_mode (s : State) (f : Cob → Cob) : (s.modCob f).mode = s.mode := rfl
@[simp] theorem State.modCob_rdi (s : State) (f : Cob → Cob) (fld : Fld) (p : Nat) : (s.modCob f).rdi fld p = s.rdi fld p := rfl
@[simp] theorem State.modCob_rd (s : State) (f : Cob → Cob) (fld : Fld) : (s.modCob f).rd fld = s.rd fld := rfl

/-- What stays as the debug unit changes. -/
@[simp] theorem State.modDbg_frame (s : State) (f : Dbg → Dbg) :
    (s.modDbg f).pending = s.pending ∧ (s.modDbg f).fresh = s.fresh ∧ (s.modDbg f).regs = s.regs ∧ (s.modDbg f).evq = s.evq ∧ (s.modDbg f).mem = s.mem ∧ (s.modDbg f).reply = s.reply ∧
    (s.modDbg f).supTab = s.supTab ∧ (s.modDbg f).fuseTrim = s.fuseTrim ∧ (s.modDbg f).dies = s.dies ∧ (s.modDbg f).regions = s.regions ∧ (s.modDbg f).banks = s.banks ∧ (s.modDbg f).eyes = s.eyes ∧
    (s.modDbg f).express = s.express ∧ (s.modDbg f).cores = s.cores ∧ (s.modDbg f).modes = s.modes ∧ (s.modDbg f).clocks = s.clocks ∧ (s.modDbg f).gears = s.gears ∧ (s.modDbg f).bbx = s.bbx ∧
    (s.modDbg f).power = s.power ∧ (s.modDbg f).side = s.side ∧ (s.modDbg f).secur = s.secur ∧ (s.modDbg f).hlt = s.hlt ∧ (s.modDbg f).upd = s.upd ∧ (s.modDbg f).asked = s.asked ∧
    (s.modDbg f).welt = s.welt ∧ (s.modDbg f).marks = s.marks ∧ (s.modDbg f).cob = s.cob ∧ (s.modDbg f).chans = s.chans ∧ (s.modDbg f).pcie = s.pcie ∧ (s.modDbg f).eth = s.eth ∧
    (s.modDbg f).pins = s.pins ∧ (s.modDbg f).cfg = s.cfg ∧ (s.modDbg f).shf = s.shf ∧ (s.modDbg f).keyHash = s.keyHash ∧ (s.modDbg f).bundles = s.bundles ∧ (s.modDbg f).qmasks = s.qmasks :=
  by and_intros <;> rfl

@[simp] theorem State.modDbg_mode (s : State) (f : Dbg → Dbg) : (s.modDbg f).mode = s.mode := rfl
@[simp] theorem State.modDbg_rdi (s : State) (f : Dbg → Dbg) (fld : Fld) (p : Nat) : (s.modDbg f).rdi fld p = s.rdi fld p := rfl
@[simp] theorem State.modDbg_rd (s : State) (f : Dbg → Dbg) (fld : Fld) : (s.modDbg f).rd fld = s.rd fld := rfl

/-- What stays as a DRAM channel changes. -/
@[simp] theorem State.modChan_frame (s : State) (c : Nat) (f : Chan → Chan) :
    (s.modChan c f).pending = s.pending ∧ (s.modChan c f).fresh = s.fresh ∧ (s.modChan c f).regs = s.regs ∧ (s.modChan c f).evq = s.evq ∧ (s.modChan c f).mem = s.mem ∧ (s.modChan c f).reply = s.reply ∧
    (s.modChan c f).supTab = s.supTab ∧ (s.modChan c f).fuseTrim = s.fuseTrim ∧ (s.modChan c f).dies = s.dies ∧ (s.modChan c f).regions = s.regions ∧ (s.modChan c f).banks = s.banks ∧ (s.modChan c f).eyes = s.eyes ∧
    (s.modChan c f).express = s.express ∧ (s.modChan c f).cores = s.cores ∧ (s.modChan c f).modes = s.modes ∧ (s.modChan c f).clocks = s.clocks ∧ (s.modChan c f).gears = s.gears ∧ (s.modChan c f).bbx = s.bbx ∧
    (s.modChan c f).power = s.power ∧ (s.modChan c f).side = s.side ∧ (s.modChan c f).secur = s.secur ∧ (s.modChan c f).hlt = s.hlt ∧ (s.modChan c f).dbg = s.dbg ∧ (s.modChan c f).upd = s.upd ∧
    (s.modChan c f).asked = s.asked ∧ (s.modChan c f).welt = s.welt ∧ (s.modChan c f).marks = s.marks ∧ (s.modChan c f).cob = s.cob ∧ (s.modChan c f).pcie = s.pcie ∧ (s.modChan c f).eth = s.eth ∧
    (s.modChan c f).pins = s.pins ∧ (s.modChan c f).cfg = s.cfg ∧ (s.modChan c f).shf = s.shf ∧ (s.modChan c f).keyHash = s.keyHash ∧ (s.modChan c f).bundles = s.bundles ∧ (s.modChan c f).qmasks = s.qmasks :=
  by and_intros <;> rfl

@[simp] theorem State.modChan_mode (s : State) (c : Nat) (f : Chan → Chan) : (s.modChan c f).mode = s.mode := rfl
@[simp] theorem State.modChan_rdi (s : State) (c : Nat) (f : Chan → Chan) (fld : Fld) (p : Nat) : (s.modChan c f).rdi fld p = s.rdi fld p := rfl
@[simp] theorem State.modChan_rd (s : State) (c : Nat) (f : Chan → Chan) (fld : Fld) : (s.modChan c f).rd fld = s.rd fld := rfl

/-- What stays as a gear policy changes. -/
@[simp] theorem State.modPol_frame (s : State) (g : Nat) (f : Pol → Pol) :
    (s.modPol g f).pending = s.pending ∧ (s.modPol g f).fresh = s.fresh ∧ (s.modPol g f).regs = s.regs ∧ (s.modPol g f).evq = s.evq ∧ (s.modPol g f).mem = s.mem ∧ (s.modPol g f).reply = s.reply ∧
    (s.modPol g f).supTab = s.supTab ∧ (s.modPol g f).fuseTrim = s.fuseTrim ∧ (s.modPol g f).dies = s.dies ∧ (s.modPol g f).regions = s.regions ∧ (s.modPol g f).banks = s.banks ∧ (s.modPol g f).eyes = s.eyes ∧
    (s.modPol g f).express = s.express ∧ (s.modPol g f).cores = s.cores ∧ (s.modPol g f).modes = s.modes ∧ (s.modPol g f).clocks = s.clocks ∧ (s.modPol g f).gears = s.gears ∧ (s.modPol g f).bbx = s.bbx ∧
    (s.modPol g f).power = s.power ∧ (s.modPol g f).side = s.side ∧ (s.modPol g f).secur = s.secur ∧ (s.modPol g f).dbg = s.dbg ∧ (s.modPol g f).upd = s.upd ∧ (s.modPol g f).asked = s.asked ∧
    (s.modPol g f).welt = s.welt ∧ (s.modPol g f).marks = s.marks ∧ (s.modPol g f).cob = s.cob ∧ (s.modPol g f).chans = s.chans ∧ (s.modPol g f).pcie = s.pcie ∧ (s.modPol g f).eth = s.eth ∧
    (s.modPol g f).pins = s.pins ∧ (s.modPol g f).cfg = s.cfg ∧ (s.modPol g f).shf = s.shf ∧ (s.modPol g f).keyHash = s.keyHash ∧ (s.modPol g f).bundles = s.bundles ∧ (s.modPol g f).qmasks = s.qmasks :=
  by and_intros <;> rfl

@[simp] theorem State.modPol_mode (s : State) (g : Nat) (f : Pol → Pol) : (s.modPol g f).mode = s.mode := rfl
@[simp] theorem State.modPol_rdi (s : State) (g : Nat) (f : Pol → Pol) (fld : Fld) (p : Nat) : (s.modPol g f).rdi fld p = s.rdi fld p := rfl
@[simp] theorem State.modPol_rd (s : State) (g : Nat) (f : Pol → Pol) (fld : Fld) : (s.modPol g f).rd fld = s.rd fld := rfl

/-- What stays as a pin changes. -/
@[simp] theorem State.modPin_frame (s : State) (k n : Nat) (f : Pin → Pin) :
    (s.modPin k n f).pending = s.pending ∧ (s.modPin k n f).fresh = s.fresh ∧ (s.modPin k n f).regs = s.regs ∧ (s.modPin k n f).evq = s.evq ∧ (s.modPin k n f).mem = s.mem ∧ (s.modPin k n f).reply = s.reply ∧
    (s.modPin k n f).supTab = s.supTab ∧ (s.modPin k n f).fuseTrim = s.fuseTrim ∧ (s.modPin k n f).dies = s.dies ∧ (s.modPin k n f).regions = s.regions ∧ (s.modPin k n f).banks = s.banks ∧ (s.modPin k n f).eyes = s.eyes ∧
    (s.modPin k n f).express = s.express ∧ (s.modPin k n f).cores = s.cores ∧ (s.modPin k n f).modes = s.modes ∧ (s.modPin k n f).clocks = s.clocks ∧ (s.modPin k n f).gears = s.gears ∧ (s.modPin k n f).bbx = s.bbx ∧
    (s.modPin k n f).power = s.power ∧ (s.modPin k n f).side = s.side ∧ (s.modPin k n f).secur = s.secur ∧ (s.modPin k n f).hlt = s.hlt ∧ (s.modPin k n f).dbg = s.dbg ∧ (s.modPin k n f).upd = s.upd ∧
    (s.modPin k n f).asked = s.asked ∧ (s.modPin k n f).welt = s.welt ∧ (s.modPin k n f).marks = s.marks ∧ (s.modPin k n f).cob = s.cob ∧ (s.modPin k n f).chans = s.chans ∧ (s.modPin k n f).pcie = s.pcie ∧
    (s.modPin k n f).eth = s.eth ∧ (s.modPin k n f).cfg = s.cfg ∧ (s.modPin k n f).shf = s.shf ∧ (s.modPin k n f).keyHash = s.keyHash ∧ (s.modPin k n f).bundles = s.bundles ∧ (s.modPin k n f).qmasks = s.qmasks :=
  by and_intros <;> rfl

@[simp] theorem State.modPin_mode (s : State) (k n : Nat) (f : Pin → Pin) : (s.modPin k n f).mode = s.mode := rfl
@[simp] theorem State.modPin_rdi (s : State) (k n : Nat) (f : Pin → Pin) (fld : Fld) (p : Nat) : (s.modPin k n f).rdi fld p = s.rdi fld p := rfl
@[simp] theorem State.modPin_rd (s : State) (k n : Nat) (f : Pin → Pin) (fld : Fld) : (s.modPin k n f).rd fld = s.rd fld := rfl

/-- What stays as the supply changes. -/
@[simp] theorem State.modPower_frame (s : State) (f : Power → Power) :
    (s.modPower f).pending = s.pending ∧ (s.modPower f).fresh = s.fresh ∧ (s.modPower f).regs = s.regs ∧ (s.modPower f).evq = s.evq ∧ (s.modPower f).mem = s.mem ∧ (s.modPower f).reply = s.reply ∧
    (s.modPower f).supTab = s.supTab ∧ (s.modPower f).fuseTrim = s.fuseTrim ∧ (s.modPower f).dies = s.dies ∧ (s.modPower f).regions = s.regions ∧ (s.modPower f).banks = s.banks ∧ (s.modPower f).eyes = s.eyes ∧
    (s.modPower f).express = s.express ∧ (s.modPower f).cores = s.cores ∧ (s.modPower f).modes = s.modes ∧ (s.modPower f).clocks = s.clocks ∧ (s.modPower f).gears = s.gears ∧ (s.modPower f).bbx = s.bbx ∧
    (s.modPower f).side = s.side ∧ (s.modPower f).secur = s.secur ∧ (s.modPower f).hlt = s.hlt ∧ (s.modPower f).dbg = s.dbg ∧ (s.modPower f).upd = s.upd ∧ (s.modPower f).asked = s.asked ∧
    (s.modPower f).welt = s.welt ∧ (s.modPower f).marks = s.marks ∧ (s.modPower f).cob = s.cob ∧ (s.modPower f).chans = s.chans ∧ (s.modPower f).pcie = s.pcie ∧ (s.modPower f).eth = s.eth ∧
    (s.modPower f).pins = s.pins ∧ (s.modPower f).cfg = s.cfg ∧ (s.modPower f).shf = s.shf ∧ (s.modPower f).keyHash = s.keyHash ∧ (s.modPower f).bundles = s.bundles ∧ (s.modPower f).qmasks = s.qmasks :=
  by and_intros <;> rfl

@[simp] theorem State.modPower_mode (s : State) (f : Power → Power) : (s.modPower f).mode = s.mode := rfl
@[simp] theorem State.modPower_rdi (s : State) (f : Power → Power) (fld : Fld) (p : Nat) : (s.modPower f).rdi fld p = s.rdi fld p := rfl
@[simp] theorem State.modPower_rd (s : State) (f : Power → Power) (fld : Fld) : (s.modPower f).rd fld = s.rd fld := rfl

/-- What stays as the PCIe port changes. -/
@[simp] theorem State.modPcie_frame (s : State) (f : Pcie → Pcie) :
    (s.modPcie f).pending = s.pending ∧ (s.modPcie f).fresh = s.fresh ∧ (s.modPcie f).regs = s.regs ∧ (s.modPcie f).evq = s.evq ∧ (s.modPcie f).mem = s.mem ∧ (s.modPcie f).reply = s.reply ∧
    (s.modPcie f).supTab = s.supTab ∧ (s.modPcie f).fuseTrim = s.fuseTrim ∧ (s.modPcie f).dies = s.dies ∧ (s.modPcie f).regions = s.regions ∧ (s.modPcie f).banks = s.banks ∧ (s.modPcie f).eyes = s.eyes ∧
    (s.modPcie f).express = s.express ∧ (s.modPcie f).cores = s.cores ∧ (s.modPcie f).modes = s.modes ∧ (s.modPcie f).clocks = s.clocks ∧ (s.modPcie f).gears = s.gears ∧ (s.modPcie f).bbx = s.bbx ∧
    (s.modPcie f).power = s.power ∧ (s.modPcie f).side = s.side ∧ (s.modPcie f).secur = s.secur ∧ (s.modPcie f).hlt = s.hlt ∧ (s.modPcie f).dbg = s.dbg ∧ (s.modPcie f).upd = s.upd ∧
    (s.modPcie f).asked = s.asked ∧ (s.modPcie f).welt = s.welt ∧ (s.modPcie f).marks = s.marks ∧ (s.modPcie f).cob = s.cob ∧ (s.modPcie f).chans = s.chans ∧ (s.modPcie f).eth = s.eth ∧
    (s.modPcie f).pins = s.pins ∧ (s.modPcie f).cfg = s.cfg ∧ (s.modPcie f).shf = s.shf ∧ (s.modPcie f).keyHash = s.keyHash ∧ (s.modPcie f).bundles = s.bundles ∧ (s.modPcie f).qmasks = s.qmasks :=
  by and_intros <;> rfl

@[simp] theorem State.modPcie_mode (s : State) (f : Pcie → Pcie) : (s.modPcie f).mode = s.mode := rfl
@[simp] theorem State.modPcie_rdi (s : State) (f : Pcie → Pcie) (fld : Fld) (p : Nat) : (s.modPcie f).rdi fld p = s.rdi fld p := rfl
@[simp] theorem State.modPcie_rd (s : State) (f : Pcie → Pcie) (fld : Fld) : (s.modPcie f).rd fld = s.rd fld := rfl

/-- What stays as the side band changes. -/
@[simp] theorem State.modSide_frame (s : State) (f : Sideband → Sideband) :
    (s.modSide f).pending = s.pending ∧ (s.modSide f).fresh = s.fresh ∧ (s.modSide f).regs = s.regs ∧ (s.modSide f).evq = s.evq ∧ (s.modSide f).mem = s.mem ∧ (s.modSide f).reply = s.reply ∧
    (s.modSide f).supTab = s.supTab ∧ (s.modSide f).fuseTrim = s.fuseTrim ∧ (s.modSide f).dies = s.dies ∧ (s.modSide f).regions = s.regions ∧ (s.modSide f).banks = s.banks ∧ (s.modSide f).eyes = s.eyes ∧
    (s.modSide f).express = s.express ∧ (s.modSide f).cores = s.cores ∧ (s.modSide f).modes = s.modes ∧ (s.modSide f).clocks = s.clocks ∧ (s.modSide f).gears = s.gears ∧ (s.modSide f).bbx = s.bbx ∧
    (s.modSide f).power = s.power ∧ (s.modSide f).secur = s.secur ∧ (s.modSide f).hlt = s.hlt ∧ (s.modSide f).dbg = s.dbg ∧ (s.modSide f).upd = s.upd ∧ (s.modSide f).asked = s.asked ∧
    (s.modSide f).welt = s.welt ∧ (s.modSide f).marks = s.marks ∧ (s.modSide f).cob = s.cob ∧ (s.modSide f).chans = s.chans ∧ (s.modSide f).pcie = s.pcie ∧ (s.modSide f).eth = s.eth ∧
    (s.modSide f).pins = s.pins ∧ (s.modSide f).cfg = s.cfg ∧ (s.modSide f).shf = s.shf ∧ (s.modSide f).keyHash = s.keyHash ∧ (s.modSide f).bundles = s.bundles ∧ (s.modSide f).qmasks = s.qmasks :=
  by and_intros <;> rfl

@[simp] theorem State.modSide_mode (s : State) (f : Sideband → Sideband) : (s.modSide f).mode = s.mode := rfl
@[simp] theorem State.modSide_rdi (s : State) (f : Sideband → Sideband) (fld : Fld) (p : Nat) : (s.modSide f).rdi fld p = s.rdi fld p := rfl
@[simp] theorem State.modSide_rd (s : State) (f : Sideband → Sideband) (fld : Fld) : (s.modSide f).rd fld = s.rd fld := rfl

/-- What stays as the secrets change. -/
@[simp] theorem State.modSecur_frame (s : State) (f : Secur → Secur) :
    (s.modSecur f).pending = s.pending ∧ (s.modSecur f).fresh = s.fresh ∧ (s.modSecur f).regs = s.regs ∧ (s.modSecur f).evq = s.evq ∧ (s.modSecur f).mem = s.mem ∧ (s.modSecur f).reply = s.reply ∧
    (s.modSecur f).supTab = s.supTab ∧ (s.modSecur f).fuseTrim = s.fuseTrim ∧ (s.modSecur f).dies = s.dies ∧ (s.modSecur f).regions = s.regions ∧ (s.modSecur f).banks = s.banks ∧ (s.modSecur f).eyes = s.eyes ∧
    (s.modSecur f).express = s.express ∧ (s.modSecur f).cores = s.cores ∧ (s.modSecur f).modes = s.modes ∧ (s.modSecur f).clocks = s.clocks ∧ (s.modSecur f).gears = s.gears ∧ (s.modSecur f).bbx = s.bbx ∧
    (s.modSecur f).power = s.power ∧ (s.modSecur f).side = s.side ∧ (s.modSecur f).hlt = s.hlt ∧ (s.modSecur f).dbg = s.dbg ∧ (s.modSecur f).upd = s.upd ∧ (s.modSecur f).asked = s.asked ∧
    (s.modSecur f).welt = s.welt ∧ (s.modSecur f).marks = s.marks ∧ (s.modSecur f).cob = s.cob ∧ (s.modSecur f).chans = s.chans ∧ (s.modSecur f).pcie = s.pcie ∧ (s.modSecur f).eth = s.eth ∧
    (s.modSecur f).pins = s.pins ∧ (s.modSecur f).cfg = s.cfg ∧ (s.modSecur f).shf = s.shf ∧ (s.modSecur f).keyHash = s.keyHash ∧ (s.modSecur f).bundles = s.bundles ∧ (s.modSecur f).qmasks = s.qmasks :=
  by and_intros <;> rfl

@[simp] theorem State.modSecur_mode (s : State) (f : Secur → Secur) : (s.modSecur f).mode = s.mode := rfl
@[simp] theorem State.modSecur_rdi (s : State) (f : Secur → Secur) (fld : Fld) (p : Nat) : (s.modSecur f).rdi fld p = s.rdi fld p := rfl
@[simp] theorem State.modSecur_rd (s : State) (f : Secur → Secur) (fld : Fld) : (s.modSecur f).rd fld = s.rd fld := rfl

/-- What stays as the update changes. -/
@[simp] theorem State.modUpd_frame (s : State) (f : Upd → Upd) :
    (s.modUpd f).pending = s.pending ∧ (s.modUpd f).fresh = s.fresh ∧ (s.modUpd f).regs = s.regs ∧ (s.modUpd f).evq = s.evq ∧ (s.modUpd f).mem = s.mem ∧ (s.modUpd f).reply = s.reply ∧
    (s.modUpd f).supTab = s.supTab ∧ (s.modUpd f).fuseTrim = s.fuseTrim ∧ (s.modUpd f).dies = s.dies ∧ (s.modUpd f).regions = s.regions ∧ (s.modUpd f).banks = s.banks ∧ (s.modUpd f).eyes = s.eyes ∧
    (s.modUpd f).express = s.express ∧ (s.modUpd f).cores = s.cores ∧ (s.modUpd f).modes = s.modes ∧ (s.modUpd f).clocks = s.clocks ∧ (s.modUpd f).gears = s.gears ∧ (s.modUpd f).bbx = s.bbx ∧
    (s.modUpd f).power = s.power ∧ (s.modUpd f).side = s.side ∧ (s.modUpd f).secur = s.secur ∧ (s.modUpd f).hlt = s.hlt ∧ (s.modUpd f).dbg = s.dbg ∧ (s.modUpd f).asked = s.asked ∧
    (s.modUpd f).welt = s.welt ∧ (s.modUpd f).marks = s.marks ∧ (s.modUpd f).cob = s.cob ∧ (s.modUpd f).chans = s.chans ∧ (s.modUpd f).pcie = s.pcie ∧ (s.modUpd f).eth = s.eth ∧
    (s.modUpd f).pins = s.pins ∧ (s.modUpd f).cfg = s.cfg ∧ (s.modUpd f).shf = s.shf ∧ (s.modUpd f).keyHash = s.keyHash ∧ (s.modUpd f).bundles = s.bundles ∧ (s.modUpd f).qmasks = s.qmasks :=
  by and_intros <;> rfl

@[simp] theorem State.modUpd_mode (s : State) (f : Upd → Upd) : (s.modUpd f).mode = s.mode := rfl
@[simp] theorem State.modUpd_rdi (s : State) (f : Upd → Upd) (fld : Fld) (p : Nat) : (s.modUpd f).rdi fld p = s.rdi fld p := rfl
@[simp] theorem State.modUpd_rd (s : State) (f : Upd → Upd) (fld : Fld) : (s.modUpd f).rd fld = s.rd fld := rfl

/-- What stays as the network changes. -/
@[simp] theorem State.modWelt_frame (s : State) (f : Welt → Welt) :
    (s.modWelt f).pending = s.pending ∧ (s.modWelt f).fresh = s.fresh ∧ (s.modWelt f).regs = s.regs ∧ (s.modWelt f).evq = s.evq ∧ (s.modWelt f).mem = s.mem ∧ (s.modWelt f).reply = s.reply ∧
    (s.modWelt f).supTab = s.supTab ∧ (s.modWelt f).fuseTrim = s.fuseTrim ∧ (s.modWelt f).dies = s.dies ∧ (s.modWelt f).regions = s.regions ∧ (s.modWelt f).banks = s.banks ∧ (s.modWelt f).eyes = s.eyes ∧
    (s.modWelt f).express = s.express ∧ (s.modWelt f).cores = s.cores ∧ (s.modWelt f).modes = s.modes ∧ (s.modWelt f).clocks = s.clocks ∧ (s.modWelt f).gears = s.gears ∧ (s.modWelt f).bbx = s.bbx ∧
    (s.modWelt f).power = s.power ∧ (s.modWelt f).side = s.side ∧ (s.modWelt f).secur = s.secur ∧ (s.modWelt f).hlt = s.hlt ∧ (s.modWelt f).dbg = s.dbg ∧ (s.modWelt f).upd = s.upd ∧
    (s.modWelt f).asked = s.asked ∧ (s.modWelt f).marks = s.marks ∧ (s.modWelt f).cob = s.cob ∧ (s.modWelt f).chans = s.chans ∧ (s.modWelt f).pcie = s.pcie ∧ (s.modWelt f).eth = s.eth ∧
    (s.modWelt f).pins = s.pins ∧ (s.modWelt f).cfg = s.cfg ∧ (s.modWelt f).shf = s.shf ∧ (s.modWelt f).keyHash = s.keyHash ∧ (s.modWelt f).bundles = s.bundles ∧ (s.modWelt f).qmasks = s.qmasks :=
  by and_intros <;> rfl

@[simp] theorem State.modWelt_mode (s : State) (f : Welt → Welt) : (s.modWelt f).mode = s.mode := rfl
@[simp] theorem State.modWelt_rdi (s : State) (f : Welt → Welt) (fld : Fld) (p : Nat) : (s.modWelt f).rdi fld p = s.rdi fld p := rfl
@[simp] theorem State.modWelt_rd (s : State) (f : Welt → Welt) (fld : Fld) : (s.modWelt f).rd fld = s.rd fld := rfl

/-- What stays as a guaranteed flow changes. -/
@[simp] theorem State.modFlow_frame (s : State) (f : Nat) (g : FlowSt → FlowSt) :
    (s.modFlow f g).pending = s.pending ∧ (s.modFlow f g).fresh = s.fresh ∧ (s.modFlow f g).regs = s.regs ∧ (s.modFlow f g).evq = s.evq ∧ (s.modFlow f g).mem = s.mem ∧ (s.modFlow f g).reply = s.reply ∧
    (s.modFlow f g).supTab = s.supTab ∧ (s.modFlow f g).fuseTrim = s.fuseTrim ∧ (s.modFlow f g).dies = s.dies ∧ (s.modFlow f g).regions = s.regions ∧ (s.modFlow f g).banks = s.banks ∧ (s.modFlow f g).eyes = s.eyes ∧
    (s.modFlow f g).express = s.express ∧ (s.modFlow f g).cores = s.cores ∧ (s.modFlow f g).modes = s.modes ∧ (s.modFlow f g).clocks = s.clocks ∧ (s.modFlow f g).gears = s.gears ∧ (s.modFlow f g).bbx = s.bbx ∧
    (s.modFlow f g).power = s.power ∧ (s.modFlow f g).side = s.side ∧ (s.modFlow f g).secur = s.secur ∧ (s.modFlow f g).hlt = s.hlt ∧ (s.modFlow f g).dbg = s.dbg ∧ (s.modFlow f g).upd = s.upd ∧
    (s.modFlow f g).asked = s.asked ∧ (s.modFlow f g).marks = s.marks ∧ (s.modFlow f g).cob = s.cob ∧ (s.modFlow f g).chans = s.chans ∧ (s.modFlow f g).pcie = s.pcie ∧ (s.modFlow f g).eth = s.eth ∧
    (s.modFlow f g).pins = s.pins ∧ (s.modFlow f g).cfg = s.cfg ∧ (s.modFlow f g).shf = s.shf ∧ (s.modFlow f g).keyHash = s.keyHash ∧ (s.modFlow f g).bundles = s.bundles ∧ (s.modFlow f g).qmasks = s.qmasks :=
  by and_intros <;> rfl

@[simp] theorem State.modFlow_mode (s : State) (f : Nat) (g : FlowSt → FlowSt) : (s.modFlow f g).mode = s.mode := rfl
@[simp] theorem State.modFlow_rdi (s : State) (f : Nat) (g : FlowSt → FlowSt) (fld : Fld) (p : Nat) : (s.modFlow f g).rdi fld p = s.rdi fld p := rfl
@[simp] theorem State.modFlow_rd (s : State) (f : Nat) (g : FlowSt → FlowSt) (fld : Fld) : (s.modFlow f g).rd fld = s.rd fld := rfl

/-! An entry of a table after its change, and another entry -/

@[simp] theorem State.die_modDie (s : State) (d : Nat) (f : Die → Die) : (s.modDie d f).die d = f (s.die d) := tabGet_mod_same ..
theorem State.die_modDie_ne (s : State) (d : Nat) (f : Die → Die) {j : Nat} (h : j ≠ d) : (s.modDie d f).die j = s.die j := tabGet_mod_ne _ _ _ h

@[simp] theorem State.region_modRegion (s : State) (k : Nat) (f : Region → Region) : (s.modRegion k f).region k = f (s.region k) := tabGet_mod_same ..
theorem State.region_modRegion_ne (s : State) (k : Nat) (f : Region → Region) {j : Nat} (h : j ≠ k) : (s.modRegion k f).region j = s.region j := tabGet_mod_ne _ _ _ h

@[simp] theorem State.bank_modBank (s : State) (k : Nat) (f : Bank → Bank) : (s.modBank k f).bank k = f (s.bank k) := tabGet_mod_same ..
theorem State.bank_modBank_ne (s : State) (k : Nat) (f : Bank → Bank) {j : Nat} (h : j ≠ k) : (s.modBank k f).bank j = s.bank j := tabGet_mod_ne _ _ _ h

@[simp] theorem State.gear_modGear (s : State) (g : Nat) (f : GearChg → GearChg) : (s.modGear g f).gear g = f (s.gear g) := tabGet_mod_same ..
theorem State.gear_modGear_ne (s : State) (g : Nat) (f : GearChg → GearChg) {j : Nat} (h : j ≠ g) : (s.modGear g f).gear j = s.gear j := tabGet_mod_ne _ _ _ h

@[simp] theorem State.eye_modEye (s : State) (k : Nat) (f : EyeGroup → EyeGroup) : (s.modEye k f).eye k = f (s.eye k) := tabGet_mod_same ..
theorem State.eye_modEye_ne (s : State) (k : Nat) (f : EyeGroup → EyeGroup) {j : Nat} (h : j ≠ k) : (s.modEye k f).eye j = s.eye j := tabGet_mod_ne _ _ _ h

@[simp] theorem State.bundle_modBundle (s : State) (b : Nat) (f : Bundle → Bundle) : (s.modBundle b f).bundle b = f (s.bundle b) := tabGet_mod_same ..
theorem State.bundle_modBundle_ne (s : State) (b : Nat) (f : Bundle → Bundle) {j : Nat} (h : j ≠ b) : (s.modBundle b f).bundle j = s.bundle j := tabGet_mod_ne _ _ _ h

@[simp] theorem State.core_modCore (s : State) (c : Nat) (f : Core → Core) : (s.modCore c f).core c = f (s.core c) := tabGet_mod_same ..
theorem State.core_modCore_ne (s : State) (c : Nat) (f : Core → Core) {j : Nat} (h : j ≠ c) : (s.modCore c f).core j = s.core j := tabGet_mod_ne _ _ _ h

@[simp] theorem State.chan_modChan (s : State) (c : Nat) (f : Chan → Chan) : (s.modChan c f).chan c = f (s.chan c) := tabGet_mod_same ..
theorem State.chan_modChan_ne (s : State) (c : Nat) (f : Chan → Chan) {j : Nat} (h : j ≠ c) : (s.modChan c f).chan j = s.chan j := tabGet_mod_ne _ _ _ h

end Sys2Proof.Machine
end

