-- ==== Sys2Proof/Laws/Ops.lean ====
section
/-! SUPPORT. What the shared operations of Ops.lean can do: register fields, event queues, black-box records, time and requests. -/

namespace Sys2Proof.Machine

/-! Register fields -/

theorem State.rd_eq (s : State) (f : Fld) : s.rd f = s.rdi f 0 := rfl
theorem State.wr_eq (s : State) (f : Fld) (v : Nat) : s.wr f v = s.wri f 0 v := rfl

@[simp] theorem State.rdi_wri_same (s : State) (f : Fld) (o v : Nat) : (s.wri f o v).rdi f o = v % 2 ^ f.w := tabGet_set_same ..

theorem State.rdi_wri_ne (s : State) {f g : Fld} {o p : Nat} (v : Nat) (h : g.key p ≠ f.key o) : (s.wri f o v).rdi g p = s.rdi g p :=
  tabGet_set_ne _ _ _ _ h

@[simp] theorem State.rd_wr_same (s : State) (f : Fld) (v : Nat) : (s.wr f v).rd f = v % 2 ^ f.w := State.rdi_wri_same ..

theorem State.rd_wr_ne (s : State) {f g : Fld} (v : Nat) (h : g.key 0 ≠ f.key 0) : (s.wr f v).rd g = s.rd g := State.rdi_wri_ne s v h

theorem State.rd_wri_ne (s : State) {f g : Fld} {o : Nat} (v : Nat) (h : g.key 0 ≠ f.key o) : (s.wri f o v).rd g = s.rd g := State.rdi_wri_ne s v h

theorem State.rdi_wr_ne (s : State) {f g : Fld} {p : Nat} (v : Nat) (h : g.key p ≠ f.key 0) : (s.wr f v).rdi g p = s.rdi g p := State.rdi_wri_ne s v h

theorem State.rdi_addi_same (s : State) (f : Fld) (o n : Nat) :
    (s.addi f o n).rdi f o = min (s.rdi f o + n) (2 ^ f.w - 1) := by
  unfold State.addi
  rw [State.rdi_wri_same, Nat.mod_eq_of_lt]
  have := Nat.two_pow_pos f.w
  omega

theorem State.rdi_addi_ne (s : State) {f g : Fld} {o p : Nat} (n : Nat) (h : g.key p ≠ f.key o) : (s.addi f o n).rdi g p = s.rdi g p :=
  State.rdi_wri_ne s _ h

theorem State.wri_regs_rising {s : State} (h : Tab.Rising s.regs) (f : Fld) (o v : Nat) : Tab.Rising (s.wri f o v).regs := h.set ..

/-- Fields of two registers never share a key while the later register lies wholly above the earlier one's instances. -/
theorem Fld.key_ne_of_adr {f g : Fld} {o p : Nat} (hf : f.lo < 32) (hg : g.lo < 32) (h : f.adr + o ≠ g.adr + p) : g.key p ≠ f.key o := by
  unfold Fld.key; omega

/-! Event queues (R16) -/

/-- What a push does to its queue: the entry is appended with VALID, and LOST if one was lost before; a full queue marks the loss. -/
theorem State.push2_evq (s : State) (q : Fld) (e e2 : Nat) :
    tabGet {} (s.push2 q e e2).evq q.adr =
      if (tabGet {} s.evq q.adr).entries.length < evCap q then
        { entries := (tabGet {} s.evq q.adr).entries ++ [((2 ^ 31 + (if (tabGet {} s.evq q.adr).lost then 2 ^ evLostBit q else 0) + e) % 2 ^ 32, e2)], lost := false }
      else { tabGet {} s.evq q.adr with lost := true } := by
  simp only [State.push2]
  rw [tabGet_mod_same]

/-- A push leaves every other queue. -/
theorem State.push2_evq_ne (s : State) (q : Fld) (e e2 : Nat) {a : Nat} (h : a ≠ q.adr) : tabGet {} (s.push2 q e e2).evq a = tabGet {} s.evq a := by
  simp only [State.push2]
  rw [tabGet_mod_ne _ _ _ h]

/-! Black-box records (R582 to R586) -/

/-- A record touches the black box and the loss count only. -/
theorem State.pendRecord_eq (s : State) (r : Record) :
    ∃ b v, s.pendRecord r = { (s.wri BBX_LOST_COUNT 0 v) with bbx := b } ∨ s.pendRecord r = { s with bbx := b } := by
  unfold State.pendRecord
  dsimp only
  split_ifs
  · exact ⟨_, 0, .inr rfl⟩
  · exact ⟨_, 0, .inr rfl⟩
  · exact ⟨_, 0, .inr rfl⟩
  · exact ⟨_, _, .inl rfl⟩

theorem State.record_eq (s : State) (code source sev : Nat) (payload : List Nat) :
    ∃ b v, s.record code source sev payload = { (s.wri BBX_LOST_COUNT 0 v) with bbx := b } ∨ s.record code source sev payload = { s with bbx := b } := by
  unfold State.record
  obtain ⟨b, v, h⟩ := State.pendRecord_eq s (s.mkRecord code source sev payload)
  split_ifs
  · exact ⟨s.bbx, 0, .inr rfl⟩
  · exact ⟨b, v, h⟩
  · rcases h with h | h
    · exact ⟨_, v, .inl (by rw [h])⟩
    · exact ⟨_, 0, .inr (by rw [h])⟩
  · exact ⟨_, 0, .inr rfl⟩

section
variable (s : State) (code source sev : Nat) (payload : List Nat)

@[simp] theorem State.record_frame :
    (s.record code source sev payload).pending = s.pending ∧ (s.record code source sev payload).fresh = s.fresh ∧
    (s.record code source sev payload).evq = s.evq ∧ (s.record code source sev payload).mem = s.mem ∧
    (s.record code source sev payload).reply = s.reply ∧ (s.record code source sev payload).supTab = s.supTab ∧
    (s.record code source sev payload).fuseTrim = s.fuseTrim ∧ (s.record code source sev payload).dies = s.dies ∧
    (s.record code source sev payload).regions = s.regions ∧ (s.record code source sev payload).banks = s.banks ∧
    (s.record code source sev payload).eyes = s.eyes ∧ (s.record code source sev payload).express = s.express ∧
    (s.record code source sev payload).cores = s.cores ∧ (s.record code source sev payload).modes = s.modes ∧
    (s.record code source sev payload).clocks = s.clocks ∧ (s.record code source sev payload).gears = s.gears ∧
    (s.record code source sev payload).power = s.power ∧ (s.record code source sev payload).side = s.side ∧
    (s.record code source sev payload).secur = s.secur ∧ (s.record code source sev payload).hlt = s.hlt ∧
    (s.record code source sev payload).dbg = s.dbg ∧ (s.record code source sev payload).upd = s.upd ∧
    (s.record code source sev payload).asked = s.asked ∧ (s.record code source sev payload).welt = s.welt ∧
    (s.record code source sev payload).marks = s.marks ∧ (s.record code source sev payload).cob = s.cob ∧
    (s.record code source sev payload).chans = s.chans ∧ (s.record code source sev payload).pcie = s.pcie ∧
    (s.record code source sev payload).eth = s.eth ∧ (s.record code source sev payload).pins = s.pins ∧
    (s.record code source sev payload).cfg = s.cfg ∧ (s.record code source sev payload).shf = s.shf ∧
    (s.record code source sev payload).keyHash = s.keyHash ∧ (s.record code source sev payload).bundles = s.bundles ∧
    (s.record code source sev payload).qmasks = s.qmasks := by
  obtain ⟨b, v, h | h⟩ := State.record_eq s code source sev payload <;> rw [h] <;> and_intros <;> rfl

theorem State.record_rdi {g : Fld} {p : Nat} (h : g.key p ≠ BBX_LOST_COUNT.key 0) : (s.record code source sev payload).rdi g p = s.rdi g p := by
  obtain ⟨b, v, h' | h'⟩ := State.record_eq s code source sev payload <;> rw [h']
  · exact State.rdi_wri_ne s v h
  · rfl

theorem State.record_rd {g : Fld} (h : g.key 0 ≠ BBX_LOST_COUNT.key 0) : (s.record code source sev payload).rd g = s.rd g := State.record_rdi _ _ _ _ _ h

@[simp] theorem State.record_mode : (s.record code source sev payload).mode = s.mode := State.record_rd _ _ _ _ _ (by decide)

theorem State.record_regs_rising (h : Tab.Rising s.regs) : Tab.Rising (s.record code source sev payload).regs := by
  obtain ⟨b, v, h' | h'⟩ := State.record_eq s code source sev payload <;> rw [h']
  · exact State.wri_regs_rising h ..
  · exact h
end

/-! Modes -/

@[simp] theorem State.setMode_mode (s : State) (m : Nat) : (s.setMode m).mode = m % 8 := by
  unfold State.mode State.setMode
  rw [State.rd_wr_ne _ _ (by decide), State.rd_wr_same]; rfl

@[simp] theorem State.toMode_mode (s : State) (m c : Nat) : (s.toMode m c).mode = m % 8 := by
  unfold State.toMode; rw [State.record_mode, State.setMode_mode]

theorem State.wri_mode (s : State) {f : Fld} {o : Nat} (v : Nat) (h : GLB_MODE_MODE.key 0 ≠ f.key o) : (s.wri f o v).mode = s.mode := State.rdi_wri_ne s v h

@[simp] theorem State.endReq_mode (s : State) (st : Nat) : (s.endReq st).mode = s.mode := by
  show ((s.wr GLB_MODE_STATUS st).wr GLB_MODE_BUSY 0).rd GLB_MODE_MODE = _
  rw [State.rd_wr_ne _ _ (by decide), State.rd_wr_ne _ _ (by decide)]; rfl

/-- A request that ends shows its status, and BUSY clears. -/
theorem State.endReq_rd (s : State) (st : Nat) :
    (s.endReq st).rd GLB_MODE_STATUS = st % 2 ^ 16 ∧ (s.endReq st).rd GLB_MODE_BUSY = 0 ∧ (s.endReq st).modes.req = none := by
  refine ⟨?_, ?_, rfl⟩
  · show ((s.wr GLB_MODE_STATUS st).wr GLB_MODE_BUSY 0).rd GLB_MODE_STATUS = _
    rw [State.rd_wr_ne _ _ (by decide), State.rd_wr_same]; rfl
  · show ((s.wr GLB_MODE_STATUS st).wr GLB_MODE_BUSY 0).rd GLB_MODE_BUSY = _
    rw [State.rd_wr_same]; rfl

/-! Time -/

theorem State.serve_frame (s : State) (n : Nat) : (s.serve n).clocks = s.clocks ∧ (s.serve n).pending = s.pending ∧ (s.serve n).mem = s.mem := by
  unfold State.serve; split <;> and_intros <;> rfl

theorem State.pass_rdi (s : State) (n : Nat) {g : Fld} {p : Nat} (h : g.key p ≠ HLT_AVSEC_SEC.key 0) : (s.pass n).rdi g p = s.rdi g p := by
  unfold State.pass State.serve
  dsimp only
  split
  · exact State.rdi_wri_ne s _ h
  · rfl

/-- A step of time: the always-on elapsed time and the RTC advance by `n`, and the queue, memory and mode stay. -/
theorem State.pass_spec (s : State) (n : Nat) :
    (s.pass n).clocks.elapsed = s.clocks.elapsed + n ∧ (s.pass n).clocks.rtc = s.clocks.rtc + n ∧
      (s.pass n).clocks.tb = (if s.clocks.tbRun then (s.clocks.tb + n) % tbMod else s.clocks.tb) ∧
      (s.pass n).pending = s.pending ∧ (s.pass n).mem = s.mem ∧ (s.pass n).mode = s.mode := by
  have h : (s.pass n).mode = s.mode := State.pass_rdi s n (by decide)
  obtain ⟨hc, hp, hm⟩ := State.serve_frame s n
  refine ⟨?_, ?_, ?_, hp, hm, h⟩ <;> unfold State.pass <;> simp only [hc]

end Sys2Proof.Machine
end

