-- ==== Sys2Proof/Tests/Slice0.lean ====
section
/-! SUPPORT. The model's own tests: ill-formed commands that WellFormed refuses, single steps with results taken from the spec's rules and
worked examples, and for each statement of Obligations.lean that has hypotheses a state and operands that meet them, clause by clause. -/

namespace Sys2Proof.Machine

open Sys2Proof

set_option Elab.async false

/-- The state after reset in module mode `m`. -/
def inMode (m : Nat) : State := State.reset.wr GLB_MODE_MODE m

/-- Die `d` has its rails and has joined the package. -/
def State.dieOn (s : State) (d : Nat) : State := (s.modDie d fun x => { x with rails := true }).wri GLB_DIESTAT_STATE (4 * d) 1

/-- Die 0 joined, region 0 of it loaded, in mode `m`. -/
def withRegion (m : Nat) : State := ((inMode m).dieOn 0).wri FDC_RSTAT_LOADED (oReg 0 0) 1

/-- Region 0 of die 0 loaded in RUN with normal service. -/
def weltUp : State := (withRegion RUN).wr WLT_SVC_STATE 3

/-- A request of the user endpoint 0 of region 0 of die 0. -/
def reqTo (addr : Nat) (units : List WUnit) : Req := { addr, tag := 7, len := units.length, units }

/-- Core 0, on die 0 in gear 1, in RUN with registers `l`. -/
def coreOn (l : Tab Nat) : State :=
  ((weltUp.wri GEAR_DIE_GEAR 0 1).wri AWL_STAT_STATE (oAwl 0) awlRUN).modCore 0 fun k => { k with arch := { regs := l } }

/-- Core 0 fetches a word. -/
def fetched (w : BitVec 32) (w2 : BitVec 32 := 0) : Fetch := { core := 0, w, w2 }

/-- Normal service, with context words 0 to 3 of queue `q`. -/
def withQueue (q w0 w1 w2 w3 : Nat) : State :=
  (((weltUp.wrMem 8 (ctxAddr q 0) w0).wrMem 8 (ctxAddr q 1) w1).wrMem 8 (ctxAddr q 2) w2).wrMem 8 (ctxAddr q 3) w3

/-- Ethernet port 4 enabled with its link up, and rule 5 for it with action `act` and target `tgt`. -/
def ethUp (act tgt : Nat) : State :=
  (((((weltUp.wri ETH_PCTL_EN (oPort 4) 1).wri ETH_PSTAT_LINK (oPort 4) 1).wri ETH_RULEA_EN 80 1).wri ETH_RULEA_PMASK 80 0x10).wri ETH_RULEA_ACT 80 act).wri ETH_RULED_TGT 80 tgt

/-- As `ethUp`, with transmit queue 3 of port 4 class 7 holding one descriptor of a 60-byte frame. -/
def ethSend : State :=
  let s := ((ethUp 0 0).wri ETH_TXQ_EN 156 1).wri ETH_TXQ_Q 156 3
  let d := lastBase + 0x100000
  ((((s.wrMem 8 (ctxAddr 3 0) (2 ^ 55 + d)).wrMem 8 (ctxAddr 3 2) 1).wrMem 8 (ctxAddr 3 3) 0).wrMem 8 d (lastBase + 0x200000)).wrMem 8 (d + 8) 60

/-- Normal service with an administrative gate control list of one 1000 ns entry at the start of the Last store. -/
def gclAt0 : State := (weltUp.wrMem 8 (lastBase + 0x100008) (1000 + 2 ^ 32)).wrMem 8 (lastBase + 0x100010) (1000 + 255 * 2 ^ 24) |>.wr ETH_GCLADR_OFFSET 0x100000

/-- Pin `n` of bank `k`, an event input of minimum pulse `minp`, in the state `p`. -/
def pinOn (k n : Nat) (p : Pin) (edge minp : Nat := 1) : State :=
  ((((inMode RUN).wri GIO_PCFG_EVEN (oPin k n) 1).wri GIO_PCFG_EDGE (oPin k n) edge).wri GIO_PCFG_MINP (oPin k n) minp).modPin k n fun _ => p

/-- The supply is up with its hold-up test passing. -/
def supplied (m : Nat) : State := ((((inMode m).wr PWR_STAT_MAINS 1).wr PWR_STAT_MAIN 1).wr PWR_STAT_STBY 1).wr PWR_STAT_NVINH 0

/-- A signed-command block of operation `op` by `slot` with first argument byte `arg` stands at offset 0x200000 of the Last store. -/
def secBlock (m op slot arg : Nat) : State :=
  (((supplied m).wr SEC_CMDADR_OFFSET 0x8000).wrMem 8 (lastBase + 0x200000) (0x314D4353 + op * 2 ^ 32 + slot * 2 ^ 48)).wrMem 1 (lastBase + 0x200018) arg

/-- Core `c` running with its monitor enabled, and its comparator 3 set on address 64 with action `act` and data matched. -/
def monCore (c act : Nat) : State :=
  ((((((inMode RUN).wri DBG_CORECTL_MONEN (oDbg c) 1).wri AWL_STAT_STATE (oAwl c) awlRUN).wri DBG_CMPCTL_EN (oCmp c 3) 1).wri DBG_CMPCTL_KIND (oCmp c 3) 1).wri DBG_CMPADR_VALUE (oCmp c 3) 64).wri DBG_CMPCTL_ACT (oCmp c 3) act

/-- Welt monitor 15 matches everything of class 1 on die 12 with action `act`. -/
def wmOn (act : Nat) : State :=
  (((weltUp.wri DBG_WMCTL_EN 0x3C0 1).wri DBG_WMCTL_DIE 0x3C0 12).wri DBG_WMCTL_CLASSMASK 0x3C0 2).wri DBG_WMCTL_ACT 0x3C0 act

/-- A capture trigger waits for region 0 of die 0, which has the capture feature. -/
def trigArmed : State :=
  { ((((weltUp.wri FDC_CAPEN_FEAT (oDie 0) 1).wr DBG_CAPCFG_ARM 1).wr DBG_CAPCFG_DIEMASK 1).wr DBG_CAPMASK_MASK 1) with dbg := { trig := 1 } }

/-- Mode SHIFT with the changeover in state `st`, die 0 taking part. -/
def shfIn (st : Nat) : State := (((withRegion SHIFT).wr WLT_SVC_STATE 3).wr SHF_STAT_STATE st).wri SHF_DIEST_IN 0 1

/-! Ill-formed commands, one for each check of WellFormed -/

/-- A fetched word that is no instruction of any row but AWL_LONG_IMMEDIATE's. -/
def longFetch : Fetch := { core := 0, w := 0xC2502100 }

/-- A plain request of op `op`. -/
def plainReq (op : Nat) : Req := { op, tag := 7 }

theorem test_wf_request : Instr.wf (.rd (plainReq RD)) = true := by decide +kernel

theorem test_wf_startup : ([.safeAcknowledgment [192] [], .safeAcknowledgment [] [(160, 0, 0, 0)], .resetIsolationClamp 0 0 64 0, .resetIsolationRelease 0 0 64, .lastPllsLocked false [(0, 64, 0, 0)],
    .lastFirmwareBoot false false [(0, 0, 1, 0)], .probeDeadline [(0, 88)] [], .probeDeadline [] [192]].any Instr.wf) = false := by decide +kernel

theorem test_wf_configuration : ([.coldLoad { size := 2 ^ 32 }, .coldLoad { dies := [(12, {})] }, .coldLoad { frames := [(2 ^ 20, 0)] }, .coldLoad { regs := [(384, {})] }, .coldLoad { banks := [(24576, [])] },
    .coldLoad { banks := [(0, [(1024, 1)])] }, .coldLoad { keep := [2 ^ 64] }, .frameWriteReadback 12 256 true, .cfgRawWrite [491776] [], .cfgRawWrite [] [(384, {})],
    .cfgFlashWrite { id := 2 ^ 32 }, .shfStage { base := 2 ^ 32 }, .commitAtTc [(384, [])], .commitReportDeadline [(13, 0)], .rollbackAtTr [(384, [])] [], .rollbackAtTr [] [(0, 65536)],
    .updStage { comps := [(21, {})] } none].any Instr.wf) = false := by decide +kernel

theorem test_wf_fabric : ([.asyncSrAssert 0 0 65536, .bankPortAccess 0 0 0 { addr := 65536 } {} none none, .bankPortAccess 0 0 0 {} { din := 2 ^ 64 } none none, .forcedCycle 0 0 0 0 false { be := 256 } {},
    .bankScrubWake 0 0 0 [(1028, 1)], .bankScrubWake 0 0 0 [(0, 3)], .expressClockEdge 0 [230400]].any Instr.wf) = false := by decide +kernel

theorem test_wf_requests : ([.rd (plainReq WR), .wr (plainReq RD), .wrp (plainReq RD), .aadd (plainReq RD), .aswp (plainReq RD), .acas (plainReq RD), .lrd (plainReq RD), .ulwr (plainReq RD), .unl (plainReq RD),
    .msg (plainReq RD), .gwr (plainReq RD), .gmsg (plainReq RD), .rd { plainReq RD with src := 65536 }, .rd { plainReq RD with addr := 2 ^ 48 }, .rd { plainReq RD with tag := 4096 },
    .rd { plainReq RD with len := 1 }, .wr { plainReq WR with len := 1, units := [⟨0, 64, 0⟩] }, .rd { plainReq RD with blast := 64 }, .rd { plainReq RD with epoch := 2 },
    .bridgeRequest { plainReq RD with dst := 65536 }].any Instr.wf) = false := by decide +kernel

theorem test_wf_responses : ([.responseArrival ⟨65536, 0, 0, 0x20, 0, 0, 0, 0⟩ 0, .responseArrival ⟨0, 0, 0, 0x1F, 0, 0, 0, 0⟩ 0, .ldwDataArrival ⟨0, 0, 0, 0x20, 0, 0, 5, 0⟩ 0, .stwResponse ⟨0, 0, 4096, 0x21, 0, 0, 0, 0⟩ 0,
    .responseTimeout 0 4096, .lockTimeout 65536 0, .sinv 0 (2 ^ 42), .sack 0 (2 ^ 42), .weltBufferUe 0 64 0 0, .queDoorbell 65536 0 false 0 0, .queReserve 0 4096 0 0,
    .queCommit 65536 0 false 0 0 0, .queRelease 65536 0 false 0 0 0, .queClaim 65536 0 0 0].any Instr.wf) = false := by decide +kernel

theorem test_wf_awl : ([.awlAdd longFetch, .awlSub longFetch, .awlCmp longFetch, .awlAnd longFetch, .awlOr longFetch, .awlXor longFetch, .awlShl longFetch, .awlShr longFetch, .awlAsr longFetch, .awlNeg longFetch,
    .awlAbs longFetch, .awlSat longFetch, .awlRnd longFetch, .awlMpy longFetch, .awlMac longFetch, .awlMsu longFetch, .awlMpyUu longFetch, .awlMacUu longFetch, .awlMacSu longFetch,
    .awlParallelMove longFetch, .awlLdx longFetch, .awlLdy longFetch, .awlStx longFetch, .awlSty longFetch, .awlLdw longFetch, .awlStw longFetch, .awlMov longFetch, .awlMovToSysreg longFetch,
    .awlMovFromSysreg longFetch, .awlMovImm16 longFetch, .awlLongImmediate { longFetch with w := 0 }, .awlPmod longFetch, .awlPadd longFetch, .awlBr longFetch, .awlBrc longFetch,
    .awlCall longFetch, .awlRet longFetch, .awlRti longFetch, .awlLoop longFetch, .awlNop longFetch, .awlRot longFetch, .awlLock longFetch, .awlWait longFetch, .awlFence longFetch,
    .awlTrap longFetch, .awlDbg longFetch, .awlEi longFetch, .awlDi longFetch, .reservedEncoding longFetch].any Instr.wf) = false := by decide +kernel

theorem test_wf_memory : ([.dramZeroFill 0 (2 ^ 36 + 1), .dramTrack 0 [(20, 0, 0)] [], .drcTrackNow 0 [] [(160, 0, 0, 0)], .drcRetrainLane 0 10 [], .drcRetrainLane 0 0 [(160, 0, 0, 0)],
    .sweepRead 0 0 0 0 4 none].any Instr.wf) = false := by decide +kernel

theorem test_wf_ports : ([.flitReceive 0 { kind := 4 } 0 true 0 0 0 0, .sazorPatternTest 0 0 (List.replicate 9 0), .pcieLinkTraining 0 3 true true true true 0, .pcieMemoryWrite 0 0 [] 1, .ethFrameReceive 0 1 256 0 true,
    .wspFrameReceive (List.replicate 4097 0)].any Instr.wf) = false := by decide +kernel

theorem test_wf_power : ([.autoResume [192] [], .autoResume [] [(160, 0, 0, 0)], .supplyStart 65536, .coinCellMeasure 4096, .temperatureReading [(12, 0, 0)] 0].any Instr.wf) = false := by decide +kernel

theorem test_wf_registers : ([.weltMonitorMatch 0 0 0 { plainReq RD with cls := 4 }, .rpQueuePop .host 1, .rcCounterRead .host (2 ^ 28), .registerWrite .host 2 0].any Instr.wf) = false := by decide +kernel

/-! Single steps, with expected results from the spec's rules and worked examples -/

/-- What `f` reads in the next state that `o` gives. -/
def gives (o : Out) (f : State → Nat) : Option Nat :=
  match o with
  | .next t => some (f t)
  | _ => none

/-- No row of the table has bits: no word spells a command, and putting one in front changes nothing. -/
theorem test_decode_none : decodeTableWord 32 0x5004_0000 = none := rfl
theorem test_withFetchWord : State.reset.withFetchWord 32 7 = State.reset := rfl

/-- 00, 02, 04: register addresses of the text's examples. -/
theorem test_address_FDC_RSTAT : FDC_RSTAT_LOADED.adr + oReg 5 17 = 0x151_1100 := by decide
theorem test_address_BNK_CTL : BNK_CTL_PWRREQ.adr + oBnk 2 5 12 = 0x122_2980 := by decide
/-- 04: word 0x40 of bank 12 of region 5 of FD2. -/
theorem test_address_bank_word : bankAddr 2 5 12 0x40 = 0x0082_1029_8200 := by decide
/-- 08: the context of queue 300. -/
theorem test_address_context : ctxAddr 300 0 = 0x0040_0000_2580 := by decide

/-- 18, R456: REQ 1 in DORMANT is refused while the main output is out of regulation; the mode stays. -/
theorem test_mode_dormant : gives (exec .modeReqRun (inMode DORMANT)) State.mode = some DORMANT := by decide +kernel
/-- 18, R463: REQ 0 in HOLD goes to DORMANT. -/
theorem test_mode_to_dormant : gives (exec .modeReqDormant (inMode HOLD)) State.mode = some DORMANT := by decide +kernel

/-- 19, the mains dropout: with the bulk at 400 V, CAP 300 and 450 W, PWR_HOLDUP reads 0x2FD0_0100. -/
theorem test_holdup_example :
    gives (exec (.holdupTest { vbulk := 400, pout := 4500 }) ((supplied RUN).wr PWR_BULK_CAP 300)) (fun t => t.rd PWR_HOLDUP_EUSE * 65536 + t.rd PWR_HOLDUP_H) =
      some 0x2FD0_0100 := by decide +kernel

/-- 10, the FIR program's words. -/
theorem test_word_movFromSys : mnOf 0x5004_0000 = some .movFromSys := by decide
theorem test_word_long : mnOf 0xC250_2100 = some .long := by decide
theorem test_word_movToSys : mnOf 0x4E00_2000 = some .movToSys := by decide
theorem test_word_parallel : mnOf 0x2100_10A0 = some .parallel := by decide
theorem test_word_mpy : mnOf 0x2514_90A0 = some .mpy := by decide
theorem test_word_mac : mnOf 0x2914_8000 = some .mac := by decide
theorem test_word_loop : mnOf 0x940F_4001 = some .loop := by decide
theorem test_word_rnd : mnOf 0x0D40_0000 = some .rnd := by decide
theorem test_word_sty : mnOf 0x4601_4000 = some .sty := by decide

/-- 10: the first tap, 0x4000 by 0xE000 with FRAC, is −0x1000_0000. -/
theorem test_mpy_first_tap : awlProduct 0x9000 true true 0x4000 0xE000 = -0x1000_0000 := by decide
theorem test_awl_mpy_step :
    gives (exec (.awlMpy (fetched 0x2514_8000)) (coreOn [(kQ 2, 0x4000), (kQ 18, 0xE000), (kSR, 0x9000), (kPC, 0x1018)])) (fun t => (t.core 0).arch.get (kA 0)) =
      some (2 ^ 40 - 0x1000_0000) := by decide +kernel
/-- 10: RND of 0x00_3A5C_8000 under the three rounding modes. -/
theorem test_rnd_convergent : gives (exec (.awlRnd (fetched 0x0D40_0000)) (coreOn [(kA 0, 0x3A5C8000), (kSR, 0x9000), (kPC, 0x102C)])) (fun t => (t.core 0).arch.get 0 % 65536) =
    some 0x3A5C := by decide +kernel
theorem test_rnd_half_up : gives (exec (.awlRnd (fetched 0x0D40_0000)) (coreOn [(kA 0, 0x3A5C8000), (kSR, 0xB000), (kPC, 0x102C)])) (fun t => (t.core 0).arch.get 0 % 65536) =
    some 0x3A5D := by decide +kernel
/-- 10: LOOP 61, 0x1020 goes on at 0x1020. -/
theorem test_awl_loop_pc : gives (exec (.awlLoop (fetched 0x940F_4001)) (coreOn [(kPC, 0x101C)])) (fun t => (t.core 0).arch.pc) = some 0x1020 := by decide +kernel

/-- 08, two producers: a reservation of 2 and then of 3 at RESV 0x3FE, and one of 30 that is refused. -/
theorem test_queue_reserve : gives (exec (.queReserve 0 7 300 2) (withQueue 300 (0x19AA_0000_4000_0000) 0x0400_0011 0x000003FE_000003FE 0x000003FA_000003FA)) (fun t => qResv t 300) =
    some 0x400 := by decide +kernel
theorem test_queue_reserve_refused : gives (exec (.queReserve 0 7 300 30) (withQueue 300 (0x19AA_0000_4000_0000) 0x0400_0011 0x00000403_000003FE 0x000003FA_000003FA))
    (fun t => qResv t 300 * 65536 + bits (ctxWord t 300 1) 48 16) = some (0x403 * 65536 + 1) := by decide +kernel
/-- 08: the commit of 0x3FE, 2 after that of 0x400, 3 moves TAIL to 0x403. -/
theorem test_queue_commit_early : gives (exec (.queCommit 0 7 false 300 0x400 3) (withQueue 300 (0x19AA_0000_4000_0000) 0x0400_0011 0x00000403_000003FE 0x000003FA_000003FA)) (fun t => qPmask t 300) =
    some 0x1C := by decide +kernel
/-- 08: and at occupancy 9 with threshold 8 the queue is no longer armed. -/
theorem test_queue_notifies : gives (exec (.queCommit 0 7 false 300 0x3FE 2)
      { withQueue 300 (0x19AA_0000_4000_0000) 0x0400_0011 0x00000403_000003FE 0x000003FA_000003FA with qmasks := [(600, 0x1C)] }) (fun t => (qArmed t 300).toNat) =
    some 0 := by decide +kernel
theorem test_queue_commit_fills : gives (exec (.queCommit 0 7 false 300 0x3FE 2)
      { withQueue 300 (0x19AA_0000_4000_0000) 0x0400_0011 0x00000403_000003FE 0x000003FA_000003FA with qmasks := [(600, 0x1C)] }) (fun t => qTail t 300 * 65536 + qPmask t 300) =
    some (0x403 * 65536) := by decide +kernel

/-- 20, a host crash: SBP_CTRL then reads ARMED and LAPSED. -/
theorem test_heartbeat_lapse : gives (exec .heartbeatLapse { (inMode RUN).wr SBP_CTRL_ARMED 1 with side := { hbAt := some 0 } })
    (fun t => t.rd SBP_CTRL_ARMED + 2 * t.rd SBP_CTRL_LAPSED + 4 * t.rd SBP_CTRL_CONTROL) = some 3 := by decide +kernel

/-- 16, a photo-eye: a jammed input of pin 12 of bank 7 is masked, and GIO_STUCK[7] reads 0x0000_1000. -/
theorem test_stuck_input : gives (exec (.eventInputStuck 7 12) ((pinOn 7 12 { since := some 5, filt := true } 1 50).wri GIO_PCFG_STUCK (oPin 7 12) 20)) (fun t => t.rdi GIO_STUCK_MASK 28) =
    some 0x1000 := by decide +kernel

/-- 23: a die above 115 °C is state 3, one at 115 °C is not. -/
theorem test_temperature_116 : gives (exec (.temperatureReading [(4, 116, 13)] 40) (weltUp.dieOn 4)) (fun t => t.rdi HLT_TEMP_STATE 16) = some 3 := by decide +kernel
theorem test_temperature_115 : gives (exec (.temperatureReading [(4, 115, 13)] 40) (weltUp.dieOn 4)) (fun t => t.rdi HLT_TEMP_STATE 16) = some 0 := by decide +kernel

/-- 20, R534: the coin-cell window opens for 600 s. -/
theorem test_cell_window : gives (exec .cellServiceOpen (supplied RUN)) (fun t => t.rd SEC_BATSVC_REMAIN) = some 600 := by decide +kernel

/-- 06, R171: a write of the Last store is answered and lands. -/
theorem test_welt_write : gives (exec (.wr { reqTo 0x4000200040 [⟨0, 63, 0x1122334455667788⟩] with op := WR }) weltUp) (fun t => t.rdMem 8 0x4000200040) = some 0x1122334455667788 := by
  decide +kernel

/-- 01, R17: a register write reaches its fields and leaves read-only ones. -/
theorem test_register_write : gives (exec (.registerWrite .host 0x10 0x3F) (inMode RUN)) (fun t => t.rd GLB_SUPIDX_INDEX) = some 0x3F := by decide +kernel
theorem test_register_readonly : gives (exec (.registerWrite .host 0x0 0xFFFFFFFF) (inMode RUN)) (fun t => t.rd GLB_MODID_ISSUE) = some (State.reset.rd GLB_MODID_ISSUE) := by decide +kernel

/-! Every clause of the statements that has hypotheses has a state and operands that meet them -/


theorem witness_ModeRequests :
    (∃ s : State, s.mode ≠ DORMANT) ∧
    (∃ s : State, s.mode = DORMANT ∧ s.rd GLB_MODE_BUSY = 0 ∧ startAllowed s = true ∧ s.clocks.start = none) ∧
    (∃ s : State, s.mode = RUN ∧ s.rd GLB_MODE_BUSY = 0) ∧
    (∃ (s : State) (noclk : List Nat) (runs : List (Nat × Nat × Nat × Nat)), s.mode = SAFE ∧ s.rd GLB_MODE_BUSY = 0 ∧ ackCheck s = 0 ∧ s.modes.safeEyelets = [] ∧ (∀ c, c < 8 → drcState s c ≠ drcFAILED)) ∧
    (∃ (s : State) (noclk : List Nat) (runs : List (Nat × Nat × Nat × Nat)), s.mode = SAFE ∧ s.rd GLB_MODE_BUSY = 0 ∧ ackCheck s ≠ 0) ∧
    (∃ s : State, s.mode = HOLD ∧ s.rd GLB_MODE_BUSY = 0 ∧ runCheck s = 0) :=
  ⟨⟨inMode RUN, by decide +kernel⟩,
   ⟨State.reset.wr PWR_STAT_MAIN 1 |> fun s => s.wr PWR_STAT_NVINH 0, by decide +kernel, by decide +kernel, by decide +kernel, by decide +kernel⟩,
   ⟨inMode RUN, by decide +kernel, by decide +kernel⟩,
   ⟨(inMode SAFE).wr CLK_STAT_READY 1, [], [], by decide +kernel, by decide +kernel, by decide +kernel, by decide +kernel, by decide +kernel⟩,
   ⟨inMode SAFE, [], [], by decide +kernel, by decide +kernel, by decide +kernel⟩,
   ⟨inMode HOLD, by decide +kernel, by decide +kernel, by decide +kernel⟩⟩

theorem witness_RunStartsAndStops :
    (∃ s : State, s.mode = HOLD ∧ s.modes.lockWait = true ∧ (∀ p ∈ loadedRegions s, s.rdi FDC_TRIMST_TRIMLOCK (oReg p.1 p.2) = 1)) ∧
    (∃ (s : State) (n : Nat), s.mode = RUN ∧ s.modes.th = some n) ∧
    (∃ (s : State) (d : Fin 12) (r : Fin 32), (s.core (rix d r)).stopping = some true ∧ (s.core (rix d r)).lk = none ∧ (s.core (rix d r)).loads = [] ∧ (s.core (rix d r)).stq = []) :=
  ⟨⟨{ inMode HOLD with modes := { lockWait := true } }, by decide +kernel, by decide +kernel, by decide +kernel⟩,
   ⟨{ inMode RUN with modes := { th := some 5000 } }, 5000, by decide +kernel, by decide +kernel⟩,
   ⟨(inMode RUN).modCore (rix 1 2) fun k => { k with stopping := some true }, 1, 2, by decide +kernel, by decide +kernel, by decide +kernel, by decide +kernel⟩⟩

theorem witness_ClockStart :
    (∃ (s : State) (p : Nat × Nat), s.clocks.start = some p ∧ s.clocks.locking = false) ∧
    (∃ (s : State) (src n count : Nat), s.clocks.start = some (src, n) ∧ s.clocks.win = true ∧ s.mode = DORMANT ∧ winPasses src count = true) ∧
    (∃ (s : State) (src n count : Nat), s.clocks.start = some (src, n) ∧ s.clocks.win = true ∧ s.mode = DORMANT ∧ winPasses src count = false ∧ n < 15) ∧
    (∃ (s : State) (src n count : Nat), s.clocks.start = some (src, n) ∧ s.clocks.win = true ∧ s.mode = DORMANT ∧ winPasses src count = false ∧ 15 ≤ n ∧ s.cfg.pendLoad = none) ∧
    (∃ (s : State) (runs : List (Nat × Nat × Nat × Nat)), s.clocks.start ≠ none ∧ s.clocks.locking = true ∧ s.rd CLK_STAT_LOCK ≠ 0x3F ∧ s.clocks.fw = false) ∧
    (∃ (s : State) (runs : List (Nat × Nat × Nat × Nat)), s.clocks.start ≠ none ∧ s.clocks.locking = true ∧ s.rd CLK_STAT_LOCK ≠ 0x3F ∧ s.clocks.fw = true) ∧
    (∃ (s : State) (okA okB : Bool) (runs : List (Nat × Nat × Nat × Nat)), s.clocks.start ≠ none ∧ s.clocks.fw = false ∧ s.rd CLK_STAT_LOCK ≠ 0x3F ∧ (if s.upd.bank = 0 then okA else okB) = true) ∧
    (∃ (s : State) (runs : List (Nat × Nat × Nat × Nat)), s.clocks.start ≠ none ∧ s.clocks.fw = false ∧ s.cfg.pendLoad = none) ∧
    (∃ s : State, s.mode = DORMANT ∧ startAllowed s = true ∧ s.power.bootDue = true ∧ nvsGet s nvsAUTOBOOT ≠ 0 ∧ s.clocks.start = none) :=
  ⟨⟨{ State.reset with clocks := { start := some (1, 0) } }, (1, 0), by decide +kernel, by decide +kernel⟩,
   ⟨{ State.reset with clocks := { start := some (1, 3), win := true } }, 1, 3, 100688, by decide +kernel, by decide +kernel, by decide +kernel, by decide +kernel⟩,
   ⟨{ State.reset with clocks := { start := some (1, 14), win := true } }, 1, 14, 100687, by decide +kernel, by decide +kernel, by decide +kernel, by decide +kernel, by decide +kernel⟩,
   ⟨{ State.reset with clocks := { start := some (0, 15), win := true } }, 0, 15, 25183, by decide +kernel, by decide +kernel, by decide +kernel, by decide +kernel, by decide +kernel, by decide +kernel⟩,
   ⟨{ State.reset with clocks := { start := some (0, 0), locking := true } }, [], by decide +kernel, by decide +kernel, by decide +kernel, by decide +kernel⟩,
   ⟨{ State.reset with clocks := { start := some (0, 0), locking := true, fw := true } }, [], by decide +kernel, by decide +kernel, by decide +kernel, by decide +kernel⟩,
   ⟨{ State.reset with clocks := { start := some (0, 0) } }, true, false, [], by decide +kernel, by decide +kernel, by decide +kernel, by decide +kernel⟩,
   ⟨{ State.reset with clocks := { start := some (0, 0) } }, [], by decide +kernel, by decide +kernel, by decide +kernel⟩,
   ⟨{ (State.reset.wr PWR_STAT_MAIN 1).wr PWR_STAT_NVINH 0 with power := { bootDue := true }, side := { nvs := [(nvsAUTOBOOT, 1)] } }, by decide +kernel, by decide +kernel, by decide +kernel, by decide +kernel, by decide +kernel⟩⟩

theorem witness_ProbeJudgesEveryDie :
    (∃ (s : State) (d : Fin 12) (ident capw : BitVec 32), s.mode = LOAD ∧ s.dieUp d = true ∧ s.rdi GLB_DIESTAT_STATE (4 * d) = 0) ∧
    (∃ (s : State) (bad : List (Nat × Nat)) (noclk : List Nat), s.mode = LOAD ∧ s.rd GLB_PKG_PROTO = 0 ∧ s.cfg.pendLoad = none) ∧
    (∃ (s : State) (d : Nat), d < 12) :=
  ⟨⟨(inMode LOAD).modDie 11 fun x => { x with rails := true }, 11, 0x12340120, 5, by decide +kernel, by decide +kernel, by decide +kernel⟩,
   ⟨inMode LOAD, [], [], by decide +kernel, by decide +kernel, by decide +kernel⟩,
   ⟨inMode LOAD, 11, by decide +kernel⟩⟩

theorem witness_ClockFailuresAndTime :
    (∃ s : State, s.mode ≠ DORMANT ∧ s.clocks.refOk = true) ∧
    (∃ (s : State) (d : Fin 12) (n : Fin 10), s.mode ≠ DORMANT ∧ n.val < 6) ∧
    (∃ (s : State) (d : Fin 12) (n : Fin 10), s.mode ≠ DORMANT ∧ s.dieUp d = true) ∧
    (∃ (s : State) (d : Fin 12) (r : Fin 32) (k : Fin 4), s.mode ≠ DORMANT ∧ bit (s.rdi FDC_RSTAT_CLKRUN (oReg d r)) k = 1) ∧
    (∃ (s : State) (count : Nat), s.mode = SAFE ∧ s.rd CLK_STAT_READY ≠ 1 ∧ winPasses (s.rd CLK_NVS_REFSRC) count = true ∧ 3 ≤ s.clocks.passed) ∧
    (∃ (s : State) (noclk : List Nat) (runs : List (Nat × Nat × Nat × Nat)), mayResume s = true ∧ (s.modes.readySince.getD 0) + s.rd CLK_CTL_RESDLY * 1000000 ≤ s.clocks.elapsed ∧ ackCheck s = 0 ∧ s.modes.safeEyelets = [] ∧ (∀ c, c < 8 → drcState s c ≠ drcFAILED)) ∧
    (∃ s : State, s.rd CLK_CTL_RTCSYNC = 1 ∧ s.rd ETH_PTPSTAT_LOCKED = 1 ∧ s.clocks.tbRun = true) ∧
    (∃ s : State, s.mode ≠ DORMANT ∧ s.rd SEC_STAT_LC ≠ 4 ∧ s.rd CLK_TBCMD_BUSY = 0 ∧ timePending s = false ∧ s.rd ETH_PTPCTL_EN ≠ 1) ∧
    (∃ s : State, s.mode ≠ DORMANT ∧ s.rd SEC_STAT_LC ≠ 4 ∧ s.rd CLK_TBCMD_BUSY = 0 ∧ (timePending s = true ∨ s.rd ETH_PTPCTL_EN = 1)) ∧
    (∃ s : State, s.mode ≠ DORMANT ∧ s.rd SEC_STAT_LC ≠ 4 ∧ s.rd CLK_TBCMD_BUSY = 0) ∧
    (∃ s : State, s.mode ≠ DORMANT ∧ s.rd SEC_STAT_LC ≠ 4 ∧ s.rd CLK_TBCMD_BUSY = 0) :=
  ⟨⟨inMode RUN, by decide +kernel, by decide +kernel⟩,
   ⟨inMode RUN, 0, 5, by decide +kernel, by decide +kernel⟩,
   ⟨(inMode RUN).dieOn 11, 11, 9, by decide +kernel, by decide +kernel⟩,
   ⟨(withRegion RUN).wri FDC_RSTAT_CLKRUN (oReg 0 0) 8, 0, 0, 3, by decide +kernel, by decide +kernel⟩,
   ⟨{ (inMode SAFE).wr CLK_NVS_REFSRC 0 with clocks := { passed := 3 } }, 25172, by decide +kernel, by decide +kernel, by decide +kernel, by decide +kernel⟩,
   ⟨{ ((inMode SAFE).wr CLK_CTL_AUTORES 1).wr CLK_STAT_READY 1 |> fun s => s.wr CLK_CTL_AUTOMAX 1 with modes := { safeFrom := RUN }, clocks := { elapsed := 60000000000 } }, [], [], by decide +kernel, by decide +kernel, by decide +kernel, by decide +kernel, by decide +kernel⟩,
   ⟨{ (State.reset.wr CLK_CTL_RTCSYNC 1).wr ETH_PTPSTAT_LOCKED 1 with clocks := { tbRun := true, tb := 77 } }, by decide +kernel, by decide +kernel, by decide +kernel⟩,
   ⟨(inMode RUN).wr SEC_STAT_LC 2, by decide +kernel, by decide +kernel, by decide +kernel, by decide +kernel, by decide +kernel⟩,
   ⟨((inMode RUN).wr SEC_STAT_LC 2).wr ETH_PTPCTL_EN 1, by decide +kernel, by decide +kernel, by decide +kernel, by decide +kernel⟩,
   ⟨(inMode RUN).wr SEC_STAT_LC 2, by decide +kernel, by decide +kernel, by decide +kernel⟩,
   ⟨(inMode RUN).wr SEC_STAT_LC 2, by decide +kernel, by decide +kernel, by decide +kernel⟩⟩

theorem witness_GatesAndServiceChanges :
    (∃ (s : State) (kind : Fin 9) (d : Fin 16) (unit extra : Nat), kind.val ≠ 0 ∧ unit < 64 ∧ (kind.val, d.val, unit) ∉ s.modes.clamped ∧ crossReset s kind d unit = true) ∧
    (∃ (s : State) (kind : Fin 9) (d : Fin 16) (unit : Nat), crossReset s kind d unit = false ∧ s.modes.clamped.Nodup) ∧
    (∃ (s : State) (n : Nat), s.welt.svcTo = some n ∧ s.welt.out = []) ∧
    (∃ (s : State) (n : Nat), s.welt.svcTo = some n) :=
  ⟨⟨inMode RUN, 3, 0, 63, 0, by decide +kernel, by decide +kernel, by decide +kernel, by decide +kernel⟩,
   ⟨{ inMode RUN with modes := { clamped := [(2, 0, 0)] } }, 2, 0, 0, by decide +kernel, by decide +kernel⟩,
   ⟨{ inMode LOAD with welt := { svcTo := some 3 } }, 3, by decide +kernel, by decide +kernel⟩,
   ⟨{ inMode LOAD with welt := { svcTo := some 1, out := [⟨0, 0, 0, 0, 0⟩] } }, 1, by decide +kernel⟩⟩

theorem witness_GearChanges :
    (∃ (s : State) (g : Fin 12) (value : BitVec 32), groupDies s g ≠ [] ∧ value.toNat % 8 ≤ 4 ∧ s.rdi GEAR_STAT_GEAR (4 * g) < value.toNat % 8 ∧ 0 < s.rdi GEAR_STAT_GEAR (4 * g) ∧ value.toNat % 8 ≤ s.rdi GEAR_HLIM_LIMIT (4 * g) ∧ value.toNat % 8 ≤ codeLimit s ∧ value.toNat % 8 ≤ groupTiming s g ∧ s.rdi GEAR_STAT_PHASE (4 * g) = 0 ∧ swapDue s g = false ∧ s.rd PWR_STAT_MAINS ≠ 0 ∧ s.rd SHF_STAT_STATE = 0) ∧
    (∃ (s : State) (g : Fin 12), (s.gear g).step = 1) ∧
    (∃ (s : State) (g : Fin 12), (s.gear g).step = 2 ∧ groupLocked s g = true ∧ (s.gear g).later = none ∧ 0 < (s.gear g).to_ ∧ (s.gear g).to_ < 8) ∧
    (∃ (s : State) (g : Fin 12), (s.gear g).step = 4 ∧ (s.gear g).to_ < 8) ∧
    (∃ (s : State) (g : Fin 12), ((s.gear g).step = 1 ∨ (s.gear g).step = 5) ∧ (s.gear g).later = none) ∧
    (∃ (s : State) (d : Fin 12), s.dieUp d = true ∧ s.mode ≠ DORMANT ∧ (s.gear (s.rdi GEAR_DIE_GROUP (4 * d))).step ≠ 1 ∧ (s.gear (s.rdi GEAR_DIE_GROUP (4 * d))).step ≠ 5 ∧ (s.die d).railOk = true) :=
  ⟨⟨(((State.reset.wr PWR_STAT_MAINS 1).wri GEAR_STAT_GEAR 44 1).wri GEAR_HLIM_LIMIT 44 4).wri GEAR_DIE_GROUP 0 11 |> fun s => s.modDie 0 (fun x => { x with rails := true }), 11, 4, by decide +kernel, by decide +kernel, by decide +kernel, by decide +kernel, by decide +kernel, by decide +kernel, by decide +kernel, by decide +kernel, by decide +kernel, by decide +kernel, by decide +kernel⟩,
   ⟨(State.reset.dieOn 0).modGear 0 fun x => { x with step := 1, to_ := 3 }, 0, by decide +kernel⟩,
   ⟨{ (List.range 12).foldl (fun s d => (List.range 32).foldl (fun s r => s.wri FDC_TRIMST_TRIMLOCK (oReg d r) 1) s) State.reset with gears := [(0, { step := 2, from_ := 1, to_ := 4 })] }, 0, by decide +kernel, by decide +kernel, by decide +kernel, by decide +kernel, by decide +kernel⟩,
   ⟨{ State.reset with gears := [(3, { step := 4, from_ := 4, to_ := 7 })] }, 3, by decide +kernel, by decide +kernel⟩,
   ⟨{ State.reset with gears := [(3, { step := 5, from_ := 4, to_ := 2 })] }, 3, by decide +kernel, by decide +kernel⟩,
   ⟨(inMode RUN).dieOn 11, 11, by decide +kernel, by decide +kernel, by decide +kernel, by decide +kernel, by decide +kernel⟩⟩

theorem witness_TrimLoop :
    (∃ (s : State) (d : Fin 12) (r : Fin 32) (dev : Int), s.rdi FDC_TRIMST_ACTIVE (oReg d r) ≠ 0 ∧ s.rdi FDC_TRIM_FREEZE (oReg d r) ≠ 1 ∧ s.rdi FDC_TRIMST_TRIMWARN (oReg d r) = 1 ∧ (s.gear (s.rdi GEAR_DIE_GROUP (4 * d))).step ≠ 6 ∧ (s.region (rix d r)).trimLim < 7) ∧
    (∃ (s : State) (d : Fin 12) (r : Fin 32), s.mode ≠ DORMANT ∧ s.rdi FDC_TRIMST_ACTIVE (oReg d r) = 1 ∧ s.rdi FDC_TRIMST_TRIMLOCK (oReg d r) = 0 ∧ s.rdi FDC_TRIMST_TRIMFAULT (oReg d r) = 0) ∧
    (∃ (s : State) (d : Fin 12) (r : Fin 32) (v : BitVec 32), s.dieUp d = true ∧ s.mode = HOLD ∧ bit v.toNat 31 = 1) ∧
    (∃ (s : State) (d : Fin 12) (r : Fin 32) (v : BitVec 32), s.dieUp d = true ∧ s.mode ≠ HOLD ∧ bit v.toNat 31 = 1) :=
  ⟨⟨((State.reset.wri FDC_TRIMST_ACTIVE (oReg 0 0) 1).wri FDC_TRIMST_TRIMWARN (oReg 0 0) 1).modRegion (rix 0 0) (fun x => { x with trimIn := 3, trimLim := 6 }), 0, 0, 6, by decide +kernel, by decide +kernel, by decide +kernel, by decide +kernel, by decide +kernel⟩,
   ⟨(withRegion RUN).wri FDC_TRIMST_ACTIVE (oReg 0 0) 1, 0, 0, by decide +kernel, by decide +kernel, by decide +kernel, by decide +kernel⟩,
   ⟨(inMode HOLD).dieOn 11, 11, 31, 0x80680000, by decide +kernel, by decide +kernel, by decide +kernel⟩,
   ⟨(inMode RUN).dieOn 11, 11, 31, 0x80280000, by decide +kernel, by decide +kernel, by decide +kernel⟩⟩

theorem witness_FabricRegistersAndClocks :
    (∃ (s : State) (d : Fin 12) (r : Fin 32), s.dieUp d = true ∧ s.mode = HOLD) ∧
    (∃ (s : State) (d : Fin 12) (r : Fin 32), s.dieUp d = true ∧ s.mode ≠ HOLD) ∧
    (∃ (s : State) (d : Fin 12) (r : Fin 32) (cell : Nat), (tabGet {} (s.region (rix d r)).design.cells cell).srAsync = true) ∧
    (∃ (s : State) (d : Fin 12) (r : Fin 32), s.rdi FDC_RSTAT_CAPPEND (oReg d r) = 1) ∧
    (∃ (s : State) (d : Fin 12) (r : Fin 32), s.rdi FDC_RSTAT_CAPPEND (oReg d r) = 1 ∧ (s.region (rix d r)).latchValid = true) ∧
    (∃ (s : State) (d : Fin 12) (r : Fin 32) (k : Fin 4), s.clocksAllowed d r = true ∧ s.rdi FDC_RCLK_MODE (oClk d r k) = 2 ∧ s.rdi FDC_RCLK_WELT (oClk d r k) = 1 ∧ bit (s.rdi FDC_RSTAT_CLKRUN (oReg d r)) k = 0) ∧
    (∃ (s : State) (d : Fin 12) (r : Fin 32) (k : Fin 4) (wake : Bool), s.rdi FDC_RCLK_MODE (oClk d r k) = 2 ∧ s.rdi FDC_RCLK_IDLE (oClk d r k) ≠ 0 ∧ bit (s.rdi FDC_RSTAT_CLKRUN (oReg d r)) k = 1) ∧
    (∃ (s : State) (d : Fin 12) (r : Fin 32), (s.region (rix d r)).wakeTimerOn = true) ∧
    (∃ (s : State) (d : Fin 12) (r : Fin 32) (v : BitVec 32), s.dieUp d = true) ∧
    (∃ (s : State) (d : Fin 12) (r : Fin 32) (k : Fin 4) (v : BitVec 32), s.dieUp d = true) :=
  ⟨⟨(withRegion HOLD).modRegion 0 (fun x => { x with ff := [(3, 2)], design0 := { cells := [(5, { initA := true })] } }), 0, 0, by decide +kernel, by decide +kernel⟩,
   ⟨(inMode RUN).dieOn 0, 0, 0, by decide +kernel, by decide +kernel⟩,
   ⟨(withRegion RUN).modRegion 0 (fun x => { x with ff := [(5, 0)], design0 := { cells := [(5, { srAsync := true, srvalA := true })] } }), 0, 0, 5, by decide +kernel⟩,
   ⟨((withRegion RUN).wri FDC_RSTAT_CAPPEND (oReg 0 0) 1).modRegion 0 (fun x => { x with ff := [(5, 3)] }), 0, 0, by decide +kernel⟩,
   ⟨((withRegion RUN).wri FDC_RSTAT_CAPPEND (oReg 0 0) 1).modRegion 0 (fun x => { x with latchValid := true }), 0, 0, by decide +kernel, by decide +kernel⟩,
   ⟨(((withRegion RUN).wri FDC_RCLK_MODE (oClk 0 0 3) 2).wri FDC_RCLK_WELT (oClk 0 0 3) 1).wri GEAR_DIE_GEAR 0 1 |> fun s => s.modRegion 0 (fun x => { x with idle := [(3, 7)] }), 0, 0, 3, by decide +kernel, by decide +kernel, by decide +kernel, by decide +kernel⟩,
   ⟨(((withRegion RUN).wri FDC_RCLK_MODE (oClk 0 0 3) 2).wri FDC_RCLK_IDLE (oClk 0 0 3) 1).wri FDC_RSTAT_CLKRUN (oReg 0 0) 8, 0, 0, 3, false, by decide +kernel, by decide +kernel, by decide +kernel⟩,
   ⟨((withRegion RUN).wri FDC_RWTMR_PERIODIC (oReg 0 0) 1).modRegion 0 (fun x => { x with wakeTimerOn := true }), 0, 0, by decide +kernel⟩,
   ⟨(inMode RUN).dieOn 11, 11, 31, 0xFFFFFFFF, by decide +kernel⟩,
   ⟨(inMode RUN).dieOn 11, 11, 31, 3, 0xFFFFFFFF, by decide +kernel⟩⟩

theorem witness_BankAccesses :
    (∃ (s : State) (d : Fin 12) (r : Fin 32) (b : Fin 64) (p : PortIn) (word mask sh : Nat), bankClocked s d r b = true ∧ s.rdi BNK_STAT_PWR (oBnk d r b) = 0 ∧ (s.bank (bix d r b)).scrubWake = false ∧ (s.bank (bix d r b)).rmw = [] ∧ (s.bank (bix d r b)).waitA = false ∧ (s.bank (bix d r b)).remapReq = none ∧ [64, 32, 16, 8].contains (s.bank (bix d r b)).widthA = true ∧ p.en = true ∧ laneOf (s.bank (bix d r b)).widthA p.addr p.be = (word, mask, sh) ∧ wordMark s d r b word = 0) ∧
    (∃ (s : State) (d : Fin 12) (r : Fin 32) (b : Fin 64) (p : PortIn) (word mask sh : Nat), bankClocked s d r b = true ∧ s.rdi BNK_STAT_PWR (oBnk d r b) = 0 ∧ (s.bank (bix d r b)).scrubWake = false ∧ (s.bank (bix d r b)).rmw = [] ∧ (s.bank (bix d r b)).waitB = false ∧ (s.bank (bix d r b)).remapReq = none ∧ [64, 32, 16, 8].contains (s.bank (bix d r b)).widthB = true ∧ p.en = true ∧ laneOf (s.bank (bix d r b)).widthB p.addr p.be = (word, mask, sh) ∧ wordMark s d r b word = 0) ∧
    (∃ (s : State) (d : Fin 12) (r : Fin 32) (b : Fin 64) (x : Rmw), s.rdi BNK_STAT_PWR (oBnk d r b) = 0 ∧ (s.bank (bix d r b)).scrubWake = false ∧ (s.bank (bix d r b)).rmw = [x] ∧ x.port < 2 ∧ x.word < 1024 ∧ x.bad = false ∧ (s.bank (bix d r b)).remapReq = none) ∧
    (∃ (s : State) (d : Fin 12) (r : Fin 32) (b : Fin 64) (kind : Fin 3) (wr : Bool) (pa pb : PortIn), s.rdi BNK_STAT_PWR (oBnk d r b) = 0 ∧ (s.bank (bix d r b)).scrubWake = false ∧ (s.bank (bix d r b)).rmw = [] ∧ (s.bank (bix d r b)).waitA = true ∧ (s.bank (bix d r b)).waitB = true ∧ (kind.val = 0 → 4096 ≤ (s.bank (bix d r b)).cobWait.getD 0) ∧ (kind.val = 1 → ∃ x n, (s.bank (bix d r b)).remapReq = some (x, n) ∧ 4096 ≤ n) ∧ (kind.val = 2 → s.rdi FDC_BNKARB_WFORCE (oReg d r) ≠ 0 ∧ 64 * s.rdi FDC_BNKARB_WFORCE (oReg d r) ≤ (s.bank (bix d r b)).weltWait.getD 0)) :=
  ⟨⟨(withRegion RUN).wri FDC_RSTAT_CLKRUN (oReg 0 0) 1, 0, 0, 63, { en := true, addr := 1023, din := 0x1122334455667788 }, 1023, 255, 0, by decide +kernel, by decide +kernel, by decide +kernel, by decide +kernel, by decide +kernel, by decide +kernel, by decide +kernel, by decide +kernel, by decide +kernel, by decide +kernel⟩,
   ⟨(((withRegion RUN).wri FDC_RSTAT_CLKRUN (oReg 0 0) 1).wrMem 8 (bankAddr 0 0 63 5) 0x7755).modBank (bix 0 0 63) (fun x => { x with widthB := 32 }), 0, 0, 63, { en := true, addr := 11 }, 5, 240, 32, by decide +kernel, by decide +kernel, by decide +kernel, by decide +kernel, by decide +kernel, by decide +kernel, by decide +kernel, by decide +kernel, by decide +kernel, by decide +kernel⟩,
   ⟨(withRegion RUN).modBank (bix 0 0 63) (fun x => { x with rmw := [⟨1, 1023, 0x81, 0xAA000000000000BB, false⟩] }), 0, 0, 63, ⟨1, 1023, 0x81, 0xAA000000000000BB, false⟩, by decide +kernel, by decide +kernel, by decide +kernel, by decide +kernel, by decide +kernel, by decide +kernel, by decide +kernel⟩,
   ⟨(withRegion RUN).modBank (bix 0 0 63) (fun x => { x with waitA := true, waitB := true, cobWait := some 4096 }), 0, 0, 63, 0, false, {}, {}, by decide +kernel, by decide +kernel, by decide +kernel, by decide +kernel, by decide +kernel, by decide +kernel, fun h => absurd h (by decide), by decide +kernel⟩⟩

theorem witness_BankRemaps :
    (∃ (s : State) (d : Fin 12) (r : Fin 32) (b : Fin 64) (addr : Fin 1024) (sp : Nat), s.dieUp d = true ∧ s.rdi BNK_REMAPCMD_BUSY (oBnk d r b) ≠ 1 ∧ sp < 4 ∧ bit (s.rdi BNK_STAT_SPFAIL (oBnk d r b)) sp = 0 ∧ (∀ e, e < 4 → s.rdi BNK_REMAP_VALID (oBnk d r b + 4 * e) = 0)) ∧
    (∃ (s : State) (d : Fin 12) (r : Fin 32) (b : Fin 64) (addr : Fin 1024), s.dieUp d = true ∧ s.rdi BNK_REMAPCMD_BUSY (oBnk d r b) ≠ 1 ∧ (∀ sp, sp < 4 → bit (s.rdi BNK_STAT_SPFAIL (oBnk d r b)) sp = 1)) ∧
    (∃ (s : State) (d : Fin 12) (r : Fin 32) (b : Fin 64) (x n sp : Nat), (s.bank (bix d r b)).remapReq = some (x, n) ∧ x < 1024 ∧ sp < 4 ∧ bit (s.rdi BNK_STAT_SPFAIL (oBnk d r b)) sp = 0 ∧ (∀ e, e < 4 → s.rdi BNK_REMAP_VALID (oBnk d r b + 4 * e) = 0) ∧ wordMark s d r b x ≠ 2) :=
  ⟨⟨((inMode RUN).dieOn 11).wri BNK_STAT_SPFAIL (oBnk 11 31 63) 7, 11, 31, 63, 1023, 3, by decide +kernel, by decide +kernel, by decide +kernel, by decide +kernel, by decide +kernel⟩,
   ⟨((inMode RUN).dieOn 11).wri BNK_STAT_SPFAIL (oBnk 11 31 63) 15, 11, 31, 63, 1023, by decide +kernel, by decide +kernel, by decide +kernel⟩,
   ⟨(withRegion RUN).modBank (bix 0 0 63) (fun x => { x with remapReq := some (1023, 2), marks := [(1023, 1)] }), 0, 0, 63, 1023, 2, 0, by decide +kernel, by decide +kernel, by decide +kernel, by decide +kernel, by decide +kernel, by decide +kernel⟩⟩

theorem witness_MemoryPower :
    (∃ (s : State) (d : Fin 12) (r : Fin 32) (b : Fin 64) (ctl : BitVec 32) (ps : Bool), s.dieUp d = true ∧ (s.bank (bix d r b)).scrubWake = false) ∧
    (∃ (s : State) (d : Fin 12) (r : Fin 32) (b : Fin 64), s.rdi BNK_STAT_PWR (oBnk d r b) = 1) ∧
    (∃ (s : State) (d : Fin 12) (r : Fin 32) (b : Fin 64), s.rdi BNK_STAT_PWR (oBnk d r b) = 3) ∧
    (∃ (s : State) (d : Fin 12) (r : Fin 32) (b : Fin 64) (errs : List (Nat × Nat)), s.rdi FDC_RSTAT_LOADED (oReg d r) ≠ 0 ∧ bit (s.rd COB_CTL_EN) 1 ≠ 0 ∧ s.rdi BNK_STAT_PWR (oBnk d r b) = 2) ∧
    (∃ (s : State) (d : Fin 12) (r : Fin 32) (v : BitVec 32), s.dieUp d = true) ∧
    (∃ (s : State) (d : Fin 12) (r : Fin 32) (y : Bool), s.rdi (awlMemState y) (oReg d r) = 3) ∧
    (∃ (s : State) (g : Fin 64) (v : BitVec 32), (bits v.toNat 0 2 = 1 ∨ bits v.toNat 0 2 = 2) ∧ segInUse s g = true) ∧
    (∃ (s : State) (g : Fin 64) (v : BitVec 32), segInUse s g = false ∧ s.rdi PWR_LSSEG_STATE (4 * g) = 0) ∧
    (∃ (s : State) (v : BitVec 32), s.rd PWR_VAULT_STATE = 0) ∧
    (∃ (s : State) (u : Fin 65), unitState s u = 3) ∧
    (∃ (s : State) (d : Fin 12) (n : Nat), (s.die d).wiping = some n ∧ s.clocks.elapsed ≤ n + 5000) :=
  ⟨⟨(withRegion RUN), 0, 0, 63, 2, true, by decide +kernel, by decide +kernel⟩,
   ⟨(withRegion RUN).wri BNK_STAT_PWR (oBnk 0 0 63) 1, 0, 0, 63, by decide +kernel⟩,
   ⟨(withRegion RUN).wri BNK_STAT_PWR (oBnk 0 0 63) 3, 0, 0, 63, by decide +kernel⟩,
   ⟨((withRegion RUN).wr COB_CTL_EN 2).wri BNK_STAT_PWR (oBnk 0 0 63) 2, 0, 0, 63, [], by decide +kernel, by decide +kernel, by decide +kernel⟩,
   ⟨withRegion RUN, 0, 0, 3, by decide +kernel⟩,
   ⟨(withRegion RUN).wri FDC_AWLMEM_YSTATE (oReg 0 0) 3, 0, 0, true, by decide +kernel⟩,
   ⟨((inMode RUN).wri PWR_LSSEG_STATE 12 0).wrMem 8 (ctxAddr 5 0) (2 ^ 55), 3, 1, by decide +kernel, by decide +kernel⟩,
   ⟨inMode RUN, 63, 1, by decide +kernel, by decide +kernel⟩,
   ⟨inMode RUN, 2, by decide +kernel⟩,
   ⟨(inMode RUN).wri PWR_LSSEG_STATE (4 * 63) 3, 63, by decide +kernel⟩,
   ⟨(State.reset.dieOn 11).modDie 11 (fun x => { x with wiping := some 0 }), 11, 0, by decide +kernel, by decide +kernel⟩⟩

theorem witness_ColdLoad :
    (∃ (s : State) (img i : Image), MayGo s CFG_CMD_BUSY ∧ s.mode = LOAD ∧ s.rd GLB_PKG_PROTO ≠ 0 ∧ s.rd CFG_ARG0_VALUE ≤ 12 ∧ channelFailed s = false ∧ sourceImage s (s.rd CFG_ARG0_VALUE) img = some i ∧ headCheck s i = none ∧ dieCheck s i = none ∧ i.dramTop ≤ dramBytes s ∧ i.delta = false ∧ eyeCheck s i = none ∧ manifestRule s i = none) ∧
    (∃ (s : State) (img : Image), MayGo s CFG_CMD_BUSY ∧ (s.mode = HOLD ∨ s.mode = RUN ∨ s.mode = SHIFT)) ∧
    (∃ (s : State) (l : Load), s.cfg.load = some l ∧ s.rd CFG_STAT_PHASE = 2 ∧ chunkCheck l.img l.chunks = none ∧ l.chunks + 1 < l.img.nchunk) ∧
    (∃ (s : State) (l : Load) (r : Nat × Nat × Nat × Nat), s.cfg.load = some l ∧ s.rd CFG_STAT_PHASE = 2 ∧ l.auto = false ∧ chunkCheck l.img l.chunks = some r) ∧
    (∃ (s : State) (l : Load) (d : Fin 13) (n : Nat), s.cfg.load = some l ∧ s.rd CFG_STAT_PHASE = 3 ∧ (loadPorts l.img).contains d.val = true ∧ (∃ e, e ∈ loadPorts l.img ∧ e ≠ d.val ∧ tabGet 0 l.next e ≠ portFrames e)) ∧
    (∃ (s : State) (l : Load) (d : Fin 13) (n : Nat), s.cfg.load = some l ∧ s.rd CFG_STAT_PHASE = 3 ∧ (loadPorts l.img).contains d.val = true ∧ s.mode ≠ DORMANT) ∧
    (∃ (s : State) (l : Load), s.cfg.load = some l ∧ s.rd CFG_STAT_PHASE = 4 ∧ s.welt.after = none ∧ (∀ g, g < 12 → s.rdi GEAR_STAT_PHASE (4 * g) = 0)) ∧
    (∃ (s : State) (l : Load), s.cfg.load = some l ∧ (s.rd CFG_STAT_PHASE = 1 ∨ s.rd CFG_STAT_PHASE = 2)) ∧
    (∃ (s : State) (l : Load), s.cfg.load = some l ∧ s.rd CFG_STAT_PHASE ≠ 1 ∧ s.rd CFG_STAT_PHASE ≠ 2) ∧
    (∃ s : State, s.cfg.load = none ∧ s.cfg.pendLoad = none) :=
  ⟨⟨((((inMode LOAD).dieOn 0).wr GLB_PKG_PROTO 2).wr DRC_GEOM_SIZE 1).wr CFG_ARG0_VALUE 0, { size := 4096, dies := [(0, { use := true, regions := 1 })], nchunk := 2, dramLo := 0, dramTop := 0x100000 }, { size := 4096, dies := [(0, { use := true, regions := 1 })], nchunk := 2, dramLo := 0, dramTop := 0x100000 }, by unfold MayGo; decide +kernel, by decide +kernel, by decide +kernel, by decide +kernel, by decide +kernel, by decide +kernel, by decide +kernel, by decide +kernel, by decide +kernel, by decide +kernel, by decide +kernel, by decide +kernel⟩,
   ⟨inMode SHIFT, {}, by unfold MayGo; decide +kernel, by decide +kernel⟩,
   ⟨{ (inMode LOAD).wr CFG_STAT_PHASE 2 with cfg := { load := some { img := { nchunk := 5 }, chunks := 3 } } }, { img := { nchunk := 5 }, chunks := 3 }, by decide +kernel, by decide +kernel, by decide +kernel, by decide +kernel⟩,
   ⟨{ (inMode LOAD).wr CFG_STAT_PHASE 2 with cfg := { load := some { img := { nchunk := 5, chunkBad := [⟨3, ST_INT_SIG, 7, 2, 9⟩] }, chunks := 3 } } }, { img := { nchunk := 5, chunkBad := [⟨3, ST_INT_SIG, 7, 2, 9⟩] }, chunks := 3 }, (ST_INT_SIG, 7, 2, 9), by decide +kernel, by decide +kernel, by decide +kernel, by decide +kernel⟩,
   ⟨{ (inMode LOAD).wr CFG_STAT_PHASE 3 with cfg := { load := some { img := { dies := [(0, { use := true })] }, chunks := 3 } } }, { img := { dies := [(0, { use := true })] }, chunks := 3 }, 12, 255, by decide +kernel, by decide +kernel, by decide +kernel, by decide +kernel⟩,
   ⟨{ (inMode LOAD).wr CFG_STAT_PHASE 3 with cfg := { load := some { img := { dies := [(0, { use := true })] }, chunks := 3 } } }, { img := { dies := [(0, { use := true })] }, chunks := 3 }, 0, 0, by decide +kernel, by decide +kernel, by decide +kernel, by decide +kernel⟩,
   ⟨{ (inMode LOAD).wr CFG_STAT_PHASE 4 with cfg := { load := some {} } }, {}, by decide +kernel, by decide +kernel, by decide +kernel, by decide +kernel⟩,
   ⟨{ (inMode LOAD).wr CFG_STAT_PHASE 1 with cfg := { load := some {} } }, {}, by decide +kernel, by decide +kernel⟩,
   ⟨{ (inMode LOAD).wr CFG_STAT_PHASE 3 with cfg := { load := some {} } }, {}, by decide +kernel, by decide +kernel, by decide +kernel⟩,
   ⟨inMode LOAD, by decide +kernel, by decide +kernel⟩⟩

theorem witness_FrameCommands :
    (∃ s : State, MayGo s CFG_CMD_BUSY ∧ s.mode ≠ DORMANT ∧ s.rd CFG_ARG0_VALUE ≠ 0 ∧ s.rd CFG_ARG0_VALUE < 4 ∧ s.rd CFG_ARG1_VALUE < 2 ^ 13 ∧ (∀ d r, verifyBad s d r = [])) ∧
    (∃ (s : State) (d f : Nat), MayGo s CFG_CMD_BUSY ∧ s.mode ≠ DORMANT ∧ s.rd CFG_ARG0_VALUE = 1 ∧ s.rd CFG_ARG1_VALUE = 2 ^ d ∧ d < 13 ∧ f < 2 ^ 19 ∧ f ∈ verifyBad s d 0 ∧ (∀ g, g ∈ verifyBad s d 0 → f ≤ g)) ∧
    (∃ s : State, MayGo s CFG_CMD_BUSY ∧ s.mode ≠ DORMANT ∧ (s.rd CFG_ARG0_VALUE = 0 ∨ 4 ≤ s.rd CFG_ARG0_VALUE ∨ 2 ^ 13 ≤ s.rd CFG_ARG1_VALUE)) ∧
    (∃ (s : State) (first count role dst : Nat), MayGo s CFG_CMD_BUSY ∧ HOLD ≤ s.mode ∧ s.rd CFG_ARG0_VALUE = role ∧ role < 2 ∧ bits (s.rd CFG_ARG1_VALUE) 0 19 = first ∧ bits (s.rd CFG_ARG1_VALUE) 19 13 + 1 = count ∧ first + count ≤ 524288 ∧ s.rd CFG_ARG2_VALUE + s.rd CFG_ARG3_VALUE % 2 ^ 16 * 2 ^ 32 = dst ∧ cfgDest s dst (2064 * count) = true ∧ (∀ k, k < count → frameNorb s (first + k) (planeOf s (first + k) role) = false ∧ frameMark s (first + k) (planeOf s (first + k) role) = 0) ∧ (∀ c, c < 8 → (s.chan c).wq = [])) ∧
    (∃ s : State, MayGo s CFG_CMD_BUSY ∧ s.mode < HOLD) ∧
    (∃ (s : State) (bad : List Nat) (first count src : Nat), MayGo s CFG_CMD_BUSY ∧ s.mode = HOLD ∧ s.rd SEC_STAT_LC = 1 ∧ s.rd CFG_ARG0_VALUE = first ∧ s.rd CFG_ARG1_VALUE = count ∧ count ≠ 0 ∧ count ≤ 40960 ∧ first + count ≤ 524288 ∧ s.rd CFG_ARG2_VALUE + s.rd CFG_ARG3_VALUE % 2 ^ 16 * 2 ^ 32 = src ∧ cfgDest s src (2048 * count) = true ∧ s.PlanesOk) ∧
    (∃ (s : State) (bad : List Nat) (regs : Tab RegCfg), MayGo s CFG_CMD_BUSY ∧ s.mode ≠ HOLD) :=
  ⟨⟨((inMode HOLD).wr CFG_ARG0_VALUE 3).wr CFG_ARG1_VALUE 0x1FFF, by unfold MayGo; decide +kernel, by decide +kernel, by decide +kernel, by decide +kernel, by decide +kernel, fun _ _ => rfl⟩,
   ⟨{ ((inMode HOLD).wr CFG_ARG0_VALUE 1).wr CFG_ARG1_VALUE 2 with cfg := { marks := [(2 * 40961, 3)], fst := [(2 * 40961, 2)] } }, 1, 40961, by unfold MayGo; decide +kernel, by decide +kernel, by decide +kernel, by decide +kernel, by decide +kernel, by decide +kernel, by decide +kernel, by decide +kernel⟩,
   ⟨((inMode HOLD).wr CFG_ARG0_VALUE 4).wr CFG_ARG1_VALUE 0, by unfold MayGo; decide +kernel, by decide +kernel, by decide +kernel⟩,
   ⟨{ (((inMode HOLD).wr DRC_GEOM_SIZE 1).wr CFG_ARG0_VALUE 1).wr CFG_ARG1_VALUE 0x0008A001 with cfg := { data := [(3, 0x1234)] } }, 0xA001, 2, 1, 0, by unfold MayGo; decide +kernel, by decide +kernel, by decide +kernel, by decide +kernel, by decide +kernel, by decide +kernel, by decide +kernel, by decide +kernel, by decide +kernel, by decide +kernel, by decide +kernel⟩,
   ⟨inMode LOAD, by unfold MayGo; decide +kernel, by decide +kernel⟩,
   ⟨((((((inMode HOLD).dieOn 0).wr DRC_GEOM_SIZE 1).wr CFG_ARG0_VALUE 1).wr CFG_ARG1_VALUE 2).wr SEC_STAT_LC 1).wr CFG_ARG2_VALUE 0x1000 |> fun s => s.wrMem 8 0x1800 77, [], 1, 2, 0x1000, by unfold MayGo; decide +kernel, by decide +kernel, by decide +kernel, by decide +kernel, by decide +kernel, by decide +kernel, by decide +kernel, by decide +kernel, by decide +kernel, by decide +kernel, fun u => by unfold activeOf; split <;> exact Nat.two_pos⟩,
   ⟨inMode RUN, [], [], by unfold MayGo; decide +kernel, by decide +kernel⟩⟩

theorem witness_Captures :
    (∃ s : State, s.rd CFG_CAPCMD_BUSY ≠ 1 ∧ capRefusal (s.rd CFG_CAPCMD_DIEMASK) (s.rd CFG_CAPMASK_MASK) s = 0) ∧
    (∃ s : State, s.rd CFG_CAPCMD_BUSY ≠ 1 ∧ capRefusal (s.rd CFG_CAPCMD_DIEMASK) (s.rd CFG_CAPMASK_MASK) s ≠ 0) ∧
    (∃ (s : State) (d r dst : Nat), MayGo s CFG_CMD_BUSY ∧ s.rd CFG_ARG0_VALUE = d ∧ s.rd CFG_ARG1_VALUE = r ∧ d < 12 ∧ r < 32 ∧ s.rd CFG_ARG2_VALUE + s.rd CFG_ARG3_VALUE % 2 ^ 16 * 2 ^ 32 = dst ∧ cfgDest s dst (11 * 2048) = true ∧ s.rdi FDC_RSTAT_CAPDONE (oReg d r) ≠ 0 ∧ (unitSt s (unitReg d r) (activeOf s (unitReg d r))).norb = false ∧ (∀ c, c < 8 → (s.chan c).wq = [])) ∧
    (∃ (s : State) (d r : Nat), MayGo s CFG_CMD_BUSY ∧ s.rd CFG_ARG0_VALUE = d ∧ s.rd CFG_ARG1_VALUE = r ∧ d < 12 ∧ r < 32 ∧ cfgDest s (s.rd CFG_ARG2_VALUE + s.rd CFG_ARG3_VALUE % 2 ^ 16 * 2 ^ 32) (11 * 2048) = true ∧ s.rdi FDC_RSTAT_CAPDONE (oReg d r) = 0) :=
  ⟨⟨((((inMode HOLD).dieOn 0).wri FDC_RSTAT_LOADED 0 1).wri FDC_CAPEN_FEAT 0 1).wr CFG_CAPMASK_MASK 1 |> fun s => s.wr CFG_CAPCMD_DIEMASK 1, by decide +kernel, by decide +kernel⟩,
   ⟨(((inMode HOLD).dieOn 0).wr CFG_CAPMASK_MASK 0x80000000).wr CFG_CAPCMD_DIEMASK 0x800, by decide +kernel, by decide +kernel⟩,
   ⟨((((inMode HOLD).dieOn 11).wri FDC_RSTAT_CAPDONE (oReg 11 31) 1).wr DRC_GEOM_SIZE 1).wr CFG_ARG0_VALUE 11 |> fun s => s.wr CFG_ARG1_VALUE 31, 11, 31, 0, by unfold MayGo; decide +kernel, by decide +kernel, by decide +kernel, by decide +kernel, by decide +kernel, by decide +kernel, by decide +kernel, by decide +kernel, by decide +kernel, by decide +kernel⟩,
   ⟨((((inMode HOLD).dieOn 11).wr DRC_GEOM_SIZE 1).wr CFG_ARG0_VALUE 11).wr CFG_ARG1_VALUE 31, 11, 31, by unfold MayGo; decide +kernel, by decide +kernel, by decide +kernel, by decide +kernel, by decide +kernel, by decide +kernel, by decide +kernel⟩⟩

theorem witness_ManagedFlash :
    (∃ (s : State) (img : Image) (n : Nat), MayGo s CFG_CMD_BUSY ∧ s.mode ≠ DORMANT ∧ s.rd CFG_ARG0_VALUE = n ∧ 0 < n ∧ n ≤ 12 ∧ s.rd PWR_STAT_NVINH = 0 ∧ s.rd PWR_STAT_MAINS ≠ 0 ∧ headCheck s img = none) ∧
    (∃ (s : State) (img : Image) (n : Nat), MayGo s CFG_CMD_BUSY ∧ s.mode ≠ DORMANT ∧ s.rd CFG_ARG0_VALUE = n ∧ 0 < n ∧ n ≤ 12 ∧ (s.rd PWR_STAT_NVINH = 1 ∨ s.rd PWR_STAT_MAINS = 0)) ∧
    (∃ (s : State) (n : Nat), MayGo s CFG_CMD_BUSY ∧ s.mode ≠ DORMANT ∧ s.rd CFG_ARG0_VALUE = n ∧ 0 < n ∧ n ≤ 12 ∧ s.rd PWR_STAT_NVINH ≠ 1 ∧ bit (s.rd CFG_ARG1_VALUE) 2 = 1) ∧
    (∃ (s : State) (n : Nat), MayGo s CFG_CMD_BUSY ∧ s.mode ≠ DORMANT ∧ s.rd CFG_ARG0_VALUE = n ∧ 0 < n ∧ n ≤ 12 ∧ s.rd PWR_STAT_NVINH ≠ 1 ∧ bit (s.rd CFG_ARG1_VALUE) 2 ≠ 1 ∧ tabGet none s.cfg.flash n = none) ∧
    (∃ (s : State) (v : BitVec 32), s.rd CFG_CMD_BUSY ≠ 1 ∧ s.rd64 CFG_SIMGL_ID CFG_SIMGH_ID = 0 ∧ v.toNat % 256 + s.rd CFG_STGSIZE_SIZE ≤ dramBytes s / 2 ^ 30 ∧ v.toNat % 256 < dramBytes s / 2 ^ 30 ∧ stagingHits (v.toNat % 256 * 2 ^ 30) ((v.toNat % 256 + s.rd CFG_STGSIZE_SIZE) * 2 ^ 30) s = false) ∧
    (∃ (s : State) (size : Bool) (v : BitVec 32), s.rd CFG_CMD_BUSY = 1) :=
  ⟨⟨((inMode HOLD).wr CFG_ARG0_VALUE 12).wr PWR_STAT_MAINS 1 |> fun s => s.wr PWR_STAT_NVINH 0, { id := 5 }, 12, by unfold MayGo; decide +kernel, by decide +kernel, by decide +kernel, by decide +kernel, by decide +kernel, by decide +kernel, by decide +kernel, by decide +kernel⟩,
   ⟨((inMode HOLD).wr CFG_ARG0_VALUE 1).wr PWR_STAT_MAINS 0, {}, 1, by unfold MayGo; decide +kernel, by decide +kernel, by decide +kernel, by decide +kernel, by decide +kernel, by decide +kernel⟩,
   ⟨{ (((inMode HOLD).wr CFG_ARG0_VALUE 12).wr CFG_ARG1_VALUE 4).wr PWR_STAT_NVINH 0 with cfg := { flash := [(12, some {})] } }, 12, by unfold MayGo; decide +kernel, by decide +kernel, by decide +kernel, by decide +kernel, by decide +kernel, by decide +kernel, by decide +kernel⟩,
   ⟨((inMode HOLD).wr CFG_ARG0_VALUE 1).wr PWR_STAT_NVINH 0, 1, by unfold MayGo; decide +kernel, by decide +kernel, by decide +kernel, by decide +kernel, by decide +kernel, by decide +kernel, by decide +kernel, by decide +kernel⟩,
   ⟨((inMode HOLD).wr DRC_GEOM_SIZE 1).wr CFG_STGSIZE_SIZE 1, 7, by decide +kernel, by decide +kernel, by decide +kernel, by decide +kernel, by decide +kernel⟩,
   ⟨(inMode HOLD).wr CFG_CMD_BUSY 1, true, 7, by decide +kernel⟩⟩

theorem witness_LaneRepair :
    (∃ (s : State) (e : Fin 24) (dir : Fin 2) (g : Fin 4) (lane : Fin 88) (n run : Nat), laneInUse (s.eye (gix e dir g)) lane = true ∧ n < max 1 (s.rd EYE_CTL_BERTH) ∧ run < 64) ∧
    (∃ (s : State) (e : Fin 24) (dir : Fin 2) (g : Fin 4) (lane : Fin 88) (n run : Nat), laneInUse (s.eye (gix e dir g)) lane = true ∧ (max 1 (s.rd EYE_CTL_BERTH) ≤ n ∨ 64 ≤ run) ∧ lane.val ∉ (s.eye (gix e dir g)).failing ∧ lane.val ∉ (s.eye (gix e dir g)).failed ∧ idleSpares (s.eye (gix e dir g)) ≠ []) ∧
    (∃ (s : State) (e : Fin 24) (dir : Fin 2) (lane : Fin 88) (n run : Nat), s.mode ≠ DORMANT ∧ laneInUse (s.eye (gix e dir 0)) lane = true ∧ (max 1 (s.rd EYE_CTL_BERTH) ≤ n ∨ 64 ≤ run) ∧ lane.val ∉ (s.eye (gix e dir 0)).failed ∧ idleSpares (s.eye (gix e dir 0)) = [] ∧ (s.eye (gix e dir 0)).half = false ∧ s.rd EYE_CTL_AUTOHALF = 0) ∧
    (∃ (s : State) (e : Fin 24) (dir : Fin 2) (g : Fin 4) (lane : Fin 88) (n run : Nat), 84 ≤ lane.val ∧ laneInUse (s.eye (gix e dir g)) lane = false ∧ 0 < n ∧ lane.val ∉ (s.eye (gix e dir g)).failed) ∧
    (∃ (s : State) (e : Fin 24) (dir : Fin 2) (g : Fin 4) (lane : Fin 88) (n run : Nat), laneInUse (s.eye (gix e dir g)) lane = false ∧ (lane.val < 84 ∨ n = 0 ∨ lane.val ∈ (s.eye (gix e dir g)).failed)) ∧
    (∃ (s : State) (e : Fin 24) (dir : Fin 2) (g : Fin 4) (l sp : Nat) (ls sps : List Nat), (s.eye (gix e dir g)).failing = l :: ls ∧ idleSpares (s.eye (gix e dir g)) = sp :: sps ∧ (sps ≠ [] ∨ (∀ x ∈ ls, x = l)) ∧ s.rd EYE_CTL_AUTOSPARE = 1 ∧ (s.eye (gix e dir g)).swap = none) ∧
    (∃ (s : State) (e : Fin 24) (dir : Fin 2) (l : Nat) (ls : List Nat), (s.eye (gix e dir 0)).failing = l :: ls ∧ (∀ x ∈ ls, x = l) ∧ idleSpares (s.eye (gix e dir 0)) = [] ∧ s.rd EYE_CTL_AUTOSPARE = 1 ∧ (s.eye (gix e dir 0)).half = true ∧ 44 ≤ goodLanes (s.eye (gix e dir 0))) ∧
    (∃ (s : State) (e : Fin 24) (dir : Fin 2) (g : Fin 4) (l r : Nat) (ls rs : List Nat), (s.eye (gix e dir g)).failing = l :: ls ∧ (∀ x ∈ ls, x = l) ∧ carriedLane (s.eye (gix e dir g)) l = l ∧ idleReserves (s.eye (gix e dir g)) = r :: rs ∧ (idleSpares (s.eye (gix e dir g)) = [] ∨ s.rd EYE_CTL_AUTOSPARE = 0) ∧ g.val ≠ 0 ∧ l < 80 ∧ s.rd EYE_CTL_AUTORSV = 1 ∧ eyeFeature s e 1 = true ∧ (s.eye (gix e dir g)).swap = none) ∧
    (∃ (s : State) (e : Fin 24) (dir : Fin 2) (g : Fin 4) (l at_ : Nat) (dst : Option Nat), (s.eye (gix e dir g)).swap = some (l, dst, at_) ∧ (∀ x ∈ (s.eye (gix e dir g)).failing, x = l) ∧ s.rd EYE_CMD_BUSY = 0 ∧ (∀ d, d ∈ eyeDies e → s.rdi GEAR_STAT_PHASE (4 * s.rdi GEAR_DIE_GROUP (4 * d)) = 0)) ∧
    (∃ (s : State) (e : Fin 24) (dir : Fin 2) (g : Fin 4) (l : Nat) (ls : List Nat), (s.eye (gix e dir g)).failing = l :: ls ∧ (∀ x ∈ ls, x = l) ∧ (∀ p ∈ (s.eye (gix e dir g)).subst, p.1 ≠ l ∧ p.2 ≠ some l) ∧ (idleSpares (s.eye (gix e dir g)) = [] ∨ s.rd EYE_CTL_AUTOSPARE = 0) ∧ (s.eye (gix e dir g)).swap = none ∧ s.rd EYE_CTL_AUTORSV = 1 ∧ 80 ≤ l ∧ l < 84 ∧ s.mode ≠ RUN ∧ s.mode ≠ SHIFT) ∧
    (∃ (s : State) (e : Fin 24) (dir : Fin 2) (l : Nat) (ls : List Nat), (s.eye (gix e dir 0)).failing = l :: ls ∧ (idleSpares (s.eye (gix e dir 0)) = [] ∨ s.rd EYE_CTL_AUTOSPARE = 0) ∧ (s.eye (gix e dir 0)).half = false ∧ s.rd EYE_CTL_AUTOHALF = 1 ∧ eyeFeature s e 2 = true ∧ s.rd WLT_SVC_STATE ≠ 3) :=
  ⟨⟨(inMode RUN).wr EYE_CTL_BERTH 10, 23, 1, 3, 83, 9, 63, by decide +kernel, by decide +kernel, by decide +kernel⟩,
   ⟨(inMode RUN).wr EYE_CTL_BERTH 10, 23, 1, 3, 83, 10, 0, by decide +kernel, by decide +kernel, by decide +kernel, by decide +kernel, by decide +kernel⟩,
   ⟨((inMode RUN).wr EYE_CTL_AUTOHALF 0).modEye (gix 0 1 0) (fun k => { k with failed := [84, 85, 86, 87] }), 0, 1, 3, 0, 64, by decide +kernel, by decide +kernel, by decide +kernel, by decide +kernel, by decide +kernel, by decide +kernel, by decide +kernel⟩,
   ⟨inMode RUN, 0, 1, 0, 84, 1, 0, by decide +kernel, by decide +kernel, by decide +kernel, by decide +kernel⟩,
   ⟨(inMode RUN).modEye (gix 0 1 0) (fun k => { k with retired := [3] }), 0, 1, 0, 3, 9, 64, by decide +kernel, by decide +kernel⟩,
   ⟨((inMode RUN).wr EYE_CTL_AUTOSPARE 1).modEye (gix 23 1 3) (fun k => { k with failing := [83, 4] }), 23, 1, 3, 83, 84, [4], [85, 86, 87], by decide +kernel, by decide +kernel, by decide +kernel, by decide +kernel, by decide +kernel⟩,
   ⟨((inMode RUN).wr EYE_CTL_AUTOSPARE 1).modEye (gix 0 1 0) (fun k => { k with failing := [3], failed := [84, 85, 86, 87], half := true }), 0, 1, 3, [], by decide +kernel, by decide +kernel, by decide +kernel, by decide +kernel, by decide +kernel, by decide +kernel⟩,
   ⟨(((inMode RUN).wr EYE_CTL_AUTORSV 1).wri FDC_CAPEN_FEAT 0 2).modEye (gix 0 1 3) (fun k => { k with failing := [79], failed := [84, 85, 86, 87], reserves := [7] }), 0, 1, 3, 79, 7, [], [], by decide +kernel, by decide +kernel, by decide +kernel, by decide +kernel, by decide +kernel, by decide +kernel, by decide +kernel, by decide +kernel, by decide +kernel, by decide +kernel⟩,
   ⟨(inMode RUN).modEye (gix 0 1 3) (fun k => { k with failing := [79], failed := [84, 85, 86, 87], reserves := [7], swap := some (79, some 7, 500) }), 0, 1, 3, 79, 500, some 7, by decide +kernel, by decide +kernel, by decide +kernel, by decide +kernel⟩,
   ⟨((inMode HOLD).wr EYE_CTL_AUTORSV 1).modEye (gix 0 1 3) (fun k => { k with failing := [83], failed := [84, 85, 86, 87] }), 0, 1, 3, 83, [], by decide +kernel, by decide +kernel, by decide +kernel, by decide +kernel, by decide +kernel, by decide +kernel, by decide +kernel, by decide +kernel, by decide +kernel, by decide +kernel⟩,
   ⟨(((inMode HOLD).wr EYE_CTL_AUTOHALF 1).wri FDC_CAPEN_FEAT 0 4).modEye (gix 0 1 0) (fun k => { k with failing := [83, 4], failed := [84, 85, 86, 87] }), 0, 1, 83, [4], by decide +kernel, by decide +kernel, by decide +kernel, by decide +kernel, by decide +kernel, by decide +kernel⟩⟩

theorem witness_EyeletErrorsAndCommands :
    (∃ (s : State) (e : Fin 24), 12 ≤ e.val ∧ s.rdi EYE_STAT_STATE (4 * e) = 1) ∧
    (∃ (s : State) (e : Fin 24), e.val < 12 ∧ s.rdi EYE_STAT_STATE (4 * e) = 1) ∧
    (∃ (s : State) (e : Fin 24) (dir : Fin 2) (g : Fin 4) (word : Fin 2), g.val ≠ 0 ∧ wordTolerant s e dir g word = true) ∧
    (∃ (s : State) (e : Fin 24) (dir : Fin 2) (g : Fin 4) (word : Fin 2), s.mode ≠ DORMANT ∧ (g.val = 0 ∨ wordTolerant s e dir g word = false)) ∧
    (∃ (s : State) (e : Fin 24) (dir : Fin 2) (g : Fin 4), s.mode ≠ DORMANT) ∧
    (∃ (s : State) (e dir g l sp : Nat) (sps : List Nat), s.rd EYE_CMD_BUSY = 0 ∧ eyeTarget s = (e, dir, g, l) ∧ e < 24 ∧ dir < 2 ∧ g < 4 ∧ l < 84 ∧ (s.eye (gix e dir g)).swap = none ∧ idleSpares (s.eye (gix e dir g)) = sp :: sps) ∧
    (∃ (s : State) (e dir g l : Nat), s.rd EYE_CMD_BUSY = 0 ∧ eyeTarget s = (e, dir, g, l) ∧ e < 24 ∧ dir < 2 ∧ g < 4 ∧ l < 84 ∧ (s.eye (gix e dir g)).swap = none ∧ idleSpares (s.eye (gix e dir g)) = []) ∧
    (∃ (s : State) (e dir g l r : Nat) (rs : List Nat), s.rd EYE_CMD_BUSY = 0 ∧ eyeTarget s = (e, dir, g, l) ∧ e < 24 ∧ dir < 2 ∧ g < 4 ∧ l < 80 ∧ g ≠ 0 ∧ s.mode ≠ RUN ∧ s.mode ≠ SHIFT ∧ (s.eye (gix e dir g)).swap = none ∧ freeReserves s e (s.eye (gix e dir g)) = r :: rs) ∧
    (∃ (s : State) (e dir g l : Nat), s.rd EYE_CMD_BUSY = 0 ∧ eyeTarget s = (e, dir, g, l) ∧ e < 24 ∧ dir < 2 ∧ g < 4 ∧ l < 84 ∧ s.mode = HOLD ∧ l ∉ (s.eye (gix e dir g)).retired ∧ tabGet 0 (s.eye (gix e dir g)).corr l + 1 < max 1 (s.rd EYE_CTL_BERTH)) ∧
    (∃ (s : State) (e dir g l : Nat), s.rd EYE_CMD_BUSY = 0 ∧ eyeTarget s = (e, dir, g, l) ∧ e < 24 ∧ dir < 2 ∧ g < 4 ∧ l < 84 ∧ s.mode = HOLD ∧ l ∉ (s.eye (gix e dir g)).retired ∧ max 1 (s.rd EYE_CTL_BERTH) ≤ tabGet 0 (s.eye (gix e dir g)).corr l + 1 ∧ l ∉ (s.eye (gix e dir g)).failing ∧ l ∉ (s.eye (gix e dir g)).failed ∧ idleSpares (s.eye (gix e dir g)) ≠ []) ∧
    (∃ (s : State) (e dir g l : Nat), s.rd EYE_CMD_BUSY = 0 ∧ eyeTarget s = (e, dir, g, l) ∧ e < 24 ∧ l < 84 ∧ s.mode = HOLD ∧ l ∈ (s.eye (gix e dir g)).retired) ∧
    (∃ s : State, s.rd EYE_CMD_BUSY = 0 ∧ s.mode ≠ HOLD) :=
  ⟨⟨(inMode LOAD).wri EYE_STAT_STATE 48 1, 12, by decide +kernel, by decide +kernel⟩,
   ⟨((inMode LOAD).dieOn 11).wri EYE_STAT_STATE 44 1, 11, by decide +kernel, by decide +kernel⟩,
   ⟨inMode RUN, 23, 1, 1, 1, by decide +kernel, by decide +kernel⟩,
   ⟨inMode RUN, 23, 1, 0, 1, by decide +kernel, by decide +kernel⟩,
   ⟨inMode RUN, 23, 1, 0, by decide +kernel⟩,
   ⟨(((inMode HOLD).wr EYE_CMDTGT_EYELET 23).wr EYE_CMDTGT_DIR 1).wr EYE_CMDTGT_GROUP 3 |> fun s => s.wr EYE_CMDTGT_LANE 83, 23, 1, 3, 83, 84, [85, 86, 87], by decide +kernel, by decide +kernel, by decide +kernel, by decide +kernel, by decide +kernel, by decide +kernel, by decide +kernel, by decide +kernel⟩,
   ⟨(((inMode HOLD).wr EYE_CMDTGT_EYELET 23).wr EYE_CMDTGT_DIR 1).wr EYE_CMDTGT_GROUP 3 |> fun s => (s.wr EYE_CMDTGT_LANE 83).modEye (gix 23 1 3) (fun k => { k with failed := [84, 85, 86, 87] }), 23, 1, 3, 83, by decide +kernel, by decide +kernel, by decide +kernel, by decide +kernel, by decide +kernel, by decide +kernel, by decide +kernel, by decide +kernel⟩,
   ⟨((((inMode HOLD).wr EYE_CMDTGT_DIR 1).wr EYE_CMDTGT_GROUP 3).wri FDC_CAPEN_FEAT 0 2) |> fun s => (s.wr EYE_CMDTGT_LANE 79).modEye (gix 0 1 3) (fun k => { k with reserves := [3] }), 0, 1, 3, 79, 3, [], by decide +kernel, by decide +kernel, by decide +kernel, by decide +kernel, by decide +kernel, by decide +kernel, by decide +kernel, by decide +kernel, by decide +kernel, by decide +kernel, by decide +kernel⟩,
   ⟨(((inMode HOLD).wr EYE_CMDTGT_EYELET 23).wr EYE_CMDTGT_DIR 1).wr EYE_CMDTGT_GROUP 3 |> fun s => s.wr EYE_CMDTGT_LANE 83, 23, 1, 3, 83, by decide +kernel, by decide +kernel, by decide +kernel, by decide +kernel, by decide +kernel, by decide +kernel, by decide +kernel, by decide +kernel, by decide +kernel⟩,
   ⟨(((inMode HOLD).wr EYE_CMDTGT_EYELET 23).wr EYE_CMDTGT_DIR 1).wr EYE_CMDTGT_GROUP 3 |> fun s => (s.wr EYE_CMDTGT_LANE 83).wr EYE_CTL_BERTH 0, 23, 1, 3, 83, by decide +kernel, by decide +kernel, by decide +kernel, by decide +kernel, by decide +kernel, by decide +kernel, by decide +kernel, by decide +kernel, by decide +kernel, by decide +kernel, by decide +kernel, by decide +kernel⟩,
   ⟨(((inMode HOLD).wr EYE_CMDTGT_EYELET 23).wr EYE_CMDTGT_DIR 1).wr EYE_CMDTGT_GROUP 3 |> fun s => (s.wr EYE_CMDTGT_LANE 83).modEye (gix 23 1 3) (fun k => { k with retired := [83] }), 23, 1, 3, 83, by decide +kernel, by decide +kernel, by decide +kernel, by decide +kernel, by decide +kernel, by decide +kernel⟩,
   ⟨inMode RUN, by decide +kernel, by decide +kernel⟩⟩

theorem witness_ClockEdges :
    (∃ (s : State) (g : Fin 12) (ones : List Nat) (x : Nat), s.rdi GEAR_STAT_GEAR (4 * g) ≠ 0 ∧ Tab.Rising s.express.launch ∧ Tab.Rising s.express.fly ∧ Tab.Rising s.express.land ∧ xGroup s x = g.val) ∧
    (∃ (s : State) (g : Fin 12) (ones : List Nat) (x : Nat), xGroup s x ≠ g.val) ∧
    (∃ (s : State) (d : Fin 12) (r : Fin 32) (clock : Fin 20) (ext : List Nat) (pads : BitVec 32) (idle : Bool), s.dieUp d = true ∧ clock.val < 4 ∧ bit (s.rdi FDC_RSTAT_CLKRUN (oReg d r)) clock = 1 ∧ Tab.Rising (s.region (rix d r)).design.cells) ∧
    (∃ (s : State) (d : Fin 12) (r : Fin 32) (clock : Fin 20) (ext : List Nat) (pads : BitVec 32) (idle : Bool), clock.val < 4 ∧ bit (s.rdi FDC_RSTAT_CLKRUN (oReg d r)) clock = 0) ∧
    (∃ (s : State) (d : Fin 12) (r : Fin 32) (clock : Fin 20) (ext : List Nat) (pads : BitVec 32) (idle : Bool), s.dieUp d = true ∧ 4 ≤ clock.val ∧ s.rdi GEAR_DIE_GEAR (4 * d) ≠ 0) ∧
    (∃ (s : State) (d : Fin 12) (r : Fin 32) (clock : Fin 20) (ext : List Nat) (pads : BitVec 32) (idle : Bool), s.dieUp d = true ∧ clock.val < 4 ∧ bit (s.rdi FDC_RSTAT_CLKRUN (oReg d r)) clock = 1 ∧ Tab.Rising (s.region (rix d r)).design.prods) :=
  ⟨⟨{ ((inMode RUN).wri GEAR_STAT_GEAR 0 1).wri GEAR_DIE_GROUP 0 0 with express := { launch := [(5, 1)], fly := [(5, 1), (6, 1)], land := [(7, 1)] } }, 0, [6], 5, by decide +kernel, by unfold Tab.Rising; decide +kernel, by unfold Tab.Rising; decide +kernel, by unfold Tab.Rising; decide +kernel, by decide +kernel⟩,
   ⟨{ ((inMode RUN).wri GEAR_STAT_GEAR 0 1).wri GEAR_DIE_GROUP 0 0 with express := { launch := [(5, 1)], fly := [(5, 1), (6, 1)], land := [(7, 1)] } }, 1, [6], 5, by decide +kernel⟩,
   ⟨((withRegion RUN).wri FDC_RSTAT_CLKRUN 0 8).modRegion 0 (fun x => { x with ff := [(5, 0)], design0 := { cells := [(5, { net := 3, a := [.q 5 0], x0 := .const true, dselA := 1 }), (6, { net := 2 })] } }), 0, 0, 3, [], 0, false, by decide +kernel, by decide +kernel, by decide +kernel, by unfold Tab.Rising; decide +kernel⟩,
   ⟨withRegion RUN, 0, 0, 3, [], 0, false, by decide +kernel, by decide +kernel⟩,
   ⟨((withRegion RUN).wri GEAR_DIE_GEAR 0 1).modRegion 0 (fun x => { x with ff := [(5, 0)], design0 := { cells := [(5, { net := 3 })] } }), 0, 0, 4, [], 0, false, by decide +kernel, by decide +kernel, by decide +kernel⟩,
   ⟨((withRegion RUN).wri FDC_RSTAT_CLKRUN 0 8).modRegion 0 (fun x => { x with prod := [(33, { p := 5, m := -7 })], design0 := { prods := [(33, { net := 3, op := 1 }), (34, { net := 2 })] } }), 0, 0, 3, [], 0, false, by decide +kernel, by decide +kernel, by decide +kernel, by unfold Tab.Rising; decide +kernel⟩⟩

theorem witness_WeltInjection :
    (∃ x ∈ reqRows, ∃ (s : State) (q : Req), canSend s q.src = true ∧ portsClosed s = true) ∧
    (∃ x ∈ reqRows, ∃ (s : State) (q : Req) (st : Nat), canSend s q.src = true ∧ portsClosed s = false ∧ PlainPort q.src ∧ (∀ w ∈ s.welt.wait, w.src ≠ q.src ∨ w.cls ≠ q.cls) ∧ injectCheck s { q with op := x.1 } = .inl st) ∧
    (∃ x ∈ reqRows, ∃ (s : State) (q : Req), canSend s q.src = false) :=
  ⟨⟨(RD, .rd), by simp [reqRows], (withRegion RUN).wr WLT_SVC_STATE 2, reqTo 0x4000200000 [], by decide +kernel, by decide +kernel⟩,
   ⟨(RD, .rd), by simp [reqRows], weltUp, reqTo 0xFFFFFFFFFFFF [], ST_WLT_BADADDR, by decide +kernel, by decide +kernel, by unfold PlainPort; decide +kernel, by decide +kernel, by decide +kernel⟩,
   ⟨(RD, .rd), by simp [reqRows], State.reset, reqTo 0x4000200000 [], by decide +kernel⟩⟩

theorem witness_LastStoreRequests :
    (∃ (s : State) (q : Req), reqOk q = true ∧ NetIdle s ∧ PortOpen q.src s ∧ TagFree q.src q.tag s ∧ LastReady RD q s) ∧
    (∃ (s : State) (q : Req), reqOk q = true ∧ NetIdle s ∧ PortOpen q.src s ∧ TagFree q.src q.tag s ∧ LastReady WR q s) ∧
    (∃ (s : State) (q : Req), reqOk q = true ∧ NetIdle s ∧ PortOpen q.src s ∧ LastReady WRP q s) ∧
    (∃ (s : State) (q : Req), reqOk q = true ∧ NetIdle s ∧ PortOpen q.src s ∧ TagFree q.src q.tag s ∧ LastReady AADD q s) ∧
    (∃ (s : State) (q : Req), reqOk q = true ∧ NetIdle s ∧ PortOpen q.src s ∧ TagFree q.src q.tag s ∧ LastReady ASWP q s) ∧
    (∃ (s : State) (q : Req), reqOk q = true ∧ NetIdle s ∧ PortOpen q.src s ∧ TagFree q.src q.tag s ∧ LastReady ACAS q s) ∧
    (∃ (s : State) (q : Req), reqOk q = true ∧ NetIdle s ∧ PortOpen q.src s ∧ TagFree q.src q.tag s ∧ LastReady LRD q s) ∧
    (∃ (s : State) (q : Req), reqOk q = true ∧ NetIdle s ∧ PortOpen q.src s ∧ TagFree q.src q.tag s ∧ LastReady ULWR q s) ∧
    (∃ (s : State) (q : Req), reqOk q = true ∧ NetIdle s ∧ PortOpen q.src s ∧ TagFree q.src q.tag s ∧ LastReady UNL q s) ∧
    (∃ (s : State) (q : Req), NetIdle s ∧ PortOpen q.src s ∧ TagFree q.src q.tag s ∧ injectCheck s { q with op := UNL } = .inr epLast ∧ unitState s (lastUnit q.addr) = 0 ∧ cacheable q.addr = true ∧ lockOwner s epLast (lineOf q.addr) ≠ some q.src) :=
  ⟨⟨weltUp.wrMem 8 0x4000200000 0x1122334455667788, { reqTo 0x4000200000 [] with bfirst := 1, blast := 63, uidx := 3 }, by decide +kernel, by unfold NetIdle; decide +kernel, by unfold PortOpen; decide +kernel, by unfold TagFree; decide +kernel, ⟨by decide +kernel, by decide +kernel, by decide +kernel, fun _ _ _ => rfl, by decide +kernel, by decide +kernel⟩⟩,
   ⟨weltUp.wrMem 8 0x4000200000 0x1122334455667788, reqTo 0x4000200000 [⟨1, 6, 2 ^ 512 - 1⟩, ⟨0, 63, 5⟩], by decide +kernel, by unfold NetIdle; decide +kernel, by unfold PortOpen; decide +kernel, by unfold TagFree; decide +kernel, ⟨by decide +kernel, by decide +kernel, by decide +kernel, fun _ _ _ => rfl, by decide +kernel, by decide +kernel⟩⟩,
   ⟨weltUp.wrMem 8 0x4001FFFF00 0x1122334455667788, reqTo 0x4001FFFF00 [⟨1, 6, 2 ^ 512 - 1⟩, ⟨0, 63, 5⟩, ⟨63, 63, 5⟩, ⟨0, 0, 5⟩], by decide +kernel, by unfold NetIdle; decide +kernel, by unfold PortOpen; decide +kernel, ⟨by decide +kernel, by decide +kernel, by decide +kernel, fun _ _ _ => rfl, by decide +kernel, by decide +kernel⟩⟩,
   ⟨weltUp.wrMem 8 0x4000200008 0xFFFFFFFFFFFFFFFF, reqTo 0x4000200008 [⟨0, 7, 2⟩], by decide +kernel, by unfold NetIdle; decide +kernel, by unfold PortOpen; decide +kernel, by unfold TagFree; decide +kernel, ⟨by decide +kernel, by decide +kernel, by decide +kernel, fun _ _ _ => rfl, by decide +kernel, by decide +kernel⟩⟩,
   ⟨weltUp.wrMem 8 0x4000200008 0xFFFFFFFFFFFFFFFF, reqTo 0x4000200008 [⟨0, 7, 2⟩], by decide +kernel, by unfold NetIdle; decide +kernel, by unfold PortOpen; decide +kernel, by unfold TagFree; decide +kernel, ⟨by decide +kernel, by decide +kernel, by decide +kernel, fun _ _ _ => rfl, by decide +kernel, by decide +kernel⟩⟩,
   ⟨weltUp.wrMem 8 0x4000200008 0xFFFFFFFFFFFFFFFF, reqTo 0x4000200008 [⟨0, 15, 0x5FFFFFFFFFFFFFFFF⟩], by decide +kernel, by unfold NetIdle; decide +kernel, by unfold PortOpen; decide +kernel, by unfold TagFree; decide +kernel, ⟨by decide +kernel, by decide +kernel, by decide +kernel, fun _ _ _ => rfl, by decide +kernel, by decide +kernel⟩⟩,
   ⟨weltUp.wrMem 8 0x4000200008 0xFFFFFFFFFFFFFFFF, reqTo 0x4000200008 [], by decide +kernel, by unfold NetIdle; decide +kernel, by unfold PortOpen; decide +kernel, by unfold TagFree; decide +kernel, ⟨by decide +kernel, by decide +kernel, by decide +kernel, fun _ _ _ => rfl, by decide +kernel, by decide +kernel⟩⟩,
   ⟨{ weltUp.wrMem 8 0x4000200008 0xFFFFFFFFFFFFFFFF with welt := { locks := [⟨epLast, lineOf 0x4000200008, 0⟩] } }, reqTo 0x4000200008 [⟨0, 7, 2⟩], by decide +kernel, by unfold NetIdle; decide +kernel, by unfold PortOpen; decide +kernel, by unfold TagFree; decide +kernel, ⟨by decide +kernel, by decide +kernel, by decide +kernel, fun _ _ _ => rfl, by decide +kernel, by decide +kernel⟩⟩,
   ⟨{ weltUp.wrMem 8 0x4000200008 0xFFFFFFFFFFFFFFFF with welt := { locks := [⟨epLast, lineOf 0x4000200008, 0⟩] } }, reqTo 0x4000200008 [], by decide +kernel, by unfold NetIdle; decide +kernel, by unfold PortOpen; decide +kernel, by unfold TagFree; decide +kernel, ⟨by decide +kernel, by decide +kernel, by decide +kernel, fun _ _ _ => rfl, by decide +kernel, by decide +kernel⟩⟩,
   ⟨{ weltUp with welt := { locks := [⟨epLast, lineOf 0x4000200008, 1⟩] } }, reqTo 0x4000200008 [], by unfold NetIdle; decide +kernel, by unfold PortOpen; decide +kernel, by unfold TagFree; decide +kernel, by decide +kernel, by decide +kernel, by decide +kernel, by decide +kernel⟩⟩

theorem witness_RegionRequests :
    (∃ (s : State) (q : Req) (d r : Nat), d < 12 ∧ r < 32 ∧ reqOk q = true ∧ NetIdle s ∧ PortOpen q.src s ∧ TagFree q.src q.tag s ∧ injectCheck s { q with op := RD } = .inr (epOf d r 2) ∧ endpointsOn s d r = true ∧ (s.region (rix d r)).quiescing = false ∧ atG0 s d = false ∧ (s.bank (bix d r (bankOf q.addr))).sealed = false ∧ s.rdi BNK_STAT_PWR (oBnk d r (bankOf q.addr)) = 0 ∧ lockedOff s { q with op := RD, dst := epOf d r 2 } = false ∧ (∀ w, w < 1024 → wordMark s d r (bankOf q.addr) w = 0)) ∧
    (∃ (s : State) (q : Req) (d r : Nat), d < 12 ∧ r < 32 ∧ NetIdle s ∧ PortOpen q.src s ∧ TagFree q.src q.tag s ∧ injectCheck s { q with op := MSG } = .inr (epOf d r 3) ∧ endpointsOn s d r = true ∧ (s.region (rix d r)).quiescing = false ∧ (1, d, r) ∉ s.modes.clamped ∧ (s.core (rix d r)).msgq.length < 16) ∧
    (∃ (s : State) (q : Req) (d r : Nat), d < 12 ∧ r < 32 ∧ NetIdle s ∧ PortOpen q.src s ∧ TagFree q.src q.tag s ∧ injectCheck s { q with op := MSG } = .inr (epOf d r 3) ∧ endpointsOn s d r = true ∧ (s.region (rix d r)).quiescing = false ∧ (1, d, r) ∉ s.modes.clamped ∧ 16 ≤ (s.core (rix d r)).msgq.length) ∧
    (∃ (s : State) (q : Req) (d r k : Nat), d < 12 ∧ r < 32 ∧ k < 2 ∧ NetIdle s ∧ PortOpen q.src s ∧ TagFree q.src q.tag s ∧ injectCheck s { q with op := RD } = .inr (epOf d r k) ∧ endpointsOn s d r = true ∧ (s.region (rix d r)).quiescing = false) ∧
    (∃ (s : State) (q : Req) (d r k : Nat), d < 12 ∧ r < 32 ∧ k < 2 ∧ NetIdle s ∧ PortOpen q.src s ∧ injectCheck s { q with op := WRP } = .inr (epOf d r k) ∧ endpointsOn s d r = true ∧ (s.region (rix d r)).quiescing = false) :=
  ⟨⟨(weltUp.wri GEAR_DIE_GEAR 0 1).wrMem 8 0x008010000000 77, { reqTo 0x008010000000 [] with uidx := 3 }, 0, 0, by decide +kernel, by decide +kernel, by decide +kernel, by unfold NetIdle; decide +kernel, by unfold PortOpen; decide +kernel, by unfold TagFree; decide +kernel, by decide +kernel, by decide +kernel, by decide +kernel, by decide +kernel, by decide +kernel, by decide +kernel, by decide +kernel, by decide +kernel⟩,
   ⟨weltUp, { reqTo 0xFFFFFFFFFFFF [] with dst := epOf 0 0 3 }, 0, 0, by decide +kernel, by decide +kernel, by unfold NetIdle; decide +kernel, by unfold PortOpen; decide +kernel, by unfold TagFree; decide +kernel, by decide +kernel, by decide +kernel, by decide +kernel, by decide +kernel, by decide +kernel⟩,
   ⟨weltUp.modCore 0 (fun k => { k with msgq := List.range 16 }), { reqTo 0xFFFFFFFFFFFF [] with dst := epOf 0 0 3 }, 0, 0, by decide +kernel, by decide +kernel, by unfold NetIdle; decide +kernel, by unfold PortOpen; decide +kernel, by unfold TagFree; decide +kernel, by decide +kernel, by decide +kernel, by decide +kernel, by decide +kernel, by decide +kernel⟩,
   ⟨weltUp, reqTo 0x008000400000 [], 0, 0, 1, by decide +kernel, by decide +kernel, by decide +kernel, by unfold NetIdle; decide +kernel, by unfold PortOpen; decide +kernel, by unfold TagFree; decide +kernel, by decide +kernel, by decide +kernel, by decide +kernel⟩,
   ⟨weltUp, reqTo 0x008000400000 [⟨0, 63, 5⟩], 0, 0, 1, by decide +kernel, by decide +kernel, by decide +kernel, by unfold NetIdle; decide +kernel, by unfold PortOpen; decide +kernel, by decide +kernel, by decide +kernel, by decide +kernel⟩⟩

theorem witness_GuaranteedUnits :
    (∃ x ∈ [(GWR, Instr.gwr), (GMSG, Instr.gmsg)], ∃ (s : State) (q : Req) (dst : Nat), NetIdle s ∧ canSend s q.src = true ∧ portsClosed s = false ∧ injectCheck s { q with op := x.1 } = .inr dst ∧ (s.flowSt q.flow).queue.length < 4) ∧
    (∃ x ∈ [(GWR, Instr.gwr), (GMSG, Instr.gmsg)], ∃ (s : State) (q : Req) (dst : Nat), s.welt.wait = [] ∧ canSend s q.src = true ∧ portsClosed s = false ∧ injectCheck s { q with op := x.1 } = .inr dst ∧ 4 ≤ (s.flowSt q.flow).queue.length) ∧
    (∃ (s : State) (f : Fin 1024) (at_ taken : Nat) (q : Req) (l : List Req), s.rd WLT_SVC_STATE = 3 ∧ laceSlots s ≤ at_ ∧ s.welt.gfly = [] ∧ (s.flowSt f).queue = q :: l ∧ (s.flowNow f).slots.contains (at_ % 1024) = true ∧ (s.flowSt f).headAt < at_ ∧ s.rd WLT_EPOCH_STATE ≠ 2 ∧ (∀ p ∈ s.eyes, p.2.halfAt = none)) ∧
    (∃ (s : State) (f : Fin 1024) (p : Nat × Req), s.welt.gfly.find? (fun p => p.2.flow == f.val) = some p ∧ 8 ≤ gBuffered s p.2.dst) :=
  ⟨⟨(GWR, .gwr), by simp, { weltUp with welt := { sched0 := { flows := [(1023, { dst := epLast, slots := [3] })] }, flows := [(1023, { en := true, queue := [{}, {}, {}] })] } }, { reqTo 0x4000200000 [⟨0, 63, 5⟩] with flow := 1023, cls := 0 }, epLast, by unfold NetIdle; decide +kernel, by decide +kernel, by decide +kernel, by decide +kernel, by decide +kernel⟩,
   ⟨(GWR, .gwr), by simp, { weltUp with welt := { sched0 := { flows := [(1023, { dst := epLast, slots := [3] })] }, flows := [(1023, { en := true, queue := [{}, {}, {}, {}] })] } }, { reqTo 0x4000200000 [⟨0, 63, 5⟩] with flow := 1023, cls := 0 }, epLast, by decide +kernel, by decide +kernel, by decide +kernel, by decide +kernel, by decide +kernel⟩,
   ⟨{ weltUp with welt := { sched0 := { flows := [(1023, { dst := epLast, slots := [3] })] }, flows := [(1023, { en := true, queue := [{ flow := 1023, cls := 0, op := GWR, dst := epLast, addr := 0x4000200000, units := [⟨0, 63, 5⟩] }] })] } }, 1023, 3, 0, { flow := 1023, cls := 0, op := GWR, dst := epLast, addr := 0x4000200000, units := [⟨0, 63, 5⟩] }, [], by decide +kernel, by decide +kernel, by decide +kernel, by decide +kernel, by decide +kernel, by decide +kernel, by decide +kernel, by decide +kernel⟩,
   ⟨{ weltUp with welt := { gfly := [(9, { flow := 1023, dst := epLast })], gbuf := [(epLast, 8)] } }, 1023, (9, { flow := 1023, dst := epLast }), by decide +kernel, by decide +kernel⟩⟩

theorem witness_ResponsesAndSnoops :
    (∃ (s : State) (r : Resp) (lat : Nat), PlainPort r.to_ ∧ tagBusy s r.to_ r.tag = true ∧ r ∈ s.welt.resps ∧ (r.op = RDR ∨ r.op = WRA ∨ r.op = ATR ∨ r.op = ERR)) ∧
    (∃ (s : State) (r : Resp) (lat : Nat), tagBusy s r.to_ r.tag = false) ∧
    (∃ (s : State) (e tag : Nat), PlainPort e ∧ tagBusy s e tag = true) ∧
    (∃ (s : State) (tgt line o : Nat), lockOwner s tgt line = some o) ∧
    (∃ (s : State) (c : Fin 384) (line : Nat), (line, c.val) ∈ s.welt.sinv) ∧
    (∃ (s : State) (c : Fin 384) (line : Nat), (line, c.val) ∈ s.welt.sack) ∧
    (∃ (s : State) (c : Fin 384) (line : Nat), (line, c.val) ∉ s.welt.sack) ∧
    (∃ (s : State) (c : Fin 384) (r : Resp) (lat : Nat) (l : AwlLoad), r.to_ = coreEp c ∧ tagBusy s r.to_ r.tag = true ∧ r ∈ s.welt.resps ∧ r.op = RDR ∧ (s.core c).loads = [l] ∧ l.tag = r.tag ∧ l.data = none ∧ l.err = none ∧ l.lrd = false ∧ (s.core c).lk = none ∧ (s.core c).sbuf = [] ∧ (s.core c).stwait = [] ∧ (s.core c).stopping = none ∧ (s.core c).wdPend = false ∧ tabGet 0 s.dbg.pend c = 0) ∧
    (∃ (s : State) (c : Fin 384) (r : Resp) (lat : Nat), r.to_ = coreEp c ∧ tagBusy s r.to_ r.tag = true ∧ r ∈ s.welt.resps ∧ (r.op = WRA ∨ r.op = ERR) ∧ (s.core c).loads = [] ∧ (∃ a, (r.tag, a) ∈ (s.core c).stq) ∧ (s.core c).lk = none ∧ (s.core c).stopping = none ∧ (s.core c).wdPend = false ∧ tabGet 0 s.dbg.pend c = 0) :=
  ⟨⟨{ weltUp with welt := { out := [⟨0, 7, RD, epLast, 0⟩], resps := [⟨0, epLast, 7, RDR, 0, 99, 1, 0⟩] } }, ⟨0, epLast, 7, RDR, 0, 99, 1, 0⟩, 40, by unfold PlainPort; decide +kernel, by decide +kernel, by decide +kernel, by decide +kernel⟩,
   ⟨{ weltUp with welt := { out := [⟨0, 7, RD, epLast, 0⟩], resps := [⟨0, epLast, 8, RDR, 0, 99, 1, 0⟩] } }, ⟨0, epLast, 8, RDR, 0, 99, 1, 0⟩, 40, by decide +kernel⟩,
   ⟨{ weltUp with welt := { out := [⟨0, 7, RD, epLast, 0⟩] } }, 0, 7, by unfold PlainPort; decide +kernel, by decide +kernel⟩,
   ⟨{ weltUp with welt := { locks := [⟨epLast, 5, 0⟩] } }, epLast, 5, 0, by decide +kernel⟩,
   ⟨{ weltUp with welt := { sinv := [(5, 383)] } } |> fun s => s.modCore 383 (fun k => { k with dlines := [4, 5] }), 383, 5, by decide +kernel⟩,
   ⟨{ weltUp with welt := { sack := [(5, 383)] } }, 383, 5, by decide +kernel⟩,
   ⟨weltUp, 383, 5, by decide +kernel⟩,
   ⟨{ weltUp with welt := { out := [⟨coreEp 0, 7, RD, epLast, 0x4000200008⟩], resps := [⟨coreEp 0, epLast, 7, RDR, 0, 2 ^ 64 * 99, 1, 0⟩] } } |> fun s => s.modCore 0 (fun k => { k with loads := [{ tag := 7, addr := 0x4000200008, size := 4, dest := 3 }] }), 0, ⟨coreEp 0, epLast, 7, RDR, 0, 2 ^ 64 * 99, 1, 0⟩, 40, { tag := 7, addr := 0x4000200008, size := 4, dest := 3 }, by decide +kernel, by decide +kernel, by decide +kernel, by decide +kernel, by decide +kernel, by decide +kernel, by decide +kernel, by decide +kernel, by decide +kernel, by decide +kernel, by decide +kernel, by decide +kernel, by decide +kernel, by decide +kernel, by decide +kernel⟩,
   ⟨{ weltUp with welt := { out := [⟨coreEp 0, 7, WR, epLast, 0x4000200008⟩], resps := [⟨coreEp 0, epLast, 7, WRA, 0, 0, 0, 0⟩] } } |> fun s => s.modCore 0 (fun k => { k with stq := [(7, 8)] }), 0, ⟨coreEp 0, epLast, 7, WRA, 0, 0, 0, 0⟩, 40, by decide +kernel, by decide +kernel, by decide +kernel, by decide +kernel, by decide +kernel, ⟨8, by decide +kernel⟩, by decide +kernel, by decide +kernel, by decide +kernel, by decide +kernel⟩⟩

theorem witness_FlowsAndStatistics :
    (∃ (s : State) (f : Fin 1024), s.rd WLT_FLOWCMD_BUSY = 0) ∧
    (∃ (s : State) (f : Fin 1024), s.rd WLT_FLOWCMD_BUSY = 0) ∧
    (∃ (s : State) (f : Fin 1024), s.rd WLT_FLOWCMD_BUSY = 0 ∧ (s.flowSt (s.rd WLT_FLOWCMD2_TO)).en = false ∧ (s.flowNow (s.rd WLT_FLOWCMD2_TO)).dst = (s.flowNow f).dst) ∧
    (∃ (s : State) (f : Fin 1024), s.rd WLT_FLOWCMD_BUSY = 0 ∧ (s.flowSt (s.rd WLT_FLOWCMD2_TO)).en = true) ∧
    (∃ (s : State) (f : Nat), s.rd WLT_FLOWCMD_BUSY ≠ 0 ∧ s.rd WLT_FLOWCMD_OP = 1 ∧ s.rd WLT_FLOWCMD_FLOW = f) ∧
    (∃ (s : State) (f : Nat), s.rd WLT_FLOWCMD_BUSY = 1 ∧ s.rd WLT_FLOWCMD_OP = 2 ∧ s.rd WLT_FLOWCMD_FLOW = f) ∧
    (∃ (s : State) (f to_ : Nat), s.rd WLT_FLOWCMD_BUSY ≠ 0 ∧ s.rd WLT_FLOWCMD_OP = 3 ∧ s.rd WLT_FLOWCMD_FLOW = f ∧ s.rd WLT_FLOWCMD2_TO = to_ ∧ f ≠ to_) ∧
    (∃ s : State, s.rd WLT_STCTL_WINDOW ≠ 0) :=
  ⟨⟨weltUp, 1023, by decide +kernel⟩,
   ⟨weltUp, 1023, by decide +kernel⟩,
   ⟨weltUp.wr WLT_FLOWCMD2_TO 5, 1023, by decide +kernel, by decide +kernel, by decide +kernel⟩,
   ⟨{ weltUp.wr WLT_FLOWCMD2_TO 5 with welt := { flows := [(5, { en := true })] } }, 1023, by decide +kernel, by decide +kernel⟩,
   ⟨((weltUp.wr WLT_FLOWCMD_BUSY 1).wr WLT_FLOWCMD_OP 1).wr WLT_FLOWCMD_FLOW 1023, 1023, by decide +kernel, by decide +kernel, by decide +kernel⟩,
   ⟨((weltUp.wr WLT_FLOWCMD_BUSY 1).wr WLT_FLOWCMD_OP 2).wr WLT_FLOWCMD_FLOW 1023, 1023, by decide +kernel, by decide +kernel, by decide +kernel⟩,
   ⟨(((weltUp.wr WLT_FLOWCMD_BUSY 1).wr WLT_FLOWCMD_OP 3).wr WLT_FLOWCMD_FLOW 1023).wr WLT_FLOWCMD2_TO 5, 1023, 5, by decide +kernel, by decide +kernel, by decide +kernel, by decide +kernel, by decide +kernel⟩,
   ⟨{ weltUp.wr WLT_STCTL_WINDOW 1 with welt := { live := [(3, 4)] } }, by decide +kernel⟩⟩

theorem witness_Epochs :
    (∃ s : State, s.rd WLT_EPOCH_STATE = 1 ∧ s.welt.chg.cause ≠ 1) ∧
    (∃ s : State, s.rd WLT_EPOCH_STATE = 1 ∧ shfState s ≠ 9 ∧ shfState s ≠ 4 ∧ shfState s ≠ 10) ∧
    (∃ s : State, s.rd WLT_EPOCH_STATE = 2 ∧ (shfState s = 6 ∨ shfState s = 8 ∨ shfState s = 10) ∧ s.welt.chg.cause ≠ 4) ∧
    (∃ s : State, s.rd WLT_EPOCH_STATE = 3 ∧ oldGone s = true ∧ s.shf.rbWait = none) ∧
    (∃ s : State, s.rd WLT_EPOCH_STATE = 3 ∧ oldGone s = false) ∧
    (∃ s : State, s.rd WLT_EPOCH_STATE = 3) ∧
    (∃ s : State, s.mode = HOLD ∧ s.rd WLT_SVC_STATE = 3) ∧
    (∃ s : State, s.mode = HOLD ∧ s.rd WLT_SVC_STATE = 1) ∧
    (∃ (s : State) (split : Bool), s.mode ≠ HOLD) ∧
    (∃ (s : State) (elem : Fin 97) (op src dst : Nat), s.mode ≠ DORMANT) :=
  ⟨⟨{ weltUp.wr WLT_EPOCH_STATE 1 with welt := { chg := { cause := 2, frame := some 9 } } }, by decide +kernel, by decide +kernel⟩,
   ⟨{ weltUp.wr WLT_EPOCH_STATE 1 with welt := { chg := { cause := 2, frame := some 9 } } }, by decide +kernel, by decide +kernel, by decide +kernel, by decide +kernel⟩,
   ⟨{ (weltUp.wr WLT_EPOCH_STATE 2).wr SHF_STAT_STATE 6 with welt := { chg := { cause := 1, frame := some 9 } } }, by decide +kernel, by decide +kernel, by decide +kernel⟩,
   ⟨{ weltUp.wr WLT_EPOCH_STATE 3 with welt := { chg := { cause := 1, frame := some 9 }, stamp := 1 } }, by decide +kernel, by decide +kernel, by decide +kernel⟩,
   ⟨{ weltUp.wr WLT_EPOCH_STATE 3 with welt := { chg := { cause := 1, frame := some 9 }, stamp := 1, resps := [⟨0, 0, 0, RDR, 0, 0, 1, 0⟩] } }, by decide +kernel, by decide +kernel⟩,
   ⟨weltUp.wr WLT_EPOCH_STATE 3, by decide +kernel⟩,
   ⟨(inMode HOLD).wr WLT_SVC_STATE 3, by decide +kernel, by decide +kernel⟩,
   ⟨(inMode HOLD).wr WLT_SVC_STATE 1, by decide +kernel, by decide +kernel⟩,
   ⟨weltUp, true, by decide +kernel⟩,
   ⟨weltUp, 96, RD, 0, epLast, by decide +kernel⟩⟩

theorem witness_QueueOperations :
    (∃ (s : State) (e tag : Nat) (q : Fin 65536) (v : BitVec 32), QueReady e tag q s ∧ qMp s q = false ∧ sub32 v.toNat (qTail s q) + sub32 (qTail s q) (qHead s q) ≤ qN s q) ∧
    (∃ (s : State) (e tag : Nat) (q : Fin 65536) (v : BitVec 32), QueReady e tag q s ∧ qMp s q = false ∧ qN s q < sub32 v.toNat (qTail s q) + sub32 (qTail s q) (qHead s q)) ∧
    (∃ (s : State) (e tag : Nat) (q : Fin 65536) (k : BitVec 64), QueReady e tag q s ∧ qMp s q = true ∧ 1 ≤ k.toNat ∧ k.toNat ≤ 32 ∧ sub32 (qResv s q) (qHead s q) + k.toNat ≤ qN s q ∧ sub32 (qResv s q) (qTail s q) + k.toNat ≤ 32) ∧
    (∃ (s : State) (e tag : Nat) (q : Fin 65536) (i k : BitVec 32), QueReady e tag q s ∧ qMp s q = true ∧ i.toNat = qTail s q ∧ 1 ≤ k.toNat ∧ k.toNat ≤ 32 ∧ k.toNat ≤ sub32 (qResv s q) (qTail s q) ∧ qPmask s q = 0) ∧
    (∃ (s : State) (e tag : Nat) (q : Fin 65536) (i k : BitVec 32), QueReady e tag q s ∧ qMp s q = true ∧ 1 ≤ sub32 i.toNat (qTail s q) ∧ 1 ≤ k.toNat ∧ sub32 i.toNat (qTail s q) + k.toNat ≤ min 32 (sub32 (qResv s q) (qTail s q)) ∧ qPmask s q = 0) ∧
    (∃ (s : State) (e tag : Nat) (q : Fin 65536) (lo hi : BitVec 32), QueReady e tag q s ∧ qMc s q = false ∧ sub32 lo.toNat (qHead s q) ≤ sub32 (qTail s q) (qHead s q)) ∧
    (∃ (s : State) (e tag : Nat) (q : Fin 65536) (lo hi : BitVec 32), QueReady e tag q s ∧ qMc s q = true ∧ lo.toNat = qHead s q ∧ 1 ≤ hi.toNat ∧ hi.toNat ≤ 32 ∧ hi.toNat ≤ sub32 (qClaim s q) (qHead s q) ∧ qCmask s q = 0) ∧
    (∃ (s : State) (e tag : Nat) (q : Fin 65536) (k : BitVec 64), QueReady e tag q s ∧ qMc s q = true ∧ 1 ≤ k.toNat ∧ k.toNat ≤ sub32 (qTail s q) (qClaim s q) ∧ sub32 (qClaim s q) (qHead s q) + k.toNat ≤ 32) :=
  ⟨⟨withQueue 65535 (2 ^ 55 + 4 * 2 ^ 48) 5 0xFFFFFFFAFFFFFFFA 0xFFFFFFFAFFFFFFFA, 0, 7, 65535, 10, by unfold QueReady NetIdle TagFree; decide +kernel, by decide +kernel, by decide +kernel⟩,
   ⟨withQueue 0 (2 ^ 55 + 4 * 2 ^ 48) 5 0xFFFFFFFAFFFFFFFA 0xFFFFFFFAFFFFFFFA, 0, 7, 0, 11, by unfold QueReady NetIdle TagFree; decide +kernel, by decide +kernel, by decide +kernel⟩,
   ⟨withQueue 0 (2 ^ 55 + 2 ^ 53 + 5 * 2 ^ 48) 5 0 0, 0, 7, 0, 32, by unfold QueReady NetIdle TagFree; decide +kernel, by decide +kernel, by decide +kernel, by decide +kernel, by decide +kernel, by decide +kernel⟩,
   ⟨withQueue 0 (2 ^ 55 + 2 ^ 53 + 5 * 2 ^ 48) 5 (32 * 2 ^ 32) 0, 0, 7, 0, 0, 32, by unfold QueReady NetIdle TagFree; decide +kernel, by decide +kernel, by decide +kernel, by decide +kernel, by decide +kernel, by decide +kernel, by decide +kernel⟩,
   ⟨withQueue 0 (2 ^ 55 + 2 ^ 53 + 5 * 2 ^ 48) 5 (32 * 2 ^ 32) 0, 0, 7, 0, 1, 31, by unfold QueReady NetIdle TagFree; decide +kernel, by decide +kernel, by decide +kernel, by decide +kernel, by decide +kernel, by decide +kernel⟩,
   ⟨withQueue 0 (2 ^ 55 + 5 * 2 ^ 48) 5 0x0000000400000004 0xFFFFFFFFFFFFFFFF, 0, 7, 0, 4, 9, by unfold QueReady NetIdle TagFree; decide +kernel, by decide +kernel, by decide +kernel⟩,
   ⟨withQueue 0 (2 ^ 55 + 2 ^ 54 + 5 * 2 ^ 48) 5 (32 * 2 ^ 32 + 32) (32 * 2 ^ 32), 0, 7, 0, 0, 32, by unfold QueReady NetIdle TagFree; decide +kernel, by decide +kernel, by decide +kernel, by decide +kernel, by decide +kernel, by decide +kernel, by decide +kernel⟩,
   ⟨withQueue 0 (2 ^ 55 + 2 ^ 54 + 5 * 2 ^ 48) 5 (32 * 2 ^ 32 + 32) 0, 0, 7, 0, 32, by unfold QueReady NetIdle TagFree; decide +kernel, by decide +kernel, by decide +kernel, by decide +kernel, by decide +kernel⟩⟩

theorem witness_QueueCommands :
    (∃ (s : State) (q : Nat), s.rd QUE_QCMD_BUSY = 0 ∧ s.rd QUE_QSEL_Q = q ∧ q < 65536 ∧ qEn s q = false ∧ stagingOk s = true ∧ s.rd QUE_SPARM_MC < 2 ∧ s.rd QUE_SPARM_MP < 2 ∧ s.rd QUE_SBASEL_BASE < 2 ^ 26 ∧ s.rd QUE_SBASEH_BASE < 2 ^ 16 ∧ s.rd QUE_SPARM_NTHR < 32 ∧ s.rd QUE_SNOTE_NTGT < 2 ^ 16 ∧ s.rd QUE_SNOTE_NSUB < 32 ∧ qTail s q = qResv s q ∧ qTail s q = qHead s q ∧ qTail s q = qClaim s q) ∧
    (∃ (s : State) (q : Nat), s.rd QUE_QCMD_BUSY = 0 ∧ s.rd QUE_QSEL_Q = q ∧ qEn s q = false ∧ stagingOk s = false) ∧
    (∃ (s : State) (q : Nat), s.rd QUE_QCMD_BUSY = 0 ∧ s.rd QUE_QSEL_Q = q ∧ qEn s q = true) ∧
    (∃ (s : State) (q : Nat), s.rd QUE_QCMD_BUSY = 0 ∧ s.rd QUE_QSEL_Q = q) ∧
    (∃ (s : State) (q : Nat), s.rd QUE_QCMD_BUSY = 0 ∧ s.rd QUE_QSEL_Q = q ∧ qEn s q = false) ∧
    (∃ (s : State) (q : Nat), s.rd QUE_QCMD_BUSY = 0 ∧ s.rd QUE_QSEL_Q = q ∧ qEn s q = true ∧ qNmode s q = 0) ∧
    (∃ (s : State) (q : Nat), s.rd QUE_QCMD_BUSY = 0 ∧ s.rd QUE_QSEL_Q = q) :=
  ⟨⟨(((((withQueue 9 0 0 0x500000005 0x500000005).wr QUE_QSEL_Q 9).wr QUE_SPARM_LOG2N 4).wr QUE_SBASEL_BASE 0x8000).wr QUE_SBASEH_BASE 0x40).wr QUE_SNOTE_NTGT 3, 9, by decide +kernel, by decide +kernel, by decide +kernel, by decide +kernel, by decide +kernel, by decide +kernel, by decide +kernel, by decide +kernel, by decide +kernel, by decide +kernel, by decide +kernel, by decide +kernel, by decide +kernel, by decide +kernel, by decide +kernel⟩,
   ⟨((withQueue 9 0 0 0 0).wr QUE_QSEL_Q 9).wr QUE_SPARM_LOG2N 3, 9, by decide +kernel, by decide +kernel, by decide +kernel, by decide +kernel⟩,
   ⟨((withQueue 9 (2 ^ 55) 0 0 0).wr QUE_QSEL_Q 9).wr QUE_SPARM_LOG2N 3, 9, by decide +kernel, by decide +kernel, by decide +kernel⟩,
   ⟨(withQueue 9 (2 ^ 55 + 0x4040000) 0 0 0).wr QUE_QSEL_Q 9, 9, by decide +kernel, by decide +kernel⟩,
   ⟨(withQueue 9 0x4040000 77 78 79).wr QUE_QSEL_Q 9, 9, by decide +kernel, by decide +kernel, by decide +kernel⟩,
   ⟨(withQueue 9 (2 ^ 55 + 0x4040000) 0 0 0).wr QUE_QSEL_Q 9, 9, by decide +kernel, by decide +kernel, by decide +kernel, by decide +kernel⟩,
   ⟨(withQueue 9 (2 ^ 55 + 0x123404040000) 0xFFFF 0 0).wr QUE_QSEL_Q 9, 9, by decide +kernel, by decide +kernel⟩⟩

theorem witness_AluResults :
    (∃ (sr : Nat) (sz : Nat) (a : Nat) (b : Nat), sz < 2 ∧ a < 2 ^ szWidth sz ∧ b < 2 ^ szWidth sz) ∧
    (∃ (sr : Nat) (sz : Nat) (a : Nat) (b : Nat), sz < 2 ∧ a < 2 ^ szWidth sz ∧ b < 2 ^ szWidth sz) ∧
    (∃ (sr : Nat) (sz : Nat) (a : Nat) (b : Nat), sz < 2 ∧ a < 2 ^ szWidth sz ∧ b < 2 ^ szWidth sz) ∧
    (∃ (sr : Nat) (sz : Nat) (a : Nat) (n : Nat), sz < 2 ∧ a < 2 ^ szWidth sz ∧ n < 64) ∧
    (∃ (sr : Nat) (sz : Nat) (a : Nat), sz < 2 ∧ a < 2 ^ szWidth sz) ∧
    (∃ (sr : Nat) (kind : Nat) (acc : Nat) (p : Int), acc < 2 ^ 40 ∧ -2 ^ 39 ≤ (if kind = 0 then p else if kind = 1 then toS 40 acc + p else toS 40 acc - p) ∧ (if kind = 0 then p else if kind = 1 then toS 40 acc + p else toS 40 acc - p) < 2 ^ 39) ∧
    (∃ (sr : Nat) (sz : Nat) (a : Nat), a < 2 ^ 40 ∧ (sz = 0 ∨ sz = 1)) :=
  ⟨⟨0, 0, 0xFFFFFFFF, 1, by decide +kernel, by decide +kernel, by decide +kernel⟩,
   ⟨0, 0, 0x80000000, 1, by decide +kernel, by decide +kernel, by decide +kernel⟩,
   ⟨0, 1, 0xF0F0, 0xFF00, by decide +kernel, by decide +kernel, by decide +kernel⟩,
   ⟨0, 0, 0x80000001, 31, by decide +kernel, by decide +kernel, by decide +kernel⟩,
   ⟨0, 0, 0x80000000, by decide +kernel, by decide +kernel⟩,
   ⟨0, 0, 7, -549755813888, by decide +kernel, by decide +kernel, by decide +kernel⟩,
   ⟨0, 0, 0x7FFFFFFFFF, by decide +kernel, by decide +kernel⟩⟩

theorem witness_DataProcessing :
    (∃ (m : Mn) (f : Fetch) (s : State), bits f.w.toNat 29 3 = 0 ∧ CoreFree f.core s ∧ WordRuns m f s) ∧
    (∃ (m : Mn) (f : Fetch) (s : State), bits f.w.toNat 29 3 = 0 ∧ CoreFree f.core s ∧ isMn f m = true ∧ f.err = none ∧ legalWord f.w.toNat (s.core f.core).arch.ipl = true ∧ (s.core f.core).arch.ldepth = 1 ∧ (s.core f.core).arch.get (kLE true) = (s.core f.core).arch.pc ∧ (s.core f.core).arch.get (kLC true) ≠ 1 ∧ (s.core f.core).arch.get (kLC true) < 2 ^ 32) ∧
    (∃ (m : Mn) (f : Fetch) (s : State), bits f.w.toNat 29 3 = 0 ∧ CoreFree f.core s ∧ isMn f m = true ∧ f.err = none ∧ legalWord f.w.toNat (s.core f.core).arch.ipl = true ∧ (s.core f.core).arch.ldepth = 1 ∧ (s.core f.core).arch.get (kLE true) = (s.core f.core).arch.pc ∧ (s.core f.core).arch.get (kLC true) = 1) :=
  ⟨⟨.add, fetched 0x010220C0, coreOn [(2, 0xFFFFFFFF), (3, 1), (kPC, 0xFFFFFFFC)], by decide +kernel, by unfold CoreFree CoreQuiet; decide +kernel, by unfold WordRuns; decide +kernel⟩,
   ⟨.add, fetched 0x010220C0, coreOn [(2, 0xFFFFFFFF), (3, 1), (kSR, 2 ^ 20), (kLC true, 2), (kLS true, 0xFF0), (kLE true, 0x1000), (kPC, 0x1000)], by decide +kernel, by unfold CoreFree CoreQuiet; decide +kernel, by decide +kernel, by decide +kernel, by decide +kernel, by decide +kernel, by decide +kernel, by decide +kernel, by decide +kernel⟩,
   ⟨.add, fetched 0x010220C0, coreOn [(2, 0xFFFFFFFF), (3, 1), (kSR, 2 ^ 20), (kLC true, 1), (kLS true, 0xFF0), (kLE true, 0x1000), (kPC, 0x1000)], by decide +kernel, by unfold CoreFree CoreQuiet; decide +kernel, by decide +kernel, by decide +kernel, by decide +kernel, by decide +kernel, by decide +kernel, by decide +kernel⟩⟩

theorem witness_MultiplyAndMove :
    (∃ (m : Mn) (f : Fetch) (s : State) (w xk yk mop : Nat) (a : Arch), f.w.toNat = w ∧ (s.core f.core).arch = a ∧ bits w 29 3 = 1 ∧ CoreFree f.core s ∧ WordRuns m f s ∧ bits w 12 2 = xk ∧ bits w 5 2 = yk ∧ bits w 26 3 = mop ∧ (xk ≠ 0 → xyAsleep s f.core false = false) ∧ (yk ≠ 0 → xyAsleep s f.core true = false) ∧ (xk ≠ 0 → xyCheck s f.core false (xk == 1) (a.get (kP (2 * bit w 8)) % 65536) 2 = none) ∧ (xk = 1 → xyMark s f.core false (a.get (kP (2 * bit w 8)) % 65536) = 0) ∧ (yk ≠ 0 → xyCheck s f.core true (yk == 1) (a.get (kP (1 + 2 * bit w 1)) % 65536) 2 = none) ∧ (yk = 1 → xyMark s f.core true (a.get (kP (1 + 2 * bit w 1)) % 65536) = 0)) :=
  ⟨.mac, fetched 0x2B191747, (coreOn [(kQ 3, 7), (kQ 4, 0xFFFE), (kA 1, 100), (kP 2, 0x100), (kP 3, 0x200), (kQRB, 0), (kPC, 0x1000)]).wrMem 2 (xyAddr 0 false 0x100) 0x1234, 0x2B191747, 1, 2, 2, { regs := [(kQ 3, 7), (kQ 4, 0xFFFE), (kA 1, 100), (kP 2, 0x100), (kP 3, 0x200), (kQRB, 0), (kPC, 0x1000)] }, by decide +kernel, by decide +kernel, by decide +kernel, by unfold CoreFree CoreQuiet; decide +kernel, by unfold WordRuns; decide +kernel, by decide +kernel, by decide +kernel, by decide +kernel, by decide +kernel, by decide +kernel, by decide +kernel, by decide +kernel, by decide +kernel, by decide +kernel⟩

theorem witness_LoadsAndStores :
    (∃ (y : Bool) (f : Fetch) (s : State) (w ad p : Nat) (a : Arch), f.w.toNat = w ∧ (s.core f.core).arch = a ∧ CoreFree f.core s ∧ WordRuns (if y then .ldy else .ldx) f s ∧ accessAddr a w (accessSize w) = (ad, p) ∧ xyAsleep s f.core y = false ∧ xyCheck s f.core y true (ad % 65536) (accessSize w) = none ∧ xyMark s f.core y (ad % 65536) = 0) ∧
    (∃ (y : Bool) (f : Fetch) (s : State) (w ad p : Nat) (a : Arch), f.w.toNat = w ∧ (s.core f.core).arch = a ∧ CoreFree f.core s ∧ WordRuns (if y then .sty else .stx) f s ∧ accessAddr a w (accessSize w) = (ad, p) ∧ xyAsleep s f.core y = false ∧ xyCheck s f.core y false (ad % 65536) (accessSize w) = none) ∧
    (∃ (f : Fetch) (s : State) (w lo p ad : Nat) (a : Arch), f.w.toNat = w ∧ (s.core f.core).arch = a ∧ CoreFree f.core s ∧ WordRuns .ldw f s ∧ accessAddr a w (accessSize w) = (lo, p) ∧ a.get (kWS (bits w 14 3)) * 2 ^ 32 + lo = ad ∧ ad % accessSize w = 0 ∧ (∀ x ∈ (s.core f.core).stq, x.2 / 64 ≠ ad / 64)) ∧
    (∃ (f : Fetch) (s : State) (w lo p ad : Nat) (a : Arch), f.w.toNat = w ∧ (s.core f.core).arch = a ∧ CoreFree f.core s ∧ WordRuns .stw f s ∧ accessAddr a w (accessSize w) = (lo, p) ∧ a.get (kWS (bits w 14 3)) * 2 ^ 32 + lo = ad ∧ ad % accessSize w = 0 ∧ (s.core f.core).stq.length < 16) ∧
    (∃ (y : Bool) (f : Fetch) (s : State) (w ad p : Nat) (a : Arch), f.w.toNat = w ∧ (s.core f.core).arch = a ∧ CoreFree f.core s ∧ WordRuns (if y then .ldy else .ldx) f s ∧ accessAddr a w (accessSize w) = (ad, p) ∧ xyAsleep s f.core y = false ∧ ad % accessSize w ≠ 0 ∧ a.ipl < 4 ∧ inSession s f.core = false) ∧
    (∃ (y : Bool) (f : Fetch) (s : State), CoreFree f.core s ∧ WordRuns (if y then .ldy else .ldx) f s ∧ s.rdi (awlMemState y) (oAwl f.core) = 2) :=
  ⟨⟨false, fetched 0x40947004, (coreOn [(kP 1, 0xFFFC), (kPC, 0x1000)]).wrMem 4 (xyAddr 0 false 0xFFFC) 0x12345678, 0x40947004, 0xFFFC, 0x10000, { regs := [(kP 1, 0xFFFC), (kPC, 0x1000)] }, by decide +kernel, by decide +kernel, by unfold CoreFree CoreQuiet; decide +kernel, by unfold WordRuns; decide +kernel, by decide +kernel, by decide +kernel, by decide +kernel, by decide +kernel⟩,
   ⟨false, fetched 0x44947004, coreOn [(5, 0x89ABCDEF), (kP 1, 0xFFFC), (kPC, 0x1000)], 0x44947004, 0xFFFC, 0x10000, { regs := [(5, 0x89ABCDEF), (kP 1, 0xFFFC), (kPC, 0x1000)] }, by decide +kernel, by decide +kernel, by unfold CoreFree CoreQuiet; decide +kernel, by unfold WordRuns; decide +kernel, by decide +kernel, by decide +kernel, by decide +kernel⟩,
   ⟨fetched 0x48947004, (coreOn [(kP 1, 0x200008), (kWS 1, 0x40), (kPC, 0x1000)]).wrMem 4 0x4000200008 0x12345678 |> fun s => s.modCore 0 (fun k => { k with dlines := [0x4000200008 / 64] }), 0x48947004, 0x200008, 0x20000C, 0x4000200008, { regs := [(kP 1, 0x200008), (kWS 1, 0x40), (kPC, 0x1000)] }, by decide +kernel, by decide +kernel, by unfold CoreFree CoreQuiet; decide +kernel, by unfold WordRuns; decide +kernel, by decide +kernel, by decide +kernel, by decide +kernel, by decide +kernel⟩,
   ⟨fetched 0x4A947004, coreOn [(5, 0x89ABCDEF), (kP 1, 0x200008), (kWS 1, 0x40), (kPC, 0x1000)], 0x4A947004, 0x200008, 0x20000C, 0x4000200008, { regs := [(5, 0x89ABCDEF), (kP 1, 0x200008), (kWS 1, 0x40), (kPC, 0x1000)] }, by decide +kernel, by decide +kernel, by unfold CoreFree CoreQuiet; decide +kernel, by unfold WordRuns; decide +kernel, by decide +kernel, by decide +kernel, by decide +kernel, by decide +kernel⟩,
   ⟨false, fetched 0x40947004, coreOn [(kP 1, 0xFFFE), (kPC, 0x1000)], 0x40947004, 0xFFFE, 0x10002, { regs := [(kP 1, 0xFFFE), (kPC, 0x1000)] }, by decide +kernel, by decide +kernel, by unfold CoreFree CoreQuiet; decide +kernel, by unfold WordRuns; decide +kernel, by decide +kernel, by decide +kernel, by decide +kernel, by decide +kernel, by decide +kernel⟩,
   ⟨true, fetched 0x42947004, (coreOn [(kP 1, 0xFFFC), (kPC, 0x1000)]).wri FDC_AWLMEM_YSTATE (oAwl 0) 2, by unfold CoreFree CoreQuiet; decide +kernel, by unfold WordRuns; decide +kernel, by decide +kernel⟩⟩

theorem witness_MovesAndPointers :
    (∃ (f : Fetch) (s : State) (w : Nat) (a : Arch), f.w.toNat = w ∧ (s.core f.core).arch = a ∧ CoreFree f.core s ∧ WordRuns .mov f s) ∧
    (∃ (f : Fetch) (s : State) (w : Nat) (a : Arch), f.w.toNat = w ∧ (s.core f.core).arch = a ∧ CoreFree f.core s ∧ WordRuns .movFromSys f s ∧ bits w 13 5 ≠ 18) ∧
    (∃ (f : Fetch) (s : State) (w : Nat), f.w.toNat = w ∧ CoreFree f.core s ∧ WordRuns .movFromSys f s ∧ bits w 13 5 = 18) ∧
    (∃ (f : Fetch) (s : State) (w d v : Nat) (a : Arch), f.w.toNat = w ∧ bits w 18 7 = d ∧ (s.core f.core).arch = a ∧ CoreFree f.core s ∧ WordRuns .movImm f s ∧ (if bits w 16 2 = 0 then sext 16 (rcWidth d) (bits w 0 16) else if bits w 16 2 = 1 then bits w 0 16 else bits w 0 16 * 65536 + a.rcGet d % 65536) = v) ∧
    (∃ (f : Fetch) (s : State) (w : Nat) (a : Arch), f.w.toNat = w ∧ (s.core f.core).arch = a ∧ CoreFree f.core s ∧ WordRuns .long f s ∧ bits w 25 4 = 0) ∧
    (∃ (f : Fetch) (s : State) (w sz : Nat) (r : Nat × Flg) (a : Arch), f.w.toNat = w ∧ bits w 18 2 = sz ∧ (s.core f.core).arch = a ∧ CoreFree f.core s ∧ WordRuns .long f s ∧ bits w 25 4 = 1 ∧ aluOp a.sr (bits w 20 5) sz (a.opGet sz (bits w 8 5)) (if sz = 2 then sext 32 40 f.w2.toNat else f.w2.toNat) = r) ∧
    (∃ (f : Fetch) (s : State) (w n : Nat) (a : Arch), f.w.toNat = w ∧ bits w 23 3 = n ∧ (s.core f.core).arch = a ∧ CoreFree f.core s ∧ WordRuns .pmod f s) ∧
    (∃ (f : Fetch) (s : State) (w n : Nat) (a : Arch), f.w.toNat = w ∧ bits w 23 3 = n ∧ (s.core f.core).arch = a ∧ CoreFree f.core s ∧ WordRuns .padd f s) ∧
    (∃ (f : Fetch) (s : State) (w : Nat) (a : Arch), f.w.toNat = w ∧ (s.core f.core).arch = a ∧ CoreFree f.core s ∧ WordRuns .movToSys f s) ∧
    (∃ (f : Fetch) (s : State) (v : Nat) (a : Arch), (s.core f.core).arch = a ∧ CoreQuiet f.core s ∧ a.pend = some (2, v) ∧ WordRuns .nop f s) :=
  ⟨⟨fetched 0x4C040800, coreOn [(1, 0x12345678), (kPC, 0x1000)], 0x4C040800, { regs := [(1, 0x12345678), (kPC, 0x1000)] }, by decide +kernel, by decide +kernel, by unfold CoreFree CoreQuiet; decide +kernel, by unfold WordRuns; decide +kernel⟩,
   ⟨fetched 0x5004C000, coreOn [(kSR, 0x800000), (kXADDR, 0x123), (kPC, 0x1000)], 0x5004C000, { regs := [(kSR, 0x800000), (kXADDR, 0x123), (kPC, 0x1000)] }, by decide +kernel, by decide +kernel, by unfold CoreFree CoreQuiet; decide +kernel, by unfold WordRuns; decide +kernel, by decide +kernel⟩,
   ⟨fetched 0x50064000, (coreOn [(kPC, 0x1000)]).modCore 0 (fun k => { k with msgq := [0x77, 0x88] }), 0x50064000, by decide +kernel, by unfold CoreFree CoreQuiet; decide +kernel, by unfold WordRuns; decide +kernel, by decide +kernel⟩,
   ⟨fetched 0x52048000, coreOn [(1, 0x12345678), (kPC, 0x1000)], 0x52048000, 1, 0xFFFF8000, { regs := [(1, 0x12345678), (kPC, 0x1000)] }, by decide +kernel, by decide +kernel, by decide +kernel, by unfold CoreFree CoreQuiet; decide +kernel, by unfold WordRuns; decide +kernel, by decide +kernel⟩,
   ⟨fetched 0xC0C40000 0x80000001, coreOn [(kPC, 0x1000)], 0xC0C40000, { regs := [(kPC, 0x1000)] }, by decide +kernel, by decide +kernel, by unfold CoreFree CoreQuiet; decide +kernel, by unfold WordRuns; decide +kernel, by decide +kernel⟩,
   ⟨fetched 0xC2102300 0xFFFFFFFF, coreOn [(3, 1), (kPC, 0x1000)], 0xC2102300, 0, (0, (aluOp 0 1 0 1 0xFFFFFFFF).2), { regs := [(3, 1), (kPC, 0x1000)] }, by decide +kernel, by decide +kernel, by decide +kernel, by unfold CoreFree CoreQuiet; decide +kernel, by unfold WordRuns; decide +kernel, by decide +kernel, by decide +kernel⟩,
   ⟨fetched 0x61000000, coreOn [(kP 2, 0x10), (kM 0, 0xFFFFFFFF), (kPC, 0x1000)], 0x61000000, 2, { regs := [(kP 2, 0x10), (kM 0, 0xFFFFFFFF), (kPC, 0x1000)] }, by decide +kernel, by decide +kernel, by decide +kernel, by unfold CoreFree CoreQuiet; decide +kernel, by unfold WordRuns; decide +kernel⟩,
   ⟨fetched 0x69340000, coreOn [(kP 3, 0x10), (kM 2, 0xFFFFFFFF), (kPC, 0x1000)], 0x69340000, 2, { regs := [(kP 3, 0x10), (kM 2, 0xFFFFFFFF), (kPC, 0x1000)] }, by decide +kernel, by decide +kernel, by decide +kernel, by unfold CoreFree CoreQuiet; decide +kernel, by unfold WordRuns; decide +kernel⟩,
   ⟨fetched 0x4E208000, coreOn [(1, 0x12345678), (kPC, 0x1000)], 0x4E208000, { regs := [(1, 0x12345678), (kPC, 0x1000)] }, by decide +kernel, by decide +kernel, by unfold CoreFree CoreQuiet; decide +kernel, by unfold WordRuns; decide +kernel⟩,
   ⟨fetched 0xA0000000, (coreOn [(kPC, 0x1000)]).modCore 0 (fun k => { k with arch := { k.arch with pend := some (2, 0x12345) } }), 0x12345, { regs := [(kPC, 0x1000)], pend := some (2, 0x12345) }, by decide +kernel, by unfold CoreQuiet; decide +kernel, by decide +kernel, by unfold WordRuns; decide +kernel⟩⟩

theorem witness_Branches :
    (∃ (f : Fetch) (s : State) (w : Nat) (a : Arch), f.w.toNat = w ∧ (s.core f.core).arch = a ∧ CoreFree f.core s ∧ WordRuns .br f s) ∧
    (∃ (f : Fetch) (s : State) (w : Nat) (a : Arch), f.w.toNat = w ∧ (s.core f.core).arch = a ∧ CoreFree f.core s ∧ WordRuns .brc f s) ∧
    (∃ (f : Fetch) (s : State) (w : Nat) (a : Arch), f.w.toNat = w ∧ (s.core f.core).arch = a ∧ CoreFree f.core s ∧ WordRuns .call f s) ∧
    (∃ (f : Fetch) (s : State) (w : Nat) (a : Arch), f.w.toNat = w ∧ (s.core f.core).arch = a ∧ CoreFree f.core s ∧ WordRuns .ret f s) ∧
    (∃ (f : Fetch) (s : State) (a : Arch), (s.core f.core).arch = a ∧ CoreFree f.core s ∧ WordRuns .rti f s ∧ a.ipl ≠ 5) ∧
    (∃ (f : Fetch) (s : State) (a : Arch), (s.core f.core).arch = a ∧ CoreFree f.core s ∧ WordRuns .rti f s ∧ a.ipl = 5 ∧ inSession s f.core = true) ∧
    (∃ (f : Fetch) (s : State) (w count : Nat) (a : Arch), f.w.toNat = w ∧ (s.core f.core).arch = a ∧ CoreFree f.core s ∧ WordRuns .loop f s ∧ (if bits w 26 3 = 5 then bits w 14 12 else a.get (bits w 22 4)) = count ∧ count ≠ 0 ∧ a.ldepth < 2) ∧
    (∃ (f : Fetch) (s : State) (w le : Nat) (a : Arch), f.w.toNat = w ∧ (s.core f.core).arch = a ∧ CoreFree f.core s ∧ WordRuns .loop f s ∧ (if bits w 26 3 = 5 then bits w 14 12 else a.get (bits w 22 4)) = 0 ∧ a.ldepth < 2 ∧ ofS 32 ((a.pc : Int) + 4 * (bits w 0 14 : Nat)) = le) ∧
    (∃ (f : Fetch) (s : State) (a : Arch), (s.core f.core).arch = a ∧ CoreFree f.core s ∧ WordRuns .loop f s ∧ 2 ≤ a.ldepth ∧ a.ipl < 4 ∧ inSession s f.core = false) ∧
    (∃ (f : Fetch) (s : State) (w : Nat) (a : Arch), f.w.toNat = w ∧ (s.core f.core).arch = a ∧ CoreFree f.core s ∧ WordRuns .long f s ∧ bits w 25 4 = 2) ∧
    (∃ (f : Fetch) (s : State) (w : Nat) (a : Arch), f.w.toNat = w ∧ (s.core f.core).arch = a ∧ CoreFree f.core s ∧ WordRuns .long f s ∧ bits w 25 4 = 3) ∧
    (∃ (f : Fetch) (s : State) (w : Nat) (a : Arch), f.w.toNat = w ∧ (s.core f.core).arch = a ∧ CoreFree f.core s ∧ WordRuns .long f s ∧ bits w 25 4 = 4 ∧ f.w2.toNat ≠ 0 ∧ a.ldepth < 2) :=
  ⟨⟨fetched 0x81FFFFFF, coreOn [(kPC, 0)], 0x81FFFFFF, { regs := [(kPC, 0)] }, by decide +kernel, by decide +kernel, by unfold CoreFree CoreQuiet; decide +kernel, by unfold WordRuns; decide +kernel⟩,
   ⟨fetched 0x84200000, coreOn [(kPC, 0x1000)], 0x84200000, { regs := [(kPC, 0x1000)] }, by decide +kernel, by decide +kernel, by unfold CoreFree CoreQuiet; decide +kernel, by unfold WordRuns; decide +kernel⟩,
   ⟨fetched 0x88000010, coreOn [(kPC, 0x1000)], 0x88000010, { regs := [(kPC, 0x1000)] }, by decide +kernel, by decide +kernel, by unfold CoreFree CoreQuiet; decide +kernel, by unfold WordRuns; decide +kernel⟩,
   ⟨fetched 0x8FC00000, coreOn [(15, 0x2002), (kPC, 0x1000)], 0x8FC00000, { regs := [(15, 0x2002), (kPC, 0x1000)] }, by decide +kernel, by decide +kernel, by unfold CoreFree CoreQuiet; decide +kernel, by unfold WordRuns; decide +kernel⟩,
   ⟨fetched 0x90000000, coreOn [(kSR, 2 * 2 ^ 24), (kRPC 2, 0x77), (kRSR 2, 0x800001), (kPC, 0x1000)], { regs := [(kSR, 2 * 2 ^ 24), (kRPC 2, 0x77), (kRSR 2, 0x800001), (kPC, 0x1000)] }, by decide +kernel, by unfold CoreFree CoreQuiet; decide +kernel, by unfold WordRuns; decide +kernel, by decide +kernel⟩,
   ⟨fetched 0x90000000, (coreOn [(kSR, 5 * 2 ^ 24), (kRPC 5, 0x77), (kRSR 5, 0x800001), (kPC, 0x1000)]).wri DBG_STAT_MON (oDbg 0) 1, { regs := [(kSR, 5 * 2 ^ 24), (kRPC 5, 0x77), (kRSR 5, 0x800001), (kPC, 0x1000)] }, by decide +kernel, by unfold CoreFree CoreQuiet; decide +kernel, by unfold WordRuns; decide +kernel, by decide +kernel, by decide +kernel⟩,
   ⟨fetched 0x94008004, coreOn [(kPC, 0x1000)], 0x94008004, 2, { regs := [(kPC, 0x1000)] }, by decide +kernel, by decide +kernel, by unfold CoreFree CoreQuiet; decide +kernel, by unfold WordRuns; decide +kernel, by decide +kernel, by decide +kernel, by decide +kernel⟩,
   ⟨fetched 0x94000004, (coreOn [(kPC, 0x1000)]).wrMem 4 0x1010 0xC0000000, 0x94000004, 0x1010, { regs := [(kPC, 0x1000)] }, by decide +kernel, by decide +kernel, by unfold CoreFree CoreQuiet; decide +kernel, by unfold WordRuns; decide +kernel, by decide +kernel, by decide +kernel, by decide +kernel⟩,
   ⟨fetched 0x94008004, coreOn [(kSR, 2 ^ 21), (kPC, 0x1000)], { regs := [(kSR, 2 ^ 21), (kPC, 0x1000)] }, by decide +kernel, by unfold CoreFree CoreQuiet; decide +kernel, by unfold WordRuns; decide +kernel, by decide +kernel, by decide +kernel, by decide +kernel⟩,
   ⟨fetched 0xC5000000 0x2003, coreOn [(kPC, 0x1000)], 0xC5000000, { regs := [(kPC, 0x1000)] }, by decide +kernel, by decide +kernel, by unfold CoreFree CoreQuiet; decide +kernel, by unfold WordRuns; decide +kernel, by decide +kernel⟩,
   ⟨fetched 0xC6200000 0x2003, coreOn [(kPC, 0x1000)], 0xC6200000, { regs := [(kPC, 0x1000)] }, by decide +kernel, by decide +kernel, by unfold CoreFree CoreQuiet; decide +kernel, by unfold WordRuns; decide +kernel, by decide +kernel⟩,
   ⟨fetched 0xC8000004 0x10000, coreOn [(kPC, 0x1000)], 0xC8000004, { regs := [(kPC, 0x1000)] }, by decide +kernel, by decide +kernel, by unfold CoreFree CoreQuiet; decide +kernel, by unfold WordRuns; decide +kernel, by decide +kernel, by decide +kernel, by decide +kernel⟩⟩

theorem witness_SystemInstructions :
    (∃ (f : Fetch) (s : State) (a : Arch), (s.core f.core).arch = a ∧ CoreFree f.core s ∧ WordRuns .nop f s) ∧
    (∃ (f : Fetch) (s : State) (a : Arch), (s.core f.core).arch = a ∧ CoreFree f.core s ∧ WordRuns .rot f s) ∧
    (∃ (f : Fetch) (s : State) (a : Arch), (s.core f.core).arch = a ∧ CoreFree f.core s ∧ WordRuns .lock f s ∧ (s.core f.core).stq = []) ∧
    (∃ (f : Fetch) (s : State) (a : Arch), (s.core f.core).arch = a ∧ CoreFree f.core s ∧ WordRuns .wait f s) ∧
    (∃ (f : Fetch) (s : State) (a : Arch), (s.core f.core).arch = a ∧ CoreFree f.core s ∧ WordRuns .fence f s ∧ (s.core f.core).stq = []) ∧
    (∃ (f : Fetch) (s : State), CoreFree f.core s ∧ WordRuns .fence f s ∧ (s.core f.core).stq ≠ []) ∧
    (∃ (f : Fetch) (s : State) (a : Arch) (ei : Bool), (s.core f.core).arch = a ∧ CoreFree f.core s ∧ WordRuns (if ei then .ei else .di) f s) ∧
    (∃ (f : Fetch) (s : State) (a : Arch), (s.core f.core).arch = a ∧ CoreFree f.core s ∧ WordRuns .trap f s ∧ a.ipl < 4 ∧ inSession s f.core = false ∧ a.sr < 2 ^ 32) ∧
    (∃ (f : Fetch) (s : State) (a : Arch), (s.core f.core).arch = a ∧ CoreFree f.core s ∧ WordRuns .dbg f s ∧ cannotEnter s f.core = true) ∧
    (∃ (f : Fetch) (s : State) (a : Arch), (s.core f.core).arch = a ∧ CoreFree f.core s ∧ WordRuns .dbg f s ∧ cannotEnter s f.core = false) :=
  ⟨⟨fetched 0xA0000000, coreOn [(kPC, 0xFFFFFFFC)], { regs := [(kPC, 0xFFFFFFFC)] }, by decide +kernel, by unfold CoreFree CoreQuiet; decide +kernel, by unfold WordRuns; decide +kernel⟩,
   ⟨fetched 0xA1000000, coreOn [(kPC, 0x1000)], { regs := [(kPC, 0x1000)] }, by decide +kernel, by unfold CoreFree CoreQuiet; decide +kernel, by unfold WordRuns; decide +kernel⟩,
   ⟨fetched 0xA2000003, coreOn [(kPC, 0x1000)], { regs := [(kPC, 0x1000)] }, by decide +kernel, by unfold CoreFree CoreQuiet; decide +kernel, by unfold WordRuns; decide +kernel, by decide +kernel⟩,
   ⟨fetched 0xA3000000, coreOn [(kPC, 0x1000)], { regs := [(kPC, 0x1000)] }, by decide +kernel, by unfold CoreFree CoreQuiet; decide +kernel, by unfold WordRuns; decide +kernel⟩,
   ⟨fetched 0xA4000000, coreOn [(kPC, 0x1000)], { regs := [(kPC, 0x1000)] }, by decide +kernel, by unfold CoreFree CoreQuiet; decide +kernel, by unfold WordRuns; decide +kernel, by decide +kernel⟩,
   ⟨fetched 0xA4000000, (coreOn [(kPC, 0x1000)]).modCore 0 (fun k => { k with stq := [(1, 8)] }), by unfold CoreFree CoreQuiet; decide +kernel, by unfold WordRuns; decide +kernel, by decide +kernel⟩,
   ⟨fetched 0xA7000000, coreOn [(kPC, 0x1000)], { regs := [(kPC, 0x1000)] }, true, by decide +kernel, by unfold CoreFree CoreQuiet; decide +kernel, by unfold WordRuns; decide +kernel⟩,
   ⟨fetched 0xA50000FF, (coreOn [(kVBR, 0x100), (kSR, 3 * 2 ^ 24), (kPC, 0x1000)]).wrMem 4 0x11C 0x8003, { regs := [(kVBR, 0x100), (kSR, 3 * 2 ^ 24), (kPC, 0x1000)] }, by decide +kernel, by unfold CoreFree CoreQuiet; decide +kernel, by unfold WordRuns; decide +kernel, by decide +kernel, by decide +kernel, by decide +kernel⟩,
   ⟨fetched 0xA6000009, coreOn [(kPC, 0x1000)], { regs := [(kPC, 0x1000)] }, by decide +kernel, by unfold CoreFree CoreQuiet; decide +kernel, by unfold WordRuns; decide +kernel, by decide +kernel⟩,
   ⟨fetched 0xA6000009, (coreOn [(kPC, 0x1000)]).wri DBG_CORECTL_MONEN (oDbg 0) 1, { regs := [(kPC, 0x1000)] }, by decide +kernel, by unfold CoreFree CoreQuiet; decide +kernel, by unfold WordRuns; decide +kernel, by decide +kernel⟩⟩

theorem witness_AwlExceptions :
    (∃ (f : Fetch) (s : State) (a : Arch), (s.core f.core).arch = a ∧ CoreFree f.core s ∧ f.err = none ∧ legalWord f.w.toNat a.ipl = false ∧ a.ipl < 4 ∧ inSession s f.core = false) ∧
    (∃ (f : Fetch) (s : State) (a : Arch), (s.core f.core).arch = a ∧ CoreFree f.core s ∧ f.err = none ∧ legalWord f.w.toNat a.ipl = false ∧ (4 ≤ a.ipl ∨ inSession s f.core = true)) ∧
    (∃ (f : Fetch) (s : State), legalWord f.w.toNat (s.core f.core).arch.ipl = true) ∧
    (∃ (m : Mn) (f : Fetch) (s : State) (a : Arch) (st : Nat), (s.core f.core).arch = a ∧ CoreFree f.core s ∧ isMn f m = true ∧ f.err = some st ∧ a.ipl < 4 ∧ inSession s f.core = false) ∧
    (∃ (m : Mn) (f : Fetch) (s : State), coreRuns s f.core = false) :=
  ⟨⟨fetched 0xFFFFFFFF, (coreOn [(kVBR, 0x100), (kPC, 0x1000)]).wrMem 4 0x104 0x8003, { regs := [(kVBR, 0x100), (kPC, 0x1000)] }, by decide +kernel, by unfold CoreFree CoreQuiet; decide +kernel, by decide +kernel, by decide +kernel, by decide +kernel, by decide +kernel⟩,
   ⟨fetched 0xFFFFFFFF, coreOn [(kSR, 4 * 2 ^ 24), (kPC, 0x1000)], { regs := [(kSR, 4 * 2 ^ 24), (kPC, 0x1000)] }, by decide +kernel, by unfold CoreFree CoreQuiet; decide +kernel, by decide +kernel, by decide +kernel, by decide +kernel⟩,
   ⟨fetched 0xA0000000, coreOn [(kPC, 0x1000)], by decide +kernel⟩,
   ⟨.nop, { fetched 0xA0000000 with err := some ST_WLT_TIMEOUT }, (coreOn [(kVBR, 0x100), (kPC, 0x1000)]).wrMem 4 0x10C 0x8003, { regs := [(kVBR, 0x100), (kPC, 0x1000)] }, ST_WLT_TIMEOUT, by decide +kernel, by unfold CoreFree CoreQuiet; decide +kernel, by decide +kernel, by decide +kernel, by decide +kernel, by decide +kernel⟩,
   ⟨.nop, fetched 0xA0000000, weltUp, by decide +kernel⟩⟩

theorem witness_AwlControl :
    (∃ (s : State) (c : Fin 384), s.dieUp (c / 32) = true ∧ (s.mode = RUN ∨ s.mode = SHIFT) ∧ awlState s c = awlRESET) ∧
    (∃ (s : State) (c : Fin 384), s.dieUp (c / 32) = true ∧ s.mode ≠ RUN ∧ s.mode ≠ SHIFT) ∧
    (∃ (s : State) (c : Fin 384), s.dieUp (c / 32) = true ∧ awlState s c = awlRUN ∧ (s.core c).lk = none ∧ (s.core c).loads = [] ∧ (s.core c).stq = []) ∧
    (∃ (s : State) (c : Fin 384), s.dieUp (c / 32) = true) ∧
    (∃ (s : State) (c : Fin 384) (v : BitVec 32), s.dieUp (c / 32) = true) ∧
    (∃ (s : State) (c : Fin 384) (k : Fin 16), s.dieUp (c / 32) = true ∧ bit (s.core c).lines k = 0 ∧ bit (s.rdi AWL_ICFG_EDGE (oAwl c)) k = 1) ∧
    (∃ (s : State) (c : Fin 384) (k : Fin 16), s.dieUp (c / 32) = true) ∧
    (∃ (s : State) (c : Fin 384) (n : Nat) (a : Arch), CoreFree c s ∧ (s.core c).arch = a ∧ bit a.sr 23 = 1 ∧ bestSrc s c (irqFloor s c) = some n) ∧
    (∃ (s : State) (c : Fin 384), CoreFree c s ∧ bit (s.core c).arch.sr 23 = 0) ∧
    (∃ (s : State) (c : Fin 384), wdRuns s c = true ∧ (s.core c).wdFirst = false) ∧
    (∃ (s : State) (c : Fin 384), wdRuns s c = true ∧ (s.core c).wdFirst = true ∧ s.rdi AWL_WDGCFG_ACT (oAwl c) ≠ 1) ∧
    (∃ (s : State) (c : Fin 384), s.mode ≠ DORMANT ∧ wdRuns s c = true ∧ (s.core c).wdFirst = true ∧ s.rdi AWL_WDGCFG_ACT (oAwl c) = 1) :=
  ⟨⟨weltUp, 0, by decide +kernel, by decide +kernel, by decide +kernel⟩,
   ⟨(inMode HOLD).dieOn 11, 383, by decide +kernel, by decide +kernel, by decide +kernel⟩,
   ⟨coreOn [(kPC, 0x1000)], 0, by decide +kernel, by decide +kernel, by decide +kernel, by decide +kernel, by decide +kernel⟩,
   ⟨(coreOn [(kPC, 0x1000), (kVBR, 0x100)]).modCore 0 (fun k => { k with dlines := [3] }), 0, by decide +kernel⟩,
   ⟨((coreOn [(kPC, 0x1000)]).wri AWL_STAT_STATE (oAwl 0) awlWAIT).wri AWL_IEN_EN (oAwl 0) 1, 0, 1, by decide +kernel⟩,
   ⟨(coreOn [(kPC, 0x1000)]).wri AWL_ICFG_EDGE (oAwl 0) 0x8000, 0, 15, by decide +kernel, by decide +kernel, by decide +kernel⟩,
   ⟨(coreOn [(kPC, 0x1000)]).modCore 0 (fun k => { k with lines := 0x8000 }), 0, 15, by decide +kernel⟩,
   ⟨(((coreOn [(kSR, 0x800000), (kVBR, 0x100), (kPC, 0x1000)]).wri AWL_IEN_EN (oAwl 0) 0x80000000).wri AWL_IPRI1_PRI (oAwl 0) 0xC0000000).modCore 0 (fun k => { k with soft := 0x80000000 }), 0, 31, { regs := [(kSR, 0x800000), (kVBR, 0x100), (kPC, 0x1000)] }, by unfold CoreFree CoreQuiet; decide +kernel, by decide +kernel, by decide +kernel, by decide +kernel⟩,
   ⟨coreOn [(kPC, 0x1000)], 0, by unfold CoreFree CoreQuiet; decide +kernel, by decide +kernel⟩,
   ⟨(coreOn [(kPC, 0x1000)]).wri AWL_WDGCFG_EN (oAwl 0) 1, 0, by decide +kernel, by decide +kernel⟩,
   ⟨((coreOn [(kPC, 0x1000)]).wri AWL_WDGCFG_EN (oAwl 0) 1).modCore 0 (fun k => { k with wdFirst := true }), 0, by decide +kernel, by decide +kernel, by decide +kernel⟩,
   ⟨(((coreOn [(kPC, 0x1000)]).wri AWL_WDGCFG_EN (oAwl 0) 1).wri AWL_WDGCFG_ACT (oAwl 0) 1).modCore 0 (fun k => { k with wdFirst := true }), 0, by decide +kernel, by decide +kernel, by decide +kernel, by decide +kernel⟩⟩

theorem witness_DramTraffic :
    (∃ (s : State) (q : Req) (c : Nat), reqOk q = true ∧ NetIdle s ∧ PortOpen q.src s ∧ TagFree q.src q.tag s ∧ bits q.addr 8 3 = c ∧ injectCheck s { q with op := RD } = .inr (epDram c) ∧ drcState s c = drcREADY ∧ s.rdi DRC_FILLWM_WM (oCh c) = 0 ∧ (s.chan c).wq = [] ∧ (s.chan c).marks = []) ∧
    (∃ (s : State) (q : Req) (c : Nat) (w : WUnit), reqOk q = true ∧ NetIdle s ∧ PortOpen q.src s ∧ TagFree q.src q.tag s ∧ bits q.addr 8 3 = c ∧ q.units = [w] ∧ w.first = 0 ∧ w.last = 63 ∧ injectCheck s { q with op := WR } = .inr (epDram c) ∧ drcState s c = drcREADY ∧ s.rdi DRC_FILLWM_WM (oCh c) = 0 ∧ (s.chan c).wq = []) ∧
    (∃ (s : State) (c : Fin 8) (i : Fin 64) (e : WqEnt), (s.chan c).wq[i.val]? = some e ∧ drcState s c = drcREADY ∧ (s.chan c).wq.filter (fun x => x.line / 2 == e.line / 2) = [e] ∧ tabGet 0 (s.chan c).marks e.line = 0 ∧ tabGet 0 (s.chan c).marks (2 * (e.line / 2)) = 0 ∧ tabGet 0 (s.chan c).marks (2 * (e.line / 2) + 1) = 0) ∧
    (∃ (s : State) (c : Fin 8) (b : Fin 32), drcState s c = drcREADY ∧ tabGet 0 (s.chan c).post b < 4) ∧
    (∃ (s : State) (c : Fin 8) (b : Fin 32) (postpone : Bool), drcState s c = drcREADY ∧ (postpone = false ∨ 4 ≤ tabGet 0 (s.chan c).post b)) ∧
    (∃ (s : State) (c : Fin 8) (x : Int), 85 < x ∧ x ≤ 95) ∧
    (∃ (s : State) (c : Fin 8) (x : Int), 95 < x) ∧
    (∃ (s : State) (c : Fin 8) (x : Int), x < 82) ∧
    (∃ (s : State) (c : Fin 8) (wm : Nat), drcState s c = drcREADY ∧ wm < s.rdi DRC_FILLWM_WM (oCh c) ∧ wm < 2 ^ DRC_FILLWM_WM.w) :=
  ⟨⟨(((weltUp.wr DRC_GEOM_SIZE 1).wri DRC_CHSTAT_STATE (oCh 7) 2).wri DRC_FILLWM_WM (oCh 7) 0).wrMem 8 0x700 0x1122334455667788, { reqTo 0x700 [] with bfirst := 1, uidx := 3 }, 7, by decide +kernel, by unfold NetIdle; decide +kernel, by unfold PortOpen; decide +kernel, by unfold TagFree; decide +kernel, by decide +kernel, by decide +kernel, by decide +kernel, by decide +kernel, by decide +kernel, by decide +kernel⟩,
   ⟨((weltUp.wr DRC_GEOM_SIZE 1).wri DRC_CHSTAT_STATE (oCh 7) 2).wri DRC_FILLWM_WM (oCh 7) 0, reqTo 0x1FFFFFFC0 [⟨0, 63, 2 ^ 512 - 1⟩], 7, ⟨0, 63, 2 ^ 512 - 1⟩, by decide +kernel, by unfold NetIdle; decide +kernel, by unfold PortOpen; decide +kernel, by unfold TagFree; decide +kernel, by decide +kernel, by decide +kernel, by decide +kernel, by decide +kernel, by decide +kernel, by decide +kernel, by decide +kernel, by decide +kernel⟩,
   ⟨((inMode RUN).wri DRC_CHSTAT_STATE (oCh 7) 2).modChan 7 (fun k => { k with wq := [⟨8, 1, 3⟩, ⟨5, 0x8000000000000001, 2 ^ 511 + 7⟩] }), 7, 1, ⟨5, 0x8000000000000001, 2 ^ 511 + 7⟩, by decide +kernel, by decide +kernel, by decide +kernel, by decide +kernel, by decide +kernel, by decide +kernel⟩,
   ⟨((inMode RUN).wri DRC_CHSTAT_STATE (oCh 7) 2).modChan 7 (fun k => { k with post := [(31, 3)] }), 7, 31, by decide +kernel, by decide +kernel⟩,
   ⟨((inMode RUN).wri DRC_CHSTAT_STATE (oCh 7) 2).modChan 7 (fun k => { k with post := [(31, 4)], rows := [(31, 3)] }), 7, 31, true, by decide +kernel, by decide +kernel⟩,
   ⟨inMode RUN, 7, 95, by decide +kernel, by decide +kernel⟩,
   ⟨inMode RUN, 7, 96, by decide +kernel⟩,
   ⟨((inMode RUN).wri DRC_CHSTAT_HOT (oCh 7) 1).wri DRC_CHSTAT_TRATE (oCh 7) 1, 7, 81, by decide +kernel⟩,
   ⟨((inMode RUN).wri DRC_CHSTAT_STATE (oCh 7) 2).wri DRC_FILLWM_WM (oCh 7) 5, 7, 0, by decide +kernel, by decide +kernel, by decide +kernel⟩⟩

theorem witness_DramTraining :
    (∃ (s : State) (c : Fin 8) (edges : List (Nat × Nat × Nat)) (runs : List (Nat × Nat × Nat × Nat)) (now : Bool), drcState s c = drcREADY ∧ (now = false → s.rd DRC_CTL_TRKEN = 1) ∧ (now = true → s.rdi DRC_CHCMD_BUSY (oCh c) = 0) ∧ (∀ i, i < 20 → ∃ l r, edges.find? (fun e => e.1 == i) = some (i, l, r) ∧ l + s.rd DRC_TRKCFG_MINEYE ≤ r + 1)) ∧
    (∃ (s : State) (c : Fin 8) (lane : Fin 16) (runs : List (Nat × Nat × Nat × Nat)), drcState s c = drcREADY ∧ s.rdi DRC_CHCMD_BUSY (oCh c) = 0 ∧ lane.val < 10 ∧ s.rd DRC_TRKCFG_MINEYE ≤ (eyeSearch runs (c.val * 20 + lane.val)).1 ∧ s.rd DRC_TRKCFG_MINEYE ≤ (eyeSearch runs (c.val * 20 + (10 + lane.val))).1) ∧
    (∃ (s : State) (c : Fin 8) (lane : Fin 16) (runs : List (Nat × Nat × Nat × Nat)), s.mode ≠ DORMANT ∧ drcState s c = drcREADY ∧ s.rdi DRC_CHCMD_BUSY (oCh c) = 0 ∧ lane.val < 10 ∧ (eyeSearch runs (c.val * 20 + lane.val)).1 < s.rd DRC_TRKCFG_MINEYE) ∧
    (∃ (s : State) (c : Fin 8) (lane : Fin 16) (runs : List (Nat × Nat × Nat × Nat)), drcState s c ≠ drcREADY ∧ s.rdi DRC_CHCMD_BUSY (oCh c) = 0 ∧ lane.val < 10) ∧
    (∃ (s : State) (c : Fin 8) (bad line : Nat), drcState s c = drcREADY ∧ s.rdi DRC_CHCMD_BUSY (oCh c) = 0 ∧ s.rdi DRC_CHARG_LINE (oCh c) = line ∧ line < 2 * drcPairs s ∧ line < 2 ^ DRC_REMAPA_LINE.w ∧ (∀ e, e < 16 → s.rdi DRC_REMAPA_VALID (oCh c + 8 * e) = 0) ∧ bad < 4 ∧ s.rdi DRC_SPNEXT_NEXT (oCh c) + bad < 7680 ∧ (s.chan c).wq = [] ∧ (s.chan c).marks = []) ∧
    (∃ (s : State) (c : Fin 8) (bad : Nat), drcState s c = drcREADY ∧ s.rdi DRC_CHCMD_BUSY (oCh c) = 0 ∧ s.rdi DRC_CHARG_LINE (oCh c) < 2 * drcPairs s ∧ 7680 ≤ s.rdi DRC_SPNEXT_NEXT (oCh c)) :=
  ⟨⟨((((inMode RUN).wri DRC_CHSTAT_STATE (oCh 7) 2).wr DRC_CTL_TRKEN 1).wr DRC_TRKCFG_MINEYE 20).modChan 7 (fun k => { k with eyes := (List.range 20).map fun i => (i, { left := 10, right := 40, centre := 25, vref := 3 }) }), 7, (List.range 20).map (fun i => (i, 0, 19)), [], false, by decide +kernel, by decide +kernel, by decide +kernel, fun i h => ⟨0, 19, by revert h; revert i; decide +kernel⟩⟩,
   ⟨((inMode RUN).wri DRC_CHSTAT_STATE (oCh 7) 2).wr DRC_TRKCFG_MINEYE 20, 7, 9, [(149, 28, 10, 40), (149, 30, 10, 42), (159, 28, 10, 29)], by decide +kernel, by decide +kernel, by decide +kernel, by decide +kernel, by decide +kernel⟩,
   ⟨((inMode RUN).wri DRC_CHSTAT_STATE (oCh 7) 2).wr DRC_TRKCFG_MINEYE 20, 7, 9, [(149, 28, 10, 28), (159, 28, 10, 29)], by decide +kernel, by decide +kernel, by decide +kernel, by decide +kernel, by decide +kernel⟩,
   ⟨inMode RUN, 7, 9, [], by decide +kernel, by decide +kernel, by decide +kernel⟩,
   ⟨(((((inMode RUN).wri DRC_CHSTAT_STATE (oCh 7) 2).wr DRC_GEOM_SIZE 1).wri DRC_CHARG_LINE (oCh 7) (2 ^ 24 - 1)).wri DRC_SPNEXT_NEXT (oCh 7) 7676).wri DRC_FILLWM_WM (oCh 7) 0, 7, 3, 2 ^ 24 - 1, by decide +kernel, by decide +kernel, by decide +kernel, by decide +kernel, by decide +kernel, by decide +kernel, by decide +kernel, by decide +kernel, by decide +kernel, by decide +kernel⟩,
   ⟨((((inMode RUN).wri DRC_CHSTAT_STATE (oCh 7) 2).wr DRC_GEOM_SIZE 1).wri DRC_CHARG_LINE (oCh 7) 3).wri DRC_SPNEXT_NEXT (oCh 7) 7680, 7, 0, by decide +kernel, by decide +kernel, by decide +kernel, by decide +kernel⟩⟩

theorem witness_CobblerSweeps :
    (∃ (s : State) (loc : Nat), s.mode ≠ DORMANT ∧ bit (s.rd COB_CTL_EN) 3 ≠ 0 ∧ tabGet 0 s.cob.pos 3 ≤ sweepOrder 12 loc 0 ∧ loc < 2 ^ 22 ∧ swept s 3 12 loc 0 = true ∧ locMark s 3 12 loc 0 = 0) ∧
    (∃ (s : State) (loc : Nat), s.mode ≠ DORMANT ∧ bit (s.rd COB_CTL_EN) 3 ≠ 0 ∧ tabGet 0 s.cob.pos 3 ≤ sweepOrder 12 loc 0 ∧ loc < 2 ^ 22 ∧ swept s 3 12 loc 0 = true ∧ locMark s 3 12 loc 0 = 0 ∧ (s.cob.queue.filter fun x => x.1 == 3).length < 64) ∧
    (∃ (s : State) (loc : Nat), s.mode ≠ DORMANT ∧ bit (s.rd COB_CTL_EN) 3 ≠ 0 ∧ tabGet 0 s.cob.pos 3 ≤ sweepOrder 12 loc 0 ∧ loc < 2 ^ 22 ∧ swept s 3 12 loc 0 = true ∧ locMark s 3 12 loc 0 = 0) ∧
    (∃ (s : State) (die : Fin 13) (fid : Nat) (copy : Fin 4), s.mode ≠ DORMANT ∧ bit (s.rd COB_CTL_EN) 0 ≠ 0 ∧ tabGet 0 s.cob.pos 0 ≤ sweepOrder die fid copy ∧ frameDie fid = die.val ∧ copy.val = activeOf s (frameUnit fid) ∧ copy.val < 2 ∧ swept s 0 die fid copy = true) ∧
    (∃ (s : State) (miss : Bool) (bad loc : Nat), s.cob.queue.find? (fun x => x.1 == 3) = some (3, 12, loc) ∧ loc < 2 ^ 22 ∧ locMark s 3 12 loc 0 = 1 ∧ (3, 12, loc) ∉ s.cob.due) ∧
    (∃ (s : State) (bad fid die : Nat), s.cob.queue.find? (fun x => x.1 == 0) = some (0, die, fid) ∧ (0, die, fid) ∉ s.cob.due ∧ frameMark s fid 0 < 3 ∧ frameMark s fid 1 < 3 ∧ tabGet 0 s.cfg.ftBad fid = 0) ∧
    (∃ (s : State) (k : Fin 5), s.mode ≠ DORMANT ∧ bit (s.rd COB_CTL_EN) k ≠ 0 ∧ bit (s.rd COB_STAT_LATE) k = 0) :=
  ⟨⟨(inMode RUN).wr COB_CTL_EN 8, 0x10000, by decide +kernel, by decide +kernel, by decide +kernel, by decide +kernel, by decide +kernel, by decide +kernel⟩,
   ⟨(inMode RUN).wr COB_CTL_EN 8, 2 ^ 22 - 1, by decide +kernel, by decide +kernel, by decide +kernel, by decide +kernel, by decide +kernel, by decide +kernel, by decide +kernel⟩,
   ⟨(inMode RUN).wr COB_CTL_EN 8, 2 ^ 22 - 1, by decide +kernel, by decide +kernel, by decide +kernel, by decide +kernel, by decide +kernel, by decide +kernel⟩,
   ⟨{ ((inMode RUN).dieOn 11).wr COB_CTL_EN 1 with cfg := { fst := [(2 * (11 * 40960 + 5), 1)] } }, 11, 11 * 40960 + 5, 0, by decide +kernel, by decide +kernel, by decide +kernel, by decide +kernel, by decide +kernel, by decide +kernel, by decide +kernel⟩,
   ⟨{ inMode RUN with cob := { queue := [(2, 0, 5), (3, 12, 77)] }, marks := [(lastLocAddr 77, 1)] }, false, 0, 77, by decide +kernel, by decide +kernel, by decide +kernel, by decide +kernel⟩,
   ⟨{ inMode RUN with cob := { queue := [(0, 11, 5)] }, cfg := { marks := [(10, 2), (11, 1)], data := [(10, 5)] } }, 0, 5, 11, by decide +kernel, by decide +kernel, by decide +kernel, by decide +kernel, by decide +kernel⟩,
   ⟨(inMode RUN).wr COB_CTL_EN 16, 4, by decide +kernel, by decide +kernel, by decide +kernel⟩⟩

theorem witness_CobblerPolicy :
    (∃ (s : State) (k : Nat), k < 5) ∧
    (∃ (s : State) (k : Fin 5), tabGet 0 s.cob.halved k ≠ 0) ∧
    (∃ s : State, s.cob.hist ≠ []) ∧
    (∃ s : State, s.rd PWR_STAT_NVINH ≠ 1 ∧ s.mode ≠ DORMANT ∧ s.cob.rsPend ≠ []) ∧
    (∃ s : State, s.rd PWR_STAT_NVINH = 1) ∧
    (∃ (s : State) (k : Fin 8), k.val < 5) ∧
    (∃ (s : State) (k : Fin 8), 5 ≤ k.val) ∧
    (∃ s : State, s.mode = HOLD) ∧
    (∃ s : State, s.mode ≠ HOLD) :=
  ⟨⟨{ (((inMode RUN).wr COB_BURST_BTH 5).wr COB_BURST_EN 0x1F).wr COB_BURST_FACTOR 2 with cob := { sec := [(4, 6)] } }, 4, by decide +kernel⟩,
   ⟨{ (inMode RUN).wr COB_STAT_BURST 0x1F with cob := { halved := [(4, 1)] } }, 4, by decide +kernel⟩,
   ⟨{ inMode RUN with cob := { hist := [⟨3, 12, 5, 1, 900⟩, ⟨3, 12, 6, 1, 800⟩, ⟨3, 12, 7, 2, 800⟩] } }, by decide +kernel⟩,
   ⟨{ (inMode RUN).wr PWR_STAT_NVINH 0 with cob := { rsPend := [⟨3, 12, 0, 5, 1⟩], rs := [⟨3, 12, 0, 4, 1⟩] } }, by decide +kernel, by decide +kernel, by decide +kernel⟩,
   ⟨(inMode RUN).wr PWR_STAT_NVINH 1, by decide +kernel⟩,
   ⟨{ inMode RUN with cob := { pos := [(4, 77)] } }, 4, by decide +kernel⟩,
   ⟨inMode RUN, 5, by decide +kernel⟩,
   ⟨{ inMode HOLD with cob := { rs := [⟨3, 12, 0, 4, 1⟩] } }, by decide +kernel⟩,
   ⟨inMode RUN, by decide +kernel⟩⟩

theorem witness_SazorLinks :
    (∃ (s : State) (b : Fin 8) (t : SzTrain), s.mode ≠ DORMANT ∧ s.rdi SZL_BCTL_EN (oBun b) = 1 ∧ s.rdi SZL_PWR_TXREQ (oBun b) ≠ 3 ∧ (szlState s b = 2 ∨ szlState s b = 5) ∧ t.lock = true ∧ t.rxOk = 0xFF ∧ bits t.rcapw.toNat 0 8 = 255 ∧ t.txHalf = false) ∧
    (∃ (s : State) (b : Fin 8) (t : SzTrain), s.mode ≠ DORMANT ∧ s.rdi SZL_BCTL_EN (oBun b) = 1 ∧ s.rdi SZL_PWR_TXREQ (oBun b) ≠ 3 ∧ szlState s b = 2 ∧ t.lock = true ∧ t.rxOk = 0x0F ∧ bits t.rcapw.toNat 0 8 = 255 ∧ bit t.rcapw.toNat 9 = 1 ∧ t.txHalf = false ∧ s.rdi SZL_BCTL_MINWIDTH (oBun b) ≤ 1 ∧ t.peerMin ≤ 1) ∧
    (∃ (s : State) (b : Fin 8) (t : SzTrain), s.mode ≠ DORMANT ∧ s.rdi SZL_BCTL_EN (oBun b) = 1 ∧ s.rdi SZL_PWR_TXREQ (oBun b) ≠ 3 ∧ (szlState s b = 2 ∨ szlState s b = 5) ∧ t.lock = false) ∧
    (∃ (s : State) (b : Fin 8), szlState s b = 6 ∧ s.rdi SZL_BCTL_EN (oBun b) = 1) ∧
    (∃ (s : State) (b : Fin 8), szlUp s b = true) ∧
    (∃ (s : State) (b : Fin 8), szlState s b = 0 ∨ szlState s b = 1 ∨ szlState s b = 6) ∧
    (∃ (s : State) (b : Fin 8) (f : Flit) (ack : BitVec 12) (crq crs : BitVec 8), szlUp s b = true ∧ f.kind = 1 ∧ f.seq = ((s.bundle b).got + 1) % 4096 ∧ f.unit + 1 = max 1 f.req.units.length) ∧
    (∃ (s : State) (b : Fin 8) (f : Flit) (ack : BitVec 12) (crq crs : BitVec 8), szlUp s b = true ∧ f.seq ≠ ((s.bundle b).got + 1) % 4096) ∧
    (∃ (s : State) (b : Fin 8) (f : Flit) (ack : BitVec 12) (nak : Bool) (crq crs : BitVec 8) (cw : Fin 3), szlUp s b = true) ∧
    (∃ (s : State) (b : Fin 8) (g : Flit) (pre post : List Flit) (crq crs : BitVec 8), szlUp s b = true ∧ (s.bundle b).txq = [] ∧ (s.bundle b).replay = pre ++ g :: post ∧ g.seq < 4096 ∧ (∀ x ∈ pre, x.seq ≠ g.seq)) ∧
    (∃ (s : State) (b : Fin 8) (f : Flit) (l : List Flit), szlUp s b = true ∧ (s.bundle b).replay = f :: l ∧ (s.bundle b).again.1 ≠ f.seq) ∧
    (∃ (s : State) (b : Fin 8) (f : Flit) (l : List Flit), szlUp s b = true ∧ (s.bundle b).replay = f :: l ∧ (s.bundle b).again = (f.seq, 7)) ∧
    (∃ (s : State) (b : Fin 8), bundleSends s b = true ∧ (s.bundle b).txq = [] ∧ (s.bundle b).owed = true) ∧
    (∃ (s : State) (q : Req) (b w : Nat), inBridge q.addr = true ∧ NetIdle s ∧ PortOpen q.src s ∧ TagFree q.src q.tag s ∧ q.op = RD ∧ q.units = [] ∧ injectCheck s q = .inr (epBridge (w / 8)) ∧ windowOf q.addr = w ∧ w < 16 ∧ s.rdi WLT_BRWIN_BUNDLE (8 * w) = b ∧ s.rdi WLT_BRBASE_RMOD (8 * w) = bits (s.rdi SZL_RCAPW_WORD (oBun b)) 20 8 ∧ bundleSends s b = true ∧ (s.bundle b).txq = [] ∧ (s.bundle b).replay.length < 512 ∧ 0 < (s.bundle b).crq) ∧
    (∃ (s : State) (b : Fin 8) (q : Req) (l : List Req) (tag dst : Nat), (s.bundle b).waiting = [] ∧ (s.bundle b).arrived = q :: l ∧ admitted s b q = true ∧ q.op = RD ∧ bridgeFreeTag s (epBridge (b / 4)) = some tag ∧ injectCheck s { q with src := epBridge (b / 4), cls := 1, tag } = .inr dst) ∧
    (∃ (s : State) (b : Fin 8) (q : Req) (l : List Req), (s.bundle b).waiting = [] ∧ (s.bundle b).arrived = q :: l ∧ admitted s b q = false ∧ opPosted q.op = false ∧ bundleSends s b = true ∧ (s.bundle b).txq = [] ∧ (s.bundle b).replay.length < 512 ∧ 0 < (s.bundle b).crs) :=
  ⟨⟨(((inMode RUN).wri SZL_BCTL_EN (oBun 7) 1).wri SZL_BSTAT_STATE (oBun 7) 2), 7, { rcapw := 0x120013FF, rxOk := 0xFF }, by decide +kernel, by decide +kernel, by decide +kernel, by decide +kernel, by decide +kernel, by decide +kernel, by decide +kernel, by decide +kernel⟩,
   ⟨(((inMode RUN).wri SZL_BCTL_EN (oBun 7) 1).wri SZL_BSTAT_STATE (oBun 7) 2).wri SZL_BCTL_MINWIDTH (oBun 7) 1, 7, { rcapw := 0x120013FF, rxOk := 0x0F, peerMin := 1 }, by decide +kernel, by decide +kernel, by decide +kernel, by decide +kernel, by decide +kernel, by decide +kernel, by decide +kernel, by decide +kernel, by decide +kernel, by decide +kernel, by decide +kernel⟩,
   ⟨(((inMode RUN).wri SZL_BCTL_EN (oBun 7) 1).wri SZL_BSTAT_STATE (oBun 7) 5), 7, { lock := false }, by decide +kernel, by decide +kernel, by decide +kernel, by decide +kernel, by decide +kernel⟩,
   ⟨(((inMode RUN).wri SZL_BCTL_EN (oBun 7) 1).wri SZL_BSTAT_STATE (oBun 7) 6), 7, by decide +kernel, by decide +kernel⟩,
   ⟨(((inMode RUN).wri SZL_BCTL_EN (oBun 7) 1).wri SZL_BSTAT_STATE (oBun 7) 4), 7, by decide +kernel⟩,
   ⟨{ inMode RUN with bundles := [(7, { txq := [{ kind := 1 }], replay := [{ kind := 2 }] })] }, 7, by decide +kernel⟩,
   ⟨(inMode RUN).wri SZL_BSTAT_STATE (oBun 7) 3, 7, { kind := 1, seq := 0, req := { op := RD } }, 0, 0, 0, by decide +kernel, by decide +kernel, by decide +kernel, by decide +kernel⟩,
   ⟨(inMode RUN).wri SZL_BSTAT_STATE (oBun 7) 3, 7, { kind := 1, seq := 1, req := { op := RD } }, 0, 0, 0, by decide +kernel, by decide +kernel⟩,
   ⟨(inMode RUN).wri SZL_BSTAT_STATE (oBun 7) 3, 7, { kind := 1, seq := 0, req := { op := RD } }, 0, false, 0, 0, 0, by decide +kernel⟩,
   ⟨{ (inMode RUN).wri SZL_BSTAT_STATE (oBun 7) 3 with bundles := [(7, { replay := [{ kind := 1, seq := 4094 }, { kind := 1, seq := 4095 }, { kind := 1, seq := 0 }] })] }, 7, { kind := 1, seq := 4095 }, [{ kind := 1, seq := 4094 }], [{ kind := 1, seq := 0 }], 0, 0, by decide +kernel, by decide +kernel, by decide +kernel, by decide +kernel, by decide +kernel⟩,
   ⟨{ (inMode RUN).wri SZL_BSTAT_STATE (oBun 7) 3 with bundles := [(7, { replay := [{ kind := 1, seq := 9 }], again := (3, 2) })] }, 7, { kind := 1, seq := 9 }, [], by decide +kernel, by decide +kernel, by decide +kernel⟩,
   ⟨{ (inMode RUN).wri SZL_BSTAT_STATE (oBun 7) 3 with bundles := [(7, { replay := [{ kind := 1, seq := 9 }], again := (9, 7) })] }, 7, { kind := 1, seq := 9 }, [], by decide +kernel, by decide +kernel, by decide +kernel⟩,
   ⟨{ (inMode RUN).wri SZL_BSTAT_STATE (oBun 7) 3 with bundles := [(7, { got := 9, owed := true, owedRs := 300 })] }, 7, by decide +kernel, by decide +kernel, by decide +kernel⟩,
   ⟨((((weltUp.wri SZL_BSTAT_STATE (oBun 7) 3).wri WLT_BRWIN_EN 120 1).wri WLT_BRWIN_BUNDLE 120 7).wri WLT_BRBASE_RMOD 120 (bits 0x120013FF 20 8)).wri SZL_RCAPW_WORD (oBun 7) 0x120013FF, { reqTo 0xDE00000000 [] with op := RD }, 7, 15, by decide +kernel, by unfold NetIdle; decide +kernel, by unfold PortOpen; decide +kernel, by unfold TagFree; decide +kernel, by decide +kernel, by decide +kernel, by decide +kernel, by decide +kernel, by decide +kernel, by decide +kernel, by decide +kernel, by decide +kernel, by decide +kernel, by decide +kernel, by decide +kernel⟩,
   ⟨((((weltUp.wri SZL_BSTAT_STATE (oBun 7) 3).wri SZL_ADMCTL_RDEN (oBun 7) 1).wri SZL_ADMBASE_BASE (oBun 7) 0x1000).wri SZL_ADMSIZE_SIZE (oBun 7) 1) |> fun s => { s with bundles := [(7, { arrived := [{ reqTo 0x4000200000 [] with op := RD, src := 5 }] })] }, 7, { reqTo 0x4000200000 [] with op := RD, src := 5 }, [], 0, epLast, by decide +kernel, by decide +kernel, by decide +kernel, by decide +kernel, by decide +kernel, by decide +kernel⟩,
   ⟨{ weltUp.wri SZL_BSTAT_STATE (oBun 7) 3 with bundles := [(7, { arrived := [{ reqTo 0x4000200000 [] with op := RD, src := 5 }] })] }, 7, { reqTo 0x4000200000 [] with op := RD, src := 5 }, [], by decide +kernel, by decide +kernel, by decide +kernel, by decide +kernel, by decide +kernel, by decide +kernel, by decide +kernel, by decide +kernel⟩⟩

theorem witness_SazorStreams :
    (∃ (s : State) (b : Fin 8) (cycles : Nat), s.rdi SZL_BSTAT_STRUP (oBun b) = 1 ∧ enabledEntries (szlMap s b).rx ≠ [] ∧ s.rdi SZL_BCTL_STRSAFE (oBun b) ≠ 1) ∧
    (∃ (s : State) (b : Fin 8) (cycles : Nat), s.mode ≠ DORMANT ∧ s.rdi SZL_BSTAT_STRUP (oBun b) = 1 ∧ enabledEntries (szlMap s b).rx ≠ [] ∧ s.rdi SZL_BCTL_STRSAFE (oBun b) = 1) ∧
    (∃ (s : State) (b : Fin 8) (cycles : Nat), s.rdi SZL_BSTAT_STRUP (oBun b) = 0) ∧
    (∃ (s : State) (b : Fin 8) (stag : BitVec 8) (gear : Fin 8) (cycles : Nat), szlUp s b = true ∧ enabledEntries (szlMap s b).rx ≠ [] ∧ (stag.toNat ≠ (szlMap s b).rxtag ∨ gear.val ≠ streamGear s b)) ∧
    (∃ (s : State) (b : Fin 8) (stag : BitVec 8) (gear : Fin 8) (cycles : Nat), szlUp s b = true ∧ enabledEntries (szlMap s b).rx ≠ [] ∧ stag.toNat = (szlMap s b).rxtag ∧ gear.val = streamGear s b) ∧
    (∃ (s : State) (b : Fin 8) (ppb : Int) (cycles : Nat), szlUp s b = true ∧ -100 ≤ ppb ∧ ppb ≤ 100) ∧
    (∃ (s : State) (b : Fin 8) (ppb : Int) (cycles : Nat), szlUp s b = true ∧ (ppb < -100 ∨ 100 < ppb) ∧ (s.rdi SZL_BSTAT_STRUP (oBun b) = 0 ∨ enabledEntries (szlMap s b).rx = [])) ∧
    (∃ (s : State) (b : Fin 8), szlUp s b = true ∧ (s.bundle b).txq = [] ∧ (s.bundle b).replay = [] ∧ (s.bundle b).owed = false ∧ txStreams s b = false ∧ s.rdi SZL_PWR_TXREQ (oBun b) = 0 ∧ s.rdi SZL_PWR_DOZEIDLE (oBun b) ≠ 0 ∧ s.rdi SZL_PWR_SLEEPIDLE (oBun b) ≠ 0 ∧ s.rdi SZL_PWR_TXST (oBun b) < 2) ∧
    (∃ (s : State) (b : Fin 8), szlUp s b = true ∧ s.rdi SZL_PWR_RXST (oBun b) < 2) ∧
    (∃ (s : State) (b : Fin 8), (s.bundle b).txq ≠ [] ∧ (s.rdi SZL_PWR_TXST (oBun b) = 1 ∨ s.rdi SZL_PWR_TXST (oBun b) = 2)) ∧
    (∃ (s : State) (b : Fin 8) (v : BitVec 32), bits v.toNat 30 2 = 3 ∧ s.rdi SZL_PWR_TXREQ (oBun b) ≠ 3 ∧ s.rdi SZL_BCTL_EN (oBun b) = 1) ∧
    (∃ (s : State) (b : Fin 8) (v : BitVec 32), bits v.toNat 30 2 ≠ 3 ∧ s.rdi SZL_PWR_TXREQ (oBun b) = 3 ∧ s.rdi SZL_BCTL_EN (oBun b) = 1) ∧
    (∃ (s : State) (b : Fin 8) (v : BitVec 32) (errs : List Nat), s.mode ≠ HOLD) ∧
    (∃ (s : State) (b : Fin 8) (v : BitVec 32) (errs : List Nat), s.mode = HOLD ∧ bits v.toNat 11 3 < 6) ∧
    (∃ (s : State) (b : Fin 8) (v : BitVec 32), bit v.toNat 15 = 1 ∧ s.mode ≠ HOLD) ∧
    (∃ (s : State) (b : Fin 8) (v : BitVec 32), bit v.toNat 15 = 1 ∧ (bit v.toNat 14 = 0 ∨ (1 ≤ bits v.toNat 8 6 ∧ bits v.toNat 8 6 ≤ 32)) ∧ s.mode = HOLD) :=
  ⟨⟨{ ((weltUp.wri SZL_BSTAT_STATE (oBun 7) 3).wri SZL_BSTAT_STRUP (oBun 7) 1).wri SZL_BCTL_STRSAFE (oBun 7) 0 with bundles := [(7, { map0 := { rx := [(0, 0x8000)] } })], express := { launch := [(4800, 1)] } }, 7, 3, by decide +kernel, by decide +kernel, by decide +kernel⟩,
   ⟨{ ((weltUp.wri SZL_BSTAT_STATE (oBun 7) 3).wri SZL_BSTAT_STRUP (oBun 7) 1).wri SZL_BCTL_STRSAFE (oBun 7) 1 with bundles := [(7, { map0 := { rx := [(0, 0x8000)] } })], express := { launch := [(4800, 1)] } }, 7, 3, by decide +kernel, by decide +kernel, by decide +kernel, by decide +kernel⟩,
   ⟨weltUp.wri SZL_BSTAT_STATE (oBun 7) 3, 7, 3, by decide +kernel⟩,
   ⟨{ (weltUp.wri SZL_BSTAT_STATE (oBun 7) 3).wri SZL_BSTAT_STRUP (oBun 7) 1 with bundles := [(7, { map0 := { rx := [(0, 0x8000)], rxtag := 255 } })], express := { launch := [(4800, 1)] } }, 7, 254, 0, 3, by decide +kernel, by decide +kernel, by decide +kernel⟩,
   ⟨{ (weltUp.wri SZL_BSTAT_STATE (oBun 7) 3).wri SZL_BSTAT_STRUP (oBun 7) 1 with bundles := [(7, { map0 := { rx := [(0, 0x8000)], rxtag := 255 } })], express := { launch := [(4800, 1)] } }, 7, 255, 0, 3, by decide +kernel, by decide +kernel, by decide +kernel, by decide +kernel⟩,
   ⟨weltUp.wri SZL_BSTAT_STATE (oBun 7) 3, 7, -100, 0, by decide +kernel, by decide +kernel, by decide +kernel⟩,
   ⟨weltUp.wri SZL_BSTAT_STATE (oBun 7) 3, 7, 101, 0, by decide +kernel, by decide +kernel, by decide +kernel⟩,
   ⟨((weltUp.wri SZL_BSTAT_STATE (oBun 7) 3).wri SZL_PWR_DOZEIDLE (oBun 7) 1).wri SZL_PWR_SLEEPIDLE (oBun 7) 1, 7, by decide +kernel, by decide +kernel, by decide +kernel, by decide +kernel, by decide +kernel, by decide +kernel, by decide +kernel, by decide +kernel, by decide +kernel⟩,
   ⟨weltUp.wri SZL_BSTAT_STATE (oBun 7) 3, 7, by decide +kernel, by decide +kernel⟩,
   ⟨{ (weltUp.wri SZL_BSTAT_STATE (oBun 7) 3).wri SZL_PWR_TXST (oBun 7) 2 with bundles := [(7, { txq := [{ kind := 1 }] })] }, 7, by decide +kernel, by decide +kernel⟩,
   ⟨(weltUp.wri SZL_BSTAT_STATE (oBun 7) 3).wri SZL_BCTL_EN (oBun 7) 1, 7, 0xC0000000, by decide +kernel, by decide +kernel, by decide +kernel⟩,
   ⟨((weltUp.wri SZL_BSTAT_STATE (oBun 7) 1).wri SZL_BCTL_EN (oBun 7) 1).wri SZL_PWR_TXREQ (oBun 7) 3, 7, 0x40000302, by decide +kernel, by decide +kernel, by decide +kernel⟩,
   ⟨weltUp, 7, 0, [], by decide +kernel⟩,
   ⟨inMode HOLD, 7, 0xFFFFEFFF, [], by decide +kernel, by decide +kernel⟩,
   ⟨weltUp, 7, 0x8000, by decide +kernel, by decide +kernel⟩,
   ⟨inMode HOLD, 7, 0xE0FF, by decide +kernel, by decide +kernel, by decide +kernel⟩⟩

theorem witness_PciePort :
    (∃ (s : State) (speed : Fin 6) (width : Nat) (ready msixEn busMaster funcMask d3 : Bool), s.mode ≠ DORMANT ∧ s.rd PWR_STAT_HOST ≠ 0 ∧ speed.val ≠ 0 ∧ width ∈ [1, 2, 4, 8, 16]) ∧
    (∃ (s : State) (i : Nat) (v : BitVec 32), i < 8192 ∧ pcieUp s = true ∧ s.rd PCI_STAT_DSTATE ≠ 3) ∧
    (∃ (s : State) (i : Nat), i < 8192 ∧ pcieUp s = true ∧ s.rd PCI_STAT_DSTATE ≠ 3) ∧
    (∃ (s : State) (off : BitVec 36) (data : Nat) (q : Req), pcieUp s = true ∧ s.rd PCI_STAT_DSTATE ≠ 3 ∧ off.toNat + 64 ≤ 2 ^ 25 ∧ off.toNat % 64 = 0 ∧ NetIdle s ∧ PortOpen epPcie s ∧ tagged (blockReqs epPcie WR (lastBase + off.toNat) 64 (data % 256 ^ 64)) s = some [q] ∧ TagFree epPcie q.tag s ∧ LastReady WR q s) ∧
    (∃ (s : State) (off : BitVec 36) (n : Fin 4097) (l : List Req), pcieUp s = true ∧ s.rd PCI_STAT_DSTATE ≠ 3 ∧ 1 ≤ n.val ∧ off.toNat + n.val ≤ 2 ^ 25 ∧ tagged (blockReqs epPcie RD (lastBase + off.toNat) n 0) s = some l) ∧
    (∃ (s : State) (bar : Fin 3) (off : BitVec 36) (be : List Bool) (data : Nat), pcieUp s = true ∧ (s.rd PCI_STAT_DSTATE = 3 ∨ (bar.val = 1 ∧ 2 ^ 25 < off.toNat + be.length))) ∧
    (∃ (s : State) (bar : Fin 3) (off : BitVec 36) (n : Fin 4097), pcieUp s = true ∧ (s.rd PCI_STAT_DSTATE = 3 ∨ (bar.val = 1 ∧ 2 ^ 25 < off.toNat + n.val))) ∧
    (∃ (s : State) (bar : Fin 3) (off : BitVec 36) (be : List Bool) (data : Nat) (n : Fin 4097), pcieUp s = false) :=
  ⟨⟨weltUp.wr PWR_STAT_HOST 1, 5, 16, true, true, true, false, false, by decide +kernel, by decide +kernel, by decide +kernel, by decide +kernel⟩,
   ⟨(weltUp.wr PCI_STAT_SPEED 3).wr PWR_STAT_HOST 1 |> fun s => { s with pcie := { cfgReady := true } }, 8191, 0x12345678, by decide +kernel, by decide +kernel, by decide +kernel⟩,
   ⟨(weltUp.wr PCI_STAT_SPEED 3).wr PWR_STAT_HOST 1 |> fun s => { s with pcie := { cfgReady := true } }, 8191, by decide +kernel, by decide +kernel, by decide +kernel⟩,
   ⟨(weltUp.wr PCI_STAT_SPEED 3).wr PWR_STAT_HOST 1 |> fun s => { s with pcie := { cfgReady := true } }, 0x1FFFFC0, 2 ^ 512 + 5, { reqTo 0x4001FFFFC0 [⟨0, 63, 5⟩] with src := epPcie, tag := 0, op := WR }, by decide +kernel, by decide +kernel, by decide +kernel, by decide +kernel, by unfold NetIdle; decide +kernel, by unfold PortOpen; decide +kernel, by decide +kernel, by unfold TagFree; decide +kernel, ⟨by decide +kernel, by decide +kernel, by decide +kernel, fun _ _ _ => rfl, by decide +kernel, by decide +kernel⟩⟩,
   ⟨(weltUp.wr PCI_STAT_SPEED 3).wr PWR_STAT_HOST 1 |> fun s => { s with pcie := { cfgReady := true } }, 0x1FFFFFF, 1, [{ reqTo 0x4001FFFFC0 [] with src := epPcie, tag := 0, op := RD, bfirst := 63, blast := 63 }], by decide +kernel, by decide +kernel, by decide +kernel, by decide +kernel, by decide +kernel⟩,
   ⟨((weltUp.wr PCI_STAT_SPEED 3).wr PWR_STAT_HOST 1).wr PCI_STAT_DSTATE 3 |> fun s => { s with pcie := { cfgReady := true } }, 0, 0, [true], 5, by decide +kernel, by decide +kernel⟩,
   ⟨(weltUp.wr PCI_STAT_SPEED 3).wr PWR_STAT_HOST 1 |> fun s => { s with pcie := { cfgReady := true } }, 1, 0x1FFFFFD, 4, by decide +kernel, by decide +kernel⟩,
   ⟨weltUp, 1, 0, [true], 5, 4, by decide +kernel⟩⟩

theorem witness_EthernetPorts :
    (∃ (s : State) (c : Fin 4) (v : BitVec 32), cageMode s c ≠ v.toNat % 2) ∧
    (∃ (s : State) (c : Fin 4) (v : BitVec 32), cageMode s c = v.toNat % 2) ∧
    (∃ (s : State) (p : Fin 16) (len data age : Nat) (good : Bool), s.mode ≠ DORMANT ∧ s.rdi ETH_PCTL_EN (oPort p) ≠ 0 ∧ s.rdi ETH_PSTAT_LINK (oPort p) ≠ 0 ∧ (good = false ∨ len < 60 ∨ 9212 < len)) ∧
    (∃ (s : State) (p : Fin 16) (len data age : Nat), s.mode ≠ DORMANT ∧ s.rdi ETH_PCTL_EN (oPort p) ≠ 0 ∧ s.rdi ETH_PSTAT_LINK (oPort p) ≠ 0 ∧ 60 ≤ len ∧ len ≤ 9212 ∧ ruleOf s p (data % 256 ^ len) = none) ∧
    (∃ (s : State) (p : Fin 16) (len data age i : Nat), s.mode ≠ DORMANT ∧ s.rdi ETH_PCTL_EN (oPort p) ≠ 0 ∧ s.rdi ETH_PSTAT_LINK (oPort p) ≠ 0 ∧ 60 ≤ len ∧ len ≤ 9212 ∧ ruleOf s p (data % 256 ^ len) = some i ∧ s.rdi ETH_RULEA_ACT (16 * i) = 0) ∧
    (∃ (s : State) (p : Fin 16) (len data age i : Nat), s.mode ≠ DORMANT ∧ s.rdi ETH_PCTL_EN (oPort p) ≠ 0 ∧ s.rdi ETH_PSTAT_LINK (oPort p) ≠ 0 ∧ 60 ≤ len ∧ len ≤ 9212 ∧ ruleOf s p (data % 256 ^ len) = some i ∧ ((s.rdi ETH_RULEA_ACT (16 * i) = 2 ∧ 256 < len) ∨ (s.rdi ETH_RULEA_ACT (16 * i) = 1 ∧ qEn s (s.rdi ETH_RULED_TGT (16 * i)) = false))) ∧
    (∃ (s : State) (p : Fin 16) (data age i : Nat), s.mode ≠ DORMANT ∧ s.rdi ETH_PCTL_EN (oPort p) ≠ 0 ∧ s.rdi ETH_PSTAT_LINK (oPort p) ≠ 0 ∧ ruleOf s p (data % 256 ^ 64) = some i ∧ s.rdi ETH_RULEA_ACT (16 * i) = 2) ∧
    (∃ (s : State) (i : Fin 64) (l : List Req) (a b : List (Nat × List Req)), s.eth.streams = a ++ (i.val, l) :: b ∧ (∀ x ∈ a, x.1 ≠ i.val)) ∧
    (∃ (s s1 s2 : State) (p : Fin 16) (c : Fin 8) (q desc data at_ : Nat), s.mode ≠ DORMANT ∧ ethExists s p = true ∧ s.rdi ETH_PCTL_EN (oPort p) ≠ 0 ∧ s.rdi ETH_PSTAT_LINK (oPort p) ≠ 0 ∧ s.rdi ETH_TXQ_EN (32 * p + 4 * c) ≠ 0 ∧ s.rdi ETH_TXQ_Q (32 * p + 4 * c) = q ∧ qEn s q = true ∧ qMc s q = false ∧ qHead s q ≠ qTail s q ∧ ethRead (descAddr s q (qHead s q)) 64 s = (.ok desc, s1) ∧ 60 ≤ bits desc 64 32 ∧ bits desc 64 32 ≤ 9212 ∧ bit desc 127 = 0 ∧ ethRead (desc % 2 ^ 48) (bits desc 64 32) s1 = (.ok data, s2) ∧ sendTime (tabGet {} s.eth.oper p) c (wireNs s p (bits desc 64 32)) s.clocks.tb = some at_) ∧
    (∃ (s : State) (p : Fin 16), s.rd ETH_GCLCMD_BUSY ≠ 1 ∧ ethExists s p = false) ∧
    (∃ (s : State) (p : Fin 16) (a n base cycle : Nat) (es : List (Nat × Nat)), s.rd ETH_GCLCMD_BUSY ≠ 1 ∧ ethExists s p = true ∧ a = lastBase + s.rd ETH_GCLADR_OFFSET ∧ s.rd ETH_GCLADR_OFFSET + 16 + 4 * n ≤ 0x2000000 ∧ p.val ∉ s.eth.gclPend ∧ s.rdMem 8 a = base ∧ s.rdMem 4 (a + 8) = cycle ∧ s.rdMem 4 (a + 12) = n ∧ n ≤ 256 ∧ es = ((List.range n).map fun i => (s.rdMem 1 (a + 16 + 4 * i + 3), s.rdMem 3 (a + 16 + 4 * i))) ∧ (es.map Prod.snd).sum = cycle) ∧
    (∃ (s : State) (p : Fin 16), p.val ∈ s.eth.gclPend) ∧
    (∃ (s : State) (p : Fin 16) (offset adj : Int) (iv : Nat), s.rd ETH_PTPCTL_EN ≠ 0 ∧ s.clocks.tbRun = true ∧ offset.natAbs ≤ 1000 ∧ adj.natAbs * 1000000 ≤ iv * 500) ∧
    (∃ (s : State) (p : Fin 16) (offset adj : Int) (iv : Nat), s.rd ETH_PTPCTL_EN ≠ 0 ∧ s.clocks.tbRun = true ∧ 1000 < offset.natAbs ∧ s.rd ETH_PTPCTL_STEPOK = 1 ∧ timePending s = false) ∧
    (∃ (s : State) (p : Fin 16) (offset adj : Int) (iv : Nat), s.rd ETH_PTPCTL_EN ≠ 0 ∧ s.clocks.tbRun = true) ∧
    (∃ s : State, s.rd ETH_PTPCTL_EN ≠ 0 ∧ s.rd ETH_PTPSTAT_SLAVEPORT ≠ 0x1F) :=
  ⟨⟨weltUp, 3, 1, by decide +kernel⟩,
   ⟨weltUp, 3, 2, by decide +kernel⟩,
   ⟨ethUp 0 0, 4, 59, 0, 0, true, by decide +kernel, by decide +kernel, by decide +kernel, by decide +kernel⟩,
   ⟨((ethUp 0 0).wri ETH_RULEA_EN 80 0).wri ETH_PCTL_DEFRULE (oPort 4) 64, 4, 60, 0, 0, by decide +kernel, by decide +kernel, by decide +kernel, by decide +kernel, by decide +kernel, by decide +kernel⟩,
   ⟨ethUp 0 0, 4, 9212, 1, 0, 5, by decide +kernel, by decide +kernel, by decide +kernel, by decide +kernel, by decide +kernel, by decide +kernel, by decide +kernel⟩,
   ⟨ethUp 2 0, 4, 257, 1, 0, 5, by decide +kernel, by decide +kernel, by decide +kernel, by decide +kernel, by decide +kernel, by decide +kernel, by decide +kernel⟩,
   ⟨ethUp 2 3, 4, 7, 0, 5, by decide +kernel, by decide +kernel, by decide +kernel, by decide +kernel, by decide +kernel⟩,
   ⟨{ weltUp with eth := { streams := [(2, []), (63, []), (63, [{}])] } }, 63, [], [(2, [])], [(63, [{}])], by decide +kernel, by decide +kernel⟩,
   ⟨ethSend, (ethRead (lastBase + 0x100000) 64 ethSend).2, (ethRead (lastBase + 0x200000) 60 (ethRead (lastBase + 0x100000) 64 ethSend).2).2, 4, 7, 3, lastBase + 0x200000 + 60 * 2 ^ 64, 0, 0, by decide +kernel, by decide +kernel, by decide +kernel, by decide +kernel, by decide +kernel, by decide +kernel, by decide +kernel, by decide +kernel, by decide +kernel, by decide +kernel, by decide +kernel, by decide +kernel, by decide +kernel, by decide +kernel, by decide +kernel⟩,
   ⟨weltUp, 1, by decide +kernel, by decide +kernel⟩,
   ⟨gclAt0, 4, lastBase + 0x100000, 1, 0, 1000, [(255, 1000)], by decide +kernel, by decide +kernel, by decide +kernel, by decide +kernel, by decide +kernel, by decide +kernel, by decide +kernel, by decide +kernel, by decide +kernel, by decide +kernel, by decide +kernel⟩,
   ⟨{ weltUp with eth := { gclPend := [3, 0], admin := [(0, { cycle := 5 })] } }, 0, by decide +kernel⟩,
   ⟨{ weltUp.wr ETH_PTPCTL_EN 1 with clocks := { tbRun := true } }, 4, 1000, -500, 1000000, by decide +kernel, by decide +kernel, by decide +kernel, by decide +kernel⟩,
   ⟨{ (weltUp.wr ETH_PTPCTL_EN 1).wr ETH_PTPCTL_STEPOK 1 with clocks := { tbRun := true } }, 4, -1001, -500, 1000000, by decide +kernel, by decide +kernel, by decide +kernel, by decide +kernel, by decide +kernel⟩,
   ⟨{ weltUp.wr ETH_PTPCTL_EN 1 with clocks := { tbRun := true } }, 4, 1000, -500, 1000000, by decide +kernel, by decide +kernel⟩,
   ⟨(weltUp.wr ETH_PTPCTL_EN 1).wr ETH_PTPSTAT_SLAVEPORT 3, by decide +kernel, by decide +kernel⟩⟩

theorem witness_GeneralIo :
    (∃ (s : State) (k : Fin 12) (n : Fin 32) (level : Bool) (t : Nat), s.rdi GIO_PCFG_EVEN (oPin k n) ≠ 0 ∧ (s.pin k n).filt ≠ level ∧ (s.pin k n).okAt ≤ t ∧ (s.pin k n).masked = false ∧ bit (s.rdi GIO_PCFG_EDGE (oPin k n)) (if pinActive s k n level then 0 else 1) = 1 ∧ (s.pin k n).evAt = none) ∧
    (∃ (s : State) (k : Fin 12) (n : Fin 32) (level : Bool) (t e : Nat), s.rdi GIO_PCFG_EVEN (oPin k n) ≠ 0 ∧ (s.pin k n).filt ≠ level ∧ (s.pin k n).okAt ≤ t ∧ (s.pin k n).masked = false ∧ bit (s.rdi GIO_PCFG_EDGE (oPin k n)) (if pinActive s k n level then 0 else 1) = 1 ∧ (s.pin k n).evAt = some e ∧ t < e + 20) ∧
    (∃ (s : State) (k : Fin 12) (n : Fin 32) (level : Bool) (t : Nat), s.rdi GIO_PCFG_EVEN (oPin k n) ≠ 0 ∧ (s.pin k n).filt ≠ level ∧ (s.pin k n).okAt ≤ t ∧ (s.pin k n).masked = true ∧ pinActive s k n level = false ∧ s.rdi GIO_STUCK_MASK (4 * k) < 2 ^ 32 ∧ bit (s.rdi GIO_STUCK_MASK (4 * k)) n = 1) ∧
    (∃ (s : State) (k : Fin 12) (n : Fin 32) (level : Bool) (t : Nat), s.rdi GIO_PCFG_EVEN (oPin k n) = 0 ∨ (s.pin k n).filt = level ∨ t < (s.pin k n).okAt) ∧
    (∃ (s : State) (k : Fin 12) (n : Fin 32) (e : Nat), (s.pin k n).masked = false ∧ (s.pin k n).evAt = some e ∧ (s.pin k n).merged ≠ 0) ∧
    (∃ (s : State) (k : Fin 12) (n : Fin 32), (s.pin k n).masked = true ∨ (s.pin k n).merged = 0) ∧
    (∃ (s : State) (k : Fin 12) (n : Fin 32) (t : Nat), (s.pin k n).since = some t ∧ s.rdi GIO_PCFG_EVEN (oPin k n) ≠ 0 ∧ (s.pin k n).masked = false ∧ stuckNs s k n ≠ 0) ∧
    (∃ (s : State) (k : Fin 12), s.rdi GIO_BSTAT_VFAULT (4 * k) ≠ 1 ∧ s.rdi GLB_DIESTAT_STATE (4 * k) < 2 ∧ s.mode ≠ DORMANT) ∧
    (∃ (s : State) (k : Fin 12), s.rdi GIO_BSTAT_VFAULT (4 * k) ≠ 1 ∧ 2 ≤ s.rdi GLB_DIESTAT_STATE (4 * k)) ∧
    (∃ (s : State) (k : Fin 12), s.rdi GIO_BSTAT_VFAULT (4 * k) = 1) ∧
    (∃ (s : State) (k : Fin 12), s.mode ≠ SAFE) :=
  ⟨⟨pinOn 11 31 {} 1, 11, 31, true, 0, by decide +kernel, by decide +kernel, by decide +kernel, by decide +kernel, by decide +kernel, by decide +kernel⟩,
   ⟨pinOn 11 31 { evAt := some 5, merged := 1 } 1, 11, 31, true, 24, 5, by decide +kernel, by decide +kernel, by decide +kernel, by decide +kernel, by decide +kernel, by decide +kernel, by decide +kernel⟩,
   ⟨(pinOn 11 31 { filt := true, masked := true } 2).wri GIO_STUCK_MASK 44 (2 ^ 31 + 1), 11, 31, false, 24, by decide +kernel, by decide +kernel, by decide +kernel, by decide +kernel, by decide +kernel, by decide +kernel, by decide +kernel⟩,
   ⟨pinOn 11 31 { okAt := 5 }, 11, 31, true, 4, by decide +kernel⟩,
   ⟨pinOn 11 31 { evAt := some 5, merged := 2 }, 11, 31, 5, by decide +kernel, by decide +kernel, by decide +kernel⟩,
   ⟨pinOn 11 31 { masked := true, merged := 2 }, 11, 31, by decide +kernel⟩,
   ⟨(pinOn 11 31 { since := some 5, filt := true }).wri GIO_PCFG_STUCK (oPin 11 31) 1, 11, 31, 5, by decide +kernel, by decide +kernel, by decide +kernel, by decide +kernel⟩,
   ⟨inMode RUN, 11, by decide +kernel, by decide +kernel, by decide +kernel⟩,
   ⟨(inMode RUN).wri GLB_DIESTAT_STATE 44 2, 11, by decide +kernel, by decide +kernel⟩,
   ⟨(inMode RUN).wri GIO_BSTAT_VFAULT 44 1, 11, by decide +kernel⟩,
   ⟨(inMode RUN).wri GIO_BSTAT_VFAULT 44 1, 11, by decide +kernel⟩⟩

theorem witness_SupplyAndRails :
    (∃ (s : State) (ov : Bool), s.rd PWR_STAT_MAINS ≠ 0) ∧
    (∃ s : State, s.power.stopped = 0 ∧ s.rd PWR_STAT_MAINS ≠ 1) ∧
    (∃ s : State, s.power.stopped ≠ 0) ∧
    (∃ (s : State) (m : Meas), s.rd PWR_STAT_MAIN ≠ 1) ∧
    (∃ (s : State) (m : Meas), s.rd PWR_STAT_MAIN = 1 ∧ s.rd PWR_STAT_WARN = 0 ∧ s.rd PWR_STAT_NVINH = 0 ∧ holdupBelow (s.rd PWR_BULK_CAP) m.vbulk m.pout 80 = true) ∧
    (∃ (s : State) (m : Meas), s.rd PWR_STAT_MAIN = 1 ∧ s.rd PWR_STAT_NVINH = 1 ∧ holdupBelow (s.rd PWR_BULK_CAP) m.vbulk m.pout 90 = false) ∧
    (∃ s : State, s.rd PWR_STAT_MAIN ≠ 0 ∧ s.power.under = true ∧ s.mode ≠ DORMANT) ∧
    (∃ s : State, s.rd PWR_STAT_STBY ≠ 0 ∧ s.rd PWR_STAT_MAIN ≠ 1 ∧ s.rd PWR_STAT_BATABS ≠ 1) ∧
    (∃ s : State, s.rd PWR_STAT_STBY ≠ 0 ∧ s.rd PWR_STAT_MAIN ≠ 1 ∧ s.rd PWR_STAT_BATABS = 1) ∧
    (∃ (s : State) (cap : Nat), s.rd PWR_STAT_MAIN ≠ 1 ∧ s.power.stopped = 0) ∧
    (∃ s : State, s.rd PWR_STAT_MAIN ≠ 1) ∧
    (∃ (s : State) (stop : Bool), s.rd PWR_STAT_PSUHOT ≠ 1) ∧
    (∃ s : State, s.rd PWR_STAT_MAIN ≠ 0) ∧
    (∃ s : State, s.power.stopped ≠ 0) ∧
    (∃ (s : State) (d : Fin 12), s.dieUp d = true ∧ s.mode ≠ DORMANT) ∧
    (∃ (s : State) (d : Fin 12), s.dieUp d = true ∧ (s.die d).link = true ∧ s.mode ≠ DORMANT) ∧
    (∃ (s : State) (rail : Fin 5) (d : Fin 12), s.mode ≠ DORMANT ∧ (2 ≤ rail.val ∨ s.dieUp d = true) ∧ rail.val * 16 + (if rail.val < 2 then d.val else 0) ∉ s.power.bad) ∧
    (∃ (s : State) (rail : Fin 6) (d : Fin 12), rail.val ≠ 5) ∧
    (∃ (s : State), s.rd PWR_STAT_BATABS ≠ 1 ∧ s.rd PWR_STAT_STBY ≠ 0) ∧
    (∃ (s : State), s.rd PWR_STAT_BATABS ≠ 0) ∧
    (∃ (s : State) (mated : Bool), s.rd PWR_STAT_HOST ≠ mated.toNat) ∧
    (∃ (s : State) (f : Fin 2) (rpm : Nat), s.rd GLB_MODID_CODE = 3 ∧ rpm < 1000) :=
  ⟨⟨supplied RUN, true, by decide +kernel⟩,
   ⟨{ State.reset with power := {} }, by decide +kernel, by decide +kernel⟩,
   ⟨{ State.reset with power := { stopped := 2 } }, by decide +kernel⟩,
   ⟨inMode DORMANT, { vbulk := 400, pout := 100 }, by decide +kernel⟩,
   ⟨(supplied RUN).wr PWR_BULK_CAP 500, { vbulk := 400, pout := 60000 }, by decide +kernel, by decide +kernel, by decide +kernel, by decide +kernel⟩,
   ⟨((supplied RUN).wr PWR_BULK_CAP 500).wr PWR_STAT_NVINH 1, { vbulk := 400, pout := 60 }, by decide +kernel, by decide +kernel, by decide +kernel⟩,
   ⟨{ supplied RUN with power := { under := true } }, by decide +kernel, by decide +kernel, by decide +kernel⟩,
   ⟨((inMode DORMANT).wr PWR_STAT_STBY 1).wr DBG_PORT_POWER 1, by decide +kernel, by decide +kernel, by decide +kernel⟩,
   ⟨((inMode DORMANT).wr PWR_STAT_STBY 1).wr PWR_STAT_BATABS 1, by decide +kernel, by decide +kernel, by decide +kernel⟩,
   ⟨State.reset, 1024, by decide +kernel, by decide +kernel⟩,
   ⟨State.reset, by decide +kernel⟩,
   ⟨supplied RUN, true, by decide +kernel⟩,
   ⟨supplied HOLD, by decide +kernel⟩,
   ⟨{ inMode DORMANT with power := { stopped := 1 } }, by decide +kernel⟩,
   ⟨(inMode RUN).dieOn 11, 11, by decide +kernel, by decide +kernel⟩,
   ⟨(inMode RUN).dieOn 11, 11, by decide +kernel, by decide +kernel, by decide +kernel⟩,
   ⟨(inMode RUN).dieOn 11, 1, 11, by decide +kernel, by decide +kernel, by decide +kernel⟩,
   ⟨{ inMode RUN with power := { bad := [27, 64] } }, 1, 11, by decide +kernel⟩,
   ⟨supplied RUN, by decide +kernel, by decide +kernel⟩,
   ⟨(supplied RUN).wr PWR_STAT_BATABS 1, by decide +kernel⟩,
   ⟨State.reset, true, by decide +kernel⟩,
   ⟨State.reset.wr GLB_MODID_CODE 3, 1, 999, by decide +kernel, by decide +kernel⟩⟩

theorem witness_RegisterAccess :
    (∃ (s : State) (m : Master) (a : Nat) (r : Reg) (e : Nat × Nat) (l : List (Nat × Nat)), accessStop m false a s = none ∧ regAt a = some r ∧ r.isRp = true ∧ r.has BBX_RDAT_WORD = false ∧ (tabGet {} s.evq r.adr).entries = e :: l) ∧
    (∃ (s : State) (m : Master) (a : Nat) (r : Reg), accessStop m false a s = none ∧ regAt a = some r ∧ r.isRp = true ∧ r.has BBX_RDAT_WORD = false ∧ (tabGet {} s.evq r.adr).entries = []) ∧
    (∃ (a : Nat) (r : Reg), regAt a = some r ∧ r.isRp = true) ∧
    (∃ (s : State) (m : Master) (a : Nat) (r : Reg), accessStop m false a s = none ∧ regAt a = some r ∧ r.isRp = false ∧ r.isRc = true ∧ r.has BBX_RDAT_WORD = false) ∧
    (∃ (s : State) (m : Master) (a : Nat) (v : BitVec 32) (r : Reg) (f : Fld), accessStop m true a s = none ∧ regAt a = some r ∧ dbgLocked m a s = false ∧ ownerLets m r s = true ∧ r.has GLB_HEARTBEAT_KEY = false ∧ r.has PWR_VAULT_REQ = false ∧ r.isCmd = false ∧ (∀ w, (if 0x1000000 ≤ r.adr then dieWrite r (a - r.adr) w s else blockWrite m r (a - r.adr) w s) = none) ∧ f ∈ r.flds ∧ f ≠ DRC_SCHED_WQLO ∧ f ≠ HLT_TPOL_TWARN) ∧
    (∃ (s : State) (a : Nat) (v : BitVec 32) (r : Reg), accessStop .host true a s = none ∧ regAt a = some r ∧ r.has GLB_HEARTBEAT_KEY = false ∧ ownerLets .host r s = false) ∧
    (∃ (s : State) (m : Master) (a st : Nat) (v : BitVec 32), accessStop m true a s = some st) :=
  ⟨⟨{ inMode RUN with evq := [(0xE0050, { entries := [(7, 0), (8, 1)] })] }, .host, 0xE0050, ((regAt 0xE0050).getD ⟨"", 0, [], .shared, []⟩), (7, 0), [(8, 1)], by decide +kernel, by decide +kernel, by decide +kernel, by decide +kernel, by decide +kernel⟩,
   ⟨inMode RUN, .host, 0xE0050, ((regAt 0xE0050).getD ⟨"", 0, [], .shared, []⟩), by decide +kernel, by decide +kernel, by decide +kernel, by decide +kernel, by decide +kernel⟩,
   ⟨0xE0050, ((regAt 0xE0050).getD ⟨"", 0, [], .shared, []⟩), by decide +kernel, by decide +kernel⟩,
   ⟨(inMode RUN).wr GLB_HBBAD_COUNT 9, .mirror, 0x48, ((regAt 0x48).getD ⟨"", 0, [], .shared, []⟩), by decide +kernel, by decide +kernel, by decide +kernel, by decide +kernel, by decide +kernel⟩,
   ⟨inMode RUN, .host, 0x10, 0xFFFFFFFF, ((regAt 0x10).getD ⟨"", 0, [], .shared, []⟩), GLB_SUPIDX_INDEX, by decide +kernel, by decide +kernel, by decide +kernel, by decide +kernel, by decide +kernel, by decide +kernel, by decide +kernel, fun _ => rfl, by decide +kernel, by decide +kernel, by decide +kernel⟩,
   ⟨(inMode RUN).wr SBP_CTRL_CONTROL 1, 0x20030, 5, ((regAt 0x20030).getD ⟨"", 0, [], .shared, []⟩), by decide +kernel, by decide +kernel, by decide +kernel, by decide +kernel⟩,
   ⟨State.reset, .host, 0x10, (accessStop .host true 0x10 State.reset).getD 0, 5, by decide +kernel⟩⟩

theorem witness_SidebandPort :
    (∃ (s : State) (b : Bool), s.welt.mem = none) ∧
    (∃ (s : State) (a : BitVec 32) (r : Reg), s.welt.mem = none ∧ accessStop .sideband false a.toNat s = none ∧ regAt a.toNat = some r ∧ r.isRp = false ∧ r.isRc = false ∧ r.has CLK_TBL_TB = false ∧ r.has BBX_RDAT_WORD = false) ∧
    (∃ (s : State) (a : BitVec 32) (n : BitVec 16), s.welt.mem = none ∧ (n = 0 ∨ 256 < n.toNat)) ∧
    (∃ (s : State) (a v : BitVec 32), s.welt.mem = none ∧ s.rd SEC_STAT_LC ≠ 4) ∧
    (∃ (s : State) (a v : BitVec 32), s.welt.mem = none ∧ s.rd SEC_STAT_LC = 4 ∧ s.mode ≠ DORMANT) ∧
    (∃ (s : State) (a : BitVec 32) (n : BitVec 16), s.welt.mem = none ∧ s.mode = DORMANT ∧ alwaysOn a.toNat = false ∧ 1 ≤ n.toNat ∧ n.toNat ≤ 256) ∧
    (∃ (s : State) (a : BitVec 32) (v : BitVec 32) (l : List (BitVec 32)), s.welt.mem = none ∧ s.mode = DORMANT ∧ alwaysOn a.toNat = false ∧ l.length ≤ 255) ∧
    (∃ (s : State) (b : Bool) (i : BitVec 8), s.welt.mem = none ∧ s.rd SEC_STAT_LC ≠ 4 ∧ i.toNat ≤ 6 ∧ i.toNat ≤ nvsGet s nvsWSPMAX ∧ (s.mode ≠ DORMANT ∨ i.toNat ≤ 2)) ∧
    (∃ (s : State) (i : BitVec 8), s.welt.mem = none ∧ s.rd SEC_STAT_LC ≠ 4 ∧ i.toNat ≤ 6 ∧ (nvsGet s nvsWSPMAX < i.toNat ∨ (s.mode = DORMANT ∧ 2 < i.toNat))) ∧
    (∃ (s : State) (at_ : Nat), s.side.proving = some at_) ∧
    (∃ (s : State) (b : Bool), s.welt.mem = none ∧ s.rd SEC_STAT_LC ≠ 4 ∧ (s.rd SBP_CTRL_LAPSED = 1 ∨ s.rd SBP_GRANT_GRANT = 1 ∨ s.rd SBP_CTRL_CONTROL = 1)) ∧
    (∃ s : State, s.welt.mem = none ∧ s.rd SEC_STAT_LC ≠ 4 ∧ s.rd SBP_CTRL_LAPSED = 0 ∧ s.rd SBP_GRANT_GRANT = 0 ∧ s.rd SBP_CTRL_CONTROL = 0) ∧
    (∃ (s : State) (b : Bool), s.welt.mem = none ∧ s.rd SEC_STAT_LC ≠ 4) ∧
    (∃ (s : State) (h : Nat), s.rd SBP_CTRL_CONTROL ≠ 0 ∧ s.rd SBP_IDLE_SEC ≠ 0 ∧ s.side.hbAt = some h ∧ s.clocks.elapsed ≤ s.side.frameAt + s.rd SBP_IDLE_SEC * 1000000000 ∧ s.side.frameAt + s.rd SBP_IDLE_SEC * 1000000000 ≤ h + s.rd GLB_HBTMO_TMO * 1000000) ∧
    (∃ (s : State) (off : BitVec 16) (n : BitVec 8), s.welt.mem = none ∧ s.rd SEC_STAT_LC ≠ 4 ∧ 1 ≤ n.toNat ∧ n.toNat ≤ 64) ∧
    (∃ (s : State) (off : BitVec 16) (v : Byte), s.welt.mem = none ∧ s.rd SEC_STAT_LC ≠ 4 ∧ s.rd PWR_STAT_NVINH ≠ 1 ∧ s.rd PWR_STAT_STBY ≠ 0 ∧ nvsOk off.toNat v.toNat = true) ∧
    (∃ (s : State) (off : BitVec 16) (v : Byte), s.welt.mem = none ∧ s.rd SEC_STAT_LC ≠ 4 ∧ s.rd PWR_STAT_NVINH = 1) ∧
    (∃ (s : State) (a : BitVec 48) (q : Req), s.welt.mem = none ∧ s.rd SEC_STAT_LC ≠ 4 ∧ s.mode ≠ DORMANT ∧ memRefusal a.toNat 64 s = none ∧ a.toNat % 64 = 0 ∧ blockReqs epMgmt RD a.toNat 64 0 = [q] ∧ NetIdle s ∧ PortOpen epMgmt s ∧ TagFree epMgmt 1 s ∧ LastReady RD { q with tag := 1 } s) ∧
    (∃ (s : State) (a : BitVec 48) (l : List Byte) (q : Req), s.welt.mem = none ∧ s.rd SEC_STAT_LC ≠ 4 ∧ s.mode ≠ DORMANT ∧ memRefusal a.toNat 64 s = none ∧ a.toNat % 64 = 0 ∧ l.length = 64 ∧ blockReqs epMgmt WR a.toNat 64 (ofBytes (l.map BitVec.toNat)) = [q] ∧ NetIdle s ∧ PortOpen epMgmt s ∧ TagFree epMgmt 1 s ∧ LastReady WR { q with tag := 1 } s) ∧
    (∃ (s : State) (a : BitVec 48) (l : List Byte), s.welt.mem = none ∧ s.rd SEC_STAT_LC ≠ 4 ∧ s.mode ≠ DORMANT ∧ 1 ≤ l.length ∧ l.length ≤ 1024 ∧ inVault a.toNat = true) ∧
    (∃ (s : State) (l : List Byte), l.length < 8 ∨ 247 < (l.getD 0 0).toNat ∨ l.length ≠ 8 + (l.getD 1 0).toNat + 256 * (l.getD 2 0).toNat) ∧
    (∃ (s : State) (adr c0 c1 c2 c3 : Byte), s.welt.mem = none ∧ adr.toNat = nvsGet s nvsWSPADDR ∧ 1 ≤ adr.toNat ∧ adr.toNat ≤ 247 ∧ ofBytes ([c0, c1, c2, c3].map BitVec.toNat) = crcBytes [adr.toNat, 0, 0, 1]) ∧
    (∃ (s : State) (v : BitVec 32), s.mode ≠ DORMANT ∧ v.toNat % 2 ^ 16 = 0x4842) ∧
    (∃ (s : State) (v : BitVec 32), s.mode ≠ DORMANT ∧ v.toNat % 2 ^ 16 ≠ 0x4842) ∧
    (∃ (s : State) (at_ : Nat), s.side.hbAt = some at_ ∧ s.mode ≠ DORMANT ∧ s.rd SBP_CTRL_ARMED ≠ 0 ∧ s.rd SBP_CTRL_LAPSED ≠ 1) :=
  ⟨⟨State.reset, true, by decide +kernel⟩,
   ⟨inMode RUN, 0x10, ((regAt 0x10).getD ⟨"", 0, [], .shared, []⟩), by decide +kernel, by decide +kernel, by decide +kernel, by decide +kernel, by decide +kernel, by decide +kernel, by decide +kernel⟩,
   ⟨inMode RUN, 0x10, 0, by decide +kernel, by decide +kernel⟩,
   ⟨inMode RUN, 0x10, 5, by decide +kernel, by decide +kernel⟩,
   ⟨(inMode RUN).wr SEC_STAT_LC 4, 0x10, 5, by decide +kernel, by decide +kernel, by decide +kernel⟩,
   ⟨inMode DORMANT, 0x10, 256, by decide +kernel, by decide +kernel, by decide +kernel, by decide +kernel, by decide +kernel⟩,
   ⟨inMode DORMANT, 0x1000000, 5, [], by decide +kernel, by decide +kernel, by decide +kernel, by decide +kernel⟩,
   ⟨inMode RUN, true, nvsGet (inMode RUN) nvsWSPMAX, by decide +kernel, by decide +kernel, by decide +kernel, by decide +kernel, by decide +kernel⟩,
   ⟨inMode DORMANT, 3, by decide +kernel, by decide +kernel, by decide +kernel, by decide +kernel⟩,
   ⟨{ inMode RUN with side := { proving := some 5 } }, 5, by decide +kernel⟩,
   ⟨(inMode RUN).wr SBP_GRANT_GRANT 1, false, by decide +kernel, by decide +kernel, by decide +kernel⟩,
   ⟨(inMode RUN).wr SBP_GRANT_GRANT 0, by decide +kernel, by decide +kernel, by decide +kernel, by decide +kernel, by decide +kernel⟩,
   ⟨(inMode RUN).wr SBP_CTRL_CONTROL 1, true, by decide +kernel, by decide +kernel⟩,
   ⟨{ ((inMode RUN).wr SBP_CTRL_CONTROL 1).wr SBP_IDLE_SEC 1 with side := { hbAt := some 1000000000 } }, 1000000000, by decide +kernel, by decide +kernel, by decide +kernel, by decide +kernel, by decide +kernel⟩,
   ⟨inMode RUN, 0xFFFF, 64, by decide +kernel, by decide +kernel, by decide +kernel, by decide +kernel⟩,
   ⟨(supplied RUN), 3, 247, by decide +kernel, by decide +kernel, by decide +kernel, by decide +kernel, by decide +kernel⟩,
   ⟨(inMode RUN).wr PWR_STAT_NVINH 1, 3, 7, by decide +kernel, by decide +kernel, by decide +kernel⟩,
   ⟨weltUp, 0x4000201FC0, ((blockReqs epMgmt RD 0x4000201FC0 64 0).headD {}), by decide +kernel, by decide +kernel, by decide +kernel, by decide +kernel, by decide +kernel, by decide +kernel, by unfold NetIdle; decide +kernel, by unfold PortOpen; decide +kernel, by unfold TagFree; decide +kernel, ⟨by decide +kernel, by decide +kernel, by decide +kernel, fun _ _ _ => rfl, by decide +kernel, by decide +kernel⟩⟩,
   ⟨weltUp, 0x4000201FC0, List.replicate 64 7, ((blockReqs epMgmt WR 0x4000201FC0 64 (ofBytes ((List.replicate 64 (7 : Byte)).map BitVec.toNat))).headD {}), by decide +kernel, by decide +kernel, by decide +kernel, by decide +kernel, by decide +kernel, by decide +kernel, by decide +kernel, by unfold NetIdle; decide +kernel, by unfold PortOpen; decide +kernel, by unfold TagFree; decide +kernel, ⟨by decide +kernel, by decide +kernel, by decide +kernel, fun _ _ _ => rfl, by decide +kernel, by decide +kernel⟩⟩,
   ⟨weltUp, 0x4100000FC0, [1], by decide +kernel, by decide +kernel, by decide +kernel, by decide +kernel, by decide +kernel, by decide +kernel⟩,
   ⟨inMode RUN, List.replicate 7 0, by decide +kernel⟩,
   ⟨inMode RUN, BitVec.ofNat 8 (nvsGet (inMode RUN) nvsWSPADDR), BitVec.ofNat 8 (crcBytes [nvsGet (inMode RUN) nvsWSPADDR, 0, 0, 1]), BitVec.ofNat 8 (crcBytes [nvsGet (inMode RUN) nvsWSPADDR, 0, 0, 1] / 256), BitVec.ofNat 8 (crcBytes [nvsGet (inMode RUN) nvsWSPADDR, 0, 0, 1] / 65536), BitVec.ofNat 8 (crcBytes [nvsGet (inMode RUN) nvsWSPADDR, 0, 0, 1] / 2 ^ 24), by decide +kernel, by decide +kernel, by decide +kernel, by decide +kernel, by decide +kernel⟩,
   ⟨(inMode RUN).wr SBP_CTRL_LAPSED 1, 0x12344842, by decide +kernel, by decide +kernel⟩,
   ⟨inMode RUN, 0x4841, by decide +kernel, by decide +kernel⟩,
   ⟨{ (inMode RUN).wr SBP_CTRL_ARMED 1 with side := { hbAt := some 5 } }, 5, by decide +kernel, by decide +kernel, by decide +kernel, by decide +kernel⟩⟩

theorem witness_SignedCommandsAndTamper :
    (∃ s : State, SignedDue 1 s ∧ secArg s 0 1 < 8 ∧ s.rd SEC_STAT_SLOTPROG < 256 ∧ bit (s.rd SEC_STAT_SLOTPROG) (secArg s 0 1) = 0 ∧ s.rd PWR_STAT_NVINH ≠ 1) ∧
    (∃ s : State, SignedDue 3 s ∧ secArg s 0 1 < 5 ∧ (s.mode = LOAD ∨ s.mode = HOLD) ∧ lcBad s (secArg s 0 1) = false ∧ s.rd PWR_STAT_NVINH ≠ 1) ∧
    (∃ s : State, SignedDue 3 s ∧ secArg s 0 1 < 5 ∧ s.mode ≠ LOAD ∧ s.mode ≠ HOLD) ∧
    (∃ x ∈ [(1, Instr.signedProgramSlot true), (2, .signedRevokeSlot true), (3, .lifeCycleTransition true), (4, .signedLoadKey), (5, .signedEraseKey), (6, .signedDebugUnlock), (7, .signedCellService)], ∃ s : State, s.mode ≠ DORMANT ∧ s.rd SEC_STAT_LC ≠ 4 ∧ s.rd SEC_CMD_BUSY = 0 ∧ secOp s = x.1 ∧ secCheck s ≠ 0 ∧ secCheck s < 2 ^ 16) ∧
    (∃ (s : State) (src : Fin 5), s.rd PWR_STAT_STBY ≠ 0 ∧ bit (s.rd SEC_TAMPEN_EN) src = 1 ∧ (src.val ≠ 4 ∨ s.rd SEC_BATSVC_OPEN ≠ 1)) ∧
    (∃ (s : State) (src : Fin 5), s.rd PWR_STAT_STBY ≠ 0) ∧
    (∃ s : State, s.mode ≠ DORMANT ∧ s.rd SEC_STAT_OWNLOCK ≠ 1 ∧ s.rd PWR_STAT_STBY ≠ 0) ∧
    (∃ s : State, s.mode ≠ DORMANT ∧ s.rd SEC_STAT_OWNLOCK = 1) ∧
    (∃ s : State, s.rd SEC_BATSVC_OPEN ≠ 0) :=
  ⟨⟨secBlock RUN 1 0xFF 7, by unfold SignedDue; decide +kernel, by decide +kernel, by decide +kernel, by decide +kernel, by decide +kernel⟩,
   ⟨(secBlock HOLD 3 0xFF 1).wr SEC_STAT_LC 0, by unfold SignedDue; decide +kernel, by decide +kernel, by decide +kernel, by decide +kernel, by decide +kernel⟩,
   ⟨secBlock RUN 3 0xFF 2, by unfold SignedDue; decide +kernel, by decide +kernel, by decide +kernel, by decide +kernel⟩,
   ⟨(1, Instr.signedProgramSlot true), by simp, (secBlock RUN 1 0xFF 7).wr SEC_NONCEH_N 1, by decide +kernel, by decide +kernel, by decide +kernel, by decide +kernel, by decide +kernel, by decide +kernel⟩,
   ⟨supplied RUN, 4, by decide +kernel, by decide +kernel, by decide +kernel⟩,
   ⟨supplied RUN, 4, by decide +kernel⟩,
   ⟨supplied RUN, by decide +kernel, by decide +kernel, by decide +kernel⟩,
   ⟨(supplied RUN).wr SEC_STAT_OWNLOCK 1, by decide +kernel, by decide +kernel⟩,
   ⟨(supplied RUN).wr SEC_BATSVC_OPEN 1, by decide +kernel⟩⟩

theorem witness_DebugDomain :
    (∃ (s : State) (on : Bool), s.mode ≠ DORMANT) ∧
    (∃ (s : State) (on : Bool), s.mode = DORMANT) ∧
    (∃ (s : State) (c : Fin 384) (i : Fin 4) (a d : BitVec 32), dbgPowered s = true ∧ inSession s c = false ∧ awlState s c = awlRUN ∧ cmpMatches s c i a.toNat d.toNat = true ∧ (s.rdi DBG_CMPCTL_KIND (oCmp c i) ≠ 0 ∨ a.toNat = execPc s c i) ∧ ((tabGet 0 s.dbg.hits (c * 4 + i) + 1) % (s.rdi DBG_CMPCTL_SKIP (oCmp c i) + 1) ≠ 0 ∨ s.rdi DBG_CMPCTL_ACT (oCmp c i) = 0)) ∧
    (∃ (s : State) (c : Fin 384) (i : Fin 4) (a d : BitVec 32), dbgPowered s = true ∧ inSession s c = false ∧ awlState s c = awlRUN ∧ cmpMatches s c i a.toNat d.toNat = true ∧ (s.rdi DBG_CMPCTL_KIND (oCmp c i) ≠ 0 ∨ a.toNat = execPc s c i) ∧ (tabGet 0 s.dbg.hits (c * 4 + i) + 1) % (s.rdi DBG_CMPCTL_SKIP (oCmp c i) + 1) = 0 ∧ s.rdi DBG_CMPCTL_ACT (oCmp c i) = 2) ∧
    (∃ (s : State) (c : Fin 384) (i : Fin 4) (a d : BitVec 32), EntryFree c s ∧ tabGet 0 s.dbg.pend c = 0 ∧ cmpMatches s c i a.toNat d.toNat = true ∧ (s.rdi DBG_CMPCTL_KIND (oCmp c i) ≠ 0 ∨ a.toNat = execPc s c i) ∧ (tabGet 0 s.dbg.hits (c * 4 + i) + 1) % (s.rdi DBG_CMPCTL_SKIP (oCmp c i) + 1) = 0 ∧ s.rdi DBG_CMPCTL_ACT (oCmp c i) = 1) ∧
    (∃ (s : State) (m : Fin 16) (die : Fin 13) (router : Fin 8) (q : Req), dbgPowered s = true ∧ s.rdi DBG_WMCTL_EN (m * 0x40) ≠ 0 ∧ s.rdi DBG_WMCTL_DIE (m * 0x40) = die ∧ (die.val = 12 ∨ s.rdi DBG_WMCTL_ROUTER (m * 0x40) = router) ∧ wmMatches s m q = true) ∧
    (∃ (s : State) (m : Fin 16) (die : Fin 13) (router : Fin 8) (q : Req), dbgPowered s = false ∨ wmMatches s m q = false) ∧
    (∃ (s : State), dbgPowered s = true ∧ s.rd DBG_CTL_TRIGACT = 2) ∧
    (∃ (s : State) (c : Nat), s.rd DBG_CTL_TRIGACT = 1 ∧ s.rd DBG_CTL_TRIGCORE = c ∧ EntryFree c s ∧ tabGet 0 s.dbg.pend c = 0) ∧
    (∃ (s : State) (c : Fin 384), EntryFree c s ∧ tabGet 0 s.dbg.pend c = 0 ∧ s.rdi DBG_CORECMD_BUSY (oDbg c) ≠ 1) ∧
    (∃ (s : State) (c : Fin 384), dbgPowered s = true ∧ cannotEnter s c = true ∧ s.rdi DBG_CORECMD_BUSY (oDbg c) ≠ 1) ∧
    (∃ (s : State) (c : Fin 384), EntryFree c s ∧ tabGet 0 s.dbg.pend c = 4) ∧
    (∃ (s : State) (c : Fin 384), tabGet 0 s.dbg.pend c = 0 ∨ cannotEnter s c = true) ∧
    (∃ s : State, s.dbg.trig ≠ 0 ∧ dbgPowered s = true ∧ (s.rd DBG_CAPCFG_ARM = 0 ∨ s.rd DBG_CAPSTAT_PEND = 1)) ∧
    (∃ s : State, s.dbg.trig ≠ 0 ∧ dbgPowered s = true ∧ s.rd DBG_CAPCFG_ARM ≠ 0 ∧ s.rd DBG_CAPSTAT_PEND ≠ 1 ∧ capRefusal (s.rd DBG_CAPCFG_DIEMASK) (s.rd DBG_CAPMASK_MASK) s = 0 ∧ capRegions (s.rd DBG_CAPCFG_DIEMASK) (s.rd DBG_CAPMASK_MASK) ≠ []) ∧
    (∃ s : State, s.dbg.trig ≠ 0 ∧ dbgPowered s = true ∧ s.rd DBG_CAPCFG_ARM ≠ 0 ∧ s.rd DBG_CAPSTAT_PEND ≠ 1 ∧ capRefusal (s.rd DBG_CAPCFG_DIEMASK) (s.rd DBG_CAPMASK_MASK) s ≠ 0) ∧
    (∃ (s : State), dbgPowered s = true) ∧
    (∃ (s : State) (peek : Bool) (a : BitVec 48) (r : Reg), dbgPowered s = true ∧ s.welt.win = none ∧ s.rd DBG_PORT_OPEN ≠ 0 ∧ a.toNat < 2 ^ 28 ∧ accessStop .debug false a.toNat s = none ∧ regAt a.toNat = some r ∧ r.has BBX_RDAT_WORD = false ∧ (peek = true ∨ (r.isRp = false ∧ r.isRc = false ∧ r.has CLK_TBL_TB = false))) ∧
    (∃ (s : State) (peek : Bool) (a : BitVec 48), dbgPowered s = true ∧ s.welt.win = none ∧ s.rd DBG_PORT_OPEN ≠ 0 ∧ s.mode ≠ DORMANT ∧ inVault a.toNat = true ∧ a.toNat % 4 = 0) ∧
    (∃ (s : State) (space : Bool) (a : BitVec 48) (v : BitVec 32), dbgPowered s = true ∧ s.rd DBG_PORT_OPEN = 0 ∧ s.welt.win = none) ∧
    (∃ (s : State) (space : Bool) (a : BitVec 48) (v : BitVec 32), dbgPowered s = true ∧ s.welt.win ≠ none) ∧
    (∃ (s : State) (a : BitVec 48) (v : BitVec 32), dbgPowered s = true ∧ s.welt.win = none ∧ s.rd DBG_PORT_OPEN ≠ 0 ∧ a.toNat = DBG_CAPMASK_MASK.adr) :=
  ⟨⟨inMode RUN, true, by decide +kernel⟩,
   ⟨(inMode DORMANT).wr PWR_STAT_STBY 1, true, by decide +kernel⟩,
   ⟨(monCore 383 1).wri DBG_CMPCTL_SKIP (oCmp 383 3) 1, 383, 3, 64, 0, by decide +kernel, by decide +kernel, by decide +kernel, by decide +kernel, by decide +kernel, by decide +kernel⟩,
   ⟨monCore 383 2, 383, 3, 64, 0, by decide +kernel, by decide +kernel, by decide +kernel, by decide +kernel, by decide +kernel, by decide +kernel, by decide +kernel⟩,
   ⟨monCore 383 1, 383, 3, 64, 0, by unfold EntryFree; decide +kernel, by decide +kernel, by decide +kernel, by decide +kernel, by decide +kernel, by decide +kernel⟩,
   ⟨wmOn 0, 15, 12, 7, {}, by decide +kernel, by decide +kernel, by decide +kernel, by decide +kernel, by decide +kernel⟩,
   ⟨wmOn 3, 15, 12, 0, { cls := 0 }, by decide +kernel⟩,
   ⟨(inMode RUN).wr DBG_CTL_TRIGACT 2, by decide +kernel, by decide +kernel⟩,
   ⟨((monCore 383 1).wr DBG_CTL_TRIGACT 1).wr DBG_CTL_TRIGCORE 383, 383, by decide +kernel, by decide +kernel, by unfold EntryFree; decide +kernel, by decide +kernel⟩,
   ⟨monCore 383 1, 383, by unfold EntryFree; decide +kernel, by decide +kernel, by decide +kernel⟩,
   ⟨inMode RUN, 0, by decide +kernel, by decide +kernel, by decide +kernel⟩,
   ⟨{ (monCore 383 1).wri DBG_CORECMD_BUSY (oDbg 383) 1 with dbg := { pend := [(383, 4)] } }, 383, by unfold EntryFree; decide +kernel, by decide +kernel⟩,
   ⟨inMode RUN, 0, by decide +kernel⟩,
   ⟨trigArmed.wr DBG_CAPCFG_ARM 0, by decide +kernel, by decide +kernel, by decide +kernel⟩,
   ⟨trigArmed, by decide +kernel, by decide +kernel, by decide +kernel, by decide +kernel, by decide +kernel, by decide +kernel⟩,
   ⟨trigArmed.wri FDC_RSTAT_CAPPEND (oReg 0 0) 1, by decide +kernel, by decide +kernel, by decide +kernel, by decide +kernel, by decide +kernel⟩,
   ⟨inMode RUN, by decide +kernel⟩,
   ⟨inMode RUN, false, 0x10, ((regAt 0x10).getD ⟨"", 0, [], .shared, []⟩), by decide +kernel, by decide +kernel, by decide +kernel, by decide +kernel, by decide +kernel, by decide +kernel, by decide +kernel, by decide +kernel⟩,
   ⟨weltUp, true, 0x4100000FFC, by decide +kernel, by decide +kernel, by decide +kernel, by decide +kernel, by decide +kernel, by decide +kernel⟩,
   ⟨(inMode RUN).wr DBG_PORT_OPEN 0, true, 0x10, 5, by decide +kernel, by decide +kernel, by decide +kernel⟩,
   ⟨{ weltUp with welt := { weltUp.welt with win := some default } }, true, 0x10, 5, by decide +kernel, by decide +kernel⟩,
   ⟨(inMode DORMANT).wr DBG_PORT_POWER 1, BitVec.ofNat 48 DBG_CAPMASK_MASK.adr, 0xFFFFFFFF, by decide +kernel, by decide +kernel, by decide +kernel, by decide +kernel⟩⟩

theorem witness_LiveChangeover :
    (∃ (s : State) (img : Image), MayGo s SHF_CMD_BUSY ∧ shiftAllowed s = false) ∧
    (∃ (s : State) (img : Image), MayGo s SHF_CMD_BUSY ∧ shiftAllowed s = true ∧ s.rd SHF_ARG0_VALUE ≤ 12) ∧
    (∃ s : State, shfState s = 1) ∧
    (∃ s : State, shfState s ≠ 1) ∧
    (∃ s : State, MayGo s SHF_CMD_BUSY ∧ shfState s = 2 ∧ (verifyDies (usedDies s.cfg.simg ++ [12]) [1] s).1 = none) ∧
    (∃ (s : State) (f : Nat), MayGo s SHF_CMD_BUSY ∧ shfState s = 2 ∧ (verifyDies (usedDies s.cfg.simg ++ [12]) [1] s).1 = some f) ∧
    (∃ s : State, MayGo s SHF_CMD_BUSY ∧ shfState s = 3 ∧ s.rd CFG_STAT_SBADSEL ≠ 1 ∧ s.rd WLT_EPOCH_STATE = 0 ∧ armGears s = true) ∧
    (∃ s : State, MayGo s SHF_CMD_BUSY ∧ shfState s = 3 ∧ s.rd CFG_STAT_SBADSEL ≠ 1 ∧ s.rd WLT_EPOCH_STATE = 0 ∧ armGears s = false) ∧
    (∃ x ∈ [(2, Instr.shfVerify), (3, .shfArm), (5, .shfCommit), (7, .shfRollback), (7, .shfRelease)], ∃ s : State, MayGo s SHF_CMD_BUSY ∧ shfState s ≠ x.1) ∧
    (∃ (s : State) (miss : BitVec 13) (d : Nat), shfState s = 4 ∧ d < 13 ∧ bit miss.toNat d = 1 ∧ s.rdi SHF_DIEST_IN (4 * d) = 1 ∧ s.rdi SHF_DIEST_ARMED (4 * d) = 0) ∧
    (∃ s : State, shfState s = 4 ∧ s.rd WLT_EPOCH_STATE = 2 ∧ (∀ d, d < 13 → shadowWritten s d = true)) ∧
    (∃ s : State, shfState s = 5) ∧
    (∃ (s : State) (T : Nat), MayGo s SHF_CMD_BUSY ∧ shfState s = 5 ∧ askedTime s = some T) ∧
    (∃ s : State, MayGo s SHF_CMD_BUSY ∧ shfState s = 5 ∧ askedTime s = none) ∧
    (∃ (s : State) (miss : BitVec 13) (d : Nat), shfState s = 6 ∧ s.rdi SHF_DIEST_FLIPPED 48 ≠ 1 ∧ d < 13 ∧ bit miss.toNat d = 1 ∧ s.rdi SHF_DIEST_IN (4 * d) = 1) ∧
    (∃ (s : State) (ext : Tab (List Nat)), shfState s = 6 ∧ s.rdi SHF_DIEST_FLIPPED 48 ≠ 1 ∧ s.rd WLT_EPOCH_STATE = 2) ∧
    (∃ s : State, shfState s = 6 ∧ s.rdi SHF_DIEST_FLIPPED 48 = 1 ∧ checkFails s = [] ∧ s.side.stopWait = false) ∧
    (∃ s : State, 1 ≤ shfState s ∧ shfState s ≤ 5) ∧
    (∃ s : State, shfState s = 0 ∨ 7 ≤ shfState s) ∧
    (∃ (s : State) (T : Nat), MayGo s SHF_CMD_BUSY ∧ shfState s = 7 ∧ s.mode = SHIFT ∧ s.shf.rbWait = none ∧ askedTime s = some T ∧ s.rd WLT_EPOCH_STATE = 0) ∧
    (∃ s : State, MayGo s SHF_CMD_BUSY ∧ shfState s = 7 ∧ s.mode = HOLD ∧ s.shf.rbWait = none) ∧
    (∃ (s : State) (ext : Tab (List Nat)) (fails : List (Nat × Nat)), shfState s = 8 ∧ (s.rd WLT_EPOCH_STATE = 2 ∨ s.rd WLT_EPOCH_STATE = 3)) ∧
    (∃ s : State, MayGo s SHF_CMD_BUSY ∧ shfState s = 7 ∧ s.mode = SHIFT ∧ s.shf.rbWait = none) ∧
    (∃ s : State, shfState s = 7 ∧ s.rd SHF_RELTMO_SEC ≠ 0 ∧ s.mode = SHIFT ∧ s.shf.rbWait = none) ∧
    (∃ (s : State) (T : Nat), MayGo s SHF_CMD_BUSY ∧ shfState s = 2 ∧ attachOk true s = true ∧ s.rd CFG_STAT_SBADSEL ≠ 1 ∧ s.rd WLT_EPOCH_STATE = 0 ∧ askedTime s = some T) ∧
    (∃ s : State, MayGo s SHF_CMD_BUSY ∧ shfState s = 2) ∧
    (∃ (s : State) (m d : Nat), MayGo s SHF_CMD_BUSY ∧ shiftAllowed s = true ∧ s.rd SHF_ARG0_VALUE = m ∧ s.rd SHF_ARG1_VALUE = d ∧ d < 12 ∧ m ≠ 0 ∧ s.rd WLT_EPOCH_STATE = 0 ∧ (∀ r, r < 32 → bit m r = 1 → lists s.cfg.aimg d r = true ∧ bit (s.rdi SHF_DETACHED_MASK (4 * d)) r ≠ 1)) ∧
    (∃ s : State, MayGo s SHF_CMD_BUSY ∧ shiftAllowed s = true ∧ (s.rd SHF_ARG0_VALUE = 0 ∨ 12 ≤ s.rd SHF_ARG1_VALUE % 16)) ∧
    (∃ s : State, shfState s = 9 ∧ s.shf.step = 1 ∧ NetIdle s) ∧
    (∃ s : State, shfState s = 9 ∧ s.shf.step = 2 ∧ s.welt.out = [] ∧ (∀ p ∈ s.welt.flows, flowBusy s p.1 = false) ∧ (∀ c, (s.core c).stopping = none)) ∧
    (∃ (s : State) (d m : Nat), shfState s = 9 ∧ s.shf.step = 3 ∧ s.rd WLT_EPOCH_STATE = 0 ∧ s.shf.regs = [(d, m)] ∧ d < 12 ∧ m < 2 ^ 32 ∧ s.rdi SHF_DETACHED_MASK (4 * d) < 2 ^ 32) :=
  ⟨⟨inMode HOLD, {}, by unfold MayGo; decide +kernel, by decide +kernel⟩,
   ⟨(inMode RUN).wr SHF_ARG0_VALUE 1, {}, by unfold MayGo; decide +kernel, by decide +kernel, by decide +kernel⟩,
   ⟨{ shfIn 1 with shf := { img := { id := 7 } } }, by decide +kernel⟩,
   ⟨inMode RUN, by decide +kernel⟩,
   ⟨shfIn 2, by unfold MayGo; decide +kernel, by decide +kernel, by decide +kernel⟩,
   ⟨{ shfIn 2 with cfg := { fst := [(2 * 491521 + 1, 3)] } }, 491521, by unfold MayGo; decide +kernel, by decide +kernel, by decide +kernel⟩,
   ⟨{ shfIn 3 with cfg := { simg := { id := 7, dies := [(0, { use := true })] } } }, by unfold MayGo; decide +kernel, by decide +kernel, by decide +kernel, by decide +kernel, by decide +kernel⟩,
   ⟨{ (shfIn 3).wri GEAR_DIE_GEAR 0 4 with cfg := { simg := { id := 7, dies := [(0, { use := true, tgear := 3 })] } } }, by unfold MayGo; decide +kernel, by decide +kernel, by decide +kernel, by decide +kernel, by decide +kernel⟩,
   ⟨(7, Instr.shfRelease), by simp, shfIn 5, by unfold MayGo; decide +kernel, by decide +kernel⟩,
   ⟨shfIn 4, 1, 0, by decide +kernel, by decide +kernel, by decide +kernel, by decide +kernel, by decide +kernel⟩,
   ⟨(shfIn 4).wr WLT_EPOCH_STATE 2, by decide +kernel, by decide +kernel, by decide +kernel⟩,
   ⟨shfIn 5, by decide +kernel⟩,
   ⟨(shfIn 5).wr WLT_EPOCH_STATE 2, 100000, by unfold MayGo; decide +kernel, by decide +kernel, by decide +kernel⟩,
   ⟨(shfIn 5).wr SHF_ARG0_VALUE 99999, by unfold MayGo; decide +kernel, by decide +kernel, by decide +kernel⟩,
   ⟨shfIn 6, 1, 0, by decide +kernel, by decide +kernel, by decide +kernel, by decide +kernel, by decide +kernel⟩,
   ⟨(shfIn 6).wr WLT_EPOCH_STATE 2 |> fun s => { s with cfg := { simg := { id := 7 } } }, [], by decide +kernel, by decide +kernel, by decide +kernel⟩,
   ⟨(shfIn 6).wri SHF_DIEST_FLIPPED 48 1, by decide +kernel, by decide +kernel, by decide +kernel, by decide +kernel⟩,
   ⟨shfIn 5, by decide +kernel, by decide +kernel⟩,
   ⟨inMode RUN, by decide +kernel⟩,
   ⟨shfIn 7, 100000, by unfold MayGo; decide +kernel, by decide +kernel, by decide +kernel, by decide +kernel, by decide +kernel, by decide +kernel⟩,
   ⟨((inMode HOLD).wr SHF_STAT_STATE 7) |> fun s => { s with cfg := { simg := { id := 7 } } }, by unfold MayGo; decide +kernel, by decide +kernel, by decide +kernel, by decide +kernel⟩,
   ⟨(shfIn 8).wr WLT_EPOCH_STATE 2, [], [], by decide +kernel, by decide +kernel⟩,
   ⟨shfIn 7, by unfold MayGo; decide +kernel, by decide +kernel, by decide +kernel, by decide +kernel⟩,
   ⟨(shfIn 7).wr SHF_RELTMO_SEC 1, by decide +kernel, by decide +kernel, by decide +kernel, by decide +kernel⟩,
   ⟨{ shfIn 2 with cfg := { simg := { delta := true } } }, 100000, by unfold MayGo; decide +kernel, by decide +kernel, by decide +kernel, by decide +kernel, by decide +kernel, by decide +kernel⟩,
   ⟨shfIn 2, by unfold MayGo; decide +kernel, by decide +kernel⟩,
   ⟨{ (weltUp.wr SHF_ARG0_VALUE 1) with cfg := { aimg := { dies := [(0, { use := true, regions := 1 })] } } }, 1, 0, by unfold MayGo; decide +kernel, by decide +kernel, by decide +kernel, by decide +kernel, by decide +kernel, by decide +kernel, by decide +kernel, by decide +kernel⟩,
   ⟨weltUp, by unfold MayGo; decide +kernel, by decide +kernel, by decide +kernel⟩,
   ⟨{ shfIn 9 with shf := { step := 1 } }, by decide +kernel, by decide +kernel, by unfold NetIdle; decide +kernel⟩,
   ⟨{ shfIn 9 with shf := { step := 2 } }, by decide +kernel, by decide +kernel, by decide +kernel, by decide +kernel, fun _ => rfl⟩,
   ⟨{ shfIn 9 with shf := { step := 3, regs := [(0, 1)] } }, 0, 1, by decide +kernel, by decide +kernel, by decide +kernel, by decide +kernel, by decide +kernel, by decide +kernel, by decide +kernel⟩⟩

theorem witness_FieldUpdate :
    (∃ (s : State) (p : Pkg) (l : List Nat), UpdMayGo s ∧ s.rd UPD_ARG0_VALUE = 0 ∧ (updState s = 0 ∨ updState s = 3) ∧ updCheck p s = 0 ∧ planOf s p.comps = some l) ∧
    (∃ (s : State) (p : Pkg) (stop : Option Nat), UpdMayGo s ∧ s.rd UPD_ARG0_VALUE = 0 ∧ (updState s = 0 ∨ updState s = 3) ∧ updCheck p s ≠ 0 ∧ updCheck p s < 2 ^ 16) ∧
    (∃ (s : State) (p : Pkg) (n : Nat), UpdMayGo s ∧ s.rd UPD_ARG0_VALUE = 0 ∧ (updState s = 0 ∨ updState s = 3) ∧ updCheck p s = 0) ∧
    (∃ (s : State) (T : Nat), UpdMayGo s ∧ (updState s = 3 ∨ updState s = 6) ∧ s.rd UPD_ARG2_VALUE = 0 ∧ s.rd64 UPD_ARG0_VALUE UPD_ARG1_VALUE = T ∧ T ≠ 0 ∧ s.clocks.tb + 10000000 ≤ T ∧ updConds (updPkg s) false s = []) ∧
    (∃ (s : State), UpdMayGo s ∧ (updState s = 3 ∨ updState s = 6) ∧ s.rd UPD_ARG2_VALUE = 0 ∧ s.rd64 UPD_ARG0_VALUE UPD_ARG1_VALUE ≠ 0 ∧ s.rd64 UPD_ARG0_VALUE UPD_ARG1_VALUE < s.clocks.tb + 10000000) ∧
    (∃ s : State, UpdMayGo s ∧ updState s = 4) ∧
    (∃ s : State, UpdMayGo s ∧ updState s ≠ 4) ∧
    (∃ (s : State) (c : Nat), UpdMayGo s ∧ (updState s = 6 ∨ updState s = 7) ∧ s.upd.taken = [c] ∧ updHolds c true s = []) ∧
    (∃ s : State, UpdMayGo s ∧ (updState s = 3 ∨ updState s = 4 ∨ (updState s = 0 ∧ s.rd UPD_STAT_REVOK = 0))) ∧
    (∃ s : State, UpdMayGo s ∧ updState s = 7) ∧
    (∃ s : State, UpdMayGo s ∧ updState s ≠ 7) ∧
    (∃ s : State, updState s = 7) ∧
    (∃ (s : State) (i c : Nat), (updState s = 4 ∨ updState s = 5) ∧ nextStep s = some i ∧ s.rdi UPD_PLAN_COMP (4 * i) = c ∧ s.rdi UPD_PLAN_VALID (4 * i) = 1 ∧ i < 21 ∧ updHolds c false s = []) ∧
    (∃ (s : State) (i c : Nat), (updState s = 4 ∨ updState s = 5) ∧ nextStep s = some i ∧ s.rdi UPD_PLAN_COMP (4 * i) = c ∧ updHolds c false s ≠ []) ∧
    (∃ (s : State) (i c : Nat) (x : Nat × Nat) (l : List (Nat × Nat)), updState s = 5 ∧ s.upd.held = true ∧ nextStep s = some i ∧ s.rdi UPD_PLAN_COMP (4 * i) = c ∧ updHolds c false s = x :: l) ∧
    (∃ (s : State) (c : Fin 21), (updState s = 5 ∨ updState s = 7) ∧ c.val ∈ s.upd.taken ∧ s.rd UPD_CTL_AUTOREV ≠ 1) ∧
    (∃ (s : State) (c : Fin 21), (updState s = 5 ∨ updState s = 7) ∧ s.upd.taken = [c.val] ∧ s.rd UPD_CTL_AUTOREV = 1) :=
  ⟨⟨supplied RUN, { id := 9, comps := [(0, { version := 5 })] }, [0], by unfold UpdMayGo MayGo; decide +kernel, by decide +kernel, by decide +kernel, by decide +kernel, by decide +kernel⟩,
   ⟨supplied RUN, {}, none, by unfold UpdMayGo MayGo; decide +kernel, by decide +kernel, by decide +kernel, by decide +kernel, by decide +kernel⟩,
   ⟨supplied RUN, { id := 9, comps := [(0, { version := 5 })] }, 3, by unfold UpdMayGo MayGo; decide +kernel, by decide +kernel, by decide +kernel, by decide +kernel⟩,
   ⟨((supplied RUN).wr UPD_STAT_STATE 3).wr UPD_ARG0_VALUE 10000000, 10000000, by unfold UpdMayGo MayGo; decide +kernel, by decide +kernel, by decide +kernel, by decide +kernel, by decide +kernel, by decide +kernel, by decide +kernel⟩,
   ⟨((supplied RUN).wr UPD_STAT_STATE 6).wr UPD_ARG0_VALUE 9999999, by unfold UpdMayGo MayGo; decide +kernel, by decide +kernel, by decide +kernel, by decide +kernel, by decide +kernel⟩,
   ⟨{ (supplied RUN).wr UPD_STAT_STATE 4 with upd := { wasSusp := true } }, by unfold UpdMayGo MayGo; decide +kernel, by decide +kernel⟩,
   ⟨(supplied RUN).wr UPD_STAT_STATE 7, by unfold UpdMayGo MayGo; decide +kernel, by decide +kernel⟩,
   ⟨{ (supplied RUN).wr UPD_STAT_STATE 7 with upd := { taken := [20], prev := [(20, { version := 3 })], active := [(20, { version := 4 })] } }, 20, by unfold UpdMayGo MayGo; decide +kernel, by decide +kernel, by decide +kernel, by decide +kernel⟩,
   ⟨supplied RUN, by unfold UpdMayGo MayGo; decide +kernel, by decide +kernel⟩,
   ⟨{ (supplied RUN).wr UPD_STAT_STATE 7 with upd := { trial := true } }, by unfold UpdMayGo MayGo; decide +kernel, by decide +kernel⟩,
   ⟨supplied RUN, by unfold UpdMayGo MayGo; decide +kernel, by decide +kernel⟩,
   ⟨((supplied RUN).wr UPD_STAT_STATE 7).wr UPD_TRIAL_SEC 65535, by decide +kernel⟩,
   ⟨{ ((((supplied RUN).wr UPD_STAT_STATE 4).wr UPD_STAT_NSTEP 1).wri UPD_PLAN_VALID 0 1).wri UPD_PLAN_COMP 0 20 with upd := { prev := [(20, { version := 3 })] } }, 0, 20, by decide +kernel, by decide +kernel, by decide +kernel, by decide +kernel, by decide +kernel, by decide +kernel⟩,
   ⟨(((inMode RUN).wr UPD_STAT_STATE 4).wr UPD_STAT_NSTEP 1).wri UPD_PLAN_COMP 0 20, 0, 20, by decide +kernel, by decide +kernel, by decide +kernel, by decide +kernel⟩,
   ⟨{ (((inMode RUN).wr UPD_STAT_STATE 5).wr UPD_STAT_NSTEP 1).wri UPD_PLAN_COMP 0 20 with upd := { held := true } }, 0, 20, ((updHolds 20 false (inMode RUN)).headD (0, 0)), ((updHolds 20 false (inMode RUN)).tail), by decide +kernel, by decide +kernel, by decide +kernel, by decide +kernel, by decide +kernel⟩,
   ⟨{ ((supplied RUN).wr UPD_STAT_STATE 7).wr UPD_CTL_AUTOREV 0 with upd := { taken := [3, 20], prev := [(20, { version := 3 })] } }, 20, by decide +kernel, by decide +kernel, by decide +kernel⟩,
   ⟨{ (supplied RUN).wr UPD_STAT_STATE 5 with upd := { taken := [20], prev := [(20, { version := 3 })] } }, 20, by decide +kernel, by decide +kernel, by decide +kernel⟩⟩

theorem witness_BlackBoxAndHealth :
    (∃ (s : State) (r : Record) (l : List Record) (ok2 eraseOk : Bool), s.bbx.pend = r :: l ∧ s.rd PWR_STAT_NVINH ≠ 1 ∧ s.mode ≠ DORMANT ∧ s.bbx.lost = 0) ∧
    (∃ (s : State) (r : Record) (l : List Record) (ok2 eraseOk : Bool), s.bbx.pend = r :: l ∧ s.rd PWR_STAT_NVINH ≠ 1 ∧ s.mode ≠ DORMANT ∧ s.bbx.lost = 0) ∧
    (∃ (s : State) (ok1 ok2 eraseOk : Bool), s.bbx.pend = [] ∨ s.rd PWR_STAT_NVINH = 1 ∨ s.mode = DORMANT) ∧
    (∃ s : State, (∀ c ∈ s.bbx.rate, c.held = 0)) ∧
    (∃ (s : State) (r : Record), s.mode ≠ DORMANT ∧ MayGo s BBX_CMD_BUSY ∧ s.rd BBX_ARG1_VALUE = 1 ∧ s.rd BBX_ARG2_VALUE % 64 = 0 ∧ inSegs (s.rd BBX_ARG2_VALUE) 64 = true ∧ ringFind s (s.rd BBX_ARG0_VALUE % 2 ^ 32) = some (r, true)) ∧
    (∃ s : State, s.mode ≠ DORMANT ∧ MayGo s BBX_CMD_BUSY ∧ (s.rd BBX_ARG1_VALUE = 0 ∨ s.rd BBX_ARG2_VALUE % 64 ≠ 0)) ∧
    (∃ s : State, s.mode ≠ DORMANT ∧ MayGo s BBX_CMD_BUSY ∧ 0xF0 ≤ s.rd BBX_ARG0_VALUE % 256 ∧ inSegs (s.rd BBX_ARG2_VALUE) 32 = true ∧ s.rd BBX_FILTER_MINSEV = 0 ∧ s.bbx.rate = [] ∧ 1 ≤ s.rd BBX_FILTER_RATE ∧ s.bbx.pend = []) ∧
    (∃ s : State, s.mode ≠ DORMANT ∧ MayGo s BBX_CMD_BUSY ∧ s.rd BBX_ARG0_VALUE % 256 < 0xF0) ∧
    (∃ s : State, MayGo s BBX_CMD_BUSY ∧ s.mode = HOLD ∧ (s.rd SEC_STAT_LC = 1 ∨ s.rd SEC_STAT_LC = 3) ∧ s.rd PWR_STAT_NVINH ≠ 1) ∧
    (∃ s : State, MayGo s BBX_CMD_BUSY ∧ s.mode ≠ DORMANT ∧ s.mode ≠ HOLD) ∧
    (∃ (s : State) (d : Fin 12) (v : BitVec 8) (r : Fin 32) (last : BitVec 8), s.mode ≠ DORMANT ∧ s.dieUp d = true) ∧
    (∃ (s : State) (g : Fin 12) (c src : Nat), s.mode ≠ DORMANT ∧ s.rd HLT_CTL_AUTOGEAR ≠ 0 ∧ groupDies s g ≠ [] ∧ lowerCause s g = some (c, src) ∧ polLimit s g ≤ 4) ∧
    (∃ (s : State) (g : Fin 12), s.mode = DORMANT ∨ s.rd HLT_CTL_AUTOGEAR = 0) ∧
    (∃ (s : State) (d : Fin 12) (off : Bool), s.dieUp d = true ∧ s.mode ≠ DORMANT) ∧
    (∃ s : State, s.mode ≠ DORMANT) :=
  ⟨⟨{ supplied RUN with bbx := { pend := [{ seq := 4 }] } }, { seq := 4 }, [], true, true, by decide +kernel, by decide +kernel, by decide +kernel, by decide +kernel⟩,
   ⟨{ supplied RUN with bbx := { pend := [{ seq := 4 }] } }, { seq := 4 }, [], true, true, by decide +kernel, by decide +kernel, by decide +kernel, by decide +kernel⟩,
   ⟨{ State.reset with bbx := { pend := [{ seq := 4 }] } }, true, true, true, by decide +kernel⟩,
   ⟨supplied RUN, by decide +kernel⟩,
   ⟨{ (((supplied RUN).wr BBX_ARG0_VALUE 4).wr BBX_ARG1_VALUE 1).wr BBX_ARG2_VALUE 0x1FFFFC0 with bbx := { ring := [(0, ({ seq := 4, time := 5 }, true))] } }, { seq := 4, time := 5 }, by decide +kernel, by unfold MayGo; decide +kernel, by decide +kernel, by decide +kernel, by decide +kernel, by decide +kernel⟩,
   ⟨supplied RUN, by decide +kernel, by unfold MayGo; decide +kernel, by decide +kernel⟩,
   ⟨((((supplied RUN).wr BBX_ARG0_VALUE 0xFF).wr BBX_ARG2_VALUE 0x1FFFFE0).wrMem 4 0x4001FFFFFC 77) |> fun s => (s.wr BBX_FILTER_RATE 1), by decide +kernel, by unfold MayGo; decide +kernel, by decide +kernel, by decide +kernel, by decide +kernel, by decide +kernel, by decide +kernel, by decide +kernel⟩,
   ⟨(supplied RUN).wr BBX_ARG0_VALUE 0xEF, by decide +kernel, by unfold MayGo; decide +kernel, by decide +kernel⟩,
   ⟨{ supplied HOLD with bbx := { ring := [(0, ({ seq := 4, time := 5 }, true))] } }, by unfold MayGo; decide +kernel, by decide +kernel, by decide +kernel, by decide +kernel⟩,
   ⟨supplied RUN, by unfold MayGo; decide +kernel, by decide +kernel, by decide +kernel⟩,
   ⟨weltUp.dieOn 11, 11, 116, 31, 116, by decide +kernel, by decide +kernel⟩,
   ⟨((weltUp.wri GEAR_DIE_GROUP 44 11).wr PWR_STAT_PSUHOT 1).wri GEAR_STAT_GEAR 44 4, 11, 2, 13, by decide +kernel, by decide +kernel, by decide +kernel, by decide +kernel, by decide +kernel⟩,
   ⟨State.reset, 0, by decide +kernel⟩,
   ⟨(inMode RUN).dieOn 11, 11, true, by decide +kernel, by decide +kernel⟩,
   ⟨inMode RUN, by decide +kernel⟩⟩


/-! Signed commands. SHA-384, the signature check and key unwrap are constants without a body, so what they answer is a premise here too. -/

/-- As `secBlock` in RUN and DEPLOY, signed by slot 0, whose key bytes are 0. -/
def signedBlock (op arg : Nat) : State :=
  { (secBlock RUN op 0 arg).wr SEC_STAT_LC 2 with keyHash := [(0, Config.sha384 (List.replicate 96 0))] }

theorem signedDue_of {op : Nat} {s : State} (h : s.mode ≠ DORMANT ∧ s.rd SEC_STAT_LC ≠ 4 ∧ s.rd SEC_CMD_BUSY = 0 ∧ secOp s = op)
    (hf : ¬(64 * s.rd SEC_CMDADR_OFFSET < 4 * 0x80000 ∨ 0x2000000 < 64 * s.rd SEC_CMDADR_OFFSET + 288 ∨ secField s 0 4 ≠ 0x314D4353 ∨ secOp s = 0 ∨
      7 < secOp s ∨ secField s 7 1 ≠ 0))
    (hs : ¬(secField s 8 8 ≠ s.rd64 SEC_MODSNL_SN SEC_MODSNH_SN ∨ secField s 0x10 8 ≠ s.rd64 SEC_NONCEL_N SEC_NONCEH_N))
    (hn : secSlot s = 0 ∧ slotAccepted s 0 = true ∧ s.rd SEC_STAT_OWNLOCK = 0 ∧ secOp s ≠ 3)
    (hk : Config.sha384 (secBytes s 0x60 96) = tabGet 0 s.keyHash 0)
    (hv : Config.signatureOk (bigEndian (secBytes s 0x60 96)) (bigEndian (secBytes s 0xC0 96)) (secBytes s 0 0xC0) = true) : SignedDue op s := by
  refine ⟨h.1, h.2.1, h.2.2.1, h.2.2.2, ?_⟩
  have hg : signerOk s = true := by unfold signerOk; simp [hn, hk]
  unfold secCheck
  rw [if_neg hf, if_neg hs, if_neg (by simp [hg]), if_neg (by simp [hv])]

theorem signedBlock_due (op arg : Nat) (h : (signedBlock op arg).mode ≠ DORMANT ∧ (signedBlock op arg).rd SEC_STAT_LC ≠ 4 ∧
      (signedBlock op arg).rd SEC_CMD_BUSY = 0 ∧ secOp (signedBlock op arg) = op)
    (hf : ¬(64 * (signedBlock op arg).rd SEC_CMDADR_OFFSET < 4 * 0x80000 ∨ 0x2000000 < 64 * (signedBlock op arg).rd SEC_CMDADR_OFFSET + 288 ∨
      secField (signedBlock op arg) 0 4 ≠ 0x314D4353 ∨ secOp (signedBlock op arg) = 0 ∨ 7 < secOp (signedBlock op arg) ∨ secField (signedBlock op arg) 7 1 ≠ 0))
    (hs : ¬(secField (signedBlock op arg) 8 8 ≠ (signedBlock op arg).rd64 SEC_MODSNL_SN SEC_MODSNH_SN ∨
      secField (signedBlock op arg) 0x10 8 ≠ (signedBlock op arg).rd64 SEC_NONCEL_N SEC_NONCEH_N))
    (hn : secSlot (signedBlock op arg) = 0 ∧ slotAccepted (signedBlock op arg) 0 = true ∧ (signedBlock op arg).rd SEC_STAT_OWNLOCK = 0 ∧
      secOp (signedBlock op arg) ≠ 3)
    (hk : secBytes (signedBlock op arg) 0x60 96 = List.replicate 96 0) (hg : bigEndian (secBytes (signedBlock op arg) 0xC0 96) = 0)
    (hv : Config.signatureOk 0 0 (secBytes (signedBlock op arg) 0 0xC0) = true) : SignedDue op (signedBlock op arg) := by
  refine signedDue_of h hf hs hn (by rw [hk]; rfl) ?_
  rw [hk, hg, show bigEndian (List.replicate 96 0) = 0 by decide +kernel]; exact hv

theorem witness_SignedRevoke (h : Config.signatureOk 0 0 (secBytes (signedBlock 2 7) 0 0xC0) = true) :
    ∃ s : State, SignedDue 2 s ∧ secArg s 0 1 < 8 ∧ (∃ m, m < 8 ∧ m ≠ secArg s 0 1 ∧ slotAccepted s m = true) ∧ s.rd PWR_STAT_NVINH ≠ 1 :=
  ⟨signedBlock 2 7, signedBlock_due 2 7 (by decide +kernel) (by decide +kernel) (by decide +kernel) (by decide +kernel) (by decide +kernel) (by decide +kernel) h, by decide +kernel, ⟨0, by decide +kernel⟩, by decide +kernel⟩

theorem signedBlock_blob : (signedBlock 4 15).rdBytes 136 (lastBase + secArg (signedBlock 4 15) 4 4) = List.replicate 136 0 := by decide +kernel

theorem witness_SignedLoadKey (h : Config.signatureOk 0 0 (secBytes (signedBlock 4 15) 0 0xC0) = true) (hd : Config.sha384 (List.replicate 136 0) = 0)
    (hu : (Config.decrypt 0 0 (List.replicate 136 0)).2 = true) :
    ∃ s : State, SignedDue 4 s ∧ 1 ≤ secArg s 0 1 ∧ secArg s 0 1 < 16 ∧ secArg s 4 4 + 136 ≤ 0x2000000 ∧
      Config.sha384 (s.rdBytes 136 (lastBase + secArg s 4 4)) = bigEndian (secBytes s 0x20 48) ∧
      (Config.decrypt 0 (s.rd64 SEC_MODSNL_SN SEC_MODSNH_SN) (s.rdBytes 136 (lastBase + secArg s 4 4))).2 = true ∧ s.rd PWR_STAT_NVINH ≠ 1 :=
  ⟨signedBlock 4 15, signedBlock_due 4 15 (by decide +kernel) (by decide +kernel) (by decide +kernel) (by decide +kernel) (by decide +kernel) (by decide +kernel) h, by decide +kernel, by decide +kernel, by decide +kernel,
    by rw [signedBlock_blob, hd]; decide +kernel,
    by rw [signedBlock_blob, show (signedBlock 4 15).rd64 SEC_MODSNL_SN SEC_MODSNH_SN = 0 by decide +kernel]; exact hu, by decide +kernel⟩

theorem witness_SignedEraseKey (h : Config.signatureOk 0 0 (secBytes (signedBlock 5 0) 0 0xC0) = true) :
    ∃ s : State, SignedDue 5 s ∧ secArg s 0 1 < 16 ∧ s.rd PWR_STAT_NVINH ≠ 1 :=
  ⟨signedBlock 5 0, signedBlock_due 5 0 (by decide +kernel) (by decide +kernel) (by decide +kernel) (by decide +kernel) (by decide +kernel) (by decide +kernel) h, by decide +kernel, by decide +kernel⟩

theorem witness_SignedDebugUnlock (h : Config.signatureOk 0 0 (secBytes (signedBlock 6 0) 0 0xC0) = true) :
    ∃ s : State, SignedDue 6 s ∧ s.rd SEC_STAT_LC = 2 :=
  ⟨signedBlock 6 0, signedBlock_due 6 0 (by decide +kernel) (by decide +kernel) (by decide +kernel) (by decide +kernel) (by decide +kernel) (by decide +kernel) h, by decide +kernel⟩

theorem witness_SignedCellService (h : Config.signatureOk 0 0 (secBytes (signedBlock 7 0) 0 0xC0) = true) :
    ∃ s : State, SignedDue 7 s ∧ s.rd PWR_STAT_STBY ≠ 0 :=
  ⟨signedBlock 7 0, signedBlock_due 7 0 (by decide +kernel) (by decide +kernel) (by decide +kernel) (by decide +kernel) (by decide +kernel) (by decide +kernel) h, by decide +kernel⟩

/-! The machine's own statements -/

theorem witness_StepRunsFrontCommand : ∃ (c : Instr) (rest : List Instr) (s : State), s.pending = c :: rest :=
  ⟨.modeReqDormant, [], { State.reset with pending := [.modeReqDormant] }, rfl⟩

theorem witness_CommandQueue :
    (∃ s : State, s.pending = [] ∧ s.welt.held.filter Held.mirror = []) ∧ (∃ (c : Instr) (s t : State), exec c s = .next t) :=
  ⟨⟨State.reset, rfl, rfl⟩, ⟨.bankSupplyRestored 0, State.reset, _, rfl⟩⟩

theorem witness_StepKeepsCanonical : ∃ s t : State, s.Canonical ∧ step s = .next t :=
  ⟨State.reset, _, ⟨rfl, by unfold Tab.Rising; decide +kernel, by unfold Tab.Rising; decide +kernel, by unfold Tab.Rising; decide +kernel, by unfold Tab.Rising; decide +kernel⟩, rfl⟩

theorem witness_StepKeepsPlanes : ∃ s t : State, s.PlanesOk ∧ step s = .next t :=
  ⟨State.reset, _, fun u => by unfold activeOf; split <;> exact Nat.two_pos, rfl⟩

end Sys2Proof.Machine
end

namespace Sys2Proof.Machine

/-! The register map (R12, R14): what holds of every register of it, and of the one that an address reaches -/

/-- The registers of every block and of per-die space. -/
def regsAll : List Reg := (List.range 256).flatMap (fun k => regsAt (k * 0x10000)) ++ regsAt 0x1000000

theorem regsAt_block {a : Nat} (h : a < 0x1000000) : regsAt a = regsAt (a / 0x10000 * 0x10000) := by
  unfold regsAt
  rw [if_neg (by omega), if_neg (by omega), Nat.mul_div_cancel _ (by decide)]

theorem mem_regsAll {a : Nat} {r : Reg} (h : r ∈ regsAt a) : r ∈ regsAll := by
  by_cases ha : 0x1000000 ≤ a
  · rw [regsAt, if_pos ha] at h
    exact List.mem_append_right _ h
  · rw [regsAt_block (Nat.lt_of_not_le ha)] at h
    exact List.mem_append_left _ (List.mem_flatMap.2 ⟨_, List.mem_range.2 (by omega), h⟩)

/-- The fields of the register stand at its address, each on a lowest bit of its own below 32. -/
abbrev Reg.Laid (r : Reg) : Prop := (∀ f ∈ r.flds, f.adr = r.adr ∧ f.lo < 32) ∧ (r.flds.map Fld.lo).Nodup

theorem regsAll_laid : ∀ r ∈ regsAll, r.Laid := by decide +kernel

theorem regsAll_rp_valid : ∀ r ∈ regsAll, r.isRp = true → ∃ f ∈ r.flds, f.lo = 31 ∧ f.w = 1 ∧ f.acc = .rp := by decide +kernel

/-- The fields that another field of their register limits; each register exists once. -/
def limitedFlds : List Fld := [DRC_SCHED_WQLO, HLT_TPOL_TWARN]

theorem regsAll_limited : ∀ x ∈ limitedFlds, ∀ r ∈ regsAll, r.has x = true → r.dims = [] ∧ x ∈ r.flds := by decide +kernel

/-- The counters of the selected flow, which are not stored as register fields (spec/07). -/
def flowCounters : List Fld := [WLT_FLOWUNITS_COUNT, WLT_FLOWHELD_COUNT, WLT_FLOWOVR_COUNT]

theorem regsAll_flowCounter : ∀ x ∈ flowCounters, ∀ r ∈ regsAll, r.has x = true → r.flds = [x] := by decide +kernel

/-- Whether a field is shown from elsewhere depends on the field alone. -/
theorem viewOf_isNone (s : State) (f : Fld) (off : Nat) : (viewOf s f off).isNone = (viewOf State.reset f 0).isNone := by
  unfold viewOf
  split
  · simp only [viewDie, apply_ite Option.isNone, Option.isNone_some, Option.isNone_none]
  · split <;>
      simp only [viewGlb, viewPwr, viewClk, viewCfg, viewWlt, viewStat, viewQue, viewDrc, viewCob, viewEye, viewSbp, viewSec, viewUpd, viewBbx, viewHlt,
        apply_ite Option.isNone, Option.isNone_some, Option.isNone_none]

theorem regsAll_rc_stored : ∀ r ∈ regsAll, ∀ f ∈ r.flds, f.acc = .rc → f ∈ flowCounters ∨ (viewOf State.reset f 0).isNone = true := by decide +kernel

theorem Reg.has_iff {r : Reg} {f : Fld} : r.has f = true ↔ r.adr = f.adr := beq_iff_eq

section
variable {a : Nat} {r : Reg}

theorem regAt_mem (h : regAt a = some r) : r ∈ regsAll := mem_regsAll (List.mem_of_find?_eq_some h)

theorem regAt_at (h : regAt a = some r) : r.adr ≤ a ∧ dimsHave r.dims (a - r.adr) = true := by
  have hat : r.at? a = true := List.find?_some (p := fun x : Reg => x.at? a) h
  simpa [Reg.at?] using hat

/-- A register that exists once is reached at its own address. -/
theorem regAt_single (h : regAt a = some r) (hd : r.dims = []) : a - r.adr = 0 := by
  have hoff := (regAt_at h).2
  rw [hd] at hoff
  exact beq_iff_eq.1 hoff

theorem regAt_fld_adr (h : regAt a = some r) {f : Fld} (hf : f ∈ r.flds) : f.adr + (a - r.adr) = a := by
  have hle := (regAt_at h).1
  have hadr := ((regsAll_laid r (regAt_mem h)).1 f hf).1
  omega

/-- Two fields of a register never share a key. -/
theorem regAt_key_inj (h : regAt a = some r) {f g : Fld} (hf : f ∈ r.flds) (hg : g ∈ r.flds) {o : Nat} (hk : f.key o = g.key o) : f = g := by
  obtain ⟨hat, hlo⟩ := regsAll_laid r (regAt_mem h)
  have hadr : f.adr = g.adr := (hat f hf).1.trans (hat g hg).1.symm
  refine List.inj_on_of_nodup_map hlo hf hg ?_
  unfold Fld.key at hk
  omega

theorem regAt_keys_pairwise (h : regAt a = some r) (o : Nat) : r.flds.Pairwise fun f g => f.key o ≠ g.key o :=
  (List.Nodup.of_map _ (regsAll_laid r (regAt_mem h)).2).imp_of_mem fun hf hg hne hk => hne (regAt_key_inj h hf hg hk)

/-- A field at an address outside the four bytes of the register has another key than each of its fields. -/
theorem regAt_key_outside (h : regAt a = some r) {f : Fld} (hf : f ∈ r.flds) {g : Fld} {p : Nat} (hg : g.lo < 32) (hp : g.adr + p < a ∨ a + 4 ≤ g.adr + p) :
    g.key p ≠ f.key (a - r.adr) := by
  have hadr := regAt_fld_adr h hf
  exact Fld.key_ne_of_adr ((regsAll_laid r (regAt_mem h)).1 f hf).2 hg (by omega)

end

/-! A run over the fields of a register, each of which acts on its own field alone -/

/-- At offset `off` from the register's first address, `act` gives each field the value `val` of what it holds, and changes no other field and no memory. -/
structure ActsOnOwnField (off : Nat) (val : Fld → Nat → Nat) (act : State → Fld → State) : Prop where
  own : ∀ s f, (act s f).rdi f off = val f (s.rdi f off)
  other : ∀ s f (g : Fld) p, g.key p ≠ f.key off → (act s f).rdi g p = s.rdi g p
  mem : ∀ s f, (act s f).mem = s.mem

section
variable {off : Nat} {val : Fld → Nat → Nat} {act : State → Fld → State} (ha : ActsOnOwnField off val act)
include ha

theorem foldl_act_mem (l : List Fld) (s : State) : (l.foldl act s).mem = s.mem := by
  induction l generalizing s with
  | nil => rfl
  | cons f l ih => exact (ih _).trans (ha.mem s f)

theorem foldl_act_rdi_other {l : List Fld} {g : Fld} {p : Nat} (h : ∀ f ∈ l, g.key p ≠ f.key off) (s : State) : (l.foldl act s).rdi g p = s.rdi g p := by
  induction l generalizing s with
  | nil => rfl
  | cons f l ih =>
    rw [List.foldl_cons, ih fun x hx => h x (List.mem_cons_of_mem _ hx)]
    exact ha.other s f g p (h f (List.mem_cons_self ..))

theorem foldl_act_rdi {l : List Fld} (hl : l.Pairwise fun f g => f.key off ≠ g.key off) {f : Fld} (hf : f ∈ l) (s : State) :
    (l.foldl act s).rdi f off = val f (s.rdi f off) := by
  induction l generalizing s with
  | nil => cases hf
  | cons x l ih =>
    obtain ⟨hx, hl⟩ := List.pairwise_cons.1 hl
    rw [List.foldl_cons]
    rcases List.mem_cons.1 hf with rfl | hfl
    · rw [foldl_act_rdi_other ha hx, ha.own]
    · rw [ih hl hfl, ha.other s x f off (hx f hfl).symm]

end

/-! Reads (R15, R16) -/

theorem regRead_reaches {m : Master} {a : Nat} {s : State} {r : Reg} (hs : accessStop m false a s = none) (hr : regAt a = some r) (hb : r.has BBX_RDAT_WORD = false) :
    regRead m false a s = ((0, regWord r (a - r.adr) s), readEffect r (a - r.adr) s) := by
  simp [regRead, hs, hr, hb]

theorem regWord_rp {r : Reg} {off : Nat} {s : State} (h : r.isRp = true) : regWord r off s = ((tabGet {} s.evq r.adr).entries.head?.getD (0, 0)).1 := by
  unfold regWord
  rw [if_pos h]
  cases (tabGet ({} : EvQueue) s.evq r.adr).entries <;> rfl

/-- The second word of a pop goes to a register field: queues and memory stay. -/
theorem popSecond_frame (adr w : Nat) (s : State) : (popSecond adr w s).evq = s.evq ∧ (popSecond adr w s).mem = s.mem := by
  unfold popSecond
  split_ifs <;> simp

theorem popHead_nil {adr : Nat} {s : State} (h : (tabGet {} s.evq adr).entries = []) : popHead adr s = s := by
  unfold popHead
  rw [h]

theorem popHead_cons {adr : Nat} {s : State} {e : Nat × Nat} {l : List (Nat × Nat)} (h : (tabGet {} s.evq adr).entries = e :: l) :
    (tabGet {} (popHead adr s).evq adr).entries = l ∧ (∀ x, x ≠ adr → tabGet {} (popHead adr s).evq x = tabGet {} s.evq x) ∧ (popHead adr s).mem = s.mem := by
  unfold popHead
  rw [h]
  obtain ⟨hq, hm⟩ := popSecond_frame adr e.2 { s with evq := tabMod {} s.evq adr fun x => { x with entries := l } }
  simp only [hq, hm, tabGet_mod_same, true_and, and_true]
  exact fun x hx => tabGet_mod_ne _ _ _ hx

/-- The run that clears the RC fields of a register. -/
theorem clearField_acts (off : Nat) : ActsOnOwnField off (fun _ _ => 0) fun s f => s.wri f off 0 where
  own s f := by simp
  other s _ _ _ h := State.rdi_wri_ne s 0 h
  mem _ _ := rfl

@[simp] theorem State.flowSt_modFlow (s : State) (f : Nat) (g : FlowSt → FlowSt) : (s.modFlow f g).flowSt f = g (s.flowSt f) := tabGet_mod_same ..

theorem fieldVal_flowUnits (s : State) (off : Nat) : fieldVal s WLT_FLOWUNITS_COUNT off = (s.flowSt (s.rd WLT_FLOWSEL_FLOW)).units % 2 ^ 32 := rfl
theorem fieldVal_flowHeld (s : State) (off : Nat) : fieldVal s WLT_FLOWHELD_COUNT off = (s.flowSt (s.rd WLT_FLOWSEL_FLOW)).held % 2 ^ 32 := rfl
theorem fieldVal_flowOvr (s : State) (off : Nat) : fieldVal s WLT_FLOWOVR_COUNT off = (s.flowSt (s.rd WLT_FLOWSEL_FLOW)).ovr % 2 ^ 32 := rfl

/-- The counter of the selected flow reads 0 after its read, and no register field changes. -/
theorem clearRc_flow {x : Fld} (hx : x ∈ flowCounters) {r : Reg} (hr : r.has x = true) (off : Nat) (s : State) :
    fieldVal (clearRc r off s) x off = 0 ∧ (clearRc r off s).regs = s.regs ∧ (clearRc r off s).mem = s.mem := by
  have hadr := Reg.has_iff.1 hr
  simp only [flowCounters, List.mem_cons, List.not_mem_nil, or_false] at hx
  unfold clearRc
  rcases hx with rfl | rfl | rfl
  · rw [if_pos hr]
    simp [fieldVal_flowUnits]
  · rw [if_neg (by rw [Reg.has, hadr]; decide), if_pos hr]
    simp [fieldVal_flowHeld]
  · rw [if_neg (by rw [Reg.has, hadr]; decide), if_neg (by rw [Reg.has, hadr]; decide), if_pos hr]
    simp [fieldVal_flowOvr]

/-- Of any other register the RC fields are written 0. -/
theorem clearRc_stored {r : Reg} (h : ∀ x ∈ flowCounters, r.has x = false) (off : Nat) (s : State) :
    (clearRc r off s).regs = ((r.flds.filter fun x => x.acc == .rc).foldl (fun s f => s.wri f off 0) s).regs ∧
      (clearRc r off s).mem = ((r.flds.filter fun x => x.acc == .rc).foldl (fun s f => s.wri f off 0) s).mem := by
  simp only [flowCounters, List.forall_mem_cons] at h
  obtain ⟨hunits, hheld, hovr, -⟩ := h
  simp only [clearRc, hunits, hheld, hovr, Bool.false_eq_true, if_false]
  split <;> simp

theorem State.rdi_of_regs {s t : State} (h : t.regs = s.regs) (f : Fld) (o : Nat) : t.rdi f o = s.rdi f o := by rw [State.rdi, State.rdi, h]

theorem SameMem.of_mem {s t : State} (h : t.mem = s.mem) : SameMem s t := fun a => by rw [State.rdByte, State.rdByte, h]

theorem fieldVal_stored {s : State} {f : Fld} {off : Nat} (ha : f.acc ≠ .wo) (hv : (viewOf State.reset f 0).isNone = true) : fieldVal s f off = s.rdi f off := by
  have hnone : viewOf s f off = none := by rw [← Option.isNone_iff_eq_none, viewOf_isNone, hv]
  rw [fieldVal, if_neg ha, hnone]

/-- A read clears the RC fields it shows, and no other register and no memory (R15). -/
theorem clearRc_spec {a : Nat} {r : Reg} (h : regAt a = some r) (s : State) :
    (∀ f ∈ r.flds, f.acc = .rc → fieldVal (clearRc r (a - r.adr) s) f (a - r.adr) = 0) ∧
      SameRegsOutside a (a + 4) s (clearRc r (a - r.adr) s) ∧ SameMem s (clearRc r (a - r.adr) s) := by
  by_cases hflow : ∃ x ∈ flowCounters, r.has x = true
  · obtain ⟨x, hx, hr⟩ := hflow
    obtain ⟨hval, hregs, hmem⟩ := clearRc_flow hx hr (a - r.adr) s
    refine ⟨fun f hf _ => ?_, fun g p _ _ => State.rdi_of_regs hregs g p, .of_mem hmem⟩
    rw [regsAll_flowCounter x hx r (regAt_mem h) hr, List.mem_singleton] at hf
    rw [hf]; exact hval
  · have hnot : ∀ x ∈ flowCounters, r.has x = false := fun x hx => Bool.eq_false_iff.2 fun e => hflow ⟨x, hx, e⟩
    obtain ⟨hregs, hmem⟩ := clearRc_stored hnot (a - r.adr) s
    have hacts := clearField_acts (a - r.adr)
    have hsub : ∀ f ∈ r.flds.filter fun x => x.acc == .rc, f ∈ r.flds := fun f hf => List.mem_of_mem_filter hf
    refine ⟨fun f hf hrc => ?_, fun g p hg hp => ?_, .of_mem (hmem.trans (foldl_act_mem hacts _ s))⟩
    · have hf' : f ∈ r.flds.filter fun x => x.acc == .rc := List.mem_filter.2 ⟨hf, by simp [hrc]⟩
      have hst : (viewOf State.reset f 0).isNone = true := by
        refine (regsAll_rc_stored r (regAt_mem h) f hf hrc).resolve_left fun hx => ?_
        have hadr := ((regsAll_laid r (regAt_mem h)).1 f hf).1
        exact Bool.eq_false_iff.1 (hnot f hx) (Reg.has_iff.2 hadr.symm)
      rw [fieldVal_stored (by rw [hrc]; decide) hst, State.rdi_of_regs hregs]
      exact foldl_act_rdi hacts ((regAt_keys_pairwise h _).filter _) hf' s
    · rw [State.rdi_of_regs hregs]
      exact foldl_act_rdi_other hacts (fun f hf => regAt_key_outside h (hsub f hf) hg hp) s

/-! Writes (R15, R515) -/

/-- What a field holds after a write of `v` to the register, by its access code (R15). -/
def fieldAfter (off v : Nat) (f : Fld) (old : Nat) : Nat :=
  match f.acc with
  | .rw => stored f off (f.of v) % 2 ^ f.w
  | .w1c => (old &&& (2 ^ f.w - 1 - f.of v)) % 2 ^ f.w
  | .w1s => (old ||| f.of v) % 2 ^ f.w
  | _ => old

section
variable {off v : Nat} {f : Fld} {old : Nat}

theorem fieldAfter_rw (h : f.acc = .rw) : fieldAfter off v f old = stored f off (f.of v) % 2 ^ f.w := by rw [fieldAfter, h]

theorem fieldAfter_w1c (h : f.acc = .w1c) : fieldAfter off v f old = (old &&& (2 ^ f.w - 1 - f.of v)) % 2 ^ f.w := by rw [fieldAfter, h]

theorem fieldAfter_w1s (h : f.acc = .w1s) : fieldAfter off v f old = (old ||| f.of v) % 2 ^ f.w := by rw [fieldAfter, h]

theorem fieldAfter_kept (hrw : f.acc ≠ .rw) (hw1c : f.acc ≠ .w1c) (hw1s : f.acc ≠ .w1s) : fieldAfter off v f old = old := by
  unfold fieldAfter
  split
  · contradiction
  · contradiction
  · contradiction
  · rfl

end

/-- A field takes a write of `v` to its register. -/
def storeField (off v : Nat) (s : State) (f : Fld) : State :=
  match f.acc with
  | .rw => s.wri f off (stored f off (f.of v))
  | .w1c => s.wri f off (s.rdi f off &&& (2 ^ f.w - 1 - f.of v))
  | .w1s => s.wri f off (s.rdi f off ||| f.of v)
  | _ => s

theorem storeFlds_eq (r : Reg) (off v : Nat) (s : State) : storeFlds r false off v s = limited r (r.flds.foldl (storeField off v) s) := rfl

theorem storeField_acts (off v : Nat) : ActsOnOwnField off (fieldAfter off v) (storeField off v) where
  own s f := by
    unfold storeField fieldAfter
    cases f.acc <;> simp
  other s f g p h := by
    unfold storeField
    cases f.acc <;> simp [State.rdi_wri_ne _ _ h]
  mem s f := by
    unfold storeField
    cases f.acc <;> simp

/-- The limit acts on the limited fields of the register alone. -/
theorem limited_rdi {a : Nat} {r : Reg} (h : regAt a = some r) {g : Fld} {p : Nat} (hk : ∀ x ∈ limitedFlds, x ∈ r.flds → g.key p ≠ x.key (a - r.adr)) (s : State) :
    (limited r s).rdi g p = s.rdi g p := by
  have hkey : ∀ x ∈ limitedFlds, r.has x = true → g.key p ≠ x.key 0 := fun x hx hr => by
    obtain ⟨hd, hf⟩ := regsAll_limited x hx r (regAt_mem h) hr
    exact regAt_single h hd ▸ hk x hx hf
  unfold limited
  split_ifs with hwq htw
  · exact State.rdi_wr_ne _ _ (hkey _ (by simp [limitedFlds]) hwq)
  · exact State.rdi_wr_ne _ _ (hkey _ (by simp [limitedFlds]) htw)
  · rfl

theorem limited_mem (r : Reg) (s : State) : (limited r s).mem = s.mem := by
  unfold limited
  split_ifs <;> simp

/-- A plain write stores each field by its access code, and changes no other register and no memory. -/
theorem storeFlds_spec {a : Nat} {r : Reg} (h : regAt a = some r) (v : Nat) (s : State) :
    (∀ f ∈ r.flds, f ∉ limitedFlds → (storeFlds r false (a - r.adr) v s).rdi f (a - r.adr) = fieldAfter (a - r.adr) v f (s.rdi f (a - r.adr))) ∧
      SameRegsOutside a (a + 4) s (storeFlds r false (a - r.adr) v s) ∧ SameMem s (storeFlds r false (a - r.adr) v s) := by
  have hacts := storeField_acts (a - r.adr) v
  rw [storeFlds_eq]
  refine ⟨fun f hf hl => ?_, fun g p hg hp => ?_, .of_mem ((limited_mem ..).trans (foldl_act_mem hacts _ s))⟩
  · rw [limited_rdi h fun x hx hxr e => hl (regAt_key_inj h hf hxr e ▸ hx)]
    exact foldl_act_rdi hacts (regAt_keys_pairwise h _) hf s
  · rw [limited_rdi h fun x _ hxr => regAt_key_outside h hxr hg hp]
    exact foldl_act_rdi_other hacts (fun f hf => regAt_key_outside h hf hg hp) s

/-- A refused host write is counted with its address, and changes nothing else but the side-band event queue. -/
theorem denyHost_spec (a : Nat) (s : State) :
    (denyHost a s).rd SBP_DENY_COUNT = min (s.rd SBP_DENY_COUNT + 1) (2 ^ 32 - 1) ∧ (denyHost a s).rd SBP_DENYADR_ADDR = a % 2 ^ 32 ∧
      SameRegsBut [SBP_DENY_COUNT.key 0, SBP_DENYADR_ADDR.key 0] s (denyHost a s) ∧ SameMem s (denyHost a s) := by
  have hrdi : ∀ g p, (denyHost a s).rdi g p = ((s.inci SBP_DENY_COUNT 0).wr SBP_DENYADR_ADDR a).rdi g p := fun _ _ => rfl
  refine ⟨?_, ?_, fun g p hg => ?_, .of_mem rfl⟩
  · rw [State.rd, hrdi, State.rdi_wr_ne _ _ (by decide)]
    exact State.rdi_addi_same ..
  · rw [State.rd, hrdi, State.wr, State.rdi_wri_same]
    rfl
  · simp only [List.mem_cons, List.not_mem_nil, or_false, not_or] at hg
    rw [hrdi, State.rdi_wr_ne _ _ hg.2]
    exact State.rdi_addi_ne _ _ hg.1

section
variable {m : Master} {a : Nat} {v : Nat} {s : State} {r : Reg}

theorem regWrite_stops {st : Nat} (hs : accessStop m true a s = some st) : regWrite m a v s = (st, s) := by
  simp [regWrite, hs]

theorem regWrite_plain (hs : accessStop m true a s = none) (hr : regAt a = some r) (hd : dbgLocked m a s = false) (ho : ownerLets m r s = true)
    (hb : r.has GLB_HEARTBEAT_KEY = false) (hv : r.has PWR_VAULT_REQ = false) (hc : r.isCmd = false)
    (hn : ∀ w, (if 0x1000000 ≤ r.adr then dieWrite r (a - r.adr) w s else blockWrite m r (a - r.adr) w s) = none) :
    regWrite m a v s = (0, storeFlds r false (a - r.adr) (v % 2 ^ 32) s) := by
  simp [regWrite, hs, hr, hd, ho, hb, hv, writeReg, hc, hn]

/-- The owner's refusal, and that of a closed debug port before it, deny the host's write. -/
theorem regWrite_host_denied (hs : accessStop .host true a s = none) (hr : regAt a = some r) (hb : r.has GLB_HEARTBEAT_KEY = false)
    (ho : ownerLets .host r s = false) : (regWrite .host a v s).2 = denyHost a s := by
  by_cases hd : dbgLocked .host a s = true <;> simp [regWrite, hs, hr, hb, ho, hd]

end

/-! The rows -/

theorem exec_rpQueuePop {m : Master} {a : Nat} {s : State} {r : Reg} (hs : accessStop m false a s = none) (hr : regAt a = some r) (hp : r.isRp = true)
    (hb : r.has BBX_RDAT_WORD = false) :
    exec (.rpQueuePop m a) s = .next { popHead r.adr s with reply := [regWord r (a - r.adr) s] } := by
  change execRpQueuePop m a s = _
  simp [execRpQueuePop, hr, hp, regRead_reaches hs hr hb, readEffect]

theorem exec_rcCounterRead {m : Master} {a : Nat} {s : State} {r : Reg} (hs : accessStop m false a s = none) (hr : regAt a = some r) (hp : r.isRp = false)
    (hc : r.isRc = true) (hb : r.has BBX_RDAT_WORD = false) :
    exec (.rcCounterRead m a) s = .next { clearRc r (a - r.adr) s with reply := [regWord r (a - r.adr) s] } := by
  change execRcCounterRead m a s = _
  simp [execRcCounterRead, hr, hp, hc, regRead_reaches hs hr hb, readEffect]

theorem exec_registerWrite (m : Master) (a : Nat) (v : BitVec 32) (s : State) : exec (.registerWrite m a v) s = .next (regWrite m a v.toNat s).2 := rfl

/-- Settles O54: the map's facts give the keys of a register's fields, reads and writes are runs over those fields, and a stopped or refused write never
reaches one. -/
theorem registerAccess : Obligations.RegisterAccess := by
  refine ⟨?pop, ?popEmpty, ?valid, ?clear, ?plain, ?denied, ?stopped⟩
  case pop =>
    intro s m a r e l hs hr hp hb hq
    obtain ⟨hhead, hother, hmem⟩ := popHead_cons hq
    refine ⟨_, exec_rpQueuePop hs hr hp hb, ?_, hhead, hother, .of_mem hmem⟩
    simp [regWord_rp hp, hq]
  case popEmpty =>
    intro s m a r hs hr hp hb hq
    rw [exec_rpQueuePop hs hr hp hb, popHead_nil hq, regWord_rp hp, hq]
    rfl
  case valid => exact fun a r hr hp => regsAll_rp_valid r (regAt_mem hr) hp
  case clear =>
    intro s m a r hs hr hp hc hb
    obtain ⟨hzero, hregs, hmem⟩ := clearRc_spec hr s
    exact ⟨_, exec_rcCounterRead hs hr hp hc hb, rfl, hzero, hregs, hmem⟩
  case plain =>
    intro s m a v r f hs hr hd ho hb hv hc hn hf hwq htw
    obtain ⟨hval, hregs, hmem⟩ := storeFlds_spec hr v.toNat s
    have hfld := hval f hf (by simp [limitedFlds, hwq, htw])
    refine ⟨_, exec_registerWrite .., ?_⟩
    rw [regWrite_plain hs hr hd ho hb hv hc hn, Nat.mod_eq_of_lt v.isLt]
    exact ⟨fun h => hfld.trans (fieldAfter_rw h), fun h => hfld.trans (fieldAfter_w1c h), fun h => hfld.trans (fieldAfter_w1s h),
      fun hrw hw1c hw1s => hfld.trans (fieldAfter_kept hrw hw1c hw1s), hregs, hmem⟩
  case denied =>
    intro s a v r hs hr hb ho
    exact ⟨_, exec_registerWrite .., by rw [regWrite_host_denied hs hr hb ho]; exact denyHost_spec a s⟩
  case stopped =>
    intro s m a st v hs
    rw [exec_registerWrite, regWrite_stops hs]

end Sys2Proof.Machine

namespace Sys2Proof.Machine

/-! Tables whose keys rise, and runs of `tabSet` over a list (the form of every clocked update) -/

section
variable {α β γ : Type}

theorem tabGet_of_no_key {d : α} {m : Tab α} {k : Nat} (h : ∀ p ∈ m, p.1 ≠ k) : tabGet d m k = d := by
  induction m with
  | nil => rfl
  | cons p t ih =>
    obtain ⟨hp, ht⟩ := List.forall_mem_cons.1 h
    rw [tabGet_cons, if_neg hp, ih ht]

theorem Tab.Rising.tabGet_eq {m : Tab α} (h : m.Rising) (d : α) {p : Nat × α} (hp : p ∈ m) : tabGet d m p.1 = p.2 := by
  induction m with
  | nil => cases hp
  | cons q t ih =>
    obtain ⟨hq, ht⟩ := List.pairwise_cons.1 h
    rw [tabGet_cons]
    rcases List.mem_cons.1 hp with rfl | hpt
    · rw [if_pos rfl]
    · rw [if_neg (hq p hpt).ne, ih ht hpt]

variable [DecidableEq α] {d : α} {key : β → Nat} {val : β → α} {k : Nat} {v : α} {l : List β}

/-- Where every entry of the run at key `k` sets `v`, `k` holds `v` after the run, or what it held where the run has no such entry. -/
theorem tabGet_foldl_set (hv : ∀ p ∈ l, key p = k → val p = v) (m : Tab α) :
    tabGet d (l.foldl (fun t p => tabSet d t (key p) (val p)) m) k = if ∃ p ∈ l, key p = k then v else tabGet d m k := by
  induction l generalizing m with
  | nil => simp
  | cons p l ih =>
    obtain ⟨hp, hl⟩ := List.forall_mem_cons.1 hv
    rw [List.foldl_cons, ih hl]
    by_cases hk : key p = k
    · subst hk
      simp [hp]
    · simp [hk, tabGet_set_ne d d m (val p) (Ne.symm hk)]

theorem tabGet_foldl_set_ne (h : ∀ p ∈ l, key p ≠ k) (m : Tab α) : tabGet d (l.foldl (fun t p => tabSet d t (key p) (val p)) m) k = tabGet d m k := by
  rw [tabGet_foldl_set (v := d) (fun p hp hk => absurd hk (h p hp)), if_neg (by simpa using h)]

/-- A rising table set into one where `k` is free shows itself at `k`. -/
theorem Tab.Rising.tabGet_foldl_set {l m : Tab α} (hl : l.Rising) (hm : tabGet d m k = d) :
    tabGet d (l.foldl (fun t p => tabSet d t p.1 p.2) m) k = tabGet d l k := by
  rw [Machine.tabGet_foldl_set (v := tabGet d l k) fun p hp hk => by rw [← hk, hl.tabGet_eq d hp]]
  split_ifs with h
  · rfl
  · rw [hm, tabGet_of_no_key fun p hp hk => h ⟨p, hp, hk⟩]

/-- The entries of a rising table on network `n` are run once each, on what `f` makes of them; every other entry keeps its key's value. -/
theorem Tab.Rising.tabGet_foldl_clocked {l : Tab γ} (hl : l.Rising) (net : γ → Nat) (n : Nat) (f : Nat × γ → β) (out : β → α) (m : Tab α) {p : Nat × γ}
    (hp : p ∈ l) :
    tabGet d (((l.filter fun q => net q.2 == n).map fun q => (q.1, f q)).foldl (fun t q => tabSet d t q.1 (out q.2)) m) p.1 =
      if net p.2 = n then out (f p) else tabGet d m p.1 := by
  have huniq : ∀ q ∈ l, q.1 = p.1 → q = p := fun q hq hk => Prod.ext hk (by rw [← hl.tabGet_eq p.2 hq, hk, hl.tabGet_eq p.2 hp])
  rw [List.foldl_map]
  by_cases hon : net p.2 = n
  · rw [if_pos hon, Machine.tabGet_foldl_set (v := out (f p)) fun q hq hk => by rw [huniq q (List.mem_of_mem_filter hq) hk],
      if_pos ⟨p, List.mem_filter.2 ⟨hp, beq_iff_eq.2 hon⟩, rfl⟩]
  · rw [if_neg hon, tabGet_foldl_set_ne]
    intro q hq hk
    obtain ⟨hql, hqon⟩ := List.mem_filter.1 hq
    exact hon (huniq q hql hk ▸ beq_iff_eq.1 hqon)

end

theorem SameRegsBut.of_regs {s t : State} (h : t.regs = s.regs) (l : List Nat) : SameRegsBut l s t := fun f o _ => State.rdi_of_regs h f o

/-! An edge of an express clock (R83, R86 to R88) -/

section
variable {s : State} {g x : Nat}

/-- The channels of a table that gear group `g` clocks. -/
def clockedBy (s : State) (g : Nat) (m : Tab Nat) : Tab Nat := m.filter fun p => xGroup s p.1 == g

/-- The channels of a table that gear group `g` does not clock. -/
def notClockedBy (s : State) (g : Nat) (m : Tab Nat) : Tab Nat := m.filter fun p => !(xGroup s p.1 == g)

theorem clockedBy_rising {m : Tab Nat} (h : m.Rising) : Tab.Rising (clockedBy s g m) := h.filter _

theorem tabGet_clockedBy (h : xGroup s x = g) (m : Tab Nat) : tabGet 0 (clockedBy s g m) x = tabGet 0 m x :=
  tabGet_filter_true 0 m (fun c => xGroup s c == g) (by simpa using h)

theorem clockedBy_ne (h : xGroup s x ≠ g) (m : Tab Nat) : ∀ p ∈ clockedBy s g m, p.1 ≠ x := by
  rintro p hp rfl
  exact h (beq_iff_eq.1 (List.mem_filter.1 hp).2)

theorem tabGet_notClockedBy_own (h : xGroup s x = g) (m : Tab Nat) : tabGet 0 (notClockedBy s g m) x = 0 :=
  tabGet_filter_false 0 m (fun c => !(xGroup s c == g)) (by simpa using h)

theorem tabGet_notClockedBy_other (h : xGroup s x ≠ g) (m : Tab Nat) : tabGet 0 (notClockedBy s g m) x = tabGet 0 m x :=
  tabGet_filter_true 0 m (fun c => !(xGroup s c == g)) (by simpa using h)

/-- What is in flight after an edge of group `g`. -/
def flyAfter (s : State) (g : Nat) : Tab Nat :=
  (clockedBy s g s.express.launch).foldl (fun t p => tabSet 0 t p.1 p.2) (notClockedBy s g s.express.fly)

/-- What has landed after an edge of group `g` (R88). -/
def landAfter (s : State) (g : Nat) : Tab Nat :=
  ((clockedBy s g s.express.fly).filter fun p => xLive s p.1).foldl (fun t p => tabSet 0 t p.1 p.2) (notClockedBy s g s.express.land)

/-- The channels of group `g` whose launch registers take the 1 that the fabric or a stream presents. -/
def presented (s : State) (g : Nat) (ones : List Nat) : List Nat :=
  ones.filter fun c => c < 24 * 2 * 4800 && xGroup s c == g && ((xSender c).isSome || (c / 4800 % 2 == 1 && c / 9600 < 12 && streamDriven s c))

/-- The express plane in use. -/
def expressCfg (s : State) : XCfg := if s.express.plane = 0 then s.express.cfg0 else s.express.cfg1

/-- The launch registers after an edge of group `g`: the fabric's, then those of the pass-throughs, then those of the cross-connect (R86, R87). -/
def launchAfter (s : State) (g : Nat) (ones : List Nat) : Tab Nat :=
  ((expressCfg s).xc.filter fun p => xGroup s p.1 == g && !streamDriven s p.1).foldl (fun t p => tabSet 0 t p.1 (xcSelect (landAfter s g) p.2))
    ((clockedBy s g (expressCfg s).pass).foldl (fun t p => tabSet 0 t p.1 (tabGet 0 s.express.land p.2))
      ((presented s g ones).foldl (fun t c => tabSet 0 t c 1) (notClockedBy s g s.express.launch)))

theorem flyAfter_own (hl : Tab.Rising s.express.launch) (h : xGroup s x = g) : tabGet 0 (flyAfter s g) x = tabGet 0 s.express.launch x := by
  rw [flyAfter, (clockedBy_rising hl).tabGet_foldl_set (tabGet_notClockedBy_own h _), tabGet_clockedBy h]

theorem flyAfter_other (h : xGroup s x ≠ g) : tabGet 0 (flyAfter s g) x = tabGet 0 s.express.fly x := by
  rw [flyAfter, tabGet_foldl_set_ne (clockedBy_ne h _), tabGet_notClockedBy_other h]

theorem landAfter_own (hf : Tab.Rising s.express.fly) (h : xGroup s x = g) :
    tabGet 0 (landAfter s g) x = if xLive s x = true then tabGet 0 s.express.fly x else 0 := by
  rw [landAfter, ((clockedBy_rising hf).filter _).tabGet_foldl_set (tabGet_notClockedBy_own h _)]
  split_ifs with hx
  · rw [tabGet_filter_true _ _ _ hx, tabGet_clockedBy h]
  · exact tabGet_filter_false _ _ _ (by simpa using hx)

theorem landAfter_other (h : xGroup s x ≠ g) : tabGet 0 (landAfter s g) x = tabGet 0 s.express.land x := by
  rw [landAfter, tabGet_foldl_set_ne (fun p hp => clockedBy_ne h _ p (List.mem_of_mem_filter hp)), tabGet_notClockedBy_other h]

theorem launchAfter_presented {ones : List Nat} (hpass : ∀ p ∈ clockedBy s g (expressCfg s).pass, p.1 ≠ x)
    (hxc : ∀ p ∈ (expressCfg s).xc, (xGroup s p.1 == g) = true → p.1 ≠ x) :
    tabGet 0 (launchAfter s g ones) x = if x ∈ presented s g ones then 1 else tabGet 0 (notClockedBy s g s.express.launch) x := by
  rw [launchAfter, tabGet_foldl_set_ne, tabGet_foldl_set_ne hpass, tabGet_foldl_set (key := fun c => c) (val := fun _ => 1) (v := 1) fun _ _ _ => rfl]
  · simp
  · intro p hp
    obtain ⟨hmem, hon⟩ := List.mem_filter.1 hp
    exact hxc p hmem (Bool.and_eq_true_iff.1 hon).1

theorem launchAfter_own {ones : List Nat} (h : xGroup s x = g) (hpass : ∀ p ∈ (expressCfg s).pass, p.1 ≠ x) (hxc : ∀ p ∈ (expressCfg s).xc, p.1 ≠ x)
    (hs : (xSender x).isSome = true) (hx : x < 230400) : tabGet 0 (launchAfter s g ones) x = (ones.contains x).toNat := by
  rw [launchAfter_presented (fun p hp => hpass p (List.mem_of_mem_filter hp)) fun p hp _ => hxc p hp, tabGet_notClockedBy_own h]
  by_cases hm : x ∈ ones <;> simp [presented, h, hs, hx, hm]

theorem launchAfter_other {ones : List Nat} (h : xGroup s x ≠ g) : tabGet 0 (launchAfter s g ones) x = tabGet 0 s.express.launch x := by
  rw [launchAfter_presented (clockedBy_ne h _), if_neg, tabGet_notClockedBy_other h]
  · simp [presented, h]
  · rintro p - hp rfl
    exact h (beq_iff_eq.1 hp)

end

section
variable {s : State} {g : Fin 12} {ones : List Nat}

theorem exec_expressClockEdge_stopped (h : s.rdi GEAR_STAT_GEAR (4 * g) = 0) : exec (.expressClockEdge g ones) s = .next s := by
  change execExpressClockEdge g ones s = _
  exact if_pos h

theorem exec_expressClockEdge (h : s.rdi GEAR_STAT_GEAR (4 * g) ≠ 0) :
    exec (.expressClockEdge g ones) s =
      .next (State.modGear { s with express := { s.express with land := landAfter s g, fly := flyAfter s g, launch := launchAfter s g ones } } g
        fun c => { c with count := c.count + 1 }) := by
  change execExpressClockEdge g ones s = _
  exact if_neg h

/-- The stages of a channel that group `g` clocks move on. -/
theorem expressClockEdge_own {x : Nat} (hg : s.rdi GEAR_STAT_GEAR (4 * g) ≠ 0) (hlaunch : Tab.Rising s.express.launch) (hfly : Tab.Rising s.express.fly)
    (hx : xGroup s x = g.val) :
    Yields (exec (.expressClockEdge g ones) s) fun t =>
      tabGet 0 t.express.fly x = tabGet 0 s.express.launch x ∧
      tabGet 0 t.express.land x = (if xLive s x then tabGet 0 s.express.fly x else 0) ∧ (t.gear g).count = (s.gear g).count + 1 ∧
      ((∀ p ∈ (expressCfg s).pass, p.1 ≠ x) → (∀ p ∈ (expressCfg s).xc, p.1 ≠ x) → (xSender x).isSome = true → x < 230400 →
        tabGet 0 t.express.launch x = (ones.contains x).toNat) ∧ SameRegsBut [] s t ∧ SameMem s t := by
  refine ⟨_, exec_expressClockEdge hg, flyAfter_own hlaunch hx, landAfter_own hfly hx, ?_, launchAfter_own hx, .of_regs rfl _, .of_mem rfl⟩
  rw [State.gear_modGear]
  rfl

/-- The registers of a channel of another group stay. -/
theorem expressClockEdge_other {x : Nat} (hx : xGroup s x ≠ g.val) :
    Yields (exec (.expressClockEdge g ones) s) fun t =>
      tabGet 0 t.express.fly x = tabGet 0 s.express.fly x ∧ tabGet 0 t.express.land x = tabGet 0 s.express.land x ∧
        tabGet 0 t.express.launch x = tabGet 0 s.express.launch x := by
  by_cases hg : s.rdi GEAR_STAT_GEAR (4 * g) = 0
  · exact ⟨s, exec_expressClockEdge_stopped hg, rfl, rfl, rfl⟩
  · exact ⟨_, exec_expressClockEdge hg, flyAfter_other hx, landAfter_other hx, launchAfter_other hx⟩

end

/-! Cells and product blocks of a region at an edge (R45, R46, R54 to R57) -/

@[simp] theorem View.get_const (v : View) (b : Bool) : v.get (.const b) = b := rfl

theorem cellEdge_released (v : View) (c : Nat) (g : CellCfg) :
    (cellEdge v 0 c g).1 =
      if v.get g.sr = g.srHigh then g.srvalA.toNat + 2 * g.srvalB.toNat
      else if v.get g.ce = true then (cellD v c g 0).toNat + 2 * (cellD v c g 1).toNat else tabGet 0 v.ff c := by
  simp only [cellEdge, cellSr, beq_iff_eq, ne_eq, not_true_eq_false, if_false]
  split_ifs <;> rfl

theorem regionEdge_ff {g : Region} (h : Tab.Rising g.design.cells) (k : Nat) (ext : List Nat) {c : Nat} {x : CellCfg} (hc : (c, x) ∈ g.design.cells) :
    tabGet 0 (regionEdge g k ext).ff c =
      if x.net = k then (cellEdge ⟨g.design, g.ff, g.prod, ext⟩ (tabGet 0 g.rel c) c x).1 else tabGet 0 g.ff c :=
  h.tabGet_foldl_clocked CellCfg.net k _ Prod.fst g.ff hc

theorem regionEdge_prod {g : Region} (h : Tab.Rising g.design.prods) (k : Nat) (ext : List Nat) {b : Nat} {x : ProdCfg} (hb : (b, x) ∈ g.design.prods) :
    tabGet {} (regionEdge g k ext).prod b =
      if x.net = k then prodEdge ⟨g.design, g.ff, g.prod, ext⟩ (View.pcin ⟨g.design, g.ff, g.prod, ext⟩ b) x (tabGet {} g.prod b) else tabGet {} g.prod b :=
  h.tabGet_foldl_clocked ProdCfg.net k _ id g.prod hb

theorem prodEdge_reset {v : View} {g : ProdCfg} (h : v.get g.rst = true) (pcin : Nat) (st : ProdSt) : prodEdge v pcin g st = g.init := if_pos h

theorem asInt_emod (signed : Bool) (w x : Nat) : asInt signed w x % (2 ^ w : Nat) = (x : Int) % (2 ^ w : Nat) := by
  unfold asInt
  split_ifs <;> simp

theorem accFit_wrap (w : Nat) (x : Int) :
    (accFit false w x).1 = wrapTo w x ∧ ((accFit false w x).2 = true ↔ x < -((2 ^ (w - 1) : Nat) : Int) ∨ ((2 ^ (w - 1) : Nat) : Int) ≤ x) := by
  simp only [accFit, Bool.false_eq_true, if_false]
  by_cases h : x < -((2 ^ (w - 1) : Nat) : Int) ∨ ((2 ^ (w - 1) : Nat) : Int) ≤ x
  · rw [if_pos h]
    exact ⟨rfl, fun _ => h, fun _ => rfl⟩
  · rw [if_neg h]
    exact ⟨rfl, fun e => (Bool.false_ne_true e).elim, fun e => (h e).elim⟩

section
variable {v : View} {g : ProdCfg} (hrst : v.get g.rst = false) (hce : g.ce = []) (hmode : g.mode = 0) (hm : g.mreg = true) (hdyn : g.dynOp = false)
  (hop : g.op = 1) (hsat : g.sat = false) (pcin : Nat) (st : ProdSt)
include hrst hce hmode hm hdyn hop hsat

/-- A block in FULL mode that accumulates, all its registers enabled, fits the sum of P and the product behind MREG into 60 bits. -/
theorem prodEdge_accFit :
    (prodEdge v pcin g st).p = (accFit false 60 (asInt true 60 st.p + st.m)).1 ∧
      (prodEdge v pcin g st).ovf = (accFit false 60 (asInt true 60 st.p + st.m)).2 := by
  simp [prodEdge, prodFlow, accumulate, accOp, hrst, hce, hmode, hm, hdyn, hop, hsat]

theorem prodEdge_accumulates :
    (prodEdge v pcin g st).p = (((st.p : Int) + st.m) % 2 ^ 60).toNat ∧
      ((prodEdge v pcin g st).ovf = true ↔ asInt true 60 st.p + st.m < -(2 ^ 59) ∨ 2 ^ 59 ≤ asInt true 60 st.p + st.m) := by
  obtain ⟨hp, hovf⟩ := prodEdge_accFit hrst hce hmode hm hdyn hop hsat pcin st
  obtain ⟨hwrap, hover⟩ := accFit_wrap 60 (asInt true 60 st.p + st.m)
  refine ⟨?_, hovf ▸ hover⟩
  rw [hp, hwrap, wrapTo, Int.add_emod, asInt_emod, ← Int.add_emod]
  rfl

end

/-! A rising edge of a regional network or a spine (R43, R46, R81) -/

theorem pinEdge_frame (d r k : Nat) (old new : View) (pads : Nat) (s : State) :
    (pinEdge d r k old new pads s).regs = s.regs ∧ (∀ j, (pinEdge d r k old new pads s).region j = s.region j) ∧ (pinEdge d r k old new pads s).mem = s.mem :=
  List.foldlRecOn (motive := fun t : State => t.regs = s.regs ∧ (∀ j, t.region j = s.region j) ∧ t.mem = s.mem) _ _ ⟨rfl, fun _ => rfl, rfl⟩
    fun _ h _ _ => h

section
variable {s : State} {d : Fin 12} {r : Fin 32} {clock : Fin 20} {ext : List Nat} {pads : BitVec 32} {idle : Bool}

theorem exec_regionalClockEdge_spine (hd : s.dieUp d = true) (hc : 4 ≤ clock.val) (hg : s.rdi GEAR_DIE_GEAR (4 * d) ≠ 0) :
    ∃ f : Region → Tab Nat, exec (.regionalClockEdge d r clock ext pads idle) s = .next (s.modRegion (rix d r) fun x => { x with spine := f x }) := by
  refine ⟨fun x => (x.design.spines.filter fun p => p.2 + 4 == clock.val).foldl (fun m p => tabSet 0 m p.1 (ext.contains p.1).toNat) x.spine, ?_⟩
  change execRegionalClockEdge d r clock ext pads idle s = _
  simp [execRegionalClockEdge, State.dieLive, hd, hc, hg]

theorem exec_regionalClockEdge_stopped (hc : clock.val < 4) (hr : bit (s.rdi FDC_RSTAT_CLKRUN (oReg d r)) clock = 0) :
    exec (.regionalClockEdge d r clock ext pads idle) s = .next s := by
  change execRegionalClockEdge d r clock ext pads idle s = _
  simp [execRegionalClockEdge, hc.not_ge, hr]

theorem exec_regionalClockEdge_runs (hd : s.dieUp d = true) (hc : clock.val < 4) (hr : bit (s.rdi FDC_RSTAT_CLKRUN (oReg d r)) clock = 1) :
    ∃ g old new, exec (.regionalClockEdge d r clock ext pads idle) s =
        .next (pinEdge d r clock old new pads.toNat (s.modRegion (rix d r) fun _ => g)) ∧
      g.ff = (regionEdge (s.region (rix d r)) clock ext).ff ∧ g.prod = (regionEdge (s.region (rix d r)) clock ext).prod ∧
      g.latchFf = (s.region (rix d r)).latchFf := by
  change ∃ g old new, execRegionalClockEdge d r clock ext pads idle s = _ ∧ _
  simp only [execRegionalClockEdge, State.dieLive, hd, Bool.true_eq_false, if_false, hc.not_ge, hr, one_ne_zero]
  split_ifs <;> exact ⟨_, _, _, rfl, rfl, rfl, rfl⟩

/-- Where the network runs, its region takes the edge, and no other region, register or memory changes. -/
theorem regionalClockEdge_runs (hd : s.dieUp d = true) (hc : clock.val < 4) (hr : bit (s.rdi FDC_RSTAT_CLKRUN (oReg d r)) clock = 1) :
    Yields (exec (.regionalClockEdge d r clock ext pads idle) s) fun t =>
      (t.region (rix d r)).ff = (regionEdge (s.region (rix d r)) clock ext).ff ∧ (t.region (rix d r)).prod = (regionEdge (s.region (rix d r)) clock ext).prod ∧
        (t.region (rix d r)).latchFf = (s.region (rix d r)).latchFf ∧ (∀ k, k ≠ rix d r → t.region k = s.region k) ∧ SameRegsBut [] s t ∧ SameMem s t := by
  obtain ⟨g, old, new, hexec, hff, hprod, hlatch⟩ := exec_regionalClockEdge_runs (ext := ext) (pads := pads) (idle := idle) hd hc hr
  obtain ⟨hregs, hregion, hmem⟩ := pinEdge_frame d r clock old new pads.toNat (s.modRegion (rix d r) fun _ => g)
  refine ⟨_, hexec, ?_, ?_, ?_, fun k hk => ?_, .of_regs hregs _, .of_mem hmem⟩
  · rw [hregion, State.region_modRegion, hff]
  · rw [hregion, State.region_modRegion, hprod]
  · rw [hregion, State.region_modRegion, hlatch]
  · rw [hregion, State.region_modRegion_ne _ _ _ hk]

end

/-- Settles O25: every clocked update is a run of `tabSet` over entries whose keys differ, so a channel, cell or block shows the value of its own entry. -/
theorem clockEdges : Obligations.ClockEdges := by
  refine ⟨⟨?own, ?other⟩, ?cells, ?stopped, ?spine, ?prods⟩
  case own => exact fun s g ones x hg hlaunch hfly _ hx => expressClockEdge_own hg hlaunch hfly hx
  case other => exact fun s g ones x hx => expressClockEdge_other hx
  case cells =>
    intro s d r clock ext pads idle hd hc hr hrise
    obtain ⟨t, hexec, hff, -, hlatch, hother, hregs, hmem⟩ := regionalClockEdge_runs (ext := ext) (pads := pads) (idle := idle) hd hc hr
    refine ⟨t, hexec, fun c g hcell => ?_, fun c g v hcell hnet hrel hv => ?_, hlatch, hother, hregs, hmem⟩
    · rw [hff, regionEdge_ff hrise _ _ hcell]
    · rw [hff, regionEdge_ff hrise _ _ hcell, if_pos hnet, hrel, cellEdge_released, hv]
  case stopped => exact fun s d r clock ext pads idle hc hr => exec_regionalClockEdge_stopped hc hr
  case spine =>
    intro s d r clock ext pads idle hd hc hg
    obtain ⟨f, hexec⟩ := exec_regionalClockEdge_spine (r := r) (ext := ext) (pads := pads) (idle := idle) hd hc hg
    exact ⟨_, hexec, by simp, by simp, by simp, .of_regs rfl _, .of_mem rfl⟩
  case prods =>
    intro s d r clock ext pads idle hd hc hr hrise
    obtain ⟨t, hexec, -, hprod, -⟩ := regionalClockEdge_runs (ext := ext) (pads := pads) (idle := idle) hd hc hr
    refine ⟨t, hexec, fun b g x y hblock hx hy => ?_⟩
    rw [hprod, regionEdge_prod hrise _ _ hblock, ← hx] at hy
    refine ⟨fun hnet => by rw [hy, if_neg hnet], fun hnet hrst => ?_, fun hnet hrst hce hmode hm hdyn hop hsat => ?_⟩
    · rw [hy, if_pos hnet, prodEdge_reset (by rw [hrst, View.get_const])]
    · rw [hy, if_pos hnet]
      exact prodEdge_accumulates (by rw [hrst, View.get_const]) hce hmode hm hdyn hop hsat ..

end Sys2Proof.Machine

namespace Sys2Proof.Machine

/-! The module mode, through the operations that a fault and the loss of a die run (R465 to R467, R475) -/

section
variable (s : State) (c : Nat)

/-- A field of a register above GLB_MODE is not the mode, at any offset. -/
theorem State.wri_mode_above {f : Fld} (h : GLB_MODE_MODE.adr < f.adr) (o v : Nat) : (s.wri f o v).mode = s.mode := by
  refine s.wri_mode v fun hk => ?_
  change (0x20 + 0) * 32 + 0 = (f.adr + o) * 32 + f.lo at hk
  change 0x20 < f.adr at h
  omega

theorem State.wr_mode_above {f : Fld} (h : GLB_MODE_MODE.adr < f.adr) (v : Nat) : (s.wr f v).mode = s.mode := s.wri_mode_above h 0 v

theorem State.addi_mode_above {f : Fld} (h : GLB_MODE_MODE.adr < f.adr) (o n : Nat) : (s.addi f o n).mode = s.mode := s.wri_mode_above h o _

theorem foldl_mode {α : Type} {f : State → α → State} (h : ∀ s x, (f s x).mode = s.mode) (l : List α) (s : State) : (l.foldl f s).mode = s.mode :=
  List.foldlRecOn (motive := fun t : State => t.mode = s.mode) l f rfl fun t ht x _ => (h t x).trans ht

/-- The mode survives the removal of register entries that are not its own. -/
theorem State.mode_of_filter {s t : State} {keep : Nat → Bool} (h : t.regs = s.regs.filter fun p => keep p.1) (hk : keep (GLB_MODE_MODE.key 0) = true) :
    t.mode = s.mode := by
  rw [State.mode, State.rd, State.rdi, h]
  exact tabGet_filter_true _ _ keep hk

@[simp] theorem wdSettle_mode : (wdSettle c s).mode = s.mode := s.wri_mode_above (by decide) ..

@[simp] theorem setAwlState_mode (v : Nat) : (setAwlState c v s).mode = s.mode := ((wdSettle c s).wri_mode_above (by decide) ..).trans (wdSettle_mode s c)

@[simp] theorem enterDone_mode (st : Nat) : (enterDone c st s).mode = s.mode := by
  unfold enterDone
  split_ifs
  · rw [State.wri_mode_above _ (by decide), State.wri_mode_above _ (by decide)]
  · rfl

@[simp] theorem dropEntry_mode : (dropEntry c s).mode = s.mode := enterDone_mode s c _

@[simp] theorem squash_mode : (squash c s).mode = s.mode := by
  unfold squash
  split <;> rfl

@[simp] theorem showPc_mode : (showPc c s).mode = s.mode := s.wri_mode_above (by decide) ..

@[simp] theorem stopCheck_mode : (stopCheck c s).mode = s.mode := by
  unfold stopCheck
  dsimp only
  split
  · rfl
  · split_ifs
    · rfl
    · rw [dropEntry_mode, State.modCore_mode, State.wri_mode_above _ (by decide), setAwlState_mode, showPc_mode, squash_mode]
    · rw [showPc_mode, squash_mode]

@[simp] theorem stopCore_mode (byMode : Bool) : (stopCore byMode c s).mode = s.mode := by
  unfold stopCore
  split_ifs
  · rw [stopCheck_mode, State.modCore_mode]
  · rfl

@[simp] theorem coresOnSafe_mode (fs : List (Nat × Nat)) : (coresOnSafe fs s).mode = s.mode := foldl_mode (fun s c => stopCore_mode s c true) _ s

@[simp] theorem closeGates_mode (d mask : Nat) : (closeGates d mask s).mode = s.mode := by
  refine foldl_mode (fun s r => ?_) _ s
  split_ifs
  · exact s.wri_mode_above (by decide) ..
  · rfl

@[simp] theorem addFaulted_mode (fs : List (Nat × Nat)) : (addFaulted fs s).mode = s.mode := by
  refine foldl_mode (fun s p => ?_) fs s
  rw [closeGates_mode, State.wri_mode_above _ (by decide)]

@[simp] theorem turnService_mode : (turnService s).mode = s.mode := by
  unfold turnService
  split_ifs
  · exact s.wr_mode_above (f := WLT_SVC_STATE) (by decide) 2
  · rfl

@[simp] theorem epochGiveUp_mode : (epochGiveUp s).mode = s.mode := by
  unfold epochGiveUp
  split_ifs
  · exact s.wr_mode_above (by decide) 0
  · rfl

@[simp] theorem weltOnSafe_mode : (weltOnSafe s).mode = s.mode := by
  unfold weltOnSafe
  rw [turnService_mode, epochGiveUp_mode]
  exact (State.wr_mode_above _ (f := WLT_SVC_TEST) (by decide) 0).trans (s.addi_mode_above (f := WLT_ERRCNT_COUNT) (by decide) ..)

@[simp] theorem lossBegin_mode (st : Nat) : (lossBegin st s).mode = s.mode := by
  unfold lossBegin
  split_ifs
  · exact s.addi_mode_above (by decide) 0 1
  · rfl

@[simp] theorem lossEnd_mode : (lossEnd s).mode = s.mode := by
  unfold lossEnd
  split
  · exact s.addi_mode_above (by decide) ..
  · rfl

@[simp] theorem lossCheck_mode : (lossCheck s).mode = s.mode := by
  unfold lossCheck
  split_ifs
  · exact lossEnd_mode s
  · rfl

/-- A fault that is not taken in DORMANT leaves the module in SAFE: there already (R467), or by entry to it (R465, R466). -/
theorem State.fault_mode {s : State} (h : s.mode ≠ DORMANT) (st source : Nat) (fs : List (Nat × Nat)) (ev : List Nat) :
    (s.fault st source fs ev).mode = SAFE := by
  rw [State.fault, if_neg h]
  by_cases hsafe : s.mode = SAFE
  · rw [if_pos hsafe, State.record_mode, turnService_mode]
    have hin : ((((coresOnSafe fs (addFaulted fs s)).addi GLB_SAFE_COUNT 0 1).wr GLB_SAFELAST_LAST st)).mode = SAFE := by
      rw [State.wr_mode_above _ (by decide), State.addi_mode_above _ (by decide), coresOnSafe_mode, addFaulted_mode, hsafe]
    split_ifs
    · exact hin
    · exact (State.endReq_mode _ _).trans hin
  · rw [if_neg hsafe, lossCheck_mode, State.record_mode, lossBegin_mode, weltOnSafe_mode, coresOnSafe_mode, State.setMode_mode]
    rfl

/-- The register table keeps the entry at `k` when the sessions of the cores in `p` are lost. -/
def sessionKept (p : Nat → Bool) (k : Nat) : Bool :=
  !(k % 4096 == DBG_STAT_MON.key 0 % 4096 && DBG_STAT_MON.key 0 ≤ k && k < DBG_STAT_MON.key (oDbg 384) && p ((k - DBG_STAT_MON.key 0) / 4096))

theorem loseSessions_regs (p : Nat → Bool) :
    (loseSessions p s).regs = ((s.dbg.pend.filter fun x => p x.1).foldl (fun s x => dropEntry x.1 s) s).regs.filter fun x => sessionKept p x.1 := by
  simp only [loseSessions, sessionKept]

theorem sessionKept_mode (p : Nat → Bool) : sessionKept p (GLB_MODE_MODE.key 0) = true := by
  simp [sessionKept, Fld.key, GLB_MODE_MODE, DBG_STAT_MON]

@[simp] theorem loseSessions_mode (p : Nat → Bool) : (loseSessions p s).mode = s.mode := by
  rw [State.mode_of_filter (loseSessions_regs s p) (sessionKept_mode p)]
  refine foldl_mode (fun s x => ?_) _ s
  rw [dropEntry_mode]

@[simp] theorem resetDieSpace_mode (d : Nat) : (resetDieSpace d s).mode = s.mode := by
  have hout : inDieSpace d (GLB_MODE_MODE.key 0) = false := by
    rw [inDieSpace, decide_eq_false (by simp only [Fld.key, GLB_MODE_MODE]; omega), Bool.false_and]
  exact State.mode_of_filter (s := s) (keep := fun k => !inDieSpace d k || k == FDC_CAPEN_FEAT.key (oDie d)) rfl (by simp [hout])

@[simp] theorem railsOff_mode (d : Nat) : (railsOff d s).mode = s.mode := by
  unfold railsOff
  rw [State.wri_mode_above _ (by decide), State.wri_mode_above _ (by decide), State.wri_mode_above _ (by decide), State.wri_mode_above _ (by decide),
    foldl_mode fun s e => by rw [State.wri_mode_above _ (by decide), State.wri_mode_above _ (by decide)], State.modDie_mode, resetDieSpace_mode, loseSessions_mode]

theorem railsOff_dieUp (d : Nat) : (railsOff d s).dieUp d = false := by
  simp [railsOff, dieEyes, State.dieUp, State.die, State.modDie]

/-- A die that the Last switches off is SILENT for the reason given, with its rails off (R33); the module stays in its mode. -/
theorem dieOff_silent (d reason : Nat) (h : reason < 2 ^ 16) :
    (dieOff d reason s).dieUp d = false ∧ (dieOff d reason s).rdi GLB_DIESTAT_STATE (4 * d) = 3 ∧
      (dieOff d reason s).rdi GLB_DIESTAT_REASON (4 * d) = reason ∧ (dieOff d reason s).mode = s.mode := by
  refine ⟨?_, ?_, ?_, ?_⟩ <;> unfold dieOff
  · simpa only [State.dieUp, State.die, State.wri_frame, State.wr_frame] using railsOff_dieUp s d
  · rw [State.rdi_wri_ne _ _ (by simp only [Fld.key, oDie, GLB_DIESTAT_STATE, FDC_CAPEN_FEAT]; omega),
      State.rdi_wr_ne _ _ (by simp only [Fld.key, GLB_DIESTAT_STATE, GLB_PKG_SUPPORTED]; omega),
      State.rdi_wri_ne _ _ (by simp only [Fld.key, GLB_DIESTAT_STATE, GLB_DIESTAT_REASON]; omega), State.rdi_wri_same]
    rfl
  · rw [State.rdi_wri_ne _ _ (by simp only [Fld.key, oDie, GLB_DIESTAT_REASON, FDC_CAPEN_FEAT]; omega),
      State.rdi_wr_ne _ _ (by simp only [Fld.key, GLB_DIESTAT_REASON, GLB_PKG_SUPPORTED]; omega), State.rdi_wri_same]
    exact Nat.mod_eq_of_lt h
  · rw [State.wri_mode_above _ (by decide)]
    refine (State.wri_mode _ _ (by decide)).trans ?_
    rw [State.wri_mode_above _ (by decide), State.wri_mode_above _ (by decide), railsOff_mode]

end

/-! Training that does not end (R135) -/

section
variable (s : State) (e w : Nat)

/-- An Eyelet that is not trained in time: FAILED for ST_HW_EYE_TRAIN, of Welt width `w`, with its record. -/
def eyeletFailed : State :=
  (((s.wri EYE_STAT_STATE (4 * e) 4).wri EYE_STAT_REASON (4 * e) ST_HW_EYE_TRAIN).wri EYE_STAT_WWIDTH (4 * e) w).recordSt ST_HW_EYE_TRAIN (eyeSource e) []

theorem exec_eyeletTrainingTimeout {s : State} {e : Fin 24} (h : s.rdi EYE_STAT_STATE (4 * e) = 1) :
    ∃ w, exec (.eyeletTrainingTimeout e) s =
      .next (if e.val < 12 then dieOff e ST_HW_DIE_SILENT (eyeletFailed s e w) else eyeletFailed s e w) :=
  ⟨_, if_pos h⟩

theorem eyeletFailed_mode : (eyeletFailed s e w).mode = s.mode := by
  rw [eyeletFailed, State.recordSt, State.record_mode, State.wri_mode_above _ (by decide), State.wri_mode_above _ (by decide),
    State.wri_mode_above _ (by decide)]

theorem eyeletFailed_mem : (eyeletFailed s e w).mem = s.mem := by simp [eyeletFailed, State.recordSt]

theorem eyeletFailed_stat {e : Nat} (he : e < 24) :
    (eyeletFailed s e w).rdi EYE_STAT_STATE (4 * e) = 4 ∧ (eyeletFailed s e w).rdi EYE_STAT_REASON (4 * e) = ST_HW_EYE_TRAIN := by
  constructor <;> rw [eyeletFailed, State.recordSt, State.record_rdi _ _ _ _ _ (by simp only [Fld.key, EYE_STAT_STATE, EYE_STAT_REASON, BBX_LOST_COUNT]; omega),
    State.rdi_wri_ne _ _ (by simp only [Fld.key, EYE_STAT_STATE, EYE_STAT_REASON, EYE_STAT_WWIDTH]; omega)]
  · rw [State.rdi_wri_ne _ _ (by simp only [Fld.key, EYE_STAT_STATE, EYE_STAT_REASON]; omega), State.rdi_wri_same]
    rfl
  · rw [State.rdi_wri_same]
    rfl

end

/-! Errors that no repair answers (R130, R142) -/

section
variable {s : State} {e : Fin 24} {dir : Fin 2} {g : Fin 4} {word : Fin 2}

theorem mem_addOnce (l : List Nat) (a : Nat) : a ∈ if l.contains a = true then l else l ++ [a] := by
  split_ifs with h
  · exact List.contains_iff_mem.1 h
  · exact List.mem_append_right _ (List.mem_singleton_self a)

/-- An Eyelet that takes its dies to SAFE is retrained by the acknowledgment. -/
theorem eyeFault_safe {s : State} (h : s.mode ≠ DORMANT) (e dir g lane kind st : Nat) :
    (eyeFault e dir g lane kind st s).mode = SAFE ∧ e ∈ (eyeFault e dir g lane kind st s).modes.safeEyelets := by
  refine ⟨State.fault_mode ?_ .., mem_addOnce _ e⟩
  rwa [State.wri_mode_above _ (by decide), State.push_mode]

theorem exec_eyeletUncorrectable_untolerated (h : g.val = 0 ∨ wordTolerant s e dir g word = false) :
    exec (.eyeletUncorrectable e dir g word) s = .next (eyeFault e dir g 0 6 ST_HW_EYE_UE (s.inci EYE_UNC_COUNT (oGrp e dir g))) := by
  refine if_neg ?_
  rintro ⟨hg, ht⟩
  exact h.elim hg fun hf => Bool.false_ne_true (hf.symm.trans ht)

/-- What is in flight without the signals of one code word. -/
def flyWithoutWord (e dir g word : Nat) (fly : Tab Nat) : Tab Nat :=
  fly.filter fun p => !(p.1 / 4800 == e * 2 + dir && inWord e g word (p.1 % 4800))

theorem exec_eyeletUncorrectable_tolerated (hg : g.val ≠ 0) (h : wordTolerant s e dir g word = true) :
    exec (.eyeletUncorrectable e dir g word) s =
      .next (State.push { s.inci EYE_UNC_COUNT (oGrp e dir g) with express := { s.express with fly := flyWithoutWord e dir g word s.express.fly } }
        EYE_EVENT_VALID (eyeEvent 6 e dir g 0)) := if_pos ⟨hg, h⟩

theorem xSignals_le (e : Nat) : xSignals e ≤ 4800 := by
  unfold xSignals
  split_ifs <;> decide

/-- A signal of the code word reads 0, and any other signal of the Eyelet's direction is in flight still. -/
theorem tabGet_flyWithoutWord (e dir g word : Nat) (fly : Tab Nat) {sig : Nat} (h : sig < xSignals e) :
    tabGet 0 (flyWithoutWord e dir g word fly) (xix e dir sig) = if inWord e g word sig = true then 0 else tabGet 0 fly (xix e dir sig) := by
  have hlt := xSignals_le e
  have hdiv : xix e dir sig / 4800 = e * 2 + dir := by unfold xix; omega
  have hmod : xix e dir sig % 4800 = sig := by unfold xix; omega
  split_ifs with hw
  · exact tabGet_filter_false 0 fly (fun k => !(k / 4800 == e * 2 + dir && inWord e g word (k % 4800))) (by simp [hdiv, hmod, hw])
  · exact tabGet_filter_true 0 fly (fun k => !(k / 4800 == e * 2 + dir && inWord e g word (k % 4800))) (by simp [hmod, hw])

theorem exec_eyeletClockLaneLoss (s : State) (e : Fin 24) (dir : Fin 2) (g : Fin 4) :
    ∃ u, exec (.eyeletClockLaneLoss e dir g) s = .next (eyeFault e dir g 88 6 ST_HW_EYE_TRAIN u) ∧ u.mode = s.mode := by
  refine ⟨_, rfl, ?_⟩
  split_ifs <;> simp only [State.wri_mode_above _ (show GLB_MODE_MODE.adr < EYE_GSTAT_INSVC.adr by decide),
    State.wri_mode_above _ (show GLB_MODE_MODE.adr < EYE_STAT_GUP.adr by decide), State.wri_mode_above _ (show GLB_MODE_MODE.adr < EYE_STAT_WWIDTH.adr by decide)]

end

/-! EYE_CMD (R138, R139, R147) -/

section
variable {s : State} {e dir g l : Nat}

theorem eyeTarget_wr {f : Fld} (h : f.adr ≠ EYE_CMDTGT_EYELET.adr) (hlo : f.lo < 32) (v : Nat) : eyeTarget (s.wr f v) = eyeTarget s := by
  have hrd : ∀ x : Fld, x.adr = EYE_CMDTGT_EYELET.adr → x.lo < 32 → (s.wr f v).rd x = s.rd x := fun x hx hxlo =>
    s.rd_wr_ne v (Fld.key_ne_of_adr hlo hxlo (by omega))
  simp only [eyeTarget, hrd EYE_CMDTGT_EYELET rfl (by decide), hrd EYE_CMDTGT_DIR rfl (by decide), hrd EYE_CMDTGT_GROUP rfl (by decide),
    hrd EYE_CMDTGT_LANE rfl (by decide)]

@[simp] theorem State.eye_wr (s : State) (f : Fld) (v k : Nat) : (s.wr f v).eye k = s.eye k := rfl

theorem eyeCmdDone_ends (s : State) {st : Nat} (h : st < 2 ^ 16) : Ends (eyeCmdDone st s) EYE_CMD_STATUS EYE_CMD_BUSY st := by
  refine ⟨?_, State.rd_wr_same ..⟩
  rw [eyeCmdDone, State.rd_wr_ne _ _ (by decide), State.rd_wr_same]
  exact Nat.mod_eq_of_lt h

@[simp] theorem eyeCmdDone_eyes (st : Nat) (s : State) : (eyeCmdDone st s).eyes = s.eyes := by simp [eyeCmdDone]

@[simp] theorem eyeCmdDone_eye (st k : Nat) (s : State) : (eyeCmdDone st s).eye k = s.eye k := by rw [State.eye, eyeCmdDone_eyes, State.eye]

@[simp] theorem eyeCmdDone_mem (st : Nat) (s : State) : (eyeCmdDone st s).mem = s.mem := by simp [eyeCmdDone]

@[simp] theorem eyeCmdDone_mode (st : Nat) (s : State) : (eyeCmdDone st s).mode = s.mode := by
  rw [eyeCmdDone, State.wr_mode_above _ (by decide), State.wr_mode_above _ (by decide)]

theorem eyeCmdDone_rdi (st : Nat) (s : State) {f : Fld} {o : Nat} (hst : f.key o ≠ EYE_CMD_STATUS.key 0) (hb : f.key o ≠ EYE_CMD_BUSY.key 0) :
    (eyeCmdDone st s).rdi f o = s.rdi f o := by
  rw [eyeCmdDone, State.rdi_wr_ne _ _ hb, State.rdi_wr_ne _ _ hst]

/-- The status registers of a lane group follow its lanes, and change no lane and no memory. -/
theorem showGroup_frame (e dir g : Nat) (s : State) : (showGroup e dir g s).eyes = s.eyes ∧ (showGroup e dir g s).mem = s.mem := by
  simp [showGroup]

theorem showEye_frame (e : Nat) (s : State) : (showEye e s).eyes = s.eyes ∧ (showEye e s).mem = s.mem := by
  unfold showEye
  dsimp only
  split_ifs <;> simp

/-- The lanes of group `k` become `f` of what they were; no other group changes, and no memory. -/
structure LanesBecome (k : Nat) (f : EyeGroup → EyeGroup) (s t : State) : Prop where
  own : t.eye k = f (s.eye k)
  other : ∀ j, j ≠ k → t.eye j = s.eye j
  mem : t.mem = s.mem

theorem LanesBecome.of_modEye {k : Nat} {f : EyeGroup → EyeGroup} {s t : State} (h : t.eyes = (s.modEye k f).eyes) (hm : t.mem = s.mem) :
    LanesBecome k f s t where
  own := by rw [State.eye, h]; exact s.eye_modEye ..
  other j hj := by rw [State.eye, h]; exact s.eye_modEye_ne _ _ hj
  mem := hm

/-- A repair of the lanes of a group, with the status registers, the event and the record that follow it (R138 to R140). -/
theorem lanesBecome_repaired (e dir g : Nat) (f : EyeGroup → EyeGroup) (q : Fld) (w code source sev : Nat) (payload : List Nat) (s : State) :
    LanesBecome (gix e dir g) f s (((showEye e (showGroup e dir g (s.modEye (gix e dir g) f))).push q w).record code source sev payload) :=
  .of_modEye (by simp [showEye_frame, showGroup_frame]) (by simp [showEye_frame, showGroup_frame])

theorem spareLane_spec (h : l < 84) (e dir g sp : Nat) (s : State) :
    tabGet none ((spareLane e dir g l sp s).eye (gix e dir g)).subst sp = some l ∧ l ∈ ((spareLane e dir g l sp s).eye (gix e dir g)).failed ∧
      (∀ k, k ≠ gix e dir g → (spareLane e dir g l sp s).eye k = s.eye k) ∧ (spareLane e dir g l sp s).mem = s.mem := by
  have hr : LanesBecome (gix e dir g) _ s (spareLane e dir g l sp s) := lanesBecome_repaired ..
  refine ⟨?_, ?_, hr.other, hr.mem⟩ <;> rw [hr.own]
  · simp [h]
  · exact mem_addOnce _ l

theorem moveLane_spec (e dir g l r : Nat) (s : State) :
    tabGet none ((moveLane e dir g l (some r) s).eye (gix e dir g)).subst r = some l ∧ l ∈ ((moveLane e dir g l (some r) s).eye (gix e dir g)).retired ∧
      (∀ k, k ≠ gix e dir g → (moveLane e dir g l (some r) s).eye k = s.eye k) ∧ (moveLane e dir g l (some r) s).mem = s.mem := by
  have hr : LanesBecome (gix e dir g) _ s (moveLane e dir g l (some r) s) := lanesBecome_repaired ..
  refine ⟨?_, ?_, hr.other, hr.mem⟩ <;> rw [hr.own]
  · exact tabGet_set_same none _ r (some l)
  · exact mem_addOnce _ l

section
variable (ht : eyeTarget s = (e, dir, g, l))
include ht

/-- The target of EYE_CMD stays as a command's OP is stored. -/
theorem eyeTarget_op (op : Nat) : eyeTarget (s.wr EYE_CMD_OP op) = (e, dir, g, l) := (eyeTarget_wr (by decide) (by decide) op).trans ht

theorem eyeCmdRun_spare {sp : Nat} {sps : List Nat} (h : idleSpares (s.eye (gix e dir g)) = sp :: sps) :
    eyeCmdRun 1 s = eyeCmdDone 0 (spareLane e dir g l sp s) := by
  simp [eyeCmdRun, ht, h]

theorem eyeCmdRun_noSpare (h : idleSpares (s.eye (gix e dir g)) = []) : eyeCmdRun 1 s = eyeCmdDone ST_EYE_NOSPARE s := by
  simp [eyeCmdRun, ht, h]

/-- Where no region clock runs, a move is made at once. -/
theorem eyeCmdRun_move {r : Nat} {rs : List Nat} (hrun : s.mode ≠ RUN) (hshift : s.mode ≠ SHIFT) (h : freeReserves s e (s.eye (gix e dir g)) = r :: rs) :
    eyeCmdRun 2 s = eyeCmdDone 0 (moveLane e dir g l (some r) s) := by
  simp [eyeCmdRun, startMove, ht, h, hrun, hshift]

theorem eyeCmdTry_free (h : (s.eye (gix e dir g)).swap = none) (op : Nat) : eyeCmdTry op s = eyeCmdRun op s := by
  simp [eyeCmdTry, ht, h]

variable (hb : s.rd EYE_CMD_BUSY = 0) (he : e < 24)
include hb he

theorem exec_eyeCmdSpare (hl : l < 84) (hs : (s.eye (gix e dir g)).swap = none) :
    exec .eyeCmdSpare s = .next (eyeCmdRun 1 (s.wr EYE_CMD_OP 1)) := by
  rw [← eyeCmdTry_free (eyeTarget_op ht 1) hs]
  change execEyeCmdSpare s = _
  simp [execEyeCmdSpare, hb, eyeTarget_op ht, he.not_ge, hl.not_ge]

theorem exec_eyeCmdMove (hl : l < 80) (hg : g ≠ 0) (hs : (s.eye (gix e dir g)).swap = none) :
    exec .eyeCmdMove s = .next (eyeCmdRun 2 (s.wr EYE_CMD_OP 2)) := by
  rw [← eyeCmdTry_free (eyeTarget_op ht 2) hs]
  change execEyeCmdMove s = _
  simp [execEyeCmdMove, hb, eyeTarget_op ht, he.not_ge, hl.not_ge, hg]

theorem exec_eyeCmdInject (hl : l < 84) (hm : s.mode = HOLD) :
    exec .eyeCmdInject s =
      .next (eyeCmdDone 0 (laneCorrected e dir g l (tabGet 0 (s.eye (gix e dir g)).corr l + 1) 1 (s.wr EYE_CMD_OP 3))) := by
  change execEyeCmdInject s = _
  have hm3 : (s.wr EYE_CMD_OP 3).mode = HOLD := (s.wr_mode_above (by decide) 3).trans hm
  simp [execEyeCmdInject, hb, eyeTarget_op ht, he.not_ge, hl.not_ge, hm3]

end

theorem exec_eyeCmdInject_notHold (hb : s.rd EYE_CMD_BUSY = 0) (hm : s.mode ≠ HOLD) :
    exec .eyeCmdInject s = .next (eyeCmdDone ST_EYE_NOTHOLD (s.wr EYE_CMD_OP 3)) := by
  change execEyeCmdInject s = _
  have hm3 : (s.wr EYE_CMD_OP 3).mode ≠ HOLD := by rwa [State.wr_mode_above _ (by decide)]
  simp [execEyeCmdInject, hb, hm3]

theorem eyeFeature_wr {f : Fld} (h : f.adr < FDC_CAPEN_FEAT.adr) (hlo : f.lo < 32) (v e n : Nat) : eyeFeature (s.wr f v) e n = eyeFeature s e n := by
  have hfeat : ∀ d, (s.wr f v).rdi FDC_CAPEN_FEAT (oDie d) = s.rdi FDC_CAPEN_FEAT (oDie d) := fun d =>
    s.rdi_wr_ne v (Fld.key_ne_of_adr hlo (by decide) (by omega))
  simp only [eyeFeature, hfeat]

theorem freeReserves_op (op e : Nat) (x : EyeGroup) : freeReserves (s.wr EYE_CMD_OP op) e x = freeReserves s e x := by
  rw [freeReserves, freeReserves, eyeFeature_wr (by decide) (by decide)]

/-! A lane that has shown an error (R132) -/

/-- A lane whose count in its window has become `n`, and the group's count of corrections with it. -/
def laneCounted (e dir g lane n : Nat) (s : State) : State :=
  (s.modEye (gix e dir g) fun x => { x with corr := tabSet 0 x.corr lane (min n 0xFFFFF) }).addi EYE_CORR_COUNT (oGrp e dir g)
    (n - tabGet 0 (s.eye (gix e dir g)).corr lane)

/-- A retired lane shows no error (R130). -/
theorem laneCorrected_retired (h : l < 84) (hr : l ∈ (s.eye (gix e dir g)).retired) (n run : Nat) : laneCorrected e dir g l n run s = s := by
  simp [laneCorrected, laneInUse, hr, h.not_ge]

theorem laneCounted_rdi {f : Fld} {o : Nat} (h : f.key o ≠ EYE_CORR_COUNT.key (oGrp e dir g)) (n : Nat) (s : State) :
    (laneCounted e dir g l n s).rdi f o = s.rdi f o := (State.rdi_addi_ne _ _ h).trans (s.modEye_rdi ..)

theorem laneCounted_berth (n : Nat) (s : State) : (laneCounted e dir g l n s).rd EYE_CTL_BERTH = s.rd EYE_CTL_BERTH :=
  laneCounted_rdi (by simp only [Fld.key, EYE_CTL_BERTH, EYE_CORR_COUNT]; omega) n s

theorem laneCounted_count (e dir g l : Nat) (s : State) :
    (laneCounted e dir g l (tabGet 0 (s.eye (gix e dir g)).corr l + 1) s).rdi EYE_CORR_COUNT (oGrp e dir g) =
      min (s.rdi EYE_CORR_COUNT (oGrp e dir g) + 1) (2 ^ EYE_CORR_COUNT.w - 1) := by
  rw [laneCounted, State.rdi_addi_same, State.modEye_rdi, Nat.add_sub_cancel_left]

theorem laneCounted_mode (n : Nat) (s : State) : (laneCounted e dir g l n s).mode = s.mode :=
  (State.addi_mode_above _ (by decide) ..).trans (s.modEye_mode ..)

theorem laneCounted_lanes (e dir g l n : Nat) (s : State) :
    LanesBecome (gix e dir g) (fun x => { x with corr := tabSet 0 x.corr l (min n 0xFFFFF) }) s (laneCounted e dir g l n s) :=
  .of_modEye (by simp [laneCounted]) (by simp [laneCounted])

theorem exhausted_of_spare {s : State} (h : idleSpares (s.eye (gix e dir g)) ≠ []) (lane : Nat) : exhausted s e dir g lane = false := if_pos h

/-- The choice of a lace frame for half width leaves the lanes that wait, and every other group, as they are. -/
theorem halfDecide_frame (e dir g : Nat) (s : State) :
    ((halfDecide e dir g s).eye (gix e dir g)).failing = (s.eye (gix e dir g)).failing ∧ (∀ k, k ≠ gix e dir g → (halfDecide e dir g s).eye k = s.eye k) ∧
      (halfDecide e dir g s).mode = s.mode ∧ (halfDecide e dir g s).mem = s.mem := by
  unfold halfDecide
  dsimp only
  split_ifs
  · exact ⟨by rw [State.eye_modEye], fun k hk => s.eye_modEye_ne _ _ hk, rfl, rfl⟩
  · exact ⟨rfl, fun _ _ => rfl, rfl, rfl⟩

/-- A lane newly found failing waits its turn behind those that the group repairs (R144). -/
def laneFound (e dir g lane : Nat) (s : State) : State :=
  (s.modEye (gix e dir g) fun x => { x with failing := x.failing ++ [lane] }).push EYE_EVENT_VALID (eyeEvent 1 e dir g lane)

theorem laneFound_mode (e dir g l : Nat) (s : State) : (laneFound e dir g l s).mode = s.mode := by
  rw [laneFound, State.push_mode, State.modEye_mode]

theorem laneFound_lanes (e dir g l : Nat) (s : State) :
    LanesBecome (gix e dir g) (fun x => { x with failing := x.failing ++ [l] }) s (laneFound e dir g l s) :=
  .of_modEye (by simp [laneFound]) (by simp [laneFound])

section
variable {n run : Nat} (hl : l < 84) (hr : l ∉ (s.eye (gix e dir g)).retired)
include hl hr

theorem laneInUse_of_lt : laneInUse (s.eye (gix e dir g)) l = true := by
  simp [laneInUse, hl, hr]

/-- Below BERTH a correction is counted and no more (R132). -/
theorem laneCorrected_counted (hn : n < max 1 (s.rd EYE_CTL_BERTH)) (hrun : run < 64) :
    laneCorrected e dir g l n run s = laneCounted e dir g l n s := by
  rw [laneCorrected, if_neg (by simp [laneInUse_of_lt hl hr])]
  refine if_neg fun h => ?_
  rcases h.1 with hle | hle
  · exact hn.not_ge (laneCounted_berth n s ▸ hle)
  · exact hrun.not_ge hle

/-- At BERTH the lane is failing; with a spare idle the ladder is not exhausted (R132, R142). -/
theorem laneCorrected_failing (hn : max 1 (s.rd EYE_CTL_BERTH) ≤ n) (hfailing : l ∉ (s.eye (gix e dir g)).failing) (hfailed : l ∉ (s.eye (gix e dir g)).failed)
    (hspare : idleSpares (s.eye (gix e dir g)) ≠ []) :
    laneCorrected e dir g l n run s = halfDecide e dir g (laneFound e dir g l (laneCounted e dir g l n s)) := by
  have hcontains : ∀ {m : List Nat}, l ∉ m → ¬ m.contains l = true := fun h hc => h (List.contains_iff_mem.1 hc)
  have hidle : idleSpares ((laneFound e dir g l (laneCounted e dir g l n s)).eye (gix e dir g)) ≠ [] := by
    rw [(laneFound_lanes ..).own, (laneCounted_lanes ..).own]
    exact hspare
  rw [laneCorrected, if_neg (by simp [laneInUse_of_lt hl hr])]
  refine (if_pos ⟨.inl ((laneCounted_berth n s).symm ▸ hn), hcontains hfailed⟩).trans ?_
  rw [if_neg (hcontains hfailing)]
  exact if_neg (Bool.eq_false_iff.1 (exhausted_of_spare hidle l))

end

end

/-! What the commands of EYE_CMD come to -/

section
variable {s : State} {e dir g l : Nat} (hb : s.rd EYE_CMD_BUSY = 0)
include hb

/-- Outside HOLD an injection is refused and touches the command register alone (R147). -/
theorem eyeCmdInject_notHold (hm : s.mode ≠ HOLD) :
    Yields (exec .eyeCmdInject s) fun t => Ends t EYE_CMD_STATUS EYE_CMD_BUSY ST_EYE_NOTHOLD ∧ t.eyes = s.eyes ∧ SameMem s t ∧
      SameRegsBut [EYE_CMD_OP.key 0, EYE_CMD_STATUS.key 0, EYE_CMD_BUSY.key 0] s t := by
  refine ⟨_, exec_eyeCmdInject_notHold hb hm, eyeCmdDone_ends _ (by decide), by simp, .of_mem (by simp), fun f o hf => ?_⟩
  simp only [List.mem_cons, List.not_mem_nil, or_false, not_or] at hf
  obtain ⟨hop, hst, hbusy⟩ := hf
  rw [eyeCmdDone_rdi _ _ hst hbusy, State.rdi_wr_ne _ _ hop]

variable (ht : eyeTarget s = (e, dir, g, l)) (he : e < 24)
include ht he

/-- The target lane takes the lowest idle spare (R138). -/
theorem eyeCmdSpare_spared (hl : l < 84) (hs : (s.eye (gix e dir g)).swap = none) {sp : Nat} {sps : List Nat}
    (hsp : idleSpares (s.eye (gix e dir g)) = sp :: sps) :
    Yields (exec .eyeCmdSpare s) fun t => Ends t EYE_CMD_STATUS EYE_CMD_BUSY 0 ∧ tabGet none (t.eye (gix e dir g)).subst sp = some l ∧
      l ∈ (t.eye (gix e dir g)).failed ∧ (∀ k, k ≠ gix e dir g → t.eye k = s.eye k) ∧ SameMem s t := by
  rw [exec_eyeCmdSpare ht hb he hl hs, eyeCmdRun_spare (eyeTarget_op ht 1) hsp]
  obtain ⟨hsubst, hfailed, hother, hmem⟩ := spareLane_spec hl e dir g sp (s.wr EYE_CMD_OP 1)
  refine ⟨_, rfl, eyeCmdDone_ends _ (by decide), ?_⟩
  simp only [eyeCmdDone_eye]
  exact ⟨hsubst, hfailed, hother, .of_mem ((eyeCmdDone_mem ..).trans hmem)⟩

theorem eyeCmdSpare_noSpare (hl : l < 84) (hs : (s.eye (gix e dir g)).swap = none) (hsp : idleSpares (s.eye (gix e dir g)) = []) :
    Yields (exec .eyeCmdSpare s) fun t => Ends t EYE_CMD_STATUS EYE_CMD_BUSY ST_EYE_NOSPARE ∧ t.eyes = s.eyes ∧ SameMem s t := by
  rw [exec_eyeCmdSpare ht hb he hl hs, eyeCmdRun_noSpare (eyeTarget_op ht 1) hsp]
  exact ⟨_, rfl, eyeCmdDone_ends _ (by decide), by simp, .of_mem (by simp)⟩

/-- Where no region clock runs, the target lane's slots move to the lowest free reserve at once (R139). -/
theorem eyeCmdMove_moved (hl : l < 80) (hg : g ≠ 0) (hrun : s.mode ≠ RUN) (hshift : s.mode ≠ SHIFT) (hs : (s.eye (gix e dir g)).swap = none) {r : Nat}
    {rs : List Nat} (hr : freeReserves s e (s.eye (gix e dir g)) = r :: rs) :
    Yields (exec .eyeCmdMove s) fun t => Ends t EYE_CMD_STATUS EYE_CMD_BUSY 0 ∧ tabGet none (t.eye (gix e dir g)).subst r = some l ∧
      l ∈ (t.eye (gix e dir g)).retired ∧ (∀ k, k ≠ gix e dir g → t.eye k = s.eye k) ∧ SameMem s t := by
  have hmode : (s.wr EYE_CMD_OP 2).mode = s.mode := s.wr_mode_above (by decide) 2
  rw [exec_eyeCmdMove ht hb he hl hg hs,
    eyeCmdRun_move (eyeTarget_op ht 2) (hmode ▸ hrun) (hmode ▸ hshift) ((freeReserves_op 2 e _).trans hr)]
  obtain ⟨hsubst, hretired, hother, hmem⟩ := moveLane_spec e dir g l r (s.wr EYE_CMD_OP 2)
  refine ⟨_, rfl, eyeCmdDone_ends _ (by decide), ?_⟩
  simp only [eyeCmdDone_eye]
  exact ⟨hsubst, hretired, hother, .of_mem ((eyeCmdDone_mem ..).trans hmem)⟩

variable (hl : l < 84) (hm : s.mode = HOLD)
include hl hm

theorem eyeCmdInject_retired (hr : l ∈ (s.eye (gix e dir g)).retired) :
    Yields (exec .eyeCmdInject s) fun t => Ends t EYE_CMD_STATUS EYE_CMD_BUSY 0 ∧ t.eyes = s.eyes ∧ SameMem s t := by
  rw [exec_eyeCmdInject ht hb he hl hm, laneCorrected_retired (s := s.wr EYE_CMD_OP 3) hl hr]
  exact ⟨_, rfl, eyeCmdDone_ends _ (by decide), by simp, .of_mem (by simp)⟩

variable (hr : l ∉ (s.eye (gix e dir g)).retired)
include hr

/-- Below BERTH an injected error is one correction of its lane, and no register but the command's and the group's count changes (R132, R147). -/
theorem eyeCmdInject_counted (hn : tabGet 0 (s.eye (gix e dir g)).corr l + 1 < max 1 (s.rd EYE_CTL_BERTH)) :
    Yields (exec .eyeCmdInject s) fun t => Ends t EYE_CMD_STATUS EYE_CMD_BUSY 0 ∧
      tabGet 0 (t.eye (gix e dir g)).corr l = min (tabGet 0 (s.eye (gix e dir g)).corr l + 1) 0xFFFFF ∧
      (t.eye (gix e dir g)).failing = (s.eye (gix e dir g)).failing ∧
      t.rdi EYE_CORR_COUNT (oGrp e dir g) = min (s.rdi EYE_CORR_COUNT (oGrp e dir g) + 1) (2 ^ EYE_CORR_COUNT.w - 1) ∧ SameMem s t ∧
      SameRegsBut [EYE_CMD_OP.key 0, EYE_CMD_STATUS.key 0, EYE_CMD_BUSY.key 0, EYE_CORR_COUNT.key (oGrp e dir g)] s t := by
  rw [exec_eyeCmdInject ht hb he hl hm, laneCorrected_counted (s := s.wr EYE_CMD_OP 3) hl hr (by rwa [State.rd_wr_ne _ _ (by decide)]) (by decide)]
  have hlanes := laneCounted_lanes e dir g l (tabGet 0 (s.eye (gix e dir g)).corr l + 1) (s.wr EYE_CMD_OP 3)
  refine ⟨_, rfl, eyeCmdDone_ends _ (by decide), ?_, ?_, ?_, .of_mem ((eyeCmdDone_mem ..).trans hlanes.mem), fun f o hf => ?_⟩
  · rw [eyeCmdDone_eye, hlanes.own]
    exact tabGet_set_same ..
  · rw [eyeCmdDone_eye, hlanes.own]
    rfl
  · have hkey : ∀ f : Fld, f.adr < EYE_CORR_COUNT.adr → f.lo < 32 → EYE_CORR_COUNT.key (oGrp e dir g) ≠ f.key 0 := fun f h hlo =>
      Fld.key_ne_of_adr hlo (by decide) (by omega)
    rw [eyeCmdDone_rdi _ _ (hkey _ (by decide) (by decide)) (hkey _ (by decide) (by decide))]
    exact (laneCounted_count e dir g l (s.wr EYE_CMD_OP 3)).trans (by rw [State.rdi_wr_ne _ _ (hkey _ (by decide) (by decide))])
  · simp only [List.mem_cons, List.not_mem_nil, or_false, not_or] at hf
    obtain ⟨hop, hst, hbusy, hcorr⟩ := hf
    rw [eyeCmdDone_rdi _ _ hst hbusy, laneCounted_rdi hcorr, State.rdi_wr_ne _ _ hop]

/-- An injected error that brings its lane to BERTH makes the lane failing, to wait for the ladder (R132, R144, R147). -/
theorem eyeCmdInject_failing (hn : max 1 (s.rd EYE_CTL_BERTH) ≤ tabGet 0 (s.eye (gix e dir g)).corr l + 1) (hfailing : l ∉ (s.eye (gix e dir g)).failing)
    (hfailed : l ∉ (s.eye (gix e dir g)).failed) (hspare : idleSpares (s.eye (gix e dir g)) ≠ []) :
    Yields (exec .eyeCmdInject s) fun t => Ends t EYE_CMD_STATUS EYE_CMD_BUSY 0 ∧
      (t.eye (gix e dir g)).failing = (s.eye (gix e dir g)).failing ++ [l] ∧ (∀ k, k ≠ gix e dir g → t.eye k = s.eye k) ∧ t.mode = s.mode ∧
      SameMem s t := by
  rw [exec_eyeCmdInject ht hb he hl hm,
    laneCorrected_failing (s := s.wr EYE_CMD_OP 3) hl hr (by rwa [State.rd_wr_ne _ _ (by decide)]) hfailing hfailed hspare]
  have hcount := laneCounted_lanes e dir g l (tabGet 0 (s.eye (gix e dir g)).corr l + 1) (s.wr EYE_CMD_OP 3)
  have hfound := laneFound_lanes e dir g l (laneCounted e dir g l (tabGet 0 (s.eye (gix e dir g)).corr l + 1) (s.wr EYE_CMD_OP 3))
  obtain ⟨hwait, hother, hmode, hmem⟩ := halfDecide_frame e dir g
    (laneFound e dir g l (laneCounted e dir g l (tabGet 0 (s.eye (gix e dir g)).corr l + 1) (s.wr EYE_CMD_OP 3)))
  refine ⟨_, rfl, eyeCmdDone_ends _ (by decide), ?_, fun k hk => ?_, ?_, .of_mem ?_⟩
  · rw [eyeCmdDone_eye, hwait, hfound.own, hcount.own]
    rfl
  · rw [eyeCmdDone_eye, hother k hk, hfound.other k hk, hcount.other k hk, State.eye_wr]
  · rw [eyeCmdDone_mode, hmode, laneFound_mode, laneCounted_mode, State.wr_mode_above _ (by decide)]
  · rw [eyeCmdDone_mem, hmem, hfound.mem, hcount.mem]
    rfl

end

/-- Settles O24: each command is put as the operation that it comes to, and of that its own law is cited. -/
theorem eyeletErrorsAndCommands : Obligations.EyeletErrorsAndCommands := by
  refine ⟨?ring, ?spoke, ?tolerated, ?untolerated, ?clock, ?spare, ?noSpare, ?move, ?counted, ?failing, ?retired, ?notHold⟩
  case ring =>
    intro s e he h
    obtain ⟨w, hexec⟩ := exec_eyeletTrainingTimeout h
    rw [if_neg he.not_gt] at hexec
    obtain ⟨hstate, hreason⟩ := eyeletFailed_stat s w e.isLt
    exact ⟨_, hexec, hstate, hreason, eyeletFailed_mode .., .of_mem (eyeletFailed_mem ..)⟩
  case spoke =>
    intro s e he h
    obtain ⟨w, hexec⟩ := exec_eyeletTrainingTimeout h
    rw [if_pos he] at hexec
    obtain ⟨hup, hstate, hreason, hmode⟩ := dieOff_silent (eyeletFailed s e w) e ST_HW_DIE_SILENT (by decide)
    exact ⟨_, hexec, hup, hstate, hreason, hmode.trans (eyeletFailed_mode ..)⟩
  case tolerated =>
    intro s e dir g word hg h
    refine ⟨_, exec_eyeletUncorrectable_tolerated hg h, fun sig hsig => tabGet_flyWithoutWord _ _ _ _ _ hsig, rfl, rfl, ?_, ?_, .of_mem rfl⟩
    · exact s.rdi_addi_same ..
    · exact fun f o hf => s.rdi_addi_ne 1 (List.ne_of_not_mem_cons hf)
  case untolerated =>
    intro s e dir g word hm h
    exact ⟨_, exec_eyeletUncorrectable_untolerated h, eyeFault_safe (by rwa [State.inci, State.addi_mode_above _ (by decide)]) ..⟩
  case clock =>
    intro s e dir g hm
    obtain ⟨u, hexec, hu⟩ := exec_eyeletClockLaneLoss s e dir g
    exact ⟨_, hexec, eyeFault_safe (hu ▸ hm) ..⟩
  case spare => exact fun s e dir g l sp sps hb ht he _ _ hl hs hsp => eyeCmdSpare_spared hb ht he hl hs hsp
  case noSpare => exact fun s e dir g l hb ht he _ _ hl hs hsp => eyeCmdSpare_noSpare hb ht he hl hs hsp
  case move => exact fun s e dir g l r rs hb ht he _ _ hl hg hrun hshift hs hr => eyeCmdMove_moved hb ht he hl hg hrun hshift hs hr
  case counted => exact fun s e dir g l hb ht he _ _ hl hm hr hn => eyeCmdInject_counted hb ht he hl hm hr hn
  case failing =>
    exact fun s e dir g l hb ht he _ _ hl hm hr hn hfailing hfailed hspare => eyeCmdInject_failing hb ht he hl hm hr hn hfailing hfailed hspare
  case retired => exact fun s e dir g l hb ht he hl hm hr => eyeCmdInject_retired hb ht he hl hm hr
  case notHold => exact fun s hb hm => eyeCmdInject_notHold hb hm

end Sys2Proof.Machine

namespace Sys2Proof.Machine

/-! The end of a step's hold on a plan that runs over the register map (R569, R597): the seconds of service that the wait counts in HLT_AVSEC stand where
entry `avsecStep` of such a plan has its COMP, so the step that is due changes component, and what held it may be gone. -/

/-- The entry of UPD_PLAN, far beyond its 21, that stands at the address of HLT_AVSEC. -/
def avsecStep : Nat := (HLT_AVSEC_SEC.adr - UPD_PLAN_COMP.adr) / 4

theorem rdi_planComp_avsecStep (s : State) : s.rdi UPD_PLAN_COMP (4 * avsecStep) = s.rd HLT_AVSEC_SEC := rfl

/-! What a wait leaves and counts -/

/-- Of a service that is there, a wait counts the seconds (R597). -/
theorem State.pass_avsec {s : State} (h : s.inService = true) (n : Nat) :
    (s.pass n).rd HLT_AVSEC_SEC = min (s.rd HLT_AVSEC_SEC + (s.hlt.ns + n) / 1000000000) (2 ^ HLT_AVSEC_SEC.w - 1) := by
  rw [State.pass, State.serve, if_pos h]
  exact s.rdi_addi_same ..

theorem State.pass_upd (s : State) (n : Nat) : (s.pass n).upd = s.upd := by
  unfold State.pass State.serve
  split <;> rfl

theorem nextStep_of_done {s : State} {i : Nat} (hi : i < s.rd UPD_STAT_NSTEP) (hdue : s.rdi UPD_PLAN_DONE (4 * i) = 0)
    (hdone : ∀ j, j < i → s.rdi UPD_PLAN_DONE (4 * j) = 1) : nextStep s = some i := by
  rw [nextStep, List.find?_range_eq_some]
  exact ⟨by simp [hdue], List.mem_range.2 hi, fun j hj => by simp [hdone j hj]⟩

theorem nextStep_pass (s : State) (n : Nat) : nextStep (s.pass n) = nextStep s := by
  have hdone : ∀ i, (s.pass n).rdi UPD_PLAN_DONE (4 * i) = s.rdi UPD_PLAN_DONE (4 * i) := fun i =>
    s.pass_rdi n (by simp only [Fld.key, UPD_PLAN_DONE, HLT_AVSEC_SEC]; omega)
  have hsteps : (s.pass n).rd UPD_STAT_NSTEP = s.rd UPD_STAT_NSTEP := s.pass_rdi n (by decide)
  simp only [nextStep, hdone, hsteps]

/-! What holds a step -/

theorem updHolds_ne_nil {c : Nat} {s : State} (h : updDefers c s = true) (rev : Bool) : updHolds c rev s ≠ [] := by
  simp [updHolds, h]

/-- A component that is not Last firmware is deferred for the sake of a live die alone (R570). -/
theorem updDefers_of_no_die {c : Nat} {s : State} (hc : c ≠ 0) (h : liveDies s = []) : updDefers c s = false := by
  simp [updDefers, hc, h]

/-- Where nothing holds the step that is due at the end of the hold, the update is not suspended: the row waits and no more. -/
theorem exec_updateStepHoldTimeout_free {s t : State} {i : Nat} (hstate : updState s = 5) (hheld : s.upd.held = true)
    (ht : s.reachElapsed (s.upd.heldAt + max 1 (s.rd UPD_CTL_HOLDOFF) * 1000000000) = t) (hi : nextStep t = some i)
    (hfree : updHolds (t.rdi UPD_PLAN_COMP (4 * i)) false t = []) : exec .updateStepHoldTimeout s = .next t := by
  change execUpdateStepHoldTimeout s = _
  rw [execUpdateStepHoldTimeout, if_pos ⟨hstate, hheld⟩, ht]
  simp only [hi, hfree]

/-! A plan whose first `n` steps are DONE -/

def planDoneTo (n : Nat) (s : State) : State := (List.range n).foldl (fun s j => s.wri UPD_PLAN_DONE (4 * j) 1) s

theorem planDoneTo_succ (n : Nat) (s : State) : planDoneTo (n + 1) s = (planDoneTo n s).wri UPD_PLAN_DONE (4 * n) 1 := by
  simp [planDoneTo, List.range_succ]

theorem planDoneTo_frame (n : Nat) (s : State) :
    (planDoneTo n s).dies = s.dies ∧ (planDoneTo n s).hlt = s.hlt ∧ (planDoneTo n s).upd = s.upd ∧ (planDoneTo n s).clocks = s.clocks :=
  List.foldlRecOn (motive := fun t : State => t.dies = s.dies ∧ t.hlt = s.hlt ∧ t.upd = s.upd ∧ t.clocks = s.clocks) _ _ ⟨rfl, rfl, rfl, rfl⟩
    fun _ h _ _ => h

/-- A field whose lowest bit is not DONE's stays, at whatever offset it is read. -/
theorem planDoneTo_rdi {f : Fld} (hlo : f.lo < 32) (hf : f.lo ≠ UPD_PLAN_DONE.lo) (n o : Nat) (s : State) : (planDoneTo n s).rdi f o = s.rdi f o :=
  List.foldlRecOn (motive := fun t : State => t.rdi f o = s.rdi f o) _ _ rfl fun t h j _ =>
    (t.rdi_wri_ne 1 (by change f.lo ≠ 30 at hf; simp only [Fld.key, UPD_PLAN_DONE]; omega)).trans h

theorem planDoneTo_done (n j : Nat) (s : State) :
    (planDoneTo n s).rdi UPD_PLAN_DONE (4 * j) = if j < n then 1 else s.rdi UPD_PLAN_DONE (4 * j) := by
  induction n with
  | zero => rfl
  | succ n ih =>
    rw [planDoneTo_succ]
    by_cases hj : j = n
    · rw [hj, State.rdi_wri_same, if_pos n.lt_succ_self]
      rfl
    · rw [State.rdi_wri_ne _ _ (by simp only [Fld.key]; omega), ih]
      exact if_congr (by omega) rfl rfl

/-! The counterexample -/

/-- In RUN, the step due of an update holds for a configuration command, and NSTEP has a value above its five bits. -/
def heldOverrun : State :=
  let s := ((supplied RUN).wr UPD_STAT_STATE 5).wr CFG_CMD_BUSY 1
  { s with regs := tabSet 0 s.regs (UPD_STAT_NSTEP.key 0) (avsecStep + 1), upd := { held := true } }

/-- And every step before `avsecStep` is DONE. -/
def longPlan : State := planDoneTo avsecStep heldOverrun

theorem longPlan_rdi {f : Fld} (hlo : f.lo < 32) (hf : f.lo ≠ UPD_PLAN_DONE.lo) (o : Nat) : longPlan.rdi f o = heldOverrun.rdi f o :=
  planDoneTo_rdi hlo hf ..

theorem longPlan_rd {f : Fld} (hlo : f.lo < 32) (hf : f.lo ≠ UPD_PLAN_DONE.lo) : longPlan.rd f = heldOverrun.rd f := longPlan_rdi hlo hf 0

theorem longPlan_frame : longPlan.dies = [] ∧ longPlan.hlt = {} ∧ longPlan.upd = { held := true } ∧ longPlan.clocks = {} := planDoneTo_frame ..

theorem longPlan_nextStep : nextStep longPlan = some avsecStep := by
  refine nextStep_of_done ?_ ?_ fun j hj => ?_
  · rw [longPlan_rd (by decide) (by decide)]
    decide +kernel
  · rw [longPlan, planDoneTo_done, if_neg (lt_irrefl _)]
    decide +kernel
  · rw [longPlan, planDoneTo_done, if_pos hj]

theorem longPlan_comp : longPlan.rdi UPD_PLAN_COMP (4 * avsecStep) = 0 := by
  rw [longPlan_rdi (by decide) (by decide)]
  decide +kernel

theorem longPlan_holds : updHolds 0 false longPlan ≠ [] := by
  have hbusy : longPlan.rd CFG_CMD_BUSY = 1 := (longPlan_rd (by decide) (by decide)).trans (by decide +kernel)
  exact updHolds_ne_nil (by simp [updDefers, hbusy]) false

theorem longPlan_inService : longPlan.inService = true := by
  obtain ⟨hdies, hhlt, -, -⟩ := longPlan_frame
  have hmode : longPlan.mode = RUN := (longPlan_rd (by decide) (by decide)).trans (by decide +kernel)
  rw [State.inService, hmode, hhlt]
  simp only [State.dieUp, State.die, hdies]
  decide

/-- The state at the end of the hold, HOLDOFF (60 s) later. -/
def longPlanHeld : State := longPlan.pass 60000000000

theorem longPlan_reachElapsed :
    longPlan.reachElapsed (longPlan.upd.heldAt + max 1 (longPlan.rd UPD_CTL_HOLDOFF) * 1000000000) = longPlanHeld := by
  obtain ⟨-, -, hupd, hclocks⟩ := longPlan_frame
  have hoff : longPlan.rd UPD_CTL_HOLDOFF = 60 := (longPlan_rd (by decide) (by decide)).trans (by decide +kernel)
  simp [hupd, hoff, State.reachElapsed, hclocks, longPlanHeld]

theorem longPlanHeld_rdi {f : Fld} (hlo : f.lo < 32) (hf : f.lo ≠ UPD_PLAN_DONE.lo) {o : Nat} (hk : f.key o ≠ HLT_AVSEC_SEC.key 0) :
    longPlanHeld.rdi f o = heldOverrun.rdi f o := by
  rw [longPlanHeld, State.pass_rdi _ _ hk, longPlan_rdi hlo hf]

theorem longPlanHeld_rd {f : Fld} (hlo : f.lo < 32) (hf : f.lo ≠ UPD_PLAN_DONE.lo) (hk : f.key 0 ≠ HLT_AVSEC_SEC.key 0) :
    longPlanHeld.rd f = heldOverrun.rd f := longPlanHeld_rdi hlo hf hk

/-- The step that is due names component 60 now, the seconds that the wait has counted. -/
theorem longPlanHeld_comp : longPlanHeld.rdi UPD_PLAN_COMP (4 * avsecStep) = 60 := by
  obtain ⟨-, hhlt, -, -⟩ := longPlan_frame
  have hsec : longPlan.rd HLT_AVSEC_SEC = 0 := (longPlan_rd (by decide) (by decide)).trans (by decide +kernel)
  rw [rdi_planComp_avsecStep, longPlanHeld, State.pass_avsec longPlan_inService, hhlt, hsec]
  decide

theorem longPlanHeld_liveDies : liveDies longPlanHeld = [] := by
  have hstat : ∀ d ∈ dieList, longPlanHeld.rdi GLB_DIESTAT_STATE (4 * d) = 0 := by
    intro d hd
    have hlt : d < 12 := List.mem_range.1 hd
    rw [longPlanHeld_rdi (by decide) (by decide) (by simp only [Fld.key, GLB_DIESTAT_STATE, HLT_AVSEC_SEC]; omega)]
    exact (show ∀ d < 12, heldOverrun.rdi GLB_DIESTAT_STATE (4 * d) = 0 by decide +kernel) d hlt
  exact List.filter_eq_nil_iff.2 fun d hd => by simp [hstat d hd]

theorem longPlanHeld_conds : updConds (updPkg longPlanHeld) false longPlanHeld = [] := by
  obtain ⟨-, -, hupd, -⟩ := longPlan_frame
  have hkept : longPlanHeld.upd = { held := true } := (longPlan.pass_upd _).trans hupd
  simp (disch := decide) only [updConds, updPkg, State.mode, longPlanHeld_rd, hkept]
  decide +kernel

theorem longPlanHeld_free : updHolds 60 false longPlanHeld = [] := by
  simp [updHolds, longPlanHeld_conds, updDefers_of_no_die, longPlanHeld_liveDies]

/-- Refutes O59 in its clause on UPDATE_STEP_HOLD_TIMEOUT: with NSTEP above its five bits the step due can be one whose COMP is read at the address of
HLT_AVSEC. There the wait turns component 0, which holds, into component 60, which does not, and the update stays STEPPING. -/
theorem not_fieldUpdate : ¬ Obligations.FieldUpdate := by
  intro h
  obtain ⟨-, -, -, -, -, -, -, -, -, -, -, -, -, -, hold, -, -⟩ := h
  have hstate : updState longPlan = 5 := (longPlan_rd (by decide) (by decide)).trans (by decide +kernel)
  obtain ⟨-, -, hupd, -⟩ := longPlan_frame
  have hheld : longPlan.upd.held = true := congrArg Upd.held hupd
  obtain ⟨x, l, hx⟩ := List.exists_cons_of_ne_nil longPlan_holds
  obtain ⟨t, hexec, ht, -⟩ := hold longPlan avsecStep 0 x l hstate hheld longPlan_nextStep longPlan_comp hx
  have hnext : nextStep longPlanHeld = some avsecStep := (nextStep_pass longPlan _).trans longPlan_nextStep
  rw [exec_updateStepHoldTimeout_free hstate hheld longPlan_reachElapsed hnext (longPlanHeld_comp.symm ▸ longPlanHeld_free)] at hexec
  obtain rfl : longPlanHeld = t := Host.Outcome.next.inj hexec
  have hstays : updState longPlanHeld = 5 := (longPlanHeld_rd (by decide) (by decide) (by decide)).trans (by decide +kernel)
  omega

end Sys2Proof.Machine

namespace Sys2Proof.Machine

-- A proof elaborated on its own holds a thread, whose stack counts toward the memory of the check.
set_option Elab.async false

/-! The machine: its step and its state after reset -/

/-- Settles O1. -/
theorem stepRunsFrontCommand : Obligations.StepRunsFrontCommand := by
  intro c rest s h
  rw [step, h]

theorem State.rdByte_reset (a : Nat) : State.reset.rdByte a = 0 := rfl

theorem State.reset_canonical : State.reset.Canonical := by
  have hempty {α : Type} : Tab.Rising ([] : Tab α) := .nil
  exact ⟨Memory.wf_reset, hempty, hempty, hempty, hempty⟩

theorem State.reset_planesOk : State.reset.PlanesOk := fun u => by
  unfold activeOf
  split <;> exact Nat.two_pos

/-- Settles O6: the clauses on registers read off the reset values. -/
theorem resetState : Obligations.ResetState := by
  have hregs : State.reset.rd GLB_MODE_BUSY = 0 ∧ State.reset.rd CLK_STAT_READY = 0 ∧ State.reset.rd WLT_RSPTMO_TMO = 100 ∧
      State.reset.rd WLT_LOCKTMO_TMO = 200 := by decide +kernel
  obtain ⟨hbusy, hready, hrsp, hlock⟩ := hregs
  exact ⟨⟨rfl, hbusy, hready, State.rdByte_reset, fun _ => rfl, hrsp, hlock, fun _ => rfl, rfl⟩, State.reset_canonical, State.reset_planesOk⟩

end Sys2Proof.Machine

namespace Sys2Proof.Machine

set_option Elab.async false

/-! What every command keeps: the queue, the canonical form of the tables, and the range of the plane selects. Each operation of the model has one
law: of a state `t` that keeps these of `s`, so does what the operation makes of it. -/

/-- `t` holds the queue of `s`, is canonical where `s` is, and names a plane of the two wherever `s` does. -/
structure Keeps (s t : State) : Prop where
  pending : t.pending = s.pending
  canonical : s.Canonical → t.Canonical
  planes : s.PlanesOk → t.PlanesOk

/-- The outcome is a next state, which keeps these of `s`. -/
def Goes (s : State) (o : Out) : Prop := ∃ t, o = .next t ∧ Keeps s t

section
variable {s t u : State}

theorem Keeps.refl (s : State) : Keeps s s := ⟨rfl, id, id⟩

theorem Keeps.trans (h : Keeps s t) (g : Keeps t u) : Keeps s u :=
  ⟨g.pending.trans h.pending, fun c => g.canonical (h.canonical c), fun c => g.planes (h.planes c)⟩

theorem Keeps.next (h : Keeps s t) : Goes s (.next t) := ⟨t, rfl, h⟩

theorem Goes.next (h : Keeps s t) : Goes s (.next t) := ⟨t, rfl, h⟩

theorem Keeps.ite {c : Prop} [Decidable c] (ht : Keeps s t) (hu : Keeps s u) : Keeps s (if c then t else u) := by
  split
  · exact ht
  · exact hu

theorem Goes.ite {c : Prop} [Decidable c] {o p : Out} (ho : Goes s o) (hp : Goes s p) : Goes s (if c then o else p) := by
  split
  · exact ho
  · exact hp

theorem Keeps.foldl {α : Type} (h : Keeps s t) {f : State → α → State} (hf : ∀ u a, Keeps s u → Keeps s (f u a)) {l : List α} : Keeps s (l.foldl f t) :=
  List.foldlRecOn (motive := Keeps s) l f h fun u hu a _ => hf u a hu

theorem Keeps.snd {α : Type} {p : α × State} {a : α} (h : Keeps s p.2) (e : p = (a, u)) : Keeps s u := by rw [e] at h; exact h

theorem Keeps.right {α : Type} {a : α} (h : Keeps s t) : Keeps s (a, t).2 := h

theorem Keeps.left {α : Type} {a : α} (h : Keeps s t) : Keeps s (t, a).1 := h

theorem Keeps.fst {α : Type} {p : State × α} {a : α} (h : Keeps s p.1) (e : p = (u, a)) : Keeps s u := by rw [e] at h; exact h

/-- The plane selects of a state depend on its regions' planes and on the dies' selects. -/
theorem State.PlanesOk.of_le (h : t.PlanesOk) (hr : ∀ k, (t.region k).plane < 2 → (u.region k).plane < 2)
    (hd : ∀ d, tabGet 0 t.cfg.sel d < 2 → tabGet 0 u.cfg.sel d < 2) : u.PlanesOk := fun x => by
  have hx := h x
  unfold activeOf at hx ⊢
  split at hx
  · rw [if_pos ‹_›]; exact hr _ hx
  · rw [if_neg ‹_›]; exact hd _ hx

/-- What neither the canonical form nor the planes speak of may change. -/
theorem Keeps.congr (h : Keeps s t) (hpend : u.pending = t.pending) (hmem : u.mem = t.mem) (hregs : u.regs = t.regs)
    (hlaunch : u.express.launch = t.express.launch) (hfly : u.express.fly = t.express.fly) (hland : u.express.land = t.express.land)
    (hregions : u.regions = t.regions) (hsel : u.cfg.sel = t.cfg.sel) : Keeps s u where
  pending := hpend.trans h.pending
  canonical c := by
    have ht := h.canonical c
    unfold State.Canonical at ht ⊢
    rwa [hmem, hregs, hlaunch, hfly, hland]
  planes c := (h.planes c).of_le (fun k hk => by rw [State.region, hregions]; exact hk) (fun d hd => by rw [hsel]; exact hd)

/-- An update of other fields of the state. -/
theorem Keeps.lit (h : Keeps s t) {fresh evq reply supTab fuseTrim dies banks eyes cores modes clocks gears bbx power side secur hlt dbg upd asked welt marks cob
    chans pcie eth pins shf keyHash bundles qmasks} :
    Keeps s ⟨t.pending, fresh, t.regs, evq, t.mem, reply, supTab, fuseTrim, dies, t.regions, banks, eyes, t.express, cores, modes, clocks, gears, bbx, power, side,
      secur, hlt, dbg, upd, asked, welt, marks, cob, chans, pcie, eth, pins, t.cfg, shf, keyHash, bundles, qmasks⟩ :=
  h.congr rfl rfl rfl rfl rfl rfl rfl rfl

theorem State.Canonical.of_regs (h : t.Canonical) (hmem : u.mem = t.mem) (hregs : Tab.Rising t.regs → Tab.Rising u.regs) (hx : u.express = t.express) : u.Canonical := by
  obtain ⟨hm, hr, hl, hf, hd⟩ := h
  exact ⟨hmem ▸ hm, hregs hr, hx ▸ hl, hx ▸ hf, hx ▸ hd⟩

/-- Register fields and what neither form speaks of may change. -/
theorem Keeps.congrRegs (h : Keeps s t) (hregs : Tab.Rising t.regs → Tab.Rising u.regs) (hpend : u.pending = t.pending) (hmem : u.mem = t.mem) (hx : u.express = t.express)
    (hregions : u.regions = t.regions) (hsel : u.cfg.sel = t.cfg.sel) : Keeps s u where
  pending := hpend.trans h.pending
  canonical c := (h.canonical c).of_regs hmem hregs hx
  planes c := (h.planes c).of_le (fun k hk => by rw [State.region, hregions]; exact hk) (fun d hd => by rw [hsel]; exact hd)

/-- Memory and what neither form speaks of may change. -/
theorem Keeps.congrMem (h : Keeps s t) (hmem : Memory.wf t.mem = true → Memory.wf u.mem = true) (hpend : u.pending = t.pending) (hregs : u.regs = t.regs)
    (hx : u.express = t.express) (hregions : u.regions = t.regions) (hsel : u.cfg.sel = t.cfg.sel) : Keeps s u where
  pending := hpend.trans h.pending
  canonical c := by
    obtain ⟨hm, hr, hl, hf, hd⟩ := h.canonical c
    exact ⟨hmem hm, hregs ▸ hr, hx ▸ hl, hx ▸ hf, hx ▸ hd⟩
  planes c := (h.planes c).of_le (fun k hk => by rw [State.region, hregions]; exact hk) (fun d hd => by rw [hsel]; exact hd)

/-! The named operations on the state -/

theorem Keeps.wri (h : Keeps s t) {f o v} : Keeps s (t.wri f o v) := h.congrRegs (fun hr => State.wri_regs_rising hr f o v) rfl rfl rfl rfl rfl
theorem Keeps.wrByte (h : Keeps s t) {a v} : Keeps s (t.wrByte a v) := h.congrMem (fun hm => State.wrByte_wf hm a v) rfl rfl rfl rfl rfl
theorem Keeps.wrMem (h : Keeps s t) {n a v} : Keeps s (t.wrMem n a v) := by
  induction n generalizing t a v with
  | zero => exact h
  | succ n ih => exact ih h.wrByte
theorem Keeps.wrBytes (h : Keeps s t) {a l} : Keeps s (t.wrBytes a l) := by
  induction l generalizing t a with
  | nil => exact h
  | cons b l ih => exact ih h.wrByte
theorem Keeps.clearMem (h : Keeps s t) {lo hi} : Keeps s (t.clearMem lo hi) := h.congrMem (fun hm => State.clearMem_wf hm lo hi) rfl rfl rfl rfl rfl

/-- A region changes, but its plane select. -/
theorem Keeps.modRegion (h : Keeps s t) {k f} (hf : ∀ g, (f g).plane = g.plane := by exact fun _ => rfl) : Keeps s (t.modRegion k f) where
  pending := h.pending
  canonical := h.canonical
  planes c := (h.planes c).of_le (fun j hj => by
    by_cases e : j = k
    · rw [e] at hj ⊢; rw [State.region_modRegion, hf]; exact hj
    · rw [State.region_modRegion_ne _ _ _ e]; exact hj) (fun _ hd => hd)

/-- The configuration changes, but the dies' plane selects. -/
theorem Keeps.modCfg (h : Keeps s t) {f} (hf : ∀ c, (f c).sel = c.sel := by exact fun _ => rfl) : Keeps s (t.modCfg f) := h.congr rfl rfl rfl rfl rfl rfl rfl (hf _)

/-- A region whose plane select becomes one of the two. -/
theorem Keeps.setRegion (h : Keeps s t) {k f} (hf : ∀ g, (f g).plane < 2) : Keeps s (t.modRegion k f) where
  pending := h.pending
  canonical := h.canonical
  planes c := (h.planes c).of_le (fun j hj => by
    by_cases e : j = k
    · rw [e, State.region_modRegion]; exact hf _
    · rw [State.region_modRegion_ne _ _ _ e]; exact hj) (fun _ hd => hd)

/-- The express registers may change to tables in canonical form, and so may what neither form speaks of. -/
theorem Keeps.congrExpress (h : Keeps s t) (hlaunch : Tab.Rising t.express.launch → Tab.Rising u.express.launch)
    (hfly : Tab.Rising t.express.fly → Tab.Rising u.express.fly) (hland : Tab.Rising t.express.land → Tab.Rising u.express.land)
    (hpend : u.pending = t.pending) (hmem : u.mem = t.mem) (hregs : u.regs = t.regs) (hregions : u.regions = t.regions) (hsel : u.cfg.sel = t.cfg.sel) : Keeps s u where
  pending := hpend.trans h.pending
  canonical c := by
    obtain ⟨hm, hr, hl, hf, hd⟩ := h.canonical c
    exact ⟨hmem ▸ hm, hregs ▸ hr, hlaunch hl, hfly hf, hland hd⟩
  planes c := (h.planes c).of_le (fun k hk => by rw [State.region, hregions]; exact hk) (fun d hd => by rw [hsel]; exact hd)

theorem tabGet_filter_or {α : Type} (d : α) (m : Tab α) (f : Nat → Bool) (k : Nat) :
    tabGet d (m.filter fun p => f p.1) k = tabGet d m k ∨ tabGet d (m.filter fun p => f p.1) k = d := by
  cases h : f k with
  | true => exact .inl (tabGet_filter_true d m f h)
  | false => exact .inr (tabGet_filter_false d m f h)

theorem Keeps.foldlSnd {α β : Type} {p : β × State} (h : Keeps s p.2) {f : β × State → α → β × State} (hf : ∀ r a, Keeps s r.2 → Keeps s (f r a).2) {l : List α} :
    Keeps s (l.foldl f p).2 :=
  List.foldlRecOn (motive := fun r : β × State => Keeps s r.2) l f h fun r hr a _ => hf r a hr

theorem Keeps.foldlFst {α β : Type} {p : State × β} (h : Keeps s p.1) {f : State × β → α → State × β} (hf : ∀ r a, Keeps s r.1 → Keeps s (f r a).1) {l : List α} :
    Keeps s (l.foldl f p).1 :=
  List.foldlRecOn (motive := fun r : State × β => Keeps s r.1) l f h fun r hr a _ => hf r a hr

/-- The state that an instruction leaves, however it comes out. -/
def Did.state : Did → State
  | .stall t => t
  | .raised _ t => t
  | .done _ _ _ t => t

theorem Keeps.stall (h : Keeps s t) : Keeps s (Did.stall t).state := h

theorem Keeps.raised {n : Nat} (h : Keeps s t) : Keeps s (Did.raised n t).state := h

theorem Keeps.done {a b c} (h : Keeps s t) : Keeps s (Did.done a b c t).state := h

/-! The operations of Machine/Ops -/

theorem Keeps.wr (h : Keeps s t) {f v} : Keeps s (State.wr t f v) := by unfold State.wr; exact h.wri

theorem Keeps.addi (h : Keeps s t) {f off n} : Keeps s (State.addi t f off n) := by unfold State.addi; exact h.wri

theorem Keeps.inci (h : Keeps s t) {f off} : Keeps s (State.inci t f off) := by unfold State.inci; exact h.addi

theorem Keeps.wr64 (h : Keeps s t) {lo hi v} : Keeps s (State.wr64 t lo hi v) := by unfold State.wr64; exact h.wr.wr

theorem Keeps.modDie (h : Keeps s t) {d f} : Keeps s (State.modDie t d f) := by unfold State.modDie; exact h.lit

theorem Keeps.modBank (h : Keeps s t) {k f} : Keeps s (State.modBank t k f) := by unfold State.modBank; exact h.lit

theorem Keeps.modGear (h : Keeps s t) {g f} : Keeps s (State.modGear t g f) := by unfold State.modGear; exact h.lit

theorem Keeps.free (h : Keeps s t) {w} : Keeps s (State.free t w).2 := by unfold State.free; exact h.lit.right

theorem Keeps.push2 (h : Keeps s t) {q e e2} : Keeps s (State.push2 t q e e2) := by unfold State.push2; exact h.lit

theorem Keeps.push (h : Keeps s t) {q e} : Keeps s (State.push t q e) := by unfold State.push; exact h.push2

theorem Keeps.setMode (h : Keeps s t) {m} : Keeps s (State.setMode t m) := by unfold State.setMode; exact h.wr.wr

theorem Keeps.endReq (h : Keeps s t) {st} : Keeps s (State.endReq t st) := by
  unfold State.endReq
  extract_lets u _
  have hu : Keeps s u := h.wr.wr
  exact hu.lit

theorem Keeps.serve (h : Keeps s t) {n} : Keeps s (State.serve n t) := by
  unfold State.serve
  refine .ite ?_ h
  extract_lets t1 u _
  have hu : Keeps s u := h.addi
  exact hu.lit

theorem Keeps.pass (h : Keeps s t) {n} : Keeps s (State.pass t n) := by
  unfold State.pass
  extract_lets u _
  have hu : Keeps s u := h.serve
  exact hu.lit

theorem Keeps.reach (h : Keeps s t) {t1} : Keeps s (State.reach t t1) := by unfold State.reach; exact .ite h.pass h

theorem Keeps.reachElapsed (h : Keeps s t) {t1} : Keeps s (State.reachElapsed t t1) := by unfold State.reachElapsed; exact .ite h.pass h

theorem Keeps.tick (h : Keeps s t) : Keeps s (State.tick t) := by unfold State.tick; exact h.pass

theorem Keeps.pendRecord (h : Keeps s t) {r} : Keeps s (State.pendRecord t r) := by
  unfold State.pendRecord
  extract_lets n _ u
  have hu : Keeps s u := h.inci
  exact .ite (.ite h.lit h.lit) (.ite h.lit hu.lit)

theorem Keeps.record (h : Keeps s t) {code source sev payload} : Keeps s (State.record t code source sev payload) := by
  unfold State.record
  refine .ite h ?_
  refine .ite ?_ h.lit
  extract_lets s1 _
  have hs1 : Keeps s s1 := h.pendRecord
  exact .ite hs1 hs1.lit

theorem Keeps.recordSt (h : Keeps s t) {st source payload} : Keeps s (State.recordSt t st source payload) := by unfold State.recordSt; exact h.record

theorem Keeps.recordOpen (h : Keeps s t) {source payload} : Keeps s (State.recordOpen t source payload) := by
  unfold State.recordOpen
  extract_lets c v
  have hc : Keeps s c.2 := h.free
  have hv : Keeps s v.2 := hc.free
  exact hv.record

theorem Keeps.toMode (h : Keeps s t) {m cause} : Keeps s (State.toMode t m cause) := by unfold State.toMode; exact h.setMode.record

/-! The operations of Machine/AwlBase -/

theorem Keeps.modCore (h : Keeps s t) {c f} : Keeps s (State.modCore t c f) := by unfold State.modCore; exact h.lit

theorem Keeps.modArch (h : Keeps s t) {c f} : Keeps s (State.modArch t c f) := by unfold State.modArch; exact h.modCore

theorem Keeps.wdSettle (h : Keeps s t) {c} : Keeps s (Machine.wdSettle c t) := by
  unfold Machine.wdSettle
  extract_lets rest
  exact h.wri.modCore

theorem Keeps.wdSet (h : Keeps s t) {c n} : Keeps s (Machine.wdSet c n t) := by unfold Machine.wdSet; exact h.wri.modCore

theorem Keeps.setAwlState (h : Keeps s t) {c v} : Keeps s (Machine.setAwlState c v t) := by unfold Machine.setAwlState; exact h.wdSettle.wri

theorem Keeps.endSession (h : Keeps s t) {grace c} : Keeps s (Machine.endSession grace c t) := by
  unfold Machine.endSession
  refine .ite ?_ h
  extract_lets held u u1 u2 _
  have hu : Keeps s u := h.wdSettle
  have hu1 : Keeps s u1 := .ite hu.addi hu
  have hu2 : Keeps s u2 := hu1.wri
  exact hu2.lit

theorem Keeps.enterDone (h : Keeps s t) {c st} : Keeps s (Machine.enterDone c st t) := by unfold Machine.enterDone; exact .ite h.wri.wri h

theorem Keeps.dropEntry (h : Keeps s t) {c} : Keeps s (Machine.dropEntry c t) := by
  unfold Machine.dropEntry
  extract_lets u _
  have hu : Keeps s u := h.enterDone
  exact hu.lit

theorem Keeps.loseSessions (h : Keeps s t) {p} : Keeps s (Machine.loseSessions p t) := by
  unfold Machine.loseSessions
  exact (h.foldl fun _ _ hu => hu.dropEntry).congrRegs (fun hr => hr.filter _) rfl rfl rfl rfl rfl

theorem Keeps.wakeWait (h : Keeps s t) {c} : Keeps s (Machine.wakeWait c t) := by unfold Machine.wakeWait; exact .ite h.setAwlState h

theorem Keeps.raiseSoft (h : Keeps s t) {c m} : Keeps s (Machine.raiseSoft c m t) := by unfold Machine.raiseSoft; exact h.modCore.wakeWait

theorem Keeps.raiseEdge (h : Keeps s t) {c n} : Keeps s (Machine.raiseEdge c n t) := by unfold Machine.raiseEdge; exact h.modCore.wakeWait

theorem Keeps.clearPend (h : Keeps s t) {c v} : Keeps s (Machine.clearPend c v t) := by unfold Machine.clearPend; exact h.modCore

theorem Keeps.coreMsg (h : Keeps s t) {c addr} : Keeps s (Machine.coreMsg c addr t).2 := by
  unfold Machine.coreMsg
  split
  · exact h
  · exact h.modCore.raiseSoft.right

theorem Keeps.sysEffect (h : Keeps s t) {c n v f} : Keeps s (Machine.sysEffect c n v f t) := by
  unfold Machine.sysEffect
  extract_lets o a
  exact .ite h.modArch (.ite h.modArch (.ite h.modArch (.ite h.modArch (.ite h.modArch (.ite h.modArch (.ite h (.ite h.clearPend (.ite h.wri.wakeWait (.ite (.ite h.wdSet.modCore h) h.modArch)))))))))

theorem Keeps.sysFlush (h : Keeps s t) {c f} : Keeps s (Machine.sysFlush c f t) := by
  unfold Machine.sysFlush
  split
  · exact h.modArch.sysEffect
  · exact h

theorem Keeps.awlEnter (h : Keeps s t) {c l n ret} : Keeps s (Machine.awlEnter c l n ret t) := by
  unfold Machine.awlEnter
  extract_lets u pc
  have hu : Keeps s u := h.sysFlush
  exact hu.modArch

theorem Keeps.awlVector (h : Keeps s t) {c n ret} : Keeps s (Machine.awlVector c n ret t) := by unfold Machine.awlVector; exact h.modArch.awlEnter

theorem Keeps.awlExc (h : Keeps s t) {c n ret} : Keeps s (Machine.awlExc c n ret t) := by
  unfold Machine.awlExc
  refine .ite ?_ h.awlVector
  extract_lets u
  have hu : Keeps s u := h.modArch
  exact hu.setAwlState.wri.recordSt.endSession.dropEntry

theorem Keeps.awlFaultInfo (h : Keeps s t) {c st addr} : Keeps s (Machine.awlFaultInfo c st addr t) := by
  unfold Machine.awlFaultInfo
  extract_lets o u
  have hu : Keeps s u := h.modArch
  exact hu.wri.wri.wri

theorem Keeps.commitStore (h : Keeps s t) {c x} : Keeps s (Machine.commitStore c t x) := by
  unfold Machine.commitStore
  extract_lets u
  have hu : Keeps s u := h.foldl (fun u1 _ hu1 => hu1.wrByte)
  refine .foldl hu (fun u1 a hu1 => ?_)
  extract_lets k
  exact .ite hu1.lit hu1

theorem Keeps.sendStore (h : Keeps s t) {c x} : Keeps s (Machine.sendStore c t x) := by
  unfold Machine.sendStore
  extract_lets t1
  exact h.modCore

theorem Keeps.release (h : Keeps s t) {c} : Keeps s (Machine.release c t) := by
  unfold Machine.release
  extract_lets k bound go u
  have hu : Keeps s u := h.modCore.foldl (fun u1 _ hu1 => hu1.commitStore)
  exact .ite h (hu.modCore.foldl (fun u1 _ hu1 => hu1.sendStore))

theorem Keeps.squash (h : Keeps s t) {c} : Keeps s (Machine.squash c t) := by
  unfold Machine.squash
  split
  · exact h.modCore
  · exact h

theorem Keeps.showPc (h : Keeps s t) {c} : Keeps s (Machine.showPc c t) := by
  unfold Machine.showPc
  extract_lets k
  exact h.wri

theorem Keeps.breakWindow (h : Keeps s t) {c} : Keeps s (Machine.breakWindow c t) := by
  unfold Machine.breakWindow
  split
  · exact h
  · extract_lets t1 unl
    exact h.modCore

theorem Keeps.awlRaise (h : Keeps s t) {c n} : Keeps s (Machine.awlRaise c n t) := by
  unfold Machine.awlRaise
  extract_lets u a
  have hu : Keeps s u := h.breakWindow
  exact hu.awlExc.showPc

theorem Keeps.endWindow (h : Keeps s t) {c} : Keeps s (Machine.endWindow c t) := by
  unfold Machine.endWindow
  extract_lets k t1
  split
  · refine .ite ?_ h
    extract_lets out u
    have hu : Keeps s u := h.modCore
    exact hu.release
  · exact h

theorem Keeps.stopCheck (h : Keeps s t) {c} : Keeps s (Machine.stopCheck c t) := by
  unfold Machine.stopCheck
  extract_lets k u k1
  have hu : Keeps s u := h.squash.showPc
  split
  · exact h
  · exact .ite h (.ite hu.setAwlState.wri.modCore.dropEntry hu)

theorem Keeps.takeWdog (h : Keeps s t) {c} : Keeps s (Machine.takeWdog c t) := by
  unfold Machine.takeWdog
  extract_lets k u u1
  have hu : Keeps s u := h.squash
  have hu1 : Keeps s u1 := hu.setAwlState.modCore
  exact .ite hu1.awlVector h

theorem Keeps.takeEntry (h : Keeps s t) {c} : Keeps s (Machine.takeEntry c t) := by
  unfold Machine.takeEntry
  extract_lets p k _ o cause u a waits u1 u2 u3 u4 u5 _ u6 u7 _
  have hu : Keeps s u := h.squash
  have hu1 : Keeps s u1 := hu.setAwlState.awlEnter.showPc
  have hu2 : Keeps s u2 := hu1.wri.wri
  have hu3 : Keeps s u3 := .ite hu2.wri hu2
  have hu4 : Keeps s u4 := hu3.enterDone
  have hu5 : Keeps s u5 := hu4.wdSettle
  have hu6 : Keeps s u6 := .ite hu5.lit hu4
  have hu7 : Keeps s u7 := hu6.wri.wri
  exact .ite h (.ite h.lit (.ite h hu7.lit))

theorem Keeps.retireOne (h : Keeps s t) {c} : Keeps s (Machine.retireOne c t) := by
  unfold Machine.retireOne
  split
  · exact h
  · split
    · extract_lets u
      have hu : Keeps s u := .ite h.breakWindow h.squash
      exact hu.awlFaultInfo.awlExc
    · exact .ite h.modCore.release h

theorem Keeps.coreSettle (h : Keeps s t) {c} : Keeps s (Machine.coreSettle c t) := by
  unfold Machine.coreSettle
  extract_lets u
  have hu : Keeps s u := h.foldl (fun u1 _ hu1 => hu1.retireOne)
  exact hu.endWindow.showPc.stopCheck.takeEntry.takeWdog

theorem Keeps.cacheFill (h : Keeps s t) {c a} : Keeps s (Machine.cacheFill c a t) := by
  unfold Machine.cacheFill
  extract_lets line set x
  have hx : Keeps s x.2 := h.free
  exact .ite h (.ite h.modCore hx.modCore)

theorem Keeps.coreArrive (h : Keeps s t) {c tag op st data} : Keeps s (Machine.coreArrive c tag op st data t) := by
  unfold Machine.coreArrive
  extract_lets k held u
  have hu : Keeps s u := h.modCore
  split
  · refine .ite ?_ h.modCore
    extract_lets raw v u1
    have hu1 : Keeps s u1 := .ite h h.cacheFill
    exact hu1.modCore
  · exact .ite (.ite hu hu.wri.addi.raiseEdge) h

theorem Keeps.stopCore (h : Keeps s t) {byMode c} : Keeps s (Machine.stopCore byMode c t) := by
  unfold Machine.stopCore
  exact .ite h.modCore.stopCheck h

theorem Keeps.startReset (h : Keeps s t) {c} : Keeps s (Machine.startReset c t) := by unfold Machine.startReset; exact h.setAwlState.modArch

theorem Keeps.resumeCore (h : Keeps s t) {c} : Keeps s (Machine.resumeCore c t) := by unfold Machine.resumeCore; exact h.setAwlState.wri.wakeWait

theorem Keeps.resetCore (h : Keeps s t) {c} : Keeps s (Machine.resetCore c t) := by
  unfold Machine.resetCore
  extract_lets u k vbr pseg u1 _ u2
  have hu : Keeps s u := h.wdSettle.endSession.dropEntry
  have hu1 : Keeps s u1 := hu.lit
  have hu2 : Keeps s u2 := hu1.lit
  exact hu2.setAwlState.wri.wri

/-! The operations of Machine/Cob -/

theorem Keeps.cobEvent (h : Keeps s t) {kind cls die st loc} : Keeps s (Machine.cobEvent kind cls die st loc t) := by
  unfold Machine.cobEvent
  exact h.push2

theorem Keeps.modCob (h : Keeps s t) {f} : Keeps s (State.modCob t f) := by unfold State.modCob; exact h.lit

theorem Keeps.histCount (h : Keeps s t) {cls die loc} : Keeps s (Machine.histCount cls die loc t) := by
  unfold Machine.histCount
  extract_lets h1 e
  exact .ite h.modCob (.ite h.modCob (.ite h.modCob h.inci))

theorem Keeps.cobCorrected (h : Keeps s t) {cls die loc} : Keeps s (Machine.cobCorrected cls die loc t) := by
  unfold Machine.cobCorrected
  extract_lets u u1 u2 u3
  have hu : Keeps s u := h.inci
  have hu1 : Keeps s u1 := hu.modCob
  have hu2 : Keeps s u2 := .ite hu1 hu1.modCob
  have hu3 : Keeps s u3 := hu2.histCount
  exact .ite (.ite (.ite hu3 hu3.modCob) hu3.cobEvent) hu3

theorem Keeps.cobUncorrectable (h : Keeps s t) {cls die loc st} : Keeps s (Machine.cobUncorrectable cls die loc st t) := by
  unfold Machine.cobUncorrectable
  exact h.cobEvent.inci

theorem Keeps.remapMade (h : Keeps s t) {cls die loc} : Keeps s (Machine.remapMade cls die loc t) := by
  unfold Machine.remapMade
  extract_lets u
  have hu : Keeps s u := h.modCob
  exact hu.cobEvent.record

theorem Keeps.remapRefused (h : Keeps s t) {cls die loc st} : Keeps s (Machine.remapRefused cls die loc st t) := by
  unfold Machine.remapRefused
  extract_lets u
  have hu : Keeps s u := h.modCob
  exact hu.wr.cobEvent

theorem Keeps.rsRecord (h : Keeps s t) {kind die loc} : Keeps s (Machine.rsRecord kind die loc t) := by
  unfold Machine.rsRecord
  extract_lets hours r u
  have hu : Keeps s u := h.modCob
  exact .ite h.wr (.ite h.inci hu.wr)

/-! The operations of Machine/Cells -/

theorem Keeps.setRun (h : Keeps s t) {d r k on} : Keeps s (Machine.setRun d r k on t) := by
  unfold Machine.setRun
  extract_lets m
  exact h.wri

theorem Keeps.wakeNet (h : Keeps s t) {d r k src} : Keeps s (Machine.wakeNet d r k src t) := by
  unfold Machine.wakeNet
  extract_lets en s1
  have hs1 : Keeps s s1 := h.modRegion
  exact .ite (.ite hs1 hs1.setRun.inci) h

theorem Keeps.wakeAll (h : Keeps s t) {d r src} : Keeps s (Machine.wakeAll d r src t) := by
  unfold Machine.wakeAll
  exact h.foldl (fun u a hu => hu.wakeNet)

theorem Keeps.putRclk (h : Keeps s t) {d r k v} : Keeps s (Machine.putRclk d r k v t) := by
  unfold Machine.putRclk
  extract_lets o
  exact h.wri.wri.wri.wri.wri.wri.wri

theorem Keeps.followMode (h : Keeps s t) {d r k} : Keeps s (Machine.followMode d r k t) := by
  unfold Machine.followMode
  refine .ite ?_ h
  split
  · exact h.setRun
  · exact h
  · exact h.setRun

theorem Keeps.modEye (h : Keeps s t) {k f} : Keeps s (State.modEye t k f) := by unfold State.modEye; exact h.lit

theorem Keeps.modBundle (h : Keeps s t) {b f} : Keeps s (State.modBundle t b f) := by unfold State.modBundle; exact h.lit

theorem Keeps.modShf (h : Keeps s t) {f} : Keeps s (State.modShf t f) := by unfold State.modShf; exact h.lit

theorem Keeps.showGroup (h : Keeps s t) {e dir g} : Keeps s (Machine.showGroup e dir g t) := by
  unfold Machine.showGroup
  extract_lets k o spUsed rsv spByte map rmap
  exact h.wri.wri.wri.wri.wri.wri

theorem Keeps.showEye (h : Keeps s t) {e} : Keeps s (Machine.showEye e t) := by
  unfold Machine.showEye
  extract_lets st w
  exact .ite h.wri.wri h

theorem Keeps.resetDieSpace (h : Keeps s t) {d} : Keeps s (Machine.resetDieSpace d t) where
  pending := h.pending
  canonical c := by
    obtain ⟨hm, hr, hx⟩ := h.canonical c
    exact ⟨State.clearMem_wf hm .., hr.filter _, hx⟩
  planes c := (h.planes c).of_le (fun k hk => by
    change (tabGet {} (t.regions.filter fun p => p.1 / 32 != d) k).plane < 2
    rcases tabGet_filter_or {} t.regions (fun j => j / 32 != d) k with e | e
    · rw [e]; exact hk
    · rw [e]; exact Nat.two_pos) (fun _ hd => hd)

theorem Keeps.railsOff (h : Keeps s t) {d} : Keeps s (Machine.railsOff d t) := by
  unfold Machine.railsOff
  extract_lets u u1
  have hu : Keeps s u := h.loseSessions.resetDieSpace.modDie
  have hu1 : Keeps s u1 := hu.foldl (fun u2 _ hu2 => hu2.wri.wri)
  exact hu1.wri.wri.wri.wri

theorem Keeps.railsOn (h : Keeps s t) {d} : Keeps s (Machine.railsOn d t) := by
  unfold Machine.railsOn
  extract_lets u
  have hu : Keeps s u := h.modDie
  exact hu.wri.wri.wri

/-! The operations of Machine/Flip -/

theorem Keeps.setUnit (h : Keeps s t) {u1 p x} : Keeps s (Machine.setUnit u1 p x t) := by unfold Machine.setUnit; exact h.modCfg

theorem Keeps.setFrameSt (h : Keeps s t) {fid p v} : Keeps s (Machine.setFrameSt fid p v t) := by unfold Machine.setFrameSt; exact h.modCfg

theorem Keeps.showBadsel (h : Keeps s t) : Keeps s (Machine.showBadsel t) := by
  unfold Machine.showBadsel
  extract_lets act sh s1
  have hs1 : Keeps s s1 := h.wr.wr
  exact .ite hs1.recordOpen hs1

theorem Keeps.putFrame (h : Keeps s t) {fid p data bad} : Keeps s (Machine.putFrame fid p data bad t) := by unfold Machine.putFrame; exact h.modCfg

theorem Keeps.clearFrames (h : Keeps s t) {u1 p} : Keeps s (Machine.clearFrames u1 p t) := by
  unfold Machine.clearFrames
  extract_lets keep
  exact h.modCfg

theorem Keeps.putRclks (h : Keeps s t) {d r t1} : Keeps s (Machine.putRclks d r t1 t) := by
  unfold Machine.putRclks
  exact h.foldl (fun u _ hu => hu.putRclk)

theorem Keeps.putPinWord (h : Keeps s t) {d n v} : Keeps s (Machine.putPinWord d n v t) := by
  unfold Machine.putPinWord
  extract_lets o unit
  exact h.wri.wri.wri.wri.wri.wri

theorem Keeps.putPins (h : Keeps s t) {d t1} : Keeps s (Machine.putPins d t1 t) := by
  unfold Machine.putPins
  exact h.foldl (fun u _ hu => hu.putPinWord)

theorem Keeps.putBanks (h : Keeps s t) {d r c seals} : Keeps s (Machine.putBanks d r c seals t) := by
  unfold Machine.putBanks
  refine .foldl h (fun u a hu => ?_)
  extract_lets x sealed
  exact hu.modBank.wri

theorem Keeps.initRegion (h : Keeps s t) {d r} : Keeps s (Machine.initRegion d r t) := by unfold Machine.initRegion; exact h.modRegion

theorem Keeps.loadBank (h : Keeps s t) {d r b words} : Keeps s (Machine.loadBank d r b words t) := by
  unfold Machine.loadBank
  extract_lets lo u
  have hu : Keeps s u := h.clearMem.modBank
  exact hu.foldl (fun u1 _ hu1 => hu1.wrMem)

theorem Keeps.loadBanks (h : Keeps s t) {i d r} : Keeps s (Machine.loadBanks i d r t) := by
  unfold Machine.loadBanks
  refine .foldl h (fun u a hu => ?_)
  extract_lets o
  exact hu.wri.wri.loadBank

theorem Keeps.loadCore (h : Keeps s t) {i c} : Keeps s (Machine.loadCore i c t) := by
  unfold Machine.loadCore
  extract_lets u
  have hu : Keeps s u := h.resetCore
  split
  · exact hu.modCore
  · exact hu.modCore

theorem Keeps.loadProgs (h : Keeps s t) {i} : Keeps s (Machine.loadProgs i t) := by unfold Machine.loadProgs; exact h.foldl (fun u _ hu => hu.wrBytes)

theorem Keeps.putReserves (h : Keeps s t) {i} : Keeps s (Machine.putReserves i t) := by
  unfold Machine.putReserves
  refine .foldl h (fun u a hu => ?_)
  refine .foldl hu (fun u1 a1 hu1 => ?_)
  refine .foldl hu1 (fun u2 a2 hu2 => ?_)
  extract_lets ls tol old new u3
  have hu3 : Keeps s u3 := hu2.modEye
  exact .ite hu3 hu3.showGroup.showEye

theorem Keeps.putExpress (h : Keeps s t) {p i} : Keeps s (Machine.putExpress p i t) := by
  unfold Machine.putExpress
  refine .foldl ?_ fun _ _ hu => hu.modBundle
  split
  · exact h.congr rfl rfl rfl rfl rfl rfl rfl rfl
  · exact h.congr rfl rfl rfl rfl rfl rfl rfl rfl

theorem Keeps.stopRegion (h : Keeps s t) {d r} : Keeps s (Machine.stopRegion d r t) := by unfold Machine.stopRegion; exact h.wri

theorem Keeps.startNets (h : Keeps s t) {d r} : Keeps s (Machine.startNets d r t) := by
  unfold Machine.startNets
  exact h.foldl (fun u _ hu => hu.followMode)

theorem Keeps.flipExpress (h : Keeps s t) {nets} : Keeps s (Machine.flipExpress nets t) :=
  h.congrExpress (fun hr => hr.filter _) (fun hr => hr.filter _) (fun hr => hr.filter _) rfl rfl rfl rfl rfl

theorem Keeps.flipRegion (h : Keeps s t) {back inc keep ext d r} : Keeps s (Machine.flipRegion back inc keep ext d r t) := by
  unfold Machine.flipRegion
  extract_lets g nets new x words u old seals v
  have hu : Keeps s u := h.setRegion fun _ => (by change 1 - g.plane < 2; omega)
  have hv : Keeps s v := .ite hu (hu.foldl fun _ _ hw => hw.loadBank)
  exact .ite hv.putRclks.putBanks.wri.startNets hv.wri.stopRegion

theorem Keeps.flipCore (h : Keeps s t) {inc c} : Keeps s (Machine.flipCore inc c t) := by
  unfold Machine.flipCore
  extract_lets u
  have hu : Keeps s u := h.loadCore
  exact .ite hu.startReset hu

theorem Keeps.dieGear (h : Keeps s t) {d g} : Keeps s (Machine.dieGear d g t) := by unfold Machine.dieGear; exact h.wri.wri

theorem Keeps.dieTakes (h : Keeps s t) {i d} : Keeps s (Machine.dieTakes i d t) := by
  unfold Machine.dieTakes
  extract_lets e u u1 u2
  have hu : Keeps s u := h.modDie
  have hu1 : Keeps s u1 := hu.wri
  have hu2 : Keeps s u2 := .ite hu1.wri hu1
  exact .ite hu2.dieGear hu.wri.wri.wri

theorem Keeps.flipSel (h : Keeps s t) {back inc d} : Keeps s (Machine.flipSel back inc d t) := by
  unfold Machine.flipSel
  extract_lets u old v
  have hu : Keeps s u := {
    pending := h.pending
    canonical := h.canonical
    planes := fun c => (h.planes c).of_le (fun _ hk => hk) fun j hj => by
      by_cases e : j = d
      · rw [e]
        exact (tabGet_mod_same 0 t.cfg.sel d _).symm ▸ Nat.lt_succ_of_le (Nat.sub_le 1 _)
      · exact (tabGet_mod_ne 0 t.cfg.sel _ e).symm ▸ hj }
  have hv : Keeps s v := .ite hu hu.putPins.modDie
  exact .ite (hv.congr rfl rfl rfl rfl rfl rfl rfl rfl) hv

theorem Keeps.useDies (h : Keeps s t) : Keeps s (Machine.useDies t) := by
  unfold Machine.useDies
  refine .foldl h (fun u a hu => ?_)
  extract_lets st
  exact .ite hu.wri (.ite hu.railsOff.wri hu)

theorem Keeps.showImages (h : Keeps s t) : Keeps s (Machine.showImages t) := by unfold Machine.showImages; exact h.wr64.wr64

theorem Keeps.commitFlip (h : Keeps s t) {ext} : Keeps s (Machine.commitFlip ext t) := by
  unfold Machine.commitFlip
  extract_lets inc regs dies u u1 u2 u3
  have hu : Keeps s u := h.foldl (fun u4 _ hu4 => hu4.flipRegion)
  have hu1 : Keeps s u1 := hu.foldl (fun u4 _ hu4 => .ite hu4.flipCore hu4)
  have hu2 : Keeps s u2 := hu1.foldl (fun u4 a hu4 => hu4.flipSel.dieTakes.wri)
  have hu3 : Keeps s u3 := hu2.flipSel.wri.flipExpress
  exact hu3.modCfg.putReserves.showBadsel

theorem Keeps.rollbackFlip (h : Keeps s t) {ext} : Keeps s (Machine.rollbackFlip ext t) := by
  unfold Machine.rollbackFlip
  extract_lets out inc regs dies u u1 u2 u3
  have hu : Keeps s u := h.foldl (fun u4 _ hu4 => hu4.flipRegion)
  have hu1 : Keeps s u1 := hu.foldl (fun u4 _ hu4 => .ite hu4.flipCore hu4)
  have hu2 : Keeps s u2 := hu1.foldl (fun u4 a hu4 => hu4.flipSel.dieTakes.wri)
  have hu3 : Keeps s u3 := hu2.flipSel.wri.flipExpress
  exact hu3.modCfg.putReserves.showBadsel

theorem Keeps.attachFlip (h : Keeps s t) : Keeps s (Machine.attachFlip t) := by
  unfold Machine.attachFlip
  extract_lets inc regs u u1
  have hu : Keeps s u := by
    unfold u
    refine .foldl h (fun u2 a hu2 => ?_)
    extract_lets u3
    have hu3 : Keeps s u3 := hu2.flipRegion
    exact hu3.modRegion.flipCore
  have hu1 : Keeps s u1 := hu.foldl (fun u2 a hu2 => hu2.flipSel.dieTakes.wri)
  exact hu1.flipSel.modCfg.putReserves.showBadsel

theorem Keeps.shfDone (h : Keeps s t) {st} : Keeps s (Machine.shfDone st t) := by unfold Machine.shfDone; exact h.wr.wr

theorem Keeps.lapseStop (h : Keeps s t) : Keeps s (Machine.lapseStop t) := by
  unfold Machine.lapseStop
  refine .ite h ?_
  extract_lets _ u u1 _
  have hu : Keeps s u := h.lit
  have hu1 : Keeps s u1 := hu.wr
  exact .ite hu1.lit hu

theorem Keeps.shfEnd (h : Keeps s t) {outcome st die} : Keeps s (Machine.shfEnd outcome st die t) := by
  unfold Machine.shfEnd
  extract_lets u u1 u2 u3 u4 u5
  have hu : Keeps s u := h.wr.wr.wr.wr
  have hu1 : Keeps s u1 := hu.wr
  have hu2 : Keeps s u2 := hu1.foldl (fun u6 a hu6 => .ite hu6 hu6.railsOff.wri)
  have hu3 : Keeps s u3 := hu2.foldl (fun u6 _ hu6 => hu6.wri)
  have hu4 : Keeps s u4 := hu3.modShf
  have hu5 : Keeps s u5 := hu4.record
  exact .lapseStop (.ite hu5.toMode hu5)

theorem Keeps.dropShadow (h : Keeps s t) : Keeps s (Machine.dropShadow t) := by unfold Machine.dropShadow; exact h.modCfg.showImages

theorem Keeps.epochGiveUp (h : Keeps s t) : Keeps s (Machine.epochGiveUp t) := by unfold Machine.epochGiveUp; exact .ite h.wr h

theorem Keeps.shfAbandon (h : Keeps s t) {st die} : Keeps s (Machine.shfAbandon st die t) := by
  unfold Machine.shfAbandon
  exact h.epochGiveUp.dropShadow.shfEnd

theorem Keeps.shfReleaseNow (h : Keeps s t) {auto} : Keeps s (Machine.shfReleaseNow auto t) := by
  unfold Machine.shfReleaseNow
  extract_lets u u1
  have hu : Keeps s u := .useDies (.dropShadow (.ite h.wr h))
  have hu1 : Keeps s u1 := hu.foldl (fun u2 _ hu2 => hu2.modRegion)
  exact hu1.shfEnd

theorem Keeps.detachFinish (h : Keeps s t) : Keeps s (Machine.detachFinish t) := by
  unfold Machine.detachFinish
  extract_lets off u
  have hu : Keeps s u := by
    unfold u
    refine .foldl h (fun u1 a hu1 => ?_)
    extract_lets d u2 u3
    have hu2 : Keeps s u2 := by
      unfold u2
      refine .foldl hu1 (fun u4 a1 hu4 => ?_)
      extract_lets u5 u6 u7 core u8 u9 u10 u11
      have hu5 : Keeps s u5 := hu4.stopRegion.wri
      have hu6 : Keeps s u6 := hu5.modRegion
      have hu7 : Keeps s u7 := hu6.clearMem.clearMem
      have hu8 : Keeps s u8 := hu7.modRegion.resetCore
      have hu9 : Keeps s u9 := hu8.lit
      have hu10 : Keeps s u10 := hu9.foldl (fun u12 _ hu12 => hu12.clearFrames.setUnit)
      have hu11 : Keeps s u11 := hu6.foldl (fun u12 _ hu12 => hu12.wri.wri)
      exact .ite (hu10.foldl (fun u12 _ hu12 => hu12.wri.wri)) hu11.wri.wri.wri.wri
    have hu3 : Keeps s u3 := hu2.wri
    exact .ite hu3.railsOff.wri hu3
  exact hu.shfEnd.shfDone

theorem Keeps.attachFinish (h : Keeps s t) : Keeps s (Machine.attachFinish t) := by unfold Machine.attachFinish; exact h.showImages.shfEnd.shfDone

theorem Keeps.rollbackFinish (h : Keeps s t) : Keeps s (Machine.rollbackFinish t) := by
  unfold Machine.rollbackFinish
  extract_lets auto st die
  exact h.dropShadow.shfEnd.useDies

theorem Keeps.shfSafeIn (h : Keeps s t) : Keeps s (Machine.shfSafeIn t) := by
  unfold Machine.shfSafeIn
  extract_lets st u
  have hu : Keeps s u := .ite h.shfDone h
  exact .ite hu (.ite hu.shfAbandon (.ite (.shfAbandon (.ite hu.rollbackFlip hu)) (.ite (.rollbackFinish (.ite hu hu.rollbackFlip)) (.ite hu.detachFinish (.ite hu.attachFlip.attachFinish hu)))))

theorem Keeps.shfSafe (h : Keeps s t) : Keeps s (Machine.shfSafe t) := by unfold Machine.shfSafe; exact h.wr.shfSafeIn.wr

theorem Keeps.keepPart (h : Keeps s t) {s0 d} : Keeps s (Machine.keepPart s0 d t) := by
  unfold Machine.keepPart
  split
  · extract_lets fid u
    exact .ite h (h.foldl fun _ _ hu => .ite hu.setFrameSt hu)
  · exact h

theorem Keeps.loadSafe (h : Keeps s t) : Keeps s (Machine.loadSafe t) := by
  unfold Machine.loadSafe
  refine .ite ?_ h
  extract_lets u u1
  have hu : Keeps s u := h.foldl (fun u2 a hu2 => hu2.keepPart)
  have hu1 : Keeps s u1 := hu.wr.modCfg
  exact .ite hu1.wr.wr hu1

theorem Keeps.safePins (h : Keeps s t) : Keeps s (Machine.safePins t) := by unfold Machine.safePins; exact h.foldl (fun u _ hu => .ite hu.lit hu)

/-! The operations of Machine/Hooks -/

theorem Keeps.turnService (h : Keeps s t) : Keeps s (Machine.turnService t) := by
  unfold Machine.turnService
  refine .ite ?_ h
  extract_lets u _
  have hu : Keeps s u := h.wr
  exact hu.lit

theorem Keeps.weltOnSafe (h : Keeps s t) : Keeps s (Machine.weltOnSafe t) := by
  unfold Machine.weltOnSafe
  extract_lets lost u _ u1
  have hu : Keeps s u := h.addi.wr
  have hu1 : Keeps s u1 := hu.lit
  exact hu1.epochGiveUp.turnService

theorem Keeps.shfOnSafe (h : Keeps s t) : Keeps s (Machine.shfOnSafe t) := by unfold Machine.shfOnSafe; exact h.shfSafe.loadSafe.safePins

theorem Keeps.coresOnSafe (h : Keeps s t) {faulted} : Keeps s (Machine.coresOnSafe faulted t) := by
  unfold Machine.coresOnSafe
  exact h.foldl (fun u _ hu => hu.stopCore)

theorem Keeps.shfForRepair (h : Keeps s t) : Keeps s (Machine.shfForRepair t) := by
  unfold Machine.shfForRepair
  extract_lets st
  exact .ite (.shfAbandon (.ite h.shfDone h)) (.ite h.shfReleaseNow.wr h)

/-! The operations of Machine/Gears -/

theorem Keeps.relockRegion (h : Keeps s t) {d r} : Keeps s (Machine.relockRegion d r t) := by unfold Machine.relockRegion; exact h.wri.modRegion

theorem Keeps.relockDie (h : Keeps s t) {d} : Keeps s (Machine.relockDie d t) := by
  unfold Machine.relockDie
  exact h.foldl (fun u _ hu => hu.relockRegion)

theorem Keeps.loadTrim (h : Keeps s t) {d gear} : Keeps s (Machine.loadTrim d gear t) := by
  unfold Machine.loadTrim
  exact h.foldl (fun u _ hu => hu.relockRegion.wri)

theorem Keeps.startTrim (h : Keeps s t) {d gear} : Keeps s (Machine.startTrim d gear t) := by
  unfold Machine.startTrim
  exact .loadTrim (h.foldl (fun u _ hu => hu.wri.wri.wri))

theorem Keeps.stopTrim (h : Keeps s t) {d} : Keeps s (Machine.stopTrim d t) := by
  unfold Machine.stopTrim
  exact h.foldl (fun u _ hu => hu.relockRegion.wri)

theorem Keeps.showClamps (h : Keeps s t) {g} : Keeps s (Machine.showClamps g t) := by
  unfold Machine.showClamps
  extract_lets q below
  exact h.wri.wri.wri

theorem Keeps.setVolts (h : Keeps s t) {g v} : Keeps s (Machine.setVolts g v t) := by unfold Machine.setVolts; exact h.foldl (fun u _ hu => hu.wri)

theorem Keeps.gearBegin (h : Keeps s t) {g t1} : Keeps s (Machine.gearBegin g t1 t) := by
  unfold Machine.gearBegin
  extract_lets a b
  exact .ite h.wri.setVolts.modGear h.wri.modGear

theorem Keeps.gearStart (h : Keeps s t) {g t1} : Keeps s (Machine.gearStart g t1 t) := by
  unfold Machine.gearStart
  extract_lets a st wait
  have hwait : Keeps s wait := h.modGear
  exact .ite h.modGear (.ite hwait (.ite (.gearBegin (.shfAbandon (.ite h.shfDone h))) (.ite hwait h.gearBegin)))

theorem Keeps.gearNext (h : Keeps s t) {g} : Keeps s (Machine.gearNext g t) := by
  unfold Machine.gearNext
  split
  · exact .ite h.gearStart h
  · exact h

theorem Keeps.gearNextAll (h : Keeps s t) : Keeps s (Machine.gearNextAll t) := by
  unfold Machine.gearNextAll
  exact h.foldl (fun u a hu => hu.gearNext)

theorem Keeps.gearTake (h : Keeps s t) {g} : Keeps s (Machine.gearTake g t) := by
  unfold Machine.gearTake
  extract_lets u w barred t1 u1
  have hu : Keeps s u := h.showClamps
  have hu1 : Keeps s u1 := hu.wri.wri
  exact .ite hu.wri.wri (.ite hu1.gearStart hu1.modGear)

theorem Keeps.gearSwitch (h : Keeps s t) {g} : Keeps s (Machine.gearSwitch g t) := by
  unfold Machine.gearSwitch
  extract_lets b u u1
  have hu : Keeps s u := h.wri.foldl (fun u2 _ hu2 => hu2.wri)
  have hu1 : Keeps s u1 := hu.modGear
  exact .ite (hu1.foldl (fun u2 _ hu2 => hu2.stopTrim)) hu1

theorem Keeps.gearEnd (h : Keeps s t) {g} : Keeps s (Machine.gearEnd g t) := by unfold Machine.gearEnd; exact h.wri.modGear.gearNext

theorem Keeps.gearSettle (h : Keeps s t) {g} : Keeps s (Machine.gearSettle g t) := by unfold Machine.gearSettle; exact .ite h.gearEnd h

theorem Keeps.gearWrite (h : Keeps s t) {hlim host g v} : Keeps s (Machine.gearWrite hlim host g v t) := by
  unfold Machine.gearWrite
  extract_lets x u u1
  have hu : Keeps s u := .ite h.wri h.wri
  have hu1 : Keeps s u1 := .ite hu.wri hu
  exact hu1.gearTake

theorem Keeps.execGearTargetChange (h : Keeps s t) {hlim g value} : Goes s (Machine.execGearTargetChange hlim g value t) := by
  unfold Machine.execGearTargetChange
  exact h.gearWrite.next

theorem Keeps.execGearRailInRegulation (h : Keeps s t) {g} : Goes s (Machine.execGearRailInRegulation g t) := by
  unfold Machine.execGearRailInRegulation
  extract_lets x ds up
  have hup : Keeps s up := h.foldl (fun u _ hu => hu.modDie)
  exact .ite (.next (hup.modGear.foldl (fun u a hu => .ite hu.startTrim hu.loadTrim))) (.ite (.next (.gearSettle (.modGear (.ite hup (hup.foldl (fun u _ hu => hu.relockDie)))))) h.next)

theorem Keeps.execGearSwitchCount (h : Keeps s t) {g} : Goes s (Machine.execGearSwitchCount g t) := by
  unfold Machine.execGearSwitchCount
  extract_lets x
  exact .ite h.gearSwitch.gearEnd.next (.ite h.gearSwitch.modGear.setVolts.next h.next)

theorem Keeps.execGearRampTimeout (h : Keeps s t) {g} : Goes s (Machine.execGearRampTimeout g t) := by
  unfold Machine.execGearRampTimeout
  extract_lets x ds u u1
  have hu : Keeps s u := h.setVolts.wri
  have hu1 : Keeps s u1 := hu.foldl (fun u2 _ hu2 => hu2.push)
  exact .ite hu1.recordSt.gearEnd.next h.next

theorem Keeps.gearMainsLost (h : Keeps s t) : Keeps s (Machine.gearMainsLost t) := by
  unfold Machine.gearMainsLost
  refine .foldl h (fun u a hu => ?_)
  extract_lets x u1
  have hu1 : Keeps s u1 := hu.setVolts.wri
  exact .ite hu1.modGear hu

/-! The operations of Machine/Safe -/

theorem Keeps.closeGates (h : Keeps s t) {d mask} : Keeps s (Machine.closeGates d mask t) := by
  unfold Machine.closeGates
  exact h.foldl (fun u _ hu => .ite hu.wri hu)

theorem Keeps.addFaulted (h : Keeps s t) {fs} : Keeps s (Machine.addFaulted fs t) := by
  unfold Machine.addFaulted
  exact h.foldl (fun u a hu => hu.wri.closeGates)

theorem Keeps.clearFaulted (h : Keeps s t) : Keeps s (Machine.clearFaulted t) := by unfold Machine.clearFaulted; exact h.foldl (fun u _ hu => hu.wri)

theorem Keeps.lossBegin (h : Keeps s t) {st} : Keeps s (Machine.lossBegin st t) := by
  unfold Machine.lossBegin
  refine .ite ?_ h
  extract_lets u _
  have hu : Keeps s u := h.inci
  exact hu.lit

theorem Keeps.lossEnd (h : Keeps s t) : Keeps s (Machine.lossEnd t) := by
  unfold Machine.lossEnd
  split
  · extract_lets u _
    have hu : Keeps s u := h.addi
    exact hu.lit
  · exact h

theorem Keeps.lossCheck (h : Keeps s t) : Keeps s (Machine.lossCheck t) := by unfold Machine.lossCheck; exact .ite h.lossEnd h

theorem Keeps.clearFreeze (h : Keeps s t) : Keeps s (Machine.clearFreeze t) := by
  unfold Machine.clearFreeze
  exact h.foldl (fun u _ hu => hu.foldl (fun u1 _ hu1 => .ite hu1.wri.wri.modRegion hu1))

theorem Keeps.fault (h : Keeps s t) {st source fs ev} : Keeps s (State.fault t st source fs ev) := by
  unfold State.fault
  refine .ite h.recordSt ?_
  refine .ite ?_ ?_
  · extract_lets u u1 u2 _ u3 u4
    have hu : Keeps s u := h.addFaulted
    have hu1 : Keeps s u1 := hu.coresOnSafe
    have hu2 : Keeps s u2 := hu1.addi.wr
    have hu3 : Keeps s u3 := hu2.lit
    have hu4 : Keeps s u4 := .turnService (.ite hu3 hu3.endReq)
    exact hu4.record
  · extract_lets u _ u1 u2 u3 u4 u5 u6 u7 u8
    have hu : Keeps s u := .ite h.clearFreeze h
    have hu1 : Keeps s u1 := hu.lit
    have hu2 : Keeps s u2 := hu1.clearFaulted.addFaulted
    have hu3 : Keeps s u3 := hu2.wr.wr
    have hu4 : Keeps s u4 := .ite hu3 hu3.endReq
    have hu5 : Keeps s u5 := hu4.shfOnSafe.gearNextAll
    have hu6 : Keeps s u6 := hu5.setMode
    have hu7 : Keeps s u7 := hu6.coresOnSafe
    have hu8 : Keeps s u8 := hu7.weltOnSafe
    exact hu8.lossBegin.record.lossCheck

/-! The operations of Machine/Policy -/

theorem Keeps.modPol (h : Keeps s t) {g f} : Keeps s (State.modPol t g f) := by unfold State.modPol; exact h.lit

theorem Keeps.polSet (h : Keeps s t) {g new cause src} : Keeps s (Machine.polSet g new cause src t) := by
  unfold Machine.polSet
  extract_lets cur host held why u u1
  have hu : Keeps s u := h.wri.wri.wri.wri
  have hu1 : Keeps s u1 := hu.record
  exact .ite h hu1.gearWrite

theorem Keeps.polLower (h : Keeps s t) {g cause src} : Keeps s (Machine.polLower g cause src t) := by
  unfold Machine.polLower
  extract_lets cur new
  exact h.polSet.modPol

theorem Keeps.polLowerAll (h : Keeps s t) {cause} : Keeps s (Machine.polLowerAll cause t) := by
  unfold Machine.polLowerAll
  exact .ite (h.foldl (fun u _ hu => hu.polLower)) h

theorem Keeps.trimPolicy (h : Keeps s t) {d} : Keeps s (Machine.trimPolicy d t) := by
  unfold Machine.trimPolicy
  extract_lets g
  exact .ite h.polLower h

theorem Keeps.fanPolicy (h : Keeps s t) : Keeps s (Machine.fanPolicy t) := by
  unfold Machine.fanPolicy
  exact .ite (h.foldl (fun u _ hu => .ite hu.polSet.modPol hu)) h

/-! The operations of Machine/Fabric -/

theorem Keeps.execRegionRestore (h : Keeps s t) {d r} : Goes s (Machine.execRegionRestore d r t) := by
  unfold Machine.execRegionRestore
  exact .ite h.next (.ite h.modRegion.next h.wri.next)

theorem Keeps.execAsyncSrAssert (h : Keeps s t) {d r cell} : Goes s (Machine.execAsyncSrAssert d r cell t) := by
  unfold Machine.execAsyncSrAssert
  exact .next (h.modRegion (fun _ => (by dsimp only; split <;> rfl)))

theorem Keeps.execNetworkWake (h : Keeps s t) {d r k src} : Goes s (Machine.execNetworkWake d r k src t) := by
  unfold Machine.execNetworkWake
  exact h.wakeNet.next

theorem Keeps.execIdleLimitReached (h : Keeps s t) {d r k wake} : Goes s (Machine.execIdleLimitReached d r k wake t) := by
  unfold Machine.execIdleLimitReached
  refine .ite ?_ h.next
  extract_lets s1
  have hs1 : Keeps s s1 := h.modRegion
  exact .next (.ite hs1 hs1.setRun)

theorem Keeps.execWakeTimerExpiry (h : Keeps s t) {d r} : Goes s (Machine.execWakeTimerExpiry d r t) := by
  unfold Machine.execWakeTimerExpiry
  refine .ite ?_ h.next
  extract_lets per
  exact h.modRegion.wakeAll.next

theorem Keeps.execWakeTimerWrite (h : Keeps s t) {d r value} : Goes s (Machine.execWakeTimerWrite d r value t) := by
  unfold Machine.execWakeTimerWrite
  refine .ite h.next ?_
  extract_lets v s1
  have hs1 : Keeps s s1 := h.wri.wri
  exact hs1.modRegion.next

theorem Keeps.execRclkWrite (h : Keeps s t) {d r k value} : Goes s (Machine.execRclkWrite d r k value t) := by
  unfold Machine.execRclkWrite
  exact .ite h.next h.putRclk.followMode.next

theorem Keeps.execCaptureAtT (h : Keeps s t) {d r} : Goes s (Machine.execCaptureAtT d r t) := by
  unfold Machine.execCaptureAtT
  exact .ite h.modRegion.next h.next

theorem Keeps.capPendEnd (h : Keeps s t) : Keeps s (Machine.capPendEnd t) := by unfold Machine.capPendEnd; exact .ite h.wr.wr h

theorem Keeps.execCaptureComplete (h : Keeps s t) {d r} : Goes s (Machine.execCaptureComplete d r t) := by
  unfold Machine.execCaptureComplete
  exact .ite h.wri.wri.capPendEnd.next h.next

theorem Keeps.trimFault (h : Keeps s t) {d r} : Keeps s (Machine.trimFault d r t) := by unfold Machine.trimFault; exact h.wri.wri.fault

theorem Keeps.execTrimWindowEnd (h : Keeps s t) {d r dev} : Goes s (Machine.execTrimWindowEnd d r dev t) := by
  unfold Machine.execTrimWindowEnd
  extract_lets o code code' g inside nIn atLim nLim u u1 u2 u3 u4 u5
  have hu : Keeps s u := h.modRegion
  have hu1 : Keeps s u1 := hu.wri
  have hu2 : Keeps s u2 := hu1.wri
  have hu3 : Keeps s u3 := hu2.wri
  have hu4 : Keeps s u4 := .ite hu3.wri.record.trimPolicy hu3
  have hu5 : Keeps s u5 := .ite hu4.gearSettle hu4
  exact .ite h.next (.next (.ite hu5.trimFault hu5))

theorem Keeps.execTrimLockTimeout (h : Keeps s t) {d r} : Goes s (Machine.execTrimLockTimeout d r t) := by
  unfold Machine.execTrimLockTimeout
  exact .ite h.trimFault.next h.next

theorem Keeps.execTrimFreezeWrite (h : Keeps s t) {d r value} : Goes s (Machine.execTrimFreezeWrite d r value t) := by
  unfold Machine.execTrimFreezeWrite
  refine .ite h.next ?_
  extract_lets v o u
  have hu : Keeps s u := h.wri
  exact .ite hu.wri.next (.ite hu.wri.wri.next hu.wri.next)

theorem Keeps.execCoreRailOutOfBand (h : Keeps s t) {d} : Goes s (Machine.execCoreRailOutOfBand d t) := by
  unfold Machine.execCoreRailOutOfBand
  extract_lets st
  exact .ite h.modDie.push.fault.next h.next

/-! The operations of Machine/Dies -/

theorem Keeps.dieOff (h : Keeps s t) {d reason} : Keeps s (Machine.dieOff d reason t) := by
  unfold Machine.dieOff
  extract_lets u m
  have hu : Keeps s u := h.railsOff
  exact hu.wri.wri.wr.wri

theorem Keeps.probeStart (h : Keeps s t) : Keeps s (Machine.probeStart t) := by
  unfold Machine.probeStart
  exact h.foldl (fun u _ hu => hu.wri.wri.wri.modDie)

theorem Keeps.execDieProbeAnswer (h : Keeps s t) {d ident capw} : Goes s (Machine.execDieProbeAnswer d ident capw t) := by
  unfold Machine.execDieProbeAnswer
  exact .ite h.modDie.next h.next

theorem Keeps.judgeDie (h : Keeps s t) {d} : Keeps s (Machine.judgeDie d t) := by
  unfold Machine.judgeDie
  extract_lets x
  refine .ite ?_ h.wri.wri.recordSt
  split
  · exact h.wri.wri
  · exact h.wri.wri.recordSt

theorem Keeps.probeJudge (h : Keeps s t) : Keeps s (Machine.probeJudge t) := by
  unfold Machine.probeJudge
  extract_lets u u1 u2
  have hu : Keeps s u := h.foldl (fun u3 _ hu3 => hu3.judgeDie)
  have hu1 : Keeps s u1 := hu.wr.wr
  have hu2 : Keeps s u2 := hu1.wr
  exact hu2.foldl (fun u3 a hu3 => .ite hu3 hu3.railsOff)

theorem Keeps.execWipeConfirmTimeout (h : Keeps s t) {d} : Goes s (Machine.execWipeConfirmTimeout d t) := by
  unfold Machine.execWipeConfirmTimeout
  split
  · exact .ite h.next h.reachElapsed.modDie.dieOff.recordSt.next
  · exact h.next

/-! The operations of Machine/Banks -/

theorem Keeps.setMark (h : Keeps s t) {d r b word v} : Keeps s (Machine.setMark d r b word v t) := by unfold Machine.setMark; exact h.modBank

theorem Keeps.setErrAdr (h : Keeps s t) {d r b phys ue} : Keeps s (Machine.setErrAdr d r b phys ue t) := by
  unfold Machine.setErrAdr
  extract_lets o
  exact .ite h h.wri.wri.wri.wri

theorem Keeps.bankChecked (h : Keeps s t) {d r b word} : Keeps s (Machine.bankChecked d r b word t) := by
  unfold Machine.bankChecked
  extract_lets ph loc
  split
  · exact h
  · exact h.wri.setErrAdr.cobCorrected
  · exact h.setErrAdr.wri.cobUncorrectable.fault

theorem Keeps.remapWord (h : Keeps s t) {d r b x} : Keeps s (Machine.remapWord d r b x t).2 := by
  unfold Machine.remapWord
  extract_lets o used old e u
  have hu : Keeps s u := by
    unfold u
    clear_value old
    split
    · exact h.wri
    · exact h
  split
  · exact h
  · split
    · exact h
    · exact hu.wri.wri.wri.modBank.right

theorem Keeps.makeRemap (h : Keeps s t) {d r b x} : Keeps s (Machine.makeRemap d r b x t) := by
  unfold Machine.makeRemap
  extract_lets o loc
  split
  next st u e =>
    extract_lets v
    have hu := h.remapWord.snd e
    have hv : Keeps s v := .ite hu.remapMade.rsRecord (.remapRefused (.ite hu.bankChecked hu))
    exact .ite hv.wri.wri hv

theorem Keeps.portAccess (h : Keeps s t) {d r b port p old} : Keeps s (Machine.portAccess d r b port p old t) := by
  unfold Machine.portAccess
  extract_lets k w setDue
  split
  extract_lets mark stored raw v
  have hraw : Keeps s raw.2 := by
    unfold raw
    split
    · exact h.free
    · exact h
  exact .ite (.ite h.wrMem.setMark h.modBank.bankChecked) hraw.modBank.bankChecked

theorem Keeps.rmwFinish (h : Keeps s t) {d r b x} : Keeps s (Machine.rmwFinish d r b x t) := by unfold Machine.rmwFinish; exact .ite h h.wrMem.setMark

theorem Keeps.rmwRun (h : Keeps s t) {d r b} {l : List Rmw} : Keeps s (l.foldl (fun s x => Machine.rmwFinish d r b x s) t) :=
  h.foldl fun _ _ hu => hu.rmwFinish

theorem Keeps.countConf (h : Keeps s t) {c : Bool} {f o} : Keeps s (if c then t.inci f o else t) := .ite h.inci h

theorem Keeps.remapAtEdge (h : Keeps s t) {o b d r k : Nat} {req : Option (Nat × Nat)} {c : Bool} :
    Keeps s (match req with
      | some (x, n) =>
        if c then (Machine.makeRemap d r b x t).modBank k fun k => { k with remapReq := none }
        else (t.inci BNK_CONF_C_COUNT o).modBank k fun k => { k with remapReq := some (x, n + 1) }
      | none => t) := by
  split
  · exact .ite h.makeRemap.modBank h.inci.modBank
  · exact h

theorem Keeps.bankEdge (h : Keeps s t) {d r b i} : Keeps s (Machine.bankEdge d r b i t) := by
  unfold Machine.bankEdge
  extract_lets k oc count a b hasRmw forceW forceC remapW forceR fab serve s1 s2 s3 s4 s5 s6 weltServed cobServed s7 s8
  have h2 : Keeps s s2 := .ite h.modBank.portAccess h.modBank
  have h3 : Keeps s s3 := h2.rmwRun
  have h4 : Keeps s s4 := .ite h3.portAccess h3
  have h5 : Keeps s s5 := h4.rmwRun
  have h6 : Keeps s s6 := .countConf (.countConf h5)
  have h7 : Keeps s s7 := .countConf (.countConf h6)
  have h8 : Keeps s s8 := h7.remapAtEdge
  split
  · exact .modBank (.countConf (.countConf h.rmwRun.rmwRun))
  · exact h8.modBank

theorem Keeps.execBankPortAccess (h : Keeps s t) {d r b pa pb welt cob} : Goes s (Machine.execBankPortAccess d r b pa pb welt cob t) := by
  unfold Machine.execBankPortAccess
  exact .ite h.bankEdge.next h.next

theorem Keeps.execNarrowWriteMerge (h : Keeps s t) {d r b} : Goes s (Machine.execNarrowWriteMerge d r b t) := by
  unfold Machine.execNarrowWriteMerge
  exact .ite h.next h.bankEdge.next

theorem Keeps.execForcedCycle (h : Keeps s t) {d r b kind wr pa pb} : Goes s (Machine.execForcedCycle d r b kind wr pa pb t) := by
  unfold Machine.execForcedCycle
  extract_lets k due
  exact .ite h.bankEdge.next h.next

theorem Keeps.execBankRemapCmd (h : Keeps s t) {d r b addr} : Goes s (Machine.execBankRemapCmd d r b addr t) := by
  unfold Machine.execBankRemapCmd
  extract_lets o u free
  have hu : Keeps s u := h.wri.wri
  exact .ite h.next (.ite hu.modBank.next hu.wri.wri.remapRefused.next)

theorem Keeps.execBankRemapStep (h : Keeps s t) {d r b} : Goes s (Machine.execBankRemapStep d r b t) := by
  unfold Machine.execBankRemapStep
  split
  · exact h.makeRemap.modBank.next
  · exact h.next

theorem Keeps.bankFollow (h : Keeps s t) {d r b} : Keeps s (Machine.bankFollow d r b t) := by
  unfold Machine.bankFollow
  extract_lets o p u
  have hu : Keeps s u := h.modBank
  exact .ite (.ite h.wri h) (.ite hu.wri (.ite hu.wri hu))

theorem Keeps.awlMemFollow (h : Keeps s t) {d r y ret} : Keeps s (Machine.awlMemFollow d r y ret t) := by
  unfold Machine.awlMemFollow
  extract_lets p
  exact .ite (.ite h.wri h) (.ite h.wri h)

theorem Keeps.execAwlMemoryPowerWrite (h : Keeps s t) {d r value} : Goes s (Machine.execAwlMemoryPowerWrite d r value t) := by
  unfold Machine.execAwlMemoryPowerWrite
  refine .ite h.next ?_
  extract_lets v u
  have hu : Keeps s u := h.wri.wri
  exact hu.awlMemFollow.awlMemFollow.next

/-! The operations of Machine/Awl -/

theorem Keeps.wakeXy (h : Keeps s t) {c y} : Keeps s (Machine.wakeXy c y t) := by unfold Machine.wakeXy; exact .ite h.wri h

theorem Keeps.noteAddr (h : Keeps s t) {c a} : Keeps s (Machine.noteAddr c a t) := by unfold Machine.noteAddr; exact h.modArch

theorem Keeps.xyCorrected (h : Keeps s t) {c y a} : Keeps s (Machine.xyCorrected c y a t) := by
  unfold Machine.xyCorrected
  exact .ite h.cobCorrected h

theorem Keeps.xyStore (h : Keeps s t) {c y a size v} : Keeps s (Machine.xyStore c y a size v t) := by
  unfold Machine.xyStore
  extract_lets k x
  exact .ite h.commitStore h.modCore

theorem Keeps.doMac (h : Keeps s t) {c w} : Keeps s (Machine.doMac c w t).state := by
  unfold Machine.doMac
  extract_lets a xk yk xp yp xa ya xr yr held xv yv mop s1 s2 m b b1 b2 b3 b4 b5 u u1
  have hu : Keeps s u := .ite h.xyCorrected (.ite h.xyStore h)
  have hu1 : Keeps s u1 := .ite hu.xyCorrected (.ite hu.xyStore hu)
  split
  · exact h.wakeXy.stall
  · split
    · exact h.wakeXy.stall
    · split
      · split
        · split
          · exact h
          · split
            · exact h.noteAddr.raised
            · exact h.noteAddr.raised
            · exact hu1
        · split
          · exact h
          · split
            · exact h.noteAddr.raised
            · exact h.noteAddr.raised
            · exact hu1
      · split
        · split
          · exact h
          · split
            · exact h.noteAddr.raised
            · exact h.noteAddr.raised
            · exact hu1
        · split
          · exact h
          · split
            · exact h.noteAddr.raised
            · exact h.noteAddr.raised
            · exact hu1

theorem Keeps.doXy (h : Keeps s t) {c w y store} : Keeps s (Machine.doXy c w y store t).state := by
  unfold Machine.doXy
  extract_lets a size
  split
  · extract_lets ad1 b
    split
    · exact h.wakeXy.stall
    · split
      · exact h
      · split
        · exact h.noteAddr.raised
        · split
          · exact h.xyStore.done
          · exact h.xyCorrected.done

theorem Keeps.doLdw (h : Keeps s t) {c w} : Keeps s (Machine.doLdw c w t).state := by
  unfold Machine.doLdw
  extract_lets k a size t1
  split
  · extract_lets ad1 b l q l1
    split
    · exact h.noteAddr.raised
    · split
      · split
        · exact h
        · exact h.modCore.done
      · split
        · exact h
        · split
          · exact h
          · split
            · exact h
            · exact h.modCore.done

theorem Keeps.doStw (h : Keeps s t) {c w} : Keeps s (Machine.doStw c w t).state := by
  unfold Machine.doStw
  extract_lets k a size
  split
  · extract_lets ad1 b x1
    split
    · exact h.noteAddr.raised
    · split
      · split
        · exact h
        · exact h.modCore.done
      · split
        · exact h
        · split
          · exact h.sendStore.done
          · exact h.modCore.done

theorem Keeps.doMov (h : Keeps s t) {c w} : Keeps s (Machine.doMov c w t).state := by
  unfold Machine.doMov
  extract_lets k a r n r1 n1 b d v
  split
  · exact h
  · split
    · exact h
    · exact h
  · split
    · exact h
    · exact .done (.ite h.modCore h)
  · exact h

theorem Keeps.doLoop (h : Keeps s t) {c count le next} : Keeps s (Machine.doLoop c count le next t).state := by
  unfold Machine.doLoop
  extract_lets a w out
  split
  · exact h
  · split
    · exact h
    · exact h

theorem Keeps.doBranch (h : Keeps s t) {c w} : Keeps s (Machine.doBranch c w t).state := by
  unfold Machine.doBranch
  extract_lets a pc next target b t1
  split
  · exact h
  · exact h
  · exact h
  · exact h
  · split
    · split
      · exact h
      · exact h.endSession.done
    · exact h
  · exact h.doLoop
  · exact h.doLoop

theorem Keeps.doLong (h : Keeps s t) {c w w2} : Keeps s (Machine.doLong c w w2 t).state := by
  unfold Machine.doLong
  extract_lets a next opc sz r
  split
  · exact h
  · exact h
  · exact h
  · exact h
  · exact h.doLoop

theorem Keeps.doSys (h : Keeps s t) {c w} : Keeps s (Machine.doSys c w t).state := by
  unfold Machine.doSys
  extract_lets k a u _
  have hu : Keeps s u := h.wri
  split
  · exact h
  · exact h
  · split
    · exact h
    · exact h.modCore.done
  · split
    · exact h
    · exact .done (.ite h.setAwlState h)
  · split
    · exact h
    · exact h
  · exact h.modArch.raised
  · split
    · exact h
    · split
      · exact h
      · exact hu.lit.done
  · exact h
  · exact h

theorem Keeps.doWord (h : Keeps s t) {c w w2} : Keeps s (Machine.doWord c w w2 t).state := by
  unfold Machine.doWord
  extract_lets a
  split
  · exact h
  · exact h.doMac
  · split
    · exact h.doXy
    · exact h.doXy
    · exact h.doXy
    · exact h.doXy
    · exact h.doLdw
    · exact h.doStw
    · exact h.doMov
  · exact h
  · exact h.doBranch
  · exact h.doSys
  · exact h.doLong

theorem Keeps.finish (h : Keeps s t) {c w a0 a f target} : Keeps s (Machine.finish c w a0 a f target t) := by
  unfold Machine.finish
  extract_lets pc r next newPend _ u
  have hu : Keeps s u := h.modArch
  exact hu.sysFlush.modCore

theorem Keeps.afterward (h : Keeps s t) {c} : Keeps s (Machine.afterward c t) := by
  unfold Machine.afterward
  exact h.endWindow.showPc.stopCheck.takeEntry.takeWdog

theorem Keeps.awlStep (h : Keeps s t) {f} : Keeps s (Machine.awlStep f t) := by
  unfold Machine.awlStep
  extract_lets c k a w oldest
  refine .ite h (.ite h ?_)
  split
  · exact .ite h.awlFaultInfo.awlRaise h
  · refine .ite (.ite h.awlRaise h) (.ite h.awlRaise (.ite h ?_))
    have hd : Keeps s (Machine.doWord c w f.w2.toNat t).state := h.doWord
    split
    next u e => rw [e] at hd; exact hd
    next n u e =>
      rw [e] at hd
      change Keeps s u at hd
      exact .ite h (.ite hd.finish.awlExc.showPc hd.awlRaise)
    next b fl tg u e => rw [e] at hd; exact (show Keeps s u from hd).finish.afterward

theorem Keeps.awlRow (h : Keeps s t) {m f} : Keeps s (Machine.awlRow m f t) := by unfold Machine.awlRow; exact .ite h.awlStep h

/-! The operations of Machine/Welt -/

theorem Keeps.modWelt (h : Keeps s t) {f} : Keeps s (State.modWelt t f) := by unfold State.modWelt; exact h.lit

theorem Keeps.modFlow (h : Keeps s t) {f g} : Keeps s (State.modFlow t f g) := by unfold State.modFlow; exact h.modWelt

theorem Keeps.weltLog (h : Keeps s t) {kind op st src dst} : Keeps s (Machine.weltLog kind op st src dst t) := by
  unfold Machine.weltLog
  exact h.push2.inci

theorem Keeps.statAdd (h : Keeps s t) {e item n} : Keeps s (Machine.statAdd e item n t) := by unfold Machine.statAdd; exact .ite h.modWelt h

theorem Keeps.statUnits (h : Keeps s t) {q} : Keeps s (Machine.statUnits q t) := by
  unfold Machine.statUnits
  extract_lets bytes
  exact h.statAdd.statAdd

theorem Keeps.statLatency (h : Keeps s t) {e l} : Keeps s (Machine.statLatency e l t) := by
  unfold Machine.statLatency
  refine .ite ?_ h
  extract_lets u
  have hu : Keeps s u := h.statAdd
  exact hu.modWelt

theorem Keeps.statCopy (h : Keeps s t) : Keeps s (Machine.statCopy t) := by unfold Machine.statCopy; exact h.modWelt.wr

theorem Keeps.complete (h : Keeps s t) {e tag op st data} : Keeps s (Machine.complete e tag op st data t) := by
  unfold Machine.complete
  exact h.modWelt

theorem Keeps.freeTag (h : Keeps s t) {e tag} : Keeps s (Machine.freeTag e tag t) := by unfold Machine.freeTag; exact h.modWelt

theorem Keeps.respond (h : Keeps s t) {q op st data len} : Keeps s (Machine.respond q op st data len t) := by unfold Machine.respond; exact h.modWelt

theorem Keeps.refuse (h : Keeps s t) {q st} : Keeps s (Machine.refuse q st t) := by
  unfold Machine.refuse
  exact .ite h.weltLog (.respond (.ite h.weltLog h))

theorem Keeps.answer (h : Keeps s t) {q data} : Keeps s (Machine.answer q data t) := by unfold Machine.answer; exact .ite h h.respond

theorem Keeps.hold (h : Keeps s t) {q why} : Keeps s (Machine.hold q why t) := by unfold Machine.hold; exact h.modWelt

theorem Keeps.toInbox (h : Keeps s t) {e q} : Keeps s (Machine.toInbox e q t) := by unfold Machine.toInbox; exact h.modWelt

theorem Keeps.addLock (h : Keeps s t) {tgt line owner} : Keeps s (Machine.addLock tgt line owner t) := by
  unfold Machine.addLock
  exact .ite h h.modWelt

theorem Keeps.dropLock (h : Keeps s t) {tgt line} : Keeps s (Machine.dropLock tgt line t) := by unfold Machine.dropLock; exact h.modWelt

theorem Keeps.snpSetBit (h : Keeps s t) {line core} : Keeps s (Machine.snpSetBit line core t) := by
  unfold Machine.snpSetBit
  extract_lets isNew
  exact h.modWelt

theorem Keeps.snpClear (h : Keeps s t) {line m} : Keeps s (Machine.snpClear line m t) := by unfold Machine.snpClear; exact h.modWelt

theorem Keeps.reachLace (h : Keeps s t) {n} : Keeps s (Machine.reachLace n t) := by unfold Machine.reachLace; exact .ite h.pass.modWelt h

theorem Keeps.weltHalfWidth (h : Keeps s t) {e dies} : Keeps s (Machine.weltHalfWidth e dies t) := by
  unfold Machine.weltHalfWidth
  refine .ite h ?_
  extract_lets set crossed u
  have hu : Keeps s u := h.wr
  split
  · exact hu.wr
  · exact .ite hu.fault hu

theorem Keeps.epochStart (h : Keeps s t) {cause new frame} : Keeps s (Machine.epochStart cause new frame t) := by
  unfold Machine.epochStart
  exact h.modWelt.wr

theorem Keeps.takeEnables (h : Keeps s t) {old new} : Keeps s (Machine.takeEnables old new t) := by
  unfold Machine.takeEnables
  exact h.foldl (fun u _ hu => .ite hu hu.modFlow)

theorem Keeps.flowDone (h : Keeps s t) {st} : Keeps s (Machine.flowDone st t) := by unfold Machine.flowDone; exact h.wr.wr

theorem Keeps.flowCmd (h : Keeps s t) {op f} : Keeps s (Machine.flowCmd op f t) := by
  unfold Machine.flowCmd
  refine .ite h ?_
  extract_lets u t1
  have hu : Keeps s u := h.wr.wr.wr
  exact .ite hu.flowDone hu.modWelt

theorem Keeps.execFlowEnable (h : Keeps s t) {f} : Goes s (Machine.execFlowEnable f t) := by unfold Machine.execFlowEnable; exact h.flowCmd.next

theorem Keeps.execFlowDisable (h : Keeps s t) {f} : Goes s (Machine.execFlowDisable f t) := by unfold Machine.execFlowDisable; exact h.flowCmd.next

theorem Keeps.execFlowHandover (h : Keeps s t) {f} : Goes s (Machine.execFlowHandover f t) := by unfold Machine.execFlowHandover; exact h.flowCmd.next

theorem Keeps.flowDrained (h : Keeps s t) : Keeps s (Machine.flowDrained t) := by
  unfold Machine.flowDrained
  extract_lets f
  exact .ite h.flowDone h

theorem Keeps.execFlowCommandBoundary (h : Keeps s t) : Goes s (Machine.execFlowCommandBoundary t) := by
  unfold Machine.execFlowCommandBoundary
  refine .ite h.next ?_
  extract_lets f u
  have hu : Keeps s u := h.reachLace
  exact .ite hu.modFlow.flowDone.next (.ite hu.modFlow.flowDrained.next hu.modFlow.modFlow.flowDone.next)

theorem Keeps.epochBoundary (h : Keeps s t) : Keeps s (Machine.epochBoundary t) := by
  unfold Machine.epochBoundary
  extract_lets u old u1 u2 set
  have hu : Keeps s u := h.reachLace
  have hu1 : Keeps s u1 := hu.modWelt.wr
  have hu2 : Keeps s u2 := hu1.wr.takeEnables
  exact hu2.wr.wr

theorem Keeps.execEpochDrainTimeout (h : Keeps s t) : Goes s (Machine.execEpochDrainTimeout t) := by
  unfold Machine.execEpochDrainTimeout
  exact .ite h.wr.recordOpen.next h.next

theorem Keeps.execStatsWindowEnd (h : Keeps s t) : Goes s (Machine.execStatsWindowEnd t) := by
  unfold Machine.execStatsWindowEnd
  exact .ite h.next h.modWelt.statCopy.next

theorem Keeps.execStatsSnap (h : Keeps s t) : Goes s (Machine.execStatsSnap t) := by unfold Machine.execStatsSnap; exact h.statCopy.next

theorem Keeps.svcStart (h : Keeps s t) {to_ after} : Keeps s (Machine.svcStart to_ after t) := by unfold Machine.svcStart; exact h.modWelt.wr

theorem Keeps.execServiceSplitWrite (h : Keeps s t) {split} : Goes s (Machine.execServiceSplitWrite split t) := by
  unfold Machine.execServiceSplitWrite
  refine .ite h.wr.next ?_
  extract_lets u
  have hu : Keeps s u := h.wr
  exact .ite hu.svcStart.next (.ite hu.svcStart.next hu.next)

theorem Keeps.execWeltBufferUe (h : Keeps s t) {elem op src dst} : Goes s (Machine.execWeltBufferUe elem op src dst t) := by
  unfold Machine.execWeltBufferUe
  extract_lets u m regs
  have hu : Keeps s u := h.weltLog
  exact hu.fault.next

/-! The operations of Machine/Dram -/

theorem Keeps.modChan (h : Keeps s t) {c f} : Keeps s (State.modChan t c f) := by unfold State.modChan; exact h.lit

theorem Keeps.setDrc (h : Keeps s t) {c v} : Keeps s (Machine.setDrc c v t) := by
  unfold Machine.setDrc
  extract_lets put
  exact h.wri.wr.wr

theorem Keeps.drcLog (h : Keeps s t) {kind c dev st line} : Keeps s (Machine.drcLog kind c dev st line t) := by unfold Machine.drcLog; exact h.push2

theorem Keeps.lineCheck (h : Keeps s t) {c line} : Keeps s (Machine.lineCheck c line t).1 := by
  unfold Machine.lineCheck
  extract_lets m u u1
  have hu : Keeps s u := h.inci.drcLog
  have hu1 : Keeps s u1 := hu.cobUncorrectable
  split
  · exact h
  · split
    · exact h.inci.drcLog.cobCorrected.left
    · exact hu1.recordSt.left

theorem Keeps.setLineMark (h : Keeps s t) {c line v} : Keeps s (Machine.setLineMark c line v t) := by unfold Machine.setLineMark; exact h.modChan

theorem Keeps.touchRow (h : Keeps s t) {c p} : Keeps s (Machine.touchRow c p t) := by
  unfold Machine.touchRow
  split
  · exact h.modChan

theorem Keeps.drainLine (h : Keeps s t) {c e readPair} : Keeps s (Machine.drainLine c e readPair t) := by
  unfold Machine.drainLine
  refine .ite (.setLineMark (.wrMem (.ite h.lineCheck h))) ?_
  extract_lets m u u1
  have hu : Keeps s u := h.lineCheck
  have hu1 : Keeps s u1 := hu.wrMem
  exact .ite hu1.setLineMark.drcLog.recordSt hu1.setLineMark

theorem Keeps.drainPair (h : Keeps s t) {c p} : Keeps s (Machine.drainPair c p t) := by
  unfold Machine.drainPair
  extract_lets es whole u u1
  have hu : Keeps s u := h.foldl (fun u2 a hu2 => hu2.drainLine)
  have hu1 : Keeps s u1 := by
    unfold u1
    refine .foldl hu (fun u2 a hu2 => ?_)
    refine .ite hu2 ?_
    extract_lets m u3
    have hu3 : Keeps s u3 := hu2.lineCheck
    exact .ite hu3.setLineMark hu3
  exact .ite h hu1.modChan.touchRow

theorem Keeps.readLine (h : Keeps s t) {c line mask} : Keeps s (Machine.readLine c line mask t).2.2 := by
  unfold Machine.readLine
  split
  · exact h
  · split
    · split
      · exact h.inci.right
      · extract_lets u r
        have hu : Keeps s u := h.inci.drainPair
        have hr : Keeps s r.1 := hu.lineCheck
        exact hr.touchRow.right
    · extract_lets r
      have hr : Keeps s r.1 := h.lineCheck
      exact hr.touchRow.right

theorem Keeps.queueWrite (h : Keeps s t) {c line mask data} : Keeps s (Machine.queueWrite c line mask data t) := by
  unfold Machine.queueWrite
  exact h.modChan

theorem Keeps.dramServe (h : Keeps s t) {q} : Keeps s (Machine.dramServe q t).2 := by
  unfold Machine.dramServe
  extract_lets c st wm line off ls fresh
  split
  · exact h
  split
  · exact h
  split
  · exact h
  split
  · split
    next data good u e =>
      have hu : Keeps s u := by
        have hfold := List.foldlRecOn (motive := fun r : Nat × Bool × State => Keeps s r.2.2) (List.range (q.uidx + 1))
          (fun (r : Nat × Bool × State) u =>
            let m := rangeMask (if u = 0 then q.bfirst else 0) (if u = q.uidx then q.blast else 63)
            let x := Machine.readLine c (lineOfAddr q.addr + u) m r.2.2
            (r.1 + x.1 * 2 ^ (512 * u), r.2.1 && x.2.1, x.2.2)) (b := (0, true, t)) h fun r hr _ _ => (show Keeps s r.2.2 from hr).readLine
        exact (show Keeps s (data, good, u).2.2 from e ▸ hfold)
      exact hu
  split
  · split
    · exact h
    · split
      next data good u e =>
        have hr : Keeps s (Machine.readLine c line (rangeMask off (off + 7)) t).2.2 := h.readLine
        rw [e] at hr
        extract_lets old
        split
        · exact hr
        · split
          · split
            · exact h
            · exact (show Keeps s u from hr).queueWrite
          · exact hr
  · split
    · exact h
    · exact h.foldl fun _ _ hu => hu.queueWrite

theorem Keeps.execDramPageIdleExpiry (h : Keeps s t) {c b} : Goes s (Machine.execDramPageIdleExpiry c b t) := by
  unfold Machine.execDramPageIdleExpiry
  exact h.modChan.next

theorem Keeps.execDramRefresh (h : Keeps s t) {c b postpone} : Goes s (Machine.execDramRefresh c b postpone t) := by
  unfold Machine.execDramRefresh
  exact .ite h.next (.ite h.modChan.next h.modChan.next)

theorem Keeps.execDramTemperatureRead (h : Keeps s t) {c t1} : Goes s (Machine.execDramTemperatureRead c t1 t) := by
  unfold Machine.execDramTemperatureRead
  extract_lets o u
  have hu : Keeps s u := .ite h.wri (.ite h.wri h)
  exact .ite hu.wri.drcLog.wri.record.next (.ite hu.wri.next hu.next)

theorem Keeps.trainEyes (h : Keeps s t) {c lanes runs} : Keeps s (Machine.trainEyes c lanes runs t).1 := by
  unfold Machine.trainEyes
  refine .foldlFst h (fun r a h1 => ?_)
  extract_lets e
  exact h1.modChan.left

theorem Keeps.channelLost (h : Keeps s t) {c} : Keeps s (Machine.channelLost c t) := by
  unfold Machine.channelLost
  extract_lets u v w
  have hu : Keeps s u := h.congrMem (fun hm => Memory.wf_filter hm _) rfl rfl rfl rfl rfl
  have hw : Keeps s w := hu.modChan.foldl fun _ _ hx => hx.wri.wri.wri
  exact hw.wri.wri

theorem Keeps.drcTrain (h : Keeps s t) {runs c} : Keeps s (Machine.drcTrain runs c t) := by
  unfold Machine.drcTrain
  extract_lets u u1
  have hu : Keeps s u := h.channelLost
  have hu1 : Keeps s u1 := hu.wr
  split
  next e =>
    have hu2 := hu1.trainEyes.fst e
    exact .ite hu2.setDrc.wri hu2.setDrc.wri.recordSt

theorem Keeps.retrainLane (h : Keeps s t) {c lane runs} : Keeps s (Machine.retrainLane c lane runs t).1 := by
  unfold Machine.retrainLane
  split
  next e =>
    have hu := h.trainEyes.fst e
    split
    · exact hu.drcLog.left
    · extract_lets u1 u2
      have hu1 : Keeps s u1 := hu.setDrc.wri
      have hu2 : Keeps s u2 := hu1.drcLog
      exact hu2.fault.left

theorem Keeps.drcTrack (h : Keeps s t) {c edges runs} : Keeps s (Machine.drcTrack c edges runs t) := by
  unfold Machine.drcTrack
  extract_lets found u narrow
  have hu : Keeps s u := by
    unfold u
    refine .foldl h (fun u1 a hu1 => ?_)
    split
    · exact hu1.modChan
    · exact hu1
  exact hu.foldl (fun u1 a hu1 => .ite (.ite hu1.retrainLane hu1.drcLog) hu1)

theorem Keeps.chcmdDone (h : Keeps s t) {c st} : Keeps s (Machine.chcmdDone c st t) := by
  unfold Machine.chcmdDone
  extract_lets u
  have hu : Keeps s u := h.wri.wri
  exact hu.lit

theorem Keeps.remapPair (h : Keeps s t) {c line bad} : Keeps s (Machine.remapPair c line bad t).1 := by
  unfold Machine.remapPair
  extract_lets o p old slot next u v
  have hv : Keeps s v := h.drainPair.foldl fun _ _ hx => hx.lineCheck.setLineMark
  clear_value slot
  split
  · exact h
  · split
    · exact h
    · split
      · exact h
      · exact hv.wri.wri.wri.wri

theorem Keeps.drcRemap (h : Keeps s t) {c line bad} : Keeps s (Machine.drcRemap c line bad t).1 := by
  unfold Machine.drcRemap
  extract_lets x loc
  have hx : Keeps s x.1 := h.remapPair
  split
  · exact hx.drcLog.remapMade.rsRecord.left
  · exact hx.drcLog.remapRefused.left

theorem Keeps.execDrcRemap (h : Keeps s t) {c bad} : Goes s (Machine.execDrcRemap c bad t) := by
  unfold Machine.execDrcRemap
  refine .ite h.next ?_
  extract_lets u line r
  have hu : Keeps s u := h.wri
  have hr : Keeps s r.1 := hu.drcRemap
  exact .ite hu.chcmdDone.next hr.chcmdDone.next

/-! The operations of Machine/Queues -/

theorem Keeps.modPcie (h : Keeps s t) {f} : Keeps s (State.modPcie t f) := by unfold State.modPcie; exact h.lit

theorem Keeps.sendMsix (h : Keeps s t) {v} : Keeps s (Machine.sendMsix v t).2 := by
  unfold Machine.sendMsix
  extract_lets p
  split
  · exact h
  · split
    · exact h.modPcie.right
    · exact h.modPcie.right

theorem Keeps.deliverMsg (h : Keeps s t) {q} : Keeps s (Machine.deliverMsg q t).2 := by
  unfold Machine.deliverMsg
  extract_lets d r x
  have hx : Keeps s x.2 := h.coreMsg
  split
  · exact h
  · split
    · exact h
    · split
      · exact h
      · split
        · exact hx
        · exact h.wakeAll.toInbox.right

theorem Keeps.setCtxWord (h : Keeps s t) {q k v} : Keeps s (Machine.setCtxWord q k v t) := by unfold Machine.setCtxWord; exact h.wrMem

theorem Keeps.setCtx (h : Keeps s t) {q k lo w v} : Keeps s (Machine.setCtx q k lo w v t) := by unfold Machine.setCtx; exact h.setCtxWord

theorem Keeps.setPmask (h : Keeps s t) {q v} : Keeps s (Machine.setPmask q v t) := by unfold Machine.setPmask; exact h.lit

theorem Keeps.setCmask (h : Keeps s t) {q v} : Keeps s (Machine.setCmask q v t) := by unfold Machine.setCmask; exact h.lit

theorem Keeps.notify (h : Keeps s t) {q} : Keeps s (Machine.notify q t) := by
  unfold Machine.notify
  extract_lets t1 x x1 r
  have hx : Keeps s x.2 := h.deliverMsg
  have hx1 : Keeps s x1.2 := h.deliverMsg
  have hr : Keeps s r.2 := by
    unfold r
    split
    · exact h.sendMsix
    · split
      · split
        · exact hx
        · exact h
      · split
        · exact hx1
        · exact h
  exact .ite hr hr.push

theorem Keeps.evalNotify (h : Keeps s t) {q} : Keeps s (Machine.evalNotify q t) := by unfold Machine.evalNotify; exact .ite h.setCtx.notify h

theorem Keeps.advanceTail (h : Keeps s t) {q} : Keeps s (Machine.advanceTail q t) := by
  unfold Machine.advanceTail
  extract_lets n
  exact h.setCtx.setPmask

theorem Keeps.advanceHead (h : Keeps s t) {q} : Keeps s (Machine.advanceHead q t) := by
  unfold Machine.advanceHead
  extract_lets n
  exact h.setCtx.setCmask

theorem Keeps.qDoorbell (h : Keeps s t) {q t1} : Keeps s (Machine.qDoorbell q t1 t).2 := by
  unfold Machine.qDoorbell
  split
  · exact h
  · split
    · exact h
    · exact h.setCtxWord.right

theorem Keeps.qReserve (h : Keeps s t) {q k} : Keeps s (Machine.qReserve q k t).2 := by
  unfold Machine.qReserve
  split
  · exact h
  · split
    · exact h
    · split
      · exact h
      · split
        · exact h
        · exact h.setCtx.right

theorem Keeps.qCommit (h : Keeps s t) {q i k} : Keeps s (Machine.qCommit q i k t).2 := by
  unfold Machine.qCommit
  extract_lets o
  split
  · exact h
  · split
    · exact h
    · exact h.setPmask.advanceTail.right

theorem Keeps.qReleaseTo (h : Keeps s t) {q h1} : Keeps s (Machine.qReleaseTo q h1 t).2 := by
  unfold Machine.qReleaseTo
  split
  · exact h
  · split
    · exact h
    · exact h.setCtxWord.right

theorem Keeps.qClaimK (h : Keeps s t) {q k} : Keeps s (Machine.qClaimK q k t).2 := by
  unfold Machine.qClaimK
  split
  · exact h
  · split
    · exact h
    · split
      · exact h
      · split
        · exact h
        · exact h.setCtx.right

theorem Keeps.qReleaseK (h : Keeps s t) {q i k} : Keeps s (Machine.qReleaseK q i k t).2 := by
  unfold Machine.qReleaseK
  extract_lets o
  split
  · exact h
  · split
    · exact h
    · exact h.setCmask.advanceHead.right

theorem Keeps.qOp (h : Keeps s t) {q k add v} : Keeps s (Machine.qOp q k add v t).2 := by
  unfold Machine.qOp
  extract_lets lo hi
  split
  · split
    · split
      · exact h.qReserve
      · exact h
    · split
      · exact h.qCommit
      · exact h.qDoorbell
  · split
    · split
      · exact h.qClaimK
      · exact h
    · split
      · exact h.qReleaseK
      · exact h.qReleaseTo

theorem Keeps.qFinish (h : Keeps s t) {q k} : Keeps s (Machine.qFinish q k t) := by
  unfold Machine.qFinish
  extract_lets u
  have hu : Keeps s u := .ite h.setCtx h
  exact hu.evalNotify

theorem Keeps.qRefused (h : Keeps s t) {q} : Keeps s (Machine.qRefused q t) := by unfold Machine.qRefused; exact h.setCtx.inci

theorem Keeps.ctxUe (h : Keeps s t) {a} : Keeps s (Machine.ctxUe a t) := by
  unfold Machine.ctxUe
  extract_lets q u
  have hu : Keeps s u := h.setCtx.setCtx.cobUncorrectable
  exact hu.push.recordSt

theorem Keeps.ctxReads (h : Keeps s t) {ws} : Keeps s (Machine.ctxReads ws t).2 := by
  unfold Machine.ctxReads
  refine .foldlSnd h (fun r a h1 => ?_)
  split
  · exact h1
  · exact h1.cobCorrected.right
  · exact h1.ctxUe.right

theorem Keeps.queServe (h : Keeps s t) {r} : Keeps s (Machine.queServe r t).2 := by
  unfold Machine.queServe
  have hu : Keeps s (t.inci QUE_OPS_COUNT 0) := h.inci
  generalize t.inci QUE_OPS_COUNT 0 = u at hu ⊢
  have hreads : ∀ l, Keeps s (Machine.ctxReads l u).2 := fun _ => hu.ctxReads
  extract_lets _ unit lo hi add okForm a q k v
  split
  · have hx := hreads ((List.range (hi + 1 - lo)).map fun i => (lo + i) * 8)
    generalize Machine.ctxReads _ u = x at hx ⊢
    obtain ⟨ok, w⟩ := x
    cases ok with
    | true => exact hx
    | false => exact hx
  · split
    · exact hu
    · have hx := hreads ((List.range 4).map (ctxAddr q))
      generalize Machine.ctxReads _ u = x at hx ⊢
      obtain ⟨ok, w⟩ := x
      cases ok with
      | false => exact hx
      | true =>
        have hy : Keeps s (Machine.qOp q k add v w).2 := Keeps.qOp hx
        dsimp only
        split
        · exact hy.qFinish.right
        · exact hy.qRefused.right

theorem Keeps.qcmdDone (h : Keeps s t) {st} : Keeps s (Machine.qcmdDone st t) := by unfold Machine.qcmdDone; exact h.wr.wr

theorem Keeps.qcmd (h : Keeps s t) {op f} (hf : ∀ q u, Keeps s u → Keeps s (f q u).2) : Goes s (Machine.qcmd op f t) := by
  unfold Machine.qcmd
  exact .ite h.next (hf _ _ h.wr).qcmdDone.next

theorem Keeps.qEnable (h : Keeps s t) {q} : Keeps s (Machine.qEnable q t).2 := by
  unfold Machine.qEnable
  extract_lets base moved equal w0 w1
  split
  · exact h
  · split
    · exact h
    · split
      · exact h
      · exact h.setCtxWord.setCtxWord.evalNotify.right

theorem Keeps.execQueEnable (h : Keeps s t) : Goes s (Machine.execQueEnable t) := by
  unfold Machine.execQueEnable
  exact h.qcmd (fun q u hu => hu.qEnable)

theorem Keeps.execQueDisable (h : Keeps s t) : Goes s (Machine.execQueDisable t) := by
  unfold Machine.execQueDisable
  exact h.qcmd (fun _ u hu => hu.setCtx.right)

theorem Keeps.execQueResetIndices (h : Keeps s t) : Goes s (Machine.execQueResetIndices t) := by
  unfold Machine.execQueResetIndices
  refine Keeps.qcmd h (fun q u hu => ?_)
  split
  · exact hu
  · exact hu.lit.setCtxWord.setCtxWord.setCtx.setCtx.setCmask.setPmask.right

theorem Keeps.execQueRearm (h : Keeps s t) : Goes s (Machine.execQueRearm t) := by
  unfold Machine.execQueRearm
  refine Keeps.qcmd h (fun q u hu => ?_)
  split
  · exact hu.setCtx.evalNotify.right
  · exact hu

theorem Keeps.execQueReadBack (h : Keeps s t) : Goes s (Machine.execQueReadBack t) := by
  unfold Machine.execQueReadBack
  refine Keeps.qcmd h (fun q u hu => ?_)
  extract_lets u1 u2
  have hu1 : Keeps s u1 := hu.wr.wr.wr.wr
  have hu2 : Keeps s u2 := hu1.wr.wr.wr
  exact hu2.wr.wr.right

theorem Keeps.execQueContextUe (h : Keeps s t) {q k} : Goes s (Machine.execQueContextUe q k t) := by
  unfold Machine.execQueContextUe
  exact h.lit.ctxUe.next

/-- The memory's own operations keep what every command keeps. -/
structure WordMem.Sound (m : WordMem) : Prop where
  check : ∀ {s t : State} (a : Nat), Keeps s t → Keeps s (m.check a t)
  setMark : ∀ {s t : State} (a v : Nat), Keeps s t → Keeps s (m.setMark a v t)

theorem WordMem.Sound.reads {m : WordMem} (hm : m.Sound) (h : Keeps s t) {ws} : Keeps s (m.reads ws t).2 :=
  Keeps.foldlSnd h fun _ a hr => hm.check a hr

theorem WordMem.Sound.write {m : WordMem} (hm : m.Sound) {r : Bool × State} (h : Keeps s r.2) {w} : Keeps s (m.write r w).2 := by
  unfold WordMem.write
  split
  split
  · exact .right (hm.setMark _ _ h.wrMem)
  · extract_lets bad u
    have hu : Keeps s u := hm.check _ h
    split
    · exact hu
    · exact .right (hm.setMark _ _ hu.wrMem)

theorem WordMem.Sound.serve {m : WordMem} (hm : m.Sound) (h : Keeps s t) {q} : Keeps s (m.serve q t).2 := by
  unfold WordMem.serve
  extract_lets word res r old w
  split
  · exact .right (hm.reads h)
  split
  · exact .right (hm.reads h.addLock)
  split
  · exact .right h.dropLock
  split
  · have hr : Keeps s r.2 := hm.write (r := (true, t)) h
    exact .right hr.dropLock
  split
  · have hw : Keeps s w.2 := hm.reads h
    split
    · split
      · exact .right (hm.write hw)
      · exact hw
    · exact hw
  · exact .right (h.foldlSnd (p := (true, t)) fun _ _ hr => hm.write hr)

theorem bankMem_sound (d r : Nat) : (bankMem d r).Sound := ⟨fun _ h => h.bankChecked, fun _ _ h => h.setMark⟩

/-! The operations of Machine/Access -/

theorem Keeps.bankServe (h : Keeps s t) {q} : Keeps s (Machine.bankServe q t).2 := by
  unfold Machine.bankServe
  extract_lets d r b o pwr u
  have hu : Keeps s u := h.wakeAll
  split
  · exact hu
  split
  · exact hu
  split
  · exact .right (.ite hu.wri hu)
  split
  · exact hu.wri.right
  split
  · exact hu
  · exact (bankMem_sound d r).serve hu

theorem awlMem_sound (c : Nat) : (awlMem c).Sound where
  check a h := by
    unfold awlMem
    dsimp only
    split
    · exact h
    · exact h.cobCorrected
    · exact h.cobUncorrectable.recordSt
  setMark _ _ h := h.lit

theorem Keeps.awlServe (h : Keeps s t) {q} : Keeps s (Machine.awlServe q t).2 := by
  unfold Machine.awlServe
  extract_lets c y
  split
  · exact h
  split
  · exact h
  split
  · exact h.wakeXy.right
  split
  · exact h
  · exact (awlMem_sound c).serve h

theorem Keeps.setUnitState (h : Keeps s t) {u1 v} : Keeps s (Machine.setUnitState u1 v t) := by unfold Machine.setUnitState; exact .ite h.wr h.wri

theorem Keeps.sendSinv (h : Keeps s t) {ls m} : Keeps s (Machine.sendSinv ls m t) := by
  unfold Machine.sendSinv
  extract_lets l
  exact h.modWelt

theorem lastMem_sound : lastMem.Sound where
  check a h := by
    unfold lastMem
    dsimp only
    split
    · exact h.ctxReads
    · split
      · exact h
      · exact h.cobCorrected
      · exact h.cobUncorrectable.recordSt
  setMark _ _ h := h.lit

theorem Keeps.lastServe (h : Keeps s t) {q} : Keeps s (Machine.lastServe q t).2 := by
  unfold Machine.lastServe
  extract_lets c ls m u
  split
  · exact h
  split
  · exact h
  split
  · exact h
  split
  · exact h.setUnitState.right
  split
  · exact h.queServe
  split
  · exact h
  · split
    · exact h.sendSinv.right
    · have hu : Keeps s u := .ite (h.foldl fun _ _ hv => hv.snpSetBit) h
      exact lastMem_sound.serve hu

theorem Keeps.bundleSendAll (h : Keeps s t) {b} : Keeps s (Machine.bundleSendAll b t) := by unfold Machine.bundleSendAll; exact .ite h.modBundle h

theorem Keeps.bundleSend (h : Keeps s t) {b fs} : Keeps s (Machine.bundleSend b fs t) := by unfold Machine.bundleSend; exact h.modBundle.bundleSendAll

theorem Keeps.bridgeServe (h : Keeps s t) {q} : Keeps s (Machine.bridgeServe q t).2 := by
  unfold Machine.bridgeServe
  extract_lets w o b writes a
  split
  · exact h
  · split
    · exact h
    · split
      · exact h
      · exact h.bundleSend.right

theorem Keeps.serveAt (h : Keeps s t) {q} : Keeps s (Machine.serveAt q t).2 := by
  unfold Machine.serveAt
  extract_lets d r x
  have hx : Keeps s x.2 := h.coreMsg
  split
  · split
    · exact h
    · split
      · exact h
      · split
        · split
          · exact h
          · exact h.bankServe
        · split
          · exact h
          · split
            · exact hx
            · exact h.awlServe
        · split
          · exact h
          · split
            · exact h.wakeAll.toInbox.right
            · exact h.wakeAll.right
  · split
    · exact h
    · split
      · exact h
      · split
        · exact h.dramServe
        · split
          · exact h.lastServe
          · split
            · exact h.bridgeServe
            · split
              · split
                · exact h
                · exact h
              · exact h

theorem Keeps.serveOrHold (h : Keeps s t) {q} : Keeps s (Machine.serveOrHold q t) := by
  unfold Machine.serveOrHold
  refine .ite h.hold ?_
  split
  next e =>
    have hu := h.serveAt.snd e
    exact hu.answer
  next e =>
    have hu := h.serveAt.snd e
    exact hu.refuse
  next e =>
    have hu := h.serveAt.snd e
    exact hu.hold

theorem Keeps.bridgeFinish (h : Keeps s t) {e tag op st data} : Keeps s (Machine.bridgeFinish e tag op st data t) := by
  unfold Machine.bridgeFinish
  split
  · exact h.complete
  · split
    · exact h
    · extract_lets r u
      have hu : Keeps s u := h.modBundle
      exact .ite hu.bundleSend hu

theorem Keeps.pcieFinish (h : Keeps s t) {tag op st data} : Keeps s (Machine.pcieFinish tag op st data t) := by
  unfold Machine.pcieFinish
  split
  · extract_lets u
    have hu : Keeps s u := h.modPcie
    exact .ite hu.push hu
  · split
    · exact h
    · extract_lets bad x1 u
      have hu : Keeps s u := .ite h.push h
      exact .ite hu.modPcie hu.modPcie

theorem Keeps.mgmtFinish (h : Keeps s t) {tag op st data} : Keeps s (Machine.mgmtFinish tag op st data t) := by
  unfold Machine.mgmtFinish
  refine .ite ?_ ?_
  · split
    · exact h
    · extract_lets u _
      have hu : Keeps s u := h.modWelt
      exact hu.lit
  · split
    · exact h
    · extract_lets m1 rd u
      have hu : Keeps s u := h.modWelt
      exact .ite h.modWelt hu.lit

theorem Keeps.finishAt (h : Keeps s t) {e tag op st data} : Keeps s (Machine.finishAt e tag op st data t) := by
  unfold Machine.finishAt
  exact .ite h.bridgeFinish (.ite h.pcieFinish (.ite h.mgmtFinish (.ite h.coreArrive.coreSettle h.complete)))

theorem Keeps.refuseInject (h : Keeps s t) {q st} : Keeps s (Machine.refuseInject q st t) := by
  unfold Machine.refuseInject
  exact h.statUnits.weltLog.finishAt

theorem Keeps.tryInject (h : Keeps s t) {q} (e : Machine.tryInject q t = some u) : Keeps s u := by
  unfold Machine.tryInject at e
  split at e
  · cases e
  split at e
  · cases e
    exact h.refuseInject
  · dsimp only at e
    split at e
    · split at e
      · cases e
      · cases e
        exact h.modFlow
    split at e
    · cases e
    split at e
    · cases e
      exact h.statUnits.serveOrHold
    split at e
    · cases e
    · cases e
      exact h.modWelt.statUnits.serveOrHold

theorem Keeps.tryInjectD (h : Keeps s t) (hu : Keeps s u) {q} : Keeps s ((Machine.tryInject q t).getD u) := by
  cases e : Machine.tryInject q t with
  | none => exact hu
  | some v => exact h.tryInject e

theorem Keeps.present (h : Keeps s t) {q} : Keeps s (Machine.present q t) := .ite h.modWelt (h.tryInjectD h.modWelt)

theorem Keeps.snoopDone (h : Keeps s t) {q} : Keeps s (Machine.snoopDone q t) := by
  unfold Machine.snoopDone
  extract_lets s1
  have hs1 : Keeps s s1 := h.foldl (fun u a hu => hu.snpClear)
  exact .ite hs1 hs1.inci

theorem Keeps.retryOne (h : Keeps s t) {h1} : Keeps s (Machine.retryOne t h1) := by
  unfold Machine.retryOne
  split
  · exact h.modWelt
  · exact h.modWelt
  · exact .ite h.snoopDone.serveOrHold h.modWelt
  · exact h.serveOrHold

theorem Keeps.retryHeld (h : Keeps s t) : Keeps s (Machine.retryHeld t) := by
  unfold Machine.retryHeld
  exact h.modWelt.foldl (fun u _ hu => hu.retryOne)

theorem Keeps.retryWait (h : Keeps s t) : Keeps s (Machine.retryWait t) := by
  unfold Machine.retryWait
  exact h.modWelt.foldl (fun u _ hu => hu.present)

theorem Keeps.retryCores (h : Keeps s t) : Keeps s (Machine.retryCores t) := by
  unfold Machine.retryCores
  exact h.foldl (fun u _ hu => .ite hu (hu.modCore.foldl (fun u1 _ hu1 => hu1.present)))

theorem Keeps.retryPcie (h : Keeps s t) : Keeps s (Machine.retryPcie t) := by
  unfold Machine.retryPcie
  extract_lets l
  exact h.modPcie.foldl (fun u _ hu => hu.foldl (fun u1 _ hu1 => hu1.present))

theorem Keeps.placeStream (h : Keeps s t) {x} : Keeps s (Machine.placeStream t x) :=
  .ite h.lit (.ite h.inci (.ite h.lit (h.foldl fun _ _ hu => hu.tryInjectD hu)))

theorem Keeps.placeStreams (h : Keeps s t) : Keeps s (Machine.placeStreams t) := by
  unfold Machine.placeStreams
  exact h.lit.foldl (fun u a hu => hu.placeStream)

theorem Keeps.pumpN (h : Keeps s t) {n} : Keeps s (Machine.pumpN n t) := by
  induction n generalizing t with
  | zero => exact h
  | succ n ih =>
    have hu : Keeps s (Machine.retryHeld (Machine.retryWait (Machine.retryPcie (Machine.retryCores t)))) := h.retryCores.retryPcie.retryWait.retryHeld
    exact .ite hu (ih hu)

theorem Keeps.pump (h : Keeps s t) : Keeps s (Machine.pump t) := by
  unfold Machine.pump
  extract_lets u
  have hu : Keeps s u := h.placeStreams
  exact .ite hu hu.pumpN

theorem Keeps.inject (h : Keeps s t) {q} : Keeps s (Machine.inject q t) := by unfold Machine.inject; exact h.present.pump

theorem Keeps.deliverResp (h : Keeps s t) {r lat} : Keeps s (Machine.deliverResp r lat t) := by
  unfold Machine.deliverResp
  exact h.freeTag.statLatency.finishAt.pump

theorem Keeps.respArrive (h : Keeps s t) {r lat} : Keeps s (Machine.respArrive r lat t) := by
  unfold Machine.respArrive
  extract_lets sent asked okOp
  exact .ite h.modWelt.weltLog (.ite h.modWelt.deliverResp (.ite h.modWelt.deliverResp h))

theorem Keeps.completeLocal (h : Keeps s t) {kind st o} : Keeps s (Machine.completeLocal kind st o t) := by
  unfold Machine.completeLocal
  exact h.freeTag.weltLog.finishAt

theorem Keeps.respTimeout (h : Keeps s t) {e tag} : Keeps s (Machine.respTimeout e tag t) := by
  unfold Machine.respTimeout
  split
  · exact h.completeLocal.pump
  · split
    · exact .ite h.modWelt.weltLog.finishAt h
    · exact h

theorem Keeps.lockTimeout (h : Keeps s t) {tgt line} : Keeps s (Machine.lockTimeout tgt line t) := by
  unfold Machine.lockTimeout
  split
  · exact h.weltLog.dropLock.pump
  · exact h

theorem Keeps.sinvArrive (h : Keeps s t) {c line} : Keeps s (Machine.sinvArrive c line t) := by
  unfold Machine.sinvArrive
  refine .ite ?_ h
  extract_lets u
  have hu : Keeps s u := h.modCore
  exact hu.modWelt

theorem Keeps.sackArrive (h : Keeps s t) {c line} : Keeps s (Machine.sackArrive c line t) := by
  unfold Machine.sackArrive
  exact .ite h.modWelt.pump h.weltLog

theorem Keeps.gDiscard (h : Keeps s t) {q} : Keeps s (Machine.gDiscard q t) := by
  unfold Machine.gDiscard
  extract_lets u
  have hu : Keeps s u := h.modFlow.inci
  exact .ite hu hu.recordOpen.modFlow

theorem Keeps.gDeliver (h : Keeps s t) {q} : Keeps s (Machine.gDeliver q t) := by
  unfold Machine.gDeliver
  refine .ite h.gDiscard ?_
  extract_lets user u
  have hu : Keeps s u := .ite h.modWelt h
  exact hu.serveOrHold

theorem Keeps.gArrive (h : Keeps s t) : Keeps s (Machine.gArrive t) := by
  unfold Machine.gArrive
  extract_lets due
  exact .flowDrained (h.modWelt.foldl (fun u _ hu => hu.gDeliver))

theorem Keeps.slotInject (h : Keeps s t) {f at_ taken} : Keeps s (Machine.slotInject f at_ taken t) := by
  unfold Machine.slotInject
  refine .ite h ?_
  extract_lets u x u1 u2 st late
  have hu : Keeps s u := h.reachLace
  have hu1 : Keeps s u1 := hu.modWelt
  have hu2 : Keeps s u2 := hu1.gArrive
  split
  · exact hu2.pump
  · refine .ite hu2.pump ?_
    extract_lets u3 u4
    have hu3 : Keeps s u3 := hu2.modFlow
    have hu4 : Keeps s u4 := hu3.statUnits
    exact hu4.modWelt.pump

theorem Keeps.overflowArrive (h : Keeps s t) {f} : Keeps s (Machine.overflowArrive f t) := by
  unfold Machine.overflowArrive
  split
  · extract_lets u
    have hu : Keeps s u := h.reachLace
    exact .ite hu.modWelt.gDiscard.flowDrained hu.gArrive
  · exact h

theorem Keeps.svcAbort (h : Keeps s t) : Keeps s (Machine.svcAbort t) := by
  unfold Machine.svcAbort
  extract_lets out u
  have hu : Keeps s u := h.modWelt
  exact hu.foldl (fun u1 a hu1 => hu1.completeLocal)

theorem Keeps.svcFinish (h : Keeps s t) : Keeps s (Machine.svcFinish t) := by
  unfold Machine.svcFinish
  split
  · exact h
  · extract_lets u sch u1 u2 set u3
    have hu : Keeps s u := h.modWelt
    have hu1 : Keeps s u1 := hu.modWelt
    have hu2 : Keeps s u2 := hu1.wr.wr.takeEnables
    have hu3 : Keeps s u3 := .ite hu2.wr.wr.wr.wr hu.wr.wr
    exact hu3.pump

theorem Keeps.epochDrained (h : Keeps s t) : Keeps s (Machine.epochDrained t) := by unfold Machine.epochDrained; exact h.wr.wr.wr.pump

theorem Keeps.execBankPowerRequest (h : Keeps s t) {d r b ctl psleep} : Goes s (Machine.execBankPowerRequest d r b ctl psleep t) := by
  unfold Machine.execBankPowerRequest
  refine .ite h.next ?_
  extract_lets o u
  have hu : Keeps s u := h.wri.wri
  exact hu.modBank.bankFollow.pump.next

theorem Keeps.execBankPowerTransitionDone (h : Keeps s t) {d r b} : Goes s (Machine.execBankPowerTransitionDone d r b t) := by
  unfold Machine.execBankPowerTransitionDone
  extract_lets o p
  exact .ite h.wri.pump.next (.ite h.wri.pump.next h.next)

theorem Keeps.execAwlMemoryWakeDone (h : Keeps s t) {d r y} : Goes s (Machine.execAwlMemoryWakeDone d r y t) := by
  unfold Machine.execAwlMemoryWakeDone
  exact .ite h.wri.pump.next h.next

theorem Keeps.clearUnit (h : Keeps s t) {u1} : Keeps s (Machine.clearUnit u1 t) := by
  unfold Machine.clearUnit
  split
  · extract_lets u u2
    have hu : Keeps s u := h.clearMem
    have hu2 : Keeps s u2 := hu.lit
    exact hu2.modCob

theorem Keeps.unitFollow (h : Keeps s t) {u1 req} : Keeps s (Machine.unitFollow u1 req t) := by
  unfold Machine.unitFollow
  extract_lets st
  exact .ite (.ite h.setUnitState h) (.ite (.ite h.setUnitState h) (.ite h.clearUnit.setUnitState h))

theorem Keeps.segWrite (h : Keeps s t) {g v} : Keeps s (Machine.segWrite g v t) := by
  unfold Machine.segWrite
  extract_lets req u
  have hu : Keeps s u := h.wri
  exact .ite hu.wri hu.wri.wri.unitFollow.pump

theorem Keeps.execLastStoreSegmentPower (h : Keeps s t) {seg value} : Goes s (Machine.execLastStoreSegmentPower seg value t) := by
  unfold Machine.execLastStoreSegmentPower
  exact h.segWrite.next

theorem Keeps.vaultWrite (h : Keeps s t) {secure v} : Keeps s (Machine.vaultWrite secure v t) := by
  unfold Machine.vaultWrite
  refine .ite h ?_
  extract_lets u
  have hu : Keeps s u := h.wr
  exact hu.wr.unitFollow.pump

theorem Keeps.execVaultPowerWrite (h : Keeps s t) {secure value} : Goes s (Machine.execVaultPowerWrite secure value t) := by
  unfold Machine.execVaultPowerWrite
  exact h.vaultWrite.next

theorem Keeps.execMemoryWakeDone (h : Keeps s t) {unit} : Goes s (Machine.execMemoryWakeDone unit t) := by
  unfold Machine.execMemoryWakeDone
  exact .ite h.setUnitState.pump.next h.next

theorem Keeps.afterTrain (h : Keeps s t) {c} : Keeps s (Machine.afterTrain c t) := by unfold Machine.afterTrain; exact .ite h.pump h

theorem Keeps.execDramTrack (h : Keeps s t) {c edges runs} : Goes s (Machine.execDramTrack c edges runs t) := by
  unfold Machine.execDramTrack
  exact .ite h.drcTrack.afterTrain.next h.next

theorem Keeps.execDrcTrackNow (h : Keeps s t) {c edges runs} : Goes s (Machine.execDrcTrackNow c edges runs t) := by
  unfold Machine.execDrcTrackNow
  refine .ite h.next ?_
  extract_lets u
  have hu : Keeps s u := h.wri
  exact .ite hu.chcmdDone.next hu.drcTrack.chcmdDone.afterTrain.next

theorem Keeps.execDrcRetrainLane (h : Keeps s t) {c lane runs} : Goes s (Machine.execDrcRetrainLane c lane runs t) := by
  unfold Machine.execDrcRetrainLane
  refine .ite h.next ?_
  extract_lets u r
  have hu : Keeps s u := h.wri.wri
  have hr : Keeps s r.1 := hu.retrainLane
  exact .ite hu.chcmdDone.next (.ite hu.chcmdDone.next hr.chcmdDone.afterTrain.next)

theorem Keeps.execDramWriteQueueDrain (h : Keeps s t) {c i} : Goes s (Machine.execDramWriteQueueDrain c i t) := by
  unfold Machine.execDramWriteQueueDrain
  split
  · exact .ite h.drainPair.pump.next h.next
  · exact h.next

theorem Keeps.execDramZeroFill (h : Keeps s t) {c wm} : Goes s (Machine.execDramZeroFill c wm t) := by
  unfold Machine.execDramZeroFill
  refine .ite ?_ h.next
  extract_lets u
  have hu : Keeps s u := h.wri
  exact .next (.pump (.ite hu.wr hu))

theorem Keeps.execQueDoorbell (h : Keeps s t) {src tag posted q t1} : Goes s (Machine.execQueDoorbell src tag posted q t1 t) := by
  unfold Machine.execQueDoorbell
  exact h.inject.next

theorem Keeps.execQueReserve (h : Keeps s t) {src tag q k} : Goes s (Machine.execQueReserve src tag q k t) := by
  unfold Machine.execQueReserve
  exact h.inject.next

theorem Keeps.execQueCommit (h : Keeps s t) {src tag posted q i k} : Goes s (Machine.execQueCommit src tag posted q i k t) := by
  unfold Machine.execQueCommit
  exact h.inject.next

theorem Keeps.execQueRelease (h : Keeps s t) {src tag posted q lo hi} : Goes s (Machine.execQueRelease src tag posted q lo hi t) := by
  unfold Machine.execQueRelease
  exact h.inject.next

theorem Keeps.execQueClaim (h : Keeps s t) {src tag q k} : Goes s (Machine.execQueClaim src tag q k t) := by
  unfold Machine.execQueClaim
  exact h.inject.next

/-! The operations of Machine/AwlCtl -/

theorem Keeps.awlCtlDone (h : Keeps s t) {c st} : Keeps s (Machine.awlCtlDone c st t) := by unfold Machine.awlCtlDone; exact h.wri

theorem Keeps.awlStartCmd (h : Keeps s t) {c} : Keeps s (Machine.awlStartCmd c t) := by
  unfold Machine.awlStartCmd
  extract_lets st
  exact .ite h.awlCtlDone (.ite h.startReset.awlCtlDone (.ite h.setAwlState.wri.awlCtlDone h.awlCtlDone))

theorem Keeps.execAwlStart (h : Keeps s t) {c} : Goes s (Machine.execAwlStart c t) := by
  unfold Machine.execAwlStart
  exact .ite h.awlStartCmd.next h.next

theorem Keeps.awlStopCmd (h : Keeps s t) {c} : Keeps s (Machine.awlStopCmd c t) := by
  unfold Machine.awlStopCmd
  exact .ite h.awlCtlDone h.stopCore.awlCtlDone

theorem Keeps.execAwlStop (h : Keeps s t) {c} : Goes s (Machine.execAwlStop c t) := by unfold Machine.execAwlStop; exact .ite h.awlStopCmd.next h.next

theorem Keeps.awlResetCmd (h : Keeps s t) {c} : Keeps s (Machine.awlResetCmd c t) := by unfold Machine.awlResetCmd; exact h.resetCore.awlCtlDone

theorem Keeps.execAwlReset (h : Keeps s t) {c} : Goes s (Machine.execAwlReset c t) := by
  unfold Machine.execAwlReset
  exact .ite h.awlResetCmd.next h.next

theorem Keeps.execAwlIsetWrite (h : Keeps s t) {c value} : Goes s (Machine.execAwlIsetWrite c value t) := by
  unfold Machine.execAwlIsetWrite
  exact .ite h.raiseSoft.next h.next

theorem Keeps.execFabricIrq (h : Keeps s t) {c k level} : Goes s (Machine.execFabricIrq c k level t) := by
  unfold Machine.execFabricIrq
  refine .ite h.next ?_
  extract_lets was u
  have hu : Keeps s u := h.modCore
  exact .ite hu.raiseEdge.next hu.wakeWait.next

theorem Keeps.execInterruptEntry (h : Keeps s t) {c} : Goes s (Machine.execInterruptEntry c t) := by
  unfold Machine.execInterruptEntry
  extract_lets k u a
  have hu : Keeps s u := h.squash
  refine .ite h.next ?_
  refine .ite h.next ?_
  split
  · exact h.next
  · extract_lets u1
    have hu1 : Keeps s u1 := hu.awlEnter
    exact hu1.modCore.showPc.next

theorem Keeps.wdExpires (h : Keeps s t) {c} : Keeps s (Machine.wdExpires c t) := by unfold Machine.wdExpires; exact h.reachElapsed

theorem Keeps.execWatchdogFirstExpiry (h : Keeps s t) {c} : Goes s (Machine.execWatchdogFirstExpiry c t) := by
  unfold Machine.execWatchdogFirstExpiry
  refine .ite h.next ?_
  extract_lets u u1
  have hu : Keeps s u := h.wdExpires.wdSet
  have hu1 : Keeps s u1 := hu.wri.modCore
  exact hu1.recordOpen.takeWdog.next

theorem Keeps.execWatchdogSecondExpiry (h : Keeps s t) {c} : Goes s (Machine.execWatchdogSecondExpiry c t) := by
  unfold Machine.execWatchdogSecondExpiry
  refine .ite h.next ?_
  extract_lets u u1
  have hu : Keeps s u := h.wdExpires.wdSet
  have hu1 : Keeps s u1 := hu.modCore
  exact .ite hu1.fault.next hu1.resetCore.wri.recordOpen.next

/-! The operations of Machine/Eyelets -/

theorem Keeps.trainEye (h : Keeps s t) {bad noclk e} : Keeps s (Machine.trainEye bad noclk e t) := by
  unfold Machine.trainEye
  extract_lets wh u gup u1
  have hu : Keeps s u := by
    unfold u
    refine .foldl h (fun u2 a hu2 => ?_)
    refine .foldl hu2 (fun u3 a1 hu3 => ?_)
    extract_lets k r
    exact hu3.modEye.wri.showGroup
  have hu1 : Keeps s u1 := hu.wri.wri.wri
  exact hu1.showEye

theorem Keeps.retrainEye (h : Keeps s t) {noclk e} : Keeps s (Machine.retrainEye noclk e t).1 := by
  unfold Machine.retrainEye
  extract_lets ok u
  have hu : Keeps s u := by
    unfold u
    refine .foldl h (fun u1 a hu1 => ?_)
    refine .foldl hu1 (fun u2 a1 hu2 => ?_)
    extract_lets k
    exact hu2.wri
  split
  · exact hu.wri.wri.wri.showEye.left
  · exact hu.wri.wri.left

theorem Keeps.trainEyes24 (h : Keeps s t) {bad noclk} : Keeps s (Machine.trainEyes24 bad noclk t) := by
  unfold Machine.trainEyes24
  exact h.foldl (fun u a hu => .ite hu.trainEye hu)

theorem Keeps.execEyeletTrainingTimeout (h : Keeps s t) {e} : Goes s (Machine.execEyeletTrainingTimeout e t) := by
  unfold Machine.execEyeletTrainingTimeout
  refine .ite ?_ h.next
  extract_lets u u1 u2
  have hu : Keeps s u := h.wri.wri
  have hu1 : Keeps s u1 := hu.wri
  have hu2 : Keeps s u2 := hu1.recordSt
  exact .next (.ite hu2.dieOff hu2)

theorem Keeps.eyeFault (h : Keeps s t) {e dir g lane kind st} : Keeps s (Machine.eyeFault e dir g lane kind st t) := by
  unfold Machine.eyeFault
  extract_lets w u u1 _
  have hu : Keeps s u := h.push.wri
  have hu1 : Keeps s u1 := hu.fault
  exact hu1.lit

theorem Keeps.halfDecide (h : Keeps s t) {e dir g} : Keeps s (Machine.halfDecide e dir g t) := by
  unfold Machine.halfDecide
  extract_lets x
  exact .ite h.modEye h

theorem Keeps.ladderNext (h : Keeps s t) {e dir g} : Keeps s (Machine.ladderNext e dir g t) := by
  unfold Machine.ladderNext
  split
  · exact .ite h.eyeFault h.halfDecide
  · exact h

theorem Keeps.laneCorrected (h : Keeps s t) {e dir g lane n run} : Keeps s (Machine.laneCorrected e dir g lane n run t) := by
  unfold Machine.laneCorrected
  extract_lets k x u u1 u2
  have hu : Keeps s u := h.modEye
  have hu1 : Keeps s u1 := hu.addi
  have hu2 : Keeps s u2 := .ite hu1 hu1.modEye.push
  exact .ite (.ite h.modEye.showGroup h) (.ite (.ite hu2.eyeFault hu2.halfDecide) hu1)

theorem Keeps.execLaneFailing (h : Keeps s t) {e dir g lane n run} : Goes s (Machine.execLaneFailing e dir g lane n run t) := by
  unfold Machine.execLaneFailing
  exact h.laneCorrected.next

theorem Keeps.execLaneWindowEnd (h : Keeps s t) {e dir g lane} : Goes s (Machine.execLaneWindowEnd e dir g lane t) := by
  unfold Machine.execLaneWindowEnd
  exact h.modEye.next

theorem Keeps.spareLane (h : Keeps s t) {e dir g lane sp} : Keeps s (Machine.spareLane e dir g lane sp t) := by
  unfold Machine.spareLane
  extract_lets w u
  have hu : Keeps s u := h.modEye
  exact hu.showGroup.showEye.push.record

theorem Keeps.replaceHalf (h : Keeps s t) {e dir lane} : Keeps s (Machine.replaceHalf e dir lane t) := by
  unfold Machine.replaceHalf
  extract_lets w u
  have hu : Keeps s u := h.modEye
  exact hu.showGroup.push.record

theorem Keeps.execLaneSpare (h : Keeps s t) {e dir g} : Goes s (Machine.execLaneSpare e dir g t) := by
  unfold Machine.execLaneSpare
  extract_lets x
  split
  · exact .ite h.spareLane.ladderNext.next h.next
  · exact .ite h.replaceHalf.ladderNext.next h.next
  · exact h.next

theorem Keeps.moveLane (h : Keeps s t) {e dir g lane dst} : Keeps s (Machine.moveLane e dir g lane dst t) := by
  unfold Machine.moveLane
  extract_lets w u
  have hu : Keeps s u := h.modEye
  exact hu.showGroup.showEye.push.record

theorem Keeps.startMove (h : Keeps s t) {e dir g lane dst} : Keeps s (Machine.startMove e dir g lane dst t) := by
  unfold Machine.startMove
  refine .ite ?_ h.moveLane
  extract_lets u
  have hu : Keeps s u := h.shfForRepair
  exact hu.modEye

theorem Keeps.execReserveMove (h : Keeps s t) {e dir g} : Goes s (Machine.execReserveMove e dir g t) := by
  unfold Machine.execReserveMove
  extract_lets x
  split
  · exact .ite h.startMove.ladderNext.next h.next
  · exact h.next

theorem Keeps.eyeCmdDone (h : Keeps s t) {st} : Keeps s (Machine.eyeCmdDone st t) := by unfold Machine.eyeCmdDone; exact h.wr.wr

theorem Keeps.eyeCmdRun (h : Keeps s t) {op} : Keeps s (Machine.eyeCmdRun op t) := by
  unfold Machine.eyeCmdRun
  split
  · extract_lets x1
    split
    · exact .eyeCmdDone (.ite h.spareLane h.startMove)
    · exact h.eyeCmdDone

theorem Keeps.eyeCmdTry (h : Keeps s t) {op} : Keeps s (Machine.eyeCmdTry op t) := by
  unfold Machine.eyeCmdTry
  split
  · exact .ite h.eyeCmdRun h.wr

theorem Keeps.repairEnds (h : Keeps s t) {e dir g} : Keeps s (Machine.repairEnds e dir g t) := by
  unfold Machine.repairEnds
  extract_lets t1
  exact .ladderNext (.ite h.eyeCmdRun h)

theorem Keeps.execReserveSwap (h : Keeps s t) {e dir g} : Goes s (Machine.execReserveSwap e dir g t) := by
  unfold Machine.execReserveSwap
  split
  · exact .ite h.next h.reach.moveLane.repairEnds.gearNextAll.next
  · exact h.next

theorem Keeps.execLaneRetire (h : Keeps s t) {e dir g} : Goes s (Machine.execLaneRetire e dir g t) := by
  unfold Machine.execLaneRetire
  extract_lets x
  split
  · extract_lets m
    exact .ite h.startMove.ladderNext.next h.next
  · exact h.next

theorem Keeps.execHalfWidthChange (h : Keeps s t) {e dir} : Goes s (Machine.execHalfWidthChange e dir t) := by
  unfold Machine.execHalfWidthChange
  extract_lets x u u1 u2
  have hu : Keeps s u := .ite h.reachLace h
  have hu1 : Keeps s u1 := hu.modEye
  have hu2 : Keeps s u2 := hu1.showGroup.showEye.weltHalfWidth
  split
  · refine .ite ?_ h.next
    extract_lets w
    exact hu2.push.record.next
  · exact h.next

theorem Keeps.execEyeletUncorrectable (h : Keeps s t) {e dir g word} : Goes s (Machine.execEyeletUncorrectable e dir g word t) := by
  unfold Machine.execEyeletUncorrectable
  extract_lets u fly
  have hu : Keeps s u := h.inci
  have hfly : Keeps s { u with express := { u.express with fly := fly } } := hu.congrExpress id (fun hr => hr.filter _) id rfl rfl rfl rfl rfl
  exact .ite hfly.push.next hu.eyeFault.next

theorem Keeps.execEyeletClockLaneLoss (h : Keeps s t) {e dir g} : Goes s (Machine.execEyeletClockLaneLoss e dir g t) := by
  unfold Machine.execEyeletClockLaneLoss
  extract_lets u gup u1
  have hu : Keeps s u := h.wri
  have hu1 : Keeps s u1 := hu.wri
  exact .next (.eyeFault (.ite hu1.wri hu1))

theorem Keeps.execEyeCmdSpare (h : Keeps s t) : Goes s (Machine.execEyeCmdSpare t) := by
  unfold Machine.execEyeCmdSpare
  refine .ite h.next ?_
  extract_lets u
  have hu : Keeps s u := h.wr
  split
  · exact .next (.ite hu.eyeCmdDone hu.eyeCmdTry)

theorem Keeps.execEyeCmdMove (h : Keeps s t) : Goes s (Machine.execEyeCmdMove t) := by
  unfold Machine.execEyeCmdMove
  refine .ite h.next ?_
  extract_lets u
  have hu : Keeps s u := h.wr
  split
  · exact .next (.ite hu.eyeCmdDone hu.eyeCmdTry)

theorem Keeps.execEyeCmdInject (h : Keeps s t) : Goes s (Machine.execEyeCmdInject t) := by
  unfold Machine.execEyeCmdInject
  refine .ite h.next ?_
  extract_lets u
  have hu : Keeps s u := h.wr
  split
  · exact .ite hu.eyeCmdDone.next (.ite hu.eyeCmdDone.next hu.laneCorrected.eyeCmdDone.next)

theorem Tab.Rising.foldlSet {α β : Type} [DecidableEq α] {d : α} {key : β → Nat} {val : β → α} {l : List β} {m : Tab α} (h : m.Rising) :
    Tab.Rising (l.foldl (fun t p => tabSet d t (key p) (val p)) m) :=
  List.foldlRecOn (motive := Tab.Rising) l _ h fun _ hm p _ => hm.set d (key p) (val p)

theorem Keeps.execExpressClockEdge (h : Keeps s t) {g ones} : Goes s (Machine.execExpressClockEdge g ones t) := by
  unfold Machine.execExpressClockEdge
  extract_lets x cfg mine other put land fly fromFabric fromPass fromXc u
  have hu : Keeps s u := h.congrExpress (fun hl => (hl.filter _).foldlSet.foldlSet.foldlSet) (fun hf => (hf.filter _).foldlSet)
    (fun hd => (hd.filter _).foldlSet) rfl rfl rfl rfl rfl
  exact .ite h.next hu.modGear.next

/-! The operations of Machine/Planes -/

theorem Keeps.setCompat (h : Keeps s t) {x} : Keeps s (Machine.setCompat x t) := by
  unfold Machine.setCompat
  split
  · exact h.wr.wr
  · exact h.wr.wr

theorem Keeps.imageCheck (h : Keeps s t) {i baseId} : Keeps s (Machine.imageCheck i baseId t).2 := by
  unfold Machine.imageCheck
  split
  · exact h
  · split
    · exact h.setCompat.right
    · extract_lets u
      have hu : Keeps s u := h.setCompat
      split
      · exact hu
      · split
        · exact hu
        · split
          · exact hu.setCompat.right
          · exact hu

theorem Keeps.cfgResult (h : Keeps s t) {src r} : Keeps s (Machine.cfgResult src r t) := by
  unfold Machine.cfgResult
  split
  · exact h.wr.wr.wr.wr.wr

theorem Keeps.writeUnit (h : Keeps s t) {i u1 p base baseUses} : Keeps s (Machine.writeUnit i u1 p base baseUses t) := by
  unfold Machine.writeUnit
  extract_lets fs new u
  have hu : Keeps s u := h.clearFrames
  exact .setUnit (hu.foldl (fun u2 a hu2 => hu2.putFrame))

/-! The operations of Machine/Load -/

theorem Keeps.onGo (h : Keeps s t) {busy op n f} (hf : ∀ u, Keeps s u → Keeps s (f u)) : Keeps s (Machine.onGo busy op n f t) := by
  have hu : Keeps s { t with asked := t.asked.erase busy.adr } := h.lit
  exact .ite hu.wri.wr (.ite (hf _ hu.wr.wr) (.ite h (hf _ h.wr)))

theorem Keeps.cfgDone (h : Keeps s t) {st} : Keeps s (Machine.cfgDone st t) := by unfold Machine.cfgDone; exact h.wr.wr

theorem Keeps.cfgGo (h : Keeps s t) {n f} (hf : ∀ u, Keeps s u → Keeps s (f u)) : Goes s (Machine.cfgGo n f t) := (h.onGo hf).next

theorem Keeps.loadEnd (h : Keeps s t) {auto src r} : Keeps s (Machine.loadEnd auto src r t) := by
  unfold Machine.loadEnd
  extract_lets u u1
  have hu : Keeps s u := h.cfgResult.wr
  have hu1 : Keeps s u1 := hu.modCfg
  exact .ite hu1.recordSt hu1.cfgDone

theorem Keeps.loadCheck (h : Keeps s t) {auto src img} : Keeps s (Machine.loadCheck auto src img t).2 := by
  unfold Machine.loadCheck
  extract_lets u
  have hu : Keeps s u := h.wr.wr.wr
  split
  · exact hu.loadEnd.right
  · split
    · exact hu.loadEnd.right
    · split
      next e2 =>
        have hu1 := hu.imageCheck.snd e2
        exact hu1.loadEnd.right
      next e2 =>
        have hu1 := hu.imageCheck.snd e2
        exact hu1.wr.modCfg.right

theorem Keeps.loadBegin (h : Keeps s t) {auto src img} : Keeps s (Machine.loadBegin auto src img t) := by
  unfold Machine.loadBegin
  extract_lets u x
  have hu : Keeps s u := h.wr.modCfg
  have hx : Keeps s x.2 := hu.loadCheck
  refine .ite hx ?_
  split
  · exact hx.wr.loadCheck
  · exact hx

theorem Keeps.loadFail (h : Keeps s t) {l r} : Keeps s (Machine.loadFail l r t) := by
  unfold Machine.loadFail
  extract_lets u
  have hu : Keeps s u := h.loadEnd
  split
  · exact hu.wr.loadCheck
  · exact hu

theorem Keeps.raiseDie (h : Keeps s t) {d} : Keeps s (Machine.raiseDie d t) := by
  unfold Machine.raiseDie
  extract_lets u
  have hu : Keeps s u := h.wri.railsOn.startTrim
  exact hu.foldl (fun u1 a hu1 => .ite hu1.retrainEye hu1)

theorem Keeps.acceptDies (h : Keeps s t) {i} : Keeps s (Machine.acceptDies i t) := by
  unfold Machine.acceptDies
  refine .foldl h (fun u a hu => ?_)
  extract_lets st
  exact .ite hu.raiseDie (.ite hu.railsOff.wri hu)

theorem Keeps.loadWrites (h : Keeps s t) {l} : Keeps s (Machine.loadWrites l t) := by
  unfold Machine.loadWrites
  extract_lets u u1 u2
  have hu : Keeps s u := h.acceptDies
  have hu1 : Keeps s u1 := hu.foldl (fun u3 _ hu3 => hu3.foldl (fun u4 _ hu4 => hu4.wri.stopRegion))
  have hu2 : Keeps s u2 := hu1.foldl (fun u3 _ hu3 => hu3.setUnit)
  exact hu2.wr.modCfg.showImages.wr64

theorem Keeps.loadChecked (h : Keeps s t) {l} : Keeps s (Machine.loadChecked l t) := by
  unfold Machine.loadChecked
  split
  · exact h.loadFail
  · exact .ite h.loadFail h.loadWrites

theorem Keeps.execImageChunkArrival (h : Keeps s t) : Goes s (Machine.execImageChunkArrival t) := by
  unfold Machine.execImageChunkArrival
  split
  · refine .ite h.next ?_
    split
    · exact h.loadFail.next
    · extract_lets l1
      exact .next (.ite h.loadChecked h.modCfg)
  · exact h.next

theorem Keeps.coldLoad (h : Keeps s t) {img start} (hf : ∀ u, Keeps s u → Keeps s (start u)) : Keeps s (Machine.coldLoad img start t) := by
  unfold Machine.coldLoad
  extract_lets src u v w x
  have hu : Keeps s u := h.wr.modCfg
  have hv : Keeps s v := .ite hu (Keeps.wr (.shfEnd (.dropShadow hu)))
  have hw : Keeps s w := hv.foldl fun _ _ hy => hy.foldl fun _ _ hz => Keeps.stopCore (.ite hz.wri.wri.relockRegion hz)
  have hx : Keeps s x := .ite hw.toMode hu
  refine .ite h.cfgDone (.ite h.cfgDone (.ite (hf _ ?_) (.ite ?_ hx.loadBegin)))
  · exact hu.modCfg
  · exact hu.modCfg

theorem setDesign_plane (p : Nat) (x : Design) (g : Region) : (setDesign p x g).plane = g.plane := by
  unfold setDesign
  split <;> rfl

theorem Keeps.regionLoaded (h : Keeps s t) {i d r} : Keeps s (Machine.regionLoaded i d r t) := by
  unfold Machine.regionLoaded
  extract_lets c p u v w
  have hu : Keeps s u := by
    refine .initRegion (h.modRegion ?_)
    exact fun g => setDesign_plane p c.design g
  have hw : Keeps s w := hu.putRclks.putBanks
  exact .ite hw.wri hw

theorem Keeps.putFrames (h : Keeps s t) {i base d lo hi} : Keeps s (Machine.putFrames i base d lo hi t) := by
  unfold Machine.putFrames
  extract_lets first here p fids uses new u
  have hu : Keeps s u := h.modCfg
  exact .showBadsel (hu.foldl (fun u1 a hu1 => hu1.putFrame))

theorem Keeps.gearsFromG1 (h : Keeps s t) {i} : Keeps s (Machine.gearsFromG1 i t) := by
  unfold Machine.gearsFromG1
  extract_lets u u1 u2
  have hu : Keeps s u := h.lit.foldl (fun u3 _ hu3 => hu3.wri.wri.wri)
  have hu1 : Keeps s u1 := hu.foldl (fun u3 a hu3 => hu3.dieTakes)
  have hu2 : Keeps s u2 := hu1.foldl (fun u3 a hu3 => hu3.startTrim)
  exact hu2.foldl (fun u3 a hu3 => hu3.gearTake)

theorem Keeps.execFrameWriteReadback (h : Keeps s t) {d n clean} : Goes s (Machine.execFrameWriteReadback d n clean t) := by
  unfold Machine.execFrameWriteReadback
  split
  · refine .ite h.next ?_
    extract_lets lo hi good u done u1 u2 u3 next u4
    have hu : Keeps s u := h.putFrames
    have hu1 : Keeps s u1 := .ite hu (hu.foldl (fun u5 a hu5 => .ite hu5.setUnit.regionLoaded hu5))
    have hu2 : Keeps s u2 := .ite hu1.setUnit hu1
    have hu3 : Keeps s u3 := .ite hu2.wri.putPins hu2
    have hu4 : Keeps s u4 := hu3.modCfg.wr
    exact .ite hu4.fault.next (.ite hu4.wr.modCfg.gearsFromG1.next hu4.next)
  · exact h.next

theorem Keeps.execLoadContentsDone (h : Keeps s t) : Goes s (Machine.execLoadContentsDone t) := by
  unfold Machine.execLoadContentsDone
  split
  · refine .ite h.next ?_
    extract_lets i u u1 u2 u3
    have hu : Keeps s u := h.foldl (fun u4 a hu4 => hu4.loadBanks)
    have hu1 : Keeps s u1 := hu.foldl (fun u4 a hu4 => hu4.loadCore)
    have hu2 : Keeps s u2 := hu1.loadProgs.putReserves.putExpress
    have hu3 : Keeps s u3 := hu2.modWelt
    exact hu3.svcStart.next
  · exact h.next

theorem Keeps.loadToHold (h : Keeps s t) : Keeps s (Machine.loadToHold t) := by
  unfold Machine.loadToHold
  split
  · extract_lets u u1 u2
    have hu : Keeps s u := h.modCfg.showImages.wr
    have hu1 : Keeps s u1 := hu.cfgResult.safePins
    have hu2 : Keeps s u2 := .ite hu1 hu1.cfgDone
    exact hu2.record.toMode
  · exact h

theorem Keeps.execCfgAbort (h : Keeps s t) : Goes s (Machine.execCfgAbort t) := by
  unfold Machine.execCfgAbort
  extract_lets u
  have hu : Keeps s u := h.wr
  split
  · exact .ite hu.wr.cfgResult.modCfg.cfgDone.next hu.wr.next
  · split
    · exact hu.modCfg.cfgDone.next
    · exact hu.wr.next

theorem Keeps.countCe (h : Keeps s t) {d roles} : Keeps s (Machine.countCe d roles t) := by
  unfold Machine.countCe
  extract_lets hit
  exact h.modCfg

theorem Keeps.verifyDies (h : Keeps s t) {dies roles} : Keeps s (Machine.verifyDies dies roles t).2 := by
  unfold Machine.verifyDies
  extract_lets bad u u1 u2
  have hu : Keeps s u := h.foldl (fun u3 _ hu3 => hu3.countCe)
  have hu1 : Keeps s u1 := by
    unfold u1
    refine .foldl hu (fun u3 a hu3 => ?_)
    extract_lets pl x u4
    have hu4 : Keeps s u4 := hu3.modCfg
    exact .ite hu4.modCfg hu4
  have hu2 : Keeps s u2 := hu1.foldl (fun u3 a hu3 => hu3.setFrameSt)
  exact hu2

theorem Keeps.execCfgVerify (h : Keeps s t) : Goes s (Machine.execCfgVerify t) := by
  unfold Machine.execCfgVerify
  refine Keeps.cfgGo h (fun u hu => ?_)
  extract_lets a m x
  have hx : Keeps s x.2 := hu.verifyDies
  refine .ite hu.cfgDone ?_
  refine .ite hu.cfgDone ?_
  split
  · exact hx.wr.wr.cfgDone
  · exact hx.cfgDone

theorem Keeps.dmaWrite (h : Keeps s t) {a bs} : Keeps s (Machine.dmaWrite a bs t) := by
  unfold Machine.dmaWrite
  extract_lets hi u u1
  have hu : Keeps s u := h.foldl (fun u2 _ hu2 => hu2.foldl (fun u3 _ hu3 => hu3.drainLine))
  have hu1 : Keeps s u1 := hu.lit
  exact hu1.wrBytes

theorem Keeps.freeWide (h : Keeps s t) {n} : Keeps s (Machine.freeWide n t).2 := by
  induction n generalizing t with
  | zero => exact h
  | succ n ih => exact ih h.free

theorem Keeps.frameOut (h : Keeps s t) {fid role} : Keeps s (Machine.frameOut fid role t).2 := by
  unfold Machine.frameOut
  extract_lets p m x u
  have hx : Keeps s x.2 := by
    unfold x
    split
    · exact h.freeWide
    · exact h
  exact (.ite (hx.modCfg) hx : Keeps s u)

theorem Keeps.execCfgReadback (h : Keeps s t) : Goes s (Machine.execCfgReadback t) := by
  unfold Machine.execCfgReadback
  refine Keeps.cfgGo h (fun u hu => ?_)
  extract_lets role count first dst fids
  refine .ite hu.cfgDone ?_
  refine .ite hu.cfgDone ?_
  refine .ite hu.cfgDone ?_
  refine .cfgDone ?_
  refine .foldl hu (fun u1 a hu1 => ?_)
  extract_lets x
  have hx : Keeps s x.2 := hu1.frameOut
  exact hx.dmaWrite

theorem Keeps.execCfgCaptureReadout (h : Keeps s t) : Goes s (Machine.execCfgCaptureReadout t) := by
  unfold Machine.execCfgCaptureReadout
  refine Keeps.cfgGo h (fun u hu => ?_)
  extract_lets d r dst
  exact .ite hu.cfgDone (.ite hu.cfgDone (.ite hu.cfgDone (.cfgDone (hu.foldl (fun u1 a hu1 => hu1.dmaWrite)))))

theorem Keeps.capStart (h : Keeps s t) {rs} : Keeps s (Machine.capStart rs t) := by
  unfold Machine.capStart
  exact h.foldl (fun u _ hu => hu.wri.modRegion)

theorem Keeps.execCaptureCommand (h : Keeps s t) : Goes s (Machine.execCaptureCommand t) := by
  unfold Machine.execCaptureCommand
  refine .ite h.next ?_
  extract_lets rs st u late
  have hu : Keeps s u := h.wr
  exact .ite hu.next (.next (.capStart (.ite hu.wr hu)))

theorem Keeps.execCfgRawWrite (h : Keeps s t) {bad regs} : Goes s (Machine.execCfgRawWrite bad regs t) := by
  refine Keeps.cfgGo h fun u hu => ?_
  extract_lets first count src v w
  have hv : Keeps s v := hu.foldl fun _ _ hx => hx.putFrame.setFrameSt
  have hw : Keeps s w := by
    refine hv.foldl fun x a hx => .ite (.putBanks (.putRclks (hx.modRegion ?_))) hx
    exact fun _ => setDesign_plane ..
  exact .ite hu.cfgDone (.ite hu.cfgDone (.ite hu.cfgDone hw.showBadsel.cfgDone))

theorem Keeps.slotFlags (h : Keeps s t) {n boot fallback} : Keeps s (Machine.slotFlags n boot fallback t) := by
  unfold Machine.slotFlags
  extract_lets one
  exact .ite (.wr (.ite h.wr (.ite h.wr h))) (.ite (.wr (.ite h.wr (.ite h.wr h))) (.ite h.wr (.ite h.wr h)))

theorem Keeps.slotValid (h : Keeps s t) {n v} : Keeps s (Machine.slotValid n v t) := by
  unfold Machine.slotValid
  extract_lets m
  exact h.wr

theorem Keeps.execCfgFlashWrite (h : Keeps s t) {img} : Goes s (Machine.execCfgFlashWrite img t) := by
  unfold Machine.execCfgFlashWrite
  refine Keeps.cfgGo h (fun u hu => ?_)
  extract_lets n fl u1
  have hu1 : Keeps s u1 := hu.modCfg
  refine .ite hu.cfgDone ?_
  refine .ite hu.cfgDone ?_
  refine .ite hu.cfgDone ?_
  split
  · exact hu.cfgResult.cfgDone
  · exact hu1.slotValid.slotFlags.cfgDone

theorem Keeps.execCfgFlashDirectory (h : Keeps s t) : Goes s (Machine.execCfgFlashDirectory t) := by
  unfold Machine.execCfgFlashDirectory
  refine Keeps.cfgGo h (fun u hu => ?_)
  extract_lets n fl
  exact .ite hu.cfgDone (.ite hu.cfgDone (.ite hu.cfgDone (.ite hu.modCfg.slotValid.slotFlags.cfgDone (.ite hu.cfgDone hu.slotFlags.cfgDone))))

theorem Keeps.stagingWrite (h : Keeps s t) {size v} : Keeps s (Machine.stagingWrite size v t) := by
  unfold Machine.stagingWrite
  extract_lets fit base want n
  exact .ite h.wr h.wr.wr

theorem Keeps.execStagingAreaWrite (h : Keeps s t) {size value} : Goes s (Machine.execStagingAreaWrite size value t) := by
  unfold Machine.execStagingAreaWrite
  exact h.stagingWrite.next

/-! The operations of Machine/Cobbler -/

theorem Keeps.putBit (h : Keeps s t) {f k on} : Keeps s (Machine.putBit f k on t) := by unfold Machine.putBit; exact h.wr

theorem Keeps.cobUeRecord (h : Keeps s t) {cls die loc st} : Keeps s (Machine.cobUeRecord cls die loc st t) := by
  unfold Machine.cobUeRecord
  exact h.cobUncorrectable.recordSt

theorem Keeps.frameUe (h : Keeps s t) {fid p} : Keeps s (Machine.frameUe fid p t) := by
  unfold Machine.frameUe
  extract_lets d ev st u u1
  have hu : Keeps s u := h.setFrameSt.cobUeRecord
  have hu1 : Keeps s u1 := hu.wri.wri
  exact .ite h.cobUncorrectable.fault (.ite hu.shfReleaseNow.wr (.ite hu.wr (.ite (.shfAbandon (.ite hu1.shfDone hu1)) hu)))

theorem Keeps.tableUe (h : Keeps s t) {fid} : Keeps s (Machine.tableUe fid t) := by unfold Machine.tableUe; exact h.cobUncorrectable.fault

theorem Keeps.locSpoil (h : Keeps s t) {cls die loc copy err} : Keeps s (Machine.locSpoil cls die loc copy err t) := by
  unfold Machine.locSpoil
  extract_lets v
  split
  · exact .ite h.modCfg (.ite h.modCfg h)
  · exact h.setMark
  · exact h.lit
  · exact h.lit
  · exact h.setLineMark

theorem Keeps.locCheck (h : Keeps s t) {cls die loc copy} : Keeps s (Machine.locCheck cls die loc copy t) := by
  unfold Machine.locCheck
  split
  · split
    · split
      · exact h
      · exact h.frameUe
      · exact h.cobCorrected
    · split
      · exact h
      · exact h.tableUe
      · exact h.cobCorrected
  · exact h.bankChecked
  · exact (awlMem_sound _).check _ h
  · exact lastMem_sound.check _ h
  · exact h.lineCheck

theorem Keeps.sweepEnd (h : Keeps s t) {k took} : Keeps s (Machine.sweepEnd k took t) := by
  unfold Machine.sweepEnd
  extract_lets u
  have hu : Keeps s u := h.modCob.wri
  exact .ite hu.putBit hu

theorem Keeps.execSweepRead (h : Keeps s t) {cls die loc copy err took} : Goes s (Machine.execSweepRead cls die loc copy err took t) := by
  unfold Machine.execSweepRead
  extract_lets here u u1
  have hu : Keeps s u := h.modCob
  have hu1 : Keeps s u1 := hu.locSpoil.locCheck
  refine .ite h.next ?_
  refine .next ?_
  split
  · exact hu1.sweepEnd
  · exact hu1

theorem Keeps.execSweepLate (h : Keeps s t) {cls} : Goes s (Machine.execSweepLate cls t) := by
  unfold Machine.execSweepLate
  refine .ite h.next ?_
  extract_lets u
  have hu : Keeps s u := h.putBit
  exact hu.record.next

theorem Keeps.remapSpare (h : Keeps s t) {cls die loc bad} : Keeps s (Machine.remapSpare cls die loc bad t).2 := by
  unfold Machine.remapSpare
  extract_lets free u
  have hu : Keeps s u := h.modCob
  split
  · exact hu
  · split
    · exact hu
    · extract_lets u1
      have hu1 : Keeps s u1 := hu.modCob
      exact hu1.lit.right

theorem Keeps.cobRemap (h : Keeps s t) {cls die loc bad} : Keeps s (Machine.cobRemap cls die loc bad t) := by
  unfold Machine.cobRemap
  split
  · exact h.modBank
  · exact h.drcRemap
  · extract_lets x
    have hx : Keeps s x.2 := h.remapSpare
    exact .ite hx.remapMade.rsRecord hx.remapRefused

theorem Keeps.rewriteFrame (h : Keeps s t) {fid miss} : Keeps s (Machine.rewriteFrame fid miss t) := by
  unfold Machine.rewriteFrame
  extract_lets d one u b
  have hone : ∀ p v, Keeps s v → Keeps s (one p v) := fun _ _ hv => .ite hv (.ite hv.frameUe (.ite hv.modCfg.cobEvent.frameUe hv.modCfg.cobEvent))
  have hu : Keeps s u := hone 1 _ (hone 0 _ h)
  exact .ite hu.tableUe (.ite hu hu.modCfg.cobEvent)

theorem Keeps.rewriteWord (h : Keeps s t) {cls die loc} : Keeps s (Machine.rewriteWord cls die loc t) := by
  unfold Machine.rewriteWord
  extract_lets m ue
  refine .ite h ?_
  refine .ite h.locCheck ?_
  refine .cobEvent ?_
  split
  · exact h.setMark
  · exact h.lit
  · exact h.lit
  · exact h.setLineMark

theorem Keeps.execCorrectionRewrite (h : Keeps s t) {cls miss bad} : Goes s (Machine.execCorrectionRewrite cls miss bad t) := by
  unfold Machine.execCorrectionRewrite
  split
  · refine .ite h.next ?_
    extract_lets u u1
    have hu : Keeps s u := h.modCob
    have hu1 : Keeps s u1 := .ite hu.rewriteFrame hu.rewriteWord
    exact .next (.ite hu1.cobRemap hu1)
  · split
    · exact h.cobRemap.next
    · exact h.next

theorem Keeps.burstSecond (h : Keeps s t) {k} : Keeps s (Machine.burstSecond t k) := by
  unfold Machine.burstSecond
  extract_lets n h1 u u1
  have hu : Keeps s u := h.modCob
  have hu1 : Keeps s u1 := hu.modCob
  exact .ite (.ite hu1.cobEvent.putBit hu1) hu

theorem Keeps.execBurstSecondEnd (h : Keeps s t) : Goes s (Machine.execBurstSecondEnd t) := by
  unfold Machine.execBurstSecondEnd
  exact .next (h.foldl (fun u _ hu => hu.burstSecond))

theorem Keeps.execBurstHoldExpiry (h : Keeps s t) {cls} : Goes s (Machine.execBurstHoldExpiry cls t) := by
  unfold Machine.execBurstHoldExpiry
  extract_lets h1 u
  have hu : Keeps s u := h.modCob
  exact .ite h.next (.next (.ite hu.cobEvent.putBit hu))

theorem Keeps.execHistoryEntryExpiry (h : Keeps s t) : Goes s (Machine.execHistoryEntryExpiry t) := by
  unfold Machine.execHistoryEntryExpiry
  split
  · exact h.next
  · extract_lets e1
    exact h.reachElapsed.modCob.next

theorem Keeps.showStore (h : Keeps s t) : Keeps s (Machine.showStore t) := by unfold Machine.showStore; exact h.wr.wr.wr

theorem Keeps.execRemapStoreWrite (h : Keeps s t) : Goes s (Machine.execRemapStoreWrite t) := by
  unfold Machine.execRemapStoreWrite
  exact .ite h.next h.modCob.showStore.next

theorem Keeps.replayOne (h : Keeps s t) {x} : Keeps s (Machine.replayOne t x) := by
  unfold Machine.replayOne
  extract_lets skip mine r r1 r2 r3
  have hr : Keeps s r.2 := h.remapWord
  have hr1 : Keeps s r1.2 := h.remapSpare
  have hr2 : Keeps s r2.2 := h.remapSpare
  have hr3 : Keeps s r3.1 := h.remapPair
  split
  · exact .ite (.ite hr h.cobEvent) h
  · exact .ite (.ite hr1 h.cobEvent) h
  · exact .ite hr2 h.cobEvent
  · exact .ite (.ite hr3 h.cobEvent) h

theorem Keeps.replayRemaps (h : Keeps s t) : Keeps s (Machine.replayRemaps t) := by
  unfold Machine.replayRemaps
  exact h.foldl (fun u a hu => hu.replayOne)

theorem Keeps.cobCmd (h : Keeps s t) {op st} : Keeps s (Machine.cobCmd op st t) := by unfold Machine.cobCmd; exact h.wr.wr.wr

theorem Keeps.execCobRestartSweep (h : Keeps s t) {cls} : Goes s (Machine.execCobRestartSweep cls t) := by
  unfold Machine.execCobRestartSweep
  extract_lets u
  have hu : Keeps s u := h.wr
  exact .ite hu.cobCmd.next hu.modCob.cobCmd.next

theorem Keeps.execCobClearRemapStore (h : Keeps s t) : Goes s (Machine.execCobClearRemapStore t) := by
  unfold Machine.execCobClearRemapStore
  exact .ite h.cobCmd.next h.modCob.showStore.cobCmd.next

theorem Keeps.execCobClearHistory (h : Keeps s t) : Goes s (Machine.execCobClearHistory t) := by
  unfold Machine.execCobClearHistory
  exact h.modCob.cobCmd.next

theorem Keeps.execBankScrubWake (h : Keeps s t) {d r b errs} : Goes s (Machine.execBankScrubWake d r b errs t) := by
  unfold Machine.execBankScrubWake
  extract_lets o k p u
  have hu : Keeps s u := by
    unfold u
    refine .foldl h (fun u1 a hu1 => ?_)
    refine .ite hu1 ?_
    extract_lets loc u2
    have hu2 : Keeps s u2 := hu1.locSpoil.locCheck
    exact hu2.modCob.rewriteWord
  exact .ite h.next (.ite h.wri.modBank.next (.ite hu.modBank.bankFollow.next h.next))

/-! The operations of Machine/UpdBase -/

theorem Keeps.modUpd (h : Keeps s t) {f} : Keeps s (State.modUpd t f) := by unfold State.modUpd; exact h.lit

theorem Keeps.updEvent (h : Keeps s t) {kind comp st} : Keeps s (Machine.updEvent kind comp st t) := by
  unfold Machine.updEvent
  extract_lets w u
  have hu : Keeps s u := h.push
  exact .ite hu.recordSt hu.record

theorem Keeps.updResult (h : Keeps s t) {outcome comp st} : Keeps s (Machine.updResult outcome comp st t) := by
  unfold Machine.updResult
  exact h.wr.wr.wr

theorem Keeps.swapComp (h : Keeps s t) {c fwd} : Keeps s (Machine.swapComp c fwd t) := by
  unfold Machine.swapComp
  extract_lets a p u _
  have hu : Keeps s u := h.modUpd
  exact .ite hu.lit hu

theorem Keeps.planDone (h : Keeps s t) {c done} : Keeps s (Machine.planDone c done t) := by
  unfold Machine.planDone
  exact h.foldl (fun u _ hu => .ite hu.wri hu)

theorem Keeps.bootRevert (h : Keeps s t) : Keeps s (Machine.bootRevert t) := by
  unfold Machine.bootRevert
  refine .ite ?_ h
  extract_lets b u u1
  have hu : Keeps s u := h.foldl (fun u2 a hu2 => hu2.swapComp.planDone)
  have hu1 : Keeps s u1 := hu.modUpd
  exact hu1.wr.wr.updResult.updEvent

/-! The operations of Machine/Modes -/

theorem Keeps.clkEvent (h : Keeps s t) {kind die unit st} : Keeps s (Machine.clkEvent kind die unit st t) := by
  unfold Machine.clkEvent
  exact h.push.record

theorem Keeps.startClocks (h : Keeps s t) : Keeps s (Machine.startClocks t) := by
  unfold Machine.startClocks
  refine .ite h ?_
  extract_lets src u _ _
  have hu : Keeps s u := h.wr.wr.wr
  exact hu.lit

theorem Keeps.tryStart (h : Keeps s t) : Keeps s (Machine.tryStart t) := by unfold Machine.tryStart; exact .ite (.ite h.startClocks h.lit) h

theorem Keeps.stopClocks (h : Keeps s t) {ref} : Keeps s (Machine.stopClocks ref t) := by
  unfold Machine.stopClocks
  extract_lets u _
  have hu : Keeps s u := h.wr.wr.wr
  exact hu.lit

theorem Keeps.startFail (h : Keeps s t) {ref st} : Keeps s (Machine.startFail ref st t) := by
  unfold Machine.startFail
  extract_lets u u1
  have hu : Keeps s u := h.stopClocks.recordSt
  have hu1 : Keeps s u1 := .ite hu.endReq hu
  split
  · exact .ite hu1.modCfg hu1.modCfg.cfgDone
  · exact hu1

theorem Keeps.clockFail (h : Keeps s t) {st} : Keeps s (Machine.clockFail st t) := by unfold Machine.clockFail; exact h.wr.startFail

theorem Keeps.showWindow (h : Keeps s t) {count} : Keeps s (Machine.showWindow count t) := by unfold Machine.showWindow; exact h.wr.wr

theorem Keeps.putBitI (h : Keeps s t) {f off k on} : Keeps s (Machine.putBitI f off k on t) := by unfold Machine.putBitI; exact h.wri

theorem Keeps.notReady (h : Keeps s t) {st} : Keeps s (Machine.notReady st t) := by
  unfold Machine.notReady
  extract_lets u _ _
  have hu : Keeps s u := h.wr.wr
  exact hu.lit

theorem Keeps.refLoss (h : Keeps s t) : Keeps s (Machine.refLoss t) := by
  unfold Machine.refLoss
  extract_lets w u u1 _
  have hu : Keeps s u := h.notReady.push
  have hu1 : Keeps s u1 := hu.wr.wr
  exact hu1.lit.fault

theorem Keeps.execOscillatorStartDelayEnd (h : Keeps s t) : Goes s (Machine.execOscillatorStartDelayEnd t) := by
  unfold Machine.execOscillatorStartDelayEnd
  split
  · exact .next (.ite h h.lit)
  · exact h.next

theorem Keeps.execStabilityWindowEnd (h : Keeps s t) {count} : Goes s (Machine.execStabilityWindowEnd count t) := by
  unfold Machine.execStabilityWindowEnd
  split
  · refine .ite h.next ?_
    extract_lets u _
    have hu : Keeps s u := h.showWindow
    exact .ite hu.lit.wr.next (.ite hu.clockFail.next hu.lit.next)
  · refine .ite ?_ h.next
    extract_lets u d
    have hu : Keeps s u := h.showWindow
    exact .next (.ite hu.refLoss hu)

theorem Keeps.restoreAvail (h : Keeps s t) : Keeps s (Machine.restoreAvail t) := by
  unfold Machine.restoreAvail
  extract_lets c g u
  have hu : Keeps s u := by
    unfold u
    clear_value c
    split
    · exact h.wr.wr.wr
    · exact h
  clear_value g
  split
  · exact .ite hu.wr.wr hu
  · exact hu

theorem Keeps.startTimebase (h : Keeps s t) : Keeps s (Machine.startTimebase t) := by unfold Machine.startTimebase; exact h.lit

theorem Keeps.keysErase (h : Keeps s t) : Keeps s (Machine.keysErase t) := by
  unfold Machine.keysErase
  extract_lets u _
  have hu : Keeps s u := h.wr
  exact hu.lit

theorem Keeps.enterLoad (h : Keeps s t) {runs} : Keeps s (Machine.enterLoad runs t) := by
  unfold Machine.enterLoad
  extract_lets _ _ u n u1 u2 u3 u4 u5 u6 u7
  have hu : Keeps s u := h.lit
  have hn : Keeps s n.2 := hu.free
  have hu1 : Keeps s u1 := hn.wr.wr
  have hu2 : Keeps s u2 := .ite hu1.keysErase hu1
  have hu3 : Keeps s u3 := hu2.wr.wr.restoreAvail
  have hu4 : Keeps s u4 := hu3.record
  have hu5 : Keeps s u5 := .ite hu4.toMode.endReq hu4.toMode
  have hu6 : Keeps s u6 := hu5.foldl (fun u8 _ hu8 => .ite hu8.wri hu8)
  have hu7 : Keeps s u7 := hu6.modUpd.bootRevert.probeStart
  exact hu7.foldl (fun u8 a hu8 => hu8.drcTrain)

theorem Keeps.loadIfReady (h : Keeps s t) {runs} : Keeps s (Machine.loadIfReady runs t) := by
  unfold Machine.loadIfReady
  exact .ite h.startTimebase.enterLoad h

theorem Keeps.execLastPllsLocked (h : Keeps s t) {locked runs} : Goes s (Machine.execLastPllsLocked locked runs t) := by
  unfold Machine.execLastPllsLocked
  exact .ite h.next (.ite h.clockFail.next h.wr.wr.loadIfReady.next)

theorem Keeps.execLastFirmwareBoot (h : Keeps s t) {okA okB runs} : Goes s (Machine.execLastFirmwareBoot okA okB runs t) := by
  unfold Machine.execLastFirmwareBoot
  refine .ite h.next ?_
  extract_lets ok b _ _
  exact .ite h.lit.loadIfReady.next (.ite h.lit.loadIfReady.next h.startFail.next)

theorem Keeps.execAutoBootDecision (h : Keeps s t) : Goes s (Machine.execAutoBootDecision t) := by
  unfold Machine.execAutoBootDecision
  refine .ite h.next ?_
  extract_lets _ u
  have hu : Keeps s u := h.lit
  refine .ite hu.next ?_
  refine .next ?_
  refine .startClocks ?_
  split
  · exact hu.modCfg
  · exact hu

theorem Keeps.execColdLoad (h : Keeps s t) {img} : Goes s (Machine.execColdLoad img t) := by
  unfold Machine.execColdLoad
  exact h.cfgGo (fun u hu => hu.coldLoad (fun u1 hu1 => hu1.tryStart))

theorem Keeps.scanRing (h : Keeps s t) : Keeps s (Machine.scanRing t) := by
  unfold Machine.scanRing
  extract_lets good bad u
  have hu : Keeps s u := h.addi.wr
  clear_value good
  split
  · exact hu.wr.wr
  · exact hu.wr.wr

theorem Keeps.eraseKeys (h : Keeps s t) : Keeps s (Machine.eraseKeys t) := by unfold Machine.eraseKeys; exact h.lit.wr

theorem Keeps.execProbeDeadline (h : Keeps s t) {bad noclk} : Goes s (Machine.execProbeDeadline bad noclk t) := by
  unfold Machine.execProbeDeadline
  refine .ite ?_ h.next
  extract_lets u u1 u2 u3 u4
  have hu : Keeps s u := h.probeJudge.trainEyes24
  have hu1 : Keeps s u1 := hu.foldl (fun u5 a hu5 => .ite hu5.wri.wri.wri.startTrim hu5)
  have hu2 : Keeps s u2 := .ite hu1.svcStart hu1
  have hu3 : Keeps s u3 := hu2.replayRemaps.scanRing
  have hu4 : Keeps s u4 := .ite hu3.eraseKeys hu3
  refine .next ?_
  split
  · exact hu4.loadBegin
  · exact hu4

theorem Keeps.moduleReset (h : Keeps s t) : Keeps s (Machine.moduleReset t) where
  pending := h.pending
  canonical c := by
    obtain ⟨-, hr, -⟩ := h.canonical c
    exact ⟨rfl, hr.filter _, .nil, .nil, .nil⟩
  planes _ u := by
    unfold activeOf
    split <;> exact Nat.two_pos

theorem Keeps.debugReset (h : Keeps s t) : Keeps s (Machine.debugReset t) := h.congrRegs (fun hr => hr.filter _) rfl rfl rfl rfl rfl

theorem Keeps.journalResume (h : Keeps s t) {power} : Keeps s (Machine.journalResume power t) := by
  unfold Machine.journalResume
  extract_lets st x
  have hx : Keeps s x.2 := by
    unfold x
    split
    · exact h
    · exact h.free
  exact .ite h.wr (.ite hx.wr.wr.wr (.ite h.wr h))

theorem Keeps.enterDormant (h : Keeps s t) {power} : Keeps s (Machine.enterDormant power t) := by
  unfold Machine.enterDormant
  extract_lets u u1 _ u2 u3 u4 u5 u6
  have hu : Keeps s u := h.toMode
  have hu1 : Keeps s u1 := hu.record
  have hu2 : Keeps s u2 := .ite hu1.lit hu1
  have hu3 : Keeps s u3 := hu2.loseSessions.moduleReset.journalResume
  have hu4 : Keeps s u4 := hu3.wr.wr.wr
  have hu5 : Keeps s u5 := hu4.wr.wr.wr
  have hu6 : Keeps s u6 := hu5.wr
  exact .ite hu6 hu6.debugReset.wr

theorem Keeps.reqDormant (h : Keeps s t) : Keeps s (Machine.reqDormant t) := by
  unfold Machine.reqDormant
  exact .ite (.ite h.stopClocks.endReq h.endReq) h.enterDormant

theorem Keeps.execModeReqDormant (h : Keeps s t) : Goes s (Machine.execModeReqDormant t) := by
  unfold Machine.execModeReqDormant
  exact h.reqDormant.next

theorem Keeps.beginReq (h : Keeps s t) {n} : Keeps s (Machine.beginReq n t) := by
  unfold Machine.beginReq
  extract_lets u _
  have hu : Keeps s u := h.wr
  exact hu.lit

theorem Keeps.reqLoad (h : Keeps s t) : Keeps s (Machine.reqLoad t) := by unfold Machine.reqLoad; exact .ite h (.ite h.beginReq.tryStart h.endReq)

theorem Keeps.execModeReqLoad (h : Keeps s t) : Goes s (Machine.execModeReqLoad t) := by unfold Machine.execModeReqLoad; exact h.reqLoad.next

theorem Keeps.reqHold (h : Keeps s t) : Keeps s (Machine.reqHold t) := by
  unfold Machine.reqHold
  refine .ite h ?_
  refine .ite ?_ ?_
  · extract_lets u _
    have hu : Keeps s u := h.beginReq
    exact hu.lit
  · refine .ite ?_ h.endReq
    extract_lets u
    have hu : Keeps s u := h.beginReq
    exact hu.lit

theorem Keeps.execModeReqHold (h : Keeps s t) : Goes s (Machine.execModeReqHold t) := by unfold Machine.execModeReqHold; exact h.reqHold.next

theorem Keeps.runBegin (h : Keeps s t) {auto} : Keeps s (Machine.runBegin auto t) := by
  unfold Machine.runBegin
  extract_lets st u _
  have hu : Keeps s u := h.beginReq.clearFreeze
  exact .ite h.endReq hu.lit

theorem Keeps.reqRun (h : Keeps s t) : Keeps s (Machine.reqRun t) := by unfold Machine.reqRun; exact .ite h (.ite h.runBegin h.endReq)

theorem Keeps.execModeReqRun (h : Keeps s t) : Goes s (Machine.execModeReqRun t) := by unfold Machine.execModeReqRun; exact h.reqRun.next

theorem Keeps.modeWrite (h : Keeps s t) {n} : Keeps s (Machine.modeWrite n t) := by
  unfold Machine.modeWrite
  split
  · exact h.reqDormant
  · exact h.reqLoad
  · exact h.reqHold
  · exact h.reqRun
  · exact .ite h h.endReq

theorem Keeps.runStart (h : Keeps s t) : Keeps s (Machine.runStart t) := by
  unfold Machine.runStart
  extract_lets u _ u1 u2 u3
  have hu : Keeps s u := h.toMode.lossEnd
  have hu1 : Keeps s u1 := hu.lit
  have hu2 : Keeps s u2 := hu1.foldl (fun u4 a hu4 => hu4.startNets)
  have hu3 : Keeps s u3 := by
    unfold u3
    refine .foldl hu2 (fun u4 a hu4 => ?_)
    extract_lets c
    exact .ite hu4.startReset (.ite hu4.resumeCore hu4)
  exact .ite hu3.clkEvent hu3

theorem Keeps.execRunStartAtTs (h : Keeps s t) : Goes s (Machine.execRunStartAtTs t) := by
  unfold Machine.execRunStartAtTs
  exact .ite h.reach.runStart.endReq.pump.next h.next

theorem Keeps.holdDone (h : Keeps s t) : Keeps s (Machine.holdDone t) := by unfold Machine.holdDone; exact .ite h.endReq h

theorem Keeps.stopDesign (h : Keeps s t) : Keeps s (Machine.stopDesign t) := by
  unfold Machine.stopDesign
  extract_lets u u1 u2 _
  have hu : Keeps s u := h.safePins
  have hu1 : Keeps s u1 := hu.foldl (fun u3 _ hu3 => hu3.foldl (fun u4 _ hu4 => hu4.stopRegion))
  have hu2 : Keeps s u2 := hu1.foldl (fun u3 _ hu3 => hu3.stopCore)
  exact hu2.lit

theorem Keeps.execHoldAtTh (h : Keeps s t) : Goes s (Machine.execHoldAtTh t) := by
  unfold Machine.execHoldAtTh
  split
  · exact .ite h.reach.toMode.stopDesign.holdDone.next h.next
  · exact h.next

theorem Keeps.execModeReqCompleteCoreStop (h : Keeps s t) {d r} : Goes s (Machine.execModeReqCompleteCoreStop d r t) := by
  unfold Machine.execModeReqCompleteCoreStop
  exact h.stopCheck.holdDone.next

theorem Keeps.acknowledge (h : Keeps s t) {auto noclk runs} : Keeps s (Machine.acknowledge auto noclk runs t) := by
  unfold Machine.acknowledge
  extract_lets _ u st
  have hu : Keeps s u := .beginReq h.lit
  refine .ite hu.endReq ?_
  split
  next v ok e =>
    have hv : Keeps s v := .fst (hu.foldlFst (p := (u, true)) fun _ _ hr => hr.retrainEye.left) e
    extract_lets w _ x
    have hw : Keeps s w := hv.foldl fun _ _ hy => hy.drcTrain
    have hx : Keeps s x := hw.lit
    exact .ite hv.endReq (.ite hw.endReq (.svcStart (hx.foldl fun _ _ hy => hy.modDie)))

theorem Keeps.execSafeAcknowledgment (h : Keeps s t) {noclk runs} : Goes s (Machine.execSafeAcknowledgment noclk runs t) := by
  unfold Machine.execSafeAcknowledgment
  exact .ite h.reqHold.next (.ite h.next h.acknowledge.next)

theorem Keeps.safeToHold (h : Keeps s t) : Keeps s (Machine.safeToHold t) := by
  unfold Machine.safeToHold
  extract_lets auto u
  have hu : Keeps s u := h.toMode.stopDesign.endReq
  exact .ite hu.clkEvent.runBegin hu

theorem Keeps.afterService (h : Keeps s t) : Keeps s (Machine.afterService t) := by
  unfold Machine.afterService
  refine .ite ?_ h
  extract_lets u
  have hu : Keeps s u := h.modWelt
  exact .ite hu.loadToHold.lossEnd (.ite hu.safeToHold hu)

theorem Keeps.execServiceModeChange (h : Keeps s t) : Goes s (Machine.execServiceModeChange t) := by
  unfold Machine.execServiceModeChange
  exact .ite h.svcFinish.afterService.next h.next

theorem Keeps.execServiceChangeDrainTimeout (h : Keeps s t) : Goes s (Machine.execServiceChangeDrainTimeout t) := by
  unfold Machine.execServiceChangeDrainTimeout
  exact .ite h.svcAbort.svcFinish.afterService.next h.next

theorem Keeps.execAutoResume (h : Keeps s t) {noclk runs} : Goes s (Machine.execAutoResume noclk runs t) := by
  unfold Machine.execAutoResume
  refine .ite ?_ h.next
  extract_lets u _ u1
  have hu : Keeps s u := h.reachElapsed
  have hu1 : Keeps s u1 := hu.lit
  exact .ite hu1.acknowledge.next hu.next

theorem Keeps.execReferenceLoss (h : Keeps s t) : Goes s (Machine.execReferenceLoss t) := by
  unfold Machine.execReferenceLoss
  exact .ite h.next h.refLoss.next

theorem Keeps.execPllUnlock (h : Keeps s t) {last d n} : Goes s (Machine.execPllUnlock last d n t) := by
  unfold Machine.execPllUnlock
  refine .ite h.next ?_
  refine .ite ?_ ?_
  · refine .ite h.next ?_
    extract_lets w
    exact h.notReady.push.wr.fault.next
  · refine .ite h.next ?_
    extract_lets w u u1
    have hu : Keeps s u := h.notReady.push
    have hu1 : Keeps s u1 := .ite hu.wri (.ite hu.wri hu.putBitI)
    exact hu1.fault.next

theorem Keeps.execRegionClockFailure (h : Keeps s t) {d r k} : Goes s (Machine.execRegionClockFailure d r k t) := by
  unfold Machine.execRegionClockFailure
  refine .ite h.next ?_
  extract_lets w
  exact h.notReady.push.fault.next

theorem Keeps.execSafeStabilityWindow (h : Keeps s t) {count locks} : Goes s (Machine.execSafeStabilityWindow count locks t) := by
  unfold Machine.execSafeStabilityWindow
  refine .ite h.next ?_
  extract_lets u n lost _ u1 u2 u3 _ _ u4
  have hu : Keeps s u := h.showWindow
  have hu1 : Keeps s u1 := hu.lit
  have hu2 : Keeps s u2 := hu1.wr.wr.wr.wr
  have hu3 : Keeps s u3 := hu2.foldl (fun u5 _ hu5 => hu5.wri.wri.wri)
  have hu4 : Keeps s u4 := hu3.lit
  exact .ite (.next (.lossCheck (.ite hu4.clkEvent hu4))) hu1.next

theorem Keeps.setRtc (h : Keeps s t) {ns} : Keeps s (Machine.setRtc ns t) := by unfold Machine.setRtc; exact h.lit.wr

theorem Keeps.execRtcSync (h : Keeps s t) : Goes s (Machine.execRtcSync t) := by unfold Machine.execRtcSync; exact .ite h.setRtc.next h.next

theorem Keeps.tbDone (h : Keeps s t) {st} : Keeps s (Machine.tbDone st t) := by unfold Machine.tbDone; exact h.wr.wr

theorem Keeps.tbGo (h : Keeps s t) {n f} (hf : ∀ u, Keeps s u → Keeps s (f u)) : Keeps s (Machine.tbGo n f t) := .ite h (h.onGo hf)

theorem Keeps.tbStep (h : Keeps s t) : Keeps s (Machine.tbStep t) := by
  unfold Machine.tbStep
  exact h.tbGo (fun u hu => .ite hu.tbDone hu.lit.clkEvent.tbDone)

theorem Keeps.execTimebaseStep (h : Keeps s t) : Goes s (Machine.execTimebaseStep t) := by unfold Machine.execTimebaseStep; exact h.tbStep.next

theorem Keeps.rtcFromRegs (h : Keeps s t) : Keeps s (Machine.rtcFromRegs t) := by
  unfold Machine.rtcFromRegs
  exact h.tbGo (fun u hu => hu.setRtc.clkEvent.tbDone)

theorem Keeps.execRtcSetFromRegisters (h : Keeps s t) : Goes s (Machine.execRtcSetFromRegisters t) := by
  unfold Machine.execRtcSetFromRegisters
  exact h.rtcFromRegs.next

theorem Keeps.rtcFromTb (h : Keeps s t) : Keeps s (Machine.rtcFromTb t) := by
  unfold Machine.rtcFromTb
  exact h.tbGo (fun u hu => hu.setRtc.clkEvent.tbDone)

theorem Keeps.execRtcSetFromTimebase (h : Keeps s t) : Goes s (Machine.execRtcSetFromTimebase t) := by
  unfold Machine.execRtcSetFromTimebase
  exact h.rtcFromTb.next

theorem Keeps.crossDrop (h : Keeps s t) {kind d unit} : Keeps s (Machine.crossDrop kind d unit t).2 := by
  unfold Machine.crossDrop
  split
  · extract_lets c mine
    exact h.modCore.modWelt.right
  · exact h.modPcie.right
  · exact h.modBundle.right
  · exact h

theorem Keeps.execResetIsolationClamp (h : Keeps s t) {kind d unit extra} : Goes s (Machine.execResetIsolationClamp kind d unit extra t) := by
  unfold Machine.execResetIsolationClamp
  extract_lets id x u _ u1
  have hx : Keeps s x.2 := h.crossDrop
  have hu : Keeps s u := hx
  have hu1 : Keeps s u1 := hx.lit
  exact .ite h.next hu1.push.next

theorem Keeps.execResetIsolationRelease (h : Keeps s t) {kind d unit} : Goes s (Machine.execResetIsolationRelease kind d unit t) := by
  unfold Machine.execResetIsolationRelease
  exact .ite h.next h.lit.pump.next

/-! The operations of Machine/Health -/

theorem Keeps.enterSector (h : Keeps s t) {ok p} : Keeps s (Machine.enterSector ok p t) := by
  unfold Machine.enterSector
  refine .ite h ?_
  extract_lets k u u1 _ u2
  have hu : Keeps s u := h.lit
  have hu1 : Keeps s u1 := hu.inci
  have hu2 : Keeps s u2 := hu1.lit
  exact .ite hu hu2.lit

theorem Keeps.putRecord (h : Keeps s t) {r ok eraseOk} : Keeps s (Machine.putRecord r ok eraseOk t) := by
  unfold Machine.putRecord
  extract_lets p u _
  have hu : Keeps s u := h.enterSector
  exact hu.lit

theorem Keeps.showTail (h : Keeps s t) : Keeps s (Machine.showTail t) := by
  unfold Machine.showTail
  split
  · exact h.wr
  · exact h.wr

theorem Keeps.execBlackBoxRecordProgram (h : Keeps s t) {ok1 ok2 eraseOk} : Goes s (Machine.execBlackBoxRecordProgram ok1 ok2 eraseOk t) := by
  unfold Machine.execBlackBoxRecordProgram
  split
  · exact h.next
  · refine .ite h.next ?_
    extract_lets _ u u1 u2 u3 _
    have hu : Keeps s u := h.lit.putRecord
    have hu1 : Keeps s u1 := .ite hu hu.putRecord
    have hu2 : Keeps s u2 := hu1.wr
    have hu3 : Keeps s u3 := hu2.wr.showTail
    exact .ite hu3.next hu3.lit.record.next

theorem Keeps.execRateLimitSecondEnd (h : Keeps s t) : Goes s (Machine.execRateLimitSecondEnd t) := by
  unfold Machine.execRateLimitSecondEnd
  extract_lets u l _
  have hu : Keeps s u := h.pass
  exact .next (hu.lit.foldl (fun u1 _ hu1 => hu1.record))

theorem Keeps.bbxDone (h : Keeps s t) {st} : Keeps s (Machine.bbxDone st t) := by unfold Machine.bbxDone; exact h.wr.wr

theorem Keeps.bbxGo (h : Keeps s t) {n f} (hf : ∀ u, Keeps s u → Keeps s (f u)) : Keeps s (Machine.bbxGo n f t) := .ite h (h.onGo hf)

theorem Keeps.ringBytes (h : Keeps s t) {seq} : Keeps s (Machine.ringBytes seq t).2 := by
  unfold Machine.ringBytes
  split
  · exact h
  · exact h
  · exact h.freeWide

theorem Keeps.bbxCopy (h : Keeps s t) : Keeps s (Machine.bbxCopy t) := by
  unfold Machine.bbxCopy
  refine .bbxGo h (fun u hu => ?_)
  extract_lets seq n off
  refine .ite hu.bbxDone ?_
  refine .bbxDone ?_
  refine .foldl hu (fun u1 a hu1 => ?_)
  extract_lets x
  have hx : Keeps s x.2 := hu1.ringBytes
  exact hx.dmaWrite

theorem Keeps.execBbxCopy (h : Keeps s t) : Goes s (Machine.execBbxCopy t) := by unfold Machine.execBbxCopy; exact h.bbxCopy.next

theorem Keeps.bbxHostRecord (h : Keeps s t) : Keeps s (Machine.bbxHostRecord t) := by
  unfold Machine.bbxHostRecord
  refine .bbxGo h (fun u hu => ?_)
  extract_lets c off
  exact .ite hu.bbxDone hu.record.bbxDone

theorem Keeps.execBbxHostRecord (h : Keeps s t) : Goes s (Machine.execBbxHostRecord t) := by
  unfold Machine.execBbxHostRecord
  exact h.bbxHostRecord.next

theorem Keeps.bbxErase (h : Keeps s t) : Keeps s (Machine.bbxErase t) := by
  unfold Machine.bbxErase
  exact h.bbxGo (fun u hu => .ite hu.bbxDone (.ite hu.bbxDone (.ite hu.bbxDone hu.lit.showTail.record.bbxDone)))

theorem Keeps.execBbxErase (h : Keeps s t) : Goes s (Machine.execBbxErase t) := by unfold Machine.execBbxErase; exact h.bbxErase.next

theorem Keeps.readTemp (h : Keeps s t) {d t1 r} : Keeps s (Machine.readTemp d t1 r t) := by
  unfold Machine.readTemp
  extract_lets x v lim wrn hy cnt y y1 u u1 _ u2 u3
  have hu : Keeps s u := h.wri.wri
  have hu1 : Keeps s u1 := .ite hu.wri hu
  have hu2 : Keeps s u2 := hu1.lit
  have hu3 : Keeps s u3 := hu2.wri
  exact .ite hu3 hu3.record

theorem Keeps.groupTemp (h : Keeps s t) {s0 g} : Keeps s (Machine.groupTemp s0 g t) := by
  unfold Machine.groupTemp
  extract_lets ds u
  have hu : Keeps s u := .ite h.modPol h.modPol
  split
  · exact .ite hu.polLower hu
  · exact hu

theorem Keeps.execTemperatureReading (h : Keeps s t) {temps last} : Goes s (Machine.execTemperatureReading temps last t) := by
  unfold Machine.execTemperatureReading
  refine .ite h.next ?_
  extract_lets s0 u
  have hs0 : Keeps s s0 := h
  have hu : Keeps s u := h.wr.foldl (fun u1 a hu1 => hu1.readTemp)
  exact .next (.lossCheck (hu.foldl (fun u1 _ hu1 => hu1.groupTemp)))

theorem Keeps.execGearPolicyStep (h : Keeps s t) {g} : Goes s (Machine.execGearPolicyStep g t) := by
  unfold Machine.execGearPolicyStep
  refine .ite h.next ?_
  split
  · exact h.reachElapsed.polLower.next
  · split
    · exact h.next
    · refine .ite h.next ?_
      extract_lets u
      have hu : Keeps s u := h.reachElapsed
      exact hu.polSet.modPol.next

theorem Keeps.execDieOvertemp (h : Keeps s t) {d off} : Goes s (Machine.execDieOvertemp d off t) := by
  unfold Machine.execDieOvertemp
  refine .ite h.next ?_
  extract_lets u u1
  have hu : Keeps s u := h.modDie.wri
  have hu1 : Keeps s u1 := hu.fault
  exact .next (.ite hu1.dieOff hu1)

theorem Keeps.execAvailabilityCheckpoint (h : Keeps s t) : Goes s (Machine.execAvailabilityCheckpoint t) := by
  unfold Machine.execAvailabilityCheckpoint
  exact .ite h.next h.record.next

/-! The operations of Machine/Power -/

theorem Keeps.pwrEvent (h : Keeps s t) {kind die st} : Keeps s (Machine.pwrEvent kind die st t) := by unfold Machine.pwrEvent; exact h.push

theorem Keeps.modPower (h : Keeps s t) {f} : Keeps s (State.modPower t f) := by unfold State.modPower; exact h.lit

theorem Keeps.mainsLost (h : Keeps s t) {ov} : Keeps s (Machine.mainsLost ov t) := by
  unfold Machine.mainsLost
  refine .ite h ?_
  extract_lets gasp u u1 u2
  have hu : Keeps s u := h.wr.wr.wr
  have hu1 : Keeps s u1 := hu.pwrEvent
  have hu2 : Keeps s u2 := .ite hu1.wr.pwrEvent hu1
  exact hu2.record.gearMainsLost

theorem Keeps.execMainsLost (h : Keeps s t) {ov} : Goes s (Machine.execMainsLost ov t) := by unfold Machine.execMainsLost; exact h.mainsLost.next

theorem Keeps.mainsBack (h : Keeps s t) : Keeps s (Machine.mainsBack t) := by
  unfold Machine.mainsBack
  exact .ite h h.wr.wr.pwrEvent.record.gearNextAll

theorem Keeps.execMainsRestored (h : Keeps s t) : Goes s (Machine.execMainsRestored t) := by
  unfold Machine.execMainsRestored
  exact .next (.ite h.mainsBack h)

theorem Keeps.showMeas (h : Keeps s t) {m} : Keeps s (Machine.showMeas m t) := by
  unfold Machine.showMeas
  extract_lets cap e u u1 u2 u3 u4 u5
  have hu : Keeps s u := h.wr.wr.wr
  have hu1 : Keeps s u1 := hu.wr.wr
  have hu2 : Keeps s u2 := hu1.wr.wr
  have hu3 : Keeps s u3 := hu2.wr.wr.wr
  have hu4 : Keeps s u4 := hu3.wr.wr
  have hu5 : Keeps s u5 := by
    unfold u5
    refine .ite ?_ hu4
    refine .foldl hu4 (fun u6 a hu6 => ?_)
    extract_lets n u7
    have hu7 : Keeps s u7 := hu6.wri
    exact .ite hu7.wri hu7
  exact hu5.foldl (fun u6 _ hu6 => hu6.wri.wri)

theorem Keeps.markLate (h : Keeps s t) : Keeps s (Machine.markLate t) := by unfold Machine.markLate; exact .ite h.lit.modPower h

theorem Keeps.thresholds (h : Keeps s t) {m} : Keeps s (Machine.thresholds m t) := by
  unfold Machine.thresholds
  extract_lets low u u1
  have hu : Keeps s u := h.modPower
  have hu1 : Keeps s u1 := .ite hu.wr.pwrEvent.record (.ite hu.wr hu)
  exact .ite hu1.wr.pwrEvent (.ite hu1.wr.pwrEvent.markLate.tryStart hu1)

theorem Keeps.execHoldupTest (h : Keeps s t) {m} : Goes s (Machine.execHoldupTest m t) := by
  unfold Machine.execHoldupTest
  extract_lets u
  have hu : Keeps s u := h.showMeas
  exact .next (.ite hu.thresholds hu)

theorem Keeps.powerEndsReq (h : Keeps s t) : Keeps s (Machine.powerEndsReq t) := by
  have hu : Keeps s ((t.wr GLB_MODE_BUSY 0).wr CFG_CMD_BUSY 0) := h.wr.wr
  exact hu.congr rfl rfl rfl rfl rfl rfl rfl rfl

theorem Keeps.execPowerLossDormant (h : Keeps s t) : Goes s (Machine.execPowerLossDormant t) := by
  unfold Machine.execPowerLossDormant
  refine .ite h.next ?_
  extract_lets m u u1
  have hu : Keeps s u := .ite h (.enterDormant (.ite h.wr.lossBegin.wr h))
  have hu1 : Keeps s u1 := .powerEndsReq (.ite hu.stopClocks hu)
  exact hu1.wr.wr.modPower.next

theorem Keeps.alwaysOnReset (h : Keeps s t) : Keeps s (Machine.alwaysOnReset t) := h.congrRegs (fun hr => hr.filter _) rfl rfl rfl rfl rfl

theorem Keeps.batClose (h : Keeps s t) : Keeps s (Machine.batClose t) := by unfold Machine.batClose; exact h.wr.wr

theorem Keeps.execStandbyOutputStop (h : Keeps s t) : Goes s (Machine.execStandbyOutputStop t) := by
  unfold Machine.execStandbyOutputStop
  refine .ite h.next ?_
  extract_lets absent u
  have hu : Keeps s u := h.wr.batClose.debugReset.wr
  exact .next (.ite hu.alwaysOnReset.wr hu)

theorem Keeps.execSupplyStart (h : Keeps s t) {cap} : Goes s (Machine.execSupplyStart cap t) := by
  unfold Machine.execSupplyStart
  refine .ite h.next ?_
  extract_lets u u1 u2
  have hu : Keeps s u := by
    unfold u
    split
    · exact h.reachElapsed
    · exact h
  have hu1 : Keeps s u1 := hu.mainsBack
  have hu2 : Keeps s u2 := hu1.wr.wr.wr.wr
  exact hu2.modPower.next

theorem Keeps.execSupplyStartFailure (h : Keeps s t) : Goes s (Machine.execSupplyStartFailure t) := by
  unfold Machine.execSupplyStartFailure
  exact .ite h.next h.recordSt.next

theorem Keeps.stageStop (h : Keeps s t) {why} : Keeps s (Machine.stageStop why t) := by unfold Machine.stageStop; exact h.modPower.mainsLost

theorem Keeps.execSupplyOvertemp (h : Keeps s t) {stop} : Goes s (Machine.execSupplyOvertemp stop t) := by
  unfold Machine.execSupplyOvertemp
  extract_lets u u1
  have hu : Keeps s u := h.wr.pwrEvent
  have hu1 : Keeps s u1 := .ite h (.ite hu.polLowerAll hu)
  exact .next (.ite hu1.stageStop hu1)

theorem Keeps.execSupplyOverload (h : Keeps s t) : Goes s (Machine.execSupplyOverload t) := by
  unfold Machine.execSupplyOverload
  exact .ite h.next h.stageStop.next

theorem Keeps.execSupplyStageRestart (h : Keeps s t) : Goes s (Machine.execSupplyStageRestart t) := by
  unfold Machine.execSupplyStageRestart
  exact .ite h.next h.modPower.mainsBack.next

theorem Keeps.execDieOvercurrent (h : Keeps s t) {d} : Goes s (Machine.execDieOvercurrent d t) := by
  unfold Machine.execDieOvercurrent
  refine .ite h.next ?_
  extract_lets w
  exact h.push.fault.dieOff.next

theorem Keeps.execRegulatorLinkLost (h : Keeps s t) {d} : Goes s (Machine.execRegulatorLinkLost d t) := by
  unfold Machine.execRegulatorLinkLost
  refine .ite h.next ?_
  extract_lets w
  exact h.modDie.push.fault.next

theorem Keeps.execRegulatorLinkRestored (h : Keeps s t) {d} : Goes s (Machine.execRegulatorLinkRestored d t) := by
  unfold Machine.execRegulatorLinkRestored
  exact h.modDie.lossCheck.next

theorem Keeps.execRailFault (h : Keeps s t) {rail d} : Goes s (Machine.execRailFault rail d t) := by
  unfold Machine.execRailFault
  extract_lets die id w u
  have hu : Keeps s u := h.modPower.push
  exact .ite h.next hu.fault.next

theorem Keeps.execRailBackInBand (h : Keeps s t) {rail d} : Goes s (Machine.execRailBackInBand rail d t) := by
  unfold Machine.execRailBackInBand
  exact .ite h.modDie.lossCheck.next h.modPower.lossCheck.next

theorem Keeps.execCoinCellMeasure (h : Keeps s t) {mv} : Goes s (Machine.execCoinCellMeasure mv t) := by
  unfold Machine.execCoinCellMeasure
  extract_lets was u u1
  have hu : Keeps s u := h.wr.wr.wr
  have hu1 : Keeps s u1 := hu.modPower
  exact .next (.ite hu1.pwrEvent hu1)

theorem Keeps.secEvent (h : Keeps s t) {kind st} : Keeps s (Machine.secEvent kind st t) := by unfold Machine.secEvent; exact h.push

theorem Keeps.execCoinCellPresenceChange (h : Keeps s t) {present} : Goes s (Machine.execCoinCellPresenceChange present t) := by
  unfold Machine.execCoinCellPresenceChange
  extract_lets now u win u1 u2
  have hu : Keeps s u := h.wr
  have hu1 : Keeps s u1 := .ite hu.secEvent hu
  have hu2 : Keeps s u2 := hu1.putBit
  exact .ite h.next (.next (.ite hu2.alwaysOnReset.wr hu2))

theorem Keeps.execFanFailure (h : Keeps s t) {f rpm} : Goes s (Machine.execFanFailure f rpm t) := by
  unfold Machine.execFanFailure
  refine .ite h.next ?_
  extract_lets was u
  have hu : Keeps s u := h.wri.wri
  exact .next (.ite hu hu.pwrEvent.fanPolicy)

/-! The operations of Machine/Sazor -/

theorem Keeps.szlEvent (h : Keeps s t) {kind b st} : Keeps s (Machine.szlEvent kind b st t) := by unfold Machine.szlEvent; exact h.push

theorem Keeps.setSzl (h : Keeps s t) {b v} : Keeps s (Machine.setSzl b v t) := by unfold Machine.setSzl; exact h.wri

theorem Keeps.streamZero (h : Keeps s t) {b} : Keeps s (Machine.streamZero b t) := h.congrExpress (fun hl => hl.filter _) id id rfl rfl rfl rfl rfl

theorem Keeps.showStr (h : Keeps s t) {b} : Keeps s (Machine.showStr b t) := by
  unfold Machine.showStr
  extract_lets x up u
  have hu : Keeps s u := h.wri
  exact .ite hu hu.streamZero

theorem Keeps.streamLoss (h : Keeps s t) {b cycles} : Keeps s (Machine.streamLoss b cycles t) := by
  unfold Machine.streamLoss
  extract_lets u
  have hu : Keeps s u := h.addi.streamZero.szlEvent
  exact .ite hu.fault hu

theorem Keeps.bundleFail (h : Keeps s t) {b} : Keeps s (Machine.bundleFail b t) := by
  unfold Machine.bundleFail
  extract_lets mine l posted u u1
  have hu : Keeps s u := h.foldl (fun u2 _ hu2 => hu2.szlEvent)
  have hu1 : Keeps s u1 := hu.modBundle
  exact .pump (hu1.modWelt.foldl (fun u2 _ hu2 => hu2.refuse))

theorem Keeps.execBundleFailCompletion (h : Keeps s t) {b} : Goes s (Machine.execBundleFailCompletion b t) := by
  unfold Machine.execBundleFailCompletion
  exact .ite h.bundleFail.next h.next

theorem Keeps.szlTrained (h : Keeps s t) {b t1 x} : Keeps s (Machine.szlTrained b t1 x t) := by
  unfold Machine.szlTrained
  extract_lets o w deg fresh narrow u u1 u2 u3 u4 u5 u6 u7
  have hu : Keeps s u := h.modBundle
  have hu1 : Keeps s u1 := hu.wri.wri.wri
  have hu2 : Keeps s u2 := hu1.wri.wri
  have hu3 : Keeps s u3 := hu2.wri.wri
  have hu4 : Keeps s u4 := hu3.wri.wri
  have hu5 : Keeps s u5 := hu4.wri.wri
  have hu6 : Keeps s u6 := hu5.setSzl.szlEvent
  have hu7 : Keeps s u7 := .ite hu6.szlEvent hu6
  exact hu7.showStr.bundleSendAll.pump

theorem Keeps.szlFailed (h : Keeps s t) {b} : Keeps s (Machine.szlFailed b t) := by
  unfold Machine.szlFailed
  extract_lets u u1
  have hu : Keeps s u := h.setSzl.wri.szlEvent
  have hu1 : Keeps s u1 := .ite hu hu.recordSt.modBundle
  exact hu1.showStr.bundleFail

theorem Keeps.execSazorTraining (h : Keeps s t) {b t1} : Goes s (Machine.execSazorTraining b t1 t) := by
  unfold Machine.execSazorTraining
  extract_lets st
  refine .ite h.next ?_
  split
  · exact h.szlTrained.next
  · exact h.szlFailed.next

theorem Keeps.execSazorTrainingRetry (h : Keeps s t) {b} : Goes s (Machine.execSazorTrainingRetry b t) := by
  unfold Machine.execSazorTrainingRetry
  exact .ite h.pass.setSzl.next h.next

theorem Keeps.szlRetrain (h : Keeps s t) {b} : Keeps s (Machine.szlRetrain b t) := by
  unfold Machine.szlRetrain
  exact .ite h.setSzl.szlEvent.showStr h

theorem Keeps.execSazorRetrain (h : Keeps s t) {b} : Goes s (Machine.execSazorRetrain b t) := by
  unfold Machine.execSazorRetrain
  exact h.szlRetrain.next

theorem Keeps.szlBctlWrite (h : Keeps s t) {b v} : Keeps s (Machine.szlBctlWrite b v t) := by
  unfold Machine.szlBctlWrite
  extract_lets o was u u1 u2
  have hu : Keeps s u := h.wri.wri.wri
  have hu1 : Keeps s u1 := hu.wri.wri.wri
  have hu2 : Keeps s u2 := hu1.wri
  exact .ite hu2.setSzl.showStr.bundleFail (.ite (.ite hu2.setSzl hu2.setSzl) (.ite hu2.szlRetrain hu2))

theorem Keeps.szlReplay (h : Keeps s t) {b} : Keeps s (Machine.szlReplay b t) := by
  unfold Machine.szlReplay
  split
  · exact h
  · extract_lets a n u
    have hu : Keeps s u := h.inci.modBundle
    exact .ite hu.szlEvent.szlRetrain hu

theorem Keeps.execFlitReplay (h : Keeps s t) {b} : Goes s (Machine.execFlitReplay b t) := by
  unfold Machine.execFlitReplay
  exact .ite h.szlReplay.next h.next

theorem Keeps.remoteResp (h : Keeps s t) {b r} : Keeps s (Machine.remoteResp b r t) := by
  unfold Machine.remoteResp
  extract_lets mine
  split
  · exact h.modWelt
  · exact h.weltLog

theorem Keeps.flitIn (h : Keeps s t) {b f} : Keeps s (Machine.flitIn b f t) := by
  unfold Machine.flitIn
  extract_lets last u
  have hu : Keeps s u := h.modBundle
  exact .ite hu (.ite hu.modBundle hu.modBundle.remoteResp)

theorem Keeps.execFlitReceive (h : Keeps s t) {b f ack nak crq crs crcOk cw} : Goes s (Machine.execFlitReceive b f ack nak crq crs crcOk cw t) := by
  unfold Machine.execFlitReceive
  refine .ite h.next ?_
  extract_lets o u u1 u2 u3 u4
  have hu : Keeps s u := h.wri
  have hu1 : Keeps s u1 := .ite hu.inci (.ite hu.inci hu)
  have hu2 : Keeps s u2 := hu1.modBundle
  have hu3 : Keeps s u3 := .ite hu2.szlReplay hu2
  have hu4 : Keeps s u4 := .ite (.ite hu3.flitIn hu3) hu3
  exact .ite hu1.modBundle.next hu4.bundleSendAll.next

theorem Keeps.execIdleAckTimer (h : Keeps s t) {b} : Goes s (Machine.execIdleAckTimer b t) := by
  unfold Machine.execIdleAckTimer
  extract_lets x
  exact .ite h.modBundle.next h.next

theorem Keeps.execBridgeRequest (h : Keeps s t) {q} : Goes s (Machine.execBridgeRequest q t) := by
  unfold Machine.execBridgeRequest
  exact .ite h.inject.next h.next

theorem Keeps.remoteInject (h : Keeps s t) {b q} : Keeps s (Machine.remoteInject b q t) := by
  unfold Machine.remoteInject
  extract_lets e
  refine .ite h.inject ?_
  split
  · exact h.modBundle
  · exact h.modBundle.inject

theorem Keeps.execRemoteRequestAdmission (h : Keeps s t) {b} : Goes s (Machine.execRemoteRequestAdmission b t) := by
  unfold Machine.execRemoteRequestAdmission
  extract_lets x
  split
  · exact h.modBundle.remoteInject.next
  · extract_lets u u1
    have hu : Keeps s u := h.modBundle
    have hu1 : Keeps s u1 := hu.szlEvent
    exact .ite hu.remoteInject.next (.next (.ite hu1 hu1.bundleSend))
  · exact h.next

theorem Keeps.execStreamCycleLoss (h : Keeps s t) {b cycles} : Goes s (Machine.execStreamCycleLoss b cycles t) := by
  unfold Machine.execStreamCycleLoss
  extract_lets u
  have hu : Keeps s u := h.inci
  exact .ite hu.streamLoss.next hu.next

theorem Keeps.execStreamTagMismatch (h : Keeps s t) {b stag gear cycles} : Goes s (Machine.execStreamTagMismatch b stag gear cycles t) := by
  unfold Machine.execStreamTagMismatch
  refine .ite h.next ?_
  refine .ite h.modBundle.showStr.next ?_
  extract_lets was u
  have hu : Keeps s u := h.addi.modBundle.showStr
  exact .next (.ite hu hu.szlEvent)

theorem Keeps.execReflockWindowEnd (h : Keeps s t) {b ppb cycles} : Goes s (Machine.execReflockWindowEnd b ppb cycles t) := by
  unfold Machine.execReflockWindowEnd
  extract_lets st was ok u
  have hu : Keeps s u := h.wri.showStr
  exact .ite h.next (.ite hu.streamLoss.next hu.next)

theorem Keeps.execSazorPowerIdleTimer (h : Keeps s t) {b rx} : Goes s (Machine.execSazorPowerIdleTimer b rx t) := by
  unfold Machine.execSazorPowerIdleTimer
  extract_lets o x req
  exact .ite h.next (.ite (.next (.ite h.wri h)) (.ite h.next (.ite h.wri.next (.ite h.wri.next h.next))))

theorem Keeps.szlWake (h : Keeps s t) {b} : Keeps s (Machine.szlWake b t) := by unfold Machine.szlWake; exact .ite h.wri.bundleSendAll h

theorem Keeps.execSazorTxWake (h : Keeps s t) {b} : Goes s (Machine.execSazorTxWake b t) := by
  unfold Machine.execSazorTxWake
  extract_lets x
  exact .ite h.szlWake.next h.next

theorem Keeps.szlPwrWrite (h : Keeps s t) {b v} : Keeps s (Machine.szlPwrWrite b v t) := by
  unfold Machine.szlPwrWrite
  extract_lets o was req u
  have hu : Keeps s u := h.wri.wri.wri
  exact .ite (.bundleFail (.showStr (.wri (.ite hu.setSzl hu)))) (.ite (.wri (.ite hu.setSzl hu)) (.ite hu.szlWake hu))

theorem Keeps.execSazorPwrWrite (h : Keeps s t) {b value} : Goes s (Machine.execSazorPwrWrite b value t) := by
  unfold Machine.execSazorPwrWrite
  exact h.szlPwrWrite.next

theorem Keeps.szlTestWrite (h : Keeps s t) {b v errs} : Keeps s (Machine.szlTestWrite b v errs t) := by
  unfold Machine.szlTestWrite
  extract_lets o u was u1 u2
  have hu : Keeps s u := .ite (h.foldl (fun u3 a hu3 => .ite hu3.addi hu3)) h
  have hu1 : Keeps s u1 := hu.wri.wri.wri
  have hu2 : Keeps s u2 := hu1.wri.wri.showStr
  exact .ite h.wri (.ite hu.wri (.ite hu2.szlRetrain hu2))

theorem Keeps.execSazorPatternTest (h : Keeps s t) {b value errs} : Goes s (Machine.execSazorPatternTest b value errs t) := by
  unfold Machine.execSazorPatternTest
  exact h.szlTestWrite.next

theorem Keeps.szlInjWrite (h : Keeps s t) {b v} : Keeps s (Machine.szlInjWrite b v t) := by
  unfold Machine.szlInjWrite
  extract_lets o n u
  have hu : Keeps s u := h.wri.wri.wri
  exact .ite hu (.ite h.wri (.ite hu.wri hu.wri.modBundle))

theorem Keeps.execSazorErrorInject (h : Keeps s t) {b value} : Goes s (Machine.execSazorErrorInject b value t) := by
  unfold Machine.execSazorErrorInject
  exact h.szlInjWrite.next

/-! The operations of Machine/Ports -/

theorem Keeps.pcieReset (h : Keeps s t) : Keeps s (Machine.pcieReset t) := by unfold Machine.pcieReset; exact h.wr.wr.wr.modPcie

theorem Keeps.execPcieReset (h : Keeps s t) {kind} : Goes s (Machine.execPcieReset kind t) := by
  unfold Machine.execPcieReset
  exact h.pcieReset.modPcie.next

theorem Keeps.msixUnmask (h : Keeps s t) : Keeps s (Machine.msixUnmask t) := by
  unfold Machine.msixUnmask
  extract_lets go
  exact .ite h h.modPcie

theorem Keeps.execPcieLinkTraining (h : Keeps s t) {speed width ready msixEn busMaster funcMask d3} : Goes s (Machine.execPcieLinkTraining speed width ready msixEn busMaster funcMask d3 t) := by
  unfold Machine.execPcieLinkTraining
  refine .ite h.next ?_
  extract_lets u
  have hu : Keeps s u := h.wr.wr.wr
  exact hu.modPcie.msixUnmask.next

theorem Keeps.execHostConnectorMate (h : Keeps s t) {mated} : Goes s (Machine.execHostConnectorMate mated t) := by
  unfold Machine.execHostConnectorMate
  exact .ite h.next h.wr.pwrEvent.pcieReset.modPcie.next

theorem Keeps.modEth (h : Keeps s t) {f} : Keeps s (Machine.modEth f t) := by unfold Machine.modEth; exact h.lit

theorem Keeps.cageLinks (h : Keeps s t) {c f} : Keeps s (Machine.cageLinks c f t) := by unfold Machine.cageLinks; exact h.foldl (fun u _ hu => hu.wri)

theorem Keeps.cageWrite (h : Keeps s t) {c v} : Keeps s (Machine.cageWrite c v t) := by unfold Machine.cageWrite; exact .ite h h.wri.cageLinks

theorem Keeps.execEthCageModeWrite (h : Keeps s t) {c value} : Goes s (Machine.execEthCageModeWrite c value t) := by
  unfold Machine.execEthCageModeWrite
  exact h.cageWrite.next

theorem Keeps.execEthLinkChange (h : Keeps s t) {c present up fec} : Goes s (Machine.execEthLinkChange c present up fec t) := by
  unfold Machine.execEthLinkChange
  extract_lets u on u1
  have hu : Keeps s u := h.wri
  have hu1 : Keeps s u1 := hu.cageLinks
  refine .next ?_
  refine .foldl hu1 (fun u2 a hu2 => ?_)
  extract_lets p
  exact .ite hu2.wri hu2

theorem Keeps.ethDo (h : Keeps s t) {q} : Keeps s (Machine.ethDo q t).2 := by
  unfold Machine.ethDo
  split
  · exact h
  · split
    · exact h.statUnits.weltLog.right
    · exact h.statUnits.serveAt

theorem Keeps.ethAll (h : Keeps s t) {l} : Keeps s (Machine.ethAll l t).2 := by
  induction l generalizing t with
  | nil => exact h
  | cons q l ih =>
    have hq : Keeps s (Machine.ethDo q t).2 := h.ethDo
    unfold Machine.ethAll
    split
    next e =>
      rw [e] at hq
      split
      · exact hq
      · exact ih hq
    · exact hq

theorem Keeps.ethRead (h : Keeps s t) {a n} : Keeps s (Machine.ethRead a n t).2 := by
  unfold Machine.ethRead
  refine .foldlSnd h (fun r a1 h1 => ?_)
  split
  · split
    next e1 =>
      have hu := h1.ethDo.snd e1
      exact hu
    · exact h1.ethDo
  · exact h1

theorem Keeps.ethTake (h : Keeps s t) {q} : Keeps s (Machine.ethTake q t).2 := by
  unfold Machine.ethTake
  split
  · exact h
  · split
    · exact h.ethDo
    · split
      · exact h
      · exact h

theorem Keeps.ethRelease (h : Keeps s t) {q i} : Keeps s (Machine.ethRelease q i t) := by unfold Machine.ethRelease; exact h.ethDo

theorem Keeps.ethProduce (h : Keeps s t) {q desc} : Keeps s (Machine.ethProduce q desc t).2 := by
  unfold Machine.ethProduce
  extract_lets at_
  have hat_ : Keeps s at_.2 := by
    unfold at_
    split
    · exact h.ethDo
    · split
      · exact h
      · split
        · exact h
        · exact h
  clear_value at_
  split
  · split
    next e =>
      have hu1 := hat_.ethAll.snd e
      exact hu1.ethDo
    · exact hat_.ethAll
  · exact hat_

theorem Keeps.ruleDrop (h : Keeps s t) {i} : Keeps s (Machine.ruleDrop i t) := by unfold Machine.ruleDrop; exact h.inci

theorem Keeps.ethPlace (h : Keeps s t) {p i len data ts} : Keeps s ((Machine.ethPlace p i len data ts t).getD t) := by
  unfold Machine.ethPlace
  extract_lets free done
  split
  · exact h
  next e => exact (h.ethTake.snd e).ruleDrop
  next x u e =>
    have hu : Keeps s u := h.ethTake.snd e
    split
    · exact h
    next e => exact (hu.ethRead.snd e).ethRelease.ruleDrop
    next desc v e =>
      have hv : Keeps s v := hu.ethRead.snd e
      extract_lets buf room n
      split
      · exact h
      next e => exact (hv.ethAll.snd e).ethRelease.ruleDrop
      next w e =>
        have hw : Keeps s w := hv.ethAll.snd e
        split
        · exact h
        next e => exact (hw.ethProduce.snd e).ethRelease.ruleDrop
        next e => exact (hw.ethProduce.snd e).ethRelease

theorem Keeps.ethStream (h : Keeps s t) {i len data} : Keeps s (Machine.ethStream i len data t) := by
  unfold Machine.ethStream
  extract_lets n u base reqs
  have hu : Keeps s u := h.modEth
  exact .ite hu.ruleDrop hu.modEth.pump

theorem Keeps.getD {o : Option State} (h : Keeps s t) (ho : Keeps s (o.getD u)) : Keeps s (o.getD t) := by
  cases o with
  | none => exact h
  | some v => exact ho

theorem Keeps.execEthFrameReceive (h : Keeps s t) {p len data age good} : Goes s (Machine.execEthFrameReceive p len data age good t) := by
  unfold Machine.execEthFrameReceive
  extract_lets frame
  refine .ite h.next (.ite h.inci.next ?_)
  split
  · exact h.next
  next i _ =>
    have hu : Keeps s (t.inci ETH_RSTAT_FRAMES (8 * i)) := h.inci
    split
    · exact (h.getD hu.ethPlace).next
    · exact hu.ethStream.next
    · exact hu.next

theorem Keeps.execEthStreamPlaceTimeout (h : Keeps s t) {i} : Goes s (Machine.execEthStreamPlaceTimeout i t) := by
  unfold Machine.execEthStreamPlaceTimeout
  split
  · exact h.modEth.ruleDrop.pump.next
  · exact h.next

theorem Keeps.execEthFrameTransmit (h : Keeps s t) {p t1} : Goes s (Machine.execEthFrameTransmit p t1 t) := by
  unfold Machine.execEthFrameTransmit
  extract_lets o q
  refine .ite h.next ?_
  split
  next e =>
    have hu := h.ethTake.snd e
    split
    next e1 =>
      have hu1 := hu.ethRead.snd e1
      exact h.next
    next e1 =>
      have hu1 := hu.ethRead.snd e1
      exact hu1.ethRelease.next
    next e1 =>
      have hu1 := hu.ethRead.snd e1
      extract_lets len from_
      refine .ite hu1.ethRelease.next ?_
      split
      next e2 _ =>
        have hu2 := hu1.ethRead.snd e2
        exact hu2.reach.modEth.ethRelease.next
      next e2 =>
        have hu2 := hu1.ethRead.snd e2
        exact hu2.ethRelease.next
      · exact h.next
  · exact h.next

theorem Keeps.gclDone (h : Keeps s t) {st} : Keeps s (Machine.gclDone st t) := by unfold Machine.gclDone; exact h.wr.wr

theorem Keeps.gclLoad (h : Keeps s t) : Keeps s (Machine.gclLoad t) := by
  unfold Machine.gclLoad
  extract_lets p off a n cycle entries base
  exact .ite h.gclDone (.ite h.gclDone (.ite h.gclDone (.ite h.gclDone h.modEth.gclDone)))

theorem Keeps.execEthGclLoad (h : Keeps s t) {p} : Goes s (Machine.execEthGclLoad p t) := by
  unfold Machine.execEthGclLoad
  exact .next (.ite h h.wr.gclLoad)

theorem Keeps.execGclBecomesOperational (h : Keeps s t) {p} : Goes s (Machine.execGclBecomesOperational p t) := by
  unfold Machine.execGclBecomesOperational
  refine .ite ?_ h.next
  extract_lets a o t1
  exact h.reach.modEth.next

theorem Keeps.execGptpSync (h : Keeps s t) {p gm offset adj iv} : Goes s (Machine.execGptpSync p gm offset adj iv t) := by
  unfold Machine.execGptpSync
  refine .ite h.next ?_
  refine .ite h.wr.wr.wr.wr.wr.modEth.next ?_
  extract_lets step lim move _ u u1 n
  have hu : Keeps s u := h.lit
  have hu1 : Keeps s u1 := .ite hu.clkEvent hu
  exact hu1.wr.wr.wr.wr.wr.modEth.next

theorem Keeps.execGptpSyncLoss (h : Keeps s t) : Goes s (Machine.execGptpSyncLoss t) := by
  unfold Machine.execGptpSyncLoss
  exact .ite h.next h.wr.wr.wr.modEth.next

theorem Keeps.modPin (h : Keeps s t) {k n f} : Keeps s (State.modPin t k n f) := by unfold State.modPin; exact h.lit

theorem Keeps.deliverEvent (h : Keeps s t) {k n t1} : Keeps s (Machine.deliverEvent k n t1 t) := by
  unfold Machine.deliverEvent
  extract_lets u
  have hu : Keeps s u := h.modPin
  exact hu.foldl (fun u1 a hu1 => hu1.foldl (fun u2 _ hu2 => .ite hu2.wakeNet hu2))

theorem Keeps.mergeDeliver (h : Keeps s t) {k n} : Keeps s (Machine.mergeDeliver k n t) := by
  unfold Machine.mergeDeliver
  extract_lets p
  split
  · exact .ite h h.reach.deliverEvent
  · exact h

theorem Keeps.eventEdge (h : Keeps s t) {k n t1} : Keeps s (Machine.eventEdge k n t1 t) := by
  unfold Machine.eventEdge
  extract_lets u p u1 u2
  have hu : Keeps s u := by
    unfold u
    split
    · exact .ite h.mergeDeliver h
    · exact h
  have hu1 : Keeps s u1 := hu.modPin
  have hu2 : Keeps s u2 := hu1.inci
  split
  · exact .ite hu.deliverEvent (.ite hu1 (.ite hu2 hu2.push.modPin))
  · exact hu.deliverEvent

theorem Keeps.execEventInputEdge (h : Keeps s t) {k n level t1} : Goes s (Machine.execEventInputEdge k n level t1 t) := by
  unfold Machine.execEventInputEdge
  extract_lets o p u act u1
  have hu : Keeps s u := h.reach
  have hu1 : Keeps s u1 := hu.modPin
  exact .ite h.next (.ite (.next (.ite hu1 hu1.wri.push.modPin)) (.ite hu1.eventEdge.next hu1.next))

theorem Keeps.execEventMergeDelivery (h : Keeps s t) {k n} : Goes s (Machine.execEventMergeDelivery k n t) := by
  unfold Machine.execEventMergeDelivery
  exact .next (.ite h h.mergeDeliver)

theorem Keeps.execEventInputStuck (h : Keeps s t) {k n} : Goes s (Machine.execEventInputStuck k n t) := by
  unfold Machine.execEventInputStuck
  extract_lets p
  split
  · refine .ite h.next ?_
    extract_lets u u1
    have hu : Keeps s u := h.reach
    have hu1 : Keeps s u1 := hu.modPin.wri
    exact hu1.push.record.next
  · exact h.next

theorem Keeps.pcfgWrite (h : Keeps s t) {k n v} : Keeps s (Machine.pcfgWrite k n v t) := by
  unfold Machine.pcfgWrite
  extract_lets u
  have hu : Keeps s u := h.putPinWord
  exact hu.modPin

theorem Keeps.execGioPcfgWrite (h : Keeps s t) {k n value} : Goes s (Machine.execGioPcfgWrite k n value t) := by
  unfold Machine.execGioPcfgWrite
  exact h.pcfgWrite.next

theorem Keeps.execBankSupplyFault (h : Keeps s t) {k} : Goes s (Machine.execBankSupplyFault k t) := by
  unfold Machine.execBankSupplyFault
  refine .ite h.next ?_
  extract_lets w u st
  have hu : Keeps s u := h.wri.push
  exact .next (.ite hu.recordSt hu.fault)

theorem Keeps.execBankSupplyRestored (h : Keeps s t) {k} : Goes s (Machine.execBankSupplyRestored k t) := by
  unfold Machine.execBankSupplyRestored
  exact h.wri.lossCheck.next

theorem Keeps.pinEdge (h : Keeps s t) {d r k old new pads} : Keeps s (Machine.pinEdge d r k old new pads t) := by
  unfold Machine.pinEdge
  refine .foldl h (fun u a hu => ?_)
  extract_lets n c drives level
  exact hu.modPin

theorem Keeps.execRegionalClockEdge (h : Keeps s t) {d r clock ext pads idle} : Goes s (Machine.execRegionalClockEdge d r clock ext pads idle t) := by
  unfold Machine.execRegionalClockEdge
  extract_lets g u v
  have hv : v.plane = g.plane := apply_ite Region.plane .. |>.trans (ite_self ..)
  have hregion : Keeps s (t.modRegion (rix d r) fun _ => v) :=
    ⟨h.pending, h.canonical, fun c => (h.planes c).of_le (fun k hk => by
      by_cases e : k = rix d r
      · rw [e] at hk ⊢; rw [State.region_modRegion, hv]; exact hk
      · rw [State.region_modRegion_ne _ _ _ e]; exact hk) fun _ hd => hd⟩
  exact .ite h.next (.ite (.ite h.next h.modRegion.next) (.ite h.next hregion.pinEdge.next))

/-! The operations of Machine/Update -/

theorem Keeps.updDone (h : Keeps s t) {st} : Keeps s (Machine.updDone st t) := by unfold Machine.updDone; exact h.wr.wr

theorem Keeps.updGo (h : Keeps s t) {n f} (hf : ∀ u, Keeps s u → Keeps s (f u)) : Keeps s (Machine.updGo n f t) := .ite h (h.onGo hf)

theorem Keeps.showHolds (h : Keeps s t) {l} : Keeps s (Machine.showHolds l t) := by unfold Machine.showHolds; exact h.wr

theorem Keeps.stepHold (h : Keeps s t) {c l} : Keeps s (Machine.stepHold c l t) := by
  unfold Machine.stepHold
  extract_lets u
  have hu : Keeps s u := h.showHolds
  exact .ite hu hu.updEvent.modUpd

theorem Keeps.phyRetrain (h : Keeps s t) {c} : Keeps s (Machine.phyRetrain c t) := by
  unfold Machine.phyRetrain
  exact .ite h (.ite (h.foldl (fun u a hu => hu.cageLinks)) (.ite (h.foldl (fun u a hu => hu.szlRetrain)) h))

theorem Keeps.takeStep (h : Keeps s t) {c fwd} : Keeps s (Machine.takeStep c fwd t) := by
  unfold Machine.takeStep
  extract_lets u
  have hu : Keeps s u := h.swapComp.planDone.phyRetrain
  exact hu.modUpd

theorem Keeps.revertSteps (h : Keeps s t) {n} : Keeps s (Machine.revertSteps n t) := by
  induction n generalizing t with
  | zero => exact h
  | succ n ih =>
    unfold Machine.revertSteps
    split
    · exact Keeps.modUpd (.updEvent (.ite h.showHolds.wr.wr.wr h.showHolds.wr.wr.updResult))
    · exact .ite (ih h.showHolds.takeStep) h.stepHold

theorem Keeps.revertBegin (h : Keeps s t) {auto} : Keeps s (Machine.revertBegin auto t) := by
  unfold Machine.revertBegin
  exact h.wr.modUpd.revertSteps

theorem Keeps.showPlan (h : Keeps s t) {l} : Keeps s (Machine.showPlan l t) := by
  unfold Machine.showPlan
  exact h.foldl (fun u _ hu => hu.wri.wri.wri)

theorem Keeps.writeCopies (h : Keeps s t) {p l n} : Keeps s (Machine.writeCopies p l n t) := by unfold Machine.writeCopies; exact h.modUpd

theorem Keeps.updStage (h : Keeps s t) {area stop} : Keeps s (Machine.updStage area stop t) := by
  unfold Machine.updStage
  refine .updGo h (fun u hu => ?_)
  refine .ite hu.updDone ?_
  refine .ite hu.updDone ?_
  extract_lets px u1
  have hu1 : Keeps s u1 := hu.wr.modUpd
  clear_value px
  split
  · exact hu.updDone
  · extract_lets st l u2 u3 u4
    have hu2 : Keeps s u2 := hu1.writeCopies.modUpd
    have hu3 : Keeps s u3 := hu2.showPlan.wr.wr.wr
    have hu4 : Keeps s u4 := hu3.wr64.wr
    refine .ite hu.updDone ?_
    split
    · extract_lets u5
      have hu5 : Keeps s u5 := hu1.writeCopies.modUpd
      exact hu5.wr.updDone
    · exact hu4.updEvent.updDone

theorem Keeps.execUpdStage (h : Keeps s t) {pkg stop} : Goes s (Machine.execUpdStage pkg stop t) := by
  unfold Machine.execUpdStage
  exact h.updStage.next

theorem Keeps.updActivate (h : Keeps s t) : Keeps s (Machine.updActivate t) := by
  unfold Machine.updActivate
  refine .updGo h (fun u hu => ?_)
  extract_lets c t0 least t1 u1
  have hu1 : Keeps s u1 := hu.wr64.modUpd
  refine .ite hu.updDone ?_
  refine .ite hu.updDone ?_
  refine .ite hu.updDone ?_
  split
  · exact hu.updDone
  · exact hu1.wr.updEvent.updDone

theorem Keeps.execUpdActivate (h : Keeps s t) : Goes s (Machine.execUpdActivate t) := by unfold Machine.execUpdActivate; exact h.updActivate.next

theorem Keeps.updAbort (h : Keeps s t) : Keeps s (Machine.updAbort t) := by
  unfold Machine.updAbort
  exact h.updGo (fun u hu => .ite hu.updDone hu.wr.updDone)

theorem Keeps.execUpdAbort (h : Keeps s t) : Goes s (Machine.execUpdAbort t) := by unfold Machine.execUpdAbort; exact h.updAbort.next

theorem Keeps.updRevert (h : Keeps s t) : Keeps s (Machine.updRevert t) := by
  unfold Machine.updRevert
  refine .updGo h (fun u hu => ?_)
  extract_lets st
  refine .ite hu.updDone ?_
  split
  · exact hu.updDone
  · exact hu.revertBegin.updDone

theorem Keeps.execUpdRevert (h : Keeps s t) : Goes s (Machine.execUpdRevert t) := by unfold Machine.execUpdRevert; exact h.updRevert.next

theorem Keeps.updInstalled (h : Keeps s t) : Keeps s (Machine.updInstalled t) := by unfold Machine.updInstalled; exact h.wr.wr.updResult.modUpd

theorem Keeps.updConfirm (h : Keeps s t) : Keeps s (Machine.updConfirm t) := by
  unfold Machine.updConfirm
  exact h.updGo (fun u hu => .ite hu.updDone hu.updInstalled.updEvent.updDone)

theorem Keeps.execUpdConfirm (h : Keeps s t) : Goes s (Machine.execUpdConfirm t) := by unfold Machine.execUpdConfirm; exact h.updConfirm.next

theorem Keeps.execTrialEnd (h : Keeps s t) : Goes s (Machine.execTrialEnd t) := by
  unfold Machine.execTrialEnd
  exact .ite h.reachElapsed.updInstalled.updEvent.next h.next

theorem Keeps.reachClock (h : Keeps s t) {clock t1} : Keeps s (Machine.reachClock clock t1 t) := by
  unfold Machine.reachClock
  exact .ite h.reach (.ite h.pass h)

theorem Keeps.stepsDone (h : Keeps s t) : Keeps s (Machine.stepsDone t) := by unfold Machine.stepsDone; exact .ite h.updInstalled h.wr.modUpd

theorem Keeps.stepStart (h : Keeps s t) : Keeps s (Machine.stepStart t) := by
  unfold Machine.stepStart
  split
  · exact h.stepsDone
  · extract_lets c at_ u u1 l u2 u3 u4
    have hu : Keeps s u := h.reachClock.wr
    have hu1 : Keeps s u1 := hu.wr
    have hu2 : Keeps s u2 := .ite hu1.wr hu1
    have hu3 : Keeps s u3 := hu2.showHolds.takeStep.modUpd
    have hu4 : Keeps s u4 := hu3.updEvent
    refine .ite hu1.stepHold ?_
    split
    · exact hu4.stepsDone
    · exact hu4.wr

theorem Keeps.execUpdateStepStart (h : Keeps s t) : Goes s (Machine.execUpdateStepStart t) := by
  unfold Machine.execUpdateStepStart
  exact .ite h.stepStart.next (.ite h.revertSteps.next h.next)

theorem Keeps.execUpdateStepHoldTimeout (h : Keeps s t) : Goes s (Machine.execUpdateStepHoldTimeout t) := by
  unfold Machine.execUpdateStepHoldTimeout
  obtain ⟨u, e, hu⟩ : ∃ u, t.reachElapsed (t.upd.heldAt + max 1 (t.rd UPD_CTL_HOLDOFF) * 1000000000) = u ∧ Keeps s u := ⟨_, rfl, h.reachElapsed⟩
  rw [e]
  refine .ite ?_ h.next
  extract_lets v
  split
  · exact hu.next
  · extract_lets c
    split
    · exact hu.next
    · exact hu.wr.modUpd.updResult.updEvent.next

theorem Keeps.execUpdateStepFailure (h : Keeps s t) {c} : Goes s (Machine.execUpdateStepFailure c t) := by
  unfold Machine.execUpdateStepFailure
  refine .ite ?_ h.next
  extract_lets u
  have hu : Keeps s u := h.takeStep.updEvent
  exact .ite hu.updResult.revertBegin.next hu.wr.updResult.updEvent.next

theorem Keeps.execMotionInputChange (h : Keeps s t) {active} : Goes s (Machine.execMotionInputChange active t) := by
  unfold Machine.execMotionInputChange
  exact h.wr.next

/-! The operations of Machine/Security -/

theorem Keeps.modSide (h : Keeps s t) {f} : Keeps s (State.modSide t f) := by unfold State.modSide; exact h.lit

theorem Keeps.modSecur (h : Keeps s t) {f} : Keeps s (State.modSecur t f) := by unfold State.modSecur; exact h.lit

theorem Keeps.sbpEvent (h : Keeps s t) {kind} : Keeps s (Machine.sbpEvent kind t) := by unfold Machine.sbpEvent; exact h.push

theorem Keeps.sbpRecord (h : Keeps s t) {kind} : Keeps s (Machine.sbpRecord kind t) := by unfold Machine.sbpRecord; exact h.record

theorem Keeps.hbWrite (h : Keeps s t) {v} : Keeps s (Machine.hbWrite v t) := by
  unfold Machine.hbWrite
  refine .ite h ?_
  refine .ite h.inci ?_
  extract_lets u u1
  have hu : Keeps s u := h.modSide
  have hu1 : Keeps s u1 := .ite hu hu.wr
  exact .ite hu1.wr.sbpEvent hu1

theorem Keeps.execHeartbeatWrite (h : Keeps s t) {value} : Goes s (Machine.execHeartbeatWrite value t) := by
  unfold Machine.execHeartbeatWrite
  exact h.hbWrite.next

theorem Keeps.lapseAct (h : Keeps s t) : Keeps s (Machine.lapseAct t) := by
  unfold Machine.lapseAct
  extract_lets st ask
  have hask : Keeps s ask := h.modSide
  exact .ite (.ite h.reqHold hask) (.ite h (.ite (.shfAbandon (.ite hask.shfDone hask)) (.ite hask.shfReleaseNow.wr hask)))

theorem Keeps.execHeartbeatLapse (h : Keeps s t) : Goes s (Machine.execHeartbeatLapse t) := by
  unfold Machine.execHeartbeatLapse
  split
  · exact h.next
  · refine .ite h.next ?_
    extract_lets u u1
    have hu : Keeps s u := h.reachElapsed.wr
    have hu1 : Keeps s u1 := hu.sbpEvent.sbpRecord
    exact .next (.ite hu1.lapseAct hu1)

theorem Keeps.wipeAll (h : Keeps s t) : Keeps s (Machine.wipeAll t) := by
  unfold Machine.wipeAll
  extract_lets sealed u u1 u2
  have hu : Keeps s u := by
    unfold u
    refine .foldl h (fun u3 a hu3 => ?_)
    extract_lets a1
    exact hu3.clearMem.modBank
  have hu1 : Keeps s u1 := hu.foldl (fun u3 _ hu3 => hu3.modDie)
  have hu2 : Keeps s u2 := hu1.clearMem
  exact hu2.lit

theorem Keeps.ownLockFollow (h : Keeps s t) : Keeps s (Machine.ownLockFollow t) := by
  unfold Machine.ownLockFollow
  extract_lets now
  exact .ite h h.wr.secEvent

theorem Keeps.execOwnerLockChange (h : Keeps s t) {active} : Goes s (Machine.execOwnerLockChange active t) := by
  unfold Machine.execOwnerLockChange
  exact h.wr.ownLockFollow.next

theorem Keeps.newNonce (h : Keeps s t) : Keeps s (Machine.newNonce t) := by
  unfold Machine.newNonce
  extract_lets n
  have hn : Keeps s n.2 := h.free
  exact hn.wr.wr

theorem Keeps.secDone (h : Keeps s t) {refused st} : Keeps s (Machine.secDone refused st t) := by
  unfold Machine.secDone
  extract_lets u
  have hu : Keeps s u := h.wr.wr.newNonce
  exact .ite hu.secEvent hu

theorem Keeps.secMade (h : Keeps s t) {kind} : Keeps s (Machine.secMade kind t) := by unfold Machine.secMade; exact h.secEvent.recordOpen.secDone

/-- A signed command's outcome: a status, or a state that keeps these of `s`. -/
def KeepsRight (s : State) (x : Nat ⊕ State) : Prop := ∀ u, x = .inr u → Keeps s u

theorem KeepsRight.ite {c : Prop} [Decidable c] {x y : Nat ⊕ State} (hx : KeepsRight s x) (hy : KeepsRight s y) : KeepsRight s (if c then x else y) := by
  split
  · exact hx
  · exact hy

theorem KeepsRight.status (st : Nat) : KeepsRight s (.inl st) := fun _ e => nomatch e

theorem Keeps.inr (h : Keeps s t) : KeepsRight s (.inr t) := fun _ e => Sum.inr.inj e ▸ h

theorem Keeps.secGo (h : Keeps s t) {op f} (hf : ∀ u, Keeps s u → KeepsRight s (f u)) : Keeps s (Machine.secGo op f t) := by
  unfold Machine.secGo
  extract_lets u
  have hu : Keeps s u := h.lit
  refine .ite h (.ite h (.ite hu.wr.wr (.ite hu.secDone ?_)))
  split
  · exact hu.secDone
  next v e => exact hf u hu v e

theorem Keeps.fuseFirst (h : Keeps s t) {w} : KeepsRight s (Machine.fuseFirst w t) := .ite (.status _) h.inr

theorem Keeps.secProgram (h : Keeps s t) {ok} : Keeps s (Machine.secProgram ok t) :=
  h.secGo fun _ hu => .ite (.status _) (.ite (.status _) (Keeps.fuseFirst (.ite hu.secDone (Keeps.secMade (Keeps.ownLockFollow (Keeps.wr hu.lit))))))

theorem Keeps.execSignedProgramSlot (h : Keeps s t) {ok} : Goes s (Machine.execSignedProgramSlot ok t) := by
  unfold Machine.execSignedProgramSlot
  exact h.secProgram.next

theorem Keeps.secRevoke (h : Keeps s t) {ok} : Keeps s (Machine.secRevoke ok t) :=
  h.secGo fun _ hu => .ite (.status _) (.ite (.status _) (Keeps.fuseFirst (.ite hu.secDone hu.wr.ownLockFollow.secMade)))

theorem Keeps.execSignedRevokeSlot (h : Keeps s t) {ok} : Goes s (Machine.execSignedRevokeSlot ok t) := by
  unfold Machine.execSignedRevokeSlot
  exact h.secRevoke.next

theorem Keeps.dbgPortFollow (h : Keeps s t) : Keeps s (Machine.dbgPortFollow t) := by
  unfold Machine.dbgPortFollow
  extract_lets o
  exact h.wr.wr.wr

theorem Keeps.secLife (h : Keeps s t) {ok} : Keeps s (Machine.secLife ok t) := by
  refine h.secGo fun u hu => ?_
  extract_lets to_ from_ v w x y z
  have hv : Keeps s v := hu.wipeAll
  have hw : Keeps s w := hv.wr.dbgPortFollow
  have hx : Keeps s x := .ite hw.keysErase hw
  have hy : Keeps s y := .ite hx.wr hx
  have hz : Keeps s z := .ite hy.modSecur hy
  exact .ite (.status _) (.ite (.status _) (Keeps.fuseFirst (.ite hv.secDone hz.secMade)))

theorem Keeps.execLifeCycleTransition (h : Keeps s t) {ok} : Goes s (Machine.execLifeCycleTransition ok t) := by
  unfold Machine.execLifeCycleTransition
  exact h.secLife.next

theorem Keeps.secLoadKey (h : Keeps s t) : Keeps s (Machine.secLoadKey t) :=
  h.secGo fun _ hu => .ite (.status _) (.ite (.status _) (.ite (.status _) hu.modSecur.wr.secMade.fuseFirst))

theorem Keeps.execSignedLoadKey (h : Keeps s t) : Goes s (Machine.execSignedLoadKey t) := by unfold Machine.execSignedLoadKey; exact h.secLoadKey.next

theorem Keeps.secEraseKey (h : Keeps s t) : Keeps s (Machine.secEraseKey t) :=
  h.secGo fun _ hu => .ite (.status _) (Keeps.fuseFirst (.secMade (.ite hu.keysErase hu.modSecur.wr)))

theorem Keeps.execSignedEraseKey (h : Keeps s t) : Goes s (Machine.execSignedEraseKey t) := by
  unfold Machine.execSignedEraseKey
  exact h.secEraseKey.next

theorem Keeps.secUnlock (h : Keeps s t) : Keeps s (Machine.secUnlock t) := h.secGo fun _ hu => .ite (.status _) hu.wr.wr.wr.secEvent.secDone.inr

theorem Keeps.execSignedDebugUnlock (h : Keeps s t) : Goes s (Machine.execSignedDebugUnlock t) := by
  unfold Machine.execSignedDebugUnlock
  exact h.secUnlock.next

theorem Keeps.openWindow (h : Keeps s t) : Keeps s (Machine.openWindow t) := by unfold Machine.openWindow; exact h.wr.wr.modSecur

theorem Keeps.secCell (h : Keeps s t) : Keeps s (Machine.secCell t) := h.secGo fun _ hu => .ite (.status _) hu.openWindow.secDone.inr

theorem Keeps.execSignedCellService (h : Keeps s t) : Goes s (Machine.execSignedCellService t) := by
  unfold Machine.execSignedCellService
  exact h.secCell.next

theorem Keeps.secBad (h : Keeps s t) : Keeps s (Machine.secBad t) := by unfold Machine.secBad; exact .ite h (.ite h.wr (.ite h.secDone h))

theorem Keeps.secCmdGo (h : Keeps s t) : Keeps s (Machine.secCmdGo t) := by
  unfold Machine.secCmdGo
  split
  · refine .ite h ?_
    extract_lets u
    have hu : Keeps s u := h.wr
    exact hu.lit
  · refine .ite h ?_
    extract_lets u
    have hu : Keeps s u := h.wr
    exact hu.lit
  · refine .ite h ?_
    extract_lets u
    have hu : Keeps s u := h.wr
    exact hu.lit
  · exact h.secLoadKey
  · exact h.secEraseKey
  · exact h.secUnlock
  · exact h.secCell
  · exact h.secBad

theorem Keeps.batGo (h : Keeps s t) : Keeps s (Machine.batGo t) := by unfold Machine.batGo; exact .ite h (.ite h.wr (.ite h.wr h.wr.openWindow))

theorem Keeps.execCellServiceOpen (h : Keeps s t) : Goes s (Machine.execCellServiceOpen t) := by
  unfold Machine.execCellServiceOpen
  exact h.batGo.next

theorem Keeps.execCellServiceClose (h : Keeps s t) : Goes s (Machine.execCellServiceClose t) := by
  unfold Machine.execCellServiceClose
  exact .ite h.next (.next (.batClose (.ite h h.reachElapsed)))

theorem Keeps.execTamperEvent (h : Keeps s t) {src live} : Goes s (Machine.execTamperEvent src live t) := by
  unfold Machine.execTamperEvent
  refine .ite h.next ?_
  extract_lets u u1 u2 w safe u3
  have hu : Keeps s u := h.putBit
  have hu1 : Keeps s u1 := hu.wipeAll.putBit
  have hu2 : Keeps s u2 := hu1.secEvent
  have hu3 : Keeps s u3 := .ite (.ite hu2.modSecur hu2.keysErase.secEvent) hu2
  exact .ite hu.next (.next (.ite hu3.fault hu3.recordSt))

/-! The operations of Machine/Shf -/

theorem Keeps.shfGo (h : Keeps s t) {n f} (hf : ∀ u, Keeps s u → Keeps s (f u)) : Goes s (Machine.shfGo n f t) := (h.onGo hf).next

theorem Keeps.shfFailed (h : Keeps s t) {l} : Keeps s (Machine.shfFailed l t) := by unfold Machine.shfFailed; exact h.foldl (fun u _ hu => hu.wri.wri)

theorem Keeps.shfDrop (h : Keeps s t) {st die} : Keeps s (Machine.shfDrop st die t) := by unfold Machine.shfDrop; exact .shfAbandon (.ite h.shfDone h)

theorem Keeps.clearDiest (h : Keeps s t) : Keeps s (Machine.clearDiest t) := by
  unfold Machine.clearDiest
  exact h.foldl (fun u _ hu => hu.wri.wri.wri.wri)

theorem Keeps.shiftBegin (h : Keeps s t) {kind st} : Keeps s (Machine.shiftBegin kind st t) := by
  unfold Machine.shiftBegin
  exact h.toMode.clearDiest.wr.wr.wr

theorem Keeps.stageRefusal (h : Keeps s t) {i} : Keeps s (Machine.stageRefusal i t).2 := by
  unfold Machine.stageRefusal
  split
  next e =>
    have hu := h.imageCheck.snd e
    exact hu
  next e =>
    have hu := h.imageCheck.snd e
    split
    · exact hu
    · split
      · exact hu
      · exact hu

theorem Keeps.raiseForStage (h : Keeps s t) {i} : Keeps s (Machine.raiseForStage i t) := by
  unfold Machine.raiseForStage
  extract_lets ds up u u1
  have hu : Keeps s u := h.foldl (fun u2 a hu2 => hu2.railsOn.startTrim.dieGear)
  have hu1 : Keeps s u1 := hu.foldl (fun u2 a hu2 => .ite hu2.retrainEye hu2)
  exact hu1.modShf

theorem Keeps.execShfStage (h : Keeps s t) {img} : Goes s (Machine.execShfStage img t) := by
  unfold Machine.execShfStage
  refine Keeps.shfGo h (fun u hu => ?_)
  extract_lets src u1
  have hu1 : Keeps s u1 := hu.shiftBegin.wr
  refine .ite hu.shfDone ?_
  refine .ite hu.shfDone ?_
  refine .ite hu1.cfgResult.shfEnd.shfDone ?_
  split
  · exact hu1.cfgResult.shfEnd.shfDone
  · split
    next e1 =>
      have hu2 := hu1.stageRefusal.snd e1
      exact hu2.cfgResult.shfEnd.shfDone
    next e1 =>
      have hu2 := hu1.stageRefusal.snd e1
      extract_lets j u3 u4
      have hu3 : Keeps s u3 := hu2.cfgResult.modShf.raiseForStage
      have hu4 : Keeps s u4 := hu3.modCfg
      exact hu4.foldl (fun u5 _ hu5 => hu5.wri)

theorem Keeps.stageFrames (h : Keeps s t) {i} : Keeps s (Machine.stageFrames i t) :=
  h.foldl fun _ _ hu => .ite (hu.writeUnit.modRegion fun _ => setDesign_plane ..) hu.writeUnit

theorem Keeps.execShfStagingComplete (h : Keeps s t) : Goes s (Machine.execShfStagingComplete t) := by
  unfold Machine.execShfStagingComplete
  refine .ite h.next ?_
  extract_lets i u u1 u2
  have hu : Keeps s u := h.stageFrames.showBadsel
  have hu1 : Keeps s u1 := hu.foldl (fun u3 a hu3 => hu3.loadBank)
  have hu2 : Keeps s u2 := hu1.loadProgs.putExpress
  exact hu2.modCfg.showImages.wr.shfDone.next

theorem Keeps.execShfVerify (h : Keeps s t) : Goes s (Machine.execShfVerify t) := by
  unfold Machine.execShfVerify
  refine Keeps.shfGo h (fun u hu => ?_)
  refine .ite hu.shfDone ?_
  extract_lets x
  have hx : Keeps s x.2 := hu.verifyDies
  split
  · exact hx.wr.wr.shfDone
  · exact hx.wr.shfDone

theorem Keeps.execShfArm (h : Keeps s t) : Goes s (Machine.execShfArm t) := by
  unfold Machine.execShfArm
  refine Keeps.shfGo h (fun u hu => ?_)
  refine .ite hu.shfDone ?_
  refine .ite hu.shfDone ?_
  refine .ite hu.wr.shfDone ?_
  refine .ite hu.shfDone ?_
  extract_lets u1
  have hu1 : Keeps s u1 := hu.wr.wr.wr
  exact hu1.epochStart

theorem Keeps.execArmAnswerTimeout (h : Keeps s t) {miss} : Goes s (Machine.execArmAnswerTimeout miss t) := by
  unfold Machine.execArmAnswerTimeout
  extract_lets l
  exact .ite h.next h.shfFailed.shfDrop.next

theorem Keeps.execArmComplete (h : Keeps s t) : Goes s (Machine.execArmComplete t) := by
  unfold Machine.execArmComplete
  refine .ite h.next ?_
  extract_lets u
  have hu : Keeps s u := h.foldl (fun u1 _ hu1 => hu1.wri)
  exact hu.wr.modShf.shfDone.next

theorem Keeps.execArmTimeout (h : Keeps s t) : Goes s (Machine.execArmTimeout t) := by
  unfold Machine.execArmTimeout
  exact .ite h.next h.reach.shfDrop.next

theorem Keeps.execEpochConfirmed (h : Keeps s t) : Goes s (Machine.execEpochConfirmed t) := by
  unfold Machine.execEpochConfirmed
  refine .ite h.next ?_
  extract_lets u
  have hu : Keeps s u := h.wr
  exact .ite hu.next hu.wr.next

theorem Keeps.execEpochBoundary (h : Keeps s t) : Goes s (Machine.execEpochBoundary t) := by
  unfold Machine.execEpochBoundary
  extract_lets st u
  have hu : Keeps s u := h.epochBoundary
  exact .ite h.next (.ite (.next (hu.foldl (fun u1 _ hu1 => hu1.foldl (fun u2 _ hu2 => hu2.modRegion)))) hu.next)

theorem Keeps.undetach (h : Keeps s t) : Keeps s (Machine.undetach t) := by
  unfold Machine.undetach
  refine .foldl h (fun u a hu => ?_)
  refine .foldl hu (fun u1 a1 hu1 => ?_)
  extract_lets c u2
  have hu2 : Keeps s u2 := hu1.modRegion.startNets
  exact .ite hu2.resumeCore hu2

theorem Keeps.execEpochConfirmTimeout (h : Keeps s t) : Goes s (Machine.execEpochConfirmTimeout t) := by
  unfold Machine.execEpochConfirmTimeout
  refine .ite h.next ?_
  extract_lets u
  have hu : Keeps s u := h.wr.wr.recordSt
  exact .ite hu.undetach.shfEnd.shfDone.pump.next (.ite hu.shfDrop.next hu.next)

theorem Keeps.execShfCommit (h : Keeps s t) : Goes s (Machine.execShfCommit t) := by
  unfold Machine.execShfCommit
  refine Keeps.shfGo h (fun u hu => ?_)
  refine .ite hu.shfDone ?_
  split
  · exact hu.shfDone
  · extract_lets f tc u1
    have hu1 : Keeps s u1 := hu.wr64.wr.modShf
    exact hu1.modWelt.wr.wr

theorem Keeps.execCommitAckDeadline (h : Keeps s t) {miss} : Goes s (Machine.execCommitAckDeadline miss t) := by
  unfold Machine.execCommitAckDeadline
  extract_lets st l u
  have hu : Keeps s u := h.reach
  exact .ite h.next (.ite hu.next hu.shfFailed.shfDrop.next)

theorem Keeps.boundaryNow (h : Keeps s t) : Keeps s (Machine.boundaryNow t) := by unfold Machine.boundaryNow; exact .ite h.epochBoundary h

theorem Keeps.execCommitAtTc (h : Keeps s t) {ext} : Goes s (Machine.execCommitAtTc ext t) := by
  unfold Machine.execCommitAtTc
  extract_lets st u u1
  have hu : Keeps s u := h.reach.boundaryNow
  have hu1 : Keeps s u1 := hu.foldl (fun u2 _ hu2 => hu2.wri)
  exact .ite h.next (.ite hu.attachFlip.wri.pump.next hu1.commitFlip.pump.next)

theorem Keeps.reportFails (h : Keeps s t) {l} : Keeps s (Machine.reportFails l t) := by
  unfold Machine.reportFails
  exact .wr (h.shfFailed.foldl (fun u _ hu => hu.recordSt))

theorem Keeps.gearsAfterShift (h : Keeps s t) : Keeps s (Machine.gearsAfterShift t) := by
  unfold Machine.gearsAfterShift
  exact h.foldl (fun u a hu => hu.gearTake)

theorem Keeps.startRollback (h : Keeps s t) {auto} : Keeps s (Machine.startRollback auto t) := by
  unfold Machine.startRollback
  extract_lets soon f tr u u1
  have hu : Keeps s u := h.wr64.modShf
  have hu1 : Keeps s u1 := hu.foldl (fun u2 _ hu2 => hu2.wri)
  exact hu1.epochStart.wr.wr.wr

theorem Keeps.askRollback (h : Keeps s t) {auto} : Keeps s (Machine.askRollback auto t) := by
  unfold Machine.askRollback
  exact .ite h.startRollback h.modShf

theorem Keeps.execCommitReportDeadline (h : Keeps s t) {fails} : Goes s (Machine.execCommitReportDeadline fails t) := by
  unfold Machine.execCommitReportDeadline
  extract_lets st u l u1 u2
  have hu : Keeps s u := h.reach
  have hu1 : Keeps s u1 := .ite hu hu.reportFails
  have hu2 : Keeps s u2 := .ite hu1.showImages.wr.shfDone.gearsAfterShift hu1
  exact .ite h.next (.ite h.next (.ite hu1.attachFinish.gearsAfterShift.next (.ite hu2.shfReleaseNow.wr.next (.ite hu2.askRollback.next hu2.next))))

theorem Keeps.execShfAbandon (h : Keeps s t) : Goes s (Machine.execShfAbandon t) := by
  unfold Machine.execShfAbandon
  extract_lets st u u1
  have hu : Keeps s u := h.wr
  have hu1 : Keeps s u1 := hu.lit
  exact .ite hu1.shfAbandon.shfDone.next hu1.wr.next

theorem Keeps.laceNow (h : Keeps s t) : Keeps s (Machine.laceNow t) := by
  unfold Machine.laceNow
  extract_lets old new u set
  have hu : Keeps s u := h.modWelt.takeEnables
  exact .ite hu.wr.wr hu

theorem Keeps.execShfRollback (h : Keeps s t) : Goes s (Machine.execShfRollback t) := by
  unfold Machine.execShfRollback
  refine Keeps.shfGo h (fun u hu => ?_)
  refine .ite hu.shfDone ?_
  refine .ite hu.modShf.rollbackFlip.laceNow.rollbackFinish.gearsAfterShift.shfDone ?_
  split
  · exact hu.shfDone
  · exact hu.wr.askRollback

theorem Keeps.execRollbackAtTr (h : Keeps s t) {ext fails} : Goes s (Machine.execRollbackAtTr ext fails t) := by
  unfold Machine.execRollbackAtTr
  refine .ite h.next ?_
  extract_lets u u1 l u2 busy u3 u4
  have hu : Keeps s u := h.reach.boundaryNow.rollbackFlip.pump
  have hu1 : Keeps s u1 := hu.reach
  have hu2 : Keeps s u2 := .ite hu1 hu1.reportFails
  have hu3 : Keeps s u3 := hu2.rollbackFinish.gearsAfterShift
  have hu4 : Keeps s u4 := .ite hu3.shfDone hu3
  clear_value l
  split
  · exact hu4.next
  · exact hu4.fault.next

theorem Keeps.execShfRelease (h : Keeps s t) : Goes s (Machine.execShfRelease t) := by
  unfold Machine.execShfRelease
  exact h.shfGo (fun u hu => .ite hu.shfDone hu.shfReleaseNow.gearsAfterShift.shfDone)

theorem Keeps.execAutoRelease (h : Keeps s t) : Goes s (Machine.execAutoRelease t) := by
  unfold Machine.execAutoRelease
  extract_lets n
  exact .ite h.next h.reach.shfReleaseNow.gearsAfterShift.next

theorem Keeps.execEpochDrainComplete (h : Keeps s t) : Goes s (Machine.execEpochDrainComplete t) := by
  unfold Machine.execEpochDrainComplete
  refine .ite h.next ?_
  extract_lets u
  have hu : Keeps s u := h.epochDrained
  split
  · exact .ite hu.startRollback.next hu.next
  · exact hu.next

theorem Keeps.execShfAttach (h : Keeps s t) {entriesOk} : Goes s (Machine.execShfAttach entriesOk t) := by
  unfold Machine.execShfAttach
  refine Keeps.shfGo h (fun u hu => ?_)
  refine .ite hu.shfDone ?_
  refine .ite hu.shfAbandon.shfDone ?_
  refine .ite hu.shfDone ?_
  refine .ite hu.wr.shfDone ?_
  split
  · exact hu.shfDone
  · extract_lets f tc regs u1 u2
    have hu1 : Keeps s u1 := hu.wr.wr.wr.wr64
    have hu2 : Keeps s u2 := hu1.modShf
    exact hu2.epochStart

theorem Keeps.leaveFlows (h : Keeps s t) {regs} : Keeps s (Machine.leaveFlows regs t) := by
  unfold Machine.leaveFlows
  refine .foldl h (fun u a hu => ?_)
  extract_lets x u1
  have hu1 : Keeps s u1 := hu.modFlow
  refine .ite ?_ hu
  split
  · exact hu1.modFlow
  · exact hu1

theorem Keeps.retryHeldIf (h : Keeps s t) {f} : Keeps s (Machine.retryHeldIf f t) := by
  unfold Machine.retryHeldIf
  extract_lets l
  exact .pump (h.modWelt.foldl (fun u _ hu => hu.refuse))

theorem Keeps.execShfDetach (h : Keeps s t) : Goes s (Machine.execShfDetach t) := by
  unfold Machine.execShfDetach
  refine Keeps.shfGo h (fun u hu => ?_)
  extract_lets m d regs u1 u2 u3
  have hu1 : Keeps s u1 := hu.shiftBegin.wr
  have hu2 : Keeps s u2 := hu1.modShf.wri
  have hu3 : Keeps s u3 := hu2.foldl (fun u4 _ hu4 => hu4.modRegion.foldl (fun u5 _ hu5 => hu5.setRun))
  exact .ite hu.shfDone (.ite hu.shfDone (.ite hu.wr.shfDone hu3.leaveFlows.retryHeldIf))

theorem Keeps.execQuiesceTimeout (h : Keeps s t) : Goes s (Machine.execQuiesceTimeout t) := by
  unfold Machine.execQuiesceTimeout
  refine .ite h.next ?_
  extract_lets regs u u1
  have hu : Keeps s u := h.retryHeldIf
  have hu1 : Keeps s u1 := hu.foldl (fun u2 _ hu2 => hu2.stopCore)
  exact hu1.modShf.next

theorem Keeps.execDetachComplete (h : Keeps s t) : Goes s (Machine.execDetachComplete t) := by
  unfold Machine.execDetachComplete
  refine .ite h.next ?_
  extract_lets regs cores u
  have hu : Keeps s u := h.foldl (fun u1 _ hu1 => hu1.stopRegion)
  exact .ite (.ite h.next hu.modShf.epochStart.next) (.ite h.detachFinish.gearsAfterShift.next h.next)

/-! The operations of Machine/Debug -/

theorem Keeps.modDbg (h : Keeps s t) {f} : Keeps s (State.modDbg t f) := by unfold State.modDbg; exact h.lit

theorem Keeps.execDebugReset (h : Keeps s t) : Goes s (Machine.execDebugReset t) := by unfold Machine.execDebugReset; exact h.debugReset.next

theorem Keeps.execProbeAttach (h : Keeps s t) {on} : Goes s (Machine.execProbeAttach on t) := by
  unfold Machine.execProbeAttach
  extract_lets u p
  have hu : Keeps s u := h.wr
  exact .ite hu.next (.next (.ite hu hu.debugReset.wr))

theorem Keeps.requestEntry (h : Keeps s t) {c cause comp} : Keeps s (Machine.requestEntry c cause comp t) := by
  unfold Machine.requestEntry
  extract_lets p
  exact .ite h (.ite h.modDbg (.ite h.wri h))

theorem Keeps.trigPulse (h : Keeps s t) : Keeps s (Machine.trigPulse t) := by unfold Machine.trigPulse; exact .ite h h.modDbg

theorem Keeps.trigCapture (h : Keeps s t) : Keeps s (Machine.trigCapture t) := by unfold Machine.trigCapture; exact h.modDbg

theorem Keeps.execComparatorHit (h : Keeps s t) {c i addr data} : Goes s (Machine.execComparatorHit c i addr data t) := by
  unfold Machine.execComparatorHit
  extract_lets o key n u
  have hu : Keeps s u := h.modDbg
  refine .ite h.next ?_
  refine .ite hu.next ?_
  refine .next ?_
  split
  · exact hu.requestEntry.takeEntry
  · exact hu.trigCapture
  · exact hu.trigPulse
  · exact hu

theorem Keeps.trigAct (h : Keeps s t) {act c} : Keeps s (Machine.trigAct act c t) := by
  unfold Machine.trigAct
  split
  · exact h.requestEntry
  · exact h.trigCapture
  · exact h.trigPulse
  · exact h

theorem Keeps.execWeltMonitorMatch (h : Keeps s t) {m die router q} : Goes s (Machine.execWeltMonitorMatch m die router q t) := by
  unfold Machine.execWeltMonitorMatch
  extract_lets o
  exact .ite h.next h.inci.trigAct.next

theorem Keeps.execTriginEdge (h : Keeps s t) : Goes s (Machine.execTriginEdge t) := by unfold Machine.execTriginEdge; exact .ite h.trigAct.next h.next

theorem Keeps.coreEnter (h : Keeps s t) {c} : Keeps s (Machine.coreEnter c t) := by
  unfold Machine.coreEnter
  extract_lets o
  exact .ite h (.ite h.wri h.wri.requestEntry)

theorem Keeps.execDbgCoreEnter (h : Keeps s t) {c} : Goes s (Machine.execDbgCoreEnter c t) := by
  unfold Machine.execDbgCoreEnter
  exact h.coreEnter.next

theorem Keeps.execMonitorEntry (h : Keeps s t) {c} : Goes s (Machine.execMonitorEntry c t) := by
  unfold Machine.execMonitorEntry
  exact h.takeEntry.next

theorem Keeps.execTriggeredCapture (h : Keeps s t) : Goes s (Machine.execTriggeredCapture t) := by
  unfold Machine.execTriggeredCapture
  refine .ite h.next ?_
  extract_lets u rs st u1 u2
  have hu : Keeps s u := h.modDbg
  have hu1 : Keeps s u1 := hu.wr64.wr64.wr
  have hu2 : Keeps s u2 := hu1.wr
  exact .ite hu.inci.next (.next (.ite hu2 hu2.wr.capStart.modDbg.capPendEnd))

/-! The operations of Machine/Registers -/

theorem Keeps.popSecond (h : Keeps s t) {adr w} : Keeps s (Machine.popSecond adr w t) := by
  unfold Machine.popSecond
  exact .ite h.wr.wr (.ite h.wr (.ite h.wr h))

theorem Keeps.popHead (h : Keeps s t) {adr} : Keeps s (Machine.popHead adr t) := by
  unfold Machine.popHead
  split
  · exact h
  · exact h.lit.popSecond

theorem Keeps.clearRc (h : Keeps s t) {r off} : Keeps s (Machine.clearRc r off t) := by
  unfold Machine.clearRc
  extract_lets f u
  have hu : Keeps s u := h.foldl (fun u1 _ hu1 => hu1.wri)
  exact .ite h.modFlow (.ite h.modFlow (.ite h.modFlow (.ite hu.modPin hu)))

theorem Keeps.readEffect (h : Keeps s t) {r off} : Keeps s (Machine.readEffect r off t) := by
  unfold Machine.readEffect
  exact .ite h.popHead (.ite h.clearRc (.ite h.wr h))

theorem Keeps.regRead (h : Keeps s t) {m peek a} : Keeps s (Machine.regRead m peek a t).2 := by
  unfold Machine.regRead
  split
  · exact h
  · split
    · exact h
    · extract_lets off bad x1
      have hx1 : Keeps s x1.2 := h.free
      split
      · exact hx1
      · exact .right (.ite h h.readEffect)

theorem Keeps.limited (h : Keeps s t) {r} : Keeps s (Machine.limited r t) := by unfold Machine.limited; exact .ite h.wr (.ite h.wr h)

theorem Keeps.storeFlds (h : Keeps s t) {r busy off v} : Keeps s (Machine.storeFlds r busy off v t) := by
  unfold Machine.storeFlds
  refine .limited ?_
  refine .foldl h (fun u a hu => ?_)
  extract_lets x
  split
  · exact .ite hu hu.wri
  · exact hu.wri
  · exact hu.wri
  · exact hu

theorem Goes.afterOut {o : Out} (h : Goes s o) : Keeps s (Machine.afterOut t o) := by
  obtain ⟨u, rfl, hu⟩ := h
  exact hu

theorem Keeps.askRow (h : Keeps s t) {busy off} : Keeps s (Machine.askRow busy off t) := by
  unfold Machine.askRow
  extract_lets u
  have hu : Keeps s u := h.wri
  exact hu.lit

theorem Keeps.cfgCmdGo (h : Keeps s t) {op} : Keeps s (Machine.cfgCmdGo op t) := by
  unfold Machine.cfgCmdGo
  split
  · exact h.askRow
  · exact h.askRow
  · exact h.askRow
  · exact h.execCfgVerify.afterOut
  · exact h.execCfgReadback.afterOut
  · exact h.execCfgCaptureReadout.afterOut
  · exact h.execCfgAbort.afterOut
  · exact h.execCfgFlashDirectory.afterOut
  · exact h.cfgDone

theorem Keeps.shfCmdGo (h : Keeps s t) {op} : Keeps s (Machine.shfCmdGo op t) := by
  unfold Machine.shfCmdGo
  split
  · exact h.askRow
  · exact h.askRow
  · exact h.execShfVerify.afterOut
  · exact h.execShfArm.afterOut
  · exact h.execShfCommit.afterOut
  · exact h.execShfAbandon.afterOut
  · exact h.execShfRollback.afterOut
  · exact h.execShfRelease.afterOut
  · exact h.execShfDetach.afterOut
  · exact h.shfDone

theorem Keeps.updCmdGo (h : Keeps s t) {op} : Keeps s (Machine.updCmdGo op t) := by
  unfold Machine.updCmdGo
  split
  · exact h.askRow
  · exact h.updActivate
  · exact h.updAbort
  · exact h.updRevert
  · exact h.updConfirm
  · exact h.updDone

theorem Keeps.qcmdGo (h : Keeps s t) {op} : Keeps s (Machine.qcmdGo op t) := by
  unfold Machine.qcmdGo
  split
  · exact h.execQueEnable.afterOut
  · exact h.execQueDisable.afterOut
  · exact h.execQueResetIndices.afterOut
  · exact h.execQueRearm.afterOut
  · exact h.execQueReadBack.afterOut
  · exact h.qcmdDone

theorem Keeps.cobCmdGo (h : Keeps s t) {op} : Keeps s (Machine.cobCmdGo op t) := by
  unfold Machine.cobCmdGo
  split
  · exact h.execCobRestartSweep.afterOut
  · exact h.execCobClearRemapStore.afterOut
  · exact h.execCobClearHistory.afterOut
  · exact h.cobCmd

theorem Keeps.eyeCmdGo (h : Keeps s t) {op} : Keeps s (Machine.eyeCmdGo op t) := by
  unfold Machine.eyeCmdGo
  split
  · exact h.execEyeCmdSpare.afterOut
  · exact h.execEyeCmdMove.afterOut
  · exact h.execEyeCmdInject.afterOut
  · exact h.eyeCmdDone

theorem Keeps.chcmdGo (h : Keeps s t) {c op} : Keeps s (Machine.chcmdGo c op t) := by unfold Machine.chcmdGo; exact .ite h.askRow h.chcmdDone

theorem Keeps.bbxCmdGo (h : Keeps s t) {op} : Keeps s (Machine.bbxCmdGo op t) := by
  unfold Machine.bbxCmdGo
  split
  · exact h.bbxCopy
  · exact h.bbxHostRecord
  · exact h.bbxErase
  · exact h.bbxDone

theorem Keeps.tbCmdGo (h : Keeps s t) {op} : Keeps s (Machine.tbCmdGo op t) := by
  unfold Machine.tbCmdGo
  split
  · exact h.tbStep
  · exact h.rtcFromRegs
  · exact h.rtcFromTb
  · exact h.tbDone

theorem Keeps.cmdGo (h : Keeps s t) {r off v} : Keeps s (Machine.cmdGo r off v t) := by
  unfold Machine.cmdGo
  exact .ite h.cfgCmdGo (.ite h.execCaptureCommand.afterOut (.ite h.shfCmdGo (.ite h.updCmdGo (.ite h.qcmdGo (.ite h.cobCmdGo (.ite h.eyeCmdGo (.ite h.chcmdGo (.ite h.bbxCmdGo (.ite h.tbCmdGo (.ite h.gclLoad (.ite h.flowCmd (.ite (.ite h.coreEnter h.wri) (.ite h.execBankRemapCmd.afterOut (.ite h.secCmdGo h))))))))))))))

theorem Keeps.cmdWrite (h : Keeps s t) {r off v} : Keeps s (Machine.cmdWrite r off v t) := by
  unfold Machine.cmdWrite
  extract_lets busy go u u1
  have hu : Keeps s u := h.storeFlds
  have hu1 : Keeps s u1 := h.storeFlds
  exact .ite (.ite hu.execCfgAbort.afterOut hu) (.ite hu1 (.ite hu1.wri hu1.cmdGo))

theorem Keeps.awlCtlWrite (h : Keeps s t) {c v} : Keeps s (Machine.awlCtlWrite c v t) := by
  unfold Machine.awlCtlWrite
  exact .ite h.awlResetCmd (.ite h.awlStopCmd (.ite h.awlStartCmd h))

theorem Keeps.freeList (h : Keeps s t) {n w} : Keeps s (Machine.freeList n w t).2 := by
  induction n generalizing t with
  | zero => exact h
  | succ n ih => exact ih h.free

theorem Keeps.szlTestReg (h : Keeps s t) {b v} : Keeps s (Machine.szlTestReg b v t) := by
  unfold Machine.szlTestReg
  refine .ite ?_ h.szlTestWrite
  extract_lets x
  have hx : Keeps s x.2 := h.freeList
  exact hx.szlTestWrite

theorem Keeps.tampWrite (h : Keeps s t) {r off v} : Keeps s (Machine.tampWrite r off v t) := by unfold Machine.tampWrite; exact .ite h.storeFlds h

/-- A write's outcome: none, or a state that keeps these of `s`. -/
def KeepsSome (s : State) (o : Option State) : Prop := ∀ u ∈ o, Keeps s u

theorem KeepsSome.none : KeepsSome s none := fun _ hu => nomatch hu

theorem Keeps.some (h : Keeps s t) : KeepsSome s (some t) := fun _ hu => Option.mem_some.1 hu ▸ h

theorem KeepsSome.ite {c : Prop} [Decidable c] {x y : Option State} (hx : KeepsSome s x) (hy : KeepsSome s y) : KeepsSome s (if c then x else y) := by
  split
  · exact hx
  · exact hy

theorem Keeps.dieWrite (h : Keeps s t) {r off v} : KeepsSome s (Machine.dieWrite r off v t) :=
  .ite h.execRclkWrite.afterOut.some <| .ite h.execWakeTimerWrite.afterOut.some <| .ite h.execTrimFreezeWrite.afterOut.some <|
  .ite h.execAwlMemoryPowerWrite.afterOut.some <| .ite (Keeps.some (.ite h.execRegionRestore.afterOut h)) <| .ite h.execBankPowerRequest.afterOut.some <|
  .ite h.awlCtlWrite.some <| .ite h.raiseSoft.some <| .ite h.clearPend.some <| .ite h.storeFlds.wakeWait.some <| .ite h.wdSettle.storeFlds.some .none

theorem Keeps.blockWrite (h : Keeps s t) {m r off v} : KeepsSome s (Machine.blockWrite m r off v t) :=
  have hs : Keeps s (Machine.storeFlds r false off v t) := h.storeFlds
  .ite h.modeWrite.some <| .ite hs.wr.some <| .ite (Keeps.some (.ite hs.wr hs)) <| .ite h.segWrite.some <| .ite h.vaultWrite.some <|
  .ite h.gearWrite.some <| .ite h.gearWrite.some <| .ite h.stagingWrite.some <| .ite h.stagingWrite.some <| .ite h.execServiceSplitWrite.afterOut.some <|
  .ite (Keeps.some (.ite hs.statCopy hs)) <| .ite h.szlBctlWrite.some <| .ite h.szlPwrWrite.some <| .ite h.szlTestReg.some <| .ite h.szlInjWrite.some <|
  .ite h.cageWrite.some <| .ite (Keeps.some (.ite hs.wri hs)) <| .ite h.pcfgWrite.some <| .ite (Keeps.some (.ite h (.ite h.wr h.batGo))) <|
  .ite h.tampWrite.some <| .ite (Keeps.some hs.lit) .none

theorem Keeps.writeReg (h : Keeps s t) {m r off v} : Keeps s (Machine.writeReg m r off v t) := by
  unfold Machine.writeReg
  have hw : KeepsSome s (if 0x1000000 ≤ r.adr then Machine.dieWrite r off v t else Machine.blockWrite m r off v t) := .ite h.dieWrite h.blockWrite
  split
  next u e => exact hw u e
  · exact .ite h.cmdWrite h.storeFlds

theorem Keeps.denyHost (h : Keeps s t) {a} : Keeps s (Machine.denyHost a t) := by unfold Machine.denyHost; exact h.inci.wr.sbpEvent

theorem Keeps.regWrite (h : Keeps s t) {m a v} : Keeps s (Machine.regWrite m a v t).2 := by
  unfold Machine.regWrite
  split
  · exact h
  · split
    · exact h
    · split
      · split
        · exact h.hbWrite.right
        · exact h
        · exact h
      · split
        · split
          · exact h.denyHost.right
          · exact h
        · split
          · exact h
          · split
            · exact .right (.ite h.denyHost h)
            · exact h.writeReg.right

theorem Keeps.execRpQueuePop (h : Keeps s t) {m a} : Goes s (Machine.execRpQueuePop m a t) := by
  unfold Machine.execRpQueuePop
  split
  · refine .ite ?_ h.next
    extract_lets x1 u
    have hx1 : Keeps s x1.2 := h.regRead
    have hu : Keeps s u := hx1
    exact hx1.lit.next
  · exact h.next

theorem Keeps.execRcCounterRead (h : Keeps s t) {m a} : Goes s (Machine.execRcCounterRead m a t) := by
  unfold Machine.execRcCounterRead
  split
  · refine .ite ?_ h.next
    extract_lets x1 u
    have hx1 : Keeps s x1.2 := h.regRead
    have hu : Keeps s u := hx1
    exact hx1.lit.next
  · exact h.next

theorem Keeps.execRegisterWrite (h : Keeps s t) {m a v} : Goes s (Machine.execRegisterWrite m a v t) := by
  unfold Machine.execRegisterWrite
  exact h.regWrite.next

/-! The operations of Machine/Mirror -/

theorem Keeps.mirrorServe (h : Keeps s t) {q} : Keeps s (Machine.mirrorServe q t) := by
  unfold Machine.mirrorServe
  split
  · exact h.refuse
  · refine .ite ?_ ?_
    · extract_lets x1
      have hx1 : Keeps s x1.2 := h.regRead
      exact .ite hx1.answer hx1.refuse
    · split
      · exact h.refuse
      · extract_lets x2
        have hx2 : Keeps s x2.2 := h.regWrite
        exact .ite hx2.answer hx2.refuse

theorem Keeps.settle (h : Keeps s t) : Keeps s (Machine.settle t) := by
  unfold Machine.settle
  split
  · exact h
  · exact .pump (h.modWelt.foldl (fun u _ hu => hu.mirrorServe))

theorem Keeps.sendWelt (h : Keeps s t) {q} : Keeps s (Machine.sendWelt q t) := by unfold Machine.sendWelt; exact h.inject.settle

theorem Keeps.idle (h : Keeps s t) : Keeps s (Machine.idle t) := by unfold Machine.idle; exact h.tick.settle

/-! The operations of Machine/AwlRows -/

theorem Keeps.awlRun (h : Keeps s t) {m f} : Keeps s (Machine.awlRun m f t) := by unfold Machine.awlRun; exact h.awlRow.pump.settle

theorem Keeps.execAwlAdd (h : Keeps s t) {f} : Goes s (Machine.execAwlAdd f t) := by unfold Machine.execAwlAdd; exact h.awlRun.next

theorem Keeps.execAwlSub (h : Keeps s t) {f} : Goes s (Machine.execAwlSub f t) := by unfold Machine.execAwlSub; exact h.awlRun.next

theorem Keeps.execAwlCmp (h : Keeps s t) {f} : Goes s (Machine.execAwlCmp f t) := by unfold Machine.execAwlCmp; exact h.awlRun.next

theorem Keeps.execAwlAnd (h : Keeps s t) {f} : Goes s (Machine.execAwlAnd f t) := by unfold Machine.execAwlAnd; exact h.awlRun.next

theorem Keeps.execAwlOr (h : Keeps s t) {f} : Goes s (Machine.execAwlOr f t) := by unfold Machine.execAwlOr; exact h.awlRun.next

theorem Keeps.execAwlXor (h : Keeps s t) {f} : Goes s (Machine.execAwlXor f t) := by unfold Machine.execAwlXor; exact h.awlRun.next

theorem Keeps.execAwlShl (h : Keeps s t) {f} : Goes s (Machine.execAwlShl f t) := by unfold Machine.execAwlShl; exact h.awlRun.next

theorem Keeps.execAwlShr (h : Keeps s t) {f} : Goes s (Machine.execAwlShr f t) := by unfold Machine.execAwlShr; exact h.awlRun.next

theorem Keeps.execAwlAsr (h : Keeps s t) {f} : Goes s (Machine.execAwlAsr f t) := by unfold Machine.execAwlAsr; exact h.awlRun.next

theorem Keeps.execAwlNeg (h : Keeps s t) {f} : Goes s (Machine.execAwlNeg f t) := by unfold Machine.execAwlNeg; exact h.awlRun.next

theorem Keeps.execAwlAbs (h : Keeps s t) {f} : Goes s (Machine.execAwlAbs f t) := by unfold Machine.execAwlAbs; exact h.awlRun.next

theorem Keeps.execAwlSat (h : Keeps s t) {f} : Goes s (Machine.execAwlSat f t) := by unfold Machine.execAwlSat; exact h.awlRun.next

theorem Keeps.execAwlRnd (h : Keeps s t) {f} : Goes s (Machine.execAwlRnd f t) := by unfold Machine.execAwlRnd; exact h.awlRun.next

theorem Keeps.execAwlMpy (h : Keeps s t) {f} : Goes s (Machine.execAwlMpy f t) := by unfold Machine.execAwlMpy; exact h.awlRun.next

theorem Keeps.execAwlMac (h : Keeps s t) {f} : Goes s (Machine.execAwlMac f t) := by unfold Machine.execAwlMac; exact h.awlRun.next

theorem Keeps.execAwlMsu (h : Keeps s t) {f} : Goes s (Machine.execAwlMsu f t) := by unfold Machine.execAwlMsu; exact h.awlRun.next

theorem Keeps.execAwlMpyUu (h : Keeps s t) {f} : Goes s (Machine.execAwlMpyUu f t) := by unfold Machine.execAwlMpyUu; exact h.awlRun.next

theorem Keeps.execAwlMacUu (h : Keeps s t) {f} : Goes s (Machine.execAwlMacUu f t) := by unfold Machine.execAwlMacUu; exact h.awlRun.next

theorem Keeps.execAwlMacSu (h : Keeps s t) {f} : Goes s (Machine.execAwlMacSu f t) := by unfold Machine.execAwlMacSu; exact h.awlRun.next

theorem Keeps.execAwlParallelMove (h : Keeps s t) {f} : Goes s (Machine.execAwlParallelMove f t) := by
  unfold Machine.execAwlParallelMove
  exact h.awlRun.next

theorem Keeps.execAwlLdx (h : Keeps s t) {f} : Goes s (Machine.execAwlLdx f t) := by unfold Machine.execAwlLdx; exact h.awlRun.next

theorem Keeps.execAwlLdy (h : Keeps s t) {f} : Goes s (Machine.execAwlLdy f t) := by unfold Machine.execAwlLdy; exact h.awlRun.next

theorem Keeps.execAwlStx (h : Keeps s t) {f} : Goes s (Machine.execAwlStx f t) := by unfold Machine.execAwlStx; exact h.awlRun.next

theorem Keeps.execAwlSty (h : Keeps s t) {f} : Goes s (Machine.execAwlSty f t) := by unfold Machine.execAwlSty; exact h.awlRun.next

theorem Keeps.execAwlLdw (h : Keeps s t) {f} : Goes s (Machine.execAwlLdw f t) := by unfold Machine.execAwlLdw; exact h.awlRun.next

theorem Keeps.execAwlStw (h : Keeps s t) {f} : Goes s (Machine.execAwlStw f t) := by unfold Machine.execAwlStw; exact h.awlRun.next

theorem Keeps.execAwlMov (h : Keeps s t) {f} : Goes s (Machine.execAwlMov f t) := by unfold Machine.execAwlMov; exact h.awlRun.next

theorem Keeps.execAwlMovToSysreg (h : Keeps s t) {f} : Goes s (Machine.execAwlMovToSysreg f t) := by
  unfold Machine.execAwlMovToSysreg
  exact h.awlRun.next

theorem Keeps.execAwlMovFromSysreg (h : Keeps s t) {f} : Goes s (Machine.execAwlMovFromSysreg f t) := by
  unfold Machine.execAwlMovFromSysreg
  exact .next (.awlRun (.ite h.modCore h))

theorem Keeps.execAwlMovImm16 (h : Keeps s t) {f} : Goes s (Machine.execAwlMovImm16 f t) := by unfold Machine.execAwlMovImm16; exact h.awlRun.next

theorem Keeps.execAwlLongImmediate (h : Keeps s t) {f} : Goes s (Machine.execAwlLongImmediate f t) := by
  unfold Machine.execAwlLongImmediate
  exact h.awlRun.next

theorem Keeps.execAwlPmod (h : Keeps s t) {f} : Goes s (Machine.execAwlPmod f t) := by unfold Machine.execAwlPmod; exact h.awlRun.next

theorem Keeps.execAwlPadd (h : Keeps s t) {f} : Goes s (Machine.execAwlPadd f t) := by unfold Machine.execAwlPadd; exact h.awlRun.next

theorem Keeps.execAwlBr (h : Keeps s t) {f} : Goes s (Machine.execAwlBr f t) := by unfold Machine.execAwlBr; exact h.awlRun.next

theorem Keeps.execAwlBrc (h : Keeps s t) {f} : Goes s (Machine.execAwlBrc f t) := by unfold Machine.execAwlBrc; exact h.awlRun.next

theorem Keeps.execAwlCall (h : Keeps s t) {f} : Goes s (Machine.execAwlCall f t) := by unfold Machine.execAwlCall; exact h.awlRun.next

theorem Keeps.execAwlRet (h : Keeps s t) {f} : Goes s (Machine.execAwlRet f t) := by unfold Machine.execAwlRet; exact h.awlRun.next

theorem Keeps.execAwlRti (h : Keeps s t) {f} : Goes s (Machine.execAwlRti f t) := by unfold Machine.execAwlRti; exact h.awlRun.next

theorem Keeps.execAwlLoop (h : Keeps s t) {f} : Goes s (Machine.execAwlLoop f t) := by unfold Machine.execAwlLoop; exact h.awlRun.next

theorem Keeps.execAwlNop (h : Keeps s t) {f} : Goes s (Machine.execAwlNop f t) := by unfold Machine.execAwlNop; exact h.awlRun.next

theorem Keeps.execAwlRot (h : Keeps s t) {f} : Goes s (Machine.execAwlRot f t) := by unfold Machine.execAwlRot; exact h.awlRun.next

theorem Keeps.execAwlLock (h : Keeps s t) {f} : Goes s (Machine.execAwlLock f t) := by unfold Machine.execAwlLock; exact h.awlRun.next

theorem Keeps.execAwlWait (h : Keeps s t) {f} : Goes s (Machine.execAwlWait f t) := by unfold Machine.execAwlWait; exact h.awlRun.next

theorem Keeps.execAwlFence (h : Keeps s t) {f} : Goes s (Machine.execAwlFence f t) := by unfold Machine.execAwlFence; exact h.awlRun.next

theorem Keeps.execAwlTrap (h : Keeps s t) {f} : Goes s (Machine.execAwlTrap f t) := by unfold Machine.execAwlTrap; exact h.awlRun.next

theorem Keeps.execAwlDbg (h : Keeps s t) {f} : Goes s (Machine.execAwlDbg f t) := by unfold Machine.execAwlDbg; exact h.awlRun.next

theorem Keeps.execAwlEi (h : Keeps s t) {f} : Goes s (Machine.execAwlEi f t) := by unfold Machine.execAwlEi; exact h.awlRun.next

theorem Keeps.execAwlDi (h : Keeps s t) {f} : Goes s (Machine.execAwlDi f t) := by unfold Machine.execAwlDi; exact h.awlRun.next

theorem Keeps.execReservedEncoding (h : Keeps s t) {f} : Goes s (Machine.execReservedEncoding f t) := by
  unfold Machine.execReservedEncoding
  exact .ite h.next h.awlStep.pump.settle.next

/-! The operations of Machine/PcieRows -/

theorem Keeps.tlpDone (h : Keeps s t) {st v} : Keeps s (Machine.tlpDone st v t) := by unfold Machine.tlpDone; exact h.modPcie

theorem Keeps.tblPut (h : Keeps s t) {i v} : Keeps s (Machine.tblPut i v t) := by unfold Machine.tblPut; exact h.modPcie

theorem Keeps.bar0Write (h : Keeps s t) {off n full v} : Keeps s (Machine.bar0Write off n full v t) := by
  unfold Machine.bar0Write
  refine .ite h.regWrite ?_
  refine .ite ?_ (.ite h h.tlpDone)
  extract_lets i u
  have hu : Keeps s u := h.tblPut
  exact .msixUnmask (.ite hu.tblPut hu)

theorem Keeps.bar0Read (h : Keeps s t) {off n} : Keeps s (Machine.bar0Read off n t) := by
  unfold Machine.bar0Read
  refine .ite ?_ ?_
  · extract_lets x u
    have hx : Keeps s x.2 := h.regRead
    have hu : Keeps s u := hx
    exact hx.lit.tlpDone
  · refine .ite ?_ ?_
    · extract_lets i
      exact h.tlpDone
    · refine .ite ?_ h.tlpDone
      extract_lets i
      exact h.tlpDone

theorem Keeps.barWrite (h : Keeps s t) {bar a be v} : Keeps s (Machine.barWrite bar a be v t) := by
  unfold Machine.barWrite
  extract_lets l
  split
  · exact h
  · extract_lets u
    have hu : Keeps s u := h.modPcie
    exact .settle (.pump (hu.foldl (fun u1 _ hu1 => hu1.present)))

theorem Keeps.barRead (h : Keeps s t) {bar a n} : Keeps s (Machine.barRead bar a n t) := by
  unfold Machine.barRead
  split
  · exact h
  · exact h.modPcie.pump.settle

theorem Keeps.execPcieMemoryWrite (h : Keeps s t) {bar off be data} : Goes s (Machine.execPcieMemoryWrite bar off be data t) := by
  unfold Machine.execPcieMemoryWrite
  extract_lets o
  refine .ite h.next ?_
  refine .ite h.tlpDone.next ?_
  refine .ite h.bar0Write.next ?_
  split
  · exact h.barWrite.next
  · exact h.tlpDone.next

theorem Keeps.execPcieMemoryRead (h : Keeps s t) {bar off n} : Goes s (Machine.execPcieMemoryRead bar off n t) := by
  unfold Machine.execPcieMemoryRead
  extract_lets o
  refine .ite h.next ?_
  refine .ite h.tlpDone.next ?_
  refine .ite h.bar0Read.next ?_
  split
  · exact h.barRead.next
  · exact h.tlpDone.next

/-! The operations of Machine/Window -/

theorem Keeps.winDone (h : Keeps s t) {st data} : Keeps s (Machine.winDone st data t) := by unfold Machine.winDone; exact h.lit

theorem Keeps.winGo (h : Keeps s t) {f} (hf : ∀ u, Keeps s u → Keeps s (f u)) : Keeps s (Machine.winGo f t) := .ite h (.ite h.lit (.ite h.winDone (hf _ h)))

theorem Keeps.winReadReg (h : Keeps s t) {peek a} : Keeps s (Machine.winReadReg peek a t) := by
  unfold Machine.winReadReg
  extract_lets x
  have hx : Keeps s x.2 := h.regRead
  exact hx.winDone

theorem Keeps.winWriteReg (h : Keeps s t) {a v} : Keeps s (Machine.winWriteReg a v t) := by
  unfold Machine.winWriteReg
  extract_lets x
  have hx : Keeps s x.2 := h.regWrite
  exact hx.winDone

theorem Keeps.winWelt (h : Keeps s t) {a wr} : Keeps s (Machine.winWelt a wr t) := by
  unfold Machine.winWelt
  split
  · exact h.winDone
  · extract_lets q u _ u1
    have hu : Keeps s u := h.modWelt
    have hu1 : Keeps s u1 := hu.lit
    exact hu1.sendWelt

theorem Keeps.execDbgaccPoll (h : Keeps s t) {reserved} : Goes s (Machine.execDbgaccPoll reserved t) := by
  unfold Machine.execDbgaccPoll
  refine .ite h.next ?_
  extract_lets _ u
  have hu : Keeps s u := h.lit
  exact .next (.ite (hu.winGo (fun u1 hu1 => hu1.winDone)) hu)

theorem Keeps.execDbgaccRead (h : Keeps s t) {peek space a} : Goes s (Machine.execDbgaccRead peek space a t) := by
  unfold Machine.execDbgaccRead
  refine .next ?_
  refine .winGo h (fun u hu => ?_)
  refine .ite hu.winWelt ?_
  split
  · exact hu.winReadReg
  · exact hu.winDone

theorem Keeps.execDbgaccWrite (h : Keeps s t) {space a v} : Goes s (Machine.execDbgaccWrite space a v t) := by
  unfold Machine.execDbgaccWrite
  refine .next ?_
  refine .winGo h (fun u hu => ?_)
  extract_lets u1
  have hu1 : Keeps s u1 := hu.inci
  refine .ite hu1.winWelt ?_
  split
  · exact hu1.winWriteReg
  · exact hu1.winDone

/-! The operations of Machine/Sideband -/

theorem Keeps.wspReply (h : Keeps s t) {bcast l} : Keeps s (Machine.wspReply bcast l t) := by unfold Machine.wspReply; exact h.lit

theorem Keeps.wspSeen (h : Keeps s t) {own} : Keeps s (Machine.wspSeen own t) := by unfold Machine.wspSeen; exact h.modSide

theorem Keeps.wspGo (h : Keeps s t) {bcast readOnly f} (hf : ∀ u, Keeps s u → Keeps s (f u)) : Keeps s (Machine.wspGo bcast readOnly f t) :=
  .ite h (.ite h.wspSeen.wspReply (hf _ h.wspSeen))

theorem Keeps.wspIdent (h : Keeps s t) {b} : Keeps s (Machine.wspIdent b t) := by unfold Machine.wspIdent; exact h.wspGo (fun u hu => hu.wspReply)

theorem Keeps.wspReads (h : Keeps s t) {n a} : Keeps s (Machine.wspReads n a t).2 := by
  induction n generalizing t a with
  | zero => exact h
  | succ n ih =>
    unfold Machine.wspReads
    extract_lets x y
    have hx : Keeps s x.2 := h.regRead
    split
    · exact hx
    · exact ih hx

theorem Keeps.wspRead (h : Keeps s t) {b a n} : Keeps s (Machine.wspRead b a n t) := by
  unfold Machine.wspRead
  refine .wspGo h (fun u hu => ?_)
  refine .ite hu.wspReply ?_
  extract_lets x
  have hx : Keeps s x.2 := hu.wspReads
  exact hx.wspReply

theorem Keeps.wspWrites (h : Keeps s t) {a l} : Keeps s (Machine.wspWrites a l t).2 := by
  induction l generalizing t a with
  | nil => exact h
  | cons v l ih =>
    unfold Machine.wspWrites
    extract_lets x
    have hx : Keeps s x.2 := h.regWrite
    split
    · exact hx
    · exact ih hx

theorem Keeps.wspWrite (h : Keeps s t) {b a vs} : Keeps s (Machine.wspWrite b a vs t) := by
  unfold Machine.wspWrite
  refine .wspGo h (fun u hu => ?_)
  refine .ite hu.wspReply ?_
  extract_lets x
  have hx : Keeps s x.2 := hu.wspWrites
  exact hx.wspReply

theorem Keeps.wspBaud (h : Keeps s t) {b i} : Keeps s (Machine.wspBaud b i t) := by
  unfold Machine.wspBaud
  exact h.wspGo (fun u hu => .ite hu.wspReply (.ite hu.wspReply hu.wr.sbpEvent.modSide.wspReply))

theorem Keeps.giveControl (h : Keeps s t) {v kind} : Keeps s (Machine.giveControl v kind t) := by
  unfold Machine.giveControl
  extract_lets u
  have hu : Keeps s u := h.wr.sbpEvent
  exact .ite hu hu.sbpRecord

theorem Keeps.wspTake (h : Keeps s t) {b} : Keeps s (Machine.wspTake b t) := by
  unfold Machine.wspTake
  exact h.wspGo (fun u hu => .ite hu.giveControl.wspReply hu.wspReply)

theorem Keeps.wspRelease (h : Keeps s t) {b} : Keeps s (Machine.wspRelease b t) := by
  unfold Machine.wspRelease
  exact h.wspGo (fun u hu => .wspReply (.ite hu hu.giveControl))

theorem Keeps.wspNvread (h : Keeps s t) {b off n} : Keeps s (Machine.wspNvread b off n t) := by
  unfold Machine.wspNvread
  exact h.wspGo (fun u hu => .ite hu.wspReply hu.wspReply)

theorem Keeps.nvsPut (h : Keeps s t) {o l} : Keeps s (Machine.nvsPut o l t).2 := by
  induction l generalizing t o with
  | nil => exact h
  | cons v l ih => exact ih (.ite h h.modSide)

theorem Keeps.wspNvwrite (h : Keeps s t) {b off l} : Keeps s (Machine.wspNvwrite b off l t) := by
  unfold Machine.wspNvwrite
  refine .wspGo h (fun u hu => ?_)
  refine .ite hu.wspReply ?_
  refine .ite hu.wspReply ?_
  extract_lets x
  have hx : Keeps s x.2 := hu.nvsPut
  exact hx.wspReply

theorem Keeps.wspMem (h : Keeps s t) {b a n wr} : Keeps s (Machine.wspMem b a n wr t) := by
  unfold Machine.wspMem
  refine .wspGo h (fun u hu => ?_)
  refine .ite hu.wspReply ?_
  refine .ite hu.wspReply ?_
  split
  · exact hu.wspReply
  · extract_lets l l1 u1
    have hu1 : Keeps s u1 := hu.modWelt
    exact .settle (.pump (hu1.foldl (fun u2 _ hu2 => hu2.present)))

theorem Keeps.execWspIdent (h : Keeps s t) {b} : Goes s (Machine.execWspIdent b t) := by unfold Machine.execWspIdent; exact h.wspIdent.next

theorem Keeps.execWspRead (h : Keeps s t) {b a n} : Goes s (Machine.execWspRead b a n t) := by unfold Machine.execWspRead; exact h.wspRead.next

theorem Keeps.execWspWrite (h : Keeps s t) {b a vs} : Goes s (Machine.execWspWrite b a vs t) := by unfold Machine.execWspWrite; exact h.wspWrite.next

theorem Keeps.execWspBaud (h : Keeps s t) {b i} : Goes s (Machine.execWspBaud b i t) := by unfold Machine.execWspBaud; exact h.wspBaud.next

theorem Keeps.execWspBaudFallback (h : Keeps s t) : Goes s (Machine.execWspBaudFallback t) := by
  unfold Machine.execWspBaudFallback
  split
  · exact h.next
  · exact h.reachElapsed.wr.modSide.sbpEvent.next

theorem Keeps.execWspTake (h : Keeps s t) {b} : Goes s (Machine.execWspTake b t) := by unfold Machine.execWspTake; exact h.wspTake.next

theorem Keeps.execWspRelease (h : Keeps s t) {b} : Goes s (Machine.execWspRelease b t) := by unfold Machine.execWspRelease; exact h.wspRelease.next

theorem Keeps.execWspNvread (h : Keeps s t) {b off n} : Goes s (Machine.execWspNvread b off n t) := by
  unfold Machine.execWspNvread
  exact h.wspNvread.next

theorem Keeps.execWspNvwrite (h : Keeps s t) {b off l} : Goes s (Machine.execWspNvwrite b off l t) := by
  unfold Machine.execWspNvwrite
  exact h.wspNvwrite.next

theorem Keeps.execWspMemread (h : Keeps s t) {b a n} : Goes s (Machine.execWspMemread b a n t) := by
  unfold Machine.execWspMemread
  exact h.wspMem.next

theorem Keeps.execWspMemwrite (h : Keeps s t) {b a l} : Goes s (Machine.execWspMemwrite b a l t) := by
  unfold Machine.execWspMemwrite
  exact h.wspMem.next

theorem Keeps.wspCommand (h : Keeps s t) {b cmd p} : Keeps s (Machine.wspCommand b cmd p t) := by
  unfold Machine.wspCommand
  extract_lets n fld bad
  have hbad : Keeps s bad := h.wspGo (fun u hu => hu.wspReply)
  split
  · exact .ite h.wspIdent hbad
  · exact .ite h.wspRead hbad
  · exact .ite h.wspWrite hbad
  · exact .ite h.wspBaud hbad
  · exact .ite h.wspTake hbad
  · exact .ite h.wspRelease hbad
  · exact .ite h.wspNvread hbad
  · exact .ite h.wspNvwrite hbad
  · exact .ite h.wspMem hbad
  · exact .ite h.wspMem hbad
  · exact hbad

theorem Keeps.execWspFrameReceive (h : Keeps s t) {bytes} : Goes s (Machine.execWspFrameReceive bytes t) := by
  unfold Machine.execWspFrameReceive
  extract_lets l n adr len body
  exact .ite h.inci.next (.ite h.wspCommand.next h.wspSeen.next)

theorem Keeps.execControlAutoReturn (h : Keeps s t) : Goes s (Machine.execControlAutoReturn t) := by
  unfold Machine.execControlAutoReturn
  refine .ite h.next ?_
  extract_lets u live
  have hu : Keeps s u := h.reachElapsed
  exact .next (.ite hu.giveControl h)

/-! The operations of Machine/WeltRows -/

theorem Keeps.weltRow (h : Keeps s t) {op q} : Keeps s (Machine.weltRow op q t) := by unfold Machine.weltRow; exact .ite h.sendWelt h

theorem Keeps.execRd (h : Keeps s t) {q} : Goes s (Machine.execRd q t) := by unfold Machine.execRd; exact h.weltRow.next

theorem Keeps.execWr (h : Keeps s t) {q} : Goes s (Machine.execWr q t) := by unfold Machine.execWr; exact h.weltRow.next

theorem Keeps.execWrp (h : Keeps s t) {q} : Goes s (Machine.execWrp q t) := by unfold Machine.execWrp; exact h.weltRow.next

theorem Keeps.execAadd (h : Keeps s t) {q} : Goes s (Machine.execAadd q t) := by unfold Machine.execAadd; exact h.weltRow.next

theorem Keeps.execAswp (h : Keeps s t) {q} : Goes s (Machine.execAswp q t) := by unfold Machine.execAswp; exact h.weltRow.next

theorem Keeps.execAcas (h : Keeps s t) {q} : Goes s (Machine.execAcas q t) := by unfold Machine.execAcas; exact h.weltRow.next

theorem Keeps.execLrd (h : Keeps s t) {q} : Goes s (Machine.execLrd q t) := by unfold Machine.execLrd; exact h.weltRow.next

theorem Keeps.execUlwr (h : Keeps s t) {q} : Goes s (Machine.execUlwr q t) := by unfold Machine.execUlwr; exact h.weltRow.next

theorem Keeps.execUnl (h : Keeps s t) {q} : Goes s (Machine.execUnl q t) := by unfold Machine.execUnl; exact h.weltRow.next

theorem Keeps.execMsg (h : Keeps s t) {q} : Goes s (Machine.execMsg q t) := by unfold Machine.execMsg; exact h.weltRow.next

theorem Keeps.execGwr (h : Keeps s t) {q} : Goes s (Machine.execGwr q t) := by unfold Machine.execGwr; exact h.weltRow.next

theorem Keeps.execGmsg (h : Keeps s t) {q} : Goes s (Machine.execGmsg q t) := by unfold Machine.execGmsg; exact h.weltRow.next

theorem Keeps.execGuaranteedSlotInjection (h : Keeps s t) {f at_ taken} : Goes s (Machine.execGuaranteedSlotInjection f at_ taken t) := by
  unfold Machine.execGuaranteedSlotInjection
  exact h.slotInject.settle.next

theorem Keeps.execGuaranteedBufferOverflow (h : Keeps s t) {f} : Goes s (Machine.execGuaranteedBufferOverflow f t) := by
  unfold Machine.execGuaranteedBufferOverflow
  exact h.overflowArrive.settle.next

theorem Keeps.execResponseArrival (h : Keeps s t) {r lat} : Goes s (Machine.execResponseArrival r lat t) := by
  unfold Machine.execResponseArrival
  exact h.respArrive.settle.next

theorem Keeps.execResponseTimeout (h : Keeps s t) {e tag} : Goes s (Machine.execResponseTimeout e tag t) := by
  unfold Machine.execResponseTimeout
  exact h.respTimeout.settle.next

theorem Keeps.execLockTimeout (h : Keeps s t) {tgt line} : Goes s (Machine.execLockTimeout tgt line t) := by
  unfold Machine.execLockTimeout
  exact h.lockTimeout.settle.next

theorem Keeps.execSinv (h : Keeps s t) {c line} : Goes s (Machine.execSinv c line t) := by unfold Machine.execSinv; exact h.sinvArrive.next

theorem Keeps.execSack (h : Keeps s t) {c line} : Goes s (Machine.execSack c line t) := by unfold Machine.execSack; exact h.sackArrive.settle.next

theorem Keeps.execLdwDataArrival (h : Keeps s t) {r lat} : Goes s (Machine.execLdwDataArrival r lat t) := by
  unfold Machine.execLdwDataArrival
  exact .ite h.respArrive.settle.next h.next

theorem Keeps.execStwResponse (h : Keeps s t) {r lat} : Goes s (Machine.execStwResponse r lat t) := by
  unfold Machine.execStwResponse
  exact .ite h.respArrive.settle.next h.next

/-! The operations of Machine/Dispatch -/

theorem Keeps.exec (h : Keeps s t) {i} : Goes s (Machine.exec i t) := by
  unfold Machine.exec
  split
  · exact h.execModeReqDormant
  · exact h.execModeReqLoad
  · exact h.execModeReqHold
  · exact h.execSafeAcknowledgment
  · exact h.execModeReqRun
  · exact h.execRunStartAtTs
  · exact h.execHoldAtTh
  · exact h.execModeReqCompleteCoreStop
  · exact h.execResetIsolationClamp
  · exact h.execResetIsolationRelease
  · exact h.execOscillatorStartDelayEnd
  · exact h.execStabilityWindowEnd
  · exact h.execLastPllsLocked
  · exact h.execLastFirmwareBoot
  · exact h.execDieProbeAnswer
  · exact h.execProbeDeadline
  · exact h.execAutoBootDecision
  · exact h.execColdLoad
  · exact h.execImageChunkArrival
  · exact h.execFrameWriteReadback
  · exact h.execLoadContentsDone
  · exact h.execCfgVerify
  · exact h.execCfgReadback
  · exact h.execCfgCaptureReadout
  · exact h.execCfgRawWrite
  · exact h.execCfgFlashWrite
  · exact h.execCfgAbort
  · exact h.execCfgFlashDirectory
  · exact h.execStagingAreaWrite
  · exact h.execCaptureCommand
  · exact h.execCaptureAtT
  · exact h.execCaptureComplete
  · exact h.execRegionRestore
  · exact h.execAsyncSrAssert
  · exact h.execNetworkWake
  · exact h.execIdleLimitReached
  · exact h.execWakeTimerExpiry
  · exact h.execWakeTimerWrite
  · exact h.execRclkWrite
  · exact h.execTrimWindowEnd
  · exact h.execTrimLockTimeout
  · exact h.execTrimFreezeWrite
  · exact h.execBankPortAccess
  · exact h.execNarrowWriteMerge
  · exact h.execForcedCycle
  · exact h.execBankRemapCmd
  · exact h.execBankRemapStep
  · exact h.execBankPowerRequest
  · exact h.execBankPowerTransitionDone
  · exact h.execBankScrubWake
  · exact h.execWipeConfirmTimeout
  · exact h.execAwlMemoryPowerWrite
  · exact h.execLastStoreSegmentPower
  · exact h.execVaultPowerWrite
  · exact h.execMemoryWakeDone
  · exact h.execEyeletTrainingTimeout
  · exact h.execLaneFailing
  · exact h.execLaneSpare
  · exact h.execReserveMove
  · exact h.execReserveSwap
  · exact h.execLaneRetire
  · exact h.execHalfWidthChange
  · exact h.execEyeletUncorrectable
  · exact h.execEyeletClockLaneLoss
  · exact h.execEyeCmdSpare
  · exact h.execEyeCmdMove
  · exact h.execEyeCmdInject
  · exact h.execRd
  · exact h.execWr
  · exact h.execWrp
  · exact h.execAadd
  · exact h.execAswp
  · exact h.execAcas
  · exact h.execLrd
  · exact h.execUlwr
  · exact h.execUnl
  · exact h.execMsg
  · exact h.execGwr
  · exact h.execGmsg
  · exact h.execGuaranteedSlotInjection
  · exact h.execGuaranteedBufferOverflow
  · exact h.execResponseArrival
  · exact h.execResponseTimeout
  · exact h.execLockTimeout
  · exact h.execSinv
  · exact h.execSack
  · exact h.execServiceModeChange
  · exact h.execServiceChangeDrainTimeout
  · exact h.execServiceSplitWrite
  · exact h.execWeltBufferUe
  · exact h.execFlowEnable
  · exact h.execFlowDisable
  · exact h.execFlowHandover
  · exact h.execFlowCommandBoundary
  · exact h.execEpochConfirmed
  · exact h.execEpochConfirmTimeout
  · exact h.execEpochBoundary
  · exact h.execEpochDrainComplete
  · exact h.execEpochDrainTimeout
  · exact h.execStatsWindowEnd
  · exact h.execStatsSnap
  · exact h.execQueDoorbell
  · exact h.execQueReserve
  · exact h.execQueCommit
  · exact h.execQueRelease
  · exact h.execQueClaim
  · exact h.execQueEnable
  · exact h.execQueDisable
  · exact h.execQueResetIndices
  · exact h.execQueRearm
  · exact h.execQueReadBack
  · exact h.execQueContextUe
  · exact h.execAwlStart
  · exact h.execAwlStop
  · exact h.execAwlReset
  · exact h.execAwlIsetWrite
  · exact h.execFabricIrq
  · exact h.execInterruptEntry
  · exact h.execLdwDataArrival
  · exact h.execStwResponse
  · exact h.execWatchdogFirstExpiry
  · exact h.execWatchdogSecondExpiry
  · exact h.execAwlAdd
  · exact h.execAwlSub
  · exact h.execAwlCmp
  · exact h.execAwlAnd
  · exact h.execAwlOr
  · exact h.execAwlXor
  · exact h.execAwlShl
  · exact h.execAwlShr
  · exact h.execAwlAsr
  · exact h.execAwlNeg
  · exact h.execAwlAbs
  · exact h.execAwlSat
  · exact h.execAwlRnd
  · exact h.execAwlMpy
  · exact h.execAwlMac
  · exact h.execAwlMsu
  · exact h.execAwlMpyUu
  · exact h.execAwlMacUu
  · exact h.execAwlMacSu
  · exact h.execAwlParallelMove
  · exact h.execAwlLdx
  · exact h.execAwlLdy
  · exact h.execAwlStx
  · exact h.execAwlSty
  · exact h.execAwlLdw
  · exact h.execAwlStw
  · exact h.execAwlMov
  · exact h.execAwlMovToSysreg
  · exact h.execAwlMovFromSysreg
  · exact h.execAwlMovImm16
  · exact h.execAwlLongImmediate
  · exact h.execAwlPmod
  · exact h.execAwlPadd
  · exact h.execAwlBr
  · exact h.execAwlBrc
  · exact h.execAwlCall
  · exact h.execAwlRet
  · exact h.execAwlRti
  · exact h.execAwlLoop
  · exact h.execAwlNop
  · exact h.execAwlRot
  · exact h.execAwlLock
  · exact h.execAwlWait
  · exact h.execAwlFence
  · exact h.execAwlTrap
  · exact h.execAwlDbg
  · exact h.execAwlEi
  · exact h.execAwlDi
  · exact h.execDramWriteQueueDrain
  · exact h.execDramPageIdleExpiry
  · exact h.execDramRefresh
  · exact h.execDramTemperatureRead
  · exact h.execDramZeroFill
  · exact h.execDramTrack
  · exact h.execDrcTrackNow
  · exact h.execDrcRetrainLane
  · exact h.execDrcRemap
  · exact h.execSweepRead
  · exact h.execSweepLate
  · exact h.execCorrectionRewrite
  · exact h.execBurstSecondEnd
  · exact h.execBurstHoldExpiry
  · exact h.execHistoryEntryExpiry
  · exact h.execRemapStoreWrite
  · exact h.execCobRestartSweep
  · exact h.execCobClearRemapStore
  · exact h.execCobClearHistory
  · exact h.execSazorTraining
  · exact h.execSazorTrainingRetry
  · exact h.execSazorRetrain
  · exact h.execFlitReceive
  · exact h.execFlitReplay
  · exact h.execIdleAckTimer
  · exact h.execBridgeRequest
  · exact h.execRemoteRequestAdmission
  · exact h.execBundleFailCompletion
  · exact h.execStreamCycleLoss
  · exact h.execStreamTagMismatch
  · exact h.execSazorPowerIdleTimer
  · exact h.execSazorTxWake
  · exact h.execSazorPwrWrite
  · exact h.execSazorPatternTest
  · exact h.execSazorErrorInject
  · exact h.execPcieReset
  · exact h.execPcieLinkTraining
  · exact h.execPcieMemoryWrite
  · exact h.execPcieMemoryRead
  · exact h.execEthFrameReceive
  · exact h.execEthFrameTransmit
  · exact h.execEthStreamPlaceTimeout
  · exact h.execGptpSync
  · exact h.execGptpSyncLoss
  · exact h.execEthGclLoad
  · exact h.execGclBecomesOperational
  · exact h.execEthCageModeWrite
  · exact h.execEventInputEdge
  · exact h.execEventMergeDelivery
  · exact h.execEventInputStuck
  · exact h.execGioPcfgWrite
  · exact h.execBankSupplyFault
  · exact h.execReferenceLoss
  · exact h.execPllUnlock
  · exact h.execRegionClockFailure
  · exact h.execSafeStabilityWindow
  · exact h.execAutoResume
  · exact h.execRtcSync
  · exact h.execTimebaseStep
  · exact h.execRtcSetFromRegisters
  · exact h.execRtcSetFromTimebase
  · exact h.execGearTargetChange
  · exact h.execGearRailInRegulation
  · exact h.execGearSwitchCount
  · exact h.execGearRampTimeout
  · exact h.execCoreRailOutOfBand
  · exact h.execMainsLost
  · exact h.execMainsRestored
  · exact h.execHoldupTest
  · exact h.execPowerLossDormant
  · exact h.execStandbyOutputStop
  · exact h.execSupplyStart
  · exact h.execSupplyStartFailure
  · exact h.execSupplyOvertemp
  · exact h.execSupplyOverload
  · exact h.execSupplyStageRestart
  · exact h.execDieOvercurrent
  · exact h.execRegulatorLinkLost
  · exact h.execRailFault
  · exact h.execCoinCellMeasure
  · exact h.execHostConnectorMate
  · exact h.execWspFrameReceive
  · exact h.execWspIdent
  · exact h.execWspRead
  · exact h.execWspWrite
  · exact h.execWspBaud
  · exact h.execWspBaudFallback
  · exact h.execWspTake
  · exact h.execWspRelease
  · exact h.execWspNvread
  · exact h.execWspNvwrite
  · exact h.execWspMemread
  · exact h.execWspMemwrite
  · exact h.execHeartbeatWrite
  · exact h.execHeartbeatLapse
  · exact h.execControlAutoReturn
  · exact h.execSignedProgramSlot
  · exact h.execSignedRevokeSlot
  · exact h.execLifeCycleTransition
  · exact h.execSignedLoadKey
  · exact h.execSignedEraseKey
  · exact h.execSignedDebugUnlock
  · exact h.execSignedCellService
  · exact h.execTamperEvent
  · exact h.execOwnerLockChange
  · exact h.execMotionInputChange
  · exact h.execCellServiceOpen
  · exact h.execCellServiceClose
  · exact h.execDbgaccPoll
  · exact h.execDbgaccRead
  · exact h.execDbgaccWrite
  · exact h.execDebugReset
  · exact h.execProbeAttach
  · exact h.execComparatorHit
  · exact h.execWeltMonitorMatch
  · exact h.execTriginEdge
  · exact h.execDbgCoreEnter
  · exact h.execMonitorEntry
  · exact h.execTriggeredCapture
  · exact h.execShfStage
  · exact h.execShfStagingComplete
  · exact h.execShfVerify
  · exact h.execShfArm
  · exact h.execArmAnswerTimeout
  · exact h.execArmComplete
  · exact h.execArmTimeout
  · exact h.execShfCommit
  · exact h.execCommitAckDeadline
  · exact h.execCommitAtTc
  · exact h.execCommitReportDeadline
  · exact h.execShfAbandon
  · exact h.execShfRollback
  · exact h.execRollbackAtTr
  · exact h.execShfRelease
  · exact h.execAutoRelease
  · exact h.execShfAttach
  · exact h.execShfDetach
  · exact h.execQuiesceTimeout
  · exact h.execDetachComplete
  · exact h.execUpdStage
  · exact h.execUpdActivate
  · exact h.execUpdAbort
  · exact h.execUpdRevert
  · exact h.execUpdConfirm
  · exact h.execUpdateStepStart
  · exact h.execUpdateStepHoldTimeout
  · exact h.execUpdateStepFailure
  · exact h.execTrialEnd
  · exact h.execBlackBoxRecordProgram
  · exact h.execRateLimitSecondEnd
  · exact h.execBbxCopy
  · exact h.execBbxHostRecord
  · exact h.execBbxErase
  · exact h.execTemperatureReading
  · exact h.execGearPolicyStep
  · exact h.execDieOvertemp
  · exact h.execAvailabilityCheckpoint
  · exact h.execRpQueuePop
  · exact h.execRcCounterRead
  · exact h.execRegisterWrite
  · exact h.execRegionalClockEdge
  · exact h.execExpressClockEdge
  · exact h.execEthLinkChange
  · exact h.execReflockWindowEnd
  · exact h.execLaneWindowEnd
  · exact h.execAwlMemoryWakeDone
  · exact h.execFanFailure
  · exact h.execCoinCellPresenceChange
  · exact h.execRegulatorLinkRestored
  · exact h.execBankSupplyRestored
  · exact h.execRailBackInBand
  · exact h.execReservedEncoding

/-- A step has a next state, which keeps these of the state whose queue has lost the command taken. -/
theorem step_goes (s : State) : Goes { s with pending := s.pending.tail } (step s) := by
  unfold step
  split
  next h =>
    rw [h, List.tail_nil, ← h]
    exact (Keeps.refl s).idle.next
  next c rest h =>
    rw [h]
    exact (Keeps.refl _).exec

end

theorem settle_of_no_mirror {s : State} (h : s.welt.held.filter Held.mirror = []) : settle s = s := by rw [settle, h]

theorem State.pass_welt (s : State) (n : Nat) : (s.pass n).welt = s.welt := by
  unfold State.pass State.serve
  split <;> rfl

/-- Settles O2: the idle step by what a nanosecond does, the second half by what every command keeps. -/
theorem commandQueue : Obligations.CommandQueue := by
  refine ⟨fun s h => ?_, fun c s t e => ?_⟩
  · obtain ⟨helapsed, -, -, hpending, hmem, hmode⟩ := s.pass_spec 1
    refine ⟨s.tick, by rw [step, h]; rfl, hpending.trans h, helapsed, hmode, .of_mem hmem, fun f o hk => s.pass_rdi 1 ?_, fun hheld => settle_of_no_mirror ?_⟩
    · simpa using hk
    · rw [State.tick, State.pass_welt, hheld]
  · obtain ⟨u, hu, hkeeps⟩ := (Keeps.refl s).exec (i := c)
    obtain rfl : u = t := Host.Outcome.next.inj (hu.symm.trans e)
    exact hkeeps.pending

/-- Settles O3: every operation of the model keeps the canonical form. -/
theorem stepKeepsCanonical : Obligations.StepKeepsCanonical := by
  intro s t h e
  obtain ⟨u, hu, hkeeps⟩ := step_goes s
  obtain rfl : u = t := Host.Outcome.next.inj (hu.symm.trans e)
  exact hkeeps.canonical h

/-- Settles O4: every operation of the model keeps the plane selects among the two. -/
theorem stepKeepsPlanes : Obligations.StepKeepsPlanes := by
  intro s t h e
  obtain ⟨u, hu, hkeeps⟩ := step_goes s
  obtain rfl : u = t := Host.Outcome.next.inj (hu.symm.trans e)
  exact hkeeps.planes h

/-- Settles O5: every step has a next state. -/
theorem everyRunIsSafe : Obligations.EveryRunIsSafe := by
  intro s t _
  obtain ⟨u, hu, -⟩ := step_goes t
  exact ⟨u, hu⟩

end Sys2Proof.Machine

namespace Sys2Proof.Machine

set_option Elab.async false

/-! What a command leaves, read off the operations it is made of -/

section
variable {s t u : State} {l : List Nat}

@[simp] theorem yields_next (t : State) (P : State → Prop) : Yields (.next t) P ↔ P t :=
  ⟨fun ⟨_, e, h⟩ => Host.Outcome.next.inj e ▸ h, fun h => ⟨t, rfl, h⟩⟩

theorem eq_afterOut {o : Out} (h : o = .next t) (s : State) : t = afterOut s o := by rw [h]; rfl

theorem SameMem.refl : SameMem s s := fun _ => rfl

theorem SameMem.trans (h : SameMem s t) (g : SameMem t u) : SameMem s u := fun a => (g a).trans (h a)

theorem SameRegsBut.refl : SameRegsBut l s s := fun _ _ _ => rfl

theorem SameRegsBut.trans (h : SameRegsBut l s t) (g : SameRegsBut l t u) : SameRegsBut l s u := fun f o hk => (g f o hk).trans (h f o hk)

theorem SameRegsBut.congr (h : SameRegsBut l s t) (e : u.regs = t.regs) : SameRegsBut l s u := h.trans (.of_regs e l)

theorem SameRegsBut.wri (h : SameRegsBut l s t) {f : Fld} {o v : Nat} (hk : f.key o ∈ l := by simp) : SameRegsBut l s (t.wri f o v) :=
  h.trans fun _ _ hg => t.rdi_wri_ne v fun e => hg (e ▸ hk)

theorem SameRegsBut.wr (h : SameRegsBut l s t) {f : Fld} {v : Nat} (hk : f.key 0 ∈ l := by simp) : SameRegsBut l s (t.wr f v) := h.wri hk

theorem SameRegsBut.addi (h : SameRegsBut l s t) {f : Fld} {o n : Nat} (hk : f.key o ∈ l := by simp) : SameRegsBut l s (t.addi f o n) := h.wri hk

theorem SameRegsBut.modRegion (h : SameRegsBut l s t) {k : Nat} {f : Region → Region} : SameRegsBut l s (t.modRegion k f) := h

theorem SameRegsBut.modBank (h : SameRegsBut l s t) {k : Nat} {f : Bank → Bank} : SameRegsBut l s (t.modBank k f) := h

theorem SameRegsBut.ite {c : Prop} [Decidable c] (ht : SameRegsBut l s t) (hu : SameRegsBut l s u) : SameRegsBut l s (if c then t else u) := by
  split
  · exact ht
  · exact hu

/-- Two fields at one offset. -/
theorem State.rdi_wri_off (s : State) {f g : Fld} (h : g.key 0 ≠ f.key 0) (o v : Nat) : (s.wri f o v).rdi g o = s.rdi g o :=
  s.rdi_wri_ne v (by unfold Fld.key at *; omega)

/-- A register that exists once lies below those of the dies. -/
theorem State.rd_wri_above (s : State) {f g : Fld} (h : g.adr < f.adr ∧ g.lo < 32) (o v : Nat) : (s.wri f o v).rd g = s.rd g :=
  s.rd_wri_ne v (by unfold Fld.key; omega)

theorem State.rdi_wr_below (s : State) {f g : Fld} (h : f.adr < g.adr ∧ f.lo < 32) (p v : Nat) : (s.wr f v).rdi g p = s.rdi g p :=
  s.rdi_wr_ne v (by unfold Fld.key; omega)

/-- A field of a die's space is no field below it. -/
theorem State.rdi_wri_dieSpace (s : State) {f g : Fld} {p : Nat} (h : 0x1000000 ≤ f.adr ∧ f.lo < 32 ∧ g.lo < 32) (hp : g.adr + p < 0x1000000) (o v : Nat) :
    (s.wri f o v).rdi g p = s.rdi g p :=
  s.rdi_wri_ne v (by unfold Fld.key; omega)

theorem State.rdi_addi_off (s : State) {f g : Fld} (h : g.key 0 ≠ f.key 0) (o n : Nat) : (s.addi f o n).rdi g o = s.rdi g o := s.rdi_wri_off h o _

end

end Sys2Proof.Machine

namespace Sys2Proof.Machine

set_option Elab.async false

/-! Trim (R90, R91, R93, R95) -/

section
variable {s : State} {d : Fin 12} {r : Fin 32}

theorem wrapTo_mod (w : Nat) (x : Int) : wrapTo w x % 2 ^ w = wrapTo w x := by
  have h := Int.emod_lt_of_pos x (Int.natCast_pos.2 (Nat.two_pow_pos w))
  refine Nat.mod_eq_of_lt ?_
  unfold wrapTo
  omega

theorem gearSettle_of_step {g : Nat} (h : (s.gear g).step ≠ 6) : gearSettle g s = s := if_neg fun e => h e.1

/-- The group of a die is no field of a region. -/
theorem rdi_dieGroup_wri (s : State) {f : Fld} (h : 0x1000000 ≤ f.adr ∧ f.lo < 32) (d : Fin 12) (o v : Nat) :
    (s.wri f o v).rdi GEAR_DIE_GROUP (4 * d) = s.rdi GEAR_DIE_GROUP (4 * d) :=
  s.rdi_wri_ne v (Fld.key_ne_of_adr h.2 (by decide) (by have := d.isLt; simp only [GEAR_DIE_GROUP]; omega))

/-- A window of a region that is locking, with its warning shown already, not at its limit for long and its group not waiting for locks (R90, R91). -/
theorem trimWindowEnd_spec {dev : Int} (hact : s.rdi FDC_TRIMST_ACTIVE (oReg d r) ≠ 0) (hfreeze : s.rdi FDC_TRIM_FREEZE (oReg d r) ≠ 1)
    (hwarn : s.rdi FDC_TRIMST_TRIMWARN (oReg d r) = 1) (hstep : (s.gear (s.rdi GEAR_DIE_GROUP (4 * d))).step ≠ 6) (hlim : (s.region (rix d r)).trimLim < 7) :
    Yields (exec (.trimWindowEnd d r dev) s) fun t =>
      t.rdi FDC_TRIM_CODE (oReg d r) = wrapTo 7 (if dev > 5 then min (sgn7 (s.rdi FDC_TRIM_CODE (oReg d r)) + 1) 24
        else if dev < -5 then max (sgn7 (s.rdi FDC_TRIM_CODE (oReg d r)) - 1) (-24) else sgn7 (s.rdi FDC_TRIM_CODE (oReg d r))) ∧
      t.rdi FDC_TRIMST_TRIMLOCK (oReg d r) = (if -10 ≤ dev ∧ dev ≤ 10 ∧ 3 ≤ (s.region (rix d r)).trimIn then 1 else 0) ∧
      t.rdi FDC_TRIMST_DEV (oReg d r) = wrapTo 8 (max (-128) (min 127 dev)) ∧ SameMem s t ∧
      SameRegsBut [FDC_TRIM_CODE.key (oReg d r), FDC_TRIMST_DEV.key (oReg d r), FDC_TRIMST_TRIMLOCK.key (oReg d r)] s t := by
  change Yields (execTrimWindowEnd d r dev s) _
  rw [execTrimWindowEnd, if_neg hact]
  extract_lets code code' g inside nIn atLim nLim s1 s2 s3 s4 s5 s6
  have hwarned : s4.rdi FDC_TRIMST_TRIMWARN (oReg d r) = 1 := by
    simpa (disch := decide) only [s4, s3, s2, s1, State.rdi_wri_off, State.modRegion_rdi] using hwarn
  have h5 : s5 = s4 := if_neg fun h => absurd (hwarned.symm.trans h.2) one_ne_zero
  have hgroup : s4.rdi GEAR_DIE_GROUP (4 * d) = s.rdi GEAR_DIE_GROUP (4 * d) := by
    simp (disch := decide) only [s4, s3, s2, s1, rdi_dieGroup_wri, State.modRegion_rdi]
  have h6 : s6 = s4 := by
    have hsettle : gearSettle (s4.rdi GEAR_DIE_GROUP (4 * d)) s4 = s4 := gearSettle_of_step (by rw [hgroup]; exact hstep)
    simp only [s6, h5, hsettle, ite_self]
  have hnLim : ¬8 ≤ nLim := by simp only [nLim, g]; split <;> omega
  rw [if_neg fun h => hnLim h.1, h6, yields_next]
  refine ⟨?_, ?_, ?_, .of_mem rfl, (SameRegsBut.of_regs rfl _ : SameRegsBut _ s s1).wri.wri.wri⟩
  · simp (disch := decide) only [s4, s3, s2, State.rdi_wri_off, State.rdi_wri_same]
    rw [show FDC_TRIM_CODE.w = 7 from rfl, wrapTo_mod]
    simp only [code', if_neg hfreeze]
    rfl
  · simp only [s4, State.rdi_wri_same, nIn, inside, decide_eq_true_eq, g]
    simp only [FDC_TRIMST_TRIMLOCK]
    split_ifs <;> omega
  · simp (disch := decide) only [s4, s3, State.rdi_wri_off, State.rdi_wri_same]
    exact wrapTo_mod 8 _

end

/-- Settles O14. -/
theorem trimLoop : Obligations.TrimLoop := by
  refine ⟨fun s d r dev => trimWindowEnd_spec, fun s d r hmode hact hlock hfault => ?_, fun s d r v hup hmode hset => ?_, fun s d r v hup hmode hset => ?_⟩
  · change Yields (execTrimLockTimeout d r s) _
    rw [execTrimLockTimeout, if_pos ⟨hact, hlock, hfault⟩, yields_next]
    refine State.fault_mode ?_ ..
    rwa [(State.wri_mode_above _ (by decide) ..), (State.wri_mode_above _ (by decide) ..)]
  · change Yields (execTrimFreezeWrite d r v s) _
    have hm : (s.wri FDC_TRIM_SETCODE (oReg d r) (bits v.toNat 16 7)).mode = HOLD := (s.wri_mode_above (by decide) ..).trans hmode
    simp only [execTrimFreezeWrite, State.dieLive, hup, hset, hm, Bool.true_eq_false, one_ne_zero, if_true, if_false, yields_next]
    refine ⟨?_, ?_, ?_, .wri (.wri (.wri .refl)), .of_mem rfl⟩
    · simp (disch := decide) only [State.rdi_wri_off, State.rdi_wri_same]
      rfl
    · rw [State.rdi_wri_same]
      exact wrapTo_mod 7 _
    · simp (disch := decide) only [State.rdi_wri_off, State.rdi_wri_same]
      exact Nat.mod_mod ..
  · change Yields (execTrimFreezeWrite d r v s) _
    have hm : (s.wri FDC_TRIM_SETCODE (oReg d r) (bits v.toNat 16 7)).mode ≠ HOLD := (s.wri_mode_above (by decide) ..).trans_ne hmode
    simp only [execTrimFreezeWrite, State.dieLive, hup, hset, hm, Bool.true_eq_false, one_ne_zero, if_false, yields_next]
    refine ⟨State.rdi_wri_same .., ?_, .wri (.wri .refl), .of_mem rfl⟩
    simp (disch := decide) only [State.rdi_wri_off, State.rdi_wri_same]
    exact Nat.mod_mod ..

end Sys2Proof.Machine

namespace Sys2Proof.Machine

set_option Elab.async false

/-! Regions and their regional networks (R45, R48, R61, R63 to R68) -/

theorem bit_eq_toNat (x n : Nat) : bit x n = (x.testBit n).toNat := by
  rw [bit, ← Nat.toNat_testBit]

theorem bit_mod_two_pow {n w : Nat} (h : n < w) (x : Nat) : bit (x % 2 ^ w) n = bit x n := by
  rw [bit_eq_toNat, bit_eq_toNat, Nat.testBit_mod_two_pow, decide_eq_true h, Bool.true_and]

theorem bit_lor_self (x n : Nat) : bit (x ||| 2 ^ n) n = 1 := by
  rw [bit_eq_toNat, Nat.testBit_or, Nat.testBit_two_pow_self, Bool.or_true]
  rfl

theorem bit_lt_two (x n : Nat) : bit x n < 2 := Nat.mod_lt _ Nat.two_pos

/-- Bit `n` taken off a number. -/
theorem bit_sub_self (x n : Nat) : bit (x - bit x n * 2 ^ n) n = 0 := by
  have hdiv : (x - bit x n * 2 ^ n) / 2 ^ n = x / 2 ^ n - bit x n := by rw [Nat.mul_comm]; exact Nat.sub_mul_div ..
  rw [bit, hdiv, bit]
  omega

section
variable {d r k : Nat}

theorem setRun_frame (d r k : Nat) (on : Bool) (s : State) : (setRun d r k on s).regions = s.regions ∧ (setRun d r k on s).mem = s.mem := ⟨rfl, rfl⟩

theorem setRun_bit (hk : k < 4) (on : Bool) (s : State) : bit ((setRun d r k on s).rdi FDC_RSTAT_CLKRUN (oReg d r)) k = on.toNat := by
  rw [setRun, State.rdi_wri_same, show FDC_RSTAT_CLKRUN.w = 4 from rfl, bit_mod_two_pow hk]
  cases on with
  | true => exact bit_lor_self ..
  | false => exact bit_sub_self ..

theorem setRun_rdi {f : Fld} {o : Nat} (h : f.key o ≠ FDC_RSTAT_CLKRUN.key (oReg d r)) (on : Bool) (s : State) : (setRun d r k on s).rdi f o = s.rdi f o :=
  s.rdi_wri_ne _ h

theorem idle_cleared (s : State) (j k : Nat) : tabGet 0 ((s.modRegion j fun g => { g with idle := tabSet 0 g.idle k 0 }).region j).idle k = 0 := by
  rw [State.region_modRegion]
  exact tabGet_set_same 0 _ k 0

theorem SameRegsBut.setRun {t : State} {l : List Nat} (h : SameRegsBut l s t) {d r k : Nat} {on : Bool} (hk : FDC_RSTAT_CLKRUN.key (oReg d r) ∈ l := by simp) :
    SameRegsBut l s (Machine.setRun d r k on t) := h.wri hk

/-- A wake changes of the region tables but idle counts. -/
theorem wakeNet_wakeTimerOn (d r k src : Nat) (s : State) (j : Nat) : ((wakeNet d r k src s).region j).wakeTimerOn = (s.region j).wakeTimerOn := by
  have hidle : ((s.modRegion (rix d r) fun g => { g with idle := tabSet 0 g.idle k 0 }).region j).wakeTimerOn = (s.region j).wakeTimerOn := by
    by_cases h : j = rix d r
    · rw [h, State.region_modRegion]
    · rw [State.region_modRegion_ne _ _ _ h]
  unfold wakeNet
  extract_lets en s1
  split_ifs
  · exact hidle
  · exact hidle
  · rfl

theorem wakeNet_mem (d r k src : Nat) (s : State) : (wakeNet d r k src s).mem = s.mem := by
  unfold wakeNet
  extract_lets en s1
  split_ifs <;> rfl

theorem wakeAll_spec (d r src : Nat) (s : State) :
    (∀ j, ((wakeAll d r src s).region j).wakeTimerOn = (s.region j).wakeTimerOn) ∧ (wakeAll d r src s).mem = s.mem :=
  List.foldlRecOn (motive := fun t : State => (∀ j, (t.region j).wakeTimerOn = (s.region j).wakeTimerOn) ∧ t.mem = s.mem) _ _ ⟨fun _ => rfl, rfl⟩
    fun t ⟨ht, hm⟩ k _ => ⟨fun j => (wakeNet_wakeTimerOn ..).trans (ht j), (wakeNet_mem ..).trans hm⟩

theorem capPendEnd_frame (s : State) : (capPendEnd s).regions = s.regions ∧ (capPendEnd s).mem = s.mem := by
  unfold capPendEnd
  split_ifs <;> exact ⟨rfl, rfl⟩

/-- The capture's own status is no field of a region. -/
theorem capPendEnd_rdi {f : Fld} (h : DBG_CAPSTAT_PEND.adr < f.adr) (o : Nat) (s : State) : (capPendEnd s).rdi f o = s.rdi f o := by
  unfold capPendEnd
  split_ifs
  · have hdone : DBG_CAPSTAT_DONE.adr < f.adr := h
    rw [State.rdi_wr_below _ ⟨hdone, by decide⟩, State.rdi_wr_below _ ⟨h, by decide⟩]
  · rfl

theorem putRclk_frame (d r k v : Nat) (s : State) : (putRclk d r k v s).regions = s.regions ∧ (putRclk d r k v s).mem = s.mem ∧ (putRclk d r k v s).modes = s.modes :=
  ⟨rfl, rfl, rfl⟩

/-- What a write of FDC_RCLK shows. -/
theorem putRclk_shown (d r k v : Nat) (s : State) :
    (putRclk d r k v s).rdi FDC_RCLK_SRC (oClk d r k) = bits v 28 4 ∧ (putRclk d r k v s).rdi FDC_RCLK_MODE (oClk d r k) = bits v 26 2 ∧
      (putRclk d r k v s).rdi FDC_RCLK_IDLE (oClk d r k) = bits v 0 12 ∧ (putRclk d r k v s).rdi FDC_RCLK_WELT (oClk d r k) = bit v 25 := by
  simp (disch := decide) only [putRclk, State.rdi_wri_off, State.rdi_wri_same]
  exact ⟨Nat.mod_mod .., Nat.mod_mod .., Nat.mod_mod .., Nat.mod_mod ..⟩

theorem putRclk_below (d r k v : Nat) (s : State) {f : Fld} {p : Nat} (hf : f.lo < 32) (hp : f.adr + p < 0x1000000) :
    (putRclk d r k v s).rdi f p = s.rdi f p := by
  simp only [putRclk]
  iterate 7 rw [State.rdi_wri_dieSpace _ ⟨by decide, by decide, hf⟩ hp]

theorem clocksAllowed_putRclk (d : Fin 12) (e r k v : Nat) (s : State) : (putRclk e r k v s).clocksAllowed d r = s.clocksAllowed d r := by
  have hmode : (putRclk e r k v s).mode = s.mode := putRclk_below _ _ _ _ _ (by decide) (by decide)
  have hmask : (putRclk e r k v s).rdi GLB_SAFEREG_MASK (4 * d) = s.rdi GLB_SAFEREG_MASK (4 * d) :=
    putRclk_below _ _ _ _ _ (by decide) (by have := d.isLt; simp only [GLB_SAFEREG_MASK]; omega)
  rw [State.clocksAllowed, State.clocksAllowed, hmode, hmask, (putRclk_frame ..).2.2]

/-- FDC_RCLK is no FDC_RSTAT. -/
theorem key_rclk_ne {f : Fld} (h : f.adr = FDC_RCLK_SRC.adr ∧ f.lo < 32) : f.key (oClk d r k) ≠ FDC_RSTAT_CLKRUN.key (oReg d r) := by
  unfold Fld.key oClk
  simp only [h.1, FDC_RCLK_SRC, FDC_RSTAT_CLKRUN]
  omega

theorem followMode_frame (d r k : Nat) (s : State) : (followMode d r k s).regions = s.regions ∧ (followMode d r k s).mem = s.mem := by
  unfold followMode
  split
  · split <;> exact ⟨rfl, rfl⟩
  · exact ⟨rfl, rfl⟩

theorem followMode_rdi {f : Fld} {o : Nat} (h : f.key o ≠ FDC_RSTAT_CLKRUN.key (oReg d r)) (s : State) : (followMode d r k s).rdi f o = s.rdi f o := by
  unfold followMode
  split
  · split
    · exact setRun_rdi h ..
    · rfl
    · exact setRun_rdi h ..
  · rfl

end

/-- Settles O15. -/
theorem fabricRegistersAndClocks : Obligations.FabricRegistersAndClocks := by
  refine ⟨⟨fun s d r hup hmode => ?_, fun s d r hup hmode => ?_, fun s d r cell hasync => ?_, fun s d r hpend => ?_, fun s d r hpend hvalid => ?_⟩,
    fun s d r k hclk hmode hwelt hstop => ?_, fun s d r k wake hmode hidle hrun => ?_, fun s d r hon => ?_, fun s d r v hup => ?_, fun s d r k v hup => ?_⟩
  · change Yields (execRegionRestore d r s) _
    simp only [execRegionRestore, State.dieLive, hup, hmode, Bool.true_eq_false, if_false, if_true, yields_next]
    exact ⟨by simp, by simp, fun k hk => State.region_modRegion_ne _ _ _ hk, .refl, .refl⟩
  · change Yields (execRegionRestore d r s) _
    simp only [execRegionRestore, State.dieLive, hup, hmode, Bool.true_eq_false, if_false, yields_next]
    exact ⟨State.rdi_wri_same .., rfl, .wri .refl, .refl⟩
  · change Yields (execAsyncSrAssert d r cell s) _
    simp only [execAsyncSrAssert, yields_next, State.region_modRegion, hasync, if_true]
    exact ⟨tabGet_set_same .., fun c hc => tabGet_set_ne _ _ _ _ hc, .refl, .refl⟩
  · change Yields (execCaptureAtT d r s) _
    simp only [execCaptureAtT, hpend, if_true, yields_next, State.region_modRegion]
    exact ⟨trivial, trivial, trivial, trivial, .refl, .refl⟩
  · change Yields (execCaptureComplete d r s) _
    rw [execCaptureComplete, if_pos ⟨hpend, hvalid⟩, yields_next]
    obtain ⟨hregions, hmem⟩ := capPendEnd_frame ((s.wri FDC_RSTAT_CAPPEND (oReg d r) 0).wri FDC_RSTAT_CAPDONE (oReg d r) 1)
    refine ⟨?_, ?_, hregions, .of_mem hmem⟩
    · rw [capPendEnd_rdi (by decide), State.rdi_wri_off _ (by decide), State.rdi_wri_same]; rfl
    · rw [capPendEnd_rdi (by decide), State.rdi_wri_same]; rfl
  · change Yields (.next (wakeNet d r k 0 s)) _
    have hwake : (s.clocksAllowed d r && s.rdi FDC_RCLK_MODE (oClk d r k) == 2 && s.rdi FDC_RCLK_WELT (oClk d r k) == 1) = true := by simp [hclk, hmode, hwelt]
    rw [yields_next, wakeNet]
    simp only [hwake, if_true, hstop, zero_ne_one, if_false]
    refine ⟨?_, ?_, ?_, (SameRegsBut.setRun .refl).addi, .refl⟩
    · rw [State.inci, State.rdi_addi_off _ (by decide), setRun_bit k.isLt]
      rfl
    · rw [State.inci, State.rdi_addi_same, setRun_rdi (by unfold Fld.key; simp only [FDC_RWAKES_COUNT, FDC_RSTAT_CLKRUN]; omega)]
      rfl
    · exact idle_cleared s (rix d r) k
  · change Yields (execIdleLimitReached d r k wake s) _
    rw [execIdleLimitReached, if_pos ⟨hmode, hidle, hrun⟩]
    extract_lets s1
    rw [yields_next]
    have hidle1 : tabGet 0 (s1.region (rix d r)).idle k = 0 := idle_cleared s (rix d r) k
    cases wake with
    | true => exact ⟨hrun, hidle1, .refl, .refl⟩
    | false => exact ⟨setRun_bit k.isLt .., hidle1, SameRegsBut.setRun .refl, .refl⟩
  · change Yields (execWakeTimerExpiry d r s) _
    rw [execWakeTimerExpiry, if_pos hon]
    extract_lets per
    rw [yields_next]
    obtain ⟨htimer, hmem⟩ := wakeAll_spec d r 2 (s.modRegion (rix d r) fun g => { g with wakeTimerOn := per == 1 })
    exact ⟨(htimer _).trans (by rw [State.region_modRegion]), .of_mem hmem⟩
  · change Yields (execWakeTimerWrite d r v s) _
    simp only [execWakeTimerWrite, State.dieLive, hup, Bool.true_eq_false, if_false, yields_next]
    refine ⟨?_, ?_, by rw [State.region_modRegion], .modRegion (.wri (.wri .refl)), .refl⟩
    · rw [State.modRegion_rdi, State.rdi_wri_same]
      exact Nat.mod_mod ..
    · rw [State.modRegion_rdi, State.rdi_wri_off _ (by decide), State.rdi_wri_same]
      exact Nat.mod_mod ..
  · change Yields (execRclkWrite d r k v s) _
    simp only [execRclkWrite, State.dieLive, hup, Bool.true_eq_false, if_false, yields_next]
    obtain ⟨hsrc, hmode, hidle, hwelt⟩ := putRclk_shown d r k v.toNat s
    obtain ⟨hregions, hmem⟩ := followMode_frame d r k (putRclk d r k v.toNat s)
    have hallowed := clocksAllowed_putRclk d d r k v.toNat s
    refine ⟨?_, ?_, ?_, ?_, fun hclk hon => ?_, fun hclk hoff => ?_, hregions, .of_mem hmem⟩
    · rw [followMode_rdi (key_rclk_ne (by decide)), hsrc]
    · rw [followMode_rdi (key_rclk_ne (by decide)), hmode]
    · rw [followMode_rdi (key_rclk_ne (by decide)), hidle]
    · rw [followMode_rdi (key_rclk_ne (by decide)), hwelt]
    · rw [followMode, if_pos (hallowed.trans hclk), hmode, hon]
      exact setRun_bit k.isLt ..
    · rw [followMode, if_pos (hallowed.trans hclk), hmode, hoff]
      exact setRun_bit k.isLt ..

end Sys2Proof.Machine

namespace Sys2Proof.Machine

set_option Elab.async false

/-! Power states of memories (R111, R112, R114, R119, R120, R123) -/

section
variable {s : State} {d r b : Nat}

/-- A bank follows its power request: RETENTION is entered from ON, and a bank that is wanted ON wakes or stays (R111). -/
theorem bankFollow_spec (hscrub : (s.bank (bix d r b)).scrubWake = false) :
    (bankFollow d r b s).rdi BNK_STAT_PWR (oBnk d r b) = (if wantsRetention s d r b = true
        then (if s.rdi BNK_STAT_PWR (oBnk d r b) = 0 then 1 else s.rdi BNK_STAT_PWR (oBnk d r b))
        else (if s.rdi BNK_STAT_PWR (oBnk d r b) = 2 then 3 else if s.rdi BNK_STAT_PWR (oBnk d r b) = 1 then 0 else s.rdi BNK_STAT_PWR (oBnk d r b))) ∧
      SameRegsBut [BNK_STAT_PWR.key (oBnk d r b)] s (bankFollow d r b s) ∧ SameMem s (bankFollow d r b s) := by
  unfold bankFollow
  dsimp only
  by_cases hw : wantsRetention s d r b = true
  · rw [if_pos hw, if_pos hw]
    by_cases h0 : s.rdi BNK_STAT_PWR (oBnk d r b) = 0
    · rw [if_pos ⟨h0, hscrub⟩, if_pos h0]
      exact ⟨State.rdi_wri_same .., .wri .refl, .refl⟩
    · rw [if_neg fun h => h0 h.1, if_neg h0]
      exact ⟨rfl, .refl, .refl⟩
  · rw [if_neg hw, if_neg hw]
    split_ifs
    · exact ⟨State.rdi_wri_same .., .wri .refl, .refl⟩
    · exact ⟨State.rdi_wri_same .., .wri .refl, .refl⟩
    · exact ⟨rfl, .refl, .refl⟩

/-- An Awl memory follows its RET bit (R114). -/
theorem awlMemFollow_rdi (y : Bool) (ret : Nat) {f : Fld} (h : f.key 0 ≠ (awlMemState y).key 0) (s : State) :
    (awlMemFollow d r y ret s).rdi f (oReg d r) = s.rdi f (oReg d r) := by
  unfold awlMemFollow
  dsimp only
  split_ifs
  · exact State.rdi_wri_off _ h ..
  · rfl
  · exact State.rdi_wri_off _ h ..
  · rfl

theorem awlMemFollow_mem (y : Bool) (ret : Nat) (s : State) : (awlMemFollow d r y ret s).mem = s.mem := by
  unfold awlMemFollow
  dsimp only
  split_ifs <;> rfl

theorem awlMemFollow_state (y : Bool) (ret : Nat) (s : State) :
    (awlMemFollow d r y ret s).rdi (awlMemState y) (oReg d r) =
      if ret = 1 then (if s.rdi (awlMemState y) (oReg d r) = 0 then 2 else s.rdi (awlMemState y) (oReg d r))
      else (if s.rdi (awlMemState y) (oReg d r) = 2 then 3 else s.rdi (awlMemState y) (oReg d r)) := by
  have hw : (awlMemState y).w = 2 := by cases y <;> rfl
  unfold awlMemFollow
  dsimp only
  split_ifs
  · exact (State.rdi_wri_same ..).trans (by simp [hw])
  · rfl
  · exact (State.rdi_wri_same ..).trans (by simp [hw])
  · rfl

end

section
variable {s : State} {u v : Nat}

/-- The power state of one unit of the Last as it takes a value. -/
theorem unitState_setUnitState (hv : v < 4) (u : Nat) (s : State) : unitState (setUnitState u v s) u = v := by
  unfold unitState setUnitState
  split_ifs
  · exact (State.rd_wr_same ..).trans (Nat.mod_eq_of_lt hv)
  · exact (State.rdi_wri_same ..).trans (Nat.mod_eq_of_lt hv)

theorem setUnitState_mem (u v : Nat) (s : State) : (setUnitState u v s).mem = s.mem := by
  unfold setUnitState
  split_ifs <;> rfl

/-- A register that is not of the unit's state. -/
theorem setUnitState_rdi {f : Fld} {o : Nat} (hseg : f.key o ≠ PWR_LSSEG_STATE.key (4 * u)) (hvault : f.key o ≠ PWR_VAULT_STATE.key 0) (v : Nat) (s : State) :
    (setUnitState u v s).rdi f o = s.rdi f o := by
  unfold setUnitState
  split_ifs
  · exact State.rdi_wri_ne _ _ hvault
  · exact State.rdi_wri_ne _ _ hseg

/-- A unit that is ON follows its request (R120, R123): its state is the request's, and OFF clears its bytes. -/
theorem unitFollow_on (h : unitState s u = 0) {req : Nat} (hreq : req < 3) :
    unitState (unitFollow u req s) u = req ∧ (req ≠ 2 → SameMem s (unitFollow u req s)) ∧
      (req = 2 → ∀ a, (unitRange u).1 ≤ a → a < (unitRange u).2 → (unitFollow u req s).rdByte a = 0) ∧
      (∀ (f : Fld) (o : Nat), f.key o ≠ PWR_LSSEG_STATE.key (4 * u) → f.key o ≠ PWR_VAULT_STATE.key 0 → (unitFollow u req s).rdi f o = s.rdi f o) := by
  unfold unitFollow
  simp only [h]
  obtain rfl | rfl | rfl : req = 0 ∨ req = 1 ∨ req = 2 := by omega
  · exact ⟨h, fun _ => .refl, fun h2 => absurd h2 (by decide), fun _ _ _ _ => rfl⟩
  · exact ⟨unitState_setUnitState (by decide) .., fun _ => .of_mem (setUnitState_mem ..), fun h2 => absurd h2 (by decide),
      fun _ _ hseg hvault => setUnitState_rdi hseg hvault ..⟩
  · refine ⟨unitState_setUnitState (by decide) .., fun h2 => absurd rfl h2, fun _ a hlo hhi => ?_, fun _ _ hseg hvault => ?_⟩
    · have hmem : (setUnitState u 2 (clearUnit u s)).mem = (s.clearMem (unitRange u).1 (unitRange u).2).mem := setUnitState_mem ..
      exact (SameMem.of_mem hmem a).trans ((s.rdByte_clearMem _ _ a).trans (if_pos ⟨hlo, hhi⟩))
    · exact (setUnitState_rdi hseg hvault ..).trans rfl

end

theorem railsOff_wiping (d : Nat) (s : State) : ((railsOff d s).die d).wiping = none := by
  simp [railsOff, dieEyes, State.die, State.modDie]

theorem dieOff_wiping (d reason : Nat) (s : State) : ((dieOff d reason s).die d).wiping = none := by
  unfold dieOff
  simpa only [State.die, State.wri_frame, State.wr_frame] using railsOff_wiping d s

theorem Fld.key_ne_off {f g : Fld} (h : f.key 0 ≠ g.key 0) (o : Nat) : f.key o ≠ g.key o := by unfold Fld.key at *; omega

/-- The segments' registers lie below the vault's. -/
theorem key_lsseg_ne_vault (g : Fin 64) {f : Fld} (h : f.adr = PWR_LSSEG_REQ.adr ∧ f.lo < 32) : f.key (4 * g) ≠ PWR_VAULT_STATE.key 0 := by
  have := g.isLt
  unfold Fld.key
  simp only [h.1, PWR_LSSEG_REQ, PWR_VAULT_STATE]
  omega

theorem unitState_segment (g : Fin 64) (s : State) : unitState s g = s.rdi PWR_LSSEG_STATE (4 * g) := if_neg (by have := g.isLt; omega)

/-- Settles O18. -/
theorem memoryPower : Obligations.MemoryPower := by
  refine ⟨fun s d r b ctl ps hup hscrub => ?_, fun s d r b hp => ?_, fun s d r b hp => ?_, fun s d r b errs hloaded hen hp => ?_, fun s d r v hup => ?_,
    fun s d r y hp => ?_, fun s g v hreq huse => ?_, fun s g v huse hst => ?_, fun s v hst => ?_, fun s v => rfl, fun s u hst => ?_, fun s d n hw hn => ?_⟩
  · let v := ((s.wri BNK_CTL_AUTOWAKE (oBnk d r b) (bit ctl.toNat 2)).wri BNK_CTL_PWRREQ (oBnk d r b) (bits ctl.toNat 0 2)).modBank (bix d r b) fun k => { k with psleep := ps }
    have hbank : v.bank (bix d r b) = { s.bank (bix d r b) with psleep := ps } := State.bank_modBank ..
    have hreq : v.rdi BNK_CTL_PWRREQ (oBnk d r b) = bits ctl.toNat 0 2 := (State.rdi_wri_same ..).trans (Nat.mod_mod ..)
    have hauto : v.rdi BNK_CTL_AUTOWAKE (oBnk d r b) = bit ctl.toNat 2 := by
      refine (State.rdi_wri_off _ (by decide) ..).trans ((State.rdi_wri_same ..).trans ?_)
      exact Nat.mod_mod ..
    have hpwr : v.rdi BNK_STAT_PWR (oBnk d r b) = s.rdi BNK_STAT_PWR (oBnk d r b) :=
      (State.rdi_wri_off _ (by decide) ..).trans (State.rdi_wri_off _ (by decide) ..)
    have hwants : wantsRetention v d r b = true ↔ bits ctl.toNat 0 2 = 1 ∨ (bits ctl.toNat 0 2 = 2 ∧ ps = true) := by
      simp only [wantsRetention, hreq, hbank, Bool.or_eq_true, Bool.and_eq_true, beq_iff_eq]
    obtain ⟨hst, hregs, hmem⟩ := bankFollow_spec (s := v) (by rw [hbank]; exact hscrub)
    refine ⟨bankFollow d r b v, if_neg (by simp [State.dieLive, hup]), ?_, ?_, ?_, hmem, ?_⟩
    · rw [hregs _ _ (by simpa using Fld.key_ne_off (by decide) _), hreq]
    · rw [hregs _ _ (by simpa using Fld.key_ne_off (by decide) _), hauto]
    · simp only [hst, hpwr, hwants]
    · intro f o hf
      rw [List.mem_cons, List.mem_cons, not_or, not_or] at hf
      obtain ⟨hf1, hf2, hf3⟩ := hf
      exact (hregs f o hf3).trans ((State.rdi_wri_ne _ _ hf1).trans (State.rdi_wri_ne _ _ hf2))
  · exact ⟨_, if_pos hp, State.rdi_wri_same .., .wri .refl, .refl⟩
  · exact ⟨_, (if_neg (by rw [hp]; decide)).trans (if_pos hp), State.rdi_wri_same .., .wri .refl, .refl⟩
  · change Yields (execBankScrubWake d r b errs s) _
    simp only [execBankScrubWake, hloaded, hen, hp, or_self, if_true, if_false, yields_next]
    refine ⟨?_, by rw [State.bank_modBank], .modBank (.wri .refl), .refl⟩
    exact (State.modBank_rdi ..).trans (State.rdi_wri_same ..)
  · change Yields (execAwlMemoryPowerWrite d r v s) _
    simp only [execAwlMemoryPowerWrite, State.dieLive, hup, Bool.true_eq_false, if_false, yields_next]
    refine ⟨?_, ?_, fun y => ?_, .of_mem ?_⟩
    · rw [awlMemFollow_rdi _ _ (by decide), awlMemFollow_rdi _ _ (by decide), State.rdi_wri_off _ (by decide), State.rdi_wri_same]
      exact Nat.mod_mod ..
    · rw [awlMemFollow_rdi _ _ (by decide), awlMemFollow_rdi _ _ (by decide), State.rdi_wri_same]
      exact Nat.mod_mod ..
    · cases y with
      | false =>
        rw [awlMemFollow_rdi _ _ (by decide), awlMemFollow_state, State.rdi_wri_off _ (by decide), State.rdi_wri_off _ (by decide)]
        rfl
      | true =>
        rw [awlMemFollow_state, awlMemFollow_rdi _ _ (by decide), State.rdi_wri_off _ (by decide), State.rdi_wri_off _ (by decide)]
        rfl
    · rw [awlMemFollow_mem, awlMemFollow_mem]
      rfl
  · refine ⟨_, if_pos hp, ?_, .wri .refl, .refl⟩
    rw [State.rdi_wri_same]
    exact Nat.zero_mod _
  · change Yields (.next (segWrite g v.toNat s)) _
    have huse' : segInUse (s.wri PWR_LSSEG_AUTOWAKE (4 * g) (bit v.toNat 4)) g = true := huse
    rw [yields_next, segWrite, if_pos ⟨by omega, by omega, huse'⟩]
    exact ⟨State.rdi_wri_same .., .wri (.wri .refl), .refl⟩
  · let w := ((s.wri PWR_LSSEG_AUTOWAKE (4 * g) (bit v.toNat 4)).wri PWR_LSSEG_REQ (4 * g) (bits v.toNat 0 2)).wri PWR_LSSEG_STATUS (4 * g) 0
    have hon : unitState w g = 0 := by
      rw [unitState_segment, State.rdi_wri_off _ (by decide), State.rdi_wri_off _ (by decide), State.rdi_wri_off _ (by decide), hst]
    have hreq : bits v.toNat 0 2 < 4 := Nat.mod_lt _ (by decide)
    obtain ⟨hstate, hmem, hclear, hrest⟩ := unitFollow_on hon (Nat.mod_lt (bits v.toNat 0 2) (by decide))
    refine ⟨unitFollow g (bits v.toNat 0 2 % 3) w, ?_, ?_, ?_, ?_, fun h2 a hlo hhi => hclear (by omega) a ?_ ?_, fun h2 => hmem (by omega)⟩
    · have huse' : segInUse (s.wri PWR_LSSEG_AUTOWAKE (4 * g) (bit v.toNat 4)) g = false := huse
      exact congrArg Host.Outcome.next (if_neg fun h => by simp [huse'] at h)
    · rw [hrest _ _ (Fld.key_ne_off (by decide) _) (key_lsseg_ne_vault g (by decide)), State.rdi_wri_off _ (by decide), State.rdi_wri_same]
      exact Nat.mod_mod ..
    · rw [hrest _ _ (Fld.key_ne_off (by decide) _) (key_lsseg_ne_vault g (by decide)), State.rdi_wri_same]
      rfl
    · rw [← unitState_segment, hstate]
    · rw [unitRange, if_neg (by have := g.isLt; omega)]
      exact hlo
    · rw [unitRange, if_neg (by have := g.isLt; omega)]
      exact hhi
  · let w := (s.wr PWR_VAULT_AUTOWAKE (bit v.toNat 4)).wr PWR_VAULT_REQ (bits v.toNat 0 2)
    have hon : unitState w 64 = 0 := by
      rw [unitState, if_pos rfl, State.rd_wr_ne _ _ (by decide), State.rd_wr_ne _ _ (by decide), hst]
    have hreq : bits v.toNat 0 2 < 4 := Nat.mod_lt _ (by decide)
    obtain ⟨hstate, -, hclear, hrest⟩ := unitFollow_on hon (Nat.mod_lt (bits v.toNat 0 2) (by decide))
    refine ⟨unitFollow 64 (bits v.toNat 0 2 % 3) w, rfl, ?_, hstate, fun h2 a hlo hhi => hclear (by omega) a hlo hhi⟩
    exact (hrest _ _ (by decide) (by decide)).trans ((State.rd_wr_same ..).trans (Nat.mod_mod ..))
  · exact ⟨_, if_pos hst, unitState_setUnitState (by decide) .., .of_mem (setUnitState_mem ..)⟩
  · change Yields (execWipeConfirmTimeout d s) _
    simp only [execWipeConfirmTimeout, hw, if_neg (not_lt.2 hn), yields_next]
    obtain ⟨hup, hstate, hreason, -⟩ := dieOff_silent ((s.reachElapsed (n + 5000)).modDie d fun x => { x with wiping := none }) d ST_HW_DIE_SILENT (by decide)
    have hwiping := dieOff_wiping d ST_HW_DIE_SILENT ((s.reachElapsed (n + 5000)).modDie d fun x => { x with wiping := none })
    have hkey : ∀ f : Fld, f.adr = GLB_DIESTAT_STATE.adr → f.lo < 32 → f.key (4 * d) ≠ BBX_LOST_COUNT.key 0 := fun f hf hlo => by
      have := d.isLt
      simp only [Fld.key, hf, GLB_DIESTAT_STATE, BBX_LOST_COUNT]
      omega
    refine ⟨?_, ?_, ?_, ?_⟩
    · simpa only [State.recordSt, State.dieUp, State.die, State.record_frame] using hup
    · exact (State.record_rdi _ _ _ _ _ (hkey GLB_DIESTAT_STATE rfl (by decide))).trans hstate
    · exact (State.record_rdi _ _ _ _ _ (hkey GLB_DIESTAT_REASON rfl (by decide))).trans hreason
    · simpa only [State.recordSt, State.die, State.record_frame] using hwiping

end Sys2Proof.Machine

namespace Sys2Proof.Machine

set_option Elab.async false

/-! Forced cycles of a bank (R107, R110) -/

/-- A changeover in RUN that has raised die 1, with a byte in that die's memory, while bank 0 of die 0 waits for the remap of a word that reads uncorrectable. -/
def remapDuringStaging : State :=
  { ((State.reset.wr GLB_MODE_MODE RUN).wr SHF_STAT_STATE 1) with
    banks := [(0, { marks := [(0, 2)], remapReq := some (0, 4096), waitA := true, waitB := true })]
    shf := { raised := [1] }
    mem := [(dieWelt 1, 1)] }

/-- Refutes O16 in its clause on FORCED_CYCLE: a remap served by force of a word that reads uncorrectable enters SAFE, which abandons a changeover,
and the die that the changeover had raised loses its memory with its rails. -/
theorem not_bankAccesses : ¬ Obligations.BankAccesses := by
  intro h
  obtain ⟨-, -, -, forced⟩ := h
  obtain ⟨t, hexec, -, -, -, hmem⟩ := forced remapDuringStaging 0 0 0 1 false {} {} (by decide +kernel) rfl rfl rfl rfl (fun h0 => absurd h0 (by decide))
    (fun _ => ⟨0, 4096, rfl, le_rfl⟩) (fun h2 => absurd h2 (by decide))
  have hlost : t.rdByte (dieWelt 1) = 0 := by
    rw [eq_afterOut hexec remapDuringStaging]
    decide +kernel
  have hheld : remapDuringStaging.rdByte (dieWelt 1) = 1 := by decide +kernel
  have hsame := hmem (dieWelt 1)
  omega

end Sys2Proof.Machine

namespace Sys2Proof.Machine

set_option Elab.async false

/-! Remaps of a bank's words (R110) -/

section
variable {s : State} {d r b : Nat}

theorem remapRefused_frame (cls die loc st : Nat) (s : State) :
    (remapRefused cls die loc st s).mem = s.mem ∧ (remapRefused cls die loc st s).banks = s.banks := ⟨rfl, rfl⟩

theorem remapRefused_rdi {f : Fld} {o : Nat} (h : f.key o ≠ COB_STAT_SPFULL.key 0) (cls die loc st : Nat) (s : State) :
    (remapRefused cls die loc st s).rdi f o = s.rdi f o := s.rdi_wr_ne _ h

theorem remapMade_frame (cls die loc : Nat) (s : State) : (remapMade cls die loc s).mem = s.mem ∧ (remapMade cls die loc s).banks = s.banks := by
  simp [remapMade, cobEvent]

theorem remapMade_rdi {f : Fld} {o : Nat} (h : f.key o ≠ BBX_LOST_COUNT.key 0) (cls die loc : Nat) (s : State) :
    (remapMade cls die loc s).rdi f o = s.rdi f o := by
  simp only [remapMade]
  rw [State.record_rdi _ _ _ _ _ h]
  rfl

theorem rsRecord_frame (kind die loc : Nat) (s : State) : (rsRecord kind die loc s).mem = s.mem ∧ (rsRecord kind die loc s).banks = s.banks := by
  simp only [rsRecord]
  split
  · exact ⟨rfl, rfl⟩
  split <;> exact ⟨rfl, rfl⟩

theorem rsRecord_rdi {f : Fld} {o : Nat} (h : COB_RSDROP_COUNT.adr < f.adr) (kind die loc : Nat) (s : State) : (rsRecord kind die loc s).rdi f o = s.rdi f o := by
  have hlow : ∀ g : Fld, g.adr ≤ COB_RSDROP_COUNT.adr → g.lo < 32 → f.key o ≠ g.key 0 := fun g hg hlo => by unfold Fld.key; omega
  simp only [rsRecord]
  split
  · exact s.rdi_wr_ne _ (hlow _ (by decide) (by decide))
  split
  · exact s.rdi_wri_ne _ (hlow _ (by decide) (by decide))
  · exact State.rdi_wri_ne _ _ (hlow _ (by decide) (by decide))

theorem remapOf_of_invalid (hfree : ∀ e, e < 4 → s.rdi BNK_REMAP_VALID (oBnk d r b + 4 * e) = 0) (x : Nat) : remapOf s d r b x = none := by
  have hnone : (List.range 4).find? (fun e => s.rdi BNK_REMAP_VALID (oBnk d r b + 4 * e) == 1 && s.rdi BNK_REMAP_ADDR (oBnk d r b + 4 * e) == x) = none :=
    List.find?_eq_none.2 fun e he => by simp [hfree e (List.mem_range.1 he)]
  rw [remapOf, hnone]
  rfl

/-- Entry 0 of the bank's table with word `x` in spare `k`, which holds no error any more. -/
def entryMade (d r b x k : Nat) (s : State) : State :=
  (((s.wri BNK_REMAP_VALID (oBnk d r b) 1).wri BNK_REMAP_SPARE (oBnk d r b) k).wri BNK_REMAP_ADDR (oBnk d r b) x).modBank (bix d r b)
    fun c => { c with marks := tabSet 0 c.marks (1024 + k) 0 }

/-- With no entry made, a word takes the first spare that has not failed. -/
theorem remapWord_first {sp : Nat} (hfree : ∀ e, e < 4 → s.rdi BNK_REMAP_VALID (oBnk d r b + 4 * e) = 0) (hsp : sp < 4)
    (hgood : bit (s.rdi BNK_STAT_SPFAIL (oBnk d r b)) sp = 0) {x : Nat} (hmark : wordMark s d r b x ≠ 2) :
    ∃ k < 4, remapWord d r b x s = (0, entryMade d r b x k s) := by
  have hused : ∀ q, ((List.range 4).any fun e => s.rdi BNK_REMAP_VALID (oBnk d r b + 4 * e) == 1 && s.rdi BNK_REMAP_SPARE (oBnk d r b + 4 * e) == q) = false := fun q =>
    List.any_eq_false.2 fun e he => by simp [hfree e (List.mem_range.1 he)]
  have hentry : (List.range 4).find? (fun e => s.rdi BNK_REMAP_VALID (oBnk d r b + 4 * e) == 0) = some 0 := by
    rw [List.range_succ_eq_map, List.find?_cons_of_pos (by simpa using hfree 0 (by decide))]
  obtain ⟨k, hk⟩ : ∃ k, (List.range 4).find? (fun q => bit (s.rdi BNK_STAT_SPFAIL (oBnk d r b)) q == 0) = some k :=
    Option.isSome_iff_exists.1 (List.find?_isSome.2 ⟨sp, List.mem_range.2 hsp, by simp [hgood]⟩)
  refine ⟨k, List.mem_range.1 (List.mem_of_find?_eq_some hk), ?_⟩
  simp only [remapWord, hused, Bool.not_false, Bool.true_and, hk, if_neg hmark, remapOf_of_invalid hfree, hentry, Option.getD_some, Nat.mul_zero, Nat.add_zero, entryMade]

/-- The end of a BNK_REMAPCMD for the word, or nothing, as `makeRemap` leaves it. -/
theorem makeRemap_of_made {x : Nat} {s u : State} (h : remapWord d r b x s = (0, u)) :
    ∃ t, makeRemap d r b x s = t ∧ t.mem = u.mem ∧ t.banks = u.banks ∧
      ∀ f ∈ [BNK_REMAP_VALID, BNK_REMAP_SPARE, BNK_REMAP_ADDR], t.rdi f (oBnk d r b) = u.rdi f (oBnk d r b) := by
  have hmem : (rsRecord 1 d (bankLoc r b x) (remapMade 1 d (bankLoc r b x) u)).mem = u.mem := (rsRecord_frame ..).1.trans (remapMade_frame ..).1
  have hbanks : (rsRecord 1 d (bankLoc r b x) (remapMade 1 d (bankLoc r b x) u)).banks = u.banks := (rsRecord_frame ..).2.trans (remapMade_frame ..).2
  have hregs : ∀ f : Fld, 0x1000000 ≤ f.adr →
      (rsRecord 1 d (bankLoc r b x) (remapMade 1 d (bankLoc r b x) u)).rdi f (oBnk d r b) = u.rdi f (oBnk d r b) := fun f hf => by
    rw [rsRecord_rdi (lt_of_lt_of_le (by decide) hf), remapMade_rdi]
    unfold Fld.key
    simp only [BBX_LOST_COUNT]
    omega
  refine ⟨_, rfl, ?_⟩
  simp only [makeRemap, h, if_true]
  split
  · refine ⟨hmem, hbanks, List.forall_mem_cons.2 ⟨?_, List.forall_mem_cons.2 ⟨?_, List.forall_mem_singleton.2 ?_⟩⟩⟩ <;>
      rw [State.rdi_wri_off _ (by decide), State.rdi_wri_off _ (by decide), hregs _ (by decide)]
  · exact ⟨hmem, hbanks, List.forall_mem_cons.2 ⟨hregs _ (by decide), List.forall_mem_cons.2 ⟨hregs _ (by decide), List.forall_mem_singleton.2 (hregs _ (by decide))⟩⟩⟩

theorem remapOf_of_entry {x k : Nat} (hx : s.rdi BNK_REMAP_ADDR (oBnk d r b) = x) (hk : s.rdi BNK_REMAP_SPARE (oBnk d r b) = k)
    (hvalid : s.rdi BNK_REMAP_VALID (oBnk d r b) = 1) : remapOf s d r b x = some (0, k) := by
  rw [remapOf, List.range_succ_eq_map, List.find?_cons_of_pos (by simp [hx, hvalid])]
  simp [hk]

theorem wordMark_of_remap {x e k : Nat} (h : remapOf s d r b x = some (e, k)) : wordMark s d r b x = tabGet 0 (s.bank (bix d r b)).marks (1024 + k) := by
  simp only [wordMark, physWord, h]

end

/-- Settles O17. -/
theorem bankRemaps : Obligations.BankRemaps := by
  unfold Obligations.BankRemaps
  refine ⟨?requested, ?full, ?made⟩
  case requested =>
    intro s d r b addr sp hup hbusy hsp hgood hfree
    have hany : ∀ t : State, (∀ e, e < 4 → t.rdi BNK_REMAP_VALID (oBnk d r b + 4 * e) = 0) → bit (t.rdi BNK_STAT_SPFAIL (oBnk d r b)) sp = 0 →
        ((List.range 4).any fun q => bit (t.rdi BNK_STAT_SPFAIL (oBnk d r b)) q == 0 &&
          !((List.range 4).any fun e => t.rdi BNK_REMAP_VALID (oBnk d r b + 4 * e) == 1 && t.rdi BNK_REMAP_SPARE (oBnk d r b + 4 * e) == q)) = true := by
      intro t hfree hgood
      refine List.any_eq_true.2 ⟨sp, List.mem_range.2 hsp, ?_⟩
      rw [List.any_eq_false.2 fun e he => by simp [hfree e (List.mem_range.1 he)]]
      simp [hgood]
    change Yields (execBankRemapCmd d r b addr s) _
    simp only [execBankRemapCmd, State.dieLive, hup, hbusy, Bool.true_eq_false, or_self, if_false]
    rw [if_pos (hany _ ?free ?good), yields_next]
    case free =>
      intro e he
      rw [State.rdi_wri_ne, State.rdi_wri_ne, hfree e he] <;> simp only [Fld.key, BNK_REMAP_VALID, BNK_REMAPCMD_BUSY, BNK_REMAPCMD_ADDR] <;> omega
    case good => simpa (disch := decide) only [State.rdi_wri_off] using hgood
    refine ⟨?_, ?_, ?_, .of_mem rfl, (SameRegsBut.wri (.wri .refl)).modBank⟩
    · rw [State.modBank_rdi, State.rdi_wri_same]
      rfl
    · rw [State.modBank_rdi, State.rdi_wri_off _ (by decide), State.rdi_wri_same]
      exact Nat.mod_eq_of_lt addr.isLt
    · rw [State.bank_modBank]
  case full =>
    intro s d r b addr hup hbusy hfailed
    change Yields (execBankRemapCmd d r b addr s) _
    simp only [execBankRemapCmd, State.dieLive, hup, hbusy, Bool.true_eq_false, or_self, if_false]
    rw [if_neg, yields_next]
    · have hlow : ∀ f : Fld, 0x1000000 ≤ f.adr → f.key (oBnk d r b) ≠ COB_STAT_SPFULL.key 0 := fun f hf => by unfold Fld.key; simp only [COB_STAT_SPFULL]; omega
      refine ⟨?_, ?_, .of_mem (remapRefused_frame ..).1⟩
      · rw [remapRefused_rdi (hlow _ (by decide)), State.rdi_wri_same]
        rfl
      · rw [remapRefused_rdi (hlow _ (by decide)), State.rdi_wri_off _ (by decide), State.rdi_wri_same]
        rfl
    · rw [Bool.not_eq_true, List.any_eq_false]
      intro sp hsp
      simp (disch := decide) only [State.rdi_wri_off, hfailed sp (List.mem_range.1 hsp)]
      simp
  case made =>
    intro s d r b x n sp hreq hx hsp hgood hfree hmark
    obtain ⟨k, hk, hword⟩ := remapWord_first hfree hsp hgood hmark
    change Yields (execBankRemapStep d r b s) _
    obtain ⟨t, ht, hmem, hbanks, hregs⟩ := makeRemap_of_made hword
    simp only [execBankRemapStep, hreq, ht, yields_next]
    have hvalid : t.rdi BNK_REMAP_VALID (oBnk d r b) = 1 := by
      rw [hregs _ (by simp), entryMade, State.modBank_rdi, State.rdi_wri_off _ (by decide), State.rdi_wri_off _ (by decide), State.rdi_wri_same]
      rfl
    have hspare : t.rdi BNK_REMAP_SPARE (oBnk d r b) = k := by
      rw [hregs _ (by simp), entryMade, State.modBank_rdi, State.rdi_wri_off _ (by decide), State.rdi_wri_same]
      exact Nat.mod_eq_of_lt hk
    have haddr : t.rdi BNK_REMAP_ADDR (oBnk d r b) = x := by
      rw [hregs _ (by simp), entryMade, State.modBank_rdi, State.rdi_wri_same]
      exact Nat.mod_eq_of_lt hx
    have hentry : remapOf (t.modBank (bix d r b) fun c => { c with remapReq := none }) d r b x = some (0, k) := remapOf_of_entry haddr hspare hvalid
    refine ⟨by rw [State.bank_modBank], ⟨k, hentry, hk⟩, ?_, .of_mem hmem⟩
    rw [wordMark_of_remap hentry, State.bank_modBank]
    change tabGet 0 (tabGet {} t.banks (bix d r b)).marks (1024 + k) = 0
    rw [hbanks]
    change tabGet 0 (((((s.wri BNK_REMAP_VALID (oBnk d r b) 1).wri BNK_REMAP_SPARE (oBnk d r b) k).wri BNK_REMAP_ADDR (oBnk d r b) x).modBank (bix d r b)
      fun c => { c with marks := tabSet 0 c.marks (1024 + k) 0 }).bank (bix d r b)).marks (1024 + k) = 0
    rw [State.bank_modBank, tabGet_set_same]

end Sys2Proof.Machine

namespace Sys2Proof.Machine

set_option Elab.async false

/-! Mode requests (R455, R456, R463, R464, R469, R472) -/

section
variable {α β : Type}

/-- What every step of a fold leaves as it is, the fold does. -/
theorem foldl_keeps {f : State → α → State} (g : State → β) (h : ∀ s x, g (f s x) = g s) (l : List α) (s : State) : g (l.foldl f s) = g s :=
  List.foldlRecOn (motive := fun t : State => g t = g s) l f rfl fun t ht x _ => (h t x).trans ht

theorem loseSessions_clocks (p : Nat → Bool) (s : State) : (loseSessions p s).clocks = s.clocks := by
  refine foldl_keeps State.clocks (fun s x => ?_) _ s
  change (enterDone x.1 ST_DBG_STATE s).clocks = s.clocks
  rw [enterDone]
  split <;> rfl

/-- The module is in DORMANT with its memory, regions and cores lost, `n` nanoseconds into the always-on time. -/
structure Lost (n : Nat) (t : State) : Prop where
  mode : t.mode = DORMANT
  mem : t.mem = []
  regions : t.regions = []
  cores : t.cores = []
  elapsed : t.clocks.elapsed = n

section
variable {n : Nat} {t : State}

theorem Lost.wr (h : Lost n t) {f : Fld} {v : Nat} (hf : GLB_MODE_MODE.adr < f.adr := by decide) : Lost n (t.wr f v) :=
  ⟨(t.wr_mode_above hf v).trans h.mode, h.mem, h.regions, h.cores, h.elapsed⟩

theorem Lost.ite {c : Prop} [Decidable c] {u : State} (ht : Lost n t) (hu : Lost n u) : Lost n (if c then t else u) := by
  split
  · exact ht
  · exact hu

theorem Lost.moduleReset (hmode : t.mode = DORMANT) (helapsed : t.clocks.elapsed = n) : Lost n (moduleReset t) where
  mode := (State.mode_of_filter (keep := keptKey) rfl (by decide)).trans hmode
  mem := rfl
  regions := rfl
  cores := rfl
  elapsed := helapsed

theorem Lost.debugReset (h : Lost n t) : Lost n (debugReset t) where
  mode := (State.mode_of_filter (keep := fun k => !(0xF0000 ≤ k / 32 && k / 32 < 0x100000 && (k / 32 != 0xF0004 || k % 32 < 29))) rfl (by decide)).trans h.mode
  mem := h.mem
  regions := h.regions
  cores := h.cores
  elapsed := h.elapsed

theorem Lost.journalResume (h : Lost n t) {power : Bool} : Lost n (journalResume power t) := by
  unfold Machine.journalResume
  extract_lets st x
  have hx : Lost n x.2 := by
    unfold x
    split
    · exact h
    · exact ⟨h.mode, h.mem, h.regions, h.cores, h.elapsed⟩
  exact .ite h.wr (.ite hx.wr.wr.wr (.ite h.wr h))

end

theorem enterDormant_lost (power : Bool) (s : State) : Lost s.clocks.elapsed (enterDormant power s) := by
  unfold enterDormant
  extract_lets u u1 u1' u2 u3 u4 u5 u6
  have hu : u.mode = DORMANT ∧ u.clocks = s.clocks := ⟨s.toMode_mode .., by simp [u, State.toMode]⟩
  have hu1 : u1.mode = DORMANT ∧ u1.clocks = s.clocks := by simpa [u1] using hu
  have hu2 : u2.mode = DORMANT ∧ u2.clocks = s.clocks := by
    unfold u2
    split
    · exact hu1
    · exact hu1
  have hu3 : Lost s.clocks.elapsed u3 :=
    (Lost.moduleReset ((loseSessions_mode ..).trans hu2.1) (by rw [loseSessions_clocks, hu2.2])).journalResume
  have hu4 : Lost s.clocks.elapsed u4 := hu3.wr.wr.wr
  have hu5 : Lost s.clocks.elapsed u5 := hu4.wr.wr.wr
  have hu6 : Lost s.clocks.elapsed u6 := hu5.wr
  exact .ite hu6 hu6.debugReset.wr

theorem startClocks_of_stopped {s : State} (h : s.clocks.start = none) :
    ∃ t, startClocks s = t ∧ t.mode = s.mode ∧ t.rd GLB_MODE_BUSY = s.rd GLB_MODE_BUSY ∧ t.rd CLK_STAT_REFSTATE = 1 ∧
      t.clocks.start = some (nvsGet s nvsREFSRC, 0) ∧ t.mem = s.mem ∧ t.power = s.power := by
  have hkept : ∀ (f : Fld), f.adr < CLK_STAT_REFSTATE.adr → f.lo < 32 → ∀ (t : State) (src dly : Nat),
      (((t.wr CLK_NVS_REFSRC src).wr CLK_NVS_OSCDLY dly).wr CLK_STAT_REFSTATE 1).rd f = t.rd f := fun f hf hlo t src dly => by
    rw [State.rd_wr_ne, State.rd_wr_ne, State.rd_wr_ne] <;> unfold Fld.key <;>
      simp only [CLK_NVS_REFSRC, CLK_NVS_OSCDLY, CLK_STAT_REFSTATE] at * <;> omega
  simp only [startClocks, h, Option.isSome_none, Bool.false_eq_true, if_false]
  refine ⟨_, rfl, hkept GLB_MODE_MODE (by decide) (by decide) .., hkept GLB_MODE_BUSY (by decide) (by decide) .., ?_, rfl, rfl, rfl⟩
  exact ((s.wr CLK_NVS_REFSRC _).wr CLK_NVS_OSCDLY _).rd_wr_same CLK_STAT_REFSTATE 1

theorem beginReq_spec (n : Nat) (s : State) : (beginReq n s).mode = s.mode ∧ (beginReq n s).rd GLB_MODE_BUSY = 1 ∧
    SameRegsBut [GLB_MODE_BUSY.key 0] s (beginReq n s) := by
  have hregs : SameRegsBut [GLB_MODE_BUSY.key 0] s (s.wr GLB_MODE_BUSY 1) := .wr .refl
  exact ⟨hregs GLB_MODE_MODE 0 (by decide), s.rd_wr_same GLB_MODE_BUSY 1, hregs⟩

/-- The checks of an acknowledgment read registers above the mode's, dies, gears, the supply and the causes of the entry. -/
theorem ackCheck_congr {s t : State} (hregs : ∀ f : Fld, GLB_MODE_BUSY.adr < f.adr → ∀ o, t.rdi f o = s.rdi f o) (hcauses : t.modes.causes = s.modes.causes)
    (hpower : t.power = s.power) (hdies : t.dies = s.dies) (hgears : t.gears = s.gears) : ackCheck t = ackCheck s := by
  simp (disch := decide) only [ackCheck, State.rd, State.dieUp, State.die, State.gear, hregs, hcauses, hpower, hdies, hgears]
  rfl

/-- The state in which an acknowledgment is checked. -/
def ackBegun (auto : Bool) (s : State) : State := beginReq 2 { s with asked := s.asked.erase GLB_MODE_BUSY.adr, modes := { s.modes with auto } }

theorem ackCheck_ackBegun (auto : Bool) (s : State) : ackCheck (ackBegun auto s) = ackCheck s :=
  ackCheck_congr (fun _ hf o => State.rdi_wr_below _ ⟨hf, by decide⟩ o 1) rfl rfl rfl rfl

theorem ackBegun_mode (auto : Bool) (s : State) : (ackBegun auto s).mode = s.mode := (beginReq_spec 2 _).1

theorem ackBegun_busy (auto : Bool) (s : State) : (ackBegun auto s).rd GLB_MODE_BUSY = 1 := (beginReq_spec 2 _).2.1

theorem acknowledge_refused {s : State} (h : ackCheck s ≠ 0) (auto : Bool) (noclk : List Nat) (runs : List (Nat × Nat × Nat × Nat)) :
    acknowledge auto noclk runs s = (ackBegun auto s).endReq (ackCheck s) := by
  unfold acknowledge
  exact (if_pos ((ackCheck_ackBegun auto s).trans_ne h)).trans (by rw [← ackCheck_ackBegun auto s]; rfl)

theorem drcState_ackBegun (auto : Bool) (s : State) (c : Nat) : drcState (ackBegun auto s) c = drcState s c :=
  State.rdi_wr_below (f := GLB_MODE_BUSY) (g := DRC_CHSTAT_STATE) _ (by decide) (oCh c) 1

/-- No die is too hot any more. -/
def coolDies (s : State) : State := dieList.foldl (fun s d => s.modDie d fun x => { x with hot := false }) s

theorem coolDies_regs (s : State) : (coolDies s).regs = s.regs := by
  unfold coolDies
  refine foldl_keeps State.regs (fun s d => ?_) _ s
  rfl

theorem svcStart_coolDies_rd {f : Fld} (h : f.key 0 ≠ WLT_SVC_STATE.key 0) (to_ : Nat) (after : Option Nat) (s : State) :
    (svcStart to_ after (coolDies s)).rd f = s.rd f := by
  rw [svcStart, State.rd_wr_ne _ _ h, State.modWelt_rd, State.rd, State.rdi, coolDies_regs]
  rfl

/-- With no Eyelet and no DRAM channel to retrain, the acknowledgment goes on to the change of service. -/
theorem acknowledge_quiet {s : State} (h : ackCheck s = 0) (heyes : s.modes.safeEyelets = []) (hdrc : ∀ c, c < 8 → drcState s c ≠ drcFAILED) (auto : Bool)
    (noclk : List Nat) (runs : List (Nat × Nat × Nat × Nat)) :
    acknowledge auto noclk runs s = svcStart 3 (some HOLD) (coolDies { ackBegun auto s with modes := { (ackBegun auto s).modes with safeEyelets := [] } }) := by
  have hchan : ∀ c ∈ List.range 8, ¬ (drcState (ackBegun auto s) c == drcFAILED) = true := fun c hc => by
    rw [beq_iff_eq, drcState_ackBegun]
    exact hdrc c (List.mem_range.1 hc)
  have hnone : (List.range 8).filter (fun c => drcState (ackBegun auto s) c == drcFAILED) = [] := List.filter_eq_nil_iff.2 hchan
  have hfailed : channelFailed (ackBegun auto s) = false := List.any_eq_false.2 hchan
  have heyes' : (ackBegun auto s).modes.safeEyelets = [] := heyes
  have hpass : ackCheck (ackBegun auto s) = 0 := (ackCheck_ackBegun auto s).trans h
  unfold acknowledge
  change (if ackCheck (ackBegun auto s) ≠ 0 then _ else _) = _
  rw [if_neg (not_not_intro hpass)]
  simp only [ackBegun] at *
  simp only [heyes', List.foldl_nil, Bool.true_eq_false, if_false, hnone, hfailed, Bool.false_eq_true]
  rfl

theorem runCheck_beginReq (n : Nat) (s : State) : runCheck (beginReq n s) = runCheck s := by
  have hregs : ∀ f : Fld, GLB_MODE_BUSY.adr < f.adr → ∀ o, (beginReq n s).rdi f o = s.rdi f o := fun _ hf o => State.rdi_wr_below _ ⟨hf, by decide⟩ o 1
  simp (disch := decide) only [runCheck, State.rd, atG0, hregs]
  rfl

/-- The freezes of a region are cleared. -/
theorem clearFreeze_keeps {β : Type} (g : State → β) (hwri : ∀ (s : State) (f : Fld) (o v : Nat), 0x1000000 ≤ f.adr → g (s.wri f o v) = g s)
    (hregion : ∀ (s : State) (k : Nat) (f : Region → Region), g (s.modRegion k f) = g s) (s : State) : g (clearFreeze s) = g s := by
  unfold clearFreeze
  refine foldl_keeps g (fun s d => foldl_keeps g (fun s r => ?_) _ s) _ s
  split
  · rw [hregion, hwri _ _ _ _ (by decide), hwri _ _ _ _ (by decide)]
  · rfl

end

/-- Settles O7. -/
theorem modeRequests : Obligations.ModeRequests := by
  unfold Obligations.ModeRequests
  refine ⟨?dormant, ?load, ?hold, ?safe, ?refused, ?run⟩
  case dormant =>
    intro s hmode
    change Yields (.next (reqDormant s)) _
    rw [reqDormant, if_neg hmode, yields_next]
    obtain ⟨hdormant, hmem, hregions, hcores, helapsed⟩ := enterDormant_lost false s
    exact ⟨hdormant, fun a => by rw [State.rdByte, hmem]; rfl, hregions, hcores, helapsed⟩
  case load =>
    intro s hmode hbusy hallowed hstart
    obtain ⟨hkept, hone, hregs⟩ := beginReq_spec 1 s
    have hstarts : startAllowed (beginReq 1 s) = true := by
      rw [← hallowed]
      unfold startAllowed
      rw [State.rd, hregs PWR_STAT_MAIN 0 (by decide), State.rd, hregs PWR_STAT_NVINH 0 (by decide)]
      rfl
    obtain ⟨t, ht, htmode, htbusy, href, htstart, hmem, -⟩ := startClocks_of_stopped (s := beginReq 1 s) hstart
    change Yields (.next (reqLoad s)) _
    rw [reqLoad, if_neg (by rw [hbusy]; decide), if_pos hmode, tryStart, if_pos ⟨hkept.trans hmode, .inl rfl⟩, if_pos hstarts, yields_next, ht]
    exact ⟨htmode.trans (hkept.trans hmode), htbusy.trans hone, href, htstart, .of_mem hmem⟩
  case hold =>
    intro s hmode hbusy
    obtain ⟨hkept, hone, hregs⟩ := beginReq_spec 2 s
    change Yields (.next (reqHold s)) _
    rw [reqHold, if_neg (by rw [hbusy]; decide), if_pos hmode, yields_next]
    exact ⟨hkept.trans hmode, hone, ⟨(s.clocks.tb + 2999) / 1000, rfl, by omega, by omega⟩, .of_mem rfl, hregs⟩
  case safe =>
    intro s noclk runs hmode hbusy hack heyes hdrc
    change Yields (execSafeAcknowledgment noclk runs s) _
    rw [execSafeAcknowledgment, if_neg (not_not_intro hmode), if_neg (by rw [hbusy]; exact fun h => absurd h.1 (by decide)), acknowledge_quiet hack heyes hdrc, yields_next]
    refine ⟨?_, ?_, State.rd_wr_same _ WLT_SVC_STATE 2, rfl, rfl⟩
    · exact (svcStart_coolDies_rd (f := GLB_MODE_MODE) (by decide) ..).trans ((ackBegun_mode false s).trans hmode)
    · exact (svcStart_coolDies_rd (f := GLB_MODE_BUSY) (by decide) ..).trans (ackBegun_busy false s)
  case refused =>
    intro s noclk runs hmode hbusy hack
    obtain ⟨hstatus, hidle, -⟩ := State.endReq_rd (ackBegun false s) (ackCheck s)
    change Yields (execSafeAcknowledgment noclk runs s) _
    rw [execSafeAcknowledgment, if_neg (not_not_intro hmode), if_neg (by rw [hbusy]; exact fun h => absurd h.1 (by decide)), acknowledge_refused hack, yields_next]
    exact ⟨(State.endReq_mode ..).trans ((ackBegun_mode ..).trans hmode), hidle, hstatus⟩
  case run =>
    intro s hmode hbusy hcheck
    obtain ⟨humode, hubusy, -⟩ := beginReq_spec 3 s
    have hrd : ∀ f : Fld, f.lo < 32 → f.adr < 0x1000000 → (clearFreeze (beginReq 3 s)).rd f = (beginReq 3 s).rd f := fun f hlo hf =>
      clearFreeze_keeps (fun u => u.rd f) (fun u k o v hk => u.rdi_wri_ne v (by unfold Fld.key; omega)) (fun _ _ _ => rfl) _
    have hmodes := clearFreeze_keeps State.modes (fun _ _ _ _ _ => rfl) (fun _ _ _ => rfl) (beginReq 3 s)
    have hmem := clearFreeze_keeps State.mem (fun _ _ _ _ _ => rfl) (fun _ _ _ => rfl) (beginReq 3 s)
    change Yields (.next (reqRun s)) _
    rw [reqRun, if_neg (by rw [hbusy]; decide), if_pos hmode, runBegin]
    simp only [hcheck, ne_eq, not_true_eq_false, if_false, yields_next]
    generalize clearFreeze (beginReq 3 s) = w at hrd hmodes hmem ⊢
    exact ⟨(hrd GLB_MODE_MODE (by decide) (by decide)).trans (humode.trans hmode), (hrd GLB_MODE_BUSY (by decide) (by decide)).trans hubusy, trivial,
      congrArg Modes.req hmodes, .of_mem hmem⟩

end Sys2Proof.Machine

namespace Sys2Proof.Machine

set_option Elab.async false

/-! The timed steps of RUN and HOLD (R463, R464, R221) -/

section

/-- `t` has the mode, the mode requests, the clocks and the memory of `s`. -/
structure Calm (s t : State) : Prop where
  mode : t.mode = s.mode
  modes : t.modes = s.modes
  clocks : t.clocks = s.clocks
  mem : t.mem = s.mem

variable {s t u : State} {d r c k : Nat}

theorem Calm.refl : Calm s s := ⟨rfl, rfl, rfl, rfl⟩

theorem Calm.trans (h : Calm s t) (g : Calm t u) : Calm s u :=
  ⟨g.mode.trans h.mode, g.modes.trans h.modes, g.clocks.trans h.clocks, g.mem.trans h.mem⟩

theorem Calm.ite {p : Prop} [Decidable p] (ht : Calm s t) (hu : Calm s u) : Calm s (if p then t else u) := by
  split
  · exact ht
  · exact hu

theorem Calm.wri (h : Calm s t) {f : Fld} {o v : Nat} (hf : GLB_MODE_MODE.adr < f.adr := by decide) : Calm s (t.wri f o v) :=
  ⟨(t.wri_mode_above hf o v).trans h.mode, h.modes, h.clocks, h.mem⟩

theorem Calm.wr (h : Calm s t) {f : Fld} {v : Nat} (hf : GLB_MODE_MODE.adr < f.adr := by decide) : Calm s (t.wr f v) := h.wri hf

theorem Calm.modCore (h : Calm s t) {f : Core → Core} : Calm s (t.modCore c f) := ⟨h.mode, h.modes, h.clocks, h.mem⟩

theorem Calm.record (h : Calm s t) {code source sev : Nat} {payload : List Nat} : Calm s (t.record code source sev payload) := by
  refine ⟨(t.record_mode ..).trans h.mode, ?_, ?_, ?_⟩ <;> simp [h.modes, h.clocks, h.mem]

theorem Calm.push (h : Calm s t) {q : Fld} {e : Nat} : Calm s (t.push q e) := ⟨h.mode, h.modes, h.clocks, h.mem⟩

theorem Calm.foldl {α : Type} {f : State → α → State} (h : Calm s t) (hf : ∀ u a, Calm s u → Calm s (f u a)) (l : List α) : Calm s (l.foldl f t) :=
  List.foldlRecOn (motive := Calm s) l f h fun u hu a _ => hf u a hu

theorem Calm.setRun (h : Calm s t) {on : Bool} : Calm s (setRun d r k on t) := h.wri

theorem Calm.followMode (h : Calm s t) : Calm s (followMode d r k t) := by
  unfold Machine.followMode
  split
  · split
    · exact h.setRun
    · exact h
    · exact h.setRun
  · exact h

theorem Calm.startNets (h : Calm s t) : Calm s (startNets d r t) := h.foldl (fun _ _ hu => hu.followMode) _

theorem Calm.setAwlState (h : Calm s t) {v : Nat} : Calm s (setAwlState c v t) := (Calm.modCore (h.wri (f := AWL_WDGCNT_COUNT))).wri (f := AWL_STAT_STATE)

theorem Calm.startReset (h : Calm s t) : Calm s (startReset c t) := h.setAwlState.modCore

theorem Calm.wakeWait (h : Calm s t) : Calm s (wakeWait c t) := .ite h.setAwlState h

theorem Calm.resumeCore (h : Calm s t) : Calm s (resumeCore c t) := Calm.wakeWait (h.setAwlState.wri (f := AWL_STAT_MODESTOP))

theorem Calm.lossEnd (h : Calm s t) : Calm s (lossEnd t) := by
  unfold Machine.lossEnd
  split
  · exact ⟨(State.wri_mode_above _ (by decide) ..).trans h.mode, h.modes, h.clocks, h.mem⟩
  · exact h

theorem Calm.clkEvent (h : Calm s t) {kind die unit st : Nat} : Calm s (clkEvent kind die unit st t) := h.push.record

/-- The start in RUN, with the networks and the cores that go with it, and the clock event of a resume. -/
theorem runStart_calm (s : State) : ∃ v : State, v.mode = RUN ∧ v.modes = { s.modes with safeNet := false } ∧ v.mem = s.mem ∧ Calm v (runStart s) := by
  obtain ⟨hmode, hmodes, -, hmem⟩ := (Calm.refl (s := s.toMode RUN 0)).lossEnd
  have hto : (s.toMode RUN 0).modes = s.modes ∧ (s.toMode RUN 0).mem = s.mem := by simp [State.toMode]
  refine ⟨{ lossEnd (s.toMode RUN 0) with modes := { (lossEnd (s.toMode RUN 0)).modes with safeNet := false } }, hmode.trans (s.toMode_mode RUN 0),
    by rw [hmodes, hto.1], hmem.trans hto.2, ?_⟩
  unfold runStart
  extract_lets _ u m u1 u2 u3
  have hu2 : Calm u1 u2 := .foldl .refl (fun _ _ h => h.startNets) _
  have hu3 : Calm u1 u3 := hu2.foldl (fun w p h => .ite h.startReset (.ite h.resumeCore h)) _
  exact .ite hu3.clkEvent hu3

theorem State.reach_frame (s : State) (n : Nat) : (s.reach n).mode = s.mode ∧ (s.reach n).modes = s.modes ∧ (s.reach n).mem = s.mem := by
  unfold State.reach
  split
  · obtain ⟨-, -, -, -, hmem, hmode⟩ := s.pass_spec (n - s.clocks.tb)
    refine ⟨hmode, ?_, hmem⟩
    unfold State.pass State.serve
    dsimp only
    split <;> rfl
  · exact ⟨rfl, rfl, rfl⟩

theorem safePins_regs (s : State) : (safePins s).regs = s.regs := by
  unfold safePins
  refine foldl_keeps State.regs (fun s d => ?_) _ s
  split <;> rfl

theorem stopDesign_mode (s : State) : (stopDesign s).mode = s.mode := by
  have hcores : ∀ (l : List Nat) (u : State), (l.foldl (fun s c => stopCore true c s) u).mode = u.mode := fun l u => by
    refine foldl_mode (fun s c => ?_) l u
    rw [stopCore_mode]
  have hregions : ∀ (l : List Nat) (u : State), (l.foldl (fun s d => (List.range 32).foldl (fun s r => stopRegion d r s) s) u).mode = u.mode := fun l u => by
    refine foldl_mode (fun s d => foldl_mode (fun s r => ?_) _ s) l u
    exact s.wri_mode_above (by decide) ..
  have hpins : (safePins s).mode = s.mode := State.rdi_of_regs (safePins_regs s) GLB_MODE_MODE 0
  unfold stopDesign
  extract_lets u u1 u2 m
  have hu1 : u1.mode = u.mode := hregions _ u
  have hu2 : u2.mode = u1.mode := hcores _ u1
  clear_value u2
  exact hu2.trans (hu1.trans hpins)

/-- The end of a mode request shows in the mode's own register and in the request alone. -/
theorem holdDone_spec (s : State) : (holdDone s).mode = s.mode ∧ (holdDone s).modes.safeNet = s.modes.safeNet ∧ (holdDone s).cores = s.cores ∧
    ∀ f : Fld, 0x1000000 ≤ f.adr → ∀ o, (holdDone s).rdi f o = s.rdi f o := by
  unfold holdDone
  split
  · refine ⟨s.endReq_mode 0, rfl, rfl, fun f hf o => ?_⟩
    change ((s.wr GLB_MODE_STATUS 0).wr GLB_MODE_BUSY 0).rdi f o = s.rdi f o
    have hkey : ∀ g : Fld, g.adr = GLB_MODE_MODE.adr → g.lo < 32 → f.key o ≠ g.key 0 := fun g hg hlo => by
      simp only [Fld.key, hg, GLB_MODE_MODE]
      omega
    exact (State.rdi_wr_ne _ _ (hkey GLB_MODE_BUSY rfl (by decide))).trans (s.rdi_wr_ne _ (hkey GLB_MODE_STATUS rfl (by decide)))
  · exact ⟨rfl, rfl, rfl, fun _ _ _ => rfl⟩

theorem dropEntry_frame (c : Nat) (s : State) : (dropEntry c s).cores = s.cores ∧ ∀ f : Fld, 0x1000000 ≤ f.adr → c < 384 → ∀ o, (dropEntry c s).rdi f o = s.rdi f o := by
  have hkey : ∀ f g : Fld, 0x1000000 ≤ f.adr → c < 384 → g.adr = DBG_CORECMD_BUSY.adr → g.lo < 32 → ∀ o, f.key o ≠ g.key (oDbg c) := fun f g hf hc hg hlo o => by
    simp only [Fld.key, hg, DBG_CORECMD_BUSY, oDbg]
    omega
  change (enterDone c ST_DBG_STATE s).cores = s.cores ∧ ∀ f : Fld, 0x1000000 ≤ f.adr → c < 384 → ∀ o, (enterDone c ST_DBG_STATE s).rdi f o = s.rdi f o
  unfold enterDone
  split
  · exact ⟨rfl, fun f hf hc o => ((s.wri DBG_CORECMD_BUSY _ 0).rdi_wri_ne _ (hkey f DBG_CORECMD_STATUS hf hc rfl (by decide) o)).trans
      (s.rdi_wri_ne _ (hkey f DBG_CORECMD_BUSY hf hc rfl (by decide) o))⟩
  · exact ⟨rfl, fun _ _ _ _ => rfl⟩

/-- A core with nothing under way stops (R221). -/
theorem stopCheck_idle {s : State} {c : Nat} (hc : c < 384) {byMode : Bool} (hstop : (s.core c).stopping = some byMode) (hlk : (s.core c).lk = none)
    (hloads : (s.core c).loads = []) (hstq : (s.core c).stq = []) :
    awlState (stopCheck c s) c = awlSTOPPED ∧ (stopCheck c s).rdi AWL_STAT_MODESTOP (oAwl c) = byMode.toNat ∧ ((stopCheck c s).core c).stopping = none := by
  have hsquash : squash c s = s := by simp only [squash, hloads]
  have hquiet : ¬ ((s.core c).lk.isSome = true ∨ ((s.core c).loads.any fun l => l.ordered) = true) := by simp [hlk, hloads]
  have hstq' : ((showPc c s).core c).stq = [] := hstq
  simp only [stopCheck, hstop, if_neg hquiet, hsquash, if_pos hstq']
  obtain ⟨hcores, hregs⟩ := dropEntry_frame c (((setAwlState c awlSTOPPED (showPc c s)).wri AWL_STAT_MODESTOP (oAwl c) byMode.toNat).modCore c fun k => { k with stopping := none })
  refine ⟨?_, ?_, ?_⟩
  · rw [awlState, hregs _ (by decide) hc, State.modCore_rdi, State.rdi_wri_off _ (by decide), setAwlState, State.rdi_wri_same]
    rfl
  · rw [hregs _ (by decide) hc, State.modCore_rdi, State.rdi_wri_same]
    cases byMode <;> rfl
  · rw [State.core, hcores]
    exact congrArg Core.stopping (State.core_modCore ..)

end

/-- Settles O8. -/
theorem runStartsAndStops : Obligations.RunStartsAndStops := by
  unfold Obligations.RunStartsAndStops
  refine ⟨?start, ?hold, ?core⟩
  case start =>
    intro s hmode hwait hlocked
    have hall : ((loadedRegions s).all fun p => s.rdi FDC_TRIMST_TRIMLOCK (oReg p.1 p.2) == 1) = true := List.all_eq_true.2 fun p hp => by
      rw [hlocked p hp]
      rfl
    obtain ⟨-, -, hreach⟩ := s.reach_frame (nextMicro s)
    obtain ⟨v, hrun, hmodes, hmem, hcalm⟩ := runStart_calm (s.reach (nextMicro s))
    obtain ⟨w, hw⟩ : ∃ w, runStart (s.reach (nextMicro s)) = w := ⟨_, rfl⟩
    rw [hw] at hcalm
    refine ⟨w.endReq 0, ?_, ?_, rfl, ?_, .of_mem (hcalm.mem.trans (hmem.trans hreach))⟩
    · change execRunStartAtTs s = _
      rw [execRunStartAtTs, if_pos ⟨hmode, hwait, hall⟩, hw]
    · rw [State.endReq_mode, hcalm.mode, hrun]
    · change w.modes.safeNet = false
      rw [hcalm.modes, hmodes]
  case hold =>
    intro s n hmode hth
    change Yields (execHoldAtTh s) _
    simp only [execHoldAtTh, hth, if_pos hmode, yields_next]
    obtain ⟨hkept, hnet, -⟩ := holdDone_spec (stopDesign ((s.reach n).toMode HOLD 0))
    refine ⟨?_, hnet.trans rfl⟩
    rw [hkept, stopDesign_mode, State.toMode_mode]
    rfl
  case core =>
    intro s d r hstop hlk hloads hstq
    have hc : rix d r < 384 := by
      have := d.isLt
      have := r.isLt
      unfold rix
      omega
    obtain ⟨hstate, hbit, hnone⟩ := stopCheck_idle hc hstop hlk hloads hstq
    obtain ⟨-, -, hcores, hregs⟩ := holdDone_spec (stopCheck (rix d r) s)
    change Yields (.next (holdDone (stopCheck (rix d r) s))) _
    rw [yields_next]
    refine ⟨?_, ?_, ?_⟩
    · rw [awlState, hregs _ (by decide)]
      exact hstate
    · rw [hregs _ (by decide)]
      exact hbit
    · rw [State.core, hcores]
      exact hnone

end Sys2Proof.Machine

namespace Sys2Proof.Machine

set_option Elab.async false

/-! The clock start (R431 to R434, R459, R460) -/

section
variable {s t u : State} {m p c : Nat}

/-- The module is in mode `m` on a running timebase, with no start in progress and `p` as the power of the debug port. -/
structure OnTime (m p : Nat) (t : State) : Prop where
  mode : t.mode = m
  timebase : t.clocks.tbRun = true
  start : t.clocks.start = none
  power : t.rd DBG_PORT_POWER = p

theorem OnTime.wri (h : OnTime m p t) {f : Fld} {o v : Nat} (hf : GLB_MODE_MODE.adr < f.adr ∧ (f.adr + o < DBG_PORT_POWER.adr ∨ DBG_PORT_POWER.adr < f.adr) ∧ f.lo < 32) :
    OnTime m p (t.wri f o v) := by
  obtain ⟨hmode, hpower, hlo⟩ := hf
  refine ⟨(t.wri_mode_above hmode o v).trans h.mode, h.timebase, h.start, (t.rdi_wri_ne v ?_).trans h.power⟩
  simp only [Fld.key, DBG_PORT_POWER] at *
  omega

theorem OnTime.wr (h : OnTime m p t) {f : Fld} {v : Nat}
    (hf : GLB_MODE_MODE.adr < f.adr ∧ (f.adr + 0 < DBG_PORT_POWER.adr ∨ DBG_PORT_POWER.adr < f.adr) ∧ f.lo < 32 := by decide) : OnTime m p (t.wr f v) := h.wri hf

theorem OnTime.foldl {α : Type} {f : State → α → State} {l : List α} (h : OnTime m p t) (hf : ∀ u, ∀ a ∈ l, OnTime m p u → OnTime m p (f u a)) : OnTime m p (l.foldl f t) :=
  List.foldlRecOn (motive := OnTime m p) l f h fun u hu a ha => hf u a ha hu

theorem OnTime.ite {q : Prop} [Decidable q] (ht : OnTime m p t) (hu : OnTime m p u) : OnTime m p (if q then t else u) := by
  split
  · exact ht
  · exact hu

theorem OnTime.record (h : OnTime m p t) {code source sev : Nat} {payload : List Nat} : OnTime m p (t.record code source sev payload) := by
  refine ⟨(t.record_mode ..).trans h.mode, ?_, ?_, (State.record_rd _ _ _ _ _ (by decide)).trans h.power⟩ <;> simp [h.timebase, h.start]

theorem OnTime.recordSt (h : OnTime m p t) {st source : Nat} {payload : List Nat} : OnTime m p (t.recordSt st source payload) := h.record

theorem OnTime.lit (h : OnTime m p t) (hregs : u.regs = t.regs := by rfl) (hclocks : u.clocks = t.clocks := by rfl) : OnTime m p u :=
  ⟨(State.rdi_of_regs hregs _ _).trans h.mode, (congrArg Clocks.tbRun hclocks).trans h.timebase, (congrArg Clocks.start hclocks).trans h.start,
    (State.rdi_of_regs hregs _ _).trans h.power⟩

theorem OnTime.probeStart (h : OnTime m p t) : OnTime m p (probeStart t) := by
  refine h.foldl fun u d hd hu => ?_
  have hlt : d < 12 := List.mem_range.1 hd
  refine OnTime.lit (t := ((u.wri GLB_DIESTAT_STATE (4 * d) 0).wri GLB_DIESTAT_REASON (4 * d) 0).wri FDC_CAPEN_FEAT (oDie d) 0) (.wri (.wri (.wri hu ?_) ?_) ?_)
  all_goals simp only [GLB_MODE_MODE, GLB_DIESTAT_STATE, GLB_DIESTAT_REASON, FDC_CAPEN_FEAT, DBG_PORT_POWER]; omega

theorem OnTime.planDone (h : OnTime m p t) {done : Bool} : OnTime m p (planDone c done t) := by
  refine h.foldl fun u i hi hu => .ite (hu.wri ?_) hu
  simp only [GLB_MODE_MODE, UPD_PLAN_DONE, DBG_PORT_POWER]
  omega

theorem OnTime.swapComp (h : OnTime m p t) {fwd : Bool} : OnTime m p (swapComp c fwd t) := .ite h.lit h.lit

theorem OnTime.updEvent (h : OnTime m p t) {kind comp st : Nat} : OnTime m p (updEvent kind comp st t) := .ite h.lit.recordSt h.lit.record

theorem OnTime.bootRevert (h : OnTime m p t) : OnTime m p (bootRevert t) := by
  have htaken : ∀ l : List Nat, OnTime m p (l.foldl (fun s c => Machine.planDone c false (Machine.swapComp c false s)) t) := fun l => h.foldl fun u c _ hu => hu.swapComp.planDone
  unfold Machine.bootRevert
  split
  · exact (OnTime.wr (OnTime.wr (OnTime.wr (OnTime.wr (OnTime.wr (htaken _).lit))))).updEvent
  · exact h

theorem OnTime.restoreAvail (h : OnTime m p t) : OnTime m p (restoreAvail t) := by
  have hfirst : ∀ r : Option Record, OnTime m p (match r with
      | some r => ((t.wr HLT_AVSEC_SEC (r.payload.getD 0 0)).wr HLT_AVLOSS_MS (r.payload.getD 1 0)).wr HLT_AVEVT_EVT (r.payload.getD 2 0)
      | none => t) := fun r => by
    cases r with
    | some r => exact h.wr.wr.wr
    | none => exact h
  unfold Machine.restoreAvail
  extract_lets c g u
  have hu : OnTime m p u := hfirst c
  clear_value u g
  cases g with
  | some r => exact .ite hu.wr.wr hu
  | none => exact hu

theorem OnTime.channelLost (h : OnTime m p t) (hc : c < 8) : OnTime m p (channelLost c t) := by
  have hreg : ∀ (u : State), OnTime m p u → ∀ (f : Fld) (o v : Nat), DRC_STAT_FAILED.adr ≤ f.adr ∧ f.adr < DRC_IDLE_CYC.adr ∧ f.lo < 32 → o ≤ oCh c + 128 → OnTime m p (u.wri f o v) :=
    fun u hu f o v hf ho => hu.wri (by simp only [GLB_MODE_MODE, DBG_PORT_POWER, DRC_STAT_FAILED, DRC_IDLE_CYC, oCh] at *; omega)
  refine hreg _ (hreg _ (OnTime.foldl h.lit fun u e he hu => ?_) _ _ _ (by decide) (by omega)) _ _ _ (by decide) (by omega)
  have := List.mem_range.1 he
  exact hreg _ (hreg _ (hreg _ hu _ _ _ (by decide) (by omega)) _ _ _ (by decide) (by omega)) _ _ _ (by decide) (by omega)

theorem OnTime.trainEyes (h : OnTime m p t) {lanes : List Nat} {runs : List (Nat × Nat × Nat × Nat)} : OnTime m p (trainEyes c lanes runs t).1 :=
  List.foldlRecOn (motive := fun r : State × Bool => OnTime m p r.1) lanes _ h fun _ hr _ _ => hr.lit

theorem OnTime.drcTrain (h : OnTime m p t) (hc : c < 8) {runs : List (Nat × Nat × Nat × Nat)} : OnTime m p (drcTrain runs c t) := by
  have hch : ∀ (u : State), OnTime m p u → ∀ (f : Fld) (v : Nat), f.adr = DRC_CHSTAT_STATE.adr ∧ f.lo < 32 → OnTime m p (u.wri f (oCh c) v) :=
    fun u hu f v hf => hu.wri (by simp only [GLB_MODE_MODE, DBG_PORT_POWER, DRC_CHSTAT_STATE, oCh] at *; omega)
  have hset : ∀ (u : State), OnTime m p u → ∀ v, OnTime m p (setDrc c v u) := fun u hu v => OnTime.wr (OnTime.wr (hch u hu _ _ (by decide)))
  have htrain : OnTime m p (Machine.trainEyes c (List.range 20) runs ((Machine.channelLost c t).wr DRC_STAT_FILLED ((Machine.channelLost c t).rd DRC_STAT_FILLED &&& (255 - 2 ^ c)))).1 :=
    (h.channelLost hc).wr.trainEyes
  exact .ite (hch _ (hset _ htrain _) _ _ (by decide)) (hch _ (hset _ htrain _) _ _ (by decide)).recordSt

theorem OnTime.modUpd (h : OnTime m p t) {f : Upd → Upd} : OnTime m p (t.modUpd f) := ⟨h.mode, h.timebase, h.start, h.power⟩

theorem OnTime.powered (h : OnTime m p t) : OnTime m 1 (t.wr DBG_PORT_POWER 1) :=
  ⟨(t.wr_mode_above (by decide) 1).trans h.mode, h.timebase, h.start, t.rd_wr_same DBG_PORT_POWER 1⟩

theorem OnTime.toMode (h : OnTime m p t) : OnTime LOAD p (t.toMode LOAD 0) := by
  refine OnTime.record ⟨t.setMode_mode LOAD, h.timebase, h.start, ?_⟩
  exact ((State.rd_wr_ne _ _ (by decide)).trans (t.rd_wr_ne _ (by decide))).trans h.power

theorem OnTime.endReq (h : OnTime m p t) {st : Nat} : OnTime m p (t.endReq st) :=
  ⟨(t.endReq_mode st).trans h.mode, h.timebase, h.start, ((State.rd_wr_ne (f := GLB_MODE_BUSY) (t.wr GLB_MODE_STATUS st) 0 (by decide)).trans (t.rd_wr_ne st (by decide))).trans h.power⟩

/-- The entry to LOAD leaves the module there, whatever the DRAM channels find. -/
theorem enterLoad_onTime {s : State} (htb : s.clocks.tbRun = true) (hstart : s.clocks.start = none) (runs : List (Nat × Nat × Nat × Nat)) : OnTime LOAD 1 (enterLoad runs s) := by
  unfold enterLoad
  extract_lets m b u n u1 u2 u3 u4 u5 u6 u7
  have hu : OnTime s.mode (s.rd DBG_PORT_POWER) u := ⟨rfl, htb, hstart, rfl⟩
  have hn : OnTime s.mode (s.rd DBG_PORT_POWER) n.2 := hu.lit
  have hu1 : OnTime s.mode (s.rd DBG_PORT_POWER) u1 := hn.wr.wr
  have hu2 : OnTime s.mode (s.rd DBG_PORT_POWER) u2 := .ite (OnTime.lit (hu1.wr (f := SEC_KEYS_PRESENT) (v := 0))) hu1
  have hu3 : OnTime s.mode 1 u3 := (OnTime.wr (hu2.powered)).restoreAvail
  have hu4 : OnTime s.mode 1 u4 := hu3.record
  have hu5 : OnTime LOAD 1 u5 := .ite hu4.toMode.endReq hu4.toMode
  have hu6 : OnTime LOAD 1 u6 := hu5.foldl fun w b hb hw => .ite (hw.wri (by
    have := List.mem_range.1 hb
    simp only [GLB_MODE_MODE, SZL_BSTAT_STATE, DBG_PORT_POWER, oBun]
    omega)) hw
  have hu7 : OnTime LOAD 1 u7 := OnTime.probeStart hu6.modUpd.bootRevert
  exact hu7.foldl fun w c hc hw => hw.drcTrain (List.mem_range.1 hc)

theorem loadIfReady_of_unlocked {s : State} (h : s.rd CLK_STAT_LOCK ≠ 0x3F) (runs : List (Nat × Nat × Nat × Nat)) : loadIfReady runs s = s := if_neg fun hr => h hr.2.1

theorem loadIfReady_of_stopped {s : State} (h : s.clocks.fw = false) (runs : List (Nat × Nat × Nat × Nat)) : loadIfReady runs s = s := if_neg fun hr => by simp [h] at hr

theorem showWindow_spec (count : Nat) (s : State) : (showWindow count s).mode = s.mode ∧ (showWindow count s).rd CLK_REFMEAS_COUNT = min count (2 ^ 17 - 1) % 2 ^ 17 ∧
    SameRegsBut [CLK_REFMEAS_COUNT.key 0, CLK_REFMEAS_DEV.key 0] s (showWindow count s) := by
  have hregs : SameRegsBut [CLK_REFMEAS_COUNT.key 0, CLK_REFMEAS_DEV.key 0] s (showWindow count s) := .wr (.wr .refl)
  exact ⟨hregs GLB_MODE_MODE 0 (by decide), (State.rd_wr_ne _ _ (by decide)).trans (s.rd_wr_same ..), hregs⟩

/-- A start that fails with no load waiting for it: the clocks stop, and the request that asked for it ends. -/
theorem startFail_spec {s : State} (h : s.cfg.pendLoad = none) (ref st : Nat) : (startFail ref st s).mode = s.mode ∧ (startFail ref st s).clocks.start = none ∧
    (startFail ref st s).clocks.fw = false ∧ (startFail ref st s).rd CLK_STAT_REASON = s.rd CLK_STAT_REASON := by
  have hstop : ∀ f : Fld, f.key 0 ∉ [CLK_STAT_REFSTATE.key 0, CLK_STAT_LOCK.key 0, CLK_STAT_READY.key 0] → (stopClocks ref s).rd f = s.rd f := fun f hf =>
    (SameRegsBut.wr (.wr (.wr .refl)) : SameRegsBut [CLK_STAT_REFSTATE.key 0, CLK_STAT_LOCK.key 0, CLK_STAT_READY.key 0] s
      (((s.wr CLK_STAT_REFSTATE ref).wr CLK_STAT_LOCK 0).wr CLK_STAT_READY 0)) f 0 hf
  have hrecord : ((stopClocks ref s).recordSt st 12 []).clocks = (stopClocks ref s).clocks ∧ ((stopClocks ref s).recordSt st 12 []).cfg = s.cfg ∧
      ((stopClocks ref s).recordSt st 12 []).mode = s.mode ∧ ((stopClocks ref s).recordSt st 12 []).rd CLK_STAT_REASON = s.rd CLK_STAT_REASON := by
    refine ⟨by simp [State.recordSt], by simp [State.recordSt, stopClocks], ?_, ?_⟩
    · exact (State.record_mode ..).trans (hstop GLB_MODE_MODE (by decide))
    · exact (State.record_rd _ _ _ _ _ (by decide)).trans (hstop CLK_STAT_REASON (by decide))
  unfold startFail
  extract_lets u v
  obtain ⟨hclocks, hcfg, hmode, hreason⟩ : u.clocks = (stopClocks ref s).clocks ∧ u.cfg = s.cfg ∧ u.mode = s.mode ∧ u.rd CLK_STAT_REASON = s.rd CLK_STAT_REASON := hrecord
  have hv : v.clocks = u.clocks ∧ v.cfg = u.cfg ∧ v.mode = u.mode ∧ v.rd CLK_STAT_REASON = u.rd CLK_STAT_REASON := by
    unfold v
    split
    · exact ⟨rfl, rfl, u.endReq_mode st, (State.rd_wr_ne (f := GLB_MODE_BUSY) (u.wr GLB_MODE_STATUS st) 0 (by decide)).trans (u.rd_wr_ne st (by decide))⟩
    · exact ⟨rfl, rfl, rfl, rfl⟩
  obtain ⟨hvclocks, hvcfg, hvmode, hvreason⟩ := hv
  have hnone : v.cfg.pendLoad = none := by rw [hvcfg, hcfg, h]
  clear_value u v
  simp only [hnone]
  rw [hvmode, hmode, hvclocks, hclocks, hvreason, hreason]
  exact ⟨rfl, rfl, rfl, rfl⟩

theorem clockFail_spec {s : State} (h : s.cfg.pendLoad = none) (st : Nat) : (clockFail st s).mode = s.mode ∧ (clockFail st s).clocks.start = none ∧
    (clockFail st s).rd CLK_STAT_REASON = st % 2 ^ 16 := by
  obtain ⟨hmode, hstart, -, hreason⟩ := startFail_spec (s := s.wr CLK_STAT_REASON st) h 3 st
  exact ⟨hmode.trans (s.wr_mode_above (by decide) st), hstart, hreason.trans (s.rd_wr_same ..)⟩

end

/-- Settles O9. -/
theorem clockStart : Obligations.ClockStart := by
  unfold Obligations.ClockStart
  refine ⟨?delay, ?passed, ?failed, ?last, ?locked, ?load, ?boot, ?none, ?auto⟩
  case delay =>
    intro s p hstart hlocking
    change Yields (execOscillatorStartDelayEnd s) _
    simp only [execOscillatorStartDelayEnd, hstart, hlocking, Bool.false_eq_true, if_false, yields_next]
    exact ⟨trivial, trivial, .of_mem rfl, .of_regs rfl []⟩
  case passed =>
    intro s src n count hstart hwin hmode hpass
    obtain ⟨hshown, hcount, hregs⟩ := showWindow_spec count s
    have hlt : count < 2 ^ 17 - 1 := by
      unfold winPasses at hpass
      split at hpass <;> simp only [Bool.and_eq_true, decide_eq_true_eq] at hpass <;> omega
    change Yields (execStabilityWindowEnd count s) _
    simp only [execStabilityWindowEnd, hstart, hwin, hmode, hpass, Bool.true_eq_false, ne_eq, not_true_eq_false, or_self, if_true, if_false, yields_next]
    refine ⟨rfl, rfl, State.rd_wr_same _ CLK_STAT_REFSTATE 2, ?_, ?_⟩
    · rw [State.rd_wr_ne _ _ (by decide)]
      exact hcount.trans (by omega)
    · refine fun f o hf => (State.rdi_wr_ne _ _ fun e => hf (by simp [e])).trans (hregs f o fun hm => hf (List.mem_cons_of_mem _ hm))
  case failed =>
    intro s src n count hstart hwin hmode hpass hn
    change Yields (execStabilityWindowEnd count s) _
    simp only [execStabilityWindowEnd, hstart, hwin, hmode, hpass, Bool.true_eq_false, Bool.false_eq_true, ne_eq, not_true_eq_false, or_self, if_false,
      if_neg (show ¬ 16 ≤ n + 1 by omega), yields_next]
    exact ⟨trivial, rfl⟩
  case last =>
    intro s src n count hstart hwin hmode hpass hn hpend
    obtain ⟨hshown, -⟩ := showWindow_spec count s
    obtain ⟨hkept, hnone, hreason⟩ := clockFail_spec (s := showWindow count s) hpend ST_HW_CLK_REF
    change Yields (execStabilityWindowEnd count s) _
    simp only [execStabilityWindowEnd, hstart, hwin, hmode, hpass, Bool.true_eq_false, Bool.false_eq_true, ne_eq, not_true_eq_false, or_self, if_false,
      if_pos (show 16 ≤ n + 1 by omega), yields_next]
    exact ⟨hnone, hreason, hkept.trans (hshown.trans hmode)⟩
  case locked =>
    intro s runs hstart hlocking hlock hfw
    change Yields (execLastPllsLocked true runs s) _
    rw [execLastPllsLocked, if_neg (by simp [Option.isNone_iff_eq_none, hstart, hlocking, hlock]), if_neg (by decide),
      loadIfReady_of_stopped (s := (s.wr CLK_STAT_LOCK 0x3F).wr CLK_STAT_READY 1) hfw, yields_next]
    refine ⟨?_, State.rd_wr_same _ CLK_STAT_READY 1, ?_⟩
    · rw [State.rd_wr_ne _ _ (by decide)]
      exact s.rd_wr_same CLK_STAT_LOCK 0x3F
    · rw [State.wr_mode_above _ (by decide), State.wr_mode_above _ (by decide)]
  case load =>
    intro s runs hstart hlocking hlock hfw
    change Yields (execLastPllsLocked true runs s) _
    have hready : ((s.wr CLK_STAT_LOCK 0x3F).wr CLK_STAT_READY 1).rd CLK_STAT_LOCK = 0x3F := by
      rw [State.rd_wr_ne _ _ (by decide)]
      exact s.rd_wr_same CLK_STAT_LOCK 0x3F
    obtain ⟨hmode, htb, hnone, hpower⟩ := enterLoad_onTime (s := startTimebase ((s.wr CLK_STAT_LOCK 0x3F).wr CLK_STAT_READY 1)) rfl rfl runs
    rw [execLastPllsLocked, if_neg (by simp [Option.isNone_iff_eq_none, hstart, hlocking, hlock]), if_neg (by decide), loadIfReady,
      if_pos ⟨Option.isSome_iff_ne_none.2 hstart, hready, hfw⟩, yields_next]
    exact ⟨hmode, htb, hnone, hpower⟩
  case boot =>
    intro s okA okB runs hstart hfw hlock hok
    change Yields (execLastFirmwareBoot okA okB runs s) _
    simp only [execLastFirmwareBoot, Option.isNone_iff_eq_none, hstart, hfw, Bool.false_eq_true, or_self, if_false, hok, if_true,
      loadIfReady_of_unlocked (s := { s with clocks := { s.clocks with fw := true } }) hlock, yields_next]
    exact ⟨trivial, trivial, .of_regs rfl []⟩
  case none =>
    intro s runs hstart hfw hpend
    obtain ⟨hmode, hnone, hstill, -⟩ := startFail_spec hpend 0 ST_HW_LAST_BOOT
    change Yields (execLastFirmwareBoot false false runs s) _
    simp only [execLastFirmwareBoot, Option.isNone_iff_eq_none, hstart, hfw, Bool.false_eq_true, or_self, if_false, ite_self, yields_next]
    exact ⟨hnone, hstill, hmode⟩
  case auto =>
    intro s hmode hallowed hdue hauto hstart
    change Yields (execAutoBootDecision s) _
    have hdecided : ∀ u : State, u.regs = s.regs → u.clocks = s.clocks → u.side = s.side → u.power.bootDue = false →
        Yields (.next (startClocks u)) fun t => t.clocks.start = some (nvsGet s nvsREFSRC, 0) ∧ t.power.bootDue = false ∧ t.mode = DORMANT := by
      intro u hregs hclocks hside hpower
      obtain ⟨t, ht, htmode, -, -, htstart, -, htpower⟩ := startClocks_of_stopped (s := u) (by rw [hclocks, hstart])
      rw [yields_next, ht, htstart, htpower, htmode]
      exact ⟨by unfold nvsGet; rw [hside], hpower, (State.rdi_of_regs hregs _ _).trans hmode⟩
    have hgo : ¬ (nvsGet { s with power := { s.power with bootDue := false } } nvsAUTOBOOT = 0 ∨ s.clocks.start.isSome = true) := by
      rw [hstart]
      exact fun h => h.elim hauto (by simp)
    rw [execAutoBootDecision, if_neg (by simp [hmode, hallowed, hdue])]
    simp only [if_neg hgo]
    split
    · exact hdecided _ rfl rfl rfl rfl
    · exact hdecided _ rfl rfl rfl rfl

end Sys2Proof.Machine

namespace Sys2Proof.Machine

set_option Elab.async false

/-! Commands of the configuration controller, and what its units store (R310 to R315) -/

section
variable {s t u : State} {l : List Nat}

theorem SameRegsBut.mono {k : List Nat} (h : SameRegsBut l s t) (hl : l ⊆ k) : SameRegsBut k s t := fun f o hf => h f o fun hm => hf (hl hm)

/-- A command that may go runs on the state with its operation and BUSY written, and nothing else but the mark of its request. -/
theorem onGo_of_mayGo {busy : Fld} (h : MayGo s busy) (op : Fld) (n : Nat) :
    ∃ u : State, (∀ f, onGo busy op n f s = f u) ∧ SameRegsBut [op.key 0, busy.key 0] s u ∧ u = { s with regs := u.regs, asked := u.asked } := by
  obtain ⟨hlc, hidle⟩ := h
  by_cases hasked : s.asked.contains busy.adr = true
  · exact ⟨_, fun f => (if_neg hlc).trans (if_pos hasked), SameRegsBut.wr (.wr (.of_regs rfl _)), rfl⟩
  · exact ⟨_, fun f => (if_neg hlc).trans ((if_neg hasked).trans (if_neg (by omega))), SameRegsBut.wr .refl, rfl⟩

theorem cfgDone_ends (s : State) {st : Nat} (h : st < 2 ^ 16) : Ends (cfgDone st s) CFG_CMD_STATUS CFG_CMD_BUSY st :=
  ⟨((s.wr CFG_CMD_STATUS st).rd_wr_ne 0 (by decide)).trans ((s.rd_wr_same ..).trans (Nat.mod_eq_of_lt h)), State.rd_wr_same _ CFG_CMD_BUSY 0⟩

theorem cfgDone_regs (st : Nat) (s : State) : SameRegsBut [CFG_CMD_STATUS.key 0, CFG_CMD_BUSY.key 0] s (cfgDone st s) := .wr (.wr .refl)

/-- A field of the dies' spaces is none of the fields below. -/
theorem Fld.key_notMem {f : Fld} (hf : 0x1000000 ≤ f.adr) (hl : ∀ k ∈ l, k < 0x20000000) (o : Nat) : f.key o ∉ l := fun h => by
  have := hl _ h
  unfold Fld.key at this
  omega

theorem wrBytes_frame (s : State) (a : Nat) (bs : List Nat) : ∃ m, s.wrBytes a bs = { s with mem := m } := by
  induction bs generalizing s a with
  | nil => exact ⟨s.mem, rfl⟩
  | cons b bs ih => exact ih (s.wrByte a b) (a + 1)

theorem rdByte_wrBytes (s : State) (a : Nat) (bs : List Nat) (x : Nat) :
    (s.wrBytes a bs).rdByte x = if a ≤ x ∧ x < a + bs.length then bs.getD (x - a) 0 % 256 else s.rdByte x := by
  induction bs generalizing s a with
  | nil => rw [if_neg (by simp only [List.length_nil]; omega)]; rfl
  | cons b bs ih =>
    rw [State.wrBytes, ih, List.length_cons]
    rcases Nat.lt_trichotomy x a with hlt | rfl | hgt
    · rw [if_neg (by omega), if_neg (by omega), State.rdByte_wrByte_ne _ _ (by omega)]
    · rw [if_neg (by omega), if_pos (by omega), State.rdByte_wrByte_same, Nat.sub_self, List.getD_cons_zero]
    · obtain ⟨k, rfl⟩ : ∃ k, x = a + 1 + k := ⟨x - (a + 1), by omega⟩
      rw [show a + 1 + k - (a + 1) = k by omega, show a + 1 + k - a = k + 1 by omega, List.getD_cons_succ, State.rdByte_wrByte_ne _ _ (by omega)]
      refine if_congr ?_ rfl rfl
      omega

/-- With no write waiting in a channel, a unit of the Last stores its bytes and makes stored words good. -/
theorem dmaWrite_of_idle (h : ∀ c, c < 8 → (s.chan c).wq = []) (a : Nat) (bs : List Nat) :
    ∃ k m, dmaWrite a bs s = { s with marks := k, mem := m } ∧
      ∀ x, (dmaWrite a bs s).rdByte x = if a ≤ x ∧ x < a + bs.length then bs.getD (x - a) 0 % 256 else s.rdByte x := by
  have hnone : (List.range 8).foldl (fun s c => ((s.chan c).wq.filter fun e => decide (a ≤ addrOfLine c e.line + 63) && decide (addrOfLine c e.line < a + bs.length)).foldl
      (fun s e => drainLine c e false s) s) s = s := by
    refine List.foldlRecOn (motive := fun t => t = s) _ _ rfl fun t ht c hc => ?_
    rw [ht, h c (List.mem_range.1 hc)]
    rfl
  unfold dmaWrite
  extract_lets hi v w
  have hv : v = s := hnone
  obtain ⟨m, hm⟩ := wrBytes_frame w a bs
  refine ⟨w.marks, m, by rw [hm]; unfold w; rw [hv], fun x => ?_⟩
  rw [rdByte_wrBytes]
  unfold w
  rw [hv]
  rfl

/-- `t` is `s` with `count` blocks of `n` bytes stored from `dst` on: these bytes, and no other byte. -/
structure BlocksStored (s : State) (dst n count : Nat) (bytes : Nat → List Nat) (t : State) : Prop where
  regs : t.regs = s.regs
  cfg : t.cfg = s.cfg
  regions : t.regions = s.regions
  stored : ∀ k j, k < count → j < n → t.rdByte (dst + n * k + j) = (bytes k).getD j 0 % 256
  outside : SameMemOutside dst (n * count) s t

theorem dmaWrite_blocks {dst n count : Nat} {bytes : Nat → List Nat} (hlen : ∀ k, (bytes k).length = n) (g : Nat → State → List Nat × State)
    (hg : ∀ k < count, ∀ marks m, g k { s with marks, mem := m } = (bytes k, { s with marks, mem := m })) (hidle : ∀ c, c < 8 → (s.chan c).wq = []) :
    ∃ q m, (List.range count).foldl (fun t k => dmaWrite (dst + n * k) (g k t).1 (g k t).2) s = { s with marks := q, mem := m } ∧
      BlocksStored s dst n count bytes { s with marks := q, mem := m } := by
  induction count with
  | zero => exact ⟨s.marks, s.mem, rfl, rfl, rfl, rfl, fun k j hk => absurd hk (Nat.not_lt_zero k), fun _ _ => rfl⟩
  | succ count ih =>
    obtain ⟨q, m, hfold, -, -, -, hbytes, hout⟩ := ih fun k hk => hg k (hk.trans (Nat.lt_succ_self count))
    obtain ⟨q', m', heq, hread⟩ := dmaWrite_of_idle (s := { s with marks := q, mem := m }) hidle (dst + n * count) (bytes count)
    rw [heq, hlen] at hread
    have hmul : n * (count + 1) = n * count + n := Nat.mul_succ ..
    refine ⟨q', m', ?_, rfl, rfl, rfl, fun k j hk hj => ?_, fun a ha => ?_⟩
    · rw [List.range_succ, List.foldl_append, hfold, List.foldl_cons, List.foldl_nil, hg count (Nat.lt_succ_self count), heq]
    · rcases Nat.lt_succ_iff_lt_or_eq.1 hk with hlt | rfl
      · have hblock : n * k + n ≤ n * count := by rw [← Nat.mul_succ]; exact Nat.mul_le_mul_left n hlt
        exact (hread _).trans ((if_neg (by omega)).trans (hbytes k j hlt hj))
      · exact (hread _).trans ((if_pos (by omega)).trans (by rw [Nat.add_sub_cancel_left]))
    · exact (hread a).trans ((if_neg (by omega)).trans (hout a (by omega)))

theorem numBytes_getD (n x j : Nat) (h : j < n) : (numBytes n x).getD j 0 = x / 256 ^ j % 256 := by
  simp [numBytes, h]

theorem numBytes_length (n x : Nat) : (numBytes n x).length = n := by simp [numBytes]

end
end Sys2Proof.Machine

namespace Sys2Proof.Machine

set_option Elab.async false

/-! Captures (R314, R315) -/

section
variable {s t : State}

/-- A capture is pending in region `r` of die `d`, whose latches hold none yet. -/
def Capturing (d r : Nat) (s : State) : Prop := s.rdi FDC_RSTAT_CAPPEND (oReg d r) = 1 ∧ (s.region (rix d r)).latchValid = false

theorem capStart_cons (p : Nat × Nat) (rs : List (Nat × Nat)) (s : State) :
    capStart (p :: rs) s = capStart rs ((s.wri FDC_RSTAT_CAPPEND (oReg p.1 p.2) 1).modRegion (rix p.1 p.2) fun g => { g with latchValid := false }) := rfl

theorem capturing_step {d r : Nat} (p : Nat × Nat) (h : p = (d, r) ∨ Capturing d r s) :
    Capturing d r ((s.wri FDC_RSTAT_CAPPEND (oReg p.1 p.2) 1).modRegion (rix p.1 p.2) fun g => { g with latchValid := false }) := by
  constructor
  · rw [State.modRegion_rdi]
    by_cases he : FDC_RSTAT_CAPPEND.key (oReg d r) = FDC_RSTAT_CAPPEND.key (oReg p.1 p.2)
    · rw [State.rdi, he]
      exact State.rdi_wri_same ..
    · rw [State.rdi_wri_ne _ _ he]
      rcases h with rfl | h
      · exact absurd rfl he
      · exact h.1
  · by_cases he : rix d r = rix p.1 p.2
    · rw [he, State.region_modRegion]
    · rw [State.region_modRegion_ne _ _ _ he]
      rcases h with rfl | h
      · exact absurd rfl he
      · exact h.2

theorem capStart_capturing {d r : Nat} {rs : List (Nat × Nat)} (h : (d, r) ∈ rs ∨ Capturing d r s) : Capturing d r (capStart rs s) := by
  induction rs generalizing s with
  | nil => exact h.elim (fun h => absurd h List.not_mem_nil) id
  | cons p rs ih =>
    rw [capStart_cons]
    refine ih ?_
    rcases h with h | h
    · rcases List.mem_cons.1 h with rfl | h
      · exact .inr (capturing_step _ (.inl rfl))
      · exact .inl h
    · exact .inr (capturing_step _ (.inr h))

theorem capStart_mem (rs : List (Nat × Nat)) (s : State) : (capStart rs s).mem = s.mem := by
  unfold capStart
  refine foldl_keeps State.mem (fun s p => ?_) rs s
  rfl

theorem capStart_ff (rs : List (Nat × Nat)) (k : Nat) (s : State) : ((capStart rs s).region k).ff = (s.region k).ff := by
  unfold capStart
  refine foldl_keeps (fun s => (s.region k).ff) (fun s p => ?_) rs s
  by_cases he : k = rix p.1 p.2
  · simp only [he, State.region_modRegion]
    rfl
  · simp only [State.region_modRegion_ne _ _ _ he]
    rfl

theorem capStart_rd {f : Fld} (h : f.adr < 0x1000000 ∧ f.lo < 32) (rs : List (Nat × Nat)) (s : State) : (capStart rs s).rd f = s.rd f := by
  unfold capStart
  refine foldl_keeps (fun s => s.rd f) (fun s p => ?_) rs s
  rw [State.modRegion_rd]
  refine s.rdi_wri_ne 1 ?_
  simp only [Fld.key, FDC_RSTAT_CAPPEND]
  omega

theorem mem_capRegions {dies mask d r : Nat} (hd : d < 12) (hr : r < 32) (hdie : bit dies d = 1) (hmask : bit mask r = 1) : (d, r) ∈ capRegions dies mask := by
  refine List.mem_flatMap.2 ⟨d, ?_, ?_⟩
  · simp [dieList, hd, hdie]
  · simp [hr, hmask]

theorem capRefusal_lt (dies mask : Nat) (s : State) : capRefusal dies mask s < 2 ^ 16 := by
  unfold capRefusal
  dsimp only
  split
  · decide
  · split <;> decide

theorem captureCommand_start (hbusy : s.rd CFG_CAPCMD_BUSY ≠ 1) (hcheck : capRefusal (s.rd CFG_CAPCMD_DIEMASK) (s.rd CFG_CAPMASK_MASK) s = 0) :
    ∃ v : State, exec .captureCommand s = .next (capStart (capRegions (s.rd CFG_CAPCMD_DIEMASK) (s.rd CFG_CAPMASK_MASK)) v) ∧
      v.rd CFG_CAPCMD_STATUS = 0 ∧ v.regions = s.regions ∧ v.mem = s.mem := by
  change ∃ v : State, execCaptureCommand s = _ ∧ _
  simp only [execCaptureCommand, if_neg hbusy, hcheck, ne_eq, not_true_eq_false, if_false]
  refine ⟨_, rfl, ?_⟩
  split
  · exact ⟨((s.wr CFG_CAPCMD_STATUS 0).rd_wr_ne 1 (by decide)).trans (s.rd_wr_same CFG_CAPCMD_STATUS 0), rfl, rfl⟩
  · exact ⟨s.rd_wr_same CFG_CAPCMD_STATUS 0, rfl, rfl⟩

theorem cfgDest_congr (h : SameRegsBut l s t) (hk : DRC_GEOM_SIZE.key 0 ∉ l := by decide) (a n : Nat) : cfgDest t a n = cfgDest s a n := by
  unfold cfgDest dramBytes
  rw [State.rd, h _ _ hk]
  rfl

end

/-- Settles O21. -/
theorem captures : Obligations.Captures := by
  unfold Obligations.Captures
  refine ⟨?started, ?refused, ?stored, ?pending⟩
  case started =>
    intro s hbusy hcheck
    obtain ⟨v, hexec, hstatus, hregions, hmem⟩ := captureCommand_start hbusy hcheck
    rw [hexec, yields_next]
    refine ⟨(capStart_rd (by decide) _ v).trans hstatus, fun d r hd hr hdie hmask => ?_, .of_mem ((capStart_mem _ v).trans hmem)⟩
    obtain ⟨hpend, hlatch⟩ := capStart_capturing (s := v) (.inl (mem_capRegions hd hr hdie hmask))
    refine ⟨hpend, hlatch, ?_⟩
    rw [capStart_ff, State.region, hregions]
    rfl
  case refused =>
    intro s hbusy hcheck
    change Yields (execCaptureCommand s) _
    simp only [execCaptureCommand, if_neg hbusy, if_pos hcheck, yields_next]
    exact ⟨(s.rd_wr_same ..).trans (Nat.mod_eq_of_lt (capRefusal_lt ..)), rfl, .of_mem rfl, .wr .refl⟩
  case stored =>
    intro s d r dst hgo hd hr hd12 hr32 hdst hdest hdone hnorb hidle
    obtain ⟨u, hrun, hregs, hu⟩ := onGo_of_mayGo hgo CFG_CMD_OP 6
    have hregions : u.regions = s.regions := by rw [hu]
    have hmem : u.mem = s.mem := by rw [hu]
    have hchans : u.chans = s.chans := by rw [hu]
    have hcap : u.rdi FDC_RSTAT_CAPDONE (oReg d r) ≠ 0 := by
      rw [hregs _ _ (Fld.key_notMem (by decide) (by decide) _)]
      exact hdone
    have hfree : (unitSt u (unitReg d r) (activeOf u (unitReg d r))).norb = false := by
      rw [← hnorb, hu]
      rfl
    have harg : ∀ f : Fld, f.key 0 ∉ [CFG_CMD_OP.key 0, CFG_CMD_BUSY.key 0] → u.rd f = s.rd f := fun f => hregs f 0
    obtain ⟨q, m, hfold, hblocks⟩ := dmaWrite_blocks (s := u) (dst := dst) (n := 2048) (count := 11) (bytes := fun k => numBytes 2048 (captureFrame (s.region (rix d r)) k))
      (fun k => numBytes_length ..) (fun k t => (numBytes 2048 (captureFrame (t.region (rix d r)) k), t))
      (fun k _ marks m => by simp only [State.region, hregions]) (fun c hc => (congrArg (fun t => (tabGet {} t c).wq) hchans).trans (hidle c hc))
    obtain ⟨t, ht⟩ : ∃ t : State, { u with marks := q, mem := m } = t := ⟨_, rfl⟩
    rw [ht] at hfold hblocks
    have hcmd : exec .cfgCaptureReadout s = .next (cfgDone 0 t) := by
      change Host.Outcome.next (onGo CFG_CMD_BUSY CFG_CMD_OP 6 _ s) = _
      rw [hrun]
      dsimp only
      rw [harg CFG_ARG0_VALUE (by decide), harg CFG_ARG1_VALUE (by decide), harg CFG_ARG2_VALUE (by decide), harg CFG_ARG3_VALUE (by decide), hd, hr, hdst,
        cfgDest_congr hregs, hdest,
        if_neg (by simp only [Bool.true_eq_false, or_false]; omega), if_neg hcap, if_neg (by simp [hfree]), hfold]
    rw [hcmd, yields_next]
    refine ⟨cfgDone_ends t (by decide), fun k j hk hj => ?_, fun x hx => ?_, hblocks.regions.trans hregions⟩
    · refine (hblocks.stored k j hk hj).trans ?_
      rw [numBytes_getD _ _ _ hj, Nat.mod_mod]
    · exact (hblocks.outside x hx).trans (SameMem.of_mem hmem x)
  case pending =>
    intro s d r hgo hd hr hd12 hr32 hdest hdone
    obtain ⟨u, hrun, hregs, hu⟩ := onGo_of_mayGo hgo CFG_CMD_OP 6
    have hcap : u.rdi FDC_RSTAT_CAPDONE (oReg d r) = 0 := by
      rw [hregs _ _ (Fld.key_notMem (by decide) (by decide) _)]
      exact hdone
    have harg : ∀ f : Fld, f.key 0 ∉ [CFG_CMD_OP.key 0, CFG_CMD_BUSY.key 0] → u.rd f = s.rd f := fun f => hregs f 0
    have hcmd : exec .cfgCaptureReadout s = .next (cfgDone ST_CFG_STATE u) := by
      change Host.Outcome.next (onGo CFG_CMD_BUSY CFG_CMD_OP 6 _ s) = _
      rw [hrun]
      dsimp only
      rw [harg CFG_ARG0_VALUE (by decide), harg CFG_ARG1_VALUE (by decide), harg CFG_ARG2_VALUE (by decide), harg CFG_ARG3_VALUE (by decide), hd, hr,
        cfgDest_congr hregs, hdest, if_neg (by simp only [Bool.true_eq_false, or_false]; omega), if_pos hcap]
    have hmem : u.mem = s.mem := by rw [hu]
    have hregions : u.regions = s.regions := by rw [hu]
    rw [hcmd, yields_next]
    exact ⟨cfgDone_ends u (by decide), .of_mem hmem, hregions⟩

end Sys2Proof.Machine

namespace Sys2Proof.Machine

set_option Elab.async false

/-! The controller's work on frames (R310 to R313) -/

section
variable {s t : State}

/-- The lowest of the frames that a verification finds, or none. -/
theorem foldl_min_none {β : Type} (l : List (Nat × β)) (h : l = []) : l.foldl (fun (m : Option Nat) f => some (min f.1 (m.getD f.1))) none = none := by
  rw [h]
  rfl

theorem foldl_min_eq {β : Type} {f : Nat} (l : List (Nat × β)) (hle : ∀ x ∈ l, f ≤ x.1) {m : Option Nat} (hm : ∀ a ∈ m, f ≤ a)
    (h : m = some f ∨ ∃ x ∈ l, x.1 = f) : l.foldl (fun (m : Option Nat) f => some (min f.1 (m.getD f.1))) m = some f := by
  induction l generalizing m with
  | nil => exact h.resolve_right fun ⟨_, hx, _⟩ => absurd hx List.not_mem_nil
  | cons x l ih =>
    have hx : f ≤ x.1 := hle x List.mem_cons_self
    have hmin : f ≤ m.getD x.1 := by
      cases m with
      | none => exact hx
      | some a => exact hm a rfl
    refine ih (fun y hy => hle y (List.mem_cons_of_mem x hy)) (fun a ha => ?_) ?_
    · cases ha
      exact Nat.le_min.2 ⟨hx, hmin⟩
    · rcases h with rfl | ⟨y, hy, rfl⟩
      · exact .inl (congrArg some (Nat.min_eq_right hx))
      · rcases List.mem_cons.1 hy with rfl | hy
        · exact .inl (congrArg some (Nat.min_eq_left hmin))
        · exact .inr ⟨y, hy, rfl⟩

theorem verifyBad_congr (hphase : t.rd CFG_STAT_PHASE = s.rd CFG_STAT_PHASE) (hcfg : t.cfg = s.cfg) (hregions : t.regions = s.regions) (d role : Nat) :
    verifyBad t d role = verifyBad s d role := by
  simp only [verifyBad, planeOf, activeOf, State.region, frameSt, loadNext, unitSt, hphase, hcfg, hregions]
  rfl

/-- What the verification of planes leaves: the registers, the memory and the data of the frames. -/
theorem verifyDies_keeps {β : Type} (g : State → β) (hg : ∀ s t : State, (∃ c : Cfg, t = { s with cfg := c } ∧ c.data = s.cfg.data) → g t = g s) (dies roles : List Nat) (s : State) :
    g (verifyDies dies roles s).2 = g s := by
  unfold verifyDies
  extract_lets bad u v w
  have hu : g u = g s := by
    unfold u
    exact foldl_keeps g (fun s d => hg s (countCe d roles s) ⟨_, rfl, rfl⟩) dies s
  clear_value u
  have hv : g v = g u := by
    unfold v
    refine foldl_keeps g (fun s p => ?_) _ u
    dsimp only
    generalize (if p.2 = 0 then activeOf s p.1 else 1 - activeOf s p.1) = pl
    split
    · exact hg _ _ ⟨_, rfl, rfl⟩
    · exact hg _ _ ⟨_, rfl, rfl⟩
  clear_value v bad
  have hw : g w = g v := by
    unfold w
    refine foldl_keeps g (fun s f => ?_) bad v
    unfold setFrameSt
    exact hg _ _ ⟨_, rfl, rfl⟩
  exact hw.trans (hv.trans hu)

theorem verifyDies_frame {dies roles : List Nat} {x : Option Nat × State} (h : verifyDies dies roles s = x) : x.2.regs = s.regs ∧ x.2.cfg.data = s.cfg.data ∧ x.2.mem = s.mem := by
  rw [← h]
  refine ⟨verifyDies_keeps State.regs ?_ dies roles s, verifyDies_keeps (fun s => s.cfg.data) ?_ dies roles s, verifyDies_keeps State.mem ?_ dies roles s⟩ <;>
    rintro s _ ⟨c, rfl, hc⟩
  · rfl
  · exact hc
  · rfl

theorem verifyDies_fst (dies roles : List Nat) (s : State) : (verifyDies dies roles s).1 =
    (dies.flatMap fun d => roles.flatMap fun r => (verifyBad s d r).map fun f => (f, planeOf s f r)).foldl (fun (m : Option Nat) f => some (min f.1 (m.getD f.1))) none := rfl

theorem verifyDies_none {dies roles : List Nat} (h : ∀ d r, verifyBad s d r = []) : (verifyDies dies roles s).1 = none := by
  rw [verifyDies_fst]
  exact foldl_min_none _ (by simp [h])

theorem bit_two_pow (d k : Nat) : bit (2 ^ d) k = if k = d then 1 else 0 := by
  rw [bit_eq_toNat, Nat.testBit_two_pow]
  by_cases h : d = k
  · simp [h]
  · simp [h, Ne.symm h]

/-- A verification of one die's active plane finds the lowest of its bad frames. -/
theorem verifyDies_lowest {d f : Nat} (hd : d < 13) (hf : f ∈ verifyBad s d 0) (hle : ∀ g ∈ verifyBad s d 0, f ≤ g) :
    (verifyDies ((List.range 13).filter fun k => bit (2 ^ d) k == 1) ((List.range 2).filter fun r => bit 1 r == 1) s).1 = some f := by
  have hdie : ∀ k ∈ (List.range 13).filter (fun k => bit (2 ^ d) k == 1), k = d := fun k hk => by
    have := (List.mem_filter.1 hk).2
    by_contra hne
    simp [bit_two_pow, hne] at this
  have hrole : (List.range 2).filter (fun r => bit 1 r == 1) = [0] := by decide
  rw [verifyDies_fst, hrole]
  refine foldl_min_eq _ (fun x hx => ?_) (fun a ha => absurd ha (by simp)) (.inr ⟨(f, planeOf s f 0), ?_, rfl⟩)
  · obtain ⟨k, hk, hx⟩ := List.mem_flatMap.1 hx
    rw [hdie k hk] at hx
    simp only [List.flatMap_cons, List.flatMap_nil, List.append_nil, List.mem_map] at hx
    obtain ⟨g, hg, rfl⟩ := hx
    exact hle g hg
  · refine List.mem_flatMap.2 ⟨d, List.mem_filter.2 ⟨List.mem_range.2 hd, by simp [bit_two_pow]⟩, ?_⟩
    simp only [List.flatMap_cons, List.flatMap_nil, List.append_nil]
    exact List.mem_map.2 ⟨f, hf, rfl⟩

/-- A verification of planes runs on the state with its operation and BUSY written. -/
theorem cfgVerify_runs (hgo : MayGo s CFG_CMD_BUSY) (hmode : s.mode ≠ DORMANT) (hplanes : ¬ (s.rd CFG_ARG0_VALUE = 0 ∨ 4 ≤ s.rd CFG_ARG0_VALUE ∨ 2 ^ 13 ≤ s.rd CFG_ARG1_VALUE)) :
    ∃ u : State, SameRegsBut [CFG_CMD_OP.key 0, CFG_CMD_BUSY.key 0] s u ∧ u.cfg = s.cfg ∧ u.regions = s.regions ∧ u.mem = s.mem ∧
      ∀ x, verifyDies ((List.range 13).filter fun d => bit (s.rd CFG_ARG1_VALUE) d == 1) ((List.range 2).filter fun r => bit (s.rd CFG_ARG0_VALUE) r == 1) u = x →
        (∀ f, x.1 = some f → exec .cfgVerify s = .next (cfgDone ST_INT_FRAMECRC ((x.2.wr CFG_RESLOC_KIND 1).wr CFG_RESLOC_VALUE f))) ∧
        (x.1 = none → exec .cfgVerify s = .next (cfgDone 0 x.2)) := by
  obtain ⟨u, hrun, hregs, hu⟩ := onGo_of_mayGo hgo CFG_CMD_OP 3
  refine ⟨u, hregs, by rw [hu], by rw [hu], by rw [hu], fun x hx => ?_⟩
  have hkept : u.mode = s.mode := hregs GLB_MODE_MODE 0 (by decide)
  have harg : ∀ f : Fld, f.key 0 ∉ [CFG_CMD_OP.key 0, CFG_CMD_BUSY.key 0] → u.rd f = s.rd f := fun f => hregs f 0
  have hexec : exec .cfgVerify s = execCfgVerify s := rfl
  rw [hexec, execCfgVerify, cfgGo, hrun]
  dsimp only
  rw [hkept, if_neg hmode, harg CFG_ARG0_VALUE (by decide), harg CFG_ARG1_VALUE (by decide), if_neg hplanes, hx]
  exact ⟨fun f hf => by simp only [hf], fun hnone => by simp only [hnone]⟩

/-- The trailer of a frame that reads without errors (R312). -/
def frameTrailer (fid role : Nat) (s : State) : List Nat :=
  numBytes 4 fid ++ [planeOf s fid role, role, 0, frameSt s fid (planeOf s fid role)] ++ numBytes 4 (crc32 16384 (frameData s fid (planeOf s fid role))) ++
    numBytes 4 (Config.frameCheckBits (frameData s fid (planeOf s fid role)) % 2 ^ 31)

theorem frameTrailer_length (fid role : Nat) (s : State) : (frameTrailer fid role s).length = 16 := by simp [frameTrailer, numBytes]

theorem frameOut_clean {fid role : Nat} (h : frameMark s fid (planeOf s fid role) = 0) :
    frameOut fid role s = (numBytes 2048 (frameData s fid (planeOf s fid role)) ++ frameTrailer fid role s, s) := by
  unfold frameOut frameTrailer
  simp only [h, OfNat.zero_ne_ofNat, zero_ne_one, or_self, if_false, List.append_assoc]

theorem rdMem_congr {s t : State} (h : t.mem = s.mem) (n a : Nat) : t.rdMem n a = s.rdMem n a := by
  induction n generalizing a with
  | zero => rfl
  | succ n ih => rw [State.rdMem, State.rdMem, ih, State.rdByte, State.rdByte, h]

theorem rdMem_lt (s : State) (n a : Nat) : s.rdMem n a < 256 ^ n := by
  induction n generalizing a with
  | zero => exact Nat.one_pos
  | succ n ih =>
    have := s.rdByte_lt a
    have := ih (a + 1)
    rw [State.rdMem, pow_succ]
    omega

theorem rdMem_mod (s : State) (n a : Nat) : s.rdMem n a % 2 ^ (8 * n) = s.rdMem n a := by
  refine Nat.mod_eq_of_lt ?_
  rw [pow_mul]
  exact rdMem_lt s n a

/-- A raw write of one frame. -/
def rawFrame (bad : List Nat) (first src : Nat) (s : State) (k : Nat) : State :=
  setFrameSt (first + k) (activeOf s (frameUnit (first + k))) 1
    (putFrame (first + k) (activeOf s (frameUnit (first + k))) (s.rdMem 2048 (src + 2048 * k)) (bad.contains (first + k)) s)

theorem rawFrame_eq {c : Cfg} (hsel : c.sel = s.cfg.sel) (bad : List Nat) (first src k : Nat) :
    ∃ c', rawFrame bad first src { s with cfg := c } k = { s with cfg := c' } ∧ c'.sel = s.cfg.sel ∧
      c'.data = tabSet 0 c.data ((first + k) * 2 + activeOf s (frameUnit (first + k))) (s.rdMem 2048 (src + 2048 * k)) := by
  have hactive : ∀ u, activeOf { s with cfg := c } u = activeOf s u := fun u => by
    unfold activeOf
    rw [hsel]
    rfl
  unfold rawFrame setFrameSt putFrame
  rw [hactive, show (16384 : Nat) = 8 * 2048 from rfl, rdMem_mod, rdMem_congr (s := s) (t := { s with cfg := c }) rfl]
  generalize s.rdMem 2048 (src + 2048 * k) = x
  exact ⟨_, rfl, hsel, rfl⟩

theorem rawFrames_spec (bad : List Nat) (first src count : Nat) (hplanes : s.PlanesOk) :
    ∃ c : Cfg, (List.range count).foldl (rawFrame bad first src) s = { s with cfg := c } ∧ c.sel = s.cfg.sel ∧
      ∀ k < count, tabGet 0 c.data ((first + k) * 2 + activeOf s (frameUnit (first + k))) = s.rdMem 2048 (src + 2048 * k) := by
  induction count with
  | zero => exact ⟨s.cfg, rfl, rfl, fun k hk => absurd hk (Nat.not_lt_zero k)⟩
  | succ count ih =>
    obtain ⟨c, hfold, hsel, hdata⟩ := ih
    obtain ⟨c', hlast, hsel', hdata'⟩ := rawFrame_eq hsel bad first src count
    refine ⟨c', by rw [List.range_succ, List.foldl_append, hfold, List.foldl_cons, List.foldl_nil, hlast], hsel', fun k hk => ?_⟩
    rw [hdata']
    rcases Nat.lt_succ_iff_lt_or_eq.1 hk with hlt | rfl
    · have hk2 := hplanes (frameUnit (first + k))
      have hc2 := hplanes (frameUnit (first + count))
      rw [tabGet_set_ne _ _ _ _ (by omega), hdata k hlt]
    · exact tabGet_set_same ..

theorem showBadsel_quiet (h : s.mode = HOLD) : ∃ r, showBadsel s = { s with regs := r } := by
  have hquiet : ¬ (s.mode = RUN ∨ s.mode = SHIFT) := by
    rw [h]
    decide
  exact ⟨_, if_neg fun hr => hquiet hr.2.2⟩

end

/-- Settles O20. -/
theorem frameCommands : Obligations.FrameCommands := by
  unfold Obligations.FrameCommands
  refine ⟨?good, ?bad, ?refused, ?read, ?early, ?raw, ?late⟩
  case good =>
    intro s hgo hmode hzero hfour hdies hnone
    obtain ⟨u, hregs, hcfg, hregions, hmem, hrun⟩ := cfgVerify_runs hgo hmode (by omega)
    have hclean := fun d r => (verifyBad_congr (hregs CFG_STAT_PHASE 0 (by decide)) hcfg hregions d r).trans (hnone d r)
    obtain ⟨x, hx⟩ : ∃ x, verifyDies ((List.range 13).filter fun d => bit (s.rd CFG_ARG1_VALUE) d == 1) ((List.range 2).filter fun r => bit (s.rd CFG_ARG0_VALUE) r == 1) u = x := ⟨_, rfl⟩
    obtain ⟨hxregs, hxdata, hxmem⟩ := verifyDies_frame hx
    rw [(hrun x hx).2 (by rw [← hx]; exact verifyDies_none hclean), yields_next]
    refine ⟨cfgDone_ends _ (by decide), hxdata.trans (congrArg Cfg.data hcfg), .of_mem (hxmem.trans hmem), ?_⟩
    exact SameRegsBut.wr (.wr (.trans (hregs.mono (by simp)) (.of_regs hxregs _)))
  case bad =>
    intro s d f hgo hmode hrole hdie hd hf hmem hle
    obtain ⟨u, hregs, hcfg, hregions, hsame, hrun⟩ := cfgVerify_runs hgo hmode (by
      rw [hrole, hdie]
      have : 2 ^ d < 2 ^ 13 := Nat.pow_lt_pow_right (by decide) hd
      omega)
    have hbad := verifyBad_congr (hregs CFG_STAT_PHASE 0 (by decide)) hcfg hregions d 0
    obtain ⟨x, hx⟩ : ∃ x, verifyDies ((List.range 13).filter fun k => bit (2 ^ d) k == 1) ((List.range 2).filter fun r => bit 1 r == 1) u = x := ⟨_, rfl⟩
    obtain ⟨hxregs, hxdata, hxmem⟩ := verifyDies_frame hx
    rw [hrole, hdie] at hrun
    rw [(hrun x hx).1 f (by rw [← hx]; exact verifyDies_lowest hd (hbad ▸ hmem) (hbad ▸ hle)), yields_next]
    have hkept : SameRegsBut [CFG_CMD_STATUS.key 0, CFG_CMD_BUSY.key 0] ((x.2.wr CFG_RESLOC_KIND 1).wr CFG_RESLOC_VALUE f)
      (cfgDone ST_INT_FRAMECRC ((x.2.wr CFG_RESLOC_KIND 1).wr CFG_RESLOC_VALUE f)) := cfgDone_regs _ _
    refine ⟨cfgDone_ends _ (by decide), ?_, ?_, hxdata.trans (congrArg Cfg.data hcfg), .of_mem (hxmem.trans hsame)⟩
    · exact (hkept CFG_RESLOC_KIND 0 (by decide)).trans ((State.rd_wr_ne _ _ (by decide)).trans (x.2.rd_wr_same CFG_RESLOC_KIND 1))
    · refine (hkept CFG_RESLOC_VALUE 0 (by decide)).trans ((State.rd_wr_same ..).trans (Nat.mod_eq_of_lt (hf.trans (by decide))))
  case refused =>
    intro s hgo hmode harg
    obtain ⟨u, hrun, hregs, hu⟩ := onGo_of_mayGo hgo CFG_CMD_OP 3
    have hkept : u.mode = s.mode := hregs GLB_MODE_MODE 0 (by decide)
    have h0 : u.rd CFG_ARG0_VALUE = s.rd CFG_ARG0_VALUE := hregs CFG_ARG0_VALUE 0 (by decide)
    have h1 : u.rd CFG_ARG1_VALUE = s.rd CFG_ARG1_VALUE := hregs CFG_ARG1_VALUE 0 (by decide)
    have hcfg : u.cfg = s.cfg := by rw [hu]
    have hmem : u.mem = s.mem := by rw [hu]
    have hcmd : exec .cfgVerify s = .next (cfgDone ST_CFG_BADCMD u) := by
      change execCfgVerify s = _
      rw [execCfgVerify, cfgGo, hrun]
      dsimp only
      rw [hkept, if_neg hmode, h0, h1, if_pos harg]
    rw [hcmd, yields_next]
    exact ⟨cfgDone_ends u (by decide), hcfg, .of_mem hmem⟩
  case read =>
    intro s first count role dst hgo hmode hrole hrole2 hfirst hcount hlast hdst hdest hclean hidle
    obtain ⟨u, hrun, hregs, hu⟩ := onGo_of_mayGo hgo CFG_CMD_OP 4
    have hkept : u.mode = s.mode := hregs GLB_MODE_MODE 0 (by decide)
    have harg : ∀ f : Fld, f.key 0 ∉ [CFG_CMD_OP.key 0, CFG_CMD_BUSY.key 0] → u.rd f = s.rd f := fun f => hregs f 0
    have hmem : u.mem = s.mem := by rw [hu]
    have hcfg : u.cfg = s.cfg := by rw [hu]
    have hchans : u.chans = s.chans := by rw [hu]
    have hplane : ∀ f, planeOf u f role = planeOf s f role := fun f => by rw [hu]; rfl
    have hnorb : ∀ f ∈ (List.range count).map fun k => first + k, ¬ frameNorb u f (planeOf u f role) = true := fun f hf => by
      obtain ⟨k, hk, rfl⟩ := List.mem_map.1 hf
      have hreadable := (hclean k (List.mem_range.1 hk)).1
      rw [hplane, frameNorb, unitSt, hcfg]
      simpa [frameNorb, unitSt] using hreadable
    have hdata : ∀ f, frameData u f (planeOf u f role) = frameData s f (planeOf s f role) := fun f => by rw [hplane, frameData, hcfg]; rfl
    have hmark : ∀ k < count, frameMark u (first + k) (planeOf u (first + k) role) = 0 := fun k hk => by
      rw [hplane, frameMark, hcfg]
      exact (hclean k hk).2
    obtain ⟨q, m, hfold, hblocks⟩ := dmaWrite_blocks (s := u) (dst := dst) (n := 2064) (count := count)
      (bytes := fun k => numBytes 2048 (frameData u (first + k) (planeOf u (first + k) role)) ++ frameTrailer (first + k) role u)
      (fun k => by rw [List.length_append, numBytes_length, frameTrailer_length]) (fun k t => frameOut (first + k) role t)
      (fun k hk marks m => frameOut_clean (s := { u with marks, mem := m }) (hmark k hk))
      (fun c hc => (congrArg (fun t => (tabGet {} t c).wq) hchans).trans (hidle c hc))
    obtain ⟨t, ht⟩ : ∃ t : State, { u with marks := q, mem := m } = t := ⟨_, rfl⟩
    rw [ht] at hfold hblocks
    have hcmd : exec .cfgReadback s = .next (cfgDone 0 t) := by
      change execCfgReadback s = _
      rw [execCfgReadback, cfgGo, hrun]
      dsimp only
      rw [hkept, if_neg (by omega), harg CFG_ARG0_VALUE (by decide), harg CFG_ARG1_VALUE (by decide), harg CFG_ARG2_VALUE (by decide), harg CFG_ARG3_VALUE (by decide),
        hrole, hfirst, hcount, hdst, cfgDest_congr hregs, hdest, if_neg (by simp only [Bool.true_eq_false, or_false]; omega), if_neg, List.foldl_map]
      · simp only [Nat.add_sub_cancel_left, hfold]
      · exact fun h => by
          obtain ⟨f, hf, hbad⟩ := List.any_eq_true.1 h.2
          exact hnorb f hf hbad
    rw [hcmd, yields_next]
    refine ⟨cfgDone_ends t (by decide), fun k j hk hj => ?_, fun x hx => ?_, hblocks.cfg.trans hcfg, ?_⟩
    · refine (hblocks.stored k j hk (by omega)).trans ?_
      rw [List.getD_append _ _ _ _ (by rw [numBytes_length]; exact hj), numBytes_getD _ _ _ hj, Nat.mod_mod, hdata]
    · exact (hblocks.outside x hx).trans (SameMem.of_mem hmem x)
    · exact SameRegsBut.wr (.wr (.trans (hregs.mono (by simp)) (.of_regs hblocks.regs _)))
  case early =>
    intro s hgo hmode
    obtain ⟨u, hrun, hregs, hu⟩ := onGo_of_mayGo hgo CFG_CMD_OP 4
    have hkept : u.mode = s.mode := hregs GLB_MODE_MODE 0 (by decide)
    have hmem : u.mem = s.mem := by rw [hu]
    have hcmd : exec .cfgReadback s = .next (cfgDone ST_CFG_STATE u) := by
      change execCfgReadback s = _
      rw [execCfgReadback, cfgGo, hrun]
      dsimp only
      rw [hkept, if_pos hmode]
    rw [hcmd, yields_next]
    exact ⟨cfgDone_ends u (by decide), .of_mem hmem⟩
  case raw =>
    intro s bad first count src hgo hmode hlc hfirst hcount hzero hmax hlast hsrc hdest hplanes
    obtain ⟨u, hrun, hregs, hu⟩ := onGo_of_mayGo hgo CFG_CMD_OP 7
    have hkept : u.mode = s.mode := hregs GLB_MODE_MODE 0 (by decide)
    have harg : ∀ f : Fld, f.key 0 ∉ [CFG_CMD_OP.key 0, CFG_CMD_BUSY.key 0] → u.rd f = s.rd f := fun f => hregs f 0
    have hmem : u.mem = s.mem := by rw [hu]
    have hregions : u.regions = s.regions := by rw [hu]
    have hactive : ∀ k, activeOf u k = activeOf s k := fun k => by rw [hu]; rfl
    obtain ⟨c, hfold, -, hdata⟩ := rawFrames_spec (s := u) bad first src count fun k => (hactive k).trans_lt (hplanes k)
    obtain ⟨r, hshow⟩ := showBadsel_quiet (s := { u with cfg := c }) (hkept.trans hmode)
    have hcmd : exec (.cfgRawWrite bad []) s = .next (cfgDone 0 { u with regs := r, cfg := c }) := by
      change execCfgRawWrite bad [] s = _
      rw [execCfgRawWrite, cfgGo, hrun]
      dsimp only
      rw [hkept, if_neg (not_not_intro hmode), harg SEC_STAT_LC (by decide), if_neg (not_not_intro hlc), harg CFG_ARG0_VALUE (by decide), harg CFG_ARG1_VALUE (by decide),
        harg CFG_ARG2_VALUE (by decide), harg CFG_ARG3_VALUE (by decide), hfirst, hcount, hsrc, cfgDest_congr hregs, hdest,
        if_neg (by simp only [Bool.true_eq_false, or_false]; omega), List.foldl_nil]
      change Host.Outcome.next (cfgDone 0 (showBadsel ((List.range count).foldl (rawFrame bad first src) u))) = _
      rw [hfold, hshow]
    rw [hcmd, yields_next]
    refine ⟨cfgDone_ends _ (by decide), fun k hk => ?_, hregions, .of_mem hmem⟩
    rw [← hactive, ← rdMem_congr hmem]
    exact hdata k hk
  case late =>
    intro s bad regs hgo hmode
    obtain ⟨u, hrun, hregs, hu⟩ := onGo_of_mayGo hgo CFG_CMD_OP 7
    have hkept : u.mode = s.mode := hregs GLB_MODE_MODE 0 (by decide)
    have hcfg : u.cfg = s.cfg := by rw [hu]
    have hmem : u.mem = s.mem := by rw [hu]
    have hcmd : exec (.cfgRawWrite bad regs) s = .next (cfgDone ST_CFG_STATE u) := by
      change execCfgRawWrite bad regs s = _
      rw [execCfgRawWrite, cfgGo, hrun]
      dsimp only
      rw [hkept, if_pos hmode]
    rw [hcmd, yields_next]
    exact ⟨cfgDone_ends u (by decide), hcfg, .of_mem hmem⟩

end Sys2Proof.Machine

namespace Sys2Proof.Machine

set_option Elab.async false

/-! Lane repair (R132, R138 to R141, R143 to R146) -/

section
variable {s : State} {e dir g l : Nat}

theorem key_eyeGroup_ne {f : Fld} (hf : f.lo < 32) (ha : EYE_CORR_COUNT.adr ≤ f.adr) {h : Fld} (hh : h.lo < 32) (hlow : h.adr < EYE_CORR_COUNT.adr) (o : Nat) : h.key 0 ≠ f.key o := by
  unfold Fld.key
  omega

/-- A lane in use whose count stays below both thresholds is counted, and no more (R132). -/
theorem laneCorrected_below (hu : laneInUse (s.eye (gix e dir g)) l = true) {n run : Nat} (hn : n < max 1 (s.rd EYE_CTL_BERTH)) (hrun : run < 64) :
    laneCorrected e dir g l n run s = laneCounted e dir g l n s := by
  rw [laneCorrected, if_neg (by simp [hu])]
  refine if_neg fun h => ?_
  rcases h.1 with hle | hle
  · exact hn.not_ge (laneCounted_berth n s ▸ hle)
  · exact hrun.not_ge hle

/-- The state in which the ladder answers a lane at its threshold. -/
def laneWaits (e dir g l n : Nat) (s : State) : State :=
  if (s.eye (gix e dir g)).failing.contains l then laneCounted e dir g l n s else laneFound e dir g l (laneCounted e dir g l n s)

/-- At a threshold a lane in use waits for repair, where the ladder is not exhausted. -/
theorem laneCorrected_at (hu : laneInUse (s.eye (gix e dir g)) l = true) {n run : Nat} (hn : max 1 (s.rd EYE_CTL_BERTH) ≤ n ∨ 64 ≤ run)
    (hfailed : l ∉ (s.eye (gix e dir g)).failed) :
    laneCorrected e dir g l n run s = if exhausted (laneWaits e dir g l n s) e dir g l then eyeFault e dir g l 7 ST_HW_EYE_EXHAUST (laneWaits e dir g l n s)
      else halfDecide e dir g (laneWaits e dir g l n s) := by
  rw [laneCorrected, if_neg (by simp [hu])]
  exact if_pos ⟨hn.imp (fun h => (laneCounted_berth n s).symm ▸ h) id, fun hc => hfailed (List.contains_iff_mem.1 hc)⟩

theorem laneWaits_lanes (e dir g l n : Nat) (s : State) : LanesBecome (gix e dir g)
    (fun x => { x with corr := tabSet 0 x.corr l (min n 0xFFFFF), failing := if (s.eye (gix e dir g)).failing.contains l then x.failing else x.failing ++ [l] }) s
    (laneWaits e dir g l n s) := by
  obtain ⟨hown, hother, hmem⟩ := laneCounted_lanes e dir g l n s
  obtain ⟨hfown, hfother, hfmem⟩ := laneFound_lanes e dir g l (laneCounted e dir g l n s)
  unfold laneWaits
  split
  · exact ⟨hown, hother, hmem⟩
  · exact ⟨by rw [hfown, hown], fun j hj => (hfother j hj).trans (hother j hj), hfmem.trans hmem⟩

theorem laneWaits_mode (e dir g l n : Nat) (s : State) : (laneWaits e dir g l n s).mode = s.mode := by
  unfold laneWaits
  split
  · exact laneCounted_mode n s
  · exact (laneFound_mode ..).trans (laneCounted_mode n s)

theorem laneWaits_rd {f : Fld} (h : f.adr < EYE_CORR_COUNT.adr ∧ f.lo < 32) (n : Nat) (s : State) : (laneWaits e dir g l n s).rd f = s.rd f := by
  have hrd : (laneCounted e dir g l n s).rd f = s.rd f := laneCounted_rdi (key_eyeGroup_ne (by decide) (le_refl _) h.2 h.1 _) n s
  unfold laneWaits
  split
  · exact hrd
  · exact hrd

theorem halfDecide_lanes (e dir g : Nat) (s : State) :
    (∃ h, LanesBecome (gix e dir g) (fun x => { x with halfAt := h }) s (halfDecide e dir g s)) ∧ (halfDecide e dir g s).mode = s.mode := by
  unfold halfDecide
  dsimp only
  split
  · exact ⟨⟨_, .of_modEye rfl rfl⟩, rfl⟩
  · exact ⟨⟨(s.eye (gix e dir g)).halfAt, rfl, fun _ _ => rfl, rfl⟩, rfl⟩

/-- With no lane waiting, nothing follows a repair. -/
theorem ladderNext_of_none (h : (s.eye (gix e dir g)).failing = []) : ladderNext e dir g s = s := by
  unfold ladderNext
  simp only [h]

/-- With a spare idle, or a move of the group scheduled, a repair is followed by the choice of a frame for half width at most. -/
theorem ladderNext_lanes (h : idleSpares (s.eye (gix e dir g)) ≠ [] ∨ (s.eye (gix e dir g)).swap ≠ none) :
    (∃ h, LanesBecome (gix e dir g) (fun x => { x with halfAt := h }) s (ladderNext e dir g s)) ∧ (ladderNext e dir g s).mode = s.mode := by
  unfold ladderNext
  split
  case _ l ls hl =>
    rw [if_neg]
    · exact halfDecide_lanes e dir g s
    · rintro ⟨hswap, hex⟩
      rcases h with h | h
      · rw [exhausted_of_spare h] at hex
        cases hex
      · exact h hswap
  · exact ⟨⟨(s.eye (gix e dir g)).halfAt, rfl, fun _ _ => rfl, rfl⟩, rfl⟩

theorem showGroup_mode (e dir g : Nat) (s : State) : (showGroup e dir g s).mode = s.mode := by
  unfold showGroup
  dsimp only
  rw [State.wri_mode_above _ (by decide), State.wri_mode_above _ (by decide), State.wri_mode_above _ (by decide), State.wri_mode_above _ (by decide),
    State.wri_mode_above _ (by decide), State.wri_mode_above _ (by decide)]

theorem showEye_mode (e : Nat) (s : State) : (showEye e s).mode = s.mode := by
  unfold showEye
  dsimp only
  split
  · rw [State.wri_mode_above _ (by decide), State.wri_mode_above _ (by decide)]
  · rfl

theorem spareLane_mode (e dir g l sp : Nat) (s : State) : (spareLane e dir g l sp s).mode = s.mode := by
  unfold spareLane
  dsimp only
  rw [State.record_mode, State.push_mode, showEye_mode, showGroup_mode]
  rfl

theorem moveLane_mode (e dir g l : Nat) (dst : Option Nat) (s : State) : (moveLane e dir g l dst s).mode = s.mode := by
  unfold moveLane
  dsimp only
  rw [State.record_mode, State.push_mode, showEye_mode, showGroup_mode]
  rfl

/-- What a move of lane `l` to `dst` makes of its group. -/
def movedLane (l : Nat) (dst : Option Nat) (x : EyeGroup) : EyeGroup :=
  let lost := (x.subst.filter fun p => p.2 == some l && x.failing.contains p.1).map Prod.fst
  let gone := x.retired ++ lost.filter fun l => decide (l < 80)
  let sub := x.subst.filter fun p => p.2 != some l
  { x with
    failing := x.failing.filter fun k => k != l && !lost.contains k
    failed := x.failed ++ lost.filter fun l => decide (84 ≤ l)
    retired := if gone.contains l then gone else gone ++ [l], swap := none
    subst := match dst with
      | some r => tabSet none sub r (some l)
      | none => sub }

theorem moveLane_lanes (e dir g l : Nat) (dst : Option Nat) (s : State) : LanesBecome (gix e dir g) (movedLane l dst) s (moveLane e dir g l dst s) := by
  unfold moveLane
  exact lanesBecome_repaired e dir g (movedLane l dst) ..

theorem movedLane_retired (l : Nat) (dst : Option Nat) (x : EyeGroup) : l ∈ (movedLane l dst x).retired := mem_addOnce _ l

theorem movedLane_failing {x : EyeGroup} (h : ∀ k ∈ x.failing, k = l) (dst : Option Nat) : (movedLane l dst x).failing = [] :=
  List.filter_eq_nil_iff.2 fun k hk => by simp [h k hk]

theorem filter_ne_nil {x : List Nat} (h : ∀ k ∈ x, k = l) : x.filter (· != l) = [] := List.filter_eq_nil_iff.2 fun k hk => by simp [h k hk]

/-- What the spare `sp` makes of a group as it takes lane `l`. -/
def sparedLane (l sp : Nat) (x : EyeGroup) : EyeGroup :=
  { x with
    failing := x.failing.filter (· != l), failed := if x.failed.contains l then x.failed else x.failed ++ [l]
    subst := if l < 84 then tabSet none x.subst sp (some l) else tabSet none (tabSet none x.subst l none) sp (tabGet none x.subst l) }

theorem spareLane_lanes (e dir g l sp : Nat) (s : State) : LanesBecome (gix e dir g) (sparedLane l sp) s (spareLane e dir g l sp s) := by
  unfold spareLane
  exact lanesBecome_repaired e dir g (sparedLane l sp) ..

theorem mem_idleSpares {x : EyeGroup} {q : Nat} : q ∈ idleSpares x ↔ q ∈ [84, 85, 86, 87] ∧ q ∉ x.failed ∧ tabGet none x.subst q = none := by
  simp [idleSpares]

theorem idleSpares_nodup (x : EyeGroup) : (idleSpares x).Nodup := List.Nodup.filter _ (by decide)

theorem sparedLane_subst_other {x : EyeGroup} {l sp q : Nat} (hq : q ≠ sp) (hl : q ≠ l) : tabGet none (sparedLane l sp x).subst q = tabGet none x.subst q := by
  unfold sparedLane
  dsimp only
  split
  · exact tabGet_set_ne _ _ _ _ hq
  · rw [tabGet_set_ne _ _ _ _ hq, tabGet_set_ne _ _ _ _ hl]

theorem sparedLane_subst_same (x : EyeGroup) (l sp : Nat) : tabGet none (sparedLane l sp x).subst sp = if l < 84 then some l else tabGet none x.subst l := by
  unfold sparedLane
  dsimp only
  split <;> rw [tabGet_set_same]

theorem mem_sparedLane_failed {x : EyeGroup} {l sp q : Nat} (h : q ∈ (sparedLane l sp x).failed) : q ∈ x.failed ∨ q = l := by
  unfold sparedLane at h
  dsimp only at h
  split at h
  · exact .inl h
  · exact (List.mem_append.1 h).imp id List.mem_singleton.1

/-- With two spares idle one of them is, still, once the lane has taken its own: where the lane is itself the other, it gives up nothing. -/
theorem idleSpares_sparedLane {x : EyeGroup} {sp q : Nat} {sps : List Nat} (h : idleSpares x = sp :: q :: sps) (l : Nat) : idleSpares (sparedLane l sp x) ≠ [] := by
  have hnodup := h ▸ idleSpares_nodup x
  have hne : q ≠ sp := fun he => (List.nodup_cons.1 hnodup).1 (by rw [he]; exact List.mem_cons_self)
  obtain ⟨hsp, hspgood, hspfree⟩ := mem_idleSpares.1 (h ▸ List.mem_cons_self : sp ∈ idleSpares x)
  obtain ⟨hq, hqgood, hqfree⟩ := mem_idleSpares.1 (h ▸ List.mem_cons_of_mem sp List.mem_cons_self : q ∈ idleSpares x)
  by_cases hl : q = l
  · have hlow : ¬ l < 84 := by
      simp only [List.mem_cons, List.not_mem_nil, or_false] at hq
      omega
    refine List.ne_nil_of_mem (mem_idleSpares.2 ⟨hsp, fun hf => (mem_sparedLane_failed hf).elim hspgood fun he => hne (hl.trans he.symm), ?_⟩)
    rw [sparedLane_subst_same, if_neg hlow, ← hl, hqfree]
  · refine List.ne_nil_of_mem (mem_idleSpares.2 ⟨hq, fun hf => (mem_sparedLane_failed hf).elim hqgood hl, ?_⟩)
    rw [sparedLane_subst_other hne hl, hqfree]

theorem replaceHalf_lanes (e dir l : Nat) (s : State) : LanesBecome (gix e dir 0)
    (fun x => { x with failing := x.failing.filter (· != l), failed := if x.failed.contains l then x.failed else x.failed ++ [l] }) s (replaceHalf e dir l s) :=
  .of_modEye (by simp [replaceHalf, showGroup_frame]) (by simp [replaceHalf, showGroup_frame])

theorem replaceHalf_mode (e dir l : Nat) (s : State) : (replaceHalf e dir l s).mode = s.mode := by
  unfold replaceHalf
  dsimp only
  rw [State.record_mode, State.push_mode, showGroup_mode]
  rfl

theorem sparesDone_of {x : EyeGroup} (h : idleSpares x = [] ∨ s.rd EYE_CTL_AUTOSPARE = 0) : sparesDone s x = true := by
  unfold sparesDone
  rcases h with h | h <;> simp [h]

theorem startMove_run (h : s.mode = RUN) (dst : Option Nat) :
    startMove e dir g l dst s = s.modEye (gix e dir g) fun x => { x with swap := some (l, dst, s.clocks.tb + 120000) } := by
  have hshift : s.mode ≠ SHIFT := by
    rw [h]
    decide
  have hrepair : shfForRepair s = s := by
    unfold shfForRepair
    simp only [hshift, false_and, if_false]
  rw [startMove, if_pos (.inl h), hrepair]

theorem startMove_still (hrun : s.mode ≠ RUN) (hshift : s.mode ≠ SHIFT) (dst : Option Nat) : startMove e dir g l dst s = moveLane e dir g l dst s :=
  if_neg fun h => h.elim hrun hshift

theorem repairEnds_idle (h : s.rd EYE_CMD_BUSY ≠ 1) (e dir g : Nat) : repairEnds e dir g s = ladderNext e dir g s := by
  unfold repairEnds
  dsimp only
  rw [if_neg fun hr => h hr.1]

theorem reach_eyes (n : Nat) (s : State) : (∀ k, (s.reach n).eye k = s.eye k) ∧ (s.reach n).mem = s.mem ∧ (s.reach n).rd EYE_CMD_BUSY = s.rd EYE_CMD_BUSY := by
  unfold State.reach
  split
  · obtain ⟨-, -, -, -, hmem, -⟩ := s.pass_spec (n - s.clocks.tb)
    refine ⟨fun k => ?_, hmem, State.pass_rdi s _ (by decide)⟩
    unfold State.pass State.serve
    dsimp only
    split <;> rfl
  · exact ⟨fun _ => rfl, rfl, rfl⟩

/-- The status registers of the lane groups lie above the commands'. -/
theorem showGroup_rd {f : Fld} (h : f.adr < EYE_STAT_STATE.adr ∧ f.lo < 32) (e dir g : Nat) (s : State) : (showGroup e dir g s).rd f = s.rd f := by
  obtain ⟨hadr, hlo⟩ := h
  have hwri : ∀ (t : State) (x : Fld) (o v : Nat), EYE_STAT_STATE.adr ≤ x.adr → (t.wri x o v).rd f = t.rd f := fun t x o v hx => t.rd_wri_above ⟨by omega, hlo⟩ o v
  unfold showGroup
  dsimp only
  rw [hwri _ _ _ _ (by decide), hwri _ _ _ _ (by decide), hwri _ _ _ _ (by decide), hwri _ _ _ _ (by decide), hwri _ _ _ _ (by decide), hwri _ _ _ _ (by decide)]

theorem showEye_rd {f : Fld} (h : f.adr < EYE_STAT_STATE.adr ∧ f.lo < 32) (e : Nat) (s : State) : (showEye e s).rd f = s.rd f := by
  unfold showEye
  dsimp only
  split
  · exact (State.rd_wri_above (f := EYE_STAT_WWIDTH) _ h _ _).trans (s.rd_wri_above h _ _)
  · rfl

theorem moveLane_busy (e dir g l : Nat) (dst : Option Nat) (s : State) : (moveLane e dir g l dst s).rd EYE_CMD_BUSY = s.rd EYE_CMD_BUSY := by
  unfold moveLane
  dsimp only
  rw [State.record_rd _ _ _ _ _ (by decide), State.push_rd, showEye_rd (by decide), showGroup_rd (by decide)]
  rfl

end

/-- Settles O23. -/
theorem laneRepair : Obligations.LaneRepair := by
  unfold Obligations.LaneRepair
  refine ⟨?counted, ?waits, ?exhausted, ?spareFails, ?noError, ?window, ?spare, ?half, ?reserve, ?swap, ?retire, ?halfWidth⟩
  case counted =>
    intro s e dir g lane n run hu hn hrun
    obtain ⟨hown, hother, hmem⟩ := laneCounted_lanes e dir g lane n s
    change Yields (.next (laneCorrected e dir g lane n run s)) _
    rw [laneCorrected_below hu hn hrun, yields_next, hown]
    refine ⟨rfl, tabGet_set_same .., ?_, hother, SameRegsBut.addi .refl, .of_mem hmem⟩
    rw [laneCounted, State.rdi_addi_same]
    rfl
  case waits =>
    intro s e dir g lane n run hu hn hfailing hfailed hspare
    obtain ⟨hown, hother, hmem⟩ := laneWaits_lanes e dir g lane n s
    obtain ⟨⟨h, hdown, hdother, hdmem⟩, hmode⟩ := halfDecide_lanes e dir g (laneWaits e dir g lane n s)
    have hidle : idleSpares ((laneWaits e dir g lane n s).eye (gix e dir g)) ≠ [] := by
      rw [hown]
      exact hspare
    change Yields (.next (laneCorrected e dir g lane n run s)) _
    rw [laneCorrected_at hu hn hfailed, exhausted_of_spare hidle, if_neg Bool.false_ne_true, yields_next, hdown, hown]
    refine ⟨?_, fun k hk => (hdother k hk).trans (hother k hk), hmode.trans (laneWaits_mode ..), .of_mem (hdmem.trans hmem)⟩
    exact if_neg fun hc => hfailing (List.contains_iff_mem.1 hc)
  case exhausted =>
    intro s e dir lane n run hmode hu hn hfailed hspare hhalf hauto
    have hauto' : (laneWaits e dir 0 lane n s).rd EYE_CTL_AUTOHALF = 0 := (laneWaits_rd (by decide) n s).trans hauto
    have hex : exhausted (laneWaits e dir 0 lane n s) e dir 0 lane = true := by
      unfold exhausted
      rw [(laneWaits_lanes e dir 0 lane n s).own, hauto', if_neg (not_not_intro (by exact hspare)), if_pos rfl]
      simp [hhalf]
    change Yields (.next (laneCorrected e dir 0 lane n run s)) _
    rw [laneCorrected_at hu hn hfailed, if_pos hex, yields_next]
    exact (eyeFault_safe ((laneWaits_mode ..).symm ▸ hmode) ..).1
  case spareFails =>
    intro s e dir g lane n run hlane hu hn hfailed
    have hcond : 84 ≤ lane.val ∧ 0 < n ∧ ¬ (s.eye (gix e dir g)).failed.contains lane.val = true := ⟨hlane, hn, fun hc => hfailed (List.contains_iff_mem.1 hc)⟩
    have hbecome : LanesBecome (gix e dir g) (fun x => { x with failed := x.failed ++ [lane.val] }) s
        (showGroup e dir g (s.modEye (gix e dir g) fun x => { x with failed := x.failed ++ [lane.val] })) :=
      .of_modEye (showGroup_frame ..).1 (showGroup_frame ..).2
    obtain ⟨hown, hother, hmem⟩ := hbecome
    change Yields (.next (laneCorrected e dir g lane n run s)) _
    rw [laneCorrected, if_pos hu, if_pos hcond, yields_next, hown]
    exact ⟨List.mem_append_right _ (List.mem_singleton_self _), rfl, hother, (showGroup_mode ..).trans rfl, .of_mem hmem⟩
  case noError =>
    intro s e dir g lane n run hu h
    change Host.Outcome.next (laneCorrected e dir g lane n run s) = _
    rw [laneCorrected, if_pos hu, if_neg]
    rintro ⟨hlane, hn, hfailed⟩
    rcases h with h | h | h
    · omega
    · omega
    · exact hfailed (List.contains_iff_mem.2 h)
  case window =>
    intro s e dir g lane
    change Yields (.next (s.modEye (gix e dir g) fun x => { x with corr := tabSet 0 x.corr lane 0 })) _
    rw [yields_next, State.eye_modEye]
    exact ⟨tabGet_set_same 0 _ lane.val 0, rfl, fun k hk => s.eye_modEye_ne _ _ hk, .of_regs rfl [], .of_mem rfl⟩
  case spare =>
    intro s e dir g l sp ls sps hfailing hidle hmore hauto hswap
    obtain ⟨hown, hother, hmem⟩ := spareLane_lanes e dir g l sp s
    change Yields (execLaneSpare e dir g s) _
    simp only [execLaneSpare, hfailing, hidle, hauto, hswap, and_self, if_true, yields_next]
    have hnext : (∃ h, LanesBecome (gix e dir g) (fun x => { x with halfAt := h }) (spareLane e dir g l sp s) (ladderNext e dir g (spareLane e dir g l sp s))) ∧
        (ladderNext e dir g (spareLane e dir g l sp s)).mode = (spareLane e dir g l sp s).mode := by
      rcases hmore with hne | hall
      · obtain ⟨q, qs, rfl⟩ := List.exists_cons_of_ne_nil hne
        exact ladderNext_lanes (.inl (by rw [hown]; exact idleSpares_sparedLane hidle l))
      · have hnone : ((spareLane e dir g l sp s).eye (gix e dir g)).failing = [] := by
          rw [hown]
          refine filter_ne_nil fun k hk => ?_
          rw [hfailing] at hk
          exact (List.mem_cons.1 hk).elim id (hall k)
        rw [ladderNext_of_none hnone]
        exact ⟨⟨_, rfl, fun _ _ => rfl, rfl⟩, rfl⟩
    obtain ⟨⟨h, hnown, hnother, hnmem⟩, hmode⟩ := hnext
    rw [hnown, hown]
    refine ⟨sparedLane_subst_same .., mem_addOnce _ l, ?_, fun k hk => (hnother k hk).trans (hother k hk), hmode.trans (spareLane_mode ..), .of_mem (hnmem.trans hmem)⟩
    change (s.eye (gix e dir g)).failing.filter (· != l) = _
    rw [hfailing]
    simp
  case half =>
    intro s e dir l ls hfailing hall hidle hauto hhalf hgood
    obtain ⟨hown, hother, hmem⟩ := replaceHalf_lanes e dir l s
    have hnone : ((replaceHalf e dir l s).eye (gix e dir 0)).failing = [] := by
      rw [hown]
      refine filter_ne_nil fun k hk => ?_
      rw [hfailing] at hk
      exact (List.mem_cons.1 hk).elim id (hall k)
    change Yields (execLaneSpare e dir 0 s) _
    have hcond : s.rd EYE_CTL_AUTOSPARE = 1 ∧ True ∧ (s.eye (gix e dir 0)).half = true ∧ 44 ≤ goodLanes (s.eye (gix e dir 0)) := ⟨hauto, trivial, hhalf, hgood⟩
    have hexec : execLaneSpare e dir 0 s = .next (ladderNext e dir 0 (replaceHalf e dir l s)) := by
      unfold execLaneSpare
      simp only [Fin.val_zero, hfailing, hidle]
      exact if_pos hcond
    rw [hexec, ladderNext_of_none hnone, yields_next]
    refine ⟨?_, hnone, hother, replaceHalf_mode .., .of_mem hmem⟩
    rw [hown]
    exact mem_addOnce _ l
  case reserve =>
    intro s e dir g l r ls rs hfailing hall hcarried hreserves hspares hg hl hauto hfeature hswap
    have hfree : freeReserves s e (s.eye (gix e dir g)) = r :: rs := (if_pos hfeature).trans hreserves
    have hdone : sparesDone s (s.eye (gix e dir g)) = true := sparesDone_of hspares
    have hexec : exec (.reserveMove e dir g) s = .next (ladderNext e dir g (startMove e dir g l (some r) s)) := by
      change execReserveMove e dir g s = _
      simp only [execReserveMove, hfailing, hfree, hcarried]
      exact if_pos ⟨hg, by omega, hdone, hswap, hauto⟩
    rw [hexec, yields_next]
    refine ⟨fun hrun => ?_, fun hrun hshift => ?_⟩
    · rw [startMove_run hrun]
      obtain ⟨⟨h, hnown, -⟩, -⟩ := ladderNext_lanes (s := s.modEye (gix e dir g) fun x => { x with swap := some (l, some r, s.clocks.tb + 120000) })
        (e := e) (dir := dir) (g := g) (.inr (by rw [State.eye_modEye]; exact Option.some_ne_none _))
      rw [hnown, State.eye_modEye]
      exact ⟨rfl, rfl⟩
    · rw [startMove_still hrun hshift]
      obtain ⟨hown, -⟩ := moveLane_lanes e dir g l (some r) s
      have hnone : ((moveLane e dir g l (some r) s).eye (gix e dir g)).failing = [] := by
        rw [hown]
        exact movedLane_failing (hfailing ▸ fun k hk => (List.mem_cons.1 hk).elim id (hall k)) _
      rw [ladderNext_of_none hnone, hown]
      exact ⟨tabGet_set_same none _ r (some l), movedLane_retired l (some r) _⟩
  case swap =>
    intro s e dir g l at_ dst hswap hall hbusy hgears
    have hphase : ((eyeDies e).any fun d => s.rdi GEAR_STAT_PHASE (4 * s.rdi GEAR_DIE_GROUP (4 * d)) != 0) = false :=
      List.any_eq_false.2 fun d hd => by simp [hgears d hd]
    obtain ⟨heyes, hrmem, hrbusy⟩ := reach_eyes at_ s
    obtain ⟨hown, hother, hmem⟩ := moveLane_lanes e dir g l dst (s.reach at_)
    rw [heyes] at hown
    have hnone : ((moveLane e dir g l dst (s.reach at_)).eye (gix e dir g)).failing = [] := by
      rw [hown]
      exact movedLane_failing hall dst
    refine ⟨moveLane e dir g l dst (s.reach at_), ?_, ?_, ?_, fun r hr => ?_, fun k hk => (hother k hk).trans (heyes k), .of_mem (hmem.trans hrmem)⟩
    · change execReserveSwap e dir g s = _
      simp only [execReserveSwap, hswap, hphase, Bool.false_eq_true, if_false]
      rw [repairEnds_idle, ladderNext_of_none hnone]
      rw [moveLane_busy, hrbusy, hbusy]
      decide
    · rw [hown]
      rfl
    · rw [hown]
      exact movedLane_retired ..
    · rw [hown, hr]
      exact tabGet_set_same none _ r (some l)
  case retire =>
    intro s e dir g l ls hfailing hall hsubst hspares hswap hauto hlow hhigh hrun hshift
    have hcarried : carriedLane (s.eye (gix e dir g)) l = l := by
      rw [carriedLane, tabGet_of_no_key fun p hp => (hsubst p hp).1]
      rfl
    have hexec : exec (.laneRetire e dir g) s = .next (ladderNext e dir g (startMove e dir g l none s)) := by
      change execLaneRetire e dir g s = _
      simp only [execLaneRetire, hfailing, hcarried]
      exact if_pos ⟨sparesDone_of hspares, hswap, hauto, .inl ⟨hlow, hhigh⟩⟩
    obtain ⟨hown, hother, hmem⟩ := moveLane_lanes e dir g l none s
    have hnone : ((moveLane e dir g l none s).eye (gix e dir g)).failing = [] := by
      rw [hown]
      exact movedLane_failing (hfailing ▸ fun k hk => (List.mem_cons.1 hk).elim id (hall k)) _
    rw [hexec, startMove_still hrun hshift, ladderNext_of_none hnone, yields_next, hown]
    refine ⟨movedLane_retired .., ?_, hother, moveLane_mode .., .of_mem hmem⟩
    exact List.filter_eq_self.2 fun p hp => by simpa using (hsubst p hp).2
  case halfWidth =>
    intro s e dir l ls hfailing hspares hhalf hauto hfeature hsvc
    have hneeded : halfNeeded s e 0 (s.eye (gix e dir 0)) = true := by
      simp [halfNeeded, hfailing, sparesDone_of hspares, hhalf, hauto, hfeature]
    set u := s.modEye (gix e dir 0) fun x => { x with half := true, halfAt := none, failing := [], failed := x.failed ++ x.failing } with hu
    have hsvc' : (showEye e (showGroup e dir 0 u)).rd WLT_SVC_STATE ≠ 3 := by
      rw [showEye_rd (by decide), showGroup_rd (by decide)]
      exact hsvc
    have hexec : exec (.halfWidthChange e dir) s = .next (((showEye e (showGroup e dir 0 u)).push EYE_EVENT_VALID (eyeEvent 5 e dir 0 l)).record 0x0008 (eyeSource e) 2
        [eyeEvent 5 e dir 0 l]) := by
      change execHalfWidthChange e dir s = _
      simp only [execHalfWidthChange, hfailing, hneeded, if_true, if_neg hsvc, weltHalfWidth]
      rw [if_pos hsvc']
    have hbecome : LanesBecome (gix e dir 0) (fun x => { x with half := true, halfAt := none, failing := [], failed := x.failed ++ x.failing }) s
        (((showEye e (showGroup e dir 0 u)).push EYE_EVENT_VALID (eyeEvent 5 e dir 0 l)).record 0x0008 (eyeSource e) 2 [eyeEvent 5 e dir 0 l]) := lanesBecome_repaired ..
    rw [hexec, yields_next, hbecome.own]
    refine ⟨rfl, rfl, ?_, .of_mem hbecome.mem⟩
    rw [State.record_mode, State.push_mode, showEye_mode, showGroup_mode]
    rfl

end Sys2Proof.Machine

namespace Sys2Proof.Machine

set_option Elab.async false

/-! Flows, statistics and epochs (R174, R179, R189, R193 to R201) -/

section
variable {s t : State} {f : Nat}

/-- Time passes until the slot count reaches the one named. -/
theorem reachLace_spec (n : Nat) (s : State) : ∃ x, 2 * n ≤ x ∧ (reachLace n s).welt = { s.welt with lace := x } ∧ (reachLace n s).mem = s.mem ∧ (reachLace n s).shf = s.shf ∧
    ∀ g : Fld, ∀ p, g.key p ≠ HLT_AVSEC_SEC.key 0 → (reachLace n s).rdi g p = s.rdi g p := by
  unfold reachLace
  split
  · refine ⟨2 * n, Nat.le_refl _, ?_, (State.pass_spec ..).2.2.2.2.1, ?_, fun g p hk => State.pass_rdi s _ hk⟩ <;>
    · unfold State.pass State.serve
      dsimp only
      split <;> rfl
  · exact ⟨s.welt.lace, by omega, rfl, rfl, rfl, fun _ _ _ => rfl⟩

theorem State.flowSt_modFlow_ne (s : State) {f h : Nat} (hne : h ≠ f) (g : FlowSt → FlowSt) : (s.modFlow f g).flowSt h = s.flowSt h := tabGet_mod_ne _ _ _ hne

theorem flowDone_spec (st : Nat) (s : State) : (flowDone st s).welt = s.welt ∧ (flowDone st s).mem = s.mem ∧
    (flowDone st s).rd WLT_FLOWCMD_STATUS = st % 2 ^ 16 ∧ (flowDone st s).rd WLT_FLOWCMD_BUSY = 0 := by
  refine ⟨rfl, rfl, ?_, State.rd_wr_same ..⟩
  rw [flowDone, State.rd_wr_ne _ _ (by decide), State.rd_wr_same]; rfl

theorem flowDone_ends {st : Nat} (h : st < 2 ^ 16) (s : State) : Ends (flowDone st s) WLT_FLOWCMD_STATUS WLT_FLOWCMD_BUSY st := by
  obtain ⟨-, -, hst, hbusy⟩ := flowDone_spec st s
  exact ⟨hst.trans (Nat.mod_eq_of_lt h), hbusy⟩

/-- A flow command as it begins: its operation and flow shown, and busy. -/
def flowBegun (op f : Nat) (s : State) : State := ((s.wr WLT_FLOWCMD_OP op).wr WLT_FLOWCMD_FLOW f).wr WLT_FLOWCMD_BUSY 1

theorem flowBegun_shown (op : Nat) (s : State) : (flowBegun op f s).rd WLT_FLOWCMD_BUSY = 1 ∧ (flowBegun op f s).rd WLT_FLOWCMD_OP = op % 2 ^ WLT_FLOWCMD_OP.w ∧
    (flowBegun op f s).rd WLT_FLOWCMD_FLOW = f % 2 ^ 10 := by
  refine ⟨State.rd_wr_same .., ?_, ?_⟩
  · rw [flowBegun, State.rd_wr_ne _ _ (by decide), State.rd_wr_ne _ _ (by decide), State.rd_wr_same]
  · rw [flowBegun, State.rd_wr_ne _ _ (by decide), State.rd_wr_same]; rfl

theorem flowBegun_regs (op f : Nat) (s : State) : SameRegsBut [WLT_FLOWCMD_BUSY.key 0, WLT_FLOWCMD_OP.key 0, WLT_FLOWCMD_FLOW.key 0] s (flowBegun op f s) :=
  SameRegsBut.wr (.wr (.wr .refl))

/-- The target's enable and destination are not changed as a command begins. -/
theorem flowBegun_target (op : Nat) (s : State) : (flowBegun op f s).rd WLT_FLOWCMD2_TO = s.rd WLT_FLOWCMD2_TO ∧ (flowBegun op f s).flowNow = s.flowNow := by
  have hv : (flowBegun op f s).rd WLT_LACE_VIDX = s.rd WLT_LACE_VIDX := flowBegun_regs op f s _ 0 (by decide)
  refine ⟨flowBegun_regs op f s _ 0 (by decide), funext fun g => ?_⟩
  rw [State.flowNow, hv]; rfl

/-- A valid command waits for the boundary two frames ahead. -/
theorem flowCmd_accepted {op : Nat} (hbusy : s.rd WLT_FLOWCMD_BUSY ≠ 1) (hop : op ≠ 0)
    (htarget : op = 3 → (s.flowSt (s.rd WLT_FLOWCMD2_TO)).en = false ∧ (s.flowNow (s.rd WLT_FLOWCMD2_TO)).dst = (s.flowNow f).dst) :
    flowCmd op f s = (flowBegun op f s).modWelt fun w => { w with flowAt := boundaryAfter 2 s } := by
  rw [flowCmd, if_neg hbusy]
  change (if op = 0 ∨ op = 3 ∧ ((s.flowSt ((flowBegun op f s).rd WLT_FLOWCMD2_TO)).en = true ∨
    ((flowBegun op f s).flowNow ((flowBegun op f s).rd WLT_FLOWCMD2_TO)).dst ≠ ((flowBegun op f s).flowNow f).dst) then _ else _) = _
  obtain ⟨hto, hnow⟩ := flowBegun_target (f := f) op s
  rw [hto, hnow]
  refine (if_neg ?_).trans rfl
  rintro (h | ⟨h3, h⟩)
  · exact hop h
  · obtain ⟨hen, hdst⟩ := htarget h3
    rcases h with h | h
    · rw [hen] at h; exact absurd h (by decide)
    · exact h hdst

/-- What a command that waits for its boundary shows. -/
theorem flowCmd_accepted_spec {op : Nat} (hop : op < 2 ^ WLT_FLOWCMD_OP.w) (hf : f < 1024)
    (h : t = (flowBegun op f s).modWelt fun w => { w with flowAt := boundaryAfter 2 s }) :
    t.rd WLT_FLOWCMD_BUSY = 1 ∧ t.rd WLT_FLOWCMD_OP = op ∧ t.rd WLT_FLOWCMD_FLOW = f ∧ t.welt.flowAt = boundaryAfter 2 s ∧ t.welt.flows = s.welt.flows ∧ SameMem s t ∧
      SameRegsBut [WLT_FLOWCMD_BUSY.key 0, WLT_FLOWCMD_OP.key 0, WLT_FLOWCMD_FLOW.key 0] s t := by
  obtain ⟨hbusy, hshown, hflow⟩ := flowBegun_shown (f := f) op s
  subst h
  exact ⟨hbusy, hshown.trans (Nat.mod_eq_of_lt hop), hflow.trans (Nat.mod_eq_of_lt hf), rfl, rfl, .of_mem rfl, (flowBegun_regs op f s).congr rfl⟩

theorem flowCmd_refused (hbusy : s.rd WLT_FLOWCMD_BUSY ≠ 1) (h : (s.flowSt (s.rd WLT_FLOWCMD2_TO)).en = true) :
    flowCmd 3 f s = flowDone ST_WLT_BADFLOW (flowBegun 3 f s) := by
  rw [flowCmd, if_neg hbusy]
  refine if_pos (.inr ⟨rfl, .inl ?_⟩)
  change (s.flowSt ((flowBegun 3 f s).rd WLT_FLOWCMD2_TO)).en = true
  rw [(flowBegun_target 3 s).1, h]

theorem statCopy_regs (s : State) : SameRegsBut [WLT_STSEQ_SEQ.key 0] s (statCopy s) :=
  SameRegsBut.wr (f := WLT_STSEQ_SEQ) (SameRegsBut.refl (s := s))
end

/-- Settles O31: a command shows itself and waits for its boundary, where the flows it names alone change; the statistics sets are copied whole. -/
theorem flowsAndStatistics : Obligations.FlowsAndStatistics := by
  unfold Obligations.FlowsAndStatistics
  refine ⟨fun s f hbusy => ?_, fun s f hbusy => ?_, fun s f hbusy hen hdst => ?_, fun s f hbusy hen => ?_, fun s f hbusy hop hf => ?_, fun s f hbusy hop hf => ?_,
    fun s f to_ hbusy hop hf hto hne => ?_, fun s hwin => ?_, fun s => ?_⟩
  · have hb : s.rd WLT_FLOWCMD_BUSY ≠ 1 := by omega
    exact (yields_next ..).2 (flowCmd_accepted_spec (by decide) f.isLt (flowCmd_accepted hb (by decide) fun h => absurd h (by decide)))
  · have hb : s.rd WLT_FLOWCMD_BUSY ≠ 1 := by omega
    obtain ⟨h1, h2, h3, h4, h5, h6, -⟩ := flowCmd_accepted_spec (by decide) f.isLt (flowCmd_accepted (op := 2) hb (by decide) fun h => absurd h (by decide))
    exact (yields_next ..).2 ⟨h1, h2, h3, h4, h5, h6⟩
  · have hb : s.rd WLT_FLOWCMD_BUSY ≠ 1 := by omega
    obtain ⟨h1, h2, h3, h4, h5, h6, -⟩ := flowCmd_accepted_spec (by decide) f.isLt (flowCmd_accepted (op := 3) hb (by decide) fun _ => ⟨hen, hdst⟩)
    exact (yields_next ..).2 ⟨h1, h2, h3, h4, h5, h6⟩
  · have hb : s.rd WLT_FLOWCMD_BUSY ≠ 1 := by omega
    change Yields (.next (flowCmd 3 f s)) _
    rw [flowCmd_refused hb hen, yields_next]
    exact ⟨flowDone_ends (by decide) _, rfl, .of_mem rfl⟩
  · obtain ⟨x, hx, hwelt, hmem, -, hrd⟩ := reachLace_spec (s.welt.flowAt * 1024) s
    have hcmd : exec .flowCommandBoundary s = .next (flowDone 0 ((reachLace (s.welt.flowAt * 1024) s).modFlow f fun x => { x with en := true })) := by
      change execFlowCommandBoundary s = _
      rw [execFlowCommandBoundary, if_neg hbusy]
      subst hf
      exact if_pos ((hrd _ 0 (by decide)).trans hop)
    rw [hcmd, yields_next]
    generalize reachLace (s.welt.flowAt * 1024) s = u at *
    have hflow : u.flowSt = s.flowSt := by funext g; rw [State.flowSt, hwelt]; rfl
    refine ⟨flowDone_ends (by decide) _, congrArg FlowSt.en (State.flowSt_modFlow u f _), fun g hg => ?_, ?_, .of_mem hmem⟩
    · exact (u.flowSt_modFlow_ne hg _).trans (congrFun hflow g)
    · change s.welt.flowAt * 2048 ≤ u.welt.lace
      rw [hwelt]; dsimp only; omega
  · obtain ⟨x, hx, hwelt, hmem, -, hrd⟩ := reachLace_spec (s.welt.flowAt * 1024) s
    have hcmd : exec .flowCommandBoundary s = .next (flowDrained ((reachLace (s.welt.flowAt * 1024) s).modFlow f fun x => { x with en := false })) := by
      change execFlowCommandBoundary s = _
      rw [execFlowCommandBoundary, if_neg (by omega)]
      subst hf
      have hop' : (reachLace (s.welt.flowAt * 1024) s).rd WLT_FLOWCMD_OP = 2 := (hrd _ 0 (by decide)).trans hop
      exact (if_neg (by omega)).trans (if_pos hop')
    rw [hcmd, yields_next]
    generalize reachLace (s.welt.flowAt * 1024) s = u at *
    have hflow : u.flowSt = s.flowSt := by funext g; rw [State.flowSt, hwelt]; rfl
    have hbusy' : u.rd WLT_FLOWCMD_BUSY = 1 := (hrd _ 0 (by decide)).trans hbusy
    have hop' : u.rd WLT_FLOWCMD_OP = 2 := (hrd _ 0 (by decide)).trans hop
    have hf' : u.rd WLT_FLOWCMD_FLOW = f := (hrd _ 0 (by decide)).trans hf
    have hen : ((u.modFlow f fun x => { x with en := false }).flowSt f).en = false := congrArg FlowSt.en (State.flowSt_modFlow u f _)
    have hgone : flowBusy (u.modFlow f fun x => { x with en := false }) f = flowBusy s f := by
      unfold flowBusy
      rw [State.flowSt_modFlow, hflow]
      change (_ || u.welt.gfly.any _) = _
      rw [hwelt]
    have hother : ∀ g, g ≠ f → (u.modFlow f fun x => { x with en := false }).flowSt g = s.flowSt g :=
      fun g hg => (u.flowSt_modFlow_ne hg _).trans (congrFun hflow g)
    cases hb : flowBusy s f with
    | false =>
      have hdone : flowDrained (u.modFlow f fun x => { x with en := false }) = flowDone 0 (u.modFlow f fun x => { x with en := false }) := by
        subst hf'
        exact if_pos ⟨hbusy', hop', hen, hgone.trans hb⟩
      rw [hdone]
      exact ⟨hen, hother, fun _ => flowDone_ends (by decide) _, fun h => absurd h (by decide), .of_mem hmem⟩
    | true =>
      have hwait : flowDrained (u.modFlow f fun x => { x with en := false }) = u.modFlow f fun x => { x with en := false } := by
        subst hf'
        exact if_neg fun h => absurd ((hgone.trans hb).symm.trans h.2.2.2) (by decide)
      rw [hwait]
      exact ⟨hen, hother, fun h => absurd h (by decide), fun _ => hbusy', .of_mem hmem⟩
  · obtain ⟨x, hx, hwelt, hmem, -, hrd⟩ := reachLace_spec (s.welt.flowAt * 1024) s
    have hcmd : exec .flowCommandBoundary s = .next (flowDone 0 (((reachLace (s.welt.flowAt * 1024) s).modFlow f fun x => { x with en := false }).modFlow to_
        fun x => { x with en := true })) := by
      change execFlowCommandBoundary s = _
      rw [execFlowCommandBoundary, if_neg hbusy]
      have hop' : (reachLace (s.welt.flowAt * 1024) s).rd WLT_FLOWCMD_OP = 3 := (hrd _ 0 (by decide)).trans hop
      have hto' : (reachLace (s.welt.flowAt * 1024) s).rd WLT_FLOWCMD2_TO = to_ := (hrd _ 0 (by decide)).trans hto
      refine (if_neg (by omega)).trans ((if_neg (by omega)).trans ?_)
      rw [hf]
      generalize reachLace (s.welt.flowAt * 1024) s = u at *
      exact congrArg (fun k => Host.Outcome.next (flowDone 0 ((u.modFlow f fun x => { x with en := false }).modFlow k fun x => { x with en := true }))) hto'
    rw [hcmd, yields_next]
    generalize reachLace (s.welt.flowAt * 1024) s = u at *
    refine ⟨flowDone_ends (by decide) _, ?_, congrArg FlowSt.en (State.flowSt_modFlow ..), .of_mem hmem⟩
    change (State.flowSt (State.modFlow _ _ _) f).en = false
    rw [State.flowSt_modFlow_ne _ hne, State.flowSt_modFlow]
  · have hcmd : exec .statsWindowEnd s = .next (statCopy (s.modWelt fun w => { w with flows := w.flows.map fun p => (p.1, { p.2 with ovrSaid := false }) })) := if_neg hwin
    rw [hcmd, yields_next]
    exact ⟨rfl, rfl, State.rd_wr_same .., statCopy_regs _, .of_mem rfl⟩
  · exact (yields_next ..).2 ⟨rfl, rfl, State.rd_wr_same .., statCopy_regs s, .of_mem rfl⟩

end Sys2Proof.Machine

namespace Sys2Proof.Machine

set_option Elab.async false

/-! The Cobbler's policy, remap store and commands (R369, R375, R378, R379) -/

section
variable {s t : State} {k j : Nat}

/-- A command of COB_CMD ends at once. -/
theorem cobCmd_ends {op st : Nat} (h : st < 2 ^ 16) (s : State) : Ends (cobCmd op st s) COB_CMD_STATUS COB_CMD_BUSY st :=
  ⟨(State.rd_wr_ne _ _ (by decide)).trans ((State.rd_wr_same ..).trans (Nat.mod_eq_of_lt h)), State.rd_wr_same ..⟩

theorem cobCmd_rd {f : Fld} (hop : f.key 0 ≠ COB_CMD_OP.key 0) (hstatus : f.key 0 ≠ COB_CMD_STATUS.key 0) (hbusy : f.key 0 ≠ COB_CMD_BUSY.key 0) (op st : Nat) (s : State) :
    (cobCmd op st s).rd f = s.rd f :=
  (State.rd_wr_ne _ _ hbusy).trans ((State.rd_wr_ne _ _ hstatus).trans (State.rd_wr_ne _ _ hop))

/-- The halvings of class `k` in force after a second of it ends. -/
def halvingsAfter (k : Nat) (s : State) : Nat :=
  if s.rd COB_BURST_BTH < tabGet 0 s.cob.sec k ∧ bit (s.rd COB_BURST_EN) k = 1 ∧
    intvAfter s k (tabGet 0 s.cob.halved k + 1) < intvAfter s k (tabGet 0 s.cob.halved k) then tabGet 0 s.cob.halved k + 1 else tabGet 0 s.cob.halved k

theorem intvAfter_congr (h : SameRegsBut [COB_STAT_BURST.key 0] s t) (k n : Nat) : intvAfter t k n = intvAfter s k n := by
  have hk : COB_INTV_INTV.key (4 * k) ∉ [COB_STAT_BURST.key 0] := by
    rw [List.mem_singleton]
    change (0x90010 + 4 * k) * 32 + 0 ≠ 0x90004 * 32 + 16
    omega
  unfold intvAfter intvCfg
  rw [h _ _ hk, show t.rd COB_BURST_FACTOR = s.rd COB_BURST_FACTOR from h _ 0 (by decide)]

theorem burstSecond_regs (k : Nat) (s : State) : SameRegsBut [COB_STAT_BURST.key 0] s (burstSecond s k) := by
  unfold burstSecond
  extract_lets n h u u1
  have hu : SameRegsBut [COB_STAT_BURST.key 0] s u := .of_regs rfl _
  refine .ite (.ite ?_ hu) hu
  exact SameRegsBut.wr (hu.congr rfl)

theorem burstSecond_mem (k : Nat) (s : State) : (burstSecond s k).mem = s.mem := by
  unfold burstSecond
  dsimp only
  split_ifs <;> rfl

theorem burstSecond_sec (k : Nat) (s : State) : (burstSecond s k).cob.sec = tabErase s.cob.sec k := by
  unfold burstSecond
  dsimp only
  split_ifs <;> rfl

theorem burstSecond_halved (k j : Nat) (s : State) : tabGet 0 (burstSecond s k).cob.halved j = if j = k then halvingsAfter k s else tabGet 0 s.cob.halved j := by
  have hnext : (burstSecond s k).cob.halved = if s.rd COB_BURST_BTH < tabGet 0 s.cob.sec k ∧ bit (s.rd COB_BURST_EN) k = 1 ∧
      intvAfter s k (tabGet 0 s.cob.halved k + 1) < intvAfter s k (tabGet 0 s.cob.halved k) then tabSet 0 s.cob.halved k (tabGet 0 s.cob.halved k + 1) else s.cob.halved := by
    have hintv : ∀ (f : Cob → Cob) n, intvAfter (s.modCob f) k n = intvAfter s k n := fun _ _ => rfl
    unfold burstSecond
    simp only [State.modCob_rd, hintv]
    split_ifs <;> rfl
  rw [hnext, halvingsAfter]
  by_cases hj : j = k
  · subst hj
    rw [if_pos rfl]
    split_ifs
    · exact tabGet_set_same ..
    · rfl
  · rw [if_neg hj]
    split_ifs
    · exact tabGet_set_ne _ _ _ _ hj
    · rfl

/-- A second of other classes changes nothing of class `k`. -/
theorem halvingsAfter_burstSecond (h : k ≠ j) (s : State) : halvingsAfter k (burstSecond s j) = halvingsAfter k s := by
  have hregs := burstSecond_regs j s
  unfold halvingsAfter
  rw [intvAfter_congr hregs, intvAfter_congr hregs, burstSecond_sec, tabGet_erase_ne _ _ h, burstSecond_halved, if_neg h,
    show (burstSecond s j).rd COB_BURST_BTH = s.rd COB_BURST_BTH from hregs _ 0 (by decide), show (burstSecond s j).rd COB_BURST_EN = s.rd COB_BURST_EN from hregs _ 0 (by decide)]

/-- The seconds of the classes of `l`, each named once, end. -/
theorem burstSeconds_spec {l : List Nat} (hl : l.Nodup) (s : State) :
    (k ∈ l → tabGet 0 (l.foldl burstSecond s).cob.sec k = 0 ∧ tabGet 0 (l.foldl burstSecond s).cob.halved k = halvingsAfter k s) ∧
    (k ∉ l → tabGet 0 (l.foldl burstSecond s).cob.sec k = tabGet 0 s.cob.sec k ∧ tabGet 0 (l.foldl burstSecond s).cob.halved k = tabGet 0 s.cob.halved k) := by
  induction l generalizing s with
  | nil => exact ⟨fun h => absurd h List.not_mem_nil, fun _ => ⟨rfl, rfl⟩⟩
  | cons j l ih =>
    obtain ⟨hj, hl⟩ := List.nodup_cons.1 hl
    obtain ⟨hin, hout⟩ := ih hl (burstSecond s j)
    refine ⟨fun hk => ?_, fun hk => ?_⟩
    · by_cases hkj : k = j
      · subst hkj
        obtain ⟨h1, h2⟩ := hout hj
        exact ⟨h1.trans (by rw [burstSecond_sec, tabGet_erase_same]), h2.trans (by rw [burstSecond_halved, if_pos rfl])⟩
      · obtain ⟨h1, h2⟩ := hin ((List.mem_cons.1 hk).resolve_left hkj)
        exact ⟨h1, h2.trans (halvingsAfter_burstSecond hkj s)⟩
    · have hkj : k ≠ j := fun h => hk (h ▸ List.mem_cons_self)
      obtain ⟨h1, h2⟩ := hout fun h => hk (List.mem_cons_of_mem _ h)
      exact ⟨h1.trans (by rw [burstSecond_sec, tabGet_erase_ne _ _ hkj]), h2.trans (by rw [burstSecond_halved, if_neg hkj])⟩

theorem State.reachElapsed_spec (n : Nat) (s : State) : ∃ u, s.reachElapsed n = u ∧ n ≤ u.clocks.elapsed ∧ u.mem = s.mem ∧ u.cob = s.cob := by
  refine ⟨_, rfl, ?_⟩
  unfold State.reachElapsed
  split
  next h =>
    obtain ⟨helapsed, -, -, -, hmem, -⟩ := s.pass_spec (n - s.clocks.elapsed)
    refine ⟨by omega, hmem, ?_⟩
    unfold State.pass State.serve
    dsimp only
    split <;> rfl
  next h => exact ⟨by omega, rfl, rfl⟩

/-- The oldest of a history, by its first correction. -/
def oldest (h : HistEnt) (l : List HistEnt) : HistEnt := l.foldl (fun (m : HistEnt) x => if x.first < m.first then x else m) h

theorem oldest_spec (h : HistEnt) (l : List HistEnt) : oldest h l ∈ h :: l ∧ ∀ x ∈ h :: l, (oldest h l).first ≤ x.first := by
  induction l generalizing h with
  | nil => exact ⟨List.mem_cons_self, by simp [oldest]⟩
  | cons x l ih =>
    obtain ⟨hmem, hle⟩ := ih (if x.first < h.first then x else h)
    have hnext : oldest h (x :: l) = oldest (if x.first < h.first then x else h) l := rfl
    rw [hnext]
    refine ⟨?_, fun y hy => ?_⟩
    · rcases List.mem_cons.1 hmem with hm | hm
      · rw [hm]
        split_ifs
        · exact List.mem_cons_of_mem _ List.mem_cons_self
        · exact List.mem_cons_self
      · exact List.mem_cons_of_mem _ (List.mem_cons_of_mem _ hm)
    · have h0 := hle _ List.mem_cons_self
      rcases List.mem_cons.1 hy with rfl | hy
      · split_ifs at h0 ⊢ <;> omega
      · rcases List.mem_cons.1 hy with rfl | hy
        · split_ifs at h0 ⊢ <;> omega
        · exact hle _ (List.mem_cons_of_mem _ hy)

theorem showStore_regs (s : State) : SameRegsBut [COB_RSTORE_USED.key 0, COB_RSTORE_PEND.key 0, COB_RSTORE_FULL.key 0] s (showStore s) := by
  unfold showStore
  exact SameRegsBut.wr (SameRegsBut.wr (SameRegsBut.wr .refl))

theorem showStore_shown (s : State) : (showStore s).rd COB_RSTORE_USED = s.cob.rs.length % 2 ^ COB_RSTORE_USED.w ∧ (showStore s).rd COB_RSTORE_PEND = s.cob.rsPend.length % 2 ^ COB_RSTORE_PEND.w := by
  unfold showStore
  constructor
  · rw [State.rd_wr_ne _ _ (by decide), State.rd_wr_ne _ _ (by decide), State.rd_wr_same]
  · rw [State.rd_wr_ne _ _ (by decide), State.rd_wr_same]
end

/-- Settles O47: the classes' seconds are independent; an entry of the history that leaves is its oldest; each command ends at once. -/
theorem cobblerPolicy : Obligations.CobblerPolicy := by
  unfold Obligations.CobblerPolicy
  refine ⟨fun s k hk => ?_, fun s k hh => ?_, fun s hh => ?_, fun s hinh hmode hpend => ?_, fun s hinh => if_pos (.inl hinh), fun s k hk => ?_, fun s k hk => ?_,
    fun s hmode => ?_, fun s hmode => ?_, fun s => ?_⟩
  · obtain ⟨hsec, hhalved⟩ := (burstSeconds_spec (k := k) (l := List.range 5) List.nodup_range s).1 (List.mem_range.2 hk)
    refine (yields_next ..).2 ⟨hsec, hhalved, ?_, .of_mem ?_⟩
    · exact List.foldlRecOn (motive := fun t : State => SameRegsBut [COB_STAT_BURST.key 0] s t) _ _ .refl fun t ht j _ => ht.trans (burstSecond_regs j t)
    · exact foldl_keeps State.mem (fun t j => burstSecond_mem j t) _ s
  · let u := s.modCob fun c => { c with halved := tabSet 0 c.halved k (tabGet 0 s.cob.halved k - 1) }
    have hcmd : exec (.burstHoldExpiry k) s = .next (if tabGet 0 s.cob.halved k = 1 then putBit COB_STAT_BURST k false (cobEvent 9 k 12 0 0 u) else u) := if_neg hh
    have hu : tabGet 0 u.cob.halved k = tabGet 0 s.cob.halved k - 1 := tabGet_set_same ..
    rw [hcmd, yields_next]
    split_ifs with h1
    · refine ⟨hu, fun _ => ?_, SameRegsBut.wr .refl, .of_mem rfl⟩
      change bit (State.rd (State.wr _ COB_STAT_BURST _) COB_STAT_BURST) k = 0
      rw [State.rd_wr_same, bit_mod_two_pow (show k.val < COB_STAT_BURST.w from k.isLt)]
      exact bit_sub_self _ _
    · exact ⟨hu, fun h => absurd h h1, .refl, .of_mem rfl⟩
  · obtain ⟨h, l, hl⟩ := List.exists_cons_of_ne_nil hh
    obtain ⟨hmem, hle⟩ := oldest_spec h l
    have hcmd : exec .historyEntryExpiry s = .next ((s.reachElapsed ((oldest h l).first + s.rd COB_POL_WIN * hourNs)).modCob fun c => { c with hist := c.hist.erase (oldest h l) }) := by
      change execHistoryEntryExpiry s = _
      simp only [execHistoryEntryExpiry, hl, oldest]
    obtain ⟨u, hu, helapsed, hkept, hcob⟩ := State.reachElapsed_spec ((oldest h l).first + s.rd COB_POL_WIN * hourNs) s
    rw [hcmd, yields_next, hu]
    exact ⟨⟨oldest h l, hl ▸ hmem, hl ▸ hle, congrArg (fun c : Cob => c.hist.erase (oldest h l)) hcob, helapsed⟩, .of_mem hkept⟩
  · have hcmd : exec .remapStoreWrite s = .next (showStore (s.modCob fun c => { c with rs := (c.rs ++ c.rsPend).take 8192, rsPend := [], rsSeq := c.rsSeq + 1 })) :=
      if_neg fun h => h.elim hinh fun h => h.elim hmode hpend
    rw [hcmd, yields_next]
    exact ⟨rfl, rfl, (showStore_shown _).2, SameRegsBut.trans (.of_regs rfl _) (showStore_regs _), .of_mem rfl⟩
  · have hcmd : exec (.cobRestartSweep k) s = .next (cobCmd 1 0 ((s.wr COB_CMD_CLASS k).modCob fun c => { c with pos := tabErase c.pos k })) := if_neg (by omega)
    rw [hcmd, yields_next]
    refine ⟨tabGet_erase_same .., cobCmd_ends (by decide) _, ?_, rfl, .of_mem rfl⟩
    rw [cobCmd_rd (by decide) (by decide) (by decide), State.modCob_rd, State.rd_wr_same]
    exact Nat.mod_eq_of_lt k.isLt
  · have hcmd : exec (.cobRestartSweep k) s = .next (cobCmd 1 ST_COB_BADCMD (s.wr COB_CMD_CLASS k)) := if_pos hk
    rw [hcmd, yields_next]
    exact ⟨rfl, cobCmd_ends (by decide) _, .of_mem rfl⟩
  · have hcmd : exec .cobClearRemapStore s = .next (cobCmd 2 0 (showStore (s.modCob fun c => { c with rs := [], rsSeq := c.rsSeq + 1 }))) := if_neg fun h => h hmode
    rw [hcmd, yields_next]
    exact ⟨rfl, (cobCmd_rd (by decide) (by decide) (by decide) ..).trans (showStore_shown _).1, cobCmd_ends (by decide) _, .of_mem rfl⟩
  · have hcmd : exec .cobClearRemapStore s = .next (cobCmd 2 ST_COB_STATE s) := if_pos hmode
    rw [hcmd, yields_next]
    exact ⟨rfl, cobCmd_ends (by decide) _, .of_mem rfl⟩
  · exact (yields_next ..).2 ⟨rfl, rfl, rfl, cobCmd_ends (by decide) _, .of_mem rfl⟩

end Sys2Proof.Machine

namespace Sys2Proof.Machine

set_option Elab.async false

/-! Streams, power and tests of a bundle (R398, R401, R403 to R405) -/

section
variable {s t : State} {b : Nat}

/-- Streams are delivered: what STRUP shows. -/
def streamsDeliver (b : Nat) (s : State) : Bool :=
  szlUp s b && (s.bundle b).wRx == 8 && !(s.bundle b).halfRx && s.rdi SZL_BSTAT_REFLOCK (oBun b) == 1 && !(s.bundle b).mism && s.rdi SZL_TEST_GEN (oBun b) == 0

theorem showStr_regs (b : Nat) (s : State) : (showStr b s).regs = (s.wri SZL_BSTAT_STRUP (oBun b) (streamsDeliver b s).toNat).regs := by
  unfold showStr
  dsimp only
  split <;> rfl

theorem showStr_frame (b : Nat) (s : State) : (showStr b s).mem = s.mem ∧ (showStr b s).bundles = s.bundles ∧ (showStr b s).welt = s.welt := by
  unfold showStr
  dsimp only
  split <;> exact ⟨rfl, rfl, rfl⟩

theorem showStr_bundle (b k : Nat) (s : State) : (showStr b s).bundle k = s.bundle k := by
  obtain ⟨-, h, -⟩ := showStr_frame b s
  rw [State.bundle, State.bundle, h]

theorem showStr_rdi {f : Fld} (h : f.key 0 ≠ SZL_BSTAT_STRUP.key 0) (b : Nat) (s : State) : (showStr b s).rdi f (oBun b) = s.rdi f (oBun b) :=
  (State.rdi_of_regs (showStr_regs b s) f _).trans (State.rdi_wri_off _ h _ _)

theorem showStr_strup (b : Nat) (s : State) : (showStr b s).rdi SZL_BSTAT_STRUP (oBun b) = (streamsDeliver b s).toNat := by
  rw [State.rdi_of_regs (showStr_regs b s), State.rdi_wri_same]
  exact Nat.mod_eq_of_lt (Bool.toNat_lt _)

theorem showStr_sameRegs (h : SameRegsBut l s t) (hk : SZL_BSTAT_STRUP.key (oBun b) ∈ l := by simp) : SameRegsBut l s (showStr b t) := (h.wri hk).congr (showStr_regs b t)

theorem showStr_mode (b : Nat) (s : State) : (showStr b s).mode = s.mode :=
  (State.rdi_of_regs (showStr_regs b s) GLB_MODE_MODE 0).trans (State.rd_wri_above (f := SZL_BSTAT_STRUP) (g := GLB_MODE_MODE) s (by decide) _ _)

/-- A received stream block that an enabled entry names reads 0. -/
theorem streamZero_launch {e i : Nat} (he : e ∈ enabledEntries (szlMap s b).rx) (hblk : bits e 0 8 < 240) (hi : i < 20) :
    tabGet 0 (streamZero b s).express.launch (9600 * bits e 11 4 + 4800 + 20 * bits e 0 8 + i) = 0 := by
  refine tabGet_filter_false 0 s.express.launch (fun x => !(x / 4800 % 2 == 1 && (enabledEntries (szlMap s b).rx).any fun e => bits e 11 4 == x / 9600 && bits e 0 8 == x % 4800 / 20)) ?_
  generalize hx : 9600 * bits e 11 4 + 4800 + 20 * bits e 0 8 + i = x
  have hside : x / 4800 % 2 = 1 := by omega
  have hdie : bits e 11 4 = x / 9600 := by omega
  have hblock : bits e 0 8 = x % 4800 / 20 := by omega
  have hany : ((enabledEntries (szlMap s b).rx).any fun e => bits e 11 4 == x / 9600 && bits e 0 8 == x % 4800 / 20) = true :=
    List.any_eq_true.2 ⟨e, he, by simp [← hdie, ← hblock]⟩
  simp [hside, hany]

/-- Without STRSAFE lost cycles are counted, and the received blocks read 0. -/
theorem streamLoss_counted (h : s.rdi SZL_BCTL_STRSAFE (oBun b) ≠ 1) (cycles : Nat) :
    streamLoss b cycles s = szlEvent 4 b ST_HW_SZL_STREAM (streamZero b (s.addi SZL_STRERR_COUNT (oBun b) cycles)) := by
  refine if_neg fun hs => h ?_
  rw [← hs]
  exact (State.rdi_addi_off (f := SZL_STRERR_COUNT) s (by decide) _ _).symm

theorem streamLoss_safe (hmode : s.mode ≠ DORMANT) (h : s.rdi SZL_BCTL_STRSAFE (oBun b) = 1) (cycles : Nat) : (streamLoss b cycles s).mode = SAFE := by
  unfold streamLoss
  extract_lets u
  have hu : u.mode = s.mode := State.rd_wri_above (f := SZL_STRERR_COUNT) (g := GLB_MODE_MODE) s (by decide) _ _
  have hsafe : u.rdi SZL_BCTL_STRSAFE (oBun b) = 1 := (State.rdi_addi_off (f := SZL_STRERR_COUNT) s (by decide) _ _).trans h
  rw [if_pos hsafe]
  exact State.fault_mode (hu ▸ hmode) ..

theorem szlUp_cases (h : szlUp s b = true) : szlState s b = 3 ∨ szlState s b = 4 := by simpa [szlUp] using h

/-- The counts of the lanes of `l` that are checked rise by their errors. -/
def laneErrors (b : Nat) (errs : List Nat) (s : State) (l : Nat) : State :=
  if bit (s.rdi SZL_TEST_LANEMASK (oBun b)) l = 1 then s.addi SZL_TESTCNT_COUNT (oBun b + 4 * l) (errs.getD l 0) else s

theorem laneErrors_rdi {f : Fld} {o n : Nat} (h : ∀ l, l < n → f.key o ≠ SZL_TESTCNT_COUNT.key (oBun b + 4 * l)) (errs : List Nat) (s : State) :
    ((List.range n).foldl (laneErrors b errs) s).rdi f o = s.rdi f o := by
  induction n with
  | zero => rfl
  | succ n ih =>
    rw [List.range_succ, List.foldl_append, List.foldl_cons, List.foldl_nil, laneErrors]
    split
    · rw [State.rdi_addi_ne _ _ (h n n.lt_succ_self), ih fun l hl => h l (by omega)]
    · exact ih fun l hl => h l (by omega)

theorem laneErrors_frame (errs : List Nat) (n : Nat) (s : State) :
    ((List.range n).foldl (laneErrors b errs) s).mem = s.mem ∧ ((List.range n).foldl (laneErrors b errs) s).bundles = s.bundles := by
  constructor <;>
  · refine foldl_keeps _ (fun t l => ?_) _ s
    unfold laneErrors
    split <;> rfl

theorem key_lane_ne {l j : Nat} (h : l ≠ j) : SZL_TESTCNT_COUNT.key (oBun b + 4 * l) ≠ SZL_TESTCNT_COUNT.key (oBun b + 4 * j) := by
  unfold Fld.key; omega

theorem key_test_ne_lane {f : Fld} (h : f.adr = SZL_TEST_GEN.adr ∧ f.lo < 32) (l : Nat) : f.key (oBun b) ≠ SZL_TESTCNT_COUNT.key (oBun b + 4 * l) := by
  obtain ⟨hadr, hlo⟩ := h
  unfold Fld.key
  rw [hadr, show SZL_TEST_GEN.adr = 0xA1034 from rfl, show SZL_TESTCNT_COUNT.adr = 0xA1040 from rfl, show SZL_TESTCNT_COUNT.lo = 0 from rfl]
  omega

theorem key_count_ne_bstat {f : Fld} (h : f.adr = SZL_BSTAT_STATE.adr ∧ f.lo < 32) {l : Nat} : SZL_TESTCNT_COUNT.key (oBun b + 4 * l) ≠ f.key (oBun b) := by
  obtain ⟨hadr, hlo⟩ := h
  unfold Fld.key
  rw [hadr, show SZL_BSTAT_STATE.adr = 0xA1004 from rfl, show SZL_TESTCNT_COUNT.adr = 0xA1040 from rfl, show SZL_TESTCNT_COUNT.lo = 0 from rfl]
  omega

theorem laneErrors_counted {l n : Nat} (hl : l < n) (hmask : bit (s.rdi SZL_TEST_LANEMASK (oBun b)) l = 1) (errs : List Nat) :
    ((List.range n).foldl (laneErrors b errs) s).rdi SZL_TESTCNT_COUNT (oBun b + 4 * l) = min (s.rdi SZL_TESTCNT_COUNT (oBun b + 4 * l) + errs.getD l 0) (2 ^ 32 - 1) := by
  induction n with
  | zero => omega
  | succ n ih =>
    rw [List.range_succ, List.foldl_append, List.foldl_cons, List.foldl_nil]
    by_cases hln : l = n
    · subst hln
      rw [laneErrors, laneErrors_rdi (f := SZL_TEST_LANEMASK) fun j _ => key_test_ne_lane (f := SZL_TEST_LANEMASK) ⟨rfl, by decide⟩ j, if_pos hmask, State.rdi_addi_same, laneErrors_rdi fun j hj => key_lane_ne (by omega)]
      rfl
    · rw [laneErrors]
      split
      · rw [State.rdi_addi_ne _ _ (key_lane_ne hln), ih (by omega)]
      · exact ih (by omega)

/-- The power register of a bundle takes the fields written. -/
def pwrWritten (b v : Nat) (s : State) : State :=
  ((s.wri SZL_PWR_TXREQ (oBun b) (bits v 30 2)).wri SZL_PWR_SLEEPIDLE (oBun b) (bits v 8 8)).wri SZL_PWR_DOZEIDLE (oBun b) (bits v 0 8)

theorem bits_mod (v lo w : Nat) : bits v lo w % 2 ^ w = bits v lo w := Nat.mod_eq_of_lt (Nat.mod_lt _ (Nat.two_pow_pos w))

theorem pwrWritten_rdi {f : Fld} (h1 : f.key 0 ≠ SZL_PWR_TXREQ.key 0) (h2 : f.key 0 ≠ SZL_PWR_SLEEPIDLE.key 0) (h3 : f.key 0 ≠ SZL_PWR_DOZEIDLE.key 0) (b v : Nat) (s : State) :
    (pwrWritten b v s).rdi f (oBun b) = s.rdi f (oBun b) :=
  (State.rdi_wri_off _ h3 _ _).trans ((State.rdi_wri_off _ h2 _ _).trans (State.rdi_wri_off _ h1 _ _))

/-- What a bundle that leaves service puts in front of the pump: requests without an answer are refused. -/
theorem refuse_frame (q : Req) (st : Nat) (s : State) : (refuse q st s).mem = s.mem ∧ (refuse q st s).bundles = s.bundles ∧ SameRegsBut [WLT_ERRCNT_COUNT.key 0] s (refuse q st s) := by
  have hlog : ∀ k, SameRegsBut [WLT_ERRCNT_COUNT.key 0] s (weltLog k q.op st q.src q.dst s) := fun k => SameRegsBut.addi (t := State.push2 s _ _ _) .refl
  unfold refuse
  split
  · exact ⟨rfl, rfl, hlog 5⟩
  · split
    · exact ⟨rfl, rfl, (hlog 4).congr rfl⟩
    · exact ⟨rfl, rfl, .of_regs rfl _⟩

theorem bundleFail_pumps (b : Nat) (s : State) : ∃ u, bundleFail b s = pump u ∧ u.mem = s.mem ∧ (u.bundle b).replay = [] ∧ (u.bundle b).txq = [] ∧ SameRegsBut [WLT_ERRCNT_COUNT.key 0] s u := by
  unfold bundleFail
  extract_lets mine l posted u1 u2
  obtain ⟨hmem, hregs⟩ : u1.mem = s.mem ∧ u1.regs = s.regs :=
    List.foldlRecOn (motive := fun t : State => t.mem = s.mem ∧ t.regs = s.regs) posted _ ⟨rfl, rfl⟩ fun _ ht _ _ => ht
  let w := u2.modWelt fun w => { w with held := w.held.filter fun h => !mine h }
  obtain ⟨umem, ubundles, uregs⟩ : (l.foldl (fun s h => refuse h.req ST_SZL_DOWN s) w).mem = w.mem ∧ (l.foldl (fun s h => refuse h.req ST_SZL_DOWN s) w).bundles = w.bundles ∧
      SameRegsBut [WLT_ERRCNT_COUNT.key 0] w (l.foldl (fun s h => refuse h.req ST_SZL_DOWN s) w) := by
    refine List.foldlRecOn (motive := fun t : State => t.mem = w.mem ∧ t.bundles = w.bundles ∧ SameRegsBut [WLT_ERRCNT_COUNT.key 0] w t) l _ ⟨rfl, rfl, .refl⟩ fun t ht h _ => ?_
    obtain ⟨hm, hb, hr⟩ := ht
    obtain ⟨rm, rb, rr⟩ := refuse_frame h.req ST_SZL_DOWN t
    exact ⟨rm.trans hm, rb.trans hb, hr.trans rr⟩
  have hb : w.bundle b = _ := u1.bundle_modBundle b fun x => { x with txq := [], replay := [], part := [], arrived := [], again := (0, 0), owed := false, nak := false }
  refine ⟨_, rfl, umem.trans hmem, ?_, ?_, SameRegsBut.trans (.of_regs hregs _) uregs⟩
  · rw [State.bundle, ubundles]; exact congrArg Bundle.replay hb
  · rw [State.bundle, ubundles]; exact congrArg Bundle.txq hb

theorem key_szl_ne_errcnt {f : Fld} (h : WLT_ERRCNT_COUNT.adr < f.adr) (o : Nat) : f.key o ∉ [WLT_ERRCNT_COUNT.key 0] := by
  rw [List.mem_singleton]
  unfold Fld.key
  rw [show WLT_ERRCNT_COUNT.lo = 0 from rfl]
  omega
end

theorem bundleSendAll_frame (b : Nat) (s : State) : (bundleSendAll b s).regs = s.regs ∧ (bundleSendAll b s).mem = s.mem := by
  unfold bundleSendAll
  split <;> exact ⟨rfl, rfl⟩

theorem szlMap_showStr (b k : Nat) (s : State) : szlMap (showStr b s) k = szlMap s k := by
  have hplane : (showStr b s).express.plane = s.express.plane := by
    unfold showStr
    dsimp only
    split <;> rfl
  unfold szlMap
  rw [hplane, showStr_bundle]

/-- A bundle that retrains shows its state and STRUP alone. -/
theorem szlRetrain_rdi {f : Fld} {b o : Nat} (hst : f.key o ≠ SZL_BSTAT_STATE.key (oBun b)) (hstr : f.key o ≠ SZL_BSTAT_STRUP.key (oBun b)) (s : State) :
    (szlRetrain b s).rdi f o = s.rdi f o := by
  unfold szlRetrain
  split
  · rw [State.rdi_of_regs (showStr_regs ..), State.rdi_wri_ne _ _ hstr]
    exact State.rdi_wri_ne s 5 hst
  · rfl

theorem szlRetrain_mem (b : Nat) (s : State) : (szlRetrain b s).mem = s.mem := by
  unfold szlRetrain
  split
  · exact (showStr_frame ..).1
  · rfl

/-- The test register takes the fields written, with status 0. -/
def testWritten (b v : Nat) (s : State) : State :=
  let s := ((s.wri SZL_TEST_STATUS (oBun b) 0).wri SZL_TEST_GEN (oBun b) (bit v 15)).wri SZL_TEST_CHK (oBun b) (bit v 14)
  (s.wri SZL_TEST_PAT (oBun b) (bits v 11 3)).wri SZL_TEST_LANEMASK (oBun b) (bits v 0 8)

theorem testWritten_shown (b v : Nat) (s : State) : (testWritten b v s).rdi SZL_TEST_STATUS (oBun b) = 0 ∧ (testWritten b v s).rdi SZL_TEST_GEN (oBun b) = bit v 15 ∧
    (testWritten b v s).rdi SZL_TEST_CHK (oBun b) = bit v 14 ∧ (testWritten b v s).rdi SZL_TEST_PAT (oBun b) = bits v 11 3 ∧
    (testWritten b v s).rdi SZL_TEST_LANEMASK (oBun b) = bits v 0 8 := by
  unfold testWritten
  extract_lets u
  refine ⟨?_, ?_, ?_, ?_, (State.rdi_wri_same ..).trans (bits_mod ..)⟩
  · exact (State.rdi_wri_off _ (by decide) _ _).trans ((State.rdi_wri_off _ (by decide) _ _).trans ((State.rdi_wri_off _ (by decide) _ _).trans
      ((State.rdi_wri_off _ (by decide) _ _).trans (State.rdi_wri_same ..))))
  · exact (State.rdi_wri_off _ (by decide) _ _).trans ((State.rdi_wri_off _ (by decide) _ _).trans ((State.rdi_wri_off _ (by decide) _ _).trans
      ((State.rdi_wri_same ..).trans (Nat.mod_eq_of_lt (bit_lt_two ..)))))
  · exact (State.rdi_wri_off _ (by decide) _ _).trans ((State.rdi_wri_off _ (by decide) _ _).trans ((State.rdi_wri_same ..).trans (Nat.mod_eq_of_lt (bit_lt_two ..))))
  · exact (State.rdi_wri_off _ (by decide) _ _).trans ((State.rdi_wri_same ..).trans (bits_mod ..))

/-- The counters of the lanes are no part of the test register. -/
theorem testWritten_count (b v l : Nat) (s : State) : (testWritten b v s).rdi SZL_TESTCNT_COUNT (oBun b + 4 * l) = s.rdi SZL_TESTCNT_COUNT (oBun b + 4 * l) := by
  have h : ∀ {f : Fld} (t : State) (x : Nat), f.adr = SZL_TEST_GEN.adr ∧ f.lo < 32 → (t.wri f (oBun b) x).rdi SZL_TESTCNT_COUNT (oBun b + 4 * l) = t.rdi SZL_TESTCNT_COUNT (oBun b + 4 * l) :=
    fun t x hf => State.rdi_wri_ne t x (key_test_ne_lane hf l).symm
  unfold testWritten
  extract_lets u
  rw [h _ _ (by decide), h _ _ (by decide), h _ _ (by decide), h _ _ (by decide), h _ _ (by decide)]

/-- Settles O49: each event writes the registers of its own bundle, and the blocks received for the entries enabled read 0 once a stream is lost. -/
theorem sazorStreams : Obligations.SazorStreams := by
  unfold Obligations.SazorStreams
  refine ⟨fun s b cycles hup hrx hsafe => ?_, fun s b cycles hmode hup hrx hsafe => ?_, fun s b cycles hup => ?_, fun s b stag gear cycles hup hrx hbad => ?_,
    fun s b stag gear cycles hup hrx htag hgear => ?_, fun s b ppb cycles hup hlo hhi => ?_, fun s b ppb cycles hup hppb hidle => ?_,
    fun s b hup htxq hreplay howed htx hreq hdoze hsleep hst => ?_, fun s b hup hst => ?_, fun s b htxq hst => ?_, fun s b v hv hreq hen => ?_, fun s b v hv hreq hen => ?_,
    fun s b v errs hmode => ?_, fun s b v errs hmode hpat => ?_, fun s b v hgo hmode => ?_, fun s b v hgo hn hmode => ?_⟩
  · let u := s.inci SZL_CWUNC_COUNT (oBun b)
    have hu : ∀ {f : Fld}, f.key 0 ≠ SZL_CWUNC_COUNT.key 0 → u.rdi f (oBun b) = s.rdi f (oBun b) := fun h => State.rdi_addi_off _ h _ _
    have hcmd : exec (.streamCycleLoss b cycles) s = .next (streamLoss b cycles u) := if_pos ⟨(hu (by decide)).trans hup, hrx⟩
    rw [hcmd, yields_next, streamLoss_counted fun h => hsafe ((hu (by decide)).symm.trans h)]
    have hkey : ∀ f : Fld, f.key (oBun b) ∉ [] := fun _ h => absurd h List.not_mem_nil
    refine ⟨?_, ?_, ?_, rfl, fun e he i hblk hi => ?_, SameRegsBut.congr (SameRegsBut.addi (SameRegsBut.addi .refl)) rfl, .of_mem rfl⟩
    · exact (State.rdi_addi_off (f := SZL_STRERR_COUNT) u (by decide) _ _).trans (State.rdi_addi_same ..)
    · exact (State.rdi_addi_same ..).trans (by rw [hu (by decide)]; rfl)
    · exact (u.addi_mode_above (f := SZL_STRERR_COUNT) (by decide) _ _).trans (s.addi_mode_above (f := SZL_CWUNC_COUNT) (by decide) _ _)
    · exact streamZero_launch (s := u.addi SZL_STRERR_COUNT (oBun b) cycles) he hblk hi
  · let u := s.inci SZL_CWUNC_COUNT (oBun b)
    have hu : ∀ {f : Fld}, f.key 0 ≠ SZL_CWUNC_COUNT.key 0 → u.rdi f (oBun b) = s.rdi f (oBun b) := fun h => State.rdi_addi_off _ h _ _
    have hmode' : u.mode = s.mode := s.addi_mode_above (f := SZL_CWUNC_COUNT) (by decide) _ _
    have hcmd : exec (.streamCycleLoss b cycles) s = .next (streamLoss b cycles u) := if_pos ⟨(hu (by decide)).trans hup, hrx⟩
    rw [hcmd, yields_next]
    exact streamLoss_safe (hmode' ▸ hmode) ((hu (by decide)).trans hsafe) cycles
  · let u := s.inci SZL_CWUNC_COUNT (oBun b)
    have hu : u.rdi SZL_BSTAT_STRUP (oBun b) = 0 := (State.rdi_addi_off _ (by decide) _ _).trans hup
    have hcmd : exec (.streamCycleLoss b cycles) s = .next u := if_neg fun h => by rw [hu] at h; exact absurd h.1 (by decide)
    rw [hcmd, yields_next]
    exact ⟨SameRegsBut.addi .refl, rfl, .of_mem rfl⟩
  · let v := (s.addi SZL_STRERR_COUNT (oBun b) cycles).modBundle b fun x => { x with mism := true }
    have hcmd : exec (.streamTagMismatch b stag gear cycles) s = .next (if (s.bundle b).mism then showStr b v else szlEvent 7 b 0 (showStr b v)) := by
      refine (if_neg ?_).trans (if_neg ?_)
      · rintro (h | h)
        · exact absurd (hup.symm.trans h) (by decide)
        · exact hrx h
      · rintro ⟨h1, h2⟩
        exact hbad.elim (fun h => h h1) fun h => h h2
    have hmism : (v.bundle b).mism = true := congrArg Bundle.mism (State.bundle_modBundle _ b _)
    have hdown : streamsDeliver b v = false := by simp [streamsDeliver, hmism]
    have hgoal : ∀ t : State, t.regs = (showStr b v).regs → t.mem = (showStr b v).mem → t.bundles = (showStr b v).bundles → (t.bundle b).mism = true ∧ t.rdi SZL_BSTAT_STRUP (oBun b) = 0 ∧
        t.rdi SZL_STRERR_COUNT (oBun b) = min (s.rdi SZL_STRERR_COUNT (oBun b) + cycles) (2 ^ 32 - 1) ∧ t.mode = s.mode ∧ SameMem s t := by
      intro t hregs hmem hbundles
      refine ⟨?_, ?_, ?_, ?_, .of_mem (hmem.trans (showStr_frame b v).1)⟩
      · rw [State.bundle, hbundles, ← State.bundle, showStr_bundle, hmism]
      · rw [State.rdi_of_regs hregs, showStr_strup, hdown]; rfl
      · rw [State.rdi_of_regs hregs, showStr_rdi (by decide)]
        exact State.rdi_addi_same ..
      · exact (State.rdi_of_regs hregs GLB_MODE_MODE 0).trans ((showStr_mode b v).trans (s.addi_mode_above (f := SZL_STRERR_COUNT) (by decide) _ _))
    rw [hcmd, yields_next]
    split_ifs <;> exact hgoal _ rfl rfl rfl
  · let v := s.modBundle b fun x => { x with mism := false }
    have hcmd : exec (.streamTagMismatch b stag gear cycles) s = .next (showStr b v) := by
      refine (if_neg ?_).trans (if_pos ⟨htag, hgear⟩)
      rintro (h | h)
      · exact absurd (hup.symm.trans h) (by decide)
      · exact hrx h
    rw [hcmd, yields_next]
    refine ⟨?_, showStr_rdi (by decide) b v, showStr_mode b v, .of_mem (showStr_frame b v).1⟩
    rw [showStr_bundle]
    exact congrArg Bundle.mism (s.bundle_modBundle b _)
  · have hok : (decide (-100 ≤ ppb) && decide (ppb ≤ 100)) = true := by simp [hlo, hhi]
    have hst : ¬ (szlState s b = 0 ∨ szlState s b = 1 ∨ szlState s b = 6) := by have := szlUp_cases hup; omega
    have hcmd : exec (.reflockWindowEnd b ppb cycles) s = .next (showStr b (s.wri SZL_BSTAT_REFLOCK (oBun b) 1)) := by
      change execReflockWindowEnd b ppb cycles s = _
      simp only [execReflockWindowEnd, if_neg hst, hok]
      exact if_neg fun h => absurd h.2.1 (by decide)
    rw [hcmd, yields_next]
    refine ⟨(showStr_rdi (by decide) ..).trans (State.rdi_wri_same ..), (showStr_mode ..).trans (s.wri_mode_above (by decide) ..), ?_, .of_mem (showStr_frame ..).1⟩
    exact showStr_sameRegs (SameRegsBut.wri .refl)
  · have hok : (decide (-100 ≤ ppb) && decide (ppb ≤ 100)) = false := by
      rcases hppb with h | h
      · simp [show ¬ (-100 ≤ ppb) by omega]
      · simp [show ¬ (ppb ≤ 100) by omega]
    have hst : ¬ (szlState s b = 0 ∨ szlState s b = 1 ∨ szlState s b = 6) := by have := szlUp_cases hup; omega
    let v := s.wri SZL_BSTAT_REFLOCK (oBun b) 0
    have hcmd : exec (.reflockWindowEnd b ppb cycles) s = .next (showStr b v) := by
      change execReflockWindowEnd b ppb cycles s = _
      simp only [execReflockWindowEnd, if_neg hst, hok]
      refine if_neg fun h => ?_
      obtain ⟨hwas, -, hrx⟩ := h
      rcases hidle with h0 | h0
      · exact absurd (h0.symm.trans hwas) (by decide)
      · exact hrx (by rw [szlMap_showStr]; exact h0)
    have hlock : v.rdi SZL_BSTAT_REFLOCK (oBun b) = 0 := State.rdi_wri_same ..
    have hdown : streamsDeliver b v = false := by simp [streamsDeliver, hlock]
    rw [hcmd, yields_next]
    refine ⟨(showStr_rdi (by decide) ..).trans hlock, ?_, (showStr_mode ..).trans (s.wri_mode_above (by decide) ..), .of_mem (showStr_frame ..).1⟩
    rw [showStr_strup, hdown]; rfl
  · have hcmd : exec (.sazorPowerIdleTimer b false) s = .next (s.wri SZL_PWR_TXST (oBun b) (s.rdi SZL_PWR_TXST (oBun b) + 1)) := by
      change execSazorPowerIdleTimer b false s = _
      have hidle : ¬ ((s.bundle b).txq ≠ [] ∨ (s.bundle b).replay ≠ [] ∨ (s.bundle b).owed = true ∨ txStreams s b = true) := by simp [htxq, hreplay, howed, htx]
      rw [execSazorPowerIdleTimer, if_neg (by simp [hup]), if_neg (by decide), if_neg hidle]
      rcases (by omega : s.rdi SZL_PWR_TXST (oBun b) = 0 ∨ s.rdi SZL_PWR_TXST (oBun b) = 1) with h0 | h1
      · rw [if_pos ⟨h0, hdoze, .inl hreq⟩, h0]
      · rw [if_neg (by omega), if_pos ⟨h1, hsleep, hreq⟩, h1]
    rw [hcmd, yields_next]
    refine ⟨(State.rdi_wri_same ..).trans (Nat.mod_eq_of_lt ?_), SameRegsBut.wri .refl, .of_mem rfl, rfl⟩
    change _ < 4; omega
  · have hcmd : exec (.sazorPowerIdleTimer b true) s = .next (s.wri SZL_PWR_RXST (oBun b) (s.rdi SZL_PWR_RXST (oBun b) + 1)) := by
      change execSazorPowerIdleTimer b true s = _
      rw [execSazorPowerIdleTimer, if_neg (by simp [hup]), if_pos rfl, if_pos hst]
    rw [hcmd, yields_next]
    refine ⟨(State.rdi_wri_same ..).trans (Nat.mod_eq_of_lt ?_), SameRegsBut.wri .refl, .of_mem rfl⟩
    change _ < 4; omega
  · have hcmd : exec (.sazorTxWake b) s = .next (bundleSendAll b (s.wri SZL_PWR_TXST (oBun b) 0)) :=
      (if_pos (.inl htxq)).trans (congrArg Host.Outcome.next (if_pos hst))
    obtain ⟨hregs, hmem⟩ := bundleSendAll_frame b (s.wri SZL_PWR_TXST (oBun b) 0)
    rw [hcmd, yields_next]
    exact ⟨(State.rdi_of_regs hregs ..).trans (State.rdi_wri_same ..), SameRegsBut.congr (SameRegsBut.wri .refl) hregs, .of_mem hmem⟩
  · let w := pwrWritten b v.toNat s
    have hen' : w.rdi SZL_BCTL_EN (oBun b) = 1 := (pwrWritten_rdi (by decide) (by decide) (by decide) ..).trans hen
    let x := (setSzl b 1 w).wri SZL_PWR_TXST (oBun b) 3
    obtain ⟨u, hu, hmem, hreplay, htxq, hregs⟩ := bundleFail_pumps b (showStr b x)
    have hcmd : exec (.sazorPwrWrite b v) s = .next (bundleFail b (showStr b x)) := by
      change Host.Outcome.next (szlPwrWrite b v.toNat s) = _
      have hwrite : szlPwrWrite b v.toNat s = bundleFail b (showStr b ((if w.rdi SZL_BCTL_EN (oBun b) = 1 then setSzl b 1 w else w).wri SZL_PWR_TXST (oBun b) 3)) := if_pos ⟨hv, hreq⟩
      rw [hwrite, if_pos hen']
    have hrd : ∀ {f : Fld}, WLT_ERRCNT_COUNT.adr < f.adr → f.key 0 ≠ SZL_BSTAT_STRUP.key 0 → u.rdi f (oBun b) = x.rdi f (oBun b) :=
      fun hadr hk => (hregs _ _ (key_szl_ne_errcnt hadr _)).trans (showStr_rdi hk ..)
    refine ⟨u, hcmd.trans (congrArg _ hu), ?_, (hrd (by decide) (by decide)).trans (State.rdi_wri_same ..), hreplay, htxq, .of_mem (hmem.trans (showStr_frame ..).1)⟩
    exact (hrd (by decide) (by decide)).trans ((State.rdi_wri_off _ (by decide) _ _).trans (State.rdi_wri_same ..))
  · let w := pwrWritten b v.toNat s
    have hen' : w.rdi SZL_BCTL_EN (oBun b) = 1 := (pwrWritten_rdi (by decide) (by decide) (by decide) ..).trans hen
    have hcmd : exec (.sazorPwrWrite b v) s = .next ((setSzl b 2 w).wri SZL_PWR_TXST (oBun b) 0) := by
      change Host.Outcome.next (szlPwrWrite b v.toNat s) = _
      have hwrite : szlPwrWrite b v.toNat s = (if w.rdi SZL_BCTL_EN (oBun b) = 1 then setSzl b 2 w else w).wri SZL_PWR_TXST (oBun b) 0 :=
        (if_neg fun h => hv h.1).trans (if_pos ⟨hv, hreq⟩)
      rw [hwrite, if_pos hen']
    rw [hcmd, yields_next]
    have hrd : ∀ {f : Fld}, f.key 0 ≠ SZL_PWR_TXST.key 0 → f.key 0 ≠ SZL_BSTAT_STATE.key 0 → ((setSzl b 2 w).wri SZL_PWR_TXST (oBun b) 0).rdi f (oBun b) = w.rdi f (oBun b) :=
      fun h1 h2 => (State.rdi_wri_off _ h1 _ _).trans (State.rdi_wri_off _ h2 _ _)
    refine ⟨?_, State.rdi_wri_same .., ?_, ?_, .of_mem rfl⟩
    · exact (State.rdi_wri_off (f := SZL_PWR_TXST) _ (by decide) _ _).trans (State.rdi_wri_same ..)
    · exact (hrd (by decide) (by decide)).trans ((State.rdi_wri_off _ (by decide) _ _).trans ((State.rdi_wri_same ..).trans (bits_mod ..)))
    · exact (hrd (by decide) (by decide)).trans ((State.rdi_wri_same ..).trans (bits_mod ..))
  · have hcmd : exec (.sazorPatternTest b v errs) s = .next (s.wri SZL_TEST_STATUS (oBun b) ST_SZL_NOTHOLD) := congrArg Host.Outcome.next (if_pos hmode)
    rw [hcmd, yields_next]
    exact ⟨State.rdi_wri_same .., SameRegsBut.wri .refl, .of_mem rfl⟩
  · obtain ⟨w, hw⟩ : ∃ w, w = if s.rdi SZL_TEST_CHK (oBun b) = 1 then (List.range 8).foldl (laneErrors b errs) s else s := ⟨_, rfl⟩
    have hwmem : w.mem = s.mem := by
      rw [hw]
      split
      · exact (laneErrors_frame errs 8 s).1
      · rfl
    obtain ⟨t, ht⟩ : ∃ t, t = if w.rdi SZL_TEST_GEN (oBun b) = 1 ∧ bit v.toNat 15 = 0 then szlRetrain b (showStr b (testWritten b v.toNat w)) else showStr b (testWritten b v.toNat w) := ⟨_, rfl⟩
    have hcmd : exec (.sazorPatternTest b v errs) s = .next t := by
      rw [ht, hw]
      exact congrArg Host.Outcome.next ((if_neg fun h => h hmode).trans (if_neg (by omega)))
    have hrd : ∀ {f : Fld} {o : Nat}, f.key o ≠ SZL_BSTAT_STATE.key (oBun b) → f.key o ≠ SZL_BSTAT_STRUP.key (oBun b) → t.rdi f o = (testWritten b v.toNat w).rdi f o := by
      intro f o hst hstr
      have hshow : (showStr b (testWritten b v.toNat w)).rdi f o = (testWritten b v.toNat w).rdi f o :=
        (State.rdi_of_regs (showStr_regs ..) ..).trans (State.rdi_wri_ne _ _ hstr)
      rw [ht]
      split
      · exact (szlRetrain_rdi hst hstr _).trans hshow
      · exact hshow
    have htest : ∀ {f : Fld}, f.key 0 ≠ SZL_BSTAT_STATE.key 0 → f.key 0 ≠ SZL_BSTAT_STRUP.key 0 → t.rdi f (oBun b) = (testWritten b v.toNat w).rdi f (oBun b) :=
      fun h1 h2 => hrd (Fld.key_ne_off h1 _) (Fld.key_ne_off h2 _)
    obtain ⟨hstatus, hgen, hchk, hpattern, hmask⟩ := testWritten_shown b v.toNat w
    rw [hcmd, yields_next]
    refine ⟨(htest (by decide) (by decide)).trans hstatus, (htest (by decide) (by decide)).trans hgen, (htest (by decide) (by decide)).trans hchk,
      (htest (by decide) (by decide)).trans hpattern, (htest (by decide) (by decide)).trans hmask, fun l hl hcheck hlane => ?_, .of_mem ?_⟩
    · rw [hrd (key_count_ne_bstat (by decide)) (key_count_ne_bstat (by decide)), testWritten_count, hw, if_pos hcheck]
      exact laneErrors_counted hl hlane errs
    · rw [ht]
      split
      · exact (szlRetrain_mem ..).trans ((showStr_frame ..).1.trans hwmem)
      · exact (showStr_frame ..).1.trans hwmem
  · have hcmd : exec (.sazorErrorInject b v) s = .next (s.wri SZL_INJ_STATUS (oBun b) ST_SZL_NOTHOLD) :=
      congrArg Host.Outcome.next ((if_neg (by omega)).trans (if_pos hmode))
    rw [hcmd, yields_next]
    exact ⟨State.rdi_wri_same .., SameRegsBut.wri .refl, rfl, .of_mem rfl⟩
  · let w := ((s.wri SZL_INJ_KIND (oBun b) (bit v.toNat 14)).wri SZL_INJ_NSYM (oBun b) (bits v.toNat 8 6)).wri SZL_INJ_LANEMASK (oBun b) (bits v.toNat 0 8)
    have hcmd : exec (.sazorErrorInject b v) s =
        .next ((w.wri SZL_INJ_STATUS (oBun b) 0).modBundle b fun x => { x with inject := some (bit v.toNat 14, bits v.toNat 8 6, bits v.toNat 0 8) }) :=
      congrArg Host.Outcome.next ((if_neg (by omega)).trans ((if_neg fun h => h hmode).trans (if_neg (by omega))))
    rw [hcmd, yields_next]
    refine ⟨w.rdi_wri_same SZL_INJ_STATUS (oBun b) 0, ?_, .of_mem rfl⟩
    rw [State.bundle_modBundle]

end Sys2Proof.Machine

namespace Sys2Proof.Machine

set_option Elab.async false

/-! Injection of requests (R161 to R163, R174) -/

section
variable {s t : State} {q : Req}

/-- The row of a request of any op presents it. -/
theorem exec_reqRow {x : Nat × (Req → Instr)} (h : x ∈ reqRows) (q : Req) (s : State) : exec (x.2 q) s = .next (weltRow x.1 q s) := by
  simp only [reqRows, List.mem_cons, List.not_mem_nil, or_false] at h
  rcases h with rfl | rfl | rfl | rfl | rfl | rfl | rfl | rfl | rfl | rfl | rfl | rfl <;> rfl

theorem weltRow_sends (h : canSend s q.src = true) (op : Nat) : weltRow op q s = settle (pump (present { q with op } s)) := if_pos h

theorem settle_of_no_held (h : s.welt.held = []) : settle s = s := by
  unfold settle
  rw [h]; rfl

/-- Where nothing waits the pump moves nothing. -/
theorem pump_of_netIdle (h : NetIdle s) : pump s = s := by
  obtain ⟨hwait, hheld, hstreams, hbusy⟩ := h
  have hplace : placeStreams s = s := by
    unfold placeStreams
    rw [hstreams]
    change { s with eth := { s.eth with streams := [] } } = s
    rw [← hstreams]
  unfold pump
  rw [hplace]
  exact if_pos ⟨hheld, hwait, hbusy⟩

theorem NetIdle.settles (h : NetIdle s) : settle (pump s) = s := by
  rw [pump_of_netIdle h, settle_of_no_held h.2.1]

/-- Idleness speaks of the waiting requests, the streams, the cores and the PCIe port. -/
theorem NetIdle.congr (h : NetIdle s) (hwait : t.welt.wait = s.welt.wait) (hheld : t.welt.held = s.welt.held) (heth : t.eth = s.eth) (hcores : t.cores = s.cores)
    (hpcie : t.pcie = s.pcie) : NetIdle t := by
  unfold NetIdle busyPorts at *
  rw [hwait, hheld, heth, hcores, hpcie]
  exact h

/-- A request counts in the statistics alone. -/
theorem statUnits_eq (q : Req) (s : State) : ∃ live, statUnits q s = { s with welt := { s.welt with live } } := by
  unfold statUnits statAdd
  dsimp only
  split_ifs <;> exact ⟨_, rfl⟩

theorem opClass_of_injectCheck {dst : Nat} (h : injectCheck s q = .inr dst) : opClass q.op = some q.cls := by
  by_contra hc
  rw [injectCheck, if_pos (.inl hc)] at h
  exact absurd h (by simp)

/-- The state in which a request that its port has taken is served: its tag, if it has one, is outstanding, and it is counted. -/
def Taken (out : List Outst) (s t : State) : Prop := ∃ live, t = { s with welt := { s.welt with out := out, live } }

theorem Taken.frame {out : List Outst} (h : Taken out s t) : t.mem = s.mem ∧ t.regs = s.regs ∧ t.cores = s.cores ∧ t.welt.out = out ∧ t.welt.resps = s.welt.resps ∧
    t.welt.stamp = s.welt.stamp ∧ t.welt.inbox = s.welt.inbox ∧ t.modes = s.modes := by
  obtain ⟨live, rfl⟩ := h
  exact ⟨rfl, rfl, rfl, rfl, rfl, rfl, rfl, rfl⟩

/-- A request with a response is taken with its tag, and served. -/
theorem present_tagged {dst : Nat} (hwait : s.welt.wait = []) (hopen : portsClosed s = false) (hepoch : s.rd WLT_EPOCH_STATE ≠ 3) (htag : TagFree q.src q.tag s)
    (hcheck : injectCheck s q = .inr dst) (hcls : opClass q.op = some 1) (hpost : opPosted q.op = false) :
    ∃ u, Taken (s.welt.out ++ [⟨q.src, q.tag, q.op, dst, q.addr⟩]) s u ∧ present q s = serveOrHold { q with dst, epoch := s.welt.stamp } u := by
  have hq : q.cls = 1 := Option.some.inj ((opClass_of_injectCheck hcheck).symm.trans hcls)
  have hmoved : movedHold s dst = false := by simp [movedHold, hepoch]
  obtain ⟨hfree, hroom⟩ := htag
  have htags : ¬ (tagBusy s q.src q.tag = true ∨ 4096 ≤ outOf s q.src) := by simp [hfree, hroom]
  have htry : tryInject q s = some (serveOrHold { q with dst, epoch := s.welt.stamp } (statUnits { q with dst, epoch := s.welt.stamp }
      (s.modWelt fun w => { w with out := w.out ++ [⟨q.src, q.tag, q.op, dst, q.addr⟩] }))) := by
    unfold tryInject
    rw [if_neg (by simp [hopen]), hcheck]
    dsimp only
    rw [if_neg (by omega), if_neg (by simp [hmoved]), if_neg (by simp [hpost]), if_neg htags]
  obtain ⟨live, hlive⟩ := statUnits_eq { q with dst, epoch := s.welt.stamp } (s.modWelt fun w => { w with out := w.out ++ [⟨q.src, q.tag, q.op, dst, q.addr⟩] })
  refine ⟨_, ⟨live, rfl⟩, ?_⟩
  rw [present, hwait, htry, hlive]
  rfl

/-- A posted request of class 1 is served without a tag. -/
theorem present_posted {dst : Nat} (hwait : s.welt.wait = []) (hopen : portsClosed s = false) (hepoch : s.rd WLT_EPOCH_STATE ≠ 3)
    (hcheck : injectCheck s q = .inr dst) (hcls : opClass q.op = some 1) (hpost : opPosted q.op = true) :
    ∃ u, Taken s.welt.out s u ∧ present q s = serveOrHold { q with dst, epoch := s.welt.stamp } u := by
  have hq : q.cls = 1 := Option.some.inj ((opClass_of_injectCheck hcheck).symm.trans hcls)
  have hmoved : movedHold s dst = false := by simp [movedHold, hepoch]
  have htry : tryInject q s = some (serveOrHold { q with dst, epoch := s.welt.stamp } (statUnits { q with dst, epoch := s.welt.stamp } s)) := by
    unfold tryInject
    rw [if_neg (by simp [hopen]), hcheck]
    dsimp only
    rw [if_neg (by omega), if_neg (by simp [hmoved]), if_pos hpost]
  obtain ⟨live, hlive⟩ := statUnits_eq { q with dst, epoch := s.welt.stamp } s
  refine ⟨_, ⟨live, rfl⟩, ?_⟩
  rw [present, hwait, htry, hlive]
  rfl

theorem serveOrHold_ok {v : Nat} (hheld : s.welt.held = []) (h : serveAt q s = (.ok v, t)) : serveOrHold q s = answer q v t := by
  unfold serveOrHold
  rw [hheld, h]; rfl

theorem serveOrHold_err {st : Nat} (hheld : s.welt.held = []) (h : serveAt q s = (.err st, t)) : serveOrHold q s = refuse q st t := by
  unfold serveOrHold
  rw [hheld, h]; rfl

theorem serveOrHold_wait {w : Why} (hheld : s.welt.held = []) (h : serveAt q s = (.wait w, t)) : serveOrHold q s = hold q w t := by
  unfold serveOrHold
  rw [hheld, h]; rfl

theorem NetIdle.answer (h : NetIdle s) {v : Nat} : NetIdle (answer q v s) := by
  unfold Machine.answer
  split
  · exact h
  · exact h.congr rfl rfl rfl rfl rfl

theorem NetIdle.toInbox (h : NetIdle s) {e : Nat} : NetIdle (toInbox e q s) := h.congr rfl rfl rfl rfl rfl

theorem hold_frame (q : Req) (why : Why) (s : State) : (hold q why s).mem = s.mem ∧ (hold q why s).welt = { s.welt with held := s.welt.held ++ [⟨q, why⟩] } := ⟨rfl, rfl⟩

theorem toInbox_frame (e : Nat) (q : Req) (s : State) : (toInbox e q s).mem = s.mem ∧ (toInbox e q s).welt = { s.welt with inbox := tabMod [] s.welt.inbox e fun l => l ++ [q] } :=
  ⟨rfl, rfl⟩

theorem NetIdle.refuse (h : NetIdle s) {st : Nat} : NetIdle (refuse q st s) := by
  unfold Machine.refuse
  split_ifs <;> exact h.congr rfl rfl rfl rfl rfl

/-- The answer to a request that is not posted joins the responses. -/
theorem answer_welt (h : opPosted q.op = false) (v : Nat) (s : State) :
    (answer q v s).welt = { s.welt with resps := s.welt.resps ++ [⟨q.src, q.dst, q.tag, opAnswer q.op, 0, v,
      if q.op = RD then q.uidx + 1 else if opAnswer q.op = WRA then 0 else 1, s.welt.stamp⟩] } := by
  rw [answer, if_neg (by simp [h])]; rfl

theorem answer_mem (q : Req) (v : Nat) (s : State) : (answer q v s).mem = s.mem ∧ (answer q v s).regs = s.regs ∧ (answer q v s).cores = s.cores := by
  unfold answer
  split <;> exact ⟨rfl, rfl, rfl⟩

/-- The refusal of a request that is not posted joins the responses as an ERR. -/
theorem refuse_spec (h : opPosted q.op = false) (st : Nat) (s : State) :
    (refuse q st s).welt.resps = s.welt.resps ++ [⟨q.src, q.dst, q.tag, ERR, st, st, 1, s.welt.stamp⟩] ∧ (refuse q st s).welt.locks = s.welt.locks ∧
      (refuse q st s).cores = s.cores ∧ (refuse q st s).mem = s.mem := by
  rw [refuse, if_neg (by simp [h])]
  split_ifs <;> exact ⟨rfl, rfl, rfl, rfl⟩

/-- A request refused at the port of an endpoint whose completions are its own completes there with ERR. -/
theorem refuseInject_spec (h : PlainPort q.src) (st : Nat) (s : State) :
    tabGet {} (refuseInject q st s).welt.comp q.src = ⟨q.tag, ERR, st, 0⟩ ∧ (refuseInject q st s).welt.out = s.welt.out ∧ (refuseInject q st s).welt.wait = s.welt.wait ∧
      (refuseInject q st s).rd WLT_ERRCNT_COUNT = min (s.rd WLT_ERRCNT_COUNT + 1) (2 ^ WLT_ERRCNT_COUNT.w - 1) ∧
      SameRegsBut [WLT_ERRCNT_COUNT.key 0] s (refuseInject q st s) ∧ SameMem s (refuseInject q st s) := by
  obtain ⟨hcore, h0, h1, hpcie, hmgmt⟩ := h
  obtain ⟨live, hlive⟩ := statUnits_eq q s
  have hfinish : refuseInject q st s = complete q.src q.tag ERR st 0 (weltLog 6 (q.op % 64) st q.src q.dst { s with welt := { s.welt with live } }) := by
    rw [refuseInject, hlive, finishAt, if_neg (by simp [h0, h1]), if_neg hpcie, if_neg hmgmt, if_neg (by simp [hcore])]
  rw [hfinish]
  exact ⟨tabGet_set_same .., rfl, rfl, State.rdi_addi_same .., SameRegsBut.congr (SameRegsBut.addi (f := WLT_ERRCNT_COUNT) (o := 0) (n := 1) .refl) rfl, .of_mem rfl⟩
end

/-- Settles O26: what becomes of a request is decided at its port, the same way for every op. -/
theorem weltInjection : Obligations.WeltInjection := by
  unfold Obligations.WeltInjection
  refine ⟨fun x hx s q hsend hclosed => ?_, fun x hx s q st hsend hopen hplain hwait hcheck => ?_, fun x hx s q hsend => ?_⟩
  · refine ⟨s.modWelt fun w => { w with wait := w.wait ++ [{ q with op := x.1 }] }, ?_, rfl, rfl, .of_regs rfl _, .of_mem rfl⟩
    have htry : tryInject { q with op := x.1 } s = none := if_pos hclosed
    rw [exec_reqRow hx, weltRow_sends hsend, present, htry]
    split_ifs <;> rfl
  · obtain ⟨hcomp, hout, hw, hcount, hregs, hmem⟩ := refuseInject_spec (q := { q with op := x.1 }) hplain st s
    have hnone : ¬ (s.welt.wait.any fun y => y.src == q.src && y.cls == q.cls) = true := by
      simp only [List.any_eq_true, Bool.and_eq_true, beq_iff_eq, not_exists, not_and]
      exact fun w hw hsrc hcls => (hwait w hw).elim (fun h => h hsrc) fun h => h hcls
    have htry : tryInject { q with op := x.1 } s = some (refuseInject { q with op := x.1 } st s) := by
      unfold tryInject
      rw [if_neg (by simp [hopen]), hcheck]
    refine ⟨refuseInject { q with op := x.1 } st s, ?_, hcomp, hout, hw, hcount, hregs, hmem⟩
    rw [exec_reqRow hx, weltRow_sends hsend, present, htry]
    exact congrArg (fun u => Host.Outcome.next (settle (pump u))) (if_neg hnone)
  · rw [exec_reqRow hx]
    exact congrArg Host.Outcome.next (if_neg (by simp [hsend]))

end Sys2Proof.Machine

namespace Sys2Proof.Machine

set_option Elab.async false

/-! Requests to a region (R108, R161, R162, R250) -/

section
variable {s t : State} {q : Req} {d r : Nat}

theorem epOf_parts (hr : r < 32) {k : Nat} (hk : k < 4) : epDie (epOf d r k) = d ∧ epRegion (epOf d r k) = r ∧ epLocal (epOf d r k) % 4 = k ∧ epLocal (epOf d r k) < 128 := by
  unfold epRegion epDie epLocal epOf
  omega

theorem epOf_inRegion (hd : d < 12) (hr : r < 32) {k : Nat} (hk : k < 4) : epInRegion (epOf d r k) = true := by
  obtain ⟨h1, -, -, h4⟩ := epOf_parts (d := d) hr hk
  simp [epInRegion, h1, h4, hd]

/-- A wake of the networks changes registers of the region's clocks, and idle counts. -/
theorem wakeAll_eq (d r src : Nat) (s : State) : ∃ regs regions, wakeAll d r src s = { s with regs, regions } := by
  unfold wakeAll
  refine List.foldlRecOn (motive := fun t : State => ∃ regs regions, t = { s with regs, regions }) _ _ ⟨_, _, rfl⟩ fun t ht k _ => ?_
  obtain ⟨regs, regions, rfl⟩ := ht
  unfold wakeNet
  extract_lets en s1
  split_ifs <;> exact ⟨_, _, rfl⟩

theorem wakeAll_frame (d r src : Nat) (s : State) : (wakeAll d r src s).welt = s.welt ∧ (wakeAll d r src s).mem = s.mem ∧ (wakeAll d r src s).cores = s.cores ∧
    (wakeAll d r src s).eth = s.eth ∧ (wakeAll d r src s).pcie = s.pcie := by
  obtain ⟨regs, regions, heq⟩ := wakeAll_eq d r src s
  rw [heq]
  exact ⟨rfl, rfl, rfl, rfl, rfl⟩

theorem NetIdle.wakeAll (h : NetIdle s) {src : Nat} : NetIdle (wakeAll d r src s) := by
  obtain ⟨hwelt, -, hcores, heth, hpcie⟩ := wakeAll_frame d r src s
  exact h.congr (congrArg Welt.wait hwelt) (congrArg Welt.held hwelt) heth hcores hpcie

/-- The clock registers of a region lie in the first half of its die's block. -/
theorem wakeAll_rdi (hr : r < 32) {f : Fld} {o : Nat} (hlo : f.lo < 32) (h : f.adr + o < 0x1000000 ∨ 0x20000 ≤ (f.adr + o) % 0x100000) (src : Nat) (s : State) :
    (wakeAll d r src s).rdi f o = s.rdi f o := by
  have hrun : f.key o ≠ FDC_RSTAT_CLKRUN.key (oReg d r) := Fld.key_ne_of_adr (by decide) hlo (by change 0x1010000 + (d * 0x100000 + r * 0x100) ≠ _; omega)
  have hcount : f.key o ≠ FDC_RWAKES_COUNT.key (oReg d r) := Fld.key_ne_of_adr (by decide) hlo (by change 0x1010008 + (d * 0x100000 + r * 0x100) ≠ _; omega)
  unfold wakeAll
  refine List.foldlRecOn (motive := fun t : State => t.rdi f o = s.rdi f o) _ _ rfl fun t ht k _ => ?_
  unfold wakeNet
  extract_lets en s1
  split_ifs
  · exact ht
  · rw [State.inci, State.rdi_addi_ne _ _ hcount, setRun_rdi hrun]
    exact ht
  · exact ht

theorem opAnswer_rd : opAnswer RD = RDR := rfl

/-- A memory whose words are good reads without an event. -/
theorem WordMem.reads_clean (m : WordMem) {ws : List Nat} (hmark : ∀ a ∈ ws, m.mark a s = 0) (hcheck : ∀ a ∈ ws, m.check a s = s) : m.reads ws s = (true, s) := by
  unfold WordMem.reads
  refine List.foldlRecOn (motive := fun x : Bool × State => x = (true, s)) ws _ rfl fun x hx a ha => ?_
  subst hx
  simp [hmark a ha, hcheck a ha]

theorem byte_rdMem (s : State) (n a : Nat) {i : Nat} (hi : i < n) : s.rdMem n a / 256 ^ i % 256 = s.rdByte (a + i) := by
  induction n generalizing a i with
  | zero => omega
  | succ n ih =>
    have hb := s.rdByte_lt a
    cases i with
    | zero => simp only [State.rdMem, pow_zero, Nat.div_one, Nat.add_zero]; omega
    | succ i =>
      rw [State.rdMem, pow_succ', ← Nat.div_div_eq_div_mul, show (s.rdByte a + 256 * s.rdMem n (a + 1)) / 256 = s.rdMem n (a + 1) by omega, ih (a + 1) (by omega)]
      congr 1; omega

/-- The bytes that an RD names, at their places. -/
theorem byte_rdBytes {i : Nat} (hlo : q.bfirst ≤ i) (hhi : i ≤ 64 * q.uidx + q.blast) (s : State) : rdBytes q s / 256 ^ i % 256 = s.rdByte (q.addr + i) := by
  obtain ⟨j, rfl⟩ := Nat.exists_eq_add_of_le hlo
  unfold rdBytes rdLast
  rw [pow_add, ← Nat.div_div_eq_div_mul, Nat.mul_div_cancel _ (Nat.pow_pos (by decide)), byte_rdMem _ _ _ (by omega)]
  congr 1; omega

theorem aligned_of_injectCheck {dst : Nat} (h : injectCheck s q = .inr dst) : aligned q = true := by
  by_contra ha
  rw [Bool.not_eq_true] at ha
  simp only [injectCheck, ha, if_true] at h
  split_ifs at h
  split at h <;> simp at h

/-- An RD that passes its checks lies in one block of 256 bytes. -/
theorem injectCheck_rd_block {dst : Nat} (h : injectCheck s { q with op := RD } = .inr dst) : q.addr % 64 = 0 ∧ q.addr % 256 + 64 * q.uidx + q.blast < 256 := by
  have ha := aligned_of_injectCheck h
  simp [aligned, show opMsg RD = false from rfl] at ha
  omega

theorem mem_rdWords {n a : Nat} (hn : 0 < n) (h : a ∈ rdWords n q) : a % n = 0 ∧ (q.addr + q.bfirst) / n ≤ a / n ∧ a / n ≤ (q.addr + rdLast q) / n := by
  simp only [rdWords, List.mem_map, List.mem_range] at h
  obtain ⟨i, hi, rfl⟩ := h
  rw [Nat.mul_mod_left, Nat.mul_div_cancel _ hn]
  omega

/-- An RD of a memory of words that are good is answered with its bytes. -/
theorem WordMem.serve_rd (m : WordMem) (hop : q.op = RD) (hmark : ∀ a ∈ rdWords m.n q, m.mark a s = 0) (hcheck : ∀ a ∈ rdWords m.n q, m.check a s = s) :
    m.serve q s = (.ok (rdBytes q s), s) := by
  unfold WordMem.serve
  rw [if_pos hop, m.reads_clean hmark hcheck]
  rfl

/-- An endpoint of a region that is in service. -/
def Serving (d r k : Nat) (q : Req) (s : State) : Prop :=
  d < 12 ∧ r < 32 ∧ k < 4 ∧ q.dst = epOf d r k ∧ endpointsOn s d r = true ∧ (s.region (rix d r)).quiescing = false

theorem dieState_of_endpointsOn (h : endpointsOn s d r = true) : s.rdi GLB_DIESTAT_STATE (4 * d) = 1 := by
  simp only [endpointsOn, Bool.and_eq_true, beq_iff_eq] at h
  obtain ⟨⟨⟨hstate, -⟩, -⟩, -⟩ := h
  exact hstate

theorem serveAt_bank (h : Serving d r 2 q s) (hop : opMsg q.op = false) : serveAt q s = bankServe q s := by
  obtain ⟨hd, hr, hk, hdst, hon, hq⟩ := h
  obtain ⟨hdie, hregion, hkind, -⟩ := epOf_parts (d := d) hr hk
  have hstate := dieState_of_endpointsOn hon
  simp [serveAt, hdst, hdie, hregion, hkind, epOf_inRegion hd hr hk, hstate, hon, hq, hop]

theorem serveAt_msg (h : Serving d r 3 q s) (hop : opMsg q.op = true) (hclamp : (1, d, r) ∉ s.modes.clamped) :
    serveAt q s = (if (coreMsg (rix d r) q.addr s).1 then .ok 0 else .err ST_AWL_MSGFULL, (coreMsg (rix d r) q.addr s).2) := by
  obtain ⟨hd, hr, hk, hdst, hon, hq⟩ := h
  obtain ⟨hdie, hregion, hkind, -⟩ := epOf_parts (d := d) hr hk
  have hcore : epCore (epOf d r 3) = rix d r := by rw [epCore, hdie, hregion]; rfl
  have hstate := dieState_of_endpointsOn hon
  simp [serveAt, hdst, hdie, hregion, hkind, epOf_inRegion hd hr hk, hstate, hon, hq, hop, hclamp, hcore]

theorem serveAt_user {k : Nat} (h : Serving d r k q s) (hk : k < 2) (hop : opAtomic q.op = false ∧ opLock q.op = false) :
    serveAt q s = if opPosted q.op then (.ok 0, toInbox q.dst q (wakeAll d r 0 s)) else (.wait .design, wakeAll d r 0 s) := by
  obtain ⟨hd, hr, hk4, hdst, hon, hq⟩ := h
  obtain ⟨hdie, hregion, hkind, -⟩ := epOf_parts (d := d) hr hk4
  have hstate := dieState_of_endpointsOn hon
  rcases (by omega : k = 0 ∨ k = 1) with rfl | rfl <;>
    simp [serveAt, hdst, hdie, hregion, hkind, epOf_inRegion hd hr hk4, hstate, hon, hq, hop]

theorem State.core_wri (s : State) (f : Fld) (o v c : Nat) : (s.wri f o v).core c = s.core c := rfl

/-- A change of state of a core keeps its messages. -/
theorem setAwlState_msgq (c v : Nat) (s : State) : ((setAwlState c v s).core c).msgq = (s.core c).msgq := by
  unfold setAwlState wdSettle
  extract_lets rest
  clear_value rest
  generalize s.clocks.elapsed - rest = at_
  generalize wdNow s c = n
  rw [State.core_wri, State.core_modCore]
  rfl

theorem coreMsg_full {c : Nat} (h : 16 ≤ (s.core c).msgq.length) (addr : Nat) : coreMsg c addr s = (false, s) := if_pos h

/-- A message that a core has room for joins its FIFO and may wake it. -/
theorem coreMsg_room {c : Nat} (h : (s.core c).msgq.length < 16) (addr : Nat) :
    ∃ u, coreMsg c addr s = (true, u) ∧ (u.core c).msgq = (s.core c).msgq ++ [bits addr 5 32] ∧ u.welt = s.welt ∧ u.mem = s.mem := by
  refine ⟨_, if_neg (by omega), ?_⟩
  unfold raiseSoft wakeWait
  split
  · refine ⟨?_, rfl, rfl⟩
    rw [setAwlState_msgq, State.core_modCore, State.core_modCore]
  · refine ⟨?_, rfl, rfl⟩
    rw [State.core_modCore, State.core_modCore]

/-- A state that differs in the network's tags and statistics alone serves as the one before. -/
theorem Taken.serving {out : List Outst} (h : Taken out s t) {k : Nat} (hs : Serving d r k q s) : Serving d r k q t := by
  obtain ⟨live, rfl⟩ := h
  exact hs

theorem Taken.netIdle {out : List Outst} (h : Taken out s t) (hs : NetIdle s) : NetIdle t := by
  obtain ⟨live, rfl⟩ := h
  exact hs

theorem bankWord_block {a b : Nat} (h : a / 256 = b / 256) : bankOf a = bankOf b := by unfold bankOf; omega

theorem bankOf_lt (a : Nat) : bankOf a < 64 := by unfold bankOf; omega

/-- The health of a bank's words rests on its bank and its remaps. -/
theorem wordMark_wakeAll (hr : r < 32) {b : Nat} (hb : b < 64) (src w : Nat) (s : State) : wordMark (wakeAll d r src s) d r b w = wordMark s d r b w := by
  have hrd : ∀ {f : Fld} (e : Nat), e < 4 → f.adr = BNK_REMAP_VALID.adr ∧ f.lo < 32 → (wakeAll d r src s).rdi f (oBnk d r b + 4 * e) = s.rdi f (oBnk d r b + 4 * e) := by
    intro f e he hf
    obtain ⟨hadr, hlo⟩ := hf
    refine wakeAll_rdi hr hlo (.inr ?_) src s
    rw [hadr, show BNK_REMAP_VALID.adr = 0x1020010 from rfl, oBnk]
    omega
  have hremap : remapOf (wakeAll d r src s) d r b w = remapOf s d r b w := by
    have hfind : ∀ e ∈ List.range 4, (((wakeAll d r src s).rdi BNK_REMAP_VALID (oBnk d r b + 4 * e) == 1 && (wakeAll d r src s).rdi BNK_REMAP_ADDR (oBnk d r b + 4 * e) == w) =
        (s.rdi BNK_REMAP_VALID (oBnk d r b + 4 * e) == 1 && s.rdi BNK_REMAP_ADDR (oBnk d r b + 4 * e) == w)) := by
      intro e he
      have he := List.mem_range.1 he
      rw [hrd e he (by decide), hrd e he (by decide)]
    unfold remapOf
    rw [List.find?_congr hfind]
    cases hf : (List.range 4).find? fun e => s.rdi BNK_REMAP_VALID (oBnk d r b + 4 * e) == 1 && s.rdi BNK_REMAP_ADDR (oBnk d r b + 4 * e) == w with
    | none => rfl
    | some e => exact congrArg (fun x => some (e, x)) (hrd e (List.mem_range.1 (List.mem_of_find?_eq_some hf)) (by decide))
  obtain ⟨regs, regions, heq⟩ := wakeAll_eq d r src s
  have hbanks : (wakeAll d r src s).bank (bix d r b) = s.bank (bix d r b) := by rw [heq]; rfl
  rw [wordMark, wordMark, hbanks, physWord, physWord, hremap]

/-- A read of good words of a bank is answered with their bytes. -/
theorem bankMem_serve_rd (hop : q.op = RD) (hmark : ∀ a ∈ rdWords 8 q, wordMark s d r (bankOf a) (bankWordOf a) = 0) : (bankMem d r).serve q s = (.ok (rdBytes q s), s) := by
  refine WordMem.serve_rd _ hop hmark fun a ha => ?_
  have hcheck : bankChecked d r (bankOf a) (bankWordOf a) s = s := by simp only [bankChecked, hmark a ha]
  exact hcheck

/-- A bank that is ON with good words answers a read that no lock holds off. -/
theorem bankServe_rd (hd : d < 12) (hr : r < 32) (hdst : q.dst = epOf d r 2) (hop : q.op = RD) (hblock : q.addr % 256 + 64 * q.uidx + q.blast < 256) (hg0 : atG0 s d = false)
    (hsealed : (s.bank (bix d r (bankOf q.addr))).sealed = false) (hpwr : s.rdi BNK_STAT_PWR (oBnk d r (bankOf q.addr)) = 0) (hlock : lockedOff s q = false)
    (hmark : ∀ w, w < 1024 → wordMark s d r (bankOf q.addr) w = 0) : bankServe q s = (.ok (rdBytes q s), wakeAll d r 0 s) := by
  obtain ⟨hdie, hregion, -, -⟩ := epOf_parts (d := d) hr (show 2 < 4 by decide)
  have hmark' : ∀ a ∈ rdWords 8 q, wordMark (wakeAll d r 0 s) d r (bankOf a) (bankWordOf a) = 0 := by
    intro a ha
    obtain ⟨-, hlo, hhi⟩ := mem_rdWords (by decide) ha
    have hsame : bankOf a = bankOf q.addr := bankWord_block (by unfold rdLast at hhi; omega)
    rw [hsame, wordMark_wakeAll hr (bankOf_lt _)]
    exact hmark _ (by unfold bankWordOf; omega)
  have hserve : (bankMem d r).serve q (wakeAll d r 0 s) = (.ok (rdBytes q (wakeAll d r 0 s)), wakeAll d r 0 s) := bankMem_serve_rd hop hmark'
  obtain ⟨regs, regions, heq⟩ := wakeAll_eq d r 0 s
  have hbytes : rdBytes q (wakeAll d r 0 s) = rdBytes q s := by rw [rdBytes, rdMem_congr (wakeAll_spec ..).2, rdBytes]
  have hbank : ((wakeAll d r 0 s).bank (bix d r (bankOf q.addr))).sealed = false := by rw [heq]; exact hsealed
  have hg0' : atG0 (wakeAll d r 0 s) d = false := by
    rw [← hg0, atG0, atG0, wakeAll_rdi hr (by decide) (.inl (by change 0x30100 + 4 * d < _; omega)), wakeAll_rdi hr (by decide) (.inl (by change 0x30100 + 4 * d < _; omega))]
  have hjudge : lockJudge q (wakeAll d r 0 s) = none := by
    have hl : lockedOff (wakeAll d r 0 s) q = false := by rw [heq]; exact hlock
    simp [lockJudge, hop, hl, show RD ≠ ULWR by decide, show RD ≠ UNL by decide, show RD ≠ LRD by decide]
  simp [bankServe, hdst, hdie, hregion, hbank, hg0', hpwr, hjudge, hserve, hbytes]

/-- A read that its bank's port has taken is answered with the bytes it names. -/
theorem Taken.serveAt_rd {out : List Outst} (h : Taken out s t) (hs : Serving d r 2 q s) (hop : q.op = RD) (hblock : q.addr % 256 + 64 * q.uidx + q.blast < 256) (hg0 : atG0 s d = false)
    (hsealed : (s.bank (bix d r (bankOf q.addr))).sealed = false) (hpwr : s.rdi BNK_STAT_PWR (oBnk d r (bankOf q.addr)) = 0) (hlock : lockedOff s q = false)
    (hmark : ∀ w, w < 1024 → wordMark s d r (bankOf q.addr) w = 0) : serveAt q t = (.ok (rdBytes q s), wakeAll d r 0 t) := by
  have ht := h.serving hs
  obtain ⟨hd, hr, -, hdst, -, -⟩ := hs
  have hbytes : rdBytes q t = rdBytes q s := by
    rw [rdBytes, rdMem_congr h.frame.1, rdBytes]
  rw [serveAt_bank ht (by rw [hop]; rfl), ← hbytes]
  obtain ⟨live, rfl⟩ := h
  exact bankServe_rd hd hr hdst hop hblock hg0 hsealed hpwr hlock hmark

/-- A message that its port has taken joins the FIFO of a core with room for it. -/
theorem Taken.serveAt_msg_room {out : List Outst} (h : Taken out s t) (hs : Serving d r 3 q s) (hop : opMsg q.op = true) (hclamp : (1, d, r) ∉ s.modes.clamped)
    (hroom : (s.core (rix d r)).msgq.length < 16) :
    ∃ u, serveAt q t = (.ok 0, u) ∧ (u.core (rix d r)).msgq = (s.core (rix d r)).msgq ++ [bits q.addr 5 32] ∧ u.welt = t.welt ∧ u.mem = t.mem := by
  have ht := h.serving hs
  obtain ⟨-, -, hcores, -, -, -, -, hmodes⟩ := h.frame
  have hcore : t.core (rix d r) = s.core (rix d r) := by rw [State.core, hcores, State.core]
  obtain ⟨u, hmsg, hq, hwelt, hmem⟩ := coreMsg_room (hcore ▸ hroom) q.addr
  refine ⟨u, ?_, hcore ▸ hq, hwelt, hmem⟩
  rw [serveAt_msg ht hop (hmodes ▸ hclamp), hmsg]
  rfl

theorem Taken.serveAt_msg_full {out : List Outst} (h : Taken out s t) (hs : Serving d r 3 q s) (hop : opMsg q.op = true) (hclamp : (1, d, r) ∉ s.modes.clamped)
    (hfull : 16 ≤ (s.core (rix d r)).msgq.length) : serveAt q t = (.err ST_AWL_MSGFULL, t) := by
  have ht := h.serving hs
  obtain ⟨-, -, hcores, -, -, -, -, hmodes⟩ := h.frame
  have hcore : t.core (rix d r) = s.core (rix d r) := by rw [State.core, hcores, State.core]
  rw [serveAt_msg ht hop (hmodes ▸ hclamp), coreMsg_full (hcore ▸ hfull)]
  rfl
end

/-- Settles O28: a request that its port takes is served by the kind of its endpoint, and nothing that waits is there to move. -/
theorem regionRequests : Obligations.RegionRequests := by
  unfold Obligations.RegionRequests
  refine ⟨fun s q d r hd hr _ hidle hport htag hcheck hon hq hg0 hsealed hpwr hlock hmark => ?_, fun s q d r hd hr hidle hport htag hcheck hon hq hclamp hroom => ?_,
    fun s q d r hd hr hidle hport htag hcheck hon hq hclamp hfull => ?_, fun s q d r k hd hr hk hidle hport htag hcheck hon hq => ?_, fun s q d r k hd hr hk hidle hport hcheck hon hq => ?_⟩
  all_goals obtain ⟨hsend, hopen, hepoch⟩ := hport
  · obtain ⟨u, htaken, hpresent⟩ := present_tagged (q := { q with op := RD }) hidle.1 hopen hepoch htag hcheck rfl rfl
    have hserve : serveAt { q with op := RD, dst := epOf d r 2, epoch := s.welt.stamp } u = (.ok (rdBytes q s), wakeAll d r 0 u) :=
      htaken.serveAt_rd (q := { q with op := RD, dst := epOf d r 2, epoch := s.welt.stamp }) ⟨hd, hr, by decide, rfl, hon, hq⟩ rfl (injectCheck_rd_block hcheck).2 hg0 hsealed hpwr hlock hmark
    have hidle' : NetIdle u := htaken.netIdle hidle
    obtain ⟨hwelt, hmem, -⟩ := wakeAll_frame d r 0 u
    have hcmd : exec (.rd q) s = .next (answer { q with op := RD, dst := epOf d r 2, epoch := s.welt.stamp } (rdBytes q s) (wakeAll d r 0 u)) := by
      change Host.Outcome.next (weltRow RD q s) = _
      rw [weltRow_sends hsend, hpresent, serveOrHold_ok hidle'.2.1 hserve, hidle'.wakeAll.answer.settles]
    obtain ⟨amem, -, -⟩ := answer_mem { q with op := RD, dst := epOf d r 2, epoch := s.welt.stamp } (rdBytes q s) (wakeAll d r 0 u)
    obtain ⟨live, rfl⟩ := htaken
    rw [hcmd, yields_next]
    refine ⟨⟨rdBytes q s, ?_, fun i hlo hhi => byte_rdBytes hlo hhi s⟩, .of_mem (amem.trans hmem)⟩
    unfold Answers
    rw [answer_welt rfl, hwelt]
    exact ⟨rfl, rfl⟩
  · obtain ⟨u, htaken, hpresent⟩ := present_tagged (q := { q with op := MSG }) hidle.1 hopen hepoch htag hcheck rfl rfl
    obtain ⟨w, hserve, hq', hwelt, hmem⟩ := htaken.serveAt_msg_room (q := { q with op := MSG, dst := epOf d r 3, epoch := s.welt.stamp }) ⟨hd, hr, by decide, rfl, hon, hq⟩ rfl hclamp hroom
    have hidle' : NetIdle u := htaken.netIdle hidle
    obtain ⟨amem, -, acores⟩ := answer_mem { q with op := MSG, dst := epOf d r 3, epoch := s.welt.stamp } 0 w
    obtain ⟨umem, -, -, uout, uresps, ustamp, -⟩ := htaken.frame
    refine ⟨answer { q with op := MSG, dst := epOf d r 3, epoch := s.welt.stamp } 0 w, ?_, ?_, ?_, .of_mem (amem.trans (hmem.trans umem))⟩
    · change Host.Outcome.next (weltRow MSG q s) = _
      rw [weltRow_sends hsend, hpresent, serveOrHold_ok hidle'.2.1 hserve]
    · unfold Answers
      rw [answer_welt rfl, hwelt, uresps, ustamp]
      exact ⟨rfl, uout⟩
    · rw [State.core, acores, ← State.core, hq']
  · obtain ⟨u, htaken, hpresent⟩ := present_tagged (q := { q with op := MSG }) hidle.1 hopen hepoch htag hcheck rfl rfl
    have hserve := htaken.serveAt_msg_full (q := { q with op := MSG, dst := epOf d r 3, epoch := s.welt.stamp }) ⟨hd, hr, by decide, rfl, hon, hq⟩ rfl hclamp hfull
    have hidle' : NetIdle u := htaken.netIdle hidle
    have hcmd : exec (.msg q) s = .next (refuse { q with op := MSG, dst := epOf d r 3, epoch := s.welt.stamp } ST_AWL_MSGFULL u) := by
      change Host.Outcome.next (weltRow MSG q s) = _
      rw [weltRow_sends hsend, hpresent, serveOrHold_err hidle'.2.1 hserve, hidle'.refuse.settles]
    obtain ⟨hresps, -, hcores, hmem⟩ := refuse_spec (q := { q with op := MSG, dst := epOf d r 3, epoch := s.welt.stamp }) rfl ST_AWL_MSGFULL u
    obtain ⟨umem, -, ucores, -, uresps, ustamp, -⟩ := htaken.frame
    rw [hcmd, yields_next]
    exact ⟨by rw [hresps, uresps, ustamp], hcores.trans ucores, .of_mem (hmem.trans umem)⟩
  · obtain ⟨u, htaken, hpresent⟩ := present_tagged (q := { q with op := RD }) hidle.1 hopen hepoch htag hcheck rfl rfl
    have hserve : serveAt { q with op := RD, dst := epOf d r k, epoch := s.welt.stamp } u = (.wait .design, wakeAll d r 0 u) :=
      serveAt_user (htaken.serving (q := { q with op := RD, dst := epOf d r k, epoch := s.welt.stamp }) ⟨hd, hr, by omega, rfl, hon, hq⟩) hk ⟨rfl, rfl⟩
    have hidle' : NetIdle u := htaken.netIdle hidle
    obtain ⟨hwelt, hmem, -⟩ := wakeAll_frame d r 0 u
    obtain ⟨umem, -, -, uout, -⟩ := htaken.frame
    refine ⟨hold { q with op := RD, dst := epOf d r k, epoch := s.welt.stamp } .design (wakeAll d r 0 u), ?_, ?_, ?_, .of_mem ((hold_frame ..).1.trans (hmem.trans umem))⟩
    · change Host.Outcome.next (weltRow RD q s) = _
      rw [weltRow_sends hsend, hpresent, serveOrHold_wait hidle'.2.1 hserve]
    · rw [(hold_frame ..).2, hwelt, hidle'.2.1]; rfl
    · rw [tagBusy, (hold_frame ..).2, hwelt, uout]
      simp
  · obtain ⟨u, htaken, hpresent⟩ := present_posted (q := { q with op := WRP }) hidle.1 hopen hepoch hcheck rfl rfl
    have hserve : serveAt { q with op := WRP, dst := epOf d r k, epoch := s.welt.stamp } u =
        (.ok 0, toInbox (epOf d r k) { q with op := WRP, dst := epOf d r k, epoch := s.welt.stamp } (wakeAll d r 0 u)) :=
      serveAt_user (htaken.serving (q := { q with op := WRP, dst := epOf d r k, epoch := s.welt.stamp }) ⟨hd, hr, by omega, rfl, hon, hq⟩) hk ⟨rfl, rfl⟩
    have hidle' : NetIdle u := htaken.netIdle hidle
    obtain ⟨hwelt, hmem, -⟩ := wakeAll_frame d r 0 u
    obtain ⟨umem, -, -, uout, -, -, uinbox, -⟩ := htaken.frame
    have hcmd : exec (.wrp q) s = .next (toInbox (epOf d r k) { q with op := WRP, dst := epOf d r k, epoch := s.welt.stamp } (wakeAll d r 0 u)) := by
      change Host.Outcome.next (weltRow WRP q s) = _
      rw [weltRow_sends hsend, hpresent, serveOrHold_ok hidle'.2.1 hserve]
      exact congrArg Host.Outcome.next hidle'.wakeAll.toInbox.settles
    rw [hcmd, yields_next]
    obtain ⟨imem, iwelt⟩ := toInbox_frame (epOf d r k) { q with op := WRP, dst := epOf d r k, epoch := s.welt.stamp } (wakeAll d r 0 u)
    rw [hwelt, uinbox] at iwelt
    refine ⟨?_, ?_, .of_mem (imem.trans (hmem.trans umem))⟩
    · rw [iwelt]
      dsimp only
      rw [tabGet_mod_same]
    · rw [iwelt]
      exact uout

end Sys2Proof.Machine

namespace Sys2Proof.Machine

set_option Elab.async false

/-! Guaranteed service (R184 to R187) -/

section
variable {s t : State} {q : Req} {f : Nat}

theorem guaranteed_row {x : Nat × (Req → Instr)} (h : x ∈ [(GWR, Instr.gwr), (GMSG, Instr.gmsg)]) : x ∈ reqRows ∧ opClass x.1 = some 0 := by
  simp only [List.mem_cons, List.not_mem_nil, or_false] at h
  rcases h with rfl | rfl
  · exact ⟨by simp [reqRows], rfl⟩
  · exact ⟨by simp [reqRows], rfl⟩

/-- A class 0 request joins its flow's queue at the port. -/
theorem tryInject_queued {dst : Nat} (hopen : portsClosed s = false) (hcheck : injectCheck s q = .inr dst) (hcls : opClass q.op = some 0) :
    tryInject q s = if 4 ≤ (s.flowSt q.flow).queue.length then none else some (s.modFlow q.flow fun x =>
      { x with queue := x.queue ++ [{ q with dst, epoch := s.welt.stamp }], headAt := if x.queue = [] then laceSlots s else x.headAt }) := by
  have hq : q.cls = 0 := Option.some.inj ((opClass_of_injectCheck hcheck).symm.trans hcls)
  unfold tryInject
  rw [if_neg (by simp [hopen]), hcheck]
  exact if_pos hq

/-- The end of a disable changes registers of WLT_FLOWCMD alone. -/
theorem flowDrained_frame (s : State) : (flowDrained s).welt = s.welt ∧ (flowDrained s).mem = s.mem ∧ (flowDrained s).eyes = s.eyes ∧
    SameRegsBut [WLT_FLOWCMD_STATUS.key 0, WLT_FLOWCMD_BUSY.key 0] s (flowDrained s) := by
  unfold flowDrained
  dsimp only
  split_ifs
  · exact ⟨rfl, rfl, rfl, SameRegsBut.wr (.wr .refl)⟩
  · exact ⟨rfl, rfl, rfl, .refl⟩

theorem recordOpen_spec (source : Nat) (payload : List Nat) (s : State) : (s.recordOpen source payload).welt = s.welt ∧ (s.recordOpen source payload).mem = s.mem ∧
    ∀ f : Fld, ∀ p, f.key p ≠ BBX_LOST_COUNT.key 0 → (s.recordOpen source payload).rdi f p = s.rdi f p := by
  unfold State.recordOpen
  exact ⟨by simp [State.free], by simp [State.free], fun f p h => State.record_rdi _ _ _ _ _ h⟩

/-- A discard is counted for its flow and in WLT_ERRCNT. -/
theorem gDiscard_spec (q : Req) (s : State) : ((gDiscard q s).flowSt q.flow).ovr = min ((s.flowSt q.flow).ovr + 1) (2 ^ 32 - 1) ∧ (gDiscard q s).welt.gfly = s.welt.gfly ∧
    (gDiscard q s).welt.resps = s.welt.resps ∧ (gDiscard q s).rd WLT_ERRCNT_COUNT = min (s.rd WLT_ERRCNT_COUNT + 1) (2 ^ WLT_ERRCNT_COUNT.w - 1) ∧ (gDiscard q s).mem = s.mem := by
  obtain ⟨u, hu⟩ : ∃ u, u = (s.modFlow q.flow fun x => { x with ovr := min (x.ovr + 1) (2 ^ 32 - 1) }).inci WLT_ERRCNT_COUNT 0 := ⟨_, rfl⟩
  have hflow : u.flowSt q.flow = { s.flowSt q.flow with ovr := min ((s.flowSt q.flow).ovr + 1) (2 ^ 32 - 1) } := by rw [hu]; exact s.flowSt_modFlow ..
  have hcount : u.rd WLT_ERRCNT_COUNT = min (s.rd WLT_ERRCNT_COUNT + 1) (2 ^ WLT_ERRCNT_COUNT.w - 1) := by rw [hu]; exact State.rdi_addi_same ..
  obtain ⟨hgfly, hresps, hmem⟩ : u.welt.gfly = s.welt.gfly ∧ u.welt.resps = s.welt.resps ∧ u.mem = s.mem := by rw [hu]; exact ⟨rfl, rfl, rfl⟩
  have hdef : gDiscard q s = if (u.flowSt q.flow).ovrSaid then u else (u.recordOpen 12 [q.flow, q.src * 65536 + q.dst]).modFlow q.flow fun x => { x with ovrSaid := true } := by rw [hu]; rfl
  obtain ⟨rwelt, rmem, rrd⟩ := recordOpen_spec 12 [q.flow, q.src * 65536 + q.dst] u
  rw [hdef]
  split
  · exact ⟨by rw [hflow], hgfly, hresps, hcount, hmem⟩
  · refine ⟨?_, (congrArg Welt.gfly rwelt).trans hgfly, (congrArg Welt.resps rwelt).trans hresps, (rrd _ 0 (by decide)).trans hcount, rmem.trans hmem⟩
    rw [State.flowSt_modFlow, State.flowSt, rwelt, ← State.flowSt, hflow]

theorem inSeam_of_settled (hepoch : s.rd WLT_EPOCH_STATE ≠ 2) (heyes : ∀ p ∈ s.eyes, p.2.halfAt = none) (f at_ : Nat) : inSeam s f at_ = false := by
  have hbank : bankChanges s (at_ / 1024 + 1) = false := by simp [bankChanges, hepoch]
  have hwidth : widthChanges s (at_ / 1024 + 1) = false := by
    simp only [widthChanges, List.any_eq_false, beq_iff_eq]
    intro p hp
    rw [heyes p hp]
    simp
  simp [inSeam, hbank, hwidth]

theorem reachLace_eyes (n : Nat) (s : State) : (reachLace n s).eyes = s.eyes := by
  unfold reachLace
  split
  · unfold State.pass State.serve
    dsimp only [State.modWelt]
    split <;> rfl
  · rfl

theorem laceSlots_reachLace {n : Nat} (h : laceSlots s ≤ n) : laceSlots (reachLace n s) = n := by
  unfold laceSlots reachLace at *
  split
  · change 2 * n / 2 = n
    omega
  · omega

/-- With no unit in the network none arrives. -/
theorem gArrive_of_empty (h : s.welt.gfly = []) : (gArrive s).welt = s.welt ∧ (gArrive s).mem = s.mem ∧ (gArrive s).eyes = s.eyes ∧
    SameRegsBut [WLT_FLOWCMD_STATUS.key 0, WLT_FLOWCMD_BUSY.key 0] s (gArrive s) := by
  have hdef : gArrive s = flowDrained (s.modWelt fun w => { w with gfly := w.gfly.filter fun p => !(p.1 ≤ laceSlots s) }) := by
    unfold gArrive
    rw [h]; rfl
  have hwelt : (s.modWelt fun w => { w with gfly := w.gfly.filter fun p => !(p.1 ≤ laceSlots s) }).welt = s.welt := by
    change { s.welt with gfly := s.welt.gfly.filter fun p => !decide (p.1 ≤ laceSlots s) } = s.welt
    rw [h]
    change { s.welt with gfly := [] } = s.welt
    rw [← h]
  obtain ⟨hw, hm, he, hr⟩ := flowDrained_frame (s.modWelt fun w => { w with gfly := w.gfly.filter fun p => !(p.1 ≤ laceSlots s) })
  rw [hdef]
  exact ⟨hw.trans hwelt, hm, he, hr⟩

/-- The flow's registers of state in a slot that takes the head of its queue. -/
def slotTaken (at_ : Nat) (l : List Req) (late : Bool) (x : FlowSt) : FlowSt :=
  { x with queue := l, headAt := at_, units := min (x.units + 1) (2 ^ 32 - 1), held := if late then min (x.held + 1) (2 ^ 32 - 1) else x.held }

/-- An owned slot takes the head of its flow's queue into the network. -/
theorem slotInject_takes {at_ taken : Nat} {l : List Req} (hsvc : s.rd WLT_SVC_STATE = 3) (hat : laceSlots s ≤ at_) (hgfly : s.welt.gfly = []) (hqueue : (s.flowSt f).queue = q :: l)
    (hslot : (s.flowNow f).slots.contains (at_ % 1024) = true) (hhead : (s.flowSt f).headAt < at_) (hepoch : s.rd WLT_EPOCH_STATE ≠ 2) (heyes : ∀ p ∈ s.eyes, p.2.halfAt = none) :
    ∃ u late, slotInject f at_ taken s = pump u ∧ u.flowSt f = slotTaken at_ l late (s.flowSt f) ∧ u.welt.gfly = [(at_ + (s.flowNow f).dly, q)] ∧ laceSlots u = at_ ∧ u.mem = s.mem := by
  obtain ⟨x, -, hwelt, hmem, -, hrd⟩ := reachLace_spec at_ s
  have hlace := laceSlots_reachLace hat
  have hreyes := reachLace_eyes at_ s
  obtain ⟨u, hu⟩ : ∃ u, u = reachLace at_ s := ⟨_, rfl⟩
  rw [← hu] at hwelt hmem hrd hlace hreyes
  have hnow : u.flowNow f = s.flowNow f := by
    rw [State.flowNow, State.flowNow, show u.rd WLT_LACE_VIDX = s.rd WLT_LACE_VIDX from hrd _ 0 (by decide), hwelt]
    rfl
  obtain ⟨v, hv⟩ : ∃ v, v = u.modWelt fun w => { w with gbuf := tabMod 0 w.gbuf (s.flowNow f).dst (· - taken) } := ⟨_, rfl⟩
  have hvgfly : v.welt.gfly = [] := by rw [hv]; change u.welt.gfly = []; rw [hwelt]; exact hgfly
  obtain ⟨awelt, amem, aeyes, aregs⟩ := gArrive_of_empty hvgfly
  have hst : (gArrive v).flowSt f = s.flowSt f := by rw [State.flowSt, awelt, hv]; change tabGet {} u.welt.flows f = _; rw [hwelt]; rfl
  have hseam : inSeam (gArrive v) f at_ = false := by
    refine inSeam_of_settled (fun h => hepoch ?_) (fun p hp => heyes p ?_) f at_
    · rw [← h, show (gArrive v).rd WLT_EPOCH_STATE = v.rd WLT_EPOCH_STATE from aregs _ 0 (by decide), hv]
      exact (hrd _ 0 (by decide)).symm
    · rw [aeyes, hv] at hp
      exact hreyes ▸ hp
  have hskip : ¬ ((s.flowNow f).slots.contains (at_ % 1024) = false ∨ at_ ≤ (s.flowSt f).headAt ∨ inSeam (gArrive v) f at_ = true) := by
    rintro (h | h | h)
    · exact absurd (hslot.symm.trans h) (by decide)
    · omega
    · exact absurd (hseam.symm.trans h) (by decide)
  obtain ⟨late, hinject⟩ : ∃ late, slotInject f at_ taken s =
      pump ((statUnits q ((gArrive v).modFlow f (slotTaken at_ l late))).modWelt fun w => { w with gfly := w.gfly ++ [(at_ + (s.flowNow f).dly, q)] }) := by
    unfold slotInject
    rw [if_neg (by rintro (h | h); exacts [h hsvc, by omega])]
    simp only [← hu, hnow, ← hv, hst, hqueue]
    rw [if_neg hskip]
    generalize gArrive v = w
    unfold slotTaken
    cases nextSlot (s.flowNow f).slots (s.flowSt f).headAt with
    | none => exact ⟨false, rfl⟩
    | some n => exact ⟨decide (n < at_), rfl⟩
  clear hseam hskip aeyes aregs
  generalize gArrive v = w at *
  obtain ⟨live, hlive⟩ := statUnits_eq q (w.modFlow f (slotTaken at_ l late))
  refine ⟨_, late, hinject, ?_, ?_, ?_, ?_⟩ <;> rw [hlive]
  · exact (w.flowSt_modFlow f (slotTaken at_ l late)).trans (congrArg _ hst)
  · change w.welt.gfly ++ _ = _
    rw [awelt, hvgfly]; rfl
  · change w.welt.lace / 2 = at_
    rw [awelt, hv]
    exact hlace
  · change w.mem = _
    rw [amem, hv]
    exact hmem
end

/-- Settles O29: a unit goes from its flow's queue to the network in its flow's slots, and is discarded where its destination's buffer is full. -/
theorem guaranteedUnits : Obligations.GuaranteedUnits := by
  unfold Obligations.GuaranteedUnits
  refine ⟨fun x hx s q dst hidle hsend hopen hcheck hroom => ?_, fun x hx s q dst hwait hsend hopen hcheck hfull => ?_,
    fun s f at_ taken q l hsvc hat hgfly hqueue hslot hhead hepoch heyes => ?_, fun s f p hfind hbuf => ?_⟩
  · obtain ⟨hrow, hcls⟩ := guaranteed_row hx
    obtain ⟨u, hu⟩ : ∃ u, u = s.modFlow q.flow fun y => { y with
      queue := y.queue ++ [{ q with op := x.1, dst, epoch := s.welt.stamp }], headAt := if y.queue = [] then laceSlots s else y.headAt } := ⟨_, rfl⟩
    have hidle' : NetIdle u := by rw [hu]; exact hidle.congr rfl rfl rfl rfl rfl
    have hcmd : exec (x.2 q) s = .next u := by
      rw [exec_reqRow hrow, weltRow_sends hsend, present, hidle.1, tryInject_queued hopen hcheck hcls, if_neg (show ¬ 4 ≤ (s.flowSt q.flow).queue.length by omega), ← hidle'.settles]
      rw [hu]; rfl
    rw [hcmd, yields_next, hu]
    exact ⟨congrArg FlowSt.queue (s.flowSt_modFlow ..), rfl, fun g hg => s.flowSt_modFlow_ne hg _, .of_regs rfl _, .of_mem rfl⟩
  · obtain ⟨hrow, hcls⟩ := guaranteed_row hx
    refine ⟨s.modWelt fun w => { w with wait := w.wait ++ [{ q with op := x.1 }] }, ?_, ?_, rfl, .of_mem rfl⟩
    · rw [exec_reqRow hrow, weltRow_sends hsend, present, hwait, tryInject_queued hopen hcheck hcls, if_pos (show 4 ≤ (s.flowSt q.flow).queue.length from hfull)]
      rfl
    · change s.welt.wait ++ _ = _
      rw [hwait]; rfl
  · obtain ⟨u, late, hinject, hflow, hfly, hlace, hmem⟩ := slotInject_takes (taken := taken) hsvc hat hgfly hqueue hslot hhead hepoch heyes
    refine ⟨u, congrArg (fun u => Host.Outcome.next (settle u)) hinject, ?_, ?_, hfly, ?_, hlace, .of_mem hmem⟩
    all_goals rw [hflow]; rfl
  · obtain ⟨x, hx, hwelt, hmem, -, hrd⟩ := reachLace_spec p.1 s
    have hp : p.2.flow = f.val := by simpa using List.find?_some hfind
    let u := (reachLace p.1 s).modWelt fun w => { w with gfly := w.gfly.erase p }
    have hbuf' : 8 ≤ gBuffered (reachLace p.1 s) p.2.dst := by
      have : gBuffered (reachLace p.1 s) p.2.dst = gBuffered s p.2.dst := by rw [gBuffered, gBuffered, hwelt]
      omega
    have harrive : overflowArrive f s = flowDrained (gDiscard p.2 u) := by
      unfold overflowArrive
      rw [hfind]
      exact if_pos hbuf'
    obtain ⟨hovr, hgfly, hresps, hcount, hm⟩ := gDiscard_spec p.2 u
    obtain ⟨dwelt, dmem, -, dregs⟩ := flowDrained_frame (gDiscard p.2 u)
    have hflow : u.flowSt f = s.flowSt f := by
      change tabGet {} (reachLace p.1 s).welt.flows f = _
      rw [hwelt]; rfl
    refine ⟨_, rfl, ?_⟩
    rw [harrive]
    refine ⟨?_, ?_, ?_, ?_, .of_mem (dmem.trans (hm.trans hmem))⟩
    · rw [State.flowSt, dwelt, ← State.flowSt, ← hp, hovr, hp, hflow]
    · rw [dwelt, hgfly]
      change (reachLace p.1 s).welt.gfly.erase p = _
      rw [hwelt]
    · rw [show (flowDrained (gDiscard p.2 u)).rd WLT_ERRCNT_COUNT = (gDiscard p.2 u).rd WLT_ERRCNT_COUNT from dregs _ 0 (by decide), hcount,
        show u.rd WLT_ERRCNT_COUNT = s.rd WLT_ERRCNT_COUNT from hrd _ 0 (by decide)]
    · rw [dwelt, hresps]
      change (reachLace p.1 s).welt.resps = _
      rw [hwelt]

end Sys2Proof.Machine

namespace Sys2Proof.Machine

set_option Elab.async false

/-! Responses and snoops (R162 to R164, R166, R176) -/

section
variable {s t u : State} {c : Nat}

theorem weltLog_frame (kind op st src dst : Nat) (s : State) : (weltLog kind op st src dst s).welt = s.welt ∧ (weltLog kind op st src dst s).mem = s.mem ∧
    (weltLog kind op st src dst s).cores = s.cores ∧ (weltLog kind op st src dst s).rd WLT_ERRCNT_COUNT = min (s.rd WLT_ERRCNT_COUNT + 1) (2 ^ WLT_ERRCNT_COUNT.w - 1) ∧
    SameRegsBut [WLT_ERRCNT_COUNT.key 0] s (weltLog kind op st src dst s) :=
  ⟨rfl, rfl, rfl, State.rdi_addi_same .., SameRegsBut.addi (t := s.push2 WLT_ERRLOG_VALID _ _) .refl⟩

theorem State.core_modWelt (s : State) (f : Welt → Welt) (c : Nat) : (s.modWelt f).core c = s.core c := rfl

theorem statLatency_eq (e l : Nat) (s : State) : ∃ live, statLatency e l s = { s with welt := { s.welt with live } } := by
  unfold statLatency statAdd
  dsimp only
  split_ifs <;> exact ⟨_, rfl⟩

/-- A plain port's completion is its own. -/
theorem finishAt_plain {e : Nat} (h : PlainPort e) (tag op st data : Nat) (s : State) : finishAt e tag op st data s = complete e tag op st data s := by
  obtain ⟨hcore, h0, h1, hpcie, hmgmt⟩ := h
  rw [finishAt, if_neg (by simp [h0, h1]), if_neg hpcie, if_neg hmgmt, if_neg (by simp [hcore])]

theorem coreEp_parts (hc : c < 384) : epIsCore (coreEp c) = true ∧ epCore (coreEp c) = c := by
  unfold coreEp epIsCore epCore epInRegion epRegion epDie epLocal
  simp only [Bool.and_eq_true, decide_eq_true_eq, beq_iff_eq]
  omega

theorem finishAt_core (hc : c < 384) (tag op st data : Nat) (s : State) : finishAt (coreEp c) tag op st data s = coreSettle c (coreArrive c tag op st data s) := by
  obtain ⟨hcore, hnum⟩ := coreEp_parts hc
  have hlow : coreEp c < 0xC00B := by unfold coreEp; omega
  have h0 : epBridge 0 = 0xC00D := rfl
  have h1 : epBridge 1 = 0xC00E := rfl
  have hpcie : epPcie = 0xC00B := rfl
  have hmgmt : epMgmt = 0xC00F := rfl
  rw [finishAt, if_neg (by omega), if_neg (by omega), if_neg (by omega), if_pos hcore, hnum]

theorem tagBusy_freeTag (e tag : Nat) (s : State) : tagBusy (freeTag e tag s) e tag = false := by
  change ((s.welt.out.filter fun o => !(o.src == e && o.tag == tag)).any fun o => o.src == e && o.tag == tag) = false
  rw [List.any_eq_false]
  intro o ho hb
  have h := (List.mem_filter.1 ho).2
  rw [hb] at h
  exact absurd h (by decide)

/-- A response for an outstanding tag frees it and goes to its initiator. -/
theorem respArrive_taken {r : Resp} (hbusy : tagBusy s r.to_ r.tag = true) (hmem : r ∈ s.welt.resps) (hop : r.op = RDR ∨ r.op = WRA ∨ r.op = ATR ∨ r.op = ERR) (lat : Nat) :
    ∃ live, respArrive r lat s = pump (finishAt r.to_ r.tag r.op r.st r.data
      { s with welt := { s.welt with resps := s.welt.resps.erase r, out := s.welt.out.filter fun o => !(o.src == r.to_ && o.tag == r.tag), live } }) := by
  obtain ⟨live, hlive⟩ := statLatency_eq r.to_ lat (freeTag r.to_ r.tag (s.modWelt fun w => { w with resps := w.resps.erase r }))
  refine ⟨live, ?_⟩
  have hok : ¬ (tagBusy s r.to_ r.tag = false ∨ (r.op == RDR || r.op == WRA || r.op == ATR || r.op == ERR) = false) := by
    rcases hop with h | h | h | h <;> simp [hbusy, h]
  unfold respArrive
  rw [if_neg hok, if_pos (by simpa using hmem), deliverResp, hlive]
  rfl

/-- Core `c` has no window, stop, watchdog exception or monitor entry that waits. -/
structure CoreCalm (c : Nat) (s : State) : Prop where
  lk : (s.core c).lk = none
  stopping : (s.core c).stopping = none
  wdPend : (s.core c).wdPend = false
  entry : tabGet 0 s.dbg.pend c = 0

theorem CoreCalm.showPc (h : CoreCalm c s) : CoreCalm c (showPc c s) := ⟨h.lk, h.stopping, h.wdPend, h.entry⟩

theorem endWindow_of_calm (h : CoreCalm c s) : endWindow c s = s := by
  unfold endWindow
  simp only [h.lk]

theorem stopCheck_of_calm (h : CoreCalm c s) : stopCheck c s = s := by
  unfold stopCheck
  simp only [h.stopping]

theorem takeEntry_of_calm (h : CoreCalm c s) : takeEntry c s = s := if_pos (.inl h.entry)

theorem takeWdog_of_calm (h : CoreCalm c s) : takeWdog c s = s := if_neg fun hw => absurd (h.wdPend.symm.trans hw.1) (by decide)

/-- A core with nothing that waits settles its loads, and shows its PC. -/
theorem coreSettle_of_calm (h : CoreCalm c ((List.range (s.core c).loads.length).foldl (fun s _ => retireOne c s) s)) :
    coreSettle c s = showPc c ((List.range (s.core c).loads.length).foldl (fun s _ => retireOne c s) s) := by
  unfold coreSettle
  extract_lets u
  rw [endWindow_of_calm h, stopCheck_of_calm h.showPc, takeEntry_of_calm h.showPc, takeWdog_of_calm h.showPc]

/-- What a change of core `c`'s own state leaves as it is. -/
structure CoreOnly (c : Nat) (s t : State) : Prop where
  other : ∀ j, j ≠ c → t.core j = s.core j
  welt : t.welt = s.welt
  mem : t.mem = s.mem
  regs : t.regs = s.regs
  dbg : t.dbg = s.dbg

theorem CoreOnly.modCore (f : Core → Core) : CoreOnly c s (s.modCore c f) := ⟨fun _ h => s.core_modCore_ne c f h, rfl, rfl, rfl, rfl⟩

theorem CoreOnly.trans (h : CoreOnly c s t) (g : CoreOnly c t u) : CoreOnly c s u :=
  ⟨fun j hj => (g.other j hj).trans (h.other j hj), g.welt.trans h.welt, g.mem.trans h.mem, g.regs.trans h.regs, g.dbg.trans h.dbg⟩

/-- A core that holds no store has none to let go. -/
theorem release_of_empty (hlk : (s.core c).lk = none) (hsbuf : (s.core c).sbuf = []) (hstwait : (s.core c).stwait = []) :
    CoreOnly c s (release c s) ∧ (release c s).core c = s.core c := by
  unfold release
  rw [if_neg (by simp [hlk])]
  simp only [hsbuf, hstwait, List.filter_nil, List.foldl_nil]
  refine ⟨(CoreOnly.modCore _).trans (CoreOnly.modCore _), ?_⟩
  rw [State.core_modCore, State.core_modCore]
  generalize s.core c = k at *
  cases k
  simp only at hsbuf hstwait
  subst hsbuf hstwait
  rfl

/-- The number that the lowest `n` bytes of `x` make. -/
theorem byteSum (x n : Nat) : (List.range n).foldl (fun m i => m + byteOf x i * 256 ^ i) 0 = x % 256 ^ n := by
  induction n with
  | zero => simp [Nat.mod_one]
  | succ n ih =>
    rw [List.range_succ, List.foldl_append, ih, List.foldl_cons, List.foldl_nil, byteOf, Nat.mod_pow_succ]
    ring

/-- The load of a core whose data are there, the oldest and only one, retires. -/
theorem retireOne_filled {l : AwlLoad} {v : Nat} (hloads : (s.core c).loads = [l]) (hdata : l.data = some v) (herr : l.err = none) (hlk : (s.core c).lk = none)
    (hsbuf : (s.core c).sbuf = []) (hstwait : (s.core c).stwait = []) : CoreOnly c s (retireOne c s) ∧ (retireOne c s).core c = { s.core c with loads := [] } := by
  have hret : retireOne c s = release c (s.modCore c fun k => { k with loads := [] }) := by
    unfold retireOne
    simp [hloads, herr, hdata]
  have hcore : (s.modCore c fun k => { k with loads := [] }).core c = { s.core c with loads := [] } := s.core_modCore c _
  obtain ⟨honly, hsame⟩ := release_of_empty (s := s.modCore c fun k => { k with loads := [] }) (by rw [hcore]; exact hlk) (by rw [hcore]; exact hsbuf) (by rw [hcore]; exact hstwait)
  rw [hret]
  exact ⟨(CoreOnly.modCore _).trans honly, hsame.trans hcore⟩

/-- A fill of the data cache changes its lines alone, and holds a cacheable address's line. -/
theorem cacheFill_only (c a : Nat) (s : State) : CoreOnly c s (cacheFill c a s) ∧ (∃ lines, (cacheFill c a s).core c = { s.core c with dlines := lines }) ∧
    (cacheable a = true → a / 64 ∈ ((cacheFill c a s).core c).dlines) := by
  unfold cacheFill
  extract_lets line set x
  split_ifs with hin hroom
  · refine ⟨⟨fun _ _ => rfl, rfl, rfl, rfl, rfl⟩, ⟨_, rfl⟩, fun hc => ?_⟩
    have hc : (lastBase ≤ a ∧ a < lastBase + 0x2000000) ∧ lastBase + 0x200000 ≤ a := by simpa [cacheable, inLast] using hc
    rw [show lastBase = 0x4000000000 from rfl] at hc
    rcases hin with h | h | h
    · omega
    · omega
    · exact (List.mem_filter.1 (List.contains_iff_mem.1 h)).1
  · refine ⟨.modCore _, ⟨_, s.core_modCore c _⟩, fun _ => ?_⟩
    rw [State.core_modCore]
    exact List.mem_append_right _ (List.mem_singleton_self _)
  · have hfree : CoreOnly c s x.2 := ⟨fun _ _ => rfl, rfl, rfl, rfl, rfl⟩
    refine ⟨hfree.trans (.modCore _), ⟨_, x.2.core_modCore c _⟩, fun _ => ?_⟩
    rw [State.core_modCore]
    exact List.mem_append_right _ (List.mem_singleton_self _)

/-- The load whose data come is the core's only one: its register takes their bytes, and its line enters the cache where no invalidation met it. -/
theorem coreArrive_load {l : AwlLoad} (hloads : (s.core c).loads = [l]) (hdata : l.data = none) (herr : l.err = none) (hlrd : l.lrd = false) (hlk : (s.core c).lk = none)
    (st data : Nat) : CoreOnly c s (coreArrive c l.tag RDR st data s) ∧ ∃ lines, (l.snooped = false → cacheable l.addr = true → l.addr / 64 ∈ lines) ∧
      (coreArrive c l.tag RDR st data s).core c = { s.core c with
        arch := fillReg l.dest (data / 256 ^ (l.addr % 64) % 256 ^ l.size) (s.core c).arch
        loads := [{ l with data := some (data / 256 ^ (l.addr % 64) % 256 ^ l.size) }], dlines := lines } := by
  obtain ⟨u, hu⟩ : ∃ u, u = if l.lrd ∨ l.snooped then s else cacheFill c l.addr s := ⟨_, rfl⟩
  obtain ⟨honly, lines, hcore, hlines⟩ : CoreOnly c s u ∧ ∃ lines, u.core c = { s.core c with dlines := lines } ∧ (l.snooped = false → cacheable l.addr = true → l.addr / 64 ∈ lines) := by
    obtain ⟨h1, ⟨lines, h2⟩, h3⟩ := cacheFill_only c l.addr s
    rw [hu]
    split
    next hs => exact ⟨⟨fun _ _ => rfl, rfl, rfl, rfl, rfl⟩, _, rfl, fun hn => absurd hs (by simp [hlrd, hn])⟩
    next hs =>
      refine ⟨h1, lines, h2, fun _ hc => ?_⟩
      have hin := h3 hc
      rwa [h2] at hin
  have harrive : coreArrive c l.tag RDR st data s = u.modCore c fun k => { k with
      arch := fillReg l.dest (data / 256 ^ (l.addr % 64) % 256 ^ l.size) k.arch
      loads := k.loads.map fun x => if x.tag = l.tag then { x with data := some (data / 256 ^ (l.addr % 64) % 256 ^ l.size) }
        else if l.ser < x.ser then { x with ckpt := fillReg l.dest (data / 256 ^ (l.addr % 64) % 256 ^ l.size) x.ckpt } else x
      lk := k.lk.map fun w => if l.lrd then { w with words := w.words ++ [(l.addr / 8 * 8, data % 2 ^ 64)] } else w } := by
    unfold coreArrive
    simp only [hloads, List.find?_cons, beq_self_eq_true, hdata, herr, Option.isNone_none, Bool.and_self, ← hu, hlk, Option.bind_none]
    rw [if_pos (show RDR = 0x20 from rfl)]
    simp only [hlrd, Bool.false_eq_true, if_false, byteSum]
  rw [harrive]
  refine ⟨honly.trans (.modCore _), lines, hlines, ?_⟩
  rw [State.core_modCore, hcore]
  simp [hloads, hlk]

/-- The data of a core's only load settle it: its register is filled, and the load is gone. -/
theorem coreSettle_load {l : AwlLoad} (hcalm : CoreCalm c s) (hloads : (s.core c).loads = [l]) (hdata : l.data = none) (herr : l.err = none) (hlrd : l.lrd = false)
    (hsbuf : (s.core c).sbuf = []) (hstwait : (s.core c).stwait = []) (st data : Nat) :
    ∃ u lines, coreSettle c (coreArrive c l.tag RDR st data s) = showPc c u ∧ CoreOnly c s u ∧ (l.snooped = false → cacheable l.addr = true → l.addr / 64 ∈ lines) ∧
      u.core c = { s.core c with arch := fillReg l.dest (data / 256 ^ (l.addr % 64) % 256 ^ l.size) (s.core c).arch, loads := [], dlines := lines } := by
  obtain ⟨honly, lines, hlines, hcore⟩ := coreArrive_load hloads hdata herr hlrd hcalm.lk st data
  generalize coreArrive c l.tag RDR st data s = u at *
  have hul : (u.core c).loads = [{ l with data := some (data / 256 ^ (l.addr % 64) % 256 ^ l.size) }] := by rw [hcore]
  obtain ⟨ronly, rcore⟩ := retireOne_filled hul rfl herr (by rw [hcore]; exact hcalm.lk) (by rw [hcore]; exact hsbuf) (by rw [hcore]; exact hstwait)
  rw [hcore] at rcore
  have hfold : (List.range (u.core c).loads.length).foldl (fun s _ => retireOne c s) u = retireOne c u := by rw [hul]; rfl
  have hcalm' : CoreCalm c (retireOne c u) := by
    have hdbg : (retireOne c u).dbg = s.dbg := (honly.trans ronly).dbg
    exact ⟨by rw [rcore]; exact hcalm.lk, by rw [rcore]; exact hcalm.stopping, by rw [rcore]; exact hcalm.wdPend, by rw [hdbg]; exact hcalm.entry⟩
  refine ⟨retireOne c u, lines, ?_, honly.trans ronly, hlines, rcore⟩
  rw [coreSettle_of_calm (by rw [hfold]; exact hcalm'), hfold]

theorem wdSettle_core (c : Nat) (s : State) : ∃ at_, (wdSettle c s).core c = { s.core c with wdAt := at_ } := by
  unfold wdSettle
  extract_lets rest
  rw [State.core_modCore]
  exact ⟨_, rfl⟩

theorem setAwlState_core (c v : Nat) (s : State) : ∃ at_, (setAwlState c v s).core c = { s.core c with wdAt := at_ } := by
  obtain ⟨at_, h⟩ := wdSettle_core c s
  exact ⟨at_, by rw [setAwlState, State.core_wri, h]⟩

theorem setAwlState_rdi {f : Fld} (hst : f.key 0 ≠ AWL_STAT_STATE.key 0) (hwd : f.key 0 ≠ AWL_WDGCNT_COUNT.key 0) (c v : Nat) (s : State) :
    (setAwlState c v s).rdi f (oAwl c) = s.rdi f (oAwl c) :=
  (State.rdi_wri_off (f := AWL_STAT_STATE) _ hst _ _).trans (State.rdi_wri_off (f := AWL_WDGCNT_COUNT) _ hwd _ _)

/-- An interrupt of a core may wake it. -/
theorem raiseEdge_spec (c n : Nat) (s : State) : (∃ e at_, (raiseEdge c n s).core c = { s.core c with edge := e, wdAt := at_ }) ∧ (raiseEdge c n s).welt = s.welt ∧
    (raiseEdge c n s).mem = s.mem ∧ (raiseEdge c n s).dbg = s.dbg ∧
    ∀ f : Fld, f.key 0 ≠ AWL_STAT_STATE.key 0 → f.key 0 ≠ AWL_WDGCNT_COUNT.key 0 → (raiseEdge c n s).rdi f (oAwl c) = s.rdi f (oAwl c) := by
  have hcore := s.core_modCore c fun k => { k with edge := k.edge ||| 2 ^ n }
  unfold raiseEdge wakeWait
  split
  · obtain ⟨at_, h⟩ := setAwlState_core c awlRUN (s.modCore c fun k => { k with edge := k.edge ||| 2 ^ n })
    rw [hcore] at h
    exact ⟨⟨_, at_, h⟩, rfl, rfl, rfl, fun f h1 h2 => setAwlState_rdi h1 h2 ..⟩
  · exact ⟨⟨_, _, hcore⟩, rfl, rfl, rfl, fun _ _ _ => rfl⟩

/-- The response of a store ends it; one with a status is counted. -/
theorem coreArrive_store {tag op st : Nat} (hcalm : CoreCalm c s) (hloads : (s.core c).loads = []) (hstq : (s.core c).stq.any (fun p => p.1 == tag) = true) (data : Nat) :
    CoreCalm c (coreArrive c tag op st data s) ∧ ((coreArrive c tag op st data s).core c).loads = [] ∧
      ((coreArrive c tag op st data s).core c).stq = (s.core c).stq.filter (fun p => p.1 != tag) ∧ ((coreArrive c tag op st data s).core c).arch = (s.core c).arch ∧
      (coreArrive c tag op st data s).rdi AWL_SFSTAT_COUNT (oAwl c) = (if op = WRA ∧ st = 0 then s.rdi AWL_SFSTAT_COUNT (oAwl c)
        else min (s.rdi AWL_SFSTAT_COUNT (oAwl c) + 1) (2 ^ AWL_SFSTAT_COUNT.w - 1)) ∧ (coreArrive c tag op st data s).mem = s.mem ∧
      (coreArrive c tag op st data s).welt = s.welt := by
  obtain ⟨u, hu⟩ : ∃ u, u = s.modCore c fun k => { k with stq := k.stq.filter fun p => p.1 != tag } := ⟨_, rfl⟩
  have hcore : u.core c = { s.core c with stq := (s.core c).stq.filter fun p => p.1 != tag } := by rw [hu]; exact s.core_modCore c _
  obtain ⟨umem, uwelt, uregs, udbg⟩ : u.mem = s.mem ∧ u.welt = s.welt ∧ u.regs = s.regs ∧ u.dbg = s.dbg := by rw [hu]; exact ⟨rfl, rfl, rfl, rfl⟩
  have harrive : coreArrive c tag op st data s = if op = WRA ∧ st = 0 then u
      else raiseEdge c 31 ((u.wri AWL_SFSTAT_STATUS (oAwl c) st).addi AWL_SFSTAT_COUNT (oAwl c) 1) := by
    rw [hu]
    unfold coreArrive
    simp only [hloads, List.find?_nil, hstq, if_true]
    rfl
  rw [harrive]
  split
  · exact ⟨⟨by rw [hcore]; exact hcalm.lk, by rw [hcore]; exact hcalm.stopping, by rw [hcore]; exact hcalm.wdPend, by rw [udbg]; exact hcalm.entry⟩,
      by rw [hcore]; exact hloads, by rw [hcore], by rw [hcore], State.rdi_of_regs uregs .., umem, uwelt⟩
  · obtain ⟨⟨e, at_, rcore⟩, rwelt, rmem, rdbg, rrd⟩ := raiseEdge_spec c 31 ((u.wri AWL_SFSTAT_STATUS (oAwl c) st).addi AWL_SFSTAT_COUNT (oAwl c) 1)
    have hk : ((u.wri AWL_SFSTAT_STATUS (oAwl c) st).addi AWL_SFSTAT_COUNT (oAwl c) 1).core c = { s.core c with stq := (s.core c).stq.filter fun p => p.1 != tag } := hcore
    rw [hk] at rcore
    refine ⟨⟨by rw [rcore]; exact hcalm.lk, by rw [rcore]; exact hcalm.stopping, by rw [rcore]; exact hcalm.wdPend, ?_⟩,
      by rw [rcore]; exact hloads, by rw [rcore], by rw [rcore], ?_, rmem.trans umem, rwelt.trans uwelt⟩
    · rw [rdbg]
      exact udbg ▸ hcalm.entry
    · rw [rrd _ (by decide) (by decide), State.rdi_addi_same, State.rdi_wri_off _ (by decide), State.rdi_of_regs uregs]

theorem coreSettle_store {tag op st : Nat} (hcalm : CoreCalm c s) (hloads : (s.core c).loads = []) (hstq : (s.core c).stq.any (fun p => p.1 == tag) = true) (data : Nat) :
    coreSettle c (coreArrive c tag op st data s) = showPc c (coreArrive c tag op st data s) := by
  obtain ⟨hcalm', hnone, -⟩ := coreArrive_store (op := op) (st := st) hcalm hloads hstq data
  have hfold : (List.range ((coreArrive c tag op st data s).core c).loads.length).foldl (fun s _ => retireOne c s) (coreArrive c tag op st data s) = coreArrive c tag op st data s := by
    rw [hnone]; rfl
  rw [coreSettle_of_calm (by rw [hfold]; exact hcalm'), hfold]

theorem showPc_spec (c : Nat) (s : State) : (showPc c s).cores = s.cores ∧ (showPc c s).welt = s.welt ∧ (showPc c s).mem = s.mem ∧
    ∀ f : Fld, f.key 0 ≠ AWL_PC_PC.key 0 → (showPc c s).rdi f (oAwl c) = s.rdi f (oAwl c) := ⟨rfl, rfl, rfl, fun _ h => State.rdi_wri_off _ h _ _⟩
end

/-- Settles O30: a response that matches frees its tag and goes to its initiator, any other is logged; what comes back to a core settles the load or the store it belongs to. -/
theorem responsesAndSnoops : Obligations.ResponsesAndSnoops := by
  unfold Obligations.ResponsesAndSnoops
  refine ⟨fun s r lat hplain hbusy hmem hop => ?_, fun s r lat hbusy => ?_, fun s e tag hplain hbusy => ?_, fun s tgt line o howner => ?_, fun s c line hin => ?_,
    fun s c line hin => ?_, fun s c line hin => ?_, fun s c r lat l hto hbusy hmem hop hloads htag hdata herr hlrd hlk hsbuf hstwait hstop hwd hdbg => ?_,
    fun s c r lat hto hbusy hmem hop hloads hstq hlk hstop hwd hdbg => ?_⟩
  · obtain ⟨live, harrive⟩ := respArrive_taken hbusy hmem hop lat
    rw [finishAt_plain hplain] at harrive
    refine ⟨_, congrArg (fun u => Host.Outcome.next (settle u)) harrive, tabGet_set_same .., ?_, rfl, .of_regs rfl _, .of_mem rfl⟩
    exact tagBusy_freeTag r.to_ r.tag s
  · have harrive : respArrive r lat s = weltLog 1 (r.op % 64) r.st r.src r.to_ (s.modWelt fun w => { w with resps := w.resps.erase r }) := if_pos (.inl hbusy)
    obtain ⟨-, hm, -, hcount, hregs⟩ := weltLog_frame 1 (r.op % 64) r.st r.src r.to_ (s.modWelt fun w => { w with resps := w.resps.erase r })
    exact ⟨_, congrArg (fun u => Host.Outcome.next (settle u)) harrive, rfl, rfl, rfl, hcount, hregs, .of_mem hm⟩
  · obtain ⟨o, ho⟩ : ∃ o, s.welt.out.find? (fun o => o.src == e && o.tag == tag) = some o := by
      rw [← Option.isSome_iff_exists, List.find?_isSome]
      simpa [tagBusy, List.any_eq_true] using hbusy
    have hsome := List.find?_some ho
    simp only [Bool.and_eq_true, beq_iff_eq] at hsome
    obtain ⟨hsrc, htag⟩ := hsome
    have htime : respTimeout e tag s = pump (complete e tag ERR ST_WLT_TIMEOUT 0 (weltLog 2 o.op ST_WLT_TIMEOUT o.src o.dst (freeTag e tag s))) := by
      unfold respTimeout
      rw [ho]
      simp only [completeLocal, hsrc, htag, finishAt_plain hplain]
    refine ⟨_, congrArg (fun u => Host.Outcome.next (settle u)) htime, tabGet_set_same .., tagBusy_freeTag e tag s, State.rdi_addi_same .., .of_mem rfl⟩
  · have htime : lockTimeout tgt line s = pump (dropLock tgt line (weltLog 7 LRD ST_WLT_LOCKBRK o tgt s)) := by
      unfold lockTimeout
      rw [howner]
    refine ⟨_, congrArg (fun u => Host.Outcome.next (settle u)) htime, ?_, State.rdi_addi_same .., .of_mem rfl⟩
    rw [lockOwner, Option.map_eq_none_iff, List.find?_eq_none]
    intro l hl hb
    have h := (List.mem_filter.1 hl).2
    rw [hb] at h
    exact absurd h (by decide)
  · have hcmd : exec (.sinv c line) s = .next ((s.modCore c fun k => { k with
        dlines := k.dlines.filter (· != line)
        loads := k.loads.map fun l => if l.addr / 64 = line ∧ l.data.isNone then { l with snooped := true } else l }).modWelt
          fun w => { w with sinv := w.sinv.erase (line, c.val), sack := w.sack ++ [(line, c.val)] }) :=
      congrArg Host.Outcome.next (if_pos (List.contains_iff_mem.2 hin))
    rw [hcmd, yields_next]
    refine ⟨fun hl => ?_, rfl, rfl, fun k hk => by rw [State.core_modWelt, State.core_modCore_ne _ _ _ hk], .of_regs rfl _, .of_mem rfl⟩
    rw [State.core_modWelt, State.core_modCore] at hl
    exact absurd (List.mem_filter.1 hl).2 (by simp)
  · refine ⟨_, congrArg (fun u => Host.Outcome.next (settle u)) (if_pos (List.contains_iff_mem.2 hin)), rfl, rfl, .of_regs rfl _, .of_mem rfl⟩
  · have hcmd : exec (.sack c line) s = .next (settle (weltLog 1 0x31 0 (coreEp c) epLast s)) :=
      congrArg (fun u => Host.Outcome.next (settle u)) (if_neg fun h => hin (List.contains_iff_mem.1 h))
    obtain ⟨-, hm, -, hcount, -⟩ := weltLog_frame 1 0x31 0 (coreEp c) epLast s
    exact ⟨_, hcmd, rfl, hcount, .of_mem hm⟩
  · obtain ⟨hiscore, hnum⟩ := coreEp_parts c.isLt
    obtain ⟨live, harrive⟩ := respArrive_taken hbusy hmem (.inl hop) lat
    obtain ⟨v, hv⟩ : ∃ v, v = { s with welt := { s.welt with resps := s.welt.resps.erase r, out := s.welt.out.filter fun o => !(o.src == r.to_ && o.tag == r.tag), live } } := ⟨_, rfl⟩
    have hcalm : CoreCalm c v := by rw [hv]; exact ⟨hlk, hstop, hwd, hdbg⟩
    have hcore : v.core c = s.core c := by rw [hv]; rfl
    obtain ⟨u, lines, hsettle, honly, hlines, hucore⟩ := coreSettle_load hcalm (hcore ▸ hloads) hdata herr hlrd (hcore ▸ hsbuf) (hcore ▸ hstwait) r.st r.data
    obtain ⟨pcores, pwelt, pmem, -⟩ := showPc_spec c u
    have hpcore : ∀ k, (showPc c u).core k = u.core k := fun k => by rw [State.core, pcores, State.core]
    have hfor : forLoad s r = true := by simp [forLoad, hto, hiscore, hnum, hloads, htag, hdata, herr]
    have hcmd : exec (.ldwDataArrival r lat) s = .next (settle (pump (showPc c u))) := by
      refine (if_pos hfor).trans ?_
      rw [harrive, ← hv, hto, finishAt_core c.isLt, hop, ← htag, hsettle]
    refine ⟨_, hcmd, ?_, ?_, fun hs hc => ?_, fun k hk => ?_, ?_, .of_mem ?_⟩
    · rw [hpcore, hucore]
    · rw [hpcore, hucore, hcore]
    · rw [hpcore, hucore]
      exact hlines hs hc
    · rw [hpcore, honly.other k hk, hv]; rfl
    · rw [tagBusy, pwelt, honly.welt, hv]
      exact tagBusy_freeTag r.to_ r.tag s
    · rw [pmem, honly.mem, hv]
  · obtain ⟨hiscore, hnum⟩ := coreEp_parts c.isLt
    have hop' : r.op = RDR ∨ r.op = WRA ∨ r.op = ATR ∨ r.op = ERR := hop.elim (fun h => .inr (.inl h)) fun h => .inr (.inr (.inr h))
    obtain ⟨live, harrive⟩ := respArrive_taken hbusy hmem hop' lat
    obtain ⟨v, hv⟩ : ∃ v, v = { s with welt := { s.welt with resps := s.welt.resps.erase r, out := s.welt.out.filter fun o => !(o.src == r.to_ && o.tag == r.tag), live } } := ⟨_, rfl⟩
    have hcalm : CoreCalm c v := by rw [hv]; exact ⟨hlk, hstop, hwd, hdbg⟩
    have hcore : v.core c = s.core c := by rw [hv]; rfl
    have hstq' : (s.core c).stq.any (fun p => p.1 == r.tag) = true := by
      obtain ⟨a, ha⟩ := hstq
      exact List.any_eq_true.2 ⟨_, ha, by simp⟩
    obtain ⟨-, -, hq, harch, hcount, hm, -⟩ := coreArrive_store (op := r.op) (st := r.st) hcalm (hcore ▸ hloads) (hcore ▸ hstq') r.data
    have hsettle := coreSettle_store (op := r.op) (st := r.st) hcalm (hcore ▸ hloads) (hcore ▸ hstq') r.data
    obtain ⟨pcores, -, pmem, prd⟩ := showPc_spec c (coreArrive c r.tag r.op r.st r.data v)
    have hpcore : ∀ k, (showPc c (coreArrive c r.tag r.op r.st r.data v)).core k = (coreArrive c r.tag r.op r.st r.data v).core k := fun k => by rw [State.core, pcores, State.core]
    have hcmd : exec (.stwResponse r lat) s = .next (settle (pump (showPc c (coreArrive c r.tag r.op r.st r.data v)))) := by
      refine (if_pos ⟨hto ▸ hiscore, by rw [hto, hnum]; exact hstq'⟩).trans ?_
      rw [harrive, ← hv, hto, finishAt_core c.isLt, hsettle]
    refine ⟨_, hcmd, ?_, ?_, ?_, .of_mem ?_⟩
    · rw [hpcore, hq, hcore]
    · rw [hpcore, harch, hcore]
    · rw [prd _ (by decide), hcount, hv]; rfl
    · rw [pmem, hm, hv]

end Sys2Proof.Machine

namespace Sys2Proof.Machine

set_option Elab.async false

/-! Over-temperature of a die (R595) -/

/-- A staging in RUN whose list of raised dies holds a number whose rail register is the temperature register of die 0. -/
def overtempDuringStaging : State :=
  { ((State.reset.wr GLB_MODE_MODE RUN).wr SHF_STAT_STATE 1) with
    dies := [(0, { rails := true })]
    shf := { raised := [0x44000] } }

/-- Refutes O60 in its clause on DIE_OVERTEMP: SAFE abandons a staging and takes the rails from the dies that it raised; the state's list of them is not
bounded, and the voltage cleared for one of them can be the field that shows the temperature's state. -/
theorem not_blackBoxAndHealth : ¬ Obligations.BlackBoxAndHealth := by
  intro h
  obtain ⟨-, -, -, -, -, -, -, -, -, -, -, -, -, overtemp, -⟩ := h
  obtain ⟨t, hexec, -, hshown, -⟩ := overtemp overtempDuringStaging 0 false rfl (by decide +kernel)
  have hcleared : t.rdi HLT_TEMP_STATE 0 = 0 := by
    rw [eq_afterOut hexec overtempDuringStaging]
    decide +kernel
  have hshown : t.rdi HLT_TEMP_STATE 0 = 3 := hshown
  omega

end Sys2Proof.Machine

namespace Sys2Proof.Machine

set_option Elab.async false

/-! Sweeps of the Last store (R369, R208) -/

/-- RUN with the Last store ON and good, and its sweep enabled. -/
def sweepOfContexts : State := ((State.reset.wr GLB_MODE_MODE RUN).wr COB_CTL_EN 8).wri PWR_LSSEG_STATE 0 0

/-- Refutes O46 in its clause on an uncorrectable word of the Last store: the word may be one of a queue's context, and then the sweep disables that queue
and sets its error bit, which are bytes of memory. -/
theorem not_cobblerSweeps : ¬ Obligations.CobblerSweeps := by
  intro h
  obtain ⟨-, -, uncorrectable, -⟩ := h
  obtain ⟨t, hexec, -, -, -, -, hmem⟩ := uncorrectable sweepOfContexts 0 (by decide +kernel) (by decide +kernel) (by decide +kernel) (by decide) (by decide +kernel) rfl
  have hset : t.rdByte (lastBase + 10) = 16 := by
    rw [eq_afterOut hexec sweepOfContexts]
    decide +kernel
  have hclear : sweepOfContexts.rdByte (lastBase + 10) = 0 := by decide +kernel
  have hsame := hmem (lastBase + 10)
  omega

end Sys2Proof.Machine

namespace Sys2Proof.Machine

set_option Elab.async false

/-! The end of a changeover (R317, R325) -/

/-- An armed changeover whose list of raised dies holds a number whose state register is that of the changeover. -/
def armedWithRaised : State := { (State.reset.wr SHF_STAT_STATE 5) with shf := { raised := [0x13FC8] } }

/-- Refutes O58 in its clause on ARMTMO: a changeover that ends takes the rails from the dies that it raised and shows each of them without power; the
state's list of them is not bounded, and the register that this writes can be the one that shows the changeover's own state. -/
theorem not_liveChangeover : ¬ Obligations.LiveChangeover := by
  intro h
  obtain ⟨-, -, -, -, -, -, -, -, -, -, -, timeout, -⟩ := h
  obtain ⟨t, hexec, hended, -⟩ := timeout armedWithRaised (by decide +kernel)
  obtain ⟨hidle, -⟩ := hended
  have hshown : shfState t = 4 := by
    rw [eq_afterOut hexec armedWithRaised]
    decide +kernel
  omega

end Sys2Proof.Machine

namespace Sys2Proof.Machine

set_option Elab.async false

/-! Tamper during a staging (R533) -/

/-- A staging in RUN, standby power present and SAFE asked for by tamper source 0; the list of raised dies holds a number whose state register is the
tamper latch. -/
def tamperDuringStaging : State :=
  { (((((State.reset.wr GLB_MODE_MODE RUN).wr PWR_STAT_STBY 1).wr SEC_TAMPEN_EN 31).wr SEC_TAMPACT_SAFE 1).wr SHF_STAT_STATE 1) with
    shf := { raised := [0x37FCE] } }

/-- Refutes O56 in its clause on TAMPER_EVENT: the latch is set before SAFE is entered, SAFE abandons the staging, and the dies that it had raised are shown
without power; the state's list of them is not bounded, and what is written for one of them can be the latch. -/
theorem not_signedCommandsAndTamper : ¬ Obligations.SignedCommandsAndTamper := by
  intro h
  obtain ⟨-, -, -, -, -, -, -, -, -, tamper, -⟩ := h
  obtain ⟨t, hexec, hlatch, -⟩ := tamper tamperDuringStaging 0 (by decide +kernel) (by decide +kernel) (.inl (by decide))
  have hshown : t.rd SEC_TAMPER_LATCH = 4 := by
    rw [eq_afterOut hexec tamperDuringStaging]
    decide +kernel
  rw [hshown] at hlatch
  exact absurd hlatch (by decide)

end Sys2Proof.Machine

namespace Sys2Proof.Machine

set_option Elab.async false

/-! What SAFE spares. A fault may end a changeover, with all that this undoes (R317, R460), but it leaves the rails' state and the regulator links,
the bundles of the Sazor lanes, the requests held, the bank supplies' faults and the lapse of the heartbeat, and it asks for no rollback. As for `Keeps`, each operation has
one law. -/

/-- The fields that show a lapsed heartbeat and the banks' supply faults. -/
def SparedKey (x : Nat) : Prop := x = SBP_CTRL_LAPSED.key 0 ∨ ∃ k, k < 12 ∧ x = GIO_BSTAT_VFAULT.key (4 * k)

/-- `t` shows and holds these as `s` does. -/
structure Stays (s t : State) : Prop where
  regs : ∀ x, SparedKey x → ∀ d, tabGet d t.regs x = tabGet d s.regs x
  power : t.power = s.power
  bundles : t.bundles = s.bundles
  links : ∀ d, (t.die d).link = (s.die d).link
  rbWait : s.shf.rbWait = none → t.shf.rbWait = none
  held : t.welt.held = s.welt.held

/-- A field above those registers, or at other bits of its word. -/
abbrev Fld.Apart (f : Fld) : Prop := f.lo < 32 ∧ (0xD0000 < f.adr ∨ (f.lo ≠ 1 ∧ f.lo ≠ 2))

section
variable {s t u : State}

theorem Fld.Apart.key_ne {f : Fld} (h : f.Apart) {x : Nat} (hx : SparedKey x) (o : Nat) : x ≠ f.key o := by
  obtain ⟨hlo, hf⟩ := h
  rcases hx with rfl | ⟨k, hk, rfl⟩
  · change (0xD0000 + 0) * 32 + 1 ≠ (f.adr + o) * 32 + f.lo
    omega
  · change (0xCA040 + 4 * k) * 32 + 2 ≠ (f.adr + o) * 32 + f.lo
    omega

/-- A field of a register below those. -/
theorem SparedKey.ne_below {f : Fld} {o : Nat} (h : f.adr + o < 0xCA040 ∧ f.lo < 32) {x : Nat} (hx : SparedKey x) : x ≠ f.key o := by
  obtain ⟨hadr, hlo⟩ := h
  rcases hx with rfl | ⟨k, hk, rfl⟩
  · change (0xD0000 + 0) * 32 + 1 ≠ (f.adr + o) * 32 + f.lo
    omega
  · change (0xCA040 + 4 * k) * 32 + 2 ≠ (f.adr + o) * 32 + f.lo
    omega

/-- One of these fields as `State.rdi` reads it. -/
theorem Stays.rdi (h : Stays s t) {f : Fld} {o : Nat} (hk : SparedKey (f.key o)) : t.rdi f o = s.rdi f o := h.regs _ hk _

theorem Stays.refl (s : State) : Stays s s := ⟨fun _ _ _ => rfl, rfl, rfl, fun _ => rfl, id, rfl⟩

theorem Stays.trans (h : Stays s t) (g : Stays t u) : Stays s u :=
  ⟨fun x hx d => (g.regs x hx d).trans (h.regs x hx d), g.power.trans h.power, g.bundles.trans h.bundles, fun d => (g.links d).trans (h.links d),
    fun hs => g.rbWait (h.rbWait hs), g.held.trans h.held⟩

theorem Stays.ite {c : Prop} [Decidable c] (ht : Stays s t) (hu : Stays s u) : Stays s (if c then t else u) := by
  split
  · exact ht
  · exact hu

theorem Stays.foldl {α : Type} (h : Stays s t) {f : State → α → State} (hf : ∀ u a, Stays s u → Stays s (f u a)) {l : List α} : Stays s (l.foldl f t) :=
  List.foldlRecOn (motive := Stays s) l f h fun u hu a _ => hf u a hu

/-- An update of what none of this depends on. -/
theorem Stays.lit (h : Stays s t) {pending fresh evq mem reply supTab fuseTrim regions banks eyes express cores modes clocks gears bbx side secur hlt dbg upd asked welt
    marks cob chans pcie eth pins cfg keyHash qmasks} (hw : welt.held = t.welt.held := by rfl) :
    Stays s ⟨pending, fresh, t.regs, evq, mem, reply, supTab, fuseTrim, t.dies, regions, banks, eyes, express, cores, modes, clocks, gears, bbx, t.power, side,
      secur, hlt, dbg, upd, asked, welt, marks, cob, chans, pcie, eth, pins, cfg, t.shf, keyHash, t.bundles, qmasks⟩ :=
  ⟨h.regs, h.power, h.bundles, h.links, h.rbWait, hw.trans h.held⟩

/-! The named operations on the state -/

theorem Stays.wriNe (h : Stays s t) {f : Fld} {o v : Nat} (hf : ∀ x, SparedKey x → x ≠ f.key o) : Stays s (t.wri f o v) :=
  ⟨fun x hx d => (tabGet_set_ne _ _ _ _ (hf x hx)).trans (h.regs x hx d), h.power, h.bundles, h.links, h.rbWait, h.held⟩

theorem Stays.wri (h : Stays s t) {f : Fld} {o v : Nat} (hf : f.Apart := by decide) : Stays s (t.wri f o v) := h.wriNe fun _ hx => hf.key_ne hx o



theorem Stays.wrByte (h : Stays s t) {a v} : Stays s (t.wrByte a v) := h.lit

theorem Stays.wrMem (h : Stays s t) {n a v} : Stays s (t.wrMem n a v) := by
  induction n generalizing t a v with
  | zero => exact h
  | succ n ih => exact ih h.wrByte

theorem Stays.clearMem (h : Stays s t) {lo hi} : Stays s (t.clearMem lo hi) := h.lit

theorem Stays.modRegion (h : Stays s t) {k f} : Stays s (t.modRegion k f) := h.lit

theorem Stays.modCfg (h : Stays s t) {f} : Stays s (t.modCfg f) := h.lit

theorem Stays.wr (h : Stays s t) {f : Fld} {v : Nat} (hf : f.Apart := by decide) : Stays s (t.wr f v) := h.wri hf

theorem Stays.addi (h : Stays s t) {f : Fld} {off n : Nat} (hf : f.Apart := by decide) : Stays s (t.addi f off n) := h.wri hf

theorem Stays.inci (h : Stays s t) {f : Fld} {off : Nat} (hf : f.Apart := by decide) : Stays s (t.inci f off) := h.wri hf

theorem Stays.wr64 (h : Stays s t) {lo hi : Fld} {v : Nat} (hlo : lo.Apart := by decide) (hhi : hi.Apart := by decide) : Stays s (State.wr64 t lo hi v) := by
  unfold State.wr64
  exact (h.wr hlo).wr hhi

theorem Stays.modDie (h : Stays s t) {d f} (hf : ∀ x, (f x).link = x.link := by exact fun _ => rfl) : Stays s (t.modDie d f) where
  regs := h.regs
  power := h.power
  bundles := h.bundles
  links j := by
    by_cases e : j = d
    · rw [e, State.die_modDie, hf, h.links]
    · rw [State.die_modDie_ne _ _ _ e, h.links]
  rbWait := h.rbWait
  held := h.held

theorem Stays.modBank (h : Stays s t) {k f} : Stays s (State.modBank t k f) := by unfold State.modBank; exact h.lit

theorem Stays.modGear (h : Stays s t) {g f} : Stays s (State.modGear t g f) := by unfold State.modGear; exact h.lit

theorem Stays.free (h : Stays s t) {w} : Stays s (State.free t w).2 := h.lit

theorem Stays.setMode (h : Stays s t) {m} : Stays s (State.setMode t m) := by unfold State.setMode; exact h.wr.wr

theorem Stays.endReq (h : Stays s t) {st} : Stays s (State.endReq t st) := by
  unfold State.endReq
  extract_lets u _
  have hu : Stays s u := h.wr.wr
  exact hu.lit

theorem Stays.pendRecord (h : Stays s t) {r} : Stays s (State.pendRecord t r) := by
  unfold State.pendRecord
  extract_lets n _ u
  have hu : Stays s u := h.inci
  exact .ite (.ite h.lit h.lit) (.ite h.lit hu.lit)

theorem Stays.record (h : Stays s t) {code source sev payload} : Stays s (State.record t code source sev payload) := by
  unfold State.record
  refine .ite h ?_
  refine .ite ?_ h.lit
  extract_lets s1 _
  have hs1 : Stays s s1 := h.pendRecord
  exact .ite hs1 hs1.lit

theorem Stays.recordSt (h : Stays s t) {st source payload} : Stays s (State.recordSt t st source payload) := by unfold State.recordSt; exact h.record

theorem Stays.recordOpen (h : Stays s t) {source payload} : Stays s (State.recordOpen t source payload) := by
  unfold State.recordOpen
  extract_lets c v
  have hc : Stays s c.2 := h.free
  have hv : Stays s v.2 := hc.free
  exact hv.record

theorem Stays.toMode (h : Stays s t) {m cause} : Stays s (State.toMode t m cause) := by unfold State.toMode; exact h.setMode.record

theorem Stays.modCore (h : Stays s t) {c f} : Stays s (State.modCore t c f) := by unfold State.modCore; exact h.lit

theorem Stays.modArch (h : Stays s t) {c f} : Stays s (State.modArch t c f) := by unfold State.modArch; exact h.modCore

theorem Stays.wdSettle (h : Stays s t) {c} : Stays s (Machine.wdSettle c t) := by
  unfold Machine.wdSettle
  extract_lets rest
  exact h.wri.modCore

theorem Stays.setAwlState (h : Stays s t) {c v} : Stays s (Machine.setAwlState c v t) := by unfold Machine.setAwlState; exact h.wdSettle.wri

theorem Stays.endSession (h : Stays s t) {grace c} : Stays s (Machine.endSession grace c t) := by
  unfold Machine.endSession
  refine .ite ?_ h
  extract_lets held u u1 u2 _
  have hu : Stays s u := h.wdSettle
  have hu1 : Stays s u1 := .ite hu.addi hu
  have hu2 : Stays s u2 := hu1.wri
  exact hu2.lit

theorem Stays.enterDone (h : Stays s t) {c st} : Stays s (Machine.enterDone c st t) := by unfold Machine.enterDone; exact .ite h.wri.wri h

theorem Stays.dropEntry (h : Stays s t) {c} : Stays s (Machine.dropEntry c t) := by
  unfold Machine.dropEntry
  extract_lets u _
  have hu : Stays s u := h.enterDone
  exact hu.lit

theorem Stays.loseSessions (h : Stays s t) {p} : Stays s (Machine.loseSessions p t) := by
  have hu : Stays s ((t.dbg.pend.filter fun x => p x.1).foldl (fun s x => Machine.dropEntry x.1 s) t) := h.foldl fun _ _ hu => hu.dropEntry
  refine ⟨fun x hx d => ?_, hu.power, hu.bundles, hu.links, hu.rbWait, hu.held⟩
  refine (tabGet_filter_true d _ (fun x => !(x % 4096 == DBG_STAT_MON.key 0 % 4096 && DBG_STAT_MON.key 0 ≤ x && x < DBG_STAT_MON.key (oDbg 384) &&
    p ((x - DBG_STAT_MON.key 0) / 4096))) ?_).trans (hu.regs x hx d)
  have hne : (x % 4096 == DBG_STAT_MON.key 0 % 4096) = false := by
    rcases hx with rfl | ⟨k, hk, rfl⟩
    · rfl
    · rw [beq_eq_false_iff_ne]
      change ((0xCA040 + 4 * k) * 32 + 2) % 4096 ≠ ((0xF1008 + 0) * 32 + 16) % 4096
      omega
  simp [hne]

theorem Stays.squash (h : Stays s t) {c} : Stays s (Machine.squash c t) := by
  unfold Machine.squash
  split
  · exact h.modCore
  · exact h

theorem Stays.showPc (h : Stays s t) {c} : Stays s (Machine.showPc c t) := by
  unfold Machine.showPc
  extract_lets k
  exact h.wri

theorem Stays.stopCheck (h : Stays s t) {c} : Stays s (Machine.stopCheck c t) := by
  unfold Machine.stopCheck
  extract_lets k u k1
  have hu : Stays s u := h.squash.showPc
  split
  · exact h
  · exact .ite h (.ite hu.setAwlState.wri.modCore.dropEntry hu)

theorem Stays.stopCore (h : Stays s t) {byMode c} : Stays s (Machine.stopCore byMode c t) := by
  unfold Machine.stopCore
  exact .ite h.modCore.stopCheck h

theorem Stays.startReset (h : Stays s t) {c} : Stays s (Machine.startReset c t) := by unfold Machine.startReset; exact h.setAwlState.modArch

theorem Stays.resetCore (h : Stays s t) {c} : Stays s (Machine.resetCore c t) := by
  unfold Machine.resetCore
  extract_lets u k vbr pseg u1 _ u2
  have hu : Stays s u := h.wdSettle.endSession.dropEntry
  have hu1 : Stays s u1 := hu.lit
  have hu2 : Stays s u2 := hu1.lit
  exact hu2.setAwlState.wri.wri

theorem Stays.setRun (h : Stays s t) {d r k on} : Stays s (Machine.setRun d r k on t) := by
  unfold Machine.setRun
  extract_lets m
  exact h.wri

theorem Stays.putRclk (h : Stays s t) {d r k v} : Stays s (Machine.putRclk d r k v t) := by
  unfold Machine.putRclk
  extract_lets o
  exact h.wri.wri.wri.wri.wri.wri.wri

theorem Stays.followMode (h : Stays s t) {d r k} : Stays s (Machine.followMode d r k t) := by
  unfold Machine.followMode
  refine .ite ?_ h
  split
  · exact h.setRun
  · exact h
  · exact h.setRun

theorem Stays.modEye (h : Stays s t) {k f} : Stays s (State.modEye t k f) := by unfold State.modEye; exact h.lit

theorem Stays.modShf (h : Stays s t) {f} (hf : ∀ x, x.rbWait = none → (f x).rbWait = none := by exact fun _ h => h) : Stays s (t.modShf f) :=
  ⟨h.regs, h.power, h.bundles, h.links, fun hs => hf _ (h.rbWait hs), h.held⟩

theorem Stays.showGroup (h : Stays s t) {e dir g} : Stays s (Machine.showGroup e dir g t) := by
  unfold Machine.showGroup
  extract_lets k o spUsed rsv spByte map rmap
  exact h.wri.wri.wri.wri.wri.wri

theorem Stays.showEye (h : Stays s t) {e} : Stays s (Machine.showEye e t) := by
  unfold Machine.showEye
  extract_lets st w
  exact .ite h.wri.wri h

theorem Stays.resetDieSpace (h : Stays s t) {d} : Stays s (Machine.resetDieSpace d t) := by
  refine ⟨fun x hx e => (tabGet_filter_true e _ (fun x => !inDieSpace d x || x == FDC_CAPEN_FEAT.key (oDie d)) ?_).trans (h.regs x hx e), h.power, h.bundles, h.links, h.rbWait, h.held⟩
  have hlow : x / 32 < 0x1000000 := by
    rcases hx with rfl | ⟨k, hk, rfl⟩
    · decide
    · change ((0xCA040 + 4 * k) * 32 + 2) / 32 < 0x1000000
      omega
  have hout : inDieSpace d x = false := by
    rw [inDieSpace, Bool.and_eq_false_iff]
    exact .inl (decide_eq_false (by omega))
  simp [hout]

theorem Stays.railsOff (h : Stays s t) {d} : Stays s (Machine.railsOff d t) := by
  unfold Machine.railsOff
  extract_lets u u1
  have hu : Stays s u := h.loseSessions.resetDieSpace.modDie
  have hu1 : Stays s u1 := hu.foldl (fun u2 _ hu2 => hu2.wri.wri)
  exact hu1.wri.wri.wri.wri

theorem Stays.setUnit (h : Stays s t) {u1 p x} : Stays s (Machine.setUnit u1 p x t) := by unfold Machine.setUnit; exact h.modCfg

theorem Stays.setFrameSt (h : Stays s t) {fid p v} : Stays s (Machine.setFrameSt fid p v t) := h.lit

theorem Stays.showBadsel (h : Stays s t) : Stays s (Machine.showBadsel t) := by
  unfold Machine.showBadsel
  extract_lets act sh s1
  have hs1 : Stays s s1 := h.wr.wriNe fun _ => SparedKey.ne_below (by decide)
  exact .ite hs1.recordOpen hs1

theorem Stays.clearFrames (h : Stays s t) {u1 p} : Stays s (Machine.clearFrames u1 p t) := by
  unfold Machine.clearFrames
  extract_lets keep
  exact h.modCfg

theorem Stays.putRclks (h : Stays s t) {d r t1} : Stays s (Machine.putRclks d r t1 t) := by
  unfold Machine.putRclks
  exact h.foldl (fun u _ hu => hu.putRclk)

theorem Stays.putPinWord (h : Stays s t) {d n v} : Stays s (Machine.putPinWord d n v t) := by
  unfold Machine.putPinWord
  extract_lets o unit
  exact h.wri.wri.wri.wri.wri.wri

theorem Stays.putPins (h : Stays s t) {d t1} : Stays s (Machine.putPins d t1 t) := by
  unfold Machine.putPins
  exact h.foldl (fun u _ hu => hu.putPinWord)

theorem Stays.putBanks (h : Stays s t) {d r c seals} : Stays s (Machine.putBanks d r c seals t) := by
  unfold Machine.putBanks
  refine .foldl h (fun u a hu => ?_)
  extract_lets x sealed
  exact hu.modBank.wri

theorem Stays.loadBank (h : Stays s t) {d r b words} : Stays s (Machine.loadBank d r b words t) := by
  unfold Machine.loadBank
  extract_lets lo u
  have hu : Stays s u := h.clearMem.modBank
  exact hu.foldl (fun u1 _ hu1 => hu1.wrMem)

theorem Stays.loadCore (h : Stays s t) {i c} : Stays s (Machine.loadCore i c t) := by
  unfold Machine.loadCore
  extract_lets u
  have hu : Stays s u := h.resetCore
  split
  · exact hu.modCore
  · exact hu.modCore

theorem Stays.putReserves (h : Stays s t) {i} : Stays s (Machine.putReserves i t) := by
  unfold Machine.putReserves
  refine .foldl h (fun u a hu => ?_)
  refine .foldl hu (fun u1 a1 hu1 => ?_)
  refine .foldl hu1 (fun u2 a2 hu2 => ?_)
  extract_lets ls tol old new u3
  have hu3 : Stays s u3 := hu2.modEye
  exact .ite hu3 hu3.showGroup.showEye

theorem Stays.stopRegion (h : Stays s t) {d r} : Stays s (Machine.stopRegion d r t) := by unfold Machine.stopRegion; exact h.wri

theorem Stays.startNets (h : Stays s t) {d r} : Stays s (Machine.startNets d r t) := by
  unfold Machine.startNets
  exact h.foldl (fun u _ hu => hu.followMode)

theorem Stays.flipExpress (h : Stays s t) {nets} : Stays s (Machine.flipExpress nets t) := h.lit

theorem Stays.flipRegion (h : Stays s t) {back inc keep ext d r} : Stays s (Machine.flipRegion back inc keep ext d r t) := by
  unfold Machine.flipRegion
  extract_lets g nets new x words u old seals v
  have hu : Stays s u := h.modRegion
  have hv : Stays s v := .ite hu (hu.foldl fun _ _ hw => hw.loadBank)
  exact .ite hv.putRclks.putBanks.wri.startNets hv.wri.stopRegion

theorem Stays.flipCore (h : Stays s t) {inc c} : Stays s (Machine.flipCore inc c t) := by
  unfold Machine.flipCore
  extract_lets u
  have hu : Stays s u := h.loadCore
  exact .ite hu.startReset hu

theorem Stays.dieGear (h : Stays s t) {d g} : Stays s (Machine.dieGear d g t) := by unfold Machine.dieGear; exact h.wri.wri

theorem Stays.dieTakes (h : Stays s t) {i d} : Stays s (Machine.dieTakes i d t) := by
  unfold Machine.dieTakes
  extract_lets e u u1 u2
  have hu : Stays s u := h.modDie
  have hu1 : Stays s u1 := hu.wri
  have hu2 : Stays s u2 := .ite hu1.wri hu1
  exact .ite hu2.dieGear hu.wri.wri.wri

theorem Stays.flipSel (h : Stays s t) {back inc d} : Stays s (Machine.flipSel back inc d t) := by
  unfold Machine.flipSel
  extract_lets u old v
  have hu : Stays s u := h.modCfg
  have hv : Stays s v := .ite hu hu.putPins.modDie
  exact .ite hv.lit hv

theorem Stays.useDies (h : Stays s t) : Stays s (Machine.useDies t) := by
  unfold Machine.useDies
  refine .foldl h (fun u a hu => ?_)
  extract_lets st
  exact .ite hu.wri (.ite hu.railsOff.wri hu)

theorem Stays.showImages (h : Stays s t) : Stays s (Machine.showImages t) := by unfold Machine.showImages; exact h.wr64.wr64

theorem Stays.rollbackFlip (h : Stays s t) {ext} : Stays s (Machine.rollbackFlip ext t) := by
  unfold Machine.rollbackFlip
  extract_lets out inc regs dies u u1 u2 u3
  have hu : Stays s u := h.foldl (fun u4 _ hu4 => hu4.flipRegion)
  have hu1 : Stays s u1 := hu.foldl (fun u4 _ hu4 => .ite hu4.flipCore hu4)
  have hu2 : Stays s u2 := List.foldlRecOn (motive := Stays s) dies _ hu1 fun u4 hu4 d hd => by
    have hd : d < 12 := List.mem_range.1 (List.mem_of_mem_filter hd)
    exact hu4.flipSel.dieTakes.wriNe fun _ => SparedKey.ne_below ⟨by change 0x50100 + 4 * d < 0xCA040; omega, by decide⟩
  have hu3 : Stays s u3 := (hu2.flipSel.wriNe fun _ => SparedKey.ne_below (by decide)).flipExpress
  exact hu3.modCfg.putReserves.showBadsel

theorem Stays.attachFlip (h : Stays s t) : Stays s (Machine.attachFlip t) := by
  unfold Machine.attachFlip
  extract_lets inc regs u u1
  have hu : Stays s u := by
    unfold u
    refine .foldl h (fun u2 a hu2 => ?_)
    extract_lets u3
    have hu3 : Stays s u3 := hu2.flipRegion
    exact hu3.modRegion.flipCore
  have hu1 : Stays s u1 := hu.foldl (fun u2 a hu2 => hu2.flipSel.dieTakes.wri)
  exact hu1.flipSel.modCfg.putReserves.showBadsel

theorem Stays.shfDone (h : Stays s t) {st} : Stays s (Machine.shfDone st t) := by unfold Machine.shfDone; exact h.wr.wr

theorem Stays.lapseStop (h : Stays s t) : Stays s (Machine.lapseStop t) := by
  unfold Machine.lapseStop
  refine .ite h ?_
  extract_lets _ u u1 _
  have hu : Stays s u := h.lit
  have hu1 : Stays s u1 := hu.wr
  exact .ite hu1.lit hu

theorem Stays.shfEnd (h : Stays s t) {outcome st die} : Stays s (Machine.shfEnd outcome st die t) := by
  unfold Machine.shfEnd
  extract_lets u u1 u2 u3 u4 u5
  have hu : Stays s u := h.wr.wr.wr.wr
  have hu1 : Stays s u1 := hu.wr
  have hu2 : Stays s u2 := hu1.foldl (fun u6 a hu6 => .ite hu6 hu6.railsOff.wri)
  have hu3 : Stays s u3 := hu2.foldl (fun u6 _ hu6 => hu6.wri)
  have hu4 : Stays s u4 := hu3.modShf fun _ _ => rfl
  have hu5 : Stays s u5 := hu4.record
  exact .lapseStop (.ite hu5.toMode hu5)

theorem Stays.dropShadow (h : Stays s t) : Stays s (Machine.dropShadow t) := by unfold Machine.dropShadow; exact h.modCfg.showImages

theorem Stays.epochGiveUp (h : Stays s t) : Stays s (Machine.epochGiveUp t) := by
  unfold Machine.epochGiveUp
  exact .ite (h.wriNe fun _ => SparedKey.ne_below (by decide)) h

theorem Stays.shfAbandon (h : Stays s t) {st die} : Stays s (Machine.shfAbandon st die t) := by
  unfold Machine.shfAbandon
  exact h.epochGiveUp.dropShadow.shfEnd

theorem Stays.detachFinish (h : Stays s t) : Stays s (Machine.detachFinish t) := by
  unfold Machine.detachFinish
  extract_lets off u
  have hu : Stays s u := by
    unfold u
    refine .foldl h (fun u1 a hu1 => ?_)
    extract_lets d u2 u3
    have hu2 : Stays s u2 := by
      unfold u2
      refine .foldl hu1 (fun u4 a1 hu4 => ?_)
      extract_lets u5 u6 u7 core u8 u9 u10 u11
      have hu5 : Stays s u5 := hu4.stopRegion.wri
      have hu6 : Stays s u6 := hu5.modRegion
      have hu7 : Stays s u7 := hu6.clearMem.clearMem
      have hu8 : Stays s u8 := hu7.modRegion.resetCore
      have hu9 : Stays s u9 := hu8.lit
      have hu10 : Stays s u10 := hu9.foldl (fun u12 _ hu12 => hu12.clearFrames.setUnit)
      have hu11 : Stays s u11 := hu6.foldl (fun u12 _ hu12 => hu12.wri.wri)
      exact .ite (hu10.foldl (fun u12 _ hu12 => hu12.wri.wri)) hu11.wri.wri.wri.wri
    have hu3 : Stays s u3 := hu2.wri
    exact .ite hu3.railsOff.wri hu3
  exact hu.shfEnd.shfDone

theorem Stays.attachFinish (h : Stays s t) : Stays s (Machine.attachFinish t) := by unfold Machine.attachFinish; exact h.showImages.shfEnd.shfDone

theorem Stays.rollbackFinish (h : Stays s t) : Stays s (Machine.rollbackFinish t) := by
  unfold Machine.rollbackFinish
  extract_lets auto st die
  exact h.dropShadow.shfEnd.useDies

theorem Stays.shfSafeIn (h : Stays s t) : Stays s (Machine.shfSafeIn t) := by
  unfold Machine.shfSafeIn
  extract_lets st u
  have hu : Stays s u := .ite h.shfDone h
  exact .ite hu (.ite hu.shfAbandon (.ite (.shfAbandon (.ite hu.rollbackFlip hu)) (.ite (.rollbackFinish (.ite hu hu.rollbackFlip)) (.ite hu.detachFinish (.ite hu.attachFlip.attachFinish hu)))))

theorem Stays.shfSafe (h : Stays s t) : Stays s (Machine.shfSafe t) := by unfold Machine.shfSafe; exact h.wr.shfSafeIn.wr

theorem Stays.keepPart (h : Stays s t) {s0 d} : Stays s (Machine.keepPart s0 d t) := by
  unfold Machine.keepPart
  split
  · extract_lets fid u
    exact .ite h (h.foldl fun _ _ hu => .ite hu.setFrameSt hu)
  · exact h

theorem Stays.loadSafe (h : Stays s t) : Stays s (Machine.loadSafe t) := by
  unfold Machine.loadSafe
  refine .ite ?_ h
  extract_lets u u1
  have hu : Stays s u := h.foldl (fun u2 a hu2 => hu2.keepPart)
  have hu1 : Stays s u1 := hu.wr.modCfg
  exact .ite hu1.wr.wr hu1

theorem Stays.safePins (h : Stays s t) : Stays s (Machine.safePins t) := by unfold Machine.safePins; exact h.foldl (fun u _ hu => .ite hu.lit hu)

theorem Stays.turnService (h : Stays s t) : Stays s (Machine.turnService t) := by
  unfold Machine.turnService
  refine .ite ?_ h
  extract_lets u _
  have hu : Stays s u := h.wr
  exact hu.lit

theorem Stays.weltOnSafe (h : Stays s t) : Stays s (Machine.weltOnSafe t) := by
  unfold Machine.weltOnSafe
  extract_lets lost u _ u1
  have hu : Stays s u := h.addi.wr
  have hu1 : Stays s u1 := hu.lit
  exact hu1.epochGiveUp.turnService

theorem Stays.shfOnSafe (h : Stays s t) : Stays s (Machine.shfOnSafe t) := by unfold Machine.shfOnSafe; exact h.shfSafe.loadSafe.safePins

theorem Stays.coresOnSafe (h : Stays s t) {faulted} : Stays s (Machine.coresOnSafe faulted t) := by
  unfold Machine.coresOnSafe
  exact h.foldl (fun u _ hu => hu.stopCore)

theorem Stays.setVolts (h : Stays s t) {g v} : Stays s (Machine.setVolts g v t) := by unfold Machine.setVolts; exact h.foldl (fun u _ hu => hu.wri)

theorem Stays.gearBegin (h : Stays s t) {g t1} : Stays s (Machine.gearBegin g t1 t) := by
  unfold Machine.gearBegin
  extract_lets a b
  exact .ite h.wri.setVolts.modGear h.wri.modGear

theorem Stays.gearStart (h : Stays s t) {g t1} : Stays s (Machine.gearStart g t1 t) := by
  unfold Machine.gearStart
  extract_lets a st wait
  have hwait : Stays s wait := h.modGear
  exact .ite h.modGear (.ite hwait (.ite (.gearBegin (.shfAbandon (.ite h.shfDone h))) (.ite hwait h.gearBegin)))

theorem Stays.gearNext (h : Stays s t) {g} : Stays s (Machine.gearNext g t) := by
  unfold Machine.gearNext
  split
  · exact .ite h.gearStart h
  · exact h

theorem Stays.gearNextAll (h : Stays s t) : Stays s (Machine.gearNextAll t) := by
  unfold Machine.gearNextAll
  exact h.foldl (fun u a hu => hu.gearNext)

theorem Stays.closeGates (h : Stays s t) {d mask} : Stays s (Machine.closeGates d mask t) := by
  unfold Machine.closeGates
  exact h.foldl (fun u _ hu => .ite hu.wri hu)

theorem Stays.addFaulted (h : Stays s t) {fs} : Stays s (Machine.addFaulted fs t) := by
  unfold Machine.addFaulted
  exact h.foldl (fun u a hu => hu.wri.closeGates)

theorem Stays.clearFaulted (h : Stays s t) : Stays s (Machine.clearFaulted t) := by unfold Machine.clearFaulted; exact h.foldl (fun u _ hu => hu.wri)

theorem Stays.lossBegin (h : Stays s t) {st} : Stays s (Machine.lossBegin st t) := by
  unfold Machine.lossBegin
  refine .ite ?_ h
  extract_lets u _
  have hu : Stays s u := h.inci
  exact hu.lit

theorem Stays.lossEnd (h : Stays s t) : Stays s (Machine.lossEnd t) := by
  unfold Machine.lossEnd
  split
  · extract_lets u _
    have hu : Stays s u := h.addi
    exact hu.lit
  · exact h

theorem Stays.lossCheck (h : Stays s t) : Stays s (Machine.lossCheck t) := by unfold Machine.lossCheck; exact .ite h.lossEnd h

theorem Stays.clearFreeze (h : Stays s t) : Stays s (Machine.clearFreeze t) := by
  unfold Machine.clearFreeze
  exact h.foldl (fun u _ hu => hu.foldl (fun u1 _ hu1 => .ite hu1.wri.wri.modRegion hu1))

theorem Stays.fault (h : Stays s t) {st source fs ev} : Stays s (State.fault t st source fs ev) := by
  unfold State.fault
  refine .ite h.recordSt ?_
  refine .ite ?_ ?_
  · extract_lets u u1 u2 _ u3 u4
    have hu : Stays s u := h.addFaulted
    have hu1 : Stays s u1 := hu.coresOnSafe
    have hu2 : Stays s u2 := hu1.addi.wr
    have hu3 : Stays s u3 := hu2.lit
    have hu4 : Stays s u4 := .turnService (.ite hu3 hu3.endReq)
    exact hu4.record
  · extract_lets u _ u1 u2 u3 u4 u5 u6 u7 u8
    have hu : Stays s u := .ite h.clearFreeze h
    have hu1 : Stays s u1 := hu.lit
    have hu2 : Stays s u2 := hu1.clearFaulted.addFaulted
    have hu3 : Stays s u3 := hu2.wr.wr
    have hu4 : Stays s u4 := .ite hu3 hu3.endReq
    have hu5 : Stays s u5 := hu4.shfOnSafe.gearNextAll
    have hu6 : Stays s u6 := hu5.setMode
    have hu7 : Stays s u7 := hu6.coresOnSafe
    have hu8 : Stays s u8 := hu7.weltOnSafe
    exact hu8.lossBegin.record.lossCheck

end

end Sys2Proof.Machine

namespace Sys2Proof.Machine

set_option Elab.async false

/-! General I/O (R422 to R427) -/

section
variable {s t u : State} {k n : Nat}

/-- What an event input and its wakes leave: memory and the registers below the dies' space. -/
def PinFrame (s t : State) : Prop := t.mem = s.mem ∧ ∀ (f : Fld) (o : Nat), f.lo < 32 → f.adr + o < 0x1000000 → f.key o ≠ HLT_AVSEC_SEC.key 0 → t.rdi f o = s.rdi f o

theorem PinFrame.trans (h : PinFrame s t) (g : PinFrame t u) : PinFrame s u :=
  ⟨g.1.trans h.1, fun f o hf ho hk => (g.2 f o hf ho hk).trans (h.2 f o hf ho hk)⟩

theorem PinFrame.mode (h : PinFrame s t) : t.mode = s.mode := h.2 GLB_MODE_MODE 0 (by decide) (by decide) (by decide)

theorem PinFrame.sameMem (h : PinFrame s t) : SameMem s t := .of_mem h.1

/-- The registers of the pins of one bank. -/
theorem oPin_lt (k : Fin 12) (n : Fin 32) : oPin k n < 0xC00 := by unfold oPin; omega

theorem PinFrame.rdi_pin (h : PinFrame s t) (k : Fin 12) (n : Fin 32) {f : Fld} (hf : f.lo < 32 ∧ 0xC8000 ≤ f.adr ∧ f.adr < 0xCA000 := by decide) :
    t.rdi f (oPin k n) = s.rdi f (oPin k n) := by
  obtain ⟨hlo, hadr, hadr'⟩ := hf
  have ho := oPin_lt k n
  refine h.2 f _ hlo (by omega) ?_
  change (f.adr + oPin k n) * 32 + f.lo ≠ (0x120200 + 0) * 32 + 0
  omega

theorem reach_pinFrame (s : State) (t : Nat) : PinFrame s (s.reach t) ∧ (s.reach t).pins = s.pins := by
  unfold State.reach
  split
  · obtain ⟨-, -, -, -, hmem, -⟩ := s.pass_spec (t - s.clocks.tb)
    refine ⟨⟨hmem, fun f o _ _ hk => s.pass_rdi _ hk⟩, ?_⟩
    unfold State.pass State.serve
    dsimp only
    split <;> rfl
  · exact ⟨⟨rfl, fun _ _ _ _ _ => rfl⟩, rfl⟩

theorem wakeNet_pinFrame (d r j src : Nat) (s : State) : PinFrame s (wakeNet d r j src s) ∧ (wakeNet d r j src s).pins = s.pins := by
  have hrun : ∀ (v : Nat) (u : State) (f : Fld) (o : Nat), f.lo < 32 → f.adr + o < 0x1000000 → (u.wri FDC_RSTAT_CLKRUN (oReg d r) v).rdi f o = u.rdi f o :=
    fun v u f o hf ho => u.rdi_wri_dieSpace ⟨by decide, by decide, hf⟩ ho _ _
  have hwake : ∀ (v : Nat) (u : State) (f : Fld) (o : Nat), f.lo < 32 → f.adr + o < 0x1000000 → (u.wri FDC_RWAKES_COUNT (oReg d r) v).rdi f o = u.rdi f o :=
    fun v u f o hf ho => u.rdi_wri_dieSpace ⟨by decide, by decide, hf⟩ ho _ _
  unfold wakeNet
  extract_lets en s1
  split_ifs
  · exact ⟨⟨rfl, fun _ _ _ _ _ => rfl⟩, rfl⟩
  · exact ⟨⟨rfl, fun f o hf ho _ => (hwake _ _ f o hf ho).trans (hrun _ s1 f o hf ho)⟩, rfl⟩
  · exact ⟨⟨rfl, fun _ _ _ _ _ => rfl⟩, rfl⟩

theorem State.pin_modPin (s : State) (k n : Nat) (f : Pin → Pin) : (s.modPin k n f).pin k n = f (s.pin k n) := tabGet_mod_same ..

/-- The wakes of one region by an event. -/
theorem regionWakes_pinFrame (k r n : Nat) (s : State) (l : List Nat) :
    PinFrame s (l.foldl (fun s c => if s.rdi FDC_RCLK_EVSEL (oClk k r c) = n then wakeNet k r c 1 s else s) s) ∧
    (l.foldl (fun s c => if s.rdi FDC_RCLK_EVSEL (oClk k r c) = n then wakeNet k r c 1 s else s) s).pins = s.pins := by
  induction l generalizing s with
  | nil => exact ⟨⟨rfl, fun _ _ _ _ _ => rfl⟩, rfl⟩
  | cons c l ih =>
    rw [List.foldl_cons]
    split
    · obtain ⟨hframe, hpins⟩ := wakeNet_pinFrame k r c 1 s
      obtain ⟨hrest, hrestPins⟩ := ih (wakeNet k r c 1 s)
      exact ⟨hframe.trans hrest, hrestPins.trans hpins⟩
    · exact ih s

theorem deliverEvent_spec (k n t : Nat) (s : State) : PinFrame s (deliverEvent k n t s) ∧ (deliverEvent k n t s).pin k n = { s.pin k n with evAt := some t, merged := 0 } := by
  obtain ⟨u, hu⟩ : ∃ u, u = s.modPin k n fun p => { p with evAt := some t, merged := 0 } := ⟨_, rfl⟩
  have hframe : PinFrame s u := by rw [hu]; exact ⟨rfl, fun _ _ _ _ _ => rfl⟩
  have hpin : u.pin k n = { s.pin k n with evAt := some t, merged := 0 } := by rw [hu, State.pin_modPin]
  have hwakes : ∀ l : List Nat, PinFrame u (l.foldl (fun s r => (List.range 4).foldl (fun s c => if s.rdi FDC_RCLK_EVSEL (oClk k r c) = n then wakeNet k r c 1 s else s) s) u) ∧
      (l.foldl (fun s r => (List.range 4).foldl (fun s c => if s.rdi FDC_RCLK_EVSEL (oClk k r c) = n then wakeNet k r c 1 s else s) s) u).pins = u.pins := fun l => by
    refine List.foldlRecOn (motive := fun v => PinFrame u v ∧ v.pins = u.pins) l _ ⟨⟨rfl, fun _ _ _ _ _ => rfl⟩, rfl⟩ fun v ⟨hv, hp⟩ r _ => ?_
    obtain ⟨hnext, hnextPins⟩ := regionWakes_pinFrame k r n v (List.range 4)
    exact ⟨hv.trans hnext, hnextPins.trans hp⟩
  obtain ⟨hrest, hpins⟩ := hwakes (List.range 32)
  unfold deliverEvent
  rw [← hu]
  refine ⟨hframe.trans hrest, ?_⟩
  rw [← hpin, State.pin, hpins, ← State.pin]

theorem eventEdge_of_none (h : (s.pin k n).evAt = none) (t : Nat) : eventEdge k n t s = deliverEvent k n t s := by simp only [eventEdge, h]

/-- An edge within 20 ns of the event before is merged; one more than the first of them is counted as overrun. -/
theorem eventEdge_of_near {e : Nat} (h : (s.pin k n).evAt = some e) {t : Nat} (ht : t < e + 20) :
    eventEdge k n t s =
      if (s.pin k n).merged = 0 then s.modPin k n fun p => { p with merged := p.merged + 1 }
      else if (s.pin k n).ovrSaid then (s.modPin k n fun p => { p with merged := p.merged + 1 }).inci GIO_OVR_COUNT (oPin k n)
      else (((s.modPin k n fun p => { p with merged := p.merged + 1 }).inci GIO_OVR_COUNT (oPin k n)).push GIO_EVENT_VALID (gioWord 3 k n)).modPin k n
        fun p => { p with ovrSaid := true } := by
  simp only [eventEdge, h, if_neg (Nat.not_le.2 ht)]

/-- The confirmed level of an event input, before what an edge does. -/
def confirmLevel (k n : Nat) (level : Bool) (t : Nat) (s : State) : State :=
  (s.reach t).modPin k n fun p => { p with filt := level, okAt := t + 2 * (s.reach t).rdi GIO_PCFG_MINP (oPin k n), since := if pinActive (s.reach t) k n level then some t else none }

section
variable {k : Fin 12} {n : Fin 32} {level : Bool}

theorem pinActive_reach (s : State) (k : Fin 12) (n : Fin 32) (level : Bool) (t : Nat) : pinActive (s.reach t) k n level = pinActive s k n level := by
  obtain ⟨hframe, -⟩ := reach_pinFrame s t
  rw [pinActive, hframe.rdi_pin k n, pinActive]

theorem confirmLevel_spec (k : Fin 12) (n : Fin 32) (level : Bool) (t : Nat) (s : State) :
    PinFrame s (confirmLevel k n level t s) ∧ (confirmLevel k n level t s).pin k n =
      { s.pin k n with filt := level, okAt := t + 2 * s.rdi GIO_PCFG_MINP (oPin k n), since := if pinActive s k n level then some t else none } := by
  obtain ⟨hframe, hpins⟩ := reach_pinFrame s t
  refine ⟨hframe, ?_⟩
  rw [confirmLevel, State.pin_modPin, pinActive_reach, hframe.rdi_pin k n, State.pin, hpins, ← State.pin]

/-- EVENT_INPUT_EDGE of an enabled input whose level changes once it may. -/
theorem exec_eventInputEdge {t : Nat} (hen : s.rdi GIO_PCFG_EVEN (oPin k n) ≠ 0) (hlevel : (s.pin k n).filt ≠ level) (ht : (s.pin k n).okAt ≤ t) :
    exec (.eventInputEdge k n level t) s = .next
      (if (s.pin k n).masked then
        (if pinActive (s.reach t) k n level then confirmLevel k n level t s else
          (((confirmLevel k n level t s).wri GIO_STUCK_MASK (4 * k) ((confirmLevel k n level t s).rdi GIO_STUCK_MASK (4 * k) - 2 ^ n.val)).push GIO_EVENT_VALID (gioWord 2 k n)).modPin k n
            fun p => { p with masked := false })
      else if bit ((confirmLevel k n level t s).rdi GIO_PCFG_EDGE (oPin k n)) (if pinActive (s.reach t) k n level then 0 else 1) = 1 then eventEdge k n t (confirmLevel k n level t s)
      else confirmLevel k n level t s) := by
  refine (if_neg ?_).trans ?_
  · rintro (h | h | h)
    · exact hen h
    · exact hlevel h
    · omega
  · unfold confirmLevel
    split_ifs <;> rfl

end

/-- An event input's registers, for the words that configure it. -/
def pinFields : List Fld := [GIO_PCFG_EVEN, GIO_PCFG_POL, GIO_PCFG_EDGE, GIO_PCFG_MINP, GIO_PCFG_SUNIT, GIO_PCFG_STUCK]

theorem putPinWord_spec (d n v : Nat) (s : State) : ∃ u, putPinWord d n v s = u ∧ u.rdi GIO_PCFG_EVEN (oPin d n) = bit v 31 ∧ u.rdi GIO_PCFG_POL (oPin d n) = bit v 30 ∧
    u.rdi GIO_PCFG_EDGE (oPin d n) = bits v 28 2 ∧ u.rdi GIO_PCFG_MINP (oPin d n) = max 1 (min 1000 (bits v 18 10)) ∧ u.rdi GIO_PCFG_SUNIT (oPin d n) = bit v 17 ∧
    u.rdi GIO_PCFG_STUCK (oPin d n) = min (bits v 0 16) (if bit v 17 = 1 then 60000 else 1000) ∧ u.pins = s.pins ∧ u.clocks = s.clocks ∧ u.mem = s.mem ∧
    SameRegsBut (pinFields.map fun f => f.key (oPin d n)) s u := by
  have hbit : ∀ j, bit v j % 2 ^ 1 = bit v j := fun j => Nat.mod_eq_of_lt (bit_lt_two v j)
  have hbits : ∀ j w, bits v j w < 2 ^ w := fun j w => Nat.mod_lt _ (Nat.two_pow_pos w)
  have hstuck : min (bits v 0 16) (if bit v 17 = 1 then 60000 else 1000) < 2 ^ 16 := lt_of_le_of_lt (min_le_left ..) (hbits 0 16)
  refine ⟨_, rfl, ?_, ?_, ?_, ?_, ?_, ?_, rfl, rfl, rfl, ?_⟩
  · simp only [putPinWord, State.rdi_wri_off _ (f := GIO_PCFG_POL) (g := GIO_PCFG_EVEN) (by decide), State.rdi_wri_off _ (f := GIO_PCFG_EDGE) (g := GIO_PCFG_EVEN) (by decide),
      State.rdi_wri_off _ (f := GIO_PCFG_MINP) (g := GIO_PCFG_EVEN) (by decide), State.rdi_wri_off _ (f := GIO_PCFG_SUNIT) (g := GIO_PCFG_EVEN) (by decide),
      State.rdi_wri_off _ (f := GIO_PCFG_STUCK) (g := GIO_PCFG_EVEN) (by decide), State.rdi_wri_same]
    exact hbit 31
  · simp only [putPinWord, State.rdi_wri_off _ (f := GIO_PCFG_EDGE) (g := GIO_PCFG_POL) (by decide),
      State.rdi_wri_off _ (f := GIO_PCFG_MINP) (g := GIO_PCFG_POL) (by decide), State.rdi_wri_off _ (f := GIO_PCFG_SUNIT) (g := GIO_PCFG_POL) (by decide),
      State.rdi_wri_off _ (f := GIO_PCFG_STUCK) (g := GIO_PCFG_POL) (by decide), State.rdi_wri_same]
    exact hbit 30
  · simp only [putPinWord, State.rdi_wri_off _ (f := GIO_PCFG_MINP) (g := GIO_PCFG_EDGE) (by decide), State.rdi_wri_off _ (f := GIO_PCFG_SUNIT) (g := GIO_PCFG_EDGE) (by decide),
      State.rdi_wri_off _ (f := GIO_PCFG_STUCK) (g := GIO_PCFG_EDGE) (by decide), State.rdi_wri_same]
    exact Nat.mod_eq_of_lt (hbits 28 2)
  · simp only [putPinWord, State.rdi_wri_off _ (f := GIO_PCFG_SUNIT) (g := GIO_PCFG_MINP) (by decide),
      State.rdi_wri_off _ (f := GIO_PCFG_STUCK) (g := GIO_PCFG_MINP) (by decide), State.rdi_wri_same]
    exact Nat.mod_eq_of_lt (show _ < 2 ^ 10 by omega)
  · simp only [putPinWord, State.rdi_wri_off _ (f := GIO_PCFG_STUCK) (g := GIO_PCFG_SUNIT) (by decide), State.rdi_wri_same]
    exact hbit 17
  · exact (State.rdi_wri_same ..).trans (Nat.mod_eq_of_lt hstuck)
  · exact (((((SameRegsBut.refl.wri (by simp [pinFields])).wri (by simp [pinFields])).wri (by simp [pinFields])).wri (by simp [pinFields])).wri (by simp [pinFields])).wri (by simp [pinFields])

/-- A supply's fault is shown before its consequence. -/
theorem supplyFault_shown (k : Fin 12) (s : State) : ∃ u, (s.wri GIO_BSTAT_VFAULT (4 * k) 1).push GIO_EVENT_VALID (gioWord 4 k 0) = u ∧ u.rdi GIO_BSTAT_VFAULT (4 * k) = 1 ∧
    u.rdi GLB_DIESTAT_STATE (4 * k) = s.rdi GLB_DIESTAT_STATE (4 * k) ∧ u.mode = s.mode ∧ u.mem = s.mem := by
  refine ⟨_, rfl, ?_, ?_, ?_, rfl⟩
  · rw [State.push_rdi]
    exact State.rdi_wri_same ..
  · rw [State.push_rdi]
    exact s.rdi_wri_off (by decide) ..
  · rw [State.push_mode]
    exact s.wri_mode_above (by decide) ..

/-- Settles O52, clause by clause. -/
theorem generalIo : Obligations.GeneralIo := by
  unfold Obligations.GeneralIo
  refine ⟨?_, ?_, ?_, ?_, ?_, ?_, ?_, ?_, ?_, ?_, ?_, ?_⟩
  · intro s k n level t hen hlevel ht hmask hedge hevent
    obtain ⟨hframe, hpin⟩ := confirmLevel_spec k n level t s
    rw [exec_eventInputEdge hen hlevel ht, yields_next, if_neg (by simp [hmask]), pinActive_reach, hframe.rdi_pin k n, if_pos hedge,
      eventEdge_of_none (by rw [hpin]; exact hevent)]
    obtain ⟨hdeliver, hafter⟩ := deliverEvent_spec k n t (confirmLevel k n level t s)
    exact ⟨by rw [hafter, hpin], (hframe.trans hdeliver).mode, (hframe.trans hdeliver).sameMem⟩
  · intro s k n level t e hen hlevel ht hmask hedge hevent hnear
    obtain ⟨hframe, hpin⟩ := confirmLevel_spec k n level t s
    have hevent' : ((confirmLevel k n level t s).pin k n).evAt = some e := by rw [hpin]; exact hevent
    have hmerged : ((confirmLevel k n level t s).pin k n).merged = (s.pin k n).merged := by rw [hpin]
    have hcount : (confirmLevel k n level t s).rdi GIO_OVR_COUNT (oPin k n) = s.rdi GIO_OVR_COUNT (oPin k n) := hframe.rdi_pin k n
    rw [exec_eventInputEdge hen hlevel ht, yields_next, if_neg (by simp [hmask]), pinActive_reach, hframe.rdi_pin k n, if_pos hedge, eventEdge_of_near hevent' hnear, hmerged]
    have hmem := hframe.sameMem
    generalize confirmLevel k n level t s = u at *
    obtain ⟨v, hv⟩ : ∃ v, v = u.modPin k n fun p => { p with merged := p.merged + 1 } := ⟨_, rfl⟩
    have hvpin : v.pin k n = { u.pin k n with merged := (u.pin k n).merged + 1 } := by rw [hv, State.pin_modPin]
    have hvmerged : (v.pin k n).merged = (s.pin k n).merged + 1 := by rw [hvpin]; exact congrArg (· + 1) hmerged
    have hvevent : (v.pin k n).evAt = some e := by rw [hvpin]; exact hevent'
    have hvcount : v.rdi GIO_OVR_COUNT (oPin k n) = s.rdi GIO_OVR_COUNT (oPin k n) := by rw [hv]; exact hcount
    have hvmem : SameMem s v := by rw [hv]; exact hmem
    have hinc : (v.inci GIO_OVR_COUNT (oPin k n)).rdi GIO_OVR_COUNT (oPin k n) = min (s.rdi GIO_OVR_COUNT (oPin k n) + 1) 65535 :=
      (State.rdi_addi_same ..).trans (by rw [hvcount]; rfl)
    rw [← hv]
    split_ifs with h0 hsaid
    · exact ⟨hvevent, hvmerged, hvcount, hvmem⟩
    · exact ⟨hvevent, hvmerged, hinc, hvmem⟩
    · rw [State.pin_modPin]
      exact ⟨hvevent, hvmerged, hinc, hvmem⟩
  · intro s k n level t hen hlevel ht hmask hactive hword hbit
    obtain ⟨hframe, hpin⟩ := confirmLevel_spec k n level t s
    have hset : 2 ^ n.val ≤ s.rdi GIO_STUCK_MASK (4 * k) := by
      by_contra hlt
      rw [bit, Nat.div_eq_of_lt (Nat.lt_of_not_le hlt)] at hbit
      exact absurd hbit (by decide)
    have hmaskWord : (confirmLevel k n level t s).rdi GIO_STUCK_MASK (4 * k) = s.rdi GIO_STUCK_MASK (4 * k) :=
      hframe.2 _ _ (by decide) (by change 0xCA000 + 4 * k.val < 0x1000000; omega) (by change (0xCA000 + 4 * k.val) * 32 + 0 ≠ (0x120200 + 0) * 32 + 0; omega)
    rw [exec_eventInputEdge hen hlevel ht, yields_next, if_pos hmask, pinActive_reach, hactive, if_neg (by decide), hmaskWord]
    have hmem := hframe.sameMem
    generalize confirmLevel k n level t s = u at *
    refine ⟨by rw [State.pin_modPin], ?_, ?_, hmem⟩
    · have hstored : ((u.wri GIO_STUCK_MASK (4 * k) (s.rdi GIO_STUCK_MASK (4 * k) - 2 ^ n.val))).rdi GIO_STUCK_MASK (4 * k) = s.rdi GIO_STUCK_MASK (4 * k) - 2 ^ n.val :=
        (State.rdi_wri_same ..).trans (Nat.mod_eq_of_lt (lt_of_le_of_lt (Nat.sub_le ..) hword))
      refine (congrArg (· + 2 ^ n.val) hstored).trans ?_
      exact Nat.sub_add_cancel hset
    · have hevent : (u.pin k n).evAt = (s.pin k n).evAt := by rw [hpin]
      rw [State.pin_modPin]
      exact hevent
  · intro s k n level t h
    exact if_pos h
  · intro s k n e hmask hevent hmerged
    have hcmd : exec (.eventMergeDelivery k n) s = .next (deliverEvent k n (e + 20) (s.reach (e + 20))) := by
      change Host.Outcome.next (if (s.pin k n).masked then s else mergeDeliver k n s) = _
      simp only [hmask, mergeDeliver, hevent, if_neg hmerged, Bool.false_eq_true, if_false]
    obtain ⟨hreach, hpins⟩ := reach_pinFrame s (e + 20)
    obtain ⟨hdeliver, hpin⟩ := deliverEvent_spec k n (e + 20) (s.reach (e + 20))
    rw [hcmd, yields_next]
    exact ⟨by rw [hpin, State.pin, hpins, ← State.pin], (hreach.trans hdeliver).sameMem⟩
  · intro s k n h
    change Host.Outcome.next (if (s.pin k n).masked then s else mergeDeliver k n s) = _
    rcases h with h | h
    · rw [if_pos h]
    · split_ifs
      · rfl
      · unfold mergeDeliver
        dsimp only
        split
        · rw [if_pos h]
        · rfl
  · intro s k n t hsince hen hmask hstuck
    have hcmd : exec (.eventInputStuck k n) s = .next (((((s.reach (t + stuckNs s k n + 2)).modPin k n fun p => { p with masked := true, merged := 0 }).wri GIO_STUCK_MASK (4 * k)
        ((s.reach (t + stuckNs s k n + 2)).rdi GIO_STUCK_MASK (4 * k) ||| 2 ^ n.val)).push GIO_EVENT_VALID (gioWord 1 k n)).record 0x0014 12 2
        [gioWord 1 k n, ((((s.reach (t + stuckNs s k n + 2)).modPin k n fun p => { p with masked := true, merged := 0 }).wri GIO_STUCK_MASK (4 * k)
          ((s.reach (t + stuckNs s k n + 2)).rdi GIO_STUCK_MASK (4 * k) ||| 2 ^ n.val))).rdi GIO_STUCK_MASK (4 * k)]) := by
      change execEventInputStuck k n s = _
      simp only [execEventInputStuck, hsince]
      rw [if_neg (by rintro (h | h | h); exacts [hen h, absurd (hmask.symm.trans h) (by decide), hstuck h])]
    obtain ⟨hreach, -⟩ := reach_pinFrame s (t + stuckNs s k n + 2)
    rw [hcmd, yields_next]
    have hmem := hreach.sameMem
    have hmode := hreach.mode
    generalize s.reach (t + stuckNs s k n + 2) = u at *
    obtain ⟨v, hv⟩ : ∃ v, v = u.modPin k n fun p => { p with masked := true, merged := 0 } := ⟨_, rfl⟩
    have hpin : v.pin k n = { u.pin k n with masked := true, merged := 0 } := by rw [hv, State.pin_modPin]
    have hvmem : SameMem s v := by rw [hv]; exact hmem
    have hvmode : v.mode = s.mode := by rw [hv]; exact hmode
    rw [← hv]
    refine ⟨?_, ?_, ?_, ?_, ?_⟩
    · simp only [State.pin, State.record_frame]
      exact congrArg Pin.masked hpin
    · simp only [State.pin, State.record_frame]
      exact congrArg Pin.merged hpin
    · rw [State.record_rdi _ _ _ _ _ (by change (0xCA000 + 4 * k.val) * 32 + 0 ≠ (0x11000c + 0) * 32 + 0; omega)]
      refine (congrArg (bit · n) (State.rdi_wri_same ..)).trans ((bit_mod_two_pow n.isLt _).trans (bit_lor_self ..))
    · rw [State.record_mode]
      exact (v.wri_mode_above (by decide) _ _).trans hvmode
    · exact SameMem.trans hvmem (.of_mem (by simp only [State.record_frame]; rfl))
  · intro s k n v
    change Yields (.next (pcfgWrite k n v.toNat s)) _
    rw [yields_next]
    obtain ⟨u, hu, heven, hpol, hedge, hminp, hsunit, hstuck, hpins, hclocks, hmem, hregs⟩ := putPinWord_spec k n v.toNat s
    unfold pcfgWrite
    rw [hu]
    dsimp only
    have hpin : u.pin k n = s.pin k n := by rw [State.pin, hpins, ← State.pin]
    simp only [State.pin_modPin, State.modPin_rdi, heven, hpol, hedge, hminp, hsunit, hstuck, hclocks, hpin, pinActive, true_and]
    refine ⟨?_, hregs, .of_mem hmem⟩
    by_cases h31 : bit v.toNat 31 = 1 <;> cases (s.pin k n).filt <;> simp [h31]
  · intro s k hclear hstate hmode
    obtain ⟨u, hu, hshown, hdie, humode, -⟩ := supplyFault_shown k s
    have hcmd : exec (.bankSupplyFault k) s = .next (u.fault ST_HW_GIO_VCCO k (u.dieRegions k) [gioWord 4 k 0]) := by
      change execBankSupplyFault k s = _
      rw [execBankSupplyFault, if_neg hclear]
      dsimp only
      rw [hu, hdie, if_neg (by omega)]
    rw [hcmd, yields_next]
    exact ⟨State.fault_mode (humode ▸ hmode) .., ((Stays.refl u).fault.rdi (.inr ⟨k, k.isLt, rfl⟩)).trans hshown⟩
  · intro s k hclear hstate
    obtain ⟨u, hu, hshown, hdie, humode, hmem⟩ := supplyFault_shown k s
    have hcmd : exec (.bankSupplyFault k) s = .next (u.recordSt ST_HW_GIO_VCCO k [gioWord 4 k 0]) := by
      change execBankSupplyFault k s = _
      rw [execBankSupplyFault, if_neg hclear]
      dsimp only
      rw [hu, hdie, if_pos hstate]
    rw [hcmd, yields_next]
    refine ⟨(State.record_mode ..).trans humode, ?_, .of_mem (by simp only [State.recordSt, State.record_frame, hmem])⟩
    rw [State.recordSt, State.record_rdi _ _ _ _ _ (by change (0xCA040 + 4 * k.val) * 32 + 2 ≠ (0x11000c + 0) * 32 + 0; omega)]
    exact hshown
  · intro s k h
    exact if_pos h
  · intro s k hmode
    have hcmd : exec (.bankSupplyRestored k) s = .next (s.wri GIO_BSTAT_VFAULT (4 * k) 0) := by
      refine congrArg Host.Outcome.next (if_neg fun h => hmode ?_)
      exact (s.wri_mode_above (by decide) ..).symm.trans h.1
    rw [hcmd, yields_next]
    exact ⟨State.rdi_wri_same .., s.wri_mode_above (by decide) .., SameRegsBut.refl.wri, .of_mem rfl⟩

end

end Sys2Proof.Machine

namespace Sys2Proof.Machine

set_option Elab.async false

/-! Bits of a word, and words of memory -/

theorem bits_mod_two_pow {lo w n : Nat} (h : lo + w ≤ n) (x : Nat) : bits (x % 2 ^ n) lo w = bits x lo w := by
  obtain ⟨k, rfl⟩ := Nat.exists_eq_add_of_le h
  rw [bits, bits, Nat.add_assoc, Nat.pow_add, Nat.mod_mul_right_div_self, Nat.pow_add, Nat.mod_mul_right_mod]

theorem bits_putBits_same (x lo w v : Nat) : bits (putBits x lo w v) lo w = v % 2 ^ w := by
  have hlow : x % 2 ^ lo < 2 ^ lo := Nat.mod_lt _ (Nat.two_pow_pos lo)
  have hsum : putBits x lo w v = x % 2 ^ lo + 2 ^ lo * (v % 2 ^ w + 2 ^ w * (x / 2 ^ (lo + w))) := by rw [putBits, Nat.pow_add]; ring
  rw [bits, hsum, Nat.add_mul_div_left _ _ (Nat.two_pow_pos lo), Nat.div_eq_of_lt hlow, Nat.zero_add, Nat.add_mul_mod_self_left, Nat.mod_mod]

/-- Bits below those that are replaced. -/
theorem bits_putBits_below {lo' w' lo : Nat} (h : lo' + w' ≤ lo) (x w v : Nat) : bits (putBits x lo w v) lo' w' = bits x lo' w' := by
  have hsum : putBits x lo w v = x % 2 ^ lo + 2 ^ lo * (v % 2 ^ w + 2 ^ w * (x / 2 ^ (lo + w))) := by rw [putBits, Nat.pow_add]; ring
  rw [← bits_mod_two_pow h, hsum, Nat.add_mul_mod_self_left, Nat.mod_mod, bits_mod_two_pow h]

/-- Bits above those that are replaced. -/
theorem bits_putBits_above {lo' lo w : Nat} (h : lo + w ≤ lo') (x v w' : Nat) : bits (putBits x lo w v) lo' w' = bits x lo' w' := by
  obtain ⟨k, rfl⟩ := Nat.exists_eq_add_of_le h
  have hlow : v % 2 ^ w * 2 ^ lo + x % 2 ^ lo < 2 ^ (lo + w) := by
    have hv : v % 2 ^ w + 1 ≤ 2 ^ w := Nat.mod_lt _ (Nat.two_pow_pos w)
    have hx : x % 2 ^ lo < 2 ^ lo := Nat.mod_lt _ (Nat.two_pow_pos lo)
    calc v % 2 ^ w * 2 ^ lo + x % 2 ^ lo < v % 2 ^ w * 2 ^ lo + 2 ^ lo := Nat.add_lt_add_left hx _
      _ = (v % 2 ^ w + 1) * 2 ^ lo := by ring
      _ ≤ 2 ^ w * 2 ^ lo := Nat.mul_le_mul_right _ hv
      _ = 2 ^ (lo + w) := by rw [Nat.pow_add]; ring
  have hdiv : putBits x lo w v / 2 ^ (lo + w) = x / 2 ^ (lo + w) := by
    rw [putBits, Nat.add_assoc, Nat.mul_comm, Nat.mul_add_div (Nat.two_pow_pos _), Nat.div_eq_of_lt hlow, Nat.add_zero]
  rw [bits, bits, Nat.pow_add, ← Nat.div_div_eq_div_mul, ← Nat.div_div_eq_div_mul, hdiv]

theorem bit_eq_bits (x n : Nat) : bit x n = bits x n 1 := rfl

section
variable {s t u : State}

theorem rdMem_ext {n a : Nat} (h : ∀ i, i < n → t.rdByte (a + i) = s.rdByte (a + i)) : t.rdMem n a = s.rdMem n a := by
  induction n generalizing a with
  | zero => rfl
  | succ n ih =>
    rw [State.rdMem, State.rdMem, show t.rdByte a = s.rdByte a from h 0 (by omega), ih fun i hi => by rw [Nat.add_assoc, Nat.add_comm 1 i]; exact h (i + 1) (by omega)]

theorem rdMem_wrMem_same (s : State) (n a v : Nat) : (s.wrMem n a v).rdMem n a = v % 256 ^ n := by
  induction n generalizing s a v with
  | zero => exact (Nat.mod_one v).symm
  | succ n ih =>
    have hfirst : ((s.wrByte a (v % 256)).wrMem n (a + 1) (v / 256)).rdByte a = v % 256 := by
      rw [State.rdByte_wrMem, if_neg (by omega), State.rdByte_wrByte_same, Nat.mod_mod]
    rw [State.wrMem, State.rdMem, hfirst, ih, Nat.pow_succ', Nat.mod_mul]

theorem rdMem_wrMem_ne {n a m b : Nat} (h : b + m ≤ a ∨ a + n ≤ b) (s : State) (v : Nat) : (s.wrMem n a v).rdMem m b = s.rdMem m b := by
  refine rdMem_ext fun i hi => ?_
  rw [State.rdByte_wrMem, if_neg (by omega)]

theorem wrMem_eq (s : State) (n a v : Nat) : ∃ mem, s.wrMem n a v = { s with mem } := by
  induction n generalizing s a v with
  | zero => exact ⟨_, rfl⟩
  | succ n ih => exact ih _ _ _

theorem SameMemOutside.wrMem (s : State) (n a v : Nat) : SameMemOutside a n s (s.wrMem n a v) := fun b hb => by
  rw [State.rdByte_wrMem, if_neg (by omega)]

/-! The words of a queue's context (R205, R206) -/

/-- `t` is `s` with another memory. -/
def MemOnly (s t : State) : Prop := ∃ mem, t = { s with mem }

theorem MemOnly.refl (s : State) : MemOnly s s := ⟨_, rfl⟩

theorem MemOnly.trans (h : MemOnly s t) (g : MemOnly t u) : MemOnly s u := by
  obtain ⟨m, rfl⟩ := h
  obtain ⟨m', rfl⟩ := g
  exact ⟨m', rfl⟩

theorem MemOnly.setCtxWord (q k v : Nat) (s : State) : MemOnly s (setCtxWord q k v s) := wrMem_eq ..

theorem MemOnly.setCtx (q k lo w v : Nat) (s : State) : MemOnly s (setCtx q k lo w v s) := wrMem_eq ..

theorem MemOnly.rdi (h : MemOnly s t) (f : Fld) (o : Nat) : t.rdi f o = s.rdi f o := by
  obtain ⟨m, rfl⟩ := h
  rfl

theorem MemOnly.rd (h : MemOnly s t) (f : Fld) : t.rd f = s.rd f := h.rdi f 0

theorem ctxWord_lt (s : State) (q k : Nat) : ctxWord s q k < 2 ^ 64 := rdMem_lt s 8 _

theorem ctxWord_congr (h : t.mem = s.mem) (q k : Nat) : ctxWord t q k = ctxWord s q k := rdMem_congr h ..

theorem ctxWord_setCtxWord_same (q k v : Nat) (s : State) : ctxWord (setCtxWord q k v s) q k = v % 2 ^ 64 := rdMem_wrMem_same ..

theorem ctxWord_setCtxWord_ne {k j : Nat} (h : j ≠ k) (q v : Nat) (s : State) : ctxWord (setCtxWord q k v s) q j = ctxWord s q j :=
  rdMem_wrMem_ne (by unfold ctxAddr; omega) ..

theorem ctxWord_setCtx_same (q k lo w v : Nat) (s : State) : ctxWord (setCtx q k lo w v s) q k = putBits (ctxWord s q k) lo w v % 2 ^ 64 := ctxWord_setCtxWord_same ..

theorem ctxWord_setCtx_ne {k j : Nat} (h : j ≠ k) (q lo w v : Nat) (s : State) : ctxWord (setCtx q k lo w v s) q j = ctxWord s q j := ctxWord_setCtxWord_ne h ..

theorem bits_setCtx_same {lo w : Nat} (h : lo + w ≤ 64) (q k v : Nat) (s : State) : bits (ctxWord (setCtx q k lo w v s) q k) lo w = v % 2 ^ w := by
  rw [ctxWord_setCtx_same, bits_mod_two_pow h, bits_putBits_same]

theorem bits_setCtx_off {lo w lo' w' : Nat} (h : lo' + w' ≤ lo ∨ lo + w ≤ lo') (hw : lo' + w' ≤ 64) (q k v : Nat) (s : State) :
    bits (ctxWord (setCtx q k lo w v s) q k) lo' w' = bits (ctxWord s q k) lo' w' := by
  rw [ctxWord_setCtx_same, bits_mod_two_pow hw]
  rcases h with h | h
  · exact bits_putBits_below h ..
  · exact bits_putBits_above h ..

theorem SameMemOutside.setCtxWord (q k v : Nat) (s : State) : SameMemOutside (ctxAddr q k) 8 s (setCtxWord q k v s) := SameMemOutside.wrMem s 8 (ctxAddr q k) v

theorem SameMemOutside.setCtx (q k lo w v : Nat) (s : State) : SameMemOutside (ctxAddr q k) 8 s (setCtx q k lo w v s) := SameMemOutside.setCtxWord q k _ s

theorem SameMemOutside.trans {a n : Nat} (h : SameMemOutside a n s t) (g : SameMemOutside a n t u) : SameMemOutside a n s u := fun b hb => (g b hb).trans (h b hb)

theorem SameMemOutside.mono {a n b m : Nat} (h : SameMemOutside a n s t) (hlo : b ≤ a) (hhi : a + n ≤ b + m) : SameMemOutside b m s t := fun x hx => h x (by omega)

/-- The words of one context, `k` and above. -/
theorem SameMemOutside.ctx {q k j n m : Nat} (h : SameMemOutside (ctxAddr q j) n s t) (hk : k ≤ j) (hn : 8 * j + n ≤ 8 * k + m) : SameMemOutside (ctxAddr q k) m s t :=
  h.mono (by unfold ctxAddr; omega) (by unfold ctxAddr; omega)

theorem SameMemOutside.congr {a n : Nat} (h : SameMemOutside a n s t) (e : u.mem = t.mem) : SameMemOutside a n s u := fun b hb => by
  rw [← h b hb, State.rdByte, e, State.rdByte]

theorem qPmask_setPmask (q v : Nat) (s : State) : qPmask (setPmask q v s) q = v := tabGet_set_same ..

theorem qCmask_setCmask (q v : Nat) (s : State) : qCmask (setCmask q v s) q = v := tabGet_set_same ..

theorem qCmask_setPmask (q v : Nat) (s : State) : qCmask (setPmask q v s) q = qCmask s q := tabGet_set_ne _ _ _ _ (by omega)

/-- A queue without notification is evaluated without effect. -/
theorem evalNotify_of_silent {q : Nat} (h : qNmode s q = 0) : evalNotify q s = s := if_neg fun hc => hc.2.2.2 h

theorem sub32_self (x : Nat) : sub32 x x = 0 := by
  unfold sub32
  omega

/-! Queue commands (R213, R214, R216) -/

theorem qcmd_go {op : Nat} {f : Nat → State → Nat × State} (h : s.rd QUE_QCMD_BUSY = 0) :
    qcmd op f s = .next (qcmdDone (f (s.rd QUE_QSEL_Q) (s.wr QUE_QCMD_OP op)).1 (f (s.rd QUE_QSEL_Q) (s.wr QUE_QCMD_OP op)).2) :=
  if_neg (by omega)

theorem qPmask_qcmdDone (st q : Nat) (s : State) : qPmask (qcmdDone st s) q = qPmask s q := rfl

theorem qCmask_qcmdDone (st q : Nat) (s : State) : qCmask (qcmdDone st s) q = qCmask s q := rfl

theorem qcmdDone_ends {st : Nat} (h : st < 2 ^ 16) (s : State) : Ends (qcmdDone st s) QUE_QCMD_STATUS QUE_QCMD_BUSY st :=
  ⟨(State.rd_wr_ne _ _ (by decide)).trans ((State.rd_wr_same ..).trans (Nat.mod_eq_of_lt h)), State.rd_wr_same ..⟩

/-- The fields of a context's first two words that an enable takes from the staging registers. -/
theorem stagingOk_bounds (h : stagingOk s = true) : s.rd QUE_SPARM_LOG2N ≤ 20 ∧ s.rd QUE_SPARM_NMODE ≤ 3 := by
  simp only [stagingOk, Bool.and_eq_true, decide_eq_true_eq] at h
  obtain ⟨⟨⟨⟨-, hlog⟩, -⟩, hmode⟩, -⟩ := h
  exact ⟨hlog, hmode⟩

theorem qEn_eq_bits (s : State) (q : Nat) : qEn s q = (bits (ctxWord s q 0) 55 1 == 1) := rfl

theorem qArmed_eq_bits (s : State) (q : Nat) : qArmed s q = (bits (ctxWord s q 1) 26 1 == 1) := rfl


/-- The command's own register plays no part in a configuration. -/
theorem stagingOk_wr (v : Nat) (s : State) : stagingOk (s.wr QUE_QCMD_OP v) = stagingOk s := by
  have hrd : ∀ {f : Fld}, f.lo < 32 ∧ f.lo ≠ 11 → ∀ o, (s.wr QUE_QCMD_OP v).rdi f o = s.rdi f o := fun {f} hf o => by
    refine State.rdi_wri_ne s v ?_
    change (f.adr + o) * 32 + f.lo ≠ (0x70000 + 0) * 32 + 11
    omega
  simp only [stagingOk, ringOk, dramBytes, State.rd, hrd (f := QUE_SPARM_LOG2N) (by decide), hrd (f := QUE_SPARM_NMODE) (by decide), hrd (f := QUE_SNOTE_NTGT) (by decide),
    hrd (f := QUE_SBASEL_BASE) (by decide), hrd (f := QUE_SBASEH_BASE) (by decide), hrd (f := DRC_GEOM_SIZE) (by decide), hrd (f := GLB_DIESTAT_STATE) (by decide),
    hrd (f := PWR_LSSEG_STATE) (by decide)]
  rfl

/-- Word 0 as an enable writes it. -/
def stagedWord0 (s : State) : Nat :=
  s.rd QUE_SPARM_NTHR * 2 ^ 59 + s.rd QUE_SPARM_NMODE * 2 ^ 56 + 2 ^ 55 + s.rd QUE_SPARM_MC * 2 ^ 54 + s.rd QUE_SPARM_MP * 2 ^ 53 +
    s.rd QUE_SPARM_LOG2N * 2 ^ 48 + (s.rd QUE_SBASEL_BASE * 64 + s.rd QUE_SBASEH_BASE * 2 ^ 32)

/-- Word 1 as an enable writes it over `w`. -/
def stagedWord1 (w : Nat) (s : State) : Nat := putBits (putBits (putBits w 21 5 (s.rd QUE_SNOTE_NSUB)) 0 16 (s.rd QUE_SNOTE_NTGT)) 26 1 1

theorem stagedWord0_wr (v : Nat) (s : State) : stagedWord0 (s.wr QUE_QCMD_OP v) = stagedWord0 s := by
  simp only [stagedWord0, State.rd_wr_ne s (f := QUE_QCMD_OP) (g := QUE_SPARM_NTHR) v (by decide), State.rd_wr_ne s (f := QUE_QCMD_OP) (g := QUE_SPARM_NMODE) v (by decide),
    State.rd_wr_ne s (f := QUE_QCMD_OP) (g := QUE_SPARM_MC) v (by decide), State.rd_wr_ne s (f := QUE_QCMD_OP) (g := QUE_SPARM_MP) v (by decide),
    State.rd_wr_ne s (f := QUE_QCMD_OP) (g := QUE_SPARM_LOG2N) v (by decide), State.rd_wr_ne s (f := QUE_QCMD_OP) (g := QUE_SBASEL_BASE) v (by decide),
    State.rd_wr_ne s (f := QUE_QCMD_OP) (g := QUE_SBASEH_BASE) v (by decide)]

theorem stagedWord1_wr (w v : Nat) (s : State) : stagedWord1 w (s.wr QUE_QCMD_OP v) = stagedWord1 w s := by
  rw [stagedWord1, State.rd_wr_ne s v (by decide), State.rd_wr_ne s v (by decide), stagedWord1]

/-- What QUE_READBACK shows of a queue. -/
def readBackOf (q : Nat) (s : State) : State :=
  let s := (((s.wr QUE_SPARM_NTHR (qNthr s q)).wr QUE_SPARM_NMODE (qNmode s q)).wr QUE_SPARM_MC (bit (ctxWord s q 0) 54)).wr QUE_SPARM_MP (bit (ctxWord s q 0) 53)
  let s := ((s.wr QUE_SPARM_LOG2N (qLog2n s q)).wr QUE_SBASEL_BASE (bits (qBase s q) 6 26)).wr QUE_SBASEH_BASE (bits (qBase s q) 32 16)
  (s.wr QUE_SNOTE_NSUB (qNsub s q)).wr QUE_SNOTE_NTGT (qNtgt s q)

theorem readBack_shown (q : Nat) (s : State) : ∃ u, readBackOf q s = u ∧ u.rd QUE_SPARM_LOG2N = qLog2n s q ∧ u.rd QUE_SPARM_NMODE = qNmode s q ∧ u.rd QUE_SPARM_NTHR = qNthr s q ∧
    u.rd QUE_SBASEL_BASE = bits (qBase s q) 6 26 ∧ u.rd QUE_SBASEH_BASE = bits (qBase s q) 32 16 ∧ u.rd QUE_SNOTE_NTGT = qNtgt s q ∧ u.mem = s.mem := by
  have hword : ∀ (u : State) (f : Fld) (v k : Nat), ctxWord (u.wr f v) q k = ctxWord u q k := fun u f v k => ctxWord_congr rfl ..
  have hbase : ∀ (u : State) (f : Fld) (v : Nat), qBase (u.wr f v) q = qBase u q := fun u f v => by rw [qBase, hword, qBase]
  have hmem : ∀ (u : State) (f : Fld) (v : Nat), (u.wr f v).mem = u.mem := fun _ _ _ => rfl
  refine ⟨_, rfl, ?_, ?_, ?_, ?_, ?_, ?_, by simp only [readBackOf, hmem]⟩ <;> simp (disch := decide) only [readBackOf, State.rd_wr_ne, State.rd_wr_same, qLog2n, qNmode, qNthr, qNtgt, hbase, hword]
  · exact bits_mod _ 48 5
  · exact bits_mod _ 56 3
  · exact bits_mod _ 59 5
  · exact bits_mod _ 6 26
  · exact bits_mod _ 32 16
  · exact bits_mod _ 0 16

/-- An enable of an empty queue stores the staged words and sends nothing. -/
theorem qEnable_of_empty {q : Nat} (hen : qEn s q = false) (hstage : stagingOk s = true) (hresv : qTail s q = qResv s q) (hhead : qTail s q = qHead s q)
    (hclaim : qTail s q = qClaim s q) : qEnable q s = (0, setCtxWord q 1 (stagedWord1 (ctxWord s q 1) s) (setCtxWord q 0 (stagedWord0 s) s)) := by
  have hequal : ¬((s.rd QUE_SBASEL_BASE * 64 + s.rd QUE_SBASEH_BASE * 2 ^ 32 ≠ qBase s q ∨ s.rd QUE_SPARM_LOG2N ≠ qLog2n s q) ∧
      ¬(qTail s q = qResv s q ∧ qTail s q = qHead s q ∧ qTail s q = qClaim s q)) := fun h => h.2 ⟨hresv, hhead, hclaim⟩
  obtain ⟨u, hu⟩ : ∃ u, u = setCtxWord q 1 (stagedWord1 (ctxWord s q 1) s) (setCtxWord q 0 (stagedWord0 s) s) := ⟨_, rfl⟩
  have hword : ∀ k, k ≠ 0 → k ≠ 1 → ctxWord u q k = ctxWord s q k := fun k h0 h1 => by
    rw [hu, ctxWord_setCtxWord_ne h1, ctxWord_setCtxWord_ne h0]
  have hsilent : evalNotify q u = u := by
    refine if_neg fun hc => ?_
    obtain ⟨-, -, hfill, -⟩ := hc
    have hclaimed : qTail u q = qClaim u q := by
      rw [qTail, qClaim, hword 2 (by decide) (by decide), hword 3 (by decide) (by decide)]
      exact hclaim
    rw [hclaimed, sub32_self] at hfill
    exact absurd hfill (Nat.not_le.2 (lt_min (Nat.two_pow_pos _) (Nat.two_pow_pos _)))
  unfold qEnable
  dsimp only
  rw [if_neg (by simp [hen]), if_neg (by simp [hstage]), if_neg hequal]
  exact congrArg (Prod.mk 0) (hu ▸ hsilent)

end

theorem exec_queEnable_of_empty : ∀ (s : State) (q : Nat), s.rd QUE_QCMD_BUSY = 0 → s.rd QUE_QSEL_Q = q → q < 65536 → qEn s q = false → stagingOk s = true → s.rd QUE_SPARM_MC < 2 → s.rd QUE_SPARM_MP < 2 →
    s.rd QUE_SBASEL_BASE < 2 ^ 26 → s.rd QUE_SBASEH_BASE < 2 ^ 16 → s.rd QUE_SPARM_NTHR < 32 → s.rd QUE_SNOTE_NTGT < 2 ^ 16 → s.rd QUE_SNOTE_NSUB < 32 →
    qTail s q = qResv s q → qTail s q = qHead s q → qTail s q = qClaim s q → Yields (exec .queEnable s) fun t => Ends t QUE_QCMD_STATUS QUE_QCMD_BUSY 0 ∧
    qEn t q = true ∧ qBase t q = s.rd QUE_SBASEL_BASE * 64 + s.rd QUE_SBASEH_BASE * 2 ^ 32 ∧ qLog2n t q = s.rd QUE_SPARM_LOG2N ∧ qNmode t q = s.rd QUE_SPARM_NMODE ∧
    qNtgt t q = s.rd QUE_SNOTE_NTGT ∧ qNsub t q = s.rd QUE_SNOTE_NSUB ∧ qArmed t q = true ∧ SameMemOutside (ctxAddr q 0) 16 s t := by
  intro s q hbusy hsel _ hen hstage hmc hmp hlow hhigh hnthr hntgt hnsub hresv hhead hclaim
  obtain ⟨hlog, hmode⟩ := stagingOk_bounds hstage
  have hcmd : exec .queEnable s = .next (qcmdDone 0 (setCtxWord q 1 (stagedWord1 (ctxWord s q 1) s) (setCtxWord q 0 (stagedWord0 s) (s.wr QUE_QCMD_OP 1)))) := by
    change execQueEnable s = _
    rw [execQueEnable, qcmd_go hbusy]
    rw [hsel, qEnable_of_empty (s := s.wr QUE_QCMD_OP 1) hen (by rw [stagingOk_wr, hstage]) hresv hhead hclaim, stagedWord0_wr, stagedWord1_wr,
      show ctxWord (s.wr QUE_QCMD_OP 1) q 1 = ctxWord s q 1 from ctxWord_congr rfl ..]
  rw [hcmd, yields_next]
  obtain ⟨r, hr⟩ : ∃ r, r = setCtxWord q 1 (stagedWord1 (ctxWord s q 1) s) (setCtxWord q 0 (stagedWord0 s) (s.wr QUE_QCMD_OP 1)) := ⟨_, rfl⟩
  have hw0 : ctxWord (qcmdDone 0 r) q 0 = stagedWord0 s % 2 ^ 64 := by
    rw [ctxWord_congr (show (qcmdDone 0 r).mem = r.mem from rfl), hr, ctxWord_setCtxWord_ne (by decide), ctxWord_setCtxWord_same]
  have hw1 : ctxWord (qcmdDone 0 r) q 1 = stagedWord1 (ctxWord s q 1) s % 2 ^ 64 := by
    rw [ctxWord_congr (show (qcmdDone 0 r).mem = r.mem from rfl), hr, ctxWord_setCtxWord_same]
  have hmem : SameMemOutside (ctxAddr q 0) 16 s r := by
    rw [hr]
    exact (((SameMemOutside.setCtxWord q 0 (stagedWord0 s) (s.wr QUE_QCMD_OP 1)).ctx le_rfl (by decide)).trans
      ((SameMemOutside.setCtxWord q 1 _ _).ctx (by decide) (by decide)) : SameMemOutside (ctxAddr q 0) 16 (s.wr QUE_QCMD_OP 1) _)
  rw [← hr]
  refine ⟨qcmdDone_ends (by decide) r, ?_, ?_, ?_, ?_, ?_, ?_, ?_, hmem⟩
  · rw [qEn_eq_bits, hw0, bits_mod_two_pow (by decide), beq_iff_eq, bits, stagedWord0]
    omega
  · rw [qBase, hw0, bits_mod_two_pow (by decide), bits, stagedWord0]
    omega
  · rw [qLog2n, hw0, bits_mod_two_pow (by decide), bits, stagedWord0]
    omega
  · rw [qNmode, hw0, bits_mod_two_pow (by decide), bits, stagedWord0]
    omega
  · rw [qNtgt, hw1, bits_mod_two_pow (by decide), stagedWord1, bits_putBits_below (by decide), bits_putBits_same, Nat.mod_eq_of_lt hntgt]
  · rw [qNsub, hw1, bits_mod_two_pow (by decide), stagedWord1, bits_putBits_below (by decide), bits_putBits_above (by decide), bits_putBits_same]
    exact Nat.mod_eq_of_lt hnsub
  · rw [qArmed_eq_bits, hw1, bits_mod_two_pow (by decide), stagedWord1, bits_putBits_same]
    rfl

theorem queEnable_of_badcfg : ∀ (s : State) (q : Nat), s.rd QUE_QCMD_BUSY = 0 → s.rd QUE_QSEL_Q = q → qEn s q = false → stagingOk s = false → Yields (exec .queEnable s) fun t =>
    Ends t QUE_QCMD_STATUS QUE_QCMD_BUSY ST_QUE_BADCFG ∧ SameMem s t := by
  intro s q hbusy hsel hen hstage
  have hcmd : exec .queEnable s = .next (qcmdDone ST_QUE_BADCFG (s.wr QUE_QCMD_OP 1)) := by
    have hrefused : qEnable q (s.wr QUE_QCMD_OP 1) = (ST_QUE_BADCFG, s.wr QUE_QCMD_OP 1) := (if_neg (ne_true_of_eq_false hen)).trans (if_pos (by rw [stagingOk_wr, hstage]))
    change execQueEnable s = _
    rw [execQueEnable, qcmd_go hbusy]
    rw [hsel, hrefused]
  rw [hcmd, yields_next]
  exact ⟨qcmdDone_ends (by decide) _, .of_mem rfl⟩

theorem queEnable_of_enabled : ∀ (s : State) (q : Nat), s.rd QUE_QCMD_BUSY = 0 → s.rd QUE_QSEL_Q = q → qEn s q = true → Yields (exec .queEnable s) fun t =>
    Ends t QUE_QCMD_STATUS QUE_QCMD_BUSY ST_QUE_STATE ∧ SameMem s t := by
  intro s q hbusy hsel hen
  have hcmd : exec .queEnable s = .next (qcmdDone ST_QUE_STATE (s.wr QUE_QCMD_OP 1)) := by
    have hrefused : qEnable q (s.wr QUE_QCMD_OP 1) = (ST_QUE_STATE, s.wr QUE_QCMD_OP 1) := if_pos hen
    change execQueEnable s = _
    rw [execQueEnable, qcmd_go hbusy]
    rw [hsel, hrefused]
  rw [hcmd, yields_next]
  exact ⟨qcmdDone_ends (by decide) _, .of_mem rfl⟩

theorem queDisable_spec : ∀ (s : State) (q : Nat), s.rd QUE_QCMD_BUSY = 0 → s.rd QUE_QSEL_Q = q → Yields (exec .queDisable s) fun t => Ends t QUE_QCMD_STATUS QUE_QCMD_BUSY 0 ∧
    qEn t q = false ∧ qBase t q = qBase s q ∧ qLog2n t q = qLog2n s q ∧ SameMemOutside (ctxAddr q 0) 8 s t ∧ t.qmasks = s.qmasks ∧
    SameRegsBut [QUE_QCMD_OP.key 0, QUE_QCMD_STATUS.key 0, QUE_QCMD_BUSY.key 0] s t := by
  intro s q hbusy hsel
  obtain ⟨u, hu⟩ : ∃ u, u = s.wr QUE_QCMD_OP 2 := ⟨_, rfl⟩
  obtain ⟨r, hr⟩ : ∃ r, r = setCtx q 0 55 1 0 u := ⟨_, rfl⟩
  have hcmd : exec .queDisable s = .next (qcmdDone 0 r) := by
    change execQueDisable s = _
    rw [execQueDisable, qcmd_go hbusy]
    rw [hsel, hr, hu]
  have huword : ctxWord u q 0 = ctxWord s q 0 := ctxWord_congr (by rw [hu]; rfl) ..
  have hword : ctxWord (qcmdDone 0 r) q 0 = ctxWord r q 0 := ctxWord_congr rfl ..
  have hmasks : r.qmasks = s.qmasks ∧ r.regs = u.regs := by
    obtain ⟨m, hm⟩ := MemOnly.setCtx q 0 55 1 0 u
    rw [hr, hm, hu]
    exact ⟨rfl, rfl⟩
  have hregs : SameRegsBut [QUE_QCMD_OP.key 0, QUE_QCMD_STATUS.key 0, QUE_QCMD_BUSY.key 0] s r := by
    refine SameRegsBut.congr ?_ hmasks.2
    rw [hu]
    exact SameRegsBut.refl.wr
  have hmem : SameMemOutside (ctxAddr q 0) 8 s r := by
    have hbase : SameMemOutside (ctxAddr q 0) 8 s u := fun b _ => by rw [hu]; rfl
    rw [hr]
    exact hbase.trans (SameMemOutside.setCtx _ _ _ _ _ _)
  rw [hcmd, yields_next, qEn_eq_bits, qBase, qLog2n, hword]
  refine ⟨qcmdDone_ends (by decide) _, ?_, ?_, ?_, hmem, hmasks.1, hregs.wr.wr⟩
  · rw [hr, bits_setCtx_same (by decide)]
    rfl
  · rw [hr, bits_setCtx_off (.inl (by decide)) (by decide), huword, qBase]
  · rw [hr, bits_setCtx_off (.inl (by decide)) (by decide), huword, qLog2n]

theorem queResetIndices_spec : ∀ (s : State) (q : Nat), s.rd QUE_QCMD_BUSY = 0 → s.rd QUE_QSEL_Q = q → qEn s q = false → Yields (exec .queResetIndices s) fun t =>
    Ends t QUE_QCMD_STATUS QUE_QCMD_BUSY 0 ∧ ctxWord t q 2 = 0 ∧ ctxWord t q 3 = 0 ∧ ctxWord t q 0 = ctxWord s q 0 ∧ qPmask t q = 0 ∧ qCmask t q = 0 ∧
    SameMemOutside (ctxAddr q 1) 24 s t := by
  intro s q hbusy hsel hen
  obtain ⟨r, hr⟩ : ∃ r : State, r = { (s.wr QUE_QCMD_OP 3) with marks := s.marks.filter fun p => !(ctxAddr q 0 ≤ p.1 && p.1 < ctxAddr q 4) } := ⟨_, rfl⟩
  obtain ⟨u, hu⟩ : ∃ u, u = setCtx q 1 20 1 0 (setCtx q 1 48 16 0 (setCtxWord q 3 0 (setCtxWord q 2 0 r))) := ⟨_, rfl⟩
  have hcmd : exec .queResetIndices s = .next (qcmdDone 0 (setPmask q 0 (setCmask q 0 u))) := by
    change execQueResetIndices s = _
    rw [execQueResetIndices, qcmd_go hbusy]
    rw [hsel, if_neg (show ¬qEn (s.wr QUE_QCMD_OP 3) q = true from ne_true_of_eq_false hen), hu, hr]
    rfl
  have hword : ∀ k, ctxWord (qcmdDone 0 (setPmask q 0 (setCmask q 0 u))) q k = ctxWord u q k := fun k => ctxWord_congr rfl ..
  have hrword : ∀ k, ctxWord r q k = ctxWord s q k := fun k => ctxWord_congr (by rw [hr]; rfl) ..
  have hmem : SameMemOutside (ctxAddr q 1) 24 s u := by
    have hbase : SameMemOutside (ctxAddr q 1) 24 s r := fun b _ => by rw [hr]; rfl
    rw [hu]
    exact (((hbase.trans ((SameMemOutside.setCtxWord _ _ _ _).ctx (by decide) (by decide))).trans ((SameMemOutside.setCtxWord _ _ _ _).ctx (by decide) (by decide))).trans
      ((SameMemOutside.setCtx _ _ _ _ _ _).ctx (by decide) (by decide))).trans ((SameMemOutside.setCtx _ _ _ _ _ _).ctx (by decide) (by decide))
  rw [hcmd, yields_next, hword, hword, hword]
  refine ⟨qcmdDone_ends (by decide) _, ?_, ?_, ?_, (qPmask_qcmdDone ..).trans (qPmask_setPmask ..),
    (qCmask_qcmdDone ..).trans ((qCmask_setPmask ..).trans (qCmask_setCmask ..)), hmem⟩
  · rw [hu, ctxWord_setCtx_ne (by decide), ctxWord_setCtx_ne (by decide), ctxWord_setCtxWord_ne (by decide), ctxWord_setCtxWord_same]
    rfl
  · rw [hu, ctxWord_setCtx_ne (by decide), ctxWord_setCtx_ne (by decide), ctxWord_setCtxWord_same]
    rfl
  · rw [hu, ctxWord_setCtx_ne (by decide), ctxWord_setCtx_ne (by decide), ctxWord_setCtxWord_ne (by decide), ctxWord_setCtxWord_ne (by decide), hrword]

theorem queRearm_spec : ∀ (s : State) (q : Nat), s.rd QUE_QCMD_BUSY = 0 → s.rd QUE_QSEL_Q = q → qEn s q = true → qNmode s q = 0 → Yields (exec .queRearm s) fun t =>
    Ends t QUE_QCMD_STATUS QUE_QCMD_BUSY 0 ∧ qArmed t q = true ∧ SameMemOutside (ctxAddr q 1) 8 s t := by
  intro s q hbusy hsel hen hmode
  obtain ⟨u, hu⟩ : ∃ u, u = s.wr QUE_QCMD_OP 4 := ⟨_, rfl⟩
  obtain ⟨r, hr⟩ : ∃ r, r = setCtx q 1 26 1 1 u := ⟨_, rfl⟩
  have huword : ctxWord u q 0 = ctxWord s q 0 := ctxWord_congr (by rw [hu]; rfl) ..
  have hsilent : evalNotify q r = r := by
    refine evalNotify_of_silent ?_
    rw [qNmode, hr, ctxWord_setCtx_ne (by decide), huword]
    exact hmode
  have hcmd : exec .queRearm s = .next (qcmdDone 0 r) := by
    change execQueRearm s = _
    rw [execQueRearm, qcmd_go hbusy]
    rw [hsel, ← hu, if_pos (show qEn u q = true by rw [qEn_eq_bits, huword]; exact hen), ← hr, hsilent]
  have hword : ctxWord (qcmdDone 0 r) q 1 = ctxWord r q 1 := ctxWord_congr rfl ..
  have hmem : SameMemOutside (ctxAddr q 1) 8 s r := by
    have hbase : SameMemOutside (ctxAddr q 1) 8 s u := fun b _ => by rw [hu]; rfl
    rw [hr]
    exact hbase.trans (SameMemOutside.setCtx _ _ _ _ _ _)
  rw [hcmd, yields_next, qArmed_eq_bits, hword]
  refine ⟨qcmdDone_ends (by decide) _, ?_, hmem⟩
  rw [hr, bits_setCtx_same (by decide)]
  rfl

theorem queReadBack_spec : ∀ (s : State) (q : Nat), s.rd QUE_QCMD_BUSY = 0 → s.rd QUE_QSEL_Q = q → Yields (exec .queReadBack s) fun t => Ends t QUE_QCMD_STATUS QUE_QCMD_BUSY 0 ∧
    t.rd QUE_SPARM_LOG2N = qLog2n s q ∧ t.rd QUE_SPARM_NMODE = qNmode s q ∧ t.rd QUE_SPARM_NTHR = qNthr s q ∧ t.rd QUE_SNOTE_NTGT = qNtgt s q ∧
    t.rd QUE_SBASEL_BASE * 64 + t.rd QUE_SBASEH_BASE * 2 ^ 32 = qBase s q ∧ SameMem s t := by
  intro s q hbusy hsel
  obtain ⟨r, hr⟩ : ∃ r, r = s.wr QUE_QCMD_OP 5 := ⟨_, rfl⟩
  have hword : ∀ k, ctxWord r q k = ctxWord s q k := fun k => ctxWord_congr (by rw [hr]; rfl) ..
  obtain ⟨u, hu, hlog, hmode, hthr, hlow, hhigh, htgt, humem⟩ := readBack_shown q r
  have hcmd : exec .queReadBack s = .next (qcmdDone 0 u) := by
    change execQueReadBack s = _
    rw [execQueReadBack, qcmd_go hbusy]
    rw [hsel, ← hr, ← hu]
    rfl
  have hrd : ∀ f : Fld, f.key 0 ≠ QUE_QCMD_STATUS.key 0 ∧ f.key 0 ≠ QUE_QCMD_BUSY.key 0 → (qcmdDone 0 u).rd f = u.rd f := fun f hf =>
    (State.rd_wr_ne _ _ hf.2).trans (State.rd_wr_ne _ _ hf.1)
  rw [hcmd, yields_next, hrd _ (by decide), hrd _ (by decide), hrd _ (by decide), hrd _ (by decide), hrd _ (by decide), hrd _ (by decide)]
  refine ⟨qcmdDone_ends (by decide) _, ?_, ?_, ?_, ?_, ?_, ?_⟩
  · rw [hlog, qLog2n, hword, qLog2n]
  · rw [hmode, qNmode, hword, qNmode]
  · rw [hthr, qNthr, hword, qNthr]
  · rw [htgt, qNtgt, hword, qNtgt]
  · rw [hlow, hhigh, show qBase r q = qBase s q by rw [qBase, hword, qBase]]
    unfold qBase bits
    omega
  · exact .of_mem (humem.trans (by rw [hr]; rfl))

theorem queContextUe_spec : ∀ (s : State) (q : Fin 65536) (k : Fin 4), Yields (exec (.queContextUe q k) s) fun t => qEn t q = false ∧ bit (ctxWord t q 1) 20 = 1 ∧
    qBase t q = qBase s q ∧ SameMemOutside (ctxAddr q 0) 16 s t := by
  intro s q k
  obtain ⟨r, hr⟩ : ∃ r : State, r = { s with marks := tabSet 0 s.marks (ctxAddr q k) 2 } := ⟨_, rfl⟩
  obtain ⟨u, hu⟩ : ∃ u, u = setCtx q 0 55 1 0 (setCtx q 1 20 1 1 r) := ⟨_, rfl⟩
  have hqueue : (ctxAddr q k - lastBase) / 32 = q.val := by unfold ctxAddr; omega
  have hrword : ∀ k, ctxWord r q k = ctxWord s q k := fun k => ctxWord_congr (by rw [hr]) ..
  have hmem : (ctxUe (ctxAddr q k) r).mem = u.mem := by
    unfold ctxUe
    dsimp only
    rw [hqueue, ← hu, State.recordSt]
    simp only [State.record_frame]
    rfl
  have hword : ∀ j, ctxWord (ctxUe (ctxAddr q k) r) q j = ctxWord u q j := fun j => ctxWord_congr hmem ..
  change Yields (.next (ctxUe (ctxAddr q k) _)) _
  rw [← hr, yields_next]
  refine ⟨?_, ?_, ?_, ?_⟩
  · rw [qEn_eq_bits, hword, hu, bits_setCtx_same (by decide)]
    rfl
  · rw [hword, hu, ctxWord_setCtx_ne (by decide), bit_eq_bits, bits_setCtx_same (by decide)]
    rfl
  · rw [qBase, hword, hu, bits_setCtx_off (.inl (by decide)) (by decide), ctxWord_setCtx_ne (by decide), hrword, qBase]
  · have hbase : SameMemOutside (ctxAddr q 0) 16 s r := fun b _ => by rw [hr]; rfl
    refine SameMemOutside.congr ?_ hmem
    rw [hu]
    exact (hbase.trans ((SameMemOutside.setCtx _ _ _ _ _ _).ctx (by decide) (by decide))).trans ((SameMemOutside.setCtx _ _ _ _ _ _).ctx (by decide) (by decide))

/-- Settles O34: an enable of an empty queue, the refusals, the other commands, and a context word that is uncorrectable. -/
theorem queueCommands : Obligations.QueueCommands :=
  ⟨exec_queEnable_of_empty, queEnable_of_badcfg, queEnable_of_enabled, queDisable_spec, queResetIndices_spec, queRearm_spec, queReadBack_spec, queContextUe_spec⟩

end Sys2Proof.Machine

namespace Sys2Proof.Machine

set_option Elab.async false

/-! Exceptions (R238 to R240, R254): a fetched word of a core that does not run -/

/-- The word that reads FIN, with a fabric input word that the core has not read. -/
def finRead : Fetch := { core := 0, w := 0x50020000, fin := 1 }

/-- Refutes O42: a core in RESET that is given the word which reads FIN takes its fabric input word, so the step is not the one that leaves the state as it is. -/
theorem not_awlExceptions : ¬ Obligations.AwlExceptions := by
  unfold Obligations.AwlExceptions
  intro h
  obtain ⟨-, -, -, -, stopped⟩ := h
  obtain ⟨u, hexec, rfl⟩ := stopped .movFromSys finRead State.reset (by decide +kernel)
  have hsame := eq_afterOut hexec State.reset
  have hread : ((afterOut State.reset (exec (Mn.row finRead .movFromSys) State.reset)).core 0).fin = 1 := by decide +kernel
  have hkept : ((settle (pump State.reset)).core 0).fin = 0 := by decide +kernel
  rw [← hsame] at hread
  omega

end Sys2Proof.Machine

namespace Sys2Proof.Machine

set_option Elab.async false

/-! Awl instructions (R223, R232, R238 to R240): what a core does with a word that runs, and with one that raises an exception -/

section
variable {s t u : State} {c w w2 : Nat} {a a0 b : Arch} {fl : Flg}

theorem Arch.get_put_same (a : Arch) (k v : Nat) : (a.put k v).get k = v := tabGet_set_same ..

theorem Arch.get_put_ne (a : Arch) {k j : Nat} (h : j ≠ k) (v : Nat) : (a.put k v).get j = a.get j := tabGet_set_ne _ _ _ _ h

theorem Arch.put_last (a : Arch) (k v : Nat) : (a.put k v).last = a.last := rfl

theorem Arch.put_pend (a : Arch) (k v : Nat) : (a.put k v).pend = a.pend := rfl

theorem Arch.get_put (a : Arch) (k j v : Nat) : (a.put k v).get j = if j = k then v else a.get j := by
  split
  · next h => rw [h, a.get_put_same]
  · next h => exact a.get_put_ne h v

/-- The registers after an instruction that leaves `b`, with its flags, the next PC and the system register write that waits. -/
def Arch.stepped (a0 b : Arch) (fl : Flg) (next : Nat) (newPend : Option (Nat × Nat)) : Arch :=
  { (({ b with pend := a0.pend, last := a0.pc } : Arch).put kSR (fl.apply b.sr)).put kPC next with pend := newPend }

/-- The system register write that the word leaves to the instruction after it. -/
def pendAfter (w : Nat) (b : Arch) : Option (Nat × Nat) := if bits w 29 3 = 2 ∧ bits w 25 4 = 7 then b.pend else none

theorem Arch.stepped_get {k : Nat} (hk : k ≠ kPC) (next : Nat) (np : Option (Nat × Nat)) : (a0.stepped b fl next np).get k = b.flagged fl k := by
  change ((({ b with pend := a0.pend, last := a0.pc } : Arch).put kSR (fl.apply b.sr)).put kPC next).get k = _
  rw [Arch.get_put_ne _ hk, Arch.get_put, Arch.flagged]
  rfl

theorem Arch.stepped_pc (next : Nat) (np : Option (Nat × Nat)) : (a0.stepped b fl next np).pc = next := Arch.get_put_same ..

/-- The state of the core after an instruction. -/
def Core.stepped (a0 b : Arch) (fl : Flg) (next w : Nat) (k : Core) : Core :=
  { k with arch := a0.stepped b fl next (pendAfter w b), loads := k.loads.map fun l => { l with young := l.young + 1 }, lk := k.lk.map fun win => windowStep a0 w win }

theorem CoreOnly.modArch (f : Arch → Arch) : CoreOnly c s (s.modArch c f) := .modCore _

theorem State.core_modArch (s : State) (c : Nat) (f : Arch → Arch) : (s.modArch c f).core c = { s.core c with arch := f (s.core c).arch } := s.core_modCore ..

theorem loopLevel_of_not_end {at_ : Nat} (h : atLoopEnd b at_ = false) : loopLevel at_ b = (b, none, false) := by
  unfold loopLevel
  by_cases h0 : b.ldepth = 0
  · rw [if_pos h0]
  · rw [if_neg h0, if_pos]
    simp only [atLoopEnd, Bool.or_eq_false_iff, Bool.and_eq_false_iff, decide_eq_false_iff_not, beq_eq_false_iff_ne] at h
    obtain ⟨hout, hin⟩ := h
    by_cases h1 : b.ldepth = 1
    · have hcode : (b.ldepth == 1) = true := by rw [h1]; rfl
      rw [hcode]
      exact hout.resolve_left (by omega)
    · have hcode : (b.ldepth == 1) = false := beq_false_of_ne h1
      rw [hcode]
      exact hin.resolve_left (by omega)

theorem loopEnd_of_not_end {at_ : Nat} (h : atLoopEnd b at_ = false) : loopEnd at_ b = (b, none) := by
  unfold loopEnd
  rw [loopLevel_of_not_end h]
  rfl

/-- The instruction's own result names the next PC, or is no loop's end. -/
def Sequences (w : Nat) (a0 b : Arch) (target : Option Nat) : Prop := target.isSome = true ∨ isBranch w = true ∨ atLoopEnd b a0.pc = false

theorem finish_spec {target : Option Nat} (hpend : a0.pend = none) (hseq : Sequences w a0 b target) :
    CoreOnly c s (finish c w a0 b fl target s) ∧
      (finish c w a0 b fl target s).core c = (s.core c).stepped a0 b fl (target.getD ((a0.pc + 4 * wordsOf w) % 2 ^ 32)) w := by
  have hloop : (if target.isSome ∨ isBranch w then (b, target) else loopEnd a0.pc b) = (b, target) := by
    split
    · rfl
    · next h =>
      have hend : atLoopEnd b a0.pc = false := by
        rcases hseq with h' | h' | h'
        · exact absurd (.inl h') h
        · exact absurd (.inr h') h
        · exact h'
      rw [loopEnd_of_not_end hend]
      cases target with
      | none => rfl
      | some x => exact absurd (.inl rfl) h
  unfold finish
  extract_lets pc r next newPend src t
  have hr : r = (b, target) := hloop
  have hflush : sysFlush c fl t = t := by
    have hnone : (t.core c).arch.pend = none := by
      rw [State.core_modArch]
      exact hpend
    unfold sysFlush
    simp only [hnone]
  rw [hflush]
  refine ⟨(CoreOnly.modArch _).trans (.modCore _), ?_⟩
  rw [State.core_modCore, State.core_modArch]
  simp only [next, newPend, src, hr]
  rfl

theorem afterward_of_still (hend : endWindow c s = s) (hstop : (s.core c).stopping = none) (hwd : (s.core c).wdPend = false) (hentry : tabGet 0 s.dbg.pend c = 0) :
    afterward c s = showPc c s := by
  have hstop' : stopCheck c (showPc c s) = showPc c s := by
    have h : ((showPc c s).core c).stopping = none := hstop
    unfold stopCheck
    simp only [h]
  have hentry' : takeEntry c (showPc c s) = showPc c s := if_pos (.inl hentry)
  have hwd' : takeWdog c (showPc c s) = showPc c s := if_neg fun h => absurd (hwd.symm.trans h.1) (by decide)
  unfold afterward
  rw [hend, hstop', hentry', hwd']

/-- What a step makes of the outcome of its word, at a core that holds no load. -/
def Did.outcome (f : Fetch) (s : State) : Did → State
  | .stall t => t
  | .raised n t =>
    if n = 7 then
      showPc f.core (awlExc f.core 7 ((finish f.core f.w.toNat (s.core f.core).arch (t.core f.core).arch {} none t).core f.core).arch.pc
        (finish f.core f.w.toNat (s.core f.core).arch (t.core f.core).arch {} none t))
    else awlRaise f.core n t
  | .done b fl target t => afterward f.core (finish f.core f.w.toNat (s.core f.core).arch b fl target t)

theorem CoreQuiet.step_eq {f : Fetch} (hquiet : CoreQuiet f.core s) (herr : f.err = none) (hlegal : legalWord f.w.toNat (s.core f.core).arch.ipl = true)
    (hend : atLoopEnd (s.core f.core).arch (s.core f.core).arch.pc = false) :
    awlStep f s = (doWord f.core f.w.toNat f.w2.toNat s).outcome f s := by
  obtain ⟨hruns, hstop, hlk, hloads, -⟩ := hquiet
  have hnone : pendingKeys (s.core f.core) = [] := by rw [pendingKeys, hloads]; rfl
  have hno : (((regUse (s.core f.core).arch f.w.toNat).1 ++ (regUse (s.core f.core).arch f.w.toNat).2).any fun x => (pendingKeys (s.core f.core)).contains x) = false := by
    rw [hnone]
    simp
  unfold awlStep
  extract_lets c k a w oldest
  have h1 : ¬ (coreRuns s c = false ∨ k.stopping.isSome = true) := by simp [k, c, hruns, hstop]
  have h2 : ¬ ((k.lk.isSome = true ∧ k.loads ≠ []) ∨ (k.loads.head?.any fun l => decide (33 ≤ l.young)) = true) := by simp [k, c, hlk, hloads]
  have h3 : ¬ (legalWord w a.ipl = false ∨ (isBranch w = true ∧ atLoopEnd a a.pc = true)) := by simp [w, a, k, c, hlegal, hend]
  have h4 : ¬ (k.lk.isSome = true ∧ (breaksWindow w = true ∨ atLoopEnd a a.pc = true)) := by simp [k, c, hlk]
  have h5 : ¬ (((regUse a w).1 ++ (regUse a w).2).any (fun x => (pendingKeys k).contains x)) = true := by simp only [a, w, k, c, hno]; decide
  have holdest : oldest = true := by simp [oldest, k, c, hloads]
  rw [if_neg h1, if_neg h2, herr]
  simp only
  rw [if_neg h3, if_neg h4, if_neg h5]
  rw [holdest]
  rfl

theorem CoreFree.step_eq {f : Fetch} (hfree : CoreFree f.core s) (herr : f.err = none) (hlegal : legalWord f.w.toNat (s.core f.core).arch.ipl = true)
    (hend : atLoopEnd (s.core f.core).arch (s.core f.core).arch.pc = false) : awlStep f s = (doWord f.core f.w.toNat f.w2.toNat s).outcome f s :=
  hfree.1.step_eq herr hlegal hend

theorem CoreFree.calm (h : CoreFree c s) : CoreCalm c s := by
  obtain ⟨⟨-, hstop, hlk, -, -, -, hwd, hentry⟩, -⟩ := h
  exact ⟨hlk, hstop, hwd, hentry⟩

theorem CoreFree.loads (h : CoreFree c s) : (s.core c).loads = [] := by
  obtain ⟨⟨-, -, -, hloads, -⟩, -⟩ := h
  exact hloads

theorem CoreFree.sbuf (h : CoreFree c s) : (s.core c).sbuf = [] := by
  obtain ⟨⟨-, -, -, -, hsbuf, -⟩, -⟩ := h
  exact hsbuf

theorem CoreFree.stwait (h : CoreFree c s) : (s.core c).stwait = [] := by
  obtain ⟨⟨-, -, -, -, -, hstwait, -⟩, -⟩ := h
  exact hstwait

/-- Every row but the one that reads FIN runs its word on the state as it is. -/
theorem exec_mn {m : Mn} (hm : m ≠ .movFromSys) (f : Fetch) (s : State) : exec (m.row f) s = .next (settle (pump (awlRow m f s))) := by
  cases m with
  | movFromSys => exact absurd rfl hm
  | _ => rfl

theorem WordRuns.exec_eq {m : Mn} {f : Fetch} (h : WordRuns m f s) (hm : m ≠ .movFromSys) : exec (m.row f) s = .next (settle (pump (awlStep f s))) := by
  rw [exec_mn hm, awlRow, if_pos h.1]

theorem WordRuns.step_eq {m : Mn} {f : Fetch} (h : WordRuns m f s) (hfree : CoreFree f.core s) :
    awlStep f s = (doWord f.core f.w.toNat f.w2.toNat s).outcome f s := by
  obtain ⟨-, herr, hlegal, hend⟩ := h
  exact hfree.step_eq herr hlegal hend

/-- What a word that the core runs leaves: `s1` with the core one instruction on, and its PC shown. -/
structure Ran (c w : Nat) (a0 b : Arch) (fl : Flg) (next : Nat) (s1 u : State) : Prop where
  core : u.core c = (s1.core c).stepped a0 b fl next w
  other : ∀ j, j ≠ c → u.core j = s1.core j
  mem : u.mem = s1.mem
  dbg : u.dbg = s1.dbg
  regs : SameRegsBut [AWL_PC_PC.key (oAwl c)] s1 u
  shown : (s1.core c).loads = [] → u.rdi AWL_PC_PC (oAwl c) = a0.pc % 2 ^ 32
  held : ∀ l rest, (s1.core c).loads = l :: rest → u.rdi AWL_PC_PC (oAwl c) = l.ckpt.last % 2 ^ 32

theorem Ran.of_showPc (honly : CoreOnly c s t) {next : Nat} (hcore : t.core c = (s.core c).stepped a0 b fl next w) : Ran c w a0 b fl next s (showPc c t) where
  core := hcore
  other := honly.other
  mem := honly.mem
  dbg := honly.dbg
  regs := SameRegsBut.wri (SameRegsBut.of_regs honly.regs _)
  shown hnil := by
    have h : (t.core c).loads = [] := by rw [hcore, Core.stepped, hnil]; rfl
    unfold showPc
    simp only [h]
    rw [State.rdi_wri_same, hcore]
    rfl
  held l rest hl := by
    have h : (t.core c).loads = { l with young := l.young + 1 } :: rest.map fun l => { l with young := l.young + 1 } := by rw [hcore, Core.stepped, hl]; rfl
    unfold showPc
    simp only [h]
    rw [State.rdi_wri_same]
    rfl

/-- Core `c` has no stop, watchdog exception or monitor entry that waits, and no LOCK window that the next word ends. -/
structure CoreSteady (c : Nat) (s : State) : Prop where
  stopping : (s.core c).stopping = none
  wdPend : (s.core c).wdPend = false
  entry : tabGet 0 s.dbg.pend c = 0
  window : ∀ win, (s.core c).lk = some win → 2 ≤ win.left

theorem CoreCalm.steady (h : CoreCalm c s) : CoreSteady c s := ⟨h.stopping, h.wdPend, h.entry, fun win hw => by rw [h.lk] at hw; cases hw⟩

theorem endWindow_of_left (h : ∀ win, (s.core c).lk = some win → win.left ≠ 0) : endWindow c s = s := by
  unfold endWindow
  extract_lets k
  split
  · next win hw => rw [if_neg fun hz => h win hw hz.1]
  · rfl

/-- A word that its instruction completes, of a core that nothing holds back. -/
theorem WordRuns.done {m : Mn} {f : Fetch} {target : Option Nat} (h : WordRuns m f s) (hfree : CoreFree f.core s) (hdo : doWord f.core f.w.toNat f.w2.toNat s = .done b fl target t)
    (hsteady : CoreSteady f.core t) (hseq : Sequences f.w.toNat (s.core f.core).arch b target) :
    Ran f.core f.w.toNat (s.core f.core).arch b fl (target.getD (((s.core f.core).arch.pc + 4 * wordsOf f.w.toNat) % 2 ^ 32)) t (awlStep f s) := by
  rw [h.step_eq hfree, hdo, Did.outcome]
  obtain ⟨honly, hcore⟩ := finish_spec (c := f.core) (s := t) (fl := fl) hfree.2 hseq
  have hleft : ∀ win, ((finish f.core f.w.toNat (s.core f.core).arch b fl target t).core f.core).lk = some win → win.left ≠ 0 := by
    intro win hwin
    rw [hcore, Core.stepped] at hwin
    obtain ⟨before, hbefore, rfl⟩ := Option.map_eq_some_iff.1 hwin
    have hleft := hsteady.window before hbefore
    change before.left - 1 ≠ 0
    omega
  rw [afterward_of_still (endWindow_of_left hleft) (by rw [hcore]; exact hsteady.stopping) (by rw [hcore]; exact hsteady.wdPend) (by rw [honly.dbg]; exact hsteady.entry)]
  exact .of_showPc honly hcore

/-- A word that leaves the state but for the core as it is. -/
theorem Ran.coreAfter {next : Nat} (h : Ran c w a0 b fl next t u) (hother : ∀ j, j ≠ c → t.core j = s.core j) (hloads : (t.core c).loads = []) :
    CoreAfter c s u (b.flagged fl) next a0.pc :=
  ⟨fun k hk => by rw [h.core]; exact Arch.stepped_get hk _ _, by rw [h.core]; exact Arch.stepped_pc _ _, h.shown hloads, fun j hj => (h.other j hj).trans (hother j hj)⟩

theorem Ran.sameMem {next : Nat} (h : Ran c w a0 b fl next s u) : SameMem s u := .of_mem h.mem

theorem Ran.rdi {next : Nat} (h : Ran c w a0 b fl next s u) {f : Fld} (hf : f.key 0 ≠ AWL_PC_PC.key 0) : u.rdi f (oAwl c) = s.rdi f (oAwl c) :=
  h.regs _ _ (by rw [List.mem_singleton]; exact Fld.key_ne_off hf _)

theorem Sequences.of_get (h : atLoopEnd a0 a0.pc = false) (hsr : b.ldepth = a0.ldepth) (hout : b.get (kLE true) = a0.get (kLE true)) (hin : b.get (kLE false) = a0.get (kLE false)) :
    Sequences w a0 b none := .inr (.inr (by rw [atLoopEnd, hsr, hout, hin]; exact h))

/-- A result that leaves the system registers as they are ends no loop that the word does not end. -/
theorem Sequences.of_sys (h : atLoopEnd a0 a0.pc = false) (hsys : ∀ k, 100 ≤ k → b.get k = a0.get k) : Sequences w a0 b none :=
  .of_get h (by rw [Arch.ldepth, Arch.ldepth, Arch.sr, Arch.sr, hsys kSR (by decide)]) (hsys _ (by decide)) (hsys _ (by decide))
end
end Sys2Proof.Machine

namespace Sys2Proof.Machine

set_option Elab.async false

section
variable {s t u : State} {c w w2 : Nat} {a a0 b : Arch} {fl : Flg}

/-- The fields of a word that give it its mnemonic, for the formats 001 to 110 (R263 to R279). -/
def Mn.Encoded (w : Nat) : Mn → Prop
  | .ldx => bits w 29 3 = 2 ∧ bits w 25 4 = 0
  | .ldy => bits w 29 3 = 2 ∧ bits w 25 4 = 1
  | .stx => bits w 29 3 = 2 ∧ bits w 25 4 = 2
  | .sty => bits w 29 3 = 2 ∧ bits w 25 4 = 3
  | .ldw => bits w 29 3 = 2 ∧ bits w 25 4 = 4
  | .stw => bits w 29 3 = 2 ∧ bits w 25 4 = 5
  | .mov => bits w 29 3 = 2 ∧ bits w 25 4 = 6
  | .movToSys => bits w 29 3 = 2 ∧ bits w 25 4 = 7
  | .movFromSys => bits w 29 3 = 2 ∧ bits w 25 4 = 8
  | .movImm => bits w 29 3 = 2 ∧ bits w 25 4 = 9
  | .pmod => bits w 29 3 = 3 ∧ (bits w 26 3 = 0 ∨ bits w 26 3 = 1)
  | .padd => bits w 29 3 = 3 ∧ bits w 26 3 = 2
  | .br => bits w 29 3 = 4 ∧ bits w 26 3 = 0
  | .brc => bits w 29 3 = 4 ∧ bits w 26 3 = 1
  | .call => bits w 29 3 = 4 ∧ bits w 26 3 = 2
  | .ret => bits w 29 3 = 4 ∧ bits w 26 3 = 3
  | .rti => bits w 29 3 = 4 ∧ bits w 26 3 = 4
  | .loop => bits w 29 3 = 4 ∧ (bits w 26 3 = 5 ∨ bits w 26 3 = 6)
  | .nop => bits w 29 3 = 5 ∧ bits w 24 5 = 0
  | .rot => bits w 29 3 = 5 ∧ bits w 24 5 = 1
  | .lock => bits w 29 3 = 5 ∧ bits w 24 5 = 2
  | .wait => bits w 29 3 = 5 ∧ bits w 24 5 = 3
  | .fence => bits w 29 3 = 5 ∧ bits w 24 5 = 4
  | .trap => bits w 29 3 = 5 ∧ bits w 24 5 = 5
  | .dbg => bits w 29 3 = 5 ∧ bits w 24 5 = 6
  | .ei => bits w 29 3 = 5 ∧ bits w 24 5 = 7
  | .di => bits w 29 3 = 5 ∧ bits w 24 5 = 8
  | .long => bits w 29 3 = 6 ∧ bits w 25 4 < 5
  | _ => bits w 29 3 = 0 ∨ bits w 29 3 = 1

theorem aluMn_encoded {op : Nat} {m : Mn} (hfmt : bits w 29 3 = 0) (h : aluMn op = some m) : m.Encoded w := by
  unfold aluMn at h
  split at h <;> cases h <;> exact .inl hfmt

theorem mnOf_encoded {m : Mn} (h : mnOf w = some m) : m.Encoded w := by
  unfold mnOf at h
  split at h
  case h_1 hfmt => exact aluMn_encoded hfmt h
  case h_2 hfmt => split at h <;> cases h <;> exact .inr hfmt
  case h_3 hfmt => split at h <;> cases h <;> exact ⟨hfmt, ‹_›⟩
  case h_4 hfmt =>
    split at h <;> cases h
    · exact ⟨hfmt, .inl ‹_›⟩
    · exact ⟨hfmt, .inr ‹_›⟩
    · exact ⟨hfmt, ‹_›⟩
  case h_5 hfmt =>
    split at h <;> cases h
    case h_6 hop => exact ⟨hfmt, .inl hop⟩
    case h_7 hop => exact ⟨hfmt, .inr hop⟩
    all_goals exact ⟨hfmt, ‹_›⟩
  case h_6 hfmt => split at h <;> cases h <;> exact ⟨hfmt, ‹_›⟩
  case h_7 hfmt =>
    split at h <;> cases h
    exact ⟨hfmt, ‹_›⟩
  case h_8 => cases h

theorem WordRuns.encoded {m : Mn} {f : Fetch} (h : WordRuns m f s) : m.Encoded f.w.toNat := mnOf_encoded (eq_of_beq h.1)

theorem wordsOf_short (h : bits w 29 3 ≠ 6) : wordsOf w = 1 := if_neg h

theorem wordsOf_long (h : bits w 29 3 = 6) : wordsOf w = 2 := if_pos h

/-- A word that leaves every state component but the core's registers as it is. -/
theorem WordRuns.keeps {m : Mn} {f : Fetch} {target : Option Nat} (h : WordRuns m f s) (hm : m ≠ .movFromSys) (hfree : CoreFree f.core s)
    (hdo : doWord f.core f.w.toNat f.w2.toNat s = .done b fl target s) (hseq : Sequences f.w.toNat (s.core f.core).arch b target)
    {next : Nat} (hnext : target.getD (((s.core f.core).arch.pc + 4 * wordsOf f.w.toNat) % 2 ^ 32) = next) :
    ∃ u, exec (m.row f) s = .next (settle (pump u)) ∧ CoreAfter f.core s u (b.flagged fl) next (s.core f.core).arch.pc ∧ SameMem s u ∧
      SameRegsBut [AWL_PC_PC.key (oAwl f.core)] s u := by
  have hran := h.done hfree hdo hfree.calm.steady hseq
  rw [hnext] at hran
  exact ⟨_, h.exec_eq hm, hran.coreAfter (fun _ _ => rfl) hfree.loads, hran.sameMem, hran.regs⟩

/-- The PC after a word of format other than 110 that names no target. -/
theorem next_short (h : bits w 29 3 ≠ 6) (pc : Nat) : (none : Option Nat).getD ((pc + 4 * wordsOf w) % 2 ^ 32) = (pc + 4) % 2 ^ 32 := by
  rw [wordsOf_short h]
  rfl

theorem next_long (h : bits w 29 3 = 6) (pc : Nat) : (none : Option Nat).getD ((pc + 4 * wordsOf w) % 2 ^ 32) = (pc + 8) % 2 ^ 32 := by
  rw [wordsOf_long h]
  rfl

theorem doWord_sys (hfmt : bits w 29 3 = 5) : doWord c w w2 s = doSys c w s := by simp only [doWord, hfmt]

theorem doSys_nop (hop : bits w 24 5 = 0) : doSys c w s = .done (s.core c).arch {} none s := by simp only [doSys, hop]

theorem doSys_rot (hop : bits w 24 5 = 1) : doSys c w s = .done (s.core c).arch.rotate {} none s := by simp only [doSys, hop]

theorem doSys_lock (hop : bits w 24 5 = 2) (hidle : coreBusy (s.core c) = false) : doSys c w s =
    .done ((s.core c).arch.srPut 22 1 1) {} none (s.modCore c fun k => { k with lk := some { ckpt := (s.core c).arch, left := w % 4 + 2 } }) := by
  simp only [doSys, hop, hidle]
  rfl

theorem doSys_wait (hop : bits w 24 5 = 3) (hloads : (s.core c).loads = []) :
    doSys c w s = .done (s.core c).arch {} none (if irqReady s c = 0 then setAwlState c awlWAIT s else s) := by
  simp only [doSys, hop, hloads, ne_eq, not_true_eq_false, if_false]

theorem doSys_fence (hop : bits w 24 5 = 4) : doSys c w s = if coreBusy (s.core c) then .stall s else .done (s.core c).arch {} none s := by simp only [doSys, hop]

theorem doSys_trap (hop : bits w 24 5 = 5) :
    doSys c w s = .raised 7 (s.modArch c fun x => x.put kXCAUSE (putBits (x.get kXCAUSE) 8 8 (w % 256))) := by simp only [doSys, hop]

/-- DBG's request for the monitor, with its code. -/
def dbgAsked (c code : Nat) (s : State) : State := { (s.wri DBG_STAT_CODE (oDbg c) code) with dbg := { s.dbg with pend := tabSet 0 s.dbg.pend c 1 } }

theorem dbgAsked_spec (c code : Nat) (s : State) : (∀ j, (dbgAsked c code s).core j = s.core j) ∧ (dbgAsked c code s).mem = s.mem ∧
    tabGet 0 (dbgAsked c code s).dbg.pend c = 1 ∧ (dbgAsked c code s).regs = (s.wri DBG_STAT_CODE (oDbg c) code).regs := ⟨fun _ => rfl, rfl, tabGet_set_same 0 s.dbg.pend c 1, rfl⟩

theorem doSys_dbg_barred (hop : bits w 24 5 = 6) (hbar : cannotEnter s c = true) : doSys c w s = .done (s.core c).arch {} none s := by
  simp only [doSys, hop, hbar, if_true]

theorem doSys_dbg (hop : bits w 24 5 = 6) (hbar : cannotEnter s c = false) (hloads : (s.core c).loads = []) : doSys c w s = .done (s.core c).arch {} none (dbgAsked c (w % 256) s) := by
  simp [doSys, hop, hbar, hloads, dbgAsked]

theorem doSys_ei (hop : bits w 24 5 = 7) : doSys c w s = .done ((s.core c).arch.srPut 23 1 1) {} none s := by simp only [doSys, hop]

theorem doSys_di (hop : bits w 24 5 = 8) : doSys c w s = .done ((s.core c).arch.srPut 23 1 0) {} none s := by simp only [doSys, hop]

theorem coreBusy_of_free (hfree : CoreFree c s) (hstq : (s.core c).stq = []) : coreBusy (s.core c) = false := by
  rw [coreBusy, hfree.loads, hstq, hfree.stwait]
  rfl

/-- A flag of SR above the loop depth leaves the loops as they are. -/
theorem Sequences.of_srPut {lo v : Nat} (h : atLoopEnd a0 a0.pc = false) (hlo : 22 ≤ lo) (wd : Nat) : Sequences w a0 (a0.srPut lo wd v) none := by
  refine .of_get h ?_ (Arch.get_put_ne _ (by decide) _) (Arch.get_put_ne _ (by decide) _)
  rw [Arch.ldepth, Arch.sr, Arch.srPut, Arch.get_put_same, bits_putBits_below hlo]
  rfl

theorem CoreFree.state (h : CoreFree c s) : awlState s c = awlRUN := by
  obtain ⟨⟨hruns, -⟩, -⟩ := h
  rw [coreRuns, Bool.and_eq_true, Bool.and_eq_true] at hruns
  exact eq_of_beq hruns.1.1

theorem setAwlState_other (v : Nat) (s : State) {j : Nat} (hj : j ≠ c) : (setAwlState c v s).core j = s.core j := by
  unfold setAwlState wdSettle
  rw [State.core_wri, State.core_modCore_ne _ _ _ hj, State.core_wri]

theorem nop_runs (f : Fetch) (hfree : CoreFree f.core s) (h : WordRuns .nop f s) : ∃ u, exec (.awlNop f) s = .next (settle (pump u)) ∧
    CoreAfter f.core s u ((s.core f.core).arch.flagged {}) (((s.core f.core).arch.pc + 4) % 2 ^ 32) (s.core f.core).arch.pc ∧ SameMem s u ∧
    SameRegsBut [AWL_PC_PC.key (oAwl f.core)] s u := by
  obtain ⟨hfmt, hop⟩ := h.encoded
  exact h.keeps (by decide) hfree ((doWord_sys hfmt).trans (doSys_nop hop)) (.inr (.inr h.2.2.2)) (next_short (by omega) _)

theorem rot_runs (f : Fetch) (hfree : CoreFree f.core s) (h : WordRuns .rot f s) : ∃ u, exec (.awlRot f) s = .next (settle (pump u)) ∧
    CoreAfter f.core s u (((s.core f.core).arch.put kQRB (((s.core f.core).arch.get kQRB + 31) % 32)).flagged {}) (((s.core f.core).arch.pc + 4) % 2 ^ 32)
      (s.core f.core).arch.pc ∧ SameMem s u := by
  obtain ⟨hfmt, hop⟩ := h.encoded
  obtain ⟨u, hexec, hafter, hmem, -⟩ := h.keeps (by decide) hfree ((doWord_sys hfmt).trans (doSys_rot hop))
    (.of_get h.2.2.2 (by rw [Arch.ldepth, Arch.sr, Arch.rotate, Arch.get_put_ne _ (by decide)]; rfl) (Arch.get_put_ne _ (by decide) _) (Arch.get_put_ne _ (by decide) _))
    (next_short (by omega) _)
  exact ⟨u, hexec, hafter, hmem⟩

theorem lock_runs (f : Fetch) (hfree : CoreFree f.core s) (h : WordRuns .lock f s) (hstq : (s.core f.core).stq = []) :
    ∃ u, exec (.awlLock f) s = .next (settle (pump u)) ∧
      CoreAfter f.core s u (((s.core f.core).arch.srPut 22 1 1).flagged {}) (((s.core f.core).arch.pc + 4) % 2 ^ 32) (s.core f.core).arch.pc ∧
      (∃ win, (u.core f.core).lk = some win ∧ win.left = f.w.toNat % 4 + 1 ∧ win.ckpt = (s.core f.core).arch) ∧ SameMem s u := by
  obtain ⟨hfmt, hop⟩ := h.encoded
  have hdo : doWord f.core f.w.toNat f.w2.toNat s = _ := (doWord_sys hfmt).trans (doSys_lock hop (coreBusy_of_free hfree hstq))
  have hran := h.done hfree hdo ⟨by rw [State.core_modCore]; exact hfree.calm.stopping, by rw [State.core_modCore]; exact hfree.calm.wdPend, hfree.calm.entry, fun win hwin => by
    rw [State.core_modCore] at hwin
    obtain rfl := Option.some.inj hwin
    exact Nat.le_add_left ..⟩ (Sequences.of_srPut h.2.2.2 (le_refl 22) 1)
  rw [next_short (by omega)] at hran
  refine ⟨_, h.exec_eq (by decide), hran.coreAfter (fun j hj => State.core_modCore_ne _ _ _ hj) (by rw [State.core_modCore]; exact hfree.loads), ?_, .of_mem hran.mem⟩
  refine ⟨windowStep (s.core f.core).arch f.w.toNat { ckpt := (s.core f.core).arch, left := f.w.toNat % 4 + 2 }, ?_, rfl, rfl⟩
  rw [hran.core, State.core_modCore]
  rfl

theorem wait_runs (f : Fetch) (hfree : CoreFree f.core s) (h : WordRuns .wait f s) : ∃ u, exec (.awlWait f) s = .next (settle (pump u)) ∧
    CoreAfter f.core s u ((s.core f.core).arch.flagged {}) (((s.core f.core).arch.pc + 4) % 2 ^ 32) (s.core f.core).arch.pc ∧
    awlState u f.core = (if irqReady s f.core = 0 then awlWAIT else awlRUN) ∧ SameMem s u := by
  obtain ⟨hfmt, hop⟩ := h.encoded
  have hdo : doWord f.core f.w.toNat f.w2.toNat s = _ := (doWord_sys hfmt).trans (doSys_wait hop hfree.loads)
  obtain ⟨t, ht⟩ : ∃ t, t = if irqReady s f.core = 0 then setAwlState f.core awlWAIT s else s := ⟨_, rfl⟩
  rw [← ht] at hdo
  have hstate : awlState t f.core = if irqReady s f.core = 0 then awlWAIT else awlRUN := by
    rw [ht]
    split
    · exact State.rdi_wri_same ..
    · exact hfree.state
  have hcore : ∃ at_, t.core f.core = { s.core f.core with wdAt := at_ } := by
    rw [ht]
    split
    · exact setAwlState_core ..
    · exact ⟨_, rfl⟩
  have hrest : (∀ j, j ≠ f.core.val → t.core j = s.core j) ∧ t.mem = s.mem ∧ t.dbg = s.dbg := by
    rw [ht]
    split
    · exact ⟨fun j hj => setAwlState_other _ _ hj, rfl, rfl⟩
    · exact ⟨fun _ _ => rfl, rfl, rfl⟩
  clear ht
  obtain ⟨at_, hcore⟩ := hcore
  obtain ⟨hother, hmem, hdbg⟩ := hrest
  have hran := h.done hfree hdo (CoreCalm.steady ⟨by rw [hcore]; exact hfree.calm.lk, by rw [hcore]; exact hfree.calm.stopping, by rw [hcore]; exact hfree.calm.wdPend,
    by rw [hdbg]; exact hfree.calm.entry⟩) (.inr (.inr h.2.2.2))
  rw [next_short (by omega)] at hran
  exact ⟨_, h.exec_eq (by decide), hran.coreAfter hother (by rw [hcore]; exact hfree.loads),
    (hran.rdi (by decide)).trans hstate, .of_mem (hran.mem.trans hmem)⟩

theorem fence_runs (f : Fetch) (hfree : CoreFree f.core s) (h : WordRuns .fence f s) (hstq : (s.core f.core).stq = []) :
    ∃ u, exec (.awlFence f) s = .next (settle (pump u)) ∧
      CoreAfter f.core s u ((s.core f.core).arch.flagged {}) (((s.core f.core).arch.pc + 4) % 2 ^ 32) (s.core f.core).arch.pc ∧ SameMem s u := by
  obtain ⟨hfmt, hop⟩ := h.encoded
  have hdo : doSys f.core f.w.toNat s = .done (s.core f.core).arch {} none s := by
    rw [doSys_fence hop, coreBusy_of_free hfree hstq]
    rfl
  obtain ⟨u, hexec, hafter, hmem, -⟩ := h.keeps (by decide) hfree ((doWord_sys hfmt).trans hdo) (.inr (.inr h.2.2.2)) (next_short (by omega) _)
  exact ⟨u, hexec, hafter, hmem⟩

theorem fence_waits (f : Fetch) (hfree : CoreFree f.core s) (h : WordRuns .fence f s) (hstq : (s.core f.core).stq ≠ []) :
    ∃ u, exec (.awlFence f) s = .next (settle (pump u)) ∧ u.cores = s.cores ∧ SameMem s u := by
  obtain ⟨hfmt, hop⟩ := h.encoded
  have hbusy : coreBusy (s.core f.core) = true := by simp [coreBusy, hstq]
  have hstep : awlStep f s = s := by
    rw [h.step_eq hfree, doWord_sys hfmt, doSys_fence hop, if_pos hbusy]
    rfl
  exact ⟨s, (h.exec_eq (by decide)).trans (by rw [hstep]), rfl, .refl⟩

theorem ie_runs (f : Fetch) (ei : Bool) (hfree : CoreFree f.core s) (h : WordRuns (if ei then .ei else .di) f s) :
    ∃ u, exec ((if ei then Mn.ei else Mn.di).row f) s = .next (settle (pump u)) ∧
      CoreAfter f.core s u (((s.core f.core).arch.srPut 23 1 ei.toNat).flagged {}) (((s.core f.core).arch.pc + 4) % 2 ^ 32) (s.core f.core).arch.pc ∧ SameMem s u := by
  have hseq : Sequences f.w.toNat (s.core f.core).arch ((s.core f.core).arch.srPut 23 1 ei.toNat) none := .of_srPut h.2.2.2 (by omega) 1
  have hword : bits f.w.toNat 29 3 = 5 ∧ doSys f.core f.w.toNat s = .done ((s.core f.core).arch.srPut 23 1 ei.toNat) {} none s := by
    cases ei with
    | true => exact ⟨h.encoded.1, doSys_ei h.encoded.2⟩
    | false => exact ⟨h.encoded.1, doSys_di h.encoded.2⟩
  obtain ⟨u, hexec, hafter, hmem, -⟩ := h.keeps (by cases ei <;> decide) hfree ((doWord_sys hword.1).trans hword.2) hseq (next_short (by omega) _)
  exact ⟨u, hexec, hafter, hmem⟩

theorem vector_congr (hcore : (t.core c).arch.get kPSEG = (s.core c).arch.get kPSEG) (hvbr : (t.core c).arch.get kVBR = (s.core c).arch.get kVBR)
    (hmem : t.mem = s.mem) (n : Nat) : vector t c n = vector s c n := by
  unfold vector
  simp only [hcore, hvbr]
  rw [rdMem_congr hmem]

theorem sysFlush_of_none (hpend : (s.core c).arch.pend = none) (f : Flg) : sysFlush c f s = s := by
  unfold sysFlush
  simp only [hpend]

/-- The registers of `a` as the entry at level `l` leaves them (R239, R240). -/
def Arch.entered (a : Arch) (l ret pc : Nat) : Arch := (((a.put (kRPC l) ret).put (kRSR l) a.sr).put kSR (putBits (putBits a.sr 24 3 l) 22 1 0)).put kPC pc

theorem Arch.entered_get {l k : Nat} (hl : l < 10) (hk : k ≠ kPC) (ret pc : Nat) : (a.entered l ret pc).get k =
    if k = kRPC l then ret else if k = kRSR l then a.sr else if k = kSR then putBits (putBits a.sr 24 3 l) 22 1 0 else a.get k := by
  rw [Arch.entered, Arch.get_put_ne _ hk, Arch.get_put, Arch.get_put, Arch.get_put]
  have hsr : ¬ k = kSR ∨ (¬ k = kRPC l ∧ ¬ k = kRSR l) := by unfold kSR kRPC kRSR; omega
  have hrsr : ¬ k = kRSR l ∨ ¬ k = kRPC l := by unfold kRPC kRSR; omega
  grind

theorem Arch.entered_pc (l ret pc : Nat) : (a.entered l ret pc).pc = pc := Arch.get_put_same ..

theorem Arch.entered_last (l ret pc : Nat) : (a.entered l ret pc).last = a.last := by rw [Arch.entered, Arch.put_last, Arch.put_last, Arch.put_last, Arch.put_last]

theorem Arch.entered_pend (l ret pc : Nat) : (a.entered l ret pc).pend = a.pend := by rw [Arch.entered, Arch.put_pend, Arch.put_pend, Arch.put_pend, Arch.put_pend]

theorem awlEnter_eq (hpend : (s.core c).arch.pend = none) (l n ret : Nat) : awlEnter c l n ret s = s.modArch c fun a => a.entered l ret (vector s c n) := by
  simp only [awlEnter, sysFlush_of_none hpend, Arch.entered]

/-- An exception below level 4 and outside a session enters level 4 through its vector (R240). -/
theorem awlExc_enters {n ret : Nat} (hipl : (s.core c).arch.ipl < 4) (hses : inSession s c = false) (hpend : (s.core c).arch.pend = none) :
    CoreOnly c s (awlExc c n ret s) ∧ ∃ b : Arch, (awlExc c n ret s).core c = { s.core c with arch := b } ∧ (∀ k, k ≠ kPC → b.get k = (s.core c).arch.raised n ret k) ∧
      b.pc = vector s c n ∧ b.last = (s.core c).arch.last ∧ b.pend = none := by
  have hnot : ¬ (4 ≤ (s.core c).arch.ipl ∨ inSession s c = true) := by simp [hses, hipl]
  unfold awlExc
  rw [if_neg hnot, awlVector]
  obtain ⟨t, ht⟩ : ∃ t, t = s.modArch c fun a => a.put kXCAUSE (putBits (a.get kXCAUSE) 0 8 n) := ⟨_, rfl⟩
  rw [← ht]
  have hcore : t.core c = { s.core c with arch := (s.core c).arch.put kXCAUSE (putBits ((s.core c).arch.get kXCAUSE) 0 8 n) } := by rw [ht, State.core_modArch]
  have honly : CoreOnly c s t := by rw [ht]; exact .modArch _
  clear ht
  have hvec : vector t c n = vector s c n :=
    vector_congr (by rw [hcore]; exact Arch.get_put_ne _ (by decide) _) (by rw [hcore]; exact Arch.get_put_ne _ (by decide) _) honly.mem n
  rw [awlEnter_eq (by rw [hcore]; exact hpend), hvec]
  refine ⟨honly.trans (.modArch _), ((s.core c).arch.put kXCAUSE (putBits ((s.core c).arch.get kXCAUSE) 0 8 n)).entered 4 ret (vector s c n),
    by rw [State.core_modArch, hcore], fun k hk => ?_, Arch.entered_pc .., (Arch.entered_last ..).trans (Arch.put_last ..), (Arch.entered_pend ..).trans ((Arch.put_pend ..).trans hpend)⟩
  have hsr : ((s.core c).arch.put kXCAUSE (putBits ((s.core c).arch.get kXCAUSE) 0 8 n)).sr = (s.core c).arch.sr := Arch.get_put_ne _ (by decide) _
  rw [Arch.entered_get (by decide) hk, hsr, Arch.get_put, Arch.raised]

/-- What an exception leaves that starts from `s1`: its entry, and its PC shown. -/
structure Raised (c n ret : Nat) (s1 u : State) : Prop where
  get : ∀ k, k ≠ kPC → (u.core c).arch.get k = (s1.core c).arch.raised n ret k
  pc : (u.core c).arch.pc = vector s1 c n
  shown : u.rdi AWL_PC_PC (oAwl c) = (s1.core c).arch.last % 2 ^ 32
  other : ∀ j, j ≠ c → u.core j = s1.core j
  mem : u.mem = s1.mem
  regs : SameRegsBut [AWL_PC_PC.key (oAwl c)] s1 u

theorem awlExc_raised {n ret : Nat} (hipl : (s.core c).arch.ipl < 4) (hses : inSession s c = false) (hpend : (s.core c).arch.pend = none) (hloads : (s.core c).loads = []) :
    Raised c n ret s (showPc c (awlExc c n ret s)) := by
  obtain ⟨honly, b, hcore, hget, hpc, hlast, -⟩ := awlExc_enters (n := n) (ret := ret) hipl hses hpend
  obtain ⟨t, ht⟩ : ∃ t, t = awlExc c n ret s := ⟨_, rfl⟩
  rw [← ht] at honly hcore ⊢
  have hshow : (showPc c t).core c = { s.core c with arch := b } := hcore
  refine ⟨fun k hk => by rw [hshow]; exact hget k hk, by rw [hshow]; exact hpc, ?_, honly.other, honly.mem, SameRegsBut.wri (SameRegsBut.of_regs honly.regs _)⟩
  have hnil : (t.core c).loads = [] := by rw [hcore]; exact hloads
  unfold showPc
  simp only [hnil]
  rw [State.rdi_wri_same, hcore]
  exact congrArg (· % 2 ^ 32) hlast

theorem Raised.coreAfter {n ret : Nat} (h : Raised c n ret t u) (hother : ∀ j, j ≠ c → t.core j = s.core j) :
    CoreAfter c s u ((t.core c).arch.raised n ret) (vector t c n) (t.core c).arch.last := ⟨h.get, h.pc, h.shown, fun j hj => (h.other j hj).trans (hother j hj)⟩

/-- An exception of a core that nothing holds back. -/
theorem awlRaise_raised {n : Nat} (hlk : (s.core c).lk = none) (hipl : (s.core c).arch.ipl < 4) (hses : inSession s c = false) (hpend : (s.core c).arch.pend = none)
    (hloads : (s.core c).loads = []) : Raised c n (s.core c).arch.pc s (awlRaise c n s) := by
  have hwin : breakWindow c s = s := by
    unfold breakWindow
    simp only [hlk]
  unfold awlRaise
  rw [hwin]
  exact awlExc_raised hipl hses hpend hloads
end
end Sys2Proof.Machine

namespace Sys2Proof.Machine

set_option Elab.async false

section
variable {s t u : State} {c w w2 : Nat} {a a0 b : Arch} {fl : Flg}

theorem Fld.key_ne_of_lo {f g : Fld} (hf : f.lo < 32) (hg : g.lo < 32) (h : f.lo ≠ g.lo) (o p : Nat) : f.key o ≠ g.key p := by
  unfold Fld.key
  omega

theorem and_full {x : Nat} (hx : x < 2 ^ 32) : x &&& (2 ^ 32 - 1) = x := by rw [Nat.and_two_pow_sub_one_eq_mod, Nat.mod_eq_of_lt hx]

theorem Flg.apply_none {sr : Nat} (hsr : sr < 2 ^ 32) : ({} : Flg).apply sr = sr := by
  change (sr &&& (2 ^ 32 - 1 - 0)) ||| (0 &&& 0) = sr
  rw [Nat.sub_zero, and_full hsr, Nat.and_self, Nat.or_zero]

theorem trap_runs (f : Fetch) (hfree : CoreFree f.core s) (h : WordRuns .trap f s) (hipl : (s.core f.core).arch.ipl < 4) (hses : inSession s f.core = false)
    (hsr : (s.core f.core).arch.sr < 2 ^ 32) : ∃ u, exec (.awlTrap f) s = .next (settle (pump u)) ∧
      CoreAfter f.core s u (((s.core f.core).arch.put kXCAUSE (putBits ((s.core f.core).arch.get kXCAUSE) 8 8 (f.w.toNat % 256))).raised 7 (((s.core f.core).arch.pc + 4) % 2 ^ 32))
        (vector s f.core 7) (s.core f.core).arch.pc ∧ SameMem s u := by
  obtain ⟨hfmt, hop⟩ := h.encoded
  have hdo : doWord f.core f.w.toNat f.w2.toNat s = _ := (doWord_sys hfmt).trans (doSys_trap hop)
  refine ⟨_, h.exec_eq (by decide), ?_⟩
  rw [h.step_eq hfree, hdo, Did.outcome, if_pos rfl]
  obtain ⟨a, ha⟩ : ∃ a, a = (s.core f.core).arch := ⟨_, rfl⟩
  obtain ⟨b, hb⟩ : ∃ b, b = a.put kXCAUSE (putBits (a.get kXCAUSE) 8 8 (f.w.toNat % 256)) := ⟨_, rfl⟩
  obtain ⟨t, ht⟩ : ∃ t, t = s.modArch f.core fun x => x.put kXCAUSE (putBits (x.get kXCAUSE) 8 8 (f.w.toNat % 256)) := ⟨_, rfl⟩
  have honly : CoreOnly f.core s t := by rw [ht]; exact .modArch _
  have hcore : t.core f.core = { s.core f.core with arch := b } := by rw [ht, State.core_modArch, hb, ha]
  rw [← ht, ← ha, ← hb]
  have hsrb : b.sr = a.sr := by rw [hb]; exact Arch.get_put_ne _ (by decide) _
  have hbarch : (t.core f.core).arch = b := by rw [hcore]
  have hend : atLoopEnd a a.pc = false := by rw [ha]; exact h.2.2.2
  have hseq : Sequences f.w.toNat a b none :=
    .of_get hend (by rw [Arch.ldepth, Arch.ldepth, hsrb]) (by rw [hb]; exact Arch.get_put_ne _ (by decide) _) (by rw [hb]; exact Arch.get_put_ne _ (by decide) _)
  rw [hbarch]
  obtain ⟨honly', hfin⟩ := finish_spec (s := t) (c := f.core) (fl := {}) (by rw [ha]; exact hfree.2) hseq
  rw [next_short (by omega)] at hfin
  obtain ⟨v, hv⟩ : ∃ v, v = finish f.core f.w.toNat a b {} none t := ⟨_, rfl⟩
  rw [← hv] at honly' hfin ⊢
  have hnp : pendAfter f.w.toNat b = none := if_neg fun hc => by omega
  have hvarch : (v.core f.core).arch = a.stepped b {} ((a.pc + 4) % 2 ^ 32) none := by rw [hfin, Core.stepped, hnp]
  have hvsr : (v.core f.core).arch.sr = a.sr := by
    rw [hvarch, Arch.sr, Arch.stepped_get (by decide), Arch.flagged, if_pos rfl, hsrb, Flg.apply_none (by rw [ha]; exact hsr)]
  have hvget : ∀ k, k ≠ kPC → (v.core f.core).arch.get k = b.get k := by
    intro k hk
    by_cases hksr : k = kSR
    · rw [hksr]
      exact hvsr.trans hsrb.symm
    · rw [hvarch, Arch.stepped_get hk, Arch.flagged, if_neg hksr]
  have hvec : vector v f.core 7 = vector s f.core 7 := by
    refine vector_congr ?_ ?_ (honly'.mem.trans honly.mem) 7
    · rw [hvget _ (by decide), hb, ha]; exact Arch.get_put_ne _ (by decide) _
    · rw [hvget _ (by decide), hb, ha]; exact Arch.get_put_ne _ (by decide) _
  have hraised := awlExc_raised (s := v) (c := f.core) (n := 7) (ret := (v.core f.core).arch.pc) (by rw [Arch.ipl, hvsr, ha]; exact hipl)
    (by rw [inSession, State.rdi_of_regs (honly'.regs.trans honly.regs)]; exact hses) (by rw [hvarch]; rfl) (by rw [hfin, hcore, Core.stepped]; simp only [hfree.loads, List.map_nil])
  have hafter := hraised.coreAfter (s := s) fun j hj => (honly'.other j hj).trans (honly.other j hj)
  have hpc : (v.core f.core).arch.pc = (a.pc + 4) % 2 ^ 32 := by rw [hvarch, Arch.stepped_pc]
  have hlast : (v.core f.core).arch.last = a.pc := by rw [hvarch]; rfl
  rw [hvec, hlast, hpc] at hafter
  rw [hpc]
  refine ⟨⟨fun k hk => ?_, hafter.2⟩, .of_mem (by rw [hpc] at hraised; exact hraised.mem.trans (honly'.mem.trans honly.mem))⟩
  rw [hafter.1 k hk, Arch.raised, Arch.raised, hvsr, hsrb, hvget k hk, hvget kXCAUSE (by decide)]

theorem enterDone_rdi {f : Fld} (hb : f.key 0 ≠ DBG_CORECMD_BUSY.key 0) (hst : f.key 0 ≠ DBG_CORECMD_STATUS.key 0) (c st : Nat) (s : State) :
    (enterDone c st s).rdi f (oDbg c) = s.rdi f (oDbg c) := by
  unfold enterDone
  split
  · rw [State.rdi_wri_off _ hst, State.rdi_wri_off _ hb]
  · rfl

theorem enterDone_frame (c st : Nat) (s : State) : (enterDone c st s).cores = s.cores ∧ (enterDone c st s).mem = s.mem ∧ (enterDone c st s).dbg = s.dbg := by
  unfold enterDone
  split <;> exact ⟨rfl, rfl, rfl⟩

theorem wdSettle_rdi {f : Fld} (hlo : f.lo < 32) (hf : f.lo ≠ AWL_WDGCNT_COUNT.lo) (c o : Nat) (s : State) : (wdSettle c s).rdi f o = s.rdi f o :=
  State.rdi_wri_ne _ _ (Fld.key_ne_of_lo hlo (by decide) hf _ _)

theorem setAwlState_rdi_lo {f : Fld} (hlo : f.lo < 32) (hf : f.lo ≠ 0) (c v o : Nat) (s : State) : (setAwlState c v s).rdi f o = s.rdi f o :=
  (State.rdi_wri_ne _ _ (Fld.key_ne_of_lo hlo (by decide) hf _ _)).trans (wdSettle_rdi hlo hf ..)

theorem State.mem_wri (s : State) (f : Fld) (o v : Nat) : (s.wri f o v).mem = s.mem := rfl

theorem State.core_of_cores (h : t.cores = s.cores) (j : Nat) : t.core j = s.core j := by rw [State.core, State.core, h]

theorem showPc_core (c j : Nat) (s : State) : (showPc c s).core j = s.core j := State.core_of_cores (showPc_spec c s).1 j

/-- Settling the watchdog and a new debug state leave the core but for its watchdog time, memory and the registers away from the count. -/
theorem wdSettle_dbg (c : Nat) (d : Dbg) (s : State) : (∃ at_, ({ wdSettle c s with dbg := d } : State).core c = { s.core c with wdAt := at_ }) ∧
    (∀ (f : Fld) (o : Nat), f.lo < 32 → f.lo ≠ 0 → ({ wdSettle c s with dbg := d } : State).rdi f o = s.rdi f o) ∧ ({ wdSettle c s with dbg := d } : State).mem = s.mem := by
  have hcore := wdSettle_core c s
  have hrdi : ∀ (f : Fld) (o : Nat), f.lo < 32 → f.lo ≠ 0 → (wdSettle c s).rdi f o = s.rdi f o := fun f o hlo hf => wdSettle_rdi hlo hf c o s
  have hmem : (wdSettle c s).mem = s.mem := rfl
  generalize wdSettle c s = t at *
  exact ⟨hcore, hrdi, hmem⟩

/-- A monitor entry that waits for nothing is taken: the core is in a session at level 5 (R550 to R552). -/
theorem takeEntry_dbg (hp : tabGet 0 s.dbg.pend c = 1) (hbar : cannotEnter s c = false) (hlk : (s.core c).lk = none) (hloads : (s.core c).loads = [])
    (hrun : awlState s c = awlRUN) (hpend : (s.core c).arch.pend = none) :
    inSession (takeEntry c s) c = true ∧ (∃ at_, (takeEntry c s).core c = { s.core c with arch := (s.core c).arch.entered 5 (s.core c).arch.pc (vector s c 10), wdAt := at_ }) ∧
      (takeEntry c s).rdi DBG_STAT_CAUSE (oDbg c) = 1 ∧ (takeEntry c s).rdi DBG_STAT_CODE (oDbg c) = s.rdi DBG_STAT_CODE (oDbg c) ∧ (takeEntry c s).mem = s.mem := by
  have hsq : squash c s = s := by
    unfold squash
    simp only [hloads]
  obtain ⟨at_, hset⟩ := setAwlState_core c awlRUN s
  unfold takeEntry
  extract_lets p k src3 o cause s1 a waits s2 s3 s4 s5 t src2 s6 src1 src0
  have hp' : p = 1 := hp
  rw [if_neg (by simp [hp', hbar]), if_neg (by simp [k, hlk]), if_neg (by simp [k, hloads])]
  have hs1 : s1 = s := hsq
  have hwaits : waits = false := by
    change (awlState s1 c == awlWAIT) = false
    rw [hs1, hrun]
    rfl
  have hs2 : s2 = showPc c (awlEnter c 5 10 (s.core c).arch.pc (setAwlState c awlRUN s)) := by simp only [s2, hwaits, hs1, a]; rfl
  have hmemr : (setAwlState c awlRUN s).mem = s.mem := rfl
  have hcoder : (setAwlState c awlRUN s).rdi DBG_STAT_CODE (oDbg c) = s.rdi DBG_STAT_CODE (oDbg c) := setAwlState_rdi_lo (by decide) (by decide) ..
  obtain ⟨r, hr⟩ : ∃ r, r = setAwlState c awlRUN s := ⟨_, rfl⟩
  rw [← hr] at hset hs2 hmemr hcoder
  have hvec : vector r c 10 = vector s c 10 := vector_congr (by rw [hset]) (by rw [hset]) hmemr 10
  rw [awlEnter_eq (by rw [hset]; exact hpend), hvec] at hs2
  have hcore2 : s2.core c = { s.core c with arch := (s.core c).arch.entered 5 (s.core c).arch.pc (vector s c 10), wdAt := at_ } := by
    rw [hs2, showPc_core, State.core_modArch, hset]
  have hcode2 : s2.rdi DBG_STAT_CODE (oDbg c) = s.rdi DBG_STAT_CODE (oDbg c) := by
    rw [hs2]
    exact (State.rdi_wri_ne _ _ (Fld.key_ne_of_lo (by decide) (by decide) (by decide) _ _)).trans hcoder
  have hmem2 : s2.mem = s.mem := by rw [hs2, (showPc_spec ..).2.2.1]; exact hmemr
  clear_value s2
  have hs4 : s4 = (s2.wri DBG_STAT_CAUSE (oDbg c) 1).wri DBG_STAT_LOCKDEF (oDbg c) 0 := by
    have h : s4 = s3 := if_neg (by simp [cause, hp'])
    rw [h]
    simp only [s3, cause, o, hp', Nat.one_mod, Nat.reduceDiv]
  have hcause4 : s4.rdi DBG_STAT_CAUSE (oDbg c) = 1 := by
    rw [hs4, State.rdi_wri_off _ (by decide), State.rdi_wri_same]
    rfl
  have hcode4 : s4.rdi DBG_STAT_CODE (oDbg c) = s.rdi DBG_STAT_CODE (oDbg c) := by
    rw [hs4, State.rdi_wri_off _ (by decide), State.rdi_wri_off _ (by decide), hcode2]
  have hcores4 : s4.core c = s2.core c ∧ s4.mem = s2.mem := by rw [hs4, State.core_wri, State.core_wri, State.mem_wri, State.mem_wri]; exact ⟨rfl, rfl⟩
  clear_value s4
  obtain ⟨hcores5, hmem5, -⟩ : s5.cores = s4.cores ∧ s5.mem = s4.mem ∧ s5.dbg = s4.dbg := enterDone_frame ..
  have hcause5 : s5.rdi DBG_STAT_CAUSE (oDbg c) = 1 := (enterDone_rdi (by decide) (by decide) ..).trans hcause4
  have hcode5 : s5.rdi DBG_STAT_CODE (oDbg c) = s.rdi DBG_STAT_CODE (oDbg c) := (enterDone_rdi (by decide) (by decide) ..).trans hcode4
  have hcore5 : s5.core c = s4.core c := State.core_of_cores hcores5 c
  clear_value s5
  have hheld : (∃ at_, s6.core c = { s5.core c with wdAt := at_ }) ∧ s6.rdi DBG_STAT_CAUSE (oDbg c) = 1 ∧ s6.rdi DBG_STAT_CODE (oDbg c) = s.rdi DBG_STAT_CODE (oDbg c) ∧ s6.mem = s5.mem := by
    simp only [s6, t]
    generalize ({ src2 with wdHeld := t.dbg.wdHeld ++ [c] } : Dbg) = src
    split
    · obtain ⟨hcore, hrdi, hmem⟩ := wdSettle_dbg c src s5
      exact ⟨hcore, (hrdi _ _ (by decide) (by decide)).trans hcause5, (hrdi _ _ (by decide) (by decide)).trans hcode5, hmem⟩
    · exact ⟨⟨_, rfl⟩, hcause5, hcode5, rfl⟩
  clear_value s6
  obtain ⟨⟨at6, hcore6⟩, hcause6, hcode6, hmem6⟩ := hheld
  have hsrc : src1 = (s6.wri DBG_STAT_MON (oDbg c) 1).wri DBG_STAT_ENTRIES (oDbg c) (s6.rdi DBG_STAT_ENTRIES (oDbg c) + 1) := rfl
  clear_value src1
  have hmon : src1.rdi DBG_STAT_MON (oDbg c) = 1 := by
    rw [hsrc, State.rdi_wri_off _ (by decide), State.rdi_wri_same]
    rfl
  have hcause : src1.rdi DBG_STAT_CAUSE (oDbg c) = 1 := by rw [hsrc, State.rdi_wri_off _ (by decide), State.rdi_wri_off _ (by decide), hcause6]
  have hcode : src1.rdi DBG_STAT_CODE (oDbg c) = s.rdi DBG_STAT_CODE (oDbg c) := by rw [hsrc, State.rdi_wri_off _ (by decide), State.rdi_wri_off _ (by decide), hcode6]
  have hcore : src1.core c = s6.core c := by rw [hsrc, State.core_wri, State.core_wri]
  have hmem : src1.mem = s6.mem := by rw [hsrc, State.mem_wri, State.mem_wri]
  exact ⟨beq_of_eq hmon, ⟨at6, hcore.trans (by rw [hcore6, hcore5, hcores4.1, hcore2])⟩, hcause, hcode, hmem.trans (hmem6.trans (hmem5.trans (hcores4.2.trans hmem2)))⟩

theorem cannotEnter_congr (hmon : t.rdi DBG_CORECTL_MONEN (oDbg c) = s.rdi DBG_CORECTL_MONEN (oDbg c)) (hses : t.rdi DBG_STAT_MON (oDbg c) = s.rdi DBG_STAT_MON (oDbg c))
    (hstate : awlState t c = awlState s c) : cannotEnter t c = cannotEnter s c := by
  unfold cannotEnter inSession
  rw [hmon, hses, hstate]

theorem dbg_barred (f : Fetch) (hfree : CoreFree f.core s) (h : WordRuns .dbg f s) (hbar : cannotEnter s f.core = true) :
    ∃ u, exec (.awlDbg f) s = .next (settle (pump u)) ∧
      CoreAfter f.core s u ((s.core f.core).arch.flagged {}) (((s.core f.core).arch.pc + 4) % 2 ^ 32) (s.core f.core).arch.pc ∧ SameMem s u ∧
      SameRegsBut [AWL_PC_PC.key (oAwl f.core)] s u := by
  obtain ⟨hfmt, hop⟩ := h.encoded
  exact h.keeps (by decide) hfree ((doWord_sys hfmt).trans (doSys_dbg_barred hop hbar)) (.inr (.inr h.2.2.2)) (next_short (by omega) _)

theorem dbg_enters (f : Fetch) (hfree : CoreFree f.core s) (h : WordRuns .dbg f s) (hbar : cannotEnter s f.core = false) :
    ∃ u, exec (.awlDbg f) s = .next (settle (pump u)) ∧ inSession u f.core = true ∧ (u.core f.core).arch.ipl = 5 ∧
      (u.core f.core).arch.get (kRPC 5) = ((s.core f.core).arch.pc + 4) % 2 ^ 32 ∧ u.rdi DBG_STAT_CODE (oDbg f.core) = f.w.toNat % 256 ∧
      u.rdi DBG_STAT_CAUSE (oDbg f.core) = 1 ∧ SameMem s u := by
  obtain ⟨hfmt, hop⟩ := h.encoded
  have hdo : doWord f.core f.w.toNat f.w2.toNat s = _ := (doWord_sys hfmt).trans (doSys_dbg hop hbar hfree.loads)
  refine ⟨_, h.exec_eq (by decide), ?_⟩
  rw [h.step_eq hfree, hdo, Did.outcome]
  obtain ⟨t, ht⟩ : ∃ t, t = dbgAsked f.core (f.w.toNat % 256) s := ⟨_, rfl⟩
  obtain ⟨hcoret, hmemt, hpendt, hregst⟩ := dbgAsked_spec f.core (f.w.toNat % 256) s
  rw [← ht] at hcoret hmemt hpendt hregst
  rw [← ht]
  clear ht
  obtain ⟨honly, hfin⟩ := finish_spec (s := t) (c := f.core) (fl := {}) (target := none) hfree.2 (.inr (.inr h.2.2.2) : Sequences f.w.toNat _ _ _)
  rw [next_short (by omega), hcoret] at hfin
  obtain ⟨v, hv⟩ : ∃ v, v = finish f.core f.w.toNat (s.core f.core).arch (s.core f.core).arch {} none t := ⟨_, rfl⟩
  rw [← hv] at honly hfin ⊢
  clear hv
  have hlk : (v.core f.core).lk = none := by rw [hfin, Core.stepped, hfree.calm.lk]; rfl
  have hstop : (v.core f.core).stopping = none := by rw [hfin]; exact hfree.calm.stopping
  have hloads : (v.core f.core).loads = [] := by rw [hfin, Core.stepped, hfree.loads]; rfl
  have hwd : (v.core f.core).wdPend = false := by rw [hfin]; exact hfree.calm.wdPend
  have hnp : pendAfter f.w.toNat (s.core f.core).arch = none := if_neg fun hc => by omega
  have hpend : (v.core f.core).arch.pend = none := by rw [hfin, Core.stepped, hnp]; rfl
  have hpc : (v.core f.core).arch.pc = ((s.core f.core).arch.pc + 4) % 2 ^ 32 := by rw [hfin, Core.stepped, Arch.stepped_pc]
  obtain ⟨z, hz⟩ : ∃ z, z = showPc f.core v := ⟨_, rfl⟩
  have hcorez : z.core f.core = v.core f.core := by rw [hz, showPc_core]
  have hcode : ∀ {g : Fld}, g.lo < 32 → g.lo ≠ 0 → g.key 0 ≠ DBG_STAT_CODE.key 0 → z.rdi g (oDbg f.core) = s.rdi g (oDbg f.core) := by
    intro g hlt hlo hne
    rw [hz]
    refine (State.rdi_wri_ne _ _ (Fld.key_ne_of_lo hlt (by decide) hlo _ _)).trans ?_
    rw [State.rdi_of_regs (honly.regs.trans hregst), State.rdi_wri_off _ hne]
  have hstatez : awlState z f.core = awlState s f.core := by
    rw [hz]
    refine (State.rdi_wri_off _ (by decide) ..).trans ?_
    rw [State.rdi_of_regs (honly.regs.trans hregst), State.rdi_wri_ne _ _ (Fld.key_ne_of_lo (by decide) (by decide) (by decide) _ _)]
    rfl
  have hcodez : z.rdi DBG_STAT_CODE (oDbg f.core) = f.w.toNat % 256 := by
    rw [hz]
    refine (State.rdi_wri_ne _ _ (Fld.key_ne_of_lo (by decide) (by decide) (by decide) _ _)).trans ?_
    rw [State.rdi_of_regs (honly.regs.trans hregst), State.rdi_wri_same]
    exact Nat.mod_eq_of_lt (Nat.mod_lt _ (by decide))
  have hmemz : z.mem = s.mem := by rw [hz, (showPc_spec ..).2.2.1, honly.mem, hmemt]
  have hpendz : tabGet 0 z.dbg.pend f.core = 1 := by
    have h : z.dbg = v.dbg := by rw [hz]; rfl
    rw [h, honly.dbg]
    exact hpendt
  have hstopz : stopCheck f.core z = z := by
    unfold stopCheck
    simp only [hcorez, hstop]
  have hafter : afterward f.core v = takeWdog f.core (takeEntry f.core z) := by
    unfold afterward
    rw [endWindow_of_left (by rw [hlk]; nofun), ← hz, hstopz]
  obtain ⟨hses, ⟨at_, hcore⟩, hcause, hcode', hmem⟩ := takeEntry_dbg (s := z) (c := f.core) hpendz
    ((cannotEnter_congr (hcode (by decide) (by decide) (by decide)) (hcode (by decide) (by decide) (by decide)) hstatez).trans hbar)
    (by rw [hcorez]; exact hlk) (by rw [hcorez]; exact hloads) (hstatez.trans hfree.state) (by rw [hcorez]; exact hpend)
  obtain ⟨y, hy⟩ : ∃ y, y = takeEntry f.core z := ⟨_, rfl⟩
  rw [← hy] at hses hcore hcause hcode' hmem hafter
  have hwdy : takeWdog f.core y = y := if_neg fun hw => by
    have hf : (y.core f.core).wdPend = false := by rw [hcore, hcorez]; exact hwd
    exact absurd (hf.symm.trans hw.1) (by decide)
  rw [hafter, hwdy]
  refine ⟨hses, ?_, ?_, hcode'.trans hcodez, hcause, .of_mem (hmem.trans hmemz)⟩
  · rw [hcore, Arch.ipl, Arch.sr, Arch.entered_get (by decide) (by decide), if_neg (by decide), if_neg (by decide), if_pos rfl, bits_putBits_above (by decide), bits_putBits_same]
    rfl
  · rw [hcore, Arch.entered_get (by decide) (by decide), if_pos rfl, hcorez, hpc]
end

/-- Settles O41: what each system instruction makes of the core, its registers as the word leaves them and nothing else but its PC. -/
theorem systemInstructions : Obligations.SystemInstructions := by
  unfold Obligations.SystemInstructions
  refine ⟨?_, ?_, ?_, ?_, ?_, fun f s => fence_waits f, ?_, ?_, ?_, ?_⟩
  · rintro f s a rfl hfree h
    exact nop_runs f hfree h
  · rintro f s a rfl hfree h
    exact rot_runs f hfree h
  · rintro f s a rfl hfree h hstq
    exact lock_runs f hfree h hstq
  · rintro f s a rfl hfree h
    exact wait_runs f hfree h
  · rintro f s a rfl hfree h hstq
    exact fence_runs f hfree h hstq
  · rintro f s a ei rfl hfree h
    exact ie_runs f ei hfree h
  · rintro f s a rfl hfree h hipl hses hsr
    exact trap_runs f hfree h hipl hses hsr
  · rintro f s a rfl hfree h hbar
    exact dbg_barred f hfree h hbar
  · rintro f s a rfl hfree h hbar
    exact dbg_enters f hfree h hbar
end Sys2Proof.Machine

namespace Sys2Proof.Machine

set_option Elab.async false

/-! Control of the cores (R249): a watchdog that expires while a kick waits for the next instruction -/

section
variable {s : State} {c : Nat}

theorem sysEffect_kick (c : Nat) (f : Flg) (s : State) : ((sysEffect c 19 0x5A17 f s).core c).wdFirst = false := by
  have hkick : sysEffect c 19 0x5A17 f s = (wdSet c (s.rdi AWL_WDGCFG_RELOAD (oAwl c)) s).modCore c fun k => { k with wdFirst := false } := by simp [sysEffect]
  rw [hkick, State.core_modCore]

/-- An exception that finds a kick waiting lets it take effect. -/
theorem awlEnter_kick (hpend : (s.core c).arch.pend = some (19, 0x5A17)) (l n ret : Nat) : ((awlEnter c l n ret s).core c).wdFirst = false := by
  have hflush : sysFlush c {} s = sysEffect c 19 0x5A17 {} (s.modArch c fun a => { a with pend := none }) := by
    unfold sysFlush
    simp only [hpend]
  unfold awlEnter
  extract_lets t pc
  have ht : (t.core c).wdFirst = false := (congrArg (fun u : State => (u.core c).wdFirst) hflush).trans (sysEffect_kick ..)
  rw [State.core_modArch]
  exact ht

theorem takeWdog_kick (hwd : (s.core c).wdPend = true) (hlk : (s.core c).lk = none) (hloads : (s.core c).loads = []) (hipl : (s.core c).arch.ipl < 4)
    (hrun : awlState s c = awlRUN) (hpend : (s.core c).arch.pend = some (19, 0x5A17)) : ((takeWdog c s).core c).wdFirst = false := by
  have hsq : squash c s = s := by
    unfold squash
    simp only [hloads]
  obtain ⟨at_, hset⟩ := setAwlState_core c awlRUN s
  unfold takeWdog
  rw [if_pos ⟨hwd, by rw [hlk]; rfl, hipl, .inl hrun, by rw [hloads]; rfl⟩, hsq]
  refine awlEnter_kick ?_ ..
  rw [State.core_modArch, State.core_modCore, hset]
  exact hpend

theorem recordOpen_cores (source : Nat) (payload : List Nat) (s : State) : (s.recordOpen source payload).cores = s.cores := by
  unfold State.recordOpen
  simp [State.free]
end

/-- Core 0 runs with its watchdog on, and the kick that its last instruction wrote waits. -/
def kickWaits : State :=
  (((coreOn []).wri AWL_WDGCFG_EN (oAwl 0) 1).wri AWL_WDGCNT_COUNT (oAwl 0) 0).modArch 0 fun a => { a with pend := some (19, 0x5A17) }

/-- `kickWaits` once its count has run out. -/
def kickExpired : State :=
  let s := wdSet 0 (kickWaits.rdi AWL_WDGCFG_RELOAD (oAwl 0)) (wdExpires 0 kickWaits)
  (s.wri AWL_STAT_WDEXC (oAwl 0) 1).modCore 0 fun k => { k with wdFirst := true, wdPend := true }

theorem kickWaits_expires : exec (.watchdogFirstExpiry 0) kickWaits = .next (takeWdog 0 (kickExpired.recordOpen 0 [0])) := by
  have hruns : ¬ (wdRuns kickWaits 0 = false ∨ (kickWaits.core 0).wdFirst = true) := by decide +kernel
  change execWatchdogFirstExpiry 0 kickWaits = _
  unfold execWatchdogFirstExpiry
  exact if_neg hruns

/-- Refutes O43: the exception of the first expiry lets the waiting kick take effect, and the watchdog counts as not yet expired. -/
theorem not_awlControl : ¬ Obligations.AwlControl := by
  unfold Obligations.AwlControl
  intro h
  obtain ⟨-, -, -, -, -, -, -, -, -, firstExpiry, -⟩ := h
  obtain ⟨t, hexec, hfirst, -⟩ := firstExpiry kickWaits 0 (by decide +kernel) (by decide +kernel)
  have hcore : (kickExpired.recordOpen 0 [0]).core 0 = kickExpired.core 0 := State.core_of_cores (recordOpen_cores ..) 0
  have hstate : awlState (kickExpired.recordOpen 0 [0]) 0 = awlRUN := by
    obtain ⟨-, -, hrdi⟩ := recordOpen_spec 0 [0] kickExpired
    exact (hrdi _ _ (by decide)).trans (by decide +kernel)
  have hkicked := takeWdog_kick (s := kickExpired.recordOpen 0 [0]) (c := 0) (by rw [hcore]; decide +kernel) (by rw [hcore]; decide +kernel) (by rw [hcore]; decide +kernel)
    (by rw [hcore]; decide +kernel) hstate (by rw [hcore]; decide +kernel)
  rw [← Host.Outcome.next.inj (kickWaits_expires.symm.trans hexec)] at hfirst
  exact absurd (hkicked.symm.trans hfirst) (by decide)

end Sys2Proof.Machine

namespace Sys2Proof.Machine

set_option Elab.async false

/-! Moves and pointers (R223, R256, R257, R263, R271 to R273, R279) -/

section
variable {s t u : State} {c w w2 : Nat} {a a0 b : Arch} {fl : Flg}

theorem Arch.q_lt (a : Arch) (n : Nat) : a.q n < 100 := by
  have h : (n + a.get kQRB) % 32 < 32 := Nat.mod_lt _ (by decide)
  unfold Arch.q kQ
  omega

theorem Arch.rcLoc_lt (a : Arch) (d : Nat) : (a.rcLoc d).1 < 100 := by
  have hq := a.q_lt (d - 0x50)
  have hite : ∀ {p : Prop} [Decidable p] {x y : Nat × Nat}, (p → x.1 < 100) → (¬ p → y.1 < 100) → (if p then x else y).1 < 100 := by
    intro p _ x y hx hy
    split
    · exact hx ‹_›
    · exact hy ‹_›
  have hmod : ∀ m : Nat, kA (m % 2) < 100 := fun m => by unfold kA; omega
  unfold Arch.rcLoc
  refine hite (fun h => ?_) fun _ => hite (fun _ => ?_) fun _ => hite (fun _ => ?_) fun _ => hite (fun _ => hmod d) fun _ => hite (fun _ => hmod d) fun _ =>
    hite (fun _ => hmod d) fun _ => hite (fun _ => hmod d) fun _ => hite (fun h => ?_) fun _ => hite (fun h => ?_) fun _ => hite (fun h => ?_) fun _ =>
    hite (fun h => ?_) fun _ => hq
  all_goals
    simp only [kP, kM, kB, kL]
    omega

theorem Arch.codeKey_lt {sz d : Nat} (hd : d < 32) : codeKey sz d < 100 := by
  unfold codeKey kA
  split <;> omega

theorem Arch.rcPut_get_sys {k : Nat} (hk : 100 ≤ k) (a : Arch) (d v : Nat) : (a.rcPut d v).get k = a.get k :=
  Arch.get_put_ne _ (by have h := a.rcLoc_lt d; omega) _

theorem Arch.opPut_get_sys {sz d k : Nat} (hd : d < 32) (hk : 100 ≤ k) (a : Arch) (v : Nat) : (a.opPut sz d v).get k = a.get k := by
  have h : codeKey sz d < 100 := Arch.codeKey_lt hd
  unfold Arch.opPut
  extract_lets key
  have hne : k ≠ key := by omega
  split <;> exact Arch.get_put_ne _ hne _

theorem bits_lt (x lo n : Nat) : bits x lo n < 2 ^ n := Nat.mod_lt _ (Nat.two_pow_pos n)

theorem doWord_mov (hfmt : bits w 29 3 = 2) (hop : 6 ≤ bits w 25 4) : doWord c w w2 s = doMov c w s := by
  simp only [doWord, hfmt]
  split <;> first | omega | rfl

theorem doWord_ptr (hfmt : bits w 29 3 = 3) : doWord c w w2 s = .done (doPtr (s.core c).arch w) {} none s := by simp only [doWord, hfmt]

theorem doWord_branch (hfmt : bits w 29 3 = 4) : doWord c w w2 s = doBranch c w s := by simp only [doWord, hfmt]

theorem doWord_long (hfmt : bits w 29 3 = 6) : doWord c w w2 s = doLong c w w2 s := by simp only [doWord, hfmt]

theorem mov_runs (f : Fetch) (hfree : CoreFree f.core s) (h : WordRuns .mov f s) : ∃ u, exec (.awlMov f) s = .next (settle (pump u)) ∧
    CoreAfter f.core s u (((s.core f.core).arch.rcPut (bits f.w.toNat 18 7) ((s.core f.core).arch.movValue (bits f.w.toNat 18 7) (bits f.w.toNat 11 7)).1).flagged
      (({} : Flg).stick srLS ((s.core f.core).arch.movValue (bits f.w.toNat 18 7) (bits f.w.toNat 11 7)).2)) (((s.core f.core).arch.pc + 4) % 2 ^ 32) (s.core f.core).arch.pc ∧
      SameMem s u ∧ SameRegsBut [AWL_PC_PC.key (oAwl f.core)] s u := by
  obtain ⟨hfmt, hop⟩ := h.encoded
  have hdo : doMov f.core f.w.toNat s = .done ((s.core f.core).arch.rcPut (bits f.w.toNat 18 7) ((s.core f.core).arch.movValue (bits f.w.toNat 18 7) (bits f.w.toNat 11 7)).1)
      (({} : Flg).stick srLS ((s.core f.core).arch.movValue (bits f.w.toNat 18 7) (bits f.w.toNat 11 7)).2) none s := by simp only [doMov, hop]
  exact h.keeps (by decide) hfree ((doWord_mov hfmt (by omega)).trans hdo) (.of_sys h.2.2.2 fun k hk => Arch.rcPut_get_sys hk ..) (next_short (by omega) _)

theorem doMov_fromSys (hop : bits w 25 4 = 8) (hloads : (s.core c).loads = []) : doMov c w s =
    .done ((s.core c).arch.rcPut (bits w 18 7) (sysRead s c (bits w 13 5))) {} none (if bits w 13 5 = 18 then s.modCore c fun k => { k with msgq := k.msgq.drop 1 } else s) := by
  simp only [doMov, hop, hloads, ne_eq, not_true_eq_false, false_and, if_false]

/-- The state in which the word that reads a system register runs: FIN is taken first. -/
def finTaken (f : Fetch) (s : State) : State := if bits f.w.toNat 13 5 = 16 then s.modCore f.core fun k => { k with fin := f.fin.toNat } else s

theorem finTaken_exec {f : Fetch} (h : WordRuns .movFromSys f s) : exec (.awlMovFromSysreg f) s = .next (settle (pump (awlStep f (finTaken f s)))) := by
  change Host.Outcome.next (settle (pump (awlRow .movFromSys f (if isMn f .movFromSys ∧ bits f.w.toNat 13 5 = 16 then _ else s)))) = _
  rw [awlRow, if_pos h.1, finTaken]
  simp only [h.1, true_and]

theorem finTaken_core (f : Fetch) (s : State) : ∃ x, (finTaken f s).core f.core = { s.core f.core with fin := x } ∧ (bits f.w.toNat 13 5 = 16 → x = f.fin.toNat) := by
  unfold finTaken
  split
  · exact ⟨_, State.core_modCore .., fun _ => rfl⟩
  · next h => exact ⟨_, rfl, fun h' => absurd h' h⟩

theorem finTaken_only (f : Fetch) (s : State) : CoreOnly f.core s (finTaken f s) := by
  unfold finTaken
  split
  · exact .modCore _
  · exact ⟨fun _ _ => rfl, rfl, rfl, rfl, rfl⟩

theorem finTaken_free {f : Fetch} (hfree : CoreFree f.core s) : CoreFree f.core (finTaken f s) := by
  unfold finTaken
  split
  · obtain ⟨⟨hruns, hstop, hlk, hloads, hsbuf, hstwait, hwd, hentry⟩, hpend⟩ := hfree
    refine ⟨⟨hruns, ?_, ?_, ?_, ?_, ?_, ?_, hentry⟩, ?_⟩ <;> rw [State.core_modCore] <;> assumption
  · exact hfree

theorem finTaken_runs {f : Fetch} (h : WordRuns .movFromSys f s) : WordRuns .movFromSys f (finTaken f s) := by
  obtain ⟨x, hcore, -⟩ := finTaken_core f s
  unfold WordRuns
  rw [hcore]
  exact h

theorem sysRead_finTaken (f : Fetch) (s : State) : sysRead (finTaken f s) f.core (bits f.w.toNat 13 5) =
    if bits f.w.toNat 13 5 = 16 then f.fin.toNat else sysRead s f.core (bits f.w.toNat 13 5) := by
  unfold finTaken
  split
  · next h =>
    rw [h]
    unfold sysRead
    extract_lets k
    have hk : k.fin = f.fin.toNat := by simp only [k, State.core_modCore]
    simpa using hk
  · rfl

theorem movFromSys_runs (f : Fetch) (hfree : CoreFree f.core s) (h : WordRuns .movFromSys f s) (hn : bits f.w.toNat 13 5 ≠ 18) :
    ∃ u, exec (.awlMovFromSysreg f) s = .next (settle (pump u)) ∧
      CoreAfter f.core s u (((s.core f.core).arch.rcPut (bits f.w.toNat 18 7) (if bits f.w.toNat 13 5 = 16 then f.fin.toNat else sysRead s f.core (bits f.w.toNat 13 5))).flagged {})
        (((s.core f.core).arch.pc + 4) % 2 ^ 32) (s.core f.core).arch.pc ∧ SameMem s u ∧ SameRegsBut [AWL_PC_PC.key (oAwl f.core)] s u := by
  obtain ⟨hfmt, hop⟩ := h.encoded
  refine ⟨_, finTaken_exec h, ?_⟩
  obtain ⟨x, hcore, -⟩ := finTaken_core f s
  have hread := sysRead_finTaken f s
  have hfree' := finTaken_free hfree
  have hruns' := finTaken_runs h
  have honly := finTaken_only f s
  obtain ⟨t, ht⟩ : ∃ t, t = finTaken f s := ⟨_, rfl⟩
  rw [← ht] at hcore hread hfree' hruns' honly ⊢
  clear ht
  have harch : (t.core f.core).arch = (s.core f.core).arch := by rw [hcore]
  have hdo : doWord f.core f.w.toNat f.w2.toNat t = _ := (doWord_mov hfmt (by omega)).trans (doMov_fromSys hop hfree'.loads)
  rw [if_neg hn, hread, harch] at hdo
  have hran := hruns'.done hfree' hdo hfree'.calm.steady (by rw [harch]; exact .of_sys h.2.2.2 fun k hk => Arch.rcPut_get_sys hk ..)
  rw [next_short (by omega), harch] at hran
  exact ⟨hran.coreAfter honly.other hfree'.loads, .of_mem (hran.mem.trans honly.mem), (SameRegsBut.of_regs honly.regs _).trans hran.regs⟩

theorem rcWidth_ge {d : Nat} (h : rcWidth d ≠ 0) : 8 ≤ rcWidth d := by
  unfold rcWidth at *
  split_ifs at * <;> omega

theorem legal_movFromSys (hfmt : bits w 29 3 = 2) (hop : bits w 25 4 = 8) {ipl : Nat} (h : legalWord w ipl = true) : rcWidth (bits w 18 7) ≠ 0 := by
  unfold legalWord at h
  simp only [hfmt, Bool.and_eq_true, legalMove, hop] at h
  obtain ⟨-, hmove⟩ := h
  simp at hmove
  exact hmove.1.2

theorem Arch.rcLoc_congr (h : b.get kQRB = a.get kQRB) (d : Nat) : b.rcLoc d = a.rcLoc d := by
  unfold Arch.rcLoc Arch.q
  rw [h]

/-- A move's destination holds, after the instruction, the part of the value that its width takes. -/
theorem Arch.rcGet_stepped (a : Arch) (d v next : Nat) (np : Option (Nat × Nat)) : (a0.stepped (a.rcPut d v) {} next np).rcGet d = v % 2 ^ rcWidth d := by
  have hlt := a.rcLoc_lt d
  have hget : ∀ k, k ≠ kPC → k ≠ kSR → (a0.stepped (a.rcPut d v) {} next np).get k = (a.rcPut d v).get k := fun k hk hsr => by
    rw [Arch.stepped_get hk, Arch.flagged, if_neg hsr]
  have hqrb : (a0.stepped (a.rcPut d v) {} next np).get kQRB = a.get kQRB := (hget _ (by decide) (by decide)).trans (Arch.rcPut_get_sys (by decide) ..)
  rw [Arch.rcGet, Arch.rcLoc_congr hqrb, hget _ (by unfold kPC; omega) (by unfold kSR; omega), Arch.rcPut, Arch.get_put_same, bits_putBits_same]

theorem movFromSys_takes (f : Fetch) (hfree : CoreFree f.core s) (h : WordRuns .movFromSys f s) (hn : bits f.w.toNat 13 5 = 18) :
    ∃ u, exec (.awlMovFromSysreg f) s = .next (settle (pump u)) ∧ (u.core f.core).msgq = (s.core f.core).msgq.drop 1 ∧
      (u.core f.core).arch.rcGet (bits f.w.toNat 18 7) % 2 ^ 8 = (s.core f.core).msgq.getD 0 0 % 2 ^ 8 ∧ SameMem s u := by
  obtain ⟨hfmt, hop⟩ := h.encoded
  have hsame : finTaken f s = s := if_neg (by omega)
  have hexec := finTaken_exec h
  rw [hsame] at hexec
  refine ⟨_, hexec, ?_⟩
  have hdo : doWord f.core f.w.toNat f.w2.toNat s = _ := (doWord_mov hfmt (by omega)).trans (doMov_fromSys hop hfree.loads)
  rw [if_pos hn, hn] at hdo
  have hsteady : CoreSteady f.core (s.modCore f.core fun k => { k with msgq := k.msgq.drop 1 }) :=
    CoreCalm.steady ⟨by rw [State.core_modCore]; exact hfree.calm.lk, by rw [State.core_modCore]; exact hfree.calm.stopping, by rw [State.core_modCore]; exact hfree.calm.wdPend, hfree.calm.entry⟩
  have hran := h.done hfree hdo hsteady (.of_sys h.2.2.2 fun k hk => Arch.rcPut_get_sys hk ..)
  rw [next_short (by omega)] at hran
  refine ⟨by rw [hran.core, Core.stepped, State.core_modCore], ?_, .of_mem hran.mem⟩
  have hwidth := rcWidth_ge (legal_movFromSys hfmt hop h.2.2.1)
  have hread : sysRead s f.core 18 = (s.core f.core).msgq.getD 0 0 := by simp [sysRead]
  have hpow : (2 : Nat) ^ 8 ∣ 2 ^ rcWidth (bits f.w.toNat 18 7) := Nat.pow_dvd_pow 2 hwidth
  rw [hran.core, Core.stepped, State.core_modCore]
  simp only
  rw [Arch.rcGet_stepped, Nat.mod_mod_of_dvd _ hpow, hread]

theorem doMov_imm (hop : bits w 25 4 = 9) : doMov c w s = .done ((s.core c).arch.rcPut (bits w 18 7)
    (if bits w 16 2 = 0 then sext 16 (rcWidth (bits w 18 7)) (bits w 0 16) else if bits w 16 2 = 1 then bits w 0 16 else bits w 0 16 * 65536 + (s.core c).arch.rcGet (bits w 18 7) % 65536)) {} none s := by
  simp only [doMov, hop]
  split
  · next h => rw [h]; rfl
  · next h => rw [h]; rfl
  · next h0 h1 => rw [if_neg h0, if_neg h1]

theorem movImm_runs (f : Fetch) (hfree : CoreFree f.core s) (h : WordRuns .movImm f s) : ∃ u, exec (.awlMovImm16 f) s = .next (settle (pump u)) ∧
    CoreAfter f.core s u (((s.core f.core).arch.rcPut (bits f.w.toNat 18 7)
      (if bits f.w.toNat 16 2 = 0 then sext 16 (rcWidth (bits f.w.toNat 18 7)) (bits f.w.toNat 0 16) else if bits f.w.toNat 16 2 = 1 then bits f.w.toNat 0 16
        else bits f.w.toNat 0 16 * 65536 + (s.core f.core).arch.rcGet (bits f.w.toNat 18 7) % 65536)).flagged {}) (((s.core f.core).arch.pc + 4) % 2 ^ 32) (s.core f.core).arch.pc ∧
      SameMem s u ∧ SameRegsBut [AWL_PC_PC.key (oAwl f.core)] s u := by
  obtain ⟨hfmt, hop⟩ := h.encoded
  exact h.keeps (by decide) hfree ((doWord_mov hfmt (by omega)).trans (doMov_imm hop)) (.of_sys h.2.2.2 fun k hk => Arch.rcPut_get_sys hk ..) (next_short (by omega) _)

theorem longImm_runs (f : Fetch) (hfree : CoreFree f.core s) (h : WordRuns .long f s) (hop : bits f.w.toNat 25 4 = 0) : ∃ u, exec (.awlLongImmediate f) s = .next (settle (pump u)) ∧
    CoreAfter f.core s u (((s.core f.core).arch.rcPut (bits f.w.toNat 18 7) (if rcWidth (bits f.w.toNat 18 7) = 40 then sext 32 40 f.w2.toNat else f.w2.toNat)).flagged {})
      (((s.core f.core).arch.pc + 8) % 2 ^ 32) (s.core f.core).arch.pc ∧ SameMem s u ∧ SameRegsBut [AWL_PC_PC.key (oAwl f.core)] s u := by
  obtain ⟨hfmt, -⟩ := h.encoded
  have hdo : doLong f.core f.w.toNat f.w2.toNat s =
      .done ((s.core f.core).arch.rcPut (bits f.w.toNat 18 7) (if rcWidth (bits f.w.toNat 18 7) = 40 then sext 32 40 f.w2.toNat else f.w2.toNat)) {} none s := by simp only [doLong, hop]
  exact h.keeps (by decide) hfree ((doWord_long hfmt).trans hdo) (.of_sys h.2.2.2 fun k hk => Arch.rcPut_get_sys hk ..) (next_long hfmt _)

theorem longAlu_runs (f : Fetch) (hfree : CoreFree f.core s) (h : WordRuns .long f s) (hop : bits f.w.toNat 25 4 = 1) {sz : Nat} (hsz : bits f.w.toNat 18 2 = sz) {r : Nat × Flg}
    (hr : aluOp (s.core f.core).arch.sr (bits f.w.toNat 20 5) sz ((s.core f.core).arch.opGet sz (bits f.w.toNat 8 5)) (if sz = 2 then sext 32 40 f.w2.toNat else f.w2.toNat) = r) :
    ∃ u, exec (.awlLongImmediate f) s = .next (settle (pump u)) ∧
      CoreAfter f.core s u ((if bits f.w.toNat 20 5 = 3 then (s.core f.core).arch else (s.core f.core).arch.opPut sz (bits f.w.toNat 13 5) r.1).flagged r.2)
        (((s.core f.core).arch.pc + 8) % 2 ^ 32) (s.core f.core).arch.pc ∧ SameMem s u := by
  obtain ⟨hfmt, -⟩ := h.encoded
  have hdo : doLong f.core f.w.toNat f.w2.toNat s =
      .done (if bits f.w.toNat 20 5 = 3 then (s.core f.core).arch else (s.core f.core).arch.opPut sz (bits f.w.toNat 13 5) r.1) r.2 none s := by simp only [doLong, hop, hsz, hr]
  have hsys : ∀ k, 100 ≤ k → (if bits f.w.toNat 20 5 = 3 then (s.core f.core).arch else (s.core f.core).arch.opPut sz (bits f.w.toNat 13 5) r.1).get k = (s.core f.core).arch.get k := by
    intro k hk
    split
    · rfl
    · exact Arch.opPut_get_sys (bits_lt ..) hk ..
  obtain ⟨u, hexec, hafter, hmem, -⟩ := h.keeps (by decide) hfree ((doWord_long hfmt).trans hdo) (.of_sys h.2.2.2 hsys) (next_long hfmt _)
  exact ⟨u, hexec, hafter, hmem⟩

theorem Arch.pointer_get_sys {k n : Nat} (hn : n < 8) (hk : 100 ≤ k) (a : Arch) (v : Nat) : (a.put (kP n) v).get k = a.get k := Arch.get_put_ne _ (by unfold kP; omega) _

theorem pmod_runs (f : Fetch) (hfree : CoreFree f.core s) (h : WordRuns .pmod f s) {n : Nat} (hn : bits f.w.toNat 23 3 = n) : ∃ u, exec (.awlPmod f) s = .next (settle (pump u)) ∧
    CoreAfter f.core s u (((s.core f.core).arch.put (kP n) ((s.core f.core).arch.pmod n
      (if bits f.w.toNat 26 3 = 0 then toS 32 ((s.core f.core).arch.get (kM (bits f.w.toNat 17 3))) else toS 16 (bits f.w.toNat 0 16)))).flagged {})
      (((s.core f.core).arch.pc + 4) % 2 ^ 32) (s.core f.core).arch.pc ∧ SameMem s u ∧ SameRegsBut [AWL_PC_PC.key (oAwl f.core)] s u := by
  obtain ⟨hfmt, hop⟩ := h.encoded
  have hlt : n < 8 := hn ▸ bits_lt ..
  have hdo : doPtr (s.core f.core).arch f.w.toNat = (s.core f.core).arch.put (kP n) ((s.core f.core).arch.pmod n
      (if bits f.w.toNat 26 3 = 0 then toS 32 ((s.core f.core).arch.get (kM (bits f.w.toNat 17 3))) else toS 16 (bits f.w.toNat 0 16))) := by
    rcases hop with hop | hop <;> simp only [doPtr, hop, hn] <;> rfl
  exact h.keeps (by decide) hfree ((doWord_ptr hfmt).trans (by rw [hdo])) (.of_sys h.2.2.2 fun k hk => Arch.pointer_get_sys hlt hk ..) (next_short (by omega) _)

theorem padd_runs (f : Fetch) (hfree : CoreFree f.core s) (h : WordRuns .padd f s) {n : Nat} (hn : bits f.w.toNat 23 3 = n) : ∃ u, exec (.awlPadd f) s = .next (settle (pump u)) ∧
    CoreAfter f.core s u (((s.core f.core).arch.put (kP n)
      (((s.core f.core).arch.get (kP (bits f.w.toNat 20 3)) + (s.core f.core).arch.get (kM (bits f.w.toNat 17 3))) % 2 ^ 32)).flagged {})
      (((s.core f.core).arch.pc + 4) % 2 ^ 32) (s.core f.core).arch.pc ∧ SameMem s u ∧ SameRegsBut [AWL_PC_PC.key (oAwl f.core)] s u := by
  obtain ⟨hfmt, hop⟩ := h.encoded
  have hlt : n < 8 := hn ▸ bits_lt ..
  have hdo : doPtr (s.core f.core).arch f.w.toNat = (s.core f.core).arch.put (kP n)
      (((s.core f.core).arch.get (kP (bits f.w.toNat 20 3)) + (s.core f.core).arch.get (kM (bits f.w.toNat 17 3))) % 2 ^ 32) := by
    simp only [doPtr, hop, hn]
  exact h.keeps (by decide) hfree ((doWord_ptr hfmt).trans (by rw [hdo])) (.of_sys h.2.2.2 fun k hk => Arch.pointer_get_sys hlt hk ..) (next_short (by omega) _)

theorem movToSys_runs (f : Fetch) (hfree : CoreFree f.core s) (h : WordRuns .movToSys f s) : ∃ u, exec (.awlMovToSysreg f) s = .next (settle (pump u)) ∧
    CoreAfter f.core s u ((s.core f.core).arch.flagged (({} : Flg).stick srLS ((s.core f.core).arch.movValue 0 (bits f.w.toNat 13 7)).2))
      (((s.core f.core).arch.pc + 4) % 2 ^ 32) (s.core f.core).arch.pc ∧
    (u.core f.core).arch.pend = some (bits f.w.toNat 20 5, ((s.core f.core).arch.movValue 0 (bits f.w.toNat 13 7)).1 % 2 ^ 32) ∧ SameMem s u ∧
      SameRegsBut [AWL_PC_PC.key (oAwl f.core)] s u := by
  obtain ⟨hfmt, hop⟩ := h.encoded
  obtain ⟨b, hb⟩ : ∃ b : Arch, b = { (s.core f.core).arch with pend := some (bits f.w.toNat 20 5, ((s.core f.core).arch.movValue 0 (bits f.w.toNat 13 7)).1 % 2 ^ 32) } := ⟨_, rfl⟩
  have hdo : doMov f.core f.w.toNat s = .done b (({} : Flg).stick srLS ((s.core f.core).arch.movValue 0 (bits f.w.toNat 13 7)).2) none s := by
    simp only [doMov, hop, hfree.loads, ne_eq, not_true_eq_false, false_and, if_false, hb]
  have hget : ∀ k, b.get k = (s.core f.core).arch.get k := fun k => by rw [hb]; rfl
  have hran := h.done hfree ((doWord_mov hfmt (by omega)).trans hdo) hfree.calm.steady (.of_sys h.2.2.2 fun k _ => hget k)
  rw [next_short (by omega)] at hran
  have hflag : b.flagged (({} : Flg).stick srLS ((s.core f.core).arch.movValue 0 (bits f.w.toNat 13 7)).2) =
      (s.core f.core).arch.flagged (({} : Flg).stick srLS ((s.core f.core).arch.movValue 0 (bits f.w.toNat 13 7)).2) := by
    funext k
    rw [Arch.flagged, Arch.flagged, Arch.sr, Arch.sr, hget, hget]
  have hafter := hran.coreAfter (s := s) (fun _ _ => rfl) hfree.loads
  rw [hflag] at hafter
  refine ⟨_, h.exec_eq (by decide), hafter, ?_, hran.sameMem, hran.regs⟩
  rw [hran.core, Core.stepped]
  change pendAfter f.w.toNat b = _
  rw [pendAfter, if_pos ⟨hfmt, hop⟩, hb]

/-- The instruction after a write of VBR: the write takes effect with its own. -/
theorem finish_vbr {v next : Nat} (hpend : a0.pend = some (2, v)) (hloop : atLoopEnd a0 a0.pc = false) (hbranch : isBranch w = false)
    (hnext : (a0.pc + 4 * wordsOf w) % 2 ^ 32 = next) (hnp : ¬ (bits w 29 3 = 2 ∧ bits w 25 4 = 7)) :
    CoreOnly c s (finish c w a0 a0 {} none s) ∧ ∃ b : Arch, (finish c w a0 a0 {} none s).core c =
        { s.core c with arch := b, loads := (s.core c).loads.map fun l => { l with young := l.young + 1 }, lk := (s.core c).lk.map fun win => windowStep a0 w win } ∧
      (∀ k, k ≠ kPC → b.get k = (a0.put kVBR (v / 256 * 256 % 2 ^ 32)).flagged {} k) ∧ b.pc = next ∧ b.last = a0.pc ∧ b.pend = none := by
  have hloop' : (if (none : Option Nat).isSome ∨ isBranch w = true then (a0, (none : Option Nat)) else loopEnd a0.pc a0) = (a0, none) := by
    rw [if_neg (by simp [hbranch]), loopEnd_of_not_end hloop]
  unfold finish
  extract_lets pc r next' newPend src t
  have hr : r = (a0, none) := hloop'
  have hnext' : next' = next := by simp only [next', hr]; exact hnext
  have hnew : newPend = none := if_neg hnp
  have ht : t = s.modArch c fun _ => (({ a0 with last := a0.pc } : Arch).put kSR (({} : Flg).apply a0.sr)).put kPC next := by
    simp only [t, src, hr, hnext']
    rfl
  clear_value t newPend
  obtain ⟨b, hb⟩ : ∃ b : Arch, b = (({ a0 with last := a0.pc } : Arch).put kSR (({} : Flg).apply a0.sr)).put kPC next := ⟨_, rfl⟩
  rw [← hb] at ht
  have hbpend : b.pend = some (2, v) := by rw [hb, Arch.put_pend, Arch.put_pend]; exact hpend
  have hblast : b.last = a0.pc := by rw [hb, Arch.put_last, Arch.put_last]
  have hbpc : b.pc = next := by rw [hb]; exact Arch.get_put_same ..
  have hbget : ∀ k, k ≠ kPC → b.get k = a0.flagged {} k := by
    intro k hk
    rw [hb, Arch.get_put_ne _ hk, Arch.get_put, Arch.flagged]
    rfl
  have htcore : t.core c = { s.core c with arch := b } := by rw [ht, State.core_modArch]
  have hflush : sysFlush c {} t = (t.modArch c fun a => { a with pend := none }).modArch c fun a => a.put kVBR (v / 256 * 256 % 2 ^ 32) := by
    have hp : (t.core c).arch.pend = some (2, v) := by rw [htcore]; exact hbpend
    unfold sysFlush
    simp only [hp]
    simp [sysEffect]
  rw [hflush]
  refine ⟨?_, { ({ b with pend := none } : Arch).put kVBR (v / 256 * 256 % 2 ^ 32) with pend := none }, ?_, fun k hk => ?_, ?_, ?_, rfl⟩
  · rw [ht]
    exact (((CoreOnly.modArch _).trans (.modArch _)).trans (.modArch _)).trans (.modCore _)
  · rw [State.core_modCore, State.core_modArch, State.core_modArch, htcore, hnew]
  · change (({ b with pend := none } : Arch).put kVBR (v / 256 * 256 % 2 ^ 32)).get k = _
    have hsr : (a0.put kVBR (v / 256 * 256 % 2 ^ 32)).sr = a0.sr := Arch.get_put_ne _ (by decide) _
    rw [Arch.get_put, Arch.flagged, Arch.get_put, hsr]
    by_cases hv : k = kVBR
    · have hns : k ≠ kSR := by rw [hv]; decide
      rw [if_pos hv, if_neg hns, if_pos hv]
    · rw [if_neg hv, if_neg hv]
      exact hbget k hk
  · change (({ b with pend := none } : Arch).put kVBR (v / 256 * 256 % 2 ^ 32)).get kPC = next
    rw [Arch.get_put_ne _ (by decide)]
    exact hbpc
  · exact hblast

theorem vbr_takes (f : Fetch) {v : Nat} (hquiet : CoreQuiet f.core s) (hpend : (s.core f.core).arch.pend = some (2, v)) (h : WordRuns .nop f s) :
    ∃ u, exec (.awlNop f) s = .next (settle (pump u)) ∧ (u.core f.core).arch.pend = none ∧
      CoreAfter f.core s u (((s.core f.core).arch.put kVBR (v / 256 * 256 % 2 ^ 32)).flagged {}) (((s.core f.core).arch.pc + 4) % 2 ^ 32) (s.core f.core).arch.pc ∧ SameMem s u := by
  obtain ⟨hfmt, hop⟩ := h.encoded
  obtain ⟨-, herr, hlegal, hend⟩ := id h
  have hdo : doWord f.core f.w.toNat f.w2.toNat s = _ := (doWord_sys hfmt).trans (doSys_nop hop)
  refine ⟨_, h.exec_eq (by decide), ?_⟩
  rw [hquiet.step_eq herr hlegal hend, hdo, Did.outcome]
  obtain ⟨honly, b, hfin, hget, hpc, hlast, hnone⟩ := finish_vbr (c := f.core) (s := s) (w := f.w.toNat) hpend hend (by simp [isBranch, hfmt]) (by rw [wordsOf_short (by omega)]) (by omega)
  obtain ⟨-, hstop, hlk, hloads, -, -, hwd, hentry⟩ := hquiet
  obtain ⟨t, ht⟩ : ∃ t, t = finish f.core f.w.toNat (s.core f.core).arch (s.core f.core).arch {} none s := ⟨_, rfl⟩
  rw [← ht] at honly hfin ⊢
  have htl : (t.core f.core).loads = [] := by rw [hfin, hloads]; rfl
  rw [afterward_of_still (endWindow_of_left (by rw [hfin, hlk]; nofun)) (by rw [hfin]; exact hstop) (by rw [hfin]; exact hwd) (by rw [honly.dbg]; exact hentry)]
  have harch : ((showPc f.core t).core f.core).arch = b := by rw [showPc_core, hfin]
  refine ⟨by rw [harch, hnone], ⟨fun k hk => by rw [harch]; exact hget k hk, by rw [harch]; exact hpc, ?_, fun j hj => by rw [showPc_core]; exact honly.other j hj⟩, .of_mem honly.mem⟩
  unfold showPc
  simp only [htl]
  rw [State.rdi_wri_same, hfin]
  exact congrArg (· % 2 ^ 32) hlast
end

/-- Settles O39: a move, an immediate and a pointer operation write the register that the word names; a system register takes its value after the instruction that follows. -/
theorem movesAndPointers : Obligations.MovesAndPointers := by
  unfold Obligations.MovesAndPointers
  refine ⟨?_, ?_, ?_, ?_, ?_, ?_, ?_, ?_, ?_, ?_⟩
  · rintro f s w a rfl rfl hfree h
    exact mov_runs f hfree h
  · rintro f s w a rfl rfl hfree h hn
    exact movFromSys_runs f hfree h hn
  · rintro f s w rfl hfree h hn
    exact movFromSys_takes f hfree h hn
  · rintro f s w d v a rfl rfl rfl hfree h rfl
    exact movImm_runs f hfree h
  · rintro f s w a rfl rfl hfree h hop
    exact longImm_runs f hfree h hop
  · rintro f s w sz r a rfl hsz rfl hfree h hop hr
    exact longAlu_runs f hfree h hop hsz hr
  · rintro f s w n a rfl hn rfl hfree h
    exact pmod_runs f hfree h hn
  · rintro f s w n a rfl hn rfl hfree h
    exact padd_runs f hfree h hn
  · rintro f s w a rfl rfl hfree h
    exact movToSys_runs f hfree h
  · rintro f s v a rfl hquiet hpend h
    exact vbr_takes f hquiet hpend h
end Sys2Proof.Machine

namespace Sys2Proof.Machine

set_option Elab.async false

/-! Branches and loops (R224, R232, R274, R275, R279) -/

section
variable {s t u : State} {c w w2 : Nat} {a a0 b : Arch} {fl : Flg}

theorem isBranch_short (hfmt : bits w 29 3 = 4) : isBranch w = true := by simp [isBranch, hfmt]

theorem isBranch_long (hfmt : bits w 29 3 = 6) (hop : 2 ≤ bits w 25 4) : isBranch w = true := by simp [isBranch, hfmt, hop]

theorem br_runs (f : Fetch) (hfree : CoreFree f.core s) (h : WordRuns .br f s) : ∃ u, exec (.awlBr f) s = .next (settle (pump u)) ∧
    CoreAfter f.core s u ((s.core f.core).arch.flagged {}) (if bit f.w.toNat 25 = 1 then (s.core f.core).arch.get (bits f.w.toNat 21 4) / 4 * 4
      else ofS 32 (((s.core f.core).arch.pc : Int) + 4 * toS 25 (bits f.w.toNat 0 25))) (s.core f.core).arch.pc ∧
      SameMem s u ∧ SameRegsBut [AWL_PC_PC.key (oAwl f.core)] s u := by
  obtain ⟨hfmt, hop⟩ := h.encoded
  have hdo : doBranch f.core f.w.toNat s = .done (s.core f.core).arch {} (some (if bit f.w.toNat 25 = 1 then (s.core f.core).arch.get (bits f.w.toNat 21 4) / 4 * 4
      else branchTo (s.core f.core).arch.pc (simm (bits f.w.toNat 0 25) 25))) s := by simp only [doBranch, hop]
  exact h.keeps (by decide) hfree ((doWord_branch hfmt).trans hdo) (.inl rfl) rfl

theorem brc_runs (f : Fetch) (hfree : CoreFree f.core s) (h : WordRuns .brc f s) : ∃ u, exec (.awlBrc f) s = .next (settle (pump u)) ∧
    CoreAfter f.core s u ((s.core f.core).arch.flagged {}) (if condHolds (bits f.w.toNat 22 4) (s.core f.core).arch.sr
      then ofS 32 (((s.core f.core).arch.pc : Int) + 4 * toS 22 (bits f.w.toNat 0 22)) else ((s.core f.core).arch.pc + 4) % 2 ^ 32) (s.core f.core).arch.pc ∧
      SameMem s u ∧ SameRegsBut [AWL_PC_PC.key (oAwl f.core)] s u := by
  obtain ⟨hfmt, hop⟩ := h.encoded
  have hdo : doBranch f.core f.w.toNat s = .done (s.core f.core).arch {} (if condHolds (bits f.w.toNat 22 4) (s.core f.core).arch.sr
      then some (branchTo (s.core f.core).arch.pc (simm (bits f.w.toNat 0 22) 22)) else none) s := by simp only [doBranch, hop]
  refine h.keeps (by decide) hfree ((doWord_branch hfmt).trans hdo) (.inr (.inl (isBranch_short hfmt))) ?_
  rw [wordsOf_short (by omega)]
  split <;> rfl

theorem call_runs (f : Fetch) (hfree : CoreFree f.core s) (h : WordRuns .call f s) : ∃ u, exec (.awlCall f) s = .next (settle (pump u)) ∧
    CoreAfter f.core s u (((s.core f.core).arch.put 15 (((s.core f.core).arch.pc + 4) % 2 ^ 32)).flagged {}) (if bit f.w.toNat 25 = 1
      then (s.core f.core).arch.get (bits f.w.toNat 21 4) / 4 * 4 else ofS 32 (((s.core f.core).arch.pc : Int) + 4 * toS 25 (bits f.w.toNat 0 25))) (s.core f.core).arch.pc ∧
      SameMem s u := by
  obtain ⟨hfmt, hop⟩ := h.encoded
  have hdo : doBranch f.core f.w.toNat s = .done ((s.core f.core).arch.put 15 (((s.core f.core).arch.pc + 4) % 2 ^ 32)) {}
      (some (if bit f.w.toNat 25 = 1 then (s.core f.core).arch.get (bits f.w.toNat 21 4) / 4 * 4
        else branchTo (s.core f.core).arch.pc (simm (bits f.w.toNat 0 25) 25))) s := by simp only [doBranch, hop]
  obtain ⟨u, hexec, hafter, hmem, -⟩ := h.keeps (by decide) hfree ((doWord_branch hfmt).trans hdo) (.inl rfl) rfl
  exact ⟨u, hexec, hafter, hmem⟩

theorem ret_runs (f : Fetch) (hfree : CoreFree f.core s) (h : WordRuns .ret f s) : ∃ u, exec (.awlRet f) s = .next (settle (pump u)) ∧
    CoreAfter f.core s u ((s.core f.core).arch.flagged {}) ((s.core f.core).arch.get (bits f.w.toNat 22 4) / 4 * 4) (s.core f.core).arch.pc ∧ SameMem s u := by
  obtain ⟨hfmt, hop⟩ := h.encoded
  have hdo : doBranch f.core f.w.toNat s = .done (s.core f.core).arch {} (some ((s.core f.core).arch.get (bits f.w.toNat 22 4) / 4 * 4)) s := by simp only [doBranch, hop]
  obtain ⟨u, hexec, hafter, hmem, -⟩ := h.keeps (by decide) hfree ((doWord_branch hfmt).trans hdo) (.inl rfl) rfl
  exact ⟨u, hexec, hafter, hmem⟩

theorem rti_runs (f : Fetch) (hfree : CoreFree f.core s) (h : WordRuns .rti f s) (hipl : (s.core f.core).arch.ipl ≠ 5) : ∃ u, exec (.awlRti f) s = .next (settle (pump u)) ∧
    CoreAfter f.core s u (((s.core f.core).arch.put kSR ((s.core f.core).arch.get (kRSR (s.core f.core).arch.ipl))).flagged {})
      ((s.core f.core).arch.get (kRPC (s.core f.core).arch.ipl) / 4 * 4) (s.core f.core).arch.pc ∧ SameMem s u ∧ SameRegsBut [AWL_PC_PC.key (oAwl f.core)] s u := by
  obtain ⟨hfmt, hop⟩ := h.encoded
  have hdo : doBranch f.core f.w.toNat s = .done ((s.core f.core).arch.put kSR ((s.core f.core).arch.get (kRSR (s.core f.core).arch.ipl))) {}
      (some ((s.core f.core).arch.get (kRPC (s.core f.core).arch.ipl) / 4 * 4)) s := by simp only [doBranch, hop, hipl, if_false]
  exact h.keeps (by decide) hfree ((doWord_branch hfmt).trans hdo) (.inl rfl) rfl

theorem doLoop_opens {count le next : Nat} (hcount : count ≠ 0) (hdepth : (s.core c).arch.ldepth < 2) : doLoop c count le next s =
    .done (((((s.core c).arch.put (kLC ((s.core c).arch.ldepth == 0)) count).put (kLS ((s.core c).arch.ldepth == 0)) next).put (kLE ((s.core c).arch.ldepth == 0)) le).srPut 20 2
      ((s.core c).arch.ldepth + 1)) {} none s := by
  unfold doLoop
  extract_lets a
  rw [if_neg (by simpa [a] using hdepth), if_neg hcount]

theorem doLoop_skips {le next : Nat} (hdepth : (s.core c).arch.ldepth < 2) : doLoop c 0 le next s =
    .done (s.core c).arch {} (some ((le + 4 * wordsOf (s.rdMem 4 ((s.core c).arch.get kPSEG * 2 ^ 32 + le))) % 2 ^ 32)) s := by
  unfold doLoop
  extract_lets a
  rw [if_neg (by simpa [a] using hdepth), if_pos rfl]

theorem doLoop_raises {count le next : Nat} (hdepth : 2 ≤ (s.core c).arch.ldepth) : doLoop c count le next s = .raised 5 s := by
  unfold doLoop
  extract_lets a
  rw [if_pos (by simpa [a] using hdepth)]

/-- The loop that a short word opens: its count, its end and its first word. -/
theorem doBranch_loop (hop : bits w 26 3 = 5 ∨ bits w 26 3 = 6) : doBranch c w s =
    doLoop c (if bits w 26 3 = 5 then bits w 14 12 else (s.core c).arch.get (bits w 22 4)) (branchTo (s.core c).arch.pc (bits w 0 14)) (((s.core c).arch.pc + 4) % 2 ^ 32) s := by
  rcases hop with hop | hop <;> simp [doBranch, hop]

theorem loop_opens (f : Fetch) (hfree : CoreFree f.core s) (h : WordRuns .loop f s) {count : Nat}
    (hcount : (if bits f.w.toNat 26 3 = 5 then bits f.w.toNat 14 12 else (s.core f.core).arch.get (bits f.w.toNat 22 4)) = count) (hne : count ≠ 0)
    (hdepth : (s.core f.core).arch.ldepth < 2) : ∃ u, exec (.awlLoop f) s = .next (settle (pump u)) ∧
    CoreAfter f.core s u ((((((s.core f.core).arch.put (kLC ((s.core f.core).arch.ldepth == 0)) count).put (kLS ((s.core f.core).arch.ldepth == 0))
      (((s.core f.core).arch.pc + 4) % 2 ^ 32)).put (kLE ((s.core f.core).arch.ldepth == 0)) (ofS 32 (((s.core f.core).arch.pc : Int) + 4 * (bits f.w.toNat 0 14 : Nat)))).srPut 20 2
      ((s.core f.core).arch.ldepth + 1)).flagged {}) (((s.core f.core).arch.pc + 4) % 2 ^ 32) (s.core f.core).arch.pc ∧ SameMem s u := by
  obtain ⟨hfmt, hop⟩ := h.encoded
  have hdo := (doWord_branch (c := f.core) (s := s) (w2 := f.w2.toNat) hfmt).trans ((doBranch_loop hop).trans (by rw [hcount, doLoop_opens hne hdepth]))
  obtain ⟨u, hexec, hafter, hmem, -⟩ := h.keeps (by decide) hfree hdo (.inr (.inl (isBranch_short hfmt))) (next_short (by omega) _)
  exact ⟨u, hexec, hafter, hmem⟩

theorem loop_skips (f : Fetch) (hfree : CoreFree f.core s) (h : WordRuns .loop f s)
    (hcount : (if bits f.w.toNat 26 3 = 5 then bits f.w.toNat 14 12 else (s.core f.core).arch.get (bits f.w.toNat 22 4)) = 0) (hdepth : (s.core f.core).arch.ldepth < 2) {le : Nat}
    (hle : ofS 32 (((s.core f.core).arch.pc : Int) + 4 * (bits f.w.toNat 0 14 : Nat)) = le) : ∃ u, exec (.awlLoop f) s = .next (settle (pump u)) ∧
    CoreAfter f.core s u ((s.core f.core).arch.flagged {}) ((le + 4 * wordsOf (s.rdMem 4 ((s.core f.core).arch.get kPSEG * 2 ^ 32 + le))) % 2 ^ 32) (s.core f.core).arch.pc ∧
      SameMem s u := by
  obtain ⟨hfmt, hop⟩ := h.encoded
  have hle' : branchTo (s.core f.core).arch.pc (bits f.w.toNat 0 14) = le := hle
  have hdo := (doWord_branch (c := f.core) (s := s) (w2 := f.w2.toNat) hfmt).trans ((doBranch_loop hop).trans (by rw [hcount, hle', doLoop_skips hdepth]))
  obtain ⟨u, hexec, hafter, hmem, -⟩ := h.keeps (by decide) hfree hdo (.inl rfl) rfl
  exact ⟨u, hexec, hafter, hmem⟩

theorem loop_raises (f : Fetch) (hfree : CoreFree f.core s) (h : WordRuns .loop f s) (hdepth : 2 ≤ (s.core f.core).arch.ldepth) (hipl : (s.core f.core).arch.ipl < 4)
    (hses : inSession s f.core = false) : ∃ u, exec (.awlLoop f) s = .next (settle (pump u)) ∧
    CoreAfter f.core s u ((s.core f.core).arch.raised 5 (s.core f.core).arch.pc) (vector s f.core 5) (s.core f.core).arch.last ∧ SameMem s u := by
  obtain ⟨hfmt, hop⟩ := h.encoded
  have hdo := (doWord_branch (c := f.core) (s := s) (w2 := f.w2.toNat) hfmt).trans ((doBranch_loop hop).trans (by rw [doLoop_raises hdepth]))
  refine ⟨_, h.exec_eq (by decide), ?_⟩
  rw [h.step_eq hfree, hdo, Did.outcome, if_neg (by decide)]
  have hraised := awlRaise_raised (n := 5) hfree.calm.lk hipl hses hfree.2 hfree.loads
  exact ⟨hraised.coreAfter fun _ _ => rfl, .of_mem hraised.mem⟩

theorem longBranch_runs (f : Fetch) (hfree : CoreFree f.core s) (h : WordRuns .long f s) (hop : bits f.w.toNat 25 4 = 2) : ∃ u, exec (.awlLongImmediate f) s = .next (settle (pump u)) ∧
    CoreAfter f.core s u ((if bit f.w.toNat 24 = 1 then (s.core f.core).arch.put 15 (((s.core f.core).arch.pc + 8) % 2 ^ 32) else (s.core f.core).arch).flagged {})
      (f.w2.toNat / 4 * 4) (s.core f.core).arch.pc ∧ SameMem s u := by
  obtain ⟨hfmt, -⟩ := h.encoded
  have hdo : doLong f.core f.w.toNat f.w2.toNat s = .done (if bit f.w.toNat 24 = 1 then (s.core f.core).arch.put 15 (((s.core f.core).arch.pc + 8) % 2 ^ 32) else (s.core f.core).arch) {}
      (some (f.w2.toNat / 4 * 4)) s := by simp only [doLong, hop]
  obtain ⟨u, hexec, hafter, hmem, -⟩ := h.keeps (by decide) hfree ((doWord_long hfmt).trans hdo) (.inl rfl) rfl
  exact ⟨u, hexec, hafter, hmem⟩

theorem longBrc_runs (f : Fetch) (hfree : CoreFree f.core s) (h : WordRuns .long f s) (hop : bits f.w.toNat 25 4 = 3) : ∃ u, exec (.awlLongImmediate f) s = .next (settle (pump u)) ∧
    CoreAfter f.core s u ((s.core f.core).arch.flagged {}) (if condHolds (bits f.w.toNat 21 4) (s.core f.core).arch.sr then f.w2.toNat / 4 * 4
      else ((s.core f.core).arch.pc + 8) % 2 ^ 32) (s.core f.core).arch.pc ∧ SameMem s u := by
  obtain ⟨hfmt, -⟩ := h.encoded
  have hdo : doLong f.core f.w.toNat f.w2.toNat s = .done (s.core f.core).arch {} (if condHolds (bits f.w.toNat 21 4) (s.core f.core).arch.sr then some (f.w2.toNat / 4 * 4) else none) s := by
    simp only [doLong, hop]
  obtain ⟨u, hexec, hafter, hmem, -⟩ := h.keeps (by decide) hfree ((doWord_long hfmt).trans hdo) (.inr (.inl (isBranch_long hfmt (by omega))))
    (next := if condHolds (bits f.w.toNat 21 4) (s.core f.core).arch.sr then f.w2.toNat / 4 * 4 else ((s.core f.core).arch.pc + 8) % 2 ^ 32) (by
      rw [wordsOf_long hfmt]
      split <;> rfl)
  exact ⟨u, hexec, hafter, hmem⟩

theorem longLoop_opens (f : Fetch) (hfree : CoreFree f.core s) (h : WordRuns .long f s) (hop : bits f.w.toNat 25 4 = 4) (hne : f.w2.toNat ≠ 0)
    (hdepth : (s.core f.core).arch.ldepth < 2) : ∃ u, exec (.awlLongImmediate f) s = .next (settle (pump u)) ∧
    CoreAfter f.core s u ((((((s.core f.core).arch.put (kLC ((s.core f.core).arch.ldepth == 0)) f.w2.toNat).put (kLS ((s.core f.core).arch.ldepth == 0))
      (((s.core f.core).arch.pc + 8) % 2 ^ 32)).put (kLE ((s.core f.core).arch.ldepth == 0)) (ofS 32 (((s.core f.core).arch.pc : Int) + 4 * (bits f.w.toNat 0 14 : Nat)))).srPut 20 2
      ((s.core f.core).arch.ldepth + 1)).flagged {}) (((s.core f.core).arch.pc + 8) % 2 ^ 32) (s.core f.core).arch.pc ∧ SameMem s u := by
  obtain ⟨hfmt, -⟩ := h.encoded
  have hloop : doLong f.core f.w.toNat f.w2.toNat s =
      doLoop f.core f.w2.toNat (branchTo (s.core f.core).arch.pc (bits f.w.toNat 0 14)) (((s.core f.core).arch.pc + 8) % 2 ^ 32) s := by simp only [doLong, hop]
  have hdo := (doWord_long (c := f.core) (s := s) (w2 := f.w2.toNat) hfmt).trans (hloop.trans (doLoop_opens hne hdepth))
  obtain ⟨u, hexec, hafter, hmem, -⟩ := h.keeps (by decide) hfree hdo (.inr (.inl (isBranch_long hfmt (by omega)))) (next_long hfmt _)
  exact ⟨u, hexec, hafter, hmem⟩

/-- The end of a session: the core keeps all but its watchdog time, and is in no session. -/
theorem endSession_spec (grace : Bool) (c : Nat) (s : State) : (∃ at_, (endSession grace c s).core c = { s.core c with wdAt := at_ }) ∧
    (∀ j, j ≠ c → (endSession grace c s).core j = s.core j) ∧ (endSession grace c s).mem = s.mem ∧ (endSession grace c s).dbg.pend = s.dbg.pend ∧
    inSession (endSession grace c s) c = false := by
  unfold endSession
  split
  · next hses =>
    extract_lets held t u v src
    have ht : (∃ at_, t.core c = { s.core c with wdAt := at_ }) ∧ (∀ j, j ≠ c → t.core j = s.core j) ∧ t.mem = s.mem ∧ t.dbg = s.dbg := by
      refine ⟨wdSettle_core c s, fun j hj => ?_, rfl, rfl⟩
      simp only [t, wdSettle]
      rw [State.core_modCore_ne _ _ _ hj, State.core_wri]
    clear_value t
    have hu : u.cores = t.cores ∧ u.mem = t.mem ∧ u.dbg = t.dbg := by
      simp only [u]
      split <;> exact ⟨rfl, rfl, rfl⟩
    clear_value u
    obtain ⟨⟨at_, hcore⟩, hother, hmem, hdbg⟩ := ht
    obtain ⟨hcores, hmem', hdbg'⟩ := hu
    have hpend : u.dbg.pend = s.dbg.pend := congrArg Dbg.pend (hdbg'.trans hdbg)
    refine ⟨⟨at_, (State.core_of_cores hcores c).trans hcore⟩, fun j hj => (State.core_of_cores hcores j).trans (hother j hj), hmem'.trans hmem, hpend, ?_⟩
    have hmon : v.rdi DBG_STAT_MON (oDbg c) = 0 := State.rdi_wri_same ..
    exact beq_false_of_ne fun h => absurd (hmon.symm.trans h) (by decide)
  · next hses => exact ⟨⟨_, rfl⟩, fun _ _ => rfl, rfl, rfl, by simpa using hses⟩

theorem rti_leaves (f : Fetch) (hfree : CoreFree f.core s) (h : WordRuns .rti f s) (hipl : (s.core f.core).arch.ipl = 5) :
    ∃ u, exec (.awlRti f) s = .next (settle (pump u)) ∧
      CoreAfter f.core s u (((s.core f.core).arch.put kSR ((s.core f.core).arch.get (kRSR 5))).flagged {}) ((s.core f.core).arch.get (kRPC 5) / 4 * 4) (s.core f.core).arch.pc ∧
      inSession u f.core = false ∧ SameMem s u := by
  obtain ⟨hfmt, hop⟩ := h.encoded
  have hdo : doBranch f.core f.w.toNat s = .done ((s.core f.core).arch.put kSR ((s.core f.core).arch.get (kRSR 5))) {}
      (some ((s.core f.core).arch.get (kRPC 5) / 4 * 4)) (endSession true f.core s) := by
    simp [doBranch, hop, hipl, hfree.loads]
  obtain ⟨⟨at_, hcore⟩, hother, hmem, hentry, hout⟩ := endSession_spec true f.core s
  obtain ⟨t, ht⟩ : ∃ t, t = endSession true f.core s := ⟨_, rfl⟩
  rw [← ht] at hdo hcore hother hmem hentry hout
  have hran := h.done hfree ((doWord_branch hfmt).trans hdo) (CoreCalm.steady ⟨by rw [hcore]; exact hfree.calm.lk, by rw [hcore]; exact hfree.calm.stopping,
    by rw [hcore]; exact hfree.calm.wdPend, by rw [hentry]; exact hfree.calm.entry⟩) (.inl rfl)
  refine ⟨_, h.exec_eq (by decide), hran.coreAfter hother (by rw [hcore]; exact hfree.loads), ?_, .of_mem (hran.mem.trans hmem)⟩
  rw [inSession, hran.regs _ _ (by rw [List.mem_singleton]; exact Fld.key_ne_of_lo (by decide) (by decide) (by decide) _ _)]
  exact hout
end

/-- Settles O40: a branch, a call, a return and a loop name the next word, and write the link, SR and the loop's registers. -/
theorem branches : Obligations.Branches := by
  unfold Obligations.Branches
  refine ⟨?_, ?_, ?_, ?_, ?_, ?_, ?_, ?_, ?_, ?_, ?_, ?_⟩
  · rintro f s w a rfl rfl hfree h
    exact br_runs f hfree h
  · rintro f s w a rfl rfl hfree h
    exact brc_runs f hfree h
  · rintro f s w a rfl rfl hfree h
    exact call_runs f hfree h
  · rintro f s w a rfl rfl hfree h
    exact ret_runs f hfree h
  · rintro f s a rfl hfree h hipl
    exact rti_runs f hfree h hipl
  · rintro f s a rfl hfree h hipl -
    exact rti_leaves f hfree h hipl
  · rintro f s w count a rfl rfl hfree h hcount hne hdepth
    exact loop_opens f hfree h hcount hne hdepth
  · rintro f s w le a rfl rfl hfree h hcount hdepth hle
    exact loop_skips f hfree h hcount hdepth hle
  · rintro f s a rfl hfree h hdepth hipl hses
    exact loop_raises f hfree h hdepth hipl hses
  · rintro f s w a rfl rfl hfree h hop
    exact longBranch_runs f hfree h hop
  · rintro f s w a rfl rfl hfree h hop
    exact longBrc_runs f hfree h hop
  · rintro f s w a rfl rfl hfree h hop hne hdepth
    exact longLoop_opens f hfree h hop hne hdepth
end Sys2Proof.Machine

namespace Sys2Proof.Machine

set_option Elab.async false

/-! Loads and stores (R225, R227, R236, R269, R270) -/

section
variable {s t u : State} {c w w2 : Nat} {a a0 b : Arch} {fl : Flg}

/-- The number that `n` bytes of memory make, added byte by byte. -/
theorem rdMem_eq_sum (s : State) (n base : Nat) : (List.range n).foldl (fun m i => m + s.rdByte (base + i) * 256 ^ i) 0 = s.rdMem n base := by
  have hbyte : (List.range n).foldl (fun m i => m + s.rdByte (base + i) * 256 ^ i) 0 = (List.range n).foldl (fun m i => m + byteOf (s.rdMem n base) i * 256 ^ i) 0 :=
    List.foldl_ext _ _ _ fun m i hi => by rw [byteOf, byte_rdMem s n base (List.mem_range.1 hi)]
  rw [hbyte, byteSum, Nat.mod_eq_of_lt (rdMem_lt ..)]

/-- Bytes stored one by one are one store. -/
theorem wrMem_eq_bytes (n base v : Nat) (s : State) : (List.range n).foldl (fun s i => s.wrByte (base + i) (byteOf v i)) s = s.wrMem n base v := by
  induction n generalizing base v s with
  | zero => rfl
  | succ n ih =>
    rw [List.range_succ_eq_map, List.foldl_cons, List.foldl_map, State.wrMem, ← ih]
    refine congr (congrArg₂ List.foldl ?_ ?_) rfl
    · funext u i
      rw [byteOf, byteOf, Nat.succ_eq_add_one, Nat.pow_succ', ← Nat.div_div_eq_div_mul, Nat.add_right_comm, Nat.add_assoc]
    · rw [byteOf, Nat.pow_zero, Nat.div_one]
      rfl

/-- A size of an access: a power of two that divides the 64 KiB of a memory. -/
theorem accessSize_dvd (w : Nat) : accessSize w ∣ 65536 := by
  have h := bits_lt w 23 2
  have hcases : bits w 23 2 = 0 ∨ bits w 23 2 = 1 ∨ bits w 23 2 = 2 ∨ bits w 23 2 = 3 := by omega
  unfold accessSize
  rcases hcases with h | h | h | h <;> rw [h] <;> decide

theorem aligned_fits {n ad : Nat} (hn : n ∣ 65536) (ha : ad % 65536 % n = 0) {i : Nat} (hi : i < n) : (ad % 65536 + i) % 65536 = ad % 65536 + i := by
  obtain ⟨k, hk⟩ := hn
  obtain ⟨j, hj⟩ := Nat.dvd_of_mod_eq_zero ha
  have hlt : ad % 65536 < 65536 := Nat.mod_lt _ (by decide)
  have hjk : j < k := Nat.lt_of_mul_lt_mul_left (a := n) (by omega)
  have hle : n * (j + 1) ≤ n * k := Nat.mul_le_mul_left n hjk
  rw [Nat.mul_add] at hle
  exact Nat.mod_eq_of_lt (by omega)

theorem xyAddr_mod (c : Nat) (y : Bool) (ad : Nat) : xyAddr c y (ad % 65536) = xyAddr c y ad := by
  unfold xyAddr
  rw [Nat.mod_mod]

theorem xyAddr_add {n ad i : Nat} (hn : n ∣ 65536) (ha : ad % 65536 % n = 0) (hi : i < n) (c : Nat) (y : Bool) :
    xyAddr c y (ad % 65536 + i) = xyAddr c y ad + i := by
  unfold xyAddr
  rw [aligned_fits hn ha hi]
  exact (Nat.add_assoc _ _ _).symm

theorem xyRead_eq {n ad : Nat} (hn : n ∣ 65536) (ha : ad % 65536 % n = 0) (c : Nat) (y : Bool) (s : State) :
    xyRead s c [] y (ad % 65536) n = s.rdMem n (xyAddr c y ad) := by
  unfold xyRead
  rw [← rdMem_eq_sum]
  refine List.foldl_ext _ _ _ fun m i hi => ?_
  simp only [List.foldl_nil]
  rw [aligned_fits hn ha (List.mem_range.1 hi), xyAddr_add hn ha (List.mem_range.1 hi)]

theorem xyCheck_aligned {y load : Bool} {ad n : Nat} (h : xyCheck s c y load ad n = none) : ad % n = 0 := by
  unfold xyCheck at h
  by_contra hne
  rw [if_pos hne] at h
  cases h

theorem doXy_loads {y : Bool} {ad p : Nat} (hacc : accessAddr (s.core c).arch w (accessSize w) = (ad, p)) (hawake : xyAsleep s c y = false)
    (hcheck : xyCheck s c y true (ad % 65536) (accessSize w) = none) (hmark : xyMark s c y (ad % 65536) = 0) (hsbuf : (s.core c).sbuf = []) :
    doXy c w y false s = .done (fillReg (loadDest (s.core c).arch w) (s.rdMem (accessSize w) (xyAddr c y ad)) ((s.core c).arch.put (kP (bits w 14 3)) p)) {} none s := by
  have hread := xyRead_eq (accessSize_dvd w) (xyCheck_aligned hcheck) c y s
  have hcorr : xyCorrected c y (ad % 65536) s = s := if_neg (by rw [hmark]; decide)
  unfold doXy
  simp only [hacc, hawake, hsbuf, Bool.false_and, Bool.not_false, hcheck, hread, hcorr, Bool.false_eq_true, if_false]

theorem fillReg_get_sys {k : Nat} (hk : 100 ≤ k) (w v : Nat) (a b : Arch) : (fillReg (loadDest a w) v b).get k = b.get k := by
  have hr := bits_lt w 18 5
  unfold loadDest
  extract_lets r
  have hr' : r < 32 := hr
  split
  · unfold fillReg
    have hq := Nat.mod_lt (r + a.get kQRB) (show 0 < 32 by decide)
    rw [if_neg (by omega), if_neg (by omega), if_neg (by omega)]
    exact Arch.get_put_ne _ (by unfold kQ; omega) _
  · unfold fillReg
    split
    · rw [if_pos (by omega)]
      exact Arch.opPut_get_sys hr' hk ..
    · rw [if_neg (by omega), if_pos (by omega)]
      exact Arch.get_put_ne _ (by omega) _
    · rw [if_neg (by omega), if_neg (by omega), if_pos (by omega), Arch.get_put_ne _ (by omega), Arch.get_put_ne _ (by omega)]

theorem Sequences.of_load {p v : Nat} (h : atLoopEnd a0 a0.pc = false) (wd : Nat) (n : Fin 8) (b : Arch) : Sequences w a0 (fillReg (loadDest b wd) v (a0.put (kP n) p)) none :=
  .of_sys h fun _ hk => (fillReg_get_sys hk ..).trans (Arch.pointer_get_sys n.isLt hk ..)

/-- The row of a load from X or Y memory. -/
def loadXy (y : Bool) : Mn := if y then .ldy else .ldx

/-- The row of a store to X or Y memory. -/
def storeXy (y : Bool) : Mn := if y then .sty else .stx

theorem doWord_load {y : Bool} {f : Fetch} (h : WordRuns (loadXy y) f s) : bits f.w.toNat 29 3 = 2 ∧ doWord c f.w.toNat w2 s = doXy c f.w.toNat y false s := by
  cases y with
  | true =>
    obtain ⟨hfmt, hop⟩ := h.encoded
    exact ⟨hfmt, by simp only [doWord, hfmt, hop]⟩
  | false =>
    obtain ⟨hfmt, hop⟩ := h.encoded
    exact ⟨hfmt, by simp only [doWord, hfmt, hop]⟩

theorem doWord_store {y : Bool} {f : Fetch} (h : WordRuns (storeXy y) f s) : bits f.w.toNat 29 3 = 2 ∧ doWord c f.w.toNat w2 s = doXy c f.w.toNat y true s := by
  cases y with
  | true =>
    obtain ⟨hfmt, hop⟩ := h.encoded
    exact ⟨hfmt, by simp only [doWord, hfmt, hop]⟩
  | false =>
    obtain ⟨hfmt, hop⟩ := h.encoded
    exact ⟨hfmt, by simp only [doWord, hfmt, hop]⟩

theorem loadXy_ne (y : Bool) : loadXy y ≠ .movFromSys := by cases y <;> decide

theorem storeXy_ne (y : Bool) : storeXy y ≠ .movFromSys := by cases y <;> decide

theorem loadXy_runs (y : Bool) (f : Fetch) {ad p : Nat} (hfree : CoreFree f.core s) (h : WordRuns (loadXy y) f s)
    (hacc : accessAddr (s.core f.core).arch f.w.toNat (accessSize f.w.toNat) = (ad, p)) (hawake : xyAsleep s f.core y = false)
    (hcheck : xyCheck s f.core y true (ad % 65536) (accessSize f.w.toNat) = none) (hmark : xyMark s f.core y (ad % 65536) = 0) :
    ∃ u, exec ((loadXy y).row f) s = .next (settle (pump u)) ∧
      CoreAfter f.core s u ((fillReg (loadDest (s.core f.core).arch f.w.toNat) (s.rdMem (accessSize f.w.toNat) (xyAddr f.core y ad))
        ((s.core f.core).arch.put (kP (bits f.w.toNat 14 3)) p)).flagged {}) (((s.core f.core).arch.pc + 4) % 2 ^ 32) (s.core f.core).arch.pc ∧
      SameMem s u ∧ SameRegsBut [AWL_PC_PC.key (oAwl f.core)] s u := by
  obtain ⟨hfmt, hword⟩ := doWord_load (c := f.core) (w2 := f.w2.toNat) h
  exact h.keeps (loadXy_ne y) hfree (hword.trans (doXy_loads hacc hawake hcheck hmark hfree.sbuf)) (.of_load h.2.2.2 _ ⟨_, bits_lt f.w.toNat 14 3⟩ _) (next_short (by omega) _)

/-- What a store to X or Y memory changes: bytes and their marks. -/
def XyStored (s t : State) : Prop := ∃ mem marks, t = { s with mem, marks }

theorem foldl_marks {γ : Type} (g : State → γ → State) (hg : ∀ u x, ∃ m, g u x = { u with marks := m }) (l : List γ) (s : State) : ∃ m, l.foldl g s = { s with marks := m } := by
  induction l generalizing s with
  | nil => exact ⟨_, rfl⟩
  | cons x l ih =>
    obtain ⟨m, hm⟩ := hg s x
    obtain ⟨m', hm'⟩ := ih (g s x)
    exact ⟨m', by rw [List.foldl_cons, hm', hm]⟩

theorem commitStore_spec {y : Bool} {ad n v k : Nat} (hn : n ∣ 65536) (ha : ad % 65536 % n = 0) (c : Nat) (s : State) :
    ∃ m, commitStore c s { after := k, y, addr := ad % 65536, size := n, val := v } = { s.wrMem n (xyAddr c y ad) v with marks := m } := by
  unfold commitStore
  extract_lets t
  have ht : t = s.wrMem n (xyAddr c y ad) v := by
    rw [← wrMem_eq_bytes]
    exact List.foldl_ext _ _ _ fun u i hi => by rw [xyAddr_add hn ha (List.mem_range.1 hi)]
  rw [ht]
  refine foldl_marks _ (fun u i => ?_) _ _
  extract_lets key
  split
  · exact ⟨_, rfl⟩
  · exact ⟨u.marks, rfl⟩

theorem xyStore_spec {y : Bool} {ad n : Nat} (hn : n ∣ 65536) (ha : ad % 65536 % n = 0) (hloads : (s.core c).loads = []) (hlk : (s.core c).lk = none) (v : Nat) :
    XyStored s (xyStore c y (ad % 65536) n v s) ∧ (xyStore c y (ad % 65536) n v s).rdMem n (xyAddr c y ad) = v % 256 ^ n ∧
      SameMemOutside (xyAddr c y ad) n s (xyStore c y (ad % 65536) n v s) := by
  obtain ⟨m, hm⟩ := commitStore_spec (y := y) (v := v) (k := (s.core c).nload) hn ha c s
  have hstore : xyStore c y (ad % 65536) n v s = { s.wrMem n (xyAddr c y ad) v with marks := m } := by
    rw [← hm]
    unfold xyStore
    extract_lets k x
    rw [if_pos ⟨hloads, by simp [k, hlk]⟩]
  obtain ⟨mem, hmem⟩ := wrMem_eq s n (xyAddr c y ad) v
  have hsame : (xyStore c y (ad % 65536) n v s).mem = (s.wrMem n (xyAddr c y ad) v).mem := by rw [hstore]
  exact ⟨⟨mem, m, by rw [hstore, hmem]⟩, (rdMem_congr hsame ..).trans (rdMem_wrMem_same ..), fun b hb => (SameMem.of_mem hsame b).trans (SameMemOutside.wrMem s n (xyAddr c y ad) v b hb)⟩

theorem XyStored.core (h : XyStored s t) (j : Nat) : t.core j = s.core j := by
  obtain ⟨_, _, rfl⟩ := h
  rfl

theorem XyStored.regs (h : XyStored s t) : t.regs = s.regs := by
  obtain ⟨_, _, rfl⟩ := h
  rfl

theorem XyStored.calm (h : XyStored s t) (hcalm : CoreCalm c s) : CoreCalm c t := by
  obtain ⟨_, _, rfl⟩ := h
  exact ⟨hcalm.lk, hcalm.stopping, hcalm.wdPend, hcalm.entry⟩

theorem sbufFull_of_empty {n : Nat} (hsbuf : (s.core c).sbuf = []) (hn : n ≤ 16) : sbufFull s c n = false := by
  rw [sbufFull, hsbuf, List.length_nil]
  exact decide_eq_false (by omega)

theorem doXy_stores {y : Bool} {ad p : Nat} (hacc : accessAddr (s.core c).arch w (accessSize w) = (ad, p)) (hawake : xyAsleep s c y = false)
    (hcheck : xyCheck s c y false (ad % 65536) (accessSize w) = none) (hsbuf : (s.core c).sbuf = []) :
    doXy c w y true s = .done ((s.core c).arch.put (kP (bits w 14 3)) p) {} none (xyStore c y (ad % 65536) (accessSize w) (storeValue (s.core c).arch w) s) := by
  have hfull : sbufFull s c 1 = false := sbufFull_of_empty hsbuf (by decide)
  unfold doXy
  simp only [hacc, hawake, hfull, Bool.and_false, Bool.not_true, hcheck, Bool.false_eq_true, if_false, if_true]

theorem storeXy_runs (y : Bool) (f : Fetch) {ad p : Nat} (hfree : CoreFree f.core s) (h : WordRuns (storeXy y) f s)
    (hacc : accessAddr (s.core f.core).arch f.w.toNat (accessSize f.w.toNat) = (ad, p)) (hawake : xyAsleep s f.core y = false)
    (hcheck : xyCheck s f.core y false (ad % 65536) (accessSize f.w.toNat) = none) :
    ∃ u, exec ((storeXy y).row f) s = .next (settle (pump u)) ∧
      CoreAfter f.core s u (((s.core f.core).arch.put (kP (bits f.w.toNat 14 3)) p).flagged {}) (((s.core f.core).arch.pc + 4) % 2 ^ 32) (s.core f.core).arch.pc ∧
      u.rdMem (accessSize f.w.toNat) (xyAddr f.core y ad) = storeValue (s.core f.core).arch f.w.toNat % 256 ^ accessSize f.w.toNat ∧
      SameMemOutside (xyAddr f.core y ad) (accessSize f.w.toNat) s u ∧ SameRegsBut [AWL_PC_PC.key (oAwl f.core)] s u := by
  obtain ⟨hfmt, hword⟩ := doWord_store (c := f.core) (w2 := f.w2.toNat) h
  obtain ⟨hstored, hvalue, hout⟩ := xyStore_spec (y := y) (accessSize_dvd f.w.toNat) (xyCheck_aligned hcheck) hfree.loads hfree.calm.lk (storeValue (s.core f.core).arch f.w.toNat)
  have hdo := hword.trans (doXy_stores hacc hawake hcheck hfree.sbuf)
  obtain ⟨t, ht⟩ : ∃ t, t = xyStore f.core y (ad % 65536) (accessSize f.w.toNat) (storeValue (s.core f.core).arch f.w.toNat) s := ⟨_, rfl⟩
  rw [← ht] at hstored hvalue hout hdo
  have hran := h.done hfree hdo (hstored.calm hfree.calm).steady
    (.of_sys h.2.2.2 fun k hk => Arch.pointer_get_sys (bits_lt f.w.toNat 14 3) hk ..)
  rw [next_short (by omega)] at hran
  exact ⟨_, h.exec_eq (storeXy_ne y), hran.coreAfter (fun j _ => hstored.core j) (by rw [hstored.core]; exact hfree.loads), (rdMem_congr hran.mem ..).trans hvalue,
    fun x hx => (SameMem.of_mem hran.mem x).trans (hout x hx), (SameRegsBut.of_regs hstored.regs _).trans hran.regs⟩

theorem doXy_misaligned {y : Bool} {ad p : Nat} (hacc : accessAddr (s.core c).arch w (accessSize w) = (ad, p)) (hawake : xyAsleep s c y = false)
    (hmis : ad % accessSize w ≠ 0) : doXy c w y false s = .raised 4 (noteAddr c (ad % 65536) s) := by
  have hcheck : xyCheck s c y true (ad % 65536) (accessSize w) = some 4 := if_pos (by rwa [Nat.mod_mod_of_dvd _ (accessSize_dvd w)])
  unfold doXy
  simp only [hacc, hawake, Bool.false_and, Bool.not_false, hcheck, Bool.false_eq_true, if_false]

theorem loadXy_raises (y : Bool) (f : Fetch) {ad p : Nat} (hfree : CoreFree f.core s) (h : WordRuns (loadXy y) f s)
    (hacc : accessAddr (s.core f.core).arch f.w.toNat (accessSize f.w.toNat) = (ad, p)) (hawake : xyAsleep s f.core y = false) (hmis : ad % accessSize f.w.toNat ≠ 0)
    (hipl : (s.core f.core).arch.ipl < 4) (hses : inSession s f.core = false) :
    ∃ u, exec ((loadXy y).row f) s = .next (settle (pump u)) ∧
      CoreAfter f.core s u (((s.core f.core).arch.put kXADDR (ad % 65536)).raised 4 (s.core f.core).arch.pc) (vector s f.core 4) (s.core f.core).arch.last ∧ SameMem s u := by
  obtain ⟨-, hword⟩ := doWord_load (c := f.core) (w2 := f.w2.toNat) h
  refine ⟨_, h.exec_eq (loadXy_ne y), ?_⟩
  rw [h.step_eq hfree, hword.trans (doXy_misaligned hacc hawake hmis), Did.outcome, if_neg (by decide)]
  obtain ⟨t, ht⟩ : ∃ t, t = noteAddr f.core (ad % 65536) s := ⟨_, rfl⟩
  have honly : CoreOnly f.core s t := by rw [ht]; exact .modArch _
  have hmod : ad % 65536 % 2 ^ 32 = ad % 65536 := Nat.mod_eq_of_lt ((Nat.mod_lt _ (by decide)).trans (by decide))
  have hcore : t.core f.core = { s.core f.core with arch := (s.core f.core).arch.put kXADDR (ad % 65536) } := by rw [ht, noteAddr, State.core_modArch, hmod]
  rw [← ht]
  obtain ⟨b, hb⟩ : ∃ b, b = (s.core f.core).arch.put kXADDR (ad % 65536) := ⟨_, rfl⟩
  rw [← hb] at hcore ⊢
  have hsr : b.sr = (s.core f.core).arch.sr := by rw [hb]; exact Arch.get_put_ne _ (by decide) _
  have hpc : b.pc = (s.core f.core).arch.pc := by rw [hb]; exact Arch.get_put_ne _ (by decide) _
  have hlast : b.last = (s.core f.core).arch.last := by rw [hb, Arch.put_last]
  have hpend : b.pend = none := by rw [hb, Arch.put_pend]; exact hfree.2
  have hvec : vector t f.core 4 = vector s f.core 4 :=
    vector_congr (by rw [hcore, hb]; exact Arch.get_put_ne _ (by decide) _) (by rw [hcore, hb]; exact Arch.get_put_ne _ (by decide) _) honly.mem 4
  have hraised := awlRaise_raised (s := t) (c := f.core) (n := 4) (by rw [hcore]; exact hfree.calm.lk) (by rw [hcore, Arch.ipl, hsr]; exact hipl)
    (by rw [inSession, State.rdi_of_regs honly.regs]; exact hses) (by rw [hcore]; exact hpend) (by rw [hcore]; exact hfree.loads)
  have hafter := hraised.coreAfter (s := s) honly.other
  rw [hvec, hcore, hlast, hpc] at hafter
  exact ⟨hafter, .of_mem (hraised.mem.trans honly.mem)⟩

theorem loadXy_wakes (y : Bool) (f : Fetch) (hfree : CoreFree f.core s) (h : WordRuns (loadXy y) f s) (hret : s.rdi (awlMemState y) (oAwl f.core) = 2) :
    ∃ u, exec ((loadXy y).row f) s = .next (settle (pump u)) ∧ u.rdi (awlMemState y) (oAwl f.core) = 3 ∧ u.cores = s.cores ∧ SameMem s u := by
  obtain ⟨-, hword⟩ := doWord_load (c := f.core) (w2 := f.w2.toNat) h
  have hasleep : xyAsleep s f.core y = true := by rw [xyAsleep, hret]; rfl
  have hdo : doXy f.core f.w.toNat y false s = .stall (s.wri (awlMemState y) (oAwl f.core) 3) := by
    unfold doXy
    simp only [hasleep, if_true, wakeXy, hret]
  refine ⟨_, h.exec_eq (loadXy_ne y), ?_⟩
  rw [h.step_eq hfree, hword.trans hdo, Did.outcome]
  refine ⟨(State.rdi_wri_same ..).trans ?_, rfl, .of_mem (State.mem_wri ..)⟩
  cases y <;> rfl

/-- The load that an LDW which its cache does not hold starts. -/
def ldwLoad (c w ad : Nat) (s : State) : AwlLoad :=
  { ser := (s.core c).nload + 1, tag := freeTagOf s c, addr := ad, size := accessSize w, dest := loadDest (s.core c).arch w, ordered := orderedAddr ad, ckpt := (s.core c).arch }

/-- The state with that load sent. -/
def ldwSent (c w ad : Nat) (s : State) : State := s.modCore c fun k =>
  { k with loads := k.loads ++ [ldwLoad c w ad s], nload := k.nload + 1, wrq := k.wrq ++ [coreReq c RD (freeTagOf s c) ad (accessSize w) 0] }

theorem doLdw_eq {lo p ad : Nat} (hacc : accessAddr (s.core c).arch w (accessSize w) = (lo, p)) (had : (s.core c).arch.get (kWS (bits w 14 3)) * 2 ^ 32 + lo = ad)
    (halign : ad % accessSize w = 0) (hstq : ∀ x ∈ (s.core c).stq, x.2 / 64 ≠ ad / 64) (hlk : (s.core c).lk = none) (hloads : (s.core c).loads = []) (hstwait : (s.core c).stwait = []) :
    doLdw c w s = if cacheHit s c ad then .done (fillReg (loadDest (s.core c).arch w) (s.rdMem (accessSize w) ad) ((s.core c).arch.put (kP (bits w 14 3)) p)) {} none s
      else .done ((s.core c).arch.put (kP (bits w 14 3)) p) {} none (ldwSent c w ad s) := by
  have hfree : ((s.core c).stq.any fun x => x.2 / 64 == ad / 64) = false := by
    rw [List.any_eq_false]
    exact fun x hx hb => hstq x hx (eq_of_beq hb)
  unfold doLdw
  simp only [hacc, had, halign, hlk, hfree, hstwait, hloads, ldwSent, ldwLoad]
  simp [RD]

theorem doWord_ldw (hfmt : bits w 29 3 = 2) (hop : bits w 25 4 = 4) : doWord c w w2 s = doLdw c w s := by simp only [doWord, hfmt, hop]

theorem doWord_stw (hfmt : bits w 29 3 = 2) (hop : bits w 25 4 = 5) : doWord c w w2 s = doStw c w s := by simp only [doWord, hfmt, hop]

theorem ldwSent_steady (hfree : CoreFree c s) (w ad : Nat) : CoreSteady c (ldwSent c w ad s) := by
  unfold ldwSent
  exact CoreCalm.steady ⟨by rw [State.core_modCore]; exact hfree.calm.lk, by rw [State.core_modCore]; exact hfree.calm.stopping, by rw [State.core_modCore]; exact hfree.calm.wdPend, hfree.calm.entry⟩

theorem ldw_runs (f : Fetch) {lo p ad : Nat} (hfree : CoreFree f.core s) (h : WordRuns .ldw f s)
    (hacc : accessAddr (s.core f.core).arch f.w.toNat (accessSize f.w.toNat) = (lo, p)) (had : (s.core f.core).arch.get (kWS (bits f.w.toNat 14 3)) * 2 ^ 32 + lo = ad)
    (halign : ad % accessSize f.w.toNat = 0) (hstq : ∀ x ∈ (s.core f.core).stq, x.2 / 64 ≠ ad / 64) :
    ∃ u, exec (.awlLdw f) s = .next (settle (pump u)) ∧
      (cacheHit s f.core ad = true → CoreAfter f.core s u ((fillReg (loadDest (s.core f.core).arch f.w.toNat) (s.rdMem (accessSize f.w.toNat) ad)
        ((s.core f.core).arch.put (kP (bits f.w.toNat 14 3)) p)).flagged {}) (((s.core f.core).arch.pc + 4) % 2 ^ 32) (s.core f.core).arch.pc) ∧
      (cacheHit s f.core ad = false → CoreAfter f.core s u (((s.core f.core).arch.put (kP (bits f.w.toNat 14 3)) p).flagged {}) (((s.core f.core).arch.pc + 4) % 2 ^ 32)
          (s.core f.core).arch.last ∧
        (u.core f.core).wrq = (s.core f.core).wrq ++ [coreReq f.core RD (freeTagOf s f.core) ad (accessSize f.w.toNat) 0] ∧
        (∀ k ∈ destKeys (loadDest (s.core f.core).arch f.w.toNat), k ∈ pendingKeys (u.core f.core))) ∧
      SameMem s u ∧ SameRegsBut [AWL_PC_PC.key (oAwl f.core)] s u := by
  obtain ⟨hfmt, hop⟩ := h.encoded
  have hdo := (doWord_ldw (c := f.core) (w2 := f.w2.toNat) hfmt hop).trans (doLdw_eq hacc had halign hstq hfree.calm.lk hfree.loads hfree.stwait)
  by_cases hhit : cacheHit s f.core ad = true
  · rw [if_pos hhit] at hdo
    obtain ⟨u, hexec, hafter, hmem, hregs⟩ := h.keeps (by decide) hfree hdo (.of_load h.2.2.2 _ ⟨_, bits_lt f.w.toNat 14 3⟩ _) (next_short (by omega) _)
    exact ⟨u, hexec, fun _ => hafter, fun hmiss => absurd (hhit.symm.trans hmiss) (by decide), hmem, hregs⟩
  · rw [if_neg hhit] at hdo
    have hran := h.done hfree hdo (ldwSent_steady hfree ..) (.of_sys h.2.2.2 fun k hk => Arch.pointer_get_sys (bits_lt f.w.toNat 14 3) hk ..)
    rw [next_short (by omega)] at hran
    obtain ⟨l, hl⟩ : ∃ l, l = ldwLoad f.core f.w.toNat ad s := ⟨_, rfl⟩
    have hcore : (ldwSent f.core f.w.toNat ad s).core f.core =
        { s.core f.core with loads := [l], nload := (s.core f.core).nload + 1, wrq := (s.core f.core).wrq ++ [coreReq f.core RD (freeTagOf s f.core) ad (accessSize f.w.toNat) 0] } := by
      rw [ldwSent, State.core_modCore, hfree.loads, ← hl]
      rfl
    have hother : ∀ j, j ≠ f.core.val → (ldwSent f.core f.w.toNat ad s).core j = s.core j := fun j hj => State.core_modCore_ne _ _ _ hj
    refine ⟨_, h.exec_eq (by decide), fun hh => absurd hh hhit, fun _ => ⟨⟨fun k hk => ?_, ?_, ?_, fun j hj => (hran.other j hj).trans (hother j hj)⟩, ?_, fun k hk => ?_⟩,
      .of_mem hran.mem, hran.regs⟩
    · rw [hran.core]; exact Arch.stepped_get hk _ _
    · rw [hran.core]; exact Arch.stepped_pc _ _
    · rw [hran.held l [] (by rw [hcore]), hl]
      rfl
    · rw [hran.core, Core.stepped, hcore]
    · rw [hran.core, Core.stepped, hcore, hl]
      simpa [pendingKeys, ldwLoad] using hk

theorem doStw_eq {lo p ad : Nat} (hacc : accessAddr (s.core c).arch w (accessSize w) = (lo, p)) (had : (s.core c).arch.get (kWS (bits w 14 3)) * 2 ^ 32 + lo = ad)
    (halign : ad % accessSize w = 0) (hstq : (s.core c).stq.length < 16) (hlk : (s.core c).lk = none) (hloads : (s.core c).loads = []) (hstwait : (s.core c).stwait = []) :
    doStw c w s = .done ((s.core c).arch.put (kP (bits w 14 3)) p) {} none
      (sendStore c s { after := (s.core c).nload, addr := ad, size := accessSize w, val := storeValue (s.core c).arch w }) := by
  have hroom : ¬ 16 ≤ (s.core c).stq.length + 0 := by omega
  unfold doStw
  simp only [hacc, had, halign, hlk, hstwait, hloads, List.length_nil, hroom]
  simp

theorem stw_runs (f : Fetch) {lo p ad : Nat} (hfree : CoreFree f.core s) (h : WordRuns .stw f s)
    (hacc : accessAddr (s.core f.core).arch f.w.toNat (accessSize f.w.toNat) = (lo, p)) (had : (s.core f.core).arch.get (kWS (bits f.w.toNat 14 3)) * 2 ^ 32 + lo = ad)
    (halign : ad % accessSize f.w.toNat = 0) (hstq : (s.core f.core).stq.length < 16) :
    ∃ u, exec (.awlStw f) s = .next (settle (pump u)) ∧
      CoreAfter f.core s u (((s.core f.core).arch.put (kP (bits f.w.toNat 14 3)) p).flagged {}) (((s.core f.core).arch.pc + 4) % 2 ^ 32) (s.core f.core).arch.pc ∧
      (u.core f.core).wrq = (s.core f.core).wrq ++ [coreReq f.core WR (freeTagOf s f.core) ad (accessSize f.w.toNat) (storeValue (s.core f.core).arch f.w.toNat)] ∧
      (u.core f.core).stq = (s.core f.core).stq ++ [(freeTagOf s f.core, ad)] ∧ SameMem s u ∧ SameRegsBut [AWL_PC_PC.key (oAwl f.core)] s u := by
  obtain ⟨hfmt, hop⟩ := h.encoded
  have hdo := (doWord_stw (c := f.core) (w2 := f.w2.toNat) hfmt hop).trans (doStw_eq hacc had halign hstq hfree.calm.lk hfree.loads hfree.stwait)
  rw [sendStore] at hdo
  have hran := h.done hfree hdo (CoreCalm.steady ⟨by rw [State.core_modCore]; exact hfree.calm.lk, by rw [State.core_modCore]; exact hfree.calm.stopping,
    by rw [State.core_modCore]; exact hfree.calm.wdPend, hfree.calm.entry⟩) (.of_sys h.2.2.2 fun k hk => Arch.pointer_get_sys (bits_lt f.w.toNat 14 3) hk ..)
  rw [next_short (by omega)] at hran
  refine ⟨_, h.exec_eq (by decide), hran.coreAfter (fun j hj => State.core_modCore_ne _ _ _ hj) (by rw [State.core_modCore]; exact hfree.loads), ?_, ?_, .of_mem hran.mem, hran.regs⟩
  · rw [hran.core, Core.stepped, State.core_modCore]
    rfl
  · rw [hran.core, Core.stepped, State.core_modCore]
end

/-- Settles O38: a load fills its register at once or waits for its read, a store goes to memory or to the network, and the pointer moves on. -/
theorem loadsAndStores : Obligations.LoadsAndStores := by
  unfold Obligations.LoadsAndStores
  refine ⟨?_, ?_, ?_, ?_, ?_, fun y f s hfree h hret => loadXy_wakes y f hfree h hret⟩
  · rintro y f s w ad p a rfl rfl hfree h hacc hawake hcheck hmark
    exact loadXy_runs y f hfree h hacc hawake hcheck hmark
  · rintro y f s w ad p a rfl rfl hfree h hacc hawake hcheck
    exact storeXy_runs y f hfree h hacc hawake hcheck
  · rintro f s w lo p ad a rfl rfl hfree h hacc had halign hstq
    exact ldw_runs f hfree h hacc had halign hstq
  · rintro f s w lo p ad a rfl rfl hfree h hacc had halign hstq
    exact stw_runs f hfree h hacc had halign hstq
  · rintro y f s w ad p a rfl rfl hfree h hacc hawake hmis hipl hses
    exact loadXy_raises y f hfree h hacc hawake hmis hipl hses
end Sys2Proof.Machine

namespace Sys2Proof.Machine

set_option Elab.async false

/-! Multiplies with parallel moves (R226, R227, R234, R258, R266 to R268) -/

section
variable {s t u : State} {c w w2 : Nat} {a a0 b : Arch} {fl : Flg}

/-- What the multiply of the word makes of the accumulator, with its flags. -/
def Arch.macProduct (a : Arch) (w : Nat) : Arch × Flg :=
  if bits w 26 3 = 0 then (a, {}) else
    doMul a (if bits w 26 3 = 1 ∨ bits w 26 3 = 4 then 0 else if bits w 26 3 = 3 then 2 else 1) (bit w 25)
      (awlProduct a.sr (bits w 26 3 != 4 && bits w 26 3 != 5) (bits w 26 3 != 4 && bits w 26 3 != 5 && bits w 26 3 != 6) (a.get (a.q (bits w 19 5))) (a.get (a.q (bits w 14 5))))

/-- What the moves of the word make of the registers `b`: the two loads, the two pointers and ROT. -/
def Arch.macMoved (a b : Arch) (w xv yv : Nat) : Arch :=
  let b := if bits w 12 2 = 1 then b.put (a.q (bits w 9 3)) xv else b
  let b := if bits w 5 2 = 1 then b.put (a.q (16 + bits w 2 3)) yv else b
  let b := if bits w 12 2 = 0 then b else b.put (kP (2 * bit w 8)) (a.pmod (2 * bit w 8) (if bit w 7 = 0 then 2 else toS 32 (a.get (kM (2 * bit w 8)))))
  let b := if bits w 5 2 = 0 then b else b.put (kP (1 + 2 * bit w 1)) (a.pmod (1 + 2 * bit w 1) (if bit w 0 = 0 then 2 else toS 32 (a.get (kM (1 + 2 * bit w 1)))))
  if bit w 24 = 1 then b.rotate else b

/-- What one of the two moves does to memory: a load corrects its word, a store writes it. -/
def xyMoved (c : Nat) (y : Bool) (kind ad v : Nat) (s : State) : State := if kind = 1 then xyCorrected c y ad s else if kind = 2 then xyStore c y ad 2 v s else s

theorem doMac_eq {xa ya : Nat} (hxa : (s.core c).arch.get (kP (2 * bit w 8)) % 65536 = xa) (hya : (s.core c).arch.get (kP (1 + 2 * bit w 1)) % 65536 = ya)
    (hsbuf : (s.core c).sbuf = []) (hxawake : bits w 12 2 ≠ 0 → xyAsleep s c false = false) (hyawake : bits w 5 2 ≠ 0 → xyAsleep s c true = false)
    (hxcheck : bits w 12 2 ≠ 0 → xyCheck s c false (bits w 12 2 == 1) xa 2 = none) (hycheck : bits w 5 2 ≠ 0 → xyCheck s c true (bits w 5 2 == 1) ya 2 = none) :
    doMac c w s = .done ((s.core c).arch.macMoved ((s.core c).arch.macProduct w).1 w (xyRead s c [] false xa 2) (xyRead s c [] true ya 2)) ((s.core c).arch.macProduct w).2 none
      (xyMoved c true (bits w 5 2) ya ((s.core c).arch.get ((s.core c).arch.q (16 + bits w 2 3)))
        (xyMoved c false (bits w 12 2) xa ((s.core c).arch.get ((s.core c).arch.q (bits w 9 3))) s)) := by
  have hx : ¬ (bits w 12 2 ≠ 0 ∧ xyAsleep s c false = true) := fun h => absurd ((hxawake h.1).symm.trans h.2) (by decide)
  have hy : ¬ (bits w 5 2 ≠ 0 ∧ xyAsleep s c true = true) := fun h => absurd ((hyawake h.1).symm.trans h.2) (by decide)
  have hfull : sbufFull s c ((if bits w 12 2 = 2 then 1 else 0) + (if bits w 5 2 = 2 then 1 else 0)) = false := sbufFull_of_empty hsbuf (by split <;> split <;> omega)
  have hxc : (if bits w 12 2 = 0 then none else xyCheck s c false (bits w 12 2 == 1) xa 2) = none := by
    split
    · rfl
    · next h => exact hxcheck h
  have hyc : (if bits w 5 2 = 0 then none else xyCheck s c true (bits w 5 2 == 1) ya 2) = none := by
    split
    · rfl
    · next h => exact hycheck h
  unfold doMac
  simp only [hxa, hya, if_neg hx, if_neg hy, hfull, Bool.false_eq_true, if_false, hxc, hyc, hsbuf]
  rfl

/-- What one of the two moves leaves as it is, and what it stores. -/
structure XyMoved (c : Nat) (y : Bool) (kind ad v : Nat) (s t : State) : Prop where
  stored : XyStored s t
  marks : ∀ k, tabGet 0 s.marks k = 0 → tabGet 0 t.marks k = 0
  value : kind = 2 → t.rdMem 2 (xyAddr c y ad) = v % 65536
  outside : ∀ b, (kind = 2 → b < xyAddr c y ad ∨ xyAddr c y ad + 2 ≤ b) → t.rdByte b = s.rdByte b

theorem foldl_marks_zero {γ : Type} (key : γ → Nat) (cond : State → γ → Bool) (l : List γ) {k : Nat} (h : tabGet 0 s.marks k = 0) :
    tabGet 0 (l.foldl (fun s x => if cond s x then { s with marks := tabSet 0 s.marks (key x) 0 } else s) s).marks k = 0 := by
  induction l generalizing s with
  | nil => exact h
  | cons x l ih =>
    rw [List.foldl_cons]
    refine ih ?_
    split
    · by_cases hk : k = key x
      · rw [hk]; exact tabGet_set_same 0 s.marks (key x) 0
      · exact (tabGet_set_ne 0 0 s.marks 0 hk).trans h
    · exact h

theorem xyStore_marks {y : Bool} {ad n v k : Nat} (h : tabGet 0 s.marks k = 0) : tabGet 0 (xyStore c y ad n v s).marks k = 0 := by
  unfold xyStore
  extract_lets core x
  split
  · unfold commitStore
    extract_lets t
    have ht : t.marks = s.marks := by
      have hfold : ∀ (l : List Nat) (s : State), (l.foldl (fun s i => s.wrByte (xyAddr c x.y (x.addr + i)) (byteOf x.val i)) s).marks = s.marks := by
        intro l
        induction l with
        | nil => exact fun _ => rfl
        | cons i l ih => exact fun s => ih _
      exact hfold _ s
    have h' : tabGet 0 t.marks k = 0 := by rw [ht]; exact h
    simpa using foldl_marks_zero (s := t) (fun i => xyAddr c x.y (x.addr / 4 * 4 + 4 * i))
      (fun s i => decide (4 ≤ x.size ∨ tabGet 0 s.marks (xyAddr c x.y (x.addr / 4 * 4 + 4 * i)) = 1)) (List.range ((x.size + 3) / 4)) h'
  · exact h

theorem xyMoved_spec {y : Bool} {kind ad v : Nat} (halign : kind ≠ 0 → ad % 65536 % 2 = 0) (hmark : kind = 1 → xyMark s c y (ad % 65536) = 0)
    (hloads : (s.core c).loads = []) (hlk : (s.core c).lk = none) : XyMoved c y kind ad v s (xyMoved c y kind (ad % 65536) v s) := by
  unfold xyMoved
  by_cases h1 : kind = 1
  · rw [if_pos h1]
    have hcorr : xyCorrected c y (ad % 65536) s = s := if_neg (by rw [hmark h1]; decide)
    rw [hcorr]
    exact ⟨⟨_, _, rfl⟩, fun _ h => h, fun h => by omega, fun _ _ => rfl⟩
  · rw [if_neg h1]
    by_cases h2 : kind = 2
    · rw [if_pos h2]
      obtain ⟨hstored, hvalue, hout⟩ := xyStore_spec (y := y) (by decide) (halign (by omega)) hloads hlk v
      exact ⟨hstored, fun _ h => xyStore_marks h, fun _ => hvalue, fun b hb => hout b (hb h2)⟩
    · rw [if_neg h2]
      exact ⟨⟨_, _, rfl⟩, fun _ h => h, fun h => absurd h h2, fun _ _ => rfl⟩

theorem Arch.get_putIf (p : Prop) [Decidable p] (a : Arch) (k v j : Nat) : (if p then a.put k v else a).get j = if p ∧ j = k then v else a.get j := by
  by_cases hp : p
  · rw [if_pos hp, Arch.get_put]
    simp only [hp, true_and]
  · rw [if_neg hp, if_neg (fun h => hp h.1)]

theorem Arch.get_putIfNot (p : Prop) [Decidable p] (a : Arch) (k v j : Nat) : (if p then a else a.put k v).get j = if ¬ p ∧ j = k then v else a.get j := by
  by_cases hp : p
  · rw [if_pos hp, if_neg (fun h => h.1 hp)]
  · rw [if_neg hp, Arch.get_put]
    simp only [hp, not_false_eq_true, true_and]

theorem Arch.macProduct_get (a : Arch) (w k : Nat) : (a.macProduct w).1.get k = if bits w 26 3 ≠ 0 ∧ k = kA (bit w 25) then
    (accumulateOp a.sr (if bits w 26 3 = 1 ∨ bits w 26 3 = 4 then 0 else if bits w 26 3 = 3 then 2 else 1) (a.get (kA (bit w 25)))
      (awlProduct a.sr (bits w 26 3 != 4 && bits w 26 3 != 5) (bits w 26 3 != 4 && bits w 26 3 != 5 && bits w 26 3 != 6) (a.get (a.q (bits w 19 5))) (a.get (a.q (bits w 14 5))))).1
    else a.get k := by
  unfold Arch.macProduct
  by_cases h : bits w 26 3 = 0
  · rw [if_pos h, if_neg (fun hc => hc.1 h)]
  · rw [if_neg h, doMul]
    simp only [Arch.get_put, ne_eq, h, not_false_eq_true, true_and]

theorem Arch.q_ne {m n : Nat} (hm : m < 8) (hn : n < 8) (a : Arch) : a.q m ≠ a.q (16 + n) := by
  unfold Arch.q kQ
  omega

theorem Arch.q_ge (a : Arch) (n : Nat) : 64 ≤ a.q n := by
  unfold Arch.q kQ
  omega

theorem Arch.macMoved_get (a b : Arch) (w xv yv k : Nat) : (a.macMoved b w xv yv).get k =
    if bit w 24 = 1 ∧ k = kQRB then (b.get kQRB + 31) % 32
    else if bits w 5 2 ≠ 0 ∧ k = kP (1 + 2 * bit w 1) then a.pmod (1 + 2 * bit w 1) (if bit w 0 = 0 then 2 else toS 32 (a.get (kM (1 + 2 * bit w 1))))
    else if bits w 12 2 ≠ 0 ∧ k = kP (2 * bit w 8) then a.pmod (2 * bit w 8) (if bit w 7 = 0 then 2 else toS 32 (a.get (kM (2 * bit w 8))))
    else if bits w 5 2 = 1 ∧ k = a.q (16 + bits w 2 3) then yv
    else if bits w 12 2 = 1 ∧ k = a.q (bits w 9 3) then xv else b.get k := by
  have hx := a.q_lt (bits w 9 3)
  have hy := a.q_lt (16 + bits w 2 3)
  have hb1 : bit w 1 < 2 := Nat.mod_lt _ (by decide)
  have hb8 : bit w 8 < 2 := Nat.mod_lt _ (by decide)
  have hqx : kQRB ≠ a.q (bits w 9 3) := by unfold kQRB; omega
  have hqy : kQRB ≠ a.q (16 + bits w 2 3) := by unfold kQRB; omega
  have hpx : kQRB ≠ kP (2 * bit w 8) := by unfold kQRB kP; omega
  have hpy : kQRB ≠ kP (1 + 2 * bit w 1) := by unfold kQRB kP; omega
  unfold Arch.macMoved
  extract_lets b1 b2 b3 b4
  have hqrb : b4.get kQRB = b.get kQRB := by
    simp only [b4, b3, b2, b1, Arch.get_putIf, Arch.get_putIfNot, hqx, hqy, hpx, hpy, and_false, if_false]
  rw [Arch.rotate, Arch.get_putIf, hqrb]
  simp only [b4, b3, b2, b1, Arch.get_putIf, Arch.get_putIfNot, ne_eq]

/-- The registers after the word, each named once: the order of the writes does not matter, for they name different registers. -/
theorem Arch.mac_get (a : Arch) (w xv yv k : Nat) : (a.macMoved (a.macProduct w).1 w xv yv).get k =
    if bits w 26 3 ≠ 0 ∧ k = kA (bit w 25) then
      (accumulateOp a.sr (if bits w 26 3 = 1 ∨ bits w 26 3 = 4 then 0 else if bits w 26 3 = 3 then 2 else 1) (a.get (kA (bit w 25)))
        (awlProduct a.sr (bits w 26 3 != 4 && bits w 26 3 != 5) (bits w 26 3 != 4 && bits w 26 3 != 5 && bits w 26 3 != 6) (a.get (a.q (bits w 19 5))) (a.get (a.q (bits w 14 5))))).1
    else if bits w 12 2 = 1 ∧ k = a.q (bits w 9 3) then xv
    else if bits w 5 2 = 1 ∧ k = a.q (16 + bits w 2 3) then yv
    else if bits w 12 2 ≠ 0 ∧ k = kP (2 * bit w 8) then a.pmod (2 * bit w 8) (if bit w 7 = 0 then 2 else toS 32 (a.get (kM (2 * bit w 8))))
    else if bits w 5 2 ≠ 0 ∧ k = kP (1 + 2 * bit w 1) then a.pmod (1 + 2 * bit w 1) (if bit w 0 = 0 then 2 else toS 32 (a.get (kM (1 + 2 * bit w 1))))
    else if bit w 24 = 1 ∧ k = kQRB then (a.get kQRB + 31) % 32 else a.get k := by
  have hx := a.q_lt (bits w 9 3)
  have hy := a.q_lt (16 + bits w 2 3)
  have hx' := a.q_ge (bits w 9 3)
  have hy' := a.q_ge (16 + bits w 2 3)
  have hxy := a.q_ne (bits_lt w 9 3) (bits_lt w 2 3)
  have hb1 : bit w 1 < 2 := Nat.mod_lt _ (by decide)
  have hb8 : bit w 8 < 2 := Nat.mod_lt _ (by decide)
  have hb25 : bit w 25 < 2 := Nat.mod_lt _ (by decide)
  have hacc : kA (bit w 25) < 18 := by unfold kA; omega
  have hpx : kP (2 * bit w 8) = 24 + 2 * bit w 8 := rfl
  have hpy : kP (1 + 2 * bit w 1) = 24 + (1 + 2 * bit w 1) := rfl
  have hqrb : kQRB = 101 := rfl
  rw [Arch.macMoved_get, Arch.macProduct_get, Arch.macProduct_get, if_neg (show ¬ (bits w 26 3 ≠ 0 ∧ kQRB = kA (bit w 25)) by omega)]
  generalize (accumulateOp a.sr _ _ _).1 = acc
  generalize a.pmod _ _ = px
  generalize a.pmod _ _ = py
  generalize kA (bit w 25) = k1 at *
  generalize a.q (bits w 9 3) = k2 at *
  generalize a.q (16 + bits w 2 3) = k3 at *
  generalize kP (2 * bit w 8) = k4 at *
  generalize kP (1 + 2 * bit w 1) = k5 at *
  grind

/-- The X and the Y memory of a core are apart. -/
theorem xyAddr_apart {n : Nat} (c i j : Nat) (hi : i % 65536 + n ≤ 65536) : xyAddr c false i + n ≤ xyAddr c true j := by
  unfold xyAddr
  simp only [Bool.false_eq_true, if_false, if_true]
  omega

theorem pair_fits {ad : Nat} (h : ad % 65536 % 2 = 0) : ad % 65536 + 2 ≤ 65536 := by
  have hlt : ad % 65536 < 65536 := Nat.mod_lt _ (by decide)
  omega

theorem WordRuns.mac_ne {m : Mn} {f : Fetch} (h : WordRuns m f s) (hfmt : bits f.w.toNat 29 3 = 1) : m ≠ .movFromSys := by
  rintro rfl
  obtain ⟨hfmt', -⟩ := h.encoded
  omega

theorem doWord_mac (hfmt : bits w 29 3 = 1) : doWord c w w2 s = doMac c w s := by simp only [doWord, hfmt]

theorem macProduct_flags (a : Arch) (w : Nat) : (a.macProduct w).2 = if bits w 26 3 = 0 then {} else
    (doMul a (if bits w 26 3 = 1 ∨ bits w 26 3 = 4 then 0 else if bits w 26 3 = 3 then 2 else 1) (bit w 25)
      (awlProduct a.sr (bits w 26 3 != 4 && bits w 26 3 != 5) (bits w 26 3 != 4 && bits w 26 3 != 5 && bits w 26 3 != 6) (a.get (a.q (bits w 19 5))) (a.get (a.q (bits w 14 5))))).2 := by
  unfold Arch.macProduct
  split <;> rfl

theorem macMoved_sys (a : Arch) (w xv yv : Nat) {k : Nat} (hk : 100 ≤ k) (hqrb : k ≠ kQRB) : (a.macMoved (a.macProduct w).1 w xv yv).get k = a.get k := by
  have hx := a.q_lt (bits w 9 3)
  have hy := a.q_lt (16 + bits w 2 3)
  have hb1 : bit w 1 < 2 := Nat.mod_lt _ (by decide)
  have hb8 : bit w 8 < 2 := Nat.mod_lt _ (by decide)
  have hb25 : bit w 25 < 2 := Nat.mod_lt _ (by decide)
  have hacc : kA (bit w 25) < 18 := by unfold kA; omega
  have hpx : kP (2 * bit w 8) = 24 + 2 * bit w 8 := rfl
  have hpy : kP (1 + 2 * bit w 1) = 24 + (1 + 2 * bit w 1) := rfl
  rw [Arch.mac_get, if_neg (by omega), if_neg (by omega), if_neg (by omega), if_neg (by omega), if_neg (by omega), if_neg (by omega)]
end

/-- Settles O37: the accumulator takes its product, the two moves their bytes, and each register is as the word leaves it, all from the registers as they were. -/
theorem multiplyAndMove : Obligations.MultiplyAndMove := by
  unfold Obligations.MultiplyAndMove
  rintro m f s w xk yk mop a hw ha hfmt hfree h rfl rfl rfl hxawake hyawake hxcheck hxmark hycheck hymark
  obtain ⟨xa, hxa⟩ : ∃ xa, a.get (kP (2 * bit w 8)) = xa := ⟨_, rfl⟩
  obtain ⟨ya, hya⟩ : ∃ ya, a.get (kP (1 + 2 * bit w 1)) = ya := ⟨_, rfl⟩
  rw [hxa] at hxcheck hxmark ⊢
  rw [hya] at hycheck hymark ⊢
  have hdo := (doWord_mac (c := f.core) (s := s) (w2 := f.w2.toNat) (w := w) hfmt).trans
    (doMac_eq (xa := xa % 65536) (ya := ya % 65536) (by rw [ha, hxa]) (by rw [ha, hya]) hfree.sbuf hxawake hyawake hxcheck hycheck)
  rw [ha] at hdo
  have hX := xyMoved_spec (s := s) (c := f.core) (y := false) (kind := bits w 12 2) (ad := xa) (v := a.get (a.q (bits w 9 3))) (fun h => xyCheck_aligned (hxcheck h)) hxmark
    hfree.loads hfree.calm.lk
  obtain ⟨s1, hs1⟩ : ∃ s1, s1 = xyMoved f.core false (bits w 12 2) (xa % 65536) (a.get (a.q (bits w 9 3))) s := ⟨_, rfl⟩
  rw [← hs1] at hX hdo
  have hY := xyMoved_spec (s := s1) (c := f.core) (y := true) (kind := bits w 5 2) (ad := ya) (v := a.get (a.q (16 + bits w 2 3))) (fun h => xyCheck_aligned (hycheck h))
    (fun h => hX.marks _ (hymark h)) (by rw [hX.stored.core]; exact hfree.loads) (by rw [hX.stored.core]; exact hfree.calm.lk)
  obtain ⟨s2, hs2⟩ : ∃ s2, s2 = xyMoved f.core true (bits w 5 2) (ya % 65536) (a.get (a.q (16 + bits w 2 3))) s1 := ⟨_, rfl⟩
  rw [← hs2] at hY hdo
  clear hs1 hs2
  have hcore : ∀ j, s2.core j = s.core j := fun j => (hY.stored.core j).trans (hX.stored.core j)
  have hsr : ∀ xv yv, (a.macMoved (a.macProduct w).1 w xv yv).sr = a.sr := fun xv yv => macMoved_sys a w xv yv (by decide) (by decide)
  have hend : atLoopEnd a a.pc = false := by rw [← ha]; exact h.2.2.2
  have hran := h.done hfree (by rw [hw]; exact hdo) (hY.stored.calm (hX.stored.calm hfree.calm)).steady
    (by rw [hw, ha]; exact .of_get hend (by rw [Arch.ldepth, hsr]; rfl) (macMoved_sys _ _ _ _ (by decide) (by decide)) (macMoved_sys _ _ _ _ (by decide) (by decide)))
  rw [hw, ha, next_short (by omega)] at hran
  obtain ⟨hget, hrest⟩ := hran.coreAfter (s := s) (fun j _ => hcore j) (by rw [hcore]; exact hfree.loads)
  have hxv : ∀ k p, (if bits w 12 2 = 1 ∧ k = a.q (bits w 9 3) then xyRead s f.core [] false (xa % 65536) 2 else p) =
      if bits w 12 2 = 1 ∧ k = a.q (bits w 9 3) then s.rdMem 2 (xyAddr f.core false xa) else p := by
    intro k p
    split
    · next hc => rw [xyRead_eq (by decide) (xyCheck_aligned (hxcheck (by omega)))]
    · rfl
  have hyv : ∀ k p, (if bits w 5 2 = 1 ∧ k = a.q (16 + bits w 2 3) then xyRead s f.core [] true (ya % 65536) 2 else p) =
      if bits w 5 2 = 1 ∧ k = a.q (16 + bits w 2 3) then s.rdMem 2 (xyAddr f.core true ya) else p := by
    intro k p
    split
    · next hc => rw [xyRead_eq (by decide) (xyCheck_aligned (hycheck (by omega)))]
    · rfl
  refine ⟨_, h.exec_eq (h.mac_ne (by rw [hw]; exact hfmt)), ⟨fun k hk => ?_, hrest⟩, fun hx2 => ?_, fun hy2 => ?_, fun b hbx hby => ?_,
    ((SameRegsBut.of_regs hX.stored.regs _).trans (SameRegsBut.of_regs hY.stored.regs _)).trans hran.regs⟩
  · rw [hget k hk, Arch.flagged, hsr, macProduct_flags]
    beta_reduce
    by_cases hk' : k = kSR
    · rw [if_pos hk', if_pos hk']
    · rw [if_neg hk', if_neg hk', Arch.mac_get, hxv, hyv]
  · have hfits := pair_fits (xyCheck_aligned (hxcheck (by omega)))
    rw [rdMem_congr hran.mem, ← hX.value hx2]
    exact rdMem_ext fun i hi => hY.outside _ fun _ => .inl (by have h := xyAddr_apart (n := 2) f.core xa ya hfits; omega)
  · rw [rdMem_congr hran.mem]
    exact hY.value hy2
  · exact (SameMem.of_mem hran.mem b).trans ((hY.outside b hby).trans (hX.outside b hbx))
end Sys2Proof.Machine

namespace Sys2Proof.Machine

set_option Elab.async false

/-! DRAM traffic (R343 to R352, R355, R356, R360) -/

section
variable {s t u : State} {q : Req} {c : Nat}

theorem rdMem_append (s : State) (m n a : Nat) : s.rdMem (m + n) a = s.rdMem m a + 256 ^ m * s.rdMem n (a + m) := by
  induction m generalizing a with
  | zero => simp [State.rdMem]
  | succ m ih =>
    rw [Nat.add_right_comm, State.rdMem, ih, State.rdMem, Nat.pow_succ', show a + 1 + m = a + (m + 1) by omega]
    ring

/-- An address is decoded to a DRAM channel only below the end of DRAM. -/
theorem inDram_of_addrDst {a : Nat} (hc : c < 8) (h : addrDst s a = some (epDram c)) : a < 2 ^ 38 := by
  unfold addrDst at h
  by_contra hge
  rw [if_neg (by simpa [inDram] using hge)] at h
  have hbig : ∀ d r k, d < 12 → r < 128 → k < 4 → epOf d r k ≠ epDram c := by
    intro d r k hd hr hk
    unfold epOf epDram
    omega
  dsimp only at h
  split_ifs at h with hlast hdie hbank hcore hdown hbridge hon
  · exact absurd (Option.some.inj h) (by unfold epLast epDram; omega)
  · simp only [inDieSpaces, Bool.and_eq_true, decide_eq_true_eq] at hdie
    exact hbig _ _ _ (by omega) (by omega) (by omega) (Option.some.inj h)
  · simp only [inDieSpaces, Bool.and_eq_true, decide_eq_true_eq] at hdie
    exact hbig _ _ _ (by omega) (by omega) (by omega) (Option.some.inj h)
  · simp only [inDieSpaces, Bool.and_eq_true, decide_eq_true_eq] at hdie
    exact hbig _ _ _ (by omega) (by omega) (by omega) (Option.some.inj h)
  · have hwin : windowOf a / 8 < 2 := by
      simp only [inBridge, Bool.and_eq_true, decide_eq_true_eq] at hbridge
      unfold windowOf
      omega
    exact absurd (Option.some.inj h) (by unfold epBridge epDram; omega)
  · exact absurd (Option.some.inj h) (by unfold epMgmt epDram; omega)

theorem injectCheck_dst {dst : Nat} (hop : opMsg q.op = false) (h : injectCheck s q = .inr dst) : addrDst s q.addr = some dst := by
  unfold injectCheck at h
  rw [hop] at h
  simp only [Bool.false_eq_true, if_false] at h
  cases hd : addrDst s q.addr with
  | none =>
    rw [hd] at h
    split_ifs at h
  | some d =>
    rw [hd] at h
    dsimp only at h
    split_ifs at h
    exact congrArg some (Sum.inr.inj h)

/-- A line of a 256-byte block of DRAM, in its channel. -/
theorem addrOfLine_line {a k : Nat} (ha : a < 2 ^ 38) (hc : bits a 8 3 = c) (halign : a % 64 = 0) (hk : a % 256 + 64 * k < 256) : addrOfLine c (lineOfAddr a + k) = a + 64 * k := by
  unfold addrOfLine lineOfAddr bits at *
  omega

theorem serveAt_dram (hc : c < 8) (hdst : q.dst = epDram c) (hop : opMsg q.op = false) : serveAt q s = dramServe q s := by
  unfold serveAt
  have h1 : epInRegion q.dst = false := by rw [hdst, epInRegion, epDie, epDram]; simp; omega
  have h2 : ¬ (epDie q.dst < 12 ∧ s.rdi GLB_DIESTAT_STATE (4 * epDie q.dst) ≠ 1) := fun h => by
    have hd : epDie q.dst = 12 := by rw [hdst, epDie, epDram]; omega
    omega
  simp only [h1, hop, Bool.false_eq_true, if_false, if_neg h2]
  exact if_pos (by rw [hdst]; unfold epDram; omega)

/-- What a read of lines changes: the open rows. -/
def RowsOnly (c : Nat) (s t : State) : Prop := ∃ chans, t = { s with chans } ∧ (t.chan c).wq = (s.chan c).wq ∧ (t.chan c).marks = (s.chan c).marks

theorem RowsOnly.refl : RowsOnly c s s := ⟨_, rfl, rfl, rfl⟩

theorem RowsOnly.trans (h : RowsOnly c s t) (g : RowsOnly c t u) : RowsOnly c s u := by
  obtain ⟨_, rfl, hw, hm⟩ := h
  obtain ⟨ch, rfl, hw', hm'⟩ := g
  exact ⟨ch, rfl, hw'.trans hw, hm'.trans hm⟩

theorem touchRow_only (c p : Nat) (s : State) : RowsOnly c s (touchRow c p s) := by
  unfold touchRow
  exact ⟨_, rfl, by rw [State.chan_modChan], by rw [State.chan_modChan]⟩

theorem lineCheck_clean {line : Nat} (h : tabGet 0 (s.chan c).marks line = 0) : lineCheck c line s = (s, true) := if_pos h

theorem readLine_clean {line : Nat} (hwm : s.rdi DRC_FILLWM_WM (oCh c) = 0) (hwq : (s.chan c).wq = []) (hmarks : (s.chan c).marks = []) (mask : Nat) :
    readLine c line mask s = (s.rdMem 64 (addrOfLine c line), true, touchRow c (line / 2) s) := by
  have hnone : wqEntry s c line = none := by rw [wqEntry, hwq]; rfl
  unfold readLine
  rw [if_neg (by omega), hnone]
  dsimp only
  rw [lineCheck_clean (by rw [hmarks]; rfl)]
  rfl

/-- A read of clean lines, none of them queued, returns their bytes. -/
theorem readLines_clean (a : Nat) (line : Nat) (mask : Nat → Nat) (n : Nat) (hwm : s.rdi DRC_FILLWM_WM (oCh c) = 0) (hwq : (s.chan c).wq = []) (hmarks : (s.chan c).marks = [])
    (haddr : ∀ k, k < n → addrOfLine c (line + k) = a + 64 * k) : ∃ t, RowsOnly c s t ∧
    (List.range n).foldl (fun (r : Nat × Bool × State) k =>
      (r.1 + (readLine c (line + k) (mask k) r.2.2).1 * 2 ^ (512 * k), r.2.1 && (readLine c (line + k) (mask k) r.2.2).2.1, (readLine c (line + k) (mask k) r.2.2).2.2)) (0, true, s) = (s.rdMem (64 * n) a, true, t) := by
  induction n with
  | zero => exact ⟨s, .refl, rfl⟩
  | succ n ih =>
    obtain ⟨t, ht, hfold⟩ := ih fun k hk => haddr k (by omega)
    obtain ⟨ch, hch, hwq', hmarks'⟩ := id ht
    have hread := readLine_clean (s := t) (c := c) (line := line + n) (by rw [State.rdi_of_regs (s := s) (by rw [hch]), hwm]) (hwq'.trans hwq) (hmarks'.trans hmarks) (mask n)
    refine ⟨touchRow c ((line + n) / 2) t, ht.trans (touchRow_only ..), ?_⟩
    rw [List.range_succ, List.foldl_append, hfold, List.foldl_cons, List.foldl_nil]
    dsimp only
    rw [hread, haddr n (by omega), Nat.mul_succ, rdMem_append, rdMem_congr (s := s) (t := t) (by rw [hch]), Nat.mul_comm (256 ^ (64 * n)), show (256 : Nat) = 2 ^ 8 from rfl, ← Nat.pow_mul,
      show 8 * (64 * n) = 512 * n by omega]
    rfl

theorem dramServe_rd (hop : q.op = RD) (hready : drcState s (bits q.addr 8 3) = drcREADY) (hwm : s.rdi DRC_FILLWM_WM (oCh (bits q.addr 8 3)) = 0)
    (hwq : (s.chan (bits q.addr 8 3)).wq = []) (hmarks : (s.chan (bits q.addr 8 3)).marks = []) (ha : q.addr < 2 ^ 38) (halign : q.addr % 64 = 0)
    (hblock : q.addr % 256 + 64 * q.uidx < 256) : ∃ t, RowsOnly (bits q.addr 8 3) s t ∧ dramServe q s = (.ok (s.rdMem (64 * (q.uidx + 1)) q.addr), t) := by
  obtain ⟨t, ht, hfold⟩ := readLines_clean (s := s) (c := bits q.addr 8 3) q.addr (lineOfAddr q.addr)
    (fun u => rangeMask (if u = 0 then q.bfirst else 0) (if u = q.uidx then q.blast else 63)) (q.uidx + 1) hwm hwq hmarks fun k hk => addrOfLine_line ha rfl halign (by omega)
  refine ⟨t, ht, ?_⟩
  unfold dramServe
  simp only [hop, hready]
  rw [if_neg (by decide), if_neg (by decide), if_neg (by simp), if_pos trivial, hfold]
  rfl

/-- The digits of a number that is made of bytes. -/
theorem byte_of_sum {f : Nat → Nat} (hf : ∀ i, f i < 256) (n : Nat) : (List.range n).foldl (fun m i => m + f i * 2 ^ (8 * i)) 0 < 256 ^ n ∧
    ∀ j, j < n → (List.range n).foldl (fun m i => m + f i * 2 ^ (8 * i)) 0 / 256 ^ j % 256 = f j := by
  induction n with
  | zero => exact ⟨by simp, fun j hj => absurd hj (by omega)⟩
  | succ n ih =>
    obtain ⟨hlt, hdigit⟩ := ih
    rw [List.range_succ, List.foldl_append, List.foldl_cons, List.foldl_nil]
    generalize (List.range n).foldl (fun m i => m + f i * 2 ^ (8 * i)) 0 = x at *
    rw [Nat.pow_mul]
    have hfn := hf n
    refine ⟨?_, fun j hj => ?_⟩
    · change x + f n * 256 ^ n < 256 ^ n * 256
      have hle : f n * 256 ^ n ≤ 255 * 256 ^ n := Nat.mul_le_mul_right _ (by omega)
      omega
    · rcases Nat.lt_succ_iff_lt_or_eq.1 hj with hlow | rfl
      · obtain ⟨k, hk⟩ := Nat.exists_eq_add_of_lt hlow
        rw [← hdigit j hlow, hk]
        change (x + f (j + k + 1) * 256 ^ (j + k + 1)) / 256 ^ j % 256 = _
        rw [show f (j + k + 1) * 256 ^ (j + k + 1) = 256 ^ j * (256 * (f (j + k + 1) * 256 ^ k)) by ring, Nat.add_mul_div_left _ _ (Nat.pow_pos (by decide)), Nat.add_mul_mod_self_left]
      · change (x + f j * 256 ^ j) / 256 ^ j % 256 = f j
        rw [Nat.add_mul_div_right _ _ (Nat.pow_pos (by decide)), Nat.div_eq_of_lt hlt, Nat.zero_add, Nat.mod_eq_of_lt hfn]

theorem mergeLine_byte (old new mask : Nat) {j : Nat} (hj : j < 64) :
    mergeLine old new mask / 256 ^ j % 256 = if bit mask j = 1 then new / 256 ^ j % 256 else old / 256 ^ j % 256 := by
  have hf : ∀ i, (if bit mask i = 1 then bits new (8 * i) 8 else bits old (8 * i) 8) < 256 := fun i => by split <;> exact bits_lt _ _ 8
  have hbyte : ∀ x, bits x (8 * j) 8 = x / 256 ^ j % 256 := fun x => by rw [bits, Nat.pow_mul]; rfl
  rw [← hbyte new, ← hbyte old]
  exact (byte_of_sum hf 64).2 j hj

theorem mergeLine_lt (old new mask : Nat) : mergeLine old new mask < 256 ^ 64 :=
  (byte_of_sum (f := fun i => if bit mask i = 1 then bits new (8 * i) 8 else bits old (8 * i) 8) (fun i => by split <;> exact bits_lt _ _ 8) 64).1

theorem bit_fullMask {j : Nat} (hj : j < 64) : bit fullMask j = 1 := by
  unfold bit fullMask
  interval_cases j <;> rfl

theorem mergeLine_full {v : Nat} (hv : v < 2 ^ 512) (old : Nat) : mergeLine old v fullMask = v := by
  have hsum : mergeLine old v fullMask = (List.range 64).foldl (fun m i => m + byteOf v i * 256 ^ i) 0 :=
    List.foldl_ext _ _ _ fun m i hi => by rw [if_pos (bit_fullMask (List.mem_range.1 hi)), bits, byteOf, Nat.pow_mul]; rfl
  rw [hsum, byteSum]
  refine Nat.mod_eq_of_lt (lt_of_lt_of_eq hv ?_)
  rw [show (256 : Nat) = 2 ^ 8 from rfl, ← Nat.pow_mul]

theorem queueWrite_empty {line v : Nat} (hwq : (s.chan c).wq = []) (hv : v < 2 ^ 512) :
    queueWrite c line fullMask v s = s.modChan c fun k => { k with wq := [⟨line, fullMask, v⟩] } := by
  unfold queueWrite State.modChan
  have hmod : ∀ (f g : Chan → Chan), f (s.chan c) = g (s.chan c) → tabMod {} s.chans c f = tabMod {} s.chans c g := fun f g h => by
    unfold tabMod
    rw [show tabGet {} s.chans c = s.chan c from rfl, h]
  rw [hmod _ (fun k => { k with wq := [⟨line, fullMask, v⟩] })]
  simp only [hwq, List.any_nil, Bool.false_eq_true, if_false, List.nil_append, mergeLine_full hv]

theorem dramServe_wr {w : WUnit} (hop : q.op = WR) (hready : drcState s (bits q.addr 8 3) = drcREADY) (hwm : s.rdi DRC_FILLWM_WM (oCh (bits q.addr 8 3)) = 0)
    (hwq : (s.chan (bits q.addr 8 3)).wq = []) (hunits : q.units = [w]) (hfirst : w.first = 0) (hlast : w.last = 63) (hdata : w.data < 2 ^ 512) :
    dramServe q s = (.ok 0, s.modChan (bits q.addr 8 3) fun k => { k with wq := [⟨lineOfAddr q.addr, fullMask, w.data⟩] }) := by
  have hlines : writeLines q = [(lineOfAddr q.addr, fullMask, w.data)] := by
    rw [writeLines, hunits]
    simp [hfirst, hlast, rangeMask, fullMask]
  have hnone : ∀ line, wqEntry s (bits q.addr 8 3) line = none := fun line => by rw [wqEntry, hwq]; rfl
  unfold dramServe
  simp only [hop, hready, hlines, hwm, hwq, hnone, opLock, opAtomic]
  simp [WR, MSG, RD, LRD, ULWR, UNL, AADD, ASWP, ACAS, drcREADY, drcFAILED, wqCap, queueWrite_empty hwq hdata]

/-- What a drain changes: memory and its channel. -/
def Drained (s t : State) : Prop := ∃ mem chans, t = { s with mem, chans }

/-- The bytes that a queued write leaves in its line. -/
def drained (s : State) (c : Nat) (e : WqEnt) : Nat := if e.mask = fullMask then e.data else mergeLine (lineData s c e.line) e.data e.mask

theorem drainLine_clean {e : WqEnt} (hmark : tabGet 0 (s.chan c).marks e.line = 0) :
    drainLine c e true s = setLineMark c e.line 0 (s.wrMem 64 (addrOfLine c e.line) (drained s c e)) := by
  unfold drainLine drained
  split
  · rw [if_pos rfl, lineCheck_clean hmark]
  · simp only [lineCheck_clean hmark, hmark]
    rw [if_neg (by decide)]

theorem drained_byte {e : WqEnt} {j : Nat} (hj : j < 64) :
    drained s c e / 256 ^ j % 256 = if bit e.mask j = 1 then e.data / 256 ^ j % 256 else s.rdByte (addrOfLine c e.line + j) := by
  unfold drained
  split
  · next h => rw [h, if_pos (bit_fullMask hj)]
  · rw [mergeLine_byte _ _ _ hj, lineData, byte_rdMem _ _ _ hj]

theorem drainPair_one {e : WqEnt} (hes : (s.chan c).wq.filter (fun x => x.line / 2 == e.line / 2) = [e]) (hmark : tabGet 0 (s.chan c).marks e.line = 0)
    (hlow : tabGet 0 (s.chan c).marks (2 * (e.line / 2)) = 0) (hhigh : tabGet 0 (s.chan c).marks (2 * (e.line / 2) + 1) = 0) :
    ∃ t, Drained s t ∧ t.mem = (s.wrMem 64 (addrOfLine c e.line) (drained s c e)).mem ∧ (t.chan c).wq = (s.chan c).wq.filter (fun x => x.line / 2 != e.line / 2) ∧
      drainPair c (e.line / 2) s = t := by
  obtain ⟨v, hv⟩ : ∃ v, v = setLineMark c e.line 0 (s.wrMem 64 (addrOfLine c e.line) (drained s c e)) := ⟨_, rfl⟩
  obtain ⟨mem, hmem⟩ := wrMem_eq s 64 (addrOfLine c e.line) (drained s c e)
  have hvmem : v.mem = (s.wrMem 64 (addrOfLine c e.line) (drained s c e)).mem := by rw [hv]; rfl
  have hvd : Drained s v := ⟨mem, v.chans, by rw [hv, hmem]; rfl⟩
  have hvwq : (v.chan c).wq = (s.chan c).wq := by rw [hv, setLineMark, State.chan_modChan, hmem]; rfl
  have hvmark : ∀ l, tabGet 0 (s.chan c).marks l = 0 → tabGet 0 (v.chan c).marks l = 0 := by
    intro l hl
    rw [hv, setLineMark, State.chan_modChan]
    by_cases h : l = e.line
    · rw [h]; exact tabGet_set_same 0 _ e.line 0
    · refine (tabGet_set_ne 0 0 _ 0 h).trans ?_
      rw [hmem]
      exact hl
  have hfold : [2 * (e.line / 2), 2 * (e.line / 2) + 1].foldl (fun s l =>
      if [e].any (fun e => e.line == l) then s
      else if 0 < tabGet 0 (s.chan c).marks l ∧ tabGet 0 (s.chan c).marks l ≤ 20 then setLineMark c l 0 (lineCheck c l s).1 else (lineCheck c l s).1) v = v := by
    have hone : ∀ l, tabGet 0 (v.chan c).marks l = 0 → (if [e].any (fun e => e.line == l) then v
        else if 0 < tabGet 0 (v.chan c).marks l ∧ tabGet 0 (v.chan c).marks l ≤ 20 then setLineMark c l 0 (lineCheck c l v).1 else (lineCheck c l v).1) = v := by
      intro l hl
      split
      · rfl
      · rw [if_neg (by rw [hl]; decide), lineCheck_clean hl]
    rw [List.foldl_cons, List.foldl_cons, List.foldl_nil, hone _ (hvmark _ hlow), hone _ (hvmark _ hhigh)]
  refine ⟨touchRow c (e.line / 2) (v.modChan c fun k => { k with wq := k.wq.filter fun x => x.line / 2 != e.line / 2 }), ?_, ?_, ?_, ?_⟩
  · obtain ⟨ch, hch, -⟩ := touchRow_only c (e.line / 2) (v.modChan c fun k => { k with wq := k.wq.filter fun x => x.line / 2 != e.line / 2 })
    obtain ⟨m, ch', rfl⟩ := hvd
    exact ⟨m, ch, by rw [hch]; rfl⟩
  · obtain ⟨ch, hch, -⟩ := touchRow_only c (e.line / 2) (v.modChan c fun k => { k with wq := k.wq.filter fun x => x.line / 2 != e.line / 2 })
    rw [hch]
    exact hvmem
  · obtain ⟨-, -, hwq, -⟩ := touchRow_only c (e.line / 2) (v.modChan c fun k => { k with wq := k.wq.filter fun x => x.line / 2 != e.line / 2 })
    rw [hwq, State.chan_modChan]
    dsimp only
    rw [hvwq]
  · unfold drainPair
    extract_lets es whole t1 t2
    have hE : es = [e] := hes
    have hwhole : whole = false := by simp [whole, hE]
    have ht1 : t1 = v := by
      simp only [t1, hE, hwhole, List.foldl_cons, List.foldl_nil, Bool.not_false]
      rw [drainLine_clean hmark, hv]
    have ht2 : t2 = v := by
      simp only [t2, ht1, hE]
      exact hfold
    rw [if_neg (by simp [hE]), ht2]

theorem drain_runs (c : Fin 8) (i : Fin 64) (e : WqEnt) (he : (s.chan c).wq[i.val]? = some e) (hready : drcState s c = drcREADY)
    (hes : (s.chan c).wq.filter (fun x => x.line / 2 == e.line / 2) = [e]) (hmark : tabGet 0 (s.chan c).marks e.line = 0) (hlow : tabGet 0 (s.chan c).marks (2 * (e.line / 2)) = 0)
    (hhigh : tabGet 0 (s.chan c).marks (2 * (e.line / 2) + 1) = 0) : ∃ u, exec (.dramWriteQueueDrain c i) s = .next (pump u) ∧
      (u.chan c).wq = (s.chan c).wq.filter (fun x => x.line / 2 != e.line / 2) ∧
      (∀ j, j < 64 → u.rdByte (addrOfLine c e.line + j) = if bit e.mask j = 1 then e.data / 256 ^ j % 256 else s.rdByte (addrOfLine c e.line + j)) ∧
      SameMemOutside (addrOfLine c e.line) 64 s u ∧ SameRegsBut [] s u := by
  obtain ⟨u, hd, hmem, hwq, hdrain⟩ := drainPair_one hes hmark hlow hhigh
  have hcmd : exec (.dramWriteQueueDrain c i) s = .next (pump u) := by
    change execDramWriteQueueDrain c i s = _
    unfold execDramWriteQueueDrain
    simp only [he, if_pos hready, hdrain]
  have hsame := SameMem.of_mem hmem
  refine ⟨u, hcmd, hwq, fun j hj => ?_, fun a ha => (hsame a).trans (SameMemOutside.wrMem s 64 _ _ a ha), ?_⟩
  · rw [hsame, ← drained_byte hj, State.rdByte_wrMem, if_pos (by omega), Nat.add_sub_cancel_left]
  · obtain ⟨_, _, rfl⟩ := hd
    exact .of_regs rfl _

theorem dram_rd (hok : reqOk q = true) (hidle : NetIdle s) (hport : PortOpen q.src s) (htag : TagFree q.src q.tag s) (hc : bits q.addr 8 3 = c) (hcheck : injectCheck s { q with op := RD } = .inr (epDram c))
    (hready : drcState s c = drcREADY) (hwm : s.rdi DRC_FILLWM_WM (oCh c) = 0) (hwq : (s.chan c).wq = []) (hmarks : (s.chan c).marks = []) :
    Yields (exec (.rd q) s) fun t =>
      (∃ v, Answers q RD (epDram c) RDR v (q.uidx + 1) s t ∧ ∀ i, q.bfirst ≤ i → i ≤ 64 * q.uidx + q.blast → v / 256 ^ i % 256 = s.rdByte (q.addr + i)) ∧
      SameMem s t ∧ SameRegsBut [] s t := by
  obtain ⟨hsend, hopen, hepoch⟩ := hport
  have hlt : c < 8 := hc ▸ bits_lt _ _ 3
  obtain ⟨halign, hblock⟩ := injectCheck_rd_block hcheck
  have haddr : q.addr < 2 ^ 38 := inDram_of_addrDst hlt (injectCheck_dst (q := { q with op := RD }) rfl hcheck)
  obtain ⟨u, htaken, hpresent⟩ := present_tagged (q := { q with op := RD }) hidle.1 hopen hepoch htag hcheck rfl rfl
  have hidle' : NetIdle u := htaken.netIdle hidle
  obtain ⟨live, hlive⟩ := htaken
  have hregs : u.regs = s.regs := by rw [hlive]
  obtain ⟨v, ⟨ch, hv, -⟩, hserve⟩ := dramServe_rd (s := u) (q := { q with op := RD, dst := epDram c, epoch := s.welt.stamp }) rfl
    (by rw [drcState, State.rdi_of_regs hregs, hc]; exact hready) (by rw [State.rdi_of_regs hregs, hc]; exact hwm) (by rw [hc, hlive]; exact hwq) (by rw [hc, hlive]; exact hmarks)
    haddr halign (by dsimp only; omega)
  have hserveAt : serveAt { q with op := RD, dst := epDram c, epoch := s.welt.stamp } u = (.ok (u.rdMem (64 * (q.uidx + 1)) q.addr), v) := (serveAt_dram hlt rfl rfl).trans hserve
  have hidlev : NetIdle v := by rw [hv]; exact hidle'.congr rfl rfl rfl rfl rfl
  have hcmd : exec (.rd q) s = .next (answer { q with op := RD, dst := epDram c, epoch := s.welt.stamp } (u.rdMem (64 * (q.uidx + 1)) q.addr) v) := by
    change Host.Outcome.next (weltRow RD q s) = _
    rw [weltRow_sends hsend, hpresent, serveOrHold_ok hidle'.2.1 hserveAt, hidlev.answer.settles]
  obtain ⟨amem, aregs, -⟩ := answer_mem { q with op := RD, dst := epDram c, epoch := s.welt.stamp } (u.rdMem (64 * (q.uidx + 1)) q.addr) v
  have hmemu : u.mem = s.mem := by rw [hlive]
  have hlast : q.blast < 64 := by
    unfold reqOk at hok
    simp only [Bool.and_eq_true, decide_eq_true_eq] at hok
    omega
  rw [hcmd, yields_next]
  refine ⟨⟨u.rdMem (64 * (q.uidx + 1)) q.addr, ?_, fun i hlo hhi => ?_⟩, .of_mem (amem.trans (by rw [hv]; exact hmemu)), .of_regs (aregs.trans (by rw [hv]; exact hregs)) _⟩
  · unfold Answers
    rw [answer_welt rfl, hv, hlive]
    exact ⟨rfl, rfl⟩
  · rw [byte_rdMem _ _ _ (by omega)]
    exact SameMem.of_mem hmemu _

theorem dram_wr {w : WUnit} (hok : reqOk q = true) (hidle : NetIdle s) (hport : PortOpen q.src s) (htag : TagFree q.src q.tag s) (hc : bits q.addr 8 3 = c) (hunits : q.units = [w])
    (hfirst : w.first = 0) (hlast : w.last = 63) (hcheck : injectCheck s { q with op := WR } = .inr (epDram c)) (hready : drcState s c = drcREADY)
    (hwm : s.rdi DRC_FILLWM_WM (oCh c) = 0) (hwq : (s.chan c).wq = []) : Yields (exec (.wr q) s) fun t =>
      Answers q WR (epDram c) WRA 0 0 s t ∧ (t.chan c).wq = [⟨lineOfAddr q.addr, fullMask, w.data⟩] ∧ SameMem s t ∧ SameRegsBut [] s t := by
  obtain ⟨hsend, hopen, hepoch⟩ := hport
  have hlt : c < 8 := hc ▸ bits_lt _ _ 3
  have hdata : w.data < 2 ^ 512 := by
    unfold reqOk at hok
    simp only [Bool.and_eq_true, hunits, List.all_cons, unitOk, decide_eq_true_eq] at hok
    obtain ⟨-, hunit, -⟩ := hok
    exact hunit.2
  obtain ⟨u, htaken, hpresent⟩ := present_tagged (q := { q with op := WR }) hidle.1 hopen hepoch htag hcheck rfl rfl
  have hidle' : NetIdle u := htaken.netIdle hidle
  obtain ⟨live, hlive⟩ := htaken
  have hregs : u.regs = s.regs := by rw [hlive]
  have hserve := dramServe_wr (s := u) (w := w) (q := { q with op := WR, dst := epDram c, epoch := s.welt.stamp }) rfl
    (by rw [drcState, State.rdi_of_regs hregs, hc]; exact hready) (by rw [State.rdi_of_regs hregs, hc]; exact hwm) (by rw [hc, hlive]; exact hwq) hunits hfirst hlast hdata
  obtain ⟨v, hv⟩ : ∃ v, v = u.modChan (bits q.addr 8 3) fun k => { k with wq := [⟨lineOfAddr q.addr, fullMask, w.data⟩] } := ⟨_, rfl⟩
  have hserveAt : serveAt { q with op := WR, dst := epDram c, epoch := s.welt.stamp } u = (.ok 0, v) := (serveAt_dram hlt rfl rfl).trans (hserve.trans (by rw [hv]))
  have hidlev : NetIdle v := by rw [hv]; exact hidle'.congr rfl rfl rfl rfl rfl
  have hcmd : exec (.wr q) s = .next (answer { q with op := WR, dst := epDram c, epoch := s.welt.stamp } 0 v) := by
    change Host.Outcome.next (weltRow WR q s) = _
    rw [weltRow_sends hsend, hpresent, serveOrHold_ok hidle'.2.1 hserveAt, hidlev.answer.settles]
  obtain ⟨amem, aregs, -⟩ := answer_mem { q with op := WR, dst := epDram c, epoch := s.welt.stamp } 0 v
  have hmemv : v.mem = s.mem := by rw [hv, hlive]; rfl
  have hregsv : v.regs = s.regs := by rw [hv, hlive]; rfl
  have hwqv : (v.chan c).wq = [⟨lineOfAddr q.addr, fullMask, w.data⟩] := by rw [hv, hc, State.chan_modChan]
  have hchans : (answer { q with op := WR, dst := epDram c, epoch := s.welt.stamp } 0 v).chan c = v.chan c := rfl
  rw [hcmd, yields_next]
  refine ⟨?_, by rw [hchans]; exact hwqv, .of_mem (amem.trans hmemv), .of_regs (aregs.trans hregsv) _⟩
  unfold Answers
  rw [answer_welt rfl, hv, hlive]
  exact ⟨rfl, rfl⟩

theorem pageIdle_closes (s : State) (c : Fin 8) (b : Fin 32) : Yields (exec (.dramPageIdleExpiry c b) s) fun t => tabGet 0 (t.chan c).rows b = 0 ∧
    (∀ x, x ≠ b.val → tabGet 0 (t.chan c).rows x = tabGet 0 (s.chan c).rows x) ∧ (t.chan c).wq = (s.chan c).wq ∧ SameRegsBut [] s t ∧ SameMem s t := by
  change Yields (execDramPageIdleExpiry c b s) _
  unfold execDramPageIdleExpiry
  rw [yields_next, State.chan_modChan]
  exact ⟨tabGet_erase_same .., fun x hx => tabGet_erase_ne _ _ hx, rfl, .of_regs rfl _, .of_mem rfl⟩

theorem refresh_postponed {b : Fin 32} {c : Fin 8} (hready : drcState s c = drcREADY) (hpost : tabGet 0 (s.chan c).post b < 4) : Yields (exec (.dramRefresh c b true) s) fun t =>
    tabGet 0 (t.chan c).post b = tabGet 0 (s.chan c).post b + 1 ∧ (t.chan c).rows = (s.chan c).rows ∧ SameRegsBut [] s t ∧ SameMem s t := by
  change Yields (execDramRefresh c b true s) _
  unfold execDramRefresh
  rw [if_neg (not_not.2 hready), if_pos ⟨rfl, hpost⟩, yields_next, State.chan_modChan]
  exact ⟨tabGet_mod_same 0 (s.chan c).post b (· + 1), rfl, .of_regs rfl _, .of_mem rfl⟩

theorem refresh_done {b : Fin 32} {c : Fin 8} {postpone : Bool} (hready : drcState s c = drcREADY) (hpost : postpone = false ∨ 4 ≤ tabGet 0 (s.chan c).post b) :
    Yields (exec (.dramRefresh c b postpone) s) fun t => tabGet 0 (t.chan c).post b = 0 ∧ tabGet 0 (t.chan c).rows b = 0 ∧ SameRegsBut [] s t ∧ SameMem s t := by
  have hnow : ¬ (postpone = true ∧ tabGet 0 (s.chan c).post b < 4) := fun ⟨hp, hlt⟩ => hpost.elim (by simp [hp]) (by omega)
  change Yields (execDramRefresh c b postpone s) _
  unfold execDramRefresh
  rw [if_neg (not_not.2 hready), if_neg hnow, yields_next, State.chan_modChan]
  exact ⟨tabGet_erase_same .., tabGet_erase_same .., .of_regs rfl _, .of_mem rfl⟩

theorem dram_warm {x : Int} (hlo : 85 < x) (hhi : x ≤ 95) (c : Fin 8) : Yields (exec (.dramTemperatureRead c x) s) fun t => t.rdi DRC_CHSTAT_TRATE (oCh c) = 1 ∧
    SameRegsBut [DRC_CHSTAT_TRATE.key (oCh c), DRC_CHSTAT_HOT.key (oCh c)] s t ∧ SameMem s t := by
  change Yields (execDramTemperatureRead c x s) _
  unfold execDramTemperatureRead
  simp only [if_pos hlo, if_neg (show ¬ (95 < x ∧ (s.wri DRC_CHSTAT_TRATE (oCh c) 1).rdi DRC_CHSTAT_HOT (oCh c) = 0) from fun h => by omega)]
  have hframe : SameRegsBut [DRC_CHSTAT_TRATE.key (oCh c), DRC_CHSTAT_HOT.key (oCh c)] s (s.wri DRC_CHSTAT_TRATE (oCh c) 1) := SameRegsBut.refl.wri
  split
  · rw [yields_next, State.rdi_wri_off _ (by decide), State.rdi_wri_same]
    exact ⟨rfl, hframe.wri, .of_mem rfl⟩
  · rw [yields_next, State.rdi_wri_same]
    exact ⟨rfl, hframe, .of_mem rfl⟩

theorem dram_hot {x : Int} (hx : 95 < x) (c : Fin 8) : Yields (exec (.dramTemperatureRead c x) s) fun t => t.rdi DRC_CHSTAT_TRATE (oCh c) = 1 ∧
    (s.rdi DRC_CHSTAT_HOT (oCh c) ≤ 1 → t.rdi DRC_CHSTAT_HOT (oCh c) = 1) ∧ t.mode = s.mode ∧ SameMem s t := by
  obtain ⟨u, hu⟩ : ∃ u, u = s.wri DRC_CHSTAT_TRATE (oCh c) 1 := ⟨_, rfl⟩
  have hrate : u.rdi DRC_CHSTAT_TRATE (oCh c) = 1 := by rw [hu, State.rdi_wri_same]; rfl
  have hhot : u.rdi DRC_CHSTAT_HOT (oCh c) = s.rdi DRC_CHSTAT_HOT (oCh c) := by rw [hu, State.rdi_wri_off _ (by decide)]
  have hmode : u.mode = s.mode := by rw [hu, State.wri_mode_above _ (by decide)]
  have hmem : u.mem = s.mem := by rw [hu, State.mem_wri]
  change Yields (execDramTemperatureRead c x s) _
  unfold execDramTemperatureRead
  simp only [if_pos (show 85 < x by omega), ← hu]
  split
  · next hzero =>
    obtain ⟨v, hv⟩ : ∃ v, v = drcLog 9 c 31 0 0 (u.wri DRC_CHSTAT_HOT (oCh c) 1) := ⟨_, rfl⟩
    have hvhot : v.rdi DRC_CHSTAT_HOT (oCh c) = 1 := by rw [hv, drcLog, State.push2_rdi, State.rdi_wri_same]; rfl
    have hvmode : v.mode = s.mode := by rw [hv, drcLog, State.push2_mode, State.wri_mode_above _ (by decide), hmode]
    have hvmem : v.mem = s.mem := by exact hv ▸ hmem
    rw [← hv, yields_next, State.record_rdi _ _ _ _ _ (Fld.key_ne_of_lo (by decide) (by decide) (by decide) _ _), State.record_rdi _ _ _ _ _ (Fld.key_ne_of_lo (by decide) (by decide) (by decide) _ _), State.rdi_wri_same,
      State.rdi_wri_off _ (by decide), hvhot, State.record_mode, State.wri_mode_above _ (by decide), hvmode]
    exact ⟨rfl, fun _ => rfl, rfl, .of_mem (by simpa only [State.record_frame, State.mem_wri] using hvmem)⟩
  · next hset =>
    rw [if_neg (by omega), yields_next]
    have hone : u.rdi DRC_CHSTAT_HOT (oCh c) ≠ 0 := fun h => hset ⟨hx, h⟩
    exact ⟨hrate, fun hle => by omega, hmode, .of_mem hmem⟩

theorem dram_cool {x : Int} (hx : x < 82) (c : Fin 8) : Yields (exec (.dramTemperatureRead c x) s) fun t =>
    t.rdi DRC_CHSTAT_TRATE (oCh c) = 0 ∧ t.rdi DRC_CHSTAT_HOT (oCh c) = 0 ∧ SameMem s t := by
  change Yields (execDramTemperatureRead c x s) _
  unfold execDramTemperatureRead
  simp only [if_neg (show ¬ 85 < x by omega), if_pos hx, if_pos (show x < 92 by omega), if_neg (show ¬ (95 < x ∧ (s.wri DRC_CHSTAT_TRATE (oCh c) 0).rdi DRC_CHSTAT_HOT (oCh c) = 0) from fun h => by omega)]
  rw [yields_next, State.rdi_wri_off _ (by decide), State.rdi_wri_same, State.rdi_wri_same]
  exact ⟨rfl, rfl, .of_mem rfl⟩

theorem zeroFill_lowers {wm : Nat} (c : Fin 8) (hready : drcState s c = drcREADY) (hlow : wm < s.rdi DRC_FILLWM_WM (oCh c)) (hwm : wm < 2 ^ DRC_FILLWM_WM.w) :
    ∃ u, exec (.dramZeroFill c wm) s = .next (pump u) ∧ u.rdi DRC_FILLWM_WM (oCh c) = wm ∧ (wm = 0 → bit (u.rd DRC_STAT_FILLED) c = 1) ∧ SameMem s u := by
  obtain ⟨v, hv⟩ : ∃ v, v = s.wri DRC_FILLWM_WM (oCh c) wm := ⟨_, rfl⟩
  have hmark : v.rdi DRC_FILLWM_WM (oCh c) = wm := by rw [hv, State.rdi_wri_same, Nat.mod_eq_of_lt hwm]
  have hmem : v.mem = s.mem := by rw [hv, State.mem_wri]
  refine ⟨if wm = 0 then v.wr DRC_STAT_FILLED (v.rd DRC_STAT_FILLED ||| 2 ^ c.val) else v, ?_, ?_, fun h0 => ?_, ?_⟩
  · change execDramZeroFill c wm s = _
    unfold execDramZeroFill
    rw [if_pos ⟨hready, hlow⟩, hv]
  · split
    · exact (State.rdi_wr_ne _ _ (Fld.key_ne_of_lo (by decide) (by decide) (by decide) _ _)).trans hmark
    · exact hmark
  · rw [if_pos h0]
    exact (congrArg (bit · c.val) (State.rdi_wri_same ..)).trans ((bit_mod_two_pow c.isLt _).trans (bit_lor_self ..))
  · split
    · exact .of_mem hmem
    · exact .of_mem hmem
end

/-- Settles O44. -/
theorem dramTraffic : Obligations.DramTraffic := by
  refine ⟨?_, ?_, ?_, pageIdle_closes, ?_, ?_, ?_, ?_, ?_, ?_⟩
  · intro s q c hok hidle hport htag hc hcheck hready hwm hwq hmarks
    exact dram_rd hok hidle hport htag hc hcheck hready hwm hwq hmarks
  · intro s q c w hok hidle hport htag hc hunits hfirst hlast hcheck hready hwm hwq
    exact dram_wr hok hidle hport htag hc hunits hfirst hlast hcheck hready hwm hwq
  · intro s c i e he hready hes hmark hlow hhigh
    exact drain_runs c i e he hready hes hmark hlow hhigh
  · exact fun s c b hready hpost => refresh_postponed hready hpost
  · exact fun s c b postpone hready hpost => refresh_done hready hpost
  · exact fun s c x hlo hhi => dram_warm hlo hhi c
  · exact fun s c x hx => dram_hot hx c
  · exact fun s c x hx => dram_cool hx c
  · exact fun s c wm hready hlow hwm => zeroFill_lowers c hready hlow hwm
end Sys2Proof.Machine

namespace Sys2Proof.Machine

set_option Elab.async false

/-! Queue operations (R206 to R211) -/

section
variable {s t u : State} {e tag q k v : Nat} {add : Bool}

/-- The request that operates on word `k` of a queue's context: an AADD, or a write of the word. -/
def queReq (add : Bool) (e tag q k v : Nat) : Req := if add then ctxAdd e tag q k v else ctxWrite e tag false q k v

theorem queReq_op (add : Bool) (e tag q k v : Nat) : (queReq add e tag q k v).op = if add then AADD else WR := by cases add <;> rfl

theorem queReq_src (add : Bool) (e tag q k v : Nat) : (queReq add e tag q k v).src = e ∧ (queReq add e tag q k v).tag = tag := by cases add <;> exact ⟨rfl, rfl⟩

/-- The address of the request lies in the 64-byte block of the word. -/
theorem queReq_addr (add : Bool) (e tag q k v : Nat) : (queReq add e tag q k v).addr / 64 = ctxAddr q k / 64 ∧ (queReq add e tag q k v).addr ≤ ctxAddr q k := by
  cases add
  · change (ctxAddr q k - ctxAddr q k % 64) / 64 = _ ∧ ctxAddr q k - ctxAddr q k % 64 ≤ _
    omega
  · exact ⟨rfl, le_rfl⟩

theorem inLast_of_block {a : Nat} (hq : q < 65536) (hk : k < 4) (ha : a / 64 = ctxAddr q k / 64) : inLast a = true ∧ a < lastBase + 0x200000 ∧ inVault a = false := by
  unfold ctxAddr lastBase at ha
  refine ⟨?_, ?_, ?_⟩
  · simp only [inLast, Bool.and_eq_true, decide_eq_true_eq]
    unfold lastBase
    omega
  · unfold lastBase
    omega
  · simp only [inVault, Bool.and_eq_false_iff, decide_eq_false_iff_not]
    unfold vaultBase
    omega

theorem queReq_aligned : aligned (queReq add e tag q k v) = true := by
  cases add
  · have hpos : ctxAddr q k % 64 + 7 < 64 ∧ (ctxAddr q k - ctxAddr q k % 64) % 64 = 0 ∧ (ctxAddr q k - ctxAddr q k % 64) % 256 + 64 ≤ 256 := by
      unfold ctxAddr lastBase
      omega
    obtain ⟨-, hblock, hend⟩ := hpos
    unfold aligned queReq ctxWrite
    simp [opMsg, WR, RD, LRD, UNL, ACAS, AADD, ASWP, ULWR, GMSG, MSG, hblock, hend]
  · have hpos : ctxAddr q k % 8 = 0 := by unfold ctxAddr lastBase; omega
    unfold aligned queReq ctxAdd
    simp [opMsg, AADD, RD, LRD, UNL, ACAS, GMSG, MSG, hpos]

theorem queReq_check (hq : q < 65536) (hk : k < 4) : injectCheck s (queReq add e tag q k v) = .inr epLast := by
  obtain ⟨hin, -, -⟩ := inLast_of_block hq hk (queReq_addr add e tag q k v).1
  have hdram : inDram (queReq add e tag q k v).addr = false := by
    simp only [inLast, Bool.and_eq_true, decide_eq_true_eq] at hin
    simp only [inDram, decide_eq_false_iff_not]
    unfold lastBase at hin
    omega
  have hdst : addrDst s (queReq add e tag q k v).addr = some epLast := by
    unfold addrDst
    rw [if_neg (by simp [hdram]), if_pos (by simp [hin])]
  have hop : opMsg (queReq add e tag q k v).op = false := by cases add <;> rfl
  have hcls : (queReq add e tag q k v).cls = 1 ∧ (queReq add e tag q k v).len = 1 ∧ opClass (queReq add e tag q k v).op = some 1 := by cases add <;> exact ⟨rfl, rfl, rfl⟩
  obtain ⟨hcls, hlen, hclass⟩ := hcls
  unfold injectCheck
  simp only [hcls, hlen, hclass, hop, hdst, queReq_aligned]
  simp

/-! The context's words are good, and the operation is applied to them -/

theorem ctxReads_clean {ws : List Nat} (h : ∀ a ∈ ws, tabGet 0 s.marks a = 0) : ctxReads ws s = (true, s) := by
  have hfold : ∀ (ws : List Nat), (∀ a ∈ ws, tabGet 0 s.marks a = 0) → ws.foldl (fun (r : Bool × State) a => match tabGet 0 s.marks a with
      | 0 => r
      | 1 => (r.1, cobCorrected 3 12 ((a - lastBase) / 8) r.2)
      | _ => (false, ctxUe a r.2)) (true, s) = (true, s) := by
    intro ws
    induction ws with
    | nil => intro _; rfl
    | cons a ws ih =>
      intro h
      rw [List.foldl_cons, h a (List.mem_cons_self ..)]
      exact ih fun b hb => h b (List.mem_cons_of_mem _ hb)
  exact (hfold ws h :)

/-- What an operation that names word `k` of a good context gives. -/
def queAnswer (q k : Nat) (add : Bool) (v : Nat) (s : State) : Ans × State :=
  if (qOp q k add v s).1 = 0 then (.ok (ctxWord s q k), qFinish q k (qOp q k add v s).2) else (.err (qOp q k add v s).1, qRefused q (qOp q k add v s).2)

theorem queServe_form {dst epoch : Nat} (hk : k = 2 ∨ k = 3) (hv : v < 2 ^ 64) (hmarks : ∀ j, j < 4 → tabGet 0 s.marks (ctxAddr q j) = 0) :
    queServe { queReq add e tag q k v with dst, epoch } s = queAnswer q k add v (s.inci QUE_OPS_COUNT 0) := by
  have hreads : ctxReads ((List.range 4).map (ctxAddr q)) (s.inci QUE_OPS_COUNT 0) = (true, s.inci QUE_OPS_COUNT 0) :=
    ctxReads_clean fun a ha => by
      obtain ⟨j, hj, rfl⟩ := List.mem_map.1 ha
      exact hmarks j (List.mem_range.1 hj)
  have hword : (ctxAddr q k - lastBase) / 32 = q ∧ (ctxAddr q k - lastBase) / 8 % 4 = k := by
    unfold ctxAddr
    omega
  obtain ⟨hq, hkk⟩ := hword
  cases add
  · have hsum : ctxAddr q k - ctxAddr q k % 64 + ctxAddr q k % 64 = ctxAddr q k := Nat.sub_add_cancel (Nat.mod_le _ _)
    have height : ctxAddr q k % 64 % 8 = 0 := by unfold ctxAddr lastBase; omega
    have hdata : bits (v * 256 ^ (ctxAddr q k % 64)) (8 * (ctxAddr q k % 64)) 64 = v := by
      rw [bits, Nat.pow_mul]
      exact (congrArg (· % 2 ^ 64) (Nat.mul_div_cancel v (Nat.pow_pos (by decide)))).trans (Nat.mod_eq_of_lt hv)
    unfold queServe queReq ctxWrite
    simp [WR, RD, AADD, hsum, height, hq, hkk, hreads, hdata, show ¬ k < 2 by omega]
    rfl
  · unfold queServe queReq ctxAdd
    have hdata : v % 18446744073709551616 = v := Nat.mod_eq_of_lt hv
    simp [AADD, RD, hq, hkk, hreads, hdata, show ¬ k < 2 by omega]
    rfl

theorem serveAt_last {r : Req} (hdst : r.dst = epLast) (hop : opMsg r.op = false) : serveAt r s = lastServe r s := by
  unfold serveAt
  rw [hdst, hop]
  rfl

/-- A request in the context area of a segment that is ON reaches the queue unit. -/
theorem lastServe_que {r : Req} (hq : q < 65536) (hk : k < 4) (ha : r.addr / 64 = ctxAddr q k / 64) (hunit : unitState s (lastUnit (ctxAddr q 0)) = 0) :
    lastServe r s = queServe r s := by
  obtain ⟨hin, harea, hvault⟩ := inLast_of_block hq hk ha
  have hsame : lastUnit r.addr = lastUnit (ctxAddr q 0) := by
    obtain ⟨-, -, hvault0⟩ := inLast_of_block hq (show 0 < 4 by decide) (rfl : ctxAddr q 0 / 64 = _)
    unfold lastUnit
    rw [hvault, hvault0]
    simp only [Bool.false_eq_true, if_false]
    unfold ctxAddr lastBase at *
    omega
  unfold lastServe
  simp only [hsame, hunit, hvault]
  rw [if_neg (by simp), if_neg (by decide), if_neg (by simp), if_neg (by simp), if_pos ⟨hin, harea⟩]

/-- The state on which the operation of a request that its port has taken is carried out. -/
def QueTaken (s t : State) : Prop := t.mem = s.mem ∧ t.qmasks = s.qmasks ∧ NetIdle t ∧ t.welt.resps = s.welt.resps ∧ t.welt.stamp = s.welt.stamp ∧
  SameRegsBut [QUE_OPS_COUNT.key 0] s t

/-- The request is taken and counted, and its operation carried out. -/
theorem present_que (hready : QueReady e tag q s) (hq : q < 65536) (hk : k = 2 ∨ k = 3) (hv : v < 2 ^ 64) :
    ∃ u t, QueTaken s t ∧ u.welt.held = [] ∧ present (queReq add e tag q k v) s = serveOrHold { queReq add e tag q k v with dst := epLast, epoch := s.welt.stamp } u ∧
      serveAt { queReq add e tag q k v with dst := epLast, epoch := s.welt.stamp } u = queAnswer q k add v t := by
  obtain ⟨hidle, hopen, hepoch, htag, hunit, hmarks, -, -⟩ := hready
  obtain ⟨hsrc, htg⟩ := queReq_src add e tag q k v
  obtain ⟨u, htaken, hpresent⟩ := present_tagged (q := queReq add e tag q k v) hidle.1 hopen hepoch (by rw [hsrc, htg]; exact htag) (queReq_check hq (by omega))
    (by rw [queReq_op]; cases add <;> rfl) (by rw [queReq_op]; cases add <;> rfl)
  have hidle' : NetIdle u := htaken.netIdle hidle
  obtain ⟨live, hlive⟩ := htaken
  have hregs : u.regs = s.regs := by rw [hlive]
  have hunit' : unitState u (lastUnit (ctxAddr q 0)) = 0 := by
    refine Eq.trans ?_ hunit
    unfold unitState
    rw [State.rdi_of_regs hregs, State.rd_eq, State.rdi_of_regs hregs]
    rfl
  refine ⟨u, u.inci QUE_OPS_COUNT 0, ⟨?_, ?_, ?_, ?_, ?_, ?_⟩, hidle'.2.1, hpresent, ?_⟩
  · rw [hlive]; rfl
  · rw [hlive]; rfl
  · exact hidle'.congr rfl rfl rfl rfl rfl
  · rw [hlive]; rfl
  · rw [hlive]; rfl
  · exact (SameRegsBut.of_regs hregs _).addi
  · have hmsg : opMsg ({ queReq add e tag q k v with dst := epLast, epoch := s.welt.stamp } : Req).op = false := by cases add <;> rfl
    exact (serveAt_last rfl hmsg).trans ((lastServe_que (r := { queReq add e tag q k v with dst := epLast, epoch := s.welt.stamp }) hq (k := k) (by omega)
      (queReq_addr add e tag q k v).1 hunit').trans (queServe_form hk hv fun j hj => by rw [hlive]; exact hmarks j hj))

/-! What an operation changes -/

/-- `t` is `s` with another memory and other masks. -/
def QueOnly (s t : State) : Prop := ∃ mem qmasks, t = { s with mem, qmasks }

theorem QueOnly.refl : QueOnly s s := ⟨_, _, rfl⟩

theorem QueOnly.setCtx {q k lo w v : Nat} (h : QueOnly s t) : QueOnly s (setCtx q k lo w v t) := by
  obtain ⟨m, hm⟩ := MemOnly.setCtx q k lo w v t
  obtain ⟨m', qm, rfl⟩ := h
  exact ⟨m, qm, hm⟩

theorem QueOnly.setCtxWord {q k v : Nat} (h : QueOnly s t) : QueOnly s (setCtxWord q k v t) := by
  obtain ⟨m, hm⟩ := MemOnly.setCtxWord q k v t
  obtain ⟨m', qm, rfl⟩ := h
  exact ⟨m, qm, hm⟩

theorem QueOnly.setMask {i v : Nat} (h : QueOnly s t) : QueOnly s { t with qmasks := tabSet 0 t.qmasks i v } := by
  obtain ⟨m', qm, rfl⟩ := h
  exact ⟨_, _, rfl⟩

theorem QueOnly.netIdle (h : QueOnly s t) (hidle : NetIdle s) : NetIdle t := by
  obtain ⟨m, qm, rfl⟩ := h
  exact hidle.congr rfl rfl rfl rfl rfl

/-- A consumer's operation arms the queue. -/
def armedAfter (q k : Nat) (s : State) : State := if k = 3 then setCtx q 1 26 1 1 s else s

theorem QueOnly.armedAfter (h : QueOnly s t) : QueOnly s (armedAfter q k t) := by
  unfold Machine.armedAfter
  split
  · exact h.setCtx
  · exact h

theorem ctxWord_armedAfter {j : Nat} (hj : j ≠ 1) (q k : Nat) (s : State) : ctxWord (armedAfter q k s) q j = ctxWord s q j := by
  unfold armedAfter
  split
  · exact ctxWord_setCtx_ne hj ..
  · rfl

theorem qFinish_silent (h : qNmode s q = 0) : qFinish q k s = armedAfter q k s := by
  have hmode : qNmode (armedAfter q k s) q = 0 := by rw [qNmode, ctxWord_armedAfter (by decide)]; exact h
  exact evalNotify_of_silent hmode

/-- An operation that is carried out answers with the word as it was. -/
theorem que_done (hready : QueReady e tag q s) (hq : q < 65536) (hk : k = 2 ∨ k = 3) (hv : v < 2 ^ 64) (x : State → State)
    (hop : ∀ t, t.mem = s.mem → t.qmasks = s.qmasks → qOp q k add v t = (0, x t)) (honly : ∀ t, QueOnly t (x t)) (hword : ∀ t, ctxWord (x t) q 0 = ctxWord t q 0) :
    ∃ t y, t.mem = s.mem ∧ t.qmasks = s.qmasks ∧ inject (queReq add e tag q k v) s = y ∧ y.mem = (armedAfter q k (x t)).mem ∧ y.qmasks = (armedAfter q k (x t)).qmasks ∧
      y.welt.resps = s.welt.resps ++ [⟨e, epLast, tag, if add then ATR else WRA, 0, ctxWord s q k, if add then 1 else 0, s.welt.stamp⟩] ∧
      SameRegsBut [QUE_OPS_COUNT.key 0] s y := by
  obtain ⟨u, t, ⟨hmem, hmasks, hidle, hresps, hstamp, hregs⟩, hheld, hpresent, hserve⟩ := present_que (add := add) hready hq hk hv
  obtain ⟨-, -, -, -, -, -, -, hsilent⟩ := hready
  have hword0 : ∀ j, ctxWord t q j = ctxWord s q j := fun j => ctxWord_congr hmem ..
  have hfinish : qFinish q k (x t) = armedAfter q k (x t) := qFinish_silent (by rw [qNmode, hword, hword0]; exact hsilent)
  have hans : queAnswer q k add v t = (.ok (ctxWord s q k), armedAfter q k (x t)) := by
    unfold queAnswer
    rw [hop t hmem hmasks, if_pos rfl, hfinish, hword0]
  have honly' : QueOnly t (armedAfter q k (x t)) := (honly t).armedAfter
  obtain ⟨z, hz⟩ : ∃ z, z = armedAfter q k (x t) := ⟨_, rfl⟩
  rw [← hz] at hans honly'
  obtain ⟨r, hr⟩ : ∃ r : Req, r = { queReq add e tag q k v with dst := epLast, epoch := s.welt.stamp } := ⟨_, rfl⟩
  rw [← hr] at hpresent hserve
  have hrop : r.op = if add then AADD else WR := by rw [hr]; exact queReq_op ..
  have hrid : r.src = e ∧ r.tag = tag ∧ r.dst = epLast := by
    obtain ⟨h1, h2⟩ := queReq_src add e tag q k v
    rw [hr]
    exact ⟨h1, h2, rfl⟩
  obtain ⟨hsrc, htag, hdst⟩ := hrid
  have hinject : inject (queReq add e tag q k v) s = answer r (ctxWord s q k) z := by
    rw [inject, hpresent, serveOrHold_ok hheld (hserve.trans hans), pump_of_netIdle (honly'.netIdle hidle).answer]
  obtain ⟨amem, aregs, -⟩ := answer_mem r (ctxWord s q k) z
  have hpost : opPosted r.op = false := by rw [hrop]; cases add <;> rfl
  have amasks : (answer r (ctxWord s q k) z).qmasks = z.qmasks := by
    unfold answer
    split <;> rfl
  refine ⟨t, _, hmem, hmasks, hinject, amem.trans (by rw [hz]), amasks.trans (by rw [hz]), ?_, ?_⟩
  · obtain ⟨m, qm, hzt⟩ := honly'
    rw [answer_welt hpost, hsrc, htag, hdst, hrop, hzt, ← hresps, ← hstamp]
    cases add <;> rfl
  · obtain ⟨m, qm, hzt⟩ := honly'
    exact hregs.congr (aregs.trans (by rw [hzt]))

/-- An operation that is refused is counted, and answered with its status. -/
theorem que_refused {st : Nat} (hready : QueReady e tag q s) (hq : q < 65536) (hk : k = 2 ∨ k = 3) (hv : v < 2 ^ 64) (hst : st ≠ 0)
    (hop : ∀ t, t.mem = s.mem → t.qmasks = s.qmasks → qOp q k add v t = (st, t)) :
    ∃ t y, t.mem = s.mem ∧ inject (queReq add e tag q k v) s = y ∧ y.mem = (setCtx q 1 48 16 (min (bits (ctxWord t q 1) 48 16 + 1) 65535) t).mem ∧
      y.welt.resps = s.welt.resps ++ [⟨e, epLast, tag, ERR, st, st, 1, s.welt.stamp⟩] := by
  obtain ⟨u, t, ⟨hmem, hmasks, hidle, hresps, hstamp, hregs⟩, hheld, hpresent, hserve⟩ := present_que (add := add) hready hq hk hv
  obtain ⟨z, hz⟩ : ∃ z, z = qRefused q t := ⟨_, rfl⟩
  have hans : queAnswer q k add v t = (.err st, z) := by
    unfold queAnswer
    rw [hop t hmem hmasks, if_neg hst, hz]
  obtain ⟨m, hm⟩ := MemOnly.setCtx q 1 48 16 (min (bits (ctxWord t q 1) 48 16 + 1) 65535) t
  have hzmem : z.mem = (setCtx q 1 48 16 (min (bits (ctxWord t q 1) 48 16 + 1) 65535) t).mem := by rw [hz]; rfl
  have hzwelt : z.welt = t.welt := by rw [hz, qRefused, hm]; rfl
  have hidlez : NetIdle z := by
    refine hidle.congr (by rw [hzwelt]) (by rw [hzwelt]) ?_ ?_ ?_ <;> (rw [hz, qRefused, hm]; rfl)
  obtain ⟨r, hr⟩ : ∃ r : Req, r = { queReq add e tag q k v with dst := epLast, epoch := s.welt.stamp } := ⟨_, rfl⟩
  rw [← hr] at hpresent hserve
  have hrop : r.op = if add then AADD else WR := by rw [hr]; exact queReq_op ..
  have hrid : r.src = e ∧ r.tag = tag ∧ r.dst = epLast := by
    obtain ⟨h1, h2⟩ := queReq_src add e tag q k v
    rw [hr]
    exact ⟨h1, h2, rfl⟩
  obtain ⟨hsrc, htag, hdst⟩ := hrid
  have hpost : opPosted r.op = false := by rw [hrop]; cases add <;> rfl
  have hinject : inject (queReq add e tag q k v) s = refuse r st z := by
    rw [inject, hpresent, serveOrHold_err hheld (hserve.trans hans), pump_of_netIdle hidlez.refuse]
  obtain ⟨rresps, -, -, rmem⟩ := refuse_spec hpost st z
  refine ⟨t, _, hmem, hinject, rmem.trans hzmem, ?_⟩
  rw [rresps, hzwelt, hresps, hstamp, hsrc, htag, hdst]


/-! The marks of what is committed or released out of order -/

theorem bit_ones {k j : Nat} : bit (2 ^ k - 1) j = if j < k then 1 else 0 := by
  rw [bit_eq_toNat, Nat.testBit_two_pow_sub_one]
  by_cases h : j < k <;> simp [h]

theorem lowRun_ones {k : Nat} (hk : k ≤ 32) : lowRun (2 ^ k - 1) = k := by
  have hfind : (List.range 33).find? (fun j => bit (2 ^ k - 1) j == 0) = some k := by
    rw [List.find?_range_eq_some]
    refine ⟨by simp [bit_ones], List.mem_range.2 (by omega), fun j hj => ?_⟩
    simp [bit_ones, hj]
  unfold lowRun
  rw [hfind]
  rfl

theorem lowRun_even {m o : Nat} (ho : 1 ≤ o) : lowRun (m * 2 ^ o) = 0 := by
  have hbit : bit (m * 2 ^ o) 0 = 0 := by
    obtain ⟨n, rfl⟩ := Nat.exists_eq_add_of_le' ho
    rw [bit, Nat.pow_zero, Nat.div_one, Nat.pow_succ, ← Nat.mul_assoc]
    exact Nat.mul_mod_left _ 2
  have hfind : (List.range 33).find? (fun j => bit (m * 2 ^ o) j == 0) = some 0 := by
    rw [List.find?_range_eq_some]
    exact ⟨by simp [hbit], List.mem_range.2 (by omega), fun j hj => absurd hj (by omega)⟩
  unfold lowRun
  rw [hfind]
  rfl

theorem runMask_zero (k : Nat) : runMask 0 k = 2 ^ k - 1 := by simp [runMask]


/-! Each operation, on a state with the same memory and masks -/

theorem ctxWord_setPmask (q v p k : Nat) (s : State) : ctxWord (setPmask q v s) p k = ctxWord s p k := ctxWord_congr (t := setPmask q v s) (s := s) rfl p k

theorem ctxWord_setCmask (q v p k : Nat) (s : State) : ctxWord (setCmask q v s) p k = ctxWord s p k := ctxWord_congr (t := setCmask q v s) (s := s) rfl p k

theorem SameMem.outside {a n : Nat} (h : SameMem s t) : SameMemOutside a n s t := fun b _ => h b

theorem queFields_congr (h : t.mem = s.mem) (q : Nat) : qEn t q = qEn s q ∧ qMp t q = qMp s q ∧ qMc t q = qMc s q ∧ qTail t q = qTail s q ∧ qResv t q = qResv s q ∧
    qHead t q = qHead s q ∧ qClaim t q = qClaim s q ∧ qN t q = qN s q := by
  simp only [qEn, qMp, qMc, qTail, qResv, qHead, qClaim, qN, qLog2n, ctxWord_congr h, and_self]

theorem qOp_doorbell (h : t.mem = s.mem) (hen : qEn s q = true) (hmp : qMp s q = false) (hv : v < 2 ^ 32) :
    qOp q 2 false v t = if qN s q < sub32 v (qTail s q) + sub32 (qTail s q) (qHead s q) then (ST_QUE_FULL, t) else (0, setCtxWord q 2 (v + v * 2 ^ 32) t) := by
  obtain ⟨en, mp, mc, tail, resv, head, claim, n⟩ := queFields_congr h q
  unfold qOp qDoorbell
  simp only [en, mp, tail, head, n, hen, hmp, Nat.mod_eq_of_lt hv]
  rfl

theorem qOp_reserve {k : Nat} (h : t.mem = s.mem) (hen : qEn s q = true) (hmp : qMp s q = true) (hk1 : 1 ≤ k) (hk : k ≤ 32)
    (hroom : sub32 (qResv s q) (qHead s q) + k ≤ qN s q) (hwin : sub32 (qResv s q) (qTail s q) + k ≤ 32) :
    qOp q 2 true k t = (0, setCtx q 2 32 32 (add32 (qResv s q) k) t) := by
  obtain ⟨en, mp, mc, tail, resv, head, claim, n⟩ := queFields_congr h q
  unfold qOp qReserve
  simp only [en, mp, tail, resv, head, n, hen, hmp, Nat.mod_eq_of_lt (show k < 2 ^ 64 by omega)]
  rw [if_pos trivial, if_pos trivial, if_pos trivial, if_neg (by decide), if_neg (by omega), if_neg (by omega), if_neg (by omega)]

theorem bits_pair {i k : Nat} (hi : i < 2 ^ 32) (hk : k < 2 ^ 32) : (i + k * 2 ^ 32) % 2 ^ 32 = i ∧ bits (i + k * 2 ^ 32) 32 32 = k := by
  unfold bits
  omega

theorem qOp_commit {i k : Nat} (h : t.mem = s.mem) (hmasks : t.qmasks = s.qmasks) (hen : qEn s q = true) (hmp : qMp s q = true) (hi : i < 2 ^ 32) (hk1 : 1 ≤ k)
    (hwin : sub32 i (qTail s q) + k ≤ min 32 (sub32 (qResv s q) (qTail s q))) (hmask : qPmask s q = 0) :
    qOp q 2 false (i + k * 2 ^ 32) t = (0, advanceTail q (setPmask q (runMask (sub32 i (qTail s q)) k) t)) := by
  obtain ⟨en, mp, mc, tail, resv, head, claim, n⟩ := queFields_congr h q
  have hmask' : qPmask t q = 0 := by rw [qPmask, hmasks]; exact hmask
  obtain ⟨hlo, hhi⟩ := bits_pair hi (show k < 2 ^ 32 by omega)
  unfold qOp qCommit
  simp only [en, mp, tail, resv, hen, hmp, hlo, hhi, hmask', Nat.zero_and, Nat.zero_or]
  rw [if_pos trivial, if_neg (by decide), if_pos trivial, if_neg (by decide), if_neg (by omega)]

theorem qOp_releaseTo {lo hi : Nat} (h : t.mem = s.mem) (hen : qEn s q = true) (hmc : qMc s q = false) (hlo : lo < 2 ^ 32) (hhi : hi < 2 ^ 32)
    (hin : sub32 lo (qHead s q) ≤ sub32 (qTail s q) (qHead s q)) : qOp q 3 false (lo + hi * 2 ^ 32) t = (0, setCtxWord q 3 (lo + lo * 2 ^ 32) t) := by
  obtain ⟨en, mp, mc, tail, resv, head, claim, n⟩ := queFields_congr h q
  obtain ⟨hl, -⟩ := bits_pair hlo hhi
  unfold qOp qReleaseTo
  simp only [en, mc, tail, head, hen, hmc, hl]
  rw [if_neg (by decide), if_neg (by decide), if_neg (by decide), if_neg (by decide), if_neg (by omega)]

theorem qOp_release {i k : Nat} (h : t.mem = s.mem) (hmasks : t.qmasks = s.qmasks) (hen : qEn s q = true) (hmc : qMc s q = true) (hi : i < 2 ^ 32) (hk1 : 1 ≤ k)
    (hwin : sub32 i (qHead s q) + k ≤ min 32 (sub32 (qClaim s q) (qHead s q))) (hmask : qCmask s q = 0) :
    qOp q 3 false (i + k * 2 ^ 32) t = (0, advanceHead q (setCmask q (runMask (sub32 i (qHead s q)) k) t)) := by
  obtain ⟨en, mp, mc, tail, resv, head, claim, n⟩ := queFields_congr h q
  have hmask' : qCmask t q = 0 := by rw [qCmask, hmasks]; exact hmask
  obtain ⟨hlo, hhi⟩ := bits_pair hi (show k < 2 ^ 32 by omega)
  unfold qOp qReleaseK
  simp only [en, mc, head, claim, hen, hmc, hlo, hhi, hmask', Nat.zero_and, Nat.zero_or]
  rw [if_neg (by decide), if_neg (by decide), if_pos trivial, if_neg (by decide), if_neg (by omega)]

theorem qOp_claim {k : Nat} (h : t.mem = s.mem) (hen : qEn s q = true) (hmc : qMc s q = true) (hk1 : 1 ≤ k) (hroom : k ≤ sub32 (qTail s q) (qClaim s q))
    (hwin : sub32 (qClaim s q) (qHead s q) + k ≤ 32) : qOp q 3 true k t = (0, setCtx q 3 32 32 (add32 (qClaim s q) k) t) := by
  obtain ⟨en, mp, mc, tail, resv, head, claim, n⟩ := queFields_congr h q
  unfold qOp qClaimK
  simp only [en, mc, tail, head, claim, hen, hmc, Nat.mod_eq_of_lt (show k < 2 ^ 64 by omega)]
  rw [if_neg (by decide), if_pos trivial, if_pos trivial, if_neg (by decide), if_neg (by omega), if_neg (by omega), if_neg (by omega)]

/-- Marks from the tail on are taken by the tail at once. -/
theorem advanceTail_at {k : Nat} (hk : k ≤ 32) (t : State) :
    advanceTail q (setPmask q (runMask 0 k) t) = setPmask q 0 (setCtx q 2 0 32 (add32 (qTail t q) k) (setPmask q (2 ^ k - 1) t)) := by
  have hzero : (2 ^ k - 1) / 2 ^ k = 0 := Nat.div_eq_of_lt (Nat.sub_lt (Nat.two_pow_pos k) (by decide))
  unfold advanceTail
  simp only [qPmask_setPmask, runMask_zero, lowRun_ones hk, hzero]
  rfl

theorem advanceHead_at {k : Nat} (hk : k ≤ 32) (t : State) :
    advanceHead q (setCmask q (runMask 0 k) t) = setCmask q 0 (setCtx q 3 0 32 (add32 (qHead t q) k) (setCmask q (2 ^ k - 1) t)) := by
  have hzero : (2 ^ k - 1) / 2 ^ k = 0 := Nat.div_eq_of_lt (Nat.sub_lt (Nat.two_pow_pos k) (by decide))
  unfold advanceHead
  simp only [qCmask_setCmask, runMask_zero, lowRun_ones hk, hzero]
  rfl

/-- Marks beyond the tail wait. -/
theorem advanceTail_beyond {o k : Nat} (ho : 1 ≤ o) (t : State) :
    advanceTail q (setPmask q (runMask o k) t) = setPmask q (runMask o k) (setCtx q 2 0 32 (add32 (qTail t q) 0) (setPmask q (runMask o k) t)) := by
  have hlow : lowRun (runMask o k) = 0 := lowRun_even ho
  unfold advanceTail
  simp only [qPmask_setPmask, hlow, Nat.pow_zero, Nat.div_one]
  rfl

end

/-! The instructions (R206 to R211) -/

section
variable {s t : State} {e tag : Nat} {q : Fin 65536}

theorem doorbell_fits {v : BitVec 32} (hready : QueReady e tag q s) (hmp : qMp s q = false) (hfit : sub32 v.toNat (qTail s q) + sub32 (qTail s q) (qHead s q) ≤ qN s q) :
    Yields (exec (.queDoorbell e tag false q v) s) fun t =>
      qTail t q = v.toNat ∧ qResv t q = v.toNat ∧ qHead t q = qHead s q ∧ qClaim t q = qClaim s q ∧ SameQueue q s t ∧
      t.welt.resps = s.welt.resps ++ [⟨e, epLast, tag, WRA, 0, ctxWord s q 2, 0, s.welt.stamp⟩] ∧ SameMemOutside (ctxAddr q 2) 8 s t ∧
      SameRegsBut [QUE_OPS_COUNT.key 0] s t := by
  have hv : v.toNat < 2 ^ 32 := v.isLt
  obtain ⟨-, -, -, -, -, -, hen, -⟩ := id hready
  obtain ⟨t, y, hmem, -, hinject, hymem, -, hresps, hregs⟩ := que_done (add := false) (v := v.toNat) hready q.isLt (.inl rfl) (by omega)
    (fun t => setCtxWord q 2 (v.toNat + v.toNat * 2 ^ 32) t) (fun t h _ => by rw [qOp_doorbell h hen hmp hv, if_neg (by omega)]) (fun t => QueOnly.refl.setCtxWord)
    (fun t => ctxWord_setCtxWord_ne (by decide) ..)
  replace hymem : y.mem = (setCtxWord q 2 (v.toNat + v.toNat * 2 ^ 32) t).mem := hymem
  have hne : ∀ j, j ≠ 2 → ctxWord y q j = ctxWord s q j := fun j hj => by rw [ctxWord_congr hymem, ctxWord_setCtxWord_ne hj, ctxWord_congr hmem]
  have htwo : ctxWord y q 2 = v.toNat + v.toNat * 2 ^ 32 := by rw [ctxWord_congr hymem, ctxWord_setCtxWord_same, Nat.mod_eq_of_lt (by omega)]
  obtain ⟨hlo, hhi⟩ := bits_pair hv hv
  refine ⟨y, congrArg Host.Outcome.next hinject, ?_, by rw [qResv, htwo, hhi], by rw [qHead, hne 3 (by decide), qHead], by rw [qClaim, hne 3 (by decide), qClaim],
    ⟨hne 0 (by decide), by rw [qNsub, hne 1 (by decide), qNsub], by rw [qNtgt, hne 1 (by decide), qNtgt]⟩, hresps, ?_, hregs⟩
  · rw [qTail, htwo, bits, Nat.pow_zero, Nat.div_one, hlo]
  · exact ((SameMem.of_mem hmem).outside.trans (SameMemOutside.setCtxWord q 2 _ t)).congr hymem

theorem doorbell_full {v : BitVec 32} (hready : QueReady e tag q s) (hmp : qMp s q = false) (hfull : qN s q < sub32 v.toNat (qTail s q) + sub32 (qTail s q) (qHead s q)) :
    Yields (exec (.queDoorbell e tag false q v) s) fun t =>
      qTail t q = qTail s q ∧ qResv t q = qResv s q ∧ qHead t q = qHead s q ∧ qClaim t q = qClaim s q ∧
      t.welt.resps = s.welt.resps ++ [⟨e, epLast, tag, ERR, ST_QUE_FULL, ST_QUE_FULL, 1, s.welt.stamp⟩] ∧
      bits (ctxWord t q 1) 48 16 = min (bits (ctxWord s q 1) 48 16 + 1) 65535 ∧ SameMemOutside (ctxAddr q 1) 8 s t := by
  have hv : v.toNat < 2 ^ 32 := v.isLt
  obtain ⟨-, -, -, -, -, -, hen, -⟩ := id hready
  obtain ⟨t, y, hmem, hinject, hymem, hresps⟩ := que_refused (add := false) (k := 2) (v := v.toNat) (st := ST_QUE_FULL) hready q.isLt (.inl rfl) (by omega) (by decide)
    (fun t h _ => by rw [qOp_doorbell h hen hmp hv, if_pos hfull])
  have hne : ∀ j, j ≠ 1 → ctxWord y q j = ctxWord s q j := fun j hj => by rw [ctxWord_congr hymem, ctxWord_setCtx_ne hj, ctxWord_congr hmem]
  refine ⟨y, congrArg Host.Outcome.next hinject, by rw [qTail, hne 2 (by decide), qTail], by rw [qResv, hne 2 (by decide), qResv], by rw [qHead, hne 3 (by decide), qHead],
    by rw [qClaim, hne 3 (by decide), qClaim], hresps, ?_, ((SameMem.of_mem hmem).outside.trans (SameMemOutside.setCtx q 1 _ _ _ t)).congr hymem⟩
  rw [ctxWord_congr hymem, bits_setCtx_same (by decide), ctxWord_congr hmem]
  exact Nat.mod_eq_of_lt (by omega)

theorem reserve_hands_out {k : BitVec 64} (hready : QueReady e tag q s) (hmp : qMp s q = true) (hk1 : 1 ≤ k.toNat) (hk : k.toNat ≤ 32)
    (hroom : sub32 (qResv s q) (qHead s q) + k.toNat ≤ qN s q) (hwin : sub32 (qResv s q) (qTail s q) + k.toNat ≤ 32) : Yields (exec (.queReserve e tag q k) s) fun t =>
      qResv t q = add32 (qResv s q) k.toNat ∧ qTail t q = qTail s q ∧ qHead t q = qHead s q ∧ qClaim t q = qClaim s q ∧ SameQueue q s t ∧
      t.welt.resps = s.welt.resps ++ [⟨e, epLast, tag, ATR, 0, ctxWord s q 2, 1, s.welt.stamp⟩] ∧ SameMemOutside (ctxAddr q 2) 8 s t := by
  obtain ⟨-, -, -, -, -, -, hen, -⟩ := id hready
  obtain ⟨t, y, hmem, -, hinject, hymem, -, hresps, -⟩ := que_done (add := true) (v := k.toNat) hready q.isLt (.inl rfl) k.isLt
    (fun t => setCtx q 2 32 32 (add32 (qResv s q) k.toNat) t) (fun t h _ => qOp_reserve h hen hmp hk1 hk hroom hwin) (fun t => QueOnly.refl.setCtx)
    (fun t => ctxWord_setCtx_ne (by decide) ..)
  replace hymem : y.mem = (setCtx q 2 32 32 (add32 (qResv s q) k.toNat) t).mem := hymem
  have hne : ∀ j, j ≠ 2 → ctxWord y q j = ctxWord s q j := fun j hj => by rw [ctxWord_congr hymem, ctxWord_setCtx_ne hj, ctxWord_congr hmem]
  refine ⟨y, congrArg Host.Outcome.next hinject, ?_, ?_, by rw [qHead, hne 3 (by decide), qHead], by rw [qClaim, hne 3 (by decide), qClaim],
    ⟨hne 0 (by decide), by rw [qNsub, hne 1 (by decide), qNsub], by rw [qNtgt, hne 1 (by decide), qNtgt]⟩, hresps,
    ((SameMem.of_mem hmem).outside.trans (SameMemOutside.setCtx q 2 _ _ _ t)).congr hymem⟩
  · rw [qResv, ctxWord_congr hymem, bits_setCtx_same (by decide), add32, Nat.mod_mod]
  · rw [qTail, ctxWord_congr hymem, bits_setCtx_off (.inl (by decide)) (by decide), ctxWord_congr hmem, qTail]

theorem commit_at_tail {i k : BitVec 32} (hready : QueReady e tag q s) (hmp : qMp s q = true) (hi : i.toNat = qTail s q) (hk1 : 1 ≤ k.toNat) (hk : k.toNat ≤ 32)
    (hroom : k.toNat ≤ sub32 (qResv s q) (qTail s q)) (hmask : qPmask s q = 0) : Yields (exec (.queCommit e tag false q i k) s) fun t =>
      qTail t q = add32 (qTail s q) k.toNat ∧ qResv t q = qResv s q ∧ qPmask t q = 0 ∧ qHead t q = qHead s q ∧ SameMemOutside (ctxAddr q 2) 8 s t := by
  obtain ⟨-, -, -, -, -, -, hen, -⟩ := id hready
  have hoff : sub32 i.toNat (qTail s q) = 0 := by rw [hi, sub32_self]
  obtain ⟨t, y, hmem, -, hinject, hymem, hymasks, -, -⟩ := que_done (add := false) (v := i.toNat + k.toNat * 2 ^ 32) hready q.isLt (.inl rfl)
    (by have := i.isLt; have := k.isLt; omega) (fun t => setPmask q 0 (setCtx q 2 0 32 (add32 (qTail s q) k.toNat) (setPmask q (2 ^ k.toNat - 1) t)))
    (fun t h hm => by
      rw [qOp_commit h hm hen hmp i.isLt hk1 (by rw [hoff]; omega) hmask, hoff, advanceTail_at hk]
      obtain ⟨-, -, -, tail, -⟩ := queFields_congr h q
      rw [tail])
    (fun t => (QueOnly.refl.setMask.setCtx).setMask) (fun t => by rw [ctxWord_setPmask, ctxWord_setCtx_ne (by decide), ctxWord_setPmask])
  replace hymem : y.mem = (setCtx q 2 0 32 (add32 (qTail s q) k.toNat) (setPmask q (2 ^ k.toNat - 1) t)).mem := hymem
  have hmem' : (setPmask q (2 ^ k.toNat - 1) t).mem = s.mem := hmem
  refine ⟨y, congrArg Host.Outcome.next hinject, ?_, ?_, ?_, ?_, ((SameMem.of_mem hmem').outside.trans (SameMemOutside.setCtx q 2 _ _ _ _)).congr hymem⟩
  · rw [qTail, ctxWord_congr hymem, bits_setCtx_same (by decide), add32, Nat.mod_mod]
  · rw [qResv, ctxWord_congr hymem, bits_setCtx_off (.inr (by decide)) (by decide), ctxWord_congr hmem', qResv]
  · rw [qPmask, hymasks]
    exact qPmask_setPmask ..
  · rw [qHead, ctxWord_congr hymem, ctxWord_setCtx_ne (by decide), ctxWord_congr hmem', qHead]

/-- Writing a word's own bits back changes nothing. -/
theorem setCtx_self (q k lo w : Nat) (t : State) : SameMem t (setCtx q k lo w (bits (ctxWord t q k) lo w) t) := by
  have hword : putBits (ctxWord t q k) lo w (bits (ctxWord t q k) lo w) = ctxWord t q k := by
    have hsplit := Nat.div_add_mod (ctxWord t q k) (2 ^ lo)
    have hsplit' := Nat.div_add_mod (ctxWord t q k / 2 ^ lo) (2 ^ w)
    rw [Nat.div_div_eq_div_mul, ← Nat.pow_add] at hsplit'
    rw [putBits, bits, Nat.mod_mod]
    calc _ = 2 ^ lo * (2 ^ w * (ctxWord t q k / 2 ^ (lo + w)) + ctxWord t q k / 2 ^ lo % 2 ^ w) + ctxWord t q k % 2 ^ lo := by rw [Nat.pow_add]; ring
      _ = ctxWord t q k := by rw [hsplit', hsplit]
  intro a
  rw [setCtx, hword, setCtxWord, State.rdByte_wrMem]
  split
  · next h =>
    obtain ⟨i, rfl⟩ := Nat.exists_eq_add_of_le h.1
    rw [Nat.add_sub_cancel_left, ctxWord, byte_rdMem _ _ _ (by omega)]
  · rfl

theorem commit_beyond_tail {i k : BitVec 32} (hready : QueReady e tag q s) (hmp : qMp s q = true) (hi : 1 ≤ sub32 i.toNat (qTail s q)) (hk1 : 1 ≤ k.toNat)
    (hwin : sub32 i.toNat (qTail s q) + k.toNat ≤ min 32 (sub32 (qResv s q) (qTail s q))) (hmask : qPmask s q = 0) : Yields (exec (.queCommit e tag false q i k) s) fun t =>
      qTail t q = qTail s q ∧ qPmask t q = (2 ^ k.toNat - 1) * 2 ^ sub32 i.toNat (qTail s q) ∧ SameMem s t := by
  obtain ⟨-, -, -, -, -, -, hen, -⟩ := id hready
  have htail : add32 (qTail s q) 0 = bits (ctxWord s q 2) 0 32 := Nat.mod_eq_of_lt (bits_lt _ _ 32)
  obtain ⟨t, y, hmem, -, hinject, hymem, hymasks, -, -⟩ := que_done (add := false) (v := i.toNat + k.toNat * 2 ^ 32) hready q.isLt (.inl rfl)
    (by have := i.isLt; have := k.isLt; omega)
    (fun t => setPmask q (runMask (sub32 i.toNat (qTail s q)) k.toNat) (setCtx q 2 0 32 (add32 (qTail s q) 0) (setPmask q (runMask (sub32 i.toNat (qTail s q)) k.toNat) t)))
    (fun t h hm => by
      rw [qOp_commit h hm hen hmp i.isLt hk1 hwin hmask, advanceTail_beyond hi]
      obtain ⟨-, -, -, tail, -⟩ := queFields_congr h q
      rw [tail])
    (fun t => (QueOnly.refl.setMask.setCtx).setMask) (fun t => by rw [ctxWord_setPmask, ctxWord_setCtx_ne (by decide), ctxWord_setPmask])
  obtain ⟨w, hw⟩ : ∃ w, w = setPmask q (runMask (sub32 i.toNat (qTail s q)) k.toNat) t := ⟨_, rfl⟩
  have hwmem : w.mem = s.mem := by rw [hw]; exact hmem
  replace hymem : y.mem = (setCtx q 2 0 32 (add32 (qTail s q) 0) w).mem := by rw [hw]; exact hymem
  rw [htail, ← ctxWord_congr hwmem] at hymem
  have hsame : SameMem s y := ((SameMem.of_mem hwmem).trans (setCtx_self q 2 0 32 w)).trans (.of_mem hymem)
  refine ⟨y, congrArg Host.Outcome.next hinject, ?_, ?_, hsame⟩
  · rw [qTail, qTail, ctxWord, ctxWord, rdMem_ext fun i _ => hsame _]
  · rw [qPmask, hymasks]
    exact qPmask_setPmask ..

/-- A consumer's operation leaves the words other than 1 and 3, and arms the queue. -/
theorem armedAfter_consumer {x : State} : (∀ j, j ≠ 1 → ctxWord (armedAfter q 3 x) q j = ctxWord x q j) ∧ qArmed (armedAfter q 3 x) q = true ∧
    qNsub (armedAfter q 3 x) q = qNsub x q ∧ qNtgt (armedAfter q 3 x) q = qNtgt x q ∧ SameMemOutside (ctxAddr q 1) 8 x (armedAfter q 3 x) := by
  refine ⟨fun j hj => ctxWord_armedAfter hj .., ?_, ?_, ?_, SameMemOutside.setCtx q 1 26 1 1 x⟩
  · rw [qArmed_eq_bits, armedAfter, if_pos rfl, bits_setCtx_same (by decide)]
    rfl
  · rw [qNsub, armedAfter, if_pos rfl, bits_setCtx_off (.inl (by decide)) (by decide), qNsub]
  · rw [qNtgt, armedAfter, if_pos rfl, bits_setCtx_off (.inl (by decide)) (by decide), qNtgt]

theorem qArmed_congr {x : State} (h : t.mem = x.mem) : qArmed t q = qArmed x q := by rw [qArmed, ctxWord_congr h, qArmed]

theorem release_to {lo hi : BitVec 32} (hready : QueReady e tag q s) (hmc : qMc s q = false) (hin : sub32 lo.toNat (qHead s q) ≤ sub32 (qTail s q) (qHead s q)) :
    Yields (exec (.queRelease e tag false q lo hi) s) fun t =>
      qHead t q = lo.toNat ∧ qClaim t q = lo.toNat ∧ qTail t q = qTail s q ∧ qResv t q = qResv s q ∧ qArmed t q = true ∧ SameQueue q s t ∧
      SameMemOutside (ctxAddr q 1) 24 s t := by
  have hlo : lo.toNat < 2 ^ 32 := lo.isLt
  have hhi : hi.toNat < 2 ^ 32 := hi.isLt
  obtain ⟨-, -, -, -, -, -, hen, -⟩ := id hready
  obtain ⟨t, y, hmem, -, hinject, hymem, -, -, -⟩ := que_done (add := false) (v := lo.toNat + hi.toNat * 2 ^ 32) hready q.isLt (.inr rfl) (by omega)
    (fun t => setCtxWord q 3 (lo.toNat + lo.toNat * 2 ^ 32) t) (fun t h _ => qOp_releaseTo h hen hmc hlo hhi hin) (fun t => QueOnly.refl.setCtxWord)
    (fun t => ctxWord_setCtxWord_ne (by decide) ..)
  obtain ⟨x, hx⟩ : ∃ x, x = setCtxWord q 3 (lo.toNat + lo.toNat * 2 ^ 32) t := ⟨_, rfl⟩
  rw [← hx] at hymem
  obtain ⟨hwords, harmed, hnsub, hntgt, hout⟩ := armedAfter_consumer (q := q) (x := x)
  have hxne : ∀ j, j ≠ 3 → ctxWord x q j = ctxWord s q j := fun j hj => by rw [hx, ctxWord_setCtxWord_ne hj, ctxWord_congr hmem]
  have hne : ∀ j, j ≠ 1 → j ≠ 3 → ctxWord y q j = ctxWord s q j := fun j h1 h3 => by rw [ctxWord_congr hymem, hwords j h1, hxne j h3]
  have hthree : ctxWord y q 3 = lo.toNat + lo.toNat * 2 ^ 32 := by
    rw [ctxWord_congr hymem, hwords 3 (by decide), hx, ctxWord_setCtxWord_same, Nat.mod_eq_of_lt (by omega)]
  obtain ⟨hl, hh⟩ := bits_pair hlo hlo
  have hyone : qNsub y q = qNsub s q ∧ qNtgt y q = qNtgt s q := by
    rw [qNsub, qNtgt, ctxWord_congr hymem]
    exact ⟨hnsub.trans (by rw [qNsub, hxne 1 (by decide), qNsub]), hntgt.trans (by rw [qNtgt, hxne 1 (by decide), qNtgt])⟩
  refine ⟨y, congrArg Host.Outcome.next hinject, ?_, by rw [qClaim, hthree, hh], by rw [qTail, hne 2 (by decide) (by decide), qTail],
    by rw [qResv, hne 2 (by decide) (by decide), qResv], (qArmed_congr hymem).trans harmed, ⟨hne 0 (by decide) (by decide), hyone⟩, ?_⟩
  · rw [qHead, hthree, bits, Nat.pow_zero, Nat.div_one, hl]
  · have hset : SameMemOutside (ctxAddr q 3) 8 t x := by rw [hx]; exact SameMemOutside.setCtxWord q 3 _ t
    exact (((SameMem.of_mem hmem).outside.trans (hset.ctx (by decide) (by decide))).trans (hout.ctx le_rfl (by decide))).congr hymem

theorem release_from_head {lo hi : BitVec 32} (hready : QueReady e tag q s) (hmc : qMc s q = true) (hlo : lo.toNat = qHead s q) (hk1 : 1 ≤ hi.toNat) (hk : hi.toNat ≤ 32)
    (hroom : hi.toNat ≤ sub32 (qClaim s q) (qHead s q)) (hmask : qCmask s q = 0) : Yields (exec (.queRelease e tag false q lo hi) s) fun t =>
      qHead t q = add32 (qHead s q) hi.toNat ∧ qClaim t q = qClaim s q ∧ qCmask t q = 0 ∧ qTail t q = qTail s q ∧ qArmed t q = true := by
  obtain ⟨-, -, -, -, -, -, hen, -⟩ := id hready
  have hoff : sub32 lo.toNat (qHead s q) = 0 := by rw [hlo, sub32_self]
  obtain ⟨t, y, hmem, -, hinject, hymem, hymasks, -, -⟩ := que_done (add := false) (v := lo.toNat + hi.toNat * 2 ^ 32) hready q.isLt (.inr rfl)
    (by have := lo.isLt; have := hi.isLt; omega) (fun t => setCmask q 0 (setCtx q 3 0 32 (add32 (qHead s q) hi.toNat) (setCmask q (2 ^ hi.toNat - 1) t)))
    (fun t h hm => by
      rw [qOp_release h hm hen hmc lo.isLt hk1 (by rw [hoff]; omega) hmask, hoff, advanceHead_at hk]
      obtain ⟨-, -, -, -, -, head, -⟩ := queFields_congr h q
      rw [head])
    (fun t => (QueOnly.refl.setMask.setCtx).setMask) (fun t => by rw [ctxWord_setCmask, ctxWord_setCtx_ne (by decide), ctxWord_setCmask])
  obtain ⟨w, hw⟩ : ∃ w, w = setCmask q (2 ^ hi.toNat - 1) t := ⟨_, rfl⟩
  have hwmem : w.mem = s.mem := by rw [hw]; exact hmem
  obtain ⟨x, hx⟩ : ∃ x, x = setCmask q 0 (setCtx q 3 0 32 (add32 (qHead s q) hi.toNat) w) := ⟨_, rfl⟩
  have hxmem : x.mem = (setCtx q 3 0 32 (add32 (qHead s q) hi.toNat) w).mem := by rw [hx]; rfl
  have hxmask : qCmask x q = 0 := by rw [hx, qCmask_setCmask]
  replace hymem : y.mem = (armedAfter q 3 x).mem := by rw [hx, hw]; exact hymem
  replace hymasks : y.qmasks = (armedAfter q 3 x).qmasks := by rw [hx, hw]; exact hymasks
  obtain ⟨hwords, harmed, -⟩ := armedAfter_consumer (q := q) (x := x)
  refine ⟨y, congrArg Host.Outcome.next hinject, ?_, ?_, ?_, ?_, (qArmed_congr hymem).trans harmed⟩
  · rw [qHead, ctxWord_congr hymem, hwords 3 (by decide), ctxWord_congr hxmem, bits_setCtx_same (by decide), add32, Nat.mod_mod]
  · rw [qClaim, ctxWord_congr hymem, hwords 3 (by decide), ctxWord_congr hxmem, bits_setCtx_off (.inr (by decide)) (by decide), ctxWord_congr hwmem, qClaim]
  · obtain ⟨m, hm⟩ := MemOnly.setCtx q 1 26 1 1 x
    have hsame : (armedAfter q 3 x).qmasks = x.qmasks := by rw [armedAfter, if_pos rfl, hm]
    rw [qCmask, hymasks, hsame]
    exact hxmask
  · rw [qTail, ctxWord_congr hymem, hwords 2 (by decide), ctxWord_congr hxmem, ctxWord_setCtx_ne (by decide), ctxWord_congr hwmem, qTail]

theorem claim_hands_out {k : BitVec 64} (hready : QueReady e tag q s) (hmc : qMc s q = true) (hk1 : 1 ≤ k.toNat) (hroom : k.toNat ≤ sub32 (qTail s q) (qClaim s q))
    (hwin : sub32 (qClaim s q) (qHead s q) + k.toNat ≤ 32) : Yields (exec (.queClaim e tag q k) s) fun t =>
      qClaim t q = add32 (qClaim s q) k.toNat ∧ qHead t q = qHead s q ∧ qTail t q = qTail s q ∧ qArmed t q = true ∧
      t.welt.resps = s.welt.resps ++ [⟨e, epLast, tag, ATR, 0, ctxWord s q 3, 1, s.welt.stamp⟩] := by
  obtain ⟨-, -, -, -, -, -, hen, -⟩ := id hready
  obtain ⟨t, y, hmem, -, hinject, hymem, -, hresps, -⟩ := que_done (add := true) (v := k.toNat) hready q.isLt (.inr rfl) k.isLt
    (fun t => setCtx q 3 32 32 (add32 (qClaim s q) k.toNat) t) (fun t h _ => qOp_claim h hen hmc hk1 hroom hwin) (fun t => QueOnly.refl.setCtx)
    (fun t => ctxWord_setCtx_ne (by decide) ..)
  obtain ⟨x, hx⟩ : ∃ x, x = setCtx q 3 32 32 (add32 (qClaim s q) k.toNat) t := ⟨_, rfl⟩
  rw [← hx] at hymem
  obtain ⟨hwords, harmed, -⟩ := armedAfter_consumer (q := q) (x := x)
  refine ⟨y, congrArg Host.Outcome.next hinject, ?_, ?_, ?_, (qArmed_congr hymem).trans harmed, hresps⟩
  · rw [qClaim, ctxWord_congr hymem, hwords 3 (by decide), hx, bits_setCtx_same (by decide), add32, Nat.mod_mod]
  · rw [qHead, ctxWord_congr hymem, hwords 3 (by decide), hx, bits_setCtx_off (.inl (by decide)) (by decide), ctxWord_congr hmem, qHead]
  · rw [qTail, ctxWord_congr hymem, hwords 2 (by decide), hx, ctxWord_setCtx_ne (by decide), ctxWord_congr hmem, qTail]

end

/-- Settles O33. -/
theorem queueOperations : Obligations.QueueOperations := by
  refine ⟨?_, ?_, ?_, ?_, ?_, ?_, ?_, ?_⟩
  · exact fun s e tag q v hready hmp hfit => doorbell_fits hready hmp hfit
  · exact fun s e tag q v hready hmp hfull => doorbell_full hready hmp hfull
  · exact fun s e tag q k hready hmp hk1 hk hroom hwin => reserve_hands_out hready hmp hk1 hk hroom hwin
  · exact fun s e tag q i k hready hmp hi hk1 hk hroom hmask => commit_at_tail hready hmp hi hk1 hk hroom hmask
  · exact fun s e tag q i k hready hmp hi hk1 hwin hmask => commit_beyond_tail hready hmp hi hk1 hwin hmask
  · exact fun s e tag q lo hi hready hmc hin => release_to hready hmc hin
  · exact fun s e tag q lo hi hready hmc hlo hk1 hk hroom hmask => release_from_head hready hmc hlo hk1 hk hroom hmask
  · exact fun s e tag q k hready hmc hk1 hroom hwin => claim_hands_out hready hmc hk1 hroom hwin
end Sys2Proof.Machine

namespace Sys2Proof.Machine

set_option Elab.async false

/-! The supply (R595): a fan that fails while a staged changeover is given up -/

/-- A changeover is armed that lists a number as a die that it raised whose GLB_DIESTAT would lie at fan 0's register. -/
def fanFails : State :=
  ((((((({} : State).wr GLB_MODID_CODE 3).wr HLT_CTL_AUTOGEAR 1).wr HLT_CTL_FANGEAR 1).wr HLT_CTL_FANLIM 1).wri GEAR_DIE_GROUP 0 0).wr PWR_STAT_MAINS 1).wr SHF_STAT_STATE 5
    |>.modShf fun x => { x with raised := [0x3FC8] }

/-- `fanFails` once the fan has failed at 500 rpm: the policy lowers a gear, for which the changeover is abandoned. -/
def fanFailed : State := fanPolicy (pwrEvent 10 15 0 ((fanFails.wri PWR_FAN_RPM 0 500).wri PWR_FAN_FAIL 0 1))

theorem fanFails_runs : exec (.fanFailure 0 500) fanFails = .next fanFailed := by
  have hruns : ¬ (fanFails.rd GLB_MODID_CODE ≠ 3 ∨ 1000 ≤ 500) := by decide +kernel
  have hwas : fanFails.rdi PWR_FAN_FAIL 0 ≠ 1 := by decide +kernel
  change execFanFailure 0 500 fanFails = _
  unfold execFanFailure
  rw [if_neg hruns]
  exact congrArg Host.Outcome.next (if_neg hwas)

/-- The end of the changeover writes the state of the die it raised over the fan's speed. -/
theorem fanFailed_rpm : fanFailed.rdi PWR_FAN_RPM 0 = 4 := by decide +kernel

/-- Refutes O53: the speed of a fan that fails is not kept where the lower gear ends a changeover whose list of raised dies names its register. -/
theorem not_supplyAndRails : ¬ Obligations.SupplyAndRails := by
  unfold Obligations.SupplyAndRails
  intro h
  obtain ⟨-, -, -, -, -, -, -, -, -, -, -, -, -, -, -, -, -, -, -, -, -, -, -, -, fan⟩ := h
  obtain ⟨t, hexec, -, hrpm⟩ := fan fanFails 0 500 (by decide +kernel) (by decide)
  rw [← Host.Outcome.next.inj (fanFails_runs.symm.trans hexec)] at hrpm
  exact absurd (fanFailed_rpm.symm.trans hrpm) (by decide)

end Sys2Proof.Machine

namespace Sys2Proof.Machine

set_option Elab.async false

/-! What the network's own work leaves. While requests are injected, served and held, no rollback is asked for and no request is admitted from a bundle; and a request to an
endpoint that is no memory is never held for a sleeping one. As for `Keeps` and `Stays`, each operation has one law. -/

/-- No request is held asleep at the endpoint of the queue unit, which serves none. -/
def Unheld (s : State) : Prop := ∀ h ∈ s.welt.held, ¬ (h.req.dst = epQueue ∧ h.why = .asleep)

/-- `t` holds these as `s` does; the bundles' admitted and arrived requests only while no request is refused at its port (`K`). -/
structure Pumps (K : Prop) (s t : State) : Prop where
  rbWait : s.shf.rbWait = none → t.shf.rbWait = none
  unheld : Unheld s → Unheld t
  bundles : K → ∀ b, (t.bundle b).remote = (s.bundle b).remote ∧ (t.bundle b).arrived = (s.bundle b).arrived

section
variable {K : Prop} {s t u : State}

theorem Pumps.refl (s : State) : Pumps K s s := ⟨id, id, fun _ _ => ⟨rfl, rfl⟩⟩

theorem Pumps.trans (h : Pumps K s t) (g : Pumps K t u) : Pumps K s u :=
  ⟨fun hs => g.rbWait (h.rbWait hs), fun hs => g.unheld (h.unheld hs), fun hk b => ⟨(g.bundles hk b).1.trans (h.bundles hk b).1, (g.bundles hk b).2.trans (h.bundles hk b).2⟩⟩

theorem Pumps.ite {c : Prop} [Decidable c] (ht : Pumps K s t) (hu : Pumps K s u) : Pumps K s (if c then t else u) := by
  split
  · exact ht
  · exact hu

theorem Pumps.foldl {α : Type} (h : Pumps K s t) {f : State → α → State} (hf : ∀ u a, Pumps K s u → Pumps K s (f u a)) {l : List α} : Pumps K s (l.foldl f t) :=
  List.foldlRecOn (motive := Pumps K s) l f h fun u hu a _ => hf u a hu

theorem Pumps.foldlSnd {α β : Type} {p : β × State} (h : Pumps K s p.2) {f : β × State → α → β × State} (hf : ∀ r a, Pumps K s r.2 → Pumps K s (f r a).2) {l : List α} :
    Pumps K s (l.foldl f p).2 :=
  List.foldlRecOn (motive := fun r : β × State => Pumps K s r.2) l f h fun r hr a _ => hf r a hr

theorem Pumps.snd {α : Type} {p : α × State} {a : α} (h : Pumps K s p.2) (e : p = (a, u)) : Pumps K s u := by rw [e] at h; exact h

theorem Pumps.right {α : Type} {a : α} (h : Pumps K s t) : Pumps K s (a, t).2 := h

theorem Pumps.left {α : Type} {a : α} (h : Pumps K s t) : Pumps K s (t, a).1 := h

/-- What SAFE spares is left too. -/
theorem Pumps.stays (h : Pumps K s t) (g : Stays t u) : Pumps K s u :=
  h.trans ⟨g.rbWait, fun ht => by rw [Unheld, g.held]; exact ht, fun _ b => by rw [State.bundle, g.bundles]; exact ⟨rfl, rfl⟩⟩

/-- An update of what none of this depends on. -/
theorem Pumps.lit (h : Pumps K s t) {pending fresh regs evq mem reply supTab fuseTrim dies regions banks eyes express cores modes clocks gears bbx power side secur hlt dbg upd asked welt
    marks cob chans pcie eth pins cfg keyHash qmasks} (hw : welt.held = t.welt.held := by rfl) :
    Pumps K s ⟨pending, fresh, regs, evq, mem, reply, supTab, fuseTrim, dies, regions, banks, eyes, express, cores, modes, clocks, gears, bbx, power, side,
      secur, hlt, dbg, upd, asked, welt, marks, cob, chans, pcie, eth, pins, cfg, t.shf, keyHash, t.bundles, qmasks⟩ :=
  ⟨h.rbWait, fun hs => by rw [Unheld]; exact hw ▸ h.unheld hs, h.bundles⟩

/-! The named operations on the state -/

theorem Pumps.wri (h : Pumps K s t) {f o v} : Pumps K s (t.wri f o v) := h.lit

theorem Pumps.wr (h : Pumps K s t) {f v} : Pumps K s (t.wr f v) := h.lit

theorem Pumps.addi (h : Pumps K s t) {f o n} : Pumps K s (t.addi f o n) := h.lit

theorem Pumps.inci (h : Pumps K s t) {f o} : Pumps K s (t.inci f o) := h.lit

theorem Pumps.wrByte (h : Pumps K s t) {a v} : Pumps K s (t.wrByte a v) := h.lit

theorem Pumps.modRegion (h : Pumps K s t) {i f} : Pumps K s (t.modRegion i f) := h.lit

theorem Pumps.modBank (h : Pumps K s t) {i f} : Pumps K s (State.modBank t i f) := h.lit

theorem Pumps.modCore (h : Pumps K s t) {c f} : Pumps K s (t.modCore c f) := h.lit

theorem Pumps.modArch (h : Pumps K s t) {c f} : Pumps K s (t.modArch c f) := h.lit

theorem Pumps.free (h : Pumps K s t) {w} : Pumps K s ((State.free t w).2) := h.lit

theorem Pumps.wrMem (h : Pumps K s t) {n a v} : Pumps K s (t.wrMem n a v) := h.stays (Stays.refl t).wrMem

theorem Pumps.recordSt (h : Pumps K s t) {st source payload} : Pumps K s (t.recordSt st source payload) := h.stays (Stays.refl t).recordSt

theorem Pumps.setAwlState (h : Pumps K s t) {c v} : Pumps K s (Machine.setAwlState c v t) := h.stays (Stays.refl t).setAwlState

theorem Pumps.wdSettle (h : Pumps K s t) {c} : Pumps K s (Machine.wdSettle c t) := h.stays (Stays.refl t).wdSettle

theorem Pumps.endSession (h : Pumps K s t) {g c} : Pumps K s (Machine.endSession g c t) := h.stays (Stays.refl t).endSession

theorem Pumps.enterDone (h : Pumps K s t) {c st} : Pumps K s (Machine.enterDone c st t) := h.stays (Stays.refl t).enterDone

theorem Pumps.dropEntry (h : Pumps K s t) {c} : Pumps K s (Machine.dropEntry c t) := h.stays (Stays.refl t).dropEntry

theorem Pumps.squash (h : Pumps K s t) {c} : Pumps K s (Machine.squash c t) := h.stays (Stays.refl t).squash

theorem Pumps.showPc (h : Pumps K s t) {c} : Pumps K s (Machine.showPc c t) := h.stays (Stays.refl t).showPc

theorem Pumps.stopCheck (h : Pumps K s t) {c} : Pumps K s (Machine.stopCheck c t) := h.stays (Stays.refl t).stopCheck

theorem Pumps.setRun (h : Pumps K s t) {d r i on} : Pumps K s (Machine.setRun d r i on t) := h.stays (Stays.refl t).setRun

theorem Pumps.fault (h : Pumps K s t) {st source fs ev} : Pumps K s (State.fault t st source fs ev) := h.stays (Stays.refl t).fault

theorem Pumps.modWelt (h : Pumps K s t) {f} (hf : ∀ w : Welt, (f w).held = w.held := by exact fun _ => rfl) : Pumps K s (State.modWelt t f) := h.lit (hf _)

/-- A change of a bundle that keeps its admitted and its arrived requests. -/
theorem Pumps.modBundle (h : Pumps K s t) {b f} (hf : ∀ x : Bundle, (f x).remote = x.remote ∧ (f x).arrived = x.arrived := by exact fun _ => ⟨rfl, rfl⟩) : Pumps K s (t.modBundle b f) := by
  refine h.trans ⟨id, id, fun _ c => ?_⟩
  by_cases e : c = b
  · rw [e, State.bundle_modBundle]
    exact hf _
  · rw [State.bundle_modBundle_ne _ _ _ e]
    exact ⟨rfl, rfl⟩

theorem Pumps.push2 (h : Pumps K s t) {q e e2} : Pumps K s (State.push2 t q e e2) := by unfold State.push2; exact h.lit

theorem Pumps.push (h : Pumps K s t) {q e} : Pumps K s (State.push t q e) := by unfold State.push; exact h.push2

theorem Pumps.wdSet (h : Pumps K s t) {c n} : Pumps K s (Machine.wdSet c n t) := by unfold Machine.wdSet; exact h.wri.modCore

theorem Pumps.wakeWait (h : Pumps K s t) {c} : Pumps K s (Machine.wakeWait c t) := by unfold Machine.wakeWait; exact .ite h.setAwlState h

theorem Pumps.raiseSoft (h : Pumps K s t) {c m} : Pumps K s (Machine.raiseSoft c m t) := by unfold Machine.raiseSoft; exact h.modCore.wakeWait

theorem Pumps.raiseEdge (h : Pumps K s t) {c n} : Pumps K s (Machine.raiseEdge c n t) := by unfold Machine.raiseEdge; exact h.modCore.wakeWait

theorem Pumps.clearPend (h : Pumps K s t) {c v} : Pumps K s (Machine.clearPend c v t) := by unfold Machine.clearPend; exact h.modCore

theorem Pumps.coreMsg (h : Pumps K s t) {c addr} : Pumps K s (Machine.coreMsg c addr t).2 := by
  unfold Machine.coreMsg
  split
  · exact h
  · exact h.modCore.raiseSoft.right

theorem Pumps.sysEffect (h : Pumps K s t) {c n v f} : Pumps K s (Machine.sysEffect c n v f t) := by
  unfold Machine.sysEffect
  extract_lets o a
  exact .ite h.modArch (.ite h.modArch (.ite h.modArch (.ite h.modArch (.ite h.modArch (.ite h.modArch (.ite h (.ite h.clearPend (.ite h.wri.wakeWait (.ite (.ite h.wdSet.modCore h) h.modArch)))))))))

theorem Pumps.sysFlush (h : Pumps K s t) {c f} : Pumps K s (Machine.sysFlush c f t) := by
  unfold Machine.sysFlush
  split
  · exact h.modArch.sysEffect
  · exact h

theorem Pumps.awlEnter (h : Pumps K s t) {c l n ret} : Pumps K s (Machine.awlEnter c l n ret t) := by
  unfold Machine.awlEnter
  extract_lets u pc
  have hu : Pumps K s u := h.sysFlush
  exact hu.modArch

theorem Pumps.awlVector (h : Pumps K s t) {c n ret} : Pumps K s (Machine.awlVector c n ret t) := by unfold Machine.awlVector; exact h.modArch.awlEnter

theorem Pumps.awlExc (h : Pumps K s t) {c n ret} : Pumps K s (Machine.awlExc c n ret t) := by
  unfold Machine.awlExc
  refine .ite ?_ h.awlVector
  extract_lets u
  have hu : Pumps K s u := h.modArch
  exact hu.setAwlState.wri.recordSt.endSession.dropEntry

theorem Pumps.awlFaultInfo (h : Pumps K s t) {c st addr} : Pumps K s (Machine.awlFaultInfo c st addr t) := by
  unfold Machine.awlFaultInfo
  extract_lets o u
  have hu : Pumps K s u := h.modArch
  exact hu.wri.wri.wri

theorem Pumps.commitStore (h : Pumps K s t) {c x} : Pumps K s (Machine.commitStore c t x) := by
  unfold Machine.commitStore
  extract_lets u
  have hu : Pumps K s u := h.foldl (fun u1 _ hu1 => hu1.wrByte)
  refine .foldl hu (fun u1 a hu1 => ?_)
  extract_lets k
  exact .ite hu1.lit hu1

theorem Pumps.sendStore (h : Pumps K s t) {c x} : Pumps K s (Machine.sendStore c t x) := by
  unfold Machine.sendStore
  extract_lets t1
  exact h.modCore

theorem Pumps.release (h : Pumps K s t) {c} : Pumps K s (Machine.release c t) := by
  unfold Machine.release
  extract_lets k bound go u
  have hu : Pumps K s u := h.modCore.foldl (fun u1 _ hu1 => hu1.commitStore)
  exact .ite h (hu.modCore.foldl (fun u1 _ hu1 => hu1.sendStore))

theorem Pumps.breakWindow (h : Pumps K s t) {c} : Pumps K s (Machine.breakWindow c t) := by
  unfold Machine.breakWindow
  split
  · exact h
  · extract_lets t1 unl
    exact h.modCore

theorem Pumps.endWindow (h : Pumps K s t) {c} : Pumps K s (Machine.endWindow c t) := by
  unfold Machine.endWindow
  extract_lets k t1
  split
  · refine .ite ?_ h
    extract_lets out u
    have hu : Pumps K s u := h.modCore
    exact hu.release
  · exact h

theorem Pumps.takeWdog (h : Pumps K s t) {c} : Pumps K s (Machine.takeWdog c t) := by
  unfold Machine.takeWdog
  extract_lets k u u1
  have hu : Pumps K s u := h.squash
  have hu1 : Pumps K s u1 := hu.setAwlState.modCore
  exact .ite hu1.awlVector h

theorem Pumps.takeEntry (h : Pumps K s t) {c} : Pumps K s (Machine.takeEntry c t) := by
  unfold Machine.takeEntry
  extract_lets p k _ o cause u a waits u1 u2 u3 u4 u5 _ u6 u7 _
  have hu : Pumps K s u := h.squash
  have hu1 : Pumps K s u1 := hu.setAwlState.awlEnter.showPc
  have hu2 : Pumps K s u2 := hu1.wri.wri
  have hu3 : Pumps K s u3 := .ite hu2.wri hu2
  have hu4 : Pumps K s u4 := hu3.enterDone
  have hu5 : Pumps K s u5 := hu4.wdSettle
  have hu6 : Pumps K s u6 := .ite hu5.lit hu4
  have hu7 : Pumps K s u7 := hu6.wri.wri
  exact .ite h (.ite h.lit (.ite h hu7.lit))

theorem Pumps.retireOne (h : Pumps K s t) {c} : Pumps K s (Machine.retireOne c t) := by
  unfold Machine.retireOne
  split
  · exact h
  · split
    · extract_lets u
      have hu : Pumps K s u := .ite h.breakWindow h.squash
      exact hu.awlFaultInfo.awlExc
    · exact .ite h.modCore.release h

theorem Pumps.coreSettle (h : Pumps K s t) {c} : Pumps K s (Machine.coreSettle c t) := by
  unfold Machine.coreSettle
  extract_lets u
  have hu : Pumps K s u := h.foldl (fun u1 _ hu1 => hu1.retireOne)
  exact hu.endWindow.showPc.stopCheck.takeEntry.takeWdog

theorem Pumps.cacheFill (h : Pumps K s t) {c a} : Pumps K s (Machine.cacheFill c a t) := by
  unfold Machine.cacheFill
  extract_lets line set x
  have hx : Pumps K s x.2 := h.free
  exact .ite h (.ite h.modCore hx.modCore)

theorem Pumps.coreArrive (h : Pumps K s t) {c tag op st data} : Pumps K s (Machine.coreArrive c tag op st data t) := by
  unfold Machine.coreArrive
  extract_lets k held u
  have hu : Pumps K s u := h.modCore
  split
  · refine .ite ?_ h.modCore
    extract_lets raw v u1
    have hu1 : Pumps K s u1 := .ite h h.cacheFill
    exact hu1.modCore
  · exact .ite (.ite hu hu.wri.addi.raiseEdge) h

theorem Pumps.cobEvent (h : Pumps K s t) {kind cls die st loc} : Pumps K s (Machine.cobEvent kind cls die st loc t) := by
  unfold Machine.cobEvent
  exact h.push2

theorem Pumps.modCob (h : Pumps K s t) {f} : Pumps K s (State.modCob t f) := by unfold State.modCob; exact h.lit

theorem Pumps.histCount (h : Pumps K s t) {cls die loc} : Pumps K s (Machine.histCount cls die loc t) := by
  unfold Machine.histCount
  extract_lets h1 e
  exact .ite h.modCob (.ite h.modCob (.ite h.modCob h.inci))

theorem Pumps.cobCorrected (h : Pumps K s t) {cls die loc} : Pumps K s (Machine.cobCorrected cls die loc t) := by
  unfold Machine.cobCorrected
  extract_lets u u1 u2 u3
  have hu : Pumps K s u := h.inci
  have hu1 : Pumps K s u1 := hu.modCob
  have hu2 : Pumps K s u2 := .ite hu1 hu1.modCob
  have hu3 : Pumps K s u3 := hu2.histCount
  exact .ite (.ite (.ite hu3 hu3.modCob) hu3.cobEvent) hu3

theorem Pumps.cobUncorrectable (h : Pumps K s t) {cls die loc st} : Pumps K s (Machine.cobUncorrectable cls die loc st t) := by
  unfold Machine.cobUncorrectable
  exact h.cobEvent.inci

theorem Pumps.wakeNet (h : Pumps K s t) {d r k src} : Pumps K s (Machine.wakeNet d r k src t) := by
  unfold Machine.wakeNet
  extract_lets en s1
  have hs1 : Pumps K s s1 := h.modRegion
  exact .ite (.ite hs1 hs1.setRun.inci) h

theorem Pumps.wakeAll (h : Pumps K s t) {d r src} : Pumps K s (Machine.wakeAll d r src t) := by
  unfold Machine.wakeAll
  exact h.foldl (fun u a hu => hu.wakeNet)

theorem Pumps.setMark (h : Pumps K s t) {d r b word v} : Pumps K s (Machine.setMark d r b word v t) := by unfold Machine.setMark; exact h.modBank

theorem Pumps.setErrAdr (h : Pumps K s t) {d r b phys ue} : Pumps K s (Machine.setErrAdr d r b phys ue t) := by
  unfold Machine.setErrAdr
  extract_lets o
  exact .ite h h.wri.wri.wri.wri

theorem Pumps.bankChecked (h : Pumps K s t) {d r b word} : Pumps K s (Machine.bankChecked d r b word t) := by
  unfold Machine.bankChecked
  extract_lets ph loc
  split
  · exact h
  · exact h.wri.setErrAdr.cobCorrected
  · exact h.setErrAdr.wri.cobUncorrectable.fault

theorem Pumps.wakeXy (h : Pumps K s t) {c y} : Pumps K s (Machine.wakeXy c y t) := by unfold Machine.wakeXy; exact .ite h.wri h

theorem Pumps.modFlow (h : Pumps K s t) {f g} : Pumps K s (State.modFlow t f g) := by unfold State.modFlow; exact h.modWelt

theorem Pumps.weltLog (h : Pumps K s t) {kind op st src dst} : Pumps K s (Machine.weltLog kind op st src dst t) := by
  unfold Machine.weltLog
  exact h.push2.inci

theorem Pumps.statAdd (h : Pumps K s t) {e item n} : Pumps K s (Machine.statAdd e item n t) := by unfold Machine.statAdd; exact .ite h.modWelt h

theorem Pumps.statUnits (h : Pumps K s t) {q} : Pumps K s (Machine.statUnits q t) := by
  unfold Machine.statUnits
  extract_lets bytes
  exact h.statAdd.statAdd

theorem Pumps.complete (h : Pumps K s t) {e tag op st data} : Pumps K s (Machine.complete e tag op st data t) := by
  unfold Machine.complete
  exact h.modWelt

theorem Pumps.respond (h : Pumps K s t) {q op st data len} : Pumps K s (Machine.respond q op st data len t) := by unfold Machine.respond; exact h.modWelt

theorem Pumps.refuse (h : Pumps K s t) {q st} : Pumps K s (Machine.refuse q st t) := by
  unfold Machine.refuse
  exact .ite h.weltLog (.respond (.ite h.weltLog h))

theorem Pumps.answer (h : Pumps K s t) {q data} : Pumps K s (Machine.answer q data t) := by unfold Machine.answer; exact .ite h h.respond

theorem Pumps.hold (h : Pumps K s t) {q why} (hq : ¬ (q.dst = epQueue ∧ why = .asleep)) : Pumps K s (Machine.hold q why t) :=
  h.trans ⟨id, fun ht x hx => (List.mem_append.1 hx).elim (ht x) fun hx => by rw [List.mem_singleton.1 hx]; exact hq, fun _ _ => ⟨rfl, rfl⟩⟩

theorem Pumps.toInbox (h : Pumps K s t) {e q} : Pumps K s (Machine.toInbox e q t) := by unfold Machine.toInbox; exact h.modWelt

theorem Pumps.addLock (h : Pumps K s t) {tgt line owner} : Pumps K s (Machine.addLock tgt line owner t) := by
  unfold Machine.addLock
  exact .ite h h.modWelt

theorem Pumps.dropLock (h : Pumps K s t) {tgt line} : Pumps K s (Machine.dropLock tgt line t) := by unfold Machine.dropLock; exact h.modWelt

theorem Pumps.snpSetBit (h : Pumps K s t) {line core} : Pumps K s (Machine.snpSetBit line core t) := by
  unfold Machine.snpSetBit
  extract_lets isNew
  exact h.modWelt

theorem Pumps.snpClear (h : Pumps K s t) {line m} : Pumps K s (Machine.snpClear line m t) := by unfold Machine.snpClear; exact h.modWelt

theorem Pumps.modChan (h : Pumps K s t) {c f} : Pumps K s (State.modChan t c f) := by unfold State.modChan; exact h.lit

theorem Pumps.drcLog (h : Pumps K s t) {kind c dev st line} : Pumps K s (Machine.drcLog kind c dev st line t) := by unfold Machine.drcLog; exact h.push2

theorem Pumps.lineCheck (h : Pumps K s t) {c line} : Pumps K s (Machine.lineCheck c line t).1 := by
  unfold Machine.lineCheck
  extract_lets m u u1
  have hu : Pumps K s u := h.inci.drcLog
  have hu1 : Pumps K s u1 := hu.cobUncorrectable
  split
  · exact h
  · split
    · exact h.inci.drcLog.cobCorrected.left
    · exact hu1.recordSt.left

theorem Pumps.setLineMark (h : Pumps K s t) {c line v} : Pumps K s (Machine.setLineMark c line v t) := by unfold Machine.setLineMark; exact h.modChan

theorem Pumps.touchRow (h : Pumps K s t) {c p} : Pumps K s (Machine.touchRow c p t) := by
  unfold Machine.touchRow
  split
  · exact h.modChan

theorem Pumps.drainLine (h : Pumps K s t) {c e readPair} : Pumps K s (Machine.drainLine c e readPair t) := by
  unfold Machine.drainLine
  refine .ite (.setLineMark (.wrMem (.ite h.lineCheck h))) ?_
  extract_lets m u u1
  have hu : Pumps K s u := h.lineCheck
  have hu1 : Pumps K s u1 := hu.wrMem
  exact .ite hu1.setLineMark.drcLog.recordSt hu1.setLineMark

theorem Pumps.drainPair (h : Pumps K s t) {c p} : Pumps K s (Machine.drainPair c p t) := by
  unfold Machine.drainPair
  extract_lets es whole u u1
  have hu : Pumps K s u := h.foldl (fun u2 a hu2 => hu2.drainLine)
  have hu1 : Pumps K s u1 := by
    unfold u1
    refine .foldl hu (fun u2 a hu2 => ?_)
    refine .ite hu2 ?_
    extract_lets m u3
    have hu3 : Pumps K s u3 := hu2.lineCheck
    exact .ite hu3.setLineMark hu3
  exact .ite h hu1.modChan.touchRow

theorem Pumps.readLine (h : Pumps K s t) {c line mask} : Pumps K s (Machine.readLine c line mask t).2.2 := by
  unfold Machine.readLine
  split
  · exact h
  · split
    · split
      · exact h.inci.right
      · extract_lets u r
        have hu : Pumps K s u := h.inci.drainPair
        have hr : Pumps K s r.1 := hu.lineCheck
        exact hr.touchRow.right
    · extract_lets r
      have hr : Pumps K s r.1 := h.lineCheck
      exact hr.touchRow.right

theorem Pumps.queueWrite (h : Pumps K s t) {c line mask data} : Pumps K s (Machine.queueWrite c line mask data t) := by
  unfold Machine.queueWrite
  exact h.modChan

theorem Pumps.dramServe (h : Pumps K s t) {q} : Pumps K s (Machine.dramServe q t).2 := by
  unfold Machine.dramServe
  extract_lets c st wm line off ls fresh
  split
  · exact h
  split
  · exact h
  split
  · exact h
  split
  · split
    next data good u e =>
      have hu : Pumps K s u := by
        have hfold := List.foldlRecOn (motive := fun r : Nat × Bool × State => Pumps K s r.2.2) (List.range (q.uidx + 1))
          (fun (r : Nat × Bool × State) u =>
            let m := rangeMask (if u = 0 then q.bfirst else 0) (if u = q.uidx then q.blast else 63)
            let x := Machine.readLine c (lineOfAddr q.addr + u) m r.2.2
            (r.1 + x.1 * 2 ^ (512 * u), r.2.1 && x.2.1, x.2.2)) (b := (0, true, t)) h fun r hr _ _ => (show Pumps K s r.2.2 from hr).readLine
        exact (show Pumps K s (data, good, u).2.2 from e ▸ hfold)
      exact hu
  split
  · split
    · exact h
    · split
      next data good u e =>
        have hr : Pumps K s (Machine.readLine c line (rangeMask off (off + 7)) t).2.2 := h.readLine
        rw [e] at hr
        extract_lets old
        split
        · exact hr
        · split
          · split
            · exact h
            · exact (show Pumps K s u from hr).queueWrite
          · exact hr
  · split
    · exact h
    · exact h.foldl fun _ _ hu => hu.queueWrite

theorem Pumps.modPcie (h : Pumps K s t) {f} : Pumps K s (State.modPcie t f) := by unfold State.modPcie; exact h.lit

theorem Pumps.sendMsix (h : Pumps K s t) {v} : Pumps K s (Machine.sendMsix v t).2 := by
  unfold Machine.sendMsix
  extract_lets p
  split
  · exact h
  · split
    · exact h.modPcie.right
    · exact h.modPcie.right

theorem Pumps.deliverMsg (h : Pumps K s t) {q} : Pumps K s (Machine.deliverMsg q t).2 := by
  unfold Machine.deliverMsg
  extract_lets d r x
  have hx : Pumps K s x.2 := h.coreMsg
  split
  · exact h
  · split
    · exact h
    · split
      · exact h
      · split
        · exact hx
        · exact h.wakeAll.toInbox.right

theorem Pumps.setCtxWord (h : Pumps K s t) {q k v} : Pumps K s (Machine.setCtxWord q k v t) := by unfold Machine.setCtxWord; exact h.wrMem

theorem Pumps.setCtx (h : Pumps K s t) {q k lo w v} : Pumps K s (Machine.setCtx q k lo w v t) := by unfold Machine.setCtx; exact h.setCtxWord

theorem Pumps.setPmask (h : Pumps K s t) {q v} : Pumps K s (Machine.setPmask q v t) := by unfold Machine.setPmask; exact h.lit

theorem Pumps.setCmask (h : Pumps K s t) {q v} : Pumps K s (Machine.setCmask q v t) := by unfold Machine.setCmask; exact h.lit

theorem Pumps.notify (h : Pumps K s t) {q} : Pumps K s (Machine.notify q t) := by
  unfold Machine.notify
  extract_lets t1 x x1 r
  have hx : Pumps K s x.2 := h.deliverMsg
  have hx1 : Pumps K s x1.2 := h.deliverMsg
  have hr : Pumps K s r.2 := by
    unfold r
    split
    · exact h.sendMsix
    · split
      · split
        · exact hx
        · exact h
      · split
        · exact hx1
        · exact h
  exact .ite hr hr.push

theorem Pumps.evalNotify (h : Pumps K s t) {q} : Pumps K s (Machine.evalNotify q t) := by unfold Machine.evalNotify; exact .ite h.setCtx.notify h

theorem Pumps.advanceTail (h : Pumps K s t) {q} : Pumps K s (Machine.advanceTail q t) := by
  unfold Machine.advanceTail
  extract_lets n
  exact h.setCtx.setPmask

theorem Pumps.advanceHead (h : Pumps K s t) {q} : Pumps K s (Machine.advanceHead q t) := by
  unfold Machine.advanceHead
  extract_lets n
  exact h.setCtx.setCmask

theorem Pumps.qDoorbell (h : Pumps K s t) {q t1} : Pumps K s (Machine.qDoorbell q t1 t).2 := by
  unfold Machine.qDoorbell
  split
  · exact h
  · split
    · exact h
    · exact h.setCtxWord.right

theorem Pumps.qReserve (h : Pumps K s t) {q k} : Pumps K s (Machine.qReserve q k t).2 := by
  unfold Machine.qReserve
  split
  · exact h
  · split
    · exact h
    · split
      · exact h
      · split
        · exact h
        · exact h.setCtx.right

theorem Pumps.qCommit (h : Pumps K s t) {q i k} : Pumps K s (Machine.qCommit q i k t).2 := by
  unfold Machine.qCommit
  extract_lets o
  split
  · exact h
  · split
    · exact h
    · exact h.setPmask.advanceTail.right

theorem Pumps.qReleaseTo (h : Pumps K s t) {q h1} : Pumps K s (Machine.qReleaseTo q h1 t).2 := by
  unfold Machine.qReleaseTo
  split
  · exact h
  · split
    · exact h
    · exact h.setCtxWord.right

theorem Pumps.qClaimK (h : Pumps K s t) {q k} : Pumps K s (Machine.qClaimK q k t).2 := by
  unfold Machine.qClaimK
  split
  · exact h
  · split
    · exact h
    · split
      · exact h
      · split
        · exact h
        · exact h.setCtx.right

theorem Pumps.qReleaseK (h : Pumps K s t) {q i k} : Pumps K s (Machine.qReleaseK q i k t).2 := by
  unfold Machine.qReleaseK
  extract_lets o
  split
  · exact h
  · split
    · exact h
    · exact h.setCmask.advanceHead.right

theorem Pumps.qOp (h : Pumps K s t) {q k add v} : Pumps K s (Machine.qOp q k add v t).2 := by
  unfold Machine.qOp
  extract_lets lo hi
  split
  · split
    · split
      · exact h.qReserve
      · exact h
    · split
      · exact h.qCommit
      · exact h.qDoorbell
  · split
    · split
      · exact h.qClaimK
      · exact h
    · split
      · exact h.qReleaseK
      · exact h.qReleaseTo

theorem Pumps.qFinish (h : Pumps K s t) {q k} : Pumps K s (Machine.qFinish q k t) := by
  unfold Machine.qFinish
  extract_lets u
  have hu : Pumps K s u := .ite h.setCtx h
  exact hu.evalNotify

theorem Pumps.qRefused (h : Pumps K s t) {q} : Pumps K s (Machine.qRefused q t) := by unfold Machine.qRefused; exact h.setCtx.inci

theorem Pumps.ctxUe (h : Pumps K s t) {a} : Pumps K s (Machine.ctxUe a t) := by
  unfold Machine.ctxUe
  extract_lets q u
  have hu : Pumps K s u := h.setCtx.setCtx.cobUncorrectable
  exact hu.push.recordSt

theorem Pumps.ctxReads (h : Pumps K s t) {ws} : Pumps K s (Machine.ctxReads ws t).2 := by
  unfold Machine.ctxReads
  refine .foldlSnd h (fun r a h1 => ?_)
  split
  · exact h1
  · exact h1.cobCorrected.right
  · exact h1.ctxUe.right

theorem Pumps.queServe (h : Pumps K s t) {r} : Pumps K s (Machine.queServe r t).2 := by
  unfold Machine.queServe
  have hu : Pumps K s (t.inci QUE_OPS_COUNT 0) := h.inci
  generalize t.inci QUE_OPS_COUNT 0 = u at hu ⊢
  have hreads : ∀ l, Pumps K s (Machine.ctxReads l u).2 := fun _ => hu.ctxReads
  extract_lets _ unit lo hi add okForm a q k v
  split
  · have hx := hreads ((List.range (hi + 1 - lo)).map fun i => (lo + i) * 8)
    generalize Machine.ctxReads _ u = x at hx ⊢
    obtain ⟨ok, w⟩ := x
    cases ok with
    | true => exact hx
    | false => exact hx
  · split
    · exact hu
    · have hx := hreads ((List.range 4).map (ctxAddr q))
      generalize Machine.ctxReads _ u = x at hx ⊢
      obtain ⟨ok, w⟩ := x
      cases ok with
      | false => exact hx
      | true =>
        have hy : Pumps K s (Machine.qOp q k add v w).2 := Pumps.qOp hx
        dsimp only
        split
        · exact hy.qFinish.right
        · exact hy.qRefused.right

/-- The memory's own operations leave these. -/
structure WordMem.Quiet (m : WordMem) : Prop where
  check : ∀ {K : Prop} {s t : State} (a : Nat), Pumps K s t → Pumps K s (m.check a t)
  setMark : ∀ {K : Prop} {s t : State} (a v : Nat), Pumps K s t → Pumps K s (m.setMark a v t)

theorem WordMem.Quiet.reads {m : WordMem} (hm : m.Quiet) (h : Pumps K s t) {ws} : Pumps K s (m.reads ws t).2 :=
  Pumps.foldlSnd h fun _ a hr => hm.check a hr

theorem WordMem.Quiet.write {m : WordMem} (hm : m.Quiet) {r : Bool × State} (h : Pumps K s r.2) {w} : Pumps K s (m.write r w).2 := by
  unfold WordMem.write
  split
  split
  · exact .right (hm.setMark _ _ h.wrMem)
  · extract_lets bad u
    have hu : Pumps K s u := hm.check _ h
    split
    · exact hu
    · exact .right (hm.setMark _ _ hu.wrMem)

theorem WordMem.Quiet.serve {m : WordMem} (hm : m.Quiet) (h : Pumps K s t) {q} : Pumps K s (m.serve q t).2 := by
  unfold WordMem.serve
  extract_lets word res r old w
  split
  · exact .right (hm.reads h)
  split
  · exact .right (hm.reads h.addLock)
  split
  · exact .right h.dropLock
  split
  · have hr : Pumps K s r.2 := hm.write (r := (true, t)) h
    exact .right hr.dropLock
  split
  · have hw : Pumps K s w.2 := hm.reads h
    split
    · split
      · exact .right (hm.write hw)
      · exact hw
    · exact hw
  · exact .right (h.foldlSnd (p := (true, t)) fun _ _ hr => hm.write hr)

theorem bankMem_quiet (d r : Nat) : (bankMem d r).Quiet := ⟨fun _ h => h.bankChecked, fun _ _ h => h.setMark⟩

theorem awlMem_quiet (c : Nat) : (awlMem c).Quiet where
  check a h := by
    unfold awlMem
    dsimp only
    split
    · exact h
    · exact h.cobCorrected
    · exact h.cobUncorrectable.recordSt
  setMark _ _ h := h.lit

theorem lastMem_quiet : lastMem.Quiet where
  check a h := by
    unfold lastMem
    dsimp only
    split
    · exact h.ctxReads
    · split
      · exact h
      · exact h.cobCorrected
      · exact h.cobUncorrectable.recordSt
  setMark _ _ h := h.lit

theorem Pumps.bankServe (h : Pumps K s t) {q} : Pumps K s (Machine.bankServe q t).2 := by
  unfold Machine.bankServe
  extract_lets d r b o pwr u
  have hu : Pumps K s u := h.wakeAll
  split
  · exact hu
  split
  · exact hu
  split
  · exact .right (.ite hu.wri hu)
  split
  · exact hu.wri.right
  split
  · exact hu
  · exact (bankMem_quiet d r).serve hu

theorem Pumps.awlServe (h : Pumps K s t) {q} : Pumps K s (Machine.awlServe q t).2 := by
  unfold Machine.awlServe
  extract_lets c y
  split
  · exact h
  split
  · exact h
  split
  · exact h.wakeXy.right
  split
  · exact h
  · exact (awlMem_quiet c).serve h

theorem Pumps.setUnitState (h : Pumps K s t) {u1 v} : Pumps K s (Machine.setUnitState u1 v t) := by unfold Machine.setUnitState; exact .ite h.wr h.wri

theorem Pumps.sendSinv (h : Pumps K s t) {ls m} : Pumps K s (Machine.sendSinv ls m t) := by
  unfold Machine.sendSinv
  extract_lets l
  exact h.modWelt

theorem Pumps.lastServe (h : Pumps K s t) {q} : Pumps K s (Machine.lastServe q t).2 := by
  unfold Machine.lastServe
  extract_lets c ls m u
  split
  · exact h
  split
  · exact h
  split
  · exact h
  split
  · exact h.setUnitState.right
  split
  · exact h.queServe
  split
  · exact h
  · split
    · exact h.sendSinv.right
    · have hu : Pumps K s u := .ite (h.foldl fun _ _ hv => hv.snpSetBit) h
      exact lastMem_quiet.serve hu

theorem bundlePump_keeps (n : Nat) (x : Bundle) : (bundlePump n x).remote = x.remote ∧ (bundlePump n x).arrived = x.arrived := by
  induction n generalizing x with
  | zero => exact ⟨rfl, rfl⟩
  | succ n ih =>
    unfold bundlePump
    split
    · exact ⟨rfl, rfl⟩
    · split
      · exact ⟨rfl, rfl⟩
      · exact ih _

theorem Pumps.bundleSendAll (h : Pumps K s t) {b} : Pumps K s (Machine.bundleSendAll b t) := by unfold Machine.bundleSendAll; exact .ite (h.modBundle fun x => bundlePump_keeps _ x) h

theorem Pumps.bundleSend (h : Pumps K s t) {b fs} : Pumps K s (Machine.bundleSend b fs t) := by unfold Machine.bundleSend; exact h.modBundle.bundleSendAll

theorem Pumps.bridgeServe (h : Pumps K s t) {q} : Pumps K s (Machine.bridgeServe q t).2 := by
  unfold Machine.bridgeServe
  extract_lets w o b writes a
  split
  · exact h
  · split
    · exact h
    · split
      · exact h
      · exact h.bundleSend.right

theorem Pumps.serveAt (h : Pumps K s t) {q} : Pumps K s (Machine.serveAt q t).2 := by
  unfold Machine.serveAt
  extract_lets d r x
  have hx : Pumps K s x.2 := h.coreMsg
  split
  · split
    · exact h
    · split
      · exact h
      · split
        · split
          · exact h
          · exact h.bankServe
        · split
          · exact h
          · split
            · exact hx
            · exact h.awlServe
        · split
          · exact h
          · split
            · exact h.wakeAll.toInbox.right
            · exact h.wakeAll.right
  · split
    · exact h
    · split
      · exact h
      · split
        · exact h.dramServe
        · split
          · exact h.lastServe
          · split
            · exact h.bridgeServe
            · split
              · split
                · exact h
                · exact h
              · exact h

/-- The endpoint of the queue unit refuses every request. -/
theorem serveAt_queue {q : Req} (h : q.dst = epQueue) (w : Why) (t u : State) : serveAt q t ≠ (.wait w, u) := by
  unfold serveAt
  rw [h]
  extract_lets d r x
  rw [if_neg (by decide), if_neg fun h => absurd h.1 (by decide)]
  split
  · simp
  · rw [if_neg (by decide), if_neg (by decide), if_neg (by decide), if_neg (by decide)]
    simp

theorem Pumps.serveOrHold (h : Pumps K s t) {q} : Pumps K s (Machine.serveOrHold q t) := by
  unfold Machine.serveOrHold
  refine .ite (h.hold fun hq => by simp at hq) ?_
  split
  next e =>
    have hu := h.serveAt.snd e
    exact hu.answer
  next e =>
    have hu := h.serveAt.snd e
    exact hu.refuse
  next e =>
    have hu := h.serveAt.snd e
    exact hu.hold fun hq => serveAt_queue hq.1 _ _ _ e

/-- The answer to an admitted request leaves the list of its bundle. -/
theorem Pumps.bridgeFinish (h : Pumps False s t) {e tag op st data} : Pumps False s (Machine.bridgeFinish e tag op st data t) := by
  unfold Machine.bridgeFinish
  split
  · exact h.complete
  · split
    · exact h
    · extract_lets r u
      have hu : Pumps False s u := h.trans ⟨id, id, False.elim⟩
      exact .ite hu.bundleSend hu

theorem Pumps.pcieFinish (h : Pumps False s t) {tag op st data} : Pumps False s (Machine.pcieFinish tag op st data t) := by
  unfold Machine.pcieFinish
  split
  · extract_lets u
    have hu : Pumps False s u := h.modPcie
    exact .ite hu.push hu
  · split
    · exact h
    · extract_lets bad x1 u
      have hu : Pumps False s u := .ite h.push h
      exact .ite hu.modPcie hu.modPcie

theorem Pumps.mgmtFinish (h : Pumps False s t) {tag op st data} : Pumps False s (Machine.mgmtFinish tag op st data t) := by
  unfold Machine.mgmtFinish
  refine .ite ?_ ?_
  · split
    · exact h
    · extract_lets u _
      have hu : Pumps False s u := h.modWelt
      exact hu.lit
  · split
    · exact h
    · extract_lets m1 rd u
      have hu : Pumps False s u := h.modWelt
      exact .ite h.modWelt hu.lit

theorem Pumps.finishAt (h : Pumps False s t) {e tag op st data} : Pumps False s (Machine.finishAt e tag op st data t) := by
  unfold Machine.finishAt
  exact .ite h.bridgeFinish (.ite h.pcieFinish (.ite h.mgmtFinish (.ite h.coreArrive.coreSettle h.complete)))

theorem Pumps.refuseInject (h : Pumps False s t) {q st} : Pumps False s (Machine.refuseInject q st t) := by
  unfold Machine.refuseInject
  exact h.statUnits.weltLog.finishAt

theorem Pumps.tryInject (h : Pumps False s t) {q} (e : Machine.tryInject q t = some u) : Pumps False s u := by
  unfold Machine.tryInject at e
  split at e
  · cases e
  split at e
  · cases e
    exact h.refuseInject
  · dsimp only at e
    split at e
    · split at e
      · cases e
      · cases e
        exact h.modFlow
    split at e
    · cases e
    split at e
    · cases e
      exact h.statUnits.serveOrHold
    split at e
    · cases e
    · cases e
      exact h.modWelt.statUnits.serveOrHold

theorem Pumps.tryInjectD (h : Pumps False s t) (hu : Pumps False s u) {q} : Pumps False s ((Machine.tryInject q t).getD u) := by
  cases e : Machine.tryInject q t with
  | none => exact hu
  | some v => exact h.tryInject e

theorem Pumps.present (h : Pumps False s t) {q} : Pumps False s (Machine.present q t) := .ite h.modWelt (h.tryInjectD h.modWelt)

theorem Pumps.snoopDone (h : Pumps False s t) {q} : Pumps False s (Machine.snoopDone q t) := by
  unfold Machine.snoopDone
  extract_lets s1
  have hs1 : Pumps False s s1 := h.foldl (fun u a hu => hu.snpClear)
  exact .ite hs1 hs1.inci

/-- What the design, a bundle or a snoop must still answer is held again; the rest is served. -/
theorem Pumps.retryOne (h : Pumps False s t) {h1} : Pumps False s (Machine.retryOne t h1) := by
  unfold Machine.retryOne
  split
  next hw => exact h.hold (q := h1.req) (why := h1.why) fun hq => by simp [hw] at hq
  next hw => exact h.hold (q := h1.req) (why := h1.why) fun hq => by simp [hw] at hq
  next hw => exact .ite h.snoopDone.serveOrHold (h.hold (q := h1.req) (why := h1.why) fun hq => by simp [hw] at hq)
  · exact h.serveOrHold

theorem retryHeld_unheld (t : State) : Unheld (Machine.retryHeld t) ∧ (t.shf.rbWait = none → (Machine.retryHeld t).shf.rbWait = none) := by
  have hfold : Pumps False (t.modWelt fun w => { w with held := [] }) (Machine.retryHeld t) := by
    unfold Machine.retryHeld
    exact (Pumps.refl _).foldl (fun u _ hu => hu.retryOne)
  exact ⟨hfold.unheld fun _ hx => absurd hx List.not_mem_nil, fun ht => hfold.rbWait ht⟩

theorem Pumps.retryHeld (h : Pumps False s t) : Pumps False s (Machine.retryHeld t) :=
  h.trans ⟨(retryHeld_unheld t).2, fun _ => (retryHeld_unheld t).1, False.elim⟩

theorem Pumps.retryWait (h : Pumps False s t) : Pumps False s (Machine.retryWait t) := by
  unfold Machine.retryWait
  exact h.modWelt.foldl (fun u _ hu => hu.present)

theorem Pumps.retryCores (h : Pumps False s t) : Pumps False s (Machine.retryCores t) := by
  unfold Machine.retryCores
  exact h.foldl (fun u _ hu => .ite hu (hu.modCore.foldl (fun u1 _ hu1 => hu1.present)))

theorem Pumps.retryPcie (h : Pumps False s t) : Pumps False s (Machine.retryPcie t) := by
  unfold Machine.retryPcie
  extract_lets l
  exact h.modPcie.foldl (fun u _ hu => hu.foldl (fun u1 _ hu1 => hu1.present))

theorem Pumps.placeStream (h : Pumps False s t) {x} : Pumps False s (Machine.placeStream t x) :=
  .ite h.lit (.ite h.inci (.ite h.lit (h.foldl fun _ _ hu => hu.tryInjectD hu)))

theorem Pumps.placeStreams (h : Pumps False s t) : Pumps False s (Machine.placeStreams t) := by
  unfold Machine.placeStreams
  exact h.lit.foldl (fun u a hu => hu.placeStream)

theorem Pumps.pumpN (h : Pumps False s t) {n} : Pumps False s (Machine.pumpN n t) := by
  induction n generalizing t with
  | zero => exact h
  | succ n ih =>
    have hu : Pumps False s (Machine.retryHeld (Machine.retryWait (Machine.retryPcie (Machine.retryCores t)))) := h.retryCores.retryPcie.retryWait.retryHeld
    exact .ite hu (ih hu)

theorem Pumps.pump (h : Pumps False s t) : Pumps False s (Machine.pump t) := by
  unfold Machine.pump
  extract_lets u
  have hu : Pumps False s u := h.placeStreams
  exact .ite hu hu.pumpN

/-- Whatever it starts from, a pump leaves nothing asleep at the queue unit. -/
theorem pumpN_unheld (n : Nat) (t : State) : Unheld (Machine.pumpN (n + 1) t) := by
  induction n generalizing t with
  | zero =>
    rw [Machine.pumpN]
    split
    · exact (retryHeld_unheld _).1
    · exact (retryHeld_unheld _).1
  | succ n ih =>
    rw [Machine.pumpN]
    split
    · exact (retryHeld_unheld _).1
    · exact ih _

theorem pump_unheld (t : State) : Unheld (Machine.pump t) := by
  unfold Machine.pump
  extract_lets u
  split
  next hidle => exact fun _ hx => absurd (hidle.1 ▸ hx) List.not_mem_nil
  · exact pumpN_unheld _ u

end

end Sys2Proof.Machine

namespace Sys2Proof.Machine

set_option Elab.async false

/-! Epochs and the service of the network (R174, R179, R193 to R196) -/

section
variable {s t : State}

/-- What a change of the flow enables leaves as it is. -/
def offFlows (s : State) : Tab Nat × List Host.Cell × Welt := (s.regs, s.mem, { s.welt with flows := [] })

theorem takeEnables_keeps (old new : Sched) (s : State) : offFlows (takeEnables old new s) = offFlows s := by
  unfold takeEnables
  refine foldl_keeps offFlows (fun s p => ?_) _ s
  split <;> rfl

theorem takeEnables_spec (old new : Sched) (s : State) : (takeEnables old new s).regs = s.regs ∧ (takeEnables old new s).mem = s.mem ∧
    (takeEnables old new s).welt.stamp = s.welt.stamp ∧ (takeEnables old new s).welt.bank = s.welt.bank ∧ (takeEnables old new s).welt.lace = s.welt.lace ∧
    (takeEnables old new s).welt.chg = s.welt.chg := by
  have h := takeEnables_keeps old new s
  simp only [offFlows, Prod.mk.injEq, Welt.mk.injEq] at h
  simp [h]

/-- Step 4 of an epoch change: the stamp and the bank change at F, and the state shows the drain. -/
theorem epochBoundary_spec (s : State) : (epochBoundary s).mem = s.mem ∧ (epochBoundary s).welt.stamp = 1 - s.welt.stamp ∧ (epochBoundary s).welt.bank = 1 - s.welt.bank ∧
    s.rd WLT_EPOCHF_F * 2048 ≤ (epochBoundary s).welt.lace ∧ (epochBoundary s).welt.chg = s.welt.chg ∧ (epochBoundary s).rd WLT_EPOCH_STATE = 3 ∧
    (epochBoundary s).rd WLT_EPOCH_CUR = s.rd WLT_EPOCH_CUR := by
  obtain ⟨x, hx, hwelt, hmem, -, hrd⟩ := reachLace_spec (s.rd WLT_EPOCHF_F * 1024) s
  unfold epochBoundary
  generalize reachLace (s.rd WLT_EPOCHF_F * 1024) s = u at *
  extract_lets _ old v w set
  have hv : v.welt = { u.welt with stamp := 1 - u.welt.stamp, bank := 1 - u.welt.bank } := rfl
  obtain ⟨wregs, wmem, wstamp, wbank, wlace, wchg⟩ : w.regs = (v.wr WLT_LACE_SBANK v.welt.bank).regs ∧ w.mem = v.mem ∧ w.welt.stamp = v.welt.stamp ∧
    w.welt.bank = v.welt.bank ∧ w.welt.lace = v.welt.lace ∧ w.welt.chg = v.welt.chg := takeEnables_spec ..
  have hstate : w.rd WLT_EPOCH_STATE = 3 := by
    rw [State.rd, State.rdi_of_regs wregs, State.rdi_wr_ne _ _ (by decide)]
    exact State.rd_wr_same ..
  have hcur : w.rd WLT_EPOCH_CUR = s.rd WLT_EPOCH_CUR := by
    rw [State.rd, State.rdi_of_regs wregs, State.rdi_wr_ne _ _ (by decide)]
    exact (State.rd_wr_ne _ _ (by decide)).trans (hrd _ 0 (by decide))
  have hst : u.welt.stamp = s.welt.stamp := by rw [hwelt]
  have hbank : u.welt.bank = s.welt.bank := by rw [hwelt]
  have hlace : u.welt.lace = x := by rw [hwelt]
  have hchg : u.welt.chg = s.welt.chg := by rw [hwelt]
  rw [hv] at wstamp wbank wlace wchg
  clear_value w set
  refine ⟨wmem.trans hmem, wstamp.trans (congrArg _ hst), wbank.trans (congrArg _ hbank), ?_, wchg.trans hchg, ?_, ?_⟩
  · change _ ≤ w.welt.lace
    rw [wlace, hlace]; omega
  · rw [State.rd_wr_ne _ _ (by decide), State.rd_wr_ne _ _ (by decide), hstate]
  · rw [State.rd_wr_ne _ _ (by decide), State.rd_wr_ne _ _ (by decide), hcur]


theorem svcStart_rd {f : Fld} (h : f.key 0 ≠ WLT_SVC_STATE.key 0) (n : Nat) (s : State) : (svcStart n none s).rd f = s.rd f := State.rd_wr_ne _ _ h
end

/-- Settles O32: each event of an epoch change writes its own registers, and at F time reaches the boundary. -/
theorem epochs : Obligations.Epochs := by
  unfold Obligations.Epochs
  refine ⟨fun s hst hcause => ?_, fun s hst h9 h4 h10 => ?_, fun s hst hshf hcause => ?_, fun s hst hold hrb => ?_, fun s hst hold => if_pos (.inr hold), fun s hst => ?_,
    fun s hmode hsvc => ?_, fun s hmode hsvc => ?_, fun s split hmode => ?_, fun s elem op src dst hmode => ?_⟩
  · have hcmd : exec .epochConfirmed s = .next ((s.wr WLT_EPOCH_STATE 2).wr WLT_EPOCHF_F (s.welt.chg.frame.getD (boundaryAfter 4 s))) :=
      (if_neg fun h => h hst).trans (if_neg hcause)
    rw [hcmd, yields_next]
    exact ⟨(State.rd_wr_ne _ _ (by decide)).trans (State.rd_wr_same ..), State.rd_wr_same .., rfl, .of_mem rfl, SameRegsBut.wr (.wr .refl)⟩
  · let u := (s.wr WLT_EPOCH_STATE 0).wr WLT_EPOCH_STATUS ST_HW_WLT_TABLE
    let t := u.recordSt ST_HW_WLT_TABLE 12 [s.welt.chg.cause]
    have hrd : ∀ f : Fld, f.key 0 ≠ BBX_LOST_COUNT.key 0 → t.rd f = u.rd f := fun f h => State.record_rd _ _ _ _ _ h
    have hu : ∀ f : Fld, f.key 0 ≠ WLT_EPOCH_STATE.key 0 → f.key 0 ≠ WLT_EPOCH_STATUS.key 0 → u.rd f = s.rd f :=
      fun f h1 h2 => (State.rd_wr_ne _ _ h2).trans (State.rd_wr_ne _ _ h1)
    have hshf : shfState t = shfState s := (hrd _ (by decide)).trans (hu _ (by decide) (by decide))
    have hcmd : exec .epochConfirmTimeout s = .next t := by
      refine (if_neg fun h => h hst).trans ((if_neg ?_).trans (if_neg ?_))
      · exact fun h => h9 (hshf.symm.trans h)
      · exact fun h => h.elim (fun h => h4 (hshf.symm.trans h)) fun h => h10 (hshf.symm.trans h)
    rw [hcmd, yields_next]
    refine ⟨(hrd _ (by decide)).trans ?_, (hrd _ (by decide)).trans (State.rd_wr_same ..), ?_, (hrd _ (by decide)).trans (hu _ (by decide) (by decide)), ?_⟩
    · exact (State.rd_wr_ne _ _ (by decide)).trans (State.rd_wr_same ..)
    · simp [t, u, State.recordSt]
    · exact .of_mem (by simp [t, u, State.recordSt])
  · obtain ⟨hmem, hstamp, hbank, hlace, hchg, hstate, hcur⟩ := epochBoundary_spec s
    have hcmd : exec .epochBoundary s = .next (epochBoundary s) := by
      refine (if_neg ?_).trans (if_neg (hchg ▸ hcause))
      rintro (h | ⟨-, h6, h8, h10⟩)
      · exact h hst
      · exact hshf.elim h6 fun h => h.elim h8 h10
    rw [hcmd, yields_next]
    exact ⟨hstate, hstamp, hbank, hcur, hlace, .of_mem hmem⟩
  · refine ⟨((s.wr WLT_EPOCH_CUR s.welt.stamp).wr WLT_EPOCH_STATE 0).wr WLT_EPOCH_STATUS 0, ?_, ?_, State.rd_wr_same .., ?_, rfl, .of_mem rfl⟩
    · refine (if_neg ?_).trans ?_
      · rintro (h | h)
        · exact h hst
        · exact absurd (hold.symm.trans h) (by decide)
      · have hnone : (epochDrained s).shf.rbWait = none := (Pumps.refl (K := False) _).pump.rbWait hrb
        simp only [hnone]
        rfl
    · exact (State.rd_wr_ne _ _ (by decide)).trans (State.rd_wr_same ..)
    · exact (State.rd_wr_ne _ _ (by decide)).trans ((State.rd_wr_ne _ _ (by decide)).trans (State.rd_wr_same ..))
  · obtain ⟨hwelt, hmem, hrd⟩ := recordOpen_spec 12 [s.rd WLT_EPOCHF_F] (s.wr WLT_EPOCH_DRAINTO 1)
    have hcmd : exec .epochDrainTimeout s = .next ((s.wr WLT_EPOCH_DRAINTO 1).recordOpen 12 [s.rd WLT_EPOCHF_F]) := if_pos hst
    rw [hcmd, yields_next]
    exact ⟨(hrd _ 0 (by decide)).trans (State.rd_wr_same ..), (hrd _ 0 (by decide)).trans ((State.rd_wr_ne _ _ (by decide)).trans hst), hwelt, .of_mem hmem⟩
  · have hsvc' : (s.wr WLT_SVCREQ_SPLIT 1).rd WLT_SVC_STATE = 3 := (State.rd_wr_ne _ _ (by decide)).trans hsvc
    have hcmd : exec (.serviceSplitWrite true) s = .next (svcStart 1 none (s.wr WLT_SVCREQ_SPLIT 1)) := (if_neg fun h => h hmode).trans (if_pos ⟨rfl, hsvc'⟩)
    rw [hcmd, yields_next]
    exact ⟨(svcStart_rd (by decide) _ _).trans (State.rd_wr_same ..), State.rd_wr_same .., rfl, rfl, .of_mem rfl⟩
  · have hsvc' : (s.wr WLT_SVCREQ_SPLIT 0).rd WLT_SVC_STATE = 1 := (State.rd_wr_ne _ _ (by decide)).trans hsvc
    have hcmd : exec (.serviceSplitWrite false) s = .next (svcStart 3 none (s.wr WLT_SVCREQ_SPLIT 0)) :=
      (if_neg fun h => h hmode).trans ((if_neg fun h => absurd h.1 (by decide)).trans (if_pos ⟨rfl, hsvc'⟩))
    rw [hcmd, yields_next]
    exact ⟨(svcStart_rd (by decide) _ _).trans (State.rd_wr_same ..), State.rd_wr_same .., rfl, rfl, .of_mem rfl⟩
  · have hcmd : exec (.serviceSplitWrite split) s = .next (s.wr WLT_SVC_REQIGN 1) := if_pos hmode
    rw [hcmd, yields_next]
    exact ⟨State.rd_wr_same .., rfl, .of_mem rfl, SameRegsBut.wr .refl⟩
  · have hlog : (weltLog 8 (op % 64) ST_HW_WLT_UE (src % 65536) (dst % 65536) s).mode = s.mode := State.wri_mode _ _ (by decide)
    exact (yields_next ..).2 (State.fault_mode (hlog ▸ hmode) ..)

end Sys2Proof.Machine

namespace Sys2Proof.Machine

set_option Elab.async false

/-! DRAM training (R360): a retraining that fails while a staged changeover waits -/

/-- Channel 0 is READY in RUN. A changeover is armed that lists a number as a die that it raised whose CLK_PLLDIE would lie at the channel's DRC_CHSTAT, and a request is held
asleep at an endpoint that is no memory. -/
def trainFails : State :=
  { (((({} : State).wr GLB_MODE_MODE RUN).wri DRC_CHSTAT_STATE (oCh 0) drcREADY).wr SHF_STAT_STATE 5 |>.modShf fun x => { x with raised := [0x183C0] }) with
    welt := { held := [⟨{ dst := epQueue }, .asleep⟩] } }

/-- `trainFails` once lane 0 has found no eye. -/
def trainFailed : State :=
  let r := retrainLane 0 0 [] ((trainFails.wri DRC_CHCMD_OP (oCh 0) 2).wri DRC_CHCMD_LANE (oCh 0) 0)
  chcmdDone 0 (if r.2 then 0 else ST_HW_DRC_TRAIN) r.1

theorem trainFailed_state : drcState trainFailed 0 ≠ drcFAILED := by decide +kernel

theorem trainFailed_held : trainFailed.welt.held = [⟨{ dst := epQueue }, .asleep⟩] := by decide +kernel

theorem trainFails_runs : exec (.drcRetrainLane 0 0 []) trainFails = .next trainFailed := by
  have hbusy : ¬ chcmdBusy 0 trainFails = true := by decide +kernel
  have hready : ¬ drcState ((trainFails.wri DRC_CHCMD_OP (oCh 0) 2).wri DRC_CHCMD_LANE (oCh 0) 0) 0 ≠ drcREADY := by decide +kernel
  change execDrcRetrainLane 0 0 [] trainFails = _
  unfold execDrcRetrainLane
  refine (if_neg hbusy).trans ((if_neg (by decide)).trans ((if_neg hready).trans ?_))
  exact congrArg Host.Outcome.next (if_neg trainFailed_state)

/-- Refutes O45: the SAFE state ends the changeover, which takes channel 0 out of FAILED, so that the network does no work; and no work of the network leaves what is held here. -/
theorem not_dramTraining : ¬ Obligations.DramTraining := by
  unfold Obligations.DramTraining
  intro h
  obtain ⟨-, -, -, narrow, -⟩ := h
  obtain ⟨u, hexec, -⟩ := narrow trainFails 0 0 [] (by decide +kernel) (by decide +kernel) (by decide +kernel) (by decide) (by decide +kernel)
  have hpump : trainFailed = pump u := Host.Outcome.next.inj (trainFails_runs.symm.trans hexec)
  have hunheld : Unheld trainFailed := hpump ▸ pump_unheld u
  exact hunheld ⟨{ dst := epQueue }, .asleep⟩ (by rw [trainFailed_held]; exact List.mem_singleton_self _) ⟨rfl, rfl⟩

end Sys2Proof.Machine

namespace Sys2Proof.Machine

set_option Elab.async false

/-! A bundle's training and its link layer (R389 to R396) -/

section
variable {s t : State} {b : Nat}

/-- Sending changes neither the widths in force nor what was received. -/
theorem bundlePump_frame (n : Nat) (x : Bundle) : (bundlePump n x).wTx = x.wTx ∧ (bundlePump n x).wRx = x.wRx ∧ (bundlePump n x).got = x.got := by
  induction n generalizing x with
  | zero => exact ⟨rfl, rfl, rfl⟩
  | succ n ih =>
    unfold bundlePump
    split
    · exact ⟨rfl, rfl, rfl⟩
    · split
      · exact ⟨rfl, rfl, rfl⟩
      · exact ih _

theorem bundleSendAll_bundle (b : Nat) (s : State) : ((bundleSendAll b s).bundle b).wTx = (s.bundle b).wTx ∧ ((bundleSendAll b s).bundle b).wRx = (s.bundle b).wRx ∧
    ((bundleSendAll b s).bundle b).got = (s.bundle b).got ∧ ((bundleSendAll b s).bundle b).remote = (s.bundle b).remote ∧
    ((bundleSendAll b s).bundle b).arrived = (s.bundle b).arrived := by
  unfold bundleSendAll
  split
  · rw [State.bundle_modBundle]
    obtain ⟨htx, hrx, hgot⟩ := bundlePump_frame (s.bundle b).txq.length (s.bundle b)
    obtain ⟨hrem, harr⟩ := bundlePump_keeps (s.bundle b).txq.length (s.bundle b)
    exact ⟨htx, hrx, hgot, hrem, harr⟩
  · exact ⟨rfl, rfl, rfl, rfl, rfl⟩

theorem bundleSendAll_welt (b : Nat) (s : State) : (bundleSendAll b s).welt = s.welt := by
  unfold bundleSendAll
  split <;> rfl

/-- With nothing to send a bundle sends nothing. -/
theorem bundleSendAll_empty (h : (s.bundle b).txq = []) : (bundleSendAll b s).bundle b = s.bundle b := by
  unfold bundleSendAll
  split
  · rw [State.bundle_modBundle, h]
    rfl
  · rfl

theorem szlEvent_frame (k b st : Nat) (s : State) : (szlEvent k b st s).mem = s.mem ∧ (szlEvent k b st s).bundles = s.bundles ∧ (szlEvent k b st s).welt = s.welt ∧
    (szlEvent k b st s).regs = s.regs := ⟨rfl, rfl, rfl, rfl⟩

/-- The link after a training: its widths, and its sequence from the start unless it retrained. -/
def trainedLink (x : (Nat × Bool) × Nat × Bool) (fresh : Bool) (y : Bundle) : Bundle :=
  let y := { y with wTx := x.1.1, halfTx := x.1.2, wRx := x.2.1, halfRx := x.2.2, said := false, mism := false, again := (0, 0) }
  if fresh then { y with seq := 0, got := 4095, nak := false, owed := false, crq := 64, crs := 64, owedRq := 0, owedRs := 0 } else y

/-- The registers that a training writes before the bundle's state. -/
def trainedRegs (b : Nat) (t : SzTrain) (x : (Nat × Bool) × Nat × Bool) (s : State) : State :=
  let o := oBun b
  let w := t.rcapw.toNat
  let narrow := min x.1.1 x.2.1
  let s := ((s.wri SZL_LCAPW_WORD o (lcapw s b t.rxOk.toNat)).wri SZL_RCAPW_WORD o w).wri SZL_BSTAT_REASON o 0
  let s := (s.wri SZL_BSTAT_REFLOCK o t.reflock.toNat).wri SZL_BSTAT_FECI o (if bit w 12 = 1 ∧ (bit w 11 = 1 ∨ s.rdi SZL_BCTL_FECIREQ o = 1) then 1 else 0)
  let s := (s.wri SZL_BSTAT_PRECTX o (bit w 14)).wri SZL_BSTAT_PRECRX o (if s.rdi SZL_BCTL_PRECREQ o = 1 then bit w 13 else 0)
  let s := (s.wri SZL_BSTAT_HALF o (x.1.2 || x.2.2).toNat).wri SZL_BSTAT_WIDTH o (if narrow = 8 then 0 else if narrow = 4 then 1 else 2)
  (s.wri SZL_STRLAT_DSQ o ((t.transport + 59) / 40)).wri SZL_PWR_TXST o 0

/-- A training leaves the bundle DEGRADED with less than its full width or rate, and UP otherwise. -/
def degraded (x : (Nat × Bool) × Nat × Bool) : Bool := x.1.1 != 8 || x.2.1 != 8 || x.1.2 || x.2.2

theorem szlTrained_eq (b : Nat) (t : SzTrain) (x : (Nat × Bool) × Nat × Bool) (s : State) : szlTrained b t x s =
    pump (bundleSendAll b (showStr b (if degraded x then szlEvent 6 b 0 (szlEvent 1 b 0 (setSzl b (if degraded x then 4 else 3)
      (trainedRegs b t x (s.modBundle b (trainedLink x (szlState s b != 5))))))
      else szlEvent 1 b 0 (setSzl b (if degraded x then 4 else 3) (trainedRegs b t x (s.modBundle b (trainedLink x (szlState s b != 5)))))))) := rfl

theorem trainedRegs_shown (b : Nat) (t : SzTrain) (x : (Nat × Bool) × Nat × Bool) (s : State) :
    (trainedRegs b t x s).rdi SZL_BSTAT_WIDTH (oBun b) = (if min x.1.1 x.2.1 = 8 then 0 else if min x.1.1 x.2.1 = 4 then 1 else 2) ∧
    (trainedRegs b t x s).rdi SZL_BSTAT_HALF (oBun b) = (x.1.2 || x.2.2).toNat ∧ (trainedRegs b t x s).rdi SZL_RCAPW_WORD (oBun b) = t.rcapw.toNat ∧
    (trainedRegs b t x s).rdi SZL_PWR_TXST (oBun b) = 0 := by
  unfold trainedRegs
  extract_lets o w narrow v1 v2 v3 v4
  refine ⟨?_, ?_, ?_, State.rdi_wri_same ..⟩
  · rw [State.rdi_wri_off _ (by decide), State.rdi_wri_off _ (by decide), State.rdi_wri_same]
    refine Nat.mod_eq_of_lt ?_
    change (if narrow = 8 then 0 else if narrow = 4 then 1 else 2) < 4
    split_ifs <;> decide
  · rw [State.rdi_wri_off _ (by decide), State.rdi_wri_off _ (by decide), State.rdi_wri_off _ (by decide), State.rdi_wri_same]
    exact Nat.mod_eq_of_lt (Bool.toNat_lt _)
  · simp (disch := decide) only [v4, v3, v2, v1, o, State.rdi_wri_off, State.rdi_wri_same]
    exact Nat.mod_eq_of_lt t.rcapw.isLt

/-- `t` has the memory and the bundles of `s`. -/
def SameLinks (s t : State) : Prop := t.mem = s.mem ∧ t.bundles = s.bundles

theorem SameLinks.wri (h : SameLinks s t) {f : Fld} {o v : Nat} : SameLinks s (t.wri f o v) := h

theorem trainedRegs_frame (b : Nat) (t : SzTrain) (x : (Nat × Bool) × Nat × Bool) (s : State) : SameLinks s (trainedRegs b t x s) := by
  unfold trainedRegs
  extract_lets o w narrow v1 v2 v3 v4
  have h1 : SameLinks s v1 := .wri (.wri (.wri ⟨rfl, rfl⟩))
  have h2 : SameLinks s v2 := h1.wri.wri
  have h3 : SameLinks s v3 := h2.wri.wri
  have h4 : SameLinks s v4 := h3.wri.wri
  exact h4.wri.wri

/-- A training with settings leaves them shown and in force. -/
theorem szlTrained_pumps (b : Nat) (t : SzTrain) (x : (Nat × Bool) × Nat × Bool) (s : State) : ∃ u, szlTrained b t x s = pump u ∧
    szlState u b = (if degraded x then 4 else 3) ∧
    u.rdi SZL_BSTAT_WIDTH (oBun b) = (if min x.1.1 x.2.1 = 8 then 0 else if min x.1.1 x.2.1 = 4 then 1 else 2) ∧
    u.rdi SZL_BSTAT_HALF (oBun b) = (x.1.2 || x.2.2).toNat ∧ u.rdi SZL_RCAPW_WORD (oBun b) = t.rcapw.toNat ∧ u.rdi SZL_PWR_TXST (oBun b) = 0 ∧
    (u.bundle b).wTx = x.1.1 ∧ (u.bundle b).wRx = x.2.1 ∧ u.mem = s.mem := by
  obtain ⟨v, hv⟩ : ∃ v, v = trainedRegs b t x (s.modBundle b (trainedLink x (szlState s b != 5))) := ⟨_, rfl⟩
  obtain ⟨hwidth, hhalf, hrcap, htxst⟩ := trainedRegs_shown b t x (s.modBundle b (trainedLink x (szlState s b != 5)))
  obtain ⟨hmem, hbundles⟩ := trainedRegs_frame b t x (s.modBundle b (trainedLink x (szlState s b != 5)))
  rw [← hv] at hwidth hhalf hrcap htxst hmem hbundles
  obtain ⟨w, hw⟩ : ∃ w, w = setSzl b (if degraded x then 4 else 3) v := ⟨_, rfl⟩
  obtain ⟨y, hy⟩ : ∃ y, y = if degraded x then szlEvent 6 b 0 (szlEvent 1 b 0 w) else szlEvent 1 b 0 w := ⟨_, rfl⟩
  obtain ⟨ymem, ybundles, yregs⟩ : y.mem = w.mem ∧ y.bundles = w.bundles ∧ y.regs = w.regs := by
    rw [hy]
    split <;> exact ⟨rfl, rfl, rfl⟩
  obtain ⟨sregs, smem⟩ := bundleSendAll_frame b (showStr b y)
  obtain ⟨shmem, -, -⟩ := showStr_frame b y
  obtain ⟨htx, hrx, -⟩ := bundleSendAll_bundle b (showStr b y)
  have hlink : y.bundle b = trainedLink x (szlState s b != 5) (s.bundle b) := by
    rw [State.bundle, ybundles, hw]
    change tabGet {} v.bundles b = _
    rw [hbundles]
    exact State.bundle_modBundle ..
  have hrd : ∀ {f : Fld}, f.key 0 ≠ SZL_BSTAT_STRUP.key 0 → f.key 0 ≠ SZL_BSTAT_STATE.key 0 → (bundleSendAll b (showStr b y)).rdi f (oBun b) = v.rdi f (oBun b) := fun {f} hf hs => by
    rw [State.rdi_of_regs sregs, showStr_rdi hf, State.rdi_of_regs yregs, hw, setSzl, State.rdi_wri_off _ hs]
  refine ⟨bundleSendAll b (showStr b y), ?_, ?_, ?_, ?_, ?_, ?_, ?_, ?_, ?_⟩
  · rw [szlTrained_eq, ← hv, ← hw, ← hy]
  · rw [szlState, State.rdi_of_regs sregs, showStr_rdi (by decide), State.rdi_of_regs yregs, hw, setSzl, State.rdi_wri_same]
    split <;> rfl
  · rw [hrd (by decide) (by decide), hwidth]
  · rw [hrd (by decide) (by decide), hhalf]
  · rw [hrd (by decide) (by decide), hrcap]
  · rw [hrd (by decide) (by decide), htxst]
  · rw [htx, showStr_bundle, hlink]
    unfold trainedLink
    split <;> rfl
  · rw [hrx, showStr_bundle, hlink]
    unfold trainedLink
    split <;> rfl
  · rw [smem, shmem, ymem, hw]
    exact hmem

/-! Training (R389, R390) -/

theorem dirWidth_full (a m : Nat) : dirWidth 255 a m = some 8 := by
  unfold dirWidth
  extract_lets all w4 w2 least
  have hall : all (List.range 8) = true := by simp only [all]; decide
  rw [if_pos hall]

theorem dirWidth_half {a m : Nat} (ha : bit a 1 = 1) (hm : m ≤ 1) : dirWidth 15 a m = some 4 := by
  unfold dirWidth
  extract_lets all w4 w2 least
  have hall : all (List.range 8) = false := by simp only [all]; decide
  have hw4 : w4 = true := by simp only [w4, all]; decide
  have hleast : least ≤ 4 := by
    unfold least
    split_ifs <;> omega
  rw [if_neg (by simp [hall]), if_pos (by simp [hw4, ha, hleast])]

theorem execSazorTraining_eq {b : Fin 8} {t : SzTrain} (hmode : s.mode ≠ DORMANT) (hen : s.rdi SZL_BCTL_EN (oBun b) = 1) (hreq : s.rdi SZL_PWR_TXREQ (oBun b) ≠ 3)
    (hst : szlState s b = 2 ∨ szlState s b = 5) :
    exec (.sazorTraining b t) s = match szlSettings s b t with
      | some x => .next (szlTrained b t x s)
      | none => .next (szlFailed b s) := by
  change execSazorTraining b t s = _
  unfold execSazorTraining
  exact if_neg (by omega)

theorem training_full {b : Fin 8} {t : SzTrain} (hmode : s.mode ≠ DORMANT) (hen : s.rdi SZL_BCTL_EN (oBun b) = 1) (hreq : s.rdi SZL_PWR_TXREQ (oBun b) ≠ 3)
    (hst : szlState s b = 2 ∨ szlState s b = 5) (hlock : t.lock = true) (hrx : t.rxOk = 0xFF) (htx : bits t.rcapw.toNat 0 8 = 255) (hhalf : t.txHalf = false) :
    ∃ u, exec (.sazorTraining b t) s = .next (pump u) ∧ szlState u b = 3 ∧ u.rdi SZL_BSTAT_WIDTH (oBun b) = 0 ∧ u.rdi SZL_BSTAT_HALF (oBun b) = 0 ∧
      u.rdi SZL_RCAPW_WORD (oBun b) = t.rcapw.toNat ∧ u.rdi SZL_PWR_TXST (oBun b) = 0 ∧ SameMem s u := by
  have hset : szlSettings s b t = some ((8, false), 8, false) := by
    unfold szlSettings
    have hok : t.rxOk.toNat = 255 := by rw [hrx]; rfl
    simp [hlock, htx, hhalf, hok, dirWidth_full]
  obtain ⟨u, hu, hstate, hwidth, hhalf', hrcap, htxst, -, -, hmem⟩ := szlTrained_pumps b t ((8, false), 8, false) s
  refine ⟨u, ?_, hstate, hwidth, hhalf', hrcap, htxst, .of_mem hmem⟩
  rw [execSazorTraining_eq hmode hen hreq hst, hset]
  exact congrArg Host.Outcome.next hu

theorem training_narrow {b : Fin 8} {t : SzTrain} (hmode : s.mode ≠ DORMANT) (hen : s.rdi SZL_BCTL_EN (oBun b) = 1) (hreq : s.rdi SZL_PWR_TXREQ (oBun b) ≠ 3) (hst : szlState s b = 2)
    (hlock : t.lock = true) (hrx : t.rxOk = 0x0F) (htx : bits t.rcapw.toNat 0 8 = 255) (h4 : bit t.rcapw.toNat 9 = 1) (hhalf : t.txHalf = false)
    (hmin : s.rdi SZL_BCTL_MINWIDTH (oBun b) ≤ 1) (hpeer : t.peerMin ≤ 1) :
    ∃ u, exec (.sazorTraining b t) s = .next (pump u) ∧ szlState u b = 4 ∧ u.rdi SZL_BSTAT_WIDTH (oBun b) = 1 ∧ u.rdi SZL_BSTAT_HALF (oBun b) = 0 ∧ (u.bundle b).wRx = 4 ∧
      (u.bundle b).wTx = 8 ∧ SameMem s u := by
  have hset : szlSettings s b t = some ((8, false), 4, false) := by
    unfold szlSettings
    have hok : t.rxOk.toNat = 15 := by rw [hrx]; rfl
    have hbit : bit (bits t.rcapw.toNat 8 2) 1 = 1 := by
      unfold bit bits at *
      omega
    simp [hlock, htx, hhalf, hok, dirWidth_full, dirWidth_half hbit (Nat.max_le.2 ⟨hmin, hpeer⟩)]
  obtain ⟨u, hu, hstate, hwidth, hhalf', -, -, hwtx, hwrx, hmem⟩ := szlTrained_pumps b t ((8, false), 4, false) s
  refine ⟨u, ?_, hstate, hwidth, hhalf', hwrx, hwtx, .of_mem hmem⟩
  rw [execSazorTraining_eq hmode hen hreq (.inl hst), hset]
  exact congrArg Host.Outcome.next hu

/-! A bundle that fails (R393) -/

/-- A request held for the answer of a bundle's other end. -/
def awaits (b : Nat) (h : Held) : Bool :=
  match h.why with
  | .remote x => x == b
  | _ => false

theorem awaits_iff {h : Held} : awaits b h = true ↔ h.why = .remote b := by
  obtain ⟨req, why⟩ := h
  cases why <;> simp [awaits]

theorem refuse_welt (q : Req) (st : Nat) (s : State) : (refuse q st s).welt.held = s.welt.held ∧ (∀ r ∈ s.welt.resps, r ∈ (refuse q st s).welt.resps) ∧
    (opPosted q.op = false → ∃ r ∈ (refuse q st s).welt.resps, r.to_ = q.src ∧ r.tag = q.tag ∧ r.st = st) := by
  have hlog : ∀ k, (weltLog k q.op st q.src q.dst s).welt = s.welt := fun k => rfl
  unfold refuse
  split
  · next hp => exact ⟨rfl, fun r hr => hr, fun h => absurd (h.symm.trans hp) (by decide)⟩
  · obtain ⟨v, hv, hw⟩ : ∃ v, v = (if st = ST_WLT_NO_TARGET then weltLog 4 q.op st q.src q.dst s else s) ∧ v.welt = s.welt := ⟨_, rfl, by split <;> rfl⟩
    rw [← hv]
    refine ⟨(congrArg Welt.held hw :), fun r hr => List.mem_append_left _ (by rw [hw]; exact hr), fun _ => ⟨_, List.mem_append_right _ (List.mem_singleton_self _), rfl, rfl, rfl⟩⟩

theorem refuseAll_welt (l : List Held) (st : Nat) (s : State) : (l.foldl (fun s h => refuse h.req st s) s).welt.held = s.welt.held ∧
    (∀ r ∈ s.welt.resps, r ∈ (l.foldl (fun s h => refuse h.req st s) s).welt.resps) ∧
    (∀ h ∈ l, opPosted h.req.op = false → ∃ r ∈ (l.foldl (fun s h => refuse h.req st s) s).welt.resps, r.to_ = h.req.src ∧ r.tag = h.req.tag ∧ r.st = st) := by
  induction l generalizing s with
  | nil => exact ⟨rfl, fun r hr => hr, fun h hh => absurd hh List.not_mem_nil⟩
  | cons x l ih =>
    obtain ⟨hheld, hold, hnew⟩ := refuse_welt x.req st s
    obtain ⟨ihheld, ihold, ihnew⟩ := ih (refuse x.req st s)
    refine ⟨ihheld.trans hheld, fun r hr => ihold r (hold r hr), fun h hh hp => ?_⟩
    rcases List.mem_cons.1 hh with rfl | hh
    · obtain ⟨r, hr, hfields⟩ := hnew hp
      exact ⟨r, ihold r hr, hfields⟩
    · exact ihnew h hh hp

/-- What a bundle that leaves service drops. -/
def emptied (x : Bundle) : Bundle := { x with txq := [], replay := [], part := [], arrived := [], again := (0, 0), owed := false, nak := false }

theorem bundleFail_spec (b : Nat) (s : State) : ∃ u, bundleFail b s = pump u ∧ u.mem = s.mem ∧ u.bundle b = emptied (s.bundle b) ∧
    u.welt.held = s.welt.held.filter (fun h => !awaits b h) ∧
    (∀ h ∈ s.welt.held, awaits b h = true → opPosted h.req.op = false → ∃ r ∈ u.welt.resps, r.to_ = h.req.src ∧ r.tag = h.req.tag ∧ r.st = ST_SZL_DOWN) ∧
    SameRegsBut [WLT_ERRCNT_COUNT.key 0] s u := by
  unfold bundleFail
  extract_lets mine l posted u1 u2
  have hmine : mine = awaits b := rfl
  obtain ⟨hmem, hregs, hbundles, hwelt⟩ : u1.mem = s.mem ∧ u1.regs = s.regs ∧ u1.bundles = s.bundles ∧ u1.welt = s.welt :=
    List.foldlRecOn (motive := fun t : State => t.mem = s.mem ∧ t.regs = s.regs ∧ t.bundles = s.bundles ∧ t.welt = s.welt) posted _ ⟨rfl, rfl, rfl, rfl⟩ fun _ ht _ _ => ht
  have hu2 : u2 = u1.modBundle b emptied := rfl
  clear_value u1 u2
  obtain ⟨w, hw⟩ : ∃ w, w = u2.modWelt fun w => { w with held := w.held.filter fun h => !mine h } := ⟨_, rfl⟩
  obtain ⟨umem, ubundles, uregs⟩ : (l.foldl (fun s h => refuse h.req ST_SZL_DOWN s) w).mem = w.mem ∧ (l.foldl (fun s h => refuse h.req ST_SZL_DOWN s) w).bundles = w.bundles ∧
      SameRegsBut [WLT_ERRCNT_COUNT.key 0] w (l.foldl (fun s h => refuse h.req ST_SZL_DOWN s) w) := by
    refine List.foldlRecOn (motive := fun t : State => t.mem = w.mem ∧ t.bundles = w.bundles ∧ SameRegsBut [WLT_ERRCNT_COUNT.key 0] w t) l _ ⟨rfl, rfl, .refl⟩ fun t ht h _ => ?_
    obtain ⟨hm, hb, hr⟩ := ht
    obtain ⟨rm, rb, rr⟩ := refuse_frame h.req ST_SZL_DOWN t
    exact ⟨rm.trans hm, rb.trans hb, hr.trans rr⟩
  obtain ⟨hheld, -, hanswered⟩ := refuseAll_welt l ST_SZL_DOWN w
  rw [← hw]
  refine ⟨_, rfl, umem.trans (by rw [hw, hu2]; exact hmem), ?_, ?_, ?_, ?_⟩
  · rw [State.bundle, ubundles, hw, hu2]
    refine (State.bundle_modBundle u1 b emptied).trans (congrArg emptied ?_)
    rw [State.bundle, hbundles]
    rfl
  · rw [hheld, hw, hu2, ← hmine]
    exact congrArg (fun w : Welt => w.held.filter fun h => !mine h) hwelt
  · exact fun h hh hb hp => hanswered h (List.mem_filter.2 ⟨hh, hb⟩) hp
  · refine SameRegsBut.trans (.of_regs ?_ _) uregs
    rw [hw, hu2]
    exact hregs


theorem bundleFail_completes {b : Fin 8} (hst : szlState s b = 0 ∨ szlState s b = 1 ∨ szlState s b = 6) : ∃ u, exec (.bundleFailCompletion b) s = .next (pump u) ∧ (u.bundle b).txq = [] ∧
    (u.bundle b).replay = [] ∧ (u.bundle b).arrived = [] ∧ (∀ h ∈ u.welt.held, h.why ≠ .remote b) ∧
    (∀ h ∈ s.welt.held, h.why = .remote b → opPosted h.req.op = false → ∃ r ∈ u.welt.resps, r.to_ = h.req.src ∧ r.tag = h.req.tag ∧ r.st = ST_SZL_DOWN) ∧ SameMem s u := by
  obtain ⟨u, hu, hmem, hbundle, hheld, hanswered, -⟩ := bundleFail_spec b s
  refine ⟨u, ?_, by rw [hbundle]; rfl, by rw [hbundle]; rfl, by rw [hbundle]; rfl, fun h hh hw => ?_, fun h hh hw => hanswered h hh (awaits_iff.2 hw), .of_mem hmem⟩
  · change execBundleFailCompletion b s = _
    unfold execBundleFailCompletion
    rw [if_pos hst, hu]
  · rw [hheld, List.mem_filter] at hh
    simp [awaits_iff.2 hw] at hh

theorem key_bundle_ne_lost {f : Fld} (hf : f.adr < 0xA1100 ∧ f.lo < 32) (hb : b < 8) : f.key (oBun b) ≠ BBX_LOST_COUNT.key 0 := by
  obtain ⟨hadr, hlo⟩ := hf
  change (f.adr + b * 0x100) * 32 + f.lo ≠ (0x11000C + 0) * 32 + 0
  omega

/-- A training that finds no settings leaves the bundle FAILED. -/
theorem szlFailed_pumps (hb : b < 8) (s : State) : ∃ u, szlFailed b s = pump u ∧ szlState u b = 6 ∧ u.rdi SZL_BSTAT_REASON (oBun b) = ST_HW_SZL_TRAIN ∧ (u.bundle b).replay = [] ∧
    (u.bundle b).txq = [] ∧ (u.bundle b).said = true ∧ u.mem = s.mem := by
  obtain ⟨v0, hv0⟩ : ∃ v, v = (setSzl b 6 s).wri SZL_BSTAT_REASON (oBun b) ST_HW_SZL_TRAIN := ⟨_, rfl⟩
  obtain ⟨v, hv⟩ : ∃ v, v = szlEvent 2 b ST_HW_SZL_TRAIN v0 := ⟨_, rfl⟩
  obtain ⟨evmem, -, -, evregs⟩ := szlEvent_frame 2 b ST_HW_SZL_TRAIN v0
  have hvstate : v.rdi SZL_BSTAT_STATE (oBun b) = 6 := by
    rw [hv, State.rdi_of_regs evregs, hv0, State.rdi_wri_off _ (by decide), setSzl, State.rdi_wri_same]
    rfl
  have hvreason : v.rdi SZL_BSTAT_REASON (oBun b) = ST_HW_SZL_TRAIN := by
    rw [hv, State.rdi_of_regs evregs, hv0, State.rdi_wri_same]
    rfl
  have hvmem : v.mem = s.mem := by rw [hv, evmem, hv0, State.mem_wri, setSzl, State.mem_wri]
  obtain ⟨w, hw⟩ : ∃ w, w = if (v.bundle b).said then v
    else (v.recordSt ST_HW_SZL_TRAIN (32 + b) [2 * 2 ^ 26 + b * 2 ^ 23 + ST_HW_SZL_TRAIN]).modBundle b fun x => { x with said := true } := ⟨_, rfl⟩
  obtain ⟨wregs, wmem, wsaid⟩ : (∀ {f : Fld}, f.adr < 0xA1100 ∧ f.lo < 32 → w.rdi f (oBun b) = v.rdi f (oBun b)) ∧ w.mem = v.mem ∧ (w.bundle b).said = true := by
    rw [hw]
    split
    · next hsaid => exact ⟨fun _ => rfl, rfl, hsaid⟩
    · refine ⟨fun {f} hf => State.record_rdi _ _ _ _ _ (key_bundle_ne_lost hf hb), ?_, by rw [State.bundle_modBundle]⟩
      obtain ⟨-, -, -, hmem, -⟩ := State.record_frame v (ST_HW_SZL_TRAIN) (32 + b) 3 [2 * 2 ^ 26 + b * 2 ^ 23 + ST_HW_SZL_TRAIN]
      exact hmem
  obtain ⟨shmem, -, -⟩ := showStr_frame b w
  obtain ⟨u, hu, hmem, hbundle, -, -, hregs⟩ := bundleFail_spec b (showStr b w)
  have hrd : ∀ {f : Fld}, f.adr < 0xA1100 ∧ f.lo < 32 → WLT_ERRCNT_COUNT.adr < f.adr → f.key 0 ≠ SZL_BSTAT_STRUP.key 0 → u.rdi f (oBun b) = v.rdi f (oBun b) := fun {f} hf herr hstr => by
    rw [hregs f _ (key_szl_ne_errcnt herr _), showStr_rdi hstr, wregs hf]
  refine ⟨u, ?_, ?_, ?_, by rw [hbundle]; rfl, by rw [hbundle]; rfl, ?_, hmem.trans (shmem.trans (wmem.trans hvmem))⟩
  · rw [← hu, hw, hv, hv0]
    rfl
  · rw [szlState, hrd (by decide) (by decide) (by decide), hvstate]
  · rw [hrd (by decide) (by decide) (by decide), hvreason]
  · rw [hbundle, showStr_bundle]
    exact wsaid

theorem training_fails {b : Fin 8} {t : SzTrain} (hmode : s.mode ≠ DORMANT) (hen : s.rdi SZL_BCTL_EN (oBun b) = 1) (hreq : s.rdi SZL_PWR_TXREQ (oBun b) ≠ 3)
    (hst : szlState s b = 2 ∨ szlState s b = 5) (hlock : t.lock = false) : ∃ u, exec (.sazorTraining b t) s = .next (pump u) ∧ szlState u b = 6 ∧
      u.rdi SZL_BSTAT_REASON (oBun b) = ST_HW_SZL_TRAIN ∧ (u.bundle b).replay = [] ∧ (u.bundle b).txq = [] ∧ (u.bundle b).said = true ∧ SameMem s u := by
  have hset : szlSettings s b t = none := by
    unfold szlSettings
    simp [hlock]
  obtain ⟨u, hu, hstate, hreason, hreplay, htxq, hsaid, hmem⟩ := szlFailed_pumps b.isLt s
  refine ⟨u, ?_, hstate, hreason, hreplay, htxq, hsaid, .of_mem hmem⟩
  rw [execSazorTraining_eq hmode hen hreq hst, hset]
  exact congrArg Host.Outcome.next hu

theorem training_again {b : Fin 8} (hst : szlState s b = 6) (hen : s.rdi SZL_BCTL_EN (oBun b) = 1) : Yields (exec (.sazorTrainingRetry b) s) fun t =>
    szlState t b = 2 ∧ t.clocks.elapsed = s.clocks.elapsed + 1000000000 ∧ t.mode = s.mode ∧ SameMem s t := by
  obtain ⟨helapsed, -, -, -, hmem, hmode⟩ := s.pass_spec 1000000000
  change Yields (execSazorTrainingRetry b s) _
  unfold execSazorTrainingRetry
  rw [if_pos ⟨hst, hen⟩, yields_next]
  generalize s.pass 1000000000 = u at *
  refine ⟨State.rdi_wri_same .., helapsed, (State.wri_mode_above u (by decide) _ _).trans hmode, .of_mem hmem⟩

/-! The link layer (R391 to R393) -/

theorem setSzl_frame (b v : Nat) (s : State) : (setSzl b v s).mem = s.mem ∧ (setSzl b v s).bundles = s.bundles := ⟨rfl, rfl⟩

/-- A bundle in service that retrains delivers no stream. -/
theorem szlRetrain_spec (h : szlUp s b = true) : szlState (szlRetrain b s) b = 5 ∧ (szlRetrain b s).rdi SZL_BSTAT_STRUP (oBun b) = 0 ∧
    SameRegsBut [SZL_BSTAT_STATE.key (oBun b), SZL_BSTAT_STRUP.key (oBun b)] s (szlRetrain b s) ∧ (szlRetrain b s).mem = s.mem ∧ (szlRetrain b s).bundles = s.bundles := by
  obtain ⟨u, hu⟩ : ∃ u, u = setSzl b 5 s := ⟨_, rfl⟩
  have hustate : u.rdi SZL_BSTAT_STATE (oBun b) = 5 := by rw [hu, setSzl, State.rdi_wri_same]; rfl
  obtain ⟨evmem, evbundles, -, evregs⟩ := szlEvent_frame 3 b 0 u
  obtain ⟨v, hv⟩ : ∃ v, v = szlEvent 3 b 0 u := ⟨_, rfl⟩
  rw [← hv] at evmem evbundles evregs
  obtain ⟨shmem, shbundles, -⟩ := showStr_frame b v
  have hvstate : szlState v b = 5 := (State.rdi_of_regs evregs _ _).trans hustate
  have hstop : streamsDeliver b v = false := by simp [streamsDeliver, szlUp, hvstate]
  have hgo : szlRetrain b s = showStr b v := by rw [szlRetrain, if_pos h, hv, hu]
  obtain ⟨umem, ubundles⟩ := setSzl_frame b 5 s
  rw [hgo, szlState, showStr_rdi (by decide), showStr_strup, hstop]
  refine ⟨hvstate, rfl, ?_, shmem.trans (evmem.trans (by rw [hu, umem])), shbundles.trans (evbundles.trans (by rw [hu, ubundles]))⟩
  refine showStr_sameRegs (SameRegsBut.congr ?_ evregs)
  rw [hu]
  exact SameRegsBut.refl.wri

/-- The bundle with what a flit acknowledges and the credits it returns. -/
def credited (ack crq crs : Nat) (x : Bundle) : Bundle := { x with replay := acked ack x.replay, crq := min 64 (x.crq + crq), crs := min 64 (x.crs + crs) }

/-- A flit that passes its check returns its credits, and is taken where it follows the last in order. -/
theorem flitReceive_ok {b : Fin 8} (h : szlUp s b = true) (f : Flit) (ack : BitVec 12) (crq crs : BitVec 8) : ∃ v, v.bundle b = credited ack.toNat crq.toNat crs.toNat (s.bundle b) ∧
    v.mem = s.mem ∧ v.rdi SZL_PWR_RXST (oBun b) = 0 ∧ SameRegsBut [SZL_PWR_RXST.key (oBun b)] s v ∧
    exec (.flitReceive b f ack false crq crs true 0) s = .next (bundleSendAll b (if f.kind = 1 ∨ f.kind = 2 then (if f.seq = ((s.bundle b).got + 1) % 4096 then flitIn b f v else v) else v)) := by
  have hrxst : (s.wri SZL_PWR_RXST (oBun b) 0).rdi SZL_PWR_RXST (oBun b) = 0 := State.rdi_wri_same ..
  have hregs : SameRegsBut [SZL_PWR_RXST.key (oBun b)] s (s.wri SZL_PWR_RXST (oBun b) 0) := SameRegsBut.refl.wri
  refine ⟨(s.wri SZL_PWR_RXST (oBun b) 0).modBundle b (credited ack.toNat crq.toNat crs.toNat), State.bundle_modBundle .., rfl, hrxst, hregs, ?_⟩
  have hgot : (((s.wri SZL_PWR_RXST (oBun b) 0).modBundle b (credited ack.toNat crq.toNat crs.toNat)).bundle b).got = (s.bundle b).got := by
    rw [State.bundle_modBundle]
    rfl
  change execFlitReceive b f ack false crq crs true 0 s = _
  unfold execFlitReceive
  rw [if_neg (by simp [h]), ← hgot]
  rfl

/-- A request's last flit brings it in. -/
theorem flitIn_whole {f : Flit} (hkind : f.kind = 1) (hlast : f.unit + 1 = max 1 f.req.units.length) (b : Nat) (s : State) : ((flitIn b f s).bundle b).arrived = (s.bundle b).arrived ++ [f.req] ∧
    ((flitIn b f s).bundle b).got = f.seq ∧ (flitIn b f s).mem = s.mem ∧ (flitIn b f s).regs = s.regs := by
  have hend : flitIn b f s = (s.modBundle b fun x => { x with got := f.seq, owed := true, part := x.part.filter fun y => y.kind != f.kind }).modBundle b
      fun x => { x with arrived := x.arrived ++ [f.req] } := by
    unfold flitIn
    simp [hkind, hlast]
  rw [hend, State.bundle_modBundle, State.bundle_modBundle]
  exact ⟨rfl, rfl, rfl, rfl⟩

theorem flit_taken {b : Fin 8} {f : Flit} {ack : BitVec 12} {crq crs : BitVec 8} (h : szlUp s b = true) (hkind : f.kind = 1) (hseq : f.seq = ((s.bundle b).got + 1) % 4096)
    (hlast : f.unit + 1 = max 1 f.req.units.length) : Yields (exec (.flitReceive b f ack false crq crs true 0) s) fun t =>
      (t.bundle b).arrived = (s.bundle b).arrived ++ [f.req] ∧ (t.bundle b).got = f.seq ∧ t.rdi SZL_PWR_RXST (oBun b) = 0 ∧ SameRegsBut [SZL_PWR_RXST.key (oBun b)] s t ∧ SameMem s t := by
  obtain ⟨v, hbundle, hmem, hrxst, hregs, hcmd⟩ := flitReceive_ok h f ack crq crs
  obtain ⟨harr, hgot, fmem, fregs⟩ := flitIn_whole hkind hlast b v
  obtain ⟨sregs, smem⟩ := bundleSendAll_frame b (flitIn b f v)
  obtain ⟨-, -, sgot, -, sarr⟩ := bundleSendAll_bundle b (flitIn b f v)
  rw [hcmd, if_pos (.inl hkind), if_pos hseq, yields_next, sarr, harr, sgot, hgot, hbundle]
  exact ⟨rfl, rfl, (State.rdi_of_regs (sregs.trans fregs) _ _).trans hrxst, hregs.congr (sregs.trans fregs), .of_mem (smem.trans (fmem.trans hmem))⟩

theorem flit_out_of_order {b : Fin 8} {f : Flit} {ack : BitVec 12} {crq crs : BitVec 8} (h : szlUp s b = true) (hseq : f.seq ≠ ((s.bundle b).got + 1) % 4096) :
    Yields (exec (.flitReceive b f ack false crq crs true 0) s) fun t => (t.bundle b).arrived = (s.bundle b).arrived ∧ (t.bundle b).got = (s.bundle b).got ∧ SameMem s t := by
  obtain ⟨v, hbundle, hmem, -, -, hcmd⟩ := flitReceive_ok h f ack crq crs
  obtain ⟨-, smem⟩ := bundleSendAll_frame b v
  obtain ⟨-, -, sgot, -, sarr⟩ := bundleSendAll_bundle b v
  rw [hcmd, if_neg hseq, ite_self, yields_next, sarr, sgot, hbundle]
  exact ⟨rfl, rfl, .of_mem (smem.trans hmem)⟩

theorem flit_damaged {b : Fin 8} {f : Flit} {ack : BitVec 12} {nak : Bool} {crq crs : BitVec 8} {cw : Fin 3} (h : szlUp s b = true) :
    Yields (exec (.flitReceive b f ack nak crq crs false cw) s) fun t => t.bundle b = { s.bundle b with nak := true } ∧ SameMem s t := by
  obtain ⟨v, hv, hbundle, hmem⟩ : ∃ v, v = (if cw.val = 1 then (s.wri SZL_PWR_RXST (oBun b) 0).inci SZL_CWCORR_COUNT (oBun b)
      else if cw.val = 2 then (s.wri SZL_PWR_RXST (oBun b) 0).inci SZL_CWUNC_COUNT (oBun b) else s.wri SZL_PWR_RXST (oBun b) 0) ∧ v.bundle b = s.bundle b ∧ v.mem = s.mem := by
    refine ⟨_, rfl, ?_⟩
    split_ifs <;> exact ⟨rfl, rfl⟩
  have hcmd : exec (.flitReceive b f ack nak crq crs false cw) s = .next (v.modBundle b fun x => { x with nak := true }) := by
    change execFlitReceive b f ack nak crq crs false cw s = _
    unfold execFlitReceive
    rw [if_neg (by simp [h]), hv]
    exact if_pos (.inl rfl)
  rw [hcmd, yields_next, State.bundle_modBundle, hbundle]
  exact ⟨rfl, .of_mem hmem⟩

theorem acked_at {g : Flit} {pre post : List Flit} (h : ∀ x ∈ pre, x.seq ≠ g.seq) : acked g.seq (pre ++ g :: post) = post := by
  have hany : ((pre ++ g :: post).any fun f => f.seq == g.seq) = true := by simp
  have hdrop : (pre ++ g :: post).dropWhile (fun f => f.seq != g.seq) = g :: post := by
    rw [List.dropWhile_append_of_pos fun x hx => by simpa using h x hx]
    simp
  unfold acked
  rw [if_pos hany, hdrop]
  rfl

theorem flit_acknowledges {b : Fin 8} {g : Flit} {pre post : List Flit} {crq crs : BitVec 8} (h : szlUp s b = true) (htxq : (s.bundle b).txq = [])
    (hreplay : (s.bundle b).replay = pre ++ g :: post) (hseq : g.seq < 4096) (hpre : ∀ x ∈ pre, x.seq ≠ g.seq) :
    Yields (exec (.flitReceive b {} (BitVec.ofNat 12 g.seq) false crq crs true 0) s) fun t => (t.bundle b).replay = post ∧
      (t.bundle b).crq = min 64 ((s.bundle b).crq + crq.toNat) ∧ (t.bundle b).crs = min 64 ((s.bundle b).crs + crs.toNat) ∧ (t.bundle b).got = (s.bundle b).got ∧ SameMem s t := by
  obtain ⟨v, hbundle, hmem, -, -, hcmd⟩ := flitReceive_ok h {} (BitVec.ofNat 12 g.seq) crq crs
  obtain ⟨-, smem⟩ := bundleSendAll_frame b v
  have hempty : (v.bundle b).txq = [] := by rw [hbundle]; exact htxq
  have hack : (BitVec.ofNat 12 g.seq).toNat = g.seq := by rw [BitVec.toNat_ofNat]; exact Nat.mod_eq_of_lt hseq
  rw [hcmd, if_neg (by decide), yields_next, bundleSendAll_empty hempty, hbundle]
  refine ⟨?_, rfl, rfl, rfl, .of_mem (smem.trans hmem)⟩
  unfold credited
  rw [hack, hreplay, acked_at hpre]

theorem replay_counted {b : Fin 8} {f : Flit} {l : List Flit} (h : szlUp s b = true) (hreplay : (s.bundle b).replay = f :: l) (hagain : (s.bundle b).again.1 ≠ f.seq) :
    Yields (exec (.flitReplay b) s) fun t => (t.bundle b).again = (f.seq, 1) ∧ (t.bundle b).replay = f :: l ∧ szlState t b = szlState s b ∧
      t.rdi SZL_REPLAY_COUNT (oBun b) = min (s.rdi SZL_REPLAY_COUNT (oBun b) + 1) (2 ^ 32 - 1) ∧ SameRegsBut [SZL_REPLAY_COUNT.key (oBun b)] s t ∧ SameMem s t := by
  have hgo : szlReplay b s = (s.inci SZL_REPLAY_COUNT (oBun b)).modBundle b fun x => { x with again := (f.seq, 1) } := by
    unfold szlReplay
    rw [hreplay]
    simp [hagain]
  change Yields (execFlitReplay b s) _
  unfold execFlitReplay
  rw [if_pos h, hgo, yields_next, State.bundle_modBundle]
  refine ⟨rfl, hreplay, State.rdi_addi_off s (by decide) _ _, ?_, SameRegsBut.refl.addi, .of_mem rfl⟩
  exact (State.rdi_wri_same ..).trans (Nat.mod_eq_of_lt (by change min _ (2 ^ 32 - 1) < 2 ^ 32; omega))

theorem replay_retrains {b : Fin 8} {f : Flit} {l : List Flit} (h : szlUp s b = true) (hreplay : (s.bundle b).replay = f :: l) (hagain : (s.bundle b).again = (f.seq, 7)) :
    Yields (exec (.flitReplay b) s) fun t => szlState t b = 5 ∧ (t.bundle b).replay = f :: l ∧ (t.bundle b).again = (0, 0) ∧ SameMem s t := by
  obtain ⟨v, hv⟩ : ∃ v, v = szlEvent 5 b 0 ((s.inci SZL_REPLAY_COUNT (oBun b)).modBundle b fun x => { x with again := (0, 0) }) := ⟨_, rfl⟩
  have hgo : szlReplay b s = szlRetrain b v := by
    unfold szlReplay
    rw [hreplay, hv]
    simp [hagain]
  have hup : szlUp v b = true := by
    have hstate : szlState v b = szlState s b := by
      rw [hv]
      exact State.rdi_addi_off s (by decide) _ _
    rw [szlUp, hstate]
    exact h
  have hbundle : v.bundle b = { s.bundle b with again := (0, 0) } := by
    rw [hv]
    exact State.bundle_modBundle (s.inci SZL_REPLAY_COUNT (oBun b)) b fun x => { x with again := (0, 0) }
  have hvmem : v.mem = s.mem := by rw [hv]; rfl
  obtain ⟨hstate, -, -, hmem, hbundles⟩ := szlRetrain_spec hup
  have hkept : (szlRetrain b v).bundle b = v.bundle b := by rw [State.bundle, hbundles, State.bundle]
  change Yields (execFlitReplay b s) _
  unfold execFlitReplay
  rw [if_pos h, hgo, yields_next, hkept, hbundle]
  exact ⟨hstate, hreplay, rfl, .of_mem (hmem.trans hvmem)⟩

theorem idleAck_sent {b : Fin 8} (hsends : bundleSends s b = true) (htxq : (s.bundle b).txq = []) (howed : (s.bundle b).owed = true) : Yields (exec (.idleAckTimer b) s) fun t =>
    (t.bundle b).lastAck = some ((s.bundle b).got, (s.bundle b).nak, min 255 (s.bundle b).owedRq, min 255 (s.bundle b).owedRs) ∧ (t.bundle b).owed = false ∧ (t.bundle b).nak = false ∧
      SameRegsBut [] s t ∧ SameMem s t := by
  change Yields (execIdleAckTimer b s) _
  unfold execIdleAckTimer
  dsimp only
  rw [if_pos ⟨hsends, htxq, .inl howed⟩, yields_next, State.bundle_modBundle]
  exact ⟨rfl, rfl, rfl, .of_regs rfl _, .of_mem rfl⟩

theorem retrain_stops {b : Fin 8} (h : szlUp s b = true) : Yields (exec (.sazorRetrain b) s) fun t => szlState t b = 5 ∧ t.rdi SZL_BSTAT_STRUP (oBun b) = 0 ∧
    SameRegsBut [SZL_BSTAT_STATE.key (oBun b), SZL_BSTAT_STRUP.key (oBun b)] s t ∧ SameMem s t := by
  obtain ⟨hstate, hstrup, hregs, hmem, -⟩ := szlRetrain_spec h
  change Yields (.next (szlRetrain b s)) _
  rw [yields_next]
  exact ⟨hstate, hstrup, hregs, .of_mem hmem⟩

/-! The bridge (R394 to R396) -/

/-- The bundle after it sent one flit with nothing before it. -/
def sentFlit (f : Flit) (x : Bundle) : Bundle :=
  { x with txq := [], replay := x.replay ++ [{ f with seq := x.seq }], seq := (x.seq + 1) % 4096, crq := if f.kind = 1 then x.crq - 1 else x.crq, crs := if f.kind = 1 then x.crs else x.crs - 1, lastAck := some (x.got, x.nak, min 255 x.owedRq, min 255 x.owedRs), owed := false, nak := false, owedRq := x.owedRq - 255, owedRs := x.owedRs - 255 }

theorem bundlePump_one {f : Flit} {x : Bundle} (hroom : x.replay.length < 512) (hcredit : if f.kind = 1 then 0 < x.crq else 0 < x.crs) :
    bundlePump 1 { x with txq := [f] } = sentFlit f x := by
  have hfind : (({ x with txq := [f] } : Bundle).txq.find? fun f => if f.kind = 1 then decide (0 < x.crq) else decide (0 < x.crs)) = some f := by
    rw [List.find?_cons_of_pos]
    split_ifs at hcredit ⊢ <;> simpa using hcredit
  change (if 512 ≤ x.replay.length then _ else _) = _
  rw [if_neg (by omega), hfind]
  simp [sentFlit, bundlePump]

/-- A bundle with credit sends a flit at once when nothing waits before it. -/
theorem bundleSend_one {f : Flit} (hsends : bundleSends s b = true) (htxq : (s.bundle b).txq = []) (hroom : (s.bundle b).replay.length < 512)
    (hcredit : if f.kind = 1 then 0 < (s.bundle b).crq else 0 < (s.bundle b).crs) :
    (bundleSend b [f] s).bundle b = sentFlit f (s.bundle b) := by
  have hb : (s.modBundle b fun x => { x with txq := x.txq ++ [f] }).bundle b = { s.bundle b with txq := [f] } := by
    rw [State.bundle_modBundle, htxq]
    rfl
  have hsends' : bundleSends (s.modBundle b fun x => { x with txq := x.txq ++ [f] }) b = true := hsends
  rw [bundleSend, bundleSendAll, if_pos hsends', State.bundle_modBundle, hb]
  exact bundlePump_one hroom hcredit

theorem bundleSend_frame (b : Nat) (l : List Flit) (s : State) : (bundleSend b l s).regs = s.regs ∧ (bundleSend b l s).mem = s.mem ∧ (bundleSend b l s).welt = s.welt := by
  obtain ⟨hregs, hmem⟩ := bundleSendAll_frame b (s.modBundle b fun x => { x with txq := x.txq ++ l })
  exact ⟨hregs, hmem, bundleSendAll_welt b _⟩

theorem serveAt_bridge {q : Req} {k : Nat} (hk : k < 2) (hdst : q.dst = epBridge k) (hop : opMsg q.op = false) : serveAt q s = bridgeServe q s := by
  obtain rfl | rfl : k = 0 ∨ k = 1 := by omega
  all_goals
    unfold serveAt
    rw [hdst, hop]
    rfl

/-- The address of a bridge request at the other end (R394). -/
def remoteAddr (s : State) (a : Nat) : Nat := (s.rdi WLT_BRBASE_RBASE (8 * windowOf a) * 2 ^ 33 + (a - bridgeBase) % 2 ^ 33) % 2 ^ 48

/-- A read over a bundle in service is sent with its translated address, and waits for its answer. -/
theorem bridgeServe_rd {q : Req} (hop : q.op = RD) (hcls : q.cls = 1) (hunits : q.units = []) (hb : s.rdi WLT_BRWIN_BUNDLE (8 * windowOf q.addr) = b)
    (hrmod : s.rdi WLT_BRBASE_RMOD (8 * windowOf q.addr) = bits (s.rdi SZL_RCAPW_WORD (oBun b)) 20 8) (hsends : bundleSends s b = true) :
    bridgeServe q s = (.wait (.remote b), bundleSend b [{ kind := 1, unit := 0, req := { q with addr := remoteAddr s q.addr } }] s) := by
  have hup : szlState s b = 3 ∨ szlState s b = 4 := by
    unfold bundleSends at hsends
    simp only [Bool.and_eq_true, Bool.or_eq_true, beq_iff_eq] at hsends
    exact hsends.1.1
  have hflits : reqFlits { q with addr := remoteAddr s q.addr } = [{ kind := 1, unit := 0, req := { q with addr := remoteAddr s q.addr } }] := by
    unfold reqFlits
    rw [hunits]
    rfl
  have hpost : opPosted q.op = false := by rw [hop]; rfl
  unfold bridgeServe
  extract_lets w o b' writes a
  have hb' : b' = b := hb
  have ha : a = remoteAddr s q.addr := rfl
  have hwrites : writes = false := by simp only [writes, hop]; rfl
  have hlock : opLock q.op = false := by rw [hop]; rfl
  have hmsg : q.op ≠ MSG := by rw [hop]; decide
  clear_value a b' writes
  rw [hb', ha, hwrites]
  rw [if_neg (by simp [hcls, hlock, hmsg]), if_neg (by rw [not_not]; exact hrmod), if_neg (by omega), if_neg (by simp [hpost]), hflits]

theorem bridge_sends {q : Req} {w : Nat} (hin : inBridge q.addr = true) (hidle : NetIdle s) (hport : PortOpen q.src s) (htag : TagFree q.src q.tag s) (hop : q.op = RD) (hunits : q.units = [])
    (hcheck : injectCheck s q = .inr (epBridge (w / 8))) (hw : windowOf q.addr = w) (hw16 : w < 16) (hb : s.rdi WLT_BRWIN_BUNDLE (8 * w) = b)
    (hrmod : s.rdi WLT_BRBASE_RMOD (8 * w) = bits (s.rdi SZL_RCAPW_WORD (oBun b)) 20 8) (hsends : bundleSends s b = true) (htxq : (s.bundle b).txq = [])
    (hroom : (s.bundle b).replay.length < 512) (hcredit : 0 < (s.bundle b).crq) : ∃ u, exec (.bridgeRequest q) s = .next (pump u) ∧
      u.welt.held = [⟨{ q with dst := epBridge (w / 8), epoch := s.welt.stamp }, .remote b⟩] ∧ (u.bundle b).crq + 1 = (s.bundle b).crq ∧
      (u.bundle b).replay = (s.bundle b).replay ++ [{ kind := 1, seq := (s.bundle b).seq, unit := 0, req := { q with dst := epBridge (w / 8), epoch := s.welt.stamp, addr := (s.rdi WLT_BRBASE_RBASE (8 * w) * 2 ^ 33 + (q.addr - bridgeBase) % 2 ^ 33) % 2 ^ 48 } }] ∧ SameRegsBut [] s u ∧ SameMem s u := by
  obtain ⟨-, hopen, hepoch⟩ := hport
  have hcls : opClass q.op = some 1 := by rw [hop]; rfl
  have hcls1 : q.cls = 1 := Option.some.inj ((opClass_of_injectCheck hcheck).symm.trans hcls)
  obtain ⟨v, htaken, hpresent⟩ := present_tagged hidle.1 hopen hepoch htag hcheck hcls (by rw [hop]; rfl)
  have hheld : v.welt.held = [] := (htaken.netIdle hidle).2.1
  obtain ⟨live, hlive⟩ := htaken
  have hregs : v.regs = s.regs := by rw [hlive]
  have hmem : v.mem = s.mem := by rw [hlive]
  have hbundle : v.bundle b = s.bundle b := by rw [hlive]; rfl
  have hvsends : bundleSends v b = true := by rw [hlive]; exact hsends
  clear hlive
  obtain ⟨q', hq'⟩ : ∃ q' : Req, q' = { q with dst := epBridge (w / 8), epoch := s.welt.stamp } := ⟨_, rfl⟩
  have hserve : serveAt q' v = (.wait (.remote b), bundleSend b [{ kind := 1, unit := 0, req := { q' with addr := remoteAddr v q'.addr } }] v) := by
    refine (serveAt_bridge (k := w / 8) (by omega) (by rw [hq']) (by rw [hq', hop]; rfl)).trans (bridgeServe_rd ?_ ?_ ?_ ?_ ?_ hvsends)
    · rw [hq']; exact hop
    · rw [hq']; exact hcls1
    · rw [hq']; exact hunits
    · rw [State.rdi_of_regs hregs, hq', hw]; exact hb
    · rw [State.rdi_of_regs hregs, State.rdi_of_regs hregs, hq', hw]; exact hrmod
  obtain ⟨sregs, smem, swelt⟩ := bundleSend_frame b [{ kind := 1, unit := 0, req := { q' with addr := remoteAddr v q'.addr } }] v
  have hsent := bundleSend_one (f := { kind := 1, unit := 0, req := { q' with addr := remoteAddr v q'.addr } }) hvsends (by rw [hbundle]; exact htxq) (by rw [hbundle]; exact hroom)
    (by rw [hbundle]; exact hcredit)
  have haddr : remoteAddr v q'.addr = (s.rdi WLT_BRBASE_RBASE (8 * w) * 2 ^ 33 + (q.addr - bridgeBase) % 2 ^ 33) % 2 ^ 48 := by
    rw [remoteAddr, State.rdi_of_regs hregs, hq', hw]
  rw [haddr] at hserve sregs smem swelt hsent
  rw [← hq'] at hpresent
  have hcmd : exec (.bridgeRequest q) s = .next (pump (serveOrHold q' v)) := by
    change execBridgeRequest q s = _
    rw [execBridgeRequest, if_pos hin, inject, hpresent]
  rw [serveOrHold_wait hheld hserve] at hcmd
  refine ⟨_, hcmd, ?_, ?_, ?_, .of_regs (sregs.trans hregs) _, .of_mem (smem.trans hmem)⟩
  · rw [(hold_frame ..).2, swelt, hheld, hq']
    rfl
  · have hcrq : ((hold q' (.remote b) (bundleSend b [{ kind := 1, unit := 0, req := { q' with addr := (s.rdi WLT_BRBASE_RBASE (8 * w) * 2 ^ 33 + (q.addr - bridgeBase) % 2 ^ 33) % 2 ^ 48 } }] v)).bundle b).crq =
        (v.bundle b).crq - 1 := congrArg Bundle.crq hsent
    rw [hcrq, hbundle]
    omega
  · refine (congrArg Bundle.replay hsent).trans ?_
    unfold sentFlit
    rw [hbundle, hq']

/-- A request that passes its port's checks is admitted from no bundle. -/
theorem Pumps.tryInject_ok {K : Prop} {u v : State} (h : Pumps K s u) {q : Req} {dst : Nat} (hcheck : injectCheck u q = .inr dst) (e : Machine.tryInject q u = some v) : Pumps K s v := by
  unfold Machine.tryInject at e
  rw [hcheck] at e
  dsimp only at e
  split at e
  · cases e
  split at e
  · split at e
    · cases e
    · cases e
      exact h.modFlow
  split at e
  · cases e
  split at e
  · cases e
    exact h.statUnits.serveOrHold
  split at e
  · cases e
  · cases e
    exact h.modWelt.statUnits.serveOrHold

theorem Pumps.present_ok {K : Prop} {u : State} (h : Pumps K s u) {q : Req} {dst : Nat} (hcheck : injectCheck u q = .inr dst) : Pumps K s (Machine.present q u) := by
  refine .ite h.modWelt ?_
  cases e : Machine.tryInject q u with
  | none =>
    change Pumps K s (u.modWelt fun w => { w with wait := w.wait ++ [q] })
    exact h.modWelt
  | some v => exact h.tryInject_ok hcheck e

/-- A request from the other end that its bundle admits is injected with a free tag of the bridge. -/
theorem remote_admitted {b : Fin 8} {q : Req} {l : List Req} {tag dst : Nat} (hwaiting : (s.bundle b).waiting = []) (harrived : (s.bundle b).arrived = q :: l) (hadm : admitted s b q = true)
    (hop : q.op = RD) (htag : bridgeFreeTag s (epBridge (b / 4)) = some tag) (hcheck : injectCheck s { q with src := epBridge (b / 4), cls := 1, tag } = .inr dst) :
    ∃ u, exec (.remoteRequestAdmission b) s = .next (pump u) ∧ (u.bundle b).remote = (s.bundle b).remote ++ [(tag, q.src, q.tag, q.uidx + 1)] ∧ (u.bundle b).arrived = l := by
  obtain ⟨v, hv⟩ : ∃ v, v = (s.modBundle b fun x => { x with arrived := l, owedRq := x.owedRq + max 1 q.units.length }) := ⟨_, rfl⟩
  obtain ⟨w, hw⟩ : ∃ w, w = v.modBundle b fun x => { x with remote := x.remote ++ [(tag, q.src, q.tag, if q.op = RD then q.uidx + 1 else 1)] } := ⟨_, rfl⟩
  have hwbundle : (w.bundle b).remote = (s.bundle b).remote ++ [(tag, q.src, q.tag, q.uidx + 1)] ∧ (w.bundle b).arrived = l := by
    rw [hw, hv, State.bundle_modBundle, State.bundle_modBundle, if_pos hop]
    exact ⟨rfl, rfl⟩
  have hvadm : admitted v b q = true := by rw [hv]; exact hadm
  have hvtag : bridgeFreeTag v (epBridge (b / 4)) = some tag := by rw [hv]; exact htag
  have hwcheck : injectCheck w { q with src := epBridge (b / 4), cls := 1, tag } = .inr dst := by rw [hw, hv]; exact hcheck
  have hcmd : exec (.remoteRequestAdmission b) s = .next (pump (present { q with src := epBridge (b / 4), cls := 1, tag } w)) := by
    change execRemoteRequestAdmission b s = _
    unfold execRemoteRequestAdmission
    dsimp only
    rw [hwaiting, harrived]
    dsimp only
    rw [← hv, if_pos hvadm, remoteInject]
    rw [if_neg (by rw [hop]; decide), hvtag, hw]
    rfl
  obtain ⟨hrem, harr⟩ := (Pumps.present_ok (K := True) (.refl w) hwcheck).bundles trivial b
  exact ⟨_, hcmd, hrem.trans hwbundle.1, harr.trans hwbundle.2⟩

/-- A request from the other end that its bundle does not admit is answered ERR. -/
theorem remote_refused {b : Fin 8} {q : Req} {l : List Req} (hwaiting : (s.bundle b).waiting = []) (harrived : (s.bundle b).arrived = q :: l) (hadm : admitted s b q = false)
    (hpost : opPosted q.op = false) (hsends : bundleSends s b = true) (htxq : (s.bundle b).txq = []) (hroom : (s.bundle b).replay.length < 512) (hcredit : 0 < (s.bundle b).crs) :
    Yields (exec (.remoteRequestAdmission b) s) fun t => (t.bundle b).arrived = l ∧ t.welt = s.welt ∧
      (t.bundle b).replay = (s.bundle b).replay ++ [{ kind := 2, seq := (s.bundle b).seq, unit := 0, resp := ⟨q.src, epBridge (b / 4), q.tag, ERR, ST_SZL_ADMIT, ST_SZL_ADMIT, 1, 0⟩ }] ∧
      SameRegsBut [] s t ∧ SameMem s t := by
  obtain ⟨v, hv⟩ : ∃ v, v = (s.modBundle b fun x => { x with arrived := l, owedRq := x.owedRq + max 1 q.units.length }) := ⟨_, rfl⟩
  have hvadm : admitted v b q = false := by rw [hv]; exact hadm
  have hvbundle : v.bundle b = { s.bundle b with arrived := l, owedRq := (s.bundle b).owedRq + max 1 q.units.length } := by rw [hv, State.bundle_modBundle]
  obtain ⟨vmem, vregs, vwelt⟩ : v.mem = s.mem ∧ v.regs = s.regs ∧ v.welt = s.welt := by rw [hv]; exact ⟨rfl, rfl, rfl⟩
  obtain ⟨f, hf⟩ : ∃ f : Flit, f = { kind := 2, unit := 0, resp := ⟨q.src, epBridge (b / 4), q.tag, ERR, ST_SZL_ADMIT, ST_SZL_ADMIT, 1, 0⟩ } := ⟨_, rfl⟩
  obtain ⟨w, hw⟩ : ∃ w, w = szlEvent 9 b ST_SZL_ADMIT v := ⟨_, rfl⟩
  obtain ⟨wmem, wbundles, wwelt, wregs⟩ := szlEvent_frame 9 b ST_SZL_ADMIT v
  rw [← hw] at wmem wbundles wwelt wregs
  have hwbundle : w.bundle b = v.bundle b := by rw [State.bundle, wbundles]; rfl
  have hwsends : bundleSends w b = true := by rw [hw, hv]; exact hsends
  have hcmd : exec (.remoteRequestAdmission b) s = .next (bundleSend b [f] w) := by
    change execRemoteRequestAdmission b s = _
    unfold execRemoteRequestAdmission
    dsimp only
    rw [hwaiting, harrived]
    dsimp only
    rw [← hv, if_neg (by simp [hvadm]), if_neg (by simp [hpost]), hf, hw]
    rfl
  obtain ⟨sregs, smem, swelt⟩ := bundleSend_frame b [f] w
  have hsent := bundleSend_one (s := w) (b := b) (f := f) hwsends (by rw [hwbundle, hvbundle]; exact htxq) (by rw [hwbundle, hvbundle]; exact hroom)
    (by rw [hf, hwbundle, hvbundle]; exact hcredit)
  rw [hcmd, yields_next, hsent, hwbundle, hvbundle]
  refine ⟨rfl, swelt.trans (wwelt.trans vwelt), ?_, .of_regs (sregs.trans (wregs.trans vregs)) _, .of_mem (smem.trans (wmem.trans vmem))⟩
  rw [hf]
  rfl

end

/-- Settles O48. -/
theorem sazorLinks : Obligations.SazorLinks := by
  unfold Obligations.SazorLinks
  exact ⟨fun _ _ _ hmode hen hreq hst hlock hrx htx hhalf => training_full hmode hen hreq hst hlock hrx htx hhalf,
    fun _ _ _ hmode hen hreq hst hlock hrx htx h4 hhalf hmin hpeer => training_narrow hmode hen hreq hst hlock hrx htx h4 hhalf hmin hpeer,
    fun _ _ _ hmode hen hreq hst hlock => training_fails hmode hen hreq hst hlock,
    fun _ _ hst hen => training_again hst hen,
    fun _ _ hup => retrain_stops hup,
    fun _ _ hst => bundleFail_completes hst,
    fun _ _ _ _ _ _ hup hkind hseq hlast => flit_taken hup hkind hseq hlast,
    fun _ _ _ _ _ _ hup hseq => flit_out_of_order hup hseq,
    fun _ _ _ _ _ _ _ _ hup => flit_damaged hup,
    fun _ _ _ _ _ _ _ hup htxq hreplay hseq hpre => flit_acknowledges hup htxq hreplay hseq hpre,
    fun _ _ _ _ hup hreplay hagain => replay_counted hup hreplay hagain,
    fun _ _ _ _ hup hreplay hagain => replay_retrains hup hreplay hagain,
    fun _ _ hsends htxq howed => idleAck_sent hsends htxq howed,
    fun _ _ _ _ hin hidle hport htag hop hunits hcheck hw hw16 hb hrmod hsends htxq hroom hcredit =>
      bridge_sends hin hidle hport htag hop hunits hcheck hw hw16 hb hrmod hsends htxq hroom hcredit,
    fun _ _ _ _ _ _ hwaiting harrived hadm hop htag hcheck => remote_admitted hwaiting harrived hadm hop htag hcheck,
    fun _ _ _ _ hwaiting harrived hadm hpost hsends htxq hroom hcredit => remote_refused hwaiting harrived hadm hpost hsends htxq hroom hcredit⟩

end Sys2Proof.Machine

namespace Sys2Proof.Machine

set_option Elab.async false

/-! Reads and writes of a line of the Last store -/

section
variable {s t : State} {q : Req}

theorem cacheable_parts {a : Nat} (h : cacheable a = true) : inLast a = true ∧ lastBase + 0x200000 ≤ a ∧ inVault a = false := by
  have hlt : lastBase + 0x2000000 ≤ vaultBase ∨ vaultBase + 0x100000 ≤ lastBase := by decide
  unfold cacheable at h
  simp only [Bool.and_eq_true, decide_eq_true_eq] at h
  obtain ⟨hin, hlo⟩ := h
  refine ⟨hin, hlo, ?_⟩
  unfold inLast at hin
  unfold inVault
  simp only [Bool.and_eq_true, decide_eq_true_eq] at hin
  simp only [Bool.and_eq_false_iff, decide_eq_false_iff_not]
  omega

/-- A segment that is ON serves a request that no lock or cached copy holds off. -/
theorem lastServe_ready (hcache : cacheable q.addr = true) (hunit : unitState s (lastUnit q.addr) = 0) (hlock : lockJudge q s = none) (hsnoop : snoopWait q (snoopLines q s) s = 0)
    (hcore : epIsCore q.src = false ∨ opWrites q.op = true) : lastServe q s = lastMem.serve q s := by
  obtain ⟨hin, hlo, hvault⟩ := cacheable_parts hcache
  have hfill : ¬ (cacheable q.addr = true ∧ epIsCore q.src = true ∧ (q.op = RD ∨ q.op = LRD)) := by
    rintro ⟨-, hsrc, hop⟩
    rcases hcore with hcore | hcore
    · exact absurd (hsrc.symm.trans hcore) (by decide)
    · rcases hop with hop | hop <;> exact absurd (hop ▸ hcore) (by decide)
  unfold lastServe
  simp only [hunit, hvault, hlock, hcache, if_true, hsnoop]
  rw [if_neg (by simp), if_neg (by decide), if_neg (by simp), if_neg (by simp), if_neg (by omega), if_neg (by simp), if_neg (by simpa [hcache] using hfill)]

/-- A request of one line that is ready at the Last store is served there once its port has taken it. -/
theorem Taken.serveAt_last {op e : Nat} {out : List Outst} (h : Taken out s t) (hop : q.op = op) (hplain : opMsg op = false) (hready : LastReady op q s)
    (hcore : epIsCore q.src = false ∨ opWrites op = true) : serveAt { q with dst := epLast, epoch := e } t = lastMem.serve { q with dst := epLast, epoch := e } t := by
  obtain ⟨-, hunit, hcache, -, hlock, hsnoop⟩ := hready
  obtain ⟨live, rfl⟩ := h
  subst hop
  exact (Machine.serveAt_last (r := { q with dst := epLast, epoch := e }) rfl hplain).trans (lastServe_ready hcache hunit hlock hsnoop hcore)

/-! A write of a line -/

/-- The words of a line that a WR of all its bytes writes. -/
theorem wrWords_line {data : Nat} (hunits : q.units = [⟨0, 63, data⟩]) : wrWords 8 q = (List.range 8).map fun w => (q.addr + 8 * w, 255, bits data (64 * w) 64) := by
  have hmask : ∀ w, w < 8 → bits (rangeMask 0 63) (8 * w) 8 = 255 := by decide
  unfold wrWords
  rw [hunits]
  have hwords : ((List.range 8).filterMap fun w => if bits (rangeMask 0 63) (8 * w) 8 = 0 then none else
      some (q.addr + 64 * 0 + 8 * w, bits (rangeMask 0 63) (8 * w) 8, bits data (8 * 8 * w) (8 * 8))) = (List.range 8).map fun w => (q.addr + 8 * w, 255, bits data (64 * w) 64) := by
    rw [← List.filterMap_eq_map]
    refine List.filterMap_congr fun w hw => ?_
    rw [hmask w (List.mem_range.1 hw), if_neg (by decide)]
    rfl
  simpa using hwords

/-- `t` is `s` with the first `n` bytes from `a` written with those of `data`, and those words no longer marked. -/
def Written (a n data : Nat) (s t : State) : Prop :=
  (∃ mem marks, t = { s with mem, marks }) ∧ (∀ i, i < n → t.rdByte (a + i) = data / 256 ^ i % 256) ∧ SameMemOutside a n s t

theorem Written.refl (a data : Nat) (s : State) : Written a 0 data s s := ⟨⟨_, _, rfl⟩, fun i hi => absurd hi (by omega), fun _ _ => rfl⟩

/-- A whole word is stored without a look at what it held. -/
theorem Written.word {a n data : Nat} (h : Written a n data s t) : Written a (n + 8) data s (lastMem.setMark (a + n) 0 (t.wrMem 8 (a + n) (bits data (8 * n) 64))) := by
  obtain ⟨⟨m, mk, ht⟩, hbytes, hout⟩ := h
  obtain ⟨m', hm'⟩ := wrMem_eq t 8 (a + n) (bits data (8 * n) 64)
  have hrd : ∀ b, (lastMem.setMark (a + n) 0 (t.wrMem 8 (a + n) (bits data (8 * n) 64))).rdByte b = (t.wrMem 8 (a + n) (bits data (8 * n) 64)).rdByte b := fun _ => rfl
  refine ⟨?_, fun i hi => ?_, fun b hb => ?_⟩
  · rw [hm', ht]
    exact ⟨_, _, rfl⟩
  · rw [hrd, State.rdByte_wrMem]
    by_cases hn : i < n
    · rw [if_neg (by omega), hbytes i hn]
    · rw [if_pos (by omega)]
      obtain ⟨j, rfl⟩ := Nat.exists_eq_add_of_le (Nat.le_of_not_lt hn)
      have hj : j < 8 := by omega
      rw [show a + (n + j) - (a + n) = j by omega]
      have hbyte : ∀ x k : Nat, k < 8 → x % 2 ^ 64 / 256 ^ k % 256 = x / 256 ^ k % 256 := by
        intro x k hk
        interval_cases k <;> omega
      rw [bits, hbyte _ _ hj, Nat.div_div_eq_div_mul, pow_add, Nat.pow_mul]
  · rw [hrd, State.rdByte_wrMem, if_neg (by omega)]
    exact hout b (by omega)

theorem lastMem_writes (a data : Nat) (n : Nat) (s : State) :
    ∃ u, ((List.range n).map fun w => (a + 8 * w, 255, bits data (64 * w) 64)).foldl lastMem.write (true, s) = (true, u) ∧ Written a (8 * n) data s u := by
  induction n with
  | zero => exact ⟨s, rfl, .refl a data s⟩
  | succ n ih =>
    obtain ⟨u, hu, hw⟩ := ih
    refine ⟨_, ?_, hw.word⟩
    rw [List.range_succ, List.map_append, List.foldl_append, hu, ← Nat.mul_assoc]
    rfl

/-- A WR of a whole line stores its bytes. -/
theorem lastMem_serve_wr {data : Nat} (hop : q.op = WR) (hunits : q.units = [⟨0, 63, data⟩]) (s : State) : ∃ u, lastMem.serve q s = (.ok 0, u) ∧ Written q.addr 64 data s u := by
  obtain ⟨u, hu, hw⟩ := lastMem_writes q.addr data 8 s
  refine ⟨u, ?_, hw⟩
  have hwords : (wrWords lastMem.n q).foldl lastMem.write (true, s) = (true, u) := by
    rw [← hu, ← wrWords_line hunits]
    rfl
  unfold WordMem.serve
  rw [hwords, hop]
  rfl

/-- A line that is ready at the Last store is written once its port has taken the request. -/
theorem present_last_wr {data : Nat} (hop : q.op = WR) (hunits : q.units = [⟨0, 63, data⟩]) (hidle : NetIdle s) (hport : PortOpen q.src s) (htag : TagFree q.src q.tag s)
    (hready : LastReady WR q s) : (present q s).regs = s.regs ∧ (∀ i, i < 64 → (present q s).rdByte (q.addr + i) = data / 256 ^ i % 256) ∧ SameMemOutside q.addr 64 s (present q s) := by
  obtain ⟨-, hopen, hepoch⟩ := hport
  have hcheck : injectCheck s q = .inr epLast := by
    obtain ⟨hcheck, -⟩ := hready
    rwa [← hop] at hcheck
  obtain ⟨u, htaken, hpresent⟩ := present_tagged hidle.1 hopen hepoch htag hcheck (by rw [hop]; rfl) (by rw [hop]; rfl)
  obtain ⟨v, hserve, ⟨mem, marks, hv⟩, hbytes, hout⟩ := lastMem_serve_wr (q := { q with dst := epLast, epoch := s.welt.stamp }) hop hunits u
  obtain ⟨umem, uregs, -⟩ := htaken.frame
  obtain ⟨amem, aregs, -⟩ := answer_mem { q with dst := epLast, epoch := s.welt.stamp } 0 v
  rw [hpresent, serveOrHold_ok (htaken.netIdle hidle).2.1 ((htaken.serveAt_last hop rfl hready (.inr rfl)).trans hserve)]
  refine ⟨aregs.trans ?_, fun i hi => ?_, fun b hb => ?_⟩
  · rw [hv]
    exact uregs
  · rw [State.rdByte, amem]
    exact hbytes i hi
  · rw [State.rdByte, amem]
    refine (hout b hb).trans ?_
    rw [State.rdByte, umem, State.rdByte]

/-! A read of a line -/

/-- Good words of the Last store read as they are. -/
theorem lastMem_serve_rd (hop : q.op = RD) (hcache : cacheable q.addr = true) (hblock : q.addr % 256 + 64 * q.uidx + q.blast < 256) (halign : q.addr % 64 = 0)
    (hmarks : ∀ a, q.addr ≤ a → a < q.addr + 256 → tabGet 0 s.marks a = 0) : lastMem.serve q s = (.ok (rdBytes q s), s) := by
  obtain ⟨-, hlo, -⟩ := cacheable_parts hcache
  have hmark : ∀ a ∈ rdWords lastMem.n q, q.addr ≤ a ∧ tabGet 0 s.marks a = 0 := fun a ha => by
    obtain ⟨hword, hfirst, hlast⟩ := mem_rdWords (n := 8) (by decide) ha
    have hbound : q.addr ≤ a ∧ a < q.addr + 256 := by unfold rdLast at hlast; omega
    exact ⟨hbound.1, hmarks a hbound.1 hbound.2⟩
  refine WordMem.serve_rd _ hop (fun a ha => (hmark a ha).2) fun a ha => ?_
  obtain ⟨hge, hgood⟩ := hmark a ha
  unfold lastMem
  dsimp only
  rw [if_neg (by omega), hgood]
  rfl

/-- A line that is ready at the Last store is read once its port has taken the request. -/
theorem present_last_rd (hop : q.op = RD) (hcore : epIsCore q.src = false) (hidle : NetIdle s) (hport : PortOpen q.src s) (htag : TagFree q.src q.tag s)
    (hready : LastReady RD q s) : ∃ t, Answers q RD epLast RDR (rdBytes q s) (q.uidx + 1) s t ∧ present q s = t ∧ t.mem = s.mem ∧ t.regs = s.regs ∧ t.welt.mem = s.welt.mem := by
  obtain ⟨-, hopen, hepoch⟩ := hport
  obtain ⟨hcheck, -, hcache, hmarks, -⟩ := id hready
  have hcheck : injectCheck s q = .inr epLast := by rwa [← hop] at hcheck
  obtain ⟨halign, hblock⟩ := injectCheck_rd_block (q := q) (by rw [← hop]; exact hcheck)
  obtain ⟨u, htaken, hpresent⟩ := present_tagged hidle.1 hopen hepoch htag hcheck (by rw [hop]; rfl) (by rw [hop]; rfl)
  obtain ⟨umem, uregs, -, uout, uresps, ustamp, -, -⟩ := htaken.frame
  have humarks : u.marks = s.marks := by
    obtain ⟨live, rfl⟩ := htaken
    rfl
  have huwmem : u.welt.mem = s.welt.mem := by
    obtain ⟨live, rfl⟩ := htaken
    rfl
  have hserve : serveAt { q with dst := epLast, epoch := s.welt.stamp } u = (.ok (rdBytes q s), u) := by
    refine (htaken.serveAt_last hop rfl hready (.inl hcore)).trans ?_
    rw [lastMem_serve_rd (q := { q with dst := epLast, epoch := s.welt.stamp }) hop hcache hblock halign (by rw [humarks]; exact hmarks)]
    have hbytes : rdBytes { q with dst := epLast, epoch := s.welt.stamp } u = rdBytes q s := by
      rw [rdBytes, rdMem_congr umem]
      rfl
    rw [hbytes]
  refine ⟨_, ?_, hpresent.trans (serveOrHold_ok (htaken.netIdle hidle).2.1 hserve), ?_, ?_, ?_⟩
  · have hw := answer_welt (q := { q with dst := epLast, epoch := s.welt.stamp }) (by rw [hop]; rfl) (rdBytes q s) u
    rw [Answers, hw, uresps, uout, ustamp, hop]
    exact ⟨rfl, rfl⟩
  · exact (answer_mem _ _ _).1.trans umem
  · exact (answer_mem _ _ _).2.1.trans uregs
  · rw [answer_welt (by rw [hop]; rfl)]
    exact huwmem

end
end Sys2Proof.Machine

namespace Sys2Proof.Machine

set_option Elab.async false

/-! The PCIe port (R408 to R413) -/

section
variable {s t : State}

/-- The link's registers as a reset or a training leaves them. -/
theorem pcieLink_shown (s : State) {a b c : Nat} (ha : a < 8) (hb : b < 32) (hc : c < 4) : ∃ u, ((s.wr PCI_STAT_SPEED a).wr PCI_STAT_WIDTH b).wr PCI_STAT_DSTATE c = u ∧
    u.rd PCI_STAT_SPEED = a ∧ u.rd PCI_STAT_WIDTH = b ∧ u.rd PCI_STAT_DSTATE = c ∧ u.pcie = s.pcie ∧
    SameRegsBut [PCI_STAT_SPEED.key 0, PCI_STAT_WIDTH.key 0, PCI_STAT_DSTATE.key 0] s u ∧ u.mem = s.mem := by
  refine ⟨_, rfl, ?_, ?_, ?_, rfl, SameRegsBut.refl.wr.wr.wr, rfl⟩
  · rw [State.rd_wr_ne _ _ (by decide), State.rd_wr_ne _ _ (by decide), State.rd_wr_same]
    exact Nat.mod_eq_of_lt ha
  · rw [State.rd_wr_ne _ _ (by decide), State.rd_wr_same]
    exact Nat.mod_eq_of_lt hb
  · rw [State.rd_wr_same]
    exact Nat.mod_eq_of_lt hc

theorem pcieReset_clears (s : State) (kind : Fin 3) : Yields (exec (.pcieReset kind) s) fun t => t.rd PCI_STAT_SPEED = 0 ∧ t.rd PCI_STAT_WIDTH = 0 ∧ t.rd PCI_STAT_DSTATE = 0 ∧
    t.pcie.table = [] ∧ t.pcie.pend = [] ∧ t.pcie.writes = [] ∧ t.pcie.reads = [] ∧ t.pcie.cfgReady = false ∧ t.pcie.busMaster = false ∧ t.pcie.msixEn = false ∧
    (kind.val = 0 → t.pcie.perst = true) ∧ (kind.val ≠ 0 → t.pcie.perst = s.pcie.perst) ∧
    SameRegsBut [PCI_STAT_SPEED.key 0, PCI_STAT_WIDTH.key 0, PCI_STAT_DSTATE.key 0] s t ∧ SameMem s t := by
  obtain ⟨u, hu, hspeed, hwidth, hdstate, hpcie, hregs, hmem⟩ := pcieLink_shown s (a := 0) (b := 0) (c := 0) (by decide) (by decide) (by decide)
  change Yields (execPcieReset kind s) _
  rw [execPcieReset, pcieReset, hu, yields_next]
  refine ⟨hspeed, hwidth, hdstate, rfl, rfl, rfl, rfl, rfl, rfl, rfl, fun hk => ?_, fun hk => ?_, hregs, .of_mem hmem⟩
  · change (u.pcie.perst || kind.val == 0) = true
    simp [hk]
  · change (u.pcie.perst || kind.val == 0) = s.pcie.perst
    rw [hpcie]
    simp [hk]

/-- Messages sent leave the port's link, table and TLPs. -/
theorem msixUnmask_frame (s : State) : ∃ pend sent, msixUnmask s = s.modPcie fun p => { p with pend, sent } := by
  unfold msixUnmask
  extract_lets go
  split
  · exact ⟨_, _, rfl⟩
  · exact ⟨_, _, rfl⟩

theorem pcieTraining_shown {speed : Fin 6} {width : Nat} {ready msixEn busMaster funcMask d3 : Bool} (hmode : s.mode ≠ DORMANT) (hhost : s.rd PWR_STAT_HOST ≠ 0)
    (hspeed : speed.val ≠ 0) (hwidth : width ∈ [1, 2, 4, 8, 16]) : Yields (exec (.pcieLinkTraining speed width ready msixEn busMaster funcMask d3) s) fun t =>
      t.rd PCI_STAT_SPEED = speed ∧ t.rd PCI_STAT_WIDTH = width ∧ t.rd PCI_STAT_DSTATE = (if d3 then 3 else 0) ∧ t.pcie.perst = false ∧ t.pcie.cfgReady = ready ∧
      t.pcie.msixEn = msixEn ∧ t.pcie.busMaster = busMaster ∧ t.pcie.funcMask = funcMask ∧ t.pcie.table = s.pcie.table ∧
      SameRegsBut [PCI_STAT_SPEED.key 0, PCI_STAT_WIDTH.key 0, PCI_STAT_DSTATE.key 0] s t ∧ SameMem s t := by
  have hlt : width < 32 := by
    simp only [List.mem_cons, List.not_mem_nil, or_false] at hwidth
    omega
  obtain ⟨u, hu, hspd, hwid, hdst, hpcie, hregs, hmem⟩ := pcieLink_shown s (a := speed) (b := width) (c := if d3 then 3 else 0) (by omega) hlt (by split <;> decide)
  obtain ⟨pend, sent, hmsix⟩ := msixUnmask_frame (u.modPcie fun p => { p with perst := false, cfgReady := ready, msixEn, busMaster, funcMask })
  have hno : ¬ (s.mode = DORMANT ∨ s.rd PWR_STAT_HOST = 0 ∨ (([1, 2, 4, 8, 16].contains width) = false ∧ speed.val ≠ 0)) := by
    have hc : ([1, 2, 4, 8, 16].contains width) = true := List.contains_iff_mem.2 hwidth
    rw [hc]
    simp [hmode, hhost]
  change Yields (execPcieLinkTraining speed width ready msixEn busMaster funcMask d3 s) _
  unfold execPcieLinkTraining
  rw [if_neg hno, if_neg hspeed, hu]
  dsimp only
  rw [hmsix, yields_next]
  exact ⟨hspd, hwid, hdst, rfl, rfl, rfl, rfl, rfl, (congrArg Pcie.table hpcie :), hregs, .of_mem hmem⟩

/-! The MSI-X table (R413) -/

/-- An access of one word of the table. -/
theorem table_access {i : Nat} (hi : i < 8192) : (BitVec.ofNat 36 (0x3000000 + 4 * i)).toNat = 0x3000000 + 4 * i ∧ inTable (0x3000000 + 4 * i) = true ∧ dwords (0x3000000 + 4 * i) 4 = true := by
  refine ⟨?_, ?_, ?_⟩
  · rw [BitVec.toNat_ofNat]
    omega
  · simp [inTable]
    omega
  · simp [dwords]

theorem tableWrite_stores {i : Nat} (v : BitVec 32) (hi : i < 8192) (hup : pcieUp s = true) (hd : s.rd PCI_STAT_DSTATE ≠ 3) :
    Yields (exec (.pcieMemoryWrite 0 (BitVec.ofNat 36 (0x3000000 + 4 * i)) [true, true, true, true] v.toNat) s) fun t =>
      tblGet t i = v.toNat ∧ (∀ j, j ≠ i → tblGet t j = tblGet s j) ∧ SameRegsBut [] s t ∧ SameMem s t := by
  obtain ⟨hoff, htable, hdw⟩ := table_access hi
  obtain ⟨pend, sent, hmsix⟩ := msixUnmask_frame (tblPut i v.toNat s)
  have hwrite : bar0Write (0x3000000 + 4 * i) 4 true v.toNat s = msixUnmask (tblPut i v.toNat s) := by
    unfold bar0Write
    rw [if_neg (by omega), if_pos ⟨htable, hdw, rfl⟩]
    dsimp only
    rw [if_neg (by decide), Nat.mod_eq_of_lt v.isLt, show (0x3000000 + 4 * i - 0x3000000) / 4 = i by omega]
  change Yields (execPcieMemoryWrite 0 (BitVec.ofNat 36 (0x3000000 + 4 * i)) [true, true, true, true] v.toNat s) _
  unfold execPcieMemoryWrite
  rw [hoff, if_neg (by simp [hup]), if_neg hd, if_pos rfl]
  change Yields (.next (bar0Write (0x3000000 + 4 * i) 4 true v.toNat s)) _
  rw [hwrite, hmsix, yields_next]
  exact ⟨tabGet_set_same _ _ _ _, fun j hj => tabGet_set_ne _ _ _ _ hj, .of_regs rfl _, .of_mem rfl⟩

theorem tableRead_answers {i : Nat} (hi : i < 8192) (hup : pcieUp s = true) (hd : s.rd PCI_STAT_DSTATE ≠ 3) :
    Yields (exec (.pcieMemoryRead 0 (BitVec.ofNat 36 (0x3000000 + 4 * i)) 4) s) fun t =>
      t.pcie.cpl = s.pcie.cpl ++ [(0, tblGet s i)] ∧ t.pcie.table = s.pcie.table ∧ SameRegsBut [] s t ∧ SameMem s t := by
  obtain ⟨hoff, htable, hdw⟩ := table_access hi
  have hread : bar0Read (0x3000000 + 4 * i) 4 s = tlpDone 0 (tblGet s i) s := by
    unfold bar0Read
    rw [if_neg (by omega), if_pos ⟨htable, hdw⟩]
    dsimp only
    rw [if_neg (by decide), show (0x3000000 + 4 * i - 0x3000000) / 4 = i by omega, Nat.add_zero]
  change Yields (execPcieMemoryRead 0 (BitVec.ofNat 36 (0x3000000 + 4 * i)) 4 s) _
  unfold execPcieMemoryRead
  rw [hoff, if_neg (by simp [hup]), if_neg hd, if_pos rfl]
  change Yields (.next (bar0Read (0x3000000 + 4 * i) 4 s)) _
  rw [hread, yields_next]
  exact ⟨rfl, rfl, .of_regs rfl _, .of_mem rfl⟩

/-! The Last store over BAR2 (R411, R412) -/

/-- The enabled bytes of a TLP that enables them all are one run. -/
theorem runsOf_full (n i : Nat) : runsOf (List.replicate (n + 1) true) i = [(i, n + 1)] := by
  induction n generalizing i with
  | zero => rfl
  | succ n ih =>
    rw [List.replicate_succ, runsOf, ih]
    simp

theorem exec_bar2Write {off : BitVec 36} {be : List Bool} (data : Nat) (hup : pcieUp s = true) (hd : s.rd PCI_STAT_DSTATE ≠ 3) (hin : off.toNat + be.length ≤ 2 ^ 25) :
    exec (.pcieMemoryWrite 1 off be data) s = .next (barWrite 1 (lastBase + off.toNat) be data s) := by
  change execPcieMemoryWrite 1 off be data s = _
  unfold execPcieMemoryWrite
  have haddr : barAddr s 1 off.toNat be.length = some (lastBase + off.toNat) := by
    rw [barAddr, if_pos rfl, if_pos hin]
  rw [if_neg (by simp [hup]), if_neg hd, if_neg (by decide)]
  change (match barAddr s 1 off.toNat be.length with | some a => _ | none => _) = _
  rw [haddr]
  rfl

theorem exec_bar2Read {off : BitVec 36} {n : Fin 4097} (hup : pcieUp s = true) (hd : s.rd PCI_STAT_DSTATE ≠ 3) (hn : 1 ≤ n.val) (hin : off.toNat + n.val ≤ 2 ^ 25) :
    exec (.pcieMemoryRead 1 off n) s = .next (barRead 1 (lastBase + off.toNat) n s) := by
  change execPcieMemoryRead 1 off n s = _
  unfold execPcieMemoryRead
  have haddr : barAddr s 1 off.toNat n.val = some (lastBase + off.toNat) := by
    rw [barAddr, if_pos rfl, if_pos hin]
  rw [if_neg (by simp [hup]), if_neg hd, if_neg (by decide), Nat.max_eq_right hn]
  change (match barAddr s 1 off.toNat n.val with | some a => _ | none => _) = _
  rw [haddr]
  rfl

/-- A transfer of one aligned line is one request. -/
theorem blockReqs_line (src op data : Nat) {a : Nat} (ha : a % 64 = 0) : blockReqs src op a 64 data =
    [if op = RD then { src, op, addr := a, tag := 0, len := 0, uidx := 0, bfirst := 0, blast := 63 } else { src, op, addr := a, tag := 0, len := 1, units := [⟨0, 63, data % 256 ^ 64⟩] }] := by
  have hblocks : (a + 64 - 1) / 256 + 1 - a / 256 = 1 := by omega
  have hunits : (a + 64 - 1) / 64 + 1 - a / 64 = 1 := by omega
  have hlo : max a (a / 256 * 256) = a := by omega
  have hhi : min (a + 64) ((a / 256 + 1) * 256) = a + 64 := by omega
  have hbase : a / 64 * 64 = a := by omega
  have hlast : (a + 64 - 1) % 64 = 63 := by omega
  unfold blockReqs
  rw [if_neg (by decide)]
  simp only [hblocks, List.range_one, List.map_cons, List.map_nil, Nat.add_zero, hlo, hhi, hunits, hbase, hlast, Nat.mul_zero, max_self, min_self, Nat.sub_self, pow_zero, Nat.div_one,
    Nat.mul_one, List.length_singleton, Nat.add_sub_cancel_left]

theorem byte_of_mod (v : Nat) {i n : Nat} (hi : i < n) : v % 256 ^ n / 256 ^ i % 256 = v / 256 ^ i % 256 := by
  obtain ⟨k, rfl⟩ := Nat.exists_eq_add_of_lt hi
  rw [show i + k + 1 = i + (k + 1) by omega, pow_add, Nat.mod_mul_right_div_self]
  exact Nat.mod_mod_of_dvd _ (Dvd.intro_left (256 ^ k) (pow_succ 256 k).symm)

/-- One request takes one tag. -/
theorem tagged_one {r q : Req} (h : tagged [r] s = some [q]) : q = { r with tag := q.tag } := by
  unfold tagged at h
  generalize pcieTags [r].length s = ts at h
  dsimp only at h
  split at h
  · cases h
  · cases Option.some.inj h
    rfl

/-- A full line over BAR2 is one WR, which the Last store carries out. -/
theorem bar2Write_stores {off : BitVec 36} {data : Nat} {q : Req} (hup : pcieUp s = true) (hd : s.rd PCI_STAT_DSTATE ≠ 3) (hin : off.toNat + 64 ≤ 2 ^ 25) (halign : off.toNat % 64 = 0)
    (hidle : NetIdle s) (hport : PortOpen epPcie s) (htagged : tagged (blockReqs epPcie WR (lastBase + off.toNat) 64 (data % 256 ^ 64)) s = some [q]) (htag : TagFree epPcie q.tag s)
    (hready : LastReady WR q s) : ∃ u, exec (.pcieMemoryWrite 1 off (List.replicate 64 true) data) s = .next (settle (pump u)) ∧
      (∀ i, i < 64 → u.rdByte (lastBase + off.toNat + i) = data / 256 ^ i % 256) ∧ SameMemOutside (lastBase + off.toNat) 64 s u ∧ SameRegsBut [] s u := by
  have hbase : (lastBase + off.toNat) % 64 = 0 := by
    rw [Nat.add_mod, halign, show lastBase % 64 = 0 from rfl]
  have hq : q = { src := epPcie, op := WR, addr := lastBase + off.toNat, tag := q.tag, len := 1, units := [⟨0, 63, data % 256 ^ 64⟩] } := by
    have h := htagged
    rw [blockReqs_line _ _ _ hbase, if_neg (by decide), Nat.mod_mod] at h
    exact tagged_one h
  have hruns : runsOf (List.replicate 64 true) 0 = [(0, 64)] := runsOf_full 63 0
  obtain ⟨v, hv⟩ : ∃ v, v = s.modPcie fun p => { p with writes := p.writes ++ [(1, q.tag)] } := ⟨_, rfl⟩
  have hwrite : barWrite 1 (lastBase + off.toNat) (List.replicate 64 true) data s = settle (pump (present q v)) := by
    unfold barWrite
    rw [hruns]
    simp only [List.flatMap_cons, List.flatMap_nil, List.append_nil, Nat.add_zero, pow_zero, Nat.div_one]
    rw [htagged, hv]
    rfl
  have hvready : LastReady WR q v := by rw [hv]; exact hready
  have hsrc : q.src = epPcie := by rw [hq]
  have haddr : q.addr = lastBase + off.toNat := by rw [hq]
  obtain ⟨hregs, hbytes, hout⟩ := present_last_wr (s := v) (by rw [hq]) (data := data % 256 ^ 64) (by rw [hq]) (by rw [hv]; exact hidle) (by rw [hv, hsrc]; exact hport)
    (by rw [hv, hsrc]; exact htag) hvready
  rw [haddr] at hbytes hout
  have hvs : v.regs = s.regs ∧ v.mem = s.mem := by
    rw [hv]
    exact ⟨rfl, rfl⟩
  refine ⟨present q v, ?_, fun i hi => (hbytes i hi).trans (byte_of_mod data hi), fun b hb => (hout b hb).trans ?_, .of_regs (hregs.trans hvs.1) _⟩
  · rw [exec_bar2Write data hup hd (by rw [List.length_replicate]; exact hin), hwrite]
  · rw [State.rdByte, hvs.2, State.rdByte]

/-- A read over BAR2 waits for the writes before it. -/
theorem bar2Read_waits {off : BitVec 36} {n : Fin 4097} {l : List Req} (hup : pcieUp s = true) (hd : s.rd PCI_STAT_DSTATE ≠ 3) (hn : 1 ≤ n.val) (hin : off.toNat + n.val ≤ 2 ^ 25)
    (htagged : tagged (blockReqs epPcie RD (lastBase + off.toNat) n 0) s = some l) : ∃ u, exec (.pcieMemoryRead 1 off n) s = .next (settle (pump u)) ∧
      u.pcie.reads = s.pcie.reads ++ [{ bar := 1, after := s.pcie.writes.map Prod.snd, reqs := l }] ∧ u.welt = s.welt ∧ SameRegsBut [] s u ∧ SameMem s u := by
  refine ⟨s.modPcie fun p => { p with reads := p.reads ++ [{ bar := 1, after := p.writes.map Prod.snd, reqs := l }] }, ?_, rfl, rfl, .of_regs rfl _, .of_mem rfl⟩
  rw [exec_bar2Read hup hd hn hin]
  unfold barRead
  rw [htagged]

/-! TLPs that complete as Unsupported Request, and the link that is down -/

/-- What an Unsupported Request leaves. -/
theorem tlpDone_frame (st v : Nat) (s : State) : (tlpDone st v s).pcie.cpl = s.pcie.cpl ++ [(st, v)] ∧ (tlpDone st v s).welt = s.welt ∧ SameRegsBut [] s (tlpDone st v s) ∧
    SameMem s (tlpDone st v s) := ⟨rfl, rfl, .of_regs rfl _, .of_mem rfl⟩

theorem barAddr_beyond {bar off n : Nat} (hbar : bar = 1) (h : 2 ^ 25 < off + n) : barAddr s bar off n = none := by
  rw [barAddr, if_pos hbar, if_neg (by omega)]

theorem write_unsupported {bar : Fin 3} {off : BitVec 36} {be : List Bool} {data : Nat} (hup : pcieUp s = true)
    (h : s.rd PCI_STAT_DSTATE = 3 ∨ (bar.val = 1 ∧ 2 ^ 25 < off.toNat + be.length)) : Yields (exec (.pcieMemoryWrite bar off be data) s) fun t =>
      t.pcie.cpl = s.pcie.cpl ++ [(1, 0)] ∧ t.welt = s.welt ∧ SameRegsBut [] s t ∧ SameMem s t := by
  have hcmd : exec (.pcieMemoryWrite bar off be data) s = .next (tlpDone 1 0 s) := by
    change execPcieMemoryWrite bar off be data s = _
    unfold execPcieMemoryWrite
    rw [if_neg (by simp [hup])]
    by_cases hd : s.rd PCI_STAT_DSTATE = 3
    · rw [if_pos hd]
    · obtain ⟨hbar, hout⟩ := h.resolve_left hd
      rw [if_neg hd, if_neg (by rintro rfl; exact absurd hbar (by decide)), barAddr_beyond hbar hout]
  rw [hcmd, yields_next]
  exact tlpDone_frame 1 0 s

theorem read_unsupported {bar : Fin 3} {off : BitVec 36} {n : Fin 4097} (hup : pcieUp s = true)
    (h : s.rd PCI_STAT_DSTATE = 3 ∨ (bar.val = 1 ∧ 2 ^ 25 < off.toNat + n.val)) : Yields (exec (.pcieMemoryRead bar off n) s) fun t =>
      t.pcie.cpl = s.pcie.cpl ++ [(1, 0)] ∧ t.welt = s.welt ∧ SameRegsBut [] s t ∧ SameMem s t := by
  have hcmd : exec (.pcieMemoryRead bar off n) s = .next (tlpDone 1 0 s) := by
    change execPcieMemoryRead bar off n s = _
    unfold execPcieMemoryRead
    rw [if_neg (by simp [hup])]
    by_cases hd : s.rd PCI_STAT_DSTATE = 3
    · rw [if_pos hd]
    · obtain ⟨hbar, hout⟩ := h.resolve_left hd
      rw [if_neg hd, if_neg (by rintro rfl; exact absurd hbar (by decide)), barAddr_beyond hbar (by omega)]
  rw [hcmd, yields_next]
  exact tlpDone_frame 1 0 s

theorem pcie_down {bar : Fin 3} {off : BitVec 36} {be : List Bool} {data : Nat} {n : Fin 4097} (hup : pcieUp s = false) :
    exec (.pcieMemoryWrite bar off be data) s = .next s ∧ exec (.pcieMemoryRead bar off n) s = .next s := by
  constructor
  · change execPcieMemoryWrite bar off be data s = _
    unfold execPcieMemoryWrite
    exact if_pos hup
  · change execPcieMemoryRead bar off n s = _
    unfold execPcieMemoryRead
    exact if_pos hup

end

/-- Settles O50. -/
theorem pciePort : Obligations.PciePort := by
  unfold Obligations.PciePort
  exact ⟨pcieReset_clears,
    fun _ _ _ _ _ _ _ _ hmode hhost hspeed hwidth => pcieTraining_shown hmode hhost hspeed hwidth,
    fun _ _ v hi hup hd => tableWrite_stores v hi hup hd,
    fun _ _ hi hup hd => tableRead_answers hi hup hd,
    fun _ _ _ _ hup hd hin halign hidle hport htagged htag hready => bar2Write_stores hup hd hin halign hidle hport htagged htag hready,
    fun _ _ _ _ hup hd hn hin htagged => bar2Read_waits hup hd hn hin htagged,
    fun _ _ _ _ _ hup h => write_unsupported hup h,
    fun _ _ _ _ hup h => read_unsupported hup h,
    fun _ _ _ _ _ _ hup => pcie_down hup⟩

end Sys2Proof.Machine

namespace Sys2Proof.Machine

set_option Elab.async false

/-! The side-band port (R506 to R520). A valid frame changes when the port was last used, and no register's word shows that. -/

section
variable {s t : State} {own : Bool}

theorem regWord_wspSeen (r : Reg) (off : Nat) : regWord r off (wspSeen own s) = regWord r off s := rfl

theorem wordAt_wspSeen (a : Nat) : wordAt a (wspSeen own s) = wordAt a s := rfl

theorem accessStop_wspSeen (m : Master) (wr : Bool) (a : Nat) : accessStop m wr a (wspSeen own s) = accessStop m wr a s := rfl

theorem memRefusal_wspSeen (a n : Nat) : memRefusal a n (wspSeen own s) = memRefusal a n s := rfl

/-- A command that neither a transfer in progress nor the life cycle stops is carried out. -/
theorem wspGo_open {readOnly : Bool} (hmem : s.welt.mem = none) (hlc : readOnly = true ∨ s.rd SEC_STAT_LC ≠ 4) (b : Bool) (f : State → State) :
    wspGo b readOnly f s = f (wspSeen (!b) s) := by
  have hno : ¬ ((wspSeen (!b) s).rd SEC_STAT_LC = 4 ∧ readOnly = false) := by
    rintro ⟨h4, hro⟩
    exact hlc.elim (fun h => absurd (h.symm.trans hro) (by decide)) fun h => h h4
  unfold wspGo
  rw [if_neg (by simp [hmem])]
  exact if_neg hno

/-- What a reply to a valid frame leaves. -/
theorem wspReply_frame (b own : Bool) (l : List Nat) (s : State) : (wspReply b l (wspSeen own s)).regs = s.regs ∧ (wspReply b l (wspSeen own s)).mem = s.mem ∧
    (wspReply b l (wspSeen own s)).evq = s.evq ∧ (wspReply b l (wspSeen own s)).welt = s.welt ∧ (wspReply b l (wspSeen own s)).side.nvs = s.side.nvs := ⟨rfl, rfl, rfl, rfl, rfl⟩

theorem wspReply_same (b own : Bool) (l : List Nat) (s : State) : SameRegsBut [] s (wspReply b l (wspSeen own s)) ∧ SameMem s (wspReply b l (wspSeen own s)) :=
  ⟨.of_regs rfl _, .of_mem rfl⟩

/-- What IDENT answers. -/
def identWords (s : State) : List Nat := [0, wordAt 0 s, wordAt 4 s, wordAt SEC_STAT_LC.adr s, wordAt GLB_MODE_MODE.adr s]

theorem wspIdent_eq (hmem : s.welt.mem = none) (b : Bool) : wspIdent b s = wspReply b (identWords s) (wspSeen (!b) s) := by
  rw [wspIdent, wspGo_open hmem (.inl rfl)]
  rfl

theorem ident_answers (hmem : s.welt.mem = none) (b : Bool) : Yields (exec (.wspIdent b) s) fun t =>
    t.reply = (if b then [] else identWords s) ∧ t.side.proving = none ∧ t.side.frameAt = (if b then s.side.frameAt else s.clocks.elapsed) ∧ SameRegsBut [] s t ∧ SameMem s t := by
  change Yields (.next (wspIdent b s)) _
  rw [wspIdent_eq hmem, yields_next]
  obtain ⟨hregs, hmem'⟩ := wspReply_same b (!b) (identWords s) s
  refine ⟨rfl, rfl, ?_, hregs, hmem'⟩
  cases b <;> rfl

/-! READ and WRITE (R509, R515) -/

/-- A register without an effect of its own on a read is only read. -/
theorem regRead_plain {m : Master} {a : Nat} {r : Reg} (hstop : accessStop m false a s = none) (hreg : regAt a = some r) (hrp : r.isRp = false) (hrc : r.isRc = false)
    (htbl : r.has CLK_TBL_TB = false) (hrdat : r.has BBX_RDAT_WORD = false) : regRead m false a s = ((0, regWord r (a - r.adr) s), s) := by
  have heffect : readEffect r (a - r.adr) s = s := by
    unfold readEffect
    rw [if_neg (by simp [hrp]), if_neg (by simp [hrc]), if_neg (by simp [htbl])]
  unfold regRead
  rw [hstop, hreg]
  dsimp only
  rw [hrdat, Bool.false_and, if_neg (by decide), heffect]
  rfl

theorem wspReads_one {a : Nat} {x : Nat × Nat} (h : regRead .sideband false a s = (x, t)) (hok : x.1 = 0) : wspReads 1 a s = ((0, [x.2]), t) := by
  simp [wspReads, h, hok]

theorem wspReads_refused {a st n : Nat} (hn : 0 < n) (h : accessStop .sideband false a s = some st) (hst : st ≠ 0) : wspReads n a s = ((st, []), s) := by
  obtain ⟨k, rfl⟩ := Nat.exists_eq_add_of_lt hn
  have hread : regRead .sideband false a s = ((st, 0), s) := by
    unfold regRead
    rw [h]
  rw [Nat.zero_add, wspReads, hread]
  exact if_pos hst

theorem read_answers {a : BitVec 32} {r : Reg} (hmem : s.welt.mem = none) (hstop : accessStop .sideband false a.toNat s = none) (hreg : regAt a.toNat = some r)
    (hrp : r.isRp = false) (hrc : r.isRc = false) (htbl : r.has CLK_TBL_TB = false) (hrdat : r.has BBX_RDAT_WORD = false) :
    Yields (exec (.wspRead false a 1) s) fun t => t.reply = [0, regWord r (a.toNat - r.adr) s] ∧ SameRegsBut [] s t ∧ SameMem s t := by
  have hread := regRead_plain (s := wspSeen true s) (m := .sideband) hstop hreg hrp hrc htbl hrdat
  have hcmd : wspRead false a.toNat 1 s = wspReply false [0, regWord r (a.toNat - r.adr) s] (wspSeen true s) := by
    rw [wspRead, wspGo_open hmem (.inl rfl), if_neg (by decide)]
    dsimp only
    rw [Bool.not_false, wspReads_one hread rfl]
    rfl
  change Yields (.next (wspRead false a.toNat 1 s)) _
  rw [hcmd, yields_next]
  exact ⟨rfl, wspReply_same ..⟩

theorem read_bad {a : BitVec 32} {n : BitVec 16} (hmem : s.welt.mem = none) (hn : n = 0 ∨ 256 < n.toNat) :
    Yields (exec (.wspRead false a n) s) fun t => t.reply = [ST_SBP_BADCMD] ∧ SameRegsBut [] s t ∧ SameMem s t := by
  have hn' : n.toNat = 0 ∨ 256 < n.toNat := hn.imp_left fun h => by rw [h]; rfl
  change Yields (.next (wspRead false a.toNat n.toNat s)) _
  rw [wspRead, wspGo_open hmem (.inl rfl), if_pos hn', yields_next]
  exact ⟨rfl, wspReply_same ..⟩

theorem accessStop_dormant {wr : Bool} {a : Nat} (hmode : s.mode = DORMANT) (ha : alwaysOn a = false) : accessStop .sideband wr a s = some ST_MODE_DORMANT := by
  unfold accessStop
  exact if_pos ⟨hmode, .inr (.inr ⟨rfl, ha⟩)⟩

theorem accessStop_scrap {a : Nat} (hmode : s.mode ≠ DORMANT) (hlc : s.rd SEC_STAT_LC = 4) : accessStop .sideband true a s = some ST_REFUSED_LIFECYCLE := by
  unfold accessStop
  rw [if_neg (fun h => hmode h.1), if_neg (fun h => hmode h.1)]
  exact if_pos ⟨hlc, rfl, .inl rfl⟩

theorem read_dormant {a : BitVec 32} {n : BitVec 16} (hmem : s.welt.mem = none) (hmode : s.mode = DORMANT) (ha : alwaysOn a.toNat = false) (h1 : 1 ≤ n.toNat) (h256 : n.toNat ≤ 256) :
    Yields (exec (.wspRead false a n) s) fun t => t.reply = [ST_MODE_DORMANT] ∧ t.evq = s.evq ∧ SameRegsBut [] s t ∧ SameMem s t := by
  change Yields (.next (wspRead false a.toNat n.toNat s)) _
  rw [wspRead, wspGo_open hmem (.inl rfl), if_neg (by omega)]
  dsimp only
  rw [wspReads_refused (s := wspSeen (!false) s) h1 (accessStop_dormant hmode ha) (by decide), yields_next]
  exact ⟨rfl, rfl, wspReply_same ..⟩

/-- A write that no rule stops is the register's own; one that is stopped ends the command. -/
theorem wspWrites_one (a v : Nat) (s : State) : wspWrites a [v] s = regWrite .sideband a v s := by
  unfold wspWrites
  dsimp only
  split
  · rfl
  next h =>
    rw [not_not] at h
    exact Prod.ext h.symm rfl

theorem wspWrites_refused {a v st : Nat} {l : List Nat} (h : accessStop .sideband true a s = some st) (hst : st ≠ 0) : wspWrites a (v :: l) s = (st, s) := by
  have hwrite : regWrite .sideband a v s = (st, s) := by
    unfold regWrite
    rw [h]
  rw [wspWrites, hwrite]
  exact if_pos hst

theorem wspWrite_eq {a v : Nat} {l : List Nat} (hmem : s.welt.mem = none) (hl : l.length ≤ 255) (b : Bool) : wspWrite b a (v :: l) s =
    wspReply b [(wspWrites a (v :: l) (wspSeen (!b) s)).1] (wspWrites a (v :: l) (wspSeen (!b) s)).2 := by
  rw [wspWrite, wspGo_open hmem (.inl rfl), if_neg (by rw [List.length_cons]; omega)]

theorem write_carried {a v : BitVec 32} (hmem : s.welt.mem = none) : Yields (exec (.wspWrite false a [v]) s) fun t =>
    t.reply = [(regWrite .sideband a.toNat v.toNat (wspSeen true s)).1] ∧ t.regs = (regWrite .sideband a.toNat v.toNat (wspSeen true s)).2.regs ∧
      t.mem = (regWrite .sideband a.toNat v.toNat (wspSeen true s)).2.mem := by
  change Yields (.next (wspWrite false a.toNat [v.toNat] s)) _
  rw [wspWrite_eq hmem (by decide), wspWrites_one, yields_next]
  exact ⟨rfl, rfl, rfl⟩

/-- A write that is stopped at its first register is answered with the status alone. -/
theorem write_stopped {a v : BitVec 32} {l : List (BitVec 32)} {st : Nat} (hmem : s.welt.mem = none) (hl : l.length ≤ 255) (h : accessStop .sideband true a.toNat s = some st) (hst : st ≠ 0) :
    Yields (exec (.wspWrite false a (v :: l)) s) fun t => t.reply = [st] ∧ t.evq = s.evq ∧ SameRegsBut [] s t ∧ SameMem s t := by
  change Yields (.next (wspWrite false a.toNat (v.toNat :: l.map BitVec.toNat) s)) _
  rw [wspWrite_eq hmem (by rw [List.length_map]; exact hl), wspWrites_refused (s := wspSeen (!false) s) h hst, yields_next]
  exact ⟨rfl, rfl, wspReply_same ..⟩

theorem write_scrap {a v : BitVec 32} (hmem : s.welt.mem = none) (hlc : s.rd SEC_STAT_LC = 4) (hmode : s.mode ≠ DORMANT) :
    Yields (exec (.wspWrite false a [v]) s) fun t => t.reply = [ST_REFUSED_LIFECYCLE] ∧ SameRegsBut [] s t ∧ SameMem s t := by
  obtain ⟨t, hcmd, hreply, -, hsame⟩ := write_stopped (v := v) (l := []) hmem (by decide) (accessStop_scrap hmode hlc) (by decide)
  exact ⟨t, hcmd, hreply, hsame⟩

/-! The rate (R511) -/

theorem sbpEvent_frame (k : Nat) (s : State) : (sbpEvent k s).regs = s.regs ∧ (sbpEvent k s).mem = s.mem ∧ (sbpEvent k s).side = s.side ∧ (sbpEvent k s).clocks = s.clocks := ⟨rfl, rfl, rfl, rfl⟩

theorem baud_takes {b : Bool} {i : BitVec 8} (hmem : s.welt.mem = none) (hlc : s.rd SEC_STAT_LC ≠ 4) (h6 : i.toNat ≤ 6) (hmax : i.toNat ≤ nvsGet s nvsWSPMAX)
    (hmode : s.mode ≠ DORMANT ∨ i.toNat ≤ 2) : Yields (exec (.wspBaud b i) s) fun t => t.reply = (if b then [] else [0]) ∧ t.rd SBP_LINK_RATE = i.toNat ∧
      t.side.proving = some s.clocks.elapsed ∧ SameRegsBut [SBP_LINK_RATE.key 0] s t ∧ SameMem s t := by
  obtain ⟨u, hu⟩ : ∃ u, u = wspSeen (!b) s := ⟨_, rfl⟩
  have hnvs : nvsGet u nvsWSPMAX = nvsGet s nvsWSPMAX := by rw [hu]; rfl
  have humode : u.mode = s.mode := by rw [hu]; rfl
  have hclock : u.clocks = s.clocks := by rw [hu]; rfl
  have huregs : u.regs = s.regs ∧ u.mem = s.mem := by rw [hu]; exact ⟨rfl, rfl⟩
  have hrate : (u.wr SBP_LINK_RATE i.toNat).rd SBP_LINK_RATE = i.toNat := (State.rd_wr_same ..).trans (Nat.mod_eq_of_lt (by change i.toNat < 8; omega))
  have hregs : SameRegsBut [SBP_LINK_RATE.key 0] s (u.wr SBP_LINK_RATE i.toNat) := (SameRegsBut.of_regs huregs.1 _).wr
  have hframe : (u.wr SBP_LINK_RATE i.toNat).clocks = s.clocks ∧ (u.wr SBP_LINK_RATE i.toNat).mem = s.mem := ⟨hclock, huregs.2⟩
  change Yields (.next (wspBaud b i.toNat s)) _
  rw [wspBaud, wspGo_open hmem (.inr hlc), ← hu, if_neg (by omega), if_neg (by rw [hnvs, humode]; omega), yields_next]
  generalize u.wr SBP_LINK_RATE i.toNat = v at *
  exact ⟨rfl, hrate, congrArg (fun c : Clocks => some c.elapsed) hclock, hregs, .of_mem hframe.2⟩

theorem baud_refused {i : BitVec 8} (hmem : s.welt.mem = none) (hlc : s.rd SEC_STAT_LC ≠ 4) (h6 : i.toNat ≤ 6)
    (h : nvsGet s nvsWSPMAX < i.toNat ∨ (s.mode = DORMANT ∧ 2 < i.toNat)) : Yields (exec (.wspBaud false i) s) fun t => t.reply = [ST_SBP_RATE] ∧ SameRegsBut [] s t ∧ SameMem s t := by
  change Yields (.next (wspBaud false i.toNat s)) _
  rw [wspBaud, wspGo_open hmem (.inr hlc), if_neg (by omega)]
  change Yields (.next (if nvsGet s nvsWSPMAX < i.toNat ∨ (s.mode = DORMANT ∧ 2 < i.toNat) then _ else _)) _
  rw [if_pos h, yields_next]
  exact ⟨rfl, wspReply_same ..⟩

/-- Time passed up to a moment leaves every register but the seconds in service. -/
theorem reachElapsed_frame (s : State) (n : Nat) : (s.reachElapsed n).mem = s.mem ∧ n ≤ (s.reachElapsed n).clocks.elapsed ∧ (s.clocks.elapsed ≤ n → (s.reachElapsed n).clocks.elapsed = n) ∧
    (s.reachElapsed n).side = s.side ∧ (∀ g : Fld, g.key 0 ≠ HLT_AVSEC_SEC.key 0 → (s.reachElapsed n).rd g = s.rd g) := by
  unfold State.reachElapsed
  split
  next h =>
    obtain ⟨helapsed, -, -, -, hmem, -⟩ := s.pass_spec (n - s.clocks.elapsed)
    refine ⟨hmem, by omega, fun _ => by omega, ?_, fun g hg => State.pass_rdi s _ hg⟩
    unfold State.pass State.serve
    dsimp only
    split <;> rfl
  next h => exact ⟨rfl, by omega, fun _ => by omega, rfl, fun _ _ => rfl⟩

theorem execWspBaudFallback_eq {at_ : Nat} (h : s.side.proving = some at_) : execWspBaudFallback s =
    .next (sbpEvent 7 (((s.reachElapsed (at_ + 1000000000)).wr SBP_LINK_RATE 0).modSide fun x => { x with proving := none })) := by
  unfold execWspBaudFallback
  rw [h]

theorem baud_falls_back {at_ : Nat} (h : s.side.proving = some at_) : Yields (exec .wspBaudFallback s) fun t =>
    t.rd SBP_LINK_RATE = 0 ∧ t.side.proving = none ∧ at_ + 1000000000 ≤ t.clocks.elapsed ∧ SameMem s t := by
  obtain ⟨hmem, helapsed, -⟩ := reachElapsed_frame s (at_ + 1000000000)
  change Yields (execWspBaudFallback s) _
  rw [execWspBaudFallback_eq h, yields_next]
  obtain ⟨u, hu⟩ : ∃ u, u = s.reachElapsed (at_ + 1000000000) := ⟨_, rfl⟩
  rw [← hu] at hmem helapsed ⊢
  obtain ⟨v, hv⟩ : ∃ v, v = (u.wr SBP_LINK_RATE 0).modSide fun x => { x with proving := none } := ⟨_, rfl⟩
  have hrate : v.rd SBP_LINK_RATE = 0 := by
    rw [hv]
    exact State.rd_wr_same u SBP_LINK_RATE 0
  obtain ⟨hregs, hmem', hside, hclocks⟩ := sbpEvent_frame 7 v
  have hvframe : v.clocks = u.clocks ∧ v.mem = u.mem ∧ v.side.proving = none := by
    rw [hv]
    exact ⟨rfl, rfl, rfl⟩
  rw [← hv, hside, hclocks, hvframe.1]
  exact ⟨(State.rdi_of_regs hregs _ _).trans hrate, hvframe.2.2, helapsed, .of_mem (hmem'.trans (hvframe.2.1.trans hmem))⟩

/-! Control (R519, R520) -/

/-- An entry joins its queue, and says its kind. -/
theorem eventWritten_sbp {k : Nat} (hk : k < 16) (s : State) : EventWritten SBP_EVENT_VALID k s (sbpEvent k s) := by
  intro hroom
  have hq : tabGet {} (sbpEvent k s).evq SBP_EVENT_VALID.adr = { entries := (tabGet {} s.evq SBP_EVENT_VALID.adr).entries ++
      [((2 ^ 31 + (if (tabGet {} s.evq SBP_EVENT_VALID.adr).lost then 2 ^ evLostBit SBP_EVENT_VALID else 0) + k * 2 ^ 26) % 2 ^ 32, 0)], lost := false } := by
    unfold sbpEvent State.push State.push2
    dsimp only
    rw [tabGet_mod_same, if_pos hroom]
  refine ⟨_, 0, congrArg EvQueue.entries hq, ?_, ?_⟩
  · rw [show evLostBit SBP_EVENT_VALID = 30 from rfl, bit]
    split <;> omega
  · rw [show evLostBit SBP_EVENT_VALID = 30 from rfl, bits]
    split <;> omega

/-- Control changes hands. -/
theorem giveControl_spec {v kind : Nat} (hv : v < 2) (hkind : kind < 16) (s : State) : (giveControl v kind s).rd SBP_CTRL_CONTROL = v ∧ EventWritten SBP_EVENT_VALID kind s (giveControl v kind s) ∧
    SameRegsBut [SBP_CTRL_CONTROL.key 0, BBX_LOST_COUNT.key 0] s (giveControl v kind s) ∧ (giveControl v kind s).mem = s.mem := by
  obtain ⟨u, hu⟩ : ∃ u, u = s.wr SBP_CTRL_CONTROL v := ⟨_, rfl⟩
  have hcontrol : u.rd SBP_CTRL_CONTROL = v := by
    rw [hu, State.rd_wr_same]
    exact Nat.mod_eq_of_lt hv
  have huregs : SameRegsBut [SBP_CTRL_CONTROL.key 0, BBX_LOST_COUNT.key 0] s u := by
    rw [hu]
    exact SameRegsBut.refl.wr
  have huframe : u.mem = s.mem ∧ u.evq = s.evq := by
    rw [hu]
    exact ⟨rfl, rfl⟩
  obtain ⟨umem, uevq⟩ := huframe
  obtain ⟨t, ht⟩ : ∃ t, t = sbpEvent kind u := ⟨_, rfl⟩
  obtain ⟨tregs, tmem, -, -⟩ := sbpEvent_frame kind u
  have hevent := eventWritten_sbp hkind u
  rw [← ht] at tregs tmem hevent
  have htevent : EventWritten SBP_EVENT_VALID kind s t := by
    rw [EventWritten, ← uevq]
    exact hevent
  have hgive : giveControl v kind s = if s.rd SBP_CTRL_CONTROL = v then t else sbpRecord kind t := by
    rw [giveControl, ← hu, ← ht]
  rw [hgive]
  split
  · exact ⟨(State.rdi_of_regs tregs _ _).trans hcontrol, htevent, huregs.congr tregs, tmem.trans umem⟩
  · obtain ⟨-, -, revq, rmem, -⟩ := State.record_frame t 0x000C 12 2 [2 ^ 31 + kind * 2 ^ 26, wSbpCtrl t]
    refine ⟨(State.record_rd _ _ _ _ _ (by decide)).trans ((State.rdi_of_regs tregs _ _).trans hcontrol), ?_, ?_, rmem.trans (tmem.trans umem)⟩
    · rw [EventWritten, sbpRecord, revq]
      exact htevent
    · exact (huregs.congr tregs).trans fun f o hf => State.record_rdi _ _ _ _ _ fun h => hf (by simp [h])

/-- The state that a valid frame leaves before its command. -/
theorem wspSeen_frame (own : Bool) (s : State) : (wspSeen own s).regs = s.regs ∧ (wspSeen own s).mem = s.mem ∧ (wspSeen own s).evq = s.evq ∧ (wspSeen own s).clocks = s.clocks ∧
    (wspSeen own s).welt = s.welt := ⟨rfl, rfl, rfl, rfl, rfl⟩

theorem take_succeeds {b : Bool} (hmem : s.welt.mem = none) (hlc : s.rd SEC_STAT_LC ≠ 4) (h : s.rd SBP_CTRL_LAPSED = 1 ∨ s.rd SBP_GRANT_GRANT = 1 ∨ s.rd SBP_CTRL_CONTROL = 1) :
    Yields (exec (.wspTake b) s) fun t => t.rd SBP_CTRL_CONTROL = 1 ∧ t.reply = (if b then [] else [0]) ∧ EventWritten SBP_EVENT_VALID 3 s t ∧
      SameRegsBut [SBP_CTRL_CONTROL.key 0, BBX_LOST_COUNT.key 0] s t ∧ SameMem s t := by
  obtain ⟨u, hu⟩ : ∃ u, u = wspSeen (!b) s := ⟨_, rfl⟩
  obtain ⟨uregs, umem, uevq, -⟩ := wspSeen_frame (!b) s
  rw [← hu] at uregs umem uevq
  have hrd : ∀ f, u.rd f = s.rd f := fun f => State.rdi_of_regs uregs f 0
  obtain ⟨hcontrol, hevent, hregs, hgmem⟩ := giveControl_spec (v := 1) (kind := 3) (by decide) (by decide) u
  change Yields (.next (wspTake b s)) _
  rw [wspTake, wspGo_open hmem (.inr hlc), ← hu, if_pos (by rw [hrd, hrd, hrd]; exact h), yields_next]
  generalize giveControl 1 3 u = v at *
  refine ⟨hcontrol, rfl, ?_, (SameRegsBut.of_regs uregs _).trans hregs, .of_mem (hgmem.trans umem)⟩
  rw [EventWritten, ← uevq]
  exact hevent

theorem take_refused (hmem : s.welt.mem = none) (hlc : s.rd SEC_STAT_LC ≠ 4) (hlapsed : s.rd SBP_CTRL_LAPSED = 0) (hgrant : s.rd SBP_GRANT_GRANT = 0)
    (hcontrol : s.rd SBP_CTRL_CONTROL = 0) : Yields (exec (.wspTake false) s) fun t => t.rd SBP_CTRL_CONTROL = 0 ∧ t.reply = [ST_SBP_CONTROL] ∧ SameRegsBut [] s t ∧ SameMem s t := by
  have hno : ¬ ((wspSeen true s).rd SBP_CTRL_LAPSED = 1 ∨ (wspSeen true s).rd SBP_GRANT_GRANT = 1 ∨ (wspSeen true s).rd SBP_CTRL_CONTROL = 1) := by
    change ¬ (s.rd SBP_CTRL_LAPSED = 1 ∨ s.rd SBP_GRANT_GRANT = 1 ∨ s.rd SBP_CTRL_CONTROL = 1)
    omega
  change Yields (.next (wspTake false s)) _
  rw [wspTake, wspGo_open hmem (.inr hlc), Bool.not_false, if_neg hno, yields_next]
  exact ⟨hcontrol, rfl, wspReply_same ..⟩

theorem release_returns {b : Bool} (hmem : s.welt.mem = none) (hlc : s.rd SEC_STAT_LC ≠ 4) : Yields (exec (.wspRelease b) s) fun t =>
    t.rd SBP_CTRL_CONTROL = 0 ∧ t.reply = (if b then [] else [0]) ∧ SameMem s t := by
  obtain ⟨u, hu⟩ : ∃ u, u = wspSeen (!b) s := ⟨_, rfl⟩
  obtain ⟨-, umem, -⟩ := wspSeen_frame (!b) s
  rw [← hu] at umem
  obtain ⟨v, hv, hcontrol, hvmem⟩ : ∃ v, v = (if u.rd SBP_CTRL_CONTROL = 0 then u else giveControl 0 4 u) ∧ v.rd SBP_CTRL_CONTROL = 0 ∧ v.mem = u.mem := by
    refine ⟨_, rfl, ?_⟩
    split
    next h => exact ⟨h, rfl⟩
    next h =>
      obtain ⟨hcontrol, -, -, hgmem⟩ := giveControl_spec (v := 0) (kind := 4) (by decide) (by decide) u
      exact ⟨hcontrol, hgmem⟩
  change Yields (.next (wspRelease b s)) _
  rw [wspRelease, wspGo_open hmem (.inr hlc), ← hu, ← hv, yields_next]
  exact ⟨hcontrol, rfl, .of_mem (hvmem.trans umem)⟩

theorem control_returns {h : Nat} (hcontrol : s.rd SBP_CTRL_CONTROL ≠ 0) (hidle : s.rd SBP_IDLE_SEC ≠ 0) (hhb : s.side.hbAt = some h)
    (hreach : s.clocks.elapsed ≤ s.side.frameAt + s.rd SBP_IDLE_SEC * 1000000000) (hlive : s.side.frameAt + s.rd SBP_IDLE_SEC * 1000000000 ≤ h + s.rd GLB_HBTMO_TMO * 1000000) :
    Yields (exec .controlAutoReturn s) fun t => t.rd SBP_CTRL_CONTROL = 0 ∧ SameMem s t := by
  obtain ⟨tmem, -, telapsed, tside, trd⟩ := reachElapsed_frame s (s.side.frameAt + s.rd SBP_IDLE_SEC * 1000000000)
  have htmo := trd GLB_HBTMO_TMO (by decide)
  obtain ⟨t, ht⟩ : ∃ t, t = s.reachElapsed (s.side.frameAt + s.rd SBP_IDLE_SEC * 1000000000) := ⟨_, rfl⟩
  rw [← ht] at tmem telapsed tside htmo
  obtain ⟨gcontrol, -, -, gmem⟩ := giveControl_spec (v := 0) (kind := 5) (by decide) (by decide) t
  have hcmd : execControlAutoReturn s = .next (giveControl 0 5 t) := by
    unfold execControlAutoReturn
    rw [if_neg (by omega)]
    dsimp only
    rw [← ht, tside, hhb, htmo, telapsed hreach]
    exact congrArg Host.Outcome.next (if_pos (decide_eq_true hlive))
  change Yields (execControlAutoReturn s) _
  rw [hcmd, yields_next]
  exact ⟨gcontrol, .of_mem (gmem.trans tmem)⟩

/-! The settings (R512) -/

theorem nvread_answers {off : BitVec 16} {n : BitVec 8} (hmem : s.welt.mem = none) (hlc : s.rd SEC_STAT_LC ≠ 4) (h1 : 1 ≤ n.toNat) (h64 : n.toNat ≤ 64) :
    Yields (exec (.wspNvread false off n) s) fun t => t.reply = 0 :: (List.range n.toNat).map (fun i => nvsGet s (off.toNat + i)) ∧ SameRegsBut [] s t ∧ SameMem s t := by
  change Yields (.next (wspNvread false off.toNat n.toNat s)) _
  rw [wspNvread, wspGo_open hmem (.inr hlc), if_neg (by omega), yields_next]
  exact ⟨rfl, wspReply_same ..⟩

theorem nvsPut_one {o v : Nat} (hok : nvsOk o v = true) (s : State) : nvsPut o [v] s = (false, s.modSide fun x => { x with nvs := tabSet (nvsDef o) x.nvs o v }) := by
  simp [nvsPut, hok]

theorem wspNvwrite_one {off v : Nat} (hmem : s.welt.mem = none) (hlc : s.rd SEC_STAT_LC ≠ 4) : wspNvwrite false off [v] s =
    if s.rd PWR_STAT_NVINH = 1 ∨ s.rd PWR_STAT_STBY = 0 then wspReply false [ST_SBP_NVINH] (wspSeen true s)
    else wspReply false [if (nvsPut off [v] (wspSeen true s)).1 then ST_SBP_BADCMD else 0] (nvsPut off [v] (wspSeen true s)).2 := by
  rw [wspNvwrite, wspGo_open hmem (.inr hlc), if_neg (by simp)]
  rfl

theorem nvwrite_stores {off : BitVec 16} {v : Byte} (hmem : s.welt.mem = none) (hlc : s.rd SEC_STAT_LC ≠ 4) (hinh : s.rd PWR_STAT_NVINH ≠ 1) (hstby : s.rd PWR_STAT_STBY ≠ 0)
    (hok : nvsOk off.toNat v.toNat = true) : Yields (exec (.wspNvwrite false off [v]) s) fun t => t.reply = [0] ∧ nvsGet t off.toNat = v.toNat ∧
      (∀ o, o ≠ off.toNat → nvsGet t o = nvsGet s o) ∧ SameRegsBut [] s t ∧ SameMem s t := by
  change Yields (.next (wspNvwrite false off.toNat [v.toNat] s)) _
  rw [wspNvwrite_one hmem hlc, if_neg (by simp [hinh, hstby]), nvsPut_one hok, yields_next]
  exact ⟨rfl, tabGet_set_same _ _ _ _, fun o ho => tabGet_set_ne _ _ _ _ ho, .of_regs rfl _, .of_mem rfl⟩

theorem nvwrite_inhibited {off : BitVec 16} {v : Byte} (hmem : s.welt.mem = none) (hlc : s.rd SEC_STAT_LC ≠ 4) (hinh : s.rd PWR_STAT_NVINH = 1) :
    Yields (exec (.wspNvwrite false off [v]) s) fun t => t.reply = [ST_SBP_NVINH] ∧ t.side.nvs = s.side.nvs ∧ SameMem s t := by
  change Yields (.next (wspNvwrite false off.toNat [v.toNat] s)) _
  rw [wspNvwrite_one hmem hlc, if_pos (.inl hinh), yields_next]
  exact ⟨rfl, rfl, .of_mem rfl⟩

/-! Memory transfers (R509) -/

/-- A transfer that is not refused sends its requests with the tags from 1 on. -/
theorem wspMem_sends {a n : Nat} {wr : Option Nat} {q : Req} (hmem : s.welt.mem = none) (hlc : s.rd SEC_STAT_LC ≠ 4) (hmode : s.mode ≠ DORMANT) (hn : n ≠ 0 ∧ n ≤ 1024)
    (hrefusal : memRefusal a n s = none) (hq : blockReqs epMgmt (if wr.isSome then WR else RD) a n (wr.getD 0) = [q]) : wspMem false a n wr s =
      settle (pump (present { q with tag := 1 } ((wspSeen true s).modWelt fun w => { w with mem := some { reqs := [{ q with tag := 1 }] } }))) := by
  have hmode' : (wspSeen (!false) s).mode ≠ DORMANT := hmode
  rw [wspMem, wspGo_open hmem (.inr hlc), if_neg (by omega), if_neg hmode']
  change (match memRefusal a n s with | some st => _ | none => _) = _
  rw [hrefusal]
  dsimp only
  rw [hq]
  rfl

theorem memRefusal_vault {a n : Nat} (hn : n ≠ 0) (h : inVault a = true) : memRefusal a n s = some ST_REFUSED_VAULT := by
  unfold memRefusal
  exact if_pos (List.any_eq_true.2 ⟨0, List.mem_range.2 (by omega), h⟩)

theorem memwrite_vault {a : BitVec 48} {l : List Byte} (hmem : s.welt.mem = none) (hlc : s.rd SEC_STAT_LC ≠ 4) (hmode : s.mode ≠ DORMANT) (h1 : 1 ≤ l.length) (h1024 : l.length ≤ 1024)
    (hvault : inVault a.toNat = true) : Yields (exec (.wspMemwrite false a l) s) fun t => t.reply = [ST_REFUSED_VAULT] ∧ t.welt = s.welt ∧ SameRegsBut [] s t ∧ SameMem s t := by
  have hcmd : wspMem false a.toNat l.length (some (ofBytes (l.map BitVec.toNat))) s = wspReply false [ST_REFUSED_VAULT] (wspSeen true s) := by
    have hmode' : (wspSeen (!false) s).mode ≠ DORMANT := hmode
    rw [wspMem, wspGo_open hmem (.inr hlc), if_neg (by omega), if_neg hmode']
    change (match memRefusal a.toNat l.length s with | some st => _ | none => _) = _
    rw [memRefusal_vault (by omega) hvault]
    rfl
  change Yields (.next (wspMem false a.toNat l.length (some (ofBytes (l.map BitVec.toNat))) s)) _
  rw [hcmd, yields_next]
  exact ⟨rfl, rfl, wspReply_same ..⟩

/-- The state in which the management processor sends a transfer's requests. -/
theorem sends_frame (q : Req) (s : State) : ∃ v, v = (wspSeen true s).modWelt (fun w => { w with mem := some { reqs := [q] } }) ∧ v.regs = s.regs ∧ v.mem = s.mem ∧
    v.welt.mem = some { reqs := [q] } ∧ v.welt.resps = s.welt.resps ∧ v.welt.out = s.welt.out ∧ v.welt.stamp = s.welt.stamp ∧ (NetIdle s → NetIdle v) ∧ (PortOpen epMgmt s → PortOpen epMgmt v) ∧
    (∀ tag, TagFree epMgmt tag s → TagFree epMgmt tag v) ∧ (∀ op r, LastReady op r s → LastReady op r v) :=
  ⟨_, rfl, rfl, rfl, rfl, rfl, rfl, rfl, id, id, fun _ => id, fun _ _ => id⟩

theorem memread_answers {a : BitVec 48} {q : Req} (hmem : s.welt.mem = none) (hlc : s.rd SEC_STAT_LC ≠ 4) (hmode : s.mode ≠ DORMANT) (hrefusal : memRefusal a.toNat 64 s = none)
    (halign : a.toNat % 64 = 0) (hq : blockReqs epMgmt RD a.toNat 64 0 = [q]) (hidle : NetIdle s) (hport : PortOpen epMgmt s) (htag : TagFree epMgmt 1 s)
    (hready : LastReady RD { q with tag := 1 } s) : ∃ u, exec (.wspMemread false a 64) s = .next (settle (pump u)) ∧
      (∃ v, Answers { q with tag := 1 } RD epLast RDR v 1 s u ∧ ∀ i, i < 64 → v / 256 ^ i % 256 = s.rdByte (a.toNat + i)) ∧ u.welt.mem = some { reqs := [{ q with tag := 1 }] } ∧
      SameMem s u ∧ SameRegsBut [] s u := by
  obtain ⟨r, hr⟩ : ∃ r : Req, r = { q with tag := 1 } := ⟨_, rfl⟩
  have hline : r = { src := epMgmt, op := RD, addr := a.toNat, tag := 1, len := 0, uidx := 0, bfirst := 0, blast := 63 } := by
    rw [blockReqs_line _ _ _ halign, if_pos rfl] at hq
    rw [hr, ← List.head_eq_of_cons_eq hq]
  obtain ⟨v, hv, vregs, vmem, vwmem, vresps, vout, vstamp, vidle, vport, vtag, vready⟩ := sends_frame r s
  obtain ⟨t, hanswers, hpresent, tmem, tregs, twmem⟩ := present_last_rd (s := v) (q := r) (by rw [hline]) (by rw [hline]; change epIsCore epMgmt = false; decide) (vidle hidle) (by rw [hline]; exact vport hport)
    (by rw [hline]; exact vtag 1 htag) (vready _ _ (hr ▸ hready))
  have hcmd : exec (.wspMemread false a 64) s = .next (settle (pump (present r v))) := by
    rw [hv, hr]
    exact congrArg Host.Outcome.next (wspMem_sends hmem hlc hmode ⟨by decide, by decide⟩ hrefusal hq)
  have hbytes : ∀ i, i < 64 → rdBytes r v / 256 ^ i % 256 = s.rdByte (a.toNat + i) := fun i hi => by
    rw [byte_rdBytes (by rw [hline]; exact Nat.zero_le _) (by rw [hline]; change i ≤ 64 * 0 + 63; omega), hline, State.rdByte, vmem, State.rdByte]
  have huidx : r.uidx + 1 = 1 := by rw [hline]
  rw [← hr]
  refine ⟨t, hpresent ▸ hcmd, ⟨rdBytes r v, ?_, hbytes⟩, twmem.trans vwmem, .of_mem (tmem.trans vmem), .of_regs (tregs.trans vregs) _⟩
  rw [Answers, ← vresps, ← vout, ← vstamp, ← huidx]
  exact hanswers

theorem byte_ofBytes (l : List Byte) (i : Nat) : ofBytes (l.map BitVec.toNat) / 256 ^ i % 256 = (l.getD i 0).toNat := by
  induction l generalizing i with
  | nil => simp [ofBytes]
  | cons x l ih =>
    have hx := x.isLt
    have hcons : ofBytes ((x :: l).map BitVec.toNat) = x.toNat + 256 * ofBytes (l.map BitVec.toNat) := rfl
    rw [hcons]
    cases i with
    | zero =>
      rw [pow_zero, Nat.div_one, List.getD_cons_zero]
      omega
    | succ i =>
      rw [pow_succ', ← Nat.div_div_eq_div_mul, show (x.toNat + 256 * ofBytes (l.map BitVec.toNat)) / 256 = ofBytes (l.map BitVec.toNat) by omega, ih, List.getD_cons_succ]

theorem memwrite_stores {a : BitVec 48} {l : List Byte} {q : Req} (hmem : s.welt.mem = none) (hlc : s.rd SEC_STAT_LC ≠ 4) (hmode : s.mode ≠ DORMANT) (hrefusal : memRefusal a.toNat 64 s = none)
    (halign : a.toNat % 64 = 0) (hl : l.length = 64) (hq : blockReqs epMgmt WR a.toNat 64 (ofBytes (l.map BitVec.toNat)) = [q]) (hidle : NetIdle s) (hport : PortOpen epMgmt s)
    (htag : TagFree epMgmt 1 s) (hready : LastReady WR { q with tag := 1 } s) : ∃ u, exec (.wspMemwrite false a l) s = .next (settle (pump u)) ∧
      (∀ i, i < 64 → u.rdByte (a.toNat + i) = (l.getD i 0).toNat) ∧ SameMemOutside a.toNat 64 s u ∧ SameRegsBut [] s u := by
  obtain ⟨r, hr⟩ : ∃ r : Req, r = { q with tag := 1 } := ⟨_, rfl⟩
  have hline : r = { src := epMgmt, op := WR, addr := a.toNat, tag := 1, len := 1, units := [⟨0, 63, ofBytes (l.map BitVec.toNat) % 256 ^ 64⟩] } := by
    have hq' := hq
    rw [blockReqs_line _ _ _ halign, if_neg (by decide)] at hq'
    rw [hr, ← List.head_eq_of_cons_eq hq']
  obtain ⟨v, hv, vregs, vmem, -, -, -, -, vidle, vport, vtag, vready⟩ := sends_frame r s
  obtain ⟨tregs, tbytes, tout⟩ := present_last_wr (s := v) (q := r) (data := ofBytes (l.map BitVec.toNat) % 256 ^ 64) (by rw [hline]) (by rw [hline]) (vidle hidle) (by rw [hline]; exact vport hport)
    (by rw [hline]; exact vtag 1 htag) (vready _ _ (hr ▸ hready))
  have haddr : r.addr = a.toNat := by rw [hline]
  rw [haddr] at tbytes tout
  have hcmd : exec (.wspMemwrite false a l) s = .next (settle (pump (present r v))) := by
    rw [hv, hr]
    exact congrArg Host.Outcome.next (wspMem_sends hmem hlc hmode (by rw [hl]; decide) (by rw [hl]; exact hrefusal) (by rw [hl]; exact hq))
  refine ⟨present r v, hcmd, fun i hi => (tbytes i hi).trans ((byte_of_mod _ hi).trans (byte_ofBytes l i)), fun b hb => (tout b hb).trans ?_, .of_regs (tregs.trans vregs) _⟩
  rw [State.rdByte, vmem, State.rdByte]

/-! Frames (R507) -/

theorem frame_damaged {l : List Byte} (h : l.length < 8 ∨ 247 < (l.getD 0 0).toNat ∨ l.length ≠ 8 + (l.getD 1 0).toNat + 256 * (l.getD 2 0).toNat) :
    Yields (exec (.wspFrameReceive l) s) fun t => t.rd SBP_RXERR_COUNT = min (s.rd SBP_RXERR_COUNT + 1) (2 ^ 32 - 1) ∧ SameRegsBut [SBP_RXERR_COUNT.key 0] s t ∧ SameMem s t := by
  have hget : ∀ i, (l.map BitVec.toNat).getD i 0 = (l.getD i 0).toNat := fun i => by
    rw [show (0 : Nat) = BitVec.toNat (0 : Byte) from rfl, List.getD_map]
  have hcmd : execWspFrameReceive l s = .next (s.inci SBP_RXERR_COUNT 0) := by
    unfold execWspFrameReceive
    dsimp only
    refine if_pos ?_
    rw [List.length_map, hget, hget, hget]
    omega
  change Yields (execWspFrameReceive l s) _
  rw [hcmd, yields_next]
  refine ⟨?_, SameRegsBut.refl.addi, .of_mem rfl⟩
  exact (State.rdi_wri_same ..).trans (Nat.mod_eq_of_lt (by change min _ (2 ^ 32 - 1) < 2 ^ 32; omega))

theorem frame_ident {adr c0 c1 c2 c3 : Byte} (hmem : s.welt.mem = none) (hown : adr.toNat = nvsGet s nvsWSPADDR) (h1 : 1 ≤ adr.toNat) (h247 : adr.toNat ≤ 247)
    (hcrc : ofBytes ([c0, c1, c2, c3].map BitVec.toNat) = crcBytes [adr.toNat, 0, 0, 1]) : Yields (exec (.wspFrameReceive [adr, 0, 0, 1, c0, c1, c2, c3]) s) fun t =>
      t.reply = identWords s ∧ SameRegsBut [] s t ∧ SameMem s t := by
  have hcmd : execWspFrameReceive [adr, 0, 0, 1, c0, c1, c2, c3] s = .next (wspIdent false s) := by
    have hadr : (adr.toNat == 0) = false := by simp; omega
    unfold execWspFrameReceive
    simp only [List.map_cons, List.map_nil, List.length_cons, List.length_nil]
    rw [if_neg, if_pos (.inr hown)]
    · change Host.Outcome.next (wspCommand (adr.toNat == 0) 1 [] s) = _
      rw [hadr]
      rfl
    · change ¬ (8 < 8 ∨ 1040 < 0 ∨ 0 ≠ 0 ∨ 247 < adr.toNat ∨ ofBytes ([c0, c1, c2, c3].map BitVec.toNat) ≠ crcBytes [adr.toNat, 0, 0, 1])
      rw [hcrc]
      simp
      omega
  change Yields (execWspFrameReceive [adr, 0, 0, 1, c0, c1, c2, c3] s) _
  rw [hcmd, wspIdent_eq hmem, yields_next]
  exact ⟨rfl, wspReply_same ..⟩

/-! The heartbeat (R517, R518) -/

theorem heartbeat_good {v : BitVec 32} (hmode : s.mode ≠ DORMANT) (hkey : v.toNat % 2 ^ 16 = 0x4842) : Yields (exec (.heartbeatWrite v) s) fun t => t.side.hbAt = some s.clocks.elapsed ∧
    t.rd SBP_CTRL_ARMED = (if s.rd GLB_HBTMO_TMO = 0 then s.rd SBP_CTRL_ARMED else 1) ∧ (s.rd SBP_CTRL_LAPSED = 1 → t.rd SBP_CTRL_LAPSED = 0) ∧
    t.rd SBP_CTRL_CONTROL = s.rd SBP_CTRL_CONTROL ∧ SameMem s t := by
  obtain ⟨u, hu⟩ : ∃ u, u = s.modSide fun x => { x with hbAt := some s.clocks.elapsed } := ⟨_, rfl⟩
  have huframe : u.regs = s.regs ∧ u.mem = s.mem ∧ u.side.hbAt = some s.clocks.elapsed := by rw [hu]; exact ⟨rfl, rfl, rfl⟩
  obtain ⟨uregs, umem, uhb⟩ := huframe
  have hrd : ∀ f, u.rd f = s.rd f := fun f => State.rdi_of_regs uregs f 0
  obtain ⟨w, hw, warmed, wrest, wmem, wside⟩ : ∃ w, w = (if u.rd GLB_HBTMO_TMO = 0 then u else u.wr SBP_CTRL_ARMED 1) ∧
      w.rd SBP_CTRL_ARMED = (if u.rd GLB_HBTMO_TMO = 0 then u.rd SBP_CTRL_ARMED else 1) ∧ (∀ f : Fld, f.key 0 ≠ SBP_CTRL_ARMED.key 0 → w.rd f = u.rd f) ∧ w.mem = u.mem ∧ w.side = u.side := by
    refine ⟨_, rfl, ?_⟩
    split
    · exact ⟨rfl, fun _ _ => rfl, rfl, rfl⟩
    · exact ⟨State.rd_wr_same .., fun f hf => State.rd_wr_ne _ _ hf, rfl, rfl⟩
  have hcmd : hbWrite v.toNat s = if w.rd SBP_CTRL_LAPSED = 1 then sbpEvent 2 (w.wr SBP_CTRL_LAPSED 0) else w := by
    unfold hbWrite
    rw [if_neg hmode, if_neg (by omega), hw, hu]
  have harmed : w.rd SBP_CTRL_ARMED = if s.rd GLB_HBTMO_TMO = 0 then s.rd SBP_CTRL_ARMED else 1 := by rw [warmed, hrd, hrd]
  have hcontrol : w.rd SBP_CTRL_CONTROL = s.rd SBP_CTRL_CONTROL := (wrest _ (by decide)).trans (hrd _)
  have hlapsed : w.rd SBP_CTRL_LAPSED = s.rd SBP_CTRL_LAPSED := (wrest _ (by decide)).trans (hrd _)
  have hhb : w.side.hbAt = some s.clocks.elapsed := by rw [wside, uhb]
  change Yields (.next (hbWrite v.toNat s)) _
  rw [hcmd, yields_next]
  split
  · obtain ⟨x, hx⟩ : ∃ x, x = w.wr SBP_CTRL_LAPSED 0 := ⟨_, rfl⟩
    have hxframe : x.rd SBP_CTRL_ARMED = w.rd SBP_CTRL_ARMED ∧ x.rd SBP_CTRL_LAPSED = 0 ∧ x.rd SBP_CTRL_CONTROL = w.rd SBP_CTRL_CONTROL ∧ x.mem = w.mem ∧ x.side = w.side := by
      rw [hx]
      exact ⟨State.rd_wr_ne _ _ (by decide), State.rd_wr_same .., State.rd_wr_ne _ _ (by decide), rfl, rfl⟩
    obtain ⟨xarmed, xlapsed, xcontrol, xmem, xside⟩ := hxframe
    obtain ⟨eregs, emem, eside, -⟩ := sbpEvent_frame 2 x
    have erd : ∀ f, (sbpEvent 2 x).rd f = x.rd f := fun f => State.rdi_of_regs eregs f 0
    rw [← hx, erd, erd, erd, eside, xside]
    exact ⟨hhb, xarmed.trans harmed, fun _ => xlapsed, xcontrol.trans hcontrol, .of_mem (emem.trans (xmem.trans (wmem.trans umem)))⟩
  next h => exact ⟨hhb, harmed, fun h1 => absurd (hlapsed.trans h1) h, hcontrol, .of_mem (wmem.trans umem)⟩

theorem heartbeat_bad {v : BitVec 32} (hmode : s.mode ≠ DORMANT) (hkey : v.toNat % 2 ^ 16 ≠ 0x4842) : Yields (exec (.heartbeatWrite v) s) fun t =>
    t.rd GLB_HBBAD_COUNT = min (s.rd GLB_HBBAD_COUNT + 1) (2 ^ 32 - 1) ∧ t.side = s.side ∧ SameRegsBut [GLB_HBBAD_COUNT.key 0] s t ∧ SameMem s t := by
  change Yields (.next (hbWrite v.toNat s)) _
  rw [hbWrite, if_neg hmode, if_pos hkey, yields_next]
  refine ⟨?_, rfl, SameRegsBut.refl.addi, .of_mem rfl⟩
  exact (State.rdi_wri_same ..).trans (Nat.mod_eq_of_lt (by change min _ (2 ^ 32 - 1) < 2 ^ 32; omega))

/-- What a lapse does to the module's mode leaves the lapse shown. -/
theorem Stays.lapseAct (h : Stays s t) : Stays s (Machine.lapseAct t) := by
  unfold Machine.lapseAct
  extract_lets st ask
  have hask : Stays s ask := h.lit
  have hhold : Stays s (Machine.reqHold t) := by
    unfold Machine.reqHold
    extract_lets u
    have hu : Stays s u := by
      have hb : Stays s (t.wr GLB_MODE_BUSY 1) := h.wr
      exact hb.lit
    refine .ite h (.ite hu.lit (.ite ?_ h.endReq))
    have hb : Stays s (t.wr GLB_MODE_BUSY 1) := h.wr
    have hreq : Stays s (beginReq 2 t) := hb.lit
    exact hreq.lit
  refine .ite (.ite hhold hask) (.ite h (.ite ?_ (.ite ?_ hask)))
  · exact Stays.shfAbandon (.ite hask.shfDone hask)
  · have hrelease : Stays s (Machine.shfReleaseNow false ask) := by
      unfold Machine.shfReleaseNow
      extract_lets u v
      have hu : Stays s u := hask.dropShadow.useDies
      have hv : Stays s v := hu.foldl fun _ _ hx => hx.modRegion
      exact hv.shfEnd
    exact hrelease.wr

/-! No act on a lapse changes the clocks. -/

/-- `t` keeps the time of `s`. -/
structure SameClocks (s t : State) : Prop where
  clocks : t.clocks = s.clocks

theorem SameClocks.refl (s : State) : SameClocks s s := ⟨rfl⟩

theorem SameClocks.wri (h : SameClocks s t) {f : Fld} {o v : Nat} : SameClocks s (t.wri f o v) := ⟨h.clocks⟩

theorem SameClocks.wr (h : SameClocks s t) {f : Fld} {v : Nat} : SameClocks s (t.wr f v) := ⟨h.clocks⟩

theorem SameClocks.wr64 (h : SameClocks s t) {lo hi : Fld} {v : Nat} : SameClocks s (t.wr64 lo hi v) := ⟨h.clocks⟩

theorem SameClocks.modRegion (h : SameClocks s t) {i : Nat} {f : Region → Region} : SameClocks s (t.modRegion i f) := ⟨h.clocks⟩

theorem SameClocks.ite {c : Prop} [Decidable c] {u : State} (ht : SameClocks s t) (hu : SameClocks s u) : SameClocks s (if c then t else u) := by
  split
  · exact ht
  · exact hu

theorem SameClocks.foldl {α : Type} (h : SameClocks s t) {f : State → α → State} (hf : ∀ u a, SameClocks s u → SameClocks s (f u a)) {l : List α} : SameClocks s (l.foldl f t) :=
  List.foldlRecOn (motive := SameClocks s) l f h fun u hu a _ => hf u a hu

theorem SameClocks.record (h : SameClocks s t) {code source sev : Nat} {payload : List Nat} : SameClocks s (t.record code source sev payload) := by
  obtain ⟨b, v, e | e⟩ := State.record_eq t code source sev payload
  · rw [e]
    exact ⟨h.clocks⟩
  · rw [e]
    exact ⟨h.clocks⟩

theorem SameClocks.toMode (h : SameClocks s t) {m cause : Nat} : SameClocks s (t.toMode m cause) := by
  unfold State.toMode State.setMode
  exact h.wr.wr.record

theorem SameClocks.modShf (h : SameClocks s t) {f : Shf → Shf} : SameClocks s (t.modShf f) := ⟨h.clocks⟩

theorem SameClocks.resetDieSpace (h : SameClocks s t) {d : Nat} : SameClocks s (Machine.resetDieSpace d t) := ⟨h.clocks⟩

theorem SameClocks.modDie (h : SameClocks s t) {d : Nat} {f : Die → Die} : SameClocks s (t.modDie d f) := ⟨h.clocks⟩

theorem SameClocks.loseSessions (h : SameClocks s t) {p : Nat → Bool} : SameClocks s (Machine.loseSessions p t) := ⟨(loseSessions_clocks p t).trans h.clocks⟩

theorem SameClocks.railsOff (h : SameClocks s t) {d : Nat} : SameClocks s (Machine.railsOff d t) := by
  unfold Machine.railsOff
  extract_lets u v
  have hu : SameClocks s u := h.loseSessions.resetDieSpace.modDie
  have hv : SameClocks s v := hu.foldl fun _ _ hx => hx.wri.wri
  exact hv.wri.wri.wri.wri

theorem SameClocks.useDies (h : SameClocks s t) : SameClocks s (Machine.useDies t) := by
  unfold Machine.useDies
  refine h.foldl fun u d hu => ?_
  extract_lets st
  exact .ite hu.wri (.ite hu.railsOff.wri hu)

theorem SameClocks.lapseStop (h : SameClocks s t) : SameClocks s (Machine.lapseStop t) := by
  unfold Machine.lapseStop
  extract_lets x u
  have hu : SameClocks s u := ⟨h.clocks⟩
  exact .ite h (.ite ⟨hu.clocks⟩ hu)

theorem SameClocks.shfEnd (h : SameClocks s t) {outcome st die : Nat} : SameClocks s (Machine.shfEnd outcome st die t) := by
  unfold Machine.shfEnd
  extract_lets u1 u2 u3 u4 u5 u6
  have h1 : SameClocks s u1 := h.wr.wr.wr.wr
  have h2 : SameClocks s u2 := h1.wr
  have h3 : SameClocks s u3 := h2.foldl fun _ _ hx => .ite hx hx.railsOff.wri
  have h4 : SameClocks s u4 := h3.foldl fun _ _ hx => hx.wri
  have h5 : SameClocks s u5 := h4.modShf
  have h6 : SameClocks s u6 := h5.record
  exact (SameClocks.ite h6.toMode h6).lapseStop

theorem SameClocks.reqHold (h : SameClocks s t) : SameClocks s (Machine.reqHold t) := by
  unfold Machine.reqHold
  extract_lets u
  have hb : SameClocks s (t.wr GLB_MODE_BUSY 1) := h.wr
  have hu : SameClocks s u := ⟨hb.clocks⟩
  have hend : ∀ st, SameClocks s (t.endReq st) := fun st => by
    have he : SameClocks s ((t.wr GLB_MODE_STATUS st).wr GLB_MODE_BUSY 0) := h.wr.wr
    exact ⟨he.clocks⟩
  exact .ite h (.ite ⟨hu.clocks⟩ (.ite ⟨hb.clocks⟩ (hend _)))

theorem SameClocks.dropShadow (h : SameClocks s t) : SameClocks s (Machine.dropShadow t) := by
  have hc : SameClocks s (t.modCfg fun c => { c with simg := {} }) := ⟨h.clocks⟩
  unfold Machine.dropShadow showImages
  exact hc.wr64.wr64

theorem SameClocks.shfAbandon (h : SameClocks s t) {st die : Nat} : SameClocks s (Machine.shfAbandon st die t) := by
  have he : SameClocks s (epochGiveUp t) := .ite h.wr h
  exact he.dropShadow.shfEnd

theorem SameClocks.shfReleaseNow (h : SameClocks s t) : SameClocks s (Machine.shfReleaseNow false t) := by
  unfold Machine.shfReleaseNow
  extract_lets u v
  have hu : SameClocks s u := h.dropShadow.useDies
  have hv : SameClocks s v := hu.foldl fun _ _ hx => hx.modRegion
  exact hv.shfEnd

theorem lapseAct_clocks (s : State) : SameClocks s (lapseAct s) := by
  unfold lapseAct
  extract_lets st ask
  have hask : SameClocks s ask := ⟨rfl⟩
  have hdone : SameClocks s (shfDone ST_SHF_LAPSE ask) := hask.wr.wr
  refine .ite (.ite (SameClocks.refl s).reqHold hask) (.ite (.refl s) (.ite ?_ (.ite hask.shfReleaseNow.wr hask)))
  exact SameClocks.shfAbandon (.ite hdone hask)

theorem heartbeat_lapses {at_ : Nat} (hhb : s.side.hbAt = some at_) (hmode : s.mode ≠ DORMANT) (harmed : s.rd SBP_CTRL_ARMED ≠ 0) (hlapsed : s.rd SBP_CTRL_LAPSED ≠ 1) :
    Yields (exec .heartbeatLapse s) fun t => t.rd SBP_CTRL_LAPSED = 1 ∧ at_ + s.rd GLB_HBTMO_TMO * 1000000 ≤ t.clocks.elapsed ∧ (s.rd GLB_HBTMO_ACT ≠ 1 → t.mode = s.mode ∧ SameMem s t) := by
  obtain ⟨umem, uelapsed, -, -, urd⟩ := reachElapsed_frame s (at_ + s.rd GLB_HBTMO_TMO * 1000000)
  obtain ⟨u, hu⟩ : ∃ u, u = s.reachElapsed (at_ + s.rd GLB_HBTMO_TMO * 1000000) := ⟨_, rfl⟩
  rw [← hu] at umem uelapsed urd
  obtain ⟨v, hv⟩ : ∃ v, v = sbpEvent 1 (u.wr SBP_CTRL_LAPSED 1) := ⟨_, rfl⟩
  have hvframe : v.mem = u.mem ∧ v.clocks = u.clocks ∧ v.regs = (u.wr SBP_CTRL_LAPSED 1).regs := by
    rw [hv]
    exact ⟨rfl, rfl, rfl⟩
  obtain ⟨vmem, vclocks, vregs⟩ := hvframe
  have hvrd : ∀ f : Fld, f.key 0 ≠ SBP_CTRL_LAPSED.key 0 → f.key 0 ≠ HLT_AVSEC_SEC.key 0 → v.rd f = s.rd f := fun f hf hs =>
    (State.rdi_of_regs vregs f 0).trans ((State.rd_wr_ne _ _ hf).trans (urd f hs))
  have hvlapsed : v.rd SBP_CTRL_LAPSED = 1 := (State.rdi_of_regs vregs _ 0).trans (State.rd_wr_same ..)
  obtain ⟨w, hw⟩ : ∃ w, w = sbpRecord 1 v := ⟨_, rfl⟩
  obtain ⟨-, -, -, rmem, -⟩ := State.record_frame v 0x000C 12 2 [2 ^ 31 + 1 * 2 ^ 26, wSbpCtrl v]
  have wmem : w.mem = v.mem := by rw [hw]; exact rmem
  have wclocks : w.clocks = v.clocks := by
    rw [hw]
    exact (SameClocks.refl v).record.clocks
  have wrd : ∀ f : Fld, f.key 0 ≠ BBX_LOST_COUNT.key 0 → w.rd f = v.rd f := fun f hf => by
    rw [hw]
    exact State.record_rd _ _ _ _ _ hf
  have wlapsed : w.rd SBP_CTRL_LAPSED = 1 := (wrd _ (by decide)).trans hvlapsed
  have wact : w.rd GLB_HBTMO_ACT = s.rd GLB_HBTMO_ACT := (wrd _ (by decide)).trans (hvrd _ (by decide) (by decide))
  have wmode : w.mode = s.mode := (wrd _ (by decide)).trans (hvrd _ (by decide) (by decide))
  have hcmd : execHeartbeatLapse s = .next (if w.rd GLB_HBTMO_ACT = 1 then lapseAct w else w) := by
    unfold execHeartbeatLapse
    rw [hhb]
    dsimp only
    rw [if_neg (by simp [hmode, harmed, hlapsed]), ← hu, ← hv, ← hw]
  have hstays : Stays w (lapseAct w) := (Stays.refl w).lapseAct
  have hact : (lapseAct w).rd SBP_CTRL_LAPSED = 1 := (hstays.rdi (f := SBP_CTRL_LAPSED) (o := 0) (.inl rfl)).trans wlapsed
  change Yields (execHeartbeatLapse s) _
  rw [hcmd, yields_next]
  split
  next h =>
    refine ⟨hact, ?_, fun hno => absurd (wact.symm.trans h) hno⟩
    have hclocks : (lapseAct w).clocks = w.clocks := (lapseAct_clocks w).clocks
    rw [hclocks, wclocks, vclocks]
    exact uelapsed
  next h => exact ⟨wlapsed, by rw [wclocks, vclocks]; exact uelapsed, fun _ => ⟨wmode, .of_mem (wmem.trans (vmem.trans umem))⟩⟩

end

/-- Settles O55. -/
theorem sidebandPort : Obligations.SidebandPort := by
  unfold Obligations.SidebandPort
  exact ⟨fun _ b hmem => ident_answers hmem b,
    fun _ _ _ hmem hstop hreg hrp hrc htbl hrdat => read_answers hmem hstop hreg hrp hrc htbl hrdat,
    fun _ _ _ hmem hn => read_bad hmem hn,
    fun _ _ _ hmem _ => write_carried hmem,
    fun _ _ _ hmem hlc hmode => write_scrap hmem hlc hmode,
    fun _ _ _ hmem hmode ha h1 h256 => read_dormant hmem hmode ha h1 h256,
    fun _ _ _ _ hmem hmode ha hl => write_stopped hmem hl (accessStop_dormant hmode ha) (by decide),
    fun _ _ _ hmem hlc h6 hmax hmode => baud_takes hmem hlc h6 hmax hmode,
    fun _ _ hmem hlc h6 h => baud_refused hmem hlc h6 h,
    fun _ _ h => baud_falls_back h,
    fun _ _ hmem hlc h => take_succeeds hmem hlc h,
    fun _ hmem hlc hlapsed hgrant hcontrol => take_refused hmem hlc hlapsed hgrant hcontrol,
    fun _ _ hmem hlc => release_returns hmem hlc,
    fun _ _ hcontrol hidle hhb hreach hlive => control_returns hcontrol hidle hhb hreach hlive,
    fun _ _ _ hmem hlc h1 h64 => nvread_answers hmem hlc h1 h64,
    fun _ _ _ hmem hlc hinh hstby hok => nvwrite_stores hmem hlc hinh hstby hok,
    fun _ _ _ hmem hlc hinh => nvwrite_inhibited hmem hlc hinh,
    fun _ _ _ hmem hlc hmode hrefusal halign hq hidle hport htag hready => memread_answers hmem hlc hmode hrefusal halign hq hidle hport htag hready,
    fun _ _ _ _ hmem hlc hmode hrefusal halign hl hq hidle hport htag hready => memwrite_stores hmem hlc hmode hrefusal halign hl hq hidle hport htag hready,
    fun _ _ _ hmem hlc hmode h1 h1024 hvault => memwrite_vault hmem hlc hmode h1 h1024 hvault,
    fun _ _ h => frame_damaged h,
    fun _ _ _ _ _ _ hmem hown h1 h247 hcrc => frame_ident hmem hown h1 h247 hcrc,
    fun _ _ hmode hkey => heartbeat_good hmode hkey,
    fun _ _ hmode hkey => heartbeat_bad hmode hkey,
    fun _ _ hhb hmode harmed hlapsed => heartbeat_lapses hhb hmode harmed hlapsed⟩

end Sys2Proof.Machine
